-- ==== Sys2Proof/Word.lean ====
section
/-!
DEFINITION. The word types of the AQ9640: bytes, 32-bit register words and 64-bit tags. A count, an index, a tick
number or a length is a `Nat`; a bit vector is used only where the spec treats the value as bits (R4, R7, R13).
-/

namespace Sys2Proof

/-- One byte of a structure held in memory (R5, R6). -/
abbrev Byte := BitVec 8

/-- One 32-bit register word (R73). -/
abbrev Word := BitVec 32

/-- One 64-bit tag, slot or message (R13, R40, R423). -/
abbrev DWord := BitVec 64

/-- The word that holds `n` modulo 2³². -/
abbrev word (n : Nat) : Word := BitVec.ofNat 32 n

end Sys2Proof
end

