-- ==== Sys2Proof/Forms.lean ====
section
/-!
DEFINITION. The structured operands of the commands: what a link's return frame, a driver's report or another port
delivers in one piece.
-/

namespace Sys2Proof

/-- One slot of a step-link return frame (R296). -/
structure StepSlot where
  emfA : Int
  emfB : Int
  /-- OVERCURRENT, OVERTEMP, UNDERVOLT, OPEN_A, OPEN_B. -/
  flags : Nat
  emfValid : Bool
  addrSeen : Nat
  deriving DecidableEq, Repr

/-- A step-link return frame: whether its CRC is good, and its slots. -/
structure StepFrame where
  crcOk : Bool
  slots : List StepSlot
  deriving DecidableEq, Repr

/-- One slot of an axis-link inbound frame (R333). -/
structure AxisSlot where
  angle : Nat
  flags : Nat
  i0 : Int
  i1 : Int
  vu : Int
  vv : Int
  vw : Int
  peak : Nat
  deriving DecidableEq, Repr

/-- An axis-link inbound frame (R333): whether its CRC is good, its TICK, VBUS, HUB_STATUS and slots. -/
structure AxisFrame where
  crcOk : Bool
  tick : Nat
  vbus : Nat
  status : Nat
  slots : List AxisSlot
  deriving DecidableEq, Repr

/-- A facet report of the back channel (R288): whether its CRC is good, its flags, the SEQ of its facet, the presence
bits and the monitor readings by physical emitter, and the head temperature in 1/16 °C. -/
structure FacetReport where
  crcOk : Bool
  sweepValid : Bool
  frameBad : Bool
  ldenSeen : Bool
  seq : Nat
  presence : Nat
  readings : List Nat
  temp : Int
  deriving DecidableEq, Repr

/-- A TABLE_ACK report (R288): whether its CRC is good, TABLE_ID, SEQ and the CRC-32 of the table as held. -/
structure AckReport where
  crcOk : Bool
  id : Nat
  seq : Nat
  crc : Nat
  deriving DecidableEq, Repr

/-- A STATUS report (R288): whether its CRC is good, its flags and the driver fault code. -/
structure StatusReport where
  crcOk : Bool
  ready : Bool
  blockLock : Bool
  deskewed : Bool
  ldenSeen : Bool
  code : Nat
  deriving DecidableEq, Repr

/-- A symbol of an 8b/10b link: a data character, or K27.7 or K29.7, which begin and end a frame (R296). -/
inductive Sym where
  | data (b : Byte)
  | k27
  | k29
  deriving DecidableEq, Repr

/-- A block of the beam link: whether it is a control block, and its 64 payload bits (R285). -/
structure BeamBlock where
  control : Bool
  payload : Nat
  deriving DecidableEq, Repr

/-- A node's return slot of an HV link (R363): the readings of its four channels, FAULT and ON_SEEN by channel, READY and
OVERTEMP. -/
structure HvSlot where
  readings : List Nat
  fault : Nat
  onSeen : Nat
  ready : Bool
  overtemp : Bool
  deriving DecidableEq, Repr

/-- A return frame of an HV link: whether its CRC is good, and its slots. -/
structure HvFrame where
  crcOk : Bool
  slots : List HvSlot
  deriving DecidableEq, Repr

/-- A cell that a producer writes (R381, R387): its flags, LAST_BYTES, its 32 bytes, and whether its data reads as
uncorrectable. -/
structure CellIn where
  sop : Bool
  eop : Bool
  abort : Bool
  last : Nat
  data : List Byte
  poison : Bool
  /-- A single-bit error of its data or its link entry, which is corrected when it is read. -/
  fixed : Bool
  deriving DecidableEq, Repr

/-- A serial link with the states DOWN, TRAINING, UP and FAULT: a beam link by station (R290), an axis link (R334), a step
link (R297), an HV link (R364). -/
inductive LinkId where
  | beam (station : Fin 8)
  | axis (link : Fin 4)
  | step (link : Fin 2)
  | hv (link : Fin 2)
  deriving DecidableEq, Repr

/-- A read of a rail sequencer that has completed (R466, R470): the sequencer, whether it read VIN rather than STATUS, the
power-good levels and CHANGED bits by local rail (VIN_GOOD in bit 0 of the levels), and its stamp. -/
structure SeqRead where
  seq : Fin 8
  vin : Bool
  level : Nat
  changed : Nat
  stamp : Nat
  deriving DecidableEq, Repr

/-- Who writes a register (R78, R79): host software over the link, or management firmware. -/
inductive Writer where
  | host
  | mgmt
  deriving DecidableEq, Repr

/-- What host software has set in the PCIe configuration space (R71, R72, R103): the codes of Max Payload Size and of Max Read
Request Size in Device Control (128 bytes × 2^code), and the Function Mask bit of MSI-X. -/
structure PciSetup where
  payload : Fin 3
  request : Fin 6
  fnMask : Bool
  deriving DecidableEq, Repr

/-- The rate at which the PCIe link has come up (R71, R105): the speed code and the width in lanes. -/
structure LinkRate where
  speed : Nat
  width : Nat
  deriving DecidableEq, Repr

/-- What training reads in the mode registers of a DRAM component (R204): ×16, 32 Gb, and RFM required. -/
structure MemPart where
  wide : Bool
  dense : Bool
  rfm : Bool
  deriving DecidableEq, Repr

/-- What training finds on a channel (R204, R213): the stage that failed, or 0 (codes 0 to 6), and its components. -/
structure ChannelTraining where
  stage : Fin 7
  parts : List MemPart
  deriving DecidableEq, Repr

/-- A request that reaches the DRAM controller (R218): its port, the address A, the time of arrival in ns, and whether it
writes. A write of the MGMT port carries its bytes; those of the other ports move with the command of their block. For port 3,
the channel, and the OPEN flag of its descriptor in list mode. -/
structure MemReq where
  port : Fin 6
  addr : Nat
  time : Nat
  write : Bool
  data : List Byte
  chan : Fin 64
  isOpen : Bool
  deriving DecidableEq, Repr

/-- What the boot flash holds (R502, R521): the two slots of management firmware, of the personality and of the matrix, and
the engine pack. -/
structure Flash where
  fwA : List Byte
  fwB : List Byte
  persA : List Byte
  persB : List Byte
  matA : List Byte
  matB : List Byte
  pack : List Byte
  deriving DecidableEq, Repr

/-- What the outside brings to a tick (R24): the 256 bits of the SPI chain where its transfer has ended, whether LSI_N is
high, and the storage errors found in slots of the page that the next tick runs, as it is read: slot number, and whether
uncorrectable (R68). -/
structure TickIn where
  chain : Option Nat
  lsiHigh : Bool
  slotErrors : List (Nat × Bool)
  deriving DecidableEq, Repr

end Sys2Proof
end

