-- ==== Sys2Proof/Syntax.lean ====
section
/-!
DEFINITION. The commands of the block, one constructor per row of the operation table, in its order: what the outside does
to the part, and what its own engines do at moments of their own. Each docstring names the row, the rule that governs it
and the operands.
-/

namespace Sys2Proof

/-- A command: a row of the operation table with its operands. -/
inductive Instr where
  /-- TICK (R24): what the outside brings to the tick. -/
  | tick (i : TickIn)
  /-- GOVERNOR_STEP_UP (R159). -/
  | governorStepUp
  /-- ALMANAC_PIECE (R54). -/
  | almanacPiece
  /-- CHECK (R55). -/
  | check
  /-- CHECK_DONE (R56): the first page whose storage read back wrong, if any. -/
  | checkDone (storage : Option (Fin 129))
  /-- SWITCH (R63). -/
  | switch
  /-- FIRST_ACTIVATION (R60). -/
  | firstActivation
  /-- BANK_SWITCH (R63). -/
  | bankSwitch
  /-- GRADE_REQUEST (R62): the grade asked for. -/
  | gradeRequest (g : Fin 8)
  /-- GRADE_CHANGE (R62). -/
  | gradeChange
  /-- ALM_CANCEL (R63). -/
  | almCancel
  /-- RELEASE (R61). -/
  | release
  /-- RELEASE_AFTER_DRAIN (R61). -/
  | releaseAfterDrain
  /-- SWITCH_LAPSE (R64). -/
  | switchLapse
  /-- DRAINING_END (R65). -/
  | drainingEnd
  /-- REGISTER_WRITE (R79): who writes, whether into BAR2 rather than BAR0, the offset, the width in bytes, the value.
    -/
  | registerWrite (w : Writer) (bar2 : Bool) (off width : Nat) (v : DWord)
  /-- BAR1_WRITE (R77): who writes, the offset, the bytes. -/
  | bar1Write (w : Writer) (o : Nat) (bs : List Byte)
  /-- SETUP_LOCK (R81). -/
  | setupLock
  /-- RING_START (R87): the ring. -/
  | ringStart (k : Fin 16)
  /-- RING_RESUME (R87): the ring. -/
  | ringResume (k : Fin 16)
  /-- RING_STOP (R87): the ring. -/
  | ringStop (k : Fin 16)
  /-- RING_STOPPED (R87): the ring. -/
  | ringStopped (k : Fin 16)
  /-- DOORBELL (R90): the ring, the offset in its page, the width in bytes, the value. -/
  | doorbell (k : Fin 16) (off width : Nat) (v : Word)
  /-- DESCRIPTOR_FETCH (R97): the ring, the 64-byte descriptors read, the bytes of their buffers. -/
  | descriptorFetch (k : Fin 10) (descs : List (List Byte)) (data : List Byte)
  /-- HOST_READ_ERROR (R94): the ring, whether a data buffer rather than a descriptor failed, the descriptors read, the
    PCIe completion status. -/
  | hostReadError (k : Fin 16) (onBuffer : Bool) (descs : List (List Byte)) (status : Nat)
  /-- TAKING_RESUMED (R100). -/
  | takingResumed
  /-- RING_VECTOR (R104): the ring. -/
  | ringVector (k : Fin 16)
  /-- DETACH (R102): the cause code. -/
  | detach (cause : Nat)
  /-- ATTACH (R105): the rate of the link, and what host software sets in the configuration space. -/
  | attach (rate : LinkRate) (cfg : PciSetup)
  /-- TABLE_ITEM (R97). -/
  | tableItem
  /-- ANNOUNCE (R119). -/
  | announce
  /-- PURGE (R146). -/
  | purge
  /-- REPRINT (R141). -/
  | reprint
  /-- JAM_CLEAR (R140). -/
  | jamClear
  /-- QUERY (R118). -/
  | query
  /-- DATA_HEADER (R121): the station, and the page-store frames that the allocator takes. -/
  | dataHeader (stn : Fin 8) (frames : List Nat)
  /-- EARLY_WAIT_EXPIRY (R122): the station. -/
  | earlyWaitExpiry (stn : Fin 8)
  /-- FRAMES_AVAILABLE (R211): the station, and the page-store frames that the allocator takes. -/
  | framesAvailable (stn : Fin 8) (frames : List Nat)
  /-- BAND_RESIDENT (R124): the sheet id, the station, the band. -/
  | bandResident (sheet : Nat) (stn : Fin 8) (band : Nat)
  /-- ADMISSION (R127). -/
  | admission
  /-- COMMIT (R130): the sheet id. -/
  | commit (id : Nat)
  /-- PICK (R129): the sheet id. -/
  | pick (id : Nat)
  /-- SHEET_EDGE (R132): the timing point. -/
  | sheetEdge (point : Fin 4)
  /-- EDGE_WINDOW_EXPIRY (R132): the sheet id, the timing point, whether the trailing edge. -/
  | edgeWindowExpiry (id : Nat) (point : Fin 4) (trail : Bool)
  /-- TARGET_WITHOUT_EDGE (R132): the sheet id, the timing point, whether the trailing edge. -/
  | targetWithoutEdge (id : Nat) (point : Fin 4) (trail : Bool)
  /-- BAND_BEGUN (R134). -/
  | bandBegun
  /-- BAND_DEADLINE (R135): the sheet id, the station, the band. -/
  | bandDeadline (id : Nat) (stn : Fin 8) (band : Nat)
  /-- LAST_LINE (R133). -/
  | lastLine
  /-- UNDERRUN_REPORT (R257). -/
  | underrunReport
  /-- BEAM_FAILURE_REPORT (R279). -/
  | beamFailureReport
  /-- HEAD_SHUTDOWN_REPORT (R281). -/
  | headShutdownReport
  /-- OBSERVER_LOSS_REPORT (R351). -/
  | observerLossReport
  /-- DECODE_FAILURE_REPORT (R125). -/
  | decodeFailureReport
  /-- ENTRY_FREED (R109): the sheet id. -/
  | entryFreed (id : Nat)
  /-- BACKHITCH_DECIDED (R164). -/
  | backhitchDecided
  /-- BH_DECEL (R167). -/
  | bhDecel
  /-- BH_STOP (R167). -/
  | bhStop
  /-- BH_REVERSE (R167). -/
  | bhReverse
  /-- BH_PARK (R167). -/
  | bhPark
  /-- BH_ACCEL (R169). -/
  | bhAccel
  /-- BH_REVERSE_AGAIN (R169). -/
  | bhReverseAgain
  /-- BH_END (R171). -/
  | bhEnd
  /-- ABANDON (R172). -/
  | abandon
  /-- PARK_LONG (R169). -/
  | parkLong
  /-- SEGMENT_COMPRESSED (R191): the compressor lane. -/
  | segmentCompressed (lane : Fin 16)
  /-- DECODE_BINDING (R193). -/
  | decodeBinding
  /-- SEGMENT_HANDOUT (R194): the decompressor lane. -/
  | segmentHandout (lane : Fin 32)
  /-- SEGMENT_DECODED (R196): the decompressor lane. -/
  | segmentDecoded (lane : Fin 32)
  /-- LINE_STORE_WRITE (R255): the decompressor lane. -/
  | lineStoreWrite (lane : Fin 32)
  /-- TRAINING_START (R213): the organisation that the strap page gives, if read, and the band entries of DDRPLL. -/
  | trainingStart (org : Option (Fin 16)) (bands : List Word)
  /-- TRAIN (R214). -/
  | train
  /-- RETRAIN (R217). -/
  | retrain
  /-- TRAINING_DONE (R204, R213): what training finds on each channel, and the temperature. -/
  | trainingDone (c0 c1 : ChannelTraining) (temp : Int)
  /-- DRAM_TEMP_READ (R215): the PHY temperature, the warmest device, whether a device asks for fast refresh. -/
  | dramTempRead (phy warmest : Int) (hot : Bool)
  /-- TRACKING (R216). -/
  | tracking
  /-- GAP_RETRAIN (R217). -/
  | gapRetrain
  /-- DRAM_REQUEST (R220): the channel, the requests that arrive, the time, whether the sampler fires, the ECC outcome of
    a read (0 none, 1 corrected, 2 uncorrectable), whether a read of port 2 fetches a band for decode. -/
  | dramRequest (ch : Fin 2) (arrivals : List MemReq) (now : Nat) (sampled : Bool) (ecc : Fin 3) (decoding : Bool)
  /-- RH_WINDOW_CLEAR (R221). -/
  | rhWindowClear
  /-- PATROL_SCRUB (R225): the times in ns at which its reads reach channel 0 and channel 1. -/
  | patrolScrub (now0 now1 : Nat)
  /-- WIPE_GROUP_DONE (R227). -/
  | wipeGroupDone
  /-- BD_EDGE (R236): the station, rising or falling, the sub-tick, the fine time, the ECC outcome of the facet entry.
    -/
  | bdEdge (i : Fin 8) (rising : Bool) (sub : Fin 2500) (fine : Fin 128) (ecc : Fin 3)
  /-- FACET_MISSED (R237): the station, the ECC outcome of the facet entry. -/
  | facetMissed (i : Fin 8) (ecc : Fin 3)
  /-- FACET_END (R247): the station. -/
  | facetEnd (i : Fin 8)
  /-- SCAN_MEAS_CLR (R241): the stations. -/
  | scanMeasClr (mask : Fin 256)
  /-- FACET_REPORT (R288): the station, the report's bytes. -/
  | facetReport (i : Fin 8) (bs : List Byte)
  /-- TABLE_ACK (R287, R288): the station, the report's first six bytes, the CRC of the table as held, the report's own CRC. -/
  | tableAck (i : Fin 8) (head : List Byte) (table crc : Word)
  /-- TABLE_ACK_TIMEOUT (R287): the station, TABLE_ID. -/
  | tableAckTimeout (i : Fin 8) (id : Fin 20)
  /-- STATUS_REPORT (R288): the station, the report's first four bytes, its CRC. -/
  | statusReport (i : Fin 8) (head : List Byte) (crc : Word)
  /-- REPORT_TIMEOUT (R291): the station. -/
  | reportTimeout (i : Fin 8)
  /-- ARM (R282): the station. -/
  | arm (i : Fin 8)
  /-- DISARM (R282): the station. -/
  | disarm (i : Fin 8)
  /-- RESELECT (R278): the station. -/
  | reselect (i : Fin 8)
  /-- CLEAR_FAILED (R276): the station. -/
  | clearFailed (i : Fin 8)
  /-- ILK_CLEAR (R283). -/
  | ilkClear
  /-- LDEN_RISE (R282): the station. -/
  | ldenRise (i : Fin 8)
  /-- LSI_N_LOW (R283). -/
  | lsiNLow
  /-- INTERLOCK_GATHERED (R283). -/
  | interlockGathered
  /-- LINK_ENABLE (R297): the link. -/
  | linkEnable (l : LinkId)
  /-- LINK_DISABLE (R297): the link. -/
  | linkDisable (l : LinkId)
  /-- LINK_TRAINING_DONE (R297): the link, and the node count it answered. -/
  | linkTrainingDone (l : LinkId) (nodes : Fin 32)
  /-- LINK_TRAINING_TIMEOUT (R297): the link. -/
  | linkTrainingTimeout (l : LinkId)
  /-- LINK_TIMEOUT (R297): the link. -/
  | linkTimeout (l : LinkId)
  /-- COMMA_LOST (R297): the link. -/
  | commaLost (l : LinkId)
  /-- LINK_RETRAIN (R297): the link. -/
  | linkRetrain (l : LinkId)
  /-- STEP_FRAME_RETURN (R296): the link, the frame's bytes. -/
  | stepFrameReturn (k : Fin 2) (bs : List Byte)
  /-- STEP_START_TIMEOUT (R315): the axis. -/
  | stepStartTimeout (a : Fin 48)
  /-- STEP_ENABLE (R304): the axis. -/
  | stepEnable (a : Fin 48)
  /-- STEP_DISABLE (R304): the axis. -/
  | stepDisable (a : Fin 48)
  /-- STEP_MOVE (R304): the axis, the profile. -/
  | stepMove (a : Fin 48) (prof : Fin 8)
  /-- STEP_VELOCITY (R304): the axis, the profile. -/
  | stepVelocity (a : Fin 48) (prof : Fin 8)
  /-- STEP_STOP (R304): the axis. -/
  | stepStop (a : Fin 48)
  /-- STEP_HOME (R304): the axis. -/
  | stepHome (a : Fin 48)
  /-- STEP_ENGAGE (R304): the axis. -/
  | stepEngage (a : Fin 48)
  /-- STEP_DISENGAGE (R304): the axis. -/
  | stepDisengage (a : Fin 48)
  /-- STEP_SET_POS (R304): the axis. -/
  | stepSetPos (a : Fin 48)
  /-- STEP_CLEAR (R304): the axis. -/
  | stepClear (a : Fin 48)
  /-- REVERSE_DWELL_END (R306): the axis. -/
  | reverseDwellEnd (a : Fin 48)
  /-- SCAP_EDGE (R319): the input, its new level, the sub-tick of the first sample. -/
  | scapEdge (i : Fin 8) (level : Bool) (sub : Fin 2500)
  /-- HOME_EDGE_QUALIFIED (R321): the axis. -/
  | homeEdgeQualified (a : Fin 48)
  /-- HOME_WINDOW_END (R321): the axis. -/
  | homeWindowEnd (a : Fin 48)
  /-- AXIS_FRAME_RETURN (R333): the link, the frame's bytes. -/
  | axisFrameReturn (k : Fin 4) (bs : List Byte)
  /-- AXIS_ENABLE (R346): the axis. -/
  | axisEnable (a : Fin 24)
  /-- AXIS_DISABLE (R346): the axis. -/
  | axisDisable (a : Fin 24)
  /-- AXIS_MOVE (R346): the axis, the profile. -/
  | axisMove (a : Fin 24) (prof : Fin 8)
  /-- AXIS_VELOCITY (R346): the axis, the profile. -/
  | axisVelocity (a : Fin 24) (prof : Fin 8)
  /-- AXIS_STOP (R346): the axis. -/
  | axisStop (a : Fin 24)
  /-- AXIS_SET_POS (R346): the axis. -/
  | axisSetPos (a : Fin 24)
  /-- AXIS_CLEAR (R346): the axis. -/
  | axisClear (a : Fin 24)
  /-- CATCH_TIMEOUT (R348): the axis. -/
  | catchTimeout (a : Fin 24)
  /-- SPINDOWN_TIMEOUT (R348): the axis. -/
  | spindownTimeout (a : Fin 24)
  /-- OBSERVER_LOSS (R351): the axis. -/
  | observerLoss (a : Fin 24)
  /-- FACET_PERIOD_GATHERED (R357): the axis. -/
  | facetPeriodGathered (a : Fin 24)
  /-- RECOVER_TIMEOUT (R352): the axis. -/
  | recoverTimeout (a : Fin 24)
  /-- HV_FRAME_RETURN (R363): the link, the frame's bytes. -/
  | hvFrameReturn (k : Fin 2) (bs : List Byte)
  /-- LOOP_ENABLE (R373): the loop. -/
  | loopEnable (l : Fin 64)
  /-- LOOP_DISABLE (R373): the loop. -/
  | loopDisable (l : Fin 64)
  /-- LOOP_CLEAR (R373): the loop. -/
  | loopClear (l : Fin 64)
  /-- LEARN_CLEAR (R373): the loop. -/
  | learnClear (l : Fin 64)
  /-- CELL_WRITE (R387): the queue, the cells of one write, which pointer copy disagrees (0 none). -/
  | cellWrite (q : Fin 4096) (cells : List CellIn) (ptr : Fin 4)
  /-- CLASS_T_TIMEOUT (R390): the queue. -/
  | classTTimeout (q : Fin 4096)
  /-- SCRUB_END (R394). -/
  | scrubEnd
  /-- QUEUE_WRITE (R396): who writes. -/
  | queueWrite (w : Writer)
  /-- QUEUE_LOAD (R396). -/
  | queueLoad
  /-- QUEUE_FLUSH (R396). -/
  | queueFlush
  /-- DMA_START (R418): who writes, the channel. -/
  | dmaStart (w : Writer) (c : Fin 64)
  /-- DMA_ABORT (R418): who writes, the channel. -/
  | dmaAbort (w : Writer) (c : Fin 64)
  /-- DMA_ABORT_DONE (R418): the channel. -/
  | dmaAbortDone (c : Fin 64)
  /-- DMA_RESUME (R416): who writes, the channel. -/
  | dmaResume (w : Writer) (c : Fin 64)
  /-- PROGRAM_CHECK_DONE (R407): the channel, and what the program area holds where it lies in host memory. -/
  | programCheckDone (c : Fin 64) (host : List Byte)
  /-- DMA_DESCRIPTOR (R405): the channel, the descriptor where it lies in host memory, the bytes read at a host source,
    the bytes read at a host destination that is compared. -/
  | dmaDescriptor (c : Fin 64) (host hsrc hdst : List Byte)
  /-- DATA_INSTRUCTION_DONE (R409): the channel, the bytes read at a host source, and at a host destination that is
    compared. -/
  | dataInstructionDone (c : Fin 64) (hsrc hdst : List Byte)
  /-- WAIT_MET (R412): the channel. -/
  | waitMet (c : Fin 64)
  /-- WAIT_TIMEOUT (R412): the channel. -/
  | waitTimeout (c : Fin 64)
  /-- DMA_END (R410): the channel. -/
  | dmaEnd (c : Fin 64)
  /-- DMA_BUS_ERROR (R415): the cause of R415, the address, whether a write. -/
  | dmaBusError (cause : Fin 8) (addr : DWord) (write : Bool)
  /-- CLEAR_HALT (R416). -/
  | clearHalt
  /-- DMA_EVT_SET (R411): the value written. -/
  | dmaEvtSet (v : DWord)
  /-- DMA_EVT_CLR (R411): the value written. -/
  | dmaEvtClr (v : DWord)
  /-- FAULT_MESSAGE (R424): SOURCE, KIND, ADDRESS. -/
  | faultMessage (src : Fin 2048) (kind : Fin 32) (addr : Word)
  /-- ESC_LEAK (R427). -/
  | escLeak
  /-- SAFE_ENTER (R433): who writes. -/
  | safeEnter (w : Writer)
  /-- SAFE_EXIT (R435). -/
  | safeExit
  /-- ERRN_CLEAR (R432). -/
  | errnClear
  /-- ESC_CLR (R427): the value written. -/
  | escClr (v : Word)
  /-- INJECT (R438): the value written. -/
  | inject (v : Word)
  /-- COLLECTOR_INTEGRITY (R437): the failing offset, and whether a parity error. -/
  | collectorIntegrity (addr : Word) (parity : Bool)
  /-- CHIP_RESET_WAIT_END (R431). -/
  | chipResetWaitEnd
  /-- HWD_EVENT (R447). -/
  | hwdEvent
  /-- RECORD_WRITTEN (R447): whether the write read back right. -/
  | recordWritten (ok : Bool)
  /-- SUPPRESSION_SUMMARY (R451): the event class. -/
  | suppressionSummary (c : Fin 1024)
  /-- RECORDER_SCAN_DONE (R453). -/
  | recorderScanDone
  /-- SNAP_TAKE (R454). -/
  | snapTake
  /-- READ_SEQ (R455): the value written. -/
  | readSeq (v : Word)
  /-- READ_LOADED (R455). -/
  | readLoaded
  /-- CLR_REQUEST (R457). -/
  | clrRequest
  /-- CLR_SUBMIT (R457): who writes. -/
  | clrSubmit (w : Writer)
  /-- CLR_CANCEL (R457). -/
  | clrCancel
  /-- CHALLENGE_LAPSE (R457). -/
  | challengeLapse
  /-- LOCKOUT_END (R457). -/
  | lockoutEnd
  /-- ERASE_DONE (R458). -/
  | eraseDone
  /-- DOMAIN_SWITCH (R464): the value written. -/
  | domainSwitch (v : Word)
  /-- DOMAIN_UP (R464): which half of the domain switches. -/
  | domainUp (half : Fin 2)
  /-- SEQ_UP (R468). -/
  | seqUp
  /-- SEQ_DOWN (R468): who writes. -/
  | seqDown (w : Writer)
  /-- RAIL_SLOT (R469): the sequencer. -/
  | railSlot (k : Fin 8)
  /-- POLL_ROUND (R470): the sequencers that answered, and the rails found on. -/
  | pollRound (ids : Fin 256) (found : List (Nat × Nat))
  /-- SEQ_READ_DONE (R470): the read. -/
  | seqReadDone (x : SeqRead)
  /-- SEQ_TRANSACTION_FAILED (R467): the sequencer, the command. -/
  | seqTransactionFailed (k : Fin 8) (cmd : Fin 256)
  /-- PG_TIMEOUT (R470): the rail. -/
  | pgTimeout (r : Fin 64)
  /-- OFF_WAIT_END (R472). -/
  | offWaitEnd
  /-- MARGIN_STEP (R474): the rail. -/
  | marginStep (r : Fin 64)
  /-- SNAPSHOT_DONE (R475): the reading of each rail. -/
  | snapshotDone (readings : List Word)
  /-- THERMAL_CONVERSION (R476): the channel, the reading in 1/16 °C, whether it is valid. -/
  | thermalConversion (c : Fin 12) (v : Int) (valid : Bool)
  /-- THROTTLE_REPEAT (R478). -/
  | throttleRepeat
  /-- THAW_RESTART (R480). -/
  | thawRestart
  /-- HEAD_THAW (R481): the station. -/
  | headThaw (i : Fin 8)
  /-- PLL_LOCK_DECLARED (R494). -/
  | pllLockDeclared
  /-- PLL_LOCK_LOST (R495): the PLL. -/
  | pllLockLost (p : Fin 10)
  /-- CLOCK_FAILURE (R496). -/
  | clockFailure
  /-- POWER_ON_RESET (R497): the REF50 strap, the MODESEL strap, whether a record write was torn. -/
  | powerOnReset (ref50 modesel torn : Bool)
  /-- SRAM_WIPE_DONE (R497). -/
  | sramWipeDone
  /-- RST_CHIP (R498): who asks, NOW. -/
  | rstChip (w : Writer) (now : Bool)
  /-- RST_CORE (R498): who asks, NOW. -/
  | rstCore (w : Writer) (now : Bool)
  /-- WDT_KICK (R499). -/
  | wdtKick
  /-- WATCHDOG_EXPIRY (R499). -/
  | watchdogExpiry
  /-- BOOT (R501): the boot flash. -/
  | boot (f : Flash)
  /-- BOOT_STAGED (R506): the boot flash. -/
  | bootStaged (f : Flash)
  /-- ACCEPT (R509): the value written. -/
  | accept (v : Word)
  /-- LIFECYCLE_TRANSITION (R511): the target state, CONFIRM. -/
  | lifecycleTransition (target : Fin 8) (confirm : Fin 65536)
  /-- FUSE_BURN_DONE (R511). -/
  | fuseBurnDone
  /-- OTP_PROGRAM (R513): the field, whether it verifies. -/
  | otpProgram (field : Fin 4) (verifyOk : Bool)
  /-- VDDIO33_LOW (R550). -/
  | vddio33Low
  /-- UART_BYTE (R525): the byte, whether its parity or framing is wrong. -/
  | uartByte (b : Byte) (err : Bool)
  /-- UART_BYTE_TIMEOUT (R525). -/
  | uartByteTimeout
  /-- UART_REPLY (R526). -/
  | uartReply
  /-- STATUS (R529). -/
  | status
  /-- READ_ERROR (R527). -/
  | readError
  /-- SPEED (R528). -/
  | speed
  /-- PAPER (R527). -/
  | paper
  /-- TOP (R527). -/
  | top
  /-- WIDTH (R527). -/
  | width
  /-- WARMUP (R532). -/
  | warmup
  /-- SLEEP (R532). -/
  | sleep
  /-- CLEAR_JAM (R538). -/
  | clearJam
  /-- CANCEL (R527). -/
  | cancel
  /-- ENGINE_INFO (R527). -/
  | engineInfo
  /-- READ_REG (R530). -/
  | readReg
  /-- WRITE_REG (R530). -/
  | writeReg
  /-- LEG_READY (R532). -/
  | legReady
  /-- LEG_STANDBY (R532). -/
  | legStandby
  /-- LSYNC_EDGE (R531): the level of PAGE_GO_N at the edge. -/
  | lsyncEdge (goLow : Bool)
  /-- GROUP_WINDOW_CLOSE (R536): the station, the bytes of its window, and what went wrong (0 nothing). -/
  | groupWindowClose (stn : Fin 4) (bytes : List Byte) (fault : Fin 3)
  /-- TRACE (R539). -/
  | trace
  /-- VIDEO_LANE_STATE_CHANGE (R541): the lane, its new state. -/
  | videoLaneStateChange (lane : Fin 4) (st : Fin 3)
  /-- GAP_RETRAIN_DONE (R217). -/
  | gapRetrainDone
  /-- CLK_TICK_LO_READ (R515). -/
  | clkTickLoRead
  /-- TAP_INSTRUCTION (R558): the instruction register. -/
  | tapInstruction (ir : Fin 256)
  deriving DecidableEq, Repr

end Sys2Proof
end

