-- ==== Sys2Proof/Decode.lean ====
section
/-!
DEFINITION. The commands that a word spells. The operation table gives no row any bits: a command is an access, an event on
a pin or an engine's own act, and none of them is encoded in a word.
-/

namespace Sys2Proof

/-- The command that the table spells with `nbits` bits of value `w`: none, because no row of the table has bits. -/
def decodeTableWord (_nbits _w : Nat) : Option Instr := none

end Sys2Proof
end

