-- ==== Sys2Proof/Config.lean ====
section
/-!
DEFINITION. What an implementation fixes and the free values: constants with no body, so that nothing can be proved of
them. Each stands for a value the spec leaves open; the assumption log names the entry of each.
-/

namespace Sys2Proof

/-- The `n`-th free number. A step that needs a value the spec leaves open reads the one at `State.fresh` and advances
that counter (log entry 3). -/
opaque Config.free : Nat → Nat

/-- The payload bytes of a Heartwood event, from its code and the values that the record carries: the event tables name
the values and not their byte layout (log entry 5). -/
opaque Config.payload : Nat → List Nat → List Byte

/-- The frequency of DDRPLL's output in MHz, which its band entries are held against (R491, R492): the spec gives the
DDR5 rate and not the PLL's output (log entry 22). -/
opaque Config.ddrPll : Nat

/-- The unique id fused in OTP (R511, log entry 23). -/
opaque Config.uid : Nat

/-- The band table of SYSPLL, which the boot ROM loads from OTP calibration (R491, R492, log entry 23). -/
opaque Config.sysBand : Nat → Nat

/-- The production key: x then y, 64 bytes, big-endian (R503, R511, log entry 23). -/
opaque Config.productionKey : List Byte

/-- The OTP hashes of the production key (0) and the development key (1) (R504, log entry 23). -/
opaque Config.keyHash : Nat → List Byte

/-- The terminal back-EMF amplitude of a coasting motor in 10 mV, from its three terminal voltages (R348): the spec names
the amplitude and not how it is formed (log entry 24). -/
opaque Config.terminalEmf : Int → Int → Int → Nat

/-- The transforms of the current control (R339) in the precision of the silicon, which the spec does not give: Clarke from two
phase currents, Park by an electrical angle of 24 bits, their inverses, and the three phase voltages (log entry 25). -/
opaque Config.clarke : Int → Int → Int × Int
opaque Config.park : Int → Int → Nat → Int × Int
opaque Config.invPark : Int → Int → Nat → Int × Int
opaque Config.invClarke : Int → Int → List Int

/-- The scale from gain × error to 2⁻⁸ × 10 mV in the current loops, and to hub current units in the speed loop, and the
position term of a MOVE: the spec gives the gains' format and not their units (R339, log entry 25). -/
opaque Config.volts : Int → Int
opaque Config.amps : Int → Int
opaque Config.positionTerm : Int → Int

/-- The code lengths that the silicon chooses for an alphabet from its symbol counts (R191, log entry 18). -/
opaque Config.codeLengths : List Nat → List Nat

end Sys2Proof
end

