-- ==== Sys2Proof/Machine/Bits.lean ====
section
/-!
DEFINITION. Bit fields, byte order, signed readings, serial-number order and the CRC-32: the helpers every chapter
uses to take a number apart or to put one together (R4, R5, R16, R39).
-/

namespace Sys2Proof.Machine

/-- Bits [hi:lo] of `n`, as a number (R4). -/
def bitsOf (n hi lo : Nat) : Nat := (n >>> lo) % 2 ^ (hi + 1 - lo)

/-- Bit `i` of `n`. -/
def bitOf (n i : Nat) : Bool := (n >>> i) % 2 == 1

/-- `n` with bits [hi:lo] replaced by the low bits of `v`. -/
def putBits (n hi lo v : Nat) : Nat :=
  (n >>> (hi + 1)) <<< (hi + 1) + (v % 2 ^ (hi + 1 - lo)) <<< lo + n % 2 ^ lo

/-- `n` with bit `i` set to `b`. -/
def putBit (n i : Nat) (b : Bool) : Nat := putBits n i i b.toNat

/-- The number that the low `w` bits of `n` stand for in two's complement. -/
def signedOf (w n : Nat) : Int :=
  let m := n % 2 ^ w
  if m < 2 ^ (w - 1) then (m : Int) else (m : Int) - (2 : Int) ^ w

/-- The `w`-bit two's-complement code of `i`. -/
def codeOf (w : Nat) (i : Int) : Nat := (i % (2 : Int) ^ w).toNat

/-- `i` as a signed number of `w` bits holds it. -/
def wrapInt (w : Nat) (i : Int) : Int := signedOf w (codeOf w i)

/-- `i` limited to the range from `lo` to `hi`. -/
def clampInt (lo hi i : Int) : Int := if i < lo then lo else if hi < i then hi else i

/-- Right shift of a signed number by `k` bits, rounding down. -/
def asr (i : Int) (k : Nat) : Int := i / (2 : Int) ^ k

/-- The little-endian number that the bytes stand for (R5). -/
def leNat : List Byte → Nat
  | [] => 0
  | b :: bs => b.toNat + 256 * leNat bs

/-- The low `k` bytes of `n`, little-endian (R5). -/
def leBytes : Nat → Nat → List Byte
  | 0, _ => []
  | k + 1, n => BitVec.ofNat 8 n :: leBytes k (n / 256)

/-- The `k` bytes of a byte string from offset `o`; bytes past its end read as zero. -/
def bytesAt (bs : List Byte) (o k : Nat) : List Byte :=
  (bs.drop o).take k

/-- The little-endian field of `k` bytes at offset `o` (R5). -/
def leAt (bs : List Byte) (o k : Nat) : Nat := leNat (bytesAt bs o k)

/-- Every byte from offset `o` on, `k` of them, is zero. -/
def zerosAt (bs : List Byte) (o k : Nat) : Bool := (bytesAt bs o k).all (· == 0)

/-- The serial-number order of R16 over 32 bits: `a` precedes `b`. -/
def serialBefore (a b : Nat) : Bool := decide (0 < signedOf 32 (b % 2 ^ 32 + 2 ^ 32 - a % 2 ^ 32))

/-- `a - b` over 32 bits, wrapping (R84). -/
def sub32 (a b : Nat) : Nat := (a % 2 ^ 32 + 2 ^ 32 - b % 2 ^ 32) % 2 ^ 32

/-- One bit of the reflected CRC-32 (R39). -/
def crcBit (c : Nat) : Nat := if c % 2 = 1 then (c >>> 1) ^^^ 0xEDB88320 else c >>> 1

/-- One byte of the reflected CRC-32 (R39). -/
def crcByte (c : Nat) (b : Byte) : Nat :=
  let x := c ^^^ b.toNat
  crcBit (crcBit (crcBit (crcBit (crcBit (crcBit (crcBit (crcBit x)))))))

/-- The CRC-32 of IEEE 802.3 over a byte string (R39). -/
def crc32 (bs : List Byte) : Nat := (bs.foldl crcByte 0xFFFFFFFF) ^^^ 0xFFFFFFFF

/-- The integer square root of a number below 2⁶⁴, rounded down. -/
def sqrtNat (n : Nat) : Nat := (List.range 32).foldl (fun r k => if (r + 2 ^ (31 - k)) * (r + 2 ^ (31 - k)) ≤ n then r + 2 ^ (31 - k) else r) 0

/-- The sign of an integer: −1, 0 or 1. -/
def signOf (i : Int) : Int := if i < 0 then -1 else if i = 0 then 0 else 1

/-- The value at time `t` of what a log holds, newest first, as (time, value): linear between the two entries about `t`, and
beyond the last two on their line. -/
def logAt : List (Nat × Int) → Nat → Option Int
  | [], _ => none
  | [(_, x)], _ => some x
  | (t1, x1) :: (t0, x0) :: rest, t =>
    if t0 ≤ t ∨ rest = [] then
      some (if t1 = t0 then x1 else x0 + (x1 - x0) * ((t : Int) - (t0 : Int)) / ((t1 : Int) - (t0 : Int)))
    else logAt ((t0, x0) :: rest) t

/-- How many of the first `n` numbers satisfy `p`. -/
def countUpTo (p : Nat → Bool) (n : Nat) : Nat := ((List.range n).filter p).length

end Sys2Proof.Machine
end

