-- ==== Sys2Proof/Machine/RegMap.lean ====
section
/-!
DEFINITION. The register map of the three host windows: for every register row of the spec its BAR0 offset, how
often it repeats, its access code (R7), its reset value (R9) and the bits a write may change (R8: reserved bits
read as zero and take no write). The names of the offsets follow; an indexed register is a function
of its index, which is taken modulo the number of registers the row repeats, so that the name never leaves its row.
-/

namespace Sys2Proof.Machine

/-- The register access codes of R7. -/
inductive Access where
  | rw | ro | wo | w1c | w1s | rws | rwl
  deriving DecidableEq, Repr

/-- One row of a register table: `count` registers, `stride` bytes apart, from offset `off`. `mask` holds the bits
that a write may change; it is 0 for RO and WO. -/
structure RegRow where
  off : Nat
  stride : Nat
  count : Nat
  access : Access
  reset : Nat
  mask : Nat
  deriving DecidableEq, Repr

/-- Rows of block host (R106, R107), part 1. -/
def hostRows1 : List RegRow :=
  [⟨0x0, 4, 1, .ro, 0x96401F9A, 0x0⟩,
   ⟨0x4, 4, 1, .ro, 0xC, 0x0⟩,
   ⟨0x8, 4, 1, .ro, 0x0, 0x0⟩,
   ⟨0xC, 4, 1, .ro, 0x0, 0x0⟩,
   ⟨0x10, 4, 1, .w1s, 0x0, 0x1⟩,
   ⟨0x14, 4, 1, .w1c, 0x0, 0x4⟩,
   ⟨0x20, 4, 1, .w1c, 0x0, 0x7FF⟩,
   ⟨0x24, 4, 1, .rw, 0x0, 0x7FF⟩,
   ⟨0x28, 4, 1, .ro, 0x0, 0x0⟩,
   ⟨0x2C, 4, 1, .ro, 0x0, 0x0⟩,
   ⟨0x30, 4, 1, .ro, 0x0, 0x0⟩,
   ⟨0x40, 4, 1, .rw, 0x0, 0xFFFFFF80⟩,
   ⟨0x44, 4, 1, .rw, 0x0, 0xFFFFFFFF⟩,
   ⟨0x8000, 16, 256, .rw, 0x0, 0xFFFFFFFF⟩,
   ⟨0x8004, 16, 256, .rw, 0x0, 0xFFFFFFFF⟩,
   ⟨0x8008, 16, 256, .rw, 0x0, 0xFFFFFFFF⟩,
   ⟨0x800C, 16, 256, .rw, 0x1, 0x1⟩,
   ⟨0x9000, 4, 8, .ro, 0x0, 0x0⟩,
   ⟨0x100, 32, 16, .rw, 0x0, 0xFFFFF000⟩,
   ⟨0x104, 32, 16, .rw, 0x0, 0xFFFFFFFF⟩,
   ⟨0x108, 32, 16, .rw, 0x8, 0x1F⟩,
   ⟨0x10C, 32, 16, .wo, 0x0, 0x0⟩]

/-- Rows of block host (R106, R107), part 2. -/
def hostRows2 : List RegRow :=
  [⟨0x110, 32, 16, .ro, 0x0, 0x0⟩,
   ⟨0x114, 32, 16, .ro, 0x0, 0x0⟩,
   ⟨0x118, 32, 16, .ro, 0x0, 0x0⟩,
   ⟨0x11C, 32, 16, .rw, 0x1, 0x1FF⟩]

/-- The register rows of block host (R106, R107). -/
def hostRows : List RegRow := hostRows1 ++ hostRows2

/-- Rows of block clkLcs (R515 to R518), part 1. -/
def clkLcsRows1 : List RegRow :=
  [⟨0x10000, 4, 1, .ro, 0x0, 0x0⟩,
   ⟨0x10004, 4, 1, .w1c, 0x0, 0xF⟩,
   ⟨0x10008, 4, 1, .rw, 0x0, 0xF⟩,
   ⟨0x10010, 4, 1, .ro, 0x0, 0x0⟩,
   ⟨0x10014, 4, 1, .ro, 0x0, 0x0⟩,
   ⟨0x10018, 4, 1, .wo, 0x0, 0x0⟩,
   ⟨0x1001C, 4, 1, .ro, 0x0, 0x0⟩,
   ⟨0x10020, 4, 1, .rws, 0x0, 0xFFFFFFFF⟩,
   ⟨0x10024, 4, 1, .rw, 0xFA0, 0xFFFFFF⟩,
   ⟨0x10028, 4, 1, .wo, 0x0, 0x0⟩,
   ⟨0x1002C, 4, 1, .ro, 0x0, 0x0⟩,
   ⟨0x10100, 4, 10, .ro, 0x0, 0x0⟩,
   ⟨0x11000, 4, 32, .ro, 0x0, 0x0⟩,
   ⟨0x11080, 4, 32, .rw, 0x0, 0x87FFFFFF⟩,
   ⟨0x11100, 4, 32, .rw, 0x0, 0x87FFFFFF⟩,
   ⟨0x11180, 4, 32, .rw, 0x0, 0x87FFFFFF⟩,
   ⟨0x11200, 4, 32, .rw, 0x0, 0x87FFFFFF⟩,
   ⟨0x11280, 4, 32, .rw, 0x0, 0x87FFFFFF⟩,
   ⟨0x11300, 4, 32, .rw, 0x0, 0x87FFFFFF⟩,
   ⟨0x11380, 4, 32, .rw, 0x0, 0x87FFFFFF⟩,
   ⟨0x11400, 4, 32, .rw, 0x0, 0x87FFFFFF⟩,
   ⟨0x11480, 4, 32, .rw, 0x0, 0x87FFFFFF⟩]

/-- Rows of block clkLcs (R515 to R518), part 2. -/
def clkLcsRows2 : List RegRow :=
  [⟨0x18000, 4, 1, .ro, 0x0, 0x0⟩,
   ⟨0x18004, 4, 1, .w1c, 0x0, 0xF⟩,
   ⟨0x18008, 4, 1, .rw, 0x0, 0xF⟩,
   ⟨0x1800C, 4, 1, .ro, 0x0, 0x0⟩,
   ⟨0x18010, 4, 1, .ro, 0x0, 0x0⟩,
   ⟨0x18014, 4, 1, .ro, 0x0, 0x0⟩,
   ⟨0x18018, 4, 1, .ro, 0x0, 0x0⟩,
   ⟨0x1801C, 4, 1, .wo, 0x0, 0x0⟩,
   ⟨0x18020, 4, 1, .ro, 0x0, 0x0⟩,
   ⟨0x18024, 4, 1, .wo, 0x0, 0x0⟩,
   ⟨0x18028, 4, 1, .wo, 0x0, 0x0⟩,
   ⟨0x1802C, 4, 1, .ro, 0x0, 0x0⟩,
   ⟨0x18030, 4, 1, .ro, 0x0, 0x0⟩,
   ⟨0x18034, 4, 1, .ro, 0x0, 0x0⟩,
   ⟨0x18038, 4, 1, .wo, 0x0, 0x0⟩,
   ⟨0x1803C, 4, 1, .ro, 0x0, 0x0⟩,
   ⟨0x18100, 4, 16, .wo, 0x0, 0x0⟩,
   ⟨0x18140, 4, 8, .wo, 0x0, 0x0⟩]

/-- The register rows of block clkLcs (R515 to R518). -/
def clkLcsRows : List RegRow := clkLcsRows1 ++ clkLcsRows2

/-- Rows of block pwr (R485, R486), part 1. -/
def pwrRows1 : List RegRow :=
  [⟨0x20000, 4, 1, .wo, 0x0, 0x0⟩,
   ⟨0x20004, 4, 1, .ro, 0x0, 0x0⟩,
   ⟨0x20008, 4, 1, .w1c, 0x0, 0x17F⟩,
   ⟨0x2000C, 4, 1, .rw, 0x0, 0x17F⟩,
   ⟨0x20010, 4, 1, .rwl, 0x3, 0x3⟩,
   ⟨0x20014, 4, 1, .rwl, 0xFA00050, 0xFFFFFFFF⟩,
   ⟨0x20018, 4, 1, .rwl, 0x332814, 0xFFFFFF⟩,
   ⟨0x2001C, 4, 1, .rwl, 0x4E20, 0xFFFFFF⟩,
   ⟨0x20020, 4, 1, .rwl, 0x190, 0xFFFF⟩,
   ⟨0x20024, 4, 1, .ro, 0x0, 0x0⟩,
   ⟨0x20028, 4, 1, .rw, 0x18, 0x18⟩,
   ⟨0x2002C, 4, 1, .ro, 0xFFF, 0x0⟩,
   ⟨0x21000, 16, 64, .rwl, 0x0, 0xFFFFFFFF⟩,
   ⟨0x21004, 16, 64, .rw, 0x0, 0x1F01⟩,
   ⟨0x21008, 16, 64, .ro, 0x0, 0x0⟩,
   ⟨0x2100C, 16, 64, .ro, 0x0, 0x0⟩]

/-- The register rows of block pwr (R485, R486). -/
def pwrRows : List RegRow := pwrRows1

/-- Rows of block thm (R487, R488), part 1. -/
def thmRows1 : List RegRow :=
  [⟨0x30000, 4, 1, .ro, 0x0, 0x0⟩,
   ⟨0x30004, 4, 1, .w1c, 0x0, 0x3F⟩,
   ⟨0x30008, 4, 1, .rw, 0x0, 0x3F⟩,
   ⟨0x3000C, 4, 1, .rwl, 0x61A80, 0xFFFFFF⟩,
   ⟨0x30010, 4, 1, .rwl, 0x61A80, 0xFFFFFF⟩,
   ⟨0x30014, 4, 1, .ro, 0x0, 0x0⟩,
   ⟨0x30018, 4, 1, .rws, 0x0, 0xFFFFFFFF⟩,
   ⟨0x30100, 32, 8, .rwl, 0x40000020, 0xFFFF00F3⟩,
   ⟨0x30200, 32, 4, .rwl, 0x21, 0xFFFF00F3⟩,
   ⟨0x30280, 32, 8, .rwl, 0x11, 0xFFFF00F3⟩,
   ⟨0x30104, 32, 20, .rwl, 0xD7A03E8, 0xFFFFFFFF⟩,
   ⟨0x30108, 32, 8, .rwl, 0x5F00550, 0xFFFFFFFF⟩,
   ⟨0x30208, 32, 4, .rwl, 0x7300690, 0xFFFFFFFF⟩,
   ⟨0x30288, 32, 8, .rwl, 0x5000460, 0xFFFFFFFF⟩,
   ⟨0x3010C, 32, 8, .rwl, 0x500690, 0xFFFFFF⟩,
   ⟨0x3020C, 32, 4, .rwl, 0x5007D0, 0xFFFFFF⟩,
   ⟨0x3028C, 32, 8, .rwl, 0x5005A0, 0xFFFFFF⟩,
   ⟨0x30110, 32, 20, .ro, 0x0, 0x0⟩]

/-- The register rows of block thm (R487, R488). -/
def thmRows : List RegRow := thmRows1

/-- Rows of block flt (R441, R442), part 1. -/
def fltRows1 : List RegRow :=
  [⟨0x40000, 4, 1, .wo, 0x0, 0x0⟩,
   ⟨0x40004, 4, 1, .ro, 0x0, 0x0⟩,
   ⟨0x40008, 4, 1, .ro, 0x0, 0x0⟩,
   ⟨0x4000C, 4, 1, .ro, 0x0, 0x0⟩,
   ⟨0x40010, 4, 1, .ro, 0x0, 0x0⟩,
   ⟨0x40014, 4, 1, .ro, 0x0, 0x0⟩,
   ⟨0x40018, 4, 1, .w1c, 0x0, 0x3F⟩,
   ⟨0x4001C, 4, 1, .rw, 0x0, 0x3F⟩,
   ⟨0x40020, 4, 1, .ro, 0x0, 0x0⟩,
   ⟨0x40024, 4, 1, .rwl, 0x12, 0x3F⟩,
   ⟨0x40028, 4, 1, .rwl, 0xFA0, 0xFFFF⟩,
   ⟨0x4002C, 4, 1, .rwl, 0x9C40, 0xFFFFFF⟩,
   ⟨0x40030, 4, 1, .wo, 0x0, 0x0⟩,
   ⟨0x40034, 4, 1, .wo, 0x0, 0x0⟩,
   ⟨0x40038, 4, 1, .rw, 0x0, 0xFFFFFFFF⟩,
   ⟨0x4003C, 4, 1, .rws, 0x0, 0xFFFFFFFF⟩,
   ⟨0x40040, 4, 1, .ro, 0x0, 0x0⟩,
   ⟨0x40044, 4, 1, .ro, 0x0, 0x0⟩,
   ⟨0x40048, 4, 1, .ro, 0x0, 0x0⟩,
   ⟨0x40080, 4, 1, .ro, 0x0, 0x0⟩,
   ⟨0x40100, 8, 32, .w1c, 0x0, 0xFFFFFFFF⟩,
   ⟨0x40104, 8, 32, .w1c, 0x0, 0xFFFFFFFF⟩]

/-- Rows of block flt (R441, R442), part 2. -/
def fltRows2 : List RegRow :=
  [⟨0x41000, 4, 512, .rwl, 0x1010101, 0xFFFFFFFF⟩,
   ⟨0x42000, 4, 512, .ro, 0x0, 0x0⟩,
   ⟨0x44000, 16, 256, .ro, 0x0, 0x0⟩,
   ⟨0x44004, 16, 256, .ro, 0x0, 0x0⟩,
   ⟨0x44008, 16, 256, .ro, 0x0, 0x0⟩,
   ⟨0x4400C, 16, 256, .ro, 0x0, 0x0⟩]

/-- The register rows of block flt (R441, R442). -/
def fltRows : List RegRow := fltRows1 ++ fltRows2

/-- Rows of block hwd (R461, R462), part 1. -/
def hwdRows1 : List RegRow :=
  [⟨0x50000, 4, 1, .rwl, 0x9C40, 0xFFFFFF⟩,
   ⟨0x50004, 4, 1, .ro, 0x0, 0x0⟩,
   ⟨0x50008, 4, 1, .w1c, 0x0, 0xF⟩,
   ⟨0x5000C, 4, 1, .rw, 0x0, 0xF⟩,
   ⟨0x50010, 4, 1, .ro, 0x0, 0x0⟩,
   ⟨0x50014, 4, 1, .ro, 0x0, 0x0⟩,
   ⟨0x50018, 4, 1, .ro, 0x0, 0x0⟩,
   ⟨0x5001C, 4, 1, .wo, 0x0, 0x0⟩,
   ⟨0x50020, 4, 1, .ro, 0x0, 0x0⟩,
   ⟨0x50024, 4, 1, .ro, 0x0, 0x0⟩,
   ⟨0x50028, 4, 1, .rw, 0x0, 0xFFFFFFFF⟩,
   ⟨0x5002C, 4, 1, .ro, 0x2, 0x0⟩,
   ⟨0x50030, 4, 1, .rw, 0x0, 0xFFFFFFFF⟩,
   ⟨0x50034, 4, 1, .ro, 0x0, 0x0⟩,
   ⟨0x50038, 4, 1, .ro, 0x0, 0x0⟩,
   ⟨0x5003C, 4, 1, .ro, 0x0, 0x0⟩,
   ⟨0x50040, 4, 1, .ro, 0x0, 0x0⟩,
   ⟨0x50044, 4, 1, .wo, 0x0, 0x0⟩,
   ⟨0x50048, 4, 1, .ro, 0x0, 0x0⟩,
   ⟨0x5004C, 4, 1, .rwl, 0x249F00, 0xFFFFFF⟩,
   ⟨0x50050, 4, 1, .ro, 0x0, 0x0⟩,
   ⟨0x50060, 4, 8, .ro, 0x0, 0x0⟩]

/-- Rows of block hwd (R461, R462), part 2. -/
def hwdRows2 : List RegRow :=
  [⟨0x50080, 4, 8, .wo, 0x0, 0x0⟩,
   ⟨0x50100, 4, 16, .ro, 0x0, 0x0⟩,
   ⟨0x52000, 8, 1024, .rw, 0x20040, 0x1FFFFFF⟩,
   ⟨0x52004, 8, 1024, .ro, 0x2, 0x0⟩]

/-- The register rows of block hwd (R461, R462). -/
def hwdRows : List RegRow := hwdRows1 ++ hwdRows2

/-- Rows of block alm (R69, R70), part 1. -/
def almRows1 : List RegRow :=
  [⟨0x60000, 4, 1, .wo, 0x0, 0x0⟩,
   ⟨0x60004, 4, 1, .ro, 0x72, 0x0⟩,
   ⟨0x60008, 4, 1, .ro, 0x0, 0x0⟩,
   ⟨0x6000C, 4, 1, .ro, 0x0, 0x0⟩,
   ⟨0x60010, 4, 1, .ro, 0x0, 0x0⟩,
   ⟨0x60014, 4, 1, .ro, 0x0, 0x0⟩,
   ⟨0x60018, 4, 1, .ro, 0x0, 0x0⟩,
   ⟨0x6001C, 4, 1, .ro, 0x0, 0x0⟩,
   ⟨0x60020, 4, 1, .ro, 0x0, 0x0⟩,
   ⟨0x60024, 4, 1, .ro, 0x0, 0x0⟩,
   ⟨0x60028, 4, 1, .ro, 0x0, 0x0⟩,
   ⟨0x60030, 4, 1, .ro, 0x0, 0x0⟩,
   ⟨0x60034, 4, 1, .ro, 0x0, 0x0⟩,
   ⟨0x60038, 4, 1, .rw, 0x2710, 0xFFFF⟩,
   ⟨0x6003C, 4, 1, .wo, 0x0, 0x0⟩,
   ⟨0x60040, 4, 1, .ro, 0xBB80FA0, 0x0⟩,
   ⟨0x60044, 4, 1, .ro, 0xBB82328, 0x0⟩,
   ⟨0x60048, 4, 1, .ro, 0xC01, 0x0⟩,
   ⟨0x6004C, 4, 1, .w1c, 0x0, 0x3F⟩,
   ⟨0x60050, 4, 1, .rw, 0x0, 0x3F⟩,
   ⟨0x60054, 4, 1, .ro, 0x0, 0x0⟩,
   ⟨0x60800, 4, 1024, .ro, 0x0, 0x0⟩]

/-- The register rows of block alm (R69, R70). -/
def almRows : List RegRow := almRows1

/-- Rows of block ledg (R151, R152, R175, R176), part 1. -/
def ledgRows1 : List RegRow :=
  [⟨0x70000, 4, 1, .rwl, 0x2820, 0xFFF1⟩,
   ⟨0x70004, 4, 1, .ro, 0x800, 0x0⟩,
   ⟨0x70008, 4, 1, .ro, 0x0, 0x0⟩,
   ⟨0x7000C, 4, 1, .ro, 0x0, 0x0⟩,
   ⟨0x70010, 4, 1, .ro, 0x0, 0x0⟩,
   ⟨0x70014, 4, 1, .rwl, 0x0, 0x13F⟩,
   ⟨0x70018, 4, 1, .rwl, 0x0, 0xFFFFFFFF⟩,
   ⟨0x7001C, 4, 1, .rwl, 0xC350, 0xFFFFFF⟩,
   ⟨0x70020, 4, 1, .rwl, 0x4E20, 0xFFFFFF⟩,
   ⟨0x70024, 4, 1, .rwl, 0x1388, 0xFFFF⟩,
   ⟨0x70028, 4, 1, .rwl, 0x7D0, 0xFFFF⟩,
   ⟨0x7002C, 4, 1, .ro, 0x0, 0x0⟩,
   ⟨0x70030, 4, 1, .ro, 0x0, 0x0⟩,
   ⟨0x70034, 4, 1, .rwl, 0x0, 0xFFFFFFFF⟩,
   ⟨0x70038, 4, 1, .rwl, 0x0, 0xFFFF⟩,
   ⟨0x7003C, 4, 1, .rwl, 0x0, 0xFFFFFF⟩,
   ⟨0x70040, 4, 8, .rwl, 0x0, 0xFFFFFFFF⟩,
   ⟨0x70060, 8, 4, .rwl, 0x0, 0x1F⟩,
   ⟨0x70064, 8, 4, .rwl, 0x0, 0xFFFFFF⟩,
   ⟨0x70080, 4, 1, .w1c, 0x0, 0x3F⟩,
   ⟨0x70084, 4, 1, .rw, 0x0, 0x3F⟩,
   ⟨0x70088, 4, 1, .ro, 0x0, 0x0⟩]

/-- Rows of block ledg (R151, R152, R175, R176), part 2. -/
def ledgRows2 : List RegRow :=
  [⟨0x7008C, 4, 1, .ro, 0x0, 0x0⟩,
   ⟨0x70090, 4, 1, .ro, 0x0, 0x0⟩,
   ⟨0x70094, 4, 1, .ro, 0x0, 0x0⟩,
   ⟨0x700A0, 4, 1, .rw, 0x0, 0xFFFFFFFF⟩,
   ⟨0x700A4, 4, 1, .ro, 0x0, 0x0⟩,
   ⟨0x70100, 4, 1, .rwl, 0xA01, 0xF03⟩,
   ⟨0x70104, 4, 1, .rwl, 0x7D0, 0xFFFF⟩,
   ⟨0x70108, 4, 1, .rwl, 0x100030, 0xFFFFFFFF⟩,
   ⟨0x7010C, 4, 1, .rwl, 0x60, 0xFFFF⟩,
   ⟨0x70110, 4, 1, .rwl, 0x3E8, 0xFFFF⟩,
   ⟨0x70114, 4, 1, .rwl, 0x186A0, 0xFFFFFF⟩,
   ⟨0x70118, 4, 1, .rwl, 0x30D40, 0xFFFFFF⟩,
   ⟨0x7011C, 4, 1, .rwl, 0xFA0, 0xFFFF⟩,
   ⟨0x70120, 4, 1, .ro, 0x7007FFF, 0x0⟩,
   ⟨0x70124, 4, 1, .ro, 0x0, 0x0⟩,
   ⟨0x70128, 4, 1, .ro, 0x0, 0x0⟩,
   ⟨0x7012C, 4, 1, .ro, 0x0, 0x0⟩,
   ⟨0x70130, 4, 1, .w1c, 0x0, 0x1FF⟩,
   ⟨0x70134, 4, 1, .rw, 0x0, 0x1FF⟩,
   ⟨0x70140, 16, 8, .ro, 0x0, 0x0⟩,
   ⟨0x70144, 16, 8, .ro, 0x0, 0x0⟩,
   ⟨0x70148, 16, 8, .ro, 0x0, 0x0⟩]

/-- Rows of block ledg (R151, R152, R175, R176), part 3. -/
def ledgRows3 : List RegRow :=
  [⟨0x70200, 4, 1, .rwl, 0x4, 0x7⟩,
   ⟨0x70204, 4, 1, .rwl, 0x0, 0x13F⟩,
   ⟨0x70208, 4, 1, .rwl, 0x0, 0x813F⟩,
   ⟨0x7020C, 4, 1, .rwl, 0x0, 0xFFFFFFFF⟩,
   ⟨0x70210, 4, 1, .rwl, 0x0, 0xFFFFFFFF⟩,
   ⟨0x70214, 4, 1, .rwl, 0x0, 0xFFFFFFFF⟩,
   ⟨0x70218, 4, 1, .rwl, 0x0, 0xFFFFFFFF⟩,
   ⟨0x7021C, 4, 1, .rwl, 0x0, 0xFFFFFFFF⟩,
   ⟨0x70220, 4, 1, .rwl, 0x4E20, 0xFFFFFF⟩,
   ⟨0x70224, 4, 1, .rwl, 0x190, 0xFFFF⟩,
   ⟨0x70228, 4, 1, .rwl, 0x1E8480, 0xFFFFFF⟩,
   ⟨0x7022C, 4, 1, .rwl, 0x9C40, 0xFFFFFF⟩,
   ⟨0x70230, 4, 1, .wo, 0x0, 0x0⟩,
   ⟨0x70234, 4, 1, .ro, 0x0, 0x0⟩,
   ⟨0x70238, 4, 1, .ro, 0x0, 0x0⟩,
   ⟨0x7023C, 4, 1, .ro, 0x0, 0x0⟩,
   ⟨0x70240, 4, 1, .ro, 0x0, 0x0⟩]

/-- The register rows of block ledg (R151, R152, R175, R176). -/
def ledgRows : List RegRow := ledgRows1 ++ ledgRows2 ++ ledgRows3

/-- Rows of block burl (R200, R201), part 1. -/
def burlRows1 : List RegRow :=
  [⟨0x80000, 4, 1, .rwl, 0x4040400, 0x7F0F1FFF⟩,
   ⟨0x80004, 4, 1, .ro, 0x0, 0x0⟩,
   ⟨0x80008, 4, 1, .w1c, 0x0, 0x703⟩,
   ⟨0x8000C, 4, 1, .rw, 0x0, 0x703⟩,
   ⟨0x80010, 4, 1, .ro, 0x0, 0x0⟩,
   ⟨0x80014, 4, 1, .ro, 0x0, 0x0⟩,
   ⟨0x80018, 4, 1, .ro, 0x0, 0x0⟩,
   ⟨0x80020, 4, 1, .ro, 0x0, 0x0⟩,
   ⟨0x80024, 4, 1, .ro, 0x0, 0x0⟩,
   ⟨0x80028, 4, 1, .ro, 0x0, 0x0⟩,
   ⟨0x8002C, 4, 1, .ro, 0x0, 0x0⟩,
   ⟨0x80030, 4, 1, .ro, 0x0, 0x0⟩,
   ⟨0x80034, 4, 1, .ro, 0x0, 0x0⟩,
   ⟨0x80038, 4, 1, .ro, 0x0, 0x0⟩,
   ⟨0x8003C, 4, 1, .ro, 0x0, 0x0⟩,
   ⟨0x80100, 4, 4, .rw, 0x80, 0x87⟩,
   ⟨0x80110, 4, 4, .rw, 0x81, 0x87⟩,
   ⟨0x80120, 4, 4, .rw, 0x82, 0x87⟩,
   ⟨0x80130, 4, 4, .rw, 0x83, 0x87⟩,
   ⟨0x80140, 4, 4, .rw, 0x84, 0x87⟩,
   ⟨0x80150, 4, 4, .rw, 0x85, 0x87⟩,
   ⟨0x80160, 4, 4, .rw, 0x86, 0x87⟩]

/-- Rows of block burl (R200, R201), part 2. -/
def burlRows2 : List RegRow :=
  [⟨0x80170, 4, 4, .rw, 0x87, 0x87⟩,
   ⟨0x80180, 4, 4, .ro, 0x80, 0x0⟩,
   ⟨0x80190, 4, 4, .ro, 0x81, 0x0⟩,
   ⟨0x801A0, 4, 4, .ro, 0x82, 0x0⟩,
   ⟨0x801B0, 4, 4, .ro, 0x83, 0x0⟩,
   ⟨0x801C0, 4, 4, .ro, 0x84, 0x0⟩,
   ⟨0x801D0, 4, 4, .ro, 0x85, 0x0⟩,
   ⟨0x801E0, 4, 4, .ro, 0x86, 0x0⟩,
   ⟨0x801F0, 4, 4, .ro, 0x87, 0x0⟩,
   ⟨0x80200, 4, 2, .rwl, 0x80, 0x87⟩,
   ⟨0x80208, 4, 2, .rwl, 0x81, 0x87⟩,
   ⟨0x80210, 4, 2, .rwl, 0x82, 0x87⟩,
   ⟨0x80218, 4, 2, .rwl, 0x83, 0x87⟩,
   ⟨0x80220, 4, 2, .rwl, 0x84, 0x87⟩,
   ⟨0x80228, 4, 2, .rwl, 0x85, 0x87⟩,
   ⟨0x80230, 4, 2, .rwl, 0x86, 0x87⟩,
   ⟨0x80238, 4, 2, .rwl, 0x87, 0x87⟩]

/-- The register rows of block burl (R200, R201). -/
def burlRows : List RegRow := burlRows1 ++ burlRows2

/-- Rows of block dram (R229, R230), part 1. -/
def dramRows1 : List RegRow :=
  [⟨0x90000, 4, 1, .rwl, 0x0, 0xF⟩,
   ⟨0x90004, 4, 1, .wo, 0x0, 0x0⟩,
   ⟨0x90008, 4, 1, .ro, 0x0, 0x0⟩,
   ⟨0x9000C, 4, 1, .w1c, 0x0, 0x1FF⟩,
   ⟨0x90010, 4, 1, .rw, 0x0, 0x1FF⟩,
   ⟨0x90014, 4, 1, .ro, 0x0, 0x0⟩,
   ⟨0x90018, 4, 1, .ro, 0x0, 0x0⟩,
   ⟨0x9001C, 4, 1, .ro, 0x0, 0x0⟩,
   ⟨0x90020, 4, 1, .rwl, 0x28140A, 0xFFFFFF⟩,
   ⟨0x90024, 4, 1, .ro, 0x0, 0x0⟩,
   ⟨0x90028, 4, 1, .rwl, 0xC80010, 0xFFFF00FF⟩,
   ⟨0x9002C, 4, 1, .rwl, 0x4000, 0xFFFFFF⟩,
   ⟨0x90030, 4, 1, .rwl, 0x32, 0xFF⟩,
   ⟨0x90034, 4, 1, .ro, 0x0, 0x0⟩,
   ⟨0x90038, 4, 1, .ro, 0x0, 0x0⟩,
   ⟨0x9003C, 4, 1, .ro, 0x0, 0x0⟩,
   ⟨0x90040, 4, 1, .ro, 0x0, 0x0⟩,
   ⟨0x90044, 4, 1, .ro, 0x0, 0x0⟩,
   ⟨0x90048, 4, 1, .rwl, 0x18, 0xFF⟩,
   ⟨0x9004C, 4, 1, .rwl, 0xC8, 0xFFF⟩,
   ⟨0x90050, 4, 1, .ro, 0x0, 0x0⟩,
   ⟨0x90100, 16, 1, .rwl, 0xFA0, 0xFFFFF⟩]

/-- Rows of block dram (R229, R230), part 2. -/
def dramRows2 : List RegRow :=
  [⟨0x90110, 16, 1, .rwl, 0x3E8, 0xFFFFF⟩,
   ⟨0x90120, 16, 1, .rwl, 0x1F4, 0xFFFFF⟩,
   ⟨0x90130, 16, 1, .rwl, 0x1F40, 0xFFFFF⟩,
   ⟨0x90140, 16, 1, .rwl, 0x7D0, 0xFFFFF⟩,
   ⟨0x90150, 16, 1, .rwl, 0x186A0, 0xFFFFF⟩,
   ⟨0x90104, 16, 6, .ro, 0x0, 0x0⟩,
   ⟨0x90108, 16, 6, .ro, 0x0, 0x0⟩,
   ⟨0x90200, 4, 8, .rwl, 0x400000, 0x7FFFFF⟩,
   ⟨0x90220, 4, 8, .ro, 0x0, 0x0⟩]

/-- The register rows of block dram (R229, R230). -/
def dramRows : List RegRow := dramRows1 ++ dramRows2

/-- Rows of block scan (R261, R262), part 1. -/
def scanRows1 : List RegRow :=
  [⟨0xA0000, 4, 1, .rwl, 0x601F4, 0xF0FFF⟩,
   ⟨0xA0004, 4, 1, .ro, 0x0, 0x0⟩,
   ⟨0xA0008, 4, 1, .w1c, 0x0, 0x1FF⟩,
   ⟨0xA000C, 4, 1, .rw, 0x0, 0x1FF⟩,
   ⟨0xA0010, 4, 1, .wo, 0x0, 0x0⟩,
   ⟨0xA0100, 256, 8, .rwl, 0x200840, 0x3F0FF3⟩,
   ⟨0xA0104, 256, 8, .rwl, 0x0, 0xFFFFF⟩,
   ⟨0xA0108, 256, 8, .rwl, 0x10000, 0xFFFFF⟩,
   ⟨0xA010C, 256, 8, .rwl, 0x0, 0x3⟩,
   ⟨0xA0110, 256, 8, .rwl, 0x64, 0x3FF⟩,
   ⟨0xA0114, 256, 8, .rwl, 0xA00, 0xFFFF⟩,
   ⟨0xA0118, 256, 8, .rwl, 0x0, 0x813F⟩,
   ⟨0xA011C, 256, 8, .rwl, 0x0, 0xFFFFFFFF⟩,
   ⟨0xA0120, 256, 8, .rwl, 0x3E8, 0xFFFF⟩,
   ⟨0xA0124, 256, 8, .rwl, 0x80, 0xFFFF⟩,
   ⟨0xA0128, 256, 8, .rwl, 0x0, 0xFFFFFF⟩,
   ⟨0xA0130, 256, 8, .ro, 0x0, 0x0⟩,
   ⟨0xA0134, 256, 8, .ro, 0x0, 0x0⟩,
   ⟨0xA0138, 256, 8, .ro, 0x0, 0x0⟩,
   ⟨0xA013C, 256, 8, .ro, 0x0, 0x0⟩,
   ⟨0xA0140, 256, 8, .ro, 0x0, 0x0⟩,
   ⟨0xA0144, 256, 8, .ro, 0x0, 0x0⟩]

/-- Rows of block scan (R261, R262), part 2. -/
def scanRows2 : List RegRow :=
  [⟨0xA0148, 256, 8, .ro, 0x0, 0x0⟩,
   ⟨0xA014C, 256, 8, .ro, 0x0, 0x0⟩,
   ⟨0xA0150, 256, 8, .ro, 0x0, 0x0⟩,
   ⟨0xA0154, 256, 8, .ro, 0x0, 0x0⟩,
   ⟨0xA0160, 4, 8, .ro, 0x0, 0x0⟩,
   ⟨0xA0260, 4, 8, .ro, 0x0, 0x0⟩,
   ⟨0xA0360, 4, 8, .ro, 0x0, 0x0⟩,
   ⟨0xA0460, 4, 8, .ro, 0x0, 0x0⟩,
   ⟨0xA0560, 4, 8, .ro, 0x0, 0x0⟩,
   ⟨0xA0660, 4, 8, .ro, 0x0, 0x0⟩,
   ⟨0xA0760, 4, 8, .ro, 0x0, 0x0⟩,
   ⟨0xA0860, 4, 8, .ro, 0x0, 0x0⟩,
   ⟨0xA0180, 4, 8, .ro, 0x0, 0x0⟩,
   ⟨0xA0280, 4, 8, .ro, 0x0, 0x0⟩,
   ⟨0xA0380, 4, 8, .ro, 0x0, 0x0⟩,
   ⟨0xA0480, 4, 8, .ro, 0x0, 0x0⟩,
   ⟨0xA0580, 4, 8, .ro, 0x0, 0x0⟩,
   ⟨0xA0680, 4, 8, .ro, 0x0, 0x0⟩,
   ⟨0xA0780, 4, 8, .ro, 0x0, 0x0⟩,
   ⟨0xA0880, 4, 8, .ro, 0x0, 0x0⟩,
   ⟨0xA1000, 4, 64, .ro, 0x0, 0x0⟩,
   ⟨0xA1100, 4, 64, .ro, 0x0, 0x0⟩]

/-- Rows of block scan (R261, R262), part 3. -/
def scanRows3 : List RegRow :=
  [⟨0xA1200, 4, 64, .ro, 0x0, 0x0⟩,
   ⟨0xA1300, 4, 64, .ro, 0x0, 0x0⟩,
   ⟨0xA1400, 4, 64, .ro, 0x0, 0x0⟩,
   ⟨0xA1500, 4, 64, .ro, 0x0, 0x0⟩,
   ⟨0xA1600, 4, 64, .ro, 0x0, 0x0⟩,
   ⟨0xA1700, 4, 64, .ro, 0x0, 0x0⟩]

/-- The register rows of block scan (R261, R262). -/
def scanRows : List RegRow := scanRows1 ++ scanRows2 ++ scanRows3

/-- Rows of block beam (R293, R294), part 1. -/
def beamRows1 : List RegRow :=
  [⟨0xB0000, 4, 1, .rwl, 0xFA0, 0xFFFF⟩,
   ⟨0xB0004, 4, 1, .wo, 0x0, 0x0⟩,
   ⟨0xB0008, 4, 1, .ro, 0x200, 0x0⟩,
   ⟨0xB000C, 4, 1, .w1c, 0x0, 0x3FF⟩,
   ⟨0xB0010, 4, 1, .rw, 0x0, 0x3FF⟩,
   ⟨0xB0014, 4, 1, .ro, 0x0, 0x0⟩,
   ⟨0xB0100, 64, 8, .rwl, 0x8028310, 0xFF1FFFF1⟩,
   ⟨0xB0104, 64, 8, .rwl, 0x401020, 0xFFFFFFFF⟩,
   ⟨0xB0108, 64, 8, .wo, 0x0, 0x0⟩,
   ⟨0xB010C, 64, 8, .ro, 0x0, 0x0⟩,
   ⟨0xB0110, 64, 8, .ro, 0x0, 0x0⟩,
   ⟨0xB0114, 64, 8, .ro, 0x0, 0x0⟩,
   ⟨0xB0118, 64, 8, .ro, 0x0, 0x0⟩,
   ⟨0xB011C, 64, 8, .ro, 0x0, 0x0⟩,
   ⟨0xB0120, 64, 8, .ro, 0x0, 0x0⟩,
   ⟨0xB0124, 64, 8, .ro, 0x0, 0x0⟩,
   ⟨0xB0128, 64, 8, .ro, 0x0, 0x0⟩,
   ⟨0xB012C, 64, 8, .ro, 0x0, 0x0⟩,
   ⟨0xB0130, 64, 8, .ro, 0x0, 0x0⟩]

/-- The register rows of block beam (R293, R294). -/
def beamRows : List RegRow := beamRows1

/-- Rows of block step (R326, R327), part 1. -/
def stepRows1 : List RegRow :=
  [⟨0xC0000, 4, 1, .w1c, 0x0, 0x7FF⟩,
   ⟨0xC0004, 4, 1, .rw, 0x0, 0x7FF⟩,
   ⟨0xC0008, 4, 1, .ro, 0x0, 0x0⟩,
   ⟨0xC000C, 4, 1, .ro, 0x0, 0x0⟩,
   ⟨0xC0010, 8, 2, .rwl, 0x40, 0xF1⟩,
   ⟨0xC0014, 8, 2, .ro, 0x0, 0x0⟩,
   ⟨0xC0100, 16, 8, .rw, 0x0, 0x3F01⟩,
   ⟨0xC0104, 16, 8, .rw, 0x0, 0xFFFFFFFF⟩,
   ⟨0xC0108, 16, 8, .rw, 0x0, 0xFFFFFFFF⟩,
   ⟨0xC010C, 16, 8, .ro, 0x0, 0x0⟩,
   ⟨0xC1000, 128, 48, .rwl, 0xA00, 0xFF03⟩,
   ⟨0xC1004, 128, 48, .rw, 0xC0A040, 0xFFFFFF⟩,
   ⟨0xC1008, 128, 48, .wo, 0x0, 0x0⟩,
   ⟨0xC100C, 128, 48, .rw, 0x0, 0xFFFFFFFF⟩,
   ⟨0xC1010, 128, 48, .rw, 0x0, 0xFFFF⟩,
   ⟨0xC1014, 128, 48, .ro, 0x0, 0x0⟩,
   ⟨0xC1018, 128, 48, .ro, 0x0, 0x0⟩,
   ⟨0xC101C, 128, 48, .ro, 0x0, 0x0⟩,
   ⟨0xC1020, 128, 48, .ro, 0x0, 0x0⟩,
   ⟨0xC1024, 128, 48, .ro, 0x0, 0x0⟩,
   ⟨0xC1028, 128, 48, .ro, 0x0, 0x0⟩,
   ⟨0xC102C, 128, 48, .rwl, 0x4100140, 0xFFFF03FF⟩]

/-- Rows of block step (R326, R327), part 2. -/
def stepRows2 : List RegRow :=
  [⟨0xC1030, 128, 48, .rwl, 0x400040, 0xFFFFFFFF⟩,
   ⟨0xC1034, 128, 48, .rwl, 0xFA0, 0xFFFF⟩,
   ⟨0xC1038, 128, 48, .rwl, 0x23000, 0x7FF7FF⟩,
   ⟨0xC103C, 128, 48, .rwl, 0x190, 0xFFFF⟩,
   ⟨0xC1040, 128, 48, .rwl, 0x10000, 0xFFFFFFFF⟩,
   ⟨0xC1044, 128, 48, .rwl, 0x1400, 0xFFFFFF⟩,
   ⟨0xC1048, 128, 48, .rwl, 0x1000000, 0xFFFFFFFF⟩,
   ⟨0xC104C, 128, 48, .rwl, 0x0, 0xFFFFFFFF⟩,
   ⟨0xC1050, 128, 48, .rw, 0x0, 0x3FFF⟩,
   ⟨0xC1054, 128, 48, .rw, 0x0, 0xFFFFFFFF⟩,
   ⟨0xC1058, 128, 48, .rw, 0x0, 0xFFFFFFFF⟩,
   ⟨0xC105C, 128, 48, .rw, 0x0, 0xFFFFFFFF⟩,
   ⟨0xC1060, 128, 48, .rw, 0x0, 0xFFFFFFFF⟩,
   ⟨0xC1064, 128, 48, .rw, 0x0, 0xFFFFFFFF⟩,
   ⟨0xC1068, 128, 48, .ro, 0x0, 0x0⟩,
   ⟨0xC106C, 128, 48, .ro, 0x0, 0x0⟩]

/-- The register rows of block step (R326, R327). -/
def stepRows : List RegRow := stepRows1 ++ stepRows2

/-- Rows of block axis (R359, R360), part 1. -/
def axisRows1 : List RegRow :=
  [⟨0xD0000, 4, 1, .w1c, 0x0, 0x1FFF⟩,
   ⟨0xD0004, 4, 1, .rw, 0x0, 0x1FFF⟩,
   ⟨0xD0008, 4, 1, .ro, 0x0, 0x0⟩,
   ⟨0xD0010, 8, 4, .rwl, 0x40, 0xF1⟩,
   ⟨0xD0014, 8, 4, .ro, 0x0, 0x0⟩,
   ⟨0xD0040, 8, 4, .rwl, 0x0, 0xFFFFFFFF⟩,
   ⟨0xD0044, 8, 4, .rwl, 0x0, 0xFFFF⟩,
   ⟨0xD0060, 4, 4, .ro, 0x0, 0x0⟩,
   ⟨0xD1000, 128, 24, .rwl, 0x20010, 0x703F3⟩,
   ⟨0xD1004, 128, 24, .wo, 0x0, 0x0⟩,
   ⟨0xD1008, 128, 24, .rw, 0x0, 0xFFFFFFFF⟩,
   ⟨0xD100C, 128, 24, .rw, 0x0, 0xFFFF⟩,
   ⟨0xD1010, 128, 24, .ro, 0x0, 0x0⟩,
   ⟨0xD1014, 128, 24, .ro, 0x0, 0x0⟩,
   ⟨0xD1018, 128, 24, .ro, 0x0, 0x0⟩,
   ⟨0xD101C, 128, 24, .ro, 0x0, 0x0⟩,
   ⟨0xD1020, 128, 24, .ro, 0x0, 0x0⟩,
   ⟨0xD1024, 128, 24, .ro, 0x0, 0x0⟩,
   ⟨0xD1028, 128, 24, .ro, 0x0, 0x0⟩,
   ⟨0xD102C, 128, 24, .ro, 0x0, 0x0⟩,
   ⟨0xD1030, 128, 24, .rwl, 0x0, 0xFFFFFFFF⟩,
   ⟨0xD1034, 128, 24, .rwl, 0x0, 0xFFFFFFFF⟩]

/-- Rows of block axis (R359, R360), part 2. -/
def axisRows2 : List RegRow :=
  [⟨0xD1038, 128, 24, .rwl, 0xF3330000, 0xFFFFFFFF⟩,
   ⟨0xD103C, 128, 24, .rwl, 0x3C01E0, 0xFFF0FFF⟩,
   ⟨0xD1040, 128, 24, .rwl, 0x0, 0xFFFFFFFF⟩,
   ⟨0xD1044, 128, 24, .rwl, 0x460, 0xFFFF⟩,
   ⟨0xD1048, 128, 24, .rwl, 0x0, 0xFFFFFFFF⟩,
   ⟨0xD104C, 128, 24, .rwl, 0x0, 0xFFFFFFFF⟩,
   ⟨0xD1050, 128, 24, .rwl, 0x0, 0xFFFFFFFF⟩,
   ⟨0xD1054, 128, 24, .rwl, 0x0, 0xFFFF⟩,
   ⟨0xD1058, 128, 24, .rwl, 0x3101F40, 0xFFF3FFF⟩,
   ⟨0xD105C, 128, 24, .rwl, 0x0, 0xFFFF⟩,
   ⟨0xD1060, 128, 24, .rwl, 0x409C40, 0xFFFFFFFF⟩,
   ⟨0xD1064, 128, 24, .rwl, 0x1900006, 0xFFFF00FF⟩,
   ⟨0xD1068, 128, 24, .rwl, 0x1000, 0xFFFFF⟩,
   ⟨0xD106C, 128, 24, .ro, 0x0, 0x0⟩,
   ⟨0xD1070, 128, 24, .ro, 0x0, 0x0⟩,
   ⟨0xD1074, 128, 24, .ro, 0x0, 0x0⟩,
   ⟨0xD1078, 128, 24, .ro, 0x0, 0x0⟩,
   ⟨0xD107C, 128, 24, .ro, 0x0, 0x0⟩]

/-- The register rows of block axis (R359, R360). -/
def axisRows : List RegRow := axisRows1 ++ axisRows2

/-- Rows of block loop (R378, R379), part 1. -/
def loopRows1 : List RegRow :=
  [⟨0xE0000, 4, 1, .w1c, 0x0, 0x3F⟩,
   ⟨0xE0004, 4, 1, .rw, 0x0, 0x3F⟩,
   ⟨0xE0008, 4, 1, .ro, 0x0, 0x0⟩,
   ⟨0xE000C, 4, 1, .ro, 0x0, 0x0⟩,
   ⟨0xE0010, 8, 2, .rwl, 0x40, 0xF1⟩,
   ⟨0xE0014, 8, 2, .ro, 0x0, 0x0⟩,
   ⟨0xE1000, 128, 64, .rwl, 0x0, 0x1FF03FF⟩,
   ⟨0xE1004, 128, 64, .wo, 0x0, 0x0⟩,
   ⟨0xE1008, 128, 64, .rw, 0x0, 0xFFF0FFF⟩,
   ⟨0xE100C, 128, 64, .rw, 0x0, 0xFFF0FFF⟩,
   ⟨0xE1010, 128, 64, .rw, 0x280028, 0xFFFFFFFF⟩,
   ⟨0xE1014, 128, 64, .rwl, 0xFFF0000, 0xFFF0FFF⟩,
   ⟨0xE1018, 128, 64, .rwl, 0x8009C40, 0xFF00FFFF⟩,
   ⟨0xE101C, 128, 64, .rwl, 0x0, 0x7FFFF⟩,
   ⟨0xE1020, 128, 64, .rwl, 0x2000, 0x3FFF3FFF⟩,
   ⟨0xE1024, 128, 64, .rwl, 0x0, 0xFFFFFFFF⟩,
   ⟨0xE1028, 128, 64, .rwl, 0x0, 0xFFFFFFFF⟩,
   ⟨0xE102C, 128, 64, .rw, 0x10000000, 0xFFFFFFFF⟩,
   ⟨0xE1030, 128, 64, .rw, 0xFA00FA0, 0xFFFFFFFF⟩,
   ⟨0xE1034, 128, 64, .rw, 0x0, 0x80FFFFFF⟩,
   ⟨0xE1038, 128, 64, .ro, 0x10, 0x0⟩,
   ⟨0xE103C, 128, 64, .ro, 0x0, 0x0⟩]

/-- Rows of block loop (R378, R379), part 2. -/
def loopRows2 : List RegRow :=
  [⟨0xE1040, 128, 64, .ro, 0x0, 0x0⟩,
   ⟨0xE1044, 128, 64, .ro, 0x0, 0x0⟩,
   ⟨0xE1048, 128, 64, .ro, 0x0, 0x0⟩]

/-- The register rows of block loop (R378, R379). -/
def loopRows : List RegRow := loopRows1 ++ loopRows2

/-- Rows of block cnpy (R398, R399), part 1. -/
def cnpyRows1 : List RegRow :=
  [⟨0xF0000, 4, 1, .ro, 0x10000, 0x0⟩,
   ⟨0xF0004, 4, 1, .ro, 0x0, 0x0⟩,
   ⟨0xF0008, 4, 1, .ro, 0x0, 0x0⟩,
   ⟨0xF000C, 4, 1, .w1c, 0x0, 0xF⟩,
   ⟨0xF0010, 4, 1, .rw, 0x0, 0xF⟩,
   ⟨0xF0014, 4, 1, .rw, 0x0, 0xFFF⟩,
   ⟨0xF0018, 4, 1, .wo, 0x0, 0x0⟩,
   ⟨0xF001C, 4, 1, .ro, 0x0, 0x0⟩,
   ⟨0xF0020, 4, 1, .rw, 0x0, 0x7FF07⟩,
   ⟨0xF0024, 4, 1, .rw, 0x0, 0x1FFFF⟩,
   ⟨0xF0028, 4, 1, .rw, 0x1, 0x1FFFF⟩,
   ⟨0xF002C, 4, 1, .rw, 0x10000, 0xFFFFFFFF⟩,
   ⟨0xF0030, 4, 1, .ro, 0x0, 0x0⟩,
   ⟨0xF0034, 4, 1, .ro, 0x0, 0x0⟩,
   ⟨0xF0038, 4, 1, .ro, 0x0, 0x0⟩,
   ⟨0xF003C, 4, 1, .ro, 0x0, 0x0⟩,
   ⟨0xF0040, 4, 1, .ro, 0x0, 0x0⟩]

/-- The register rows of block cnpy (R398, R399). -/
def cnpyRows : List RegRow := cnpyRows1

/-- Rows of block dma (R421, R422), part 1. -/
def dmaRows1 : List RegRow :=
  [⟨0x100000, 4, 1, .wo, 0x0, 0x0⟩,
   ⟨0x100004, 4, 1, .ro, 0x0, 0x0⟩,
   ⟨0x100008, 4, 1, .w1c, 0x0, 0x1F⟩,
   ⟨0x10000C, 4, 1, .rw, 0x0, 0x1F⟩,
   ⟨0x100010, 4, 1, .ro, 0x0, 0x0⟩,
   ⟨0x100014, 4, 1, .ro, 0x0, 0x0⟩,
   ⟨0x100018, 4, 1, .ro, 0x0, 0x0⟩,
   ⟨0x100020, 4, 1, .w1s, 0x0, 0xFFFFFFFF⟩,
   ⟨0x100024, 4, 1, .w1s, 0x0, 0xFFFFFFFF⟩,
   ⟨0x100028, 4, 1, .wo, 0x0, 0x0⟩,
   ⟨0x10002C, 4, 1, .wo, 0x0, 0x0⟩,
   ⟨0x100030, 4, 1, .ro, 0x0, 0x0⟩,
   ⟨0x100034, 4, 1, .ro, 0x0, 0x0⟩,
   ⟨0x101000, 64, 64, .rw, 0x0, 0x1FF31⟩,
   ⟨0x101004, 64, 64, .wo, 0x0, 0x0⟩,
   ⟨0x101008, 64, 64, .rw, 0x0, 0xFFFFFFFF⟩,
   ⟨0x10100C, 64, 64, .rw, 0x0, 0xFFFFFFFF⟩,
   ⟨0x101010, 64, 64, .ro, 0x0, 0x0⟩,
   ⟨0x101014, 64, 64, .ro, 0x0, 0x0⟩,
   ⟨0x101018, 64, 64, .ro, 0x0, 0x0⟩,
   ⟨0x10101C, 64, 64, .ro, 0x0, 0x0⟩,
   ⟨0x101020, 64, 64, .ro, 0x0, 0x0⟩]

/-- Rows of block dma (R421, R422), part 2. -/
def dmaRows2 : List RegRow :=
  [⟨0x101024, 64, 64, .ro, 0x0, 0x0⟩,
   ⟨0x101028, 64, 64, .ro, 0x0, 0x0⟩]

/-- The register rows of block dma (R421, R422). -/
def dmaRows : List RegRow := dmaRows1 ++ dmaRows2

/-- Rows of block sio (R328), part 1. -/
def sioRows1 : List RegRow :=
  [⟨0x110000, 4, 1, .rwl, 0x0, 0x1FF⟩,
   ⟨0x110004, 4, 1, .rwl, 0x0, 0xFFFFFFFF⟩,
   ⟨0x110008, 4, 1, .ro, 0x0, 0x0⟩,
   ⟨0x11000C, 4, 1, .w1c, 0x0, 0xFF⟩,
   ⟨0x110010, 4, 1, .rw, 0x0, 0xFF⟩,
   ⟨0x110014, 4, 1, .rwl, 0x4, 0x1FFFF⟩,
   ⟨0x110020, 4, 8, .ro, 0x0, 0x0⟩,
   ⟨0x110040, 4, 8, .rw, 0x0, 0xFFFFFFFF⟩]

/-- The register rows of block sio (R328). -/
def sioRows : List RegRow := sioRows1

/-- Rows of block leg (R541, R542), part 1. -/
def legRows1 : List RegRow :=
  [⟨0x120000, 4, 1, .rwl, 0x644C1400, 0xFFFFFF03⟩,
   ⟨0x120004, 4, 1, .ro, 0x0, 0x0⟩,
   ⟨0x120008, 4, 1, .w1c, 0x0, 0x3F⟩,
   ⟨0x12000C, 4, 1, .rw, 0x0, 0x3F⟩,
   ⟨0x120010, 4, 1, .rwl, 0x10, 0xFFFF⟩,
   ⟨0x120014, 4, 1, .ro, 0x0, 0x0⟩,
   ⟨0x120018, 4, 1, .ro, 0x0, 0x0⟩,
   ⟨0x12001C, 4, 1, .ro, 0x0, 0x0⟩,
   ⟨0x120020, 4, 1, .ro, 0x0, 0x0⟩,
   ⟨0x120024, 4, 1, .ro, 0x0, 0x0⟩,
   ⟨0x120028, 4, 1, .ro, 0x0, 0x0⟩,
   ⟨0x12002C, 4, 1, .ro, 0x0, 0x0⟩,
   ⟨0x120030, 4, 1, .ro, 0x0, 0x0⟩,
   ⟨0x120034, 4, 1, .rw, 0x0, 0xF⟩,
   ⟨0x120040, 4, 4, .rwl, 0x0, 0xFFF⟩,
   ⟨0x120050, 4, 4, .ro, 0x0, 0x0⟩]

/-- The register rows of block leg (R541, R542). -/
def legRows : List RegRow := legRows1

/-- The rows of the block that owns a BAR0 offset, by the base table of R74. MGMT (0x13) lists no register. -/
def rowsAt (a : Nat) : List RegRow :=
  match a / 0x10000 with
  | 0 => hostRows
  | 1 => clkLcsRows
  | 2 => pwrRows
  | 3 => thmRows
  | 4 => fltRows
  | 5 => hwdRows
  | 6 => almRows
  | 7 => ledgRows
  | 8 => burlRows
  | 9 => dramRows
  | 10 => scanRows
  | 11 => beamRows
  | 12 => stepRows
  | 13 => axisRows
  | 14 => loopRows
  | 15 => cnpyRows
  | 16 => dmaRows
  | 17 => sioRows
  | 18 => legRows
  | _ => []

/-- A row holds the register at offset `a`. -/
def RegRow.holds (r : RegRow) (a : Nat) : Bool :=
  decide (r.off ≤ a) && decide ((a - r.off) % r.stride = 0) && decide ((a - r.off) / r.stride < r.count)

/-- The row of the register at BAR0 offset `a`, if the offset is not reserved (R8). -/
def regRow (a : Nat) : Option RegRow := (rowsAt a).find? (·.holds a)

/-- The value of the register at `a` after power-on reset (R9). A reserved offset reads zero (R8). -/
def regReset (a : Nat) : Word :=
  match regRow a with
  | some r => BitVec.ofNat 32 r.reset
  | none => 0

end Sys2Proof.Machine

/-! The names of the registers: their BAR0 offsets. -/

namespace Sys2Proof.Machine.Reg

abbrev ALM_CTRL : Nat := 0x60000
abbrev ALM_STATUS : Nat := 0x60004
abbrev ALM_SB_STATE : Nat := 0x60008
abbrev ALM_SB_DETAIL : Nat := 0x6000C
abbrev ALM_SB_COST : Nat := 0x60010
abbrev ALM_SB_BUILD_ID : Nat := 0x60014
abbrev ALM_SB_ENGINE_ID : Nat := 0x60018
abbrev ALM_SB_MASKS : Nat := 0x6001C
abbrev ALM_ACT_BUILD_ID : Nat := 0x60020
abbrev ALM_ACT_ENGINE_ID : Nat := 0x60024
abbrev ALM_ACT_MASKS : Nat := 0x60028
abbrev ALM_SEASON_POS : Nat := 0x60030
abbrev ALM_PAGE : Nat := 0x60034
abbrev ALM_SWITCH_WAIT : Nat := 0x60038
abbrev ALM_GRADE_REQ : Nat := 0x6003C
abbrev ALM_BUDGET0 : Nat := 0x60040
abbrev ALM_BUDGET1 : Nat := 0x60044
abbrev ALM_COST_ID : Nat := 0x60048
abbrev ALM_EVENTS : Nat := 0x6004C
abbrev ALM_EVENT_EN : Nat := 0x60050
abbrev ALM_REQ_RESULT : Nat := 0x60054
abbrev ALM_COST_TABLE (k : Nat) : Nat := 0x60800 + 0x4 * (k % 1024)
abbrev HOST_ID : Nat := 0x0
abbrev HOST_STEPPING : Nat := 0x4
abbrev HOST_MODE : Nat := 0x8
abbrev HOST_LINK : Nat := 0xC
abbrev HOST_SETUP_LOCK : Nat := 0x10
abbrev HOST_STATUS : Nat := 0x14
abbrev HOST_ERR : Nat := 0x20
abbrev HOST_ERR_EN : Nat := 0x24
abbrev HOST_ERR_ADDR : Nat := 0x28
abbrev HOST_ERR_RING : Nat := 0x2C
abbrev HOST_ERR_INDEX : Nat := 0x30
abbrev HOST_WB_BASE_LO : Nat := 0x40
abbrev HOST_WB_BASE_HI : Nat := 0x44
abbrev HOST_MSIX_TABLE (v : Nat) : Nat := 0x8000 + 0x10 * (v % 256)
abbrev HOST_MSIX_PBA (w : Nat) : Nat := 0x9000 + 0x4 * (w % 8)
abbrev HOST_RING_BASE_LO (k : Nat) : Nat := 0x100 + 0x20 * (k % 16)
abbrev HOST_RING_BASE_HI (k : Nat) : Nat := 0x104 + 0x20 * (k % 16)
abbrev HOST_RING_SIZE (k : Nat) : Nat := 0x108 + 0x20 * (k % 16)
abbrev HOST_RING_CTRL (k : Nat) : Nat := 0x10C + 0x20 * (k % 16)
abbrev HOST_RING_STATE (k : Nat) : Nat := 0x110 + 0x20 * (k % 16)
abbrev HOST_RING_HIDX (k : Nat) : Nat := 0x114 + 0x20 * (k % 16)
abbrev HOST_RING_DIDX (k : Nat) : Nat := 0x118 + 0x20 * (k % 16)
abbrev HOST_RING_IMOD (k : Nat) : Nat := 0x11C + 0x20 * (k % 16)
abbrev LEDG_CFG : Nat := 0x70000
abbrev LEDG_STATUS : Nat := 0x70004
abbrev LEDG_NEXT_ID : Nat := 0x70008
abbrev LEDG_HEAD_ID : Nat := 0x7000C
abbrev LEDG_ADMIT_DEPTH : Nat := 0x70010
abbrev LEDG_REF_AXIS : Nat := 0x70014
abbrev LEDG_REF_SCALE : Nat := 0x70018
abbrev LEDG_GAP_UM : Nat := 0x7001C
abbrev LEDG_ADMIT_MARGIN : Nat := 0x70020
abbrev LEDG_EDGE_WIN : Nat := 0x70024
abbrev LEDG_SETTLE : Nat := 0x70028
abbrev LEDG_PATH_POS_LO : Nat := 0x7002C
abbrev LEDG_PATH_POS_HI : Nat := 0x70030
abbrev LEDG_PATH_STEP0 : Nat := 0x70034
abbrev LEDG_PATH_STEP1 : Nat := 0x70038
abbrev LEDG_PATH_AXIS : Nat := 0x7003C
abbrev LEDG_STN_OFS (k : Nat) : Nat := 0x70040 + 0x4 * (k % 8)
abbrev LEDG_SENSOR_CFG (k : Nat) : Nat := 0x70060 + 0x8 * (k % 4)
abbrev LEDG_SENSOR_DIST (k : Nat) : Nat := 0x70064 + 0x8 * (k % 4)
abbrev LEDG_EVENTS : Nat := 0x70080
abbrev LEDG_EVENT_EN : Nat := 0x70084
abbrev LEDG_COUNT_DELIVERED : Nat := 0x70088
abbrev LEDG_COUNT_SPOILED : Nat := 0x7008C
abbrev LEDG_COUNT_JAM : Nat := 0x70090
abbrev LEDG_COUNT_REFUSED : Nat := 0x70094
abbrev LEDG_QUERY_ID : Nat := 0x700A0
abbrev LEDG_QUERY_STATE : Nat := 0x700A4
abbrev LEDG_PACE_CFG : Nat := 0x70100
abbrev LEDG_PACE_HORIZON : Nat := 0x70104
abbrev LEDG_PACE_THR0 : Nat := 0x70108
abbrev LEDG_PACE_THR1 : Nat := 0x7010C
abbrev LEDG_PACE_EXT : Nat := 0x70110
abbrev LEDG_PACE_EXT_MAX : Nat := 0x70114
abbrev LEDG_PACE_HOLDOFF : Nat := 0x70118
abbrev LEDG_PACE_REARM : Nat := 0x7011C
abbrev LEDG_PACE_STATUS : Nat := 0x70120
abbrev LEDG_PACE_EXT_NOW : Nat := 0x70124
abbrev LEDG_PACE_COUNT_DOWN : Nat := 0x70128
abbrev LEDG_PACE_COUNT_EXT : Nat := 0x7012C
abbrev LEDG_PACE_EVENTS : Nat := 0x70130
abbrev LEDG_PACE_EVENT_EN : Nat := 0x70134
abbrev LEDG_PACE_STN_RES (k : Nat) : Nat := 0x70140 + 0x10 * (k % 8)
abbrev LEDG_PACE_STN_ARR (k : Nat) : Nat := 0x70144 + 0x10 * (k % 8)
abbrev LEDG_PACE_STN_CON (k : Nat) : Nat := 0x70148 + 0x10 * (k % 8)
abbrev LEDG_BH_CFG : Nat := 0x70200
abbrev LEDG_BH_AXIS0 : Nat := 0x70204
abbrev LEDG_BH_AXIS1 : Nat := 0x70208
abbrev LEDG_BH_SCALE1 : Nat := 0x7020C
abbrev LEDG_BH_KNEE : Nat := 0x70210
abbrev LEDG_BH_ACC_HI : Nat := 0x70214
abbrev LEDG_BH_ACC_LO : Nat := 0x70218
abbrev LEDG_BH_VREV : Nat := 0x7021C
abbrev LEDG_BH_MARGIN : Nat := 0x70220
abbrev LEDG_BH_DWELL : Nat := 0x70224
abbrev LEDG_BH_REV_MAX : Nat := 0x70228
abbrev LEDG_BH_PARK_WARN : Nat := 0x7022C
abbrev LEDG_BH_CTRL : Nat := 0x70230
abbrev LEDG_BH_STATUS : Nat := 0x70234
abbrev LEDG_BH_TARGET : Nat := 0x70238
abbrev LEDG_BH_REV_PLAN : Nat := 0x7023C
abbrev LEDG_BH_COUNT : Nat := 0x70240
abbrev BURL_CFG : Nat := 0x80000
abbrev BURL_STATUS : Nat := 0x80004
abbrev BURL_EVENTS : Nat := 0x80008
abbrev BURL_EVENT_EN : Nat := 0x8000C
abbrev BURL_ING_ERR : Nat := 0x80010
abbrev BURL_ING_TAG_LO : Nat := 0x80014
abbrev BURL_ING_TAG_HI : Nat := 0x80018
abbrev BURL_DEC_ERR : Nat := 0x80020
abbrev BURL_DEC_TAG_LO : Nat := 0x80024
abbrev BURL_DEC_TAG_HI : Nat := 0x80028
abbrev BURL_DEC_OFFSET : Nat := 0x8002C
abbrev BURL_COUNT_IN : Nat := 0x80030
abbrev BURL_COUNT_REFUSED : Nat := 0x80034
abbrev BURL_COUNT_DEC_ERR : Nat := 0x80038
abbrev BURL_COUNT_STORED : Nat := 0x8003C
abbrev BURL_DBIND (k : Nat) : Nat := 0x80100 + 0x4 * (k % 32)
abbrev BURL_DBIND_ACT (k : Nat) : Nat := 0x80180 + 0x4 * (k % 32)
abbrev BURL_CBIND (k : Nat) : Nat := 0x80200 + 0x4 * (k % 16)
abbrev DRAM_ORG : Nat := 0x90000
abbrev DRAM_CTRL : Nat := 0x90004
abbrev DRAM_STATUS : Nat := 0x90008
abbrev DRAM_EVENTS : Nat := 0x9000C
abbrev DRAM_EVENT_EN : Nat := 0x90010
abbrev DRAM_FRAMES_TOTAL : Nat := 0x90014
abbrev DRAM_FRAMES_FREE : Nat := 0x90018
abbrev DRAM_FRAMES_BAD : Nat := 0x9001C
abbrev DRAM_RETRAIN_CFG : Nat := 0x90020
abbrev DRAM_TEMP : Nat := 0x90024
abbrev DRAM_RH_CFG : Nat := 0x90028
abbrev DRAM_RH_LIMIT : Nat := 0x9002C
abbrev DRAM_WIPE_RATE : Nat := 0x90030
abbrev DRAM_WIPE_POS : Nat := 0x90034
abbrev DRAM_ECC_CE_COUNT : Nat := 0x90038
abbrev DRAM_ECC_UE_COUNT : Nat := 0x9003C
abbrev DRAM_ECC_ADDR_LO : Nat := 0x90040
abbrev DRAM_ECC_ADDR_HI : Nat := 0x90044
abbrev DRAM_SCRUB_PERIOD : Nat := 0x90048
abbrev DRAM_PAGE_IDLE : Nat := 0x9004C
abbrev DRAM_TRAIN_RESULT : Nat := 0x90050
abbrev DRAM_PORT_LAT (k : Nat) : Nat := 0x90100 + 0x10 * (k % 6)
abbrev DRAM_PORT_MISS (k : Nat) : Nat := 0x90104 + 0x10 * (k % 6)
abbrev DRAM_PORT_THROT (k : Nat) : Nat := 0x90108 + 0x10 * (k % 6)
abbrev DRAM_PS_QUOTA (k : Nat) : Nat := 0x90200 + 0x4 * (k % 8)
abbrev DRAM_PS_HELD (k : Nat) : Nat := 0x90220 + 0x4 * (k % 8)
abbrev SCAN_CFG : Nat := 0xA0000
abbrev SCAN_STATUS : Nat := 0xA0004
abbrev SCAN_EVENTS : Nat := 0xA0008
abbrev SCAN_EVENT_EN : Nat := 0xA000C
abbrev SCAN_MEAS_CLR : Nat := 0xA0010
abbrev SCAN_STN_CFG (k : Nat) : Nat := 0xA0100 + 0x100 * (k % 8)
abbrev SCAN_STN_KPIX (k : Nat) : Nat := 0xA0104 + 0x100 * (k % 8)
abbrev SCAN_STN_SOS (k : Nat) : Nat := 0xA0108 + 0x100 * (k % 8)
abbrev SCAN_STN_PIXCFG (k : Nat) : Nat := 0xA010C + 0x100 * (k % 8)
abbrev SCAN_STN_BDWIN (k : Nat) : Nat := 0xA0110 + 0x100 * (k % 8)
abbrev SCAN_STN_SLOPE (k : Nat) : Nat := 0xA0114 + 0x100 * (k % 8)
abbrev SCAN_STN_DRUM (k : Nat) : Nat := 0xA0118 + 0x100 * (k % 8)
abbrev SCAN_STN_DRUM_SCALE (k : Nat) : Nat := 0xA011C + 0x100 * (k % 8)
abbrev SCAN_STN_LEAD (k : Nat) : Nat := 0xA0120 + 0x100 * (k % 8)
abbrev SCAN_STN_REG_LIMIT (k : Nat) : Nat := 0xA0124 + 0x100 * (k % 8)
abbrev SCAN_STN_DRUM_IDX (k : Nat) : Nat := 0xA0128 + 0x100 * (k % 8)
abbrev SCAN_STN_STATE (k : Nat) : Nat := 0xA0130 + 0x100 * (k % 8)
abbrev SCAN_STN_PERIOD (k : Nat) : Nat := 0xA0134 + 0x100 * (k % 8)
abbrev SCAN_STN_NDIV (k : Nat) : Nat := 0xA0138 + 0x100 * (k % 8)
abbrev SCAN_STN_PIXNOW (k : Nat) : Nat := 0xA013C + 0x100 * (k % 8)
abbrev SCAN_STN_LINE_LO (k : Nat) : Nat := 0xA0140 + 0x100 * (k % 8)
abbrev SCAN_STN_LINE_HI (k : Nat) : Nat := 0xA0144 + 0x100 * (k % 8)
abbrev SCAN_STN_REG_ERR (k : Nat) : Nat := 0xA0148 + 0x100 * (k % 8)
abbrev SCAN_STN_COUNT_MISS (k : Nat) : Nat := 0xA014C + 0x100 * (k % 8)
abbrev SCAN_STN_COUNT_UNDER (k : Nat) : Nat := 0xA0150 + 0x100 * (k % 8)
abbrev SCAN_STN_COUNT_STRAY (k : Nat) : Nat := 0xA0154 + 0x100 * (k % 8)
abbrev SCAN_STN_PYR (s e : Nat) : Nat := 0xA0160 + 0x100 * (s % 8) + 0x4 * (e % 8)
abbrev SCAN_STN_FPER (s e : Nat) : Nat := 0xA0180 + 0x100 * (s % 8) + 0x4 * (e % 8)
abbrev SCAN_STN_RESID (s e : Nat) : Nat := 0xA1000 + 0x100 * (s % 8) + 0x4 * (e % 64)
abbrev BEAM_CFG : Nat := 0xB0000
abbrev BEAM_CTRL : Nat := 0xB0004
abbrev BEAM_STATUS : Nat := 0xB0008
abbrev BEAM_EVENTS : Nat := 0xB000C
abbrev BEAM_EVENT_EN : Nat := 0xB0010
abbrev BEAM_ILK_COUNT : Nat := 0xB0014
abbrev BEAM_STN_CFG (k : Nat) : Nat := 0xB0100 + 0x40 * (k % 8)
abbrev BEAM_STN_APC (k : Nat) : Nat := 0xB0104 + 0x40 * (k % 8)
abbrev BEAM_STN_CTRL (k : Nat) : Nat := 0xB0108 + 0x40 * (k % 8)
abbrev BEAM_STN_STATE (k : Nat) : Nat := 0xB010C + 0x40 * (k % 8)
abbrev BEAM_STN_FAILED_LO (k : Nat) : Nat := 0xB0110 + 0x40 * (k % 8)
abbrev BEAM_STN_FAILED_HI (k : Nat) : Nat := 0xB0114 + 0x40 * (k % 8)
abbrev BEAM_STN_HEAD_TEMP (k : Nat) : Nat := 0xB0118 + 0x40 * (k % 8)
abbrev BEAM_STN_FACET_SEQ (k : Nat) : Nat := 0xB011C + 0x40 * (k % 8)
abbrev BEAM_STN_MAP_VALID (k : Nat) : Nat := 0xB0120 + 0x40 * (k % 8)
abbrev BEAM_STN_COUNT_FAILOVER (k : Nat) : Nat := 0xB0124 + 0x40 * (k % 8)
abbrev BEAM_STN_COUNT_BADREP (k : Nat) : Nat := 0xB0128 + 0x40 * (k % 8)
abbrev BEAM_STN_COUNT_FRAME_BAD (k : Nat) : Nat := 0xB012C + 0x40 * (k % 8)
abbrev BEAM_STN_LINK_LOG (k : Nat) : Nat := 0xB0130 + 0x40 * (k % 8)
abbrev STEP_EVENTS : Nat := 0xC0000
abbrev STEP_EVENT_EN : Nat := 0xC0004
abbrev STEP_ENABLED0 : Nat := 0xC0008
abbrev STEP_ENABLED1 : Nat := 0xC000C
abbrev STEP_LINK_CFG (k : Nat) : Nat := 0xC0010 + 0x8 * (k % 2)
abbrev STEP_LINK_STATE (k : Nat) : Nat := 0xC0014 + 0x8 * (k % 2)
abbrev STEP_VM_CFG (k : Nat) : Nat := 0xC0100 + 0x10 * (k % 8)
abbrev STEP_VM_VEL (k : Nat) : Nat := 0xC0104 + 0x10 * (k % 8)
abbrev STEP_VM_ACC (k : Nat) : Nat := 0xC0108 + 0x10 * (k % 8)
abbrev STEP_VM_POS (k : Nat) : Nat := 0xC010C + 0x10 * (k % 8)
abbrev STEP_AX_CFG (k : Nat) : Nat := 0xC1000 + 0x80 * (k % 48)
abbrev STEP_AX_CUR (k : Nat) : Nat := 0xC1004 + 0x80 * (k % 48)
abbrev STEP_AX_CMD (k : Nat) : Nat := 0xC1008 + 0x80 * (k % 48)
abbrev STEP_AX_TARGET_LO (k : Nat) : Nat := 0xC100C + 0x80 * (k % 48)
abbrev STEP_AX_TARGET_HI (k : Nat) : Nat := 0xC1010 + 0x80 * (k % 48)
abbrev STEP_AX_STATE (k : Nat) : Nat := 0xC1014 + 0x80 * (k % 48)
abbrev STEP_AX_RESULT (k : Nat) : Nat := 0xC1018 + 0x80 * (k % 48)
abbrev STEP_AX_POS_LO (k : Nat) : Nat := 0xC101C + 0x80 * (k % 48)
abbrev STEP_AX_POS_HI (k : Nat) : Nat := 0xC1020 + 0x80 * (k % 48)
abbrev STEP_AX_VEL (k : Nat) : Nat := 0xC1024 + 0x80 * (k % 48)
abbrev STEP_AX_LOAD (k : Nat) : Nat := 0xC1028 + 0x80 * (k % 48)
abbrev STEP_AX_STALL_CFG (k : Nat) : Nat := 0xC102C + 0x80 * (k % 48)
abbrev STEP_AX_EMF_CFG (k : Nat) : Nat := 0xC1030 + 0x80 * (k % 48)
abbrev STEP_AX_START_WAIT (k : Nat) : Nat := 0xC1034 + 0x80 * (k % 48)
abbrev STEP_AX_HOME_CFG (k : Nat) : Nat := 0xC1038 + 0x80 * (k % 48)
abbrev STEP_AX_HOME_WIN (k : Nat) : Nat := 0xC103C + 0x80 * (k % 48)
abbrev STEP_AX_HOME_CREEP (k : Nat) : Nat := 0xC1040 + 0x80 * (k % 48)
abbrev STEP_AX_HOME_BACKOFF (k : Nat) : Nat := 0xC1044 + 0x80 * (k % 48)
abbrev STEP_AX_HOME_MAX (k : Nat) : Nat := 0xC1048 + 0x80 * (k % 48)
abbrev STEP_AX_HOME_OFFSET (k : Nat) : Nat := 0xC104C + 0x80 * (k % 48)
abbrev STEP_AX_CAM_CFG (k : Nat) : Nat := 0xC1050 + 0x80 * (k % 48)
abbrev STEP_AX_CAM_MCYCLE (k : Nat) : Nat := 0xC1054 + 0x80 * (k % 48)
abbrev STEP_AX_CAM_SCYCLE (k : Nat) : Nat := 0xC1058 + 0x80 * (k % 48)
abbrev STEP_AX_CAM_PHASE (k : Nat) : Nat := 0xC105C + 0x80 * (k % 48)
abbrev STEP_AX_CAM_ORIGIN (k : Nat) : Nat := 0xC1060 + 0x80 * (k % 48)
abbrev STEP_AX_CAM_CATCH (k : Nat) : Nat := 0xC1064 + 0x80 * (k % 48)
abbrev STEP_AX_FAULT (k : Nat) : Nat := 0xC1068 + 0x80 * (k % 48)
abbrev STEP_AX_HOME_LATCH (k : Nat) : Nat := 0xC106C + 0x80 * (k % 48)
abbrev SIO_CFG : Nat := 0x110000
abbrev SIO_SCAP_FILT : Nat := 0x110004
abbrev SIO_SCAP_LEVEL : Nat := 0x110008
abbrev SIO_EVENTS : Nat := 0x11000C
abbrev SIO_EVENT_EN : Nat := 0x110010
abbrev SIO_PICK_CFG : Nat := 0x110014
abbrev SIO_IN (k : Nat) : Nat := 0x110020 + 0x4 * (k % 8)
abbrev SIO_OUT (k : Nat) : Nat := 0x110040 + 0x4 * (k % 8)
abbrev AXIS_EVENTS : Nat := 0xD0000
abbrev AXIS_EVENT_EN : Nat := 0xD0004
abbrev AXIS_ENABLED : Nat := 0xD0008
abbrev AXIS_LINK_CFG (k : Nat) : Nat := 0xD0010 + 0x8 * (k % 4)
abbrev AXIS_LINK_STATE (k : Nat) : Nat := 0xD0014 + 0x8 * (k % 4)
abbrev AXIS_HUB_BUS (k : Nat) : Nat := 0xD0040 + 0x8 * (k % 4)
abbrev AXIS_HUB_TRIP (k : Nat) : Nat := 0xD0044 + 0x8 * (k % 4)
abbrev AXIS_HUB_VBUS (k : Nat) : Nat := 0xD0060 + 0x4 * (k % 4)
abbrev AXIS_AX_CFG (k : Nat) : Nat := 0xD1000 + 0x80 * (k % 24)
abbrev AXIS_AX_CMD (k : Nat) : Nat := 0xD1004 + 0x80 * (k % 24)
abbrev AXIS_AX_TARGET_LO (k : Nat) : Nat := 0xD1008 + 0x80 * (k % 24)
abbrev AXIS_AX_TARGET_HI (k : Nat) : Nat := 0xD100C + 0x80 * (k % 24)
abbrev AXIS_AX_STATE (k : Nat) : Nat := 0xD1010 + 0x80 * (k % 24)
abbrev AXIS_AX_RESULT (k : Nat) : Nat := 0xD1014 + 0x80 * (k % 24)
abbrev AXIS_AX_POS_LO (k : Nat) : Nat := 0xD1018 + 0x80 * (k % 24)
abbrev AXIS_AX_POS_HI (k : Nat) : Nat := 0xD101C + 0x80 * (k % 24)
abbrev AXIS_AX_CPOS_LO (k : Nat) : Nat := 0xD1020 + 0x80 * (k % 24)
abbrev AXIS_AX_CPOS_HI (k : Nat) : Nat := 0xD1024 + 0x80 * (k % 24)
abbrev AXIS_AX_VEL (k : Nat) : Nat := 0xD1028 + 0x80 * (k % 24)
abbrev AXIS_AX_VCMD (k : Nat) : Nat := 0xD102C + 0x80 * (k % 24)
abbrev AXIS_AX_ILOOP (k : Nat) : Nat := 0xD1030 + 0x80 * (k % 24)
abbrev AXIS_AX_SLOOP (k : Nat) : Nat := 0xD1034 + 0x80 * (k % 24)
abbrev AXIS_AX_LIMITS (k : Nat) : Nat := 0xD1038 + 0x80 * (k % 24)
abbrev AXIS_AX_SHUNT (k : Nat) : Nat := 0xD103C + 0x80 * (k % 24)
abbrev AXIS_AX_SENSOR (k : Nat) : Nat := 0xD1040 + 0x80 * (k % 24)
abbrev AXIS_AX_OBS_CFG (k : Nat) : Nat := 0xD1044 + 0x80 * (k % 24)
abbrev AXIS_AX_VMIN (k : Nat) : Nat := 0xD1048 + 0x80 * (k % 24)
abbrev AXIS_AX_STILL (k : Nat) : Nat := 0xD104C + 0x80 * (k % 24)
abbrev AXIS_AX_MOTOR_RL (k : Nat) : Nat := 0xD1050 + 0x80 * (k % 24)
abbrev AXIS_AX_MOTOR_KE (k : Nat) : Nat := 0xD1054 + 0x80 * (k % 24)
abbrev AXIS_AX_START_CFG (k : Nat) : Nat := 0xD1058 + 0x80 * (k % 24)
abbrev AXIS_AX_START_I (k : Nat) : Nat := 0xD105C + 0x80 * (k % 24)
abbrev AXIS_AX_START_WAIT (k : Nat) : Nat := 0xD1060 + 0x80 * (k % 24)
abbrev AXIS_AX_CATCH_CFG (k : Nat) : Nat := 0xD1064 + 0x80 * (k % 24)
abbrev AXIS_AX_POLY_CFG (k : Nat) : Nat := 0xD1068 + 0x80 * (k % 24)
abbrev AXIS_AX_BD_EANGLE (k : Nat) : Nat := 0xD106C + 0x80 * (k % 24)
abbrev AXIS_AX_CONF (k : Nat) : Nat := 0xD1070 + 0x80 * (k % 24)
abbrev AXIS_AX_FAULT (k : Nat) : Nat := 0xD1074 + 0x80 * (k % 24)
abbrev AXIS_AX_JITTER (k : Nat) : Nat := 0xD1078 + 0x80 * (k % 24)
abbrev AXIS_AX_COUNTS (k : Nat) : Nat := 0xD107C + 0x80 * (k % 24)
abbrev LOOP_EVENTS : Nat := 0xE0000
abbrev LOOP_EVENT_EN : Nat := 0xE0004
abbrev LOOP_ENABLED_LO : Nat := 0xE0008
abbrev LOOP_ENABLED_HI : Nat := 0xE000C
abbrev LOOP_LINK_CFG (k : Nat) : Nat := 0xE0010 + 0x8 * (k % 2)
abbrev LOOP_LINK_STATE (k : Nat) : Nat := 0xE0014 + 0x8 * (k % 2)
abbrev LOOP_LP_CFG (k : Nat) : Nat := 0xE1000 + 0x80 * (k % 64)
abbrev LOOP_LP_CMD (k : Nat) : Nat := 0xE1004 + 0x80 * (k % 64)
abbrev LOOP_LP_SETPOINT (k : Nat) : Nat := 0xE1008 + 0x80 * (k % 64)
abbrev LOOP_LP_BAND (k : Nat) : Nat := 0xE100C + 0x80 * (k % 64)
abbrev LOOP_LP_MINTIME (k : Nat) : Nat := 0xE1010 + 0x80 * (k % 64)
abbrev LOOP_LP_RANGE (k : Nat) : Nat := 0xE1014 + 0x80 * (k % 64)
abbrev LOOP_LP_TIMERS (k : Nat) : Nat := 0xE1018 + 0x80 * (k % 64)
abbrev LOOP_LP_PART (k : Nat) : Nat := 0xE101C + 0x80 * (k % 64)
abbrev LOOP_LP_BINS (k : Nat) : Nat := 0xE1020 + 0x80 * (k % 64)
abbrev LOOP_LP_CYCLE (k : Nat) : Nat := 0xE1024 + 0x80 * (k % 64)
abbrev LOOP_LP_ORIGIN (k : Nat) : Nat := 0xE1028 + 0x80 * (k % 64)
abbrev LOOP_LP_GAIN (k : Nat) : Nat := 0xE102C + 0x80 * (k % 64)
abbrev LOOP_LP_FREEZE (k : Nat) : Nat := 0xE1030 + 0x80 * (k % 64)
abbrev LOOP_LP_MINSPEED (k : Nat) : Nat := 0xE1034 + 0x80 * (k % 64)
abbrev LOOP_LP_STATE (k : Nat) : Nat := 0xE1038 + 0x80 * (k % 64)
abbrev LOOP_LP_STATUS (k : Nat) : Nat := 0xE103C + 0x80 * (k % 64)
abbrev LOOP_LP_RESULT (k : Nat) : Nat := 0xE1040 + 0x80 * (k % 64)
abbrev LOOP_LP_FAULT (k : Nat) : Nat := 0xE1044 + 0x80 * (k % 64)
abbrev LOOP_LP_DUTY (k : Nat) : Nat := 0xE1048 + 0x80 * (k % 64)
abbrev CNPY_STATUS : Nat := 0xF0000
abbrev CNPY_OWED : Nat := 0xF0004
abbrev CNPY_RES_TOTAL : Nat := 0xF0008
abbrev CNPY_EVENTS : Nat := 0xF000C
abbrev CNPY_EVENT_EN : Nat := 0xF0010
abbrev CNPY_QSEL : Nat := 0xF0014
abbrev CNPY_QCMD : Nat := 0xF0018
abbrev CNPY_QRESULT : Nat := 0xF001C
abbrev CNPY_QCFG0 : Nat := 0xF0020
abbrev CNPY_QCFG1 : Nat := 0xF0024
abbrev CNPY_QCFG2 : Nat := 0xF0028
abbrev CNPY_QCFG3 : Nat := 0xF002C
abbrev CNPY_QSTATE : Nat := 0xF0030
abbrev CNPY_COUNT_DROP : Nat := 0xF0034
abbrev CNPY_COUNT_MISMATCH : Nat := 0xF0038
abbrev CNPY_MISMATCH_Q : Nat := 0xF003C
abbrev CNPY_NOTICE_BACKLOG : Nat := 0xF0040
abbrev DMA_CTRL : Nat := 0x100000
abbrev DMA_STATUS : Nat := 0x100004
abbrev DMA_EVENTS : Nat := 0x100008
abbrev DMA_EVENT_EN : Nat := 0x10000C
abbrev DMA_HALT_ADDR_LO : Nat := 0x100010
abbrev DMA_HALT_ADDR_HI : Nat := 0x100014
abbrev DMA_HALT_INFO : Nat := 0x100018
abbrev DMA_EVT_LO : Nat := 0x100020
abbrev DMA_EVT_HI : Nat := 0x100024
abbrev DMA_EVT_CLR_LO : Nat := 0x100028
abbrev DMA_EVT_CLR_HI : Nat := 0x10002C
abbrev DMA_ACTIVE_LO : Nat := 0x100030
abbrev DMA_ACTIVE_HI : Nat := 0x100034
abbrev DMA_CH_CFG (k : Nat) : Nat := 0x101000 + 0x40 * (k % 64)
abbrev DMA_CH_CTRL (k : Nat) : Nat := 0x101004 + 0x40 * (k % 64)
abbrev DMA_CH_ADDR_LO (k : Nat) : Nat := 0x101008 + 0x40 * (k % 64)
abbrev DMA_CH_ADDR_HI (k : Nat) : Nat := 0x10100C + 0x40 * (k % 64)
abbrev DMA_CH_STATE (k : Nat) : Nat := 0x101010 + 0x40 * (k % 64)
abbrev DMA_CH_LOOP01 (k : Nat) : Nat := 0x101014 + 0x40 * (k % 64)
abbrev DMA_CH_LOOP2 (k : Nat) : Nat := 0x101018 + 0x40 * (k % 64)
abbrev DMA_CH_ERRADDR_LO (k : Nat) : Nat := 0x10101C + 0x40 * (k % 64)
abbrev DMA_CH_ERRADDR_HI (k : Nat) : Nat := 0x101020 + 0x40 * (k % 64)
abbrev DMA_CH_SIGVAL (k : Nat) : Nat := 0x101024 + 0x40 * (k % 64)
abbrev DMA_CH_BYTES (k : Nat) : Nat := 0x101028 + 0x40 * (k % 64)
abbrev FLT_CTRL : Nat := 0x40000
abbrev FLT_STATUS : Nat := 0x40004
abbrev FLT_SAFE_CAUSE : Nat := 0x40008
abbrev FLT_SAFE_SRC : Nat := 0x4000C
abbrev FLT_SAFE_TICK_LO : Nat := 0x40010
abbrev FLT_SAFE_TICK_HI : Nat := 0x40014
abbrev FLT_EVENTS : Nat := 0x40018
abbrev FLT_EVENT_EN : Nat := 0x4001C
abbrev FLT_RESULT : Nat := 0x40020
abbrev FLT_ESC_REACT : Nat := 0x40024
abbrev FLT_ESC_LEAK : Nat := 0x40028
abbrev FLT_RESET_WAIT : Nat := 0x4002C
abbrev FLT_ESC_CLR : Nat := 0x40030
abbrev FLT_INJECT : Nat := 0x40034
abbrev FLT_INJECT_ADDR : Nat := 0x40038
abbrev FLT_LAST_RESET : Nat := 0x4003C
abbrev FLT_LOG_WR : Nat := 0x40040
abbrev FLT_COUNT_MSG : Nat := 0x40044
abbrev FLT_COUNT_MERGED : Nat := 0x40048
abbrev FLT_BLOCK_PEND : Nat := 0x40080
abbrev FLT_PEND_LO (k : Nat) : Nat := 0x40100 + 0x8 * (k % 32)
abbrev FLT_PEND_HI (k : Nat) : Nat := 0x40104 + 0x8 * (k % 32)
abbrev FLT_REACT (k : Nat) : Nat := 0x41000 + 0x4 * (k % 512)
abbrev FLT_ESC (k : Nat) : Nat := 0x42000 + 0x4 * (k % 512)
abbrev FLT_LOG (k : Nat) : Nat := 0x44000 + 0x10 * (k % 256)
abbrev HWD_CFG : Nat := 0x50000
abbrev HWD_STATUS : Nat := 0x50004
abbrev HWD_EVENTS : Nat := 0x50008
abbrev HWD_EVENT_EN : Nat := 0x5000C
abbrev HWD_EPOCH : Nat := 0x50010
abbrev HWD_HEAD_SEQ : Nat := 0x50014
abbrev HWD_OLDEST_SEQ : Nat := 0x50018
abbrev HWD_SNAP_CTRL : Nat := 0x5001C
abbrev HWD_SNAP_FIRST : Nat := 0x50020
abbrev HWD_SNAP_LAST : Nat := 0x50024
abbrev HWD_READ_SEQ : Nat := 0x50028
abbrev HWD_READ_STATUS : Nat := 0x5002C
abbrev HWD_EXPORT_FROM : Nat := 0x50030
abbrev HWD_EXPORT_SEQ : Nat := 0x50034
abbrev HWD_COUNT_LOST : Nat := 0x50038
abbrev HWD_COUNT_EXPORT_LOST : Nat := 0x5003C
abbrev HWD_COUNT_TORN : Nat := 0x50040
abbrev HWD_CLR_CTRL : Nat := 0x50044
abbrev HWD_CLR_RESULT : Nat := 0x50048
abbrev HWD_CLR_TMO : Nat := 0x5004C
abbrev HWD_CLR_FAILS : Nat := 0x50050
abbrev HWD_CLR_CHAL (k : Nat) : Nat := 0x50060 + 0x4 * (k % 8)
abbrev HWD_CLR_RESP (k : Nat) : Nat := 0x50080 + 0x4 * (k % 8)
abbrev HWD_READ_DATA (k : Nat) : Nat := 0x50100 + 0x4 * (k % 16)
abbrev HWD_RATE (k : Nat) : Nat := 0x52000 + 0x8 * (k % 1024)
abbrev HWD_RATE_STATE (k : Nat) : Nat := 0x52004 + 0x8 * (k % 1024)
abbrev PWR_SEQ_CTRL : Nat := 0x20000
abbrev PWR_SEQ_STATE : Nat := 0x20004
abbrev PWR_EVENTS : Nat := 0x20008
abbrev PWR_EVENT_EN : Nat := 0x2000C
abbrev PWR_SEQ_CFG : Nat := 0x20010
abbrev PWR_PG_CFG : Nat := 0x20014
abbrev PWR_POLL_CFG : Nat := 0x20018
abbrev PWR_MIN_OFF : Nat := 0x2001C
abbrev PWR_MARGIN_CFG : Nat := 0x20020
abbrev PWR_RESULT : Nat := 0x20024
abbrev PWR_DOM_REQ : Nat := 0x20028
abbrev PWR_DOM_STATE : Nat := 0x2002C
abbrev PWR_RAIL_CFG (k : Nat) : Nat := 0x21000 + 0x10 * (k % 64)
abbrev PWR_RAIL_CTL (k : Nat) : Nat := 0x21004 + 0x10 * (k % 64)
abbrev PWR_RAIL_STATE (k : Nat) : Nat := 0x21008 + 0x10 * (k % 64)
abbrev PWR_RAIL_READ (k : Nat) : Nat := 0x2100C + 0x10 * (k % 64)
abbrev THM_STATUS : Nat := 0x30000
abbrev THM_EVENTS : Nat := 0x30004
abbrev THM_EVENT_EN : Nat := 0x30008
abbrev THM_CFG : Nat := 0x3000C
abbrev THM_THR_REPEAT : Nat := 0x30010
abbrev THM_LATCHED : Nat := 0x30014
abbrev THM_THAW_COUNT : Nat := 0x30018
abbrev THM_CH_CFG (k : Nat) : Nat := 0x30100 + 0x20 * (k % 20)
abbrev THM_CH_NTC (k : Nat) : Nat := 0x30104 + 0x20 * (k % 20)
abbrev THM_CH_LEVEL0 (k : Nat) : Nat := 0x30108 + 0x20 * (k % 20)
abbrev THM_CH_LEVEL1 (k : Nat) : Nat := 0x3010C + 0x20 * (k % 20)
abbrev THM_CH_TEMP (k : Nat) : Nat := 0x30110 + 0x20 * (k % 20)
abbrev CLK_STATUS : Nat := 0x10000
abbrev CLK_EVENTS : Nat := 0x10004
abbrev CLK_EVENT_EN : Nat := 0x10008
abbrev CLK_TICK_LO : Nat := 0x10010
abbrev CLK_TICK_HI : Nat := 0x10014
abbrev CLK_RST_CTRL : Nat := 0x10018
abbrev CLK_RST_CAUSE : Nat := 0x1001C
abbrev CLK_RST_COUNT : Nat := 0x10020
abbrev CLK_WDT : Nat := 0x10024
abbrev CLK_WDT_KICK : Nat := 0x10028
abbrev CLK_FMON : Nat := 0x1002C
abbrev CLK_PLL_STATE (k : Nat) : Nat := 0x10100 + 0x4 * (k % 10)
abbrev CLK_BAND_b (p b : Nat) : Nat := 0x11000 + 0x80 * (p % 10) + 0x4 * (b % 32)
abbrev LCS_STATUS : Nat := 0x18000
abbrev LCS_EVENTS : Nat := 0x18004
abbrev LCS_EVENT_EN : Nat := 0x18008
abbrev LCS_FW_VERSION : Nat := 0x1800C
abbrev LCS_PERS_VERSION : Nat := 0x18010
abbrev LCS_MATRIX_VERSION : Nat := 0x18014
abbrev LCS_BOOT_STATUS : Nat := 0x18018
abbrev LCS_ACCEPT : Nat := 0x1801C
abbrev LCS_ACCEPT_RESULT : Nat := 0x18020
abbrev LCS_BOOT_CTRL : Nat := 0x18024
abbrev LCS_TRANS_CTRL : Nat := 0x18028
abbrev LCS_TRANS_RESULT : Nat := 0x1802C
abbrev LCS_UID_LO : Nat := 0x18030
abbrev LCS_UID_HI : Nat := 0x18034
abbrev LCS_OTP_CTRL : Nat := 0x18038
abbrev LCS_OTP_RESULT : Nat := 0x1803C
abbrev LCS_TOKEN (k : Nat) : Nat := 0x18100 + 0x4 * (k % 16)
abbrev LCS_OTP_DATA (k : Nat) : Nat := 0x18140 + 0x4 * (k % 8)
abbrev LEG_CFG : Nat := 0x120000
abbrev LEG_STATUS : Nat := 0x120004
abbrev LEG_EVENTS : Nat := 0x120008
abbrev LEG_EVENT_EN : Nat := 0x12000C
abbrev LEG_GAP : Nat := 0x120010
abbrev LEG_PAGE : Nat := 0x120014
abbrev LEG_TOP : Nat := 0x120018
abbrev LEG_PERIOD : Nat := 0x12001C
abbrev LEG_LAST_ID : Nat := 0x120020
abbrev LEG_COUNT_PAGES : Nat := 0x120024
abbrev LEG_COUNT_UNDERRUN : Nat := 0x120028
abbrev LEG_COUNT_CMD : Nat := 0x12002C
abbrev LEG_TRACE : Nat := 0x120030
abbrev LEG_TONER : Nat := 0x120034
abbrev LEG_STN_SKIP (k : Nat) : Nat := 0x120040 + 0x4 * (k % 4)
abbrev LEG_LANE_STATE (k : Nat) : Nat := 0x120050 + 0x4 * (k % 4)

end Sys2Proof.Machine.Reg
end

