-- ==== Sys2Proof/Machine/State.lean ====
section
/-!
DEFINITION. The state of the AQ9640 as plain data: every register, table, queue, counter, latch and pin the spec gives
it, the reasons a command can stop, and the state after power-on reset. The registers of the three windows live in one
sparse store keyed by BAR0 offset (`regs`); what a register shows of a richer object (a stepper's speed with its full
fraction, a queue's cells) lives in that object. Every indexed collection is a list of (index, value) pairs in rising
order of the index that lists no entry equal to the collection's default, so that equal states are equal data.
-/

namespace Sys2Proof.Machine

/-- A sparse collection: pairs (index, value), indices strictly rising, no default value listed. -/
abbrev Tab (α : Type) := List (Nat × α)

/-- On-chip SRAM or host-visible table memory: bytes by address, an unlisted byte reads zero (the SRAM wipe of R497). -/
abbrev Memory := List Host.Cell

/-- What stops the block. -/
inductive Fault where
  /-- Raised by a command whose operands no port can deliver: a descriptor that is not 64 bytes, a BAR1 write longer
  than the Max Payload Size (R77), a list of the wrong length. Safe: the hardware never sees such a command. -/
  | illFormed
  deriving DecidableEq, Repr

/-- Why a command has no meaning. -/
inductive Refusal where
  /-- Raised only by an arm of `exec` whose command the model does not yet give a meaning. Safe: nothing can be proved of
  the state after it. -/
  | notModelled (mnemonic : String)
  deriving DecidableEq, Repr

/-! ### Host attachment (chapter "Host attachment, descriptor rings and doorbells") -/

/-- An item taken from a host-to-controller ring, or made by LEG on the formatter's behalf (R95, R534). -/
structure Item where
  /-- The tag of R13. -/
  tag : DWord
  /-- Source ring 0 to 9, or 31 for an item that LEG made. -/
  ring : Nat
  /-- Index of the first descriptor (R98). -/
  index : Nat
  /-- The number of the item among all that the ring has taken since reset. -/
  serial : Nat
  /-- Descriptors of the item. -/
  count : Nat
  cookie : Nat
  /-- CPL of the first descriptor (R99). -/
  cpl : Bool
  /-- Byte count of the item's buffers. -/
  len : Nat
  opcode : Nat
  block : Nat
  /-- The 48 payload bytes of a command, or the item's data. -/
  data : List Byte
  /-- TARGET of a TABLE item. -/
  target : Nat
  /-- The first tick in which a READ slot can bring it from its Canopy queue to its block (R388). -/
  readyAt : Nat
  deriving DecidableEq, Repr

/-- The outcome of an item: STATUS, DETAIL, and the tick and sub-tick of the decision (R98). -/
structure ItemResult where
  status : Nat
  detail : Nat
  tick : Nat
  sub : Nat
  deriving DecidableEq, Repr

/-- An item taken from a ring and not yet shown complete; records of one ring appear in descriptor order (R99). -/
structure OpenItem where
  index : Nat
  serial : Nat
  tag : DWord
  cookie : Nat
  cpl : Bool
  count : Nat
  len : Nat
  result : Option ItemResult
  deriving DecidableEq, Repr

/-- A completion record of ring 14 (R98), without its fixed zero bytes. -/
structure Completion where
  tag : DWord
  cookie : Nat
  /-- 0 descriptor completion, 1 ledger record. -/
  type : Nat
  ring : Nat
  status : Nat
  detail : Nat
  index : Nat
  sub : Nat
  tick : Nat
  /-- Bytes 0x20 to 0x3F. -/
  body : List Byte
  deriving DecidableEq, Repr

/-- A doorbell write that waits for a page that holds its ring's INGRESS slot (R45). -/
structure WaitingDoorbell where
  ring : Nat
  value : Nat
  deriving DecidableEq, Repr

/-- HOST: what the block holds beside its registers. -/
structure HostBlk where
  /-- Items that passed the checks of R97, by owning block number (R97); data items of station s stand at 32 + s. -/
  inbox : Tab (List Item)
  /-- Items taken and not yet shown complete, by ring, oldest first. -/
  opened : Tab (List OpenItem)
  /-- The completion queue of R100, oldest first. -/
  completions : List Completion
  /-- How many of them were there when the tick began: what ring 14 may read in this tick (R388). -/
  ready : Nat
  /-- Taking of descriptors is held back (R100). -/
  held : Bool
  /-- Rings whose index changed since their write-back entry was written (R92). -/
  moved : Tab Bool
  /-- Rings whose vector waits (R104). -/
  ringVec : Tab Bool
  /-- One more than the tick in which the ring's vector was last sent; 0 never (R104). -/
  ringVecAt : Tab Nat
  /-- Vectors to be sent in the next emit phase (R103). -/
  vectors : List Nat
  /-- What host software has set in the PCIe configuration space; the values of a reset function otherwise (R71, R108). -/
  pci : PciSetup
  /-- The power state of the function: 0 D0, 3 D3hot (R71, R102). -/
  power : Nat
  /-- Items taken so far, of all rings: the serial number of the next. -/
  serials : Nat
  /-- Doorbells that wait for an INGRESS slot. -/
  doorbells : List WaitingDoorbell
  /-- The PCIe link is up (R102). -/
  linkUp : Bool
  /-- Items that READ slots have brought from each Canopy queue in this tick (R391). -/
  read : Tab Nat
  deriving DecidableEq, Repr

/-! ### The fault collector and Heartwood -/

/-- A fault message (R423); TICK16 is the low 16 bits of `stamp`. -/
structure FaultMsg where
  source : Nat
  kind : Nat
  addr : Nat
  stamp : Nat
  deriving DecidableEq, Repr

/-- A source's latch (R424). -/
structure Latch where
  msg : FaultMsg
  merged : Nat
  deriving DecidableEq, Repr

/-- A reset that waits for the axes to stop (R431, R498, R499): the tick that began the wait, the reset kind (2 chip, 3
core), the SOURCE of CLK_RST_CAUSE, and the message of the reaction that asked for it. -/
structure ResetWait where
  start : Nat
  kind : Nat
  cause : Nat
  msg : Option FaultMsg
  deriving DecidableEq, Repr

/-- A stay in the safe state, as its registers showed it (R433): causes, source, entry tick, and the tick that left it. -/
structure SafeStay where
  cause : Nat
  src : Nat
  entered : Nat
  leftAt : Nat
  /-- FLT_EVENTS.SAFE_LEFT before. -/
  flag : Bool
  deriving DecidableEq, Repr

/-- What a hardware path has done and the next tick gathers (R30, R427): the code of its Heartwood event with what that
carries, the tick, and whether it made an entry to the safe state. -/
structure HwPath where
  code : Nat
  args : List Nat
  stamp : Nat
  entry : Bool
  deriving DecidableEq, Repr

/-- FLT: what the collector holds beside its registers (the reaction table, the counters and the log are registers). -/
structure FltBlk where
  /-- Messages sent and not yet gathered, oldest first. -/
  sent : List FaultMsg
  latches : Tab Latch
  /-- One more than the tick whose evaluation (R427) has run; 0 none. -/
  evaluated : Nat
  /-- One more than the tick of the last safe-state entry decided or made by hardware; 0 none (R435). -/
  enteredAt : Nat
  resetWait : Option ResetWait
  /-- An ERR_N reaction was applied in this tick's evaluation (R436): one more than that tick. -/
  errnAt : Nat
  /-- Non-maskable traps sent to the management cores, wrapping (R429). -/
  traps : Nat
  /-- One more than the tick whose leak has run (R427); 0 none. -/
  leaked : Nat
  /-- Sources whose block reset the next compute phase carries out (R429, R430), and the links that train in the next tick,
  by instance of LINK. -/
  resets : List Nat
  retrain : List Nat
  /-- The safe state that SAFE_EXIT has left in this tick, which an entry of the same tick puts back (R436). -/
  left : Option SafeStay
  /-- What hardware paths have done and no tick has gathered (R30). -/
  paths : List HwPath
  deriving DecidableEq, Repr

/-- An event handed to Heartwood and not yet gathered (R447). -/
structure HwEvent where
  code : Nat
  tick : Nat
  sub : Nat
  fields : List Nat
  deriving DecidableEq, Repr

/-- A Heartwood record (R444); its CRC is that of its first 60 bytes. -/
structure Record where
  seq : Nat
  epoch : Nat
  code : Nat
  tick : Nat
  sub : Nat
  suppressed : Nat
  cont : Bool
  first : Bool
  payload : List Byte
  deriving DecidableEq, Repr

/-- A slot of the MRAM store (R444): a record whose CRC is right, or a slot whose CRC fails (torn, R453). -/
inductive Slot where
  | empty
  | holds (r : Record)
  | torn
  deriving DecidableEq, Repr

/-- A clearing challenge (R457). -/
structure Challenge where
  deadline : Nat
  headSeq : Nat
  epoch : Nat
  bytes : List Byte
  deriving DecidableEq, Repr

/-- HWD: what the recorder holds beside its registers. -/
structure HwdBlk where
  /-- Events sent and not yet gathered. -/
  sent : List HwEvent
  /-- The MRAM store, by slot number. It survives every reset. -/
  mram : Tab Slot
  /-- HWD_EPOCH in persistent configuration. -/
  epoch : Nat
  /-- The next SEQ to assign. -/
  nextSeq : Nat
  /-- The first SEQ of the present epoch. -/
  epochFirst : Nat
  /-- Greatest SEQ whose write completed, if any record is valid. -/
  head : Option Nat
  /-- The staging queue of R447, oldest first, at most 256. -/
  staging : List Record
  /-- The slot write of the front record has failed once (R448). -/
  retried : Bool
  /-- Records lost and not yet reported by 0x0E04, and whether the last was a write failure. -/
  lost : Nat
  lostByWrite : Bool
  /-- Fraction of each bucket in 1/65,536 token (R450). -/
  fraction : Tab Nat
  /-- Tick of the last REFILL (R450). -/
  lastRefill : Nat
  /-- One more than the tick whose REFILL has run; 0 none. -/
  refilled : Nat
  /-- One more than the tick from which a code's count has been pending; 0 none (R451). -/
  pendingSince : Tab Nat
  challenge : Option Challenge
  /-- First tick after the lockout (R457). -/
  lockoutEnd : Nat
  /-- One more than the tick in which HWD has made its decisions; 0 none (R452). -/
  decidedAt : Nat
  /-- Clearing submissions that came after them: the next tick gathers them (R25, R452). -/
  submits : List Writer
  deriving DecidableEq, Repr

/-! ### The Almanac -/

/-- A pending first activation or bank switch (R60, R63). -/
structure SwitchRequest where
  gathered : Nat
  deadline : Option Nat
  activation : Bool
  deriving DecidableEq, Repr

/-- What the next tick is to run (R60 to R63). -/
inductive NextPages where
  /-- Go on with the running season. -/
  | same
  /-- Entry 0 of this grade's season in this physical bank. -/
  | volume (bank grade : Nat)
  /-- The holding page. -/
  | holding
  deriving DecidableEq, Repr

/-- A facet plan to be taken at the first boundary after the emit phase of tick `decided` (R31). -/
structure PlanNext where
  /-- The volume taking effect: physical bank and grade; none at a RELEASE (R236). -/
  volume : Option (Nat × Nat)
  decided : Nat
  /-- The checks of R248 have been made at first activation. -/
  checked : Bool
  deriving DecidableEq, Repr

/-- ALM: what the block holds beside its registers. -/
structure AlmBlk where
  /-- The two physical banks, by image offset 0 to 528,383: the header, the library, the seasons, the facet plans. -/
  bank0 : Memory
  bank1 : Memory
  /-- Which physical bank is the standby bank (R36). -/
  standby : Nat
  /-- The active physical bank, if one is active (R36). -/
  active : Option Nat
  /-- Pieces marked written (R54). -/
  written : Tab Bool
  /-- Tick that gathered the CHECK under way (R55). -/
  checkAt : Option Nat
  request : Option SwitchRequest
  /-- Where the pending grade came from: 0 host, 1 governor, 2 thermal throttle (R62). -/
  gradeFrom : Nat
  /-- The governor's and the throttle's requests of this tick, as (grade, source): they join from the next tick on (R158). -/
  joins : List (Nat × Nat)
  /-- A RELEASE waits for DRAINING to end (R61). -/
  releaseWaits : Bool
  next : NextPages
  /-- Stations still to cross a facet boundary before DRAINING ends (R65). -/
  draining : Nat
  /-- Slots of the active bank with an uncorrectable error, by page × 1,024 + slot (R68). -/
  badSlots : Tab Bool
  /-- Facet entries with an uncorrectable error, by entry number (R68). -/
  badFacets : Tab Bool
  /-- A facet plan that a station takes at its next boundary, by station (R31, R62). -/
  plans : Tab PlanNext
  /-- One more than the tick whose gather is complete and whose decide phase is open; 0 none (R24, R28). -/
  opened : Nat
  deriving DecidableEq, Repr

/-! ### The sheet ledger, pacing and backhitch -/

/-- The states of R109. -/
inductive SheetState where
  | announced | admitted | committed | imaged | fused | delivered | spoiled | jammed | purged
  deriving DecidableEq, Repr

/-- One entry of the ledger (R109). -/
structure Sheet where
  id : Nat
  state : SheetState
  inPath : Bool
  stations : Nat
  /-- MODE: true for mode B. -/
  modeB : Bool
  lines : Nat
  lengthUm : Nat
  leadUm : Nat
  tray : Nat
  bin : Nat
  firstBand : Nat
  /-- Place in the reprint order (R126), for a sheet that was reprinted. -/
  reprint : Option Nat
  /-- Planned pick position Q, in 2⁻²⁴ µm (R128). -/
  q : Int
  /-- E of R128, in µm. -/
  e : Int
  /-- Bands resident, by station × 4,096 + band (R124). -/
  resident : Tab Bool
  /-- Bands whose deadline has fired (R135), by station × 4,096 + band. -/
  lateFired : Tab Bool
  /-- Deadlines of R134 that this tick's reports have made due, by station × 4,096 + band: one more than the tick. -/
  due : Tab Nat
  /-- The next band whose begun report is expected, per station (R134). -/
  begun : Tab Nat
  /-- Stations that have reported their last line (R133). -/
  lastLine : Nat
  /-- Targets met, by point × 2 + (1 for a trail target) (R131). -/
  met : Tab Bool
  /-- Targets whose window has closed with no edge gathered, by the same index (R132). -/
  closed : Tab Bool
  /-- Tick in which it reached DELIVERED or PURGED (R109). -/
  endedAt : Nat
  deriving DecidableEq, Repr

/-- What a unit reports to the ledger. -/
inductive ReportKind where
  /-- Station has begun a band (R134). -/
  | begun
  /-- Station has fired the sheet's last line (R133). -/
  | lastLine
  /-- Line-store underrun (R257). -/
  | underrun
  /-- A failed emitter without map, or a lost beam link (R279, R291). -/
  | beamFailure
  /-- A head has shut down (R281). -/
  | headShutdown
  /-- A polygon has lost its observer (R351). -/
  | observerLoss
  /-- A resident block was bad at decode (R198). -/
  | decodeFailure
  deriving DecidableEq, Repr

/-- A report to the ledger, stamped with the tick in which it was sent. -/
structure Report where
  kind : ReportKind
  sheet : Nat
  station : Nat
  band : Nat
  /-- The line of the band that the report names (R257, R289); 0 where it names none. -/
  line : Nat
  stamp : Nat
  deriving DecidableEq, Repr

/-- A data item held early (R122), or waiting for frames (R211). -/
structure HeldItem where
  item : Item
  deadline : Nat
  deriving DecidableEq, Repr

/-- LEDG: what the ledger holds beside its registers. -/
structure LedgBlk where
  sheets : Tab Sheet
  /-- The path position P of R112, in 2⁻²⁴ µm, and what is left below that, in 2⁻⁴⁸ µm. -/
  pos : Int
  posRem : Nat
  /-- P(n) of the last ticks, by tick (R113). -/
  posAt : Tab Int
  /-- Sheets admitted since reset or the last jam clear and not purged, last first: (id, Q in 2⁻²⁴ µm, LENGTH_UM) (R128). -/
  admitted : List (Nat × Int × Nat)
  /-- Places given out in the reprint order (R126). -/
  reprints : Nat
  /-- Items held early, by station (R122). -/
  early : Tab HeldItem
  /-- Items that wait for frames, by station (R211). -/
  waitFrames : Tab HeldItem
  reports : List Report
  /-- One more than the tick of the last grade change; 0 none (R127). -/
  gradeAt : Nat
  /-- Last tick of the pick pulse, and one more than it; 0 none (R129). -/
  pickUntil : Nat
  /-- One more than the tick of the last admission: sheets are admitted one at a time (R126). -/
  admitAt : Nat
  /-- Sheets already picked. -/
  picked : Tab Bool
  /-- Targets that edges have met since the last jam clear, as (point, position in 2⁻²⁴ µm): a later edge in one of their
  windows is ignored (R132). -/
  metAt : List (Nat × Int)
  deriving DecidableEq, Repr

/-- The pacing governor and the backhitch generator beside their registers. -/
structure PaceBlk where
  /-- Bands of each station that became resident, or were begun, in this tick's gather (R153). -/
  arrived : Tab Nat
  begun : Tab Nat
  /-- A governor step-down or step-up requested and not yet in effect (R156, R159). -/
  stepDown : Option Nat
  stepUp : Option Nat
  /-- One more than the tick of the last grade change that a step-down caused; 0 none (R158). -/
  downAt : Nat
  /-- No slower grade was present, and M has not risen to T1 since (R158). -/
  floored : Bool
  /-- Consecutive ticks, up to the last evaluated, with M at least UP since the last grade change (R159). -/
  upTicks : Nat
  /-- A step-down of the governor is among the changes that brought the grade below BASE_GRADE (R156). -/
  byGovernor : Bool
  /-- One more than the tick whose forecast has been made; 0 none. -/
  forecastAt : Nat
  /-- Backhitch: tick of the decision, tick of the last phase change. -/
  decidedAt : Nat
  phaseAt : Nat
  /-- Backhitch path speed, in 2⁻²⁴ µm per tick, signed (R160, R162). -/
  v : Int
  /-- P_low of R168, in 2⁻²⁴ µm. -/
  low : Int
  /-- The grade speed that ACCEL ends at, taken as it begins (R170). -/
  goal : Nat
  /-- One more than the tick in which the last backhitch ended: admission is held in that tick, too (R167, R171). -/
  endedAt : Nat
  /-- P had reached the latest admission point when the last tick was decided (R163). -/
  past : Bool
  /-- An abort is ramping the designated axes to zero (R172). -/
  aborting : Bool
  /-- PARK_LONG has been raised in this stay in PARK (R169). -/
  parkLong : Bool
  /-- Tick in which a backhitch was refused, so that the head is planned from q_now: one more than it (R166). -/
  refusedAt : Nat
  deriving DecidableEq, Repr
/-! ### Burl blocks and the page store -/

/-- A segment of a RAW item that compressor lanes work on (R189). -/
structure CompSeg where
  first : Nat
  count : Nat
  lane : Option Nat
  done : Bool
  deriving DecidableEq, Repr

/-- A RAW item in compression (R189, R210): its reserved frames and its segments. -/
structure CompJob where
  item : Item
  lines : Nat
  lineBytes : Nat
  frames : List Nat
  segs : List CompSeg
  deriving DecidableEq, Repr

/-- A block whose write to the page store is under way (R210). -/
structure Writing where
  item : Item
  frames : List Nat
  block : List Byte
  /-- The tick in which the write began. -/
  stamp : Nat
  deriving DecidableEq, Repr

/-- The segment that a decompressor lane holds (R194). -/
structure LaneWork where
  sheet : Nat
  station : Nat
  band : Nat
  seg : Nat
  /-- The next line of the band that the lane writes. -/
  line : Nat
  lineBytes : Nat
  /-- Output not yet written to line store, up to the end or the failing token. -/
  out : List Byte
  /-- Bytes of the whole output. -/
  total : Nat
  /-- Code and output offset of the failure that ends the segment (R197). -/
  fail : Option (Nat × Nat)
  deriving DecidableEq, Repr

/-- How far a band's decoding has come at a station. -/
structure BandDecode where
  segs : Nat
  /-- Segments handed out. -/
  handed : Nat
  /-- Segments that a block reset has taken from their lanes, to be handed out again (R430), lowest first. -/
  redo : List Nat
  /-- Segments that ended. -/
  ended : Nat
  failed : Bool
  deriving DecidableEq, Repr

/-- A decompressor binding decided and not yet in effect (R193): the 32 values. -/
structure BindNext where
  decided : Nat
  values : List Nat
  deriving DecidableEq, Repr

/-- BURLC and BURLD: what the blocks hold beside their registers. -/
structure BurlBlk where
  /-- RAW items in compression, oldest first. -/
  jobs : List CompJob
  /-- Blocks being written to the page store, oldest first. -/
  writing : List Writing
  lanes : Tab LaneWork
  /-- Decoding of bands, by sheet × 32,768 + station × 4,096 + band. -/
  decodes : Tab BandDecode
  bindNext : Option BindNext
  deriving DecidableEq, Repr

/-- The content of one 16 KB frame of DRAM: bytes, or a directory of lead-frame numbers by band (R209). -/
inductive FrameBytes where
  | raw (m : Memory)
  | directory (lead : Tab Nat)
  deriving DecidableEq, Repr

/-- A band held in the page store (R208): its frames, lead frame first, and the tick that gathered its residency. -/
structure BandRec where
  frames : List Nat
  since : Nat
  deriving DecidableEq, Repr

/-- A frame that is being returned (R212). -/
structure Returning where
  frame : Nat
  station : Nat
  decided : Nat
  deriving DecidableEq, Repr

/-- An entry of the row-disturbance tracker (R221). -/
structure RowEntry where
  row : Nat
  count : Nat
  /-- Counts of ports 0 to 5. -/
  ports : List Nat
  deriving DecidableEq, Repr

/-- A request that waits in the DRAM controller (R218 to R220). Times are in nanoseconds. -/
structure DramWait where
  port : Nat
  addr : Nat
  close : Bool
  arrived : Nat
  /-- It writes, and the bytes that a write of the MGMT port carries (R207). -/
  write : Bool
  data : List Byte
  /-- Urgency 4 has been counted (R220). -/
  missed : Bool
  deriving DecidableEq, Repr

/-- An open row of a bank (R219), with the time at which it was last used. -/
structure OpenRow where
  row : Nat
  used : Nat
  deriving DecidableEq, Repr

/-- DRAM: the two channels and the frame manager beside their registers. -/
structure DramBlk where
  /-- Frame contents by frame number; an unlisted frame holds zeros. -/
  bytes : Tab FrameBytes
  /-- Frames below this number have been wiped and have joined the free list. -/
  wiped : Nat
  /-- Frames held, reserved or being returned. -/
  taken : Tab Bool
  bad : Tab Bool
  /-- The addresses in a bad frame at which uncorrectable data was met (R224). -/
  badAt : Tab (List Nat)
  returning : List Returning
  /-- Resident bands, by sheet × 32,768 + station × 4,096 + band. -/
  bands : Tab BandRec
  /-- Directory frames, by sheet × 8 + station. -/
  dirs : Tab Nat
  /-- Ticks in which training and the wipe began. -/
  trainAt : Nat
  wipeAt : Nat
  /-- A gap retrain runs (R217). -/
  retraining : Bool
  /-- DRAM_CTRL.RETRAIN has been set since the last training (R217). -/
  retrainAsked : Bool
  /-- Refresh at twice the rate (R215). -/
  fastRefresh : Bool
  /-- Tick of the last tracking run (R216), and of the last temperature reading (R215). -/
  trackAt : Nat
  tempAt : Nat
  waits : List DramWait
  /-- Open rows, by channel × 64 + rank × 32 + bank. -/
  openRows : Tab OpenRow
  /-- Row-disturbance entries, by the same index (R221). -/
  rows : Tab (List RowEntry)
  /-- Throttled ports: by bank index × 8 + port, the time of the last activation (R222). -/
  throttled : Tab Nat
  /-- The patrol scrub's next frame (R225). -/
  scrubAt : Nat
  /-- The tick in which the scrub's present pass began (R225). -/
  scrubFrom : Nat
  deriving DecidableEq, Repr

/-! ### Scan timing and beam firing -/

/-- A sheet that the ledger has given to a station (R254). -/
structure Given where
  id : Nat
  modeB : Bool
  lines : Nat
  firstBand : Nat
  /-- start[s] of R128, in 2⁻²⁴ µm. -/
  start : Int
  /-- The admission tick. -/
  decided : Nat
  /-- One more than the tick that decided to stop the sheet; 0 none (R136). -/
  stop : Nat
  deriving DecidableEq, Repr

/-- A sheet bound at a station (R254). -/
structure Bound where
  id : Nat
  lines : Nat
  firstBand : Nat
  /-- Stream line of the sheet's line 0. -/
  n0 : Nat
  stop : Nat
  stopped : Bool
  /-- REG_LIMIT has been raised for this sheet (R253). -/
  limited : Bool
  deriving DecidableEq, Repr

/-- A slot of a station's line store (R250, R255): the line and its tag. -/
structure LineSlot where
  sheet : Nat
  band : Nat
  line : Nat
  seg : Nat
  bytes : List Byte
  deriving DecidableEq, Repr

/-- The facet in progress at a station. -/
structure FacetRun where
  /-- First stream line, and lines of the facet. -/
  n : Nat
  advance : Nat
  /-- Sheets whose last line the facet holds (R258). -/
  last : List Nat
  /-- The facet end has passed (R247). -/
  ended : Bool
  deriving DecidableEq, Repr

/-- One station of the scan engine beside its registers. Times are counts of 78.125 ps (R235). -/
structure ScanStn where
  /-- The volume in force: physical bank and grade (R236). -/
  plan : Option (Nat × Nat)
  lastRise : Option Nat
  /-- The last facet boundary, and whether it was a real edge. -/
  boundary : Option Nat
  real : Bool
  /-- Consecutive good periods in ACQUIRE, and consecutive missed facets in LOCKED (R236). -/
  good : Nat
  missed : Nat
  /-- The rising edge whose width is to be measured. -/
  rise : Option Nat
  /-- The last eight gate widths, newest first (R239). -/
  widths : List Nat
  /-- Offsets in 1/65,536 nm computed while the index is being locked, oldest first, each with the facet count of its facet
  modulo 8 (R240). -/
  offsets : List (Nat × Int)
  /-- Averages of R241 in 1/65,536, and the last period of each facet index in ps. -/
  pyr : Tab Int
  fper : Tab Int
  periods : Tab Nat
  /-- Averages of R252, by entry, in 1/65,536 line. -/
  resid : Tab Int
  /-- The plan has set e (R249). -/
  running : Bool
  /-- Stream line of slot 0 (R250). -/
  base : Nat
  /-- The stream line that the next facet starts with. -/
  next : Nat
  /-- Lines below this one have passed their facet end (R255). -/
  fired : Nat
  slots : Tab LineSlot
  facet : Option FacetRun
  given : List Given
  bound : List Bound
  /-- One past the last stream line of the station's previous sheet (R254). -/
  after : Nat
  /-- Accumulated registration error in 1/65,536 line (R253). -/
  regErr : Int
  /-- The drum's position at the last boundary, if one was taken (R252). -/
  drumAt : Option Int
  /-- Positions of the drum's axis with the times at which they held, newest first (R252). -/
  drumLog : List (Nat × Int)
  deriving DecidableEq, Repr

/-- A table frame in flight (R287). -/
structure TableTx where
  seq : Nat
  fails : Nat
  /-- The tick in which its EOF was sent. -/
  stamp : Nat
  /-- It has been sent; a frame that has not waits for the next interval in which table frames may be sent. -/
  sent : Bool
  deriving DecidableEq, Repr

/-- A TABLE item that waits for the AQ9611's acknowledgements (R272): the tables of its stations still to be
acknowledged, as station × 32 + TABLE_ID. -/
structure TableItem where
  item : Item
  waits : List Nat
  taken : Nat
  deriving DecidableEq, Repr

/-- A choice of map not yet in force (R278): it takes effect at the first boundary after the emit phase of tick `decided`
(R31), and `facets` further boundaries on. -/
structure MapNext where
  map : Nat
  decided : Option Nat
  facets : Nat
  deriving DecidableEq, Repr

/-- The sheets with lines in a facet: id, band and line of the first of them (R289). -/
structure FacetSheets where
  seq : Nat
  sheets : List (Nat × Nat × Nat)
  deriving DecidableEq, Repr

/-- One station of beam firing beside its registers. -/
structure BeamStn where
  /-- Drive codes by physical emitter (R274). -/
  drive : Tab Nat
  /-- Presence masks of the last gate sweeps in accepted reports, newest first (R276). -/
  sweeps : List Nat
  /-- Consecutive saturated sweeps, by physical emitter (R274). -/
  sat : Tab Nat
  /-- The map chosen and not yet in force. -/
  mapNext : Option MapNext
  /-- LDENn falls at the end of the facet in progress (R281). -/
  darkAtEnd : Bool
  /-- Frames since the last one whose turn it was to carry SWEEP (R275). -/
  sinceSweep : Nat
  /-- The sheets of the last facets (R289). -/
  recent : List FacetSheets
  /-- The station's facet count: SEQ of the next frame (R286). -/
  seq : Nat
  tableSeq : Nat
  /-- Tables changed since the AQ9611 last acknowledged them, by TABLE_ID (R273). -/
  dirty : Tab Bool
  flights : Tab TableTx
  /-- READY has been seen in a STATUS since training began (R290). -/
  ready : Bool
  /-- Tick of the last link state change, and of the last report gathered (R290, R291). -/
  linkAt : Nat
  reportAt : Nat
  /-- ARM was accepted and LDENn has not risen since (R282). -/
  rising : Bool
  /-- Tick of the last accepted report below SD − HYS, and the tick in which the dwell began: one more than each (R481). -/
  coolAt : Nat
  dwellAt : Nat
  /-- The link was lost and the station has not been armed since: BEAM_FAILURE is reported (R291). -/
  lost : Bool
  deriving DecidableEq, Repr

/-- BEAM: what the block holds beside its stations. -/
structure BeamBlk where
  stns : List BeamStn
  items : List TableItem
  /-- Consecutive ticks in which LSI_N was high (R283). -/
  lsiHigh : Nat
  /-- One more than the tick of the last LSI_N low. -/
  lsiLow : Nat
  /-- An LSI_N low not yet gathered: its tick, and the stations whose LDENn was high (R283, R292). -/
  interlock : Option (Nat × Nat)
  deriving DecidableEq, Repr

/-- A station of the scan engine after reset (R263). -/
def ScanStn.init : ScanStn :=
  { plan := none, lastRise := none, boundary := none, real := false, good := 0, missed := 0, rise := none, widths := [],
    offsets := [], pyr := [], fper := [], periods := [], resid := [], running := false, base := 0, next := 0,
    fired := 0, slots := [], facet := none, given := [], bound := [], after := 0, regErr := 0, drumAt := none, drumLog := [] }

/-- A station of beam firing after reset (R294). -/
def BeamStn.init : BeamStn :=
  { drive := [], sweeps := [], sat := [], mapNext := none, darkAtEnd := false, sinceSweep := 0, recent := [], seq := 0,
    tableSeq := 0, dirty := [], flights := [], ready := false, linkAt := 0, reportAt := 0, rising := false, coolAt := 0,
    dwellAt := 0, lost := false }

/-! ### Links, stepper axes and the sheet I/O port -/

/-- A step, axis or HV link beside its register (R297, R334, R364, R559). -/
structure Link where
  /-- The tick in which training began, or FAULT was entered. -/
  since : Nat
  /-- Ticks with the LINK_IN slot and no good frame, in a row. -/
  miss : Nat
  /-- One more than the tick that gathered the last good frame; 0 none. -/
  good : Nat
  deriving DecidableEq, Repr

/-- The modes of a stepper axis (R303). -/
inductive StepMode where
  | disabled | idle | waitSpin | move | velocity | stopping | homing | cam | ledger | fault
  deriving DecidableEq, Repr

/-- What an axis moves towards: nothing, a position, or a speed. -/
inductive Goal where
  | none
  | target (x : Int)
  | speed (v : Int)
  deriving DecidableEq, Repr

/-- What follows when a decelerating axis has come to rest (R306, R307, R309, R322). -/
inductive Halt where
  | no | stop | reverse | fault | hold | backoff
  deriving DecidableEq, Repr

/-- Homing under way (R321, R322). Positions are in 2⁻²⁴ microstep. -/
structure Homing where
  /-- The tick that gathered the first raw edge of the sought polarity: the window's start. -/
  window : Option Nat
  /-- Tick and sub-tick of that edge's stamp, and its position once both frames are known (R320). -/
  raw : Option (Nat × Nat)
  latch : Option Int
  /-- Unqualified edges in the window. -/
  count : Nat
  /-- The edges of the last tick that gathered any, while not yet decided: the tick and whether it is the active edge. -/
  last : List (Nat × Bool)
  /-- Where the phase, or the creep of BACKOFF, began. -/
  start : Int
  /-- BACKOFF: the profile move has ended and the creep goes on. -/
  creeping : Bool
  /-- BACKOFF: an inactive edge has qualified. -/
  inactive : Bool
  /-- The next edge of the input to be read (R319). -/
  seen : Nat
  deriving DecidableEq, Repr

/-- A cam engagement (R312): what CAM_CFG gave at ENGAGE, m0 in 2⁻²⁴ master unit, base with REL = 1, O and the demand of the
last tick in 2⁻²⁴ microstep. -/
structure Cam where
  master : Nat
  table : Nat
  rel : Bool
  m0 : Int
  base : Int
  offset : Int
  demand : Int
  deriving DecidableEq, Repr

/-- One stepper axis beside its registers. Positions are in 2⁻²⁴ microstep, speeds in 2⁻²⁴ microstep a tick; pos and v have
16 fraction bits (R299). -/
structure StepAxis where
  mode : StepMode
  pos : Int
  v : Int
  /-- What a ramp has added to the speed below 2⁻¹⁶ (log entry 78). -/
  guard : Int
  /-- The move decelerates to its target (R302). -/
  braking : Bool
  /-- Commanded displacement of the last compute phase. -/
  disp : Int
  /-- |v| changed in the last compute phase (R300). -/
  changed : Bool
  /-- The profile in force, as its command read it: VSTART, VSTOP, VKNEE, VMAX, A1, A2, D1, D2 in 2⁻²⁴. -/
  profile : List Nat
  goal : Goal
  halt : Halt
  /-- The tick in which REV_DWELL ends (R306); 0 none. -/
  dwell : Nat
  /-- Bridges on, in FAULT (R300). -/
  bridges : Bool
  homed : Bool
  camLock : Bool
  hphase : Nat
  homing : Option Homing
  cam : Option Cam
  /-- Back-EMF amplitude of the last return with EMF_VALID that was sampled with the bridges off, if one has come since they
  went off; and the tick in which they did (R315). -/
  amplitude : Option Nat
  offAt : Nat
  /-- Consecutive estimates at the stall angle, and consecutive ticks below EMF_MIN (R316). -/
  angleRun : Nat
  emfRun : Nat
  /-- Deadline of WAIT_SPIN (R315). -/
  deadline : Nat
  /-- GRADE_CLAMP has been raised for this grade; one more than it (R309). -/
  clamped : Nat
  /-- Positions sent by tick, newest first, while homing, from the oldest edge that still waits (R320). -/
  sent : List (Nat × Int)
  deriving DecidableEq, Repr

/-- STEP beside its registers: 48 axes, two links, eight virtual masters. -/
structure StepBlk where
  axes : List StepAxis
  links : List Link
  waiting : Tab StepFrame
  /-- The valid returns gathered in this tick, by axis, until the decide phase has read them (R305, R316). -/
  returned : Tab StepSlot
  /-- Virtual masters: position and speed, in 2⁻²⁴ unit (R314). -/
  vmPos : Tab Int
  vmVel : Tab Int
  deriving DecidableEq, Repr

/-- A captured edge of a SCAP input (R319). -/
structure Edge where
  tick : Nat
  sub : Nat
  rising : Bool
  /-- The tick in which it qualified. -/
  qualified : Nat
  /-- Its number among the edges of the input. -/
  serial : Nat
  /-- The points of the ledger that have read it, a mask: each point reads every edge of its input (R131). -/
  readBy : Nat
  deriving DecidableEq, Repr

/-- One SCAP input (R319): its raw level, the level that counts, and the time of the first sample at a level that has not
stood for the filter time, in units of 10 ns. -/
structure ScapIn where
  raw : Bool
  level : Bool
  first : Nat
  queue : List Edge
  serial : Nat
  deriving DecidableEq, Repr

/-- SIO beside its registers. -/
structure SioBlk where
  scap : List ScapIn
  /-- Chain input bits latched at the start of the tick and not yet gathered (R318). -/
  chainIn : List Bool
  /-- The tick whose start latched them. -/
  chainAt : Nat
  /-- One more than the tick that gathered the last change of an input, by its HOME_CFG.INPUT number (R320). -/
  changed : Tab Nat
  /-- Chain inputs that the last gather found changed, with the tick of their stamp. -/
  edges : List (Nat × Nat)
  deriving DecidableEq, Repr

/-! ### Synchronous axes -/

/-- The modes of a synchronous axis (R345). -/
inductive AxisMode where
  | disabled | idle | catching | start | velocity | move | stopping | ledger | recover | spindown | fault
  deriving DecidableEq, Repr

/-- One synchronous axis beside its registers. Angles are in units of 2⁻²⁴ revolution; commanded positions and speeds are
in 2⁻⁸ unit (48.8, 24.8) with 16 more bits of fraction. -/
structure SyncAxis where
  mode : AxisMode
  /-- Raw position r and reported position p (R336, R337). -/
  r : Int
  p : Int
  pWas : Int
  /-- Commanded position, 48.8, and speed, 24.8, both in 2⁻²⁴ unit (R338); what a ramp has added below 2⁻⁸ (log entry 78). -/
  pcmd : Int
  vcmd : Int
  guard : Int
  vWas : Int
  /-- Speed estimate, 24.8. -/
  vEst : Int
  disp : Int
  /-- Sign of the last non-zero commanded speed (R337): true for negative. -/
  back : Bool
  /-- VKNEE, VMAX in 24.8; A1, A2, D1, D2 in 16.16, of the profile in force (R344). -/
  profile : List Nat
  goal : Goal
  halt : Halt
  /-- The sensor angle is in use; the last angle read, if any (R336). -/
  aligned : Bool
  angle : Option Nat
  /-- Angles gathered in CATCH (R348); pulses sent in the present round of START (R349). -/
  angles : Nat
  /-- Bridges on. -/
  bridges : Bool
  /-- The observer's electrical angle, confidence and amplitude (R350). -/
  theta : Nat
  conf : Nat
  amplitude : Nat
  /-- Consecutive ticks of low confidence, and of good confidence in START (R349, R351). -/
  lowRun : Nat
  goodRun : Nat
  /-- The first tick of the present mode (R348, R352). -/
  since : Nat
  /-- Zero crossings seen, and the signs of the terminal voltages last seen (R348). -/
  crossings : Nat
  signs : Option (List Bool)
  /-- Pulse rounds begun, peaks of the round under way, the electrical angle of the open-loop ramp, 24 bits, and whether START
  has come to the ramp (R349). -/
  rounds : Nat
  peaks : List Nat
  theta0 : Nat
  ramping : Bool
  /-- The last control step cut the voltage vector (R342). -/
  vlimit : Bool
  /-- A sensorless axis coasts: after VMIN, or in a coasting fault (R353, R354). -/
  coasting : Bool
  clamped : Nat
  polyRefine : Bool
  /-- The 32 bytes last sent in its slot (R331, R335). -/
  slot : List Byte
  /-- I0, I1 of the slot gathered in this tick and the tick of the outbound frame that they were taken in (R333, R339). -/
  meas : Option (Int × Int × Nat)
  /-- The phases in the order of their rising edges, by the tick of the outbound frame, newest first (R339). -/
  orders : List (Nat × List Nat)
  /-- The integrators of the loops for id, iq and the speed, and the last measured iq (R339). -/
  intD : Int
  intQ : Int
  intS : Int
  iq : Int
  deriving DecidableEq, Repr

/-- A facet period on its way to a polygon's axis (R238, R357): station, period in ps, and whether it is of facet index 0. -/
structure FacetPeriod where
  station : Nat
  period : Nat
  index0 : Bool
  /-- Stamp of the boundary, in 78.125 ps. -/
  time : Nat
  deriving DecidableEq, Repr

/-- AXIS beside its registers: 24 axes, four links and hubs. -/
structure AxisBlk where
  axes : List SyncAxis
  links : List Link
  waiting : Tab AxisFrame
  /-- The frames gathered in this tick, by link, until the decide phase has read them (R343, R346). -/
  returned : Tab AxisFrame
  periods : List FacetPeriod
  /-- Hubs whose bus trip is in effect (R343). -/
  trips : Nat
  deriving DecidableEq, Repr

/-- A link after reset. -/
def Link.init : Link := { since := 0, miss := 0, good := 0 }

/-- A stepper axis after reset (R329). -/
def StepAxis.init : StepAxis :=
  { mode := .disabled, pos := 0, v := 0, guard := 0, braking := false, disp := 0, changed := false, profile := [], goal := .none,
    halt := .no, dwell := 0, bridges := false, homed := false, camLock := false, hphase := 0, homing := none, cam := none, amplitude := none,
    offAt := 0, angleRun := 0, emfRun := 0, deadline := 0, clamped := 0, sent := [] }

/-- A synchronous axis after reset (R360). -/
def SyncAxis.init : SyncAxis :=
  { mode := .disabled, r := 0, p := 0, pWas := 0, pcmd := 0, vcmd := 0, guard := 0, vWas := 0, vEst := 0, disp := 0, back := false,
    profile := [], goal := .none, halt := .no, aligned := false, angle := none, angles := 0, bridges := false, theta := 0,
    conf := 0, amplitude := 0, lowRun := 0, goodRun := 0, since := 0, crossings := 0, signs := none, rounds := 0,
    peaks := [], theta0 := 0, ramping := false, vlimit := false, coasting := false, clamped := 0,
    polyRefine := false, slot := List.replicate 32 0, meas := none, orders := [], intD := 0, intQ := 0, intS := 0, iq := 0 }

/-- A SCAP input after reset: low, nothing queued (R329). -/
def ScapIn.init : ScapIn := { raw := false, level := false, first := 0, queue := [], serial := 0 }

/-! ### Loops -/

/-- One loop beside its registers. -/
structure LoopUnit where
  /-- The tick in which the actuator's present state was decided, as if it were long enough ago at ENABLE (R368). -/
  since : Int
  /-- The tick from which SETTLE counts: ENABLE, or the last change of SETPOINT (R371). -/
  settle : Nat
  /-- The reading of this tick, if one is present (R363, R364). -/
  reading : Option Nat
  /-- Consecutive present readings out of range; consecutive saturated STEPs, on and off (R375). -/
  rangeRun : Nat
  satOn : Nat
  satOff : Nat
  /-- The position m of the angle source in this tick, and in the last (R311, R369, R371). -/
  angle : Int
  source : Int
  /-- The spans of ticks, first and one past the last, in which the actuator was on, newest first (R378, DUTY). -/
  spans : List (Nat × Nat)
  deriving DecidableEq, Repr

/-- LOOP beside its registers: 64 loops, two links. -/
structure LoopBlk where
  loops : List LoopUnit
  links : List Link
  /-- By link: the frame that waits for LINK_IN (R559) or, in training, the last one; the frames gathered in this tick. -/
  waiting : Tab HvFrame
  returned : Tab HvFrame
  deriving DecidableEq, Repr

def LoopUnit.init : LoopUnit :=
  { since := 0, settle := 0, reading := none, rangeRun := 0, satOn := 0, satOff := 0, angle := 0, source := 0, spans := [] }

/-! ### Canopy and the DMA engine -/

/-- A cell that a queue holds (R381), with the tick in which it was written (R388). -/
structure Cell where
  cell : CellIn
  stamp : Nat
  deriving DecidableEq, Repr

/-- A Canopy queue (R383). A cell is linked in the tick after the one in which it was written (R388). -/
structure CanopyQ where
  /-- Its configuration, as CNPY_QCFG0 to CNPY_QCFG3. -/
  cfg0 : Nat
  cfg1 : Nat
  cfg2 : Nat
  cfg3 : Nat
  cells : List Cell
  /-- t0 of R390. -/
  t0 : Nat
  /-- Cells granted so far of the packet being written; 0 where none is. -/
  written : Nat
  /-- Cells linked so far of the last packet that was linked in part; 0 where none is. -/
  partLinked : Nat
  /-- A cut-through notice has been raised for that packet. -/
  cut : Bool
  /-- The consumer has read part of a packet. -/
  mid : Bool
  deriving DecidableEq, Repr

/-- An unconfigured, empty queue (R398, R400). -/
def CanopyQ.init : CanopyQ :=
  { cfg0 := 0, cfg1 := 0, cfg2 := 1, cfg3 := 0x10000, cells := [], t0 := 0, written := 0, partLinked := 0, cut := false,
    mid := false }

/-- A notice to a queue's consumer: 0 packet, 1 cut-through, 2 timeout (R389, R390). -/
structure Notice where
  kind : Nat
  queue : Nat
  deriving DecidableEq, Repr

/-- A scrub that runs or waits (R394): the queue, which pointer (R398), the tick of its decision or, for one that waited, of
its start, and whether it has ended in this tick. -/
structure Scrub where
  queue : Nat
  which : Nat
  decided : Nat
  ended : Bool
  deriving DecidableEq, Repr

/-- CNPY beside its registers. -/
structure CnpyBlk where
  queues : Tab CanopyQ
  /-- Notices in the order in which they were raised. -/
  notices : List Notice
  /-- The scrub that runs, and those that wait for it. -/
  scrubs : List Scrub
  /-- POOL_EMPTY has been raised and the free count has not risen above 1,024 since (R395). -/
  exhausted : Bool
  /-- One more than the tick whose links and reads have been made; 0 none. -/
  gathered : Nat
  /-- Telemetry queues that HOST has had a notice of (R390, R391), and the consumer indices of rings 10 to 13 as its last
  gather left them. -/
  due : List Nat
  hidx : Tab Nat
  deriving DecidableEq, Repr

/-- One DMA channel beside its registers. -/
structure DmaChan where
  /-- The state from which it was halted (R416). -/
  was : Nat
  /-- List mode, as START found CFG.MODE, and the address of the next descriptor (R405). -/
  list : Bool
  at_ : Nat
  /-- soff and doff of levels 0 to 2 (R408). -/
  soff : List Int
  doff : List Int
  /-- Entry tick of the WAIT under way (R412). -/
  entry : Nat
  /-- ABORT has been accepted and requests are still in flight (R418). -/
  aborting : Bool
  deriving DecidableEq, Repr

def DmaChan.init : DmaChan :=
  { was := 0, list := false, at_ := 0, soff := [0, 0, 0], doff := [0, 0, 0], entry := 0, aborting := false }

/-- DMA beside its registers. -/
structure DmaBlk where
  chans : List DmaChan
  /-- Event flags set by SIGNAL in this tick: the next tick's decide phase sees them first (R411). -/
  signalled : Nat
  /-- The tick of the halt (R420), and the channels halted while its message has not been sent (R415). -/
  haltAt : Nat
  haltMsg : Option Nat
  deriving DecidableEq, Repr

/-! ### Power and heat -/

/-- A board rail beside its registers (R470). -/
structure Rail where
  /-- The window start, and the deadline of the enable or the disable. -/
  start : Nat
  deadline : Nat
  /-- The disable of a DOWN has been written (R471). -/
  off : Bool
  /-- Consecutive low reads of a GOOD rail. -/
  low : Nat
  /-- One more than the tick of the last margining step (R474). -/
  marginAt : Nat
  deriving DecidableEq, Repr

/-- PWR beside its registers. -/
structure PwrBlk where
  rails : Tab Rail
  /-- The tick in which the present sequence began, and E of R471. -/
  seqAt : Nat
  endAt : Nat
  /-- Consecutive reads of VIN_GOOD against the state shown (R472). -/
  vinRun : Nat
  /-- One more than the tick of the last poll round. -/
  polledAt : Nat
  /-- The first event that waits for a snapshot: code, rail, tick; and the one that is being read (R475). -/
  snapNext : Option (Nat × Nat × Nat)
  snapNow : Option (Nat × Nat × Nat)
  /-- Scan domains being powered up (R464), as bits of PWR_DOM_REQ. -/
  powering : Nat
  /-- Absent sequencers are to be probed with ID (R465, R467), and rails to be adopted after a reset (R473). -/
  probe : Bool
  adopt : Bool
  /-- Completed reads that wait for SEQ_READ (R483). -/
  reads : List SeqRead
  deriving DecidableEq, Repr

/-- A thermal reading (R476), in 1/16 °C. -/
structure ThmReading where
  chan : Nat
  value : Int
  valid : Bool
  stamp : Nat
  deriving DecidableEq, Repr

/-- THM beside its registers. -/
structure ThmBlk where
  /-- Readings not yet compared by COMPARE (R477). -/
  waiting : List ThmReading
  /-- Consecutive invalid readings (R482), and consecutive readings at or above SD (R479), by channel. -/
  invalid : Tab Nat
  confirm : Tab Nat
  /-- The last reading that COMPARE has gathered of a channel (R480). -/
  seen : Tab ThmReading
  /-- Channels 0 to 11 that have reached SD and not left it (R477, R480). -/
  atSd : Tab Bool
  /-- Tick of the last throttle request (R478). -/
  requestAt : Nat
  /-- One more than the tick in which the thaw dwell began; 0 none (R480). -/
  dwellAt : Nat
  deriving DecidableEq, Repr


/-! ### Clocks, reset, boot and life-cycle -/

/-- CLK and the AON domain beside their registers. -/
structure ClkBlk where
  /-- The core reset is released: lock has been declared (R494, R497). -/
  up : Bool
  /-- The SRAM wipe runs (R497). -/
  wiping : Bool
  /-- The tick that gathered the last kick of the watchdog, or the start of its first period (R499). -/
  kickAt : Nat
  /-- VDDIO33 has fallen below 2.7 V: the pad ring holds every LDENn pin low (R550). -/
  ioLow : Bool
  /-- The TAP's instruction (R558), and whether a debug instruction has enabled the trace port. -/
  tap : Nat
  trace : Bool
  deriving DecidableEq, Repr

/-- LCS: the fuses, persistent configuration and the boot beside the registers. -/
structure LcsBlk where
  /-- The life-cycle state fused in OTP (R510). -/
  fused : Nat
  /-- OTP fields 1 and 2, once programmed (R513). -/
  subsystem : Option (List Byte)
  key : Option (List Byte)
  /-- The marker and the acceptances in persistent configuration, oldest first (R509, R512). -/
  marker : Option Nat
  accepted : List Nat
  /-- The boot of R501 has ended and management firmware runs. -/
  booted : Bool
  /-- The tick from which management firmware is to start training, the one after READY (R213). -/
  trainDue : Option Nat
  /-- The transition whose fuses are being burnt: its target and the tick of the request (R511). -/
  burning : Option (Nat × Nat)
  deriving DecidableEq, Repr

/-! ### CE220 compatibility mode -/

/-- A frame received at the UART (R524): its CMD and payload, whether its CHK is good, and the tick that gathered it. -/
structure LegFrame where
  cmd : Nat
  payload : List Nat
  good : Bool
  stamp : Nat
  deriving DecidableEq, Repr

/-- A reply to be sent (R526): its bytes, the first tick in whose emit phase it may go, and for a STATUS reply the tick in
which it was built (R529). -/
structure LegReply where
  bytes : List Nat
  due : Nat
  status : Option Nat
  deriving DecidableEq, Repr

/-- A page that the formatter sends or has sent (R534): its sheet, L, W, TOP, the number of its qualifying edge, the
groups decided at each of stations 0 to 3, and the legacy lines of the bands being formed (R537). -/
structure LegPage where
  id : Nat
  lines : Nat
  width : Nat
  top : Nat
  edge0 : Nat
  groups : List Nat
  rows : List (List (List Byte))
  deriving DecidableEq, Repr

/-- LEG beside its registers. -/
structure LegBlk where
  nextId : Nat
  /-- The bytes of the frame being assembled, and the tick that gathered the last of them (R525). -/
  bytes : List Nat
  byteAt : Nat
  frames : List LegFrame
  /-- One more than the tick in which a frame was last decided; 0 none. -/
  decidedAt : Nat
  replies : List LegReply
  /-- LENGTH_UM ÷ 100, tray and bin of PAPER; whether PAPER and WIDTH have been given (R527, R533). -/
  length : Nat
  tray : Nat
  bin : Nat
  paper : Bool
  width : Bool
  /-- The syncs run; edges so far; the time of the next edge in 10 ns × 256 (R531). -/
  syncs : Bool
  edge : Nat
  edgeAt : Nat
  /-- Edges in a row at which GO was low while REQ was low, and whether GO must first be seen high (R533). -/
  goRun : Nat
  goSpent : Bool
  pages : List LegPage
  /-- Lost pages since the last READ_ERROR (R529). -/
  lost : Nat
  /-- Status byte 0 as the last emit phase left it, and one more than the tick of the last change (R529). -/
  byte0 : Nat
  changedAt : Nat
  /-- TYPE 4 and TYPE 5 records of the engine pack (R521): offset and value. -/
  warm : List (Nat × Nat)
  sleep : List (Nat × Nat)
  /-- The TYPE 4 records are to be performed in the tick after the activation; the TYPE 5 records have been (R532). -/
  warmDue : Bool
  /-- The first edge of station 0's data of the last page, past its last data LSYNC (R533). -/
  dataEnd : Nat
  /-- Sheets to be purged, with the first tick that may do it (R538). -/
  purges : List (Nat × Nat)
  /-- Announcements that the next tick gathers (R534). -/
  qualified : List Item
  /-- One more than the tick of the last jam; 0 none (R538). -/
  jamAt : Nat
  deriving DecidableEq, Repr

def LegBlk.init : LegBlk :=
  { nextId := 1, bytes := [], byteAt := 0, frames := [], decidedAt := 0, replies := [], length := 0, tray := 0, bin := 0,
    paper := false, width := false, syncs := false, edge := 0, edgeAt := 0, goRun := 0, goSpent := false, pages := [],
    lost := 0, byte0 := 0, changedAt := 0, warm := [], sleep := [], warmDue := false, dataEnd := 0, purges := [], qualified := [], jamAt := 0 }

/-! ### The whole block -/

/-- What the controller has sent to the outside, one constructor per kind of output. -/
inductive Out where
  /-- An entry written to a controller-to-host ring: ring, index, host address, the 64 bytes (R84, R98, R100). -/
  | ringEntry (ring index addr : Nat) (bytes : List Byte)
  /-- A write-back entry, written as one 8-byte write: ring, host address, index, low 32 bits of the tick (R92). -/
  | writeBack (ring addr index tick : Nat)
  /-- A read of host memory for a ring: address and byte count of a descriptor, or of a data or bulk buffer (R84, R93, R95). -/
  | hostRead (ring addr len : Nat)
  /-- An MSI-X message (R103). -/
  | msix (vector : Nat)
  /-- A facet frame or a table frame on the beam link of a station: its blocks from SOF to EOF (R285 to R287). -/
  | beamFrame (station : Nat) (blocks : List BeamBlock)
  /-- DARK: the station's lines are not driven (R281, R283). -/
  | dark (station : Nat)
  /-- The level of the LDEN pins, by station (R282, R550). -/
  | lden (mask : Nat)
  /-- The frame of a step, axis or HV link: its symbols from K27.7 to K29.7, TICK and CRC-32 among them (R296, R331, R362). -/
  | stepFrame (link : Nat) (syms : List Sym)
  | axisFrame (link : Nat) (syms : List Sym)
  | hvFrame (link : Nat) (syms : List Sym)
  /-- The K28.1 ordered set: every HV and heater channel off (R365). -/
  | forcedOff
  /-- What the SPI chain shifts out (R318). -/
  | spiOut (bits : Nat)
  /-- A notice to a Canopy queue's consumer: kind, queue (R389, R390). -/
  | notice (kind queue : Nat)
  /-- A notice to the sheet-path firmware's queue 41: kind and value (R129, R171). -/
  | pathNotice (kind value : Nat)
  /-- What a read of a queue delivered (R388): queue, status (0 DATA, 1 ABORT, 2 POISON, 3 WAIT, 4 EMPTY) and the cell; the
  idle cell is not written out. -/
  | cellRead (queue status : Nat) (cell : Option CellIn)
  /-- Bytes that the DMA engine writes to host memory (R404). -/
  | hostWrite (addr : Nat) (bytes : List Byte)
  /-- The answer to a read of the MGMT port: its address A, and whether the data is poisoned (R224). -/
  | mgmtData (addr : Nat) (poisoned : Bool)
  /-- A transaction of the SEQ bus: sequencer, command, the byte written or 0 (R466). -/
  | seqBus (sequencer command value : Nat)
  /-- The line ERR_N is driven low (true) or released (R432). -/
  | errN (low : Bool)
  /-- A reset of the chip or of the core: kind and source (R497). -/
  | resetChip (kind source : Nat)
  /-- Bytes sent by the legacy UART (R526). -/
  | uartReply (bytes : List Nat)
  /-- The legacy syncs: LSYNC0 to 3 fall together (R531). -/
  | lsync
  /-- The level of PAGE_REQ_N or of INT_N: true for low (R529, R533). -/
  | pageReq (low : Bool)
  | legInt (low : Bool)
  deriving DecidableEq, Repr

/-- The state of the AQ9640. -/
structure State where
  /-- The commands that wait, first in, first out. -/
  pending : List Instr
  /-- The tick in progress (R23). -/
  tick : Nat
  /-- Free values read so far: the model's own counter, not the spec's (log entry 3). -/
  fresh : Nat
  /-- What has been sent to the outside, last first: the model's own trace (log entry 4). -/
  out : List Out
  /-- The registers of BAR0, by offset. -/
  regs : Tab Word
  /-- The BAR1 table windows above the Almanac window (R76), by BAR1 offset. -/
  sram : Memory
  host : HostBlk
  alm : AlmBlk
  ledg : LedgBlk
  pace : PaceBlk
  flt : FltBlk
  hwd : HwdBlk
  burl : BurlBlk
  dram : DramBlk
  scan : List ScanStn
  beam : BeamBlk
  step : StepBlk
  sio : SioBlk
  axis : AxisBlk
  loop : LoopBlk
  cnpy : CnpyBlk
  dma : DmaBlk
  pwr : PwrBlk
  thm : ThmBlk
  clk : ClkBlk
  lcs : LcsBlk
  leg : LegBlk
  deriving DecidableEq, Repr

/-! ### Reset -/

/-- The PCIe configuration space after its reset (R108), with the PCIe specification's values of Device Control: 128-byte
payloads, 512-byte read requests. PRESUMED (log entry 77). -/
def PciSetup.init : PciSetup := ⟨0, 2, false⟩

/-- HOST after reset: every ring STOPPED, nothing queued (R108). -/
def HostBlk.init : HostBlk :=
  { inbox := [], opened := [], completions := [], ready := 0, held := false, moved := [], ringVec := [], ringVecAt := [], vectors := [],
    pci := PciSetup.init, power := 0, serials := 0, doorbells := [], linkUp := false, read := [] }

/-- FLT after reset (R443). -/
def FltBlk.init : FltBlk :=
  { sent := [], latches := [], evaluated := 0, enteredAt := 0, resetWait := none, errnAt := 0, traps := 0, leaked := 0,
    resets := [], retrain := [], left := none, paths := [] }

/-- HWD after reset, with an empty store (R462). -/
def HwdBlk.init : HwdBlk :=
  { sent := [], mram := [], epoch := 0, nextSeq := 0, epochFirst := 0, head := none, staging := [], retried := false,
    lost := 0, lostByWrite := false, fraction := [], lastRefill := 0, refilled := 0, pendingSince := [], challenge := none,
    lockoutEnd := 0, decidedAt := 0, submits := [] }

/-- ALM after reset: physical bank 0 is the standby bank, in EMPTY, and bank 1 is idle (R36, R70). -/
def AlmBlk.init : AlmBlk :=
  { bank0 := [], bank1 := [], standby := 0, active := none, written := [], checkAt := none, request := none, gradeFrom := 0, joins := [],
    releaseWaits := false, next := .same, draining := 0, badSlots := [], badFacets := [], plans := [], opened := 0 }

/-- LEDG after reset: the ledger is empty and P is 0 (R149). -/
def LedgBlk.init : LedgBlk :=
  { sheets := [], pos := 0, posRem := 0, posAt := [], admitted := [], reprints := 0, early := [], waitFrames := [],
    reports := [], gradeAt := 0, pickUntil := 0, admitAt := 0, picked := [], metAt := [] }

/-- Pacing and backhitch after reset. -/
def PaceBlk.init : PaceBlk :=
  { arrived := [], begun := [], stepDown := none, stepUp := none, downAt := 0, floored := false, upTicks := 0,
    byGovernor := false, forecastAt := 0, decidedAt := 0, phaseAt := 0, v := 0, low := 0, goal := 0, endedAt := 0, past := false, aborting := false,
    parkLong := false, refusedAt := 0 }

/-- BURLC and BURLD after reset: no lane holds work. -/
def BurlBlk.init : BurlBlk := { jobs := [], writing := [], lanes := [], decodes := [], bindNext := none }

/-- DRAM after reset: no frame is held (R231). -/
def DramBlk.init : DramBlk :=
  { bytes := [], wiped := 0, taken := [], bad := [], badAt := [], returning := [], bands := [], dirs := [], trainAt := 0, wipeAt := 0,
    retraining := false, retrainAsked := false, fastRefresh := false, trackAt := 0, tempAt := 0, waits := [],
    openRows := [], rows := [], throttled := [], scrubAt := 0, scrubFrom := 0 }

/-- The state of every block after a core reset has been released, with the straps, fuses and MRAM of a part that has never
run: REF50 and MODESEL low, life-cycle BLANK, an empty store, no marker (log entry 9). No register is listed. -/
def State.cleared : State :=
  { pending := [], tick := 0, fresh := 0, out := [], regs := [], sram := [],
    host := HostBlk.init, alm := AlmBlk.init, ledg := LedgBlk.init, pace := PaceBlk.init, flt := FltBlk.init,
    hwd := HwdBlk.init, burl := BurlBlk.init, dram := DramBlk.init, scan := List.replicate 8 ScanStn.init,
    beam := { stns := List.replicate 8 BeamStn.init, items := [], lsiHigh := 0, lsiLow := 0, interlock := none },
    step := { axes := List.replicate 48 StepAxis.init, links := List.replicate 2 Link.init, waiting := [], returned := [],
              vmPos := [], vmVel := [] },
    sio := { scap := List.replicate 8 ScapIn.init, chainIn := [], chainAt := 0, changed := [], edges := [] },
    axis := { axes := List.replicate 24 SyncAxis.init, links := List.replicate 4 Link.init, waiting := [], returned := [],
              periods := [], trips := 0 },
    loop := { loops := List.replicate 64 LoopUnit.init, links := List.replicate 2 Link.init, waiting := [], returned := [] },
    cnpy := { queues := [], notices := [], scrubs := [], exhausted := false, gathered := 0, due := [], hidx := [] },
    dma := { chans := List.replicate 64 DmaChan.init, signalled := 0, haltAt := 0, haltMsg := none },
    pwr := { rails := [], seqAt := 0, endAt := 0, vinRun := 0, polledAt := 0, snapNext := none, snapNow := none,
             powering := 0, probe := true, adopt := false, reads := [] },
    thm := { waiting := [], invalid := [], confirm := [], seen := [], atSd := [], requestAt := 0, dwellAt := 0 },
    clk := { up := true, wiping := true, kickAt := 0, ioLow := false, tap := 0xFF, trace := false },
    lcs := { fused := 0, subsystem := none, key := none, marker := none, accepted := [], booted := false, trainDue := none,
             burning := none },
    leg := LegBlk.init }

/-- The machine right after reset: the release of the core reset after a power-on reset (R497). The tick counter is 0, the
SRAM wipe and the holding page run, SYSPLL is in lock and CLK_RST_CAUSE names power-on reset by PORST_N (R494, R515). -/
def State.reset : State :=
  { State.cleared with regs := [(0x10000, 1), (0x1001C, 0x101), (0x10100, 0x100)] }

end Sys2Proof.Machine
end

