-- ==== Sys2Proof/Machine/Ops.lean ====
section
/-!
DEFINITION. The named operations over the state that every chapter uses: sparse collections, memory bytes, registers and
their fields, free values, outputs, fault messages and Heartwood events.
-/

namespace Sys2Proof.Machine

/-! ### Sparse collections -/

/-- The entry at index `k`, if one is listed. -/
def tabFind {α : Type} : Tab α → Nat → Option α
  | [], _ => none
  | (i, v) :: t, k => if k = i then some v else if k < i then none else tabFind t k

/-- The entry at index `k`; `d` where none is listed. -/
def tabGet {α : Type} (d : α) (t : Tab α) (k : Nat) : α := (tabFind t k).getD d

/-- List `v` at index `k`. -/
def tabPut {α : Type} : Tab α → Nat → α → Tab α
  | [], k, v => [(k, v)]
  | (i, w) :: t, k, v =>
    if k = i then (k, v) :: t else if k < i then (k, v) :: (i, w) :: t else (i, w) :: tabPut t k v

/-- Unlist index `k`. -/
def tabDel {α : Type} : Tab α → Nat → Tab α
  | [], _ => []
  | (i, w) :: t, k =>
    if k = i then t.dropWhile (fun p => decide (p.1 ≤ k)) else if k < i then (i, w) :: t else (i, w) :: tabDel t k

/-- Make the entry at index `k` equal `v`, where `d` is what an unlisted entry reads as. -/
def tabSet {α : Type} [DecidableEq α] (d : α) (t : Tab α) (k : Nat) (v : α) : Tab α :=
  if v = d then tabDel t k else tabPut t k v

/-- Apply `f` to the entry at index `k`. -/
def tabMod {α : Type} [DecidableEq α] (d : α) (t : Tab α) (k : Nat) (f : α → α) : Tab α :=
  tabSet d t k (f (tabGet d t k))

/-- Indices strictly rising from above `lo`, and no entry equal to the default. -/
def tabWfFrom {α : Type} [DecidableEq α] (d : α) : Option Nat → Tab α → Bool
  | _, [] => true
  | lo, (i, v) :: t =>
    (match lo with
      | none => true
      | some l => decide (l < i)) && decide (v ≠ d) && tabWfFrom d (some i) t

/-- The canonical form of a collection whose unlisted entries read as `d`. -/
def tabWf {α : Type} [DecidableEq α] (d : α) (t : Tab α) : Bool := tabWfFrom d none t

/-! ### Memory -/

/-- The canonical form of a memory: addresses strictly rising, no byte listed that reads as an unlisted one does. -/
def Memory.wf (m : Memory) : Bool := tabWf (0 : Byte) m

/-- The byte at an address. -/
def memByte (m : Memory) (a : Nat) : Byte := tabGet 0 m a

/-- `k` bytes from an address up. -/
def memBytes (m : Memory) (a k : Nat) : List Byte := (List.range k).map (fun i => memByte m (a + i))

/-- Write a byte string from an address up. -/
def memWrite : Memory → Nat → List Byte → Memory
  | m, _, [] => m
  | m, a, b :: bs => memWrite (tabSet 0 m a b) (a + 1) bs

/-- The little-endian field of `k` bytes at an address (R5). -/
def memLe (m : Memory) (a k : Nat) : Nat := leNat (memBytes m a k)

/-! ### Registers -/

/-- The register word at BAR0 offset `a`. -/
def State.rd (s : State) (a : Nat) : Word := tabGet (regReset a) s.regs a

/-- Make the register word at BAR0 offset `a` equal `v`. -/
def State.wr (s : State) (a : Nat) (v : Word) : State := { s with regs := tabSet (regReset a) s.regs a v }

/-- The register at `a` as a number. -/
def State.rdN (s : State) (a : Nat) : Nat := (s.rd a).toNat

/-- Make the register at `a` hold `n` modulo 2³². -/
def State.wrN (s : State) (a n : Nat) : State := s.wr a (word n)

/-- Field [hi:lo] of the register at `a`. -/
def State.fld (s : State) (a hi lo : Nat) : Nat := bitsOf (s.rdN a) hi lo

/-- Set field [hi:lo] of the register at `a`. -/
def State.setFld (s : State) (a hi lo v : Nat) : State := s.wrN a (putBits (s.rdN a) hi lo v)

/-- Bit `i` of the register at `a`. -/
def State.flag (s : State) (a i : Nat) : Bool := bitOf (s.rdN a) i

/-- Set bit `i` of the register at `a` to `b`. -/
def State.setFlag (s : State) (a i : Nat) (b : Bool) : State := s.setFld a i i b.toNat

/-- Add 1 to the wrapping counter in field [hi:lo] of the register at `a`. -/
def State.bump (s : State) (a : Nat) (hi : Nat := 31) (lo : Nat := 0) : State := s.setFld a hi lo (s.fld a hi lo + 1)

/-! ### Free values, outputs, messages -/

/-- The state after one more free value has been read. -/
def State.drawn (s : State) (k : Nat := 1) : State := { s with fresh := s.fresh + k }

/-- The next free value. -/
def State.freeNat (s : State) (i : Nat := 0) : Nat := Config.free (s.fresh + i)

/-- Send an output. -/
def State.emit (s : State) (o : Out) : State := { s with out := o :: s.out }

/-- Send a fault message (R423), stamped with the present tick. -/
def State.fault (s : State) (source kind addr : Nat) : State :=
  { s with flt := { s.flt with sent := s.flt.sent ++ [⟨source, kind, addr, s.tick⟩] } }

/-- Hand an event to Heartwood (R447), stamped with the present tick. -/
def State.event (s : State) (code : Nat) (fields : List Nat) (sub : Nat := 0) : State :=
  { s with hwd := { s.hwd with sent := s.hwd.sent ++ [⟨code, s.tick, sub, fields⟩] } }

/-- Send a report to the ledger, stamped with the present tick (R25). -/
def State.report (s : State) (kind : ReportKind) (sheet station band : Nat) : State :=
  { s with ledg := { s.ledg with reports := s.ledg.reports ++ [⟨kind, sheet, station, band, 0, s.tick⟩] } }

/-- A stamp is gathered in a later tick than the one it names (R25). -/
def State.gathers (s : State) (stamp : Nat) : Bool := decide (stamp < s.tick)

/-- Apply `f` to the state for every number below `n`, in rising order. -/
def State.upTo (s : State) (n : Nat) (f : State → Nat → State) : State := (List.range n).foldl f s

end Sys2Proof.Machine
end

