-- ==== Sys2Proof/Machine/Flags.lean ====
section
/-!
DEFINITION. Event flags and interrupts: setting the W1C flags of a block's event register, the vector that an enabled
flag sends (R103, R104), the urgent vector and the MSI-X table with its mask and pending bits (R71, R103).
-/

namespace Sys2Proof.Machine

/-- The block vector of flag mask `m` of an event register (R103): 1 + the block number of the register's owner. The
flags [15:8] of BURL_EVENTS are BURLD's, the others BURLC's (R201); the flags of PWR_EVENTS from bit 8 on are those of
the sequencer bus (R485). -/
def vectorOf (a m : Nat) : Nat :=
  match a / 0x10000 with
  | 0 => 2
  | 1 => if a < 0x18000 then 18 else 19
  | 2 => if m < 256 then 16 else 23
  | 3 => 17
  | 4 => 1
  | 5 => 15
  | 6 => 3
  | 7 => 4
  | 8 => if m < 256 then 5 else 6
  | 9 => 7
  | 10 => 8
  | 11 => 9
  | 12 => 10
  | 13 => 11
  | 14 => 12
  | 15 => 13
  | 16 => 14
  | 17 => 22
  | _ => 20

/-- Queue a vector for the next emit phase (R104). A vector already queued is merged. -/
def State.vector (s : State) (v : Nat) : State :=
  if s.host.vectors.contains v then s else { s with host := { s.host with vectors := s.host.vectors ++ [v] } }

/-- Set the flags `m` of the event register at `a`; the enable register lies 4 bytes above it. A flag that is enabled
queues the block's vector (R104). -/
def State.raise (s : State) (a m : Nat) : State :=
  let s' := s.wrN a (s.rdN a ||| m)
  if s.rdN (a + 4) &&& m = 0 then s' else s'.vector (vectorOf a m)

/-- Set one flag of an event register. -/
def State.raiseBit (s : State) (a i : Nat) : State := s.raise a (2 ^ i)

/-- The urgent vector of a non-maskable trap or a safe-state entry (R103). -/
def State.urgent (s : State) : State := s.vector 0

/-- Vector `v` is masked by its own Mask bit or by the Function Mask bit (R103), or the link is down, when no message can be
sent: it stays pending (log entry 77). -/
def State.masked (s : State) (v : Nat) : Bool :=
  !s.host.linkUp || s.host.pci.fnMask || s.flag (Reg.HOST_MSIX_TABLE v + 12) 0

/-- Send the message of vector `v`; a masked message stays pending (R103). -/
def State.sendVector (s : State) (v : Nat) : State :=
  if s.masked v then s.setFlag (Reg.HOST_MSIX_PBA (v / 32)) (v % 32) true
  else (s.setFlag (Reg.HOST_MSIX_PBA (v / 32)) (v % 32) false).emit (.msix v)

/-- The vectors of PBA word `w` whose pending bit is set. -/
def State.pendingOf (s : State) (w : Nat) : List Nat :=
  if s.rd (Reg.HOST_MSIX_PBA w) = 0 then []
  else ((List.range 32).filter (fun i => s.flag (Reg.HOST_MSIX_PBA w) i)).map (32 * w + ·)

/-- The vectors whose pending bit is set. -/
def State.pendingVectors (s : State) : List Nat := (List.range 8).flatMap s.pendingOf

/-- The emit phase's messages: every queued vector, then every pending message whose mask has been cleared (R104). -/
def State.sendVectors (s : State) : State :=
  let q := s.host.vectors
  let s1 := q.foldl State.sendVector { s with host := { s.host with vectors := [] } }
  (s1.pendingVectors.filter (fun v => !s1.masked v)).foldl State.sendVector s1

end Sys2Proof.Machine
end

