-- ==== Sys2Proof/Machine/BurlBlock.lean ====
section
/-!
DEFINITION. The Burl block: its header, the checks of ingress, the decoding of a segment, and the compressor's token
sequence and block (R177 to R191, R197). Everything here is a function of bytes; lanes and stations are in the file of
the page store.
-/

namespace Sys2Proof.Machine

/-! ### Lines and the header (R177 to R181) -/

/-- n_b: the lines of band `b` of a sheet of `lines` lines (R177). -/
def bandLines (lines b : Nat) : Nat := min 64 (lines - 64 * b)

/-- LINE_BYTES is in the range that R178 gives for the mode. -/
def lineBytesOk (modeB : Bool) (n : Nat) : Bool := decide (1 ≤ n) && decide (n ≤ if modeB then 6378 else 12756)

/-- Frames that a block with `n` bytes of body needs (R208). -/
def blockFrames (n : Nat) : Nat := 1 + (n - 15872 + 16383) / 16384

/-- RAW_LEN, with its reserved bits. -/
def hdrRawLen (h : List Byte) : Nat := leAt h 0x08 4
def hdrCompLen (h : List Byte) : Nat := leAt h 0x0C 4
def hdrRawCrc (h : List Byte) : Nat := leAt h 0x10 4
def hdrStored (h : List Byte) : Bool := bitOf (leAt h 0x15 1) 0
def hdrSegs (h : List Byte) : Nat := leAt h 0x16 1
def hdrLines (h : List Byte) : Nat := leAt h 0x18 2
/-- OFFSET of segment `j`; COMP_LEN for the segment past the last (R180). -/
def hdrOffset (h : List Byte) (j : Nat) : Nat := if hdrSegs h ≤ j then hdrCompLen h else leAt h (0x20 + 4 * j) 3
/-- FIRST_LINE of segment `j`; LINES for the segment past the last (R180). -/
def hdrFirst (h : List Byte) (j : Nat) : Nat := if hdrSegs h ≤ j then hdrLines h else leAt h (0x23 + 4 * j) 1

/-- LINE_BYTES of a block: RAW_LEN ÷ LINES (R178). -/
def hdrLineBytes (h : List Byte) : Nat := hdrRawLen h / hdrLines h

/-- `n` code lengths of 4 bits from offset `o` (R179). -/
def codeLengths (h : List Byte) (o n : Nat) : List Nat :=
  (List.range n).map (fun i => (leAt h (o + i / 2) 1 / 16 ^ (i % 2)) % 16)

def llLengths (h : List Byte) : List Nat := codeLengths h 0x40 288
def distLengths (h : List Byte) : List Nat := codeLengths h 0xD0 32

/-- The rule of R182 on one length table: the sum of 2^(−length) is 1, or one length is non-zero and it is 1. -/
def codeComplete (ls : List Nat) : Bool :=
  let used := ls.filter (· ≠ 0)
  decide ((used.map (fun l => 2 ^ (15 - l))).foldl (· + ·) 0 = 2 ^ 15) || decide (used = [1])

/-- The SEG entries are as R180 gives. -/
def segsOk (h : List Byte) : Bool :=
  let n := hdrSegs h
  decide (1 ≤ n) && decide (n ≤ 8) && decide (hdrOffset h 0 = 0) && decide (hdrFirst h 0 = 0) &&
  (List.range n).all (fun j => decide (hdrOffset h j < hdrOffset h (j + 1)) && decide (hdrFirst h j < hdrFirst h (j + 1))) &&
  zerosAt h (0x20 + 4 * n) (32 - 4 * n)

/-- Check 8 of R187. -/
def bodyFormOk (h : List Byte) : Bool :=
  if hdrStored h then
    decide (hdrCompLen h = hdrRawLen h) && zerosAt h 0x40 160 &&
    (List.range (hdrSegs h)).all (fun j => decide (hdrOffset h j = hdrFirst h j * hdrLineBytes h))
  else
    codeComplete (llLengths h) && (codeComplete (distLengths h) || (distLengths h).all (· = 0))

/-- Check 9 of R187: the expansion ceiling. -/
def ceilingOk (h : List Byte) (ceil : Nat) : Bool :=
  hdrStored h || (List.range (hdrSegs h)).all (fun j =>
    decide ((hdrFirst h (j + 1) - hdrFirst h j) * hdrLineBytes h ≤ (hdrOffset h (j + 1) - hdrOffset h j) * ceil))

/-- The CODE of the first check of R187 that a BURL item fails. -/
def burlIngress (tag : DWord) (b : List Byte) (nb : Nat) (modeB : Bool) (ceil : Nat) : Option Nat :=
  if leAt b 0x14 1 ≠ 1 ∨ 2 ≤ leAt b 0x15 1 ∨ leAt b 0x17 1 ≠ 0 ∨ !zerosAt b 0x1A 6 ∨ 2 ^ 21 ≤ hdrRawLen b then some 1
  else if leAt b 0 8 ≠ tag.toNat then some 2
  else if hdrCompLen b = 0 ∨ 1048576 < hdrCompLen b ∨ b.length ≠ 224 + hdrCompLen b then some 3
  else if hdrLines b ≠ nb then some 5
  else if hdrRawLen b = 0 ∨ 1048576 < hdrRawLen b ∨ hdrRawLen b % hdrLines b ≠ 0 ∨ !lineBytesOk modeB (hdrLineBytes b) then
    some 4
  else if !segsOk b then some 6
  else if !bodyFormOk b then some 7
  else if !ceilingOk b ceil then some 8
  else none

/-- Check 1 of R187, on a RAW item. -/
def rawIngress (n nb : Nat) (modeB : Bool) : Option Nat :=
  if n % nb ≠ 0 ∨ !lineBytesOk modeB (n / nb) then some 9 else none

/-! ### Canonical codes (R182, RFC 1951 section 3.2.2) -/

/-- Codes of length `l` in a table. -/
def countLen (ls : List Nat) (l : Nat) : Nat := (ls.filter (· = l)).length

/-- The first code of each length: `firstCode ls l` for l ≥ 1. -/
def firstCode (ls : List Nat) : Nat → Nat
  | 0 => 0
  | l + 1 => if l = 0 then 0 else 2 * (firstCode ls l + countLen ls l)

/-- The symbol whose code has length `l` and value `c`. -/
def symbolOf (ls : List Nat) (l c : Nat) : Option Nat :=
  if firstCode ls l ≤ c ∧ c < firstCode ls l + countLen ls l then
    ((List.range ls.length).filter (fun i => decide (ls.getD i 0 = l)))[c - firstCode ls l]?
  else none

/-- The code of symbol `i`. -/
def codeOfSym (ls : List Nat) (i : Nat) : Nat :=
  firstCode ls (ls.getD i 0) + ((ls.take i).filter (· = ls.getD i 0)).length

/-! ### Decoding a segment (R183 to R185, R197) -/

/-- Bit `p` of a byte string, bytes from bit 0 upwards (R183). -/
def bitAt (b : List Byte) (p : Nat) : Bool := bitOf (b.getD (p / 8) 0).toNat (p % 8)

/-- What reading a symbol can give. -/
inductive SymRead where
  | sym (s p : Nat)
  | runOut
  | noCode
  deriving DecidableEq, Repr

/-- Read one Huffman code, most significant code bit first, of at most `fuel` more bits (R183). -/
def readSym (ls : List Nat) (b : List Byte) : Nat → Nat → Nat → Nat → SymRead
  | 0, _, _, _ => .noCode
  | fuel + 1, p, l, c =>
    if 8 * b.length ≤ p then .runOut
    else
      let c' := 2 * c + (bitAt b p).toNat
      match symbolOf ls (l + 1) c' with
      | some s => .sym s (p + 1)
      | none => if ls.all (fun x => decide (x ≤ l + 1)) then .noCode else readSym ls b fuel (p + 1) (l + 1) c'

/-- `k` extra bits from bit `p`, least significant first; none where the bytes run out (R183). -/
def readBits (b : List Byte) (p k : Nat) : Option Nat :=
  if 8 * b.length < p + k then none
  else some ((List.range k).foldl (fun n i => n + (bitAt b (p + i)).toNat * 2 ^ i) 0)

/-- Extra bits and base of length symbol 256 + `k` (R184). -/
def lenSym (k : Nat) : Nat × Nat :=
  if k < 8 then (0, 3 + k) else ((k - 8) / 4 + 1, 3 + (4 + (k - 8) % 4) * 2 ^ ((k - 8) / 4 + 1))

/-- Extra bits and base of distance symbol `d` (R184). -/
def distSym (d : Nat) : Nat × Nat :=
  if d < 4 then (0, 1 + d) else ((d - 4) / 2 + 1, 1 + (2 + (d - 4) % 2) * 2 ^ ((d - 4) / 2 + 1))

/-- The copy of `n` bytes that begin `d` back in a reversed output (R183): overlapping copies repeat the pattern. -/
def copyBack (out : List Byte) (d : Nat) : Nat → List Byte
  | 0 => out
  | n + 1 => copyBack (out.getD (d - 1) 0 :: out) d n

/-- The end of a segment's decoding: its output, and the code of a failure (R197). -/
structure Decoded where
  out : List Byte
  fail : Option Nat
  deriving DecidableEq, Repr

/-- Decode tokens until the output reaches `raw` bytes, at bit `p`, with the output reversed in `out` (R183, R185). -/
def decodeTokens (ll dl : List Nat) (b : List Byte) (raw : Nat) : Nat → Nat → List Byte → Decoded
  | 0, _, out => ⟨out.reverse, some 0x13⟩
  | fuel + 1, p, out =>
    if raw ≤ out.length then
      if 8 ≤ 8 * b.length - p ∨ (List.range (8 * b.length - p)).any (fun i => bitAt b (p + i)) then
        ⟨out.reverse, some 0x15⟩
      else ⟨out.reverse, none⟩
    else
      match readSym ll b 15 p 0 0 with
      | .runOut => ⟨out.reverse, some 0x14⟩
      | .noCode => ⟨out.reverse, some 0x19⟩
      | .sym s p1 =>
        if s < 256 then decodeTokens ll dl b raw fuel p1 (BitVec.ofNat 8 s :: out)
        else
          match readBits b p1 (lenSym (s - 256)).1 with
          | none => ⟨out.reverse, some 0x14⟩
          | some x =>
            let n := (lenSym (s - 256)).2 + x
            let p2 := p1 + (lenSym (s - 256)).1
            if dl.all (· = 0) then ⟨out.reverse, some 0x12⟩
            else
              match readSym dl b 15 p2 0 0 with
              | .runOut => ⟨out.reverse, some 0x14⟩
              | .noCode => ⟨out.reverse, some 0x19⟩
              | .sym d p3 =>
                match readBits b p3 (distSym d).1 with
                | none => ⟨out.reverse, some 0x14⟩
                | some y =>
                  let dist := (distSym d).2 + y
                  if out.length < dist then ⟨out.reverse, some 0x11⟩
                  else if raw < out.length + n then ⟨out.reverse, some 0x13⟩
                  else decodeTokens ll dl b raw fuel (p3 + (distSym d).1) (copyBack out dist n)

/-- The bytes of segment `j` in a block. -/
def segBytes (blk : List Byte) (j : Nat) : List Byte :=
  bytesAt blk (224 + hdrOffset blk j) (hdrOffset blk (j + 1) - hdrOffset blk j)

/-- Raw length of segment `j` (R180). -/
def segRaw (blk : List Byte) (j : Nat) : Nat := (hdrFirst blk (j + 1) - hdrFirst blk j) * hdrLineBytes blk

/-- Decode segment `j` of a block. -/
def decodeSegment (blk : List Byte) (j : Nat) : Decoded :=
  if hdrStored blk then ⟨segBytes blk j, none⟩
  else decodeTokens (llLengths blk) (distLengths blk) (segBytes blk j) (segRaw blk j) (segRaw blk j + 1) 0 []

/-- RAW_CRC matches the band's segments combined (R197, code 0x16). -/
def blockCrcOk (blk : List Byte) : Bool :=
  decide (crc32 ((List.range (hdrSegs blk)).flatMap (fun j => (decodeSegment blk j).out)) = hdrRawCrc blk)

/-! ### Compression (R189 to R191) -/

/-- A token of R183. -/
inductive Token where
  | lit (b : Byte)
  | copy (len dist : Nat)
  deriving DecidableEq, Repr

/-- The hash of the three bytes at `p` (R190). -/
def hash3 (b : List Byte) (p : Nat) : Nat :=
  (((b.getD p 0).toNat <<< 7) ^^^ ((b.getD (p + 1) 0).toNat <<< 4) ^^^ (b.getD (p + 2) 0).toNat) % 2 ^ 15

/-- How many bytes from `p` on agree with those from `q` on, at most `n` (R190). -/
def agree (b : List Byte) (q p : Nat) : Nat → Nat
  | 0 => 0
  | n + 1 => if b.getD q 0 = b.getD p 0 then agree b (q + 1) (p + 1) n + 1 else 0

/-- The candidates at `p`: earlier positions with its hash, newest first, at most `depth` (R190). -/
def candidates (b : List Byte) (p depth : Nat) : List Nat :=
  (((List.range (min p 65536)).map (fun i => p - 1 - i)).filter (fun q => decide (hash3 b q = hash3 b p))).take depth

/-- The token at `p`: the longest match, the nearest one of equal lengths, or a literal (R190). -/
def tokenAt (b : List Byte) (p depth : Nat) : Token :=
  if b.length < p + 3 then .lit (b.getD p 0)
  else
    let m := (candidates b p depth).foldl
      (fun (m : Nat × Nat) q => let l := agree b q p (min 514 (b.length - p)); if m.1 < l then (l, p - q) else m) (0, 0)
    if 3 ≤ m.1 then .copy m.1 m.2 else .lit (b.getD p 0)

/-- The token sequence of a segment from position `p` on (R190). -/
def tokens (b : List Byte) (depth : Nat) : Nat → Nat → List Token
  | 0, _ => []
  | fuel + 1, p =>
    if b.length ≤ p then []
    else
      match tokenAt b p depth with
      | .lit x => .lit x :: tokens b depth fuel (p + 1)
      | .copy l d => .copy l d :: tokens b depth fuel (p + l)

/-- The length symbol of a match length: the greatest whose base does not exceed it (R184). -/
def symOfLen (n : Nat) : Nat := ((List.range 32).filter (fun k => decide ((lenSym k).2 ≤ n))).foldl max 0

/-- The distance symbol of a distance. -/
def symOfDist (n : Nat) : Nat := ((List.range 32).filter (fun d => decide ((distSym d).2 ≤ n))).foldl max 0

/-- LL symbol of a token. -/
def Token.ll : Token → Nat
  | .lit b => b.toNat
  | .copy l _ => 256 + symOfLen l

/-- The counts of `n` symbols in a list of symbols. -/
def symCounts (syms : List Nat) (n : Nat) : List Nat := (List.range n).map (fun i => (syms.filter (· = i)).length)

/-- The length table of an alphabet from its counts (R191): none used, all zero; a lone symbol, length 1; otherwise the
silicon's choice, a free value. -/
def tableLengths (counts : List Nat) : List Nat :=
  let used := (counts.filter (· ≠ 0)).length
  if used = 0 then counts.map (fun _ => 0)
  else if used = 1 then counts.map (fun c => if c = 0 then 0 else 1)
  else Config.codeLengths counts

/-- The lengths are a code that R182 allows, of at most 15 bits, with a code for every symbol that is used (R191). -/
def lengthsOk (counts ls : List Nat) : Bool :=
  decide (ls.length = counts.length) && ls.all (fun l => decide (l ≤ 15)) &&
  (List.range counts.length).all (fun i => decide (counts.getD i 0 = 0) || decide (ls.getD i 0 ≠ 0)) &&
  (codeComplete ls || counts.all (· = 0))

/-- `k` bits of `n`, least significant first. -/
def lsbBits (n k : Nat) : List Bool := (List.range k).map (bitOf n)

/-- A code, most significant bit first (R183). -/
def codeBits (ls : List Nat) (i : Nat) : List Bool := (lsbBits (codeOfSym ls i) (ls.getD i 0)).reverse

/-- The bits of a token (R183). -/
def Token.bits (ll dl : List Nat) : Token → List Bool
  | .lit b => codeBits ll b.toNat
  | .copy l d =>
    let k := symOfLen l
    let j := symOfDist d
    codeBits ll (256 + k) ++ lsbBits (l - (lenSym k).2) (lenSym k).1 ++ codeBits dl j ++
      lsbBits (d - (distSym j).2) (distSym j).1

/-- Pack bits into bytes from bit 0 upwards, the last byte padded with zeros (R183, R185). -/
def packBits : Nat → List Bool → List Byte
  | 0, _ => []
  | fuel + 1, bs =>
    if bs.isEmpty then []
    else BitVec.ofNat 8 ((List.range 8).foldl (fun n i => n + (bs.getD i false).toNat * 2 ^ i) 0) :: packBits fuel (bs.drop 8)

/-- The line counts of the segments of `lines` lines (R189): as equal as whole lines allow, the longer first. -/
def segLines (lines segs : Nat) : List Nat :=
  let k := min segs lines
  (List.range k).map (fun j => lines / k + (if j < lines % k then 1 else 0))

/-- Running sums. -/
def offsetsFrom : Nat → List Nat → List Nat
  | _, [] => []
  | o, x :: xs => o :: offsetsFrom (o + x) xs

/-- Two code lengths a byte (R179). -/
def packLengths : List Nat → List Byte
  | a :: b :: t => BitVec.ofNat 8 (a % 16 + b % 16 * 16) :: packLengths t
  | [a] => [BitVec.ofNat 8 (a % 16)]
  | [] => []

/-- A block from its parts (R179). -/
def mkBlock (tag : Nat) (raw : List Byte) (stored : Bool) (lines : Nat) (counts : List Nat) (ll dl : List Nat)
    (bodies : List (List Byte)) : List Byte :=
  let entries := (offsetsFrom 0 (bodies.map List.length)).zip (offsetsFrom 0 counts)
  let segs := entries.flatMap (fun e => leBytes 3 e.1 ++ leBytes 1 e.2)
  leBytes 8 tag ++ leBytes 4 raw.length ++ leBytes 4 (bodies.map List.length).sum ++ leBytes 4 (crc32 raw) ++
  [1, BitVec.ofNat 8 stored.toNat, BitVec.ofNat 8 counts.length, 0] ++ leBytes 2 lines ++ leBytes 6 0 ++
  segs ++ List.replicate (32 - segs.length) 0 ++ packLengths ll ++ packLengths dl ++ bodies.flatten

/-- The runs of bytes of the segments of a raw band. -/
def cutSegments (raw : List Byte) (lineBytes : Nat) : List Nat → List (List Byte)
  | [] => []
  | n :: ns => raw.take (n * lineBytes) :: cutSegments (raw.drop (n * lineBytes)) lineBytes ns

/-- The block that the lanes write for a raw band, and whether it is a stored one (R189 to R191). -/
def compress (tag : Nat) (raw : List Byte) (lines segs depth ceil : Nat) : List Byte × Bool :=
  let counts := segLines lines segs
  let parts := cutSegments raw (raw.length / lines) counts
  let toks := parts.map (fun b => tokens b depth b.length 0)
  let lc := symCounts (toks.flatten.map Token.ll) 288
  let dc := symCounts (toks.flatten.filterMap (fun t => match t with
    | .lit _ => none
    | .copy _ d => some (symOfDist d))) 32
  let ll := tableLengths lc
  let dl := tableLengths dc
  let bodies := toks.map (fun ts => let bs := ts.flatMap (Token.bits ll dl); packBits (bs.length) bs)
  let coded := mkBlock tag raw false lines counts ll dl bodies
  if lengthsOk lc ll && lengthsOk dc dl && decide (hdrCompLen coded < raw.length) && ceilingOk coded ceil then
    (coded, false)
  else (mkBlock tag raw true lines counts (List.replicate 288 0) (List.replicate 32 0) parts, true)

end Sys2Proof.Machine
end

