-- ==== Sys2Proof/Machine/Operands.lean ====
section
/-!
DEFINITION. Operand forms: the fields of a tag (R13), of the three host-to-controller descriptor formats (R95), and the
bytes of a completion record (R98) and of a Heartwood record (R444).
-/

namespace Sys2Proof.Machine

/-! ### The tag (R13) -/

/-- SHEET of a tag. -/
def tagSheet (t : DWord) : Nat := bitsOf t.toNat 63 32
/-- STATION of a tag. -/
def tagStation (t : DWord) : Nat := bitsOf t.toNat 31 29
/-- BAND of a tag. -/
def tagBand (t : DWord) : Nat := bitsOf t.toNat 28 17
/-- KIND of a tag. -/
def tagKind (t : DWord) : Nat := bitsOf t.toNat 16 12
/-- FRAG of a tag. -/
def tagFrag (t : DWord) : Nat := bitsOf t.toNat 11 0

/-- The tag with the given fields (R13). -/
def mkTag (sheet station band kind frag : Nat) : DWord :=
  BitVec.ofNat 64 ((sheet % 2 ^ 32) * 2 ^ 32 + (station % 8) * 2 ^ 29 + (band % 4096) * 2 ^ 17 + (kind % 32) * 2 ^ 12 +
    frag % 4096)

/-- The tag of a sheet at a station in what names neither a band nor a line: a ledger message's (R13, R14). -/
def sheetTag (sheet station : Nat) : DWord := mkTag sheet station 0 6 0

/-- SHEET, STATION and BAND are zero, as R15 asks of kinds 0x07 and 0x09 to 0x0D. -/
def tagNoSheet (t : DWord) : Bool := decide (bitsOf t.toNat 63 17 = 0)

/-! ### Descriptors (R95) -/

/-- The tag of a descriptor. -/
def descTag (d : List Byte) : DWord := BitVec.ofNat 64 (leAt d 0 8)

/-- LEN of a data or bulk descriptor, with its reserved bits. -/
def descLen (d : List Byte) : Nat := leAt d 0x10 4

/-- FLAGS of a data or bulk descriptor. -/
def descFlags (d : List Byte) : Nat := leAt d 0x14 4

/-- ADDR of a data or bulk descriptor: the host address of its buffer. -/
def descAddr (d : List Byte) : Nat := leAt d 8 8

/-- CHAIN of a data descriptor (R96). -/
def descChain (d : List Byte) : Bool := bitOf (descFlags d) 0

/-- CPL of a ring's descriptor. -/
def descCpl (ring : Nat) (d : List Byte) : Bool :=
  if ring = 0 then bitOf (leAt d 0x0B 1) 1 else bitOf (descFlags d) 1

/-- COOKIE of a ring's descriptor. -/
def descCookie (ring : Nat) (d : List Byte) : Nat := if ring = 0 then leAt d 0x0C 4 else leAt d 0x18 4

/-- The KINDs a ring takes (R82). -/
def ringKind (ring kind : Nat) : Bool :=
  if ring = 0 then kind = 5 || kind = 6 || kind = 7
  else if ring ≤ 8 then kind = 1 || kind = 2
  else kind = 0x0A || kind = 0x0B

/-- The total length of a data item of this KIND is within the limits of R186. -/
def dataLength (kind n : Nat) : Bool :=
  if kind = 2 then decide (225 ≤ n) && decide (n ≤ 1048800) else decide (n ≤ 816384)

/-- The BAR1 windows of R76 above the Almanac window: offset, size and the block that owns the window. -/
def tableWindows : List (Nat × Nat × Nat) :=
  [(0x100000, 0x200000, 8), (0x300000, 0x100000, 9), (0x400000, 0x200000, 11), (0x600000, 0x400000, 13)]

/-- The block that owns the table window in which the `n` bytes from BAR1 offset `a` lie wholly (R76). -/
def tableOwner (a n : Nat) : Option Nat :=
  (tableWindows.find? (fun w => decide (w.1 ≤ a) && decide (a + n ≤ w.1 + w.2.1))).map (·.2.2)

/-- The first check of R97 on a command descriptor: reserved fields, KIND, ranges and R15. -/
def commandMalformed (d : List Byte) : Bool :=
  let t := descTag d
  let k := tagKind t
  decide (0x0E ≤ k) || decide (leAt d 0x0B 1 / 4 ≠ 0) || bitOf (leAt d 0x0B 1) 0 ||
  (decide (k = 7) && !tagNoSheet t) || ((decide (k = 5) || decide (k = 6)) && decide (leAt d 0x0A 1 ≠ 3)) ||
  decide (0x18 ≤ leAt d 0x0A 1)

/-- The first check of R97 on one data descriptor. -/
def dataDescMalformed (d : List Byte) : Bool :=
  let n := descLen d
  decide (0x0E ≤ tagKind (descTag d)) || decide (n = 0) || decide (1048576 < n) || decide (4 ≤ descFlags d) ||
  decide (tagFrag (descTag d) ≠ 0) || !zerosAt d 0x1C 36

/-- The first check of R97 on a bulk descriptor. -/
def bulkMalformed (d : List Byte) : Bool :=
  let t := descTag d
  let k := tagKind t
  let n := descLen d
  decide (0x0E ≤ k) || ((decide (k = 0x0A) || decide (k = 0x0B)) && !tagNoSheet t) ||
  decide (4 ≤ descFlags d) || bitOf (descFlags d) 0 || !zerosAt d 0x20 32 ||
  (decide (k = 0x0A) && (decide (n ≠ 4096) || decide (leAt d 0x1C 4 ≠ 0))) ||
  (decide (k = 0x0B) && (decide (n < 4) || decide (65536 < n) || decide (n % 4 ≠ 0) || decide (leAt d 0x1C 4 % 4 ≠ 0)))

/-! ### Records -/

/-- The 64 bytes of a completion record (R98). -/
def Completion.bytes (c : Completion) : List Byte :=
  leBytes 8 c.tag.toNat ++ leBytes 4 c.cookie ++ leBytes 1 c.type ++ leBytes 1 c.ring ++ leBytes 1 c.status ++
  leBytes 1 c.detail ++ leBytes 4 c.index ++ leBytes 2 (c.sub % 4096) ++ leBytes 2 0 ++ leBytes 6 c.tick ++
  leBytes 2 0 ++ c.body.take 32

/-- The first 60 bytes of a Heartwood record (R444). -/
def Record.body (r : Record) : List Byte :=
  leBytes 4 r.seq ++ leBytes 2 r.epoch ++ leBytes 2 r.code ++ leBytes 6 r.tick ++ leBytes 2 (r.sub % 4096) ++
  leBytes 2 r.suppressed ++ leBytes 1 (r.cont.toNat + 2 * r.first.toNat) ++ leBytes 1 (min 40 r.payload.length) ++
  (r.payload ++ List.replicate 40 0).take 40

/-- The 64 bytes of a Heartwood record, its CRC last (R444). -/
def Record.bytes (r : Record) : List Byte := r.body ++ leBytes 4 (crc32 r.body)

end Sys2Proof.Machine
end

