-- ==== Sys2Proof/Machine/Frames.lean ====
section
/-!
DEFINITION. The frames of the page store and the bytes of DRAM (R205 to R212, R227), and the work of the decompressor
lanes that other blocks end (R195).
-/

namespace Sys2Proof.Machine

/-! ### Bytes of DRAM (R205, R206) -/

/-- Bytes of the two channels together for an organisation (R202): 8 or 4 components of 2 or 4 GB each, ranks. -/
def orgBytes (org : Nat) : Nat :=
  let perRank := (if bitOf org 0 then 4 else 8) * (if bitOf org 1 then 4 else 2) * 2 ^ 30
  2 * perRank * (if bitOf org 2 then 2 else 1)

/-- Capacity of the page store and the reserved region, in bytes. -/
def State.dramBytes (s : State) : Nat := orgBytes (s.fld Reg.DRAM_ORG 2 0)

/-- Page-store frames: capacity ÷ 16 KB − 256 (R206). -/
def State.framesTotal (s : State) : Nat := s.rdN Reg.DRAM_FRAMES_TOTAL

/-- The byte at offset `o` of a frame. -/
def FrameBytes.byte (f : FrameBytes) (o : Nat) : Byte :=
  match f with
  | .raw m => memByte m o
  | .directory lead => (leBytes 4 (tabGet 0xFFFFFFFF lead (o / 4))).getD (o % 4) 0

/-- The byte at DRAM physical address `a`. -/
def State.dramByte (s : State) (a : Nat) : Byte := (tabGet (.raw []) s.dram.bytes (a / 16384)).byte (a % 16384)

/-- `k` bytes of DRAM from address `a`. -/
def State.dramRead (s : State) (a k : Nat) : List Byte := (List.range k).map (fun i => s.dramByte (a + i))

/-- The bytes of a frame as plain memory, so that part of it can be written. -/
def FrameBytes.toRaw (f : FrameBytes) : Memory :=
  match f with
  | .raw m => m
  | .directory _ => memWrite [] 0 ((List.range 16384).map f.byte)

/-- Write bytes into frame `f` from offset `o`. -/
def State.writeFrame (s : State) (f o : Nat) (bs : List Byte) : State :=
  { s with dram := { s.dram with bytes :=
      (tabMod (.raw []) s.dram.bytes f (fun x => .raw (memWrite x.toRaw o bs))) } }

/-- Write bytes at address `a`, one by one across frames. -/
def State.dramWrite : State → Nat → List Byte → State
  | s, _, [] => s
  | s, a, b :: bs => State.dramWrite (s.writeFrame (a / 16384) (a % 16384) [b]) (a + 1) bs

/-! ### The free list (R206, R211, R212, R224, R227) -/

/-- A frame on the free list: wiped, not held or reserved, not bad. -/
def State.frameFree (s : State) (f : Nat) : Bool :=
  decide (f < s.dram.wiped) && !tabGet false s.dram.taken f && !tabGet false s.dram.bad f

/-- Frames that station `stn` may still take: `n` free frames within its quota (R211). -/
def State.canReserve (s : State) (stn n : Nat) : Bool :=
  decide (n ≤ s.rdN Reg.DRAM_FRAMES_FREE) &&
  decide (s.rdN (Reg.DRAM_PS_HELD stn) + n ≤ s.fld (Reg.DRAM_PS_QUOTA stn) 22 0)

/-- `n` distinct free frames. -/
def State.freshFrames (s : State) (fs : List Nat) (n : Nat) : Bool :=
  decide (fs.length = n) && fs.all s.frameFree && decide fs.Nodup

/-- Station `stn` takes frames (R209, R210). -/
def State.takeFrames (s : State) (stn : Nat) (fs : List Nat) : State :=
  let s1 := { s with dram := { s.dram with taken := fs.foldl (fun t f => tabSet false t f true) s.dram.taken } }
  (s1.wrN Reg.DRAM_FRAMES_FREE (s1.rdN Reg.DRAM_FRAMES_FREE - fs.length)).wrN (Reg.DRAM_PS_HELD stn)
    (s1.rdN (Reg.DRAM_PS_HELD stn) + fs.length)

/-- Frames are to be returned from the tick after this one (R212). -/
def State.giveBack (s : State) (stn : Nat) (fs : List Nat) : State :=
  { s with dram := { s.dram with returning := s.dram.returning ++ fs.map (fun f => ⟨f, stn, s.tick⟩) } }

/-- One frame comes back: it is free again unless it is bad (R212, R224). -/
def State.returnFrame (s : State) (r : Returning) : State :=
  let s1 := { s with dram := { s.dram with taken := tabSet false s.dram.taken r.frame false } }
  let s2 := s1.wrN (Reg.DRAM_PS_HELD r.station) (s1.rdN (Reg.DRAM_PS_HELD r.station) - 1)
  if tabGet false s.dram.bad r.frame then s2 else s2.wrN Reg.DRAM_FRAMES_FREE (s2.rdN Reg.DRAM_FRAMES_FREE + 1)

/-- The frame manager returns up to 4,096 frames a tick, of events decided in earlier ticks (R212). -/
def State.returnFrames (s : State) : State :=
  let due := (s.dram.returning.takeWhile (fun r => decide (r.decided < s.tick))).take 4096
  due.foldl State.returnFrame { s with dram := { s.dram with returning := s.dram.returning.drop due.length } }

/-! ### Bands (R208, R209) -/

/-- The key of a band of a sheet at a station. -/
def bandKey (sheet stn band : Nat) : Nat := sheet * 32768 + stn % 8 * 4096 + band % 4096

/-- The directory frame of a sheet and station, if it has one. -/
def State.dirOf (s : State) (sheet stn : Nat) : Option Nat := tabFind s.dram.dirs (sheet * 8 + stn)

/-- Set the directory's entry of a band: its lead frame, or absent (R209). -/
def State.setDirectory (s : State) (sheet stn band lead : Nat) : State :=
  match s.dirOf sheet stn with
  | some f => { s with dram := { s.dram with bytes :=
      (match tabGet (.raw []) s.dram.bytes f with
      | .directory t => tabPut s.dram.bytes f (.directory (tabSet 0xFFFFFFFF t band lead))
      | .raw _ => tabPut s.dram.bytes f (.directory (tabSet 0xFFFFFFFF [] band lead))) } }
  | none => s

/-- A directory frame is taken, with every band absent (R209). -/
def State.takeDirectory (s : State) (sheet stn f : Nat) : State :=
  let s1 := s.takeFrames stn [f]
  { s1 with dram := { s1.dram with dirs := tabPut s1.dram.dirs (sheet * 8 + stn) f,
                                   bytes := tabPut s1.dram.bytes f (.directory []) } }

/-- The lead frame of a block (R208): header, frame map, zeros, and the first of the body. -/
def leadFrame (blk : List Byte) (cont : List Nat) : List Byte :=
  blk.take 224 ++ (cont.flatMap (leBytes 4) ++ List.replicate 256 0).take 256 ++ List.replicate 32 0 ++
  bytesAt blk 224 15872

/-- Write a block into its frames, the lead frame last (R208, R210). -/
def State.storeBlock (s : State) (blk : List Byte) (frames : List Nat) : State :=
  let cont := frames.drop 1
  let s1 := (List.range cont.length).foldl
    (fun t i => t.writeFrame (cont.getD i 0) 0 (bytesAt blk (224 + 15872 + 16384 * i) 16384)) s
  s1.writeFrame (frames.headD 0) 0 (leadFrame blk cont)

/-- The block of a resident band, read back from its frames (R208). -/
def State.readBlock (s : State) (r : BandRec) : List Byte :=
  let lead := r.frames.headD 0
  let hdr := s.dramRead (lead * 16384) 224
  let n := hdrCompLen hdr
  hdr ++ ((s.dramRead (lead * 16384 + 512) (min n 15872)) ++ (List.range (blockFrames n - 1)).flatMap
    (fun i => s.dramRead (leNat (s.dramRead (lead * 16384 + 224 + 4 * i) 4) * 16384) 16384)).take n

/-- A band held in the page store. -/
def State.band (s : State) (sheet stn band : Nat) : Option BandRec := tabFind s.dram.bands (bandKey sheet stn band)

/-- A band becomes absent and its frames are returned (R125, R212). -/
def State.freeBand (s : State) (sheet stn band : Nat) : State :=
  let k := bandKey sheet stn band
  match s.band sheet stn band with
  | some r =>
    let s1 := { s with dram := { s.dram with bands := tabDel s.dram.bands k },
                       burl := { s.burl with decodes := tabDel s.burl.decodes k } }
    (s1.setDirectory sheet stn band 0xFFFFFFFF).giveBack stn r.frames
  | none => s

/-! ### Compressor lanes (R189) -/

/-- A compressor lane is enabled and bound to a station (R189). -/
def State.compLane (s : State) (lane stn : Nat) : Bool :=
  s.flag (Reg.BURL_CBIND lane) 7 && decide (s.fld (Reg.BURL_CBIND lane) 2 0 = stn)

/-- Ring 1 to 8 of a station with no enabled compressor lane is held by a RAW item in the lanes' queue (R189). -/
def State.rawStuck (s : State) (stn : Nat) : Bool :=
  s.burl.jobs.any (fun j => decide (tagStation j.item.tag = stn)) && (List.range 16).all (fun l => !s.compLane l stn)

/-! ### Decompressor lanes (R195, R198) -/

/-- The lanes whose work satisfies `p` abandon it. -/
def State.abandonLanes (s : State) (p : LaneWork → Bool) : State :=
  { s with burl := { s.burl with lanes := s.burl.lanes.filter (fun l => !p l.2) } }

/-- A sheet leaves ADMITTED or COMMITTED (R195): its lanes abandon their segments. -/
def State.dropLanes (s : State) (id : Nat) : State :=
  let s1 := s.abandonLanes (fun w => decide (w.sheet = id))
  { s1 with burl := { s1.burl with decodes := s1.burl.decodes.filter (fun d => decide (d.1 / 32768 ≠ id)) } }

/-- The lines of a sheet in line store are discarded (R195): at once for a sheet that no station has begun, and for one that
stations image at the boundary where its stop takes effect (R136, R256). -/
def State.dropLines (s : State) (id : Nat) : State :=
  { s with scan := s.scan.map (fun x => { x with slots := x.slots.filter (fun l => decide (l.2.sheet ≠ id)) }) }

/-- Every frame of a freed entry is returned, its directories and reservations included (R212). -/
def State.freeSheet (s : State) (id : Nat) : State :=
  let mine := s.dram.bands.filter (fun b => decide (b.1 / 32768 = id))
  let s1 := mine.foldl (fun t b => t.freeBand id (b.1 / 4096 % 8) (b.1 % 4096)) s
  let ds := s1.dram.dirs.filter (fun d => decide (d.1 / 8 = id))
  let s2 := ds.foldl (fun t d => t.giveBack (d.1 % 8) [d.2]) { s1 with dram := { s1.dram with dirs :=
    (s1.dram.dirs.filter (fun d => decide (d.1 / 8 ≠ id))) } }
  let s3 := s2.burl.writing.foldl
    (fun t w => if tagSheet w.item.tag = id then t.giveBack (tagStation w.item.tag) w.frames else t) s2
  let s4 := s3.burl.jobs.foldl
    (fun t j => if tagSheet j.item.tag = id then t.giveBack (tagStation j.item.tag) j.frames else t) s3
  let s5 := { s4 with burl := { s4.burl with
    writing := s4.burl.writing.map (fun (w : Writing) => if tagSheet w.item.tag = id then { w with frames := [] } else w),
    jobs := s4.burl.jobs.map (fun (j : CompJob) => if tagSheet j.item.tag = id then { j with frames := [] } else j) } }
  (s5.dropLanes id).dropLines id

end Sys2Proof.Machine
end

