-- ==== Sys2Proof/Machine/Pages.lean ====
section
/-!
DEFINITION. Tick pages, seasons and volumes as the units read them (R36 to R51, R59): the images of the two banks, the
page that runs in the present tick, and the slots it holds. The holding page is a fixed list.
-/

namespace Sys2Proof.Machine

/-! ### The image of a bank (R37, R38) -/

/-- The bytes of a physical bank by image offset. -/
def AlmBlk.bank (a : AlmBlk) (b : Nat) : Memory := if b = 0 then a.bank0 else a.bank1

/-- Replace the bytes of a physical bank. -/
def AlmBlk.setBank (a : AlmBlk) (b : Nat) (m : Memory) : AlmBlk :=
  if b = 0 then { a with bank0 := m } else { a with bank1 := m }

/-- A header field (R38). -/
def imgHdr (m : Memory) (o k : Nat) : Nat := memLe m o k

/-- BUILD_ID, ENGINE_ID and the masks word of ALM_SB_MASKS, from an image header (R38, R69). -/
def imgBuildId (m : Memory) : Nat := imgHdr m 0x008 4
def imgEngineId (m : Memory) : Nat := imgHdr m 0x014 4
def imgPages (m : Memory) : Nat := imgHdr m 0x010 1
def imgVolMask (m : Memory) : Nat := imgHdr m 0x011 1
def imgStnMask (m : Memory) : Nat := imgHdr m 0x012 1
def imgMasks (m : Memory) : Nat := imgVolMask m + imgStnMask m * 256 + (imgPages m % 64) * 65536

/-- SLOT_COUNT of page `k` (R38). -/
def imgSlots (m : Memory) (k : Nat) : Nat := imgHdr m (0x040 + 4 * k) 2

/-- The 64 bits of slot `i` of page `k` (R36, R40). -/
def imgSlot (m : Memory) (k i : Nat) : Nat := memLe m (4096 + 8192 * k + 8 * i) 8

/-- A field of the volume descriptor of grade `g` (R48). -/
def volField (m : Memory) (g o k : Nat) : Nat := imgHdr m (0x100 + 64 * g + o) k
def volValid (m : Memory) (g : Nat) : Bool := bitOf (volField m g 0 1) 0
def volModeB (m : Memory) (g : Nat) : Bool := bitOf (volField m g 0 1) 1
def volAdmitDepth (m : Memory) (g : Nat) : Nat := volField m g 1 1
def volSeasonLen (m : Memory) (g : Nat) : Nat := volField m g 2 2
def volSeasonOff (m : Memory) (g : Nat) : Nat := volField m g 4 2
def volLineBytes (m : Memory) (g : Nat) : Nat := volField m g 6 2
def volLsLines (m : Memory) (g : Nat) : Nat := volField m g 8 2
def volPeriodPs (m : Memory) (g : Nat) : Nat := volField m g 0x0C 4
def volFacetLen (m : Memory) (g s : Nat) : Nat := volField m g (0x10 + s) 1
def volFacetOff (m : Memory) (g s : Nat) : Nat := volField m g (0x18 + 2 * s) 2

/-- Season entry `i` of the shared region (R46). -/
def imgSeason (m : Memory) (i : Nat) : Nat := memLe m (97 * 4096 + 2 * i) 2

/-- A field of facet entry `i` of the shared region (R50). -/
def facetField (m : Memory) (i o k : Nat) : Nat := memLe m (113 * 4096 + 16 * i + o) k

/-! ### Slots (R40) -/

/-- A slot of a tick page. -/
structure PageSlot where
  phase : Nat
  block : Nat
  lane : Nat
  op : Nat
  object : Nat
  param : Nat
  /-- The slot's number in its page. -/
  index : Nat
  deriving DecidableEq, Repr

/-- The slot that 64 bits spell (R40). -/
def mkSlot (w i : Nat) : PageSlot :=
  ⟨bitsOf w 63 62, bitsOf w 61 57, bitsOf w 56 54, bitsOf w 53 48, bitsOf w 47 32, bitsOf w 31 0, i⟩

/-- The slots of page `k` of an image. -/
def imgPage (m : Memory) (k : Nat) : List PageSlot := (List.range (imgSlots m k)).map (fun i => mkSlot (imgSlot m k i) i)

/-- One slot of the holding page. -/
def holdSlot (phase block op object param : Nat) : PageSlot := ⟨phase, block, 0, op, object, param, 0⟩

/-- The holding page (R59): host rings and ingress, sheet I/O inputs, the fault collector, the ledger, Heartwood (with
REFILL every 40 ticks, R450), power and thermal supervision, Canopy, interrupts and telemetry. It runs no motion and no
loop. Canopy's READ slots serve every queue and are not listed one by one (log entry 12). -/
def holdingPage (tick : Nat) : List PageSlot :=
  (List.range 16).map (fun k => holdSlot 0 1 1 k 0) ++ [holdSlot 0 0x15 1 0 0] ++
  (List.range 8).map (fun k => holdSlot 0 0x15 2 k 0) ++ [holdSlot 0 0x0F 1 0 0] ++
  [holdSlot 1 0 1 0 0, holdSlot 1 3 1 0 0, holdSlot 1 0x0C 2 0 0, holdSlot 1 0x10 1 0 0] ++
  (if tick % 40 = 0 then [holdSlot 1 0x0E 1 0 0] else []) ++
  [holdSlot 3 1 2 0 0] ++ (List.range 4).map (fun k => holdSlot 3 1 3 (10 + k) 0) ++ [holdSlot 3 0x0C 3 0 0]

/-! ### What runs now -/

/-- The holding page runs (R59). -/
def State.holding (s : State) : Bool := s.flag Reg.ALM_STATUS 1

/-- The image of the active bank. -/
def State.active (s : State) : Memory :=
  match s.alm.active with
  | some b => s.alm.bank b
  | none => []

/-- The image of the standby bank. -/
def State.standbyImage (s : State) : Memory := s.alm.bank s.alm.standby

/-- The current grade (R62). -/
def State.grade (s : State) : Nat := s.fld Reg.ALM_STATUS 6 4

/-- The index of the running season (R47). -/
def State.seasonPos (s : State) : Nat := s.fld Reg.ALM_SEASON_POS 11 0

/-- The running volume's mode is B (R48). -/
def State.modeB (s : State) : Bool := volModeB s.active s.grade

/-- The page index that the season names for the present tick (R47). -/
def State.pageIndex (s : State) : Nat :=
  imgSeason s.active (volSeasonOff s.active s.grade + s.seasonPos) % 64

/-- The slots that run in the present tick (R41, R59). A no-operation, and a slot whose uncorrectable error was found
before, does nothing (R42, R68). -/
def State.slots (s : State) : List PageSlot :=
  if s.holding then holdingPage s.tick
  else (imgPage s.active s.pageIndex).filter
    (fun p => decide (p.op ≠ 0) && !tabGet false s.alm.badSlots (s.pageIndex * 1024 + p.index))

/-- The present page holds operation `op` of block `block` with this OBJECT. -/
def State.pageHas (s : State) (block op object : Nat) : Bool :=
  s.slots.any (fun p => decide (p.block = block) && decide (p.op = op) && decide (p.object = object))

/-- Grades whose volume is present in an image (R48). -/
def gradesOf (m : Memory) : List Nat := (List.range 8).filter (fun g => bitOf (imgVolMask m) g)

/-- The slowest grade present in an image (R12, R60). -/
def slowestGrade (m : Memory) : Nat := (gradesOf m).foldl max 0

/-- The present tick runs the last entry of the season (R47). -/
def State.lastOfSeason (s : State) : Bool := decide (s.seasonPos + 1 = volSeasonLen s.active s.grade)

end Sys2Proof.Machine
end

