-- ==== Sys2Proof/Machine/Rings.lean ====
section
/-!
DEFINITION. HOST: the rings, their doorbells, the descriptors they carry, completions, detach and attach (R71 to R108).
-/

namespace Sys2Proof.Machine

/-! ### Modes, rings and pages -/

/-- CE220 mode is in force (R3). -/
def State.ce220 (s : State) : Bool := s.flag Reg.HOST_MODE 0

/-- HOST_SETUP_LOCK.LOCK (R81). -/
def State.locked (s : State) : Bool := s.flag Reg.HOST_SETUP_LOCK 0

/-- The state code of ring `k`: 0 STOPPED, 1 RUNNING, 2 STOPPING, 3 HALTED (R85). -/
def State.ringState (s : State) (k : Nat) : Nat := s.fld (Reg.HOST_RING_STATE k) 1 0

/-- The producer index of ring `k` (R84). -/
def State.producer (s : State) (k : Nat) : Nat :=
  if k ≤ 9 then s.rdN (Reg.HOST_RING_HIDX k) else s.rdN (Reg.HOST_RING_DIDX k)

/-- The consumer index of ring `k` (R84). -/
def State.consumer (s : State) (k : Nat) : Nat :=
  if k ≤ 9 then s.rdN (Reg.HOST_RING_DIDX k) else s.rdN (Reg.HOST_RING_HIDX k)

/-- Descriptors of ring `k` (R83). -/
def State.ringSize (s : State) (k : Nat) : Nat := 2 ^ s.fld (Reg.HOST_RING_SIZE k) 4 0

/-- The host address of the descriptor that index `i` of ring `k` names (R83, R84). -/
def State.slotAddr (s : State) (k i : Nat) : Nat :=
  s.rdN (Reg.HOST_RING_BASE_LO k) + s.rdN (Reg.HOST_RING_BASE_HI k) * 2 ^ 32 + i % s.ringSize k * 64

/-- The host address of ring `k`'s write-back entry (R92). -/
def State.writeBackAddr (s : State) (k : Nat) : Nat :=
  s.rdN Reg.HOST_WB_BASE_LO + s.rdN Reg.HOST_WB_BASE_HI * 2 ^ 32 + 8 * k

/-- Put ring `k` in a state (R85). -/
def State.setRing (s : State) (k st : Nat) : State := s.setFld (Reg.HOST_RING_STATE k) 1 0 st

/-- Every ring is STOPPED (R86). -/
def State.allStopped (s : State) : Bool := (List.range 16).all (fun k => s.ringState k = 0)

/-- Advance the index that the controller holds for ring `k`, and mark its write-back entry and its vector (R92, R104). -/
def State.advance (s : State) (k n : Nat) : State :=
  let s1 := s.wrN (Reg.HOST_RING_DIDX k) (s.rdN (Reg.HOST_RING_DIDX k) + n)
  { s1 with host := { s1.host with moved := tabSet false s1.host.moved k true,
                                   ringVec := tabSet false s1.host.ringVec k true } }

/-- Set a HOST_ERR flag (R107). -/
def State.hostErr (s : State) (bit : Nat) : State := s.raiseBit Reg.HOST_ERR bit

/-- A ring request or doorbell in the wrong state (R87). -/
def State.ringStateError (s : State) (k : Nat) : State := (s.hostErr 4).setFld Reg.HOST_ERR_RING 3 0 k

/-- The report of a discarded write: HOST_ERR bit, HOST_ERR_ADDR and ACCESS_REFUSED (R78). -/
def State.discarded (s : State) (bit bar off : Nat) : State :=
  ((s.hostErr bit).wrN Reg.HOST_ERR_ADDR (bar * 2 ^ 26 + off % 2 ^ 26)).fault 0x040 0x03 off

/-! ### Completions (R98 to R100) -/

/-- The completion queue's quota of R100 and R384: 4,096 cells, two cells a record. -/
def completionQuota : Nat := 2048

/-- Queue a record for ring 14; at the quota, taking of descriptors is held back (R100). -/
def State.queueRecord (s : State) (c : Completion) : State :=
  let q := s.host.completions ++ [c]
  let s1 := { s with host := { s.host with completions := q } }
  if completionQuota ≤ q.length ∧ s.host.held = false then
    ({ s1 with host := { s1.host with held := true } }.hostErr 9).event 0x0105 [q.length]
  else s1

/-- The TYPE 0 record of an item that is complete (R98). -/
def OpenItem.record (o : OpenItem) (k : Nat) (r : ItemResult) : Completion :=
  ⟨o.tag, o.cookie, 0, k, r.status, r.detail, o.index, r.sub, r.tick,
    leBytes 2 o.count ++ leBytes 2 0 ++ leBytes 4 o.len ++ leBytes 24 0⟩

/-- Write the records of the leading complete items of a ring, in descriptor order (R99). -/
def State.showComplete : State → Nat → List OpenItem → State
  | s, k, [] => { s with host := { s.host with opened := tabSet [] s.host.opened k [] } }
  | s, k, o :: os =>
    match o.result with
    | none => { s with host := { s.host with opened := tabSet [] s.host.opened k (o :: os) } }
    | some r =>
      State.showComplete (if o.cpl || decide (r.status ≠ 0) then s.queueRecord (o.record k r) else s) k os

/-- An item completes with STATUS and DETAIL (R98, R99). Items that LEG made come from no ring and leave no record. The
SUBTICK of the decision is a free value (log entry 6). -/
def State.complete (s : State) (it : Item) (status detail : Nat) : State :=
  if it.ring ≤ 9 then
    let r : ItemResult := ⟨status, detail, s.tick, s.freeNat % 2500⟩
    let os := (tabGet [] s.host.opened it.ring).map
      (fun o => if o.serial = it.serial then { o with result := some r } else o)
    State.showComplete s.drawn it.ring os
  else s

/-- Take an item into the list of items not yet shown complete. -/
def State.openItem (s : State) (it : Item) : State :=
  { s with host := { s.host with
      opened := tabSet [] s.host.opened it.ring
        (tabGet [] s.host.opened it.ring ++ [⟨it.index, it.serial, it.tag, it.cookie, it.cpl, it.count, it.len, none⟩]),
      serials := max s.host.serials (it.serial + 1) } }

/-- Pass an item to its owner's queue (R97). -/
def State.deliver (s : State) (owner : Nat) (it : Item) : State :=
  { s with host := { s.host with inbox := tabMod [] s.host.inbox owner (· ++ [it]) } }

/-- The items that wait for an owner. -/
def State.inboxOf (s : State) (owner : Nat) : List Item := tabGet [] s.host.inbox owner

/-- Drop the front item of an owner's queue. -/
def State.dropInbox (s : State) (owner : Nat) : State :=
  { s with host := { s.host with inbox := tabMod [] s.host.inbox owner (·.tail) } }

/-- The Canopy queue that carries the notice of a TABLE item to the owner of its window (R385). -/
def tableQueue (it : Item) : Nat :=
  match tableOwner it.target it.len with
  | some 8 => 26
  | some 9 => 27
  | some 0x0A => 28
  | some 0x0B => 29
  | _ => 30

/-- The cells that the READ slots of this tick's page read of a queue (R391). The holding page serves every queue, eight cells a
tick (log entry 12). -/
def State.cellsRead (s : State) (q : Nat) : Nat :=
  if s.holding then 8
  else (s.slots.filter (fun p => decide (p.block = 0x0C) && decide (p.op = 1) && decide (p.object = q))).foldl
    (fun n p => n + p.param % 16) 0

/-- The item that this tick's reads of Canopy queue `q`, of whose packets each takes so many cells, bring to its owner next
(R385, R388). -/
def State.frontOf (s : State) (owner q cells : Nat) : Option Item :=
  match s.inboxOf owner with
  | [] => none
  | it :: _ => if it.readyAt ≤ s.tick ∧ (tabGet 0 s.host.read q + 1) * cells ≤ s.cellsRead q then some it else none

/-- The owner takes the front item that a READ slot of queue `q` has brought. -/
def State.takeItem (s : State) (owner q : Nat) : State :=
  let t := s.dropInbox owner
  { t with host := { t.host with read := tabSet 0 t.host.read q (tabGet 0 t.host.read q + 1) } }

/-- An item that fails a check of R97: taken, completed with an error status, and reported as MALFORMED_ITEM. -/
def State.failItem (s : State) (it : Item) (status : Nat) : State :=
  (((s.openItem it).complete it status 0).hostErr 7).fault 0x040 0x05 0

/-! ### Requests (R87) -/

/-- START, RESUME of rings 1 to 9 are refused in CE220 mode (R101). -/
def State.ringAllowed (s : State) (k : Nat) : Bool := !(s.ce220 && decide (1 ≤ k) && decide (k ≤ 9))

/-- HWD_OLDEST_SEQ (R454, R461): the later of the greatest SEQ written − 12,287 and the first record of the epoch. -/
def State.oldestSeq (s : State) : Nat :=
  match s.hwd.head with
  | some h =>
    let a := sub32 h 12287
    if serialBefore s.hwd.epochFirst a then a else s.hwd.epochFirst
  | none => 0

/-- Where export begins at START of ring 15 (R456): HWD_EXPORT_FROM if it is held, else the oldest valid record. -/
def State.exportStart (s : State) : Nat :=
  let f := s.rdN Reg.HWD_EXPORT_FROM
  match tabGet Slot.empty s.hwd.mram (f % 12288) with
  | .holds r => if r.seq = f ∧ r.epoch = s.hwd.epoch then f else s.oldestSeq
  | _ => s.oldestSeq

/-- RING_START (R87): STOPPED to RUNNING with both indices 0. An index that changes with it is written back (R92). -/
def execRingStart (k : Fin 16) (s : State) : Host.Outcome State Fault Refusal :=
  if s.ringState k = 0 ∧ s.locked ∧ s.ringAllowed k then
    let s0 := { s with host := { s.host with moved :=
      (if s.rd (Reg.HOST_RING_DIDX k) = 0 then s.host.moved else tabSet false s.host.moved k true) } }
    let s1 := ((s0.wrN (Reg.HOST_RING_HIDX k) 0).wrN (Reg.HOST_RING_DIDX k) 0).setRing k 1
    .next (if k.val = 15 then s1.wrN Reg.HWD_EXPORT_SEQ s1.exportStart else s1)
  else .next (s.ringStateError k)

/-- RING_RESUME (R87): STOPPED or HALTED to RUNNING from the present indices. -/
def execRingResume (k : Fin 16) (s : State) : Host.Outcome State Fault Refusal :=
  if (s.ringState k = 0 ∨ s.ringState k = 3) ∧ s.locked ∧ s.ringAllowed k then
    .next (s.setRing k 1)
  else .next (s.ringStateError k)

/-- RING_STOP (R87): RUNNING or HALTED to STOPPING. -/
def execRingStop (k : Fin 16) (s : State) : Host.Outcome State Fault Refusal :=
  if s.ringState k = 1 ∨ s.ringState k = 3 then .next (s.setRing k 2) else .next (s.ringStateError k)

/-- RING_STOPPED (R87): STOPPING to STOPPED, once no fetch or write of the ring is outstanding, its write-back entry among
them. -/
def execRingStopped (k : Fin 16) (s : State) : Host.Outcome State Fault Refusal :=
  if s.ringState k = 2 ∧ !tabGet false s.host.moved k then .next (s.setRing k 0) else .next s

/-! ### Doorbells (R89, R90) -/

/-- A doorbell that is discarded: its HOST_ERR flag, the ring, the rejected value and INDEX_ERROR (R90). -/
def State.doorbellError (s : State) (bit k v : Nat) : State :=
  (((s.hostErr bit).setFld Reg.HOST_ERR_RING 3 0 k).wrN Reg.HOST_ERR_INDEX v).fault 0x040 0x04 0

/-- The check of a doorbell against the indices as they stand (R90). -/
def State.applyDoorbell (s : State) (k v : Nat) : State :=
  let h := s.rdN (Reg.HOST_RING_HIDX k)
  if s.ringState k = 0 then s.doorbellError 4 k v
  else if v = h then s
  else if signedOf 32 (sub32 v h) < 0 then s.doorbellError 5 k v
  else if (if k ≤ 9 then s.ringSize k else sub32 (s.producer k) h) <
      (if k ≤ 9 then sub32 v (s.consumer k) else sub32 v h) then s.doorbellError 6 k v
  else s.wrN (Reg.HOST_RING_HIDX k) v

/-- The doorbells of ring `k` that waited for its INGRESS slot are checked, in the order of their delivery (R45, R79). -/
def State.drainDoorbells (s : State) (k : Nat) : State :=
  let mine := s.host.doorbells.filter (·.ring = k)
  mine.foldl (fun t d => t.applyDoorbell k d.value)
    { s with host := { s.host with doorbells := s.host.doorbells.filter (·.ring ≠ k) } }

/-- The page of the present tick holds the INGRESS slot of ring `k` (R45). -/
def State.ingress (s : State) (k : Nat) : Bool := s.pageHas 1 1 k

/-- Ring `k` is gathered now: its INGRESS slot runs, and the tick's gather is not over (R24, R45). -/
def State.gathersRing (s : State) (k : Nat) : Bool := s.ingress k && !decide (s.alm.opened = s.tick + 1)

/-- DOORBELL (R89, R90): a write into doorbell page `k`. A wrong width or alignment is refused (R75); the other offsets
of the page are reserved (R8). Where the page holds no INGRESS slot of the ring, or the tick's gather is over, the doorbell
waits (R25, R45). -/
def execDoorbell (k : Fin 16) (off width : Nat) (v : Word) (s : State) : Host.Outcome State Fault Refusal :=
  if width ≠ 4 ∨ off % 4 ≠ 0 then .next (s.discarded 2 2 (k * 4096 + off))
  else if off ≠ 0 then .next s
  else if s.gathersRing k then .next ((s.drainDoorbells k).applyDoorbell k v.toNat)
  else .next { s with host := { s.host with doorbells := s.host.doorbells ++ [⟨k, v.toNat⟩] } }

/-! ### Taking items (R93 to R97) -/

/-- Ring 1 to 8 takes no further item while an item of its station is held early, waits for frames, or waits for a
compressor lane where none is enabled (R122, R189, R211). -/
def State.ringHeld (s : State) (k : Nat) : Bool :=
  decide (1 ≤ k) && decide (k ≤ 8) &&
    ((tabFind s.ledg.early (k - 1)).isSome || (tabFind s.ledg.waitFrames (k - 1)).isSome || s.rawStuck (k - 1))

/-- The item that the descriptors of a ring make, with `data` what the buffers hold. -/
def mkItem (k index serial : Nat) (descs : List (List Byte)) (data : List Byte) : Item :=
  let d := descs.headD []
  { tag := descTag d, ring := k, index := index, serial := serial, count := descs.length, cookie := descCookie k d, cpl := descCpl k d,
    len := if k = 0 then 0 else (descs.map descLen).foldl (· + ·) 0,
    opcode := leAt d 8 2, block := leAt d 0x0A 1,
    data := if k = 0 then bytesAt d 0x10 48 else data, target := leAt d 0x1C 4, readyAt := 0 }

/-- The first check of R97 that an item of ring `k` fails, as its STATUS; none where it passes. -/
def State.itemStatus (s : State) (k : Nat) (descs : List (List Byte)) : Option Nat :=
  let d := descs.headD []
  let kind := tagKind (descTag d)
  let total := (descs.map descLen).foldl (· + ·) 0
  if k = 0 then
    if commandMalformed d || !ringKind k kind then some 1
    else if s.ce220 && !((kind = 6 && leAt d 8 2 = 0x13) || (kind = 7 && leAt d 0x0A 1 = 0x13 && leAt d 8 2 = 1)) then some 5
    else none
  else if k ≤ 8 then
    if descs.any dataDescMalformed || ((kind = 1 || kind = 2) && !dataLength kind total) || !ringKind k kind then some 1
    else if tagStation (descTag d) ≠ k - 1 then some 2
    else if descs.any (fun e => decide (descTag e ≠ descTag d)) || decide (64 < descs.length) then some 6
    else if s.ce220 then some 5
    else none
  else
    if bulkMalformed d || !ringKind k kind then some 1
    else if kind = 0x0B && (tableOwner (leAt d 0x1C 4) (descLen d)).isNone then some 7
    else if s.ce220 then some 5
    else none

/-- Descriptors of 64 bytes that make one item: CHAIN in all but the last on a data ring, one descriptor on the others
(R95, R96). -/
def chainFormed (k : Nat) (descs : List (List Byte)) : Bool :=
  descs.all (fun d => decide (d.length = 64)) && decide (descs ≠ []) &&
  (if 1 ≤ k ∧ k ≤ 8 then descs.dropLast.all descChain && !(descChain (descs.getLastD []))
   else decide (descs.length = 1))

/-- The operands of a fetch are the descriptors of one item, and as many buffer bytes as they say (R95, R96). -/
def fetchFormed (k : Nat) (descs : List (List Byte)) (data : List Byte) : Bool :=
  chainFormed k descs && (decide (k = 0) || decide (data.length = (descs.map descLen).foldl (· + ·) 0))

/-- The reads of host memory that bring an item into the chip: its descriptors and, but for a command, their buffers (R84,
R93, R95). -/
def State.readItem (s : State) (k : Nat) (descs : List (List Byte)) : State :=
  let c := s.consumer k
  let s1 := (List.range descs.length).foldl (fun t i => t.emit (.hostRead k (t.slotAddr k (c + i)) 64)) s
  if k = 0 then s1 else descs.foldl (fun t d => t.emit (.hostRead k (descAddr d) (descLen d))) s1

/-- A ring 0 to 9 can take an item of `n` descriptors now: it runs, taking is not held back, its station's data is not
held, the doorbell covers the item, and the page gathers the ring (R45, R96, R100, R122). -/
def State.canTake (s : State) (k n : Nat) : Bool :=
  decide (k ≤ 9) && decide (s.ringState k = 1) && !s.host.held && !s.ringHeld k && s.gathersRing k &&
  decide (n ≤ sub32 (s.producer k) (s.consumer k))

/-- Where an item that passed the checks goes (R97): ring 0 by BLOCK, data to its station, ALMANAC to ALM, TABLE to the
owners of the table windows (queue 64). -/
def ownerOf (k : Nat) (it : Item) : Nat :=
  if k = 0 then it.block else if k ≤ 8 then 32 + (k - 1) else if tagKind it.tag = 0x0A then 2 else 64

/-- A COMMAND item reaches a block that takes commands: LEDG, which refuses what is none of its items, and block 0x13 with
TRACE (R114, R115, R539). -/
def takesCommands (it : Item) : Bool := decide (it.block = 3) || decide (it.block = 0x13)

/-- The outcome of the checks of R97 on an item just taken. A COMMAND for a block whose chapter lists no command is
refused; the DETAIL is a free value (log entry 7). -/
def State.checkItem (s : State) (k : Nat) (it : Item) (descs : List (List Byte)) : State :=
  match s.itemStatus k descs with
  | some 6 =>
    (List.range descs.length).foldl
      (fun t i =>
        let e : Item := { it with index := (it.index + i) % 2 ^ 32, serial := it.serial + i, count := 1, tag := descTag (descs.getD i []),
                                  cookie := descCookie k (descs.getD i []), cpl := descCpl k (descs.getD i []),
                                  len := descLen (descs.getD i []) }
        (t.openItem e).complete e 6 0) ((s.hostErr 7).fault 0x040 0x05 0)
  | some st => s.failItem it st
  | none =>
    if k = 0 && !takesCommands it then ((s.openItem it).complete it 4 (s.freeNat 1 % 256)).drawn
    else (s.openItem it).deliver (ownerOf k it) { it with readyAt := s.tick + 1 }

/-- DESCRIPTOR_FETCH (R93 to R97): the ring's next item is read into the chip, checked, and completed or passed on. -/
def execDescriptorFetch (k : Fin 10) (descs : List (List Byte)) (data : List Byte) (s : State) :
    Host.Outcome State Fault Refusal :=
  if !fetchFormed k descs data then .fault .illFormed
  else
    let s := if s.gathersRing k then s.drainDoorbells k else s
    if !s.canTake k descs.length then .next s
    else
      .next (((s.readItem k descs).advance k descs.length).checkItem k
        (mkItem k (s.consumer k) s.host.serials descs data) descs)

/-- HOST_READ_ERROR (R94): a read of host memory for ring `k` failed, of its next descriptor, which a doorbell covers
(R91), or of a buffer of its next item. DESIGN CHOICE: HOST_ERR_RING and HOST_ERR_INDEX name the ring and the item's first
descriptor for a buffer, too (log entry 76). -/
def execHostReadError (k : Fin 16) (onBuffer : Bool) (descs : List (List Byte)) (status : Nat) (s : State) :
    Host.Outcome State Fault Refusal :=
  if onBuffer && !chainFormed k descs then .fault .illFormed
  else if !s.canTake k (if onBuffer then descs.length else 1) ∨ (onBuffer ∧ k.val = 0) then .next s
  else
    let c := s.consumer k
    let it := mkItem k c s.host.serials descs []
    let s1 := ((((s.hostErr 8).setFld Reg.HOST_ERR_RING 3 0 k).wrN Reg.HOST_ERR_INDEX c).fault 0x040 0x06 0).event
      0x0104 [k, c, status]
    .next ((if onBuffer then ((s1.advance k descs.length).openItem it).complete it 3 0 else s1).setRing k 3)

/-- TAKING_RESUMED (R100): taking of descriptors resumes once the completion queue is below its quota. -/
def execTakingResumed (s : State) : Host.Outcome State Fault Refusal :=
  if s.host.held ∧ s.host.completions.length < completionQuota then
    .next { s with host := { s.host with held := false } }
  else .next s

/-! ### Emit work of HOST (R92, R98 to R104) -/

/-- The HOST block's own gather work for ring 14 (R385, R388): the completion records that an earlier tick queued are
written to the ring while it runs and has room (R98, R100). -/
def State.drainCompletions (s : State) : State :=
  (s.host.completions.take s.host.ready).foldl
    (fun t c =>
      if t.ringState 14 = 1 ∧ sub32 (t.producer 14) (t.consumer 14) < t.ringSize 14 then
        (({ t with host := { t.host with completions := t.host.completions.tail } }.emit
          (.ringEntry 14 (t.producer 14) (t.slotAddr 14 (t.producer 14)) c.bytes)).advance 14 1)
      else t) s

/-- Every record now queued can be read from the next tick on (R388). -/
def State.completionsReady (s : State) : State :=
  { s with host := { s.host with ready := s.host.completions.length } }

/-- The write-back entries of every ring whose index has changed (R92). -/
def State.writeBacks (s : State) : State :=
  (List.range 16).foldl
    (fun t k =>
      if tabGet false t.host.moved k then
        { t.emit (.writeBack k (t.writeBackAddr k) (t.rdN (Reg.HOST_RING_DIDX k)) (t.tick % 2 ^ 32)) with
          host := { t.host with moved := tabSet false t.host.moved k false } }
      else t) s

/-- RING_VECTOR (R104): ring `k`'s vector is sent if it waits, IRQ_EN is 1, and IMOD.TICKS ticks have passed. -/
def execRingVector (k : Fin 16) (s : State) : Host.Outcome State Fault Refusal :=
  let due := tabGet 0 s.host.ringVecAt k
  if tabGet false s.host.ringVec k ∧ s.flag (Reg.HOST_RING_IMOD k) 8 ∧
      (due = 0 ∨ due - 1 + max 1 (s.fld (Reg.HOST_RING_IMOD k) 7 0) ≤ s.tick) ∧ s.pageHas 1 2 0 then
    .next { s.sendVector (32 + k) with
      host := { (s.sendVector (32 + k)).host with ringVec := tabSet false s.host.ringVec k false,
                                                  ringVecAt := tabSet 0 s.host.ringVecAt k (s.tick + 1) } }
  else .next s

/-! ### Detach, attach, set-up lock -/

/-- DETACH (R102): link-down, hot reset or D3hot; cause 3 is the entry to D3hot (log entry 77). Nothing more is written for a
ring that is STOPPED then (R85), and the configuration space is reset (R108). -/
def execDetach (cause : Nat) (s : State) : Host.Outcome State Fault Refusal :=
  let states := (List.range 16).foldl (fun n k => n + s.ringState k * 4 ^ k) 0
  let s1 := (List.range 16).foldl (fun t k => if t.ringState k = 0 then t else t.setRing k 0) s
  .next (((({ s1 with host := { s1.host with linkUp := false, pci := PciSetup.init, power := (if cause = 3 then 3 else 0),
                                             moved := [] } }.setFlag Reg.HOST_STATUS 2 true).wrN
    Reg.HOST_LINK 0).fault 0x040 0x07 0).event 0x0103 [cause, states])

/-- ATTACH (R71, R102, R105): the link is up in D0 at one of the listed speeds and widths, and host software has rewritten
the configuration space. -/
def execAttach (r : LinkRate) (cfg : PciSetup) (s : State) : Host.Outcome State Fault Refusal :=
  if !(decide (1 ≤ r.speed) && decide (r.speed ≤ 5) && [1, 2, 4, 8].contains r.width) then .next s
  else .next (({ s with host := { s.host with linkUp := true, power := 0, pci := cfg } }.wrN Reg.HOST_LINK (r.speed % 8 + (r.width % 32) * 16)
    ).event 0x0102 [r.speed, r.width])

/-- A write of 1 to LOCK (R81, R508): discarded while the imaging gate is closed; it sets LOCK otherwise. -/
def State.setLock (s : State) : State :=
  if s.locked then s
  else if !s.flag Reg.LCS_STATUS 3 then (s.raiseBit Reg.LCS_EVENTS 0).fault 0x480 0x03 Reg.HOST_SETUP_LOCK
  else (((s.setFlag Reg.HOST_SETUP_LOCK 0 true).setFlag Reg.HOST_STATUS 1 true).event 0x0101
    [s.tick, s.fld Reg.HOST_LINK 2 0, s.fld Reg.HOST_LINK 8 4]).event 0x0402
    ((List.range 16).map (fun c => s.rdN (Reg.BURL_CBIND c)))

/-- SETUP_LOCK (R81). -/
def execSetupLock (s : State) : Host.Outcome State Fault Refusal := .next s.setLock

end Sys2Proof.Machine
end

