-- ==== Sys2Proof/Machine/Canopy.lean ====
section
/-!
DEFINITION. CNPY: the pool and its queues, grants, links, reads, notices, scrubs and configuration (R381 to R400). Cell
numbers and link pointers are not state of the model: nothing outside Canopy sees them (log entry 26).
-/

namespace Sys2Proof.Machine

/-! ### A queue's configuration (R383, R399) -/

def CanopyQ.enabled (q : CanopyQ) : Bool := bitOf q.cfg0 0
def CanopyQ.classT (q : CanopyQ) : Bool := bitOf q.cfg0 1
def CanopyQ.dropOld (q : CanopyQ) : Bool := bitOf q.cfg0 2
def CanopyQ.tring (q : CanopyQ) : Option Nat := if bitOf q.cfg0 18 then some (bitsOf q.cfg0 17 16) else none
def CanopyQ.res (q : CanopyQ) : Nat := bitsOf q.cfg1 16 0
def CanopyQ.quota (q : CanopyQ) : Nat := bitsOf q.cfg2 16 0
def CanopyQ.ct (q : CanopyQ) : Nat := bitsOf q.cfg3 15 0
def CanopyQ.tmo (q : CanopyQ) : Nat := bitsOf q.cfg3 31 16

/-- Queue `q`. -/
def State.cq (s : State) (q : Nat) : CanopyQ := tabGet CanopyQ.init s.cnpy.queues q

/-- Apply `f` to queue `q`. -/
def State.modCq (s : State) (q : Nat) (f : CanopyQ → CanopyQ) : State :=
  { s with cnpy := { s.cnpy with queues := tabMod CanopyQ.init s.cnpy.queues q f } }

/-- Queue `q` is being scrubbed, or waits for it (R394). -/
def State.scrubbing (s : State) (q : Nat) : Bool := s.cnpy.scrubs.any (fun x => decide (x.queue = q))

/-! ### The pool (R386, R395) -/

/-- The items that a firmware queue carries to the owner of their place: command items in queues 1 to 24, the notices of
ALMANAC items in queue 25, those of TABLE items in queues 26 to 30 (R385). -/
def State.carried (s : State) (q : Nat) : Nat × List Item :=
  if q = 25 then (2, s.inboxOf 2)
  else if 26 ≤ q ∧ q ≤ 30 then (64, (s.inboxOf 64).filter (fun it => decide (tableQueue it = q)))
  else if 1 ≤ q ∧ q ≤ 24 ∧ q ≠ 3 then (q - 1, s.inboxOf (q - 1))
  else (0, [])

/-- Cells that a queue holds. Queue 0 holds two for each completion record (R384), a command item takes two, a notice one
(R385). -/
def State.held (s : State) (q : Nat) : Nat :=
  (s.cq q).cells.length +
    (if q = 0 then 2 * s.host.completions.length else (s.carried q).2.length * (if q ≤ 24 then 2 else 1))

/-- Packets that a queue holds, complete or read in part. -/
def State.packetsHeld (s : State) (q : Nat) : Nat :=
  let u := s.cq q
  (u.cells.filter (fun c => c.cell.sop)).length + (u.mid && u.cells.any (fun c => !c.cell.sop)).toNat +
    (if q = 0 then s.host.completions.length else (s.carried q).2.length)

/-- Every cell of a queue is returned, and what it held is lost (R394, R396). -/
def State.loseHeld (s : State) (q : Nat) : State :=
  let gone := (s.carried q).2
  let s1 := s.modCq q (fun u => { u with cells := [], written := 0, partLinked := 0, cut := false, mid := false })
  { s1 with host := { s1.host with
      completions := (if q = 0 then [] else s1.host.completions),
      inbox := (if gone = [] then s1.host.inbox
        else tabMod [] s1.host.inbox (s.carried q).1 (·.filter (fun it => !gone.contains it))) } }

/-- The queues that are configured or hold cells, and queue 0. -/
def State.queueList (s : State) : List (Nat × CanopyQ) :=
  if (tabFind s.cnpy.queues 0).isSome then s.cnpy.queues else (0, CanopyQ.init) :: s.cnpy.queues

/-- Free cells. -/
def State.freeCells (s : State) : Nat := 65536 - (s.queueList.foldl (fun n p => n + s.held p.1) 0)

/-- owed of R386. -/
def State.owed (s : State) : Nat :=
  s.queueList.foldl (fun n p => if p.2.enabled then n + (p.2.res - s.held p.1) else n) 0

/-- RES of the enabled queues (R398). -/
def State.resTotal (s : State) : Nat := s.cnpy.queues.foldl (fun n p => if p.2.enabled then n + p.2.res else n) 0

/-- `n` cells can be granted to queue `q` one after the other (R386). -/
def State.grants (s : State) (q n : Nat) : Bool :=
  let u := s.cq q
  let h := s.held q
  let excess := n - (u.res - h)
  decide (excess = 0) || (decide (h + n ≤ u.quota) && decide (excess + s.owed ≤ s.freeCells))

/-- The enabled queue with the most cells above its RES (R397). -/
def State.greediest (s : State) : Nat :=
  (s.queueList.foldl (fun (b : Nat × Nat) p =>
    let n := s.held p.1 - p.2.res
    if b.2 < n then (p.1, n) else b) (0, 0)).1

/-- The pool's exhaustion is reported once, and again after the free count has risen above 1,024 (R395). -/
def State.poolCheck (s : State) : State :=
  if s.cnpy.exhausted then (if 1024 < s.freeCells then { s with cnpy := { s.cnpy with exhausted := false } } else s)
  else if s.freeCells = 0 ∧ s.owed = 0 then
    ((({ s with cnpy := { s.cnpy with exhausted := true } } : State).raiseBit Reg.CNPY_EVENTS 1).event 0x0C02
      [0, 0, s.greediest]).fault 0x300 0x1C 0
  else s

/-- `n` packets of queue `q` are dropped (R390). -/
def State.dropPackets (s : State) (q n : Nat) : State :=
  if n = 0 then s
  else
    let s1 := s.wrN Reg.CNPY_COUNT_DROP (s.rdN Reg.CNPY_COUNT_DROP + n)
    let s2 := s1.raiseBit Reg.CNPY_EVENTS 2
    if (s.cq q).classT then s2.event 0x0C03 [q, n] else s2

/-! ### Writing (R382, R387, R390, R392 to R394) -/

/-- A pointer mismatch: the queue enters SCRUB, its notices are cancelled (R393, R394). -/
def State.mismatch (s : State) (q which : Nat) : State :=
  if s.scrubbing q then s
  else
    let s1 : State := { s with cnpy := { s.cnpy with
      scrubs := s.cnpy.scrubs ++ [⟨q, which, s.tick, false⟩],
      notices := s.cnpy.notices.filter (fun n => decide (n.queue ≠ q)) } }
    ((((s1.wrN Reg.CNPY_MISMATCH_Q (q % 4096 + which % 4 * 4096)).bump Reg.CNPY_COUNT_MISMATCH).raiseBit Reg.CNPY_EVENTS
      0).fault 0x300 0x1B q)

/-- KIND of the tag that a first cell carries (R13, R381). -/
def cellKind (c : CellIn) : Nat := tagKind (descTag c.data)

/-- A first cell whose KIND is 0 or reserved (R13, R382). -/
def badKind (c : CellIn) : Bool := decide (cellKind c = 0) || decide (0x0E ≤ cellKind c)

/-- A packet that is discarded at enqueue (R382). -/
def State.malformedPacket (s : State) (q : Nat) : State := (s.dropPackets q 1).fault 0x300 0x05 0

/-- The cells of a queue before the packet being written: those up to the last EOP. -/
def beforeLast (cs : List Cell) : List Cell := ((cs.reverse.dropWhile (fun c => !c.cell.eop)).reverse)

/-- One cell of a class P producer is offered: granted, refused (the producer keeps it), or, where it begins a malformed
packet or belongs to no packet, discarded. The answer says whether the producer may go on. -/
def State.offerCell (s : State) (q : Nat) (c : CellIn) : Bool × State :=
  let u := s.cq q
  if u.written = 0 ∧ !c.sop then (true, s)
  else if u.written = 0 ∧ badKind c then (true, s.malformedPacket q)
  else if c.eop ∧ c.abort ∧ !u.cut then
    (true, s.modCq q (fun u => { u with cells := beforeLast u.cells, written := 0, partLinked := 0, cut := false }))
  else if s.grants q 1 then
    (true, (s.modCq q (fun u => { u with
      cells := u.cells ++ [⟨c, s.tick⟩], written := if c.eop then 0 else u.written + 1,
      partLinked := if c.eop then 0 else u.partLinked, cut := u.cut && !c.eop })).poolCheck)
  else (false, s)

/-- A class P producer offers cells in turn until one is refused (R387). -/
def State.offerCells (s : State) (q : Nat) : List CellIn → State
  | [] => s
  | c :: cs =>
    match s.offerCell q c with
    | (true, t) => t.offerCells q cs
    | (false, t) => t

/-- Whole packets at the head of a list of cells: how many cells the first takes. -/
def headPacket (cs : List Cell) : Nat := (cs.takeWhile (fun c => !c.cell.eop)).length + 1

/-- Remove whole packets from the head until `n` more cells fit the quota (R390): the state and how many were removed.
`fuel` is the number of cells held. -/
def State.makeRoom (s : State) (q n : Nat) : Nat → Nat × State
  | 0 => (0, s)
  | fuel + 1 =>
    let u := s.cq q
    if s.held q + n ≤ u.quota ∨ u.cells = [] then (0, s)
    else
      let r := (s.modCq q (fun u => { u with cells := u.cells.drop (headPacket u.cells), mid := false })).makeRoom q n fuel
      (r.1 + 1, r.2)

/-- A class T packet is granted whole or not at all (R390). -/
def State.offerPacket (s : State) (q : Nat) (cs : List CellIn) : State :=
  let u := s.cq q
  let n := cs.length
  if (cs.head?).any badKind then s.malformedPacket q
  else if s.scrubbing q ∨ u.quota < n ∨ (u.quota < s.held q + n ∧ !u.dropOld) then s.dropPackets q 1
  else
    let r := s.makeRoom q n u.cells.length
    let t := r.2.dropPackets q r.1
    if t.grants q n then
      (t.modCq q (fun u => { u with
        cells := u.cells ++ cs.map (fun c => ⟨c, s.tick⟩), t0 := if u.cells = [] then s.tick + 1 else u.t0 })).poolCheck
    else t.dropPackets q 1

/-- The whole packets that a list of cells makes. -/
def packetsOf : List CellIn → List CellIn → List (List CellIn)
  | _, [] => []
  | acc, c :: cs => if c.eop then (acc ++ [c]) :: packetsOf [] cs else packetsOf (acc ++ [c]) cs

/-- CELL_WRITE (R381, R387): a producer offers cells to a queue; `ptr` says which pointer the access finds damaged (1 head,
2 tail, 3 link entry). With a damaged pointer and no cells it stands for a read or a FLUSH that finds it (R392). A disabled
queue accepts nothing. -/
def State.cellWrite (s : State) (q : Nat) (cells : List CellIn) (ptr : Nat) : State :=
  let u := s.cq q
  if !u.enabled then s
  else
    let s1 := if ptr = 0 then s else s.mismatch q ptr
    if u.classT then (packetsOf [] cells).foldl (fun t p => t.offerPacket q p) s1
    else if s1.scrubbing q then s1
    else s1.offerCells q cells

def execCellWrite (q : Fin 4096) (cells : List CellIn) (ptr : Fin 4) (s : State) : Host.Outcome State Fault Refusal :=
  .next (s.cellWrite q cells ptr)

/-! ### Links, notices and reads (R388 to R391) -/

/-- A notice is raised. -/
def State.raiseNotice (s : State) (kind q : Nat) : State :=
  { s with cnpy := { s.cnpy with notices := s.cnpy.notices ++ [⟨kind, q⟩] } }

/-- The cells that this tick links: those written in the tick before. -/
def State.linkedNow (s : State) (u : CanopyQ) : List Cell := u.cells.filter (fun c => decide (c.stamp + 1 = s.tick))

/-- The notices that linking `cs` raises: kinds in order, and how far the last packet has come (R389). -/
def noticesOf (ct : Nat) : Nat → Bool → List Cell → List Nat × Nat × Bool
  | n, cut, [] => if ct ≠ 0 ∧ ct ≤ n ∧ !cut then ([1], n, true) else ([], n, cut)
  | n, cut, c :: cs =>
    if c.cell.eop then
      let r := noticesOf ct 0 false cs
      (0 :: r.1, r.2)
    else noticesOf ct (n + 1) cut cs

/-- The cells of a class P queue are linked and its notices raised (R388, R389). -/
def State.linkQueue (s : State) (q : Nat) : State :=
  let u := s.cq q
  let cs := s.linkedNow u
  if cs = [] ∨ u.classT ∨ s.scrubbing q then s
  else
    let r := noticesOf u.ct u.partLinked u.cut cs
    r.1.foldl (fun t k => t.raiseNotice k q)
      (s.modCq q (fun u => { u with partLinked := r.2.1, cut := r.2.2 }))

/-- The linked cells of a queue. -/
def State.linkedCells (s : State) (u : CanopyQ) : List Cell := u.cells.filter (fun c => decide (c.stamp < s.tick))

/-- One cell is read (R388): status 0 DATA, 1 ABORT, 2 POISON, 3 WAIT, 4 EMPTY, the cell, and the state after it. -/
def State.readCell (s : State) (q : Nat) : Nat × Option CellIn × State :=
  let u := s.cq q
  if !u.enabled ∨ s.scrubbing q then (4, none, s)
  else
    match s.linkedCells u with
    | [] => (if u.mid then 3 else 4, none, s)
    | c :: cs =>
      let n := headPacket (c :: cs)
      let last := (c :: cs)[n - 1]?
      let t0 := if u.classT then s.tick else u.t0
      match last with
      | some e =>
        if e.cell.abort then
          (1, some e.cell, s.modCq q (fun u => { u with cells := u.cells.drop n, mid := false, t0 := t0 }))
        else (if c.cell.poison then 2 else 0, some c.cell,
          s.modCq q (fun u => { u with cells := u.cells.drop 1, mid := !c.cell.eop, t0 := t0 }))
      | none => (if c.cell.poison then 2 else 0, some c.cell,
          s.modCq q (fun u => { u with cells := u.cells.drop 1, mid := !c.cell.eop, t0 := t0 }))

/-- A cell whose single-bit error has been corrected is reported (R381). -/
def State.reportFixed (s : State) (c : Option CellIn) : State := if c.any (·.fixed) then s.fault 0x300 0x08 0 else s

/-- A READ slot reads `n` cells of a queue for its consumer (R391). What a firmware queue carries reaches its consumer as the
item or message itself (log entry 26). -/
def State.readCells (s : State) (q : Nat) : Nat → State
  | 0 => s
  | n + 1 =>
    if q < 64 ∧ (s.cq q).cells = [] then s
    else
      let r := s.readCell q
      ((r.2.2.reportFixed r.2.1).emit (.cellRead q r.1 r.2.1)).readCells q n

/-- One item of a telemetry queue goes to its ring (R100): two cells, whose 64 bytes are the entry. -/
def State.drainItem (s : State) (q j : Nat) : State :=
  let k := 10 + j
  if s.ringState k = 1 ∧ sub32 (s.producer k) (s.consumer k) < s.ringSize k ∧ (s.linkedCells (s.cq q)).any (·.cell.eop) then
    let n := headPacket (s.cq q).cells
    let data := ((s.cq q).cells.take n).flatMap (·.cell.data)
    let s0 := ((s.cq q).cells.take n).foldl (fun (t : State) c => t.reportFixed (some c.cell)) s
    let s1 := s0.modCq q (fun u => { u with cells := u.cells.drop n, t0 := s.tick })
    (s1.emit (.ringEntry k (s1.producer k) (s1.slotAddr k (s1.producer k)) ((data ++ List.replicate 64 0).take 64))).advance k 1
  else s

/-- The page feeds telemetry ring 10 + `j`: it holds the ring's TELEMETRY slot (R45). -/
def State.feeds (s : State) (j : Nat) : Bool := s.pageHas 1 3 (10 + j)

/-- HOST drains the telemetry queues of which it has had a notice, and those of a ring whose consumer index has moved
(R388, R391), where the page feeds their ring. -/
def State.drainTelemetry (s : State) : State :=
  let moved (j : Nat) : Bool := decide (s.rdN (Reg.HOST_RING_HIDX (10 + j)) ≠ tabGet 0 s.cnpy.hidx j)
  let s1 := s.cnpy.queues.foldl (fun t p =>
    match p.2.tring with
    | some j =>
      if s.feeds j ∧ p.2.enabled ∧ !t.scrubbing p.1 ∧ (s.cnpy.due.contains p.1 ∨ moved j) then
        t.upTo p.2.cells.length (fun t _ => t.drainItem p.1 j)
      else t
    | none => t) s
  { s1 with cnpy := { s1.cnpy with
    due := s1.cnpy.due.filter (fun q => (s.cq q).tring.any (fun j => !s.feeds j)),
    hidx := ((List.range 4).filter s.feeds).foldl (fun h j => tabSet 0 h j (s1.rdN (Reg.HOST_RING_HIDX (10 + j)))) s1.cnpy.hidx } }

/-- The holding page reads every queue that no ring drains, eight cells a tick (log entry 12). -/
def State.readHolding (s : State) : State :=
  if s.holding then
    ((s.cnpy.queues.filter (fun p => p.2.tring.isNone && p.2.cells.any (fun c => decide (c.stamp < s.tick)))).map (·.1)).foldl
      (fun t q => t.readCells q 8) s
  else s

/-- The cells written in the last tick are linked, and their notices raised, at the start of the gather (R388, R389). -/
def State.linkCells (s : State) : State :=
  if s.cnpy.gathered = s.tick + 1 then s
  else
    let s1 : State := { s with cnpy := { s.cnpy with gathered := s.tick + 1 } }
    s1.cnpy.queues.foldl (fun t p => t.linkQueue p.1) s1

/-- CLASS_T_TIMEOUT (R390, R391): a class T queue that is not empty at its deadline, in a tick with TIMEOUT_SCAN. -/
def effClassTTimeout (q : Fin 4096) (s : State) : Host.Outcome State Fault Refusal :=
  let u := s.cq q
  if u.enabled ∧ u.classT ∧ !s.scrubbing q ∧ s.linkedCells u ≠ [] ∧ u.t0 + u.tmo ≤ s.tick ∧ s.pageHas 0x0C 2 0 then
    .next ((s.modCq q (fun u => { u with t0 := s.tick })).raiseNotice 2 q)
  else .next s

/-- NOTICE (R391): up to 256 notices in the order in which they were raised; HOST remembers those of its telemetry
queues. -/
def State.cnpyNotices (s : State) : State :=
  let s1 :=
    if s.pageHas 0x0C 3 0 then
      let now := s.cnpy.notices.take 256
      let mine := (now.filter (fun n => (s.cq n.queue).tring.isSome)).map (·.queue)
      let s1 : State := { s with cnpy := { s.cnpy with notices := s.cnpy.notices.drop 256, due := s.cnpy.due ++ mine } }
      now.foldl (fun t n => t.emit (.notice n.kind n.queue)) s1
    else s
  s1.wrN Reg.CNPY_NOTICE_BACKLOG (min 65535 s1.cnpy.notices.length)

/-! ### Scrubs (R394) -/

/-- The scrub that runs ends: the queue's cells are returned, and what it held is lost. -/
def State.endScrub (s : State) : State :=
  match s.cnpy.scrubs with
  | x :: xs =>
    if x.ended then s
    else
      let n := s.held x.queue
      let s1 := s.loseHeld x.queue
      let s2 : State := { s1 with cnpy := { s1.cnpy with scrubs := { x with ended := true } :: xs } }
      (s2.event 0x0C01 [x.queue, x.which, n, s.tick - x.decided]).poolCheck
  | [] => s

/-- SCRUB_END (R394): within 2 ticks of the tick that decided the mismatch. -/
def execScrubEnd (s : State) : Host.Outcome State Fault Refusal := .next s.endScrub

/-- At the end of a tick: a scrub whose 2 ticks are over ends, one that has ended leaves the list, so that the queue accepts
cells from the next tick, and the next one starts. -/
def State.scrubTick (s : State) : State :=
  let s1 := if (s.cnpy.scrubs.head?).any (fun x => decide (x.decided + 2 ≤ s.tick)) then s.endScrub else s
  match s1.cnpy.scrubs with
  | x :: xs =>
    if x.ended then
      let ys := match xs with
        | y :: ys => { y with decided := s.tick + 1 } :: ys
        | [] => []
      { s1 with cnpy := { s1.cnpy with scrubs := ys } }
    else s1
  | [] => s1

/-! ### Configuration (R396) -/

/-- The queue that CNPY_QSEL names. -/
def State.qsel (s : State) : Nat := s.fld Reg.CNPY_QSEL 11 0

/-- The configuration that CNPY_QCFG0 to CNPY_QCFG3 hold. -/
def State.qcfg (s : State) (u : CanopyQ) : CanopyQ :=
  { u with cfg0 := s.rdN Reg.CNPY_QCFG0 % 2 ^ 19 &&& 0x7FF07, cfg1 := s.fld Reg.CNPY_QCFG1 16 0,
           cfg2 := s.fld Reg.CNPY_QCFG2 16 0, cfg3 := s.rdN Reg.CNPY_QCFG3 }

/-- Only CT, TMO, CONSUMER and TRING change (R396). -/
def sameQueue (a b : CanopyQ) : Bool :=
  decide (a.cfg0 % 8 = b.cfg0 % 8) && decide (a.cfg1 = b.cfg1) && decide (a.cfg2 = b.cfg2)

/-- A field is out of range (R396, R399). -/
def qcfgBad (u : CanopyQ) : Bool :=
  decide (u.quota = 0) || decide (65536 < u.quota) || decide (65536 < u.res) || decide (u.quota < u.res) ||
  (u.classT && decide (u.tmo = 0)) || decide (0x17 < bitsOf u.cfg0 12 8)

/-- RES of the enabled queues below 64, and of all (R396). -/
def State.resWith (s : State) (q : Nat) (u : CanopyQ) (lim : Nat) : Nat :=
  (tabPut s.cnpy.queues q u).foldl (fun n p => if p.2.enabled ∧ p.1 < lim then n + p.2.res else n) 0

/-- The result of a WRITE (R396). -/
def State.queueWriteResult (s : State) (w : Writer) (q : Nat) (u : CanopyQ) : Nat :=
  let old := s.cq q
  if w = .host ∧ (s.locked ∨ q < 64) then 3
  else if !((!old.enabled && old.cells.isEmpty) || sameQueue old u) || s.scrubbing q then 2
  else if qcfgBad u then 5
  else if 65536 < s.resWith q u 4096 ∨ 16384 < s.resWith q u 64 then 4
  else 1

/-- WRITE (R396). -/
def State.queueWrite (s : State) (w : Writer) : State :=
  let q := s.qsel
  let u := s.qcfg (s.cq q)
  let r := s.queueWriteResult w q u
  let s1 := s.wrN Reg.CNPY_QRESULT r
  if r = 1 then s1.modCq q (fun _ => u)
  else
    let s2 := (s1.raiseBit Reg.CNPY_EVENTS 3).event 0x0C04 [q, r, if w = .host then 0 else 1]
    if w = .host ∧ s.locked then s2.discarded 0 0 Reg.CNPY_QCMD else s2

/-- CNPY_QSTATE of a queue (R399). -/
def State.queueState (s : State) (q : Nat) : Nat :=
  let done := ((s.cq q).cells.filter (·.cell.eop)).length +
    (if q = 0 then s.host.completions.length else (s.carried q).2.length)
  s.held q + (s.scrubbing q).toNat * 2 ^ 17 + min 16383 done * 2 ^ 18

/-- QUEUE_WRITE (R396). -/
def effQueueWrite (w : Writer) (s : State) : Host.Outcome State Fault Refusal := .next (s.queueWrite w)

/-- LOAD (R396). -/
def State.queueLoad (s : State) : State :=
  let q := s.qsel
  let u := s.cq q
  (((((s.wrN Reg.CNPY_QCFG0 u.cfg0).wrN Reg.CNPY_QCFG1 u.cfg1).wrN Reg.CNPY_QCFG2 u.cfg2).wrN Reg.CNPY_QCFG3 u.cfg3).wrN
    Reg.CNPY_QSTATE (s.queueState q)).wrN Reg.CNPY_QRESULT 1

/-- QUEUE_LOAD (R396). -/
def effQueueLoad (s : State) : Host.Outcome State Fault Refusal := .next s.queueLoad

/-- FLUSH (R396): every cell of an enabled queue is returned, and each packet counted. -/
def State.queueFlush (s : State) : State :=
  let q := s.qsel
  let u := s.cq q
  if !u.enabled ∨ s.scrubbing q then s.wrN Reg.CNPY_QRESULT 2
  else
    let s1 := (s.dropPackets q (s.packetsHeld q)).loseHeld q
    let s2 : State := { s1 with cnpy := { s1.cnpy with notices := s1.cnpy.notices.filter (fun x => decide (x.queue ≠ q)) } }
    (s2.wrN Reg.CNPY_QRESULT 1).poolCheck

/-- QUEUE_FLUSH (R396). -/
def effQueueFlush (s : State) : Host.Outcome State Fault Refusal := .next s.queueFlush

/-- The configuration that management firmware gives the firmware queues at boot (R385): queue, CONSUMER block, lane, RES
and QUOTA. -/
def firmwareQueues : List (Nat × Nat × Nat × Nat × Nat) :=
  [(0, 1, 0, 512, 4096)] ++ (List.range 24).map (fun b => (b + 1, b, 0, 16, 512)) ++
  [(25, 2, 0, 8, 64), (26, 8, 0, 8, 64), (27, 9, 0, 8, 64), (28, 0x0A, 0, 8, 64), (29, 0x0B, 0, 8, 64), (30, 0x0D, 0, 8, 64)] ++
  (List.range 8).map (fun i => (31 + i, 7, i, 16, 256)) ++
  [(39, 3, 0, 512, 8192), (40, 0x0E, 0, 512, 4096), (41, 0x14, 0, 64, 1024), (42, 0x13, 0, 64, 512), (43, 0x14, 0, 64, 512)]

/-- Management firmware configures and enables the firmware queues (R384, R385). -/
def State.configureQueues (s : State) : State :=
  firmwareQueues.foldl (fun t f => t.modCq f.1 (fun u => { u with
    cfg0 := 1 + f.2.1 * 256 + f.2.2.1 * 8192, cfg1 := f.2.2.2.1, cfg2 := f.2.2.2.2, cfg3 := 0x10000 })) s

end Sys2Proof.Machine
end

