-- ==== Sys2Proof/Machine/Shared.lean ====
section
/-!
DEFINITION. What one unit asks of another: the stations, axes, loops and channels by number, the safe state and the sheet
gap as others see them, the stop that the ledger asks of a path axis, LEDGER mode, the sensor edges that the ledger
reads, and what the legacy port learns of a jam.
-/

namespace Sys2Proof.Machine

/-! ### Units by number -/

/-- Station `i` of the scan engine. -/
def State.stn (s : State) (i : Nat) : ScanStn := s.scan.getD i ScanStn.init

/-- Apply `f` to station `i` of the scan engine. -/
def State.modStn (s : State) (i : Nat) (f : ScanStn → ScanStn) : State := { s with scan := s.scan.modify i f }

/-- Station `i` of beam firing. -/
def State.bm (s : State) (i : Nat) : BeamStn := s.beam.stns.getD i BeamStn.init

/-- Apply `f` to station `i` of beam firing. -/
def State.modBm (s : State) (i : Nat) (f : BeamStn → BeamStn) : State :=
  { s with beam := { s.beam with stns := s.beam.stns.modify i f } }

/-- Stepper axis `a`. -/
def State.ax (s : State) (a : Nat) : StepAxis := s.step.axes.getD a StepAxis.init

/-- Apply `f` to stepper axis `a`. -/
def State.modAx (s : State) (a : Nat) (f : StepAxis → StepAxis) : State :=
  { s with step := { s.step with axes := s.step.axes.modify a f } }

/-- Synchronous axis `a`. -/
def State.sx (s : State) (a : Nat) : SyncAxis := s.axis.axes.getD a SyncAxis.init

/-- Apply `f` to synchronous axis `a`. -/
def State.modSx (s : State) (a : Nat) (f : SyncAxis → SyncAxis) : State :=
  { s with axis := { s.axis with axes := s.axis.axes.modify a f } }

/-- Loop `l`. -/
def State.lp (s : State) (l : Nat) : LoopUnit := s.loop.loops.getD l LoopUnit.init

/-- Apply `f` to loop `l`. -/
def State.modLp (s : State) (l : Nat) (f : LoopUnit → LoopUnit) : State :=
  { s with loop := { s.loop with loops := s.loop.loops.modify l f } }

/-- DMA channel `c`. -/
def State.dch (s : State) (c : Nat) : DmaChan := s.dma.chans.getD c DmaChan.init

/-- Apply `f` to DMA channel `c`. -/
def State.modDch (s : State) (c : Nat) (f : DmaChan → DmaChan) : State :=
  { s with dma := { s.dma with chans := s.dma.chans.modify c f } }

/-! ### Conditions that several units read -/

/-- The safe state is in force (R434). -/
def State.safeNow (s : State) : Bool := s.flag Reg.FLT_STATUS 0

/-- The safe state is in force, and a tick has gathered the entry: the decisions of a tick that has not gathered the entry of
a hardware path do not see it (R30, R434). -/
def State.safe (s : State) : Bool := s.safeNow && s.flt.paths.all (fun p => !p.entry)

/-- The decide phase of this tick has begun: its gather is closed (R24, R28). -/
def State.decideOpen (s : State) : Bool := decide (s.alm.opened = s.tick + 1)

/-- The sheet-gap indication of this tick (R142). -/
def State.sheetGap (s : State) : Bool := s.flag Reg.LEDG_STATUS 11

/-- The thermal throttle is in force (R478). -/
def State.throttled (s : State) : Bool := s.flag Reg.THM_STATUS 0

/-- A stepper axis is enabled (R303). -/
def StepAxis.enabled (x : StepAxis) : Bool := decide (x.mode ≠ .disabled) && decide (x.mode ≠ .waitSpin)

/-- A synchronous axis is enabled (R345). -/
def SyncAxis.enabled (x : SyncAxis) : Bool := decide (x.mode ≠ .disabled)

/-- MODE of a loop: 0 DISABLED, 1 RUN, 2 FAULT (R379). -/
def State.loopMode (s : State) (l : Nat) : Nat := s.fld (Reg.LOOP_LP_STATE l) 1 0

/-- Every axis and every loop is disabled (R60, R61). -/
def State.allDisabled (s : State) : Bool :=
  s.step.axes.all (fun x => !x.enabled) && s.axis.axes.all (fun x => !x.enabled) &&
  (List.range 64).all (fun l => decide (s.loopMode l ≠ 1))

/-- The gate of a station: 0 NO_SIGNAL, 1 ACQUIRE, 2 LOCKED, 3 LOST (R236). -/
def State.gate (s : State) (i : Nat) : Nat := s.fld (Reg.SCAN_STN_STATE i) 1 0

/-- No rising edge has come at a station for FACET_PERIOD_PS × (1 + WIN) of its volume. -/
def State.edgeless (s : State) (i : Nat) : Bool :=
  match (s.stn i).plan, (s.stn i).lastRise with
  | some (b, g), some t =>
    decide (volPeriodPs (s.alm.bank b) g * (10000 + s.fld (Reg.SCAN_STN_BDWIN i) 9 0) * 8 < (s.tick * 320000 - t) * 625 * 10000)
  | _, _ => true

/-- The polygon of a station counts as stopped (R65): its gate is NO_SIGNAL or LOST, or in ACQUIRE with no edge for a facet
period. The spec does not say what a stopped polygon is (DESIGN CHOICE, log entry 73). -/
def State.stationStopped (s : State) (i : Nat) : Bool :=
  decide (s.gate i = 0) || decide (s.gate i = 3) || (decide (s.gate i = 1) && s.edgeless i)

/-- A notice to the sheet-path firmware (R129, R171). -/
def State.pathNotice (s : State) (kind value : Nat) : State := s.emit (.pathNotice kind value)

/-! ### Path axes -/

/-- `n` little-endian 32-bit words of table memory from BAR1 offset `o`. -/
def State.words (s : State) (o n : Nat) : List Nat := (List.range n).map (fun i => memLe s.sram (o + 4 * i) 4)

/-- Profile `j` of stepper axis `a` (R301): VSTART, VSTOP, VKNEE, VMAX, A1, A2, D1, D2, in 2⁻²⁴. -/
def State.stepProfile (s : State) (a j : Nat) : List Nat :=
  let w := s.words (0x300000 + 256 * a + 32 * j) 8
  (w.take 4).map (· * 256) ++ w.drop 4

/-- Profile `j` of synchronous axis `a` (R344): VKNEE, VMAX, A1, A2, D1, D2; speeds and accelerations in 2⁻²⁴ unit. -/
def State.syncProfile (s : State) (a j : Nat) : List Nat :=
  let w := s.words (0x304000 + 0x800 * a + 32 * j) 6
  (w.take 2).map (· * 65536) ++ [w.getD 2 0 * 256, w.getD 3 0 * 256, w.getD 4 0 * 256, w.getD 5 0 * 256]

/-- A stepper axis begins to decelerate along its profile in force, or along profile 0 in CAM or LEDGER mode (R307), with
what follows at rest. A homing and a cam engagement end. -/
def State.brakeStep (s : State) (a : Nat) (mode : StepMode) (h : Halt) : State :=
  let p0 := s.stepProfile a 0
  s.modAx a (fun x => { x with
    mode := mode, goal := .none, halt := h, dwell := 0, homing := none, hphase := 0, cam := none, camLock := false,
    braking := false, profile := if x.mode = .cam ∨ x.mode = .ledger then p0 else x.profile })

/-- A synchronous axis begins to decelerate towards 0 (R353), along profile 0 in LEDGER mode. -/
def State.brakeSync (s : State) (a : Nat) (mode : AxisMode) (h : Halt) : State :=
  let p0 := s.syncProfile a 0
  s.modSx a (fun x => { x with
    mode := mode, goal := .speed 0, halt := h, profile := if x.mode = .ledger then p0 else x.profile })

/-- The ledger asks an axis to stop along its ramp (R139): as STOP does (R304, R346). An axis in LEDGER mode ramps as the
ledger commands it (R307). -/
def State.askStop (s : State) (stepper : Bool) (a : Nat) : State :=
  if stepper then
    match (s.ax a).mode with
    | .move | .velocity | .homing | .cam => s.brakeStep a .stopping .stop
    | _ => s
  else
    match (s.sx a).mode with
    | .velocity | .move | .start => s.brakeSync a .stopping .stop
    | .recover => s.brakeSync a .recover .stop
    | _ => s

/-- The commanded displacement of an axis in the last compute phase, in 2⁻²⁴ unit (R112). -/
def State.displacement (s : State) (stepper : Bool) (a : Nat) : Int := if stepper then (s.ax a).disp else (s.sx a).disp

/-- The grade speed of an axis for the current grade, in 2⁻²⁴ unit (R309, R344). -/
def State.gradeEntry (s : State) (stepper : Bool) (a g : Nat) : Int :=
  if stepper then signedOf 32 (memLe s.sram (0x303000 + 32 * a + 4 * g) 4) * 256
  else signedOf 32 (memLe s.sram (0x304000 + 0x800 * a + 0x100 + 4 * g) 4) * 65536

/-- GRADE_LINK of an axis. -/
def State.gradeLink (s : State) (stepper : Bool) (a : Nat) : Bool :=
  if stepper then s.flag (Reg.STEP_AX_CFG a) 1 else s.flag (Reg.AXIS_AX_CFG a) 8

/-- A designated axis enters LEDGER mode, from any mode but DISABLED, WAIT_SPIN or SPINDOWN, and FAULT, disengaging from a
cam (R310, R356). -/
def State.enterLedger (s : State) (stepper : Bool) (a : Nat) : State :=
  if stepper then
    match (s.ax a).mode with
    | .disabled | .waitSpin | .fault => s
    | _ => s.modAx a (fun x => { x with mode := .ledger, goal := .speed x.v, halt := .no, dwell := 0, homing := none,
                                        hphase := 0, cam := none, camLock := false })
  else
    match (s.sx a).mode with
    | .disabled | .spindown | .fault => s
    | _ => s.modSx a (fun x => { x with mode := .ledger, goal := .speed x.vcmd, halt := .no })

/-- An axis leaves LEDGER mode for VELOCITY, at its grade speed or at the speed it has reached (R310). -/
def State.leaveLedger (s : State) (stepper : Bool) (a : Nat) : State :=
  let g := if s.gradeLink stepper a then some (s.gradeEntry stepper a s.grade) else none
  if stepper then
    let p0 := s.stepProfile a 0
    if (s.ax a).mode = .ledger then
      s.modAx a (fun x => { x with mode := .velocity, goal := .speed (g.getD x.v), halt := .no,
                                   profile := if x.profile = [] then p0 else x.profile })
    else s
  else
    let p0 := s.syncProfile a 0
    if (s.sx a).mode = .ledger then
      s.modSx a (fun x => { x with mode := .velocity, goal := .speed (g.getD x.vcmd), halt := .no,
                                   profile := if x.profile = [] then p0 else x.profile })
    else s

/-- A stepper that follows the ledger's path speed: in LEDGER mode, or faulted in it and ramping as R172 gives (R307). -/
def StepAxis.follows (x : StepAxis) : Bool := decide (x.mode = .ledger) || (decide (x.mode = .fault) && decide (x.halt = .hold))

/-- An axis leaves LEDGER mode for IDLE, at rest (R310, R172). One that has faulted comes to rest in FAULT. -/
def State.idleLedger (s : State) (stepper : Bool) (a : Nat) : State :=
  if stepper then
    if (s.ax a).follows then
      s.modAx a (fun x => { x with mode := (if x.mode = .ledger then .idle else x.mode), goal := .none, halt := .no, v := 0 })
    else s
  else
    if (s.sx a).mode = .ledger then s.modSx a (fun x => { x with mode := .idle, goal := .none, halt := .no, vcmd := 0 }) else s

/-- The speed that the ledger commands of an axis in LEDGER mode, in 2⁻²⁴ unit per tick (R310). -/
def State.ledgerSpeed (s : State) (stepper : Bool) (a : Nat) (v : Int) : State :=
  if stepper then
    if (s.ax a).follows then s.modAx a (fun x => { x with goal := .speed v }) else s
  else
    if (s.sx a).mode = .ledger then s.modSx a (fun x => { x with goal := .speed v }) else s

/-! ### Sensor edges (R131, R319) -/

/-- The oldest edge of a SCAP input that has qualified in an earlier tick and that a point of the ledger has not read, where
the page holds the input's CAPTURE slot; and the state in which the point has read it. -/
def State.gatherScap (s : State) (input point : Nat) : Option (Edge × State) :=
  let u := s.sio.scap.getD input ScapIn.init
  match u.queue.find? (fun e => !bitOf e.readBy point && decide (e.qualified < s.tick)) with
  | some e =>
    if s.pageHas 0x15 2 input then
      some (e, { s with sio := { s.sio with scap := s.sio.scap.modify input (fun x => { x with queue :=
        (x.queue.map (fun d => if d.serial = e.serial then { d with readBy := d.readBy ||| 2 ^ point } else d)) }) } })
    else none
  | none => none

/-! ### The DRAM wipe on channel 63 (R227) -/

/-- Put channel 63 of the DMA engine, which carries out the wipe, in a state. -/
def State.wipeChannel (s : State) (code : Nat) : State := s.setFld (Reg.DMA_CH_STATE 63) 2 0 code

/-- Channel 63 runs the wipe. -/
def State.wipeRuns (s : State) : Bool := decide (s.fld (Reg.DMA_CH_STATE 63) 2 0 = 2)

/-! ### The legacy port (R523, R529, R538) -/

/-- The state of LEG (R523). -/
def State.legState (s : State) : Nat := s.fld Reg.LEG_STATUS 2 0

/-- The engine has been released to the legacy port. -/
def State.legOn (s : State) : Bool := decide (2 ≤ s.legState)

/-- Post an error code: it replaces the one held only if it is higher (R529). -/
def State.legPost (s : State) (code : Nat) : State :=
  if s.legState = 0 then s
  else
    let s1 := if s.fld Reg.LEG_STATUS 23 16 < code then s.setFld Reg.LEG_STATUS 23 16 code else s
    { s1 with leg := { s1.leg with changedAt := s1.tick + 1 } }

/-- A sheet is lost to the formatter (R529, R538, R540). -/
def State.legLost (s : State) (id cause : Nat) : State :=
  ({ s with leg := { s.leg with lost := min 255 (s.leg.lost + 1) } }.raiseBit Reg.LEG_EVENTS 4).event 0x1304 [id, cause]

/-- A jam reaches the port (R538): JAM is set, the syncs stop, and the sheets that are not COMMITTED are purged in the next
tick. -/
def State.legJam (s : State) : State :=
  if s.legOn then
    let waiting := s.leg.pages.filterMap (fun p => match tabFind s.ledg.sheets p.id with
      | some x => if x.state = .announced ∨ x.state = .admitted then some (p.id, s.tick + 1) else none
      | none => some (p.id, s.tick + 1))
    ({ s with leg := { s.leg with syncs := false, jamAt := s.tick + 1, purges := s.leg.purges ++ waiting } }.setFlag Reg.LEG_STATUS 3 true).legPost
      (if s.safe then 0x51 else 0x10)
  else s

end Sys2Proof.Machine
end

