-- ==== Sys2Proof/Machine/Dma.lean ====
section
/-!
DEFINITION. DMA: the channels, their programs and descriptor lists, the data instructions, control instructions, bus errors
and commands (R401 to R422). A data instruction and a descriptor are carried out whole, when they complete (log entry 27).
-/

namespace Sys2Proof.Machine

/-! ### A channel's registers (R421, R422) -/

/-- STATE of a channel: 0 IDLE, 1 CHECK, 2 RUN, 3 WAIT, 4 DONE, 5 ERROR, 6 HALTED. -/
def State.chState (s : State) (c : Nat) : Nat := s.fld (Reg.DMA_CH_STATE c) 2 0
def State.setCh (s : State) (c st : Nat) : State := s.setFld (Reg.DMA_CH_STATE c) 2 0 st

/-- PC of a channel. -/
def State.chPc (s : State) (c : Nat) : Nat := s.fld (Reg.DMA_CH_STATE c) 23 16
def State.setPc (s : State) (c pc : Nat) : State := s.setFld (Reg.DMA_CH_STATE c) 23 16 pc

/-- RESULT of a command; a refusal sets CMD_REFUSED (R418). -/
def State.chResult (s : State) (c r : Nat) : State :=
  let s1 := s.setFld (Reg.DMA_CH_STATE c) 27 24 r
  if r = 1 then s1 else s1.raiseBit Reg.DMA_EVENTS 4

/-- HALT (R415). -/
def State.dmaHalt (s : State) : Bool := s.flag Reg.DMA_STATUS 0

/-- DMA_CHc_ADDR. -/
def State.chAddr (s : State) (c : Nat) : Nat := s.rdN (Reg.DMA_CH_ADDR_LO c) + s.rdN (Reg.DMA_CH_ADDR_HI c) * 2 ^ 32

/-- DMA_ACTIVE_LO and DMA_ACTIVE_HI. -/
def State.dmaActive (s : State) (hi : Nat) : Nat :=
  (List.range 32).foldl (fun n i =>
    let st := s.chState (32 * hi + i)
    if 1 ≤ st ∧ st ≤ 3 then n + 2 ^ i else n) 0

/-- Loop counter `k` (R408). -/
def State.loopCnt (s : State) (c k : Nat) : Nat :=
  if k = 0 then s.fld (Reg.DMA_CH_LOOP01 c) 15 0
  else if k = 1 then s.fld (Reg.DMA_CH_LOOP01 c) 31 16
  else s.fld (Reg.DMA_CH_LOOP2 c) 15 0
def State.setLoopCnt (s : State) (c k v : Nat) : State :=
  if k = 0 then s.setFld (Reg.DMA_CH_LOOP01 c) 15 0 v
  else if k = 1 then s.setFld (Reg.DMA_CH_LOOP01 c) 31 16 v
  else s.setFld (Reg.DMA_CH_LOOP2 c) 15 0 v

/-- The event flags (R411). -/
def State.evt (s : State) : Nat := s.rdN Reg.DMA_EVT_LO + s.rdN Reg.DMA_EVT_HI * 2 ^ 32
def State.setEvt (s : State) (v : Nat) : State := (s.wrN Reg.DMA_EVT_LO v).wrN Reg.DMA_EVT_HI (v / 2 ^ 32)

/-! ### Errors and the halt (R415, R417) -/

/-- A channel stops in ERROR with a code. -/
def State.chError (s : State) (c code : Nat) : State :=
  (s.setCh c 5).setFld (Reg.DMA_CH_STATE c) 15 8 code

/-- A program error (R417). -/
def State.progError (s : State) (c code : Nat) : State :=
  (((s.chError c code).fault 0x341 0x05 (c + code * 256)).raiseBit Reg.DMA_EVENTS 1).event 0x0D03 [c, code, s.chPc c]

/-- Record the address of a difference or of a refusal. -/
def State.errAddr (s : State) (c a : Nat) : State :=
  (s.wrN (Reg.DMA_CH_ERRADDR_LO c) a).wrN (Reg.DMA_CH_ERRADDR_HI c) (a / 2 ^ 32)

/-- A bus error (R415): every channel in CHECK, RUN or WAIT is HALTED; the message follows in the next tick. -/
def State.busError (s : State) (cause addr : Nat) (write : Bool) : State :=
  let live := (List.range 64).filter (fun c => decide (1 ≤ s.chState c) && decide (s.chState c ≤ 3))
  let s1 := live.foldl (fun t c => (t.modDch c (fun d => { d with was := t.chState c })).setCh c 6) s
  let s2 := ((s1.setFlag Reg.DMA_STATUS 0 true).wrN Reg.DMA_HALT_ADDR_LO addr).wrN Reg.DMA_HALT_ADDR_HI (addr / 2 ^ 32)
  let info := cause % 8 + write.toNat * 16 + (s.fld Reg.DMA_HALT_INFO 31 16 + 1) * 65536
  let s3 := (s2.wrN Reg.DMA_HALT_INFO info).raiseBit Reg.DMA_EVENTS 0
  { s3 with dma := { s3.dma with haltAt := s.tick, haltMsg := some (live.foldl (fun n c => n + 2 ^ c) 0) } }

/-- DMA_BUS_ERROR (R415): a target reports a failure: 1 host completion, 4 uncorrectable data. -/
def execDmaBusError (cause : Fin 8) (addr : DWord) (write : Bool) (s : State) : Host.Outcome State Fault Refusal :=
  .next (s.busError cause addr.toNat write)

/-- In the tick after a bus error the controller reports it (R415, R420). -/
def State.dmaReport (s : State) : State :=
  match s.dma.haltMsg with
  | some m =>
    if s.dma.haltAt < s.tick then
      let a := s.rdN Reg.DMA_HALT_ADDR_LO
      let s1 : State := { s with dma := { s.dma with haltMsg := none } }
      (s1.fault 0x340 0x06 a).event 0x0D01 [a, s.rdN Reg.DMA_HALT_ADDR_HI, s.fld Reg.DMA_HALT_INFO 2 0, m]
    else s
  | none => s

/-- CLEAR_HALT (R416). -/
def State.clearHalt (s : State) : State :=
  if s.dmaHalt then (s.setFlag Reg.DMA_STATUS 0 false).event 0x0D02 [s.tick - s.dma.haltAt] else s

def execClearHalt (s : State) : Host.Outcome State Fault Refusal := .next s.clearHalt

/-! ### Spaces (R401, R409) -/

/-- SPACE and offset of an address. -/
def spaceOf (a : Nat) : Nat := a / 2 ^ 56 % 256
def offOf (a : Nat) : Nat := a % 2 ^ 56

/-- The space is defined. -/
def spaceOk (a : Nat) : Bool := decide (spaceOf a ≤ 2)

/-- Size of a space. -/
def State.spaceSize (s : State) (a : Nat) : Nat :=
  if spaceOf a = 0 then 2 ^ 56 else if spaceOf a = 1 then s.dramBytes else 0xA00000

/-- `n` bytes at an address; `host` is what host memory holds there. -/
def State.spaceRead (s : State) (a n : Nat) (host : List Byte) : List Byte :=
  if spaceOf a = 0 then host.take n
  else if spaceOf a = 1 then s.dramRead (offOf a) n
  else memBytes s.sram (offOf a) n

/-- Write bytes at an address. -/
def State.spaceWrite (s : State) (a : Nat) (bs : List Byte) : State :=
  if spaceOf a = 0 then s.emit (.hostWrite (offOf a) bs)
  else if spaceOf a = 1 then s.dramWrite (offOf a) bs
  else { s with sram := memWrite s.sram (offOf a) bs }

/-- A data instruction: 1 MOVE, 5 FILL, 6 CMP; effective addresses; the pattern of a FILL. -/
structure DataOp where
  op : Nat
  len : Nat
  src : Nat
  dst : Nat
  pattern : List Byte

/-- The check that a data instruction fails before it is issued: code and address (R409). -/
def State.dataCheck (s : State) (d : DataOp) : Option (Nat × Nat) :=
  let beyond (a : Nat) : Bool := !spaceOk a || decide (s.spaceSize a < offOf a + d.len)
  if d.op ≠ 5 ∧ beyond d.src then some (4, d.src)
  else if beyond d.dst then some (4, d.dst)
  else if d.op ≠ 6 ∧ spaceOf d.dst = 2 ∧ offOf d.dst < 0x700000 then some (5, d.dst)
  else if d.op = 1 ∧ spaceOf d.src = spaceOf d.dst ∧ offOf d.src < offOf d.dst + d.len ∧
      offOf d.dst < offOf d.src + d.len then some (6, d.dst)
  else none

/-- The DRAM can serve a request (R214, R217): it is trained and no training or gap retrain runs. Requests wait for it. -/
def State.dramServes (s : State) : Bool := s.flag Reg.DRAM_STATUS 0 && !s.flag Reg.DRAM_STATUS 2

/-- A data instruction that passed its check waits for DRAM. -/
def State.dataWaits (s : State) (d : DataOp) : Bool :=
  (s.dataCheck d).isNone && !s.dramServes && ((decide (d.op ≠ 5) && decide (spaceOf d.src = 1)) || decide (spaceOf d.dst = 1))

/-- The write reaches a page-store frame, outside the reserved region (R207). -/
def State.dramRefuses (s : State) (d : DataOp) : Bool :=
  decide (d.op ≠ 6) && decide (spaceOf d.dst = 1) && decide (offOf d.dst < s.dramBytes - 256 * 16384)

/-- The first place where two byte strings differ. -/
def firstDiff : List Byte → List Byte → Nat → Option Nat
  | a :: as, b :: bs, i => if a = b then firstDiff as bs (i + 1) else some i
  | _, _, _ => none

/-- BYTES advances (R421). -/
def State.countBytes (s : State) (c n : Nat) : State := s.wrN (Reg.DMA_CH_BYTES c) (s.rdN (Reg.DMA_CH_BYTES c) + n)

/-- A data instruction is carried out; the answer says whether the channel goes on (R409, R415). -/
def State.dataRun (s : State) (c : Nat) (d : DataOp) (hsrc hdst : List Byte) : Bool × State :=
  match s.dataCheck d with
  | some e => (false, (s.errAddr c e.2).progError c e.1)
  | none =>
    let hostSrc := decide (d.op ≠ 5) && decide (spaceOf d.src = 0)
    let hostDst := decide (spaceOf d.dst = 0)
    if (hostSrc || hostDst) && !s.host.linkUp then
      (false, s.busError 2 (if hostSrc then d.src else d.dst) (!hostSrc && decide (d.op ≠ 6)))
    else if s.dramRefuses d then (false, s.busError 3 d.dst true)
    else if d.op = 6 then
      match firstDiff (s.spaceRead d.src d.len hsrc) (s.spaceRead d.dst d.len hdst) 0 with
      | some i => (false, (((s.errAddr c i).countBytes c (i + 1)).chError c 9).raiseBit Reg.DMA_EVENTS 3)
      | none => (true, s.countBytes c d.len)
    else
      let bs := if d.op = 5 then (List.range d.len).map (fun i => d.pattern.getD ((offOf d.dst + i) % 8) 0)
        else s.spaceRead d.src d.len hsrc
      (true, (s.spaceWrite d.dst bs).countBytes c d.len)

/-- The operands give as many bytes of host memory as the instruction reads there. -/
def dataFormed (d : DataOp) (hsrc hdst : List Byte) : Bool :=
  (decide (d.op = 5) || decide (spaceOf d.src ≠ 0) || decide (hsrc.length = d.len)) &&
  (decide (d.op ≠ 6) || decide (spaceOf d.dst ≠ 0) || decide (hdst.length = d.len))

/-! ### Programs (R406 to R408) -/

/-- The instruction buffer of a channel (R402), and one of its instructions. -/
def bufferAt (c : Nat) : Nat := 0x600000 + 0x2000 * c
def State.instr (s : State) (c pc : Nat) : List Byte := memBytes s.sram (bufferAt c + 32 * pc) 32
def opOf (b : List Byte) : Nat := leAt b 0 1

/-- Field checks of one instruction (R406, code 0x01). -/
def instrOk (b : List Byte) : Bool :=
  let f := leAt b 1 1
  let len := leAt b 4 4
  let arg := leAt b 8 8
  let lenOk := decide (1 ≤ len) && decide (len < 2 ^ 24)
  match opOf b with
  | 1 => decide (f < 4) && zerosAt b 2 2 && lenOk && zerosAt b 0x18 8
  | 2 => decide (f ≤ 2) && decide (1 ≤ leAt b 2 1) && zerosAt b 3 1 && decide (1 ≤ leAt b 4 2) && zerosAt b 6 2 &&
    zerosAt b 0x18 8
  | 3 => decide (f < 2) && decide (leAt b 2 1 ≤ 3) && zerosAt b 3 1 && zerosAt b 0x10 16 &&
    (match leAt b 2 1 with
      | 0 => decide (1 ≤ arg) && decide (arg < 2 ^ 32)
      | 1 => decide (arg < 2 ^ 48)
      | 2 => decide (arg < 64)
      | _ => decide (bitsOf arg 31 12 = 0) && decide (arg < 2 ^ 48))
  | 4 => decide (f < 4) && decide (leAt b 2 1 < 64) && zerosAt b 3 1 && zerosAt b 8 24
  | 5 => decide (f < 4) && zerosAt b 2 2 && lenOk && zerosAt b 0x18 8
  | 6 => decide (f = 0 ∨ f = 2) && zerosAt b 2 2 && lenOk && zerosAt b 0x18 8
  | 7 => decide (f < 2) && zerosAt b 2 30
  | _ => false

/-- The instructions that a fetch copies: up to the first END, at most 256 (R407). -/
def fetchProgram (bs : List Byte) : Nat → List (List Byte)
  | 0 => []
  | n + 1 =>
    if bs.length < 32 then []
    else if opOf bs = 7 then [bs.take 32]
    else bs.take 32 :: fetchProgram (bs.drop 32) n

/-- The LOOPs of a program nest (R407, code 0x03). -/
def loopsNest (p : List (List Byte)) : Bool :=
  let loops := (p.zipIdx.filter (fun x => decide (opOf x.1 = 2))).map (fun x => (x.2, leAt x.1 1 1, (x.2 : Int) - leAt x.1 2 1))
  loops.all (fun l => decide (0 ≤ l.2.2) && loops.all (fun m =>
    !(decide (l.2.2 ≤ m.1) && decide (m.1 < l.1)) || (decide (m.2.1 < l.2.1) && decide (l.2.2 ≤ m.2.2))))

/-- The first check of R407 that a program fails, as its code. -/
def programCode (p : List (List Byte)) : Option Nat :=
  if !p.all instrOk then some 1
  else if !p.any (fun b => decide (opOf b = 7)) then some 2
  else if !loopsNest p then some 3
  else if p.any (fun b => (decide (opOf b = 1 ∨ opOf b = 6) && !spaceOk (leAt b 8 8)) ||
      (decide (opOf b = 1 ∨ opOf b = 5 ∨ opOf b = 6) && !spaceOk (leAt b 0x10 8))) then some 4
  else none

/-- An address with the offsets of the three loop levels (R408). -/
def effective (a : Nat) (offs : List Int) : Nat := (((a : Int) + offs.foldl (· + ·) 0) % 2 ^ 64).toNat

/-- The data instruction at the channel's PC, if it is one. -/
def State.dataOp (s : State) (c : Nat) : Option DataOp :=
  let b := s.instr c (s.chPc c)
  let d := s.dch c
  if opOf b = 1 ∨ opOf b = 5 ∨ opOf b = 6 then
    some ⟨opOf b, leAt b 4 3, effective (leAt b 8 8) d.soff, effective (leAt b 0x10 8) d.doff, bytesAt b 8 8⟩
  else none

/-- LOOP (R408). -/
def State.loopInstr (s : State) (c : Nat) (b : List Byte) : State :=
  let k := leAt b 1 1
  let n := s.loopCnt c k + 1
  if n < leAt b 4 2 then
    ((s.setLoopCnt c k n).modDch c (fun d => { d with
      soff := d.soff.modify k (· + signedOf 64 (leAt b 8 8)), doff := d.doff.modify k (· + signedOf 64 (leAt b 0x10 8)) })).setPc
      c (s.chPc c - leAt b 2 1)
  else
    ((s.setLoopCnt c k 0).modDch c (fun d => { d with soff := d.soff.set k 0, doff := d.doff.set k 0 })).setPc c (s.chPc c + 1)

/-- SIGNAL (R411, R413): its event flag is first seen in the next tick. -/
def State.signalInstr (s : State) (c : Nat) (b : List Byte) : State :=
  let s1 := s.wrN (Reg.DMA_CH_SIGVAL c) (leAt b 4 4)
  let s2 : State := if bitOf (leAt b 1 1) 1 then
      { s1 with dma := { s1.dma with signalled := s1.dma.signalled ||| 2 ^ leAt b 2 1 } } else s1
  (if bitOf (leAt b 1 1) 0 then s2.vector (48 + c) else s2).setPc c (s.chPc c + 1)

/-- A WAIT on event flag `f` that a lower-numbered channel than `c` has open, so that it takes the flag first (R412). -/
def State.flagTaken (s : State) (c f : Nat) : Bool :=
  (List.range c).any (fun k =>
    let b := s.instr k (s.chPc k)
    decide (s.chState k = 3) && !(s.dch k).aborting && decide (leAt b 2 1 = 2) && decide (leAt b 8 8 = f))

/-- A WAIT is met in this decide phase (R412). -/
def State.waitMet (s : State) (c : Nat) (b : List Byte) : Bool :=
  let arg := leAt b 8 8
  match leAt b 2 1 with
  | 0 => decide ((s.dch c).entry + arg ≤ s.tick)
  | 1 => decide (arg ≤ s.tick)
  | 2 => bitOf s.evt arg && !s.flagTaken c arg
  | _ => decide (bitsOf arg 47 32 ≤ s.held (arg % 4096))

/-- A WAIT ends and the channel goes on to the next instruction; a WAIT on an event flag clears it. -/
def State.passWait (s : State) (c : Nat) (b : List Byte) (met : Bool) : State :=
  let s1 := if met ∧ leAt b 2 1 = 2 then s.setEvt (putBit s.evt (leAt b 8 1) false) else s
  (s1.setCh c 2).setPc c (s.chPc c + 1)

/-- The WAIT at the channel's PC is entered (R412). -/
def State.enterWait (s : State) (c : Nat) (b : List Byte) : State :=
  if leAt b 2 1 = 3 ∧ !(s.cq (leAt b 8 8 % 4096)).enabled then s.progError c 7
  else
    let s1 := (s.modDch c (fun d => { d with entry := s.tick })).setCh c 3
    if s1.waitMet c b then s1.passWait c b true else s1

/-- A channel carries out LOOPs at once and, in a decide phase (`ctl`), WAITs and SIGNALs in sequence, until it meets a data
instruction, an END, or a WAIT that is not met (R408, R411). A data instruction is checked before it is issued. -/
def State.runControl (ctl : Bool) (c : Nat) : Nat → State → State
  | 0, s => s
  | n + 1, s =>
    let b := s.instr c (s.chPc c)
    if s.chState c ≠ 2 ∨ (s.dch c).list ∨ (s.dch c).aborting then s
    else
      match opOf b with
      | 2 => State.runControl ctl c n (s.loopInstr c b)
      | 3 => if ctl then State.runControl ctl c n (s.enterWait c b) else s
      | 4 => if ctl then State.runControl ctl c n (s.signalInstr c b) else s
      | 7 => s
      | _ =>
        match (s.dataOp c).bind s.dataCheck with
        | some e => (s.errAddr c e.2).progError c e.1
        | none => s

/-- A bound on the instructions carried out in sequence that no program reaches: three loop counters of 16 bits, and 256
instructions. -/
def controlFuel : Nat := 2 ^ 60

/-- A channel goes on between decide phases: it waits for the next one at a WAIT, a SIGNAL or an END (R411). -/
def State.goOn (s : State) (c : Nat) : State := State.runControl false c controlFuel s

/-- A channel goes on in a decide phase. -/
def State.goDecide (s : State) (c : Nat) : State := State.runControl true c controlFuel s

/-! ### Commands (R403, R418) -/

/-- A host write to a firmware channel is discarded and reported (R403, R78). -/
def channelRefused (w : Writer) (c : Nat) : Bool := decide (w = .host) && decide (56 ≤ c)

/-- START (R405, R407, R418). DESIGN CHOICE: where the state and R403 both forbid it, the result is 2 (log entry 81). -/
def State.dmaStart (s : State) (c : Nat) : State :=
  let st := s.chState c
  if s.dmaHalt ∨ !(st = 0 ∨ st = 4 ∨ st = 5) then s.chResult c 2
  else if c = 63 ∧ !s.flag Reg.DRAM_STATUS 4 then s.chResult c 3
  else
    let list := s.flag (Reg.DMA_CH_CFG c) 0
    let s1 := (s.wrN (Reg.DMA_CH_STATE c) (if list then 2 else 1)).chResult c 1
    ((s1.wrN (Reg.DMA_CH_LOOP01 c) 0).wrN (Reg.DMA_CH_LOOP2 c) 0).modDch c (fun _ =>
      { DmaChan.init with list := list, at_ := s.chAddr c, entry := s.tick })

/-- ABORT (R418). -/
def State.dmaAbort (s : State) (c : Nat) : State :=
  let st := s.chState c
  if 1 ≤ st ∧ st ≤ 3 ∨ st = 6 then (s.chResult c 1).modDch c (fun d => { d with aborting := true }) else s.chResult c 2

/-- RESUME from the resume point (R416): a WAIT is entered again when the decide phase comes to the channel. The wipe of channel
63 goes on by itself (R227). -/
def State.dmaResume (s : State) (c : Nat) : State :=
  if s.chState c ≠ 6 ∨ s.dmaHalt ∨ (s.dch c).aborting then s.chResult c 2
  else
    let s1 := s.chResult c 1
    if (s.dch c).was = 1 then (s1.setCh c 1).modDch c (fun d => { d with entry := s.tick }) else s1.setCh c 2

/-- DMA_START (R418). -/
def effDmaStart (w : Writer) (c : Fin 64) (s : State) : Host.Outcome State Fault Refusal :=
  if channelRefused w c then .next (s.discarded 10 0 (Reg.DMA_CH_CTRL c)) else .next (s.dmaStart c)

/-- DMA_ABORT (R418). -/
def effDmaAbort (w : Writer) (c : Fin 64) (s : State) : Host.Outcome State Fault Refusal :=
  if channelRefused w c then .next (s.discarded 10 0 (Reg.DMA_CH_CTRL c)) else .next (s.dmaAbort c)

/-- DMA_RESUME (R416, R418). -/
def effDmaResume (w : Writer) (c : Fin 64) (s : State) : Host.Outcome State Fault Refusal :=
  if channelRefused w c then .next (s.discarded 10 0 (Reg.DMA_CH_CTRL c)) else .next (s.dmaResume c)

/-- DMA_ABORT_DONE (R418): the requests of an aborted channel have ended. -/
def execDmaAbortDone (c : Fin 64) (s : State) : Host.Outcome State Fault Refusal :=
  if (s.dch c).aborting then .next ((s.chError c 0x0A).modDch c (fun d => { d with aborting := false })) else .next s

/-- DMA_EVT_SET (R411). -/
def execDmaEvtSet (v : DWord) (s : State) : Host.Outcome State Fault Refusal := .next (s.setEvt (s.evt ||| v.toNat))

/-- DMA_EVT_CLR (R411). -/
def execDmaEvtClr (v : DWord) (s : State) : Host.Outcome State Fault Refusal :=
  .next (s.setEvt (s.evt &&& (2 ^ 64 - 1 - v.toNat)))

/-! ### What ends a fetch, an instruction, a wait (R405, R407, R409, R410, R412) -/

/-- The program's bytes at DMA_CHc_ADDR, up to 8 KB within its space. -/
def State.programBytes (s : State) (c : Nat) (host : List Byte) : List Byte :=
  let a := s.chAddr c
  s.spaceRead a (min 8192 (s.spaceSize a - offOf a)) host

/-- The program of a channel in CHECK is fetched and checked (R407). -/
def State.checkProgram (s : State) (c : Nat) (host : List Byte) : State :=
  if s.chState c ≠ 1 ∨ (s.dch c).aborting then s
  else if !spaceOk (s.chAddr c) then s.progError c 4
  else if spaceOf (s.chAddr c) = 0 ∧ !s.host.linkUp then s.busError 2 (s.chAddr c) false
  else if spaceOf (s.chAddr c) = 1 ∧ !s.dramServes then s
  else
    let p := fetchProgram (s.programBytes c host) 256
    let s1 : State := { s with sram := memWrite s.sram (bufferAt c) p.flatten }
    match programCode p with
    | some code => s1.progError c code
    | none => ((s1.setCh c 2).setPc c 0).goOn c

/-- PROGRAM_CHECK_DONE (R407): the instructions are in the buffer and checked. `host` is what host memory holds at the
program's address. -/
def execProgramCheckDone (c : Fin 64) (host : List Byte) (s : State) : Host.Outcome State Fault Refusal :=
  .next (s.checkProgram c host)

/-- The data operation of a descriptor (R404). -/
def descOp (b : List Byte) : DataOp :=
  ⟨match leAt b 0x14 4 % 4 with
    | 0 => 1
    | 1 => 5
    | _ => 6, leAt b 0x10 3, leAt b 0 8, leAt b 8 8, bytesAt b 0 8⟩

/-- A descriptor passes its checks (R404, R405, R407). -/
def descOk (b : List Byte) : Bool :=
  let ctrl := leAt b 0x14 4
  decide (ctrl % 4 ≠ 3) && decide (ctrl < 64) && decide (1 ≤ leAt b 0x10 4) && decide (leAt b 0x10 4 < 2 ^ 24) &&
  (decide (ctrl % 4 = 1) || spaceOk (leAt b 0 8)) && spaceOk (leAt b 8 8) && (bitOf ctrl 5 || spaceOk (leAt b 0x18 8))

/-- A checked descriptor is carried out (R405). -/
def State.descRun (s : State) (c : Nat) (b hsrc hdst : List Byte) : State :=
  let ctrl := leAt b 0x14 4
  match s.dataRun c (descOp b) hsrc hdst with
  | (false, t) => t
  | (true, t) =>
    let t1 := if bitOf ctrl 4 then t.vector (48 + c) else t
    if bitOf ctrl 5 then t1.setCh c 4 else t1.modDch c (fun d => { d with at_ := leAt b 0x18 8 })

/-- DMA_DESCRIPTOR (R405): the next descriptor of a list is fetched, checked and carried out. `host` is what host memory
holds there, `hsrc` and `hdst` what it holds in the ranges that the descriptor reads. -/
def execDmaDescriptor (c : Fin 64) (host hsrc hdst : List Byte) (s : State) : Host.Outcome State Fault Refusal :=
  let a := (s.dch c).at_
  let b := s.spaceRead a 32 host
  if s.chState c ≠ 2 ∨ !(s.dch c).list ∨ (s.dch c).aborting then .next s
  else if !spaceOk a ∨ a % 32 ≠ 0 ∨ s.spaceSize a < offOf a + 32 then .next (s.progError c 0x0B)
  else if spaceOf a = 0 ∧ !s.host.linkUp then .next (s.busError 2 a false)
  else if spaceOf a = 1 ∧ !s.dramServes then .next s
  else if b.length ≠ 32 then .fault .illFormed
  else if !descOk b then .next (s.progError c 0x0B)
  else if !dataFormed (descOp b) hsrc hdst then .fault .illFormed
  else if s.dataWaits (descOp b) then .next s
  else .next (s.descRun c b hsrc hdst)

/-- DATA_INSTRUCTION_DONE (R409, R411): the data instruction at PC completes, and the channel goes on. `hsrc` and `hdst` are
what host memory holds in the ranges that it reads. -/
def execDataInstructionDone (c : Fin 64) (hsrc hdst : List Byte) (s : State) : Host.Outcome State Fault Refusal :=
  if s.chState c ≠ 2 ∨ (s.dch c).list ∨ (s.dch c).aborting then .next s
  else
    match s.dataOp c with
    | some d =>
      if !dataFormed d hsrc hdst then .fault .illFormed
      else if s.dataWaits d then .next s
      else
        match s.dataRun c d hsrc hdst with
        | (false, t) => .next t
        | (true, t) => .next ((t.setPc c (s.chPc c + 1)).goOn c)
    | none => .next s

/-- The WAIT that a channel stands at is met in this decide phase, and the channel goes on (R412). -/
def State.waitEnds (s : State) (c : Nat) : State :=
  let b := s.instr c (s.chPc c)
  if s.chState c = 3 ∧ !(s.dch c).aborting ∧ s.waitMet c b then (s.passWait c b true).goDecide c else s

/-- WAIT_MET (R412). -/
def effWaitMet (c : Fin 64) (s : State) : Host.Outcome State Fault Refusal := .next (s.waitEnds c)

/-- A WAIT not met in the decide phase of its deadline tick has timed out (R412). -/
def State.waitLapses (s : State) (c : Nat) : State :=
  let b := s.instr c (s.chPc c)
  let tmo := leAt b 4 4
  if s.chState c = 3 ∧ !(s.dch c).aborting ∧ tmo ≠ 0 ∧ (s.dch c).entry + tmo ≤ s.tick ∧ !s.waitMet c b then
    let s1 := s.raiseBit Reg.DMA_EVENTS 2
    if bitOf (leAt b 1 1) 0 then (s1.passWait c b false).goDecide c else s1.chError c 8
  else s

/-- WAIT_TIMEOUT (R412). -/
def effWaitTimeout (c : Fin 64) (s : State) : Host.Outcome State Fault Refusal := .next (s.waitLapses c)

/-- The turn of a channel in a decide phase (R407, R411, R412): the check of a program in SRAM has ended after 2 ticks at the
most, a WAIT is met or times out, and control instructions are carried out in sequence. -/
def State.channelTurn (s : State) (c : Nat) : State :=
  let s1 := if s.chState c = 1 ∧ spaceOf (s.chAddr c) = 2 ∧ (s.dch c).entry + 2 ≤ s.tick then s.checkProgram c [] else s
  ((s1.waitEnds c).waitLapses c).goDecide c

/-- DMA_END (R410): every write of the program has completed; the channel enters DONE. -/
def execDmaEnd (c : Fin 64) (s : State) : Host.Outcome State Fault Refusal :=
  let b := s.instr c (s.chPc c)
  if s.chState c = 2 ∧ !(s.dch c).list ∧ !(s.dch c).aborting ∧ opOf b = 7 then
    let s1 := s.setCh c 4
    .next (if bitOf (leAt b 1 1) 0 then s1.vector (48 + c) else s1)
  else .next s

/-- At the end of a tick, event flags set by SIGNAL become visible (R411, R28). -/
def State.dmaTick (s : State) : State :=
  if s.dma.signalled = 0 then s
  else
    let s1 := s.setEvt (s.evt ||| s.dma.signalled)
    { s1 with dma := { s1.dma with signalled := 0 } }

end Sys2Proof.Machine
end

