-- ==== Sys2Proof/Machine/Checker.lean ====
section
/-!
DEFINITION. The Almanac checker: the operation costs of R43 and R45 and the thirteen checks of R55, in their order.
-/

namespace Sys2Proof.Machine

/-- An operation of a tick page: block, code, phase, OBJECT range, cost in cycles, PARAM range (R43 to R45). -/
structure OpInfo where
  block : Nat
  op : Nat
  phase : Nat
  objLo : Nat
  objHi : Nat
  cost : Nat
  parLo : Nat
  parHi : Nat
  deriving DecidableEq, Repr

/-- The operations of R45, R298, R335, R366, R391, R450 and R483. -/
def opTable : List OpInfo :=
  [⟨0x00, 1, 1, 0, 0, 600, 0, 0⟩, ⟨0x01, 1, 0, 0, 15, 40, 0, 0⟩, ⟨0x01, 2, 3, 0, 0, 120, 0, 0⟩,
   ⟨0x01, 3, 3, 10, 13, 100, 0, 0⟩, ⟨0x03, 1, 1, 0, 0, 900, 0, 0⟩, ⟨0x09, 1, 0, 0, 1, 300, 0, 0⟩,
   ⟨0x09, 2, 2, 0, 47, 45, 0, 0⟩, ⟨0x09, 3, 3, 0, 1, 280, 0, 0⟩, ⟨0x09, 4, 2, 0, 7, 25, 0, 0⟩,
   ⟨0x15, 1, 0, 0, 0, 420, 0, 0⟩, ⟨0x15, 2, 0, 0, 7, 20, 0, 0⟩, ⟨0x15, 3, 3, 0, 0, 300, 0, 0⟩,
   ⟨0x0A, 1, 0, 0, 3, 180, 0, 0⟩, ⟨0x0A, 2, 2, 0, 23, 190, 0, 0⟩, ⟨0x0A, 3, 3, 0, 3, 160, 0, 0⟩,
   ⟨0x0B, 1, 0, 0, 1, 150, 0, 0⟩, ⟨0x0B, 2, 2, 0, 63, 20, 0, 0⟩, ⟨0x0B, 3, 3, 0, 1, 140, 0, 0⟩,
   ⟨0x0C, 1, 0, 0, 4095, 25, 1, 8⟩, ⟨0x0C, 2, 1, 0, 0, 400, 0, 0⟩, ⟨0x0C, 3, 3, 0, 0, 350, 0, 0⟩,
   ⟨0x0E, 1, 1, 0, 0, 250, 0, 0⟩, ⟨0x0F, 1, 0, 0, 0, 300, 0, 0⟩, ⟨0x10, 1, 1, 0, 0, 200, 0, 0⟩]

/-- The entry of an operation, if it is defined. -/
def opInfo (block op : Nat) : Option OpInfo := opTable.find? (fun i => decide (i.block = block) && decide (i.op = op))

/-- The 16-bit entry of ALM_COST_TABLE for a block and an operation (R43). -/
def costEntry (block op : Nat) : Nat :=
  match opInfo block op with
  | some i => i.cost + 2 ^ (12 + i.phase)
  | none => 0

/-- The phase budgets of R43. -/
def phaseBudget (p : Nat) : Nat := if p = 0 then 4000 else if p = 2 then 9000 else 3000

/-- What the checker found: CODE, ALM_SB_DETAIL and ALM_SB_COST (R55). -/
structure CheckFail where
  code : Nat
  detail : Nat
  cost : Nat
  deriving DecidableEq, Repr

/-- ALM_SB_DETAIL from its fields (R70). -/
def sbDetail (page phase index volume station : Nat) : Nat :=
  page % 64 + (phase % 4) * 2 ^ 6 + (index % 4096) * 2 ^ 8 + (volume % 8) * 2 ^ 20 + (station % 8) * 2 ^ 24

/-- The first number below `n` that fails. -/
def firstBelow (n : Nat) (bad : Nat → Bool) : Option Nat := (List.range n).find? bad

/-- The bytes of a memory that are not zero. -/
def nonZero (m : Memory) : Memory := m.filter (fun c => decide (c.2 ≠ 0))

/-- The CRC-32 state after the `n` bytes of a canonical memory from address `i` on (R39). -/
def crcMem : Memory → Nat → Nat → Nat → Nat
  | _, 0, _, c => c
  | [], n + 1, i, c => crcMem [] n (i + 1) (crcByte c 0)
  | (k, b) :: t, n + 1, i, c =>
    if k = i then crcMem t n (i + 1) (crcByte c b) else crcMem ((k, b) :: t) n (i + 1) (crcByte c 0)

/-- IMAGE_CRC of an image: header bytes 0x000 to 0xFFB, then the regions (R39). -/
def imageCrc (m : Memory) : Nat :=
  let c := crcMem m 0xFFC 0 0xFFFFFFFF
  crcMem (m.dropWhile (fun p => decide (p.1 < 4096))) 524288 4096 c ^^^ 0xFFFFFFFF

/-- Check 1: all 129 pieces written. -/
def checkPieces (written : Tab Bool) : Option CheckFail :=
  (firstBelow 129 (fun p => !tabGet false written p)).map (fun p => ⟨0x0E, sbDetail 0 0 p 0 0, 0⟩)

/-- Check 2: MAGIC, FORMAT and HDR_SIZE. -/
def checkMagic (m : Memory) : Option CheckFail :=
  if imgHdr m 0 4 = 0x4B414C4D ∧ imgHdr m 4 2 = 1 ∧ imgHdr m 6 2 = 0x1000 then none else some ⟨0x01, 0, 0⟩

/-- Check 3: IMAGE_CRC. -/
def checkCrc (m : Memory) : Option CheckFail := if imageCrc m = imgHdr m 0xFFC 4 then none else some ⟨0x03, 0, 0⟩

/-- Check 4: COST_ID. -/
def checkCostId (m : Memory) : Option CheckFail := if imgHdr m 0x00C 4 = 0x0C01 then none else some ⟨0x04, 0, 0⟩

/-- Check 5: PAGE_COUNT and each SLOT_COUNT. -/
def checkCounts (m : Memory) : Option CheckFail :=
  let n := imgPages m
  if n = 0 ∨ 48 < n then some ⟨0x05, sbDetail 0x3F 0 n 0 0, 0⟩
  else (firstBelow 48 (fun k => if k < n then decide (imgSlots m k = 0) || decide (1024 < imgSlots m k)
    else decide (imgSlots m k ≠ 0))).map (fun k => ⟨0x05, sbDetail k 0 0 0 0, 0⟩)

/-- A reserved header byte outside the volume descriptors (R38). -/
def reservedHeader (o : Nat) : Bool :=
  decide (o = 0x013) || (decide (0x018 ≤ o) && decide (o < 0x040)) ||
  (decide (0x040 ≤ o) && decide (o < 0x100) && decide (2 ≤ o % 4)) || (decide (0x300 ≤ o) && decide (o < 0xFFC))

/-- Check 6: reserved header bytes, and library bytes beyond the slots of each page. -/
def checkReserved (m : Memory) : Option CheckFail :=
  match (nonZero m).find? (fun c => decide (c.1 < 4096) && reservedHeader c.1) with
  | some c => some ⟨0x08, sbDetail 0x3F 0 c.1 0 0, 0⟩
  | none =>
    ((nonZero m).find? (fun c => decide (4096 ≤ c.1) && decide (c.1 < 4096 + 48 * 8192) &&
      (decide (imgPages m ≤ (c.1 - 4096) / 8192) ||
       decide (8 * imgSlots m ((c.1 - 4096) / 8192) ≤ (c.1 - 4096) % 8192)))).map
      (fun c => ⟨0x08, sbDetail ((c.1 - 4096) / 8192) 0 ((c.1 - 4096) % 8192 / 8) 0 0, 0⟩)

/-- A slot breaks R41, R42 or R44, where the slots before it reached phase `prev`. -/
def slotBad (prev : Nat) (p : PageSlot) : Bool :=
  if p.op = 0 then decide (p.block ≠ 0) || decide (p.lane ≠ 0) || decide (p.object ≠ 0) || decide (p.param ≠ 0)
  else
    decide (p.phase < prev) ||
    match opInfo p.block p.op with
    | none => true
    | some i => decide (p.phase ≠ i.phase) || decide (p.lane ≠ 0) || decide (p.object < i.objLo) ||
        decide (i.objHi < p.object) || decide (p.param < i.parLo) || decide (i.parHi < p.param)

/-- The first slot of a page that fails, scanning from phase `prev`. -/
def firstBadSlot : Nat → List PageSlot → Option PageSlot
  | _, [] => none
  | prev, p :: ps =>
    if slotBad prev p then some p else firstBadSlot (if p.op = 0 then prev else max prev p.phase) ps

/-- The slots of a page that is required to hold EVALUATE and DEADLINES (R45). -/
def holdsRequired (ps : List PageSlot) : Bool :=
  ps.any (fun p => decide (p.block = 0 ∧ p.op = 1)) && ps.any (fun p => decide (p.block = 3 ∧ p.op = 1))

/-- Check 7 on one page. -/
def checkPage (m : Memory) (k : Nat) : Option CheckFail :=
  let ps := imgPage m k
  match firstBadSlot 0 ps with
  | some p => some ⟨0x06, sbDetail k p.phase p.index 0 0, 0⟩
  | none => if holdsRequired ps then none else some ⟨0x06, sbDetail k 1 0xFFF 0 0, 0⟩

/-- The first of the failures that `f` finds for the numbers below `n`. -/
def firstFail (n : Nat) (f : Nat → Option CheckFail) : Option CheckFail := (List.range n).findSome? f

/-- Check 7: every page. -/
def checkSlots (m : Memory) : Option CheckFail := firstFail (imgPages m) (checkPage m)

/-- The cost of one phase of a page (R43). -/
def phaseCost (ps : List PageSlot) (ph : Nat) : Nat :=
  ps.foldl (fun n p => if p.phase = ph ∧ p.op ≠ 0 then n + ((opInfo p.block p.op).map (·.cost)).getD 0 else n) 0

/-- Check 8: the budgets of R43. -/
def checkBudgets (m : Memory) : Option CheckFail :=
  firstFail (imgPages m) (fun k => firstFail 4 (fun ph =>
    let c := phaseCost (imgPage m k) ph
    if phaseBudget ph < c then some ⟨0x07, sbDetail k ph 0 0 0, c % 2 ^ 24⟩ else none))

/-- A descriptor breaks R48 or R49. -/
def volumeBad (m : Memory) (g : Nat) : Bool :=
  if volValid m g then
    decide (4 ≤ volField m g 0 1) || decide (volAdmitDepth m g = 0) || decide (volSeasonLen m g = 0) ||
    decide (4096 < volSeasonLen m g) || decide (32768 < volSeasonOff m g + volSeasonLen m g) ||
    decide (volLineBytes m g = 0) || decide ((if volModeB m g then 6378 else 12756) < volLineBytes m g) ||
    decide (1048576 < volLineBytes m g * volLsLines m g) || decide (volField m g 0x0A 2 ≠ 0) ||
    decide (volPeriodPs m g = 0) || decide (volField m g 0x28 24 ≠ 0) || (volModeB m g && decide (g < 4))
  else decide (volField m g 0 64 ≠ 0)

/-- A season entry breaks R46. -/
def seasonBad (m : Memory) (g i : Nat) : Bool := decide (imgPages m ≤ imgSeason m (volSeasonOff m g + i))

/-- Check 9: volumes and seasons. DESIGN CHOICE: a bit of VOLUME_MASK that disagrees with its descriptor and an error in the
descriptor are taken together, volume by volume, before the seasons (log entry 75). -/
def checkVolumes (m : Memory) : Option CheckFail :=
  if (List.range 8).all (fun g => !volValid m g) then some ⟨0x09, 0, 0⟩
  else
    match firstBelow 8 (fun g => bitOf (imgVolMask m) g != volValid m g || volumeBad m g) with
    | some g => some ⟨0x09, sbDetail 0 0 0 g 0, 0⟩
    | none => firstFail 8 (fun g =>
        if volValid m g then
          (firstBelow (volSeasonLen m g) (seasonBad m g)).map (fun i => ⟨0x09, sbDetail 0 0 i g 0, 0⟩)
        else none)

/-- Apply a check to every station of every valid volume. -/
def perPlan (m : Memory) (f : Nat → Nat → Option CheckFail) : Option CheckFail :=
  firstFail 8 (fun g => if volValid m g then firstFail 8 (fun s => f g s) else none)

/-- Check 10: FACET_LEN against STATION_MASK, and the plan's range. -/
def checkPlans (m : Memory) : Option CheckFail :=
  perPlan m (fun g s =>
    let l := volFacetLen m g s
    let ok := if bitOf (imgStnMask m) s then 1 ≤ l ∧ l ≤ 64 ∧ volFacetOff m g s + l ≤ 4096
      else l = 0 ∧ volFacetOff m g s ≤ 4096
    if ok then none else some ⟨0x0A, sbDetail 0 0 0 g s, 0⟩)

/-- Entry `i` of the plan of station `s` in volume `g`: its number in the shared region. -/
def planEntry (m : Memory) (g s i : Nat) : Nat := volFacetOff m g s + i

/-- ADVANCE, FIRST (pair or emitter), TRIM, LS_FIRST and START_BYTE of a facet entry (R50). -/
def entAdvance (m : Memory) (e : Nat) : Nat := facetField m e 0 1
def entFirst (m : Memory) (e : Nat) : Nat := facetField m e 1 1
def entTrim (m : Memory) (e : Nat) : Int := signedOf 16 (facetField m e 2 2)
def entLsFirst (m : Memory) (e : Nat) : Nat := facetField m e 4 2
def entStartByte (m : Memory) (e : Nat) : Nat := facetField m e 6 2

/-- A facet entry breaks R50. -/
def entryBad (m : Memory) (b : Bool) (e : Nat) : Bool :=
  let a := entAdvance m e
  (if b then decide (a < 52) || decide (60 < a) || decide (64 ≤ entFirst m e)
   else decide (a < 26) || decide (30 < a) || decide (64 ≤ entFirst m e)) ||
  decide (entTrim m e < -5242) || decide (5242 < entTrim m e) || decide (facetField m e 8 8 ≠ 0)

/-- Check 11: facet-entry fields. -/
def checkEntries (m : Memory) : Option CheckFail :=
  perPlan m (fun g s => (firstBelow (volFacetLen m g s)
    (fun i => entryBad m (volModeB m g) (planEntry m g s i))).map (fun i => ⟨0x0B, sbDetail 0 0 i g s, 0⟩))

/-- LS_FIRST that entry `i` must hold: the advances before it, modulo LS_LINES (R51). -/
def lsFirstOf (m : Memory) (g s i : Nat) : Nat :=
  ((List.range i).foldl (fun n j => n + entAdvance m (planEntry m g s j)) 0) % (max 1 (volLsLines m g))

/-- Entry `i` of a plan breaks R51. -/
def cycleBad (m : Memory) (g s i : Nat) : Bool :=
  let e := planEntry m g s i
  let a := entAdvance m e
  (if volModeB m g then decide (64 < entFirst m e + a) else decide (32 < entFirst m e % 32 + a)) ||
  decide (entLsFirst m e ≠ lsFirstOf m g s i) || decide (volLsLines m g < 2 * a) ||
  decide (entStartByte m e ≠ if s % 2 = 0 then 0 else volLineBytes m g - 1)

/-- Check 12: the cycle rules of R51. -/
def checkCycles (m : Memory) : Option CheckFail :=
  perPlan m (fun g s => (firstBelow (volFacetLen m g s) (cycleBad m g s)).map (fun i => ⟨0x0C, sbDetail 0 0 i g s, 0⟩))

/-- The thirteen checks of R55 in their order; `storage` is the piece in which the checker read a storage error. -/
def checkImage (m : Memory) (written : Tab Bool) (storage : Option Nat) : Option CheckFail :=
  (checkPieces written).or ((checkMagic m).or ((checkCrc m).or ((checkCostId m).or ((checkCounts m).or
    ((checkReserved m).or ((checkSlots m).or ((checkBudgets m).or ((checkVolumes m).or ((checkPlans m).or
      ((checkEntries m).or ((checkCycles m).or (storage.map (fun p => ⟨0x0F, sbDetail 0 0 p 0 0, 0⟩)))))))))))))

end Sys2Proof.Machine
end

