-- ==== Sys2Proof/Machine/Almanac.lean ====
section
/-!
DEFINITION. ALM: loading and checking the standby bank, first activation, bank switches, grade changes, release, and
the season sequencer (R36 to R70).
-/

namespace Sys2Proof.Machine

/-! ### Results and states -/

/-- ALM_REQ_RESULT takes `v`; every result from 2 to 10 raises REQ_FAILED (R70). -/
def State.almResult (s : State) (v : Nat) : State :=
  let s1 := s.setFld Reg.ALM_REQ_RESULT 3 0 v
  if 2 ≤ v then s1.raiseBit Reg.ALM_EVENTS 4 else s1

/-- The state code of the standby bank (R53). -/
def State.sbState (s : State) : Nat := s.fld Reg.ALM_SB_STATE 2 0

/-- Put the standby bank in a state; CODE reads 0 outside REFUSED (R70). -/
def State.setSb (s : State) (st : Nat) (code : Nat := 0) : State := s.wrN Reg.ALM_SB_STATE (st + code * 256)

/-- The header fields of the standby image, as ALM_SB_* shows them (R37, R69). -/
def State.showStandby (s : State) : State :=
  let m := s.standbyImage
  ((s.wrN Reg.ALM_SB_BUILD_ID (imgBuildId m)).wrN Reg.ALM_SB_ENGINE_ID (imgEngineId m)).wrN Reg.ALM_SB_MASKS (imgMasks m)

/-- A request lapsed or cancelled: its result and Heartwood event 0x0205 (R58). -/
def State.almCancelled (s : State) (v : Nat) : State :=
  ({ s with alm := { s.alm with request := none } }.setFlag Reg.ALM_STATUS 2 false |>.almResult v).event 0x0205 [v]

/-! ### Loading (R52 to R54) -/

/-- The standby bank enters LOADING for a piece that is gathered; a pending switch or activation is cancelled (R54). -/
def State.enterLoading (s : State) : State :=
  let st := s.sbState
  let s1 :=
    if st = 1 then s
    else if st = 2 then { s.setSb 1 with alm := { s.alm with checkAt := none } }
    else { s.setSb 1 with alm := { s.alm with written := [] } }
  if st ≠ 1 ∧ s.alm.request.isSome then s1.almCancelled 7 else s1

/-- Write bytes of the standby image from an image offset up. -/
def State.writeStandby (s : State) (o : Nat) (bs : List Byte) : State :=
  { s with alm := s.alm.setBank s.alm.standby (memWrite s.standbyImage o bs) }

/-- Mark a piece written (R52). -/
def State.markPiece (s : State) (p : Nat) : State :=
  { s with alm := { s.alm with written := tabSet false s.alm.written p true } }

/-- A piece gathered whole: written and marked (R52, R54). -/
def State.loadPiece (s : State) (p : Nat) (bs : List Byte) : State :=
  ((s.enterLoading.writeStandby (p * 4096) bs).markPiece p).showStandby

/-- Bytes `o` to `o + n - 1` of the Almanac window touch these pieces (R52). -/
def piecesTouched (o n : Nat) : List Nat := (List.range 129).filter (fun p => decide (o < (p + 1) * 4096 ∧ p * 4096 < o + n))

/-- A BAR1 write into the Almanac window (R52, R54): in DRAINING each piece it touches is discarded and reported; a
piece is marked when its last byte is written. -/
def State.bar1Almanac (s : State) (o : Nat) (bs : List Byte) : State :=
  let ps := piecesTouched o bs.length
  if s.sbState = 5 then ps.foldl (fun t p => t.fault 0x080 0x03 p) s
  else
    (ps.foldl (fun t p => if o ≤ p * 4096 + 4095 ∧ p * 4096 + 4095 < o + bs.length then t.markPiece p else t)
      (s.enterLoading.writeStandby o bs)).showStandby

/-- ALMANAC_PIECE (R52, R54): the front ALMANAC item is written to the standby bank, or refused. -/
def execAlmanacPiece (s : State) : Host.Outcome State Fault Refusal :=
  match s.frontOf 2 25 1 with
  | none => .next s
  | some it =>
    let s := s.takeItem 2 25
    let p := tagFrag it.tag
    if 128 < p then .next ((s.complete it 4 2).fault 0x080 0x05 p)
    else if s.sbState = 5 then .next ((s.complete it 4 1).fault 0x080 0x03 p)
    else .next ((s.loadPiece p it.data).complete it 0 0)

/-! ### Checking (R55 to R57) -/

/-- CHECK (R55): the checker starts in LOADING; in any other state the result is 9. DESIGN CHOICE: an accepted CHECK clears
ALM_SB_DETAIL and ALM_SB_COST and leaves ALM_REQ_RESULT as it was (log entry 75). -/
def effCheck (s : State) : Host.Outcome State Fault Refusal :=
  if s.sbState = 1 then
    .next { (((s.setSb 2).wrN Reg.ALM_SB_DETAIL 0).wrN Reg.ALM_SB_COST 0) with
      alm := { s.alm with checkAt := some s.tick } }
  else .next (s.almResult 9)

/-- The standby bank is refused with what the checker found (R55, R58). -/
def State.refuseBank (s : State) (f : CheckFail) : State :=
  ((((s.setSb 4 f.code).wrN Reg.ALM_SB_DETAIL f.detail).wrN Reg.ALM_SB_COST f.cost).raise Reg.ALM_EVENTS 3).event
    0x0202 [imgBuildId s.standbyImage, f.code, f.detail, f.cost]

/-- A storage error read in a READY standby refuses it with code 0x0F, though no checker runs (R68, R70). -/
def State.refuseReady (s : State) (piece : Nat) : State :=
  let d := sbDetail 0 0 piece 0 0
  ((((s.setSb 4 0x0F).wrN Reg.ALM_SB_DETAIL d).wrN Reg.ALM_SB_COST 0).raise Reg.ALM_EVENTS 0x22).event
    0x0202 [imgBuildId s.standbyImage, 0x0F, d, 0]

/-- CHECK_DONE (R55, R56): the checker, 2 to 8 ticks after the CHECK, finds the bank READY or REFUSED; the tick that ends
without it after 8 ticks finds it itself. `storage` is the piece in which it read a storage error (check 13); an error read
later in a READY standby refuses it, too (R68). -/
def effCheckDone (storage : Option (Fin 129)) (s : State) : Host.Outcome State Fault Refusal :=
  match s.alm.checkAt with
  | none =>
    match storage with
    | some p => .next (if s.sbState = 3 then s.refuseReady p.val else s)
    | none => .next s
  | some g =>
    if s.sbState ≠ 2 ∨ s.tick < g + 2 ∨ g + 8 < s.tick then .next s
    else
      let s := { s with alm := { s.alm with checkAt := none } }
      let m := s.standbyImage
      match checkImage m s.alm.written (storage.map (·.val)) with
      | some f =>
        .next (if f.code = 0x0F then (s.refuseBank f).raiseBit Reg.ALM_EVENTS 5 else s.refuseBank f)
      | none => .next (((s.setSb 3).raiseBit Reg.ALM_EVENTS 0).event 0x0201 [imgBuildId m, imgEngineId m, imgMasks m])

/-! ### First activation and bank switch (R60, R63, R64) -/

/-- The grade that would run next: that of a change already decided in this tick, the pending grade, or the current one
(R63). -/
def State.nextGrade (s : State) : Nat :=
  match s.alm.next with
  | .volume _ g => g
  | _ => if s.flag Reg.ALM_STATUS 3 then s.fld Reg.ALM_STATUS 10 8 else s.grade

/-- Conditions 1 to 3 of R63 in their order: the result of the first that fails. -/
def State.switchFault (s : State) : Option Nat :=
  if s.sbState ≠ 3 then some 2
  else if imgStnMask s.standbyImage ≠ imgStnMask s.active then some 4
  else if !bitOf (imgVolMask s.standbyImage) s.nextGrade then some 3
  else none

/-- SWITCH (R60, R63): a request for first activation on the holding page, or for a bank switch. One that meets a RELEASE
decided in the same tick is withdrawn with it (R61). -/
def State.requestSwitch (s : State) : State :=
  if s.safe then s.almResult 8
  else if s.alm.request.isSome then s
  else if s.alm.next = .holding then s.event 0x0205 [1]
  else
    let w := s.fld Reg.ALM_SWITCH_WAIT 15 0
    let r : SwitchRequest := ⟨s.tick, if w = 0 then none else some (s.tick + w), s.holding⟩
    match if s.holding then none else s.switchFault with
    | some v => s.almResult v
    | none => { s with alm := { s.alm with request := some r } }.setFlag Reg.ALM_STATUS 2 true

/-- SWITCH (R60, R63). -/
def effSwitch (s : State) : Host.Outcome State Fault Refusal := .next s.requestSwitch

/-- The grade of a first activation (R60, R62): the pending grade where its volume is present, else the slowest. -/
def State.activationGrade (s : State) : Nat :=
  if s.flag Reg.ALM_STATUS 3 ∧ bitOf (imgVolMask s.standbyImage) (s.fld Reg.ALM_STATUS 10 8) then
    s.fld Reg.ALM_STATUS 10 8
  else slowestGrade s.standbyImage

/-- A request has not passed its deadline (R27, R64). -/
def SwitchRequest.inTime (r : SwitchRequest) (n : Nat) : Bool :=
  match r.deadline with
  | none => true
  | some d => decide (n ≤ d)

/-- A first-activation request can be granted in this tick (R60). -/
def State.canActivate (s : State) : Bool :=
  match s.alm.request with
  | some r => r.activation && r.inTime s.tick && s.holding && decide (s.sbState = 3) && s.allDisabled && !s.safe &&
      decide (s.alm.next = .same)
  | none => false

/-- A pending bank switch can be decided in this tick (R63). -/
def State.canSwitch (s : State) : Bool :=
  match s.alm.request with
  | some r => !r.activation && r.inTime s.tick && !s.holding && s.switchFault.isNone && s.lastOfSeason && s.sheetGap &&
      !s.safe && decide (s.alm.next = .same)
  | none => false

/-- Every used station takes a new plan at its first boundary after this tick's emit phase (R31, R62). -/
def State.planAll (s : State) (bank grade mask : Nat) : State :=
  (List.range 8).foldl
    (fun t i => if bitOf mask i then
        { t with alm := { t.alm with plans := tabPut t.alm.plans i ⟨some (bank, grade), t.tick, false⟩ } } else t) s

/-- What a grade change does beside the pages (R58, R62, R127, R158, R159, R309, R356): the events, the settle time and the
governor's bookkeeping. Grade-linked axes read their entry of the grade in force in every compute phase. -/
def State.gradeChanged (s : State) (old new : Nat) : State :=
  let s1 := ((s.setFlag Reg.ALM_STATUS 3 false).raiseBit Reg.ALM_EVENTS 3).event 0x0204 [old, new, s.alm.gradeFrom]
  let s2 := { s1 with ledg := { s1.ledg with gradeAt := s1.tick + 1 }, pace := { s1.pace with
      downAt := if s1.pace.stepDown.isSome ∧ s1.alm.gradeFrom = 1 then s1.tick + 1 else s1.pace.downAt,
      stepDown := none, stepUp := none, upTicks := 0,
      byGovernor := if s1.alm.gradeFrom = 0 then false
        else s1.pace.byGovernor || (decide (s1.alm.gradeFrom = 1) && decide (old < new)) } }
  if s1.alm.gradeFrom = 0 then s2.setFld Reg.LEDG_PACE_STATUS 26 24 new else s2

/-- BANK_SWITCH (R63): the standby bank will run from the next tick, with a pending grade change in the same step. -/
def effBankSwitch (s : State) : Host.Outcome State Fault Refusal :=
  if !s.canSwitch then .next s
  else
    let m := s.standbyImage
    let g := s.nextGrade
    let s1 := { s with alm := { s.alm with request := none, next := .volume s.alm.standby g } }
    let s2 := ((s1.setFlag Reg.ALM_STATUS 2 false).almResult 1).raiseBit Reg.ALM_EVENTS 2
    let s3 := s2.event 0x0203 [imgBuildId s.active, imgBuildId m, g, s.tick]
    let s4 := if s.flag Reg.ALM_STATUS 3 then s3.gradeChanged s.grade g else s3
    .next (s4.planAll s.alm.standby g (imgStnMask m))

/-- SWITCH_LAPSE (R64): in its deadline tick a request that cannot be granted lapses. -/
def effSwitchLapse (s : State) : Host.Outcome State Fault Refusal :=
  match s.alm.request with
  | none => .next s
  | some r =>
    match r.deadline with
    | none => .next s
    | some d =>
      if s.tick < d ∨ s.canActivate ∨ s.canSwitch then .next s
      else .next (s.almCancelled (if r.activation && !s.allDisabled then 5 else 6))

/-- CANCEL (R63): withdraws a pending switch or first activation. -/
def effAlmCancel (s : State) : Host.Outcome State Fault Refusal :=
  if s.alm.request.isSome then .next (s.almCancelled 7) else .next (s.almResult 10)

/-! ### Grades (R62) -/

/-- A request joins the pending grade: the slowest of all requests since the last change (R62). A request for the
current grade, while none is pending, makes none pending. -/
def State.joinGrade (s : State) (g src : Nat) : State :=
  if s.flag Reg.ALM_STATUS 3 then
    if s.fld Reg.ALM_STATUS 10 8 < g then
      { s.setFld Reg.ALM_STATUS 10 8 g with alm := { s.alm with gradeFrom := src } }
    else s
  else if g = s.grade then s
  else { (s.setFlag Reg.ALM_STATUS 3 true).setFld Reg.ALM_STATUS 10 8 g with alm := { s.alm with gradeFrom := src } }

/-- A request of the governor or of the throttle, which joins the pending grade from the next tick on (R158, R28). While the
safe state is in force it is discarded (R66). -/
def State.joinLater (s : State) (g src : Nat) : State :=
  if s.safe then s else { s with alm := { s.alm with joins := s.alm.joins ++ [(g, src)] } }

/-- At the end of a tick its requests join the pending grade. A step-down for the grade that now runs is no longer
outstanding. -/
def State.applyJoins (s : State) : State :=
  let s1 := s.alm.joins.foldl (fun (t : State) j =>
    if t.holding then t
    else if j.2 = 1 ∧ !t.flag Reg.ALM_STATUS 3 ∧ j.1 = t.grade then
      { t with pace := { t.pace with stepDown := none, stepUp := none } }
    else t.joinGrade j.1 j.2) s
  { s1 with alm := { s1.alm with joins := [] } }

/-- A host write of ALM_GRADE_REQ (R62, R66). -/
def State.requestGrade (s : State) (g : Nat) : State :=
  if s.safe then s.almResult 8
  else if s.holding then
    ({ (s.setFlag Reg.ALM_STATUS 3 true).setFld Reg.ALM_STATUS 10 8 g with
      alm := { s.alm with gradeFrom := 0 } }).almResult 1
  else if !bitOf (imgVolMask s.active) g then s.almResult 3
  else (s.joinGrade g 0).almResult 1

/-- GRADE_REQUEST (R62). -/
def effGradeRequest (g : Fin 8) (s : State) : Host.Outcome State Fault Refusal := .next (s.requestGrade g)

/-- A grade change can be decided in this tick (R62, R66): it is pending, the gap is seen, no bank switch falls in the
same tick. -/
def State.canChangeGrade (s : State) : Bool :=
  s.flag Reg.ALM_STATUS 3 && !s.holding && s.sheetGap && !s.safe && !s.canSwitch && decide (s.alm.next = .same)

/-- GRADE_CHANGE (R62): from the next tick the pending grade's volume runs. -/
def effGradeChange (s : State) : Host.Outcome State Fault Refusal :=
  match s.alm.active with
  | some b =>
    if s.canChangeGrade then
      let g := s.nextGrade
      .next (({ s with alm := { s.alm with next := .volume b g } }.gradeChanged s.grade g).planAll b g
        (imgStnMask s.active))
    else .next s
  | none => .next s

/-! ### Release (R61) -/

/-- A RELEASE is decided: the holding page runs from the next tick; a pending switch is withdrawn, and the record of that
carries the 1 that ALM_REQ_RESULT shows (R61). -/
def State.decideRelease (s : State) : State :=
  let s1 := if s.alm.request.isSome then
      ({ s with alm := { s.alm with request := none } }.setFlag Reg.ALM_STATUS 2 false).event 0x0205 [1] else s
  let plans := (List.range 8).foldl (fun p i => tabPut p i (⟨none, s.tick, false⟩ : PlanNext)) s1.alm.plans
  ({ s1 with alm := { s1.alm with releaseWaits := false, next := .holding, plans := plans } }.almResult 1).raiseBit
    Reg.ALM_EVENTS 2

/-- A RELEASE request (R61). -/
def State.requestRelease (s : State) : State :=
  if s.holding then s.almResult 10
  else if !s.allDisabled then s.almResult 5
  else if s.sbState = 5 then { s with alm := { s.alm with releaseWaits := true } }
  else s.decideRelease

/-- RELEASE (R61). -/
def effRelease (s : State) : Host.Outcome State Fault Refusal := .next s.requestRelease

/-- RELEASE_AFTER_DRAIN (R61): a RELEASE that waited is decided once the standby has left DRAINING. DESIGN CHOICE: one that
then finds an axis or a loop enabled ends with result 5 (log entry 75). -/
def effReleaseAfterDrain (s : State) : Host.Outcome State Fault Refusal :=
  if s.alm.releaseWaits ∧ s.sbState ≠ 5 then
    .next (if s.allDisabled then s.decideRelease
      else { s with alm := { s.alm with releaseWaits := false } }.almResult 5)
  else .next s

/-- DRAINING_END (R61, R65): every used station has taken a facet under the new bank, or has its polygon stopped. -/
def effDrainingEnd (s : State) : Host.Outcome State Fault Refusal :=
  if s.sbState = 5 ∧ (List.range 8).all (fun i => !bitOf s.alm.draining i || s.stationStopped i) then
    .next { s.setSb 3 with alm := { s.alm with draining := 0 } }
  else .next s

/-! ### The season sequencer (R47, R61, R63, R68) -/

/-- The pages of grade `g` of physical bank `b` run from the next tick. A former active bank becomes the standby in
DRAINING (R65); at first activation the other bank becomes the standby in EMPTY (R36). -/
def State.runVolume (s : State) (b g : Nat) : State :=
  let was := s.alm.active
  let s1 := { s with alm := { s.alm with active := some b, next := .same } }
  let m := s1.active
  let s2 := (((((s1.wrN Reg.ALM_ACT_BUILD_ID (imgBuildId m)).wrN Reg.ALM_ACT_ENGINE_ID (imgEngineId m)).wrN
    Reg.ALM_ACT_MASKS (imgMasks m)).setFld Reg.ALM_STATUS 1 0 b).setFld Reg.ALM_STATUS 6 4 g).wrN Reg.ALM_SEASON_POS
      (volSeasonLen m g * 65536)
  let s3 := s2.wrN Reg.LEDG_ADMIT_DEPTH (volAdmitDepth m g)
  if was = some b then s3
  else
    let o := 1 - b
    let s4 := { s3 with alm := { s3.alm with standby := o, written := [], badSlots := [], badFacets := [] } }
    if was.isNone then ({ s4 with alm := s4.alm.setBank o [] }.setSb 0).showStandby
    else ({ s4 with alm := { s4.alm with draining := imgStnMask m } }.setSb 5).showStandby

/-- The holding page runs from the next tick (R61): the two banks fare by the standby's state. -/
def State.runHolding (s : State) : State :=
  let b := s.alm.active.getD 0
  let mask := imgStnMask s.active
  let keep := s.sbState = 1 ∨ s.sbState = 2 ∨ s.sbState = 3
  let s1 := ((((s.wrN Reg.ALM_ACT_BUILD_ID 0).wrN Reg.ALM_ACT_ENGINE_ID 0).wrN Reg.ALM_ACT_MASKS 0).setFld
    Reg.ALM_STATUS 1 0 2).setFld Reg.ALM_STATUS 6 4 7
  let s2 := ((s1.wrN Reg.ALM_SEASON_POS 0).wrN Reg.LEDG_ADMIT_DEPTH 0)
  let s3 := { s2 with alm := { s2.alm with active := none, next := .same, badSlots := [], badFacets := [] } }
  if keep then { s3 with alm := s3.alm.setBank b [] }
  else
    ({ s3 with alm := { s3.alm.setBank (1 - b) [] with standby := b, draining := mask } }.setSb 5).showStandby

/-- SEASON_ADVANCE (R47): the index advances, or the pages decided in this tick run next. ALM_PAGE shows the page that
has run; DESIGN CHOICE: 0 for the holding page, as ALM_SEASON_POS then reads (log entry 75). -/
def State.seasonAdvance (s : State) : State :=
  let s1 := if s.holding then s.wrN Reg.ALM_PAGE 0
    else s.wrN Reg.ALM_PAGE (s.pageIndex + imgSlots s.active s.pageIndex % 2048 * 65536)
  match s.alm.next with
  | .volume b g => s1.runVolume b g
  | .holding => s1.runHolding
  | .same =>
    if s.holding then s1
    else s1.setFld Reg.ALM_SEASON_POS 11 0 (if s.lastOfSeason then 0 else s.seasonPos + 1)

/-- A pending bank switch is tested again in every tick: the first of conditions 1 to 3 that fails refuses it (R63). -/
def State.retestSwitch (s : State) : State :=
  match s.alm.request with
  | some r =>
    if r.activation ∨ s.tick ≤ r.gathered then s
    else
      match s.switchFault with
      | some v => { s with alm := { s.alm with request := none } }.setFlag Reg.ALM_STATUS 2 false |>.almResult v
      | none => s
  | none => s

/-- A storage error is reported for a slot of the page that runs (R58, R68, R70). -/
def State.slotReport (s : State) (slot : Nat) (bad : Bool) : State :=
  let p := s.pageIndex
  ((s.raiseBit Reg.ALM_EVENTS 5).fault 0x080 (if bad then 9 else 8) (p + slot % 1024 * 65536)).event 0x0206
    [p, slot, (!bad).toNat]

/-- A storage error read in a slot of the page that runs (R68): `bad` marks an uncorrectable one, whose slot does nothing
from now on. -/
def State.slotError (s : State) (slot : Nat) (bad : Bool) : State :=
  if s.holding then s
  else
    let s1 := s.slotReport slot bad
    if bad then { s1 with alm := { s1.alm with
      badSlots := tabSet false s1.alm.badSlots (s.pageIndex * 1024 + slot) true } } else s1

/-- A tick reads the slots of its page (R68): the slots found bad before are reported again, and `errs` are the errors
found now, as (slot, uncorrectable). -/
def State.readPage (s : State) (errs : List (Nat × Bool)) : State :=
  if s.holding then s
  else
    let known := (s.alm.badSlots.filter (fun b => decide (b.1 / 1024 = s.pageIndex))).map (·.1 % 1024)
    let s1 := known.foldl (fun t n => t.slotReport n true) s
    errs.foldl (fun t e => if known.contains e.1 then t else t.slotError e.1 e.2) s1

/-- Requests pending at the entry to the safe state are cancelled with result 8 (R66). A pending grade, too, is
dropped. DESIGN CHOICE: result 8 for a grade is shown where the pending grade is the host's, so not for a host request that
a slower one of the governor or the throttle has taken the place of (log entry 75). -/
def State.almSafe (s : State) : State :=
  let s0 := { s with alm := { s.alm with joins := [] } }
  let s1 := if s0.alm.request.isSome then s0.almCancelled 8 else s0
  if s.flag Reg.ALM_STATUS 3 then
    let s2 := if s1.alm.gradeFrom = 0 then (s1.almResult 8).event 0x0205 [8] else s1
    { s2.setFlag Reg.ALM_STATUS 3 false with pace := { s2.pace with stepDown := none, stepUp := none } }
  else { s1 with pace := { s1.pace with stepDown := none, stepUp := none } }

end Sys2Proof.Machine
end

