-- ==== Sys2Proof/Machine/LedgerOps.lean ====
section
/-!
DEFINITION. The ledger's own operations: entries, records, the path position, the order of admission, and the outcomes
that several decisions share: withdraw, spoil, jam, progress along the path (R109 to R139).
-/

namespace Sys2Proof.Machine

/-! ### Entries -/

/-- The code of a sheet state (R109). -/
def SheetState.code : SheetState → Nat
  | .announced => 1
  | .admitted => 2
  | .committed => 3
  | .imaged => 4
  | .fused => 5
  | .delivered => 6
  | .spoiled => 7
  | .jammed => 8
  | .purged => 9

/-- The entry of a sheet id, if it is held. -/
def State.sheet (s : State) (id : Nat) : Option Sheet := tabFind s.ledg.sheets id

/-- Store an entry. -/
def State.putSheet (s : State) (sh : Sheet) : State :=
  { s with ledg := { s.ledg with sheets := tabPut s.ledg.sheets sh.id sh } }

/-- The entries held. -/
def State.sheets (s : State) : List Sheet := s.ledg.sheets.map (·.2)

/-- Bands of a sheet at each station: ⌈LINES ÷ 64⌉ (R114). -/
def Sheet.bands (sh : Sheet) : Nat := (sh.lines + 63) / 64

/-- The sheet uses a station. -/
def Sheet.uses (sh : Sheet) (stn : Nat) : Bool := bitOf sh.stations stn

/-- A band is resident (R124). -/
def Sheet.has (sh : Sheet) (stn band : Nat) : Bool := tabGet false sh.resident (stn * 4096 + band)

/-- The lowest band of a station that is not resident (R123). -/
def Sheet.lowestAbsent (sh : Sheet) (stn : Nat) : Nat :=
  ((List.range sh.bands).find? (fun b => !sh.has stn b)).getD sh.bands

/-- The stations a sheet uses, in order. -/
def Sheet.stationList (sh : Sheet) : List Nat := (List.range 8).filter sh.uses

/-- The integer part of the path position, in µm (R112). -/
def State.posUm (s : State) : Int := s.ledg.pos / 2 ^ 24

/-- A distance in µm, in the 2⁻²⁴ µm of P. -/
def um (x : Int) : Int := x * 2 ^ 24

/-- P(n) ≥ X, for X in 2⁻²⁴ µm: an event at X has fallen (R112). -/
def State.fallen (s : State) (x : Int) : Bool := decide (x ≤ s.ledg.pos)

/-- LEDG_STN_OFSs, signed (R151). -/
def State.stnOfs (s : State) (stn : Nat) : Int := signedOf 32 (s.rdN (Reg.LEDG_STN_OFS stn))

/-- start[s] of R128: the position of the first line of station `stn`, in 2⁻²⁴ µm. -/
def State.startOf (s : State) (sh : Sheet) (stn : Nat) : Int := sh.q + um (s.stnOfs stn + sh.leadUm)

/-- A web transport (R128). -/
def State.web (s : State) : Bool := s.flag Reg.LEDG_CFG 0

/-- A jam is uncleared. -/
def State.jammed (s : State) : Bool := s.flag Reg.LEDG_STATUS 10

/-- LEDG_CFG.LEAD_BANDS (R134). -/
def State.leadBands (s : State) : Nat := s.fld Reg.LEDG_CFG 7 4

/-! ### Records (R116) -/

/-- A TYPE 1 record (R116). -/
def State.ledgerRecord (s : State) (ev id st frm cause stn band aux : Nat) : State :=
  s.drawn.queueRecord ⟨mkTag id 0 0 6 0, 0, 1, 0, 0, 0, 0, s.freeNat % 2500, s.tick,
    [BitVec.ofNat 8 ev, BitVec.ofNat 8 st, BitVec.ofNat 8 frm, BitVec.ofNat 8 cause, BitVec.ofNat 8 stn, 0] ++
    leBytes 2 band ++ leBytes 4 aux ++ leBytes 4 0 ++ leBytes 6 (codeOf 48 s.posUm) ++ leBytes 10 0⟩

/-- A sheet changes its state, with the record of the change (R111, R116). -/
def State.moveSheet (s : State) (sh : Sheet) (st : SheetState) (ev : Nat) (cause : Nat := 0) (stn : Nat := 0xFF)
    (band : Nat := 0) (aux : Nat := 0) : State :=
  (s.putSheet { sh with state := st }).ledgerRecord ev sh.id st.code sh.state.code cause stn band aux

/-- A ledger item or a data item is refused (R115, R150). -/
def State.refuseItem (s : State) (it : Item) (detail : Nat) : State :=
  (((s.complete it 4 detail).bump Reg.LEDG_COUNT_REFUSED).raiseBit Reg.LEDG_EVENTS 4).event 0x0306
    [tagSheet it.tag, detail, it.ring]

/-! ### Reports -/

/-- The page holds a READ slot of queue 39, which carries the reports to the ledger (R385). How many cells a report takes the
spec does not say: a slot reads all that are due (log entry 26). -/
def State.reportsRead (s : State) : Bool := decide (0 < s.cellsRead 39)

/-- The first report of a kind that this tick gathers (R25, R385). -/
def State.firstReport (s : State) (k : ReportKind) : Option Report :=
  s.ledg.reports.find? (fun r => decide (r.kind = k) && s.gathers r.stamp && s.reportsRead)

/-- The reports without the first one equal to `r`. -/
def State.dropReport (s : State) (r : Report) : State :=
  { s with ledg := { s.ledg with reports := s.ledg.reports.erase r } }

/-! ### Order of admission (R126) -/

/-- Sheet `a` stands before sheet `b` in the order of admission. -/
def Sheet.before (a b : Sheet) : Bool :=
  match a.reprint, b.reprint with
  | some i, some j => decide (i < j)
  | some _, none => true
  | none, some _ => false
  | none, none => serialBefore a.id b.id

/-- Insert a sheet before the first one that `p` puts after it. -/
def insertSheet (p : Sheet → Sheet → Bool) (x : Sheet) : List Sheet → List Sheet
  | [] => [x]
  | y :: ys => if p x y then x :: y :: ys else y :: insertSheet p x ys

/-- The sheets in a state, in an order. -/
def State.inOrder (s : State) (st : SheetState) (p : Sheet → Sheet → Bool) : List Sheet :=
  (s.sheets.filter (fun x => decide (x.state = st))).foldr (insertSheet p) []

/-- The announced sheets in the order of admission. -/
def State.announcedInOrder (s : State) : List Sheet := s.inOrder .announced Sheet.before

/-- The head (R126). -/
def State.head (s : State) : Option Sheet :=
  (s.sheets.filter (fun x => decide (x.state = .announced))).foldl
    (fun o x => match o with
      | none => some x
      | some y => if x.before y then some x else some y) none

/-! ### Withdraw, spoil, stop -/

/-- Every station that images the sheet is told to stop it; the stop takes effect at its first boundary after this
tick's emit phase (R136, R31). -/
def State.stopSheet (s : State) (id : Nat) : State :=
  { s with scan := s.scan.map (fun x => { x with
      given := x.given.map (fun g => if g.id = id ∧ g.stop = 0 then { g with stop := s.tick + 1 } else g),
      bound := x.bound.map (fun b => if b.id = id ∧ b.stop = 0 then { b with stop := s.tick + 1 } else b) }) }

/-- The ledger gives a sheet to each station that images it, in the emit phase of the admission tick (R254). -/
def State.giveSheet (s : State) (sh : Sheet) : State :=
  sh.stationList.foldl (fun t i => t.modStn i (fun x => { x with
    slots := x.slots.filter (fun l => decide (l.2.sheet ≠ sh.id)),
    given := x.given.filter (fun g => decide (g.id ≠ sh.id)) ++ [⟨sh.id, sh.modeB, sh.lines, sh.firstBand, t.startOf sh i, t.tick, 0⟩] })) s

/-- An ADMITTED sheet returns to ANNOUNCED with a WITHDRAWN record (R111, R135, R139). It stays the last sheet admitted, from
which the next is planned: R128 leaves out only PURGED sheets. -/
def State.withdraw (s : State) (sh : Sheet) (cause : Nat) (stn : Nat := 0xFF) (band : Nat := 0) : State :=
  let s2 := (s.moveSheet { sh with due := [], begun := [] } .announced 0x09 cause stn band).dropLanes sh.id
  (((s2.dropLines sh.id).stopSheet sh.id).raiseBit Reg.LEDG_EVENTS 2).event 0x0304 [sh.id, cause]

/-- A COMMITTED sheet is spoiled (R135 to R137). -/
def State.spoil (s : State) (sh : Sheet) (cause : Nat) (stn : Nat := 0xFF) (band : Nat := 0) : State :=
  let s1 := ((s.moveSheet sh .spoiled 0x06 cause stn band).stopSheet sh.id).dropLanes sh.id
  ((s1.bump Reg.LEDG_COUNT_SPOILED).raiseBit Reg.LEDG_EVENTS 0).event 0x0301 [sh.id, cause, stn, band]

/-- Spoil every COMMITTED sheet that satisfies `p` (R137). -/
def State.spoilAll (s : State) (cause : Nat) (p : Sheet → Bool) (stn : Nat := 0xFF) : State :=
  (s.sheets.filter (fun x => decide (x.state = .committed) && p x)).foldl (fun t x => t.spoil x cause stn) s

/-! ### Jams (R138, R139) -/

/-- A sheet that a jam takes: in the path, and not yet JAMMED (R111). -/
def Sheet.jams (sh : Sheet) : Bool :=
  decide (sh.state = .committed) || decide (sh.state = .imaged) || decide (sh.state = .fused) ||
  (decide (sh.state = .spoiled) && sh.inPath)

/-- The sheet foremost in the path: the least Q among those that a jam takes. -/
def State.foremost (s : State) : Option Nat :=
  ((s.sheets.filter Sheet.jams).foldl
    (fun (o : Option Sheet) x => match o with
      | none => some x
      | some y => if x.q < y.q then some x else some y) none).map (·.id)

/-- A sheet becomes JAMMED (R139). -/
def State.jamSheet (s : State) (sh : Sheet) (cause point : Nat) : State :=
  (((s.moveSheet sh .jammed 0x07 cause 0xFF 0 (s.rdN Reg.LEDG_COUNT_JAM)).stopSheet sh.id).dropLanes sh.id).event
    0x0302 [sh.id, cause, point, s.rdN Reg.LEDG_COUNT_JAM]

/-- Every axis of the path masks is asked to stop along its ramp (R139). -/
def State.stopPath (s : State) : State :=
  let steps := s.rdN Reg.LEDG_PATH_STEP0 + s.fld Reg.LEDG_PATH_STEP1 15 0 * 2 ^ 32
  let axes := s.fld Reg.LEDG_PATH_AXIS 23 0
  let s1 := (List.range 48).foldl (fun t a => if bitOf steps a then t.askStop true a else t) s
  (List.range 24).foldl (fun t a => if bitOf axes a then t.askStop false a else t) s1

/-- The backhitch phase is not IDLE (R167). -/
def State.backhitching (s : State) : Bool := decide (s.fld Reg.LEDG_BH_STATUS 2 0 ≠ 0)

/-- Id and state code of the head, for the records of R173. -/
def State.headOr0 (s : State) : Nat × Nat :=
  match s.head with
  | some h => (h.id, h.state.code)
  | none => (0, 0)

/-- The designated axes (R160): kind (true for a stepper), index and scale. -/
def State.designated (s : State) : List (Bool × Nat × Nat) :=
  (s.flag Reg.LEDG_BH_AXIS0 8, s.fld Reg.LEDG_BH_AXIS0 5 0, s.rdN Reg.LEDG_REF_SCALE) ::
  (if s.flag Reg.LEDG_BH_AXIS1 15 then
    [(s.flag Reg.LEDG_BH_AXIS1 8, s.fld Reg.LEDG_BH_AXIS1 5 0, s.rdN Reg.LEDG_BH_SCALE1)] else [])

/-- P of the tick before, in 2⁻²⁴ µm. -/
def State.posBefore (s : State) : Int := tabGet s.ledg.pos s.ledg.posAt (s.tick - 1)

/-- The path speed now, in 2⁻²⁴ µm per tick. -/
def State.pathSpeed (s : State) : Int := s.ledg.pos - s.posBefore

/-- The ledger takes command of the designated axes at the present path speed (R160, R310). -/
def State.takeAxes (s : State) : State :=
  let s1 := s.designated.foldl (fun t d => t.enterLedger d.1 d.2.1) s
  { s1 with pace := { s1.pace with v := s.pathSpeed } }

/-- The safe state takes the designated axes out of the ledger's command: they ramp as it gives (R172, R435). -/
def State.safePath (s : State) : State := { s with pace := { s.pace with aborting := false, v := 0 } }

/-- A backhitch is aborted (R172): PHASE returns to IDLE and the designated axes ramp to zero along the backhitch ramp, also
those that DRAIN had left under their own profiles, and then enter IDLE (R310). In the safe state they ramp as that gives. -/
def State.abortBackhitch (s : State) (cause : Nat) : State :=
  if s.backhitching then
    let ph := s.fld Reg.LEDG_BH_STATUS 2 0
    let h := s.headOr0
    let s := if s.safe then s.safePath else if ph = 1 then s.takeAxes else s
    let s1 := ((s.setFld Reg.LEDG_BH_STATUS 2 0 0).setFld Reg.LEDG_BH_STATUS 15 8 cause).raiseBit Reg.LEDG_PACE_EVENTS 6
    let s2 := (s1.ledgerRecord 0x14 h.1 h.2 h.2 cause 0 0 ph).event 0x030C [cause, ph, s.rdN Reg.LEDG_BH_REV_PLAN]
    let s3 := { s2 with pace := { s2.pace with aborting := decide (s2.pace.v ≠ 0) } }.pathNotice 3 0
    if s2.pace.v = 0 then s3.designated.foldl (fun t d => t.idleLedger d.1 d.2.1) s3 else s3
  else s

/-- A jam (R139): the sheet concerned, if one is, takes the jam's cause; every other sheet in the path JAM_FOLLOW, or the
same cause for a safe-state jam; ADMITTED sheets are withdrawn. -/
def State.jam (s : State) (concerned : Option Nat) (cause point : Nat) : State :=
  let s0 := (s.bump Reg.LEDG_COUNT_JAM).setFlag Reg.LEDG_STATUS 10 true
  let s1 := (s0.sheets.filter Sheet.jams).foldl
    (fun t x => t.jamSheet x (if cause = 0x14 || concerned = some x.id then cause else 0x15) point) s0
  let s2 := (s1.sheets.filter (fun x => decide (x.state = .admitted))).foldl (fun t x => t.withdraw x cause) s1
  ((s2.stopPath.abortBackhitch cause).raiseBit Reg.LEDG_EVENTS 1).legJam

/-- A fault of an axis in the path masks, or of a designated axis in a backhitch, is a jam with CAUSE PATH_AXIS
(R138, R172). -/
def State.axisFaultJam (s : State) (stepper : Bool) (a : Nat) : State :=
  let inMask := if stepper then
      (if a < 32 then bitOf (s.rdN Reg.LEDG_PATH_STEP0) a else bitOf (s.fld Reg.LEDG_PATH_STEP1 15 0) (a - 32))
    else bitOf (s.fld Reg.LEDG_PATH_AXIS 23 0) a
  let names (r : Nat) : Bool := decide (s.fld r 5 0 = a) && (s.flag r 8 == stepper)
  let designated := s.backhitching && (names Reg.LEDG_BH_AXIS0 || (s.flag Reg.LEDG_BH_AXIS1 15 && names Reg.LEDG_BH_AXIS1))
  if inMask || designated then s.jam s.foremost 0x13 0 else s

/-! ### Progress along the path (R131 to R133) -/

/-- The target of a point, in 2⁻²⁴ µm: lead or trail (R131). -/
def State.target (s : State) (sh : Sheet) (point : Nat) (trail : Bool) : Int :=
  sh.q + um (s.fld (Reg.LEDG_SENSOR_DIST point) 23 0 + (if trail then (sh.lengthUm : Int) else 0))

/-- A target has been met. -/
def Sheet.hasMet (sh : Sheet) (point : Nat) (trail : Bool) : Bool := tabGet false sh.met (point * 2 + trail.toNat)

/-- A target is still pending: not met, and its window has not closed without an edge (R131, R132). -/
def Sheet.awaits (sh : Sheet) (point : Nat) (trail : Bool) : Bool :=
  sh.inPath && !sh.hasMet point trail && !tabGet false sh.closed (point * 2 + trail.toNat)

/-- IMAGED, FUSED and DELIVERED follow one another as far as the last lines reported and the targets met allow; a SPOILED
sheet that has met the last trail target runs out (R133). -/
def State.progress (s : State) (id : Nat) : State :=
  let s1 : State := match s.sheet id with
    | some x => if x.state = .committed ∧ x.lastLine &&& x.stations = x.stations then s.moveSheet x .imaged 0x03 else s
    | none => s
  let s2 : State := match s1.sheet id with
    | some x => if x.state = .imaged ∧ x.hasMet 2 true then s1.moveSheet x .fused 0x04 else s1
    | none => s1
  match s2.sheet id with
  | some x =>
    if x.state = .fused ∧ x.hasMet 3 true then
      ((s2.moveSheet { x with inPath := false, endedAt := s2.tick } .delivered 0x05).bump Reg.LEDG_COUNT_DELIVERED).raiseBit
        Reg.LEDG_EVENTS 5
    else if x.state = .spoiled ∧ x.inPath ∧ x.hasMet 3 true then
      (s2.putSheet { x with inPath := false }).ledgerRecord 0x0F x.id 7 7 0 0xFF 0 0
    else s2
  | none => s2

/-- A target is met (R132). What follows of it for the sheet's state is decided after the jams, the items and the
admission of the tick (R133, R144). -/
def State.meetTarget (s : State) (sh : Sheet) (point : Nat) (trail : Bool) : State :=
  s.putSheet { sh with met := tabSet false sh.met (point * 2 + trail.toNat) true }

end Sys2Proof.Machine
end

