-- ==== Sys2Proof/Machine/Pacing.lean ====
section
/-!
DEFINITION. The pacing governor and the web backhitch (R153 to R174).
-/

namespace Sys2Proof.Machine

/-! ### The forecast (R153, R154) -/

/-- The used stations (R153). -/
def State.usedStations (s : State) : List Nat := (List.range 8).filter (fun i => bitOf (imgStnMask s.active) i)

/-- Whether each band that station `stn` will image of a sheet is resident, from band `b` on. -/
def Sheet.ahead (sh : Sheet) (stn b : Nat) : List Bool :=
  if sh.uses stn then (List.range (sh.bands - b)).map (fun i => sh.has stn (b + i)) else []

/-- RES_s: consecutive resident bands ahead (R153). The remaining bands of a COMMITTED sheet begin at the band now being
imaged; a station that has reported its last line has none left. -/
def State.resOf (s : State) (stn : Nat) : Nat :=
  let byQ (a b : Sheet) : Bool := decide (a.q ≤ b.q)
  let com := ((s.inOrder .committed byQ).filter (fun x => !bitOf x.lastLine stn)).flatMap
    (fun x => x.ahead stn (max x.firstBand (tabGet 0 x.begun stn - 1)))
  let adm := (s.inOrder .admitted byQ).flatMap (fun x => x.ahead stn x.firstBand)
  let ann := s.announcedInOrder.flatMap (fun x => x.ahead stn x.firstBand)
  min 65535 ((com ++ adm ++ ann).takeWhile id).length

/-- The exponential average of R153: x + (((k × 65,536) − x) >> W). -/
def paceAverage (x k w : Nat) : Nat := codeOf 32 (x + asr ((k : Int) * 65536 - x) w)

/-- The forecast margin of a station (R154). -/
def State.marginOf (s : State) (stn : Nat) : Int :=
  let drift := ((s.rdN (Reg.LEDG_PACE_STN_ARR stn) : Int) - s.rdN (Reg.LEDG_PACE_STN_CON stn)) *
    s.fld Reg.LEDG_PACE_HORIZON 15 0
  clampInt (-32767) 32767 (s.fld (Reg.LEDG_PACE_STN_RES stn) 15 0 + asr drift 16)

/-- The governor is at work: a bank is active, EN is set and the settings passed their check (R154, R155). -/
def State.pacing (s : State) : Bool := !s.holding && s.flag Reg.LEDG_PACE_CFG 0 && !s.flag Reg.LEDG_PACE_STATUS 31

/-- M and the station that gives it (R154). -/
def State.worst (s : State) : Int × Nat :=
  if s.pacing then
    s.usedStations.foldl (fun m i => if s.marginOf i < m.1 then (s.marginOf i, i) else m) (32767, 0)
  else (32767, 0)

/-- M as LEDG_PACE_STATUS shows it (R154). -/
def State.margin (s : State) : Int := signedOf 16 (s.fld Reg.LEDG_PACE_STATUS 15 0)

/-- T1, T2 and UP, signed bands (R155). -/
def State.t1 (s : State) : Int := signedOf 16 (s.fld Reg.LEDG_PACE_THR0 15 0)
def State.t2 (s : State) : Int := signedOf 16 (s.fld Reg.LEDG_PACE_THR0 31 16)
def State.tUp (s : State) : Int := signedOf 16 (s.fld Reg.LEDG_PACE_THR1 15 0)

/-- The gap extension of R157, from M. -/
def State.extension (s : State) : Nat :=
  if s.pacing && !s.web && decide (s.margin < s.t1) then
    min (s.fld Reg.LEDG_PACE_EXT_MAX 23 0) ((s.t1 - s.margin).toNat * s.fld Reg.LEDG_PACE_EXT 15 0)
  else 0

/-- The governor's stage (R156): the highest that applies. -/
def State.stageNow (s : State) : Nat :=
  if !s.pacing then 0
  else if s.pace.byGovernor && decide (s.fld Reg.LEDG_PACE_STATUS 26 24 < s.grade) then 3
  else if s.pace.stepDown.isSome then 2
  else if decide (s.margin < s.t1) && !s.web then 1
  else 0

/-- The forecast of one station: RES, ARR and CON from this tick's gather (R153). -/
def State.forecastStation (s : State) (stn : Nat) : State :=
  let w := s.fld Reg.LEDG_PACE_CFG 11 8
  ((s.wrN (Reg.LEDG_PACE_STN_RES stn) (s.resOf stn)).wrN (Reg.LEDG_PACE_STN_ARR stn)
    (paceAverage (s.rdN (Reg.LEDG_PACE_STN_ARR stn)) (tabGet 0 s.pace.arrived stn) w)).wrN (Reg.LEDG_PACE_STN_CON stn)
    (paceAverage (s.rdN (Reg.LEDG_PACE_STN_CON stn)) (tabGet 0 s.pace.begun stn) w)

/-- The stage of this tick, with the records of a change (R156, R173, R174). -/
def State.paceStage (s : State) : State :=
  let st := s.stageNow
  if st = s.fld Reg.LEDG_PACE_STATUS 21 20 then s
  else
    let m := s.fld Reg.LEDG_PACE_STATUS 15 0
    let h := s.headOr0
    let s4 := (s.setFld Reg.LEDG_PACE_STATUS 21 20 st).ledgerRecord 0x10 h.1 h.2 h.2 0 0 0 (st + m * 65536)
    let s5 := s4.event 0x0308 [st, m, s.fld Reg.LEDG_PACE_STATUS 18 16, s4.grade]
    if st = 1 then s5.raiseBit Reg.LEDG_PACE_EVENTS 0 else s5

/-- PACING_FORECAST (R153, R154, R157), once in a tick: the quantities of every used station, M and the extension. -/
def State.forecast (s : State) : State :=
  if s.pace.forecastAt = s.tick + 1 then s
  else
    let s0 := s.usedStations.foldl State.forecastStation s
    let s1 := { s0 with pace := { s0.pace with arrived := [], begun := [], forecastAt := s0.tick + 1 } }
    let m := s1.worst
    let s2 := (s1.setFld Reg.LEDG_PACE_STATUS 15 0 (codeOf 16 m.1)).setFld Reg.LEDG_PACE_STATUS 18 16 m.2
    let up := if decide (s2.tUp ≤ m.1) && decide (s2.ledg.gradeAt ≠ s2.tick + 1) then s2.pace.upTicks + 1 else 0
    { s2 with pace := { s2.pace with upTicks := up,
                                     floored := s2.pace.floored && decide (m.1 < s2.t1) } }.wrN
      Reg.LEDG_PACE_EXT_NOW s2.extension

/-! ### Grade steps (R158, R159) -/

/-- The records of a governor request (R173, R174). -/
def State.paceGrade (s : State) (g : Nat) (up : Bool) : State :=
  let h := s.headOr0
  (s.ledgerRecord 0x11 h.1 h.2 h.2 0 0 0 (s.grade + g * 256 + up.toNat * 65536)).event 0x0309
    [s.grade, g, codeOf 16 s.margin]

/-- Steps are allowed: on a cut-sheet path, or on a web with WEB_STEP (R156, R176). -/
def State.stepsAllowed (s : State) : Bool := s.pacing && (!s.web || s.flag Reg.LEDG_PACE_CFG 1)

/-- GOVERNOR_STEP_DOWN (R158): the next slower present grade is requested when M < T2. In the safe state the request is
discarded (R66): none is outstanding. -/
def State.governorStepDown (s : State) : State :=
  let rearm := decide (s.pace.downAt = 0) || decide (s.pace.downAt - 1 + s.fld Reg.LEDG_PACE_REARM 15 0 ≤ s.tick)
  if s.stepsAllowed && decide (s.margin < s.t2) && s.pace.stepDown.isNone && rearm && !s.pace.floored then
    match (gradesOf s.active).find? (fun g => decide (s.grade < g)) with
    | none => { s with pace := { s.pace with floored := true } }.raiseBit Reg.LEDG_PACE_EVENTS 3
    | some g =>
      let s1 := ({ s with pace := { s.pace with stepDown := if s.safe then none else some g } }.joinLater g 1).bump
        Reg.LEDG_PACE_COUNT_DOWN
      (s1.raiseBit Reg.LEDG_PACE_EVENTS 1).paceGrade g false
  else s

/-- The next faster present grade that is not faster than BASE_GRADE (R159). -/
def State.fasterGrade (s : State) : Option Nat :=
  ((gradesOf s.active).filter (fun g => decide (g < s.grade ∧ s.fld Reg.LEDG_PACE_STATUS 26 24 ≤ g))).getLast?

/-- GOVERNOR_STEP_UP (R159). -/
def effGovernorStepUp (s : State) : Host.Outcome State Fault Refusal :=
  if s.stepsAllowed && !s.flag Reg.ALM_STATUS 3 && !s.alm.joins.any (fun j => decide (j.2 = 1)) && !s.throttled &&
      decide (s.fld Reg.LEDG_PACE_HOLDOFF 23 0 ≤ s.pace.upTicks) && decide (s.tUp ≤ s.margin) then
    match s.fasterGrade with
    | none => .next s
    | some g =>
      .next ((({ s with pace := { s.pace with stepUp := some g } }.joinLater g 1).raiseBit Reg.LEDG_PACE_EVENTS 2).paceGrade
        g true)
  else .next s

/-! ### Planning (R128, R163) -/

/-- E of R128 for a sheet: the least of LEDG_STN_OFSs + LEAD_UM over its stations and, on a cut-sheet path, 0. -/
def State.eOf (s : State) (sh : Sheet) : Int :=
  let ofs := sh.stationList.map (fun i => s.stnOfs i + sh.leadUm)
  match ofs with
  | [] => 0
  | x :: xs => xs.foldl min (if s.web then x else min 0 x)

/-- E_h of R163: for the head, or for no head the least LEDG_STN_OFSs over STATION_MASK. -/
def State.eHead (s : State) : Int :=
  match s.head with
  | some h =>
    (match h.stationList.map (fun i => s.stnOfs i + (h.leadUm : Int)) with
      | [] => 0
      | x :: xs => xs.foldl min x)
  | none =>
    (match s.usedStations.map s.stnOfs with
      | [] => 0
      | x :: xs => xs.foldl min x)

/-- q_pitch of R128 in 2⁻²⁴ µm, where a sheet has been admitted since reset or the last jam clear. -/
def State.qPitch (s : State) : Option Int :=
  s.ledg.admitted.head?.map (fun a => a.2.1 + um (a.2.2 + s.fld Reg.LEDG_GAP_UM 23 0 + s.extension))

/-- LEDG_ADMIT_MARGIN (R128). -/
def State.admitMargin (s : State) : Int := s.fld Reg.LEDG_ADMIT_MARGIN 23 0

/-- P has reached the latest admission point of the next admission (R163). -/
def State.admissionPast (s : State) : Bool :=
  match s.qPitch with
  | some q => s.fallen (q + um (s.eHead - s.admitMargin))
  | none => false

/-- The latest admission tick of R163 is the present one: P has reached the point, and had not when the last tick was
decided. -/
def State.latestAdmission (s : State) : Bool := s.admissionPast && !s.pace.past

/-! ### The head's reason (R127, R152) -/

/-- A bank switch or grade change is decided in this tick. It still holds admission in this tick (R28, R143). -/
def State.volumeDecided (s : State) : Bool :=
  !s.holding && (match s.alm.next with
    | .volume _ _ => true
    | _ => false)

/-- A switch or grade change is pending, or the settle time of the last grade change runs (R127). -/
def State.changePending (s : State) : Bool :=
  s.flag Reg.ALM_STATUS 2 || s.flag Reg.ALM_STATUS 3 || s.volumeDecided ||
  (decide (s.ledg.gradeAt ≠ 0) && decide (s.tick < s.ledg.gradeAt - 1 + s.fld Reg.LEDG_SETTLE 15 0))

/-- The admission depth of R127 is resident at every used station. -/
def State.depthMet (s : State) (h : Sheet) : Bool :=
  h.stationList.all (fun i => (List.range (min (s.fld Reg.LEDG_ADMIT_DEPTH 7 0) (h.bands - h.firstBand))).all
    (fun b => h.has i (h.firstBand + b)))

/-- The HEAD_REASON of a head: the first condition of R127 that fails, or none. LOCK clear shows as the holding page
does (log entry 16). -/
def State.waitReason (s : State) (h : Sheet) : Option Nat :=
  if s.holding || !s.locked then some 4
  else if s.rd Reg.LEDG_REF_SCALE = 0 then some 8
  else if s.jammed then some 5
  else if s.safe then some 6
  else if s.changePending then some 7
  else if s.backhitching || decide (s.pace.endedAt = s.tick + 1) then some 9
  else if h.stations &&& imgStnMask s.active ≠ h.stations then some 2
  else if h.modeB != s.modeB then some 3
  else if !s.depthMet h then some 1
  else none

/-- The fields of LEDG_STATUS and LEDG_HEAD_ID that follow the head (R152). -/
def State.showHead (s : State) : State :=
  let hold := s.changePending || s.backhitching
  match s.head with
  | none => ((s.setFld Reg.LEDG_STATUS 19 16 0).setFlag Reg.LEDG_STATUS 12 hold)
  | some h =>
    ((s.setFld Reg.LEDG_STATUS 19 16 ((s.waitReason h).getD 0)).setFlag Reg.LEDG_STATUS 12 hold).wrN Reg.LEDG_HEAD_ID h.id

/-! ### Backhitch: distances (R162, R166, R168) -/

/-- The settings in 2⁻²⁴ µm per tick and per tick² (R162). -/
def State.bhKnee (s : State) : Nat := s.rdN Reg.LEDG_BH_KNEE * 256
def State.bhVrev (s : State) : Nat := s.rdN Reg.LEDG_BH_VREV * 256
def State.bhAccHi (s : State) : Nat := s.rdN Reg.LEDG_BH_ACC_HI
def State.bhAccLo (s : State) : Nat := s.rdN Reg.LEDG_BH_ACC_LO

/-- ramp_dist of R162, in 2⁻²⁴ µm, from a speed in 2⁻²⁴ µm per tick. -/
def State.rampDist (s : State) (v : Nat) : Nat :=
  let k := s.bhKnee
  if v ≤ k then v * v / (2 * s.bhAccLo) else k * k / (2 * s.bhAccLo) + (v * v - k * k) / (2 * s.bhAccHi)

/-- The grade speed in 2⁻²⁴ µm per tick: the process speed × 25 µs (R12, R162). -/
def gradeSpeed (g : Nat) : Nat := (if g = 0 then 40 else if g = 7 then 5 else 40 - 5 * g) * 2 ^ 24

/-- The point LEDG_BH_MARGIN before the latest admission point, in 2⁻²⁴ µm (R168). -/
def State.rejoin (s : State) : Int :=
  s.qPitch.getD 0 + um (s.eHead - s.admitMargin - s.fld Reg.LEDG_BH_MARGIN 23 0)

/-- P_low of R168, in 2⁻²⁴ µm. -/
def State.pLow (s : State) : Int := s.rejoin - s.rampDist (gradeSpeed s.grade)

/-- P_f of R166, in 2⁻²⁴ µm: where the last COMMITTED sheet ends at its last station; the present position where none is. -/
def State.pEnd (s : State) : Int :=
  ((s.sheets.filter (fun x => decide (x.state = .committed))).flatMap
    (fun x => x.stationList.map (fun i => s.startOf x i + um x.lengthUm))).foldl max s.ledg.pos

/-- The predicted reverse distance of R166, in µm. -/
def State.predictedR (s : State) : Int :=
  let ramp : Int := s.rampDist s.pathSpeed.toNat
  (s.pEnd + ramp - (s.rejoin - ramp)) / 2 ^ 24

/-- A condition of R164 for a backhitch holds, with the HEAD_REASON seen. -/
def State.bhReason (s : State) : Option Nat :=
  match s.head with
  | none => if s.flag Reg.LEDG_BH_CFG 1 then some 0 else none
  | some h =>
    match s.waitReason h with
    | some 1 => some 1
    | some 7 => some 7
    | none => if decide (s.margin < s.t2) && s.flag Reg.LEDG_BH_CFG 2 then some 0x10 else none
    | _ => none

/-- In this tick a backhitch is to be decided instead of an admission (R164). -/
def State.bhWanted (s : State) : Bool :=
  s.web && s.flag Reg.LEDG_BH_CFG 0 && !s.holding && !s.backhitching && !s.jammed && !s.safe &&
  decide (s.pace.refusedAt ≠ s.tick + 1) && s.latestAdmission && s.bhReason.isSome

/-! ### Backhitch: phases (R167 to R172) -/

/-- PHASE takes `p` (R167), with a notice to the sheet-path firmware (R171). -/
def State.bhPhase (s : State) (p : Nat) : State :=
  ({ s.setFld Reg.LEDG_BH_STATUS 2 0 p with pace := { s.pace with phaseAt := s.tick } }).pathNotice 3 p

/-- The phase shown (R167). -/
def State.phase (s : State) : Nat := s.fld Reg.LEDG_BH_STATUS 2 0

/-- A backhitch is refused (R166, R173): LAST_CAUSE, the record and the event. -/
def State.bhRefuse (s : State) (last aux : Nat) : State :=
  let h := s.headOr0
  let s1 := ((s.setFld Reg.LEDG_BH_STATUS 15 8 last).raiseBit Reg.LEDG_PACE_EVENTS 6).ledgerRecord 0x15 h.1 h.2 h.2 0 0 0 aux
  { s1 with pace := { s1.pace with refusedAt := s1.tick + 1 } }.event 0x030C [last, 0, aux]

/-- BACKHITCH_DECIDED (R164 to R167). -/
def effBackhitchDecided (s : State) : Host.Outcome State Fault Refusal :=
  if !s.bhWanted then .next s
  else if s.flag Reg.LEDG_BH_STATUS 7 then .next (s.bhRefuse 0xFF 0xFFFFFFFF)
  else
    let r := s.predictedR
    let s1 := s.setFld Reg.LEDG_BH_REV_PLAN 23 0 r.toNat
    if (s.fld Reg.LEDG_BH_REV_MAX 23 0 : Int) < r then .next (s1.bhRefuse 0xFE (codeOf 32 r))
    else
      let h := s.headOr0
      let s2 := (s1.setFld Reg.LEDG_BH_STATUS 19 16 0).bhPhase 1
      let s3 := { s2 with pace := { s2.pace with decidedAt := s2.tick, parkLong := false } }
      .next (((s3.raiseBit Reg.LEDG_PACE_EVENTS 4).ledgerRecord 0x12 h.1 h.2 h.2 0 0 0 (codeOf 32 r)).event 0x030A
        [h.1, s.bhReason.getD 0, codeOf 32 r, codeOf 48 s.posUm])

/-- The phase shown was entered in an earlier tick: one phase follows another in a later tick (R28). -/
def State.phaseStood (s : State) : Bool := decide (s.pace.phaseAt < s.tick)

/-- BH_DECEL (R167, R310): in DRAIN, once the sheet-gap indication is true, the designated axes enter LEDGER mode and the
web starts its ramp. -/
def effBhDecel (s : State) : Host.Outcome State Fault Refusal :=
  if s.phase = 1 ∧ s.phaseStood ∧ s.sheetGap then
    .next (s.takeAxes.bhPhase 2)
  else .next s

/-- BH_STOP (R167): standstill ends DECEL. -/
def effBhStop (s : State) : Host.Outcome State Fault Refusal :=
  if s.phase = 2 ∧ s.phaseStood ∧ s.pace.v = 0 then .next (s.bhPhase 3) else .next s

/-- Entry to REVERSE (R167, R168): the target is taken from the current head, grade and q_pitch. -/
def State.bhReverse (s : State) : State :=
  let p := s.pLow
  let s1 := (s.wrN Reg.LEDG_BH_TARGET (codeOf 32 (p / 2 ^ 24))).setFld Reg.LEDG_BH_STATUS 19 16
    (min 15 (s.fld Reg.LEDG_BH_STATUS 19 16 + 1))
  { s1 with pace := { s1.pace with low := p } }.bhPhase 4

/-- The dwell of R167 and R169 has passed. -/
def State.bhDwelt (s : State) : Bool := decide (s.pace.phaseAt + s.fld Reg.LEDG_BH_DWELL 15 0 ≤ s.tick)

/-- BH_REVERSE (R167). -/
def effBhReverse (s : State) : Host.Outcome State Fault Refusal :=
  if s.phase = 3 ∧ s.phaseStood ∧ s.bhDwelt then .next s.bhReverse else .next s

/-- BH_PARK (R167): standstill at P_low ends REVERSE. -/
def effBhPark (s : State) : Host.Outcome State Fault Refusal :=
  if s.phase = 4 ∧ s.phaseStood ∧ s.pace.v = 0 then
    .next ({ s with pace := { s.pace with parkLong := false } }.bhPhase 5)
  else .next s

/-- The conditions of R169 but the last: the dwell, an admissible head, and M. -/
def State.bhLeave (s : State) : Bool :=
  s.bhDwelt && (match s.head with
    | some h => (s.waitReason h).all (fun r => decide (r = 9)) &&
        (s.waitReason h).isSome && decide (h.stations &&& imgStnMask s.active = h.stations) &&
        (h.modeB == s.modeB) && s.depthMet h
    | none => false) && (decide (s.t1 ≤ s.margin) || !s.flag Reg.LEDG_BH_CFG 2)

/-- BH_ACCEL (R169): PARK leaves for ACCEL when P ≤ P_low as computed now. The grade speed is taken here: a grade change
decided during ACCEL acts on the web after the backhitch (R170). -/
def effBhAccel (s : State) : Host.Outcome State Fault Refusal :=
  if s.phase = 5 ∧ s.phaseStood ∧ s.bhLeave ∧ s.ledg.pos ≤ s.pLow then
    .next ({ s with pace := { s.pace with goal := gradeSpeed s.grade } }.bhPhase 6)
  else .next s

/-- BH_REVERSE_AGAIN (R169): all but the last condition hold, and the web reverses to the new P_low. -/
def effBhReverseAgain (s : State) : Host.Outcome State Fault Refusal :=
  if s.phase = 5 ∧ s.phaseStood ∧ s.bhLeave ∧ s.pLow < s.ledg.pos then .next s.bhReverse else .next s

/-- BH_END (R167, R171, R310): at grade speed ACCEL ends the backhitch and the axes go back to their own profile. -/
def effBhEnd (s : State) : Host.Outcome State Fault Refusal :=
  if s.phase = 6 ∧ s.phaseStood ∧ s.pace.v = s.pace.goal then
    let h := s.headOr0
    let n := s.tick - s.pace.decidedAt
    let s1 := s.designated.foldl (fun t d => t.leaveLedger d.1 d.2.1) s
    let s1 := { s1 with pace := { s1.pace with endedAt := s.tick + 1 } }
    let s2 := ((s1.bhPhase 0).bump Reg.LEDG_BH_COUNT).raiseBit Reg.LEDG_PACE_EVENTS 5
    .next ((s2.ledgerRecord 0x13 h.1 h.2 h.2 0 0 0 n).event 0x030B [n, s.fld Reg.LEDG_BH_STATUS 19 16, s.grade])
  else .next s

/-- ABANDON (R172): in PARK the backhitch ends with the web at rest; the next admission plans from q_now. -/
def effAbandon (s : State) : Host.Outcome State Fault Refusal :=
  if s.phase = 5 ∧ s.phaseStood then
    let s1 := s.abortBackhitch 0
    .next { s1 with ledg := { s1.ledg with admitted := [] } }
  else .next s

/-- PARK_LONG (R169): raised once after LEDG_BH_PARK_WARN ticks in PARK. -/
def effParkLong (s : State) : Host.Outcome State Fault Refusal :=
  if s.phase = 5 ∧ !s.pace.parkLong ∧ s.pace.phaseAt + s.fld Reg.LEDG_BH_PARK_WARN 23 0 ≤ s.tick then
    .next ({ s with pace := { s.pace with parkLong := true } }.raiseBit Reg.LEDG_PACE_EVENTS 7)
  else .next s

/-- One tick of slowing along the backhitch ramp: ACC_HI above KNEE, ACC_LO below (R162). -/
def State.bhSlow (s : State) (v : Nat) : Nat := v - (if s.bhKnee < v then s.bhAccHi else s.bhAccLo)

/-- The speed of REVERSE in the next tick, where `d` is the way left and `v` the present speed: up to VREV with ACC_LO,
as long as the ramp down still ends at P_low; the last move takes what is left (R167). -/
def State.bhBack (s : State) (d v : Nat) : Nat :=
  let a := s.bhAccLo
  let up := min s.bhVrev (v + a)
  if up + up * up / (2 * a) ≤ d then up
  else if v + v * v / (2 * a) ≤ d then v
  else min d (max (v - a) (min a d))

/-- The path speed that the ledger commands in this tick's compute phase (R160, R167, R172). -/
def State.bhSpeed (s : State) : Int :=
  if s.pace.aborting then (if 0 ≤ s.pace.v then (s.bhSlow s.pace.v.toNat : Int) else -(s.bhSlow (-s.pace.v).toNat : Int))
  else if s.phase = 2 then s.bhSlow s.pace.v.toNat
  else if s.phase = 4 then
    (if s.pace.low < s.ledg.pos then -(s.bhBack (s.ledg.pos - s.pace.low).toNat (-s.pace.v).toNat : Int) else 0)
  else if s.phase = 6 then
    min (s.pace.goal : Int) (s.pace.v + (if (s.bhKnee : Int) ≤ s.pace.v then s.bhAccHi else s.bhAccLo))
  else 0

/-- The backhitch's motion of one tick: the speed, handed to both designated axes in their units (R160, R310). An abort's
ramp ends with the axes in IDLE at rest (R172). -/
def State.bhMotion (s : State) : State :=
  if s.phase = 2 ∨ s.phase = 3 ∨ s.phase = 4 ∨ s.phase = 5 ∨ s.phase = 6 ∨ s.pace.aborting then
    let v := s.bhSpeed
    let s1 := { s with pace := { s.pace with v := v, aborting := s.pace.aborting && decide (v ≠ 0) } }
    if s.pace.aborting ∧ v = 0 then s1.designated.foldl (fun t d => t.idleLedger d.1 d.2.1) s1
    else s1.designated.foldl (fun t d => t.ledgerSpeed d.1 d.2.1 (v * 2 ^ 24 / (max 1 d.2.2 : Nat))) s1
  else s

/-! ### Checks at first activation (R155, R161) -/

/-- PACE_CONFIG_CHECK (R155): UP > T1 > T2 and AVG_SHIFT from 4 to 15. -/
def State.paceConfigCheck (s : State) : State :=
  let w := s.fld Reg.LEDG_PACE_CFG 11 8
  let ok := decide (s.t1 < s.tUp) && decide (s.t2 < s.t1) && decide (4 ≤ w)
  let s1 := s.setFlag Reg.LEDG_PACE_STATUS 31 (!ok)
  if ok then s1 else s1.raiseBit Reg.LEDG_PACE_EVENTS 8

/-- BH_CONFIG_CHECK (R161). -/
def State.bhConfigCheck (s : State) : State :=
  let ok := s.web && decide (s.rd Reg.LEDG_BH_AXIS0 = s.rd Reg.LEDG_REF_AXIS) && decide (s.rd Reg.LEDG_BH_KNEE ≠ 0) &&
    decide (s.rd Reg.LEDG_BH_ACC_HI ≠ 0) && decide (s.rd Reg.LEDG_BH_ACC_LO ≠ 0) && decide (s.rd Reg.LEDG_BH_VREV ≠ 0) &&
    decide (s.rdN Reg.LEDG_BH_VREV ≤ s.rdN Reg.LEDG_BH_KNEE) &&
    (!s.flag Reg.LEDG_BH_AXIS1 15 || decide (s.rd Reg.LEDG_BH_SCALE1 ≠ 0))
  let bad := s.flag Reg.LEDG_BH_CFG 0 && !ok
  let s1 := s.setFlag Reg.LEDG_BH_STATUS 7 bad
  if bad then s1.raiseBit Reg.LEDG_PACE_EVENTS 8 else s1

end Sys2Proof.Machine
end

