-- ==== Sys2Proof/Machine/Ledger.lean ====
section
/-!
DEFINITION. LEDG: the ledger items of ring 0, the reports, admission, commit, edges, deadlines, jams and reprint
(R109 to R152). The headers of data items are in the file of the page store.
-/

namespace Sys2Proof.Machine

/-! ### Ledger items (R114, R115) -/

/-- The OPCODEs of KIND 0x06 (R114). -/
def ledgerOpcode (op : Nat) : Bool := decide (0x10 ≤ op) && decide (op ≤ 0x13)

/-- The tag's STATION and BAND are 0 (R114). -/
def itemTagOk (it : Item) : Bool := decide (tagStation it.tag = 0) && decide (tagBand it.tag = 0)

/-- What the front item of ring 0's ledger queue asks a row to do: `take` it as the row's own, refuse it for an OPCODE or a
KIND that is none of LEDG's (R115), or leave it to another row. -/
inductive Front where
  | take (it : Item)
  | unknown (it : Item)
  | other
  deriving DecidableEq, Repr

/-- The front ledger item, which a READ slot of queue 4 brings (R385), for the row of this KIND and OPCODE. -/
def State.frontItem (s : State) (kind op : Nat) : Front :=
  match s.frontOf 3 4 2 with
  | none => .other
  | some it =>
    if tagKind it.tag = 7 ∨ (tagKind it.tag = 6 ∧ !ledgerOpcode it.opcode) then .unknown it
    else if tagKind it.tag = kind ∧ (kind = 5 ∨ it.opcode = op) then .take it
    else .other

/-- Decide the front ledger item of a row with `f`; an unknown OPCODE is refused BAD_FIELD (R115). -/
def State.ledgerRow (s : State) (kind op : Nat) (f : State → Item → State) : State :=
  match s.frontItem kind op with
  | .take it => f (s.takeItem 3 4) it
  | .unknown it => (s.takeItem 3 4).refuseItem it 0x0D
  | .other => s

/-- An ANNOUNCE breaks the field rules of R114. -/
def announceBad (it : Item) : Bool :=
  let p := it.data
  let lines := leAt p 4 4
  let len := leAt p 8 4
  decide (it.opcode ≠ 1) || !itemTagOk it || decide (leAt p 0 1 = 0) || decide (1 < leAt p 1 1) || !zerosAt p 2 2 ||
  decide (lines = 0) || decide (262144 < lines) || decide (len = 0) || decide (16777215 < len) ||
  decide (len < leAt p 0x0C 4) || !zerosAt p 0x12 30

/-- The entry of an announcement (R109, R114). -/
def mkSheet (it : Item) : Sheet :=
  let p := it.data
  { id := tagSheet it.tag, state := .announced, inPath := false, stations := leAt p 0 1, modeB := bitOf (leAt p 1 1) 0,
    lines := leAt p 4 4, lengthUm := leAt p 8 4, leadUm := leAt p 0x0C 4, tray := leAt p 0x10 1, bin := leAt p 0x11 1,
    firstBand := 0, reprint := none, q := 0, e := 0, resident := [], lateFired := [], due := [], begun := [],
    lastLine := 0, met := [], closed := [], endedAt := 0 }

/-- LEDG_STATUS.ENTRIES follows the entries held. -/
def State.countEntries (s : State) : State := s.setFld Reg.LEDG_STATUS 8 0 s.ledg.sheets.length

/-- The DETAIL with which an ANNOUNCE is refused, by the first row of R119 that applies. -/
def State.announceFault (s : State) (it : Item) : Option Nat :=
  let id := tagSheet it.tag
  let next := s.rdN Reg.LEDG_NEXT_ID
  if announceBad it then some 0x0D
  else if (s.sheet id).isSome then some 0x02
  else if s.flag Reg.LEDG_STATUS 9 ∧ id ≠ next ∧ !serialBefore next id then some 0x03
  else if s.sheets.any (fun x => decide (sub32 x.id id = 2 ^ 31)) then some 0x04
  else if 256 ≤ s.ledg.sheets.length then some 0x05
  else none

/-- An accepted announcement (R119, R120). -/
def State.acceptSheet (s : State) (it : Item) : State :=
  let id := tagSheet it.tag
  let k := sub32 id (s.rdN Reg.LEDG_NEXT_ID)
  let gap := s.flag Reg.LEDG_STATUS 9 && decide (k ≠ 0)
  let s1 := ((((s.putSheet (mkSheet it)).wrN Reg.LEDG_NEXT_ID (id + 1)).setFlag Reg.LEDG_STATUS 9 true).countEntries).complete
    it 0 0
  if gap then ((s1.ledgerRecord 0x0B id 1 0 0 0xFF 0 k).raiseBit Reg.LEDG_EVENTS 3).event 0x0305 [id, k] else s1

/-- ANNOUNCE (R119). -/
def effAnnounce (s : State) : Host.Outcome State Fault Refusal :=
  .next (s.ledgerRow 5 1 (fun t it =>
    match t.announceFault it with
    | some d => t.refuseItem it d
    | none => t.acceptSheet it))

/-- A purge of a sheet that is not in the path (R111, R130): the entry is freed in the next tick. -/
def State.purgeSheet (s : State) (sh : Sheet) : State :=
  let s1 := { s with ledg := { s.ledg with admitted := s.ledg.admitted.filter (fun a => decide (a.1 ≠ sh.id)) } }
  (((s1.moveSheet { sh with endedAt := s.tick } .purged 0x08).stopSheet sh.id).dropLanes sh.id).dropLines sh.id

/-- PURGE (R111, R130, R146). -/
def State.decidePurge (s : State) (it : Item) : State :=
  if !itemTagOk it || !zerosAt it.data 0 48 then s.refuseItem it 0x0D
  else
    match s.sheet (tagSheet it.tag) with
    | none => s.refuseItem it 0x01
    | some sh =>
      match sh.state with
      | .announced | .admitted => (s.purgeSheet sh).complete it 0 0
      | .committed | .imaged | .fused => s.refuseItem it 0x0B
      | .spoiled | .jammed => if sh.inPath then s.refuseItem it 0x0B else (s.purgeSheet sh).complete it 0 0
      | .delivered | .purged => s.refuseItem it 0x0C

/-- PURGE (R146). -/
def effPurge (s : State) : Host.Outcome State Fault Refusal := .next (s.ledgerRow 6 0x10 State.decidePurge)

/-- REPRINT (R141): a SPOILED or JAMMED sheet out of the path goes back to ANNOUNCED, at the end of the reprint order. -/
def State.decideReprint (s : State) (it : Item) : State :=
  let fb := leAt it.data 0 2
  if !itemTagOk it || !zerosAt it.data 2 46 then s.refuseItem it 0x0D
  else
    match s.sheet (tagSheet it.tag) with
    | none => s.refuseItem it 0x01
    | some sh =>
      if sh.state ≠ .spoiled ∧ sh.state ≠ .jammed then s.refuseItem it 0x0C
      else if sh.inPath then s.refuseItem it 0x0B
      else if sh.bands ≤ fb then s.refuseItem it 0x07
      else
        let sh1 : Sheet := { sh with
          firstBand := fb, reprint := some s.ledg.reprints, due := [], begun := [], lastLine := 0,
          met := [], closed := [] }
        let s1 := s.moveSheet sh1 .announced 0x0A 0 0xFF 0 fb
        { s1 with ledg := { s1.ledg with
          reprints := s1.ledg.reprints + 1, picked := tabSet false s1.ledg.picked sh.id false } }.complete it 0 0

/-- REPRINT (R141). -/
def effReprint (s : State) : Host.Outcome State Fault Refusal := .next (s.ledgerRow 6 0x11 State.decideReprint)

/-- JAM_CLEAR (R140). -/
def State.decideJamClear (s : State) (it : Item) : State :=
  if !itemTagOk it || decide (tagSheet it.tag ≠ 0) || !zerosAt it.data 4 44 then s.refuseItem it 0x0D
  else if !s.jammed || decide (leAt it.data 0 4 ≠ s.rdN Reg.LEDG_COUNT_JAM) then s.refuseItem it 0x0C
  else
    let js := s.sheets.filter (fun x => decide (x.state = .jammed) && x.inPath)
    let s1 := js.foldl (fun t x => t.putSheet { x with inPath := false }) s
    let s2 := { s1 with ledg := { s1.ledg with admitted := [], metAt := [] } }.setFlag Reg.LEDG_STATUS 10 false
    ((s2.ledgerRecord 0x0D 0 0 0 0 0xFF 0 (s.rdN Reg.LEDG_COUNT_JAM)).event 0x0303
      [s.rdN Reg.LEDG_COUNT_JAM, js.length]).complete it 0 0

/-- JAM_CLEAR (R140). -/
def effJamClear (s : State) : Host.Outcome State Fault Refusal := .next (s.ledgerRow 6 0x12 State.decideJamClear)

/-- LEDG_QUERY_STATE of an id (R152). -/
def State.queryState (s : State) (id : Nat) : Nat :=
  match s.sheet id with
  | none => 0
  | some sh => sh.state.code + sh.inPath.toNat * 16 + sh.stations % 256 * 256 +
      (sh.stationList.map sh.lowestAbsent).foldl min sh.bands % 8192 * 65536

/-- QUERY (R118). -/
def State.decideQuery (s : State) (it : Item) : State :=
  if !itemTagOk it || !zerosAt it.data 0 48 then s.refuseItem it 0x0D
  else
    match s.sheet (tagSheet it.tag) with
    | none => s.refuseItem it 0x01
    | some sh => (s.ledgerRecord 0x0E sh.id sh.state.code sh.state.code 0 0xFF 0 (s.queryState sh.id)).complete it 0 0

/-- QUERY (R118). -/
def effQuery (s : State) : Host.Outcome State Fault Refusal := .next (s.ledgerRow 6 0x13 State.decideQuery)

/-! ### Admission, commit, pick (R127 to R130) -/

/-- The head is admitted (R128): Q and the station starts are fixed, with the pacing extension of this tick (R157). -/
def State.admitSheet (s : State) (h : Sheet) : State :=
  let e := s.eOf h
  let now := s.ledg.pos + um (s.admitMargin - e)
  let q := match s.qPitch with
    | none => now
    | some p => max p now
  let s1 := { s with ledg := { s.ledg with
    admitted := ((h.id, q, h.lengthUm) :: s.ledg.admitted).take 256, admitAt := s.tick + 1 } }
  let s2 := if s.extension = 0 then s1 else s1.bump Reg.LEDG_PACE_COUNT_EXT
  let h1 := { h with q := q, e := e, due := [], begun := [], lastLine := 0, met := [], closed := [] }
  ((s2.moveSheet h1 .admitted 0x01 0 0xFF 0 (codeOf 32 (q / 2 ^ 24))).giveSheet h1).pathNotice 1 (h.tray + h.bin * 256)

/-- ADMISSION (R126, R127, R164): the head is admitted once every condition holds, one sheet in a tick, unless a backhitch is
to be decided. -/
def effAdmission (s : State) : Host.Outcome State Fault Refusal :=
  let s := s.showHead
  match s.head with
  | none => .next s
  | some h =>
    if (s.waitReason h).isSome || decide (s.ledg.admitAt = s.tick + 1) ||
        (s.bhWanted && !s.flag Reg.LEDG_BH_STATUS 7) then .next s
    else .next (s.admitSheet h)

/-- The bands whose deadline is the commit tick (R134). -/
def State.commitBands (s : State) (sh : Sheet) : List Nat :=
  (List.range s.leadBands).filterMap (fun i => if sh.firstBand + i < sh.bands then some (sh.firstBand + i) else none)

/-- A band due at the commit tick is absent (R134, R135). -/
def State.commitLate (s : State) (sh : Sheet) : Bool :=
  sh.stationList.any (fun i => (s.commitBands sh).any (fun b => !sh.has i b))

/-- COMMIT (R130): in the commit tick, with every band that is due resident. -/
def effCommit (id : Nat) (s : State) : Host.Outcome State Fault Refusal :=
  match s.sheet id with
  | some sh =>
    if sh.state = .admitted ∧ s.fallen (sh.q + um sh.e) ∧ !s.commitLate sh then
      .next (s.moveSheet { sh with inPath := true } .committed 0x02)
    else .next s
  | none => .next s

/-- PICK (R129): in the emit phase of the tick in which Q falls, on a cut-sheet path, the pick output is driven. A pulse
length of 0 is taken as one tick (log entry 17). -/
def effPick (id : Nat) (s : State) : Host.Outcome State Fault Refusal :=
  match s.sheet id with
  | some sh =>
    if !s.web ∧ sh.inPath ∧ s.fallen sh.q ∧ !tabGet false s.ledg.picked id ∧
        (sh.state = .committed ∨ sh.state = .imaged ∨ sh.state = .spoiled) then
      let s1 := { s with ledg := { s.ledg with
        picked := tabSet false s.ledg.picked id true,
        pickUntil := s.tick + max 1 (s.fld Reg.SIO_PICK_CFG 15 8) } }
      .next (s1.pathNotice 2 id)
    else .next s
  | none => .next s

/-! ### Edges (R131, R132) -/

/-- A point judges edges: enabled, and not on a web (R132). -/
def State.pointActive (s : State) (k : Nat) : Bool := s.flag (Reg.LEDG_SENSOR_CFG k) 3 && !s.web

/-- The targets pending at a point, as (position, sheet, trail). -/
def State.pendingTargets (s : State) (k : Nat) : List (Int × Sheet × Bool) :=
  s.sheets.flatMap (fun x =>
    [false, true].filterMap (fun tr => if x.awaits k tr then some (s.target x k tr, x, tr) else none))

/-- The first of some targets along the path. -/
def leastTarget (ts : List (Int × Sheet × Bool)) : Option (Int × Sheet × Bool) :=
  ts.foldl
    (fun o t => match o with
      | none => some t
      | some u => if t.1 < u.1 then some t else some u) none

/-- The next pending target at a point. -/
def State.nextTarget (s : State) (k : Nat) : Option (Int × Sheet × Bool) := leastTarget (s.pendingTargets k)

/-- LEDG_EDGE_WIN, in µm. -/
def State.edgeWin (s : State) : Int := s.fld Reg.LEDG_EDGE_WIN 15 0

/-- The position of an edge: P at its tick stamp, interpolated by its sub-tick towards the next tick (R113). -/
def State.edgePos (s : State) (e : Edge) : Int :=
  let p := tabGet s.ledg.pos s.ledg.posAt e.tick
  let n := tabGet s.ledg.pos s.ledg.posAt (e.tick + 1)
  p + (n - p) * e.sub / 2500

/-- The edge has the polarity expected at a point, whose next pending target is a trail target or not (R132). -/
def State.edgeExpected (s : State) (k : Nat) (trail : Bool) (e : Edge) : Bool :=
  e.rising == (s.flag (Reg.LEDG_SENSOR_CFG k) 4 != trail)

/-- A position lies within the window of a target (R132). -/
def State.inWindow (s : State) (target pos : Int) : Bool :=
  decide (target - um s.edgeWin ≤ pos) && decide (pos ≤ target + um s.edgeWin)

/-- A position lies within the window of a target that an edge has met: a later edge there, of either polarity, is ignored
(R132). -/
def State.inMetWindow (s : State) (k : Nat) (pos : Int) : Bool :=
  s.ledg.metAt.any (fun m => decide (m.1 = k) && s.inWindow m.2 pos)

/-- An edge is taken as a target's edge (R132). -/
def State.takeEdge (s : State) (sh : Sheet) (k : Nat) (trail : Bool) (at_ : Int) : State :=
  { s.meetTarget sh k trail with ledg := { (s.meetTarget sh k trail).ledg with metAt := (k, at_) :: s.ledg.metAt } }

/-- The outcome of an edge at a point (R132): of the open windows of the expected polarity in which it lies, the first
target takes it. -/
def State.judgeEdge (s : State) (k : Nat) (e : Edge) : State :=
  let pos := s.edgePos e
  match s.nextTarget k with
  | none => if s.edgeExpected k false e && !s.inMetWindow k pos then s.jam none 0x12 k else s
  | some (t, sh, tr) =>
    if !s.edgeExpected k tr e then s
    else
      match leastTarget ((s.pendingTargets k).filter (fun x => x.2.2 == tr && s.inWindow x.1 pos)) with
      | some (t1, sh1, tr1) => s.takeEdge sh1 k tr1 t1
      | none =>
        if s.inMetWindow k pos then s
        else if pos < t - um s.edgeWin then s.jam (some sh.id) 0x11 k
        else s.jam (some sh.id) 0x12 k

/-- The SCAP input of a point (R131). -/
def State.pointInput (s : State) (k : Nat) : Nat := s.fld (Reg.LEDG_SENSOR_CFG k) 2 0

/-- SHEET_EDGE (R132): the point's oldest qualified edge is gathered and judged. -/
def effSheetEdge (point : Fin 4) (s : State) : Host.Outcome State Fault Refusal :=
  if !s.pointActive point then .next s
  else
    match s.gatherScap (s.pointInput point) point with
    | some (e, s1) => .next (s1.judgeEdge point e)
    | none => .next s

/-- A target's window has closed with no edge gathered (R132): target + EDGE_WIN has fallen, and the point has no gathered
edge left to judge. -/
def State.windowPast (s : State) (sh : Sheet) (point : Nat) (trail : Bool) : Bool :=
  s.pointActive point && sh.awaits point trail && s.fallen (s.target sh point trail + um s.edgeWin) &&
  (s.gatherScap (s.pointInput point) point).isNone

/-- EDGE_WINDOW_EXPIRY (R132): no edge has been gathered by the tick in which target + EDGE_WIN falls. The target is
pending no longer. -/
def effEdgeWindowExpiry (id : Nat) (point : Fin 4) (trail : Bool) (s : State) : Host.Outcome State Fault Refusal :=
  match s.sheet id with
  | some sh =>
    if s.windowPast sh point trail then
      .next ((s.putSheet { sh with closed := tabSet false sh.closed (point.val * 2 + trail.toNat) true }).jam (some id) 0x10
        point)
    else .next s
  | none => .next s

/-- TARGET_WITHOUT_EDGE (R132): a point that is not enabled, and every point on a web, meets a target in the tick in
which it falls. -/
def effTargetWithoutEdge (id : Nat) (point : Fin 4) (trail : Bool) (s : State) : Host.Outcome State Fault Refusal :=
  match s.sheet id with
  | some sh =>
    if !s.pointActive point ∧ sh.awaits point trail ∧ s.fallen (s.target sh point trail) then
      .next (s.meetTarget sh point trail)
    else .next s
  | none => .next s

/-! ### Reports (R133 to R137) -/

/-- Take the first gatherable report of a kind and decide it with `f`. -/
def State.onReport (s : State) (k : ReportKind) (f : State → Report → State) : State :=
  match s.firstReport k with
  | some r => f (s.dropReport r) r
  | none => s

/-- BAND_BEGUN (R134): the deadline of band b + LEAD_BANDS falls in this tick; the report feeds the consumption rate
(R153). -/
def State.bandBegun (s : State) (r : Report) : State :=
  let s1 := { s with pace := { s.pace with begun := tabMod 0 s.pace.begun r.station (· + 1) } }
  match s1.sheet r.sheet with
  | none => s1
  | some sh =>
    let b := r.band + s.leadBands
    let live := decide (sh.state = .committed) || decide (sh.state = .admitted)
    let due := if live && decide (b < sh.bands) && !sh.has r.station b then
        tabPut sh.due (r.station * 4096 + b) (s.tick + 1) else sh.due
    s1.putSheet { sh with begun := tabPut sh.begun r.station (r.band + 1), due := due }

/-- BAND_BEGUN (R134). -/
def execBandBegun (s : State) : Host.Outcome State Fault Refusal := .next (s.onReport .begun State.bandBegun)

/-- The deadline of a band falls in this tick, and the band is absent (R134, R135): the tick gathered the begun report, or
is the commit tick of an ADMITTED sheet whose first bands those are. -/
def State.deadlineDue (s : State) (sh : Sheet) (stn band : Nat) : Bool :=
  sh.uses stn && !sh.has stn band &&
  (((decide (sh.state = .committed) || decide (sh.state = .admitted)) &&
      decide (tabGet 0 sh.due (stn * 4096 + band) = s.tick + 1)) ||
    (decide (sh.state = .admitted) && s.fallen (sh.q + um sh.e) && (s.commitBands sh).contains band))

/-- A deadline fires (R135): the sheet is spoiled or withdrawn with LATE_DATA, and the band is marked. -/
def State.fireDeadline (s : State) (sh : Sheet) (stn band : Nat) : State :=
  let sh1 := { sh with lateFired := tabSet false sh.lateFired (stn * 4096 + band) true,
                       due := tabSet 0 sh.due (stn * 4096 + band) 0 }
  if sh.state = .committed then s.spoil sh1 0x01 stn band
  else if sh.state = .admitted then s.withdraw sh1 0x01 stn band
  else s.putSheet sh1

/-- BAND_DEADLINE (R135): a band absent when its deadline fires. -/
def effBandDeadline (id : Nat) (stn : Fin 8) (band : Nat) (s : State) : Host.Outcome State Fault Refusal :=
  match s.sheet id with
  | some sh =>
    if s.deadlineDue sh stn band then .next (s.fireDeadline sh stn band) else .next s
  | none => .next s

/-- LAST_LINE (R133). -/
def effLastLine (s : State) : Host.Outcome State Fault Refusal :=
  .next (s.onReport .lastLine (fun t r =>
    match t.sheet r.sheet with
    | some sh => (t.putSheet { sh with lastLine := sh.lastLine ||| 2 ^ r.station }).progress r.sheet
    | none => t))

/-- UNDERRUN_REPORT (R137, R257). -/
def effUnderrunReport (s : State) : Host.Outcome State Fault Refusal :=
  .next (s.onReport .underrun (fun t r =>
    match t.sheet r.sheet with
    | some sh => if sh.state = .committed then t.spoil sh 0x03 r.station r.band else t
    | none => t))

/-- BEAM_FAILURE_REPORT (R137, R279, R291): every COMMITTED sheet that uses the station. -/
def effBeamFailureReport (s : State) : Host.Outcome State Fault Refusal :=
  .next (s.onReport .beamFailure (fun t r => t.spoilAll 0x07 (·.uses r.station) r.station))

/-- HEAD_SHUTDOWN_REPORT (R137, R281): every COMMITTED sheet. -/
def effHeadShutdownReport (s : State) : Host.Outcome State Fault Refusal :=
  .next (s.onReport .headShutdown (fun t r => t.spoilAll 0x04 (fun _ => true) r.station))

/-- OBSERVER_LOSS_REPORT (R137, R351): every COMMITTED sheet that uses a station of that polygon; `sheet` of the report
holds the mask of those stations. -/
def effObserverLossReport (s : State) : Host.Outcome State Fault Refusal :=
  .next (s.onReport .observerLoss (fun t r => t.spoilAll 0x05 (fun x => decide (x.stations &&& r.sheet ≠ 0))))

/-- DECODE_FAILURE_REPORT (R125): the band becomes absent; the sheet is spoiled or withdrawn with DECODE. -/
def effDecodeFailureReport (s : State) : Host.Outcome State Fault Refusal :=
  .next (s.onReport .decodeFailure (fun t r =>
    match t.sheet r.sheet with
    | some sh =>
      let sh1 := { sh with resident := tabSet false sh.resident (r.station * 4096 + r.band) false }
      let t1 := t.freeBand r.sheet r.station r.band
      if sh.state = .committed then t1.spoil sh1 0x02 r.station r.band
      else if sh.state = .admitted then t1.withdraw sh1 0x02 r.station r.band
      else t1.putSheet sh1
    | none => t))

/-! ### Entries freed -/

/-- ENTRY_FREED (R109): in the tick after the one in which a sheet reached DELIVERED or PURGED its entry, its stop notice
and its page-store frames are freed. -/
def effEntryFreed (id : Nat) (s : State) : Host.Outcome State Fault Refusal :=
  match s.sheet id with
  | some sh =>
    if (sh.state = .delivered ∨ sh.state = .purged) ∧ sh.endedAt < s.tick then
      .next (({ s with ledg := { s.ledg with
        sheets := tabDel s.ledg.sheets id, picked := tabSet false s.ledg.picked id false } }.freeSheet id).countEntries)
    else .next s
  | none => .next s

/-! ### Every tick (R112, R142) -/

/-- The least tick stamp of the edges that wait in the SCAP queues, or the tick 63 ticks ago where that is less: P is kept
from there on (R113). -/
def State.oldestEdge (s : State) : Nat :=
  s.sio.scap.foldl (fun n x => x.queue.foldl (fun m e => min m e.tick) n) (s.tick - 62)

/-- The commanded displacement of the reference axis is added to P with its full fraction (R112). -/
def State.movePath (s : State) : State :=
  let d := s.displacement (s.flag Reg.LEDG_REF_AXIS 8) (s.fld Reg.LEDG_REF_AXIS 5 0)
  let total := s.ledg.pos * 2 ^ 24 + s.ledg.posRem + d * s.rdN Reg.LEDG_REF_SCALE
  let p := total / 2 ^ 24
  let w := codeOf 48 (p / 2 ^ 24)
  ({ s with ledg := { s.ledg with
      pos := p, posRem := (total % 2 ^ 24).toNat,
      posAt := (tabPut s.ledg.posAt (s.tick + 1) p).filter (fun x => decide (s.oldestEdge ≤ x.1)) } }.wrN Reg.LEDG_PATH_POS_LO (w % 2 ^ 32)).wrN Reg.LEDG_PATH_POS_HI (w / 2 ^ 32)

/-- The sheet-gap indication of the next tick: no sheet is ADMITTED or COMMITTED (R142). -/
def State.updateGap (s : State) : State :=
  s.setFlag Reg.LEDG_STATUS 11 (s.sheets.all (fun x => decide (x.state ≠ .admitted) && decide (x.state ≠ .committed)))

end Sys2Proof.Machine
end

