-- ==== Sys2Proof/Machine/PageStore.lean ====
section
/-!
DEFINITION. Data items: the ledger's check of their headers, the checks and the frames of ingress, the compressor and
the decompressor lanes (R121 to R125, R186 to R201, R208 to R212).
-/

namespace Sys2Proof.Machine

/-! ### Data headers (R121 to R123) -/

/-- What the check of a data item's header decides. -/
inductive HeaderFate where
  | early
  | refuse (detail : Nat)
  | pass (sh : Sheet)
  deriving DecidableEq, Repr

/-- Steps 2 to 5 of R121 on a held sheet. -/
def Sheet.headerFate (sh : Sheet) (stn band : Nat) : HeaderFate :=
  if !sh.uses stn then .refuse 0x06
  else if sh.bands ≤ band then .refuse 0x07
  else if sh.has stn band then .refuse 0x09
  else if sh.lowestAbsent stn + 256 ≤ band then .refuse 0x08
  else .pass sh

/-- The check of a data item's header (R121). -/
def State.headerFate (s : State) (t : DWord) : HeaderFate :=
  match s.sheet (tagSheet t) with
  | some sh => sh.headerFate (tagStation t) (tagBand t)
  | none =>
    if !s.flag Reg.LEDG_STATUS 9 || decide (tagSheet t = s.rdN Reg.LEDG_NEXT_ID) ||
        serialBefore (s.rdN Reg.LEDG_NEXT_ID) (tagSheet t) then .early else .refuse 0x01

/-! ### Ingress (R186 to R188, R208 to R211) -/

/-- An ingress refusal (R188). -/
def State.refuseIngress (s : State) (it : Item) (code : Nat) : State :=
  let s1 := ((s.wrN Reg.BURL_ING_ERR (code + tagStation it.tag * 256)).wrN Reg.BURL_ING_TAG_LO (it.tag.toNat % 2 ^ 32)).wrN
    Reg.BURL_ING_TAG_HI (tagSheet it.tag)
  (((s1.bump Reg.BURL_COUNT_REFUSED).raiseBit Reg.BURL_EVENTS 0).event 0x0401 [it.tag.toNat, code]).refuseItem it 0x0A

/-- The CODE of the first check of R187 that an item of a sheet fails. -/
def State.ingressCode (s : State) (it : Item) (sh : Sheet) : Option Nat :=
  let nb := bandLines sh.lines (tagBand it.tag)
  if tagKind it.tag = 1 then rawIngress it.len nb sh.modeB
  else burlIngress it.tag it.data nb sh.modeB (s.fld Reg.BURL_CFG 12 0)

/-- Frames that an item takes (R210). -/
def itemFrames (it : Item) : Nat := blockFrames (if tagKind it.tag = 1 then it.len else hdrCompLen it.data)

/-- An item begins to wait for frames, or goes on waiting (R211). -/
def State.waitForFrames (s : State) (it : Item) : State :=
  let stn := tagStation it.tag
  if (tabFind s.ledg.waitFrames stn).isSome then s
  else
    ((({ s with ledg := { s.ledg with waitFrames := tabPut s.ledg.waitFrames stn ⟨it, 0⟩ } }.setFlag Reg.DRAM_STATUS 5
      true).raiseBit Reg.DRAM_EVENTS 6)).event 0x0606 [stn, s.rdN (Reg.DRAM_PS_HELD stn), s.rdN Reg.DRAM_FRAMES_FREE]

/-- An item no longer waits for frames. -/
def State.endWait (s : State) (stn : Nat) : State :=
  let w := s.ledg.waitFrames.filter (fun x => decide (x.1 ≠ stn))
  { s with ledg := { s.ledg with waitFrames := w } }.setFlag Reg.DRAM_STATUS 5 (decide (w ≠ []))

/-- A compressor lane works on a segment. -/
def State.compBusy (s : State) (lane : Nat) : Bool :=
  s.burl.jobs.any (fun j => j.segs.any (fun g => decide (g.lane = some lane) && !g.done))

/-- Give a lane the lowest-numbered segment not yet given of the first job of a station. -/
def giveSegment (lane stn : Nat) : List CompJob → List CompJob
  | [] => []
  | j :: js =>
    if tagStation j.item.tag = stn ∧ j.segs.any (fun g => g.lane.isNone) then
      { j with segs := (j.segs.takeWhile (fun g => g.lane.isSome)) ++
          (match j.segs.dropWhile (fun g => g.lane.isSome) with
            | [] => []
            | g :: gs => { g with lane := some lane } :: gs) } :: js
    else j :: giveSegment lane stn js

/-- Every free enabled lane takes the lowest-numbered segment of the oldest waiting item of its station (R189). -/
def State.startLanes (s : State) : State :=
  (List.range 16).foldl
    (fun t l => if t.flag (Reg.BURL_CBIND l) 7 && !t.compBusy l then
        { t with burl := { t.burl with jobs := giveSegment l (t.fld (Reg.BURL_CBIND l) 2 0) t.burl.jobs } }
      else t) s

/-- The frames are taken: a BURL item's write begins, a RAW item goes to the lanes (R188, R210). -/
def State.acceptData (s : State) (it : Item) (sh : Sheet) (frames : List Nat) : State :=
  let s1 := (s.takeFrames (tagStation it.tag) frames).bump Reg.BURL_COUNT_IN
  if tagKind it.tag = 1 then
    let nb := bandLines sh.lines (tagBand it.tag)
    let counts := segLines nb (s.fld Reg.BURL_CFG 19 16)
    let segs := (offsetsFrom 0 counts).zip counts |>.map (fun x => (⟨x.1, x.2, none, false⟩ : CompSeg))
    let j : CompJob := ⟨it, nb, it.len / nb, frames, segs⟩
    { s1 with burl := { s1.burl with jobs := s1.burl.jobs ++ [j] } }.startLanes
  else { s1 with burl := { s1.burl with writing := s1.burl.writing ++ [⟨it, frames, it.data, s1.tick⟩] } }

/-- An item that passed R121 comes to the page store (R187, R209 to R211). `frames` are the free frames that the frame
manager takes, the directory frame first where the sheet has none at the station yet (log entry 31); which free frames
those are the spec leaves open. -/
def State.toPageStore (s : State) (it : Item) (sh : Sheet) (frames : List Nat) : State :=
  let stn := tagStation it.tag
  match s.ingressCode it sh with
  | some c => (s.refuseIngress it c).endWait stn
  | none =>
    let d := (s.dirOf sh.id stn).isNone
    let n := itemFrames it + d.toNat
    if !s.canReserve stn n then s.waitForFrames it
    else if !s.freshFrames frames n then s
    else if d then ((s.takeDirectory sh.id stn (frames.headD 0)).acceptData it sh (frames.drop 1)).endWait stn
    else (s.acceptData it sh frames).endWait stn

/-- The frames operand is what the item takes where it takes any. -/
def State.framesFit (s : State) (it : Item) (sh : Sheet) (frames : List Nat) : Bool :=
  let n := itemFrames it + (s.dirOf sh.id (tagStation it.tag)).isNone.toNat
  (s.ingressCode it sh).isSome || !s.canReserve (tagStation it.tag) n || s.freshFrames frames n

/-- An item held early for a station (R122). -/
def State.holdEarly (s : State) (it : Item) : State :=
  { s with ledg := { s.ledg with early :=
      (tabPut s.ledg.early (tagStation it.tag) ⟨it, s.tick + s.fld Reg.LEDG_CFG 15 8⟩) } }

/-- A held-early item is dropped from its place. -/
def State.dropEarly (s : State) (stn : Nat) : State :=
  { s with ledg := { s.ledg with early := tabDel s.ledg.early stn } }

/-- DATA_HEADER (R121 to R123, R186 to R188, R209 to R211): the front data item of a station, or the one held early once
its sheet is announced, is checked and passed on to the page store, held early, or refused. An operand that names no free
frames where the item takes some changes nothing. -/
def effDataHeader (stn : Fin 8) (frames : List Nat) (s : State) : Host.Outcome State Fault Refusal :=
  match tabFind s.ledg.early stn with
  | some h =>
    (match s.sheet (tagSheet h.item.tag) with
      | none => .next s
      | some sh =>
        match sh.headerFate (tagStation h.item.tag) (tagBand h.item.tag) with
        | .early => .next s
        | .refuse d => .next ((s.dropEarly stn).refuseItem h.item d)
        | .pass sh => .next (if s.framesFit h.item sh frames then (s.dropEarly stn).toPageStore h.item sh frames else s))
  | none =>
    match s.inboxOf (32 + stn), tabFind s.ledg.waitFrames stn, s.rawStuck stn with
    | it :: _, none, false =>
      let s0 := s.dropInbox (32 + stn)
      (match s.headerFate it.tag with
        | .early => .next (s0.holdEarly it)
        | .refuse d => .next (s0.refuseItem it d)
        | .pass sh => .next (if s.framesFit it sh frames then s0.toPageStore it sh frames else s))
    | _, _, _ => .next s

/-- EARLY_WAIT_EXPIRY (R122): no announcement was gathered by the deadline; the item is refused UNKNOWN_SHEET. -/
def effEarlyWaitExpiry (stn : Fin 8) (s : State) : Host.Outcome State Fault Refusal :=
  match tabFind s.ledg.early stn with
  | some h =>
    if h.deadline ≤ s.tick ∧ (s.sheet (tagSheet h.item.tag)).isNone then
      .next ((s.dropEarly stn).refuseItem h.item 0x01)
    else .next s
  | none => .next s

/-- FRAMES_AVAILABLE (R211): the waiting item is accepted once enough frames are free. An item whose sheet is no longer
held is refused UNKNOWN_SHEET. -/
def effFramesAvailable (stn : Fin 8) (frames : List Nat) (s : State) : Host.Outcome State Fault Refusal :=
  match tabFind s.ledg.waitFrames stn with
  | some w =>
    (match s.sheet (tagSheet w.item.tag) with
      | none => .next ((s.endWait stn).refuseItem w.item 0x01)
      | some sh => .next (s.toPageStore w.item sh frames))
  | none => .next s

/-! ### Residency (R124, R135, R210) -/

/-- The first write under way for a band. -/
def State.writingOf (s : State) (sheet stn band : Nat) : Option Writing :=
  s.burl.writing.find? (fun w => decide (tagSheet w.item.tag = sheet ∧ tagStation w.item.tag = stn ∧
    tagBand w.item.tag = band))

/-- A band becomes resident, with LATE_BAND where its deadline had fired (R124, R135). -/
def State.makeResident (s : State) (sh : Sheet) (stn band : Nat) : State :=
  let k := stn * 4096 + band
  let s1 := { s.putSheet { sh with resident := tabSet false sh.resident k true, due := sh.due } with
    pace := { s.pace with arrived := tabMod 0 s.pace.arrived stn (· + 1) } }
  if tabGet false sh.lateFired k then
    (s1.ledgerRecord 0x0C sh.id sh.state.code sh.state.code 0 stn band 0).event 0x0307 [sh.id, stn, band]
  else s1

/-- BAND_RESIDENT (R124, R210): a block's write has ended in an earlier tick; the band is resident and its item completes
DONE. A READ slot of queue 39 brings the report, before the tick's gather is over (R385). No write ends while DRAM trains
(R217). An item whose sheet has been freed completes REFUSED, UNKNOWN_SHEET. -/
def execBandResident (sheet : Nat) (stn : Fin 8) (band : Nat) (s : State) : Host.Outcome State Fault Refusal :=
  match s.writingOf sheet stn band with
  | some w =>
    if s.tick ≤ w.stamp ∨ s.flag Reg.DRAM_STATUS 2 ∨ s.decideOpen ∨ !s.reportsRead then .next s
    else
      let s1 := { s with burl := { s.burl with writing := s.burl.writing.erase w } }
      (match s1.sheet sheet with
        | none => .next ((s1.giveBack stn w.frames).refuseItem w.item 0x01)
        | some sh =>
          if w.frames = [] then .next (s1.refuseItem w.item 0x01)
          else
            let s2 := { s1.storeBlock w.block w.frames with dram := { (s1.storeBlock w.block w.frames).dram with
              bands := tabPut s1.dram.bands (bandKey sheet stn band) ⟨w.frames, s1.tick⟩ } }
            .next (((s2.setDirectory sheet stn band (w.frames.headD 0)).makeResident sh stn band).complete w.item 0 0))
  | none => .next s

/-! ### Compressor lanes (R189 to R191) -/

/-- Mark the segment of a lane done in the first job that holds one; the job, if all its segments are done. -/
def endSegment (lane : Nat) : List CompJob → List CompJob × Option CompJob
  | [] => ([], none)
  | j :: js =>
    if j.segs.any (fun g => decide (g.lane = some lane) && !g.done) then
      let j' := { j with segs := j.segs.map (fun g => if g.lane = some lane then { g with done := true } else g) }
      if j'.segs.all (·.done) then (js, some j') else (j' :: js, none)
    else ((j :: (endSegment lane js).1), (endSegment lane js).2)

/-- The block of a job whose segments are all compressed: the frames it does not need are returned, and its write
begins (R191, R210, R212). -/
def State.writeCompressed (s : State) (j : CompJob) : State :=
  let c := compress ({ j.item with tag := mkTag (tagSheet j.item.tag) (tagStation j.item.tag) (tagBand j.item.tag) 2 0 }).tag.toNat
    j.item.data j.lines (s.fld Reg.BURL_CFG 19 16) (s.fld Reg.BURL_CFG 30 24) (s.fld Reg.BURL_CFG 12 0)
  let n := blockFrames (hdrCompLen c.1)
  let s1 := s.giveBack (tagStation j.item.tag) (j.frames.drop n)
  let s2 := { s1 with burl := { s1.burl with writing := s1.burl.writing ++ [⟨j.item, j.frames.take n, c.1, s1.tick⟩] } }
  if c.2 then (s2.bump Reg.BURL_COUNT_STORED).raiseBit Reg.BURL_EVENTS 1 else s2

/-- SEGMENT_COMPRESSED (R189 to R191): a lane ends its segment and takes the next; the last segment of an item ends its
compression. -/
def execSegmentCompressed (lane : Fin 16) (s : State) : Host.Outcome State Fault Refusal :=
  if !s.compBusy lane then .next s
  else
    let r := endSegment lane s.burl.jobs
    let s1 := { s with burl := { s.burl with jobs := r.1 } }
    match r.2 with
    | some j => .next (s1.writeCompressed j).startLanes
    | none => .next s1.startLanes

/-! ### Decompressor bindings (R193) -/

/-- Stations of a mask that no enabled lane of a set of bindings serves. -/
def unboundIn (vals : List Nat) (mask : Nat) : List Nat :=
  (List.range 8).filter (fun i => bitOf mask i && vals.all (fun v => !bitOf v 7 || decide (bitsOf v 2 0 ≠ i)))

/-- The bindings written, and the bindings in force. -/
def State.dbinds (s : State) : List Nat := (List.range 32).map (fun l => s.rdN (Reg.BURL_DBIND l))
def State.dbindsNow (s : State) : List Nat := (List.range 32).map (fun l => s.rdN (Reg.BURL_DBIND_ACT l))

/-- A decided set of bindings takes effect (R193). -/
def State.applyBindings (s : State) (b : BindNext) : State :=
  let old := s.dbindsNow
  let s1 := { (List.range 32).foldl (fun t l => t.wrN (Reg.BURL_DBIND_ACT l) (b.values.getD l 0)) s with
    burl := { s.burl with bindNext := none } }
  ((s1.setFlag Reg.BURL_STATUS 0 (decide (s1.dbinds ≠ b.values))).raiseBit Reg.BURL_EVENTS 9).event 0x0502
    (old ++ b.values ++ [s1.tick])

/-- DECODE_BINDING (R193): in a common gap the pending set is decided. -/
def effDecodeBinding (s : State) : Host.Outcome State Fault Refusal :=
  if !s.flag Reg.BURL_STATUS 0 || s.burl.bindNext.isSome || !(s.sheetGap || s.holding) then .next s
  else
    match (if s.holding then [] else unboundIn s.dbinds (imgStnMask s.active)) with
    | i :: _ =>
      let s1 := (List.range 32).foldl (fun t l => t.wrN (Reg.BURL_DBIND l) (t.rdN (Reg.BURL_DBIND_ACT l))) s
      .next (((s1.setFlag Reg.BURL_STATUS 0 false).raiseBit Reg.BURL_EVENTS 10).event 0x0503 [i])
    | [] =>
      let b : BindNext := ⟨s.tick, s.dbinds⟩
      .next (if s.holding then s.applyBindings b else { s with burl := { s.burl with bindNext := some b } })

/-! ### Decompressor lanes (R194 to R198) -/

/-- The station that a decompressor lane serves, if it is enabled (R193). -/
def State.laneStation (s : State) (lane : Nat) : Option Nat :=
  if s.flag (Reg.BURL_DBIND_ACT lane) 7 then some (s.fld (Reg.BURL_DBIND_ACT lane) 2 0) else none

/-- The bands of a station in decoding order (R194): committed, then admitted sheets, in the order of Q. -/
def State.decodeOrder (s : State) (stn : Nat) : List (Sheet × Nat) :=
  let byQ (a b : Sheet) : Bool := decide (a.q ≤ b.q)
  ((s.inOrder .committed byQ ++ s.inOrder .admitted byQ).filter (·.uses stn)).flatMap
    (fun x => (List.range (x.bands - x.firstBand)).map (fun i => (x, x.firstBand + i)))

/-- How far the decoding of a resident band has come. -/
def State.decodeOf (s : State) (sheet stn band : Nat) : BandDecode :=
  tabGet ⟨0, 0, [], 0, false⟩ s.burl.decodes (bandKey sheet stn band)

/-- The earliest resident band of a station with a segment still to be handed out (R194). -/
def State.nextBand (s : State) (stn : Nat) : Option (Sheet × Nat × BandRec) :=
  (s.decodeOrder stn).findSome? (fun p =>
    match s.band p.1.id stn p.2 with
    | some r =>
      let d := s.decodeOf p.1.id stn p.2
      if p.1.has stn p.2 && decide (r.since < s.tick) && !d.failed && (decide (d.segs = 0) || d.redo ≠ [] || decide (d.handed < d.segs)) then
        some (p.1, p.2, r)
      else none
    | none => none)

/-- A band fails once (R198): every lane on it abandons it, and the failure is recorded and reported. -/
def State.decodeFail (s : State) (sheet stn band code lane seg off : Nat) : State :=
  let k := bandKey sheet stn band
  if (s.decodeOf sheet stn band).failed then s
  else
    let tag := mkTag sheet stn band 2 0
    let s1 := (s.abandonLanes (fun w => decide (bandKey w.sheet w.station w.band = k)))
    let s2 := { s1 with burl := { s1.burl with decodes :=
      (tabPut s1.burl.decodes k { s1.decodeOf sheet stn band with failed := true }) } }
    let s3 := (((s2.wrN Reg.BURL_DEC_ERR (code + lane * 256 + seg * 65536)).wrN Reg.BURL_DEC_TAG_LO
      (tag.toNat % 2 ^ 32)).wrN Reg.BURL_DEC_TAG_HI sheet).wrN Reg.BURL_DEC_OFFSET off
    let s4 := (((s3.bump Reg.BURL_COUNT_DEC_ERR).raiseBit Reg.BURL_EVENTS 8).event 0x0501
      [tag.toNat, code, lane, seg, off]).report .decodeFailure sheet stn band
    if code = 0x18 then s4 else s4.fault (0x140 + lane) 0x05 0

/-! ### Errors of the page store (R223, R224) -/

/-- The offset in a block's body of a byte of its frames (R208); none in the header and the frame map. -/
def BandRec.bodyAt (r : BandRec) (a : Nat) : Option Nat :=
  match r.frames.idxOf? (a / 16384) with
  | some 0 => if a % 16384 < 512 then none else some (a % 16384 - 512)
  | some (i + 1) => some (15872 + 16384 * i + a % 16384)
  | none => none

/-- The segment that holds an offset of the body (R180). -/
def segmentAt (hdr : List Byte) (o : Nat) : Nat :=
  ((List.range (hdrSegs hdr)).filter (fun j => decide (hdrOffset hdr j ≤ o))).length - 1

/-- A lane that decodes segment `g` of a block reads address `a`: the header and the frame map, or the segment's bytes. -/
def BandRec.reads (r : BandRec) (hdr : List Byte) (g a : Nat) : Bool :=
  match r.bodyAt a with
  | some o => decide (segmentAt hdr o = g)
  | none => r.frames.contains (a / 16384)

/-- The band that address `a` concerns, as (sheet, station, band): the one whose block holds it, or the one whose entry of a
directory frame it is (R208, R209). -/
def State.bandAt (s : State) (a : Nat) : Option (Nat × Nat × Nat) :=
  match s.dram.bands.find? (fun b => b.2.frames.contains (a / 16384)) with
  | some b => some (b.1 / 32768, b.1 / 4096 % 8, b.1 % 4096)
  | none => (s.dram.dirs.find? (fun d => decide (d.2 = a / 16384))).map (fun d => (d.1 / 8, d.1 % 8, a % 16384 / 4))

/-- A corrected error on a channel (R223). -/
def State.dramCorrected (s : State) (ch addr : Nat) : State :=
  (((s.bump Reg.DRAM_ECC_CE_COUNT).raiseBit Reg.DRAM_EVENTS 3).fault (0x180 + ch) 0x08 (addr % 2 ^ 32))

/-- A frame with an uncorrectable error is bad until the next reset (R224). -/
def State.markBad (s : State) (a : Nat) : State :=
  let f := a / 16384
  let s0 := { s with dram := { s.dram with badAt := tabMod [] s.dram.badAt f (fun l => a :: l) } }
  if tabGet false s.dram.bad f then s0
  else
    let s1 := if s.frameFree f then s0.wrN Reg.DRAM_FRAMES_FREE (s0.rdN Reg.DRAM_FRAMES_FREE - 1) else s0
    { s1 with dram := { s1.dram with bad := tabSet false s1.dram.bad f true } }.bump Reg.DRAM_FRAMES_BAD 22 0

/-- The lane whose read of a band's block at address `a` failed, with its segment and what it has written (R198): the one that
works on the segment there, else the lowest-numbered one on the band; 0 where none works on it. -/
def State.laneOn (s : State) (sheet stn band a : Nat) : Nat × Nat × Nat :=
  let g := (s.band sheet stn band).bind (fun r => (r.bodyAt a).map (segmentAt (s.readBlock r)))
  let on (l : Nat × LaneWork) : Bool := decide (l.2.sheet = sheet ∧ l.2.station = stn ∧ l.2.band = band)
  match (s.burl.lanes.find? (fun l => on l && decide (some l.2.seg = g))).or (s.burl.lanes.find? on) with
  | some l => (l.1, l.2.seg, l.2.total - l.2.out.length)
  | none => (0, g.getD 0, 0)

/-- A band becomes absent at a FRAME read, and its frames are returned (R224). -/
def State.loseBand (s : State) (sheet stn band : Nat) : State :=
  match s.sheet sheet with
  | some x => (s.putSheet { x with resident := tabSet false x.resident (stn * 4096 + band) false }).freeBand sheet stn band
  | none => s.freeBand sheet stn band

/-- An uncorrectable error met by a port (R224): the record, and the outcome for the ports DECODE and FRAME. `decoding` tells a
FRAME read made for a decode from another. -/
def State.dramUncorrectable (s : State) (ch addr port : Nat) (decoding : Bool) : State :=
  let b := s.bandAt addr
  let tag := match b with
    | some (sh, stn, band) => (mkTag sh stn band 2 0).toNat
    | none => 0
  let s1 := ((s.bump Reg.DRAM_ECC_UE_COUNT).wrN Reg.DRAM_ECC_ADDR_LO (addr % 2 ^ 32)).wrN Reg.DRAM_ECC_ADDR_HI
    (addr / 2 ^ 32 % 16 + port * 256)
  let s2 := (((s1.raiseBit Reg.DRAM_EVENTS 4).fault (0x180 + ch) 0x09 (addr % 2 ^ 32)).event 0x0604 [addr, port, tag]).markBad addr
  match b with
  | some (sh, stn, band) =>
    if port = 1 ∨ (port = 2 ∧ decoding) then
      let l := s2.laneOn sh stn band addr
      s2.decodeFail sh stn band 0x18 l.1 l.2.1 l.2.2
    else if port = 2 ∧ (s2.band sh stn band).isSome then s2.loseBand sh stn band
    else s2
  | none => s2

/-- A lane that takes up a segment meets the uncorrectable data that an earlier read of the block found there (R224): the
first such address that it reads. -/
def State.meetBad (s : State) (r : BandRec) (hdr : List Byte) (g : Nat) : State :=
  match (r.frames.flatMap (fun f => (tabGet [] s.dram.badAt f).reverse)).find? (r.reads hdr g) with
  | some a => s.dramUncorrectable (bitsOf a 8 8) a 1 true
  | none => s

/-! ### Segments (R194, R197) -/

/-- SEGMENT_HANDOUT (R194, R197): a free lane takes the lowest pending segment of the earliest resident band. Code 0x17 is
found when segment 0 is handed out. No segment is read from DRAM while it trains (R217). A band in a bad frame fails with code
0x18 (R224). -/
def execSegmentHandout (lane : Fin 32) (s : State) : Host.Outcome State Fault Refusal :=
  match s.laneStation lane, tabFind s.burl.lanes lane, s.flag Reg.DRAM_STATUS 2 with
  | some stn, none, false =>
    (match s.nextBand stn with
      | some (sh, band, r) =>
        let blk := s.readBlock r
        let d := s.decodeOf sh.id stn band
        let lb := hdrLineBytes blk
        if d.handed = 0 ∧ lb ≠ volLineBytes s.active s.grade then .next (s.decodeFail sh.id stn band 0x17 lane 0 0)
        else
          let g := d.redo.headD d.handed
          let o := decodeSegment blk g
          let w : LaneWork := ⟨sh.id, stn, band, g, hdrFirst blk g, lb, o.out, o.out.length,
            o.fail.map (fun c => (c, o.out.length))⟩
          let d' := { d with
            segs := hdrSegs blk, redo := d.redo.tail, handed := if d.redo = [] then d.handed + 1 else d.handed }
          .next ({ s with burl := { s.burl with
            lanes := tabPut s.burl.lanes lane w,
            decodes := tabPut s.burl.decodes (bandKey sh.id stn band) d' } }.meetBad r blk g)
      | none => .next s)
  | _, _, _ => .next s

/-- The stream line at which a lane's next line is to stand, where its sheet is bound and not stopped (R254, R255). -/
def State.streamLine (s : State) (w : LaneWork) : Option Nat :=
  ((s.stn w.station).bound.find? (fun b => decide (b.id = w.sheet) && !b.stopped)).map (fun b => b.n0 + 64 * w.band + w.line)

/-- LS_LINES of the volume in force at a station. -/
def State.lsLines (s : State) (stn : Nat) : Nat :=
  match (s.stn stn).plan with
  | some (b, g) => max 1 (volLsLines (s.alm.bank b) g)
  | none => 1

/-- The slot of a stream line has been released (R255): the facet end of its previous line has passed. -/
def State.released (s : State) (stn x : Nat) : Bool :=
  let t := s.stn stn
  t.running && decide (t.base ≤ x) && decide (x < t.fired + s.lsLines stn)

/-- The slot of a stream line (R250). -/
def State.slotOf (s : State) (stn x : Nat) : Nat := (x - (s.stn stn).base) % s.lsLines stn

/-- LINE_STORE_WRITE (R194, R255): a lane writes its next whole line into its released slot. -/
def execLineStoreWrite (lane : Fin 32) (s : State) : Host.Outcome State Fault Refusal :=
  match tabFind s.burl.lanes lane with
  | some w =>
    (match s.streamLine w with
      | some x =>
        if s.released w.station x ∧ w.lineBytes ≤ w.out.length ∧ w.out ≠ [] then
          let w' := { w with line := w.line + 1, out := w.out.drop w.lineBytes }
          let slot : LineSlot := ⟨w.sheet, w.band, w.line, w.seg, w.out.take w.lineBytes⟩
          .next ({ s with burl := { s.burl with lanes := tabPut s.burl.lanes lane w' } }.modStn w.station
            (fun t => { t with slots := tabPut t.slots (s.slotOf w.station x) slot }))
        else .next s
      | none => .next s)
  | none => .next s

/-- SEGMENT_DECODED (R185, R197, R198): a lane that has written every whole line of its segment ends it, or fails; the
last segment of a band to end has RAW_CRC checked. A segment that fails before a line is whole writes no part of it. -/
def execSegmentDecoded (lane : Fin 32) (s : State) : Host.Outcome State Fault Refusal :=
  match tabFind s.burl.lanes lane with
  | some w =>
    if w.lineBytes ≤ w.out.length ∧ w.out ≠ [] then .next s
    else
      (match w.fail with
        | some (c, o) => .next (s.decodeFail w.sheet w.station w.band c lane w.seg o)
        | none =>
          let d := s.decodeOf w.sheet w.station w.band
          let s1 := { s with burl := { s.burl with
            lanes := tabDel s.burl.lanes lane,
            decodes := tabPut s.burl.decodes (bandKey w.sheet w.station w.band) { d with ended := d.ended + 1 } } }
          if d.ended + 1 = d.segs ∧ (s.band w.sheet w.station w.band).any (fun r => !blockCrcOk (s.readBlock r)) then
            .next (s1.decodeFail w.sheet w.station w.band 0x16 lane 7 w.total)
          else .next s1)
  | none => .next s

end Sys2Proof.Machine
end

