-- ==== Sys2Proof/Machine/Pll.lean ====
section
/-!
DEFINITION. The PLLs and their band tables (R491 to R493).
-/

namespace Sys2Proof.Machine

/-- The lowest-numbered valid band entry of PLL `p` that covers `num ÷ den` Hz (R492). -/
def State.bandFor (s : State) (p num den : Nat) : Option Nat :=
  (List.range 32).find? (fun b =>
    let w := s.rdN (Reg.CLK_BAND_b p b)
    bitOf w 31 && decide (bitsOf w 9 0 * 1000000 * den ≤ num) && decide (num ≤ bitsOf w 19 10 * 1000000 * den))

/-- The lock bit of PLL `p` in CLK_STATUS (R515). -/
def State.lockBit (s : State) (p : Nat) (b : Bool) : State := s.setFlag Reg.CLK_STATUS p b

/-- PLL `p` is started, or its frequency changes to `num ÷ den` Hz (R492, R493): it takes its band and locks, or it stays
stopped with BAND_MISS. -/
def State.startPll (s : State) (p num den : Nat) : State :=
  match s.bandFor p num den with
  | some b => (s.wrN (Reg.CLK_PLL_STATE p) (b + 256)).lockBit p true
  | none =>
    ((((s.wrN (Reg.CLK_PLL_STATE p) 512).lockBit p false).raiseBit Reg.CLK_EVENTS 2).fault 0x440 0x02 (p + 256)).event
      0x1102 [p, num / (max 1 den * 1000000)]

/-- PLL `p` is in BAND_MISS (R493). -/
def State.bandMiss (s : State) (p : Nat) : Bool := s.flag (Reg.CLK_PLL_STATE p) 9

end Sys2Proof.Machine
end

