-- ==== Sys2Proof/Machine/Dram.lean ====
section
/-!
DEFINITION. The DRAM controller: training and drift, requests with their page hints and urgency, row disturbance, ECC,
the patrol scrub and the wipe (R213 to R231).
-/

namespace Sys2Proof.Machine

/-! ### Training (R213, R214) -/

/-- A write of DRAM_CTRL.RETRAIN (R217): a gap retrain awaits a common gap. -/
def State.requestRetrain (s : State) : State :=
  { s with dram := { s.dram with retrainAsked := true } }.setFlag Reg.DRAM_STATUS 3 true

/-- RETRAIN (R217). -/
def execRetrain (s : State) : Host.Outcome State Fault Refusal := .next s.requestRetrain

/-- The two temperatures of DRAM_TEMP, signed °C. -/
def State.dramTrained (s : State) : Int := signedOf 8 (s.fld Reg.DRAM_TEMP 7 0)
def State.dramNow (s : State) : Int := signedOf 8 (s.fld Reg.DRAM_TEMP 15 8)

/-- |temperature − TRAINED| in °C (R217). -/
def State.drift (s : State) : Nat := (s.dramNow - s.dramTrained).natAbs

/-- Training has failed: both channels are unusable (R214). -/
def State.trainFailed (s : State) (c0 c1 : Nat) : State :=
  let s1 := ((s.setFlag Reg.DRAM_STATUS 1 true).raiseBit Reg.DRAM_EVENTS 1).event 0x0602 [c0 + c1 * 16]
  let s2 := if c0 = 0 then s1 else s1.fault 0x180 0x0A 0
  if c1 = 0 then s2 else s2.fault 0x181 0x0A 0

/-- Training starts: no frame is free, held or being returned, no retrain is pending, and the wipe has still to run (R213,
R214, R231). With DDRPLL in BAND_MISS it fails at once (R493); the stage that DRAM_TRAIN_RESULT shows is then a free value (log
entry 22). -/
def State.startTraining (s : State) : State :=
  let s1 := (s.setFld Reg.DRAM_STATUS 4 0 4).setFlag Reg.DRAM_STATUS 6 false
  let s2 := (List.range 8).foldl (fun t i => t.wrN (Reg.DRAM_PS_HELD i) 0)
    (((s1.wrN Reg.DRAM_FRAMES_TOTAL 0).wrN Reg.DRAM_FRAMES_FREE 0).wrN Reg.DRAM_WIPE_POS 0)
  let s3 := { s2 with dram := { s2.dram with
    wiped := 0, taken := [], returning := [], trainAt := s2.tick, retrainAsked := false } }.startPll 1
    (Config.ddrPll * 1000000) 1
  if s3.bandMiss 1 then
    let c0 := 1 + s3.freeNat % 8
    let c1 := 1 + s3.freeNat 1 % 8
    ((s3.drawn 2).setFlag Reg.DRAM_STATUS 2 false).wrN Reg.DRAM_TRAIN_RESULT (c0 + c1 * 16) |>.trainFailed c0 c1
  else s3

/-- TRAINING_START (R202, R213, R491): in the tick after HOST_STATUS.READY was set, management firmware loads DRAM_ORG,
fills the band table of DDRPLL and starts training. Where persistent configuration holds no valid organisation, training
waits for the host. -/
def execTrainingStart (org : Option (Fin 16)) (bands : List Word) (s : State) : Host.Outcome State Fault Refusal :=
  if s.lcs.trainDue.all (fun t => decide (s.tick < t)) ∨ 32 < bands.length then .next s
  else
    let s1 := (List.range bands.length).foldl (fun t i => t.wr (Reg.CLK_BAND_b 1 i) (bands.getD i 0))
      { s with lcs := { s.lcs with trainDue := none } }
    match org with
    | some o => .next (if bitOf o 3 ∧ !(bitOf o 1 && bitOf o 2 && !bitOf o 0) then (s1.wrN Reg.DRAM_ORG o).startTraining else s1)
    | none => .next s1

/-- A write of DRAM_CTRL.TRAIN (R213, R214): training starts again, only on the holding page, with no ledger entry held
and a valid organisation. -/
def State.requestTraining (s : State) : State :=
  if s.holding ∧ s.ledg.sheets = [] ∧ s.flag Reg.DRAM_ORG 3 ∧ !s.flag Reg.DRAM_STATUS 2 then s.startTraining else s

/-- TRAIN (R214). -/
def execTrain (s : State) : Host.Outcome State Fault Refusal := .next s.requestTraining

/-- The wipe's FILL program on channel 63 (R227, R403, R419): management firmware gives the channel the RATE of
DRAM_WIPE_RATE and WIPE, and starts it. While HALT is set the channel is left HALTED, and RESUME starts the fill (log entry
20). -/
def State.startWipe (s : State) : State :=
  let s1 := ((s.setFld (Reg.DMA_CH_CFG 63) 15 8 (s.fld Reg.DRAM_WIPE_RATE 7 0)).setFlag (Reg.DMA_CH_CFG 63) 16 true).modDch 63
    (fun _ => { DmaChan.init with was := 2 })
  s1.wipeChannel (if s1.dmaHalt then 6 else 2)

/-- Training has passed on both channels: the page store has its frames, and the wipe starts on channel 63 (R213,
R227). -/
def State.trainPassed (s : State) (temp : Int) : State :=
  let n := s.dramBytes / 16384 - 256
  let s1 := (((s.setFlag Reg.DRAM_STATUS 0 true).setFld Reg.DRAM_TEMP 7 0 (codeOf 8 temp)).setFld Reg.DRAM_TEMP 15 8
    (codeOf 8 temp)).wrN Reg.DRAM_FRAMES_TOTAL n
  let s2 := (s1.raiseBit Reg.DRAM_EVENTS 0).event 0x0601
    [s.rdN Reg.DRAM_ORG, codeOf 8 temp, s.tick - s.dram.trainAt, s.tick - s.dram.trainAt]
  { s2 with dram := { s2.dram with
    wipeAt := s2.tick, trackAt := s2.tick, tempAt := s2.tick, scrubAt := 0, scrubFrom := s2.tick } }.startWipe

/-- The code that a channel's components give (R204): 7 where one reports another width or density than DRAM_ORG, else 8 where
one requires RFM, else 0. -/
def State.partsCode (s : State) (ps : List MemPart) : Nat :=
  if ps.any (fun p => (p.wide != s.flag Reg.DRAM_ORG 0) || (p.dense != s.flag Reg.DRAM_ORG 1)) then 7
  else if ps.any (·.rfm) then 8
  else 0

/-- The result code of a channel: the stage that failed, else what the mode registers give. -/
def State.trainCode (s : State) (stage : Nat) (ps : List MemPart) : Nat := if stage = 0 then s.partsCode ps else stage

/-- TRAINING_DONE (R204, R213, R214): training ends with a result code for each channel and the temperature. Where a stage
fails and the mode registers disagree too, the stage's code is shown (DESIGN CHOICE, log entry 20). -/
def execTrainingDone (c0 c1 : ChannelTraining) (temp : Int) (s : State) : Host.Outcome State Fault Refusal :=
  let r0 := s.trainCode c0.stage c0.parts
  let r1 := s.trainCode c1.stage c1.parts
  if !s.flag Reg.DRAM_STATUS 2 || s.dram.retraining then .next s
  else
    let s1 := (s.setFlag Reg.DRAM_STATUS 2 false).wrN Reg.DRAM_TRAIN_RESULT (r0 + r1 * 16)
    .next (if r0 = 0 ∧ r1 = 0 then s1.trainPassed temp else s1.trainFailed r0 r1)

/-! ### Temperature, tracking, gap retrain (R215 to R217) -/

/-- A gap retrain is due: the drift has reached DELTA, or one was asked for (R217). -/
def State.retrainDue (s : State) : Bool :=
  s.dram.retrainAsked || decide (s.fld Reg.DRAM_RETRAIN_CFG 7 0 ≤ s.drift)

/-- DRAM_TEMP_READ (R215, R217): every 32 ms the on-die sensor and the warmest component are read, and whether a
component reports above 85 °C. -/
def execDramTempRead (phy warmest : Int) (hot : Bool) (s : State) : Host.Outcome State Fault Refusal :=
  if !s.flag Reg.DRAM_STATUS 0 || decide (s.tick < s.dram.tempAt + 1280) then .next s
  else
    let s1 := { s.setFld Reg.DRAM_TEMP 15 8 (codeOf 8 (max phy warmest)) with
      dram := { s.dram with tempAt := s.tick, fastRefresh := hot } }
    let s2 := s1.setFlag Reg.DRAM_STATUS 3 s1.retrainDue
    let force := decide (s.fld Reg.DRAM_RETRAIN_CFG 15 8 ≤ s2.drift)
    let s3 := s2.setFlag Reg.DRAM_STATUS 6 force
    .next (if force ∧ !s.flag Reg.DRAM_STATUS 6 then
        (s3.raiseBit Reg.DRAM_EVENTS 8).event 0x0608 [s3.fld Reg.DRAM_TEMP 15 8, s3.fld Reg.DRAM_TEMP 7 0]
      else s3)

/-- TRACKING (R216): every TRACK ticks the oscillator is read and the write DQS delays are moved. The delays are inside
the PHY; the model keeps the tick of the run. -/
def execTracking (s : State) : Host.Outcome State Fault Refusal :=
  if s.flag Reg.DRAM_STATUS 0 ∧ s.dram.trackAt + s.fld Reg.DRAM_RETRAIN_CFG 23 16 ≤ s.tick then
    .next { s with dram := { s.dram with trackAt := s.tick } }
  else .next s

/-- GAP_RETRAIN (R217): in a common gap with drift or a request pending. -/
def effGapRetrain (s : State) : Host.Outcome State Fault Refusal :=
  if s.sheetGap ∧ s.retrainDue ∧ s.flag Reg.DRAM_STATUS 0 ∧ !s.flag Reg.DRAM_STATUS 2 then
    .next (({ s with dram := { s.dram with retraining := true } }.setFlag Reg.DRAM_STATUS 2 true).setFlag Reg.DRAM_STATUS 3
      false |>.event 0x0603 [codeOf 16 (s.dramNow - s.dramTrained), s.tick])
  else .next s

/-- GAP_RETRAIN_DONE (R217): the waiting requests proceed. TRAINED takes the present temperature, from which the next
drift is measured (log entry 20). -/
def execGapRetrainDone (s : State) : Host.Outcome State Fault Refusal :=
  if s.dram.retraining then
    .next ((((({ s with dram := { s.dram with retraining := false, retrainAsked := false } }.setFlag Reg.DRAM_STATUS 2
      false).setFld Reg.DRAM_TEMP 7 0 (s.fld Reg.DRAM_TEMP 15 8)).setFlag Reg.DRAM_STATUS 6 false).setFlag Reg.DRAM_STATUS 3
        false).raiseBit Reg.DRAM_EVENTS 2)
  else .next s

/-! ### Requests (R218 to R222) -/

/-- Channel, bank index and row of an address (R205). -/
def State.dramPlace (s : State) (a : Nat) : Nat × Nat × Nat :=
  let w := if s.flag Reg.DRAM_ORG 0 then 4 else 5
  let r := if s.flag Reg.DRAM_ORG 2 then 1 else 0
  (bitsOf a 8 8, bitsOf a (13 + w) 14 + (if r = 1 then bitsOf a (14 + w) (14 + w) * 32 else 0) + bitsOf a 8 8 * 64,
    a / 2 ^ (14 + w + r))

/-- Urgency of a request of a port at an age, both in ns (R220). -/
def urgency (target age : Nat) : Nat :=
  (if target * 50 ≤ age * 100 then 1 else 0) + (if target * 75 ≤ age * 100 then 1 else 0) +
  (if target * 90 ≤ age * 100 then 1 else 0) + (if target ≤ age then 1 else 0)

/-- The urgency of a waiting request. -/
def State.urgencyOf (s : State) (w : DramWait) (now : Nat) : Nat :=
  urgency (s.fld (Reg.DRAM_PORT_LAT w.port) 19 0) (now - w.arrived)

/-- A request hits an open row that has not stood idle for DRAM_PAGE_IDLE (R219). -/
def State.rowHit (s : State) (w : DramWait) (now : Nat) : Bool :=
  let p := s.dramPlace w.addr
  match tabFind s.dram.openRows p.2.1 with
  | some o => decide (o.row = p.2.2) && decide (now < o.used + s.fld Reg.DRAM_PAGE_IDLE 11 0)
  | none => false

/-- A request can be issued: a throttled port waits GAP between its activations of the bank (R222). -/
def State.canIssue (s : State) (w : DramWait) (now : Nat) : Bool :=
  s.rowHit w now ||
  (match tabFind s.dram.throttled ((s.dramPlace w.addr).2.1 * 8 + w.port) with
    | some t => decide (t + s.fld Reg.DRAM_RH_CFG 31 16 * 10 ≤ now)
    | none => true)

/-- Request `a` is chosen before `b` (R220): urgency, then row hit, then age. -/
def State.chosenBefore (s : State) (now : Nat) (a b : DramWait) : Bool :=
  let ua := s.urgencyOf a now
  let ub := s.urgencyOf b now
  if ua ≠ ub then decide (ub < ua)
  else if s.rowHit a now != s.rowHit b now then s.rowHit a now
  else decide (a.arrived < b.arrived)

/-- Requests that have reached urgency 4 are counted once (R220). -/
def State.countMisses (s : State) (now : Nat) : State :=
  s.dram.waits.foldl
    (fun t w => if !w.missed && decide (s.urgencyOf w now = 4) then t.bump (Reg.DRAM_PORT_MISS w.port) else t)
    { s with dram := { s.dram with waits :=
      (s.dram.waits.map (fun (w : DramWait) => { w with missed := w.missed || decide (s.urgencyOf w now = 4) })) } }

/-- One more sampled activation of a row by a port among a bank's entries (R221). -/
def sampleRow (es : List RowEntry) (row port : Nat) : List RowEntry :=
  if es.any (·.row = row) then
    es.map (fun e => if e.row = row then
      { e with count := e.count + 1, ports := e.ports.set port (e.ports.getD port 0 + 1) } else e)
  else if es.length < 8 then es ++ [⟨row, 1, (List.replicate 6 0).set port 1⟩]
  else
    let low := (es.map (·.count)).foldl min (es.headD ⟨0, 0, []⟩).count
    let i := (es.takeWhile (fun e => decide (e.count ≠ low))).length
    es.set i ⟨row, low + 1, (List.replicate 6 0).set port (low + 1)⟩

/-- The responsible port of an entry: the highest count, the lowest number on a tie (R222). -/
def RowEntry.port (e : RowEntry) : Nat :=
  (List.range 6).foldl (fun p i => if e.ports.getD p 0 < e.ports.getD i 0 then i else p) 0

/-- A sampled activation (R221), and the throttling of a row that becomes hot (R222). -/
def State.sampleActivation (s : State) (bank row port now : Nat) : State :=
  let before := tabGet [] s.dram.rows bank
  let es := sampleRow before row port
  let s1 := { s with dram := { s.dram with rows := tabSet [] s.dram.rows bank es } }
  let k := max 1 (s.fld Reg.DRAM_RH_CFG 7 0)
  let lim := s.fld Reg.DRAM_RH_LIMIT 23 0
  let hot (l : List RowEntry) : Option RowEntry := l.find? (fun e => decide (e.row = row) && decide (lim ≤ e.count * k))
  match hot es, hot before with
  | some e, none =>
    ({ s1 with dram := { s1.dram with throttled := tabPut s1.dram.throttled (bank * 8 + e.port) now } }.bump
      (Reg.DRAM_PORT_THROT e.port)).raiseBit Reg.DRAM_EVENTS 5 |>.event 0x0605
        [bank / 64, bank / 32 % 2, bank % 32, row, e.port]
  | _, _ => s1

/-- Serve a chosen request (R219, R221): the row it opens or leaves open, and its activation. -/
def State.serve (s : State) (w : DramWait) (now : Nat) (sampled : Bool) : State :=
  let p := s.dramPlace w.addr
  let hit := s.rowHit w now
  let rows := if w.close then tabDel s.dram.openRows p.2.1 else tabPut s.dram.openRows p.2.1 ⟨p.2.2, now⟩
  let s1 := { s with dram := { s.dram with waits := s.dram.waits.erase w, openRows := rows } }
  if hit then s1
  else
    let s2 := if (tabFind s1.dram.throttled (p.2.1 * 8 + w.port)).isSome then
        { s1 with dram := { s1.dram with throttled := tabPut s1.dram.throttled (p.2.1 * 8 + w.port) now } }
      else s1
    if sampled then s2.sampleActivation p.2.1 p.2.2 w.port now else s2

/-- The page hint of a port 3 request of channel `c`: OPEN of the instruction at its PC, or of the descriptor. -/
def State.dmaHint (s : State) (c : Nat) (desc : Bool) : Bool :=
  if (s.dch c).list then desc else bitOf (leAt (s.instr c (s.chPc c)) 1 1) 1

/-- A request carries a close hint (R218): ports 0 and 1 open, port 3 as its channel program gives, the others close. -/
def State.closeHint (s : State) (r : MemReq) : Bool :=
  if r.port.val < 2 then false else if r.port.val = 3 then !s.dmaHint r.chan r.isOpen else true

/-- A request arrives. A write of the MGMT port to a page-store frame is discarded and reported (R207). -/
def State.dramArrive (s : State) (r : MemReq) : State :=
  if r.port.val = 4 ∧ r.write ∧ r.addr < s.dramBytes - 256 * 16384 then s.fault 0x182 0x03 (r.addr % 2 ^ 32)
  else
    let w : DramWait := ⟨r.port, r.addr, s.closeHint r, r.time, r.write || decide (r.port.val = 0), r.data, false⟩
    { s with dram := { s.dram with waits := s.dram.waits ++ [w] } }

/-- What a served request brings its requester (R207, R223, R224): a write of the MGMT port is carried out; a read meets what
its ECC finds. -/
def State.dramAnswer (s : State) (ch : Nat) (w : DramWait) (now : Nat) (ecc : Fin 3) (decoding : Bool) : State :=
  if w.write then (if w.port = 4 then s.dramWrite w.addr w.data else s)
  else
    let s1 := if w.port = 4 then s.emit (.mgmtData w.addr (decide (ecc.val = 2))) else s
    if ecc.val = 1 then
      let back : DramWait := ⟨5, w.addr, true, now, true, [], false⟩
      let s2 := s1.dramCorrected ch w.addr
      { s2 with dram := { s2.dram with waits := s2.dram.waits ++ [back] } }
    else if ecc.val = 2 then
      let s2 := s1.dramUncorrectable ch w.addr w.port decoding
      if w.port = 3 then s2.busError 4 (2 ^ 56 + w.addr) false else s2
    else s1

/-- The request that channel `ch` serves next at time `now` (R220), among those it can issue. -/
def State.chosen (s : State) (ch now : Nat) : Option DramWait :=
  (s.dram.waits.filter (fun w => decide ((s.dramPlace w.addr).1 = ch) && s.canIssue w now)).foldl
    (fun (o : Option DramWait) w => match o with
      | none => some w
      | some v => if s.chosenBefore now w v then some w else some v) none

/-- DRAM_REQUEST (R207, R218 to R224): requests arrive; channel `ch` chooses one at time `now` and serves it. Whether its
activation is sampled (R221) and what its ECC finds come from outside. Nothing is served while a gap retrain or training
runs (R217). -/
def execDramRequest (ch : Fin 2) (arrivals : List MemReq) (now : Nat) (sampled : Bool) (ecc : Fin 3) (decoding : Bool)
    (s : State) : Host.Outcome State Fault Refusal :=
  let s1 := (arrivals.foldl State.dramArrive s).countMisses now
  if s1.flag Reg.DRAM_STATUS 2 || !s1.flag Reg.DRAM_STATUS 0 then .next s1
  else
    match s1.chosen ch now with
    | none => .next s1
    | some w => .next ((s1.serve w now sampled).dramAnswer ch w now ecc decoding)

/-- RH_WINDOW_CLEAR (R221, R222): a refresh window ends; every entry is cleared and no port is throttled. -/
def execRhWindowClear (s : State) : Host.Outcome State Fault Refusal :=
  .next { s with dram := { s.dram with rows := [], throttled := [] } }

/-- Ticks of DRAM_SCRUB_PERIOD (R225). -/
def State.scrubTicks (s : State) : Nat := s.fld Reg.DRAM_SCRUB_PERIOD 7 0 * 3600 * 40000

/-- PATROL_SCRUB (R223 to R225): the next page-store frame, in ascending order, is to be read through port 5, on both channels.
A pass reads each frame once, and the next one begins when its period has ended. The requests are served, with what their ECC
finds, as those of any port. -/
def execPatrolScrub (now0 now1 : Nat) (s : State) : Host.Outcome State Fault Refusal :=
  let again := decide (s.framesTotal ≤ s.dram.scrubAt)
  if !s.flag Reg.DRAM_STATUS 0 || decide (s.scrubTicks = 0) || s.flag Reg.DRAM_STATUS 2 ||
      (again && decide (s.tick < s.dram.scrubFrom + s.scrubTicks)) then .next s
  else
    let f := if again then 0 else s.dram.scrubAt
    let read (ch now : Nat) : DramWait := ⟨5, f * 16384 + 256 * ch, true, now, false, [], false⟩
    .next { s with dram := { s.dram with
      scrubAt := f + 1, scrubFrom := if again then s.tick else s.dram.scrubFrom, waits := s.dram.waits ++ [read 0 now0, read 1 now1] } }

/-! ### The wipe (R227) -/

/-- WIPE_GROUP_DONE (R227): every byte of the next group of 256 frames has been written with zeros; the group joins the
free list. The wipe runs while DMA channel 63 does, and the requests of ports 0 to 2 that wait go before it. -/
def execWipeGroupDone (s : State) : Host.Outcome State Fault Refusal :=
  if !s.flag Reg.DRAM_STATUS 0 || s.flag Reg.DRAM_STATUS 4 || s.flag Reg.DRAM_STATUS 2 || !s.wipeRuns ||
      s.dram.waits.any (fun w => decide (w.port ≤ 2)) then .next s
  else
    let lo := s.dram.wiped
    let hi := min s.framesTotal (lo + 256)
    let good := (hi - lo) - (s.dram.bad.filter (fun b => decide (lo ≤ b.1 ∧ b.1 < hi))).length
    let s1 := { s with dram := { s.dram with
      wiped := hi, bytes := s.dram.bytes.filter (fun b => decide (b.1 < lo ∨ hi ≤ b.1)) } }
    let s2 := (s1.wrN Reg.DRAM_WIPE_POS hi).wrN Reg.DRAM_FRAMES_FREE (s1.rdN Reg.DRAM_FRAMES_FREE + good)
    .next (if hi = s.framesTotal then
        ((s2.setFlag Reg.DRAM_STATUS 4 true).raiseBit Reg.DRAM_EVENTS 7).event 0x0607 [hi, s.tick - s.dram.wipeAt] |>.wipeChannel 4
      else s2)

end Sys2Proof.Machine
end

