-- ==== Sys2Proof/Machine/P256.lean ====
section
/-!
DEFINITION. ECDSA signatures over P-256, as boot images and life-cycle tokens carry them (R503, R504, R511).
-/

namespace Sys2Proof.Machine

/-- The prime of the field, the coefficient b, the order of the base point, and the base point, of P-256. -/
def p256P : Nat := 0xFFFFFFFF00000001000000000000000000000000FFFFFFFFFFFFFFFFFFFFFFFF
def p256B : Nat := 0x5AC635D8AA3A93E7B3EBBD55769886BC651D06B0CC53B0F63BCE3C3E27D2604B
def p256N : Nat := 0xFFFFFFFF00000000FFFFFFFFFFFFFFFFBCE6FAADA7179E84F3B9CAC2FC632551
def p256Gx : Nat := 0x6B17D1F2E12C4247F8BCE6E563A440F277037D812DEB33A0F4A13945D898C296
def p256Gy : Nat := 0x4FE342E2FE1A7F9B8EE7EB4A7C0F9E162BCE33576B315ECECBB6406837BF51F5

/-- Subtraction modulo `m`. -/
def subMod (m a b : Nat) : Nat := (a % m + m - b % m) % m

/-- The bits of a 256-bit number, most significant first. -/
def bits256 (n : Nat) : List Bool := (List.range 256).map (fun i => bitOf n (255 - i))

/-- Power modulo `m`. -/
def powMod (m a e : Nat) : Nat :=
  (bits256 e).foldl (fun r b => let q := r * r % m; if b then q * a % m else q) 1

/-- The inverse modulo a prime `m`. -/
def invMod (m a : Nat) : Nat := powMod m (a % m) (m - 2)

/-- A point in Jacobian coordinates; z = 0 is the point at infinity. -/
structure CurvePoint where
  x : Nat
  y : Nat
  z : Nat
  deriving DecidableEq, Repr

/-- The double of a point of y² = x³ − 3x + b. -/
def doublePoint (p : CurvePoint) : CurvePoint :=
  let m := p256P
  let zz := p.z * p.z % m
  let yy := p.y * p.y % m
  let s := 4 * p.x * yy % m
  let t := 3 * (subMod m p.x zz) * (p.x + zz) % m
  let x := subMod m (t * t) (2 * s)
  ⟨x, subMod m (t * subMod m s x) (8 * yy * yy), 2 * p.y * p.z % m⟩

/-- The sum of two points. -/
def addPoint (p q : CurvePoint) : CurvePoint :=
  let m := p256P
  if p.z = 0 then q
  else if q.z = 0 then p
  else
    let pz := p.z * p.z % m
    let qz := q.z * q.z % m
    let u1 := p.x * qz % m
    let u2 := q.x * pz % m
    let s1 := p.y * qz * q.z % m
    let s2 := q.y * pz * p.z % m
    if u1 = u2 then (if s1 = s2 then doublePoint p else ⟨1, 1, 0⟩)
    else
      let h := subMod m u2 u1
      let r := subMod m s2 s1
      let hh := h * h % m
      let v := u1 * hh % m
      let x := subMod m (r * r) (h * hh + 2 * v)
      ⟨x, subMod m (r * subMod m v x) (s1 * (h * hh)), p.z * q.z * h % m⟩

/-- A multiple of a point. -/
def mulPoint (k : Nat) (p : CurvePoint) : CurvePoint :=
  (bits256 k).foldl (fun r b => let d := doublePoint r; if b then addPoint d p else d) ⟨1, 1, 0⟩

/-- The pair is a point of the curve. -/
def onCurve (x y : Nat) : Bool :=
  decide (x < p256P) && decide (y < p256P) &&
  decide (y * y % p256P = subMod p256P (x * x * x + p256B) (3 * x))

/-- The ECDSA signature (r, s) of a SHA-256 digest verifies under a public key, all as big-endian bytes (FIPS 186-5). -/
def ecdsaVerify (pubkey digest signature : List Byte) : Bool :=
  let x := beNat (bytesAt pubkey 0 32)
  let y := beNat (bytesAt pubkey 32 32)
  let r := beNat (bytesAt signature 0 32)
  let s := beNat (bytesAt signature 32 32)
  if onCurve x y && decide (0 < r) && decide (r < p256N) && decide (0 < s) && decide (s < p256N) then
    let w := invMod p256N s
    let q := addPoint (mulPoint (beNat digest * w % p256N) ⟨p256Gx, p256Gy, 1⟩) (mulPoint (r * w % p256N) ⟨x, y, 1⟩)
    decide (q.z ≠ 0) && decide (q.x * invMod p256P (q.z * q.z) % p256P % p256N = r)
  else false

end Sys2Proof.Machine
end

