-- ==== Sys2Proof/Machine/Wire.lean ====
section
/-!
DEFINITION. The frames and reports of the serial links as bytes: what the controller reads from a return frame or a report,
and what it sends between the ordered sets K27.7 and K29.7 (R286 to R288, R296, R331, R333, R362, R363).
-/

namespace Sys2Proof.Machine

/-! ### What the controller reads -/

/-- A byte string has `n` bytes, the last four of which are the CRC-32 of those before them (R39). -/
def crcGood (bs : List Byte) (n : Nat) : Bool :=
  decide (bs.length = n) && decide (leAt bs (n - 4) 4 = crc32 (bs.take (n - 4)))

/-- Bytes with a CRC-32 behind them. -/
def endedBy (bs : List Byte) (crc : Word) : List Byte := bs ++ leBytes 4 crc.toNat

/-- A facet report of the back channel, the bytes between SOF and EOF (R288). -/
def readFacet (bs : List Byte) : FacetReport :=
  let m := leAt bs 14 96
  { crcOk := crcGood bs 116, sweepValid := bitOf (leAt bs 1 1) 0, frameBad := bitOf (leAt bs 1 1) 1,
    ldenSeen := bitOf (leAt bs 1 1) 2, seq := leAt bs 2 4, presence := leAt bs 6 8,
    readings := (List.range 64).map (fun p => bitsOf m (12 * p + 11) (12 * p)), temp := signedOf 16 (leAt bs 110 2) }

/-- A TABLE_ACK report (R288): whether its CRC is good, TABLE_ID, SEQ and the CRC of the table as held. -/
def readAck (bs : List Byte) : AckReport :=
  { crcOk := crcGood bs 14, id := leAt bs 1 1, seq := leAt bs 2 4, crc := leAt bs 6 4 }

/-- A STATUS report (R288). -/
def readStatus (bs : List Byte) : StatusReport :=
  let f := leAt bs 1 1
  { crcOk := crcGood bs 8, ready := bitOf f 0, blockLock := bitOf f 1, deskewed := bitOf f 2,
    ldenSeen := bitOf f 3, code := leAt bs 2 2 }

/-- A return slot of a step link (R296). -/
def readStepSlot (w : Nat) : StepSlot :=
  { emfA := signedOf 16 w, emfB := signedOf 16 (bitsOf w 31 16), flags := bitsOf w 36 32, emfValid := bitOf w 37,
    addrSeen := bitsOf w 57 48 }

/-- A return frame of a step link: 204 bytes, 24 slots (R296). -/
def readStepFrame (bs : List Byte) : StepFrame :=
  { crcOk := crcGood bs 204, slots := (List.range 24).map (fun i => readStepSlot (leAt bs (8 + 8 * i) 8)) }

/-- A slot of an axis link's inbound frame at offset `o` (R333). -/
def readAxisSlot (bs : List Byte) (o : Nat) : AxisSlot :=
  let at2 (k : Nat) : Int := signedOf 16 (leAt bs (o + k) 2)
  { angle := leAt bs o 3, flags := leAt bs (o + 3) 1, i0 := at2 4, i1 := at2 6, vu := at2 8, vv := at2 10, vw := at2 12,
    peak := leAt bs (o + 14) 2 }

/-- An inbound frame of an axis link: 208 bytes, six slots (R333). -/
def readAxisFrame (bs : List Byte) : AxisFrame :=
  { crcOk := crcGood bs 208, tick := leAt bs 0 6, vbus := leAt bs 6 2, status := leAt bs 8 2,
    slots := (List.range 6).map (fun i => readAxisSlot bs (12 + 32 * i)) }

/-- A return slot of an HV link (R363). -/
def readHvSlot (w : Nat) : HvSlot :=
  { readings := (List.range 4).map (fun j => bitsOf w (12 * j + 11) (12 * j)), fault := bitsOf w 51 48, onSeen := bitsOf w 55 52,
    ready := bitOf w 56, overtemp := bitOf w 57 }

/-- A return frame of an HV link: 140 bytes, sixteen slots (R362, R363). -/
def readHvFrame (bs : List Byte) : HvFrame :=
  { crcOk := crcGood bs 140, slots := (List.range 16).map (fun i => readHvSlot (leAt bs (8 + 8 * i) 8)) }

/-! ### What the controller sends -/

/-- The symbols of a frame with this content: K27.7, the bytes and their CRC-32, K29.7 (R296, R331, R362). -/
def frameSyms (body : List Byte) : List Sym :=
  .k27 :: ((body ++ leBytes 4 (crc32 body)).map .data ++ [.k29])

/-- The outbound slot of a stepper axis (R296). -/
def stepSlotWord (addr scale : Nat) (en : Bool) : Nat := addr % 1024 + en.toNat * 2 ^ 10 + scale % 256 * 2 ^ 12

/-- A step link's frame of tick `n` (R296). -/
def stepFrameSyms (n nodes : Nat) (slots : List Nat) : List Sym :=
  frameSyms (leBytes 6 n ++ leBytes 1 nodes ++ [0] ++ slots.flatMap (leBytes 8))

/-- An axis link's outbound frame of tick `n` (R331). -/
def axisFrameSyms (n : Nat) (slots : List (List Byte)) : List Sym := frameSyms (leBytes 6 n ++ [0, 0] ++ slots.flatten)

/-- An HV link's outbound frame of tick `n` (R362): four 16-bit channel words for each node. -/
def hvFrameSyms (n nodes : Nat) (words : List Nat) : List Sym :=
  frameSyms (leBytes 6 n ++ leBytes 1 nodes ++ [0] ++ words.flatMap (leBytes 2))

/-- The bytes in whole blocks of eight, the last padded with zeros. -/
def dataBlocks (bs : List Byte) : List Nat := (List.range ((bs.length + 7) / 8)).map (fun k => leAt bs (8 * k) 8)

/-- A frame of the beam link (R285): SOF with KIND and SEQ, the data blocks, EOF with their CRC-32 and their count. -/
def beamFrame (kind seq : Nat) (blocks : List Nat) : List BeamBlock :=
  let sof := 0x78 + kind % 256 * 2 ^ 8 + seq % 2 ^ 32 * 2 ^ 16
  let eof := 0x87 + crc32 (blocks.flatMap (leBytes 8)) * 2 ^ 8 + blocks.length % 2 ^ 24 * 2 ^ 40
  ⟨true, sof⟩ :: (blocks.map (fun b => ⟨false, b⟩) ++ [⟨true, eof⟩])

end Sys2Proof.Machine
end

