-- ==== Sys2Proof/Machine/Stepper.lean ====
section
/-!
DEFINITION. STEP: the stepper axes, their profiles, cams, homing, stall and commands, and the virtual masters
(R295 to R317). Positions and speeds are in 2⁻²⁴ microstep and 2⁻²⁴ microstep a tick.
-/

namespace Sys2Proof.Machine

/-! ### Registers of a link and an axis -/

/-- State of step link `k`: 0 DOWN, 1 TRAINING, 2 UP, 3 FAULT (R297), and NODES. -/
def State.stepLink (s : State) (k : Nat) : Nat := s.fld (Reg.STEP_LINK_STATE k) 1 0
def State.stepNodes (s : State) (k : Nat) : Nat := s.fld (Reg.STEP_LINK_STATE k) 12 8

/-- A synchronous axis runs on its observer (R350, R360). -/
def SyncAxis.observed (x : SyncAxis) : Bool := !x.aligned && x.bridges && !(decide (x.mode = .start) && !x.ramping)

/-- A synchronous axis's position is valid (R338): r or the observer is in use, and the axis is not DISABLED, not in RECOVER
before its catch, not in FAULT with bridges off. -/
def SyncAxis.posValid (x : SyncAxis) : Bool :=
  (x.aligned || x.observed) && decide (x.mode ≠ .disabled) && decide (x.mode ≠ .recover) && !(decide (x.mode = .fault) && !x.bridges)

/-- The axis is at rest (R300). -/
def StepAxis.still (x : StepAxis) : Bool := decide (x.v = 0)

/-- STEP_AXa_STATE (R327). -/
def StepMode.code : StepMode → Nat
  | .disabled => 0
  | .idle => 1
  | .waitSpin => 2
  | .move => 3
  | .velocity => 4
  | .stopping => 5
  | .homing => 6
  | .cam => 7
  | .ledger => 8
  | .fault => 9

/-! ### Profiles (R301, R302) -/

/-- A profile is valid (R301). -/
def profileValid (p : List Nat) : Bool :=
  match p with
  | [vs, vp, vk, vm, a1, a2, d1, d2] =>
    decide (0 < vs) && decide (vs ≤ vk) && decide (vk ≤ vm) && decide (vm ≤ 255 * 2 ^ 24) && decide (0 < vp) &&
    decide (vp ≤ vk) && decide (a1 ≠ 0) && decide (a2 ≠ 0) && decide (d1 ≠ 0) && decide (d2 ≠ 0)
  | _ => false

/-- Fields of a profile: VSTART, VSTOP, VKNEE, VMAX, A1, A2, D1, D2. -/
def pf (p : List Nat) (i : Nat) : Nat := p.getD i 0

/-- The braking distance of R302 from speed `u`, times 2 × D1 × D2. -/
def brakeNum (p : List Nat) (u : Nat) : Int :=
  let vp : Int := pf p 1
  let vk : Int := pf p 2
  let d1 : Int := pf p 6
  let d2 : Int := pf p 7
  if u ≤ pf p 2 then ((u : Int) * u - vp * vp) * d2 else (vk * vk - vp * vp) * d2 + ((u : Int) * u - vk * vk) * d1

/-- 2 × D1 × D2. -/
def brakeDen (p : List Nat) : Int := 2 * (pf p 6 : Int) * pf p 7

/-- A distance no longer exceeds brake(u) + `extra` (R302, R306). -/
def withinBrake (p : List Nat) (u : Nat) (extra d : Int) : Bool := decide ((d - extra) * brakeDen p ≤ brakeNum p u)

/-- The speed one tick further up the ramp, to at most `top` (R302). -/
def faster (p : List Nat) (u top : Nat) : Nat := min top (u + (if u < pf p 2 then pf p 4 else pf p 5))

/-- The speed one tick further down the ramp, to at least `low` (R302). -/
def slower (p : List Nat) (u low : Nat) : Nat := max (min u low) (u - (if pf p 2 < u then pf p 7 else pf p 6))

/-- Make `u` point the way of `dir`. -/
def directed (dir : Int) (u : Nat) : Int := if dir < 0 then -(u : Int) else u

/-- A move decelerates to its target: from the tick in which the remaining distance no longer exceeds brake(|v|) + |v|
(R302). -/
def moveBrakes (p : List Nat) (v d : Int) (braking : Bool) : Bool :=
  decide (v ≠ 0) && (braking || withinBrake p v.natAbs v.natAbs d.natAbs)

/-- The speed of the next tick in a move towards a place `d` away (R302): from rest VSTART; a deceleration to the target
goes on to VSTOP, which the axis then keeps; in the last tick the remainder. -/
def moveSpeed (p : List Nat) (v d : Int) (braking : Bool) : Int :=
  let u := v.natAbs
  let n :=
    if u = 0 then pf p 0
    else if moveBrakes p v d braking then slower p u (pf p 1)
    else if pf p 3 < u then slower p u (pf p 3)
    else faster p u (pf p 3)
  directed d (min n d.natAbs)

/-- The speed of the next tick towards a speed of the same direction (R304, R309); a speed of 0 is reached as STOP does. -/
def speedStep (p : List Nat) (v goal : Int) : Int :=
  let u := v.natAbs
  let g := goal.natAbs
  if u = 0 then directed goal (min g (pf p 0))
  else if u < g then directed v (faster p u g)
  else if g = 0 then (if u ≤ pf p 1 then 0 else directed v (slower p u (pf p 1)))
  else directed v (slower p u g)

/-- The speed of the next tick while the axis is brought to rest (R307). Without a valid profile it stops at once. -/
def haltStep (p : List Nat) (v : Int) : Int :=
  if v.natAbs ≤ pf p 1 ∨ !profileValid p then 0 else directed v (slower p v.natAbs (pf p 1))

/-- A target lies behind a moving axis (R306). -/
def behind (p : List Nat) (v d : Int) : Bool :=
  decide (v ≠ 0) && (decide (signOf d ≠ signOf v) || withinBrake p v.natAbs 0 d.natAbs)

/-! ### Results of commands (R304) -/

/-- A command with its checks, each with the result it refuses with, in the order of R304; `f` is its effect. -/
def State.stepCommand (s : State) (a : Nat) (checks : List (Bool × Nat)) (f : State → State) : State :=
  match checks.find? (·.1) with
  | some c => (s.wrN (Reg.STEP_AX_RESULT a) c.2).raiseBit Reg.STEP_EVENTS 8
  | none => f (s.wrN (Reg.STEP_AX_RESULT a) 1)

/-- The checks that every command but DISABLE shares: the safe state, LEDGER mode, and the modes that accept it. -/
def State.stepChecks (s : State) (a : Nat) (accepted : Bool) : List (Bool × Nat) :=
  [(s.safe, 4), (decide ((s.ax a).mode = .ledger), 8), (!accepted, 2)]

/-- The mode of an axis is one of these. -/
def State.stepIn (s : State) (a : Nat) (ms : List StepMode) : Bool := ms.contains (s.ax a).mode

/-! ### Faults (R297, R305, R307, R316, R317) -/

/-- An axis enters FAULT (R300, R307). With LINK_LOSS or START_TIMEOUT its bridges go off and it counts as at rest; with any
other kind it decelerates. A designated axis in LEDGER mode ramps as R172 gives. A fault of a path axis is a jam (R138). -/
def State.stepFault (s : State) (a kind detail status : Nat) : State :=
  let s1 := (s.wrN (Reg.STEP_AX_FAULT a) (kind + detail * 256 + status * 65536)).fault (0x240 + a) kind 0
  let s2 :=
    if kind = 0x07 ∨ kind = 0x0E then
      s1.modAx a (fun x => { x with
        mode := .fault, v := 0, guard := 0, braking := false, goal := .none, halt := .no, dwell := 0, bridges := false,
        homing := none, hphase := 0, cam := none, camLock := false, amplitude := none, offAt := s.tick })
    else if (s.ax a).mode = .ledger ∧ s.backhitching then
      s1.modAx a (fun x => { x with mode := .fault, goal := .speed x.v, halt := .hold, bridges := true })
    else (s1.brakeStep a .fault .fault).modAx a (fun x => { x with bridges := true })
  s2.axisFaultJam true a

/-- HOMED is cleared. -/
def State.clearHomed (s : State) (a : Nat) : State := s.modAx a (fun x => { x with homed := false })

/-- A step link changes its state (R297). CAUSE keeps what the last FAULT recorded. -/
def State.setStepLink (s : State) (k new cause : Nat) : State :=
  let old := s.stepLink k
  let s0 := s.setFld (Reg.STEP_LINK_STATE k) 1 0 new
  let s1 := if new = 3 then s0.setFld (Reg.STEP_LINK_STATE k) 19 16 cause else s0
  (({ s1 with step := { s1.step with links := s1.step.links.modify k (fun _ => ⟨s.tick, 0, 0⟩),
                                     waiting := tabDel s1.step.waiting k } }.raiseBit Reg.STEP_EVENTS 6).event 0x0907
    [k, old, new, cause])

/-- Every enabled axis of a link enters FAULT with LINK_LOSS, and the link reports (R297). -/
def State.stepLinkFaults (s : State) (k : Nat) : State :=
  (List.range 24).foldl
    (fun t i => if (t.ax (24 * k + i)).enabled then (t.clearHomed (24 * k + i)).stepFault (24 * k + i) 0x07 0 0 else t)
    (s.fault (0x5CC + k) 0x07 0)

/-- The link enters FAULT (R297). -/
def State.loseStepLink (s : State) (k cause : Nat) : State :=
  if s.stepLink k = 0 ∨ s.stepLink k = 3 then s else (s.setStepLink k 3 cause).stepLinkFaults k

/-- EN of the link is cleared (R297). -/
def State.downStepLink (s : State) (k : Nat) : State :=
  if s.stepLink k = 0 then s else (s.setStepLink k 0 0).stepLinkFaults k

/-! ### The load angle (R316) -/

/-- tan(2πk ÷ 1,024) × 2⁴⁰ for k from 0 to 128, rounded down. -/
def tanTable : List Nat :=
  [0, 6746603521, 13493715087, 20241842897, 26991495454, 33743181723, 40497411280, 47254694469, 54015542557, 60780467886, 67549984031, 74324605957] ++
  [81104850175, 87891234901, 94684280215, 101484508226, 108292443227, 115108611863, 121933543295, 128767769370, 135611824781, 142466247248, 149331577682, 156208360362] ++
  [163097143116, 169998477490, 176912918942, 183841027015, 190783365532, 197740502778, 204713011702, 211701470105, 218706460842, 225728572026, 232768397233, 239826535712] ++
  [246903592598, 254000179134, 261116912889, 268254417986, 275413325336, 282594272871, 289797905788, 297024876794, 304275846358, 311551482970, 318852463403, 326179472985] ++
  [333533205873, 340914365336, 348323664046, 355761824373, 363229578688, 370727669679, 378256850668, 385817885937, 393411551070, 401038633291, 408699931828, 416396258269] ++
  [424128436943, 431897305300, 439703714309, 447548528867, 455432628211, 463356906357, 471322272536, 479329651654, 487379984761, 495474229535, 503613360779, 511798370936] ++
  [520030270620, 528310089159, 536638875159, 545017697085, 553447643859, 561929825484, 570465373672, 579055442514, 587701209153, 596403874493, 605164663922, 613984828063] ++
  [622865643555, 631808413852, 640814470055, 649885171771, 659021908003, 668226098072, 677499192566, 686842674332, 696258059495, 705746898519, 715310777305, 724951318329] ++
  [734670181823, 744469066999, 754349713316, 764313901803, 774363456424, 784500245500, 794726183181, 805043230982, 815453399372, 825958749431, 836561394571, 847263502321] ++
  [858067296194, 868975057620, 879989127962, 891111910613, 902345873185, 913693549783, 925157543377, 936740528276, 948445252704, 960274541491, 972231298875, 984318511434] ++
  [996539251138, 1008896678542, 1021394046121, 1034034701753, 1046822092360, 1059759767717, 1072851384433, 1086100710126, 1099511627776]

/-- The angle of a point in the first octant, 0 ≤ y ≤ x, in 1/1,024 turn, rounded down. -/
def octant (y x : Nat) : Nat := (tanTable.filter (fun t => decide (t * x ≤ y * 2 ^ 40))).length - 1

/-- The angle of a point in the first quadrant, in 1/1,024 turn, rounded down. -/
def quadrant (y x : Nat) : Nat :=
  if x = 0 ∧ y = 0 then 0
  else if y ≤ x then octant y x
  else if x = 0 then 256
  else 255 - octant x y

/-- atan2(y, x) × 1,024 ÷ 2π from 0 to 1,023, rounded down (R316). -/
def atan1024 (y x : Int) : Nat :=
  if 0 ≤ y then (if 0 < x ∨ y = 0 ∧ x = 0 then quadrant y.natAbs x.natAbs else if 0 < y then 256 + quadrant x.natAbs y.natAbs else 512)
  else if x < 0 then 512 + quadrant y.natAbs x.natAbs
  else 768 + quadrant x.natAbs y.natAbs

/-- Fold a value to −512 to 511 (R316). -/
def wrap1024 (x : Int) : Int := (x + 512) % 1024 - 512

/-- The load angle (R316); `sgn` is the sign of v in the driver's address frame. -/
def loadAngle (r : StepSlot) (sgn : Int) : Int := wrap1024 ((r.addrSeen : Int) - (atan1024 r.emfB r.emfA - 256 * sgn)) * sgn

/-- The amplitude of the back-EMF, rounded down (R315). -/
def emfAmplitude (r : StepSlot) : Nat := sqrtNat ((r.emfA * r.emfA + r.emfB * r.emfB).natAbs)

/-- The load angle that a return gives an axis, in its driver's address frame (R316). -/
def State.axLoad (s : State) (a : Nat) (r : StepSlot) : Int :=
  loadAngle r (signOf (s.ax a).v * (if s.flag (Reg.STEP_AX_CFG a) 0 then -1 else 1))

/-- Stall on the estimate of a return (R316). -/
def State.stallCheck (s : State) (a : Nat) (r : StepSlot) : State :=
  let x := s.ax a
  let c := Reg.STEP_AX_STALL_CFG a
  let amp := (emfAmplitude r)
  let runs := decide (s.fld c 31 24 * 2 ^ 24 ≤ x.v.natAbs) && r.emfValid
  let weak := decide (amp < s.fld (Reg.STEP_AX_EMF_CFG a) 15 0)
  if !runs then s
  else
    let load := s.axLoad a r
    let ang := if weak then x.angleRun else if (s.fld c 9 0 : Int) ≤ load then x.angleRun + 1 else 0
    let emf := if weak then x.emfRun + 1 else 0
    let s2 := s.modAx a (fun x => { x with angleRun := ang, emfRun := emf })
    let n := max 1 (s.fld c 23 16)
    if n ≤ ang ∨ n ≤ emf then
      ((((s2.modAx a (fun x => { x with angleRun := 0, emfRun := 0, homed := false })).raiseBit Reg.STEP_EVENTS 2).event
        0x0903 [a, codeOf 16 load, amp, codeOf 32 (x.v / 256)]).stepFault a 0x0C 0 0)
    else s2

/-- The bridges of an axis are off (R300): DISABLED, WAIT_SPIN, and FAULT with LINK_LOSS or START_TIMEOUT. -/
def StepAxis.off (x : StepAxis) : Bool :=
  decide (x.mode = .disabled) || decide (x.mode = .waitSpin) || (decide (x.mode = .fault) && !x.bridges)

/-- The estimates of a valid return (R315, R316): the load, and, of an axis with its bridges off, the amplitude. The first
return that was sampled with the bridges off comes three ticks after the tick that put them off (log entry 79). -/
def State.stepEstimate (s : State) (a : Nat) (r : StepSlot) : State :=
  let amp := emfAmplitude r
  (s.wrN (Reg.STEP_AX_LOAD a) (codeOf 16 (s.axLoad a r) + amp % 65536 * 65536)).modAx a (fun x => { x with
    amplitude := if !(x.off && decide (x.offAt + 3 ≤ s.tick)) then none
      else if r.emfValid then some amp else x.amplitude })

/-- The driver of an axis reports a fault (R317). In FAULT the axis stays as it is, and a driver fault already recorded is
not reported again, but its status is (log entry 80). -/
def State.driverFault (s : State) (a st : Nat) : State :=
  let again := decide ((s.ax a).mode = .fault)
  if again && decide (s.fld (Reg.STEP_AX_FAULT a) 4 0 = 0x0D) then s.setFld (Reg.STEP_AX_FAULT a) 23 16 st
  else
    let s1 := ((s.clearHomed a).raiseBit Reg.STEP_EVENTS 3).event 0x0904 [a, st]
    if again then (s1.wrN (Reg.STEP_AX_FAULT a) (0x0D + st * 65536)).fault (0x240 + a) 0x0D 0 else s1.stepFault a 0x0D 0 st

/-- What a valid return tells of one axis (R305, R315 to R317): its driver's status, stall, and the end of WAIT_SPIN. -/
def State.stepReturn (s : State) (a : Nat) (r : StepSlot) : State :=
  let s1 := s.stepEstimate a r
  if r.flags % 32 ≠ 0 then s1.driverFault a (r.flags % 32)
  else
    match (s1.ax a).mode with
    | .disabled | .fault => s1
    | .waitSpin =>
      if (s1.ax a).amplitude.any (fun m => decide (m < s.fld (Reg.STEP_AX_EMF_CFG a) 31 16)) ∧ r.emfValid then
        s1.modAx a (fun x => { x with mode := .idle })
      else s1
    | _ => s1.stallCheck a r

/-- The decisions on the returns gathered in this tick (R305, R315 to R317). -/
def State.stepReturns (s : State) : State :=
  s.step.returned.foldl (fun t p => t.stepReturn p.1 p.2) { s with step := { s.step with returned := [] } }

/-- A return frame is gathered (R296, R297). One with a bad CRC is discarded and counted. -/
def State.gatherStepFrame (s : State) (k : Nat) (f : StepFrame) : State :=
  let s0 := { s with step := { s.step with waiting := tabDel s.step.waiting k } }
  if !f.crcOk then s0.setFld (Reg.STEP_LINK_STATE k) 31 24 (min 255 (s0.fld (Reg.STEP_LINK_STATE k) 31 24 + 1))
  else
    let slots := ((f.slots.take (min 24 (s.stepNodes k))).zipIdx).foldl (fun t p => tabPut t (24 * k + p.2) p.1) s0.step.returned
    { s0 with step := { s0.step with
      returned := slots, links := s0.step.links.modify k (fun l => { l with good := s.tick + 1, miss := 0 }) } }

/-- STEP_FRAME_RETURN (R296, R559): gathered where the page holds LINK_IN and the tick's gather is not over; otherwise it
waits, and a newer frame replaces it. -/
def execStepFrameReturn (k : Fin 2) (bs : List Byte) (s : State) : Host.Outcome State Fault Refusal :=
  if s.stepLink k ≠ 2 then .next s
  else if s.pageHas 9 1 k ∧ !s.decideOpen then .next (s.gatherStepFrame k (readStepFrame bs))
  else .next { s with step := { s.step with waiting := tabPut s.step.waiting k (readStepFrame bs) } }

/-- LINK_IN of step link `k` (R559): the frame that waits is gathered, and a tick without a good frame is counted. -/
def State.stepLinkIn (s : State) (k : Nat) : State :=
  if s.stepLink k ≠ 2 then s
  else
    let t1 := match tabFind s.step.waiting k with
      | some f => s.gatherStepFrame k f
      | none => s
    if (t1.step.links.getD k Link.init).good = t1.tick + 1 then t1
    else { t1 with step := { t1.step with links := t1.step.links.modify k (fun l => { l with miss := l.miss + 1 }) } }

/-! ### Commands (R304, R306, R312, R313, R315, R322) -/

/-- The target registers: a position in 2⁻²⁴ microstep, and a speed in 2⁻²⁴ microstep a tick. -/
def State.stepTarget (s : State) (a : Nat) : Int :=
  signedOf 48 (s.rdN (Reg.STEP_AX_TARGET_LO a) + s.fld (Reg.STEP_AX_TARGET_HI a) 15 0 * 2 ^ 32) * 2 ^ 24
def State.stepSpeed (s : State) (a : Nat) : Int := signedOf 32 (s.rdN (Reg.STEP_AX_TARGET_LO a)) * 256

/-- ENABLE (R304, R315): the back-EMF amplitude read with the bridges off decides between IDLE and WAIT_SPIN. -/
def State.stepEnable (s : State) (a : Nat) : State :=
  s.stepCommand a
    (s.stepChecks a (s.stepIn a [.disabled] && decide (s.stepLink (a / 24) = 2)) ++
      [(s.holding, 6), (decide (s.stepNodes (a / 24) ≤ a % 24), 10)])
    (fun t =>
      let low := (t.ax a).amplitude.any (fun m => decide (m < t.fld (Reg.STEP_AX_EMF_CFG a) 31 16))
      t.modAx a (fun x => { x with
        mode := if low then .idle else .waitSpin, deadline := t.tick + t.fld (Reg.STEP_AX_START_WAIT a) 15 0, v := 0,
        guard := 0, braking := false, amplitude := if low then none else x.amplitude, goal := .none, halt := .no, dwell := 0,
        angleRun := 0, emfRun := 0 }))

/-- DISABLE (R304). -/
def State.stepDisable (s : State) (a : Nat) : State :=
  let x := s.ax a
  s.stepCommand a
    [(decide (x.mode = .ledger), 8), (!(s.stepIn a [.disabled, .idle, .waitSpin] || (decide (x.mode = .fault) && x.still)), 2)]
    (fun t => t.modAx a (fun x => { x with
      mode := .disabled, homed := false, v := 0, guard := 0, braking := false, goal := .none, halt := .no, dwell := 0,
      bridges := false, offAt := if x.off then x.offAt else t.tick }))

/-- MOVE (R302, R304, R306). -/
def State.stepMove (s : State) (a prof : Nat) : State :=
  let p := s.stepProfile a prof
  s.stepCommand a (s.stepChecks a (s.stepIn a [.idle, .move, .velocity]) ++ [(!profileValid p, 3)])
    (fun t =>
      let x := t.ax a
      let d := t.stepTarget a - x.pos
      t.modAx a (fun x => { x with
        mode := if d = 0 ∧ x.v = 0 ∧ x.dwell = 0 then .idle else .move, profile := p, goal := .target (t.stepTarget a),
        braking := false, halt := if behind p x.v d ∨ x.dwell ≠ 0 then .reverse else .no }))

/-- The speed that VELOCITY asks for: TARGET_LO, or the grade speed with GRADE_LINK (R304, R309). -/
def State.stepAsked (s : State) (a : Nat) : Int :=
  if s.gradeLink true a then s.gradeEntry true a s.grade else s.stepSpeed a

/-- VELOCITY (R304, R306, R309). -/
def State.stepVelocity (s : State) (a prof : Nat) : State :=
  let p := s.stepProfile a prof
  let v := s.stepAsked a
  s.stepCommand a
    (s.stepChecks a (s.stepIn a [.idle, .move, .velocity]) ++ [(!profileValid p, 3), (decide (pf p 3 < v.natAbs), 5)])
    (fun t =>
      if v = 0 then (if (t.ax a).mode = .idle then t else t.brakeStep a .stopping .stop)
      else t.modAx a (fun x => { x with
        mode := .velocity, profile := p, goal := .speed v, clamped := 0,
        halt := if (x.v ≠ 0 ∧ signOf x.v ≠ signOf v) ∨ x.dwell ≠ 0 then .reverse else .no }))

/-- STOP (R304, R307). -/
def State.stepStop (s : State) (a : Nat) : State :=
  s.stepCommand a (s.stepChecks a (s.stepIn a [.move, .velocity, .homing, .cam])) (fun t => t.brakeStep a .stopping .stop)

/-- The level of a limit input (R320): a chain bit as last gathered, or a SCAP input; and whether it is active. -/
def State.limitLevel (s : State) (input : Nat) : Bool :=
  if input < 256 then s.flag (Reg.SIO_IN (input / 32)) (input % 32)
  else (s.sio.scap.getD (input - 256) ScapIn.init).level
def State.homeInput (s : State) (a : Nat) : Nat := s.fld (Reg.STEP_AX_HOME_CFG a) 8 0
def State.activeLevel (s : State) (a : Nat) (level : Bool) : Bool := level != s.flag (Reg.STEP_AX_HOME_CFG a) 9

/-- A phase of homing begins (R321, R322). -/
def State.homePhase (s : State) (a ph : Nat) : State :=
  let i := s.homeInput a
  let u := s.sio.scap.getD (i - 256) ScapIn.init
  let next := if i < 256 then 0 else ((u.queue.find? (fun e => decide (s.tick ≤ e.qualified))).map (·.serial)).getD u.serial
  s.modAx a (fun x =>
    let h : Homing := ⟨none, none, none, 0, [], x.pos, false, false, (x.homing.map (·.seen)).getD next⟩
    { x with hphase := ph, homing := some h })

/-- The direction of HOME_CFG.DIR. -/
def State.homeDir (s : State) (a : Nat) : Int := if s.flag (Reg.STEP_AX_HOME_CFG a) 10 then -1 else 1

/-- HOME_BACKOFF, HOME_CREEP and HOME_MAX in 2⁻²⁴ microstep. A HOME_CREEP beyond 255 microsteps a tick is taken as 255, the
most that any mode keeps (R299; log entry 78). -/
def State.homeBackoff (s : State) (a : Nat) : Nat := s.fld (Reg.STEP_AX_HOME_BACKOFF a) 23 0 * 2 ^ 24
def State.homeCreep (s : State) (a : Nat) : Nat := min (255 * 2 ^ 24) (s.rdN (Reg.STEP_AX_HOME_CREEP a) * 256)
def State.homeMax (s : State) (a : Nat) : Nat := s.rdN (Reg.STEP_AX_HOME_MAX a) * 2 ^ 24

/-- SEEK begins: toward the switch at the profile's speed (R322). -/
def State.homeSeek (s : State) (a : Nat) : State :=
  (s.homePhase a 1).modAx a (fun x => { x with goal := .speed (directed (s.homeDir a) (pf x.profile 3)), halt := .no })

/-- BACKOFF begins: away from the switch by HOME_BACKOFF (R322). -/
def State.homeAway (s : State) (a : Nat) : State :=
  (s.homePhase a 2).modAx a (fun x => { x with 
    goal := .target (x.pos - s.homeDir a * s.homeBackoff a), halt := .no, braking := false })

/-- CREEP begins: toward the switch at HOME_CREEP (R322). -/
def State.homeBack (s : State) (a : Nat) : State :=
  (s.homePhase a 3).modAx a (fun x => { x with goal := .speed (directed (s.homeDir a) (s.homeCreep a)), halt := .no })

/-- HOME (R304, R322). SEEK is skipped if the input is active and has been in the N − 1 ticks before. -/
def State.stepHome (s : State) (a : Nat) : State :=
  let p := s.stepProfile a (s.fld (Reg.STEP_AX_HOME_CFG a) 22 20)
  s.stepCommand a (s.stepChecks a (s.stepIn a [.idle]) ++ [(!profileValid p, 3)])
    (fun t =>
      let i := t.homeInput a
      let n := t.fld (Reg.STEP_AX_HOME_CFG a) 15 12
      let c := tabGet 0 t.sio.changed i
      let at_ := t.activeLevel a (t.limitLevel i) && (decide (c = 0) || decide (c - 1 + (n - 1) ≤ t.tick))
      let t1 := t.modAx a (fun x => { x with mode := .homing, profile := p, homed := false, sent := [], homing := none })
      if at_ then t1.homeAway a else t1.homeSeek a)

/-- The position of a master in 2⁻²⁴ unit, now and one tick ago (R311). In the decide phase a virtual master stands where the
VMASTER operation of the previous tick left it. -/
def State.masterPos (s : State) (m : Nat) : Int × Int :=
  if m < 24 then ((s.sx m).p * 2 ^ 24, (s.sx m).pWas * 2 ^ 24)
  else
    let p := tabGet 0 s.step.vmPos (m - 24)
    (p, p - tabGet 0 s.step.vmVel (m - 24))

/-- A master's position is valid, and it has not faulted (R313). -/
def State.masterOk (s : State) (m : Nat) : Bool :=
  decide (24 ≤ m) || ((s.sx m).posValid && decide ((s.sx m).mode ≠ .fault))

/-- Point `k` of a cam table in 2⁻²⁴ microstep (R311). -/
def State.camPoint (s : State) (t k : Nat) : Int := signedOf 32 (memLe s.sram (0x310000 + 4096 * t + 4 * k) 4) * 65536

/-- CAM_MCYCLE, in 2⁻²⁴ master unit; 0 counts as 1. -/
def State.camCycle (s : State) (a : Nat) : Int := max 1 (s.rdN (Reg.STEP_AX_CAM_MCYCLE a)) * 2 ^ 24

/-- The demand of R312 for a master position, in 2⁻²⁴ microstep. -/
def State.camDemand (s : State) (a : Nat) (c : Cam) (m : Int) : Int :=
  let mc := s.camCycle a
  let sc : Int := signedOf 32 (s.rdN (Reg.STEP_AX_CAM_SCYCLE a)) * 65536
  let u := m - s.rdN (Reg.STEP_AX_CAM_PHASE a) * 2 ^ 24 - c.m0
  let cyc := u / mc
  let r := u - cyc * mc
  let k := (r * 1024 / mc).toNat
  let f := r * 1024 - k * mc
  let tk := s.camPoint c.table k
  let tk1 := if k = 1023 then s.camPoint c.table 0 + sc else s.camPoint c.table (k + 1)
  let base := if c.rel then c.base else signedOf 32 (s.rdN (Reg.STEP_AX_CAM_ORIGIN a)) * 2 ^ 24
  base + cyc * sc + tk + f * (tk1 - tk) / mc

/-- The engagement that ENGAGE begins (R312, R313), and the speed at which the master implies the demand to move. -/
def State.camStart (s : State) (a : Nat) : Cam × Int :=
  let cfg := Reg.STEP_AX_CAM_CFG a
  let x := s.ax a
  let m := s.masterPos (s.fld cfg 12 8)
  let c0 : Cam := ⟨s.fld cfg 12 8, s.fld cfg 7 0, s.flag cfg 13, m.1 / s.camCycle a * s.camCycle a, 0, 0, 0⟩
  let c1 : Cam := { c0 with base := x.pos - s.camDemand a { c0 with rel := true } m.1 }
  let d := s.camDemand a c1 m.1
  ({ c1 with demand := d, offset := x.pos - d }, d - s.camDemand a c1 m.2)

/-- O of a slave one tick nearer to 0, by at most CAM_CATCH (R312). -/
def State.camOffset (s : State) (a : Nat) (c : Cam) : Int :=
  let n : Int := s.rdN (Reg.STEP_AX_CAM_CATCH a) * 256
  if c.offset < 0 then min 0 (c.offset + n) else max 0 (c.offset - n)

/-- ENGAGE (R304, R312, R313). -/
def State.stepEngage (s : State) (a : Nat) : State :=
  let c := (s.camStart a).1
  s.stepCommand a
    (s.stepChecks a (s.stepIn a [.idle, .velocity]) ++
      [(decide (pf (s.stepProfile a 0) 0 < ((s.camStart a).2 - (s.ax a).v).natAbs), 7)])
    (fun t => t.modAx a (fun x => { x with
      mode := .cam, cam := some c, camLock := decide (c.offset = 0), goal := .none, halt := .no, dwell := 0 }))

/-- DISENGAGE (R304): VELOCITY at the present speed. -/
def State.stepDisengage (s : State) (a : Nat) : State :=
  let p0 := s.stepProfile a 0
  s.stepCommand a (s.stepChecks a (s.stepIn a [.cam]))
    (fun t => t.modAx a (fun x => { x with
      mode := .velocity, goal := .speed x.v, halt := .no, cam := none, camLock := false, clamped := 0,
      profile := if x.profile = [] then p0 else x.profile }))

/-- SET_POS (R304). -/
def State.stepSetPos (s : State) (a : Nat) : State :=
  s.stepCommand a (s.stepChecks a (s.stepIn a [.idle]))
    (fun t => t.modAx a (fun x => { x with pos := t.stepTarget a, homed := false }))

/-- CLEAR (R304): IDLE with bridges on, or DISABLED after LINK_LOSS or START_TIMEOUT. -/
def State.stepClear (s : State) (a : Nat) : State :=
  let x := s.ax a
  s.stepCommand a (s.stepChecks a (decide (x.mode = .fault) && x.still))
    (fun t => t.modAx a (fun x => { x with mode := if x.bridges then .idle else .disabled, goal := .none, halt := .no }))

/-- STEP_ENABLE (R304, R315). -/
def effStepEnable (a : Fin 48) (s : State) : Host.Outcome State Fault Refusal := .next (s.stepEnable a)
/-- STEP_DISABLE (R304). -/
def effStepDisable (a : Fin 48) (s : State) : Host.Outcome State Fault Refusal := .next (s.stepDisable a)
/-- STEP_MOVE (R304). -/
def effStepMove (a : Fin 48) (prof : Fin 8) (s : State) : Host.Outcome State Fault Refusal := .next (s.stepMove a prof)
/-- STEP_VELOCITY (R304). -/
def effStepVelocity (a : Fin 48) (prof : Fin 8) (s : State) : Host.Outcome State Fault Refusal :=
  .next (s.stepVelocity a prof)
/-- STEP_STOP (R304). -/
def effStepStop (a : Fin 48) (s : State) : Host.Outcome State Fault Refusal := .next (s.stepStop a)
/-- STEP_ENGAGE (R304). -/
def effStepEngage (a : Fin 48) (s : State) : Host.Outcome State Fault Refusal := .next (s.stepEngage a)
/-- STEP_DISENGAGE (R304). -/
def effStepDisengage (a : Fin 48) (s : State) : Host.Outcome State Fault Refusal := .next (s.stepDisengage a)
/-- STEP_SET_POS (R304). -/
def effStepSetPos (a : Fin 48) (s : State) : Host.Outcome State Fault Refusal := .next (s.stepSetPos a)
/-- STEP_CLEAR (R304). -/
def effStepClear (a : Fin 48) (s : State) : Host.Outcome State Fault Refusal := .next (s.stepClear a)

/-- START_WAIT ticks have passed in WAIT_SPIN (R315). -/
def State.startTimeout (s : State) (a : Nat) : State :=
  if (s.ax a).mode = .waitSpin ∧ (s.ax a).deadline ≤ s.tick then
    ((s.raiseBit Reg.STEP_EVENTS 4).event 0x0905 [a, ((s.ax a).amplitude).getD 0]).stepFault a 0x0E 0 0
  else s

/-- STEP_START_TIMEOUT (R315). -/
def effStepStartTimeout (a : Fin 48) (s : State) : Host.Outcome State Fault Refusal := .next (s.startTimeout a)

/-- REVERSE_DWELL_END (R306): REV_DWELL ticks have been stood; the axis starts in the new direction. -/
def effReverseDwellEnd (a : Fin 48) (s : State) : Host.Outcome State Fault Refusal :=
  if (s.ax a).dwell ≠ 0 ∧ (s.ax a).dwell ≤ s.tick then .next (s.modAx a (fun x => { x with dwell := 0, halt := .no }))
  else .next s

/-! ### Homing (R320 to R322) -/

/-- Homing fails (R322). -/
def State.homeFail (s : State) (a detail : Nat) : State :=
  let x := s.ax a
  (((s.raiseBit Reg.STEP_EVENTS 1).event 0x0902 [a, detail, x.hphase, codeOf 48 (x.pos / 2 ^ 24)]).stepFault a 0x0B detail 0)

/-- The position of an edge (R320), to 16 fraction bits: interpolated between the values sent in the frames of its tick and of
the next. -/
def StepAxis.edgeAt (x : StepAxis) (tick sub : Nat) : Int :=
  let get (t : Nat) : Int := ((x.sent.find? (fun p => decide (p.1 = t))).map (·.2)).getD x.pos
  (get tick + (get (tick + 1) - get tick) * sub / 2500) / 256 * 256

/-- Homing is done (R322). The axis stops at once with the motion of the qualifying tick made, where the page holds its PROFILE
slot; then pos moves by the latch and the offset. -/
def State.homeDone (s : State) (a : Nat) (h : Homing) : State :=
  let x := s.ax a
  let latch := match h.latch, h.raw with
    | some l, _ => l
    | none, some (t, sub) => x.edgeAt t sub
    | none, none => x.pos
  let ofs := signedOf 32 (s.rdN (Reg.STEP_AX_HOME_OFFSET a)) * 2 ^ 24
  let last := if s.pageHas 9 2 a then x.pos + directed (s.homeDir a) (s.homeCreep a) else x.pos
  ((((s.modAx a (fun x => { x with
    mode := .idle, pos := last - latch + ofs, v := 0, guard := 0, goal := .none, halt := .no, homed := true, hphase := 0,
    homing := none })).wrN (Reg.STEP_AX_HOME_LATCH a) (codeOf 32 (latch / 2 ^ 24))).raiseBit Reg.STEP_EVENTS 0).event 0x0901
    [a, codeOf 32 (latch / 2 ^ 24), h.count])

/-- An edge of the sought polarity qualifies: the phase moves on (R322). -/
def State.homeQualified (s : State) (a : Nat) (h : Homing) : State :=
  match (s.ax a).hphase with
  | 1 => s.modAx a (fun x => { x with goal := .none, halt := .backoff, homing := some { h with window := none } })
  | 2 => if h.creeping then s.homeBack a else s.modAx a (fun x => { x with homing := some { h with inactive := true, window := none } })
  | _ => s.homeDone a h

/-- The polarity that a phase seeks: active, but inactive in BACKOFF (R321). -/
def StepAxis.seeks (x : StepAxis) : Bool := decide (x.hphase ≠ 2)

/-- The pending edges of a homing axis qualify (R321); one of the sought polarity moves the phase on, unless the axis comes to
rest for the next phase. -/
def State.qualifyEdge (s : State) (a : Nat) : State :=
  match (s.ax a).homing with
  | some h =>
    let h1 : Homing := { h with last := [] }
    let s1 := s.modAx a (fun x => { x with homing := some h1 })
    if h.last.any (fun e => e.2 == (s.ax a).seeks) ∧ (s.ax a).halt = .no then s1.homeQualified a h1 else s1
  | none => s

/-- The pending edges were gathered N − 1 ticks ago or more, and none since: they qualify in this tick (R321). -/
def State.edgeQualifies (s : State) (a : Nat) : Bool :=
  ((s.ax a).homing.any (fun h => h.last.any (fun e =>
    decide (e.1 + s.fld (Reg.STEP_AX_HOME_CFG a) 15 12 ≤ s.tick + 1))))

/-- An edge of the input is gathered by a homing axis, with its stamp (R321). Edges of earlier ticks that have not qualified
are unqualified, and count while the window is open. An axis that comes to rest for the next phase opens no window. -/
def State.homeEdge (s : State) (a tick sub : Nat) (level : Bool) : State :=
  match (s.ax a).homing with
  | none => s
  | some h =>
    let x := s.ax a
    let act := s.activeLevel a level
    let old := (h.last.filter (fun e => decide (e.1 ≠ s.tick))).length
    let count := if h.window.isSome then h.count + old else h.count
    let opens := h.window.isNone && act == x.seeks && decide (x.halt = .no)
    let h1 : Homing := { h with
      count := count, last := h.last.filter (fun e => decide (e.1 = s.tick)) ++ [(s.tick, act)],
      window := if opens then some s.tick else h.window,
      raw := if opens then some (tick, sub) else h.raw, latch := if opens then none else h.latch }
    let s1 := s.modAx a (fun x => { x with homing := some h1 })
    if s.fld (Reg.STEP_AX_HOME_CFG a) 19 16 < count then s1.homeFail a 1 else s1

/-- The new edges of a SCAP input that a homing axis reads in this tick (R319, R321). -/
def State.homeScap (s : State) (a i : Nat) : State :=
  match (s.ax a).homing with
  | some h =>
    let es := (s.sio.scap.getD i ScapIn.init).queue.filter (fun e =>
      decide (h.seen ≤ e.serial) && decide (e.qualified < s.tick))
    es.foldl (fun t e => (t.homeEdge a e.tick e.sub e.rising).modAx a (fun x => { x with
      homing := x.homing.map (fun (k : Homing) => { k with seen := e.serial + 1 }) })) s
  | none => s

/-- CHAIN_IN (R318): the chain inputs latched at the start of the last tick are gathered, and homing axes read the edges. -/
def State.gatherChain (s : State) : State :=
  if s.sio.chainIn = [] then s
  else
    let bits := s.sio.chainIn
    let changed := (List.range 256).filter (fun i => decide (i < bits.length) && bits.getD i false != s.flag (Reg.SIO_IN (i / 32)) (i % 32))
    let s1 := changed.foldl (fun t i => t.setFlag (Reg.SIO_IN (i / 32)) (i % 32) (bits.getD i false)) s
    let s2 := { s1 with sio := { s1.sio with
      chainIn := [], edges := changed.map (fun i => (i, s.sio.chainAt)),
      changed := changed.foldl (fun t i => tabPut t i (s.tick + 1)) s1.sio.changed } }
    changed.foldl (fun t i => t.upTo 48 (fun u a =>
      if u.homeInput a = i then u.homeEdge a s.sio.chainAt 0 (bits.getD i false) else u)) s2

/-- CAPTURE of input `i` as homing axes read it (R319, R320). -/
def State.homeCapture (s : State) (i : Nat) : State :=
  s.upTo 48 (fun t a => if t.homeInput a = 256 + i then t.homeScap a i else t)

/-- STEP_HOME (R304, R322). -/
def effStepHome (a : Fin 48) (s : State) : Host.Outcome State Fault Refusal := .next (s.stepHome a)

/-- The pending edges qualify when N ticks have come without a further edge (R321). -/
def State.qualifyDue (s : State) (a : Nat) : State := if s.edgeQualifies a then s.qualifyEdge a else s

/-- HOME_EDGE_QUALIFIED (R321). -/
def effHomeEdgeQualified (a : Fin 48) (s : State) : Host.Outcome State Fault Refusal := .next (s.qualifyDue a)

/-- The window ended without a qualified edge of the sought polarity. A qualification in its last tick is in time (R321). -/
def State.windowDue (s : State) (a : Nat) : State :=
  let now := s.edgeQualifies a && ((s.ax a).homing.any (fun h => h.last.any (fun e => e.2 == (s.ax a).seeks)))
  match ((s.ax a).homing.bind (·.window)) with
  | some g => if g + s.fld (Reg.STEP_AX_HOME_WIN a) 15 0 ≤ s.tick ∧ !now then s.homeFail a 2 else s
  | none => s

/-- HOME_WINDOW_END (R321). -/
def effHomeWindowEnd (a : Fin 48) (s : State) : Host.Outcome State Fault Refusal := .next (s.windowDue a)

/-- The travel limits of homing (R322): SEEK fails after HOME_MAX; BACKOFF goes on at HOME_CREEP after its move, turns to CREEP
once an inactive edge has qualified, and fails after HOME_BACKOFF more. -/
def State.homeLimits (s : State) (a : Nat) : State :=
  let x := s.ax a
  match x.homing, x.hphase, x.halt with
  | some h, 1, .no => if s.homeMax a ≤ (x.pos - h.start).natAbs then s.homeFail a 3 else s
  | some h, 2, .no =>
    if h.creeping then (if 2 * s.homeBackoff a ≤ (x.pos - h.start).natAbs then s.homeFail a 4 else s)
    else if x.goal = .target x.pos then
      (if h.inactive then s.homeBack a
      else if s.homeBackoff a = 0 then s.homeFail a 4
      else s.modAx a (fun x => { x with goal := .none, homing := some { h with creeping := true } }))
    else s
  | _, _, _ => s

/-- The faults and homing decisions of an axis that are due in this tick come before its commands (R305). -/
def State.stepDue (s : State) (a : Nat) : State := (((s.startTimeout a).qualifyDue a).windowDue a).homeLimits a

/-- A slave's decisions of a tick (R312, R313): its drop with its master, the follow limit, and the demand and O that its
PROFILE slot takes. -/
def State.camDecide (s : State) (a : Nat) : State :=
  match (s.ax a).mode, (s.ax a).cam with
  | .cam, some c =>
    if !s.masterOk c.master then
      ((s.brakeStep a .stopping .stop).raiseBit Reg.STEP_EVENTS 7).event 0x0908 [a, c.master]
    else
      let d := s.camDemand a c (s.masterPos c.master).1
      let o := s.camOffset a c
      let change := d - c.demand + (o - c.offset)
      if pf (s.stepProfile a 0) 3 < change.natAbs then
        ((s.raiseBit Reg.STEP_EVENTS 5).event 0x0906 [a, codeOf 32 (change / 256)]).stepFault a 0x0F 0 0
      else s.modAx a (fun x => { x with camLock := decide (o = 0), cam := some { c with demand := d, offset := o } })
  | _, _ => s

/-! ### The compute phase (R299, R300, R302, R306 to R314) -/

/-- A speed as v holds it, with 16 fraction bits (R299), rounded towards 0. -/
def speed16 (v : Int) : Int := v.tdiv 256 * 256

/-- The axis takes speed `v` in this tick and moves by it (R299). A ramp keeps what v does not hold. -/
def State.stepRun (s : State) (a : Nat) (v : Int) : State :=
  let q := speed16 v
  s.modAx a (fun x => { x with
    v := q, guard := v - q, pos := wrapInt 72 (x.pos + q), disp := q, changed := decide (q.natAbs ≠ x.v.natAbs) })

/-- The speed from which a ramp goes on. -/
def StepAxis.ramp (x : StepAxis) : Int := x.v + x.guard

/-- The grade-linked speed of an axis in VELOCITY mode (R309): an entry beyond VMAX is taken as VMAX, with GRADE_CLAMP. -/
def State.gradeGoal (s : State) (a : Nat) : State :=
  if (s.ax a).mode = .velocity ∧ s.gradeLink true a then
    let x := s.ax a
    let e := s.gradeEntry true a s.grade
    let vm := pf x.profile 3
    let tooFast := decide (vm < e.natAbs)
    let v := if tooFast then directed e vm else e
    let s1 := if tooFast ∧ x.clamped ≠ s.grade + 1 then s.raiseBit Reg.STEP_EVENTS 10 else s
    s1.modAx a (fun x => { x with
      goal := .speed v, clamped := if tooFast then s.grade + 1 else 0,
      halt := if x.halt = .no ∧ v ≠ 0 ∧ x.v ≠ 0 ∧ signOf v ≠ signOf x.v then .reverse else x.halt })
  else s

/-- The axis has come to rest, and what follows (R306, R307, R322). -/
def State.stepRested (s : State) (a : Nat) : State :=
  match (s.ax a).halt with
  | .stop => s.modAx a (fun x => { x with mode := .idle, halt := .no, goal := .none })
  | .reverse => s.modAx a (fun x => { x with dwell := if x.dwell = 0 then s.tick + s.fld (Reg.STEP_AX_CFG a) 15 8 else x.dwell })
  | .backoff => s.homeAway a
  | .fault | .hold | .no => s.modAx a (fun x => { x with halt := .no })

/-- A move of an axis towards `g` in this tick (R302). -/
def State.stepToward (s : State) (a : Nat) (g : Int) : State :=
  let x := s.ax a
  let d := g - x.pos
  (s.stepRun a (moveSpeed x.profile x.ramp d x.braking)).modAx a (fun y => { y with
    braking := moveBrakes x.profile x.ramp d x.braking })

/-- A homing axis's tick (R322): SEEK at the profile's speed, BACKOFF to its place and on at HOME_CREEP, CREEP. -/
def State.homeStep (s : State) (a : Nat) (h : Homing) : State :=
  let x := s.ax a
  match x.hphase, x.goal with
  | 1, _ => s.stepRun a (speedStep x.profile x.ramp (directed (s.homeDir a) (pf x.profile 3)))
  | 2, .target g => if g = x.pos then s.stepRun a 0 else s.stepToward a g
  | 2, _ => s.stepRun a (if h.creeping then directed (-(s.homeDir a)) (s.homeCreep a) else 0)
  | _, _ => s.stepRun a (directed (s.homeDir a) (s.homeCreep a))

/-- PROFILE (R299): the axis's speed and position of this tick. -/
def State.profileStep (s : State) (a : Nat) : State :=
  let s := s.gradeGoal a
  let x := s.ax a
  if x.halt = .hold then
    (match x.goal with
      | .speed v => s.stepRun a v
      | _ => s)
  else if x.halt ≠ .no then
    (if x.v = 0 then (s.stepRun a 0).stepRested a
    else
      let v := haltStep x.profile x.ramp
      if speed16 v = 0 then (s.stepRun a 0).stepRested a else s.stepRun a v)
  else
    match x.mode, x.goal with
    | .move, .target g =>
      if g = x.pos then (s.stepRun a 0).modAx a (fun y => { y with mode := .idle, goal := .none, braking := false })
      else s.stepToward a g
    | .velocity, .speed g => s.stepRun a (speedStep x.profile x.ramp g)
    | .ledger, .speed g => s.stepRun a (clampInt (-(255 * 2 ^ 24)) (255 * 2 ^ 24) g)
    | .cam, _ =>
      (match x.cam with
        | some c => s.stepRun a (clampInt (-(255 * 2 ^ 24)) (255 * 2 ^ 24) ((c.demand + c.offset) / 256 * 256 - x.pos))
        | none => s.stepRun a 0)
    | .homing, _ =>
      (match x.homing with
        | some h => s.homeStep a h
        | none => s.stepRun a 0)
    | _, _ => s.stepRun a 0

/-- VMASTER (R314). -/
def State.vmasterStep (s : State) (j : Nat) : State :=
  let p := tabGet 0 s.step.vmPos j
  if s.flag (Reg.STEP_VM_CFG j) 0 then
    let q := (s.ax (s.fld (Reg.STEP_VM_CFG j) 13 8)).pos
    { s with step := { s.step with vmPos := tabSet 0 s.step.vmPos j q, vmVel := tabSet 0 s.step.vmVel j (q - p) } }
  else
    let v := tabGet 0 s.step.vmVel j
    let g := signedOf 32 (s.rdN (Reg.STEP_VM_VEL j)) * 256
    let a : Int := s.rdN (Reg.STEP_VM_ACC j)
    let w := if v < g then min g (v + a) else max g (v - a)
    { s with step := { s.step with vmPos := tabSet 0 s.step.vmPos j (p + w), vmVel := tabSet 0 s.step.vmVel j w } }

/-- At the start of the compute phase no axis has moved (R298). -/
def State.stepBegin (s : State) : State :=
  { s with step := { s.step with axes := s.step.axes.map (fun (x : StepAxis) => { x with disp := 0, changed := false }) } }

/-- At its end, the position that the frame carries is kept while homing, and a latch whose two frames are known is taken
(R320). -/
def State.stepEndCompute (s : State) : State :=
  let latch (x : StepAxis) (h : Homing) : Homing :=
    match h.latch, h.raw with
    | none, some (t, sub) => if t + 1 ≤ s.tick then { h with latch := some (x.edgeAt t sub) } else h
    | _, _ => h
  let from_ := s.sio.scap.foldl (fun n u => u.queue.foldl (fun m e => min m e.tick) n) (min s.sio.chainAt (s.tick - 5))
  let upd (x : StepAxis) : StepAxis :=
    match x.homing with
    | some h =>
      let y : StepAxis := { x with sent := (s.tick, x.pos) :: x.sent.filter (fun p => decide (from_ ≤ p.1)) }
      { y with homing := some (latch y h) }
    | none => x
  { s with step := { s.step with axes := s.step.axes.map upd } }

/-- What safe-state entry does to the steppers (R308): a moving axis in any mode decelerates, a slave disengages, and WAIT_SPIN
becomes DISABLED. An axis in FAULT that still follows the ledger's ramp goes on along profile 0 (R172). -/
def State.safeSteppers (s : State) : State :=
  s.upTo 48 (fun t a =>
    match (t.ax a).mode with
    | .waitSpin => t.modAx a (fun x => { x with mode := .disabled })
    | .move | .velocity | .homing | .cam | .ledger => t.brakeStep a .stopping .stop
    | .fault =>
      if (t.ax a).halt = .hold then
        (t.brakeStep a .fault .fault).modAx a (fun x => { x with profile := t.stepProfile a 0 })
      else t
    | _ => t)

/-! ### The emit phase (R296, R299, R300) -/

/-- The slot of an axis in its link's frame: ADDR, EN and SCALE. -/
def State.stepSlot (s : State) (a : Nat) : Nat :=
  let x := s.ax a
  let p := x.pos / 2 ^ 24
  let c := Reg.STEP_AX_CUR a
  stepSlotWord (codeOf 10 (if s.flag (Reg.STEP_AX_CFG a) 0 then -p else p))
    (if x.v = 0 then s.fld c 7 0 else if x.changed then s.fld c 23 16 else s.fld c 15 8) (!x.off)

/-- LINK_OUT of step link `k` (R296): the frame of a link that is UP. -/
def State.stepLinkOut (s : State) (k : Nat) : State :=
  if s.stepLink k = 2 then
    s.emit (.stepFrame k (stepFrameSyms s.tick (s.stepNodes k) ((List.range 24).map (fun i => s.stepSlot (24 * k + i)))))
  else s

/-- A write of the motion window that R324 refuses: a profile or grade speed of an axis that is neither DISABLED nor IDLE,
or a cam table of an engaged slave. `o` and `n` are the BAR1 offset and the length. -/
def State.stepTableBusy (s : State) (o n : Nat) : Bool :=
  let hits (lo len : Nat) : Bool := decide (lo < o + n) && decide (o < lo + len)
  (List.range 48).any (fun a =>
    (decide ((s.ax a).mode ≠ .disabled) && decide ((s.ax a).mode ≠ .idle) &&
      (hits (0x300000 + 256 * a) 256 || hits (0x303000 + 32 * a) 32)) ||
    (s.ax a).cam.any (fun c => hits (0x310000 + 4096 * c.table) 4096))

end Sys2Proof.Machine
end

