-- ==== Sys2Proof/Machine/Axis.lean ====
section
/-!
DEFINITION. AXIS: the synchronous axes, their hubs and links, catch and start, the observer's loss, the bus watch, the
profiles, the current control and the window placement (R330 to R360). Positions and commanded speeds are in 2⁻²⁴ angle
unit, speed estimates in 24.8. The observer's estimates are free, and so is the precision of the transforms (log entry 25).
-/

namespace Sys2Proof.Machine

/-! ### Links, hubs and an axis's registers -/

/-- State of axis link `k` (R334). -/
def State.axisLink (s : State) (k : Nat) : Nat := s.fld (Reg.AXIS_LINK_STATE k) 1 0

/-- SENSOR, POLES, VMIN, STILL, START_EMF, CONF_MIN, OBS_TICKS and CATCH_TMO of an axis (R359). -/
def State.axSensor (s : State) (a : Nat) : Nat := s.fld (Reg.AXIS_AX_CFG a) 1 0
def State.axPoles (s : State) (a : Nat) : Nat := max 1 (s.fld (Reg.AXIS_AX_CFG a) 7 4)
def State.axVmin (s : State) (a : Nat) : Nat := s.rdN (Reg.AXIS_AX_VMIN a)
def State.axStill (s : State) (a : Nat) : Nat := s.rdN (Reg.AXIS_AX_STILL a)
def State.axStartEmf (s : State) (a : Nat) : Nat := s.fld (Reg.AXIS_AX_START_WAIT a) 31 16
def State.axConfMin (s : State) (a : Nat) : Nat := s.fld (Reg.AXIS_AX_OBS_CFG a) 7 0
def State.axObsTicks (s : State) (a : Nat) : Nat := max 1 (s.fld (Reg.AXIS_AX_OBS_CFG a) 15 8)
def State.axCatchTmo (s : State) (a : Nat) : Nat := s.fld (Reg.AXIS_AX_CATCH_CFG a) 31 16

/-- HOLD, CEIL and a trip in effect on the hub of an axis (R343). -/
def State.busHold (s : State) (h : Nat) : Bool := s.flag (Reg.AXIS_HUB_VBUS h) 16
def State.busCeil (s : State) (h : Nat) : Bool := s.flag (Reg.AXIS_HUB_VBUS h) 17
def State.busTrip (s : State) (h : Nat) : Bool := bitOf s.axis.trips h

/-- A faulted axis is at rest (R353, R354). -/
def SyncAxis.still (x : SyncAxis) : Bool := decide (x.vcmd = 0) && !x.coasting

/-- AXIS_AXa_STATE.MODE (R345). -/
def AxisMode.code : AxisMode → Nat
  | .disabled => 0
  | .idle => 1
  | .catching => 2
  | .start => 3
  | .velocity => 4
  | .move => 5
  | .stopping => 6
  | .ledger => 7
  | .recover => 8
  | .spindown => 9
  | .fault => 10

/-- MOVING of a synchronous axis (R360): a commanded speed, or an estimate at or above STILL. At rest it reads 0, whatever
STILL holds (log entry 21). -/
def State.axisMoving (s : State) (a : Nat) : Bool :=
  let x := s.sx a
  decide (x.vcmd ≠ 0) || (decide (x.vEst ≠ 0) && decide (s.axStill a ≤ x.vEst.natAbs))

/-- AXIS_AXa_STATE (R360). -/
def State.axisStateWord (s : State) (a : Nat) : Nat :=
  let x := s.sx a
  x.mode.code +
  (s.axisMoving a).toNat * 16 + x.posValid.toNat * 32 + x.vlimit.toNat * 64 +
  (s.busHold (a / 6) || s.busCeil (a / 6) || s.busTrip (a / 6)).toNat * 128 + x.observed.toNat * 256 +
  x.aligned.toNat * 512 + x.polyRefine.toNat * 1024

/-! ### Profiles (R344) -/

/-- A profile is valid (R344). -/
def axisProfileValid (p : List Nat) : Bool :=
  match p with
  | [vk, vm, a1, a2, d1, d2] =>
    decide (0 < vk) && decide (vk ≤ vm) && decide (a1 ≠ 0) && decide (a2 ≠ 0) && decide (d1 ≠ 0) && decide (d2 ≠ 0)
  | _ => false

/-- The profile in the form of R302, with VSTART and VSTOP taken as 0 (R344). -/
def axisProfile (p : List Nat) : List Nat := [0, 0] ++ p

/-- One tick down the ramp, to at least `low`; without a valid profile the speed falls at once. -/
def axisDown (p : List Nat) (u low : Nat) : Nat :=
  if axisProfileValid p then slower (axisProfile p) u low else min u low

/-- One tick up the ramp, to at most `top`. -/
def axisUp (p : List Nat) (u top : Nat) : Nat := faster (axisProfile p) u top

/-- The speed of the next tick toward a speed, through zero where the direction changes (R344, R353). -/
def axisSpeedStep (p : List Nat) (v goal : Int) : Int :=
  if v ≠ 0 ∧ (goal = 0 ∨ signOf goal ≠ signOf v) then directed v (axisDown p v.natAbs 0)
  else if v.natAbs < goal.natAbs then directed goal (axisUp p v.natAbs goal.natAbs)
  else directed v (axisDown p v.natAbs goal.natAbs)

/-- The speed of the next tick in a move towards a place `d` away (R302, R344). -/
def axisMoveStep (p : List Nat) (v d : Int) : Int :=
  let u := v.natAbs
  let q := axisProfile p
  if v ≠ 0 ∧ signOf d ≠ signOf v then directed v (axisDown p u 0)
  else
    let n :=
      if u ≠ 0 ∧ withinBrake q u u d.natAbs then axisDown p u 0
      else if pf q 3 < u then axisDown p u (pf q 3)
      else axisUp p u (pf q 3)
    directed d (min n d.natAbs)

/-! ### Faults and links (R334, R354) -/

/-- A coasting axis: its stage is off (R353, R354). -/
def State.coastSync (s : State) (a : Nat) (m : AxisMode) : State :=
  s.modSx a (fun x => { x with
    mode := m, bridges := false, coasting := true, vcmd := 0, guard := 0, lowRun := 0, goodRun := 0, ramping := false })

/-- The sensor's angle is no longer in use: the axis goes on with its observer, from the same position (R336, R337). -/
def State.dropSensor (s : State) (a : Nat) : State :=
  let n := s.axPoles a
  s.modSx a (fun x => { x with angle := none, r := if x.aligned then x.p * n else x.r, aligned := false })

/-- An axis enters FAULT (R354). A POSITION_SENSOR fault decelerates on the observer where its confidence allows; every
other fault coasts. A fault of a path axis is a jam (R138). -/
def State.axisFault (s : State) (a kind detail flags : Nat) : State :=
  let s1 := (s.wrN (Reg.AXIS_AX_FAULT a) (kind + detail * 256 + flags * 65536)).fault (0x280 + a) kind 0
  let x := s.sx a
  let s2 := if kind = 0x17 then s1.dropSensor a else s1
  let s3 :=
    if kind = 0x17 ∧ x.bridges ∧ s.axConfMin a ≤ x.conf then s2.brakeSync a .fault .fault
    else (s2.coastSync a .fault).modSx a (fun x => { x with goal := .none, halt := .no })
  s3.axisFaultJam false a

/-- An axis link changes its state (R334). CAUSE keeps what the last FAULT recorded. -/
def State.setAxisLink (s : State) (k new cause : Nat) : State :=
  let old := s.axisLink k
  let s0 := s.setFld (Reg.AXIS_LINK_STATE k) 1 0 new
  let s1 := if new = 3 then s0.setFld (Reg.AXIS_LINK_STATE k) 19 16 cause else s0
  let links := s1.axis.links.modify k (fun _ => ⟨s.tick, 0, 0⟩)
  let s2 : State := { s1 with axis := { s1.axis with links := links, waiting := tabDel s1.axis.waiting k } }
  (s2.raiseBit Reg.AXIS_EVENTS 8).event 0x0A09 [k, old, new, cause]

/-- Every enabled axis of a link enters FAULT with LINK_LOSS, and the link reports (R334). -/
def State.axisLinkFaults (s : State) (k : Nat) : State :=
  (List.range 6).foldl (fun t i => if (t.sx (6 * k + i)).enabled then t.axisFault (6 * k + i) 0x07 0 0 else t)
    (s.fault (0x5C8 + k) 0x07 0)

/-- The link enters FAULT (R334). -/
def State.loseAxisLink (s : State) (k cause : Nat) : State :=
  if s.axisLink k = 0 ∨ s.axisLink k = 3 then s else (s.setAxisLink k 3 cause).axisLinkFaults k

/-- EN of the link is cleared (R334). -/
def State.downAxisLink (s : State) (k : Nat) : State :=
  if s.axisLink k = 0 then s else (s.setAxisLink k 0 0).axisLinkFaults k

/-! ### The bus watch (R343) -/

/-- The axes of a hub whose commanded speed fell in the last tick (R358). -/
def State.decelerating (s : State) (h : Nat) : Nat :=
  (List.range 6).foldl
    (fun n i => if (s.sx (6 * h + i)).vcmd.natAbs < (s.sx (6 * h + i)).vWas.natAbs then n + 2 ^ (6 * h + i) else n) 0

/-- The gathered VBUS is compared against HOLD, CEIL and TRIP. Each effect lasts until VBUS falls below HOLD. -/
def State.busWatch (s : State) (h vbus : Nat) (tripped : Bool) : State :=
  let hold := s.fld (Reg.AXIS_HUB_BUS h) 15 0
  let h1 := decide (hold ≤ vbus)
  let c1 := decide (s.fld (Reg.AXIS_HUB_BUS h) 31 16 ≤ vbus) || (s.busCeil h && h1)
  let t1 := decide (s.fld (Reg.AXIS_HUB_TRIP h) 15 0 ≤ vbus) || tripped || (s.busTrip h && h1)
  let reached := (h1 && !s.busHold h) || (c1 && !s.busCeil h)
  let trips := t1 && !s.busTrip h
  let s1 := s.wrN (Reg.AXIS_HUB_VBUS h) (vbus % 65536 + h1.toNat * 65536 + c1.toNat * 131072)
  let s2 : State := { s1 with axis := { s1.axis with trips := putBit s1.axis.trips h t1 } }
  let s3 := if reached then (s2.raiseBit Reg.AXIS_EVENTS 6).event 0x0A06 [h, vbus, s.decelerating h] else s2
  let s4 := if trips then (s3.raiseBit Reg.AXIS_EVENTS 7).event 0x0A07 [h, vbus] else s3
  if t1 then
    (List.range 6).foldl (fun t i =>
      let x := t.sx (6 * h + i)
      if x.enabled ∧ (x.mode ≠ .fault ∨ x.bridges) then t.axisFault (6 * h + i) 0x16 0 0 else t) s4
  else s4

/-! ### Angle and position (R336, R337) -/

/-- The sign of the commanded speed, or of the last that was not zero (R337). -/
def SyncAxis.way (x : SyncAxis) : Int := if x.back then -1 else 1

/-- The reported position follows the raw one, a backward step of up to U being held (R337). -/
def State.followRaw (s : State) (a : Nat) : State :=
  let x := s.sx a
  let u : Int := s.fld (Reg.AXIS_AX_CFG a) 18 16 * s.fld (Reg.AXIS_AX_SENSOR a) 15 0
  let d := (x.r - x.p) * x.way
  let s1 := s.modSx a (fun x => { x with pWas := x.p, p := if 0 ≤ d ∨ u < -d then x.r else x.p })
  if 0 ≤ d then s1.setFld (Reg.AXIS_AX_JITTER a) 15 0 0
  else if u < -d then
    ((s1.setFld (Reg.AXIS_AX_JITTER a) 15 0 0).bump (Reg.AXIS_AX_JITTER a) 31 16).raiseBit Reg.AXIS_EVENTS 9
  else s1.setFld (Reg.AXIS_AX_JITTER a) 15 0 (min 65535 d.natAbs)

/-- The angle of a slot is unwrapped into the raw position (R336). -/
def State.takeAngle (s : State) (a angle : Nat) : State :=
  let x := s.sx a
  match x.angle with
  | some old =>
    let d := signedOf 24 (angle + 2 ^ 24 - old % 2 ^ 24)
    if x.aligned then
      (s.modSx a (fun x => { x with angle := some angle, r := x.r + d, vEst := d * 256 })).followRaw a
    else s.modSx a (fun x => { x with angle := some angle })
  | none => s.modSx a (fun x => { x with angle := some angle })

/-! ### Catch, start and spin-down (R348, R349, R352) -/

/-- The speed that GRADE_LINK gives an axis, and none without GRADE_LINK. -/
def State.axisGrade (s : State) (a : Nat) : Option Int :=
  if s.gradeLink false a then some (s.gradeEntry false a s.grade) else none

/-- SPINDOWN begins; the speed still commanded is kept (R348). -/
def State.enterSpindown (s : State) (a : Nat) (g : Goal) : State :=
  s.modSx a (fun x => { x with
    mode := .spindown, goal := g, halt := .no, bridges := false, coasting := false, vcmd := 0, guard := 0, since := s.tick, lowRun := 0,
    goodRun := 0, ramping := false })

/-- START begins with a pulse round (R349). -/
def State.enterStart (s : State) (a : Nat) (v : Int) : State :=
  s.modSx a (fun x => { x with
    mode := .start, goal := .speed v, halt := .no, bridges := true, coasting := false, vcmd := 0, guard := 0, since := s.tick,
    rounds := 1, angles := 0, peaks := [], ramping := false, lowRun := 0, goodRun := 0 })

/-- IDLE, and what follows it: with a commanded speed, VELOCITY for a sensor axis and START for a sensorless one
(R348). -/
def State.axisIdle (s : State) (a : Nat) (next : Option Int) : State :=
  let p0 := s.syncProfile a 0
  let s1 := s.modSx a (fun x => { x with
    mode := .idle, goal := .none, halt := .no, bridges := x.aligned, coasting := false, vcmd := 0,
    vEst := if x.aligned then x.vEst else 0 })
  match next with
  | some v =>
    if s.safe then s1
    else
      let s2 := s1.modSx a (fun x => { x with profile := p0, clamped := 0 })
      if (s.sx a).aligned ∨ v = 0 then s2.modSx a (fun x => { x with mode := .velocity, goal := .speed v })
      else s2.enterStart a v
  | none => s1

/-- A turning rotor is taken over at speed `w`, 24.8: VELOCITY to the grade speed or on at `w`, or a deceleration while the
safe state is in force (R348, R355). -/
def State.takeRotor (s : State) (a : Nat) (w : Int) : State :=
  let p0 := s.syncProfile a 0
  let g := (s.axisGrade a).getD (w * 65536)
  s.modSx a (fun x => { x with
    mode := if s.safe then .stopping else .velocity, goal := .speed (if s.safe then 0 else g),
    halt := if s.safe then .stop else .no, profile := p0, vcmd := w * 65536, guard := 0, vEst := w, bridges := true, coasting := false,
    lowRun := 0, goodRun := 0, clamped := 0 })

/-- A rotor turning backward is decelerated: toward 0 and then as for a still one, or toward VMIN and SPINDOWN (R348). -/
def State.brakeRotor (s : State) (a : Nat) (w : Int) : State :=
  (s.takeRotor a w).modSx a (fun x => { x with
    mode := .stopping, goal := .speed 0, halt := if s.safe then .stop else .reverse })

/-- A speed is forward (R348). -/
def State.forward (s : State) (a : Nat) (w : Int) : Bool := decide (0 ≤ w) != s.flag (Reg.AXIS_AX_CFG a) 9

/-- A rotor is caught: the event and the count (R358, R359). Routes: 0 beam detect, 1 crossings. -/
def State.noteCatch (s : State) (a route : Nat) (w : Int) : State :=
  ((s.bump (Reg.AXIS_AX_COUNTS a) 31 16).raiseBit Reg.AXIS_EVENTS 1).event 0x0A02
    [a, route, codeOf 32 w, s.tick - (s.sx a).since]

/-- RECOVER fails (R352). -/
def State.catchFail (s : State) (a route : Nat) : State :=
  ((s.raiseBit Reg.AXIS_EVENTS 2).event 0x0A03 [a, route, s.tick - (s.sx a).since]).axisFault a 0x15 2 0

/-- RECOVER ends with a catch at speed `w`: the observer is seeded and the ramp goes on to the target in force (R352). -/
def State.recovered (s : State) (a route : Nat) (w : Int) : State :=
  if w.natAbs < s.axVmin a then s.catchFail a route
  else
    (s.noteCatch a route w).modSx a (fun x => { x with
      mode := if x.halt = .stop then .stopping else .velocity, vcmd := w * 65536, guard := 0, vEst := w, bridges := true,
      coasting := false, lowRun := 0, goodRun := 0 })

/-- The signs of the terminal voltages of a slot, and how many of them changed (R348). -/
def slotSigns (r : AxisSlot) : List Bool := [decide (0 ≤ r.vu), decide (0 ≤ r.vv), decide (0 ≤ r.vw)]
def signChanges (old : Option (List Bool)) (new : List Bool) : Nat :=
  match old with
  | some o => ((o.zip new).filter (fun p => p.1 != p.2)).length
  | none => 0

/-- The zero crossings of a slot are counted, and its amplitude is shown (R348, R359). -/
def State.countCrossings (s : State) (a : Nat) (r : AxisSlot) : State :=
  s.modSx a (fun x => { x with
    crossings := x.crossings + signChanges x.signs (slotSigns r), signs := some (slotSigns r),
    amplitude := Config.terminalEmf r.vu r.vv r.vw % 65536 })

/-- CATCH of an axis with a valid sensor, over two gathered angles (R348). -/
def State.catchSensor (s : State) (a : Nat) : State :=
  let s1 := s.modSx a (fun x => { x with angles := x.angles + 1 })
  let x := s1.sx a
  if x.angles < 2 ∨ !x.aligned then s1
  else if x.vEst.natAbs < s.axStill a then s1.axisIdle a (s.axisGrade a)
  else if s.forward a x.vEst then s1.takeRotor a x.vEst
  else s1.brakeRotor a x.vEst

/-- CATCH of a sensorless axis (R348). The speed that the crossings give is free. -/
def State.catchCrossings (s : State) (a : Nat) (r : AxisSlot) : State :=
  let s1 := s.countCrossings a r
  let x := s1.sx a
  let go : Goal := if s.safe then .none else match s.axisGrade a with
    | some v => .speed v
    | none => .none
  if x.amplitude < s.axStartEmf a then s1.axisIdle a (s.axisGrade a)
  else if s.fld (Reg.AXIS_AX_CATCH_CFG a) 7 0 ≤ x.crossings then
    let w := signedOf 32 s1.freeNat
    let s2 := s1.drawn
    if w.natAbs < s.axVmin a then s2.enterSpindown a go
    else if s.forward a w then (s2.noteCatch a 1 w).takeRotor a w
    else (s2.noteCatch a 1 w).brakeRotor a w
  else s1

/-- RECOVER by zero crossings (R352). -/
def State.recoverCrossings (s : State) (a : Nat) (r : AxisSlot) : State :=
  let s1 := s.countCrossings a r
  if s.fld (Reg.AXIS_AX_CATCH_CFG a) 7 0 ≤ (s1.sx a).crossings then
    s1.drawn.recovered a 1 (signedOf 32 s1.freeNat)
  else s1

/-- SPINDOWN ends with an amplitude below START_EMF: IDLE, and START if a speed is commanded (R348). -/
def State.spindownSlot (s : State) (a : Nat) (r : AxisSlot) : State :=
  let s1 := s.countCrossings a r
  if (s1.sx a).amplitude < s.axStartEmf a then
    s1.axisIdle a (match (s.sx a).goal with
      | .speed v => if v = 0 then none else some v
      | _ => none)
  else s1

/-- The place of the greatest peak of a round, the first of equals. -/
def bestPeak (l : List Nat) : Nat :=
  (l.zipIdx.foldl (fun (b : Nat × Nat) p => if b.1 < p.1 then p else b) (l.getD 0 0, 0)).2

/-- Electrical angle of pulse `i` of a round (R349). -/
def pulseAngle (i : Nat) : Nat := (1024 * i + 6) / 12

/-- A sensorless start has failed (R349). -/
def State.startFail (s : State) (a detail : Nat) : State :=
  ((s.raiseBit Reg.AXIS_EVENTS 3).event 0x0A04 ([a, 0x18, detail] ++ (s.sx a).peaks)).axisFault a 0x18 detail 0

/-- A peak of the pulse round is gathered; the twelfth decides the round (R349). -/
def State.takePeak (s : State) (a peak : Nat) : State :=
  let x := s.sx a
  let l := x.peaks ++ [peak]
  let s1 := s.modSx a (fun x => { x with peaks := l })
  if l.length < 12 then s1
  else
    let i := bestPeak l
    let c := Reg.AXIS_AX_START_CFG a
    if l.getD ((i + 6) % 12) 0 + s.fld c 23 16 ≤ l.getD i 0 then
      s1.modSx a (fun x => { x with ramping := true, theta0 := pulseAngle i * 2 ^ 14, goodRun := 0 })
    else if x.rounds < s.fld c 27 24 then s1.modSx a (fun x => { x with rounds := x.rounds + 1, angles := 0, peaks := [] })
    else s1.startFail a 1

/-- A coasting axis has come to rest (R353, R354). -/
def State.coastRest (s : State) (a : Nat) : State :=
  let s1 := s.modSx a (fun x => { x with coasting := false, vEst := if x.aligned then x.vEst else 0 })
  match (s.sx a).mode with
  | .stopping => s1.axisIdle a none
  | _ => s1

/-! ### What a slot tells (R333, R336, R348, R354) -/

/-- The angle of a slot is valid for an axis with a sensor. -/
def State.slotAngle (s : State) (a : Nat) (r : AxisSlot) : Bool :=
  decide (s.axSensor a < 2) && bitOf r.flags 0 && !bitOf r.flags 1

/-- What a slot says of an axis beside its measurements. The driver's and the sensor's flags of an axis that is DISABLED or
in FAULT fault nothing. -/
def State.axisSlotDecide (s : State) (a : Nat) (r : AxisSlot) : State :=
  let good := s.slotAngle a r
  let lost := decide (s.axSensor a < 2) && (bitOf r.flags 1 || ((s.sx a).aligned && !good))
  let s1 := if good then s.takeAngle a r.angle else s
  let x := s1.sx a
  let live := decide (x.mode ≠ .disabled) && decide (x.mode ≠ .fault)
  if live ∧ bitsOf r.flags 4 2 ≠ 0 then
    ((s1.raiseBit Reg.AXIS_EVENTS 5).event 0x0A08 [a, r.flags % 256]).axisFault a 0x0D 0 (r.flags % 256)
  else if live ∧ lost then
    ((s1.raiseBit Reg.AXIS_EVENTS 4).event 0x0A05 [a, r.flags % 256, codeOf 48 x.p]).axisFault a 0x17 0 (r.flags % 256)
  else
    let s2 := if lost then s1.dropSensor a else s1
    match x.mode with
    | .catching =>
      if good then s2.catchSensor a else if bitOf r.flags 5 then s2.catchCrossings a r else s2
    | .recover => if bitOf r.flags 5 then s2.recoverCrossings a r else s2
    | .spindown => if bitOf r.flags 5 then s2.spindownSlot a r else s2
    | .start => if !x.ramping ∧ bitOf r.flags 6 then s2.takePeak a r.peak else s2
    | _ =>
      if x.coasting then
        let s3 := if bitOf r.flags 5 then s2.countCrossings a r else s2
        if (x.aligned ∧ x.vEst.natAbs < s.axStill a) ∨ (bitOf r.flags 5 ∧ (s3.sx a).amplitude < s.axStartEmf a) then
          s3.coastRest a
        else s3
      else s2

/-- One slot of a good frame of the outbound tick `n`. -/
def State.axisReturn (s : State) (a n : Nat) (r : AxisSlot) : State :=
  (s.axisSlotDecide a r).modSx a (fun x => { x with meas := some (r.i0, r.i1, n) })

/-- An inbound frame is gathered (R333). One with a bad CRC is discarded and counted. -/
def State.gatherAxisFrame (s : State) (k : Nat) (f : AxisFrame) : State :=
  let s0 : State := { s with axis := { s.axis with waiting := tabDel s.axis.waiting k } }
  if !f.crcOk then s0.setFld (Reg.AXIS_LINK_STATE k) 31 24 (min 255 (s0.fld (Reg.AXIS_LINK_STATE k) 31 24 + 1))
  else
    let links := s0.axis.links.modify k (fun (l : Link) => { l with good := s.tick + 1, miss := 0 })
    { s0 with axis := { s0.axis with links := links, returned := tabPut s0.axis.returned k f } }

/-- The decisions on a frame gathered in this tick (R334, R343): the hub's status, the bus watch, the slots. -/
def State.axisFrameDecide (s : State) (k : Nat) (f : AxisFrame) : State :=
  if !bitOf f.status 0 ∨ bitOf f.status 2 then (s.setFld (Reg.AXIS_HUB_VBUS k) 15 0 f.vbus).loseAxisLink k 3
  else
    ((f.slots.take 6).zipIdx).foldl (fun t p => t.axisReturn (6 * k + p.2) f.tick p.1)
      (s.busWatch k f.vbus (bitOf f.status 1))

/-- The decisions on the frames gathered in this tick. -/
def State.axisReturns (s : State) : State :=
  s.axis.returned.foldl (fun t p => t.axisFrameDecide p.1 p.2) { s with axis := { s.axis with returned := [] } }

/-- The TICK that a frame received now carries (R333): the tick before the one in which the hub sent it, which is the tick
before this one where this tick gathers it, and else this tick. -/
def State.axisTickOk (s : State) (n : Nat) : Bool :=
  decide ((n + if s.decideOpen then 1 else 2) % 2 ^ 48 = s.tick)

/-- AXIS_FRAME_RETURN (R333, R334, R559): gathered where the page holds LINK_IN and the tick's gather is not over; otherwise it
waits, and a newer frame replaces it. One with a good CRC whose TICK is another is discarded. In TRAINING a frame with READY
lets the training end. -/
def execAxisFrameReturn (k : Fin 4) (bs : List Byte) (s : State) : Host.Outcome State Fault Refusal :=
  let f := readAxisFrame bs
  if s.axisLink k = 1 ∧ f.crcOk ∧ bitOf f.status 0 then
    .next { s with axis := { s.axis with links :=
      (s.axis.links.modify k (fun (l : Link) => { l with good := s.tick + 1 })) } }
  else if s.axisLink k ≠ 2 ∨ (f.crcOk ∧ !s.axisTickOk f.tick) then .next s
  else if s.pageHas 0x0A 1 k ∧ !s.decideOpen then .next (s.gatherAxisFrame k f)
  else .next { s with axis := { s.axis with waiting := tabPut s.axis.waiting k f } }

/-- LINK_IN of axis link `k` (R559): the frame that waits is gathered, and a tick without a good frame is counted. -/
def State.axisLinkIn (s : State) (k : Nat) : State :=
  if s.axisLink k ≠ 2 then s
  else
    let t1 := match tabFind s.axis.waiting k with
      | some f => s.gatherAxisFrame k f
      | none => s
    if (t1.axis.links.getD k Link.init).good = t1.tick + 1 then t1
    else
      let links := t1.axis.links.modify k (fun (l : Link) => { l with miss := l.miss + 1 })
      { t1 with axis := { t1.axis with links := links } }

/-! ### Commands (R346, R347) -/

/-- A command with its checks, in the order of R304, and its effect. -/
def State.axisCommand (s : State) (a : Nat) (checks : List (Bool × Nat)) (f : State → State) : State :=
  match checks.find? (·.1) with
  | some c => (s.wrN (Reg.AXIS_AX_RESULT a) c.2).raiseBit Reg.AXIS_EVENTS 10
  | none => f (s.wrN (Reg.AXIS_AX_RESULT a) 1)

/-- The checks that every command but DISABLE shares. -/
def State.axisChecks (s : State) (a : Nat) (accepted : Bool) : List (Bool × Nat) :=
  [(s.safe, 4), (decide ((s.sx a).mode = .ledger), 8), (!accepted, 2)]

/-- The mode of an axis is one of these. -/
def State.axisIn (s : State) (a : Nat) (ms : List AxisMode) : Bool := ms.contains (s.sx a).mode

/-- The configuration of an axis is complete (R347). -/
def State.axisComplete (s : State) (a : Nat) : Bool :=
  let nz (r hi lo : Nat) : Bool := decide (s.fld r hi lo ≠ 0)
  let h := a / 6
  let hold := s.fld (Reg.AXIS_HUB_BUS h) 15 0
  let ceil := s.fld (Reg.AXIS_HUB_BUS h) 31 16
  axisProfileValid (s.syncProfile a 0) && nz (Reg.AXIS_AX_CFG a) 7 4 &&
  nz (Reg.AXIS_AX_ILOOP a) 15 0 && nz (Reg.AXIS_AX_ILOOP a) 31 16 && nz (Reg.AXIS_AX_SLOOP a) 15 0 &&
  nz (Reg.AXIS_AX_SLOOP a) 31 16 && nz (Reg.AXIS_AX_LIMITS a) 15 0 &&
  decide (0 < hold) && decide (hold < ceil) && decide (ceil < s.fld (Reg.AXIS_HUB_TRIP h) 15 0) &&
  (decide (s.axSensor a = 1) || (decide (s.axSensor a = 0) && (s.sx a).aligned) ||
    (nz (Reg.AXIS_AX_MOTOR_KE a) 15 0 && decide (s.axVmin a ≠ 0) && nz (Reg.AXIS_AX_START_I a) 15 0))

/-- The target registers: a position in 2⁻²⁴ unit, and a speed in 2⁻²⁴ unit a tick (R346). -/
def State.axisTarget (s : State) (a : Nat) : Int :=
  signedOf 48 (s.rdN (Reg.AXIS_AX_TARGET_LO a) + s.fld (Reg.AXIS_AX_TARGET_HI a) 15 0 * 2 ^ 32)
def State.axisAsked (s : State) (a : Nat) : Int :=
  (s.axisGrade a).getD (signedOf 32 (s.rdN (Reg.AXIS_AX_TARGET_LO a)) * 65536)

/-- ENABLE (R346 to R348). -/
def State.axisEnable (s : State) (a : Nat) : State :=
  s.axisCommand a
    (s.axisChecks a (s.axisIn a [.disabled] && decide (s.axisLink (a / 6) = 2)) ++
      [(s.holding, 6), (!s.axisComplete a, 10)])
    (fun t => t.modSx a (fun x => { x with
      mode := .catching, goal := .none, halt := .no, bridges := false, coasting := false, vcmd := 0, guard := 0, since := t.tick,
      angles := 0, crossings := 0, signs := none, ramping := false, lowRun := 0, goodRun := 0, vlimit := false }))

/-- DISABLE (R346). -/
def State.axisDisable (s : State) (a : Nat) : State :=
  s.axisCommand a
    [(decide ((s.sx a).mode = .ledger), 8), (!s.axisIn a [.disabled, .idle, .spindown, .fault], 2)]
    (fun t => t.modSx a (fun x => { x with
      mode := .disabled, goal := .none, halt := .no, bridges := false, coasting := false, vcmd := 0, guard := 0, vlimit := false }))

/-- A target lies behind a moving axis (R306, R353). -/
def axisBehind (p : List Nat) (v d : Int) : Bool := behind (axisProfile p) v d

/-- MOVE (R346). -/
def State.axisMove (s : State) (a prof : Nat) : State :=
  let p := s.syncProfile a prof
  s.axisCommand a
    (s.axisChecks a (s.axisIn a [.idle, .velocity, .move]) ++ [(!(s.sx a).aligned, 9), (!axisProfileValid p, 3)])
    (fun t =>
      let g := t.axisTarget a * 2 ^ 24
      t.modSx a (fun x => { x with
        mode := .move, profile := p, goal := .target g, bridges := true,
        halt := if axisBehind p x.vcmd (g - x.pcmd) then .reverse else .no }))

/-- VELOCITY (R346, R348, R356). -/
def State.axisVelocity (s : State) (a prof : Nat) : State :=
  let p := s.syncProfile a prof
  let v := s.axisAsked a
  s.axisCommand a
    (s.axisChecks a (s.axisIn a [.idle, .velocity, .move, .start, .recover]) ++
      [(!axisProfileValid p, 3), (decide (pf p 1 < v.natAbs), 5)])
    (fun t =>
      let t1 := t.modSx a (fun x => { x with profile := p, clamped := 0 })
      let x := t.sx a
      match x.mode with
      | .recover => t1.modSx a (fun y => { y with goal := .speed v, halt := .no })
      | .start =>
        let turns : Bool := match x.goal with
          | .speed g => decide (signOf g ≠ signOf v)
          | _ => false
        if v ≠ 0 ∧ turns then t1.enterSpindown a (.speed v)
        else if v = 0 then t1.brakeSync a .velocity .no
        else t1.modSx a (fun y => { y with goal := .speed v })
      | .idle =>
        if x.aligned ∨ v = 0 then t1.modSx a (fun y => { y with mode := .velocity, goal := .speed v, halt := .no })
        else t1.enterStart a v
      | _ => t1.modSx a (fun y => { y with mode := .velocity, goal := .speed v, halt := .no }))

/-- STOP (R346, R353). -/
def State.axisStop (s : State) (a : Nat) : State :=
  s.axisCommand a (s.axisChecks a (s.axisIn a [.velocity, .move, .start, .recover])) (fun t =>
    if (t.sx a).mode = .recover then t.brakeSync a .recover .stop else t.brakeSync a .stopping .stop)

/-- SET_POS (R346): p, r and pcmd take the target. -/
def State.axisSetPos (s : State) (a : Nat) : State :=
  s.axisCommand a (s.axisChecks a (s.axisIn a [.idle])) (fun t =>
    let g := t.axisTarget a
    let n := t.axPoles a
    t.modSx a (fun x => { x with p := g, pWas := g, r := if x.aligned then g else g * n, pcmd := g * 2 ^ 24 }))

/-- CLEAR (R346): IDLE, or DISABLED after LINK_LOSS. -/
def State.axisClear (s : State) (a : Nat) : State :=
  s.axisCommand a (s.axisChecks a (s.axisIn a [.fault] && (s.sx a).still)) (fun t =>
    if t.fld (Reg.AXIS_AX_FAULT a) 4 0 = 0x07 then
      t.modSx a (fun x => { x with mode := .disabled, goal := .none, halt := .no, bridges := false })
    else t.axisIdle a none)

/-- AXIS_ENABLE (R346). -/
def effAxisEnable (a : Fin 24) (s : State) : Host.Outcome State Fault Refusal := .next (s.axisEnable a)
/-- AXIS_DISABLE (R346). -/
def effAxisDisable (a : Fin 24) (s : State) : Host.Outcome State Fault Refusal := .next (s.axisDisable a)
/-- AXIS_MOVE (R346). -/
def effAxisMove (a : Fin 24) (prof : Fin 8) (s : State) : Host.Outcome State Fault Refusal := .next (s.axisMove a prof)
/-- AXIS_VELOCITY (R346). -/
def effAxisVelocity (a : Fin 24) (prof : Fin 8) (s : State) : Host.Outcome State Fault Refusal :=
  .next (s.axisVelocity a prof)
/-- AXIS_STOP (R346). -/
def effAxisStop (a : Fin 24) (s : State) : Host.Outcome State Fault Refusal := .next (s.axisStop a)
/-- AXIS_SET_POS (R346). -/
def effAxisSetPos (a : Fin 24) (s : State) : Host.Outcome State Fault Refusal := .next (s.axisSetPos a)
/-- AXIS_CLEAR (R346). -/
def effAxisClear (a : Fin 24) (s : State) : Host.Outcome State Fault Refusal := .next (s.axisClear a)

/-! ### Timeouts and the observer's loss (R348, R351, R352) -/

/-- CATCH_TMO ticks have passed in CATCH without the crossings: SPINDOWN (R348). -/
def State.catchTimeout (s : State) (a : Nat) : State :=
  let x := s.sx a
  if x.mode = .catching ∧ !x.aligned ∧ x.since + s.axCatchTmo a ≤ s.tick then
    s.enterSpindown a (match (if s.safe then none else s.axisGrade a) with
      | some v => .speed v
      | none => .none)
  else s

/-- START_WAIT ticks have passed in SPINDOWN (R348). -/
def State.spindownTimeout (s : State) (a : Nat) : State :=
  let x := s.sx a
  if x.mode = .spindown ∧ x.since + s.fld (Reg.AXIS_AX_START_WAIT a) 15 0 ≤ s.tick then
    ((s.raiseBit Reg.AXIS_EVENTS 3).event 0x0A04 [a, 0x0E, 0]).axisFault a 0x0E 0 0
  else s

/-- CATCH_TIMEOUT (R348). -/
def effCatchTimeout (a : Fin 24) (s : State) : Host.Outcome State Fault Refusal := .next (s.catchTimeout a)

/-- SPINDOWN_TIMEOUT (R348). -/
def effSpindownTimeout (a : Fin 24) (s : State) : Host.Outcome State Fault Refusal := .next (s.spindownTimeout a)

/-- The stations of the polygon that an axis drives, as a mask (R351). -/
def State.polyStations (s : State) (a : Nat) : Nat :=
  if s.flag (Reg.AXIS_AX_POLY_CFG a) 18 then 3 * 2 ^ (2 * s.fld (Reg.AXIS_AX_POLY_CFG a) 17 16) else 0

/-- The confidence has been low for OBS_TICKS consecutive ticks (R351). An axis that was decelerating in FAULT coasts. -/
def State.loseObserver (s : State) (a : Nat) : State :=
  let x := s.sx a
  if x.observed ∧ x.mode ≠ .start ∧ s.axObsTicks a ≤ x.lowRun then
    let m := s.polyStations a
    let s1 := (((s.fault (0x280 + a) 0x15 0).bump (Reg.AXIS_AX_COUNTS a) 15 0).raiseBit Reg.AXIS_EVENTS 0).event 0x0A01
      [a, x.conf, codeOf 32 x.vEst, codeOf 16 x.iq, m]
    let s2 := if m = 0 then s1 else s1.report .observerLoss m 0 0
    if x.mode = .fault then s2.coastSync a .fault
    else s2.modSx a (fun x => { x with
      mode := .recover, bridges := false, vcmd := 0, guard := 0, since := s.tick, crossings := 0, signs := none, lowRun := 0,
      goodRun := 0 })
  else s

/-- OBSERVER_LOSS (R351). -/
def effObserverLoss (a : Fin 24) (s : State) : Host.Outcome State Fault Refusal := .next (s.loseObserver a)

/-- CATCH_TMO ticks have passed in RECOVER without a catch (R352). -/
def State.recoverTimeout (s : State) (a : Nat) : State :=
  let x := s.sx a
  if x.mode = .recover ∧ x.since + s.axCatchTmo a ≤ s.tick then s.catchFail a 1 else s

/-- RECOVER_TIMEOUT (R352). -/
def effRecoverTimeout (a : Fin 24) (s : State) : Host.Outcome State Fault Refusal := .next (s.recoverTimeout a)

/-- The faults, the observer's loss and the timeouts of an axis that are due in this tick come before its commands (R346). -/
def State.axisDue (s : State) (a : Nat) : State :=
  (((s.spindownTimeout a).recoverTimeout a).loseObserver a).catchTimeout a

/-- The stations whose facet periods give the speed of a polygon (R357). -/
def State.polyGives (s : State) (a stn : Nat) : Bool :=
  let q := s.fld (Reg.AXIS_AX_POLY_CFG a) 17 16
  s.flag (Reg.AXIS_AX_POLY_CFG a) 18 &&
  (decide (stn = 2 * q) || (decide (stn = 2 * q + 1) && s.flag (Reg.AXIS_AX_POLY_CFG a) 19 && decide (s.gate (2 * q) ≠ 2)))

/-- The speed of a polygon, 24.8, from a facet period in ps (R357). -/
def facetSpeed (ps : Nat) : Int := (2 ^ 24 * 25000000 / (8 * max 1 ps) * 256 : Nat)

/-- A facet period is gathered (R352, R357). -/
def State.takeFacetPeriod (s : State) (a : Nat) (f : FacetPeriod) : State :=
  let w := facetSpeed f.period
  let x := s.sx a
  if x.mode = .recover then
    if s.gate f.station = 2 ∧ s.flag (Reg.SCAN_STN_STATE f.station) 2 ∧ s.flag (Reg.AXIS_AX_BD_EANGLE a) 31 then
      let dt : Int := s.tick * 320000 - f.time
      let th := (s.fld (Reg.AXIS_AX_BD_EANGLE a) 23 0 + w * s.axPoles a * dt / (256 * 320000)) % 2 ^ 24
      (s.modSx a (fun x => { x with theta := th.toNat })).recovered a 0 w
    else s
  else
    let s1 := s.modSx a (fun x => { x with
      vEst := x.vEst + s.fld (Reg.AXIS_AX_POLY_CFG a) 15 0 * (w - x.vEst) / 65536, polyRefine := true })
    if f.index0 ∧ s.axConfMin a ≤ x.conf then
      s1.drawn.wrN (Reg.AXIS_AX_BD_EANGLE a) (s1.freeNat % 2 ^ 24 + 2 ^ 31)
    else s1

/-- FACET_PERIOD_GATHERED (R352, R357): the oldest facet period that the axis's polygon gives and that has not been
gathered. -/
def execFacetPeriodGathered (a : Fin 24) (s : State) : Host.Outcome State Fault Refusal :=
  match s.axis.periods.find? (fun f => s.polyGives a f.station && s.gathers (f.time / 320000)) with
  | some f =>
    let s1 : State := { s with axis := { s.axis with periods := s.axis.periods.erase f } }
    .next (s1.takeFacetPeriod a f)
  | none => .next s

/-! ### FOC: the profile, the observer and the windows (R338 to R342, R349, R350, R353, R356) -/

/-- The target speed of an axis with GRADE_LINK (R356): an entry beyond VMAX is taken as VMAX, with GRADE_CLAMP. -/
def State.axisGradeGoal (s : State) (a : Nat) : State :=
  let x := s.sx a
  match s.axisGrade a with
  | some e =>
    if s.axisIn a [.velocity, .start, .recover, .spindown] ∧ x.halt ≠ .stop ∧ x.goal ≠ .none then
      let vm := pf x.profile 1
      let tooFast := decide (vm < e.natAbs)
      let s1 := if tooFast ∧ x.clamped ≠ s.grade + 1 then s.raiseBit Reg.AXIS_EVENTS 12 else s
      s1.modSx a (fun x => { x with
        goal := .speed (if tooFast then directed e vm else e), clamped := if tooFast then s.grade + 1 else 0 })
    else s
  | none => s

/-- The confidence of an estimate (R350), from the amplitude of ê and |i_meas − i_pred| × RS in 10 mV. KE is in mV per
electrical revolution per second, and a tick is 25 µs. -/
def State.confidence (s : State) (a : Nat) (v : Int) (emf drop : Nat) : Nat :=
  let e := s.fld (Reg.AXIS_AX_MOTOR_KE a) 15 0 * (v.natAbs * s.axPoles a) * 40000 / (10 * 2 ^ 32)
  let top := max emf e
  let one := max e 1
  if v.natAbs < s.axVmin a ∨ top = 0 then 0 else 255 * (min emf e * one - drop * top) / (top * one)

/-- The observer of an axis that runs on it (R350): its angle, speed, back-EMF and current error are free, its confidence is
as R350 gives. A tick with an absent slot leaves the runs of R349 and R351 unchanged. -/
def State.observe (s : State) (a : Nat) : State :=
  let x := s.sx a
  if !x.observed then s
  else
    let v := signedOf 32 s.freeNat
    let th := s.freeNat 1 % 2 ^ 24
    let emf := s.freeNat 3 % 65536
    let c := s.confidence a v emf (s.freeNat 2)
    let seen := decide ((s.axis.links.getD (a / 6) Link.init).good = s.tick + 1)
    let r := x.r + signedOf 24 (th + 2 ^ 24 - x.theta % 2 ^ 24)
    let low := decide (c < s.axConfMin a)
    let n : Int := s.axPoles a
    (s.drawn 4).modSx a (fun x => { x with
      vEst := v, theta := th, conf := c, amplitude := emf, r := r, pWas := x.p, p := r / n,
      lowRun := if !seen then x.lowRun else if low ∧ x.mode ≠ .start then x.lowRun + 1 else 0,
      goodRun := if !seen then x.goodRun else if low then 0 else x.goodRun + 1 })

/-- The speed from which a ramp goes on. -/
def SyncAxis.ramp (x : SyncAxis) : Int := x.vcmd + x.guard

/-- The speed that the profile asks for in this tick (R344, R349, R353). -/
def State.axisWants (s : State) (a : Nat) : Int :=
  let x := s.sx a
  match x.mode, x.goal with
  | .velocity, .speed g => axisSpeedStep x.profile x.ramp g
  | .stopping, _ => axisSpeedStep x.profile x.ramp 0
  | .fault, _ => axisSpeedStep x.profile x.ramp 0
  | .move, .target t => if x.halt = .reverse then axisSpeedStep x.profile x.ramp 0 else axisMoveStep x.profile x.ramp (t - x.pcmd)
  | .ledger, .speed g => g
  | .start, .speed g => if x.ramping then directed g (x.ramp.natAbs + pf (s.syncProfile a 0) 2) else 0
  | .recover, _ => 0
  | _, _ => 0

/-- The speed after the voltage limit (R342) and the bus watch (R343): the first keeps |vcmd| from rising, the second from
falling. -/
def State.axisAllowed (s : State) (a : Nat) (w : Int) : Int :=
  let x := s.sx a
  if x.vlimit ∧ x.mode ≠ .ledger ∧ x.vcmd.natAbs < w.natAbs then x.vcmd
  else if s.busHold (a / 6) ∧ w.natAbs < x.vcmd.natAbs then x.vcmd
  else w

/-- The axis takes commanded speed `w`, to 8 fraction bits, and moves by it (R338). A ramp keeps what vcmd does not hold. -/
def State.axisRun (s : State) (a : Nat) (w : Int) : State :=
  let q := w.tdiv 65536 * 65536
  s.modSx a (fun x => { x with
    vWas := x.vcmd, vcmd := q, guard := w - q, pcmd := wrapInt 72 (x.pcmd + q), disp := q,
    back := if q = 0 then x.back else decide (q < 0) })

/-- A sensorless axis leaves its ramp at VMIN and coasts; a reversal goes on in SPINDOWN (R348, R353). -/
def State.leaveRamp (s : State) (a : Nat) : State :=
  let x := s.sx a
  match x.mode, x.goal with
  | .velocity, .speed g => if g = 0 then s.coastSync a .velocity else s.enterSpindown a (.speed g)
  | .stopping, _ =>
    if x.halt = .reverse then
      s.enterSpindown a (match s.axisGrade a with
        | some v => .speed v
        | none => .none)
    else s.coastSync a .stopping
  | m, _ => s.coastSync a m

/-- What follows once the axis has its speed: rest, hand-over, the end of a ramp (R346, R349, R353, R356). -/
def State.axisAfter (s : State) (a : Nat) : State :=
  let x := s.sx a
  let vmin := s.axVmin a * 65536
  let falling : Bool := match x.mode, x.goal with
    | .velocity, .speed g => decide (g = 0) || (decide (x.vcmd ≠ 0) && decide (signOf g ≠ signOf x.vcmd))
    | .stopping, _ => true
    | .fault, _ => true
    | _, _ => false
  if !x.aligned ∧ x.bridges ∧ falling ∧ x.vcmd.natAbs ≤ vmin then s.leaveRamp a
  else
    match x.mode, x.goal with
    | .stopping, _ =>
      if x.vcmd = 0 ∧ !x.coasting then s.axisIdle a (if x.halt = .reverse then s.axisGrade a else none) else s
    | .move, .target t =>
      if x.halt = .reverse then (if x.vcmd = 0 then s.modSx a (fun x => { x with halt := .no }) else s)
      else if t = x.pcmd ∧ x.vcmd = 0 then s.modSx a (fun x => { x with mode := .idle, goal := .none })
      else if x.vcmd ≠ 0 ∧ !withinBrake (axisProfile x.profile) x.vcmd.natAbs 0 (t - x.pcmd).natAbs then s
      else if s.busHold (a / 6) ∧ x.vcmd ≠ 0 ∧ x.vcmd = x.vWas then s.modSx a (fun x => { x with halt := .reverse })
      else s
    | .velocity, .speed g =>
      if !x.aligned ∧ !x.bridges ∧ g ≠ 0 then (if x.coasting then s.enterSpindown a (.speed g) else s.enterStart a g) else s
    | .start, _ =>
      if !x.ramping then s
      else if vmin ≤ x.vcmd.natAbs ∧ s.axObsTicks a ≤ x.goodRun then
        s.modSx a (fun x => { x with mode := .velocity, halt := .no, ramping := false, lowRun := 0 })
      else if 2 * vmin ≤ x.vcmd.natAbs then s.startFail a 2
      else s
    | .ledger, _ => if !x.aligned ∧ x.vcmd.natAbs < vmin then s.axisFault a 0x15 3 0 else s
    | _, _ => s

/-- A phase's pulse in the PWM period: its number, RISE and FALL in 2.5 ns (R331, R340). -/
abbrev Pulse := Nat × Int × Int

/-- A pulse moved by `d`. -/
def Pulse.shift (p : Pulse) (d : Int) : Pulse := (p.1, p.2.1 + d, p.2.2 + d)

/-- The windows of R341: the shifts of the three pulses, taken in the order of their rising edges. -/
def placeWindows (win : Int) (p1 p2 p3 : Pulse) : List Pulse :=
  let dl := win - (p2.2.1 - p1.2.1)
  let (q1, q2, q3) :=
    if dl ≤ 0 then (p1, p2, p3)
    else if 0 ≤ p1.2.1 - dl then (p1.shift (-dl), p2, p3)
    else (p1, p2.shift dl, p3.shift dl)
  let dm := win - (q3.2.1 - q2.2.1)
  if dm ≤ 0 then [q1, q2, q3]
  else if q3.2.2 + dm ≤ 10000 then [q1, q2, q3.shift dm]
  else [q1.shift (-dm), q2.shift (-dm), q3]

/-- Every edge lies in the period. -/
def pulsesFit (l : List Pulse) : Bool := l.all (fun p => decide (0 ≤ p.2.1) && decide (p.2.2 ≤ 10000))

/-- The pulses of three rising edges, by phase (R340). -/
def pulsesOf (r : List Int) : List Pulse := r.zipIdx.map (fun p => (p.2, p.1, 10000 - p.1))

/-- Insert a pulse before the first whose rising edge lies later. -/
def insertPulse (x : Pulse) : List Pulse → List Pulse
  | [] => [x]
  | y :: ys => if x.2.1 ≤ y.2.1 then x :: y :: ys else y :: insertPulse x ys

/-- The pulses in the order of their rising edges, with the windows placed. -/
def placed (win : Int) (r : List Int) : List Pulse :=
  match (pulsesOf r).foldr insertPulse [] with
  | [p1, p2, p3] => placeWindows win p1 p2 p3
  | l => l

/-- The placement, and whether the voltage vector had to be scaled down for it (R341): by the least of 5,000 steps that
lets both windows fit. -/
def placement (win : Int) (r : List Int) : List Pulse × Bool :=
  let l := placed win r
  if pulsesFit l then (l, false)
  else
    let scaled (k : Nat) : List Pulse := placed win (r.map (fun x => 2500 + (x - 2500) * k / 5000))
    match (List.range 5000).reverse.find? (fun k => pulsesFit (scaled k)) with
    | some k => (scaled k, true)
    | none => (placed win [2500, 2500, 2500], true)

/-- The 32 bytes of a slot (R331). -/
def axisSlotBytes (mode : Nat) (edges : List Int) (s0 s1 : Int) (angle len : Nat) : List Byte :=
  leBytes 1 mode ++ List.replicate 3 0 ++ (edges.map (codeOf 16)).flatMap (leBytes 2) ++ leBytes 2 (codeOf 16 s0) ++
  leBytes 2 (codeOf 16 s1) ++ leBytes 2 angle ++ leBytes 2 len ++ List.replicate 8 0

/-- A slot that is OFF. -/
def offSlot : List Byte := axisSlotBytes 0 (List.replicate 6 0) 0 0 0 0

/-! ### The current control (R336, R339, R342) -/

/-- theta_e of an axis (R336): from its sensor's angle and EOFS, or the observer's. In the ramp of START it is advanced from θ0
by vcmd (R349). -/
def State.thetaE (s : State) (a : Nat) : Nat :=
  let x := s.sx a
  if x.mode = .start then x.theta0
  else if x.aligned then ((x.angle.getD 0) * s.axPoles a + s.fld (Reg.AXIS_AX_SENSOR a) 31 16 * 256) % 2 ^ 24 else x.theta

/-- The phase currents ia and ib from I0, I1 and the edge order of their period (R339): I0 is the current of the phase whose
edge rises first, I1 the negative of that of the phase whose edge rises last, and the three add up to 0. -/
def phaseCurrents (order : List Nat) (i0 i1 : Int) : Int × Int :=
  let cur (p : Nat) : Int :=
    if order.getD 0 0 = p then i0 else if order.getD 2 2 = p then -i1 else i1 - i0
  (cur 0, cur 1)

/-- The currents of this tick. Those of an absent slot are free. -/
def State.axisCurrents (s : State) (a : Nat) : Int × Int :=
  let x := s.sx a
  match x.meas with
  | some (i0, i1, n) => phaseCurrents (((x.orders.find? (fun o => decide (o.1 = n))).map (·.2)).getD [0, 1, 2]) i0 i1
  | none => (signedOf 16 s.freeNat, signedOf 16 (s.freeNat 1))

/-- The integral of a loop one tick on: KI × error. Where it may not grow, it keeps a greater magnitude out (R342). -/
def integrate (ki : Nat) (e acc : Int) (held : Bool) : Int :=
  if held ∧ acc.natAbs < (acc + ki * e).natAbs then acc else acc + ki * e

/-- iq_ref and the speed integrator (R339, R343, R349): the speed loop with the position term of a MOVE, limited to IMAX; in
the ramp of START, START_I; with CEIL in effect no axis returns energy. -/
def State.speedLoop (s : State) (a : Nat) : Int × Int :=
  let x := s.sx a
  let c := Reg.AXIS_AX_SLOOP a
  let e := x.vcmd / 65536 - x.vEst
  let acc := integrate (s.fld c 31 16) e x.intS x.vlimit
  let move := if x.mode = .move then Config.positionTerm (x.pcmd / 65536 - x.p * 256) else 0
  let lim : Int := s.fld (Reg.AXIS_AX_LIMITS a) 15 0
  let ref := if x.mode = .start then (s.fld (Reg.AXIS_AX_START_I a) 15 0 : Int)
    else clampInt (-lim) lim (Config.amps (s.fld c 15 0 * e + acc) + move)
  (if s.busCeil (a / 6) ∧ ref * x.vEst < 0 then 0 else ref, acc)

/-- The voltage vector within MOD_MAX × VBUS ÷ √3, vd kept and vq cut first, and whether it was cut (R342). -/
def limitVector (modMax vbus : Nat) (vd vq : Int) : Int × Int × Bool :=
  let top := sqrtNat ((modMax * vbus * 256) ^ 2 / (3 * 2 ^ 32))
  let d := clampInt (-top) top vd
  let rest := sqrtNat (top ^ 2 - d.natAbs ^ 2)
  let q := clampInt (-rest) rest vq
  (d, q, decide (d ≠ vd) || decide (q ≠ vq))

/-- The rising edges of three phase voltages by min-max injection (R339, R340). -/
def risingEdges (v : List Int) (vbus : Nat) : List Int :=
  let off := (v.foldl max (v.headD 0) + v.foldl min (v.headD 0)) / 2
  v.map (fun u => clampInt 0 5000 (2500 - 5000 * (u - off) / (vbus * 256 : Nat)))

/-- The slot of an axis whose bridges switch (R339 to R342): currents, speed and position loop, current loop, modulation,
window placement. -/
def State.pwmSlot (s : State) (a : Nat) : State :=
  let x := s.sx a
  let th := s.thetaE a
  let i := s.axisCurrents a
  let ab := Config.clarke i.1 i.2
  let dq := Config.park ab.1 ab.2 th
  let sp := s.speedLoop a
  let c := Reg.AXIS_AX_ILOOP a
  let kp : Int := s.fld c 15 0
  let intD := integrate (s.fld c 31 16) (-dq.1) x.intD false
  let intQ := integrate (s.fld c 31 16) (sp.1 - dq.2) x.intQ false
  let vbus := s.fld (Reg.AXIS_HUB_VBUS (a / 6)) 15 0
  let v := limitVector (s.fld (Reg.AXIS_AX_LIMITS a) 31 16) vbus (Config.volts (kp * -dq.1 + intD))
    (Config.volts (kp * (sp.1 - dq.2) + intQ))
  let ahead := (th + x.vEst * s.axPoles a * 3 / 512) % 2 ^ 24
  let uv := Config.invPark v.1 v.2.1 ahead.toNat
  let pl := placement (s.fld (Reg.AXIS_AX_SHUNT a) 11 0) (risingEdges ((Config.invClarke uv.1 uv.2).take 3) vbus)
  let settle : Int := s.fld (Reg.AXIS_AX_SHUNT a) 27 16
  let edge (ph : Nat) : List Int := match pl.1.find? (fun p => decide (p.1 = ph)) with
    | some p => [p.2.1, p.2.2]
    | none => [0, 0]
  let at_ (i : Nat) : Int := (pl.1.getD i (0, 0, 0)).2.1 - settle
  (if x.meas.isSome then s else s.drawn 2).modSx a (fun x => { x with
    vlimit := v.2.2 || pl.2, intD := intD, intQ := intQ, intS := sp.2, iq := dq.2,
    orders := ((s.tick, pl.1.map (·.1)) :: x.orders).take 4,
    theta0 := ((th + x.vcmd * s.axPoles a / 2 ^ 24) % 2 ^ 24).toNat,
    slot := axisSlotBytes 1 (edge 0 ++ edge 1 ++ edge 2) (at_ 1) (at_ 2) 0 0 })

/-- A slot without PWM: the loops are skipped and their integrators held at 0 (R339). -/
def State.idleSlot (s : State) (a : Nat) (slot : List Byte) : State :=
  s.modSx a (fun x => { x with vlimit := false, intD := 0, intQ := 0, intS := 0, slot := slot })

/-- The slot that this tick sends (R331, R339, R349). -/
def State.axisSlot (s : State) (a : Nat) : State :=
  let x := s.sx a
  if !x.bridges ∨ s.busTrip (a / 6) then s.idleSlot a offSlot
  else if x.mode = .start ∧ !x.ramping then
    if x.angles < 12 then
      let len := s.fld (Reg.AXIS_AX_START_CFG a) 13 0
      (s.idleSlot a (axisSlotBytes 2 (List.replicate 6 0) 0 0 (pulseAngle x.angles) len)).modSx a (fun x => { x with
        angles := x.angles + 1 })
    else s.idleSlot a offSlot
  else s.pwmSlot a

/-- FOC (R335, R339): the observer, the profile and the windows of one axis. -/
def State.focStep (s : State) (a : Nat) : State :=
  let s1 := (s.axisGradeGoal a).observe a
  let s2 := s1.axisRun a (s1.axisAllowed a (s1.axisWants a))
  (s2.axisAfter a).axisSlot a

/-- At the start of the compute phase no axis has moved. -/
def State.axisBegin (s : State) : State :=
  { s with axis := { s.axis with axes := s.axis.axes.map (fun (x : SyncAxis) => { x with disp := 0 }) } }

/-- At the end of the tick an axis that has gathered its first valid angle takes it into use, from the observer's position
(R336); POLY_REFINE is cleared where no station of the polygon is LOCKED (R357); and facet periods that could be gathered in
this tick are gone. -/
def State.axisEnd (s : State) : State :=
  let upd (p : SyncAxis × Nat) : SyncAxis :=
    let x := p.1
    let q := s.fld (Reg.AXIS_AX_POLY_CFG p.2) 17 16
    let y : SyncAxis := { x with meas := none, polyRefine := x.polyRefine && (decide (s.gate (2 * q) = 2) || decide (s.gate (2 * q + 1) = 2)) }
    if !x.aligned ∧ x.angle.isSome ∧ s.axSensor p.2 < 2 then
      { y with aligned := true, r := x.p, bridges := x.bridges || decide (x.mode = .idle), lowRun := 0 }
    else y
  { s with axis := { s.axis with
    axes := s.axis.axes.zipIdx.map upd, periods := s.axis.periods.filter (fun f => !s.gathers (f.time / 320000)) } }

/-- What safe-state entry does to the synchronous axes (R355). CATCH resolves into a deceleration when it is decided. -/
def State.safeAxes (s : State) : State :=
  s.upTo 24 (fun t a =>
    match (t.sx a).mode with
    | .velocity | .move | .ledger => t.brakeSync a .stopping .stop
    | .start => (t.coastSync a .stopping).modSx a (fun x => { x with goal := .speed 0, halt := .stop })
    | .recover => t.brakeSync a .recover .stop
    | .spindown => t.modSx a (fun x => { x with goal := .none })
    | .stopping => t.modSx a (fun x => { x with halt := .stop })
    | _ => t)

/-- LINK_OUT of axis link `k` (R331): the frame of a link that is UP. -/
def State.axisLinkOut (s : State) (k : Nat) : State :=
  if s.axisLink k = 2 then
    s.emit (.axisFrame k (axisFrameSyms s.tick ((List.range 6).map (fun i => (s.sx (6 * k + i)).slot))))
  else s

/-- A write of the motion window that R344 refuses: into the area of an axis that is neither DISABLED nor IDLE. -/
def State.axisTableBusy (s : State) (o n : Nat) : Bool :=
  (List.range 24).any (fun a =>
    decide ((s.sx a).mode ≠ .disabled) && decide ((s.sx a).mode ≠ .idle) &&
    decide (0x304000 + 0x800 * a < o + n) && decide (o < 0x304000 + 0x800 * a + 0x800))

end Sys2Proof.Machine
end

