-- ==== Sys2Proof/Machine/Thermal.lean ====
section
/-!
DEFINITION. Thermal channels: readings, levels with their hysteresis, the throttle, and the dwell of the thaw restart
(R476 to R482).
-/

namespace Sys2Proof.Machine

/-- WARN, THROTTLE and SD of a channel, and HYS, in 1/16 °C (R477). -/
def State.thmWarn (s : State) (c : Nat) : Int := signedOf 16 (s.fld (Reg.THM_CH_LEVEL0 c) 15 0)
def State.thmThrottle (s : State) (c : Nat) : Int := signedOf 16 (s.fld (Reg.THM_CH_LEVEL0 c) 31 16)
def State.thmSd (s : State) (c : Nat) : Int := signedOf 16 (s.fld (Reg.THM_CH_LEVEL1 c) 15 0)
def State.thmHys (s : State) (c : Nat) : Int := s.fld (Reg.THM_CH_LEVEL1 c) 23 16

/-- The state of a channel: 0 NORMAL, 1 WARNING, 2 THROTTLE, 3 SHUTDOWN (R487). -/
def State.thmState (s : State) (c : Nat) : Nat := s.fld (Reg.THM_CH_TEMP c) 18 17

/-- The last reading of a channel, and whether it is valid (R487). -/
def State.thmTemp (s : State) (c : Nat) : Int := signedOf 16 (s.fld (Reg.THM_CH_TEMP c) 15 0)
def State.thmValid (s : State) (c : Nat) : Bool := s.flag (Reg.THM_CH_TEMP c) 16

/-- A reading comes, `back` ticks after its stamp: it is shown, and waits for COMPARE (R476, R477). An invalid one leaves the
value last read. -/
def State.thmReading (s : State) (c : Nat) (v : Int) (valid : Bool) (back : Nat := 0) : State :=
  let s1 := if valid then s.setFld (Reg.THM_CH_TEMP c) 15 0 (codeOf 16 v) else s
  { s1.setFlag (Reg.THM_CH_TEMP c) 16 valid with
    thm := { s1.thm with waiting := s1.thm.waiting ++ [⟨c, v, valid, s1.tick - back⟩] } }

/-- The state that a valid reading gives a channel in state `st` (R477). Channels 0 to 11 stay in SHUTDOWN once latched
(R479); a head channel leaves SD as it leaves any level. -/
def State.levelOf (s : State) (c : Nat) (v : Int) (st : Nat) : Nat :=
  let h := s.thmHys c
  if st = 3 ∧ c < 12 then 3
  else if 12 ≤ c ∧ (s.thmSd c ≤ v ∨ (st = 3 ∧ s.thmSd c - h ≤ v)) then 3
  else if s.thmThrottle c ≤ v ∨ (2 ≤ st ∧ s.thmThrottle c - h ≤ v) then 2
  else if s.thmWarn c ≤ v ∨ (1 ≤ st ∧ s.thmWarn c - h ≤ v) then 1
  else 0

/-- The throttle's request for the next slower grade present (R478); FLOOR where none is, or on the holding page. -/
def State.throttleRequest (s : State) (c : Nat) (v : Int) : State :=
  let s1 := { s with thm := { s.thm with requestAt := s.tick } }
  match if s.holding then none else (gradesOf s.active).find? (fun g => decide (s.grade < g)) with
  | some g =>
    (((s1.joinLater g 2).setFlag Reg.THM_STATUS 3 false).raiseBit Reg.THM_EVENTS 1).event 0x1002 [c, codeOf 16 v, g]
  | none => ((s1.setFlag Reg.THM_STATUS 3 true).raiseBit Reg.THM_EVENTS 5).event 0x1002 [c, codeOf 16 v, 8]

/-- A channel reaches or leaves WARN (R477, R484). -/
def State.warnMoved (s : State) (c : Nat) (v : Int) (reached : Bool) : State :=
  let s1 := s.event 0x1001 [c, codeOf 16 v]
  if reached then (s1.fault (0x400 + c) 0x1D 1).raiseBit Reg.THM_EVENTS 0 else s1

/-- A channel reaches or leaves THROTTLE (R477, R478, R484). -/
def State.throttleMoved (s : State) (c : Nat) (v : Int) (reached : Bool) : State :=
  if reached then
    (((s.fault (0x400 + c) 0x1D 2).raiseBit Reg.THM_EVENTS 1).throttleRequest c v).legPost 0x30
  else s.event 0x1002 [c, codeOf 16 v, s.grade]

/-- Any channel is in THROTTLE or SHUTDOWN: the throttle is in force (R478). FLOOR falls with it. -/
def State.showThrottle (s : State) : State :=
  let on := (List.range 20).any (fun c => decide (2 ≤ s.thmState c))
  let s1 := s.setFlag Reg.THM_STATUS 0 on
  if on then s1 else s1.setFlag Reg.THM_STATUS 3 false

/-- The reading of a channel that has had none. -/
def ThmReading.none : ThmReading := ⟨0, 0, false, 0⟩

/-- A reading is gathered: it is the channel's last, and a valid one reaches or leaves SD (R477, R480). -/
def State.seeReading (s : State) (r : ThmReading) : State :=
  let at_ := decide (s.thmSd r.chan ≤ r.value) ||
    (tabGet false s.thm.atSd r.chan && decide (s.thmSd r.chan - s.thmHys r.chan ≤ r.value))
  { s with thm := { s.thm with
    seen := tabSet .none s.thm.seen r.chan r,
    atSd := if r.valid then tabSet false s.thm.atSd r.chan at_ else s.thm.atSd } }

/-- COMPARE on one gathered reading (R477). -/
def State.compareReading (s0 : State) (r : ThmReading) : State :=
  let s := s0.seeReading r
  if !r.valid then s
  else
    let st := s.thmState r.chan
    let nw := s.levelOf r.chan r.value st
    let s1 := (s.setFld (Reg.THM_CH_TEMP r.chan) 18 17 nw).showThrottle
    let s2 := if st = 0 ∧ nw ≠ 0 then s1.warnMoved r.chan r.value true
      else if st ≠ 0 ∧ nw = 0 then s1.warnMoved r.chan r.value false else s1
    if st < 2 ∧ 2 ≤ nw then s2.throttleMoved r.chan r.value true
    else if 2 ≤ st ∧ nw < 2 then s2.throttleMoved r.chan r.value false else s2

/-- The conditions of R480 for the dwell, on the readings gathered: every latched channel reads below SD − HYS, and none of
channels 0 to 11 has reached its SD. -/
def State.thawing (s : State) : Bool :=
  decide (s.fld Reg.THM_LATCHED 11 0 ≠ 0) &&
  (List.range 12).all (fun c =>
    let r := tabGet .none s.thm.seen c
    (!s.flag Reg.THM_LATCHED c || (r.valid && decide (r.value < s.thmSd c - s.thmHys c))) && !tabGet false s.thm.atSd c)

/-- THERMAL_COMPARE (R477, R480): in a tick whose page holds COMPARE, the readings gathered are compared in the order in
which they came, and the dwell of the thaw restart begins, goes on or stops. -/
def State.compareThermal (s : State) : State :=
  if s.pageHas 0x10 1 0 then
    let due := s.thm.waiting.filter (fun r => s.gathers r.stamp)
    let s1 := due.foldl State.compareReading { s with thm := { s.thm with waiting :=
      (s.thm.waiting.filter (fun r => !s.gathers r.stamp)) } }
    let s2 := s1.setFlag Reg.THM_STATUS 2 s1.thawing
    { s2 with thm := { s2.thm with dwellAt :=
      (if !s1.thawing then 0 else if s2.thm.dwellAt = 0 then s2.tick + 1 else s2.thm.dwellAt) } }
  else s

/-- THROTTLE_REPEAT (R478): every THR_REPEAT ticks while the throttle stays in force. -/
def effThrottleRepeat (s : State) : Host.Outcome State Fault Refusal :=
  let n := s.fld Reg.THM_THR_REPEAT 23 0
  if s.throttled ∧ n ≠ 0 ∧ s.thm.requestAt + n ≤ s.tick then
    let c := ((List.range 20).find? (fun c => decide (2 ≤ s.thmState c))).getD 0
    .next (s.throttleRequest c (s.thmTemp c))
  else .next s

end Sys2Proof.Machine
end

