-- ==== Sys2Proof/Machine/Beam.lean ====
section
/-!
DEFINITION. BEAM: the beam tables, the failover maps, power trim, the failed set, the laser enable and the interlock, and
the beam links (R264 to R294).
-/

namespace Sys2Proof.Machine

/-! ### State registers -/

/-- LINK of a station: 0 DOWN, 1 TRAINING, 2 UP, 3 FAULT (R290). -/
def State.beamLink (s : State) (i : Nat) : Nat := s.fld (Reg.BEAM_STN_STATE i) 1 0

/-- LDENn is high, the station is armed, NO_MAP, HEAD_SD (R294). -/
def State.ldenHigh (s : State) (i : Nat) : Bool := s.flag (Reg.BEAM_STN_STATE i) 2
def State.armed (s : State) (i : Nat) : Bool := s.flag (Reg.BEAM_STN_STATE i) 3
def State.noMap (s : State) (i : Nat) : Bool := s.flag (Reg.BEAM_STN_STATE i) 8
def State.headSd (s : State) (i : Nat) : Bool := s.flag (Reg.BEAM_STN_STATE i) 9

/-- The map in force (R278). -/
def State.mapNow (s : State) (i : Nat) : Nat := s.fld (Reg.BEAM_STN_STATE i) 7 4

/-- The failed set F (R276). -/
def State.failedSet (s : State) (i : Nat) : Nat :=
  s.rdN (Reg.BEAM_STN_FAILED_LO i) + s.rdN (Reg.BEAM_STN_FAILED_HI i) * 2 ^ 32

/-- Store the failed set. -/
def State.setFailedSet (s : State) (i f : Nat) : State :=
  (s.wrN (Reg.BEAM_STN_FAILED_LO i) f).wrN (Reg.BEAM_STN_FAILED_HI i) (f / 2 ^ 32)

/-- The scan domain of a station is on (R463, R464). -/
def State.domainOn (s : State) (i : Nat) : Bool := s.flag Reg.PWR_DOM_STATE (3 + i / 4)

/-- A station is enabled: EN is set and its domain is on (R290, R464). -/
def State.beamEnabled (s : State) (i : Nat) : Bool := s.flag (Reg.BEAM_STN_CFG i) 0 && s.domainOn i

/-- A report to the ledger from the facet domain, stamped with the tick before, in which its event fell (R31). -/
def State.facetReport (s : State) (kind : ReportKind) (sheet station band line : Nat) : State :=
  { s with ledg := { s.ledg with reports := s.ledg.reports ++ [⟨kind, sheet, station, band, line, s.tick - 1⟩] } }

/-! ### Tables (R269 to R273) -/

/-- The area of a station in the beam-table window (R269). -/
def beamArea (i : Nat) : Nat := 0x100000 + 0x40000 * i

/-- Offset in the area, and size, of the table with this TABLE_ID (R269, R287). -/
def beamTable (id : Nat) : Nat × Nat :=
  if id = 0 then (0, 1024) else if id = 1 then (0x400, 512) else if id = 2 then (0x800, 128)
  else if id = 3 then (0x900, 512) else (0x1000 + 128 * (id - 4), 128)

/-- Tables of a station: 0 to 3 and the sixteen maps. -/
def beamTables : Nat := 20

/-- The bytes of a table in SRAM. -/
def State.beamBytes (s : State) (i id : Nat) : List Byte :=
  memBytes s.sram (beamArea i + (beamTable id).1) (beamTable id).2

/-- The table that holds an offset of a station's area; none for a live area and for reserved offsets (R269). -/
def beamTableOf (off : Nat) : Option Nat :=
  (List.range beamTables).find? (fun id => decide ((beamTable id).1 ≤ off) && decide (off < (beamTable id).1 + (beamTable id).2))

/-- A table lies, in part at least, in the `n` bytes from window offset `o`. -/
def beamTouched (o n i id : Nat) : Bool :=
  let a := 0x40000 * i + (beamTable id).1
  decide (a < o + n) && decide (o < a + (beamTable id).2)

/-- The tables, as station × 32 + TABLE_ID, that `n` bytes from window offset `o` touch. -/
def beamTouches (o n : Nat) : List Nat :=
  (List.range 8).flatMap (fun i => ((List.range beamTables).filter (beamTouched o n i)).map (fun id => 32 * i + id))

/-- Write bytes into the beam-table window, where they fall in a defined table. Live areas and reserved offsets take
nothing (R269, R271). -/
def writeBeamBytes (m : Memory) : Nat → List Byte → Memory
  | _, [] => m
  | o, b :: bs =>
    let m1 := if (beamTableOf (o % 0x40000)).isSome then memWrite m (0x100000 + o) [b] else m
    writeBeamBytes m1 (o + 1) bs

/-- TABLE_PENDING follows the tables that are not acknowledged (R272). -/
def State.showPending (s : State) (i : Nat) : State :=
  s.setFlag (Reg.BEAM_STN_STATE i) 10 (decide ((s.bm i).dirty ≠ []))

/-- A table frame (R287): TABLE_ID, byte offset 0, byte count, then the table, padded with zeros to whole blocks. -/
def State.tableFrame (s : State) (i id seq : Nat) : Out :=
  .beamFrame i (beamFrame 2 seq ((id + (beamTable id).2 * 2 ^ 32) :: dataBlocks (s.beamBytes i id)))

/-- Table frames may be sent (R287): no facet frames are being sent, or the facet in progress has ended, by which its frame's
EOF has been sent (log entry 74). -/
def State.tableTime (s : State) (i : Nat) : Bool :=
  decide (s.beamLink i ≠ 2) || !(s.stn i).running || (s.stn i).facet.all (·.ended)

/-- The table frames that wait are sent, where they may be (R287). -/
def State.sendWaiting (s : State) (i : Nat) : State :=
  if s.tableTime i then
    (((s.bm i).flights.filter (fun f => !f.2.sent)).foldl (fun (t : State) f => t.emit (t.tableFrame i f.1 f.2.seq)) s).modBm i
      (fun b => { b with flights := b.flights.map (fun f =>
        if f.2.sent then f else (f.1, { f.2 with sent := true, stamp := s.tick })) })
  else s

/-- A table goes to the AQ9611 with a new SEQ (R287). -/
def State.sendTable (s : State) (i id : Nat) : State :=
  let n := (s.bm i).tableSeq
  (s.modBm i (fun b => { b with
    tableSeq := (n + 1) % 2 ^ 32, dirty := tabSet false b.dirty id true, flights := tabPut b.flights id ⟨n, 0, s.tick, false⟩
    })).sendWaiting i

/-- A table changed in SRAM: it is sent where the link is UP or uploads its tables in training, and stays to be acknowledged
(R272, R273, R290). -/
def State.tableChanged (s : State) (i id : Nat) : State :=
  let s1 := if s.beamLink i = 2 ∨ (s.beamLink i = 1 ∧ (s.bm i).ready) then s.sendTable i id
    else s.modBm i (fun b => { b with dirty := tabSet false b.dirty id true })
  s1.showPending i

/-! ### Failover maps (R277 to R279) -/

/-- PHYS[e] of map `m` as its 8 bits, and FLAGS. -/
def State.mapPhysByte (s : State) (i m e : Nat) : Nat := (memByte s.sram (beamArea i + 0x1000 + 128 * m + e)).toNat
def State.mapFlags (s : State) (i m : Nat) : Nat := (memByte s.sram (beamArea i + 0x1000 + 128 * m + 0x48)).toNat

/-- EXCLUDE of map `m`. -/
def State.mapExclude (s : State) (i m : Nat) : Nat := memLe s.sram (beamArea i + 0x1000 + 128 * m + 0x40) 8

/-- A map is usable (R277). -/
def State.mapUsable (s : State) (i m : Nat) : Bool :=
  let f := s.mapFlags i m
  let phys := (List.range 64).map (s.mapPhysByte i m)
  let ex := s.mapExclude i m
  bitOf f 0 && (bitOf f 1 || bitOf f 2) && decide (f < 8) && phys.all (fun p => decide (p < 64)) &&
  zerosAt (memBytes s.sram (beamArea i + 0x1000 + 128 * m) 128) 0x49 55 &&
  (List.range 64).all (fun p => bitOf ex p == !phys.contains p) &&
  (List.range 64).all (fun e => (List.range e).all (fun d =>
    decide (phys.getD d 0 ≠ phys.getD e 0) || (!bitOf f 2 && decide (d / 2 = e / 2))))

/-- A map is enabled for a MODE: mode B is true (R278). -/
def State.mapMode (s : State) (i m : Nat) (modeB : Bool) : Bool := bitOf (s.mapFlags i m) (if modeB then 2 else 1)

/-- BEAM_STNs_MAP_VALID follows the maps (R277). -/
def State.showMaps (s : State) (i : Nat) : State :=
  s.setFld (Reg.BEAM_STN_MAP_VALID i) 15 0
    (((List.range 16).filter (s.mapUsable i)).foldl (fun n m => n + 2 ^ m) 0)

/-- The map that the station will have once its last choice is in force. -/
def State.mapTarget (s : State) (i : Nat) : Nat := ((s.bm i).mapNext.map (·.map)).getD (s.mapNow i)

/-- The MODE of the volume in force at a station, if one is (R236, R278). -/
def State.stationMode (s : State) (i : Nat) : Option Bool :=
  (s.stn i).plan.map (fun p => volModeB (s.alm.bank p.1) p.2)

/-- The lowest-numbered map that is usable, enabled for the mode and covers F (R278). -/
def State.covering (s : State) (i : Nat) : Option Nat :=
  let f := s.failedSet i
  let mode := s.stationMode i
  (List.range 16).find? (fun m =>
    s.mapUsable i m && mode.all (s.mapMode i m) && decide (s.mapExclude i m &&& f = f))

/-- The map is chosen again (R278, R279). A choice decided in a tick takes effect at the first boundary after its emit
phase; one decided on arrival of a report after `facets` further boundaries; a choice at a plan change at once. -/
def State.chooseMap (s : State) (i : Nat) (decided : Option Nat) (facets : Nat) (now : Bool := false) : State :=
  let f := s.failedSet i
  match s.covering i with
  | none =>
    if s.noMap i then s
    else ((((s.setFlag (Reg.BEAM_STN_STATE i) 8 true).fault (0x200 + i) 0x12 0).raiseBit Reg.BEAM_EVENTS 2).event 0x0803
      [i, f]).legPost 0x31
  | some m =>
    let s1 := s.setFlag (Reg.BEAM_STN_STATE i) 8 false
    let old := s1.mapTarget i
    if m = old then s1
    else
      let s2 := if now then (s1.setFld (Reg.BEAM_STN_STATE i) 7 4 m).modBm i (fun b => { b with mapNext := none })
        else s1.modBm i (fun b => { b with mapNext := some ⟨m, decided, facets⟩ })
      ((s2.bump (Reg.BEAM_STN_COUNT_FAILOVER i)).raiseBit Reg.BEAM_EVENTS 1).event 0x0802 [i, old, m, f]

/-- A time in 78.125 ps lies after the end of the emit phase of tick `d` (R31). -/
def afterEmit (time d : Nat) : Bool :=
  decide (d < time / 320000) || (decide (d = time / 320000) && decide (2375 < time % 320000 / 128))

/-- At a boundary, the choice of map that has fallen due comes into force (R278, R284). -/
def State.mapBoundary (s : State) (i time : Nat) : State :=
  match (s.bm i).mapNext with
  | none => s
  | some n =>
    let due := match n.decided with
      | some d => afterEmit time d
      | none => decide (n.facets = 0)
    if due then (s.setFld (Reg.BEAM_STN_STATE i) 7 4 n.map).modBm i (fun b => { b with mapNext := none })
    else if n.decided.isNone then s.modBm i (fun b => { b with mapNext := some { n with facets := n.facets - 1 } })
    else s

/-! ### Laser enable (R281 to R283) -/

/-- The level of LDENn (R282). The pins are low while the pad ring holds them (R550). -/
def State.setLden (s : State) (i : Nat) (high : Bool) : State :=
  if s.ldenHigh i = high then s
  else
    let s1 := (s.setFlag (Reg.BEAM_STN_STATE i) 2 high).setFlag Reg.BEAM_STATUS i high
    s1.emit (.lden (s1.fld Reg.BEAM_STATUS 7 0))

/-- The station is disarmed and LDENn drops (R282). -/
def State.disarm (s : State) (i : Nat) : State :=
  ((s.setLden i false).setFlag (Reg.BEAM_STN_STATE i) 3 false).modBm i (fun b => { b with
    rising := false, darkAtEnd := false })

/-- Every station is disarmed and DARK goes to every link (R283). -/
def State.darkAll (s : State) : State := s.upTo 8 (fun t i => (t.disarm i).emit (.dark i))

/-- Every condition of R282 but the arming. -/
def State.ldenAllowed (s : State) (i : Nat) : Bool :=
  s.beamEnabled i && decide (s.beamLink i = 2) && s.flag Reg.BEAM_STATUS 8 && !s.flag Reg.BEAM_STATUS 9 &&
  !s.headSd i && !s.safeNow

/-- A field of the power settings of physical emitter `p` (R270). -/
def State.powerField (s : State) (i p hi lo : Nat) : Nat := bitsOf (memLe s.sram (beamArea i + 0x900 + 8 * p) 8) hi lo

/-- The station is armed (R273, R274, R282). -/
def State.armStation (s : State) (i : Nat) : State :=
  let drive := (List.range 64).foldl (fun t p => tabSet 0 t p (s.powerField i p 23 12)) []
  let s1 := (s.setFlag (Reg.BEAM_STN_STATE i) 3 true).modBm i (fun b => { b with
    rising := true, lost := false, drive := drive, sat := [] })
  let s2 := s1.setFlag (Reg.BEAM_STN_STATE i) 11 false
  (((s.bm i).dirty.map (·.1)).filter (fun id => (tabFind (s.bm i).flights id).isNone)).foldl
    (fun t id => t.sendTable i id) s2

/-- ARM (R282): refused with ARM_REFUSED unless every other condition of R282 holds and map 0 is usable in both modes
(R277). A station that is armed stays as it is. -/
def State.requestArm (s : State) (i : Nat) : State :=
  if s.ldenAllowed i && s.mapUsable i 0 && s.mapMode i 0 false && s.mapMode i 0 true then
    if s.armed i then s else s.armStation i
  else s.raiseBit Reg.BEAM_EVENTS 9

/-- ARM (R282). -/
def effArm (i : Fin 8) (s : State) : Host.Outcome State Fault Refusal := .next (s.requestArm i)

/-- DISARM (R282). -/
def effDisarm (i : Fin 8) (s : State) : Host.Outcome State Fault Refusal := .next (s.disarm i)

/-- LDEN_RISE (R273, R282): after an accepted ARM, LDENn rises once every table is acknowledged. The pad ring holds the
pins low after a fall of VDDIO33 (R550). -/
def execLdenRise (i : Fin 8) (s : State) : Host.Outcome State Fault Refusal :=
  if (s.bm i).rising && s.armed i && s.ldenAllowed i && decide ((s.bm i).dirty = []) && !s.clk.ioLow then
    .next ((s.setLden i true).modBm i (fun b => { b with rising := false }))
  else .next s

/-- LSI_N goes low (R283): the interlock latches, every station is disarmed, and DARK goes out, in hardware. -/
def State.lsiLow (s : State) : State :=
  let was := s.fld Reg.BEAM_STATUS 7 0
  let mask := match s.beam.interlock with
    | some (_, m) => m ||| was
    | none => was
  let s1 := ((s.setFlag Reg.BEAM_STATUS 8 false).setFlag Reg.BEAM_STATUS 9 true).darkAll
  { s1 with beam := { s1.beam with interlock := some (s.tick, mask), lsiHigh := 0, lsiLow := s.tick + 1 } }

/-- LSI_N_LOW (R283). -/
def execLsiNLow (s : State) : Host.Outcome State Fault Refusal := .next s.lsiLow

/-- INTERLOCK_GATHERED (R283): in the next tick every COMMITTED sheet is spoiled and the low is reported. -/
def effInterlockGathered (s : State) : Host.Outcome State Fault Refusal :=
  match s.beam.interlock with
  | some (t, mask) =>
    if t < s.tick then
      let s1 := { s with beam := { s.beam with interlock := none } }.spoilAll 0x06 (fun _ => true)
      .next ((((s1.fault 0x208 0x13 0).event 0x0805 [mask]).bump Reg.BEAM_ILK_COUNT).raiseBit Reg.BEAM_EVENTS 4 |>.legPost 0x11)
    else .next s
  | none => .next s

/-- ILK_CLEAR (R283): it has an effect only when LSI_N has been high in every one of the last LSI_QUAL ticks. -/
def State.ilkClear (s : State) : State :=
  if s.flag Reg.BEAM_STATUS 8 ∧ s.fld Reg.BEAM_CFG 15 0 ≤ s.beam.lsiHigh then
    (s.setFlag Reg.BEAM_STATUS 9 false).event 0x0806 [s.beam.lsiHigh]
  else s

/-- ILK_CLEAR (R283). -/
def effIlkClear (s : State) : Host.Outcome State Fault Refusal := .next s.ilkClear

/-- The level of LSI_N in a tick (R283, R294): a low where the pin stood high acts as LSI_N_LOW does; the ticks in which it
was high are counted for ILK_CLEAR. -/
def State.lsiTick (s : State) (high : Bool) : State :=
  let s1 := if !high && s.flag Reg.BEAM_STATUS 8 then s.lsiLow else s.setFlag Reg.BEAM_STATUS 8 high
  { s1 with beam := { s1.beam with lsiHigh :=
    (if high && decide (s1.beam.lsiLow ≠ s.tick + 1) then s1.beam.lsiHigh + 1 else 0) } }

/-! ### The links (R290, R291) -/

/-- A link changes its state (R290, R292). -/
def State.setBeamLink (s : State) (i new cause : Nat) : State :=
  let old := s.beamLink i
  if old = new then s
  else (((s.setFld (Reg.BEAM_STN_STATE i) 1 0 new).modBm i (fun b => { b with linkAt := s.tick })).raiseBit
    Reg.BEAM_EVENTS 5).event 0x0807 [i, old, new, cause]

/-- The link begins to train (R290). -/
def State.trainBeam (s : State) (i : Nat) : State :=
  (s.modBm i (fun b => { b with ready := false, flights := [] })).setBeamLink i 1 0

/-- The link is lost (R291): LDENn drops, the station is disarmed, and BEAM_FAILURE is reported until it is UP and armed
again. -/
def State.loseBeam (s : State) (i cause : Nat) : State :=
  if s.beamLink i = 0 ∨ s.beamLink i = 3 then s
  else
    let s1 := (s.setFld (Reg.BEAM_STN_LINK_LOG i) 3 0 cause).bump (Reg.BEAM_STN_LINK_LOG i) 31 16
    let s2 := (s1.setBeamLink i 3 cause).fault (0x5C0 + i) 0x07 0 |>.legPost 0x31
    (s2.disarm i).modBm i (fun b => { b with flights := [], ready := false, lost := true })

/-- The station is disabled, or its domain switched off (R290, R464): DOWN, disarmed. -/
def State.downBeam (s : State) (i : Nat) : State :=
  (((s.setBeamLink i 0 0).disarm i).modBm i (fun b => { b with flights := [], ready := false })).showPending i

/-- Training completes once a READY STATUS has come and every table is acknowledged, 0.4 ms at the least after it began;
the map is chosen again (R290, R291). -/
def State.beamTrained (s : State) (i : Nat) : State :=
  if s.beamLink i = 1 ∧ (s.bm i).ready ∧ (s.bm i).dirty = [] ∧ (s.bm i).linkAt + 16 ≤ s.tick then
    ((s.setBeamLink i 2 0).modBm i (fun b => { b with reportAt := s.tick })).chooseMap i (some s.tick) 0
  else s

/-- Training has not ended 2 ms after it began (R290, R291). -/
def State.beamTrainingLate (s : State) (i : Nat) : State :=
  if s.beamLink i = 1 ∧ (s.bm i).linkAt + 80 ≤ s.tick then s.loseBeam i 5 else s

/-- 100 ms after FAULT the link trains again while EN is 1 (R290). -/
def State.beamRetrain (s : State) (i : Nat) : State :=
  if s.beamLink i = 3 ∧ s.beamEnabled i ∧ (s.bm i).linkAt + 4000 ≤ s.tick then s.trainBeam i else s

/-- REPORT_TIMEOUT (R291): no report gathered for REPORT_TMO ticks. -/
def execReportTimeout (i : Fin 8) (s : State) : Host.Outcome State Fault Refusal :=
  if s.beamLink i = 2 ∧ (s.bm i).reportAt + s.fld (Reg.BEAM_STN_CFG i) 31 24 ≤ s.tick then .next (s.loseBeam i 1)
  else .next s

/-- STATUS_REPORT (R288, R290, R291): a STATUS with a good CRC. READY in training starts the upload of every table; a
STATUS without READY loses a link that is UP. Its other flags and its fault code have no effect of their own. -/
def execStatusReport (i : Fin 8) (head : List Byte) (crc : Word) (s : State) : Host.Outcome State Fault Refusal :=
  let r := readStatus (endedBy head crc)
  if !r.crcOk then .next (s.bump (Reg.BEAM_STN_COUNT_BADREP i))
  else
    let s1 := s.modBm i (fun b => { b with reportAt := s.tick })
    if s.beamLink i = 2 ∧ !r.ready then .next (s1.loseBeam i 3)
    else if s.beamLink i = 1 ∧ r.ready ∧ !(s.bm i).ready then
      .next (((s1.modBm i (fun b => { b with ready := true })).upTo beamTables (fun t id => t.sendTable i id)).showPending i)
    else .next s1

/-! ### Acknowledgements (R272, R287) -/

/-- TABLE items whose tables are all acknowledged, or which were taken 200 µs ago, complete DONE (R272). -/
def State.completeTables (s : State) : State :=
  let settled (t : TableItem) : Bool := decide (t.waits = []) || decide (t.taken + 8 ≤ s.tick)
  let s1 := { s with beam := { s.beam with items := s.beam.items.filter (fun t => !settled t) } }
  (s.beam.items.filter settled).foldl (fun t x => t.complete x.item 0 0) s1

/-- A table frame is acknowledged (R287). -/
def State.tableAcked (s : State) (i id : Nat) : State :=
  let s1 := (s.modBm i (fun b => { b with flights := tabDel b.flights id, dirty := tabSet false b.dirty id false
    })).showPending i
  let items := s1.beam.items.map (fun (t : TableItem) => { t with waits := t.waits.filter (fun x => decide (x ≠ 32 * i + id)) })
  { s1 with beam := { s1.beam with items := items } }.completeTables

/-- A failed acknowledgement (R287): the frame is sent again with the same SEQ in the next interval in which it may be; the
third loses the link. -/
def State.tableFailed (s : State) (i id : Nat) (f : TableTx) : State :=
  if 2 ≤ f.fails then s.loseBeam i 4
  else (s.modBm i (fun b => { b with flights := tabPut b.flights id ⟨f.seq, f.fails + 1, s.tick, false⟩ })).sendWaiting i

/-- TABLE_ACK (R287, R288): an acknowledgement that matches a frame in flight, right or wrong by its table CRC; any other
is ignored. A report with a bad CRC is counted and discarded. -/
def execTableAck (i : Fin 8) (head : List Byte) (table crc : Word) (s : State) : Host.Outcome State Fault Refusal :=
  let r := readAck (endedBy (endedBy head table) crc)
  if !r.crcOk then .next (s.bump (Reg.BEAM_STN_COUNT_BADREP i))
  else
    let s1 := s.modBm i (fun b => { b with reportAt := s.tick })
    match tabFind (s.bm i).flights r.id with
    | some f =>
      if f.sent ∧ f.seq = r.seq then
        (if r.crc = crc32 (s.beamBytes i r.id) then .next (s1.tableAcked i r.id) else .next (s1.tableFailed i r.id f))
      else .next s1
    | none => .next s1

/-- TABLE_ACK_TIMEOUT (R287): no matching acknowledgement within 200 µs of the frame's EOF. -/
def execTableAckTimeout (i : Fin 8) (id : Fin 20) (s : State) : Host.Outcome State Fault Refusal :=
  match tabFind (s.bm i).flights id with
  | some f => if f.sent ∧ f.stamp + 8 ≤ s.tick then .next (s.tableFailed i id f) else .next s
  | none => .next s

/-- A sheet that uses the station is ADMITTED or COMMITTED (R272, R276). -/
def State.stationBusy (s : State) (i : Nat) : Bool :=
  s.sheets.any (fun x => (decide (x.state = .admitted) || decide (x.state = .committed)) && x.uses i)

/-- The area of station `i` lies, in part at least, in the `n` bytes from window offset `o` (R269). -/
def areaTouched (o n i : Nat) : Bool := decide (0x40000 * i < o + n) && decide (o < 0x40000 * (i + 1))

/-- A TABLE item for beam areas (R272), decided by the first row that applies to what it touches. -/
def State.beamTableItem (s : State) (it : Item) : State :=
  let o := it.target - 0x100000
  let ts := beamTouches o it.data.length
  let maps := ts.filter (fun t => decide (4 ≤ t % 32))
  let refuse (d : Nat) : State := (s.complete it 4 d).raiseBit Reg.BEAM_EVENTS 8
  let live := (List.range 8).any (fun i => decide (0x40000 * i + 0xC00 < o + it.data.length) && decide (o < 0x40000 * i + 0xD00))
  let s1 := { s with sram := writeBeamBytes s.sram o it.data }
  let onlyMaps := decide (maps = ts) && decide (ts ≠ []) && !live
  if maps.any (fun t => decide (t % 32 - 4 = s.mapNow (t / 32)) || decide (t % 32 - 4 = s.mapTarget (t / 32))) then refuse 0x02
  else if maps.any (fun t => !s1.mapUsable (t / 32) (t % 32 - 4)) then refuse 0x03
  else if !onlyMaps && live then refuse 0x04
  else if !onlyMaps && (List.range 8).any (fun i => s.stationBusy i && areaTouched o it.data.length i) then refuse 0x01
  else
    let s2 := ts.foldl (fun t x => t.tableChanged (x / 32) (x % 32)) s1
    let s3 := (List.range 8).foldl (fun t i => t.showMaps i) s2
    let waits := ts.filter (fun t => decide (s.beamLink (t / 32) = 2))
    let item : TableItem := ⟨it, waits, s.tick⟩
    { s3 with beam := { s3.beam with items := s3.beam.items ++ [item] } }.completeTables

/-- A BAR1 write into a station's beam area before LOCK (R76, R269): it is stored where it falls in a table. -/
def State.beamBarWrite (s : State) (o : Nat) (bs : List Byte) : State :=
  let s1 := { s with sram := writeBeamBytes s.sram o bs }
  let s2 := (beamTouches o bs.length).foldl (fun t x => t.tableChanged (x / 32) (x % 32)) s1
  (List.range 8).foldl (fun t i => t.showMaps i) s2

/-! ### Reports (R274 to R281, R288, R289) -/

/-- Power trim from an accepted report, for one physical emitter outside F (R274). -/
def State.trimOne (s : State) (i : Nat) (r : FacetReport) (p : Nat) : State :=
  let rd := r.readings.getD p 0
  let target := s.powerField i p 11 0
  let err : Int := (target : Int) - rd
  let step : Int := s.fld (Reg.BEAM_STN_APC i) 15 8
  let delta := clampInt (-step) step (asr (err * s.fld (Reg.BEAM_STN_APC i) 7 0) 8)
  let hi := s.powerField i p 47 36
  let d := (clampInt (s.powerField i p 35 24) hi (tabGet 0 (s.bm i).drive p + delta)).toNat
  let k := if d = hi ∧ 0 < err then tabGet 0 (s.bm i).sat p + 1 else 0
  let s1 := s.modBm i (fun b => { b with drive := tabSet 0 b.drive p d, sat := tabSet 0 b.sat p k })
  if k = max 1 (s.fld (Reg.BEAM_STN_APC i) 31 16) then
    (s1.raiseBit Reg.BEAM_EVENTS 6).event 0x0808 [i, p, rd, target]
  else s1

/-- Power trim (R274). -/
def State.trim (s : State) (i : Nat) (r : FacetReport) : State :=
  let f := s.failedSet i
  let s1 := ((List.range 64).filter (fun p => !bitOf f p)).foldl (fun t p => t.trimOne i r p) s
  s1.setFlag (Reg.BEAM_STN_STATE i) 11
    ((s1.bm i).sat.any (fun e => decide (max 1 (s1.fld (Reg.BEAM_STN_APC i) 31 16) ≤ e.2)))

/-- Sweeps among the last N that show emitter `p` absent (R276). -/
def State.absences (s : State) (i p : Nat) : Nat :=
  (((s.bm i).sweeps.take (s.fld (Reg.BEAM_STN_CFG i) 15 12)).filter (fun m => !bitOf m p)).length

/-- The sheets bound at a station, by id. -/
def State.boundIds (s : State) (i : Nat) : List Nat := (s.stn i).bound.map (·.id)

/-- The sweep of an accepted report is counted, and emitters are declared failed (R276). -/
def State.countSweep (s : State) (i : Nat) (r : FacetReport) : State :=
  let s1 := s.modBm i (fun b => { b with sweeps := (r.presence :: b.sweeps).take 15 })
  let f := s.failedSet i
  let fresh := (List.range 64).filter (fun p => !bitOf f p && decide (s1.fld (Reg.BEAM_STN_CFG i) 11 8 ≤ s1.absences i p))
  if fresh = [] then s1
  else
    let s2 := fresh.foldl (fun t p => ((t.setFailedSet i (t.failedSet i + 2 ^ p)).fault (0x200 + i) 0x11 p).event 0x0801
      ([i, p, t.absences i p, r.seq] ++ (t.boundIds i).map (fun id => (sheetTag id i).toNat))) s1
    let late := (s.stn i).facet.any (·.ended)
    (s2.raiseBit Reg.BEAM_EVENTS 0).chooseMap i none (if late then 1 else 0)

/-- FRAME_BAD (R289): an underrun report for each sheet with lines in the facet before the report's, which names its first
line there, with the outcome of R257. -/
def State.frameWasBad (s : State) (i : Nat) (r : FacetReport) : State :=
  let sh := ((s.bm i).recent.find? (fun f => decide ((f.seq + 1) % 2 ^ 32 = r.seq))).map (·.sheets) |>.getD []
  let s1 := sh.foldl (fun t x => ((t.facetReport .underrun x.1 i x.2.1 x.2.2).bump (Reg.SCAN_STN_COUNT_UNDER i)).raiseBit
    Reg.SCAN_EVENTS 5) s
  ((s1.bump (Reg.BEAM_STN_COUNT_FRAME_BAD i)).raiseBit Reg.BEAM_EVENTS 7).event 0x0809
    ([i, r.seq] ++ sh.map (fun x => (mkTag x.1 i x.2.1 4 x.2.2).toNat))

/-- A head reads at or above its shut-down level (R281). LDENn falls at the end of the facet in progress. -/
def State.shutHead (s : State) (i : Nat) (r : FacetReport) : State :=
  let s1 := ((s.setFlag (Reg.BEAM_STN_STATE i) 9 true).setFlag Reg.BEAM_STATUS (16 + i) true).facetReport .headShutdown 0 i 0 0
  let s2 := (((s1.fault (0x200 + i) 0x14 0).event 0x0804 [i, codeOf 16 r.temp, r.seq]).raiseBit Reg.BEAM_EVENTS 3).legPost 0x31
  let s3 := (s2.setFlag (Reg.BEAM_STN_STATE i) 3 false).modBm i (fun b => { b with
    rising := false, coolAt := 0, dwellAt := 0, darkAtEnd := true })
  if (s.stn i).facet.any (fun f => !f.ended) then s3 else (s3.disarm i).emit (.dark i)

/-- The head's temperature in a report: shown, passed to THM, held against the shut-down level (R281), and against
SD − HYS for the dwell of a head that is shut down (R481). -/
def State.headTemp (s : State) (i : Nat) (r : FacetReport) : State :=
  let s1 := ((s.setFld (Reg.BEAM_STN_HEAD_TEMP i) 15 0 (codeOf 16 r.temp)).setFld (Reg.BEAM_STN_HEAD_TEMP i) 31 16 r.seq
    ).thmReading (12 + i) r.temp true 1
  if s.thmSd (12 + i) ≤ r.temp ∧ !s.headSd i then s1.shutHead i r
  else if s.headSd i then
    (if r.temp < s.thmSd (12 + i) - s.thmHys (12 + i) then
      s1.modBm i (fun b => { b with coolAt := s.tick + 1, dwellAt := (if b.dwellAt = 0 then s.tick + 1 else b.dwellAt) })
    else s1.modBm i (fun b => { b with coolAt := 0, dwellAt := 0 }))
  else s1

/-- The live areas are rewritten (R271). -/
def State.writeLive (s : State) (i : Nat) (r : FacetReport) : State :=
  let drive := (List.range 64).flatMap (fun p => leBytes 2 (tabGet 0 (s.bm i).drive p))
  let reads := (List.range 64).flatMap (fun p => leBytes 2 (r.readings.getD p 0))
  { s with sram := memWrite s.sram (beamArea i + 0xC00) (drive ++ reads) }

/-- FACET_REPORT (R288): a report with a bad CRC, or one that comes while the link is not UP, counts for nothing but the
count of bad reports (R276, R284, R291). -/
def execFacetReport (i : Fin 8) (bs : List Byte) (s : State) : Host.Outcome State Fault Refusal :=
  let r := readFacet bs
  if !r.crcOk then .next (s.bump (Reg.BEAM_STN_COUNT_BADREP i))
  else if s.beamLink i ≠ 2 then .next s
  else
    let s1 := (s.modBm i (fun b => { b with reportAt := s.tick })).wrN (Reg.BEAM_STN_FACET_SEQ i) r.seq
    let s2 := if r.sweepValid then (s1.trim i r).countSweep i r else s1
    let s3 := (s2.headTemp i r).writeLive i r
    .next (if r.frameBad then s3.frameWasBad i r else s3)

/-! ### Requests (R276, R278, R279) -/

/-- RESELECT (R278). -/
def effReselect (i : Fin 8) (s : State) : Host.Outcome State Fault Refusal := .next (s.chooseMap i (some s.tick) 0)

/-- CLEAR_FAILED (R276): accepted only while no sheet that uses the station is ADMITTED or COMMITTED. The results of earlier
sweeps go with the set. -/
def State.clearFailed (s : State) (i : Nat) : State :=
  if s.stationBusy i then s
  else ((s.setFailedSet i 0).modBm i (fun b => { b with sweeps := [] })).chooseMap i (some s.tick) 0

/-- CLEAR_FAILED (R276). -/
def effClearFailed (i : Fin 8) (s : State) : Host.Outcome State Fault Refusal := .next (s.clearFailed i)

/-- BEAM_FAILURE in each tick in which a COMMITTED sheet uses a station without a covering map, or one whose link was lost
and which is not armed again (R279, R291). -/
def State.beamFailures (s : State) : State :=
  s.upTo 8 (fun t i =>
    if (t.noMap i || (t.bm i).lost) && t.sheets.any (fun x => decide (x.state = .committed) && x.uses i) then
      t.report .beamFailure 0 i 0
    else t)

end Sys2Proof.Machine
end

