-- ==== Sys2Proof/Machine/Loop.lean ====
section
/-!
DEFINITION. LOOP: the hysteretic loops, their learned disturbance, the HV links and the forced switch-off
(R361 to R380).
-/

namespace Sys2Proof.Machine

/-! ### Registers of a loop -/

/-- LINK, NODE and CHANNEL of a loop as one number, and its KIND (R379). -/
def State.loopChannel (s : State) (l : Nat) : Nat := s.fld (Reg.LOOP_LP_CFG l) 9 3
def State.loopLink (s : State) (l : Nat) : Nat := s.fld (Reg.LOOP_LP_CFG l) 3 3
def State.loopNode (s : State) (l : Nat) : Nat := s.fld (Reg.LOOP_LP_CFG l) 7 4
def State.loopKind (s : State) (l : Nat) : Nat := s.fld (Reg.LOOP_LP_CFG l) 1 0
def State.learns (s : State) (l : Nat) : Bool := s.flag (Reg.LOOP_LP_CFG l) 23

/-- The loop is in RUN, and its actuator is on. -/
def State.loopRuns (s : State) (l : Nat) : Bool := decide (s.loopMode l = 1)
def State.loopOn (s : State) (l : Nat) : Bool := s.flag (Reg.LOOP_LP_STATE l) 2

/-- SETPOINT, BASE, BINS and LEAD. -/
def State.setpoint (s : State) (l : Nat) : Int := s.fld (Reg.LOOP_LP_SETPOINT l) 11 0
def State.loopBase (s : State) (l : Nat) : Nat := s.fld (Reg.LOOP_LP_PART l) 18 0
def State.loopBins (s : State) (l : Nat) : Nat := s.fld (Reg.LOOP_LP_BINS l) 13 0
def State.loopLead (s : State) (l : Nat) : Nat := s.fld (Reg.LOOP_LP_BINS l) 29 16

/-- Ticks since the actuator's present state was decided (R368). -/
def State.stood (s : State) (l : Nat) : Nat := min 65535 (s.tick - (s.lp l).since).toNat

/-- Ticks on in the last 4,096 (R378). -/
def State.loopDuty (s : State) (l : Nat) : Nat :=
  let now : Int := s.tick
  let part (a b : Int) : Nat := (min b now - max a (now - 4096)).toNat
  ((s.lp l).spans.foldl (fun n p => n + part p.1 p.2) 0) + (if s.loopOn l then part (s.lp l).since now else 0)

/-- Switch the actuator on or off (R367, R378). -/
def State.switchLoop (s : State) (l : Nat) (on : Bool) : State :=
  if s.loopOn l = on then s
  else
    let first := ((s.lp l).since).toNat
    let s1 := (s.setFlag (Reg.LOOP_LP_STATE l) 2 on).bump (Reg.LOOP_LP_DUTY l) 31 16
    s1.modLp l (fun u => { u with
      since := s.tick,
      spans := if on then u.spans else ((first, s.tick) :: u.spans).filter (fun p => decide (s.tick < p.2 + 4096)) })

/-- A loop leaves RUN: the actuator is off and learning is frozen. -/
def State.endLoop (s : State) (l mode : Nat) : State :=
  let s1 := s.switchLoop l false
  ((s1.setFld (Reg.LOOP_LP_STATE l) 1 0 mode).setFld (Reg.LOOP_LP_STATE l) 6 4 1).modLp l (fun u => { u with
    reading := none, rangeRun := 0, satOn := 0, satOff := 0 })

/-- A loop enters FAULT (R375). -/
def State.loopFault (s : State) (l kind detail bits : Nat) : State :=
  let x := ((s.lp l).reading).getD (s.fld (Reg.LOOP_LP_STATE l) 27 16)
  let s1 := ((s.wrN (Reg.LOOP_LP_FAULT l) (kind + detail * 256 + bits * 65536)).fault (0x2C0 + l) kind 0).raiseBit
    Reg.LOOP_EVENTS 0 |>.legPost 0x40
  (s1.event 0x0B01 [l, kind, detail, x, s.fld (Reg.LOOP_LP_STATUS l) 31 16, (s.loopOn l).toNat]).endLoop l 2

/-! ### HV links (R364) -/

/-- State and NODES of HV link `k`. -/
def State.hvLink (s : State) (k : Nat) : Nat := s.fld (Reg.LOOP_LINK_STATE k) 1 0
def State.hvNodes (s : State) (k : Nat) : Nat := s.fld (Reg.LOOP_LINK_STATE k) 12 8

/-- The loops in RUN on a link. -/
def State.loopsOf (s : State) (k : Nat) : List Nat :=
  (List.range 64).filter (fun l => s.loopRuns l && decide (s.loopLink l = k))

/-- An HV link changes its state (R364). CAUSE keeps what the last FAULT recorded. -/
def State.setHvLink (s : State) (k new cause : Nat) : State :=
  let old := s.hvLink k
  let s0 := s.setFld (Reg.LOOP_LINK_STATE k) 1 0 new
  let s1 := if new = 3 then s0.setFld (Reg.LOOP_LINK_STATE k) 19 16 cause else s0
  let links := s1.loop.links.modify k (fun _ => ⟨s.tick, 0, 0⟩)
  let s2 : State := { s1 with loop := { s1.loop with links := links, waiting := tabDel s1.loop.waiting k } }
  (s2.raiseBit Reg.LOOP_EVENTS 2).event 0x0B03 [k, old, new, cause]

/-- Every enabled loop of a link enters FAULT with LINK_LOSS, and the link reports (R364). -/
def State.hvLinkFaults (s : State) (k : Nat) : State :=
  (s.loopsOf k).foldl (fun t l => t.loopFault l 0x07 0 0) (s.fault (0x5CE + k) 0x07 0)

/-- The link enters FAULT (R364). -/
def State.loseHvLink (s : State) (k cause : Nat) : State :=
  if s.hvLink k = 0 ∨ s.hvLink k = 3 then s else (s.setHvLink k 3 cause).hvLinkFaults k

/-- EN of the link is cleared (R364). -/
def State.downHvLink (s : State) (k : Nat) : State :=
  if s.hvLink k = 0 then s else (s.setHvLink k 0 0).hvLinkFaults k

/-- A present reading of a loop in RUN, and its range (R375). -/
def State.loopReading (s : State) (l x : Nat) : State :=
  let r := Reg.LOOP_LP_RANGE l
  let out := decide (x < s.fld r 11 0) || decide (s.fld r 27 16 < x)
  let n := if out then (s.lp l).rangeRun + 1 else 0
  let s1 := s.modLp l (fun u => { u with reading := some x, rangeRun := n })
  if out ∧ max 1 (s.fld (Reg.LOOP_LP_TIMERS l) 31 24) ≤ n then s1.loopFault l 0x1A 0 0 else s1

/-- What a present slot tells the loops of its node: channel faults, over-temperature, readings (R363, R375). -/
def State.hvSlot (s : State) (k node : Nat) (r : HvSlot) : State :=
  let bits := r.fault % 16 + r.overtemp.toNat * 16
  let s1 := if bits = 0 then s else (s.raiseBit Reg.LOOP_EVENTS 1).event 0x0B02 [k, node, bits]
  ((s1.loopsOf k).filter (fun l => decide (s.loopNode l = node))).foldl (fun t l =>
    let ch := t.fld (Reg.LOOP_LP_CFG l) 9 8
    if bitOf r.fault ch then t.loopFault l 0x0D 1 bits
    else if r.overtemp then t.loopFault l 0x0D 2 bits
    else t.loopReading l (r.readings.getD ch 0 % 4096)) s1

/-- A return frame is gathered (R363, R364). One with a bad CRC is discarded and counted. -/
def State.gatherHvFrame (s : State) (k : Nat) (f : HvFrame) : State :=
  let s0 : State := { s with loop := { s.loop with waiting := tabDel s.loop.waiting k } }
  if !f.crcOk then s0.setFld (Reg.LOOP_LINK_STATE k) 31 24 (min 255 (s0.fld (Reg.LOOP_LINK_STATE k) 31 24 + 1))
  else
    let links := s0.loop.links.modify k (fun (l : Link) => { l with good := s.tick + 1, miss := 0 })
    { s0 with loop := { s0.loop with links := links, returned := tabPut s0.loop.returned k f } }

/-- The decisions on a frame gathered in this tick (R364, R374, R375): READY, the nodes' faults, the readings. -/
def State.hvFrameDecide (s : State) (k : Nat) (f : HvFrame) : State :=
  let slots := f.slots.take (s.hvNodes k)
  if slots.any (fun r => !r.ready) then s.loseHvLink k 3
  else slots.zipIdx.foldl (fun t p => t.hvSlot k p.2 p.1) s

/-- The decisions on the frames gathered in this tick. -/
def State.hvReturns (s : State) : State :=
  s.loop.returned.foldl (fun t p => t.hvFrameDecide p.1 p.2) { s with loop := { s.loop with returned := [] } }

/-- HV_FRAME_RETURN (R363, R559): gathered where the page holds LINK_IN and the tick's gather is not over; otherwise it waits,
and a newer frame replaces it. In TRAINING the last good frame tells which nodes are READY. -/
def execHvFrameReturn (k : Fin 2) (bs : List Byte) (s : State) : Host.Outcome State Fault Refusal :=
  let f := readHvFrame bs
  if s.hvLink k = 2 ∧ s.pageHas 0x0B 1 k ∧ !s.decideOpen then .next (s.gatherHvFrame k f)
  else if s.hvLink k = 2 ∨ (s.hvLink k = 1 ∧ f.crcOk) then
    .next { s with loop := { s.loop with waiting := tabPut s.loop.waiting k f } }
  else .next s

/-- In the last good frame of the training every one of `n` nodes is READY (R364). -/
def State.hvReady (s : State) (k n : Nat) : Bool :=
  (tabFind s.loop.waiting k).any (fun f => (f.slots.take n).all (·.ready))

/-- LINK_IN of HV link `k` (R559): the frame that waits is gathered, and a tick without a good frame is counted. -/
def State.hvLinkIn (s : State) (k : Nat) : State :=
  if s.hvLink k ≠ 2 then s
  else
    let t1 := match tabFind s.loop.waiting k with
      | some f => s.gatherHvFrame k f
      | none => s
    if (t1.loop.links.getD k Link.init).good = t1.tick + 1 then t1
    else
      let links := t1.loop.links.modify k (fun (l : Link) => { l with miss := l.miss + 1 })
      { t1 with loop := { t1.loop with links := links } }

/-! ### Commands (R373) -/

/-- A command with its checks, in the order of R304, and its effect. -/
def State.loopCommand (s : State) (l : Nat) (checks : List (Bool × Nat)) (f : State → State) : State :=
  match checks.find? (·.1) with
  | some c => (s.wrN (Reg.LOOP_LP_RESULT l) c.2).raiseBit Reg.LOOP_EVENTS 3
  | none => f (s.wrN (Reg.LOOP_LP_RESULT l) 1)

/-- ENABLE finds the loop's configuration incomplete (R373). -/
def State.loopIncomplete (s : State) (l : Nat) : Bool :=
  let b := Reg.LOOP_LP_BAND l
  decide (s.fld b 11 0 = 0) || decide (s.fld b 27 16 = 0) || decide (s.hvNodes (s.loopLink l) ≤ s.loopNode l) ||
  (s.learns l && (decide (s.rdN (Reg.LOOP_LP_CYCLE l) = 0) || decide (s.loopBins l = 0) || decide (8192 < s.loopBins l) ||
    decide (s.loopBins l ≤ s.loopLead l) || decide (524288 < s.loopBase l + s.loopBins l)))

/-- Loops of a KIND that may be enabled at once (R361). -/
def kindLimit (k : Nat) : Nat := if k = 0 then 24 else if k = 1 then 32 else 8

/-- The partitions of two loops overlap. -/
def State.partsMeet (s : State) (l j : Nat) : Bool :=
  decide (s.loopBase l < s.loopBase j + s.loopBins j) && decide (s.loopBase j < s.loopBase l + s.loopBins l)

/-- ENABLE conflicts with another enabled loop (R373). -/
def State.loopConflict (s : State) (l : Nat) : Bool :=
  let others := (List.range 64).filter (fun j => decide (j ≠ l) && s.loopRuns j)
  others.any (fun j => decide (s.loopChannel j = s.loopChannel l)) ||
  (s.learns l && others.any (fun j => s.learns j && s.partsMeet l j)) ||
  decide (kindLimit (s.loopKind l) ≤ (others.filter (fun j => decide (s.loopKind j = s.loopKind l))).length)

/-- ENABLE (R368, R373). -/
def State.loopEnable (s : State) (l : Nat) : State :=
  s.loopCommand l
    [(s.safe, 4), (!(decide (s.loopMode l = 0) && decide (s.hvLink (s.loopLink l) = 2)), 2), (s.holding, 6),
      (s.loopIncomplete l, 10), (s.loopConflict l, 11)]
    (fun t => (t.setFld (Reg.LOOP_LP_STATE l) 2 0 1).modLp l (fun u => { u with
      since := (t.tick : Int) - t.fld (Reg.LOOP_LP_MINTIME l) 31 16, settle := t.tick, reading := none, rangeRun := 0,
      satOn := 0, satOff := 0 }))

/-- DISABLE (R373). -/
def State.loopDisable (s : State) (l : Nat) : State := s.loopCommand l [] (fun t => t.endLoop l 0)

/-- CLEAR (R373). -/
def State.loopClear (s : State) (l : Nat) : State :=
  s.loopCommand l [(s.safe, 4), (decide (s.loopMode l ≠ 2), 2)] (fun t => t.setFld (Reg.LOOP_LP_STATE l) 1 0 0)

/-- LEARN_CLEAR (R373): an entry that is not listed reads 0. -/
def State.learnClear (s : State) (l : Nat) : State :=
  s.loopCommand l [(s.safe, 4), (s.loopRuns l, 2)] (fun t =>
    let lo := 0x400000 + 4 * t.loopBase l
    let hi := min 0x600000 (lo + 4 * t.loopBins l)
    let t1 : State := { t with sram := t.sram.filter (fun p => decide (p.1 < lo) || decide (hi ≤ p.1)) }
    t1.event 0x0B04 [l, t.loopBase l, t.loopBins l])

/-- LOOP_ENABLE (R373). -/
def effLoopEnable (l : Fin 64) (s : State) : Host.Outcome State Fault Refusal := .next (s.loopEnable l)
/-- LOOP_DISABLE (R373). -/
def effLoopDisable (l : Fin 64) (s : State) : Host.Outcome State Fault Refusal := .next (s.loopDisable l)
/-- LOOP_CLEAR (R373). -/
def effLoopClear (l : Fin 64) (s : State) : Host.Outcome State Fault Refusal := .next (s.loopClear l)
/-- LEARN_CLEAR (R373). -/
def effLearnClear (l : Fin 64) (s : State) : Host.Outcome State Fault Refusal := .next (s.learnClear l)

/-- A write of SETPOINT and LEVEL (R371, R373): a change of SETPOINT starts SETTLE again. -/
def State.writeSetpoint (s : State) (l v : Nat) : State :=
  let s1 := s.wrN (Reg.LOOP_LP_SETPOINT l) (v % 4096 + bitsOf v 27 16 * 65536)
  if v % 4096 = s.fld (Reg.LOOP_LP_SETPOINT l) 11 0 then s1 else s1.modLp l (fun u => { u with settle := s.tick })

/-! ### The law and the learning (R367 to R371, R375) -/

/-- The angle source of a loop is valid, and its position (R311, R369). -/
def State.angleValid (s : State) (l : Nat) : Bool :=
  let a := s.fld (Reg.LOOP_LP_CFG l) 21 16
  if s.flag (Reg.LOOP_LP_CFG l) 22 then
    match (s.ax a).mode with
    | .disabled | .waitSpin | .fault => false
    | _ => true
  else (s.sx a).enabled && (s.sx a).posValid

/-- The position of a loop's angle source (R369). -/
def State.anglePos (s : State) (l : Nat) : Int :=
  let a := s.fld (Reg.LOOP_LP_CFG l) 21 16
  if s.flag (Reg.LOOP_LP_CFG l) 22 then (s.ax a).pos / 2 ^ 24 else (s.sx a).p

/-- At the start of the compute phase each loop takes the position of its source as the tick gathered it, before the PROFILE
and FOC operations of the tick move it (R311, R369). -/
def State.loopBegin (s : State) : State :=
  s.upTo 64 (fun t l => t.modLp l (fun u => { u with angle := t.anglePos l, source := u.angle }))

/-- The bin of the present angle (R369). -/
def State.loopBin (s : State) (l : Nat) : Nat :=
  let c := s.rdN (Reg.LOOP_LP_CYCLE l)
  if c = 0 then 0 else (((s.lp l).angle - s.rdN (Reg.LOOP_LP_ORIGIN l)) % c).toNat * s.loopBins l / c

/-- BAR1 offset of an entry of a loop's partition, and the entry (R372). -/
def State.loopEntryAt (s : State) (l bin : Nat) : Nat := 0x400000 + 4 * (s.loopBase l + bin)
def State.loopEntry (s : State) (l bin : Nat) : Int := signedOf 32 (memLe s.sram (s.loopEntryAt l bin) 4)

/-- applied (R369). -/
def State.applied (s : State) (l : Nat) : Int :=
  if s.learns l ∧ s.angleValid l then asr (s.loopEntry l ((s.loopBin l + s.loopLead l) % max 1 (s.loopBins l))) 8 else 0

/-- want_on and want_off of R367 for a reading. -/
def State.wants (s : State) (l : Nat) (c x : Int) : Bool × Bool :=
  let b := Reg.LOOP_LP_BAND l
  let low := decide (x < c - s.fld b 11 0)
  let high := decide (c + s.fld b 27 16 < x)
  if s.flag (Reg.LOOP_LP_CFG l) 2 then (high, low) else (low, high)

/-- FREEZE_CAUSE (R371). -/
def State.freezeCause (s : State) (l : Nat) : Nat :=
  let u := s.lp l
  let fz := Reg.LOOP_LP_FREEZE l
  let settle := s.fld fz 15 0
  let dir : Int := if s.flag (Reg.LOOP_LP_CFG l) 24 then -1 else 1
  let moved := (u.angle - u.source) * dir
  let causes : List Bool := [
    !(s.learns l && s.loopRuns l), !s.angleValid l, u.reading.isNone, s.flag (Reg.LOOP_LP_MINSPEED l) 31,
    decide (s.tick < u.settle + settle) || (decide (s.ledg.gradeAt ≠ 0) && decide (s.tick + 1 < s.ledg.gradeAt + settle)),
    decide (moved < s.fld (Reg.LOOP_LP_MINSPEED l) 23 0), decide (s.fld fz 31 16 < s.stood l)]
  match causes.findIdx? (fun b => b) with
  | some i => i + 1
  | none => 0

/-- The learning of R370 for reading `x`. -/
def State.learn (s : State) (l : Nat) (x : Int) : State :=
  let g := Reg.LOOP_LP_GAIN l
  let bin := s.loopBin l
  let v := s.loopEntry l bin
  let forget := s.fld g 19 16
  let lim : Int := 256 * s.fld g 31 20
  let w := v - (if forget = 0 then 0 else asr v forget) + asr ((s.setpoint l - x) * s.fld g 15 0) 8
  { s with sram := memWrite s.sram (s.loopEntryAt l bin) (leBytes 4 (codeOf 32 (clampInt (-lim) lim w))) }

/-- The saturation counts of R375. -/
def State.saturate (s : State) (l : Nat) (w : Bool × Bool) : State :=
  let on := s.loopOn l
  let n := if on && w.1 then (s.lp l).satOn + 1 else 0
  let m := if !on && w.2 then (s.lp l).satOff + 1 else 0
  let s1 := s.modLp l (fun u => { u with satOn := n, satOff := m })
  let t := s.fld (Reg.LOOP_LP_TIMERS l) 15 0
  if t = 0 then s1 else if t ≤ n then s1.loopFault l 0x19 1 0 else if t ≤ m then s1.loopFault l 0x19 2 0 else s1

/-- STEP (R366, R367, R369, R370, R375) for a loop in RUN. -/
def State.loopStep (s : State) (l : Nat) : State :=
  if !s.loopRuns l then s
  else
    let c := s.setpoint l + s.applied l
    let s1 := s.wrN (Reg.LOOP_LP_STATUS l) (s.loopBin l % 8192 + codeOf 16 c * 65536)
    match (s.lp l).reading with
    | none =>
      s1.setFld (Reg.LOOP_LP_STATE l) 6 4 (s1.freezeCause l)
    | some x =>
      let w := s.wants l c x
      let m := Reg.LOOP_LP_MINTIME l
      let s2 := s1.setFld (Reg.LOOP_LP_STATE l) 27 16 x
      let s3 :=
        if !s.loopOn l ∧ w.1 ∧ s.fld m 31 16 ≤ s.stood l then s2.switchLoop l true
        else if s.loopOn l ∧ w.2 ∧ s.fld m 15 0 ≤ s.stood l then s2.switchLoop l false
        else s2
      let f := s3.freezeCause l
      let s4 := if f = 0 then s3.learn l x else s3
      (s4.setFld (Reg.LOOP_LP_STATE l) 6 4 f).saturate l w

/-- At the end of the tick ABSENT is shown, and the readings are past (R363). -/
def State.loopEnd (s : State) : State :=
  s.upTo 64 (fun t l =>
    if !t.loopRuns l then t
    else (t.setFlag (Reg.LOOP_LP_STATE l) 3 (t.lp l).reading.isNone).modLp l (fun u => { u with reading := none }))

/-- The channel word of loop `l` (R362). -/
def State.channelWord (s : State) (l : Nat) : Nat :=
  if s.loopRuns l ∧ !s.safeNow then s.fld (Reg.LOOP_LP_SETPOINT l) 27 16 + (s.loopOn l).toNat * 4096 + 8192 else 0

/-- LINK_OUT of HV link `k` (R362): the frame of a link that is UP. A channel that no enabled loop uses is sent as zero. -/
def State.hvLinkOut (s : State) (k : Nat) : State :=
  if s.hvLink k = 2 then
    let ls := s.loopsOf k
    s.emit (.hvFrame k (hvFrameSyms s.tick (s.hvNodes k) ((List.range 64).map (fun i =>
      match ls.find? (fun l => decide (s.loopNode l * 4 + s.fld (Reg.LOOP_LP_CFG l) 9 8 = i)) with
      | some l => s.channelWord l
      | none => 0))))
  else s

/-- What safe-state entry does to the loops (R376): every loop in RUN enters DISABLED. The record of the ordered set that went
out on both HV links carries the tick of the entry (R365, R377). -/
def State.safeLoops (s : State) (entered : Nat) : State :=
  let s1 := (s.raiseBit Reg.LOOP_EVENTS 5).event 0x0B05 [entered, 3]
  s1.upTo 64 (fun t l => if t.loopRuns l then t.endLoop l 0 else t)

/-- A write of the learning memory that R372 refuses: into the partition of an enabled loop that learns. -/
def State.loopTableBusy (s : State) (o n : Nat) : Bool :=
  (List.range 64).any (fun l =>
    s.loopRuns l && s.learns l && decide (s.loopEntryAt l 0 < o + n) && decide (o < s.loopEntryAt l (s.loopBins l)))

/-- LOOP_ENABLED_LO and LOOP_ENABLED_HI (R373). -/
def State.loopsEnabled (s : State) (hi : Nat) : Nat :=
  (List.range 32).foldl (fun n i => n + (s.loopRuns (32 * hi + i)).toNat * 2 ^ i) 0

end Sys2Proof.Machine
end

