-- ==== Sys2Proof/Machine/Links.lean ====
section
/-!
DEFINITION. The commands that beam, axis, step and HV links share: EN, training, loss and retraining (R290, R297, R334,
R364, R559).
-/

namespace Sys2Proof.Machine

/-- The register that holds EN of a link, in bit 0. -/
def linkCfg : LinkId → Nat
  | .beam i => Reg.BEAM_STN_CFG i
  | .axis k => Reg.AXIS_LINK_CFG k
  | .step k => Reg.STEP_LINK_CFG k
  | .hv k => Reg.LOOP_LINK_CFG k

/-- A write to an RWL field after lock is discarded and reported (R78). -/
def State.rwlDiscard (s : State) (l : LinkId) : State := s.discarded 0 0 (linkCfg l)

/-- The state of a link: 0 DOWN, 1 TRAINING, 2 UP, 3 FAULT. -/
def State.linkState (s : State) : LinkId → Nat
  | .beam i => s.beamLink i
  | .axis k => s.axisLink k
  | .step k => s.stepLink k
  | .hv k => s.hvLink k

/-- The record of a step, axis or HV link; a beam link keeps its own times. -/
def State.linkRec (s : State) : LinkId → Link
  | .beam i => ⟨(s.bm i).linkAt, 0, (s.bm i).reportAt⟩
  | .axis k => s.axis.links.getD k Link.init
  | .step k => s.step.links.getD k Link.init
  | .hv k => s.loop.links.getD k Link.init

/-- A link begins to train (R290, R297). -/
def State.trainLink (s : State) : LinkId → State
  | .beam i => s.trainBeam i
  | .axis k => s.setAxisLink k 1 0
  | .step k => s.setStepLink k 1 0
  | .hv k => s.setHvLink k 1 0

/-- A link enters FAULT. -/
def State.loseLink (s : State) (l : LinkId) (cause : Nat) : State :=
  match l with
  | .beam i => s.loseBeam i cause
  | .axis k => s.loseAxisLink k cause
  | .step k => s.loseStepLink k cause
  | .hv k => s.loseHvLink k cause

/-- EN of a link is set: it leaves DOWN (R290, R297). A station whose domain is off stays DOWN (R464). -/
def State.linkOn (s : State) (l : LinkId) : State :=
  let s1 := s.setFlag (linkCfg l) 0 true
  match l with
  | .beam i => if s1.beamLink i = 0 ∧ s1.beamEnabled i then s1.trainBeam i else s1
  | _ => if s1.linkState l = 0 then s1.trainLink l else s1

/-- EN of a link is cleared: DOWN, and what hangs on it faults (R290, R297). -/
def State.linkOff (s : State) (l : LinkId) : State :=
  let s1 := s.setFlag (linkCfg l) 0 false
  match l with
  | .beam i => s1.downBeam i
  | .axis k => s1.downAxisLink k
  | .step k => s1.downStepLink k
  | .hv k => s1.downHvLink k

/-- LINK_ENABLE (R297): a write that sets EN. -/
def execLinkEnable (l : LinkId) (s : State) : Host.Outcome State Fault Refusal :=
  if s.locked then .next (s.rwlDiscard l) else .next (s.linkOn l)

/-- LINK_DISABLE (R297): a write that clears EN. -/
def execLinkDisable (l : LinkId) (s : State) : Host.Outcome State Fault Refusal :=
  if s.locked then .next (s.rwlDiscard l) else .next (s.linkOff l)

/-- The highest node index of an enabled axis of a step link, plus one (R297). -/
def State.nodesNeeded (s : State) (k : Nat) : Nat :=
  (List.range 24).foldl (fun n i => if (s.ax (24 * k + i)).enabled then i + 1 else n) 0

/-- Training completes on a ring or a point-to-point link (R297, R334, R364). That of an axis link waits for a frame with READY,
that of an HV link for one in which every node is READY. -/
def State.linkTrained (s : State) (l : LinkId) (nodes : Nat) : State :=
  match l with
  | .beam i => s.beamTrained i
  | .axis k => if (s.axis.links.getD k Link.init).good = 0 then s else s.setAxisLink k 2 0
  | .step k =>
    let n := min 24 nodes
    let s1 := s.setFld (Reg.STEP_LINK_STATE k) 12 8 n
    if n < s.nodesNeeded k then s1.loseStepLink k 3 else s1.setStepLink k 2 0
  | .hv k =>
    if s.hvReady k (min 16 nodes) then (s.setFld (Reg.LOOP_LINK_STATE k) 12 8 (min 16 nodes)).setHvLink k 2 0 else s

/-- LINK_TRAINING_DONE (R290, R297): training takes 0.2 ms at the minimum; NODES is the count it found. -/
def execLinkTrainingDone (l : LinkId) (nodes : Fin 32) (s : State) : Host.Outcome State Fault Refusal :=
  if s.linkState l = 1 ∧ (s.linkRec l).since + 8 ≤ s.tick then .next (s.linkTrained l nodes) else .next s

/-- LINK_TRAINING_TIMEOUT (R290, R297): training has not ended 2 ms after it began. -/
def execLinkTrainingTimeout (l : LinkId) (s : State) : Host.Outcome State Fault Refusal :=
  match l with
  | .beam i => .next (s.beamTrainingLate i)
  | _ => if s.linkState l = 1 ∧ (s.linkRec l).since + 80 ≤ s.tick then .next (s.loseLink l 4) else .next s

/-- The page of this tick holds the LINK_IN slot of a link. A beam link has none. -/
def State.hasLinkIn (s : State) : LinkId → Bool
  | .beam _ => false
  | .axis k => s.pageHas 0x0A 1 k
  | .step k => s.pageHas 9 1 k
  | .hv k => s.pageHas 0x0B 1 k

/-- The present tick, whose gather is over, whose page holds LINK_IN and in which no good frame has been gathered, completes
LINK_TMO of them in a row (R297, R334, R364, R559). -/
def State.linkDue (s : State) (l : LinkId) : State :=
  let r := s.linkRec l
  if s.linkState l = 2 ∧ s.hasLinkIn l ∧ r.good ≠ s.tick + 1 ∧ s.fld (linkCfg l) 7 4 ≤ r.miss then s.loseLink l 1 else s

/-- LINK_TIMEOUT (R297, R334, R364, R559). -/
def effLinkTimeout (l : LinkId) (s : State) : Host.Outcome State Fault Refusal := .next (s.linkDue l)

/-- COMMA_LOST (R291, R297). -/
def execCommaLost (l : LinkId) (s : State) : Host.Outcome State Fault Refusal := .next (s.loseLink l 2)

/-- LINK_RETRAIN (R290, R297): 100 ms after FAULT, while EN is 1. -/
def execLinkRetrain (l : LinkId) (s : State) : Host.Outcome State Fault Refusal :=
  match l with
  | .beam i => .next (s.beamRetrain i)
  | _ =>
    if s.linkState l = 3 ∧ s.flag (linkCfg l) 0 ∧ (s.linkRec l).since + 4000 ≤ s.tick then .next (s.trainLink l) else .next s

end Sys2Proof.Machine
end

