-- ==== Sys2Proof/Machine/Scan.lean ====
section
/-!
DEFINITION. SCAN: the optical gate, the facet index, the pixel synthesiser, the facet plan and its lines, and the facet
frame of the beam link (R232 to R263, R285, R286). Times are counts of 78.125 ps, 320,000 to a tick (R235).
-/

namespace Sys2Proof.Machine

/-! ### The volume at a station -/

/-- The volume in force at a station: its bank's image and its grade (R236). -/
def State.stnVolume (s : State) (i : Nat) : Option (Memory × Nat) := (s.stn i).plan.map (fun p => (s.alm.bank p.1, p.2))

/-- FACET_PERIOD_PS, FACET_LEN and MODE of the volume in force. -/
def State.stnPeriod (s : State) (i : Nat) : Nat := ((s.stnVolume i).map (fun v => volPeriodPs v.1 v.2)).getD 0
def State.stnFacets (s : State) (i : Nat) : Nat := ((s.stnVolume i).map (fun v => volFacetLen v.1 v.2 i)).getD 0
def State.stnModeB (s : State) (i : Nat) : Bool := ((s.stnVolume i).map (fun v => volModeB v.1 v.2)).getD false

/-- Number of entry `e` of the station's facet plan in the shared region (R48, R50). -/
def State.entryAt (s : State) (i e : Nat) : Nat :=
  ((s.stnVolume i).map (fun v => volFacetOff v.1 v.2 i + e)).getD 0

/-- Byte `o`, `k` bytes long, of a facet entry of the station's plan (R50). -/
def State.entryField (s : State) (i e o k : Nat) : Nat := ((s.stnVolume i).map (fun v => facetField v.1 (s.entryAt i e) o k)).getD 0

/-- The entry read for index `e` has an uncorrectable error (R68). -/
def State.entryBad (s : State) (i e : Nat) : Bool := tabGet false s.alm.badFacets (s.entryAt i e)

/-- The entry from which ADVANCE and FIRST come: the entry before one with an uncorrectable error (R68). -/
def State.entryFrom (s : State) (i e : Nat) : Nat :=
  if s.entryBad i e then (e + s.stnFacets i - 1) % max 1 (s.stnFacets i) else e

/-- ADVANCE, FIRST and TRIM as the station runs entry `e` (R50, R68). -/
def State.runAdvance (s : State) (i e : Nat) : Nat := s.entryField i (s.entryFrom i e) 0 1
def State.runFirst (s : State) (i e : Nat) : Nat := s.entryField i (s.entryFrom i e) 1 1
def State.runTrim (s : State) (i e : Nat) : Int := if s.entryBad i e then 0 else signedOf 16 (s.entryField i e 2 2)

/-- Nanometres of a line: 10.583 µm in mode A, 5.292 µm in mode B (R254). -/
def lineNm (modeB : Bool) : Nat := if modeB then 5292 else 10583

/-! ### State registers (R262) -/

/-- IDX_VALID, CFG_ERR, FACET_IDX and ENTRY of a station. -/
def State.idxValid (s : State) (i : Nat) : Bool := s.flag (Reg.SCAN_STN_STATE i) 2
def State.cfgErr (s : State) (i : Nat) : Bool := s.flag (Reg.SCAN_STN_STATE i) 3
def State.facetIdx (s : State) (i : Nat) : Nat := s.fld (Reg.SCAN_STN_STATE i) 6 4
def State.entry (s : State) (i : Nat) : Nat := s.fld (Reg.SCAN_STN_STATE i) 13 8

/-- IDX_VALID and its bit of SCAN_STATUS. -/
def State.setIdxValid (s : State) (i : Nat) (b : Bool) : State :=
  (s.setFlag (Reg.SCAN_STN_STATE i) 2 b).setFlag Reg.SCAN_STATUS (8 + i) b

/-- The gate changes its state (R236). The index is lost when the gate leaves LOCKED (R240). -/
def State.setGate (s : State) (i g : Nat) : State :=
  let s1 := (s.setFld (Reg.SCAN_STN_STATE i) 1 0 g).setFlag Reg.SCAN_STATUS i (decide (g = 2))
  if g = 2 then s1 else (s1.setIdxValid i false).modStn i (fun t => { t with offsets := [], periods := [] })

/-- CFG_ERR and CFG_CODE (R248). -/
def State.setCfg (s : State) (i code : Nat) : State :=
  ((s.setFlag (Reg.SCAN_STN_STATE i) 3 (decide (code ≠ 0))).setFld (Reg.SCAN_STN_STATE i) 19 17 code).setFlag
    Reg.SCAN_STATUS (16 + i) (decide (code ≠ 0))

/-- The stream line of the facet's first line (R250). -/
def State.showLine (s : State) (i n : Nat) : State :=
  (s.wrN (Reg.SCAN_STN_LINE_LO i) n).wrN (Reg.SCAN_STN_LINE_HI i) (n / 2 ^ 32 % 65536)

/-- BOUND follows the sheets bound. -/
def State.showBound (s : State) (i : Nat) : State :=
  s.setFlag (Reg.SCAN_STN_STATE i) 16 (decide ((s.stn i).bound ≠ []))

/-! ### The pixel clock (R242, R243, R248) -/

/-- f_pix of R242 as a ratio in Hz. -/
def State.fPix (s : State) (i : Nat) : Nat × Nat := (s.fld (Reg.SCAN_STN_KPIX i) 19 0 * 10 ^ 12, max 1 (s.stnPeriod i))

/-- The code of the first check of R248 that fails; 0 where all pass. -/
def State.scanCheck (s : State) (i : Nat) : Nat :=
  let f := s.fPix i
  let kpix := s.fld (Reg.SCAN_STN_KPIX i) 19 0
  let sos := s.fld (Reg.SCAN_STN_SOS i) 19 0
  let align := s.fld (Reg.SCAN_STN_CFG i) 1 0
  if f.1 < 18850000 * f.2 ∨ 447760000 * f.2 < f.1 then 1
  else if sos < 65536 then 2
  else if 32 * kpix < sos + 32 * 53072 then 3
  else if align = 1 ∧ s.stnFacets i % 8 ≠ 0 then 4
  else if align = 2 ∧ !s.flag (Reg.SCAN_STN_DRUM i) 15 then 5
  else 0

/-- POSTDIV: the smallest for which f_syn is at least 150.76 MHz (R242). -/
def State.postDiv (s : State) (i : Nat) : Nat :=
  let f := s.fPix i
  ((List.range 4).find? (fun p => decide (150760000 * f.2 ≤ f.1 * 2 ^ p))).getD 3

/-- Twice the synthesiser's reference in Hz: REFCLK direct, doubled or halved (R243, R490). -/
def State.refTwice (s : State) (refsel : Nat) : Nat :=
  let r := if s.flag Reg.CLK_STATUS 16 then 50000000 else 25000000
  match refsel with
  | 0 => 2 * r
  | 1 => 4 * r
  | _ => r

/-- The station's synthesiser stops (R236). -/
def State.stopPixel (s : State) (i : Nat) : State :=
  (((s.wrN (Reg.SCAN_STN_NDIV i) 0).wrN (Reg.SCAN_STN_PIXNOW i) 0).wrN (Reg.CLK_PLL_STATE (2 + i)) 0).lockBit (2 + i) false

/-- The checks of R248 on the volume in force, and the synthesiser's start (R242, R243, R492). -/
def State.volumeCheck (s : State) (i : Nat) : State :=
  let c := s.scanCheck i
  if c ≠ 0 then
    ((((s.setCfg i c).stopPixel i).raiseBit Reg.SCAN_EVENTS 4).event 0x0704 [i, c, ((s.stn i).plan.map (·.2)).getD 0])
  else
    let pd := s.postDiv i
    let num := (s.fPix i).1 * 2 ^ pd
    let den := (s.fPix i).2
    let sel := s.fld (Reg.SCAN_STN_PIXCFG i) 1 0
    let ndiv := (2 * num * 2 * 2 ^ 24 + den * s.refTwice sel) / (2 * den * s.refTwice sel)
    (((s.setCfg i 0).wrN (Reg.SCAN_STN_NDIV i) ndiv).wrN (Reg.SCAN_STN_PIXNOW i) (sel + pd * 16)).startPll (2 + i) num den

/-- NDIV_eff for entry `e` (R243). -/
def State.ndivEff (s : State) (i e : Nat) : Nat :=
  let n : Int := s.rdN (Reg.SCAN_STN_NDIV i)
  (n + asr (n * s.runTrim i e) 20).toNat

/-- The time from a boundary to its facet end (R247), while the synthesiser runs, by the reference and the divider in force. -/
def State.facetSpan (s : State) (i : Nat) : Option Nat :=
  let n := s.ndivEff i (s.entry i)
  if n = 0 then none
  else
    let px := s.fld (Reg.SCAN_STN_SOS i) 19 0 + 32 * 52048
    some (px * 2 ^ s.fld (Reg.SCAN_STN_PIXNOW i) 5 4 * 2 ^ 24 * 10 ^ 12 * 2 * 8 / (32 * n * s.refTwice (s.fld (Reg.SCAN_STN_PIXNOW i) 1 0) * 625))

/-! ### Facet end (R247, R255, R258) -/

/-- A report to the ledger with a stamp of facet time (R31). -/
def State.stampedReport (s : State) (kind : ReportKind) (sheet stn band line time : Nat) : State :=
  { s with ledg := { s.ledg with
      reports := s.ledg.reports ++ [⟨kind, sheet, stn, band, line, min (time / 320000) (s.tick - 1)⟩] } }

/-- The facet end of the facet in progress: its slots are released, last-line reports go out, sheets past their last line
are no longer bound, and a head that was shut down goes dark (R247, R255, R258, R281). -/
def State.endFacet (s : State) (i time : Nat) : State :=
  match (s.stn i).facet with
  | none => s
  | some f =>
    if f.ended then s
    else
      let k := s.lsLines i
      let b0 := (s.stn i).base
      let gone := (List.range f.advance).map (fun j => (f.n + j - b0) % k)
      let s1 := s.modStn i (fun t => { t with
        facet := some { f with ended := true }, fired := f.n + f.advance,
        slots := gone.foldl tabDel t.slots, bound := t.bound.filter (fun b => decide (f.n + f.advance < b.n0 + b.lines)) })
      let s2 := f.last.foldl (fun t id => t.stampedReport .lastLine id i 0 0 time) s1
      let s3 := s2.showBound i
      let s4 := if (s3.bm i).darkAtEnd then (s3.disarm i).emit (.dark i) else s3
      s4.sendWaiting i

/-- The time of the facet end of the facet in progress. -/
def State.facetEndAt (s : State) (i : Nat) : Option Nat :=
  match (s.stn i).facet, (s.stn i).boundary, s.facetSpan i with
  | some f, some b, some d => if f.ended then none else some (b + d)
  | _, _, _ => none

/-! ### Taking a plan (R236, R251) -/

/-- A pending plan takes effect (R236, R248, R251, R278). A facet in progress ends under the plan that it ran. -/
def State.takePlan (s0 : State) (i : Nat) (p : PlanNext) : State :=
  let s := s0.endFacet i ((s0.facetEndAt i).getD (s0.tick * 320000))
  let vol := match p.volume with
    | some (b, g) => if volFacetLen (s.alm.bank b) g i = 0 then none else some (b, g)
    | none => none
  let was := (s.stn i).plan
  let s1 := { s with alm := { s.alm with plans := tabDel s.alm.plans i } }.modStn i (fun t => { t with
    plan := vol, good := 0, missed := 0, running := false, widths := [], offsets := [], periods := [], rise := none,
    drumAt := none })
  match vol with
  | none =>
    let s2 := ((s1.modStn i (fun t => { t with boundary := none, facet := none })).setGate i 0).setCfg i 0
    if was.isSome then (s2.stopPixel i).chooseMap i none 0 true else s2
  | some _ =>
    let g := s1.gate i
    let s2 := if g = 0 then s1.setIdxValid i false else s1.setGate i 1
    let s3 := if g = 3 then s2.modStn i (fun t => { t with boundary := none }) else s2
    (if p.checked then s3 else s3.volumeCheck i).chooseMap i none 0 true

/-- The pending plan whose deciding tick's emit phase ended before `time` (R31). -/
def State.duePlan (s : State) (i time : Nat) : Option PlanNext :=
  (tabFind s.alm.plans i).filter (fun p => afterEmit time p.decided)

/-- A gate that has no boundary at which the plan could take effect, or at which a RELEASE waits for none (R236). -/
def State.takesAtOnce (s : State) (i : Nat) (p : PlanNext) : Bool :=
  s.stationStopped i || (p.volume.isNone && decide (s.gate i ≠ 2))

/-- At the end of an emit phase, the plans of stations without boundaries take effect (R236). A plan decided in tick n is
taken here in tick n + 1, or at an edge before that. -/
def State.settlePlans (s : State) : State :=
  s.upTo 8 (fun t i =>
    match tabFind t.alm.plans i with
    | some p => if p.decided < t.tick ∧ t.takesAtOnce i p then t.takePlan i p else t
    | none => t)

/-- FACET_END (R247): the facet end of the facet in progress has passed. -/
def execFacetEnd (i : Fin 8) (s : State) : Host.Outcome State Fault Refusal :=
  match s.facetEndAt i with
  | some t => if t < s.tick * 320000 then .next (s.endFacet i t) else .next s
  | none => .next s

/-! ### The drum (R249, R252, R253) -/

/-- The drum axis's position at a boundary, in 2⁻²⁴ unit, interpolated to its stamp (R252, log entry 71). -/
def State.drumPos (s : State) (i time : Nat) : Option Int :=
  if s.flag (Reg.SCAN_STN_DRUM i) 15 then logAt (s.stn i).drumLog time else none

/-- What the drum's axis notes in a tick (R252, R320, R332): for a stepper the position sent in the tick's frame, at the
tick's start; for a synchronous axis the reported position, at sub-tick 1,850 of the tick before, whose measurement the tick
gathered. -/
def State.drumNote (s : State) (i : Nat) : State :=
  let a := s.fld (Reg.SCAN_STN_DRUM i) 5 0
  if !s.flag (Reg.SCAN_STN_DRUM i) 15 then s
  else
    let e : Nat × Int := if s.flag (Reg.SCAN_STN_DRUM i) 8 then (s.tick * 320000, (s.ax a).pos)
      else ((s.tick - 1) * 320000 + 1850 * 128, (s.sx a).p * 2 ^ 24)
    if !s.flag (Reg.SCAN_STN_DRUM i) 8 ∧ (s.axis.links.getD (a / 6) Link.init).good ≠ s.tick + 1 then s
    else s.modStn i (fun t => { t with drumLog := (e :: t.drumLog).take 24 })

/-- The drum has passed DRUM_IDX between two positions (R249). -/
def State.drumPassed (s : State) (i : Nat) (x0 x1 : Int) : Bool :=
  let k : Int := s.fld (Reg.SCAN_STN_DRUM_IDX i) 23 0
  decide ((x0 / 2 ^ 24 - k) / 2 ^ 24 ≠ (x1 / 2 ^ 24 - k) / 2 ^ 24)

/-- An exponential average with shift SCAN_CFG.AVG (R241, R252). -/
def State.average (s : State) (old new : Int) : Int := old + asr (new - old) (s.fld Reg.SCAN_CFG 19 16)

/-- The drum's travel since the last boundary, less the ADVANCE of the entry that ran, in 1/65,536 line: the residual of the
entry and the registration error, while a sheet is bound (R252, R253). -/
def State.drumStep (s : State) (i time : Nat) : State :=
  let t := s.stn i
  match t.drumAt, s.drumPos i time with
  | some x0, some x1 =>
    let s1 := s.modStn i (fun t => { t with drumAt := some x1 })
    if t.bound = [] ∨ !t.running then s1
    else
      let lines : Int := (x1 - x0) * (s.rdN (Reg.SCAN_STN_DRUM_SCALE i) : Int) * 65536000 / (2 ^ 48 * (lineNm (s.stnModeB i) : Int))
      let d := lines - ((t.facet.map (·.advance)).getD 0 : Nat) * 65536
      let e := s.entry i
      let r := s.average (tabGet 0 t.resid e) d
      let err := clampInt (-(32768 * 256)) (32768 * 256 - 1) (t.regErr + d)
      let s2 := ((s1.modStn i (fun t => { t with resid := tabSet 0 t.resid e r, regErr := err })).wrN
        (Reg.SCAN_STN_RESID i e) (codeOf 32 r)).wrN (Reg.SCAN_STN_REG_ERR i) (codeOf 16 (err / 256))
      if s.fld (Reg.SCAN_STN_REG_LIMIT i) 15 0 ≤ err.natAbs / 256 then
        (t.bound.filter (fun b => !b.limited)).foldl
          (fun u b => (u.raiseBit Reg.SCAN_EVENTS 6).event 0x0706 [(sheetTag b.id i).toNat, codeOf 16 (err / 256)])
          (s2.modStn i (fun t => { t with bound := t.bound.map (fun (b : Bound) => { b with limited := true }) }))
      else s2
  | _, some x1 => s.modStn i (fun t => { t with drumAt := some x1 })
  | _, none => s

/-! ### The boundary (R249 to R259) -/

/-- The position at a boundary (R113). -/
def State.boundaryPos (s : State) (time : Nat) : Int :=
  let n := time / 320000
  let p := tabGet s.ledg.pos s.ledg.posAt n
  p + (tabGet s.ledg.pos s.ledg.posAt (n + 1) - p) * (time % 320000 / 128 : Nat) / 2500

/-- The last tick whose emit phase ended before a boundary (R31). -/
def emitBefore (time : Nat) : Nat := if 2375 < time % 320000 / 128 then time / 320000 else time / 320000 - 1

/-- A sheet's stop, one more than the tick that decided it or 0, is in force at a boundary (R31, R136). -/
def stopInForce (stop time : Nat) : Bool := decide (stop ≠ 0) && afterEmit time (stop - 1)

/-- Sheet stops whose deciding tick's emit phase ended before the boundary (R136, R259). The stopped sheets' lines leave
line store (R195). -/
def State.applyStops (s : State) (i time : Nat) : State :=
  s.modStn i (fun t =>
    let ids := (t.bound.filter (fun b => stopInForce b.stop time)).map (·.id) ++
      (t.given.filter (fun g => stopInForce g.stop time)).map (·.id)
    { t with
      given := t.given.filter (fun g => !stopInForce g.stop time),
      slots := t.slots.filter (fun l => !ids.contains l.2.sheet),
      bound := t.bound.map (fun (b : Bound) => { b with stopped := b.stopped || stopInForce b.stop time }) })

/-- Step 1 of R259: plan changes, sheet stops and lane bindings. -/
def State.boundaryChanges (s : State) (i time : Nat) : State :=
  let s1 := match s.duePlan i time with
    | some p => s.takePlan i p
    | none => s
  let s2 := s1.applyStops i time
  match s2.burl.bindNext with
  | some b => if afterEmit time b.decided then s2.applyBindings b else s2
  | none => s2

/-- A storage error in entry `n` of the facet plans of the active bank is reported (R58, R68, R70, R426): the record's page
carries bit 31 and the entry, as the fault's address does. -/
def State.entryError (s : State) (n : Nat) (bad : Bool) : State :=
  ((s.raiseBit Reg.ALM_EVENTS 5).fault 0x080 (if bad then 9 else 8) (2 ^ 31 + n)).event 0x0206 [2 ^ 31 + n, 0, (!bad).toNat]

/-- ECC of the facet entry that the boundary reads (R68): 0 clean, 1 corrected, 2 uncorrectable. An entry whose uncorrectable
error was found before is reported at every later run. -/
def State.entryEcc (s : State) (i ecc : Nat) : State :=
  let n := s.entryAt i (s.entry i)
  if ecc = 2 ∨ tabGet false s.alm.badFacets n then
    ({ s with alm := { s.alm with badFacets := tabSet false s.alm.badFacets n true } } : State).entryError n true
  else if ecc = 1 then s.entryError n false
  else s

/-- The plan's first entry at this boundary, if R249 sets it here. -/
def State.firstEntry (s : State) (i : Nat) (x0 x1 : Option Int) : Option Nat :=
  match s.fld (Reg.SCAN_STN_CFG i) 1 0 with
  | 0 => some 0
  | 1 => if s.idxValid i then some (s.facetIdx i) else none
  | _ =>
    match x0, x1 with
    | some a, some b => if s.drumPassed i a b then some 0 else none
    | _, _ => none

/-- Step 3 of R259: the facet index, e, N and the facet's lines (R240, R249, R250). -/
def State.setEntry (s : State) (i time ecc : Nat) : State :=
  let x0 := (s.stn i).drumAt
  let s1 := if s.idxValid i then s.setFld (Reg.SCAN_STN_STATE i) 6 4 (s.facetIdx i + 1) else s
  let s2 := s1.drumStep i time
  let t := s2.stn i
  let e := if t.running then some ((s2.entry i + 1) % max 1 (s2.stnFacets i)) else s2.firstEntry i x0 (s2.stn i).drumAt
  match e with
  | none => s2.modStn i (fun t => { t with facet := some ⟨t.next, 0, [], false⟩ })
  | some e =>
    let s3 := ((s2.setFld (Reg.SCAN_STN_STATE i) 13 8 e).entryEcc i ecc)
    let a := s3.runAdvance i e
    (s3.modStn i (fun t => { t with
      running := true, base := (if t.running then t.base else t.next), fired := (if t.running then t.fired else t.next),
      slots := (if t.running then t.slots else []), next := t.next + a,
      facet := some ⟨t.next, a, [], false⟩ })).showLine i t.next

/-- k0 of R254. -/
def State.bindOffset (s : State) (i : Nat) (g : Given) (time : Nat) : Int :=
  let x := um (s.fld (Reg.SCAN_STN_LEAD i) 15 0) - (s.boundaryPos time - g.start)
  let d : Int := lineNm (s.stnModeB i) * 2 ^ 24
  (2 * x * 1000 + d) / (2 * d)

/-- A given sheet is bound at the boundary (R254). -/
def State.bindSheet (s : State) (i time : Nat) (g : Given) : State :=
  let k := s.bindOffset i g time
  let n := ((s.stn i).facet.map (·.n)).getD (s.stn i).next
  let n0 := max (n + k.toNat) (s.stn i).after
  let b : Bound := ⟨g.id, g.lines, g.firstBand, n0, g.stop, false, false⟩
  let s1 := (s.modStn i (fun t => { t with
    given := t.given.erase g, bound := t.bound ++ [b], after := n0 + g.lines, regErr := 0 })).wrN (Reg.SCAN_STN_REG_ERR i) 0
  if k < 0 then (s1.raiseBit Reg.SCAN_EVENTS 7).event 0x0707 [(sheetTag g.id i).toNat, k.natAbs] else s1

/-- Step 4 of R259: the sheets whose start has fallen are bound (R129, R254). -/
def State.bindSheets (s : State) (i time : Nat) : State :=
  let d := emitBefore time
  let due := (s.stn i).given.filter (fun g =>
    decide (g.decided ≤ d) && decide (g.start ≤ tabGet s.ledg.pos s.ledg.posAt d))
  (due.foldl (fun t g => t.bindSheet i time g) s).showBound i

/-- What becomes of a line of a facet: its stream line, its sheet if it has one, the row of R256 that decides it, and the
line that is fired. -/
structure LineFate where
  x : Nat
  sheet : Option Bound
  row : Nat
  bytes : Option (List Byte)
  deriving DecidableEq, Repr

/-- The whole line that stands in a slot for line `j` of a sheet (R256). -/
def State.storedLine (s : State) (i x j : Nat) (b : Bound) : Option (List Byte) :=
  (tabFind (s.stn i).slots (s.slotOf i x)).bind (fun l =>
    if l.sheet = b.id ∧ l.band = j / 64 ∧ l.line = j % 64 then some l.bytes else none)

/-- The gate is not LOCKED, the index is needed and not valid, CFG_ERR is set, or the synthesiser is in BAND_MISS
(R256, R493). -/
def State.notImaging (s : State) (i : Nat) : Bool :=
  decide (s.gate i ≠ 2) || (decide (s.fld (Reg.SCAN_STN_CFG i) 1 0 = 1) && !s.idxValid i) || s.cfgErr i ||
  s.bandMiss (2 + i)

/-- The fate of stream line `x` at a boundary (R256). -/
def State.lineFate (s : State) (i : Nat) (real : Bool) (x : Nat) : LineFate :=
  match (s.stn i).bound.find? (fun b => decide (b.n0 ≤ x) && decide (x < b.n0 + b.lines)) with
  | none => ⟨x, none, 0, none⟩
  | some b =>
    let j := x - b.n0
    if s.notImaging i then ⟨x, some b, 1, none⟩
    else if b.stopped then ⟨x, some b, 2, none⟩
    else if j < 64 * b.firstBand then ⟨x, some b, 3, none⟩
    else if !real || !s.ldenHigh i then ⟨x, some b, 4, none⟩
    else
      match s.storedLine i x j b with
      | none => ⟨x, some b, 5, none⟩
      | some bs => ⟨x, some b, 6, some bs⟩

/-- A line that its sheet loses (R256, R257). -/
def LineFate.lost (f : LineFate) : Bool := decide (f.row = 1) || decide (f.row = 4) || decide (f.row = 5)

/-- Step 6 of R259: underrun, band-begun and last-line reports (R257, R258). -/
def State.facetReports (s : State) (i time : Nat) (fs : List LineFate) : State :=
  let under := (s.stn i).bound.foldl (fun t b =>
    match fs.find? (fun f => f.lost && f.sheet.any (fun c => decide (c.id = b.id))) with
    | some f =>
      let j := f.x - b.n0
      (((t.stampedReport .underrun b.id i (j / 64) (j % 64) time).bump (Reg.SCAN_STN_COUNT_UNDER i)).raiseBit Reg.SCAN_EVENTS 5).event
        0x0705 [(mkTag b.id i (j / 64) 4 (j % 64)).toNat, j % 64, f.row]
    | none => t) s
  let live := fs.filter (fun f => f.sheet.any (fun b => !b.stopped))
  let begun := live.foldl (fun t f =>
    match f.sheet with
    | some b =>
      let j := f.x - b.n0
      if j % 64 = 0 ∧ b.firstBand ≤ j / 64 then t.stampedReport .begun b.id i (j / 64) 0 time else t
    | none => t) under
  let last := live.filterMap (fun f => f.sheet.bind (fun b => if f.x + 1 = b.n0 + b.lines then some b.id else none))
  begun.modStn i (fun t => { t with facet := t.facet.map (fun (f : FacetRun) => { f with last := last }) })

/-! ### The facet frame (R286) -/

/-- A byte with its pixels in the opposite order (R245). -/
def revPixels (modeB : Bool) (b : Byte) : Byte :=
  BitVec.ofNat 8 (if modeB then (List.range 8).foldl (fun n k => n + (bitOf b.toNat k).toNat * 2 ^ (7 - k)) 0
    else (List.range 4).foldl (fun n k => n + bitsOf b.toNat (2 * k + 1) (2 * k) * 4 ^ (3 - k)) 0)

/-- A line's codes in sweep order (R245, R286). -/
def sweepCodes (reverse modeB : Bool) (bs : List Byte) : List Byte :=
  if reverse then bs.reverse.map (revPixels modeB) else bs

/-- The logical emitter of line `k` of a facet with this FIRST (R233, R234). -/
def emitterOf (modeB : Bool) (first k : Nat) : Nat :=
  if modeB then first % 64 + k else 2 * (first % 32 + k) + bitsOf first 5 5

/-- The facet frame (R286): header, drive codes, line blocks and chunks of 256 sweep positions, of which those before SKIP
carry no code. The chunks' bytes fill whole blocks, the last padded with zeros (log entry 72). -/
def State.facetFrame (s : State) (i : Nat) (sweep : Bool) (fs : List LineFate) : Out :=
  let e := s.entry i
  let mb := s.stnModeB i
  let first := s.runFirst i e
  let w := ((s.stnVolume i).map (fun v => volLineBytes v.1 v.2)).getD 0
  let px := if mb then 8 else 4
  let skip := if i % 2 = 1 then 51024 - w * px else 0
  let h0 := first + s.runAdvance i e % 256 * 2 ^ 8 + mb.toNat * 2 ^ 16 + i % 2 * 2 ^ 17 + sweep.toNat * 2 ^ 18 +
    s.mapNow i * 2 ^ 20 + w * 2 ^ 32 + skip * 2 ^ 48
  let h1 := s.ndivEff i e % 2 ^ 32 + s.fld (Reg.SCAN_STN_PIXNOW i) 1 0 * 2 ^ 32 + s.fld (Reg.SCAN_STN_PIXNOW i) 5 4 * 2 ^ 36 +
    s.fld (Reg.SCAN_STN_CFG i) 21 16 * 2 ^ 38 + s.fld (Reg.SCAN_STN_SOS i) 19 0 * 2 ^ 44
  let drive (q : Nat) : Nat := (List.range 4).foldl (fun n k => n + tabGet 0 (s.bm i).drive (4 * q + k) * 2 ^ (16 * k)) 0
  let tag (f : LineFate) : Nat := match f.sheet with
    | some b => (mkTag b.id i ((f.x - b.n0) / 64) 4 ((f.x - b.n0) % 64)).toNat
    | none => (mkTag 0 i 0 4 0).toNat
  let lines := fs.zipIdx.flatMap (fun p =>
    [tag p.1, emitterOf mb first p.2 % 64 + p.1.bytes.isNone.toNat * 64 + p.1.x % 2 ^ 32 * 2 ^ 32])
  let size := if mb then 32 else 64
  let codes := fs.filterMap (fun f => f.bytes.map (sweepCodes (decide (i % 2 = 1)) mb))
  let off := skip / px
  let chunk (c : Nat) : List Byte :=
    codes.flatMap (fun l => (l.drop (c * size - off)).take ((c + 1) * size - max (c * size) off))
  let chunks := (List.range ((off + w + size - 1) / size)).flatMap chunk
  .beamFrame i (beamFrame 1 (s.bm i).seq ([h0, h1] ++ (List.range 16).map drive ++ lines ++ dataBlocks chunks))

/-- The frame of the facet, with its turn at SWEEP (R275), where the link is UP. -/
def State.sendFacet (s : State) (i : Nat) (fs : List LineFate) : State :=
  if s.beamLink i ≠ 2 then s
  else
    let turn := decide (s.fld (Reg.BEAM_STN_CFG i) 7 4 ≤ (s.bm i).sinceSweep + 1)
    let firsts := (s.stn i).bound.filterMap (fun b =>
      (fs.find? (fun f => f.sheet.any (fun c => decide (c.id = b.id)))).map (fun f => (b.id, (f.x - b.n0) / 64, (f.x - b.n0) % 64)))
    let rec_ : FacetSheets := ⟨(s.bm i).seq, firsts⟩
    (s.modBm i (fun b => { b with
      sinceSweep := (if turn then 0 else b.sinceSweep + 1), recent := (rec_ :: b.recent).take 4 })).emit
      (s.facetFrame i (turn && s.ldenHigh i) fs)

/-- Whether the station still has to cross a boundary before DRAINING ends (R65). -/
def State.crossed (s : State) (i : Nat) : State :=
  if (s.stn i).plan.map (·.1) = s.alm.active then
    { s with alm := { s.alm with draining := putBit s.alm.draining i false } }
  else s

/-- A facet boundary at a station (R259), real or synthesised. The facet count advances first, so the frame of the first
boundary has SEQ 1 (R286, log entry 32). -/
def State.facetBoundary (s : State) (i time : Nat) (real : Bool) (ecc : Nat) : State :=
  let s0 := s.endFacet i (((s.facetEndAt i).map (min time)).getD time)
  let s1 := s0.boundaryChanges i time
  if (s1.stn i).plan.isNone then s1
  else
    let s2 := ((s1.modStn i (fun t => { t with boundary := some time, real := real })).modBm i
      (fun b => { b with seq := (b.seq + 1) % 2 ^ 32 })).crossed i
    let s3 := s2.mapBoundary i time
    let s4 := (s3.setEntry i time ecc).bindSheets i time
    let f := ((s4.stn i).facet).getD ⟨0, 0, [], true⟩
    let fs := (List.range f.advance).map (fun k => s4.lineFate i real (f.n + k))
    let s5 := s4.facetReports i time fs
    if (s5.stn i).running then s5.sendFacet i fs else s5

/-! ### Edges (R235 to R241) -/

/-- Picoseconds of a time in 78.125 ps, rounded down. -/
def psOf (u : Nat) : Nat := u * 625 / 8

/-- The stamp of an edge of the tick before the present one (R235). -/
def State.edgeTime (s : State) (sub fine : Nat) : Nat := (s.tick - 1) * 320000 + sub * 128 + fine

/-- WIN of a station, in 0.01 % (R237). -/
def State.bdWin (s : State) (i : Nat) : Nat := s.fld (Reg.SCAN_STN_BDWIN i) 9 0

/-- `u` units lie at or past T × (1 − WIN), and at or before T × (1 + WIN) (R236, R237). -/
def State.pastOpen (s : State) (i u : Nat) : Bool := decide (s.stnPeriod i * (10000 - s.bdWin i) * 8 ≤ u * 625 * 10000)
def State.beforeClose (s : State) (i u : Nat) : Bool := decide (u * 625 * 10000 ≤ s.stnPeriod i * (10000 + s.bdWin i) * 8)

/-- The period between two real boundaries one facet apart is shown, passed to the polygon's axis, and averaged for its
facet index (R238, R241). -/
def State.notePeriod (s : State) (i time : Nat) : State :=
  let t := s.stn i
  match t.boundary with
  | none => s
  | some b =>
    if !t.real then s
    else
      let ps := psOf (time - b)
      let p := s.facetIdx i
      let s1 := s.wrN (Reg.SCAN_STN_PERIOD i) ps
      let fp : FacetPeriod := ⟨i, ps, s.idxValid i && decide ((p + 1) % 8 = 0), time⟩
      let s2 := { s1 with axis := { s1.axis with periods := s1.axis.periods ++ [fp] } }
      if !s.idxValid i then s2
      else
        let ps8 := tabPut t.periods p ps
        let s3 := s2.modStn i (fun t => { t with periods := ps8 })
        if ps8.length < 8 then s3
        else
          let sum : Int := ((ps8.map (·.2)).foldl (· + ·) 0 : Nat)
          let v := s.average (tabGet 0 t.fper p) ((8 * (ps : Int) - sum) * 65536 / 8)
          (s3.modStn i (fun t => { t with fper := tabSet 0 t.fper p v })).wrN (Reg.SCAN_STN_FPER i p) (codeOf 32 (v / 65536))

/-- A stray edge (R236, R237). -/
def State.strayEdge (s : State) (i : Nat) : State := (s.bump (Reg.SCAN_STN_COUNT_STRAY i)).raiseBit Reg.SCAN_EVENTS 8

/-- The gate is lost (R236). -/
def State.loseGate (s : State) (i : Nat) : State :=
  ((((s.setGate i 3).fault (0x1C0 + i) 0x10 0).raiseBit Reg.SCAN_EVENTS 1).event 0x0702
    [i, (s.stn i).missed, s.rdN (Reg.SCAN_STN_PERIOD i)]).modStn i (fun t => { t with widths := [] })

/-- A missed facet: its boundary is synthesised and it is fired dark (R237). -/
def State.missFacet (s : State) (i ecc : Nat) : State :=
  match (s.stn i).boundary with
  | none => s
  | some b =>
    let s1 := (((s.bump (Reg.SCAN_STN_COUNT_MISS i)).raiseBit Reg.SCAN_EVENTS 2).modStn i (fun t => { t with
      missed := t.missed + 1, rise := none }))
    let s2 := s1.facetBoundary i (b + s.stnPeriod i * 8 / 625) false ecc
    if s2.gate i = 2 ∧ s2.fld (Reg.SCAN_STN_CFG i) 7 4 ≤ (s2.stn i).missed then s2.loseGate i else s2

/-- The window of the next boundary closed before `time` (R237). -/
def State.windowClosed (s : State) (i time : Nat) : Bool :=
  decide (s.gate i = 2) && (s.stn i).boundary.any (fun b => !s.beforeClose i (time - b) && decide (b < time))

/-- FACET_MISSED (R237): the window closed with no edge. -/
def execFacetMissed (i : Fin 8) (ecc : Fin 3) (s : State) : Host.Outcome State Fault Refusal :=
  if s.windowClosed i (s.tick * 320000) then .next (s.missFacet i ecc) else .next s

/-- The windows that closed before an edge are decided first (R237); `n` bounds their number. -/
def State.closeWindows (s : State) (i time : Nat) : Nat → State
  | 0 => s
  | n + 1 => if s.windowClosed i time then State.closeWindows (s.missFacet i 0) i time n else s

/-- A boundary at a real edge. -/
def State.realBoundary (s : State) (i time ecc : Nat) : State :=
  ((s.notePeriod i time).modStn i (fun t => { t with missed := 0, rise := some time })).facetBoundary i time true ecc

/-- A rising edge in ACQUIRE: its period counts when it lies within ± WIN (R236). -/
def State.acquireEdge (s : State) (i time ecc : Nat) : State :=
  let u := ((s.stn i).boundary.map (fun b => time - b)).getD 0
  let good := (s.stn i).boundary.isSome && s.pastOpen i u && s.beforeClose i u
  let n := if good then (s.stn i).good + 1 else 0
  let s1 := s.modStn i (fun t => { t with good := n })
  let s2 := if good ∧ s.fld (Reg.SCAN_STN_CFG i) 11 8 ≤ n then
      (((s1.setGate i 2).modStn i (fun t => { t with widths := [], offsets := [], missed := 0 })).raiseBit
        Reg.SCAN_EVENTS 0).event 0x0701 [i, psOf u]
    else s1
  s2.realBoundary i time ecc

/-- A rising edge (R236 to R238). Edges of a station without a volume are stray, and their period is shown (R263). -/
def State.riseEdge (s : State) (i time ecc : Nat) : State :=
  let s0 := match s.duePlan i time with
    | some p => if s.gate i ≠ 2 then s.takePlan i p else s
    | none => s
  let prev := (s0.stn i).lastRise
  let s1 := s0.modStn i (fun t => { t with lastRise := some time })
  if (s1.stn i).plan.isNone then
    (match prev with
      | some p => s1.wrN (Reg.SCAN_STN_PERIOD i) (psOf (time - p))
      | none => s1).strayEdge i
  else if s1.gate i = 2 then
    let u := ((s1.stn i).boundary.map (fun b => time - b)).getD 0
    if s1.pastOpen i u && s1.beforeClose i u then s1.realBoundary i time ecc else s1.strayEdge i
  else if s1.gate i = 1 then s1.acquireEdge i time ecc
  else (((s1.setGate i 1).modStn i (fun t => { t with good := 0, boundary := none })).realBoundary i time ecc)

/-- The mean offset, times 720,720, of the facets whose facet count is `p` modulo 8; none where no offset stands (R240). -/
def meanOffset (os : List (Nat × Int)) (p : Nat) : Option Int :=
  let xs := (os.filter (fun o => decide (o.1 = p))).map (·.2)
  if xs = [] then none else some (xs.foldl (· + ·) 0 * 720720 / (xs.length : Int))

/-- The facets with a mean offset, greatest first. -/
def rankOffsets (os : List (Nat × Int)) : List (Nat × Int) :=
  (List.range 8).foldl (fun l p => match meanOffset os p with
    | some m => l.takeWhile (fun e => decide (m ≤ e.2)) ++ (p, m) :: l.dropWhile (fun e => decide (m ≤ e.2))
    | none => l) []

/-- The facet index locks once 16 offsets stand and the lead is wide enough; a failed try takes 16 more (R240). The facet in
progress is the one whose offset came last. -/
def State.lockIndex (s : State) (i : Nat) : State :=
  let os := (s.stn i).offsets
  if os.length < 16 then s
  else
    let s1 := s.modStn i (fun t => { t with offsets := [] })
    match rankOffsets os with
    | (best, m) :: (_, m2) :: _ =>
      let lead := m - m2
      if 720720 * 65536 * (s.fld Reg.SCAN_CFG 11 0 : Int) ≤ lead then
        (((s1.setIdxValid i true).setFld (Reg.SCAN_STN_STATE i) 6 4 (((s.bm i).seq + 8 - best) % 8)).raiseBit Reg.SCAN_EVENTS 3).event
          0x0703 [i, (lead / (720720 * 65536)).toNat]
      else s1
    | _ => s1

/-- A falling edge: the gate width, and the process-direction offset of the facet once eight widths stand (R239). Without a
volume it is stray (R236). -/
def State.fallEdge (s : State) (i time : Nat) : State :=
  let t := s.stn i
  match (if t.plan.isNone then none else t.rise) with
  | none => if t.plan.isNone then s.strayEdge i else s
  | some r =>
    let w := time - r
    let s1 := s.modStn i (fun t => { t with rise := none, widths := (w :: t.widths).take 8 })
    if s.gate i ≠ 2 then s.modStn i (fun t => { t with rise := none })
    else if t.widths.length < 8 then s1
    else
      let sum : Int := (t.widths.foldl (· + ·) 0 : Nat)
      let y := (8 * (w : Int) - sum) * 625 * lineNm false * s.fld (Reg.SCAN_STN_KPIX i) 19 0 * 4 * 65536 /
        ((max 1 (s.stnPeriod i) * max 1 (s.fld (Reg.SCAN_STN_SLOPE i) 15 0) : Nat) : Int)
      if s.idxValid i then
        let p := s.facetIdx i
        let v := s.average (tabGet 0 t.pyr p) y
        (s1.modStn i (fun t => { t with pyr := tabSet 0 t.pyr p v })).wrN (Reg.SCAN_STN_PYR i p) (codeOf 16 (v / 65536))
      else (s1.modStn i (fun t => { t with offsets := t.offsets ++ [((s.bm i).seq % 8, y)] })).lockIndex i

/-- BD_EDGE (R235 to R241): an edge of BDn captured in the tick before. -/
def execBdEdge (i : Fin 8) (rising : Bool) (sub : Fin 2500) (fine : Fin 128) (ecc : Fin 3) (s : State) :
    Host.Outcome State Fault Refusal :=
  let time := s.edgeTime sub fine
  if !s.domainOn i then .next s
  else if rising then .next ((s.closeWindows i time 16).riseEdge i time ecc) else .next (s.fallEdge i time)

/-- SCAN_MEAS_CLR (R241, R252): the averages of the stations named are cleared. -/
def State.clearMeasured (s : State) (mask : Nat) : State :=
  s.upTo 8 (fun t i =>
    if bitOf mask i then
      let s1 := t.modStn i (fun u => { u with pyr := [], fper := [], periods := [], resid := [] })
      let s2 := s1.upTo 8 (fun u p => (u.wrN (Reg.SCAN_STN_PYR i p) 0).wrN (Reg.SCAN_STN_FPER i p) 0)
      s2.upTo 64 (fun u e => u.wrN (Reg.SCAN_STN_RESID i e) 0)
    else t)

/-- SCAN_MEAS_CLR (R241). -/
def execScanMeasClr (mask : Fin 256) (s : State) : Host.Outcome State Fault Refusal := .next (s.clearMeasured mask)

end Sys2Proof.Machine
end

