-- ==== Sys2Proof/Machine/Sio.lean ====
section
/-!
DEFINITION. SIO: the captured edges of SCAP0 to SCAP7 with their filters and queues, and the SPI chain (R318, R319, R328).
-/

namespace Sys2Proof.Machine

/-- The filter of a SCAP input, in 10 ns (R319). -/
def State.scapFilter (s : State) (i : Nat) : Nat := bitsOf (s.rdN Reg.SIO_SCAP_FILT) (4 * i + 3) (4 * i)

/-- An edge qualifies and is queued; at a full queue it is dropped with SCAP_OVF (R319). `first` and `at_` are the times of
its first sample and of the end of its filter time, in 10 ns. -/
def State.queueEdge (s : State) (i first at_ : Nat) (rising : Bool) : State :=
  let u := s.sio.scap.getD i ScapIn.init
  let e : Edge := ⟨first / 2500, first % 2500, rising, at_ / 2500, u.serial, 0⟩
  if 8 ≤ u.queue.length then
    let scap := s.sio.scap.modify i (fun (x : ScapIn) => { x with level := rising })
    ({ s with sio := { s.sio with scap := scap } } : State).raiseBit Reg.SIO_EVENTS i
  else
    let scap := s.sio.scap.modify i (fun (x : ScapIn) =>
      { x with level := rising, queue := x.queue ++ [e], serial := x.serial + 1 })
    { s with sio := { s.sio with scap := scap, changed := tabPut s.sio.changed (256 + i) (at_ / 2500 + 2) } }

/-- A level that has stood for the filter time by time `now` counts (R319). -/
def State.settleScap (s : State) (i now : Nat) : State :=
  let u := s.sio.scap.getD i ScapIn.init
  let at_ := u.first + s.scapFilter i
  if u.raw ≠ u.level ∧ at_ ≤ now then s.queueEdge i u.first at_ u.raw else s

/-- SCAP_EDGE (R319): the first sample of input `i` at another level, at a sub-tick of the present tick. The change counts,
and the edge is queued, once the level has stood for the filter time: at once with a filter of 0. -/
def execScapEdge (i : Fin 8) (level : Bool) (sub : Fin 2500) (s : State) : Host.Outcome State Fault Refusal :=
  let now := s.tick * 2500 + sub
  let s1 := s.settleScap i now
  if (s1.sio.scap.getD i ScapIn.init).raw = level then .next s1
  else
    let scap := s1.sio.scap.modify i (fun (x : ScapIn) => { x with raw := level, first := now })
    .next (({ s1 with sio := { s1.sio with scap := scap } } : State).settleScap i now)

/-- At the end of a tick, the levels that have stood for their filter time count (R319). -/
def State.settleAll (s : State) : State := s.upTo 8 (fun t i => t.settleScap i (t.tick * 2500 + 2499))

/-- Edges that this tick's CAPTURE slots gathered leave the queue once every point of the ledger that uses the input has
read them (R131, R319). -/
def State.trimScap (s : State) : State :=
  s.upTo 8 (fun t i =>
    if t.pageHas 0x15 2 i then
      let unread (e : Edge) : Bool := (List.range 4).any (fun k =>
        t.pointActive k && decide (t.pointInput k = i) && !bitOf e.readBy k)
      let scap := t.sio.scap.modify i (fun (x : ScapIn) =>
        { x with queue := x.queue.filter (fun e => decide (t.tick ≤ e.qualified) || unread e) })
      { t with sio := { t.sio with scap := scap } }
    else t)

/-- BITS of the chain (R318). -/
def State.chainBits (s : State) : Nat := s.fld Reg.SIO_CFG 8 0

/-- The chain's inputs are latched at the start of the tick (R318). -/
def State.latchChain (s : State) (bits : List Bool) : State :=
  if s.chainBits = 0 then s else { s with sio := { s.sio with chainIn := bits.take s.chainBits, chainAt := s.tick + 1 } }

/-- The pick output is driven (R129, R328). -/
def State.pickOn (s : State) : Bool := decide (s.tick < s.ledg.pickUntil)

/-- SIO_OUTj with the pick bit as the ledger drives it (R328). -/
def State.chainOut (s : State) (j : Nat) : Nat :=
  let b := s.fld Reg.SIO_PICK_CFG 7 0
  if s.flag Reg.SIO_PICK_CFG 16 ∧ b / 32 = j then putBit (s.rdN (Reg.SIO_OUT j)) (b % 32) s.pickOn else s.rdN (Reg.SIO_OUT j)

/-- CHAIN_OUT (R318): what the next tick's start shifts out. -/
def State.chainEmit (s : State) : State :=
  if s.chainBits ≠ 0 ∧ s.pageHas 0x15 3 0 then
    s.emit (.spiOut (((List.range 8).foldl (fun n j => n + s.chainOut j * 2 ^ (32 * j)) 0) % 2 ^ s.chainBits))
  else s

end Sys2Proof.Machine
end

