-- ==== Sys2Proof/Machine/Faults.lean ====
section
/-!
DEFINITION. FLT: fault messages and their latches, evaluation with escalation, block resets, the safe state, ERR_N and the
log (R423 to R443).
-/

namespace Sys2Proof.Machine

/-! ### MOVING and ERR_N (R431, R432) -/

/-- MOVING of a stepper axis (R327, R431). -/
def State.stepMoving (s : State) (a : Nat) : Bool := decide ((s.ax a).v ≠ 0)

/-- Every stepper axis and every synchronous axis has MOVING clear (R431). -/
def State.allStill (s : State) : Bool :=
  (List.range 48).all (fun a => !s.stepMoving a) && (List.range 24).all (fun a => !s.axisMoving a)

/-- The ERR_N latch (R432). -/
def State.errnLatch (s : State) : Bool := s.flag Reg.FLT_STATUS 2

/-- ERR_N is low (R432): from a reset until the SRAM wipe ends, in the safe state, and while its latch is set. -/
def State.errnLow (s : State) : Bool := !s.clk.up || s.clk.wiping || s.safeNow || s.errnLatch

/-- Drive ERR_N where it was at level `was` before. -/
def State.driveErrn (s : State) (was : Bool) : State := if s.errnLow = was then s else s.emit (.errN s.errnLow)

/-! ### The safe state (R433 to R435) -/

/-- A cause bit is added (R433). -/
def State.addCause (s : State) (causes : Nat) : State := s.wrN Reg.FLT_SAFE_CAUSE (s.rdN Reg.FLT_SAFE_CAUSE ||| causes)

/-- The tick of the last entry to the safe state (R433). -/
def State.safeTick (s : State) : Nat := s.rdN Reg.FLT_SAFE_TICK_LO + s.rdN Reg.FLT_SAFE_TICK_HI * 2 ^ 32

/-- What an entry to the safe state does at once (R433, R434): its cause and tick, the beams dark, the ordered set K28.1 on both
HV links (R365), ERR_N. -/
def State.safeOutputs (s : State) (causes : Nat) : State :=
  let s1 := (((s.setFlag Reg.FLT_STATUS 0 true).addCause causes).wrN Reg.FLT_SAFE_TICK_LO s.tick).wrN
    Reg.FLT_SAFE_TICK_HI (s.tick / 2 ^ 32)
  (s1.darkAll.emit .forcedOff).driveErrn s.errnLow

/-- What the blocks do in the first tick that gathers the entry (R434), with vector 0 and the record. -/
def State.safeBlocks (s : State) : State :=
  let s1 := ((s.safeLoops s.safeTick).safeSteppers.safeAxes).safePath
  let s2 := ((s1.jam none 0x14 0).almSafe.legPost 0x51).urgent
  (s2.raiseBit Reg.FLT_EVENTS 1).event 0x0001 [s2.rdN Reg.FLT_SAFE_CAUSE, s2.rdN Reg.FLT_SAFE_SRC, s2.safeTick]

/-- An entry to the safe state in the decide phase, with its cause bits (R433, R434). While the state is in force only the cause
is added. -/
def State.enterSafe (s : State) (causes : Nat) : State :=
  if s.safeNow then s.addCause causes else (s.safeOutputs causes).safeBlocks

/-- An entry by a hardware path (R30, R434): the outputs at once, and what the path is to tell in the next tick. -/
def State.enterByHardware (s : State) (causes code : Nat) (args : List Nat) : State :=
  let s1 := if s.safeNow then s.addCause causes else s.safeOutputs causes
  { s1 with flt := { s1.flt with paths := s1.flt.paths ++ [⟨code, args, s.tick, !s.safeNow⟩] } }

/-- An entry decided in the decide phase (R435, R436): one that meets a SAFE_EXIT of the same tick finds the safe state still
in force, and the exit refused with result 2. -/
def State.decideSafe (s : State) (causes : Nat) : State :=
  let s0 : State := { s with flt := { s.flt with enteredAt := s.tick + 1 } }
  match (match s.flt.left with
    | some x => if x.leftAt = s.tick then some x else none
    | none => none) with
  | some x =>
    let s1 := ((s0.setFlag Reg.FLT_STATUS 0 true).wrN Reg.FLT_SAFE_CAUSE x.cause).wrN Reg.FLT_SAFE_SRC x.src
    let s2 := (s1.setFlag Reg.FLT_EVENTS 2 x.flag).wrN Reg.FLT_RESULT 2
    let s3 : State := { s2 with
      flt := { s2.flt with left := none },
      hwd := { s2.hwd with sent := s2.hwd.sent.filter (fun e => !(decide (e.code = 2) && decide (e.tick = s.tick))) } }
    ((s3.raiseBit Reg.FLT_EVENTS 5).driveErrn s.errnLow).addCause causes
  | none => s0.enterSafe causes

/-- A request of FLT_CTRL is refused (R442). -/
def State.ctrlRefused (s : State) (r : Nat) : State := (s.wrN Reg.FLT_RESULT r).raiseBit Reg.FLT_EVENTS 5

/-! ### Latches (R424) -/

/-- The 64 bits of a message (R423). -/
def FaultMsg.bits (m : FaultMsg) : Nat :=
  m.source % 2 ^ 11 + (m.kind % 32) * 2 ^ 11 + (m.addr % 2 ^ 32) * 2 ^ 16 + (m.stamp % 2 ^ 16) * 2 ^ 48

/-- A message reaches its source's latch (R424). -/
def State.latchMsg (s : State) (m : FaultMsg) : State :=
  let s1 := s.bump Reg.FLT_COUNT_MSG
  match tabFind s.flt.latches m.source with
  | none => { s1 with flt := { s1.flt with latches := tabPut s1.flt.latches m.source ⟨m, 0⟩ } }
  | some l =>
    let s2 := s1.bump Reg.FLT_COUNT_MERGED
    { s2 with flt := { s2.flt with latches := tabPut s2.flt.latches m.source { l with merged := min 255 (l.merged + 1) } } }

/-- The messages that the blocks sent before this tick are gathered, in the order in which they were sent (R424). -/
def State.gatherFaults (s : State) : State :=
  let due := s.flt.sent.filter (fun m => s.gathers m.stamp)
  due.foldl State.latchMsg { s with flt := { s.flt with sent := s.flt.sent.filter (fun m => !s.gathers m.stamp) } }

/-! ### Evaluation (R427 to R429, R437, R439) -/

/-- The escalation counter of a source (R441). -/
def State.escCount (s : State) (src : Nat) : Nat := s.fld (Reg.FLT_ESC (src / 4)) (8 * (src % 4) + 7) (8 * (src % 4))
def State.setEsc (s : State) (src v : Nat) : State :=
  s.setFld (Reg.FLT_ESC (src / 4)) (8 * (src % 4) + 7) (8 * (src % 4)) v

/-- The reaction byte of a source (R428). -/
def State.reactByte (s : State) (src : Nat) : Nat := s.fld (Reg.FLT_REACT (src / 4)) (8 * (src % 4) + 7) (8 * (src % 4))

/-- The threshold of an ESC value (R427). -/
def escThreshold (e : Nat) : Nat := if e = 1 then 4 else if e = 2 then 16 else 64

/-- INTEGRITY (R437). -/
def State.integrity (s : State) : Bool := s.flag Reg.FLT_STATUS 3

/-- The reaction to an evaluation whose counter now stands at `count`, and whether it is escalated (R427, R437). -/
def State.reactionOf (s : State) (src count : Nat) : Nat × Bool :=
  let b := s.reactByte src
  if s.integrity then (0x33, false)
  else if b / 64 ≠ 0 ∧ escThreshold (b / 64) ≤ count then (b % 64 ||| s.fld Reg.FLT_ESC_REACT 5 0, true)
  else (b % 64, false)

/-- One entry of the log (R439). -/
def State.logEntry (s : State) (m : FaultMsg) (merged reaction : Nat) (escalated : Bool) : State :=
  let a := Reg.FLT_LOG (s.fld Reg.FLT_LOG_WR 7 0)
  let s1 := ((s.wrN a m.bits).wrN (a + 4) (m.bits / 2 ^ 32)).wrN (a + 8) s.tick
  let s2 := s1.wrN (a + 12) (s.tick / 2 ^ 32 % 2 ^ 16 + merged * 2 ^ 16 + (reaction % 64) * 2 ^ 24 + escalated.toNat * 2 ^ 30)
  (s2.bump Reg.FLT_LOG_WR 7 0).bump Reg.FLT_LOG_WR 31 16

/-- The pending bit of a source (R428, R441). -/
def State.setPendBit (s : State) (src : Nat) : State :=
  let i := src % 64
  s.setFlag (if i < 32 then Reg.FLT_PEND_LO (src / 64) else Reg.FLT_PEND_HI (src / 64)) (i % 32) true

/-- A non-maskable trap to both management cores, with vector 0 (R428, R429). -/
def State.trap (s : State) : State := ({ s with flt := { s.flt with traps := s.flt.traps + 1 } } : State).urgent

/-- The ERR_N latch is set by a reaction or by R437. -/
def State.setErrn (s : State) : State :=
  ({ s.setFlag Reg.FLT_STATUS 2 true with flt := { s.flt with errnAt := s.tick + 1 } } : State).driveErrn s.errnLow

/-- A wait for a reset begins (R431, R498, R499). During a wait nothing changes, except that a chip reset takes the place of
a pending core reset. -/
def State.startWait (s : State) (kind cause : Nat) (msg : Option FaultMsg) : State :=
  match s.flt.resetWait with
  | none => { s.setFlag Reg.FLT_STATUS 4 true with flt := { s.flt with resetWait := some ⟨s.tick, kind, cause, msg⟩ } }
  | some w =>
    if kind = 2 ∧ w.kind = 3 then { s with flt := { s.flt with resetWait := some { w with kind := 2, cause, msg } } } else s

/-- A thermal shut-down is latched (R479). -/
def State.thermalLatched (s : State) : Bool := decide (s.fld Reg.THM_LATCHED 11 0 ≠ 0)

/-- What the reaction mask `r` of a message does at once (R427 to R431, R435): the pending bit, a trap, a block reset, the wait
of a chip reset, ERR_N. -/
def State.react (s : State) (m : FaultMsg) (r : Nat) : State :=
  let s2 := if bitOf r 0 then (s.setPendBit m.source).raiseBit Reg.FLT_EVENTS 0 else s
  let s3 := if bitOf r 1 then s2.trap else s2
  let s4 := if bitOf r 2 then { s3 with flt := { s3.flt with resets := s3.flt.resets ++ [m.source] } } else s3
  let s5 := if bitOf r 3 ∧ !s4.thermalLatched then s4.startWait 2 2 (some m) else s4
  if bitOf r 4 then s5.setErrn else s5

/-- What a message leaves on record, with its escalation count, and the safe state that its mask asks for (R427, R434). -/
def State.reactSafe (s : State) (m : FaultMsg) (merged count r : Nat) (esc : Bool) : State :=
  let s7 := if (bitOf r 3 ∨ bitOf r 5) ∧ !s.flag Reg.FLT_SAFE_SRC 31 then
      s.wrN Reg.FLT_SAFE_SRC (m.source % 2 ^ 11 + (m.kind % 32) * 2 ^ 11 + 2 ^ 31) else s
  let s8 := if esc then (s7.raiseBit Reg.FLT_EVENTS 3).event 0x0003 [m.bits, count, r] else s7
  let s9 := if bitOf r 1 ∨ bitOf r 3 ∨ bitOf r 5 then s8.event 0x0006 [m.bits, merged, r] else s8
  if bitOf r 3 ∨ bitOf r 5 then s9.decideSafe ((bitOf r 5).toNat + (bitOf r 3).toNat * 32) else s9

/-- One latch is evaluated (R427): the counter, the reaction, its log entry and its events. -/
def State.evalLatch (s : State) (l : Latch) : State :=
  let count := min 255 (s.escCount l.msg.source + 1 + l.merged)
  let s0 := s.setEsc l.msg.source count
  let r := s0.reactionOf l.msg.source count
  ((s0.logEntry l.msg l.merged r.1 r.2).react l.msg r.1).reactSafe l.msg l.merged count r.1 r.2

/-- The leak of R427, once in a tick whose number is a multiple of FLT_ESC_LEAK. -/
def State.leak (s : State) : State :=
  let n := s.fld Reg.FLT_ESC_LEAK 15 0
  if n ≠ 0 ∧ s.tick % n = 0 ∧ s.flt.leaked ≠ s.tick + 1 then
    let s1 : State := { s with flt := { s.flt with leaked := s.tick + 1 } }
    s1.upTo 512 (fun t i =>
      if t.rd (Reg.FLT_ESC i) = 0 then t
      else (List.range 4).foldl (fun u j => u.setEsc (4 * i + j) (u.escCount (4 * i + j) - 1)) t)
  else s

/-- EVALUATE (R427): the leak and every filled latch, in ascending source id, once in a tick whose page holds the slot. -/
def State.fltEvaluate (s : State) : State :=
  if s.flt.evaluated = s.tick + 1 ∨ !s.pageHas 0 1 0 then s
  else
    let s1 := ({ s.gatherFaults with flt := { s.gatherFaults.flt with evaluated := s.tick + 1 } } : State).leak
    (s1.flt.latches.map (·.2)).foldl State.evalLatch { s1 with flt := { s1.flt with latches := [] } }

/-! ### The commands of the collector -/

/-- A message comes to the collector from outside the blocks (R424): the tick gathers it with those that the blocks sent in the
last tick; once its decide phase has begun, the next tick does. -/
def State.collect (s : State) (src kind addr : Nat) : State :=
  if s.decideOpen then s.fault src kind addr else s.gatherFaults.latchMsg ⟨src, kind, addr, s.tick - 1⟩

/-- FAULT_MESSAGE (R423, R424): the collector gathers a message that its source sent in the last tick. Block numbers 0x18 to
0x1F have no sources. -/
def execFaultMessage (src : Fin 2048) (kind : Fin 32) (addr : Word) (s : State) : Host.Outcome State Fault Refusal :=
  if src.val / 64 < 0x18 then .next (s.collect src kind addr.toNat) else .next s

/-- ESC_LEAK (R427). -/
def execEscLeak (s : State) : Host.Outcome State Fault Refusal := .next s.leak

/-- SAFE_ENTER (R433): written by host software or by management firmware. -/
def State.safeEnter (s : State) (w : Writer) : State :=
  (s.decideSafe (if w = .host then 2 else 4)).wrN Reg.FLT_RESULT 1

def effSafeEnter (w : Writer) (s : State) : Host.Outcome State Fault Refusal := .next (s.safeEnter w)

/-- SAFE_EXIT (R435). -/
def State.safeExit (s : State) : State :=
  let cause := s.rdN Reg.FLT_SAFE_CAUSE
  if !s.safeNow ∨ s.flt.enteredAt = s.tick + 1 then s.ctrlRefused 2
  else if cause &&& 0x38 ≠ 0 then s.ctrlRefused 3
  else if !s.allStill then s.ctrlRefused 4
  else
    let entered := s.safeTick
    let stay : SafeStay := ⟨cause, s.rdN Reg.FLT_SAFE_SRC, entered, s.tick, s.flag Reg.FLT_EVENTS 2⟩
    let s1 := ((s.setFlag Reg.FLT_STATUS 0 false).wrN Reg.FLT_SAFE_CAUSE 0).wrN Reg.FLT_SAFE_SRC 0
    let s2 := ((s1.wrN Reg.FLT_RESULT 1).raiseBit Reg.FLT_EVENTS 2).event 0x0002 [s.tick - entered, cause]
    ({ s2 with flt := { s2.flt with left := some stay } } : State).driveErrn s.errnLow

def effSafeExit (s : State) : Host.Outcome State Fault Refusal := .next s.safeExit

/-- ERRN_CLEAR (R432, R436). -/
def State.errnClear (s : State) : State :=
  if s.flt.errnAt = s.tick + 1 then s.ctrlRefused 2
  else ((s.setFlag Reg.FLT_STATUS 2 false).driveErrn s.errnLow).wrN Reg.FLT_RESULT 1

def effErrnClear (s : State) : Host.Outcome State Fault Refusal := .next s.errnClear

/-- ESC_CLR (R427, R441): the counter of one source, or of all. -/
def State.escClr (s : State) (v : Nat) : State :=
  if bitOf v 31 then s.upTo 512 (fun t i => t.wr (Reg.FLT_ESC i) 0) else s.setEsc (bitsOf v 10 0) 0

def effEscClr (v : Word) (s : State) : Host.Outcome State Fault Refusal := .next (s.escClr v.toNat)

/-- A write of a reserved encoding (R8, R426): instance 0 of the owning block reports it. -/
def State.reservedWrite (s : State) (block off : Nat) : State := s.fault (64 * block) 0x01 off

/-- INJECT (R438): the message reaches the collector when the write arrives. -/
def State.inject (s : State) (v : Nat) : State :=
  let src := bitsOf v 10 0
  if 0x18 ≤ src / 64 then s.reservedWrite 0 Reg.FLT_INJECT
  else s.collect src 0 (s.rdN Reg.FLT_INJECT_ADDR)

def execInject (v : Word) (s : State) : Host.Outcome State Fault Refusal := .next (s.inject v.toNat)

/-- COLLECTOR_INTEGRITY (R30, R437): a parity error at a BAR0 offset, or a difference of duplicated flip-flops. The next tick
logs and records it. -/
def execCollectorIntegrity (addr : Word) (parity : Bool) (s : State) : Host.Outcome State Fault Refusal :=
  .next (((s.setFlag Reg.FLT_STATUS 3 true).enterByHardware 16 0x0005 [addr.toNat, parity.toNat]).setErrn.trap)

/-- What a hardware path tells in the tick that gathers it (R30): a shut-down (R479), or the collector's own integrity (R437). -/
def State.gatherPath (s : State) (p : HwPath) : State :=
  if p.code = 0x1003 then ((s.legPost 0x30).raiseBit Reg.THM_EVENTS 2).event 0x1003 p.args
  else ((s.logEntry ⟨0, 0x1F, p.args.headD 0, p.stamp⟩ 0 0x32 false).raiseBit Reg.FLT_EVENTS 4).event 0x0005 p.args

/-- Step 1 of R427: the entries that hardware paths have made since the last tick are recorded, and the blocks act on them
(R30, R434). -/
def State.gatherPaths (s : State) : State :=
  let due := s.flt.paths.filter (fun p => s.gathers p.stamp)
  let s1 : State := { s with flt := { s.flt with paths := s.flt.paths.filter (fun p => !s.gathers p.stamp) } }
  due.foldl State.gatherPath (if due.any (·.entry) then s1.safeBlocks else s1)

/-! ### Block resets (R430) -/

/-- BURLC: every item being compressed starts again from its first segment; its frames are kept. -/
def State.resetBurlc (s : State) : State :=
  let again (j : CompJob) : CompJob := { j with segs := j.segs.map (fun g => { g with lane := none, done := false }) }
  let s1 : State := { s with burl := { s.burl with jobs := s.burl.jobs.map again } }
  (s1.setFld Reg.BURL_EVENTS 7 0 0).startLanes

/-- Put a segment number in its place. -/
def insertNat (n : Nat) : List Nat → List Nat
  | [] => [n]
  | m :: ms => if n ≤ m then n :: m :: ms else m :: insertNat n ms

/-- BURLD: every lane drops its segment; its lines leave line store, and it is handed out again. -/
def State.resetBurld (s : State) : State :=
  let drop (t : State) (w : LaneWork) : State :=
    let k := bandKey w.sheet w.station w.band
    let d := t.decodeOf w.sheet w.station w.band
    let t1 : State := { t with burl := { t.burl with decodes := tabPut t.burl.decodes k { d with redo := insertNat w.seg d.redo } } }
    t1.modStn w.station (fun x => { x with slots := x.slots.filter (fun l =>
      !(decide (l.2.sheet = w.sheet) && decide (l.2.band = w.band) && decide (l.2.seg = w.seg))) })
  let s1 := (s.burl.lanes.map (·.2)).foldl drop s
  ({ s1 with burl := { s1.burl with lanes := [] } } : State).setFld Reg.BURL_EVENTS 15 8 0

/-- DMA: every channel in CHECK, RUN, WAIT or HALTED enters ERROR with code 0x0A, and HALT is cleared. -/
def State.resetDma (s : State) : State :=
  let s1 := s.upTo 64 (fun t c =>
    if (1 ≤ t.chState c ∧ t.chState c ≤ 3) ∨ t.chState c = 6 then
      (t.chError c 0x0A).modDch c (fun d => { d with aborting := false }) else t)
  (s1.setFlag Reg.DMA_STATUS 0 false).wr Reg.DMA_EVENTS 0

/-- SIO: the SCAP edge queues are emptied. -/
def State.resetSio (s : State) : State :=
  let scap := s.sio.scap.map (fun (x : ScapIn) => { x with queue := [] })
  ({ s with sio := { s.sio with scap := scap } } : State).wr Reg.SIO_EVENTS 0

/-- The link of an instance of LINK (R423). -/
def linkOf (i : Nat) : LinkId :=
  if i < 8 then .beam (Fin.ofNat 8 i) else if i < 12 then .axis (Fin.ofNat 4 (i - 8))
  else if i < 14 then .step (Fin.ofNat 2 (i - 12)) else .hv (Fin.ofNat 2 (i - 14))

/-- LINK: the link enters FAULT with the outcomes of its own chapter, and trains in the next tick. -/
def State.resetLink (s : State) (i : Nat) : State :=
  let s1 := s.loseLink (linkOf i) (if i < 8 then 6 else 5)
  { s1 with flt := { s1.flt with retrain := s1.flt.retrain ++ [i] } }

/-- The block reset that a source's reaction asks for (R430). -/
def State.blockReset (s : State) (src : Nat) : State :=
  match src / 64 with
  | 4 => s.resetBurlc
  | 5 => s.resetBurld
  | 0x0D => s.resetDma
  | 0x15 => s.resetSio
  | 0x17 => if src % 64 < 16 then s.resetLink (src % 64) else s
  | _ => s

/-- The block resets of a compute phase, each block once (R429, R430). -/
def State.runResets (s : State) : State :=
  let key (src : Nat) : Nat := if src / 64 = 0x17 then src else src / 64 * 64
  ((s.flt.resets.map key).eraseDups).foldl State.blockReset { s with flt := { s.flt with resets := [] } }

/-- The links that a block reset of the last tick left to train, where EN still holds (R430). -/
def State.retrainLinks (s : State) : State :=
  s.flt.retrain.foldl
    (fun t i => if t.linkState (linkOf i) = 3 ∧ t.flag (linkCfg (linkOf i)) 0 then t.trainLink (linkOf i) else t)
    { s with flt := { s.flt with retrain := [] } }

/-- FLT_BLOCK_PEND (R441). -/
def State.blockPend (s : State) : Nat :=
  (List.range 32).foldl (fun n b => n + (decide (s.rd (Reg.FLT_PEND_LO b) ≠ 0 ∨ s.rd (Reg.FLT_PEND_HI b) ≠ 0)).toNat * 2 ^ b) 0

end Sys2Proof.Machine
end

