-- ==== Sys2Proof/Machine/Heartwood.lean ====
section
/-!
DEFINITION. HWD: rate limits, sequence numbers and the staging queue, the MRAM store with its start-up scan, snapshots,
reading, export and authorised clearing (R444 to R462).
-/

namespace Sys2Proof.Machine

/-! ### Buckets (R449 to R451) -/

/-- The bucket index of a code. -/
def bucketOf (code : Nat) : Nat := code / 256 % 32 * 32 + code % 32

/-- The code of a bucket index. -/
def codeOfBucket (c : Nat) : Nat := c / 32 * 256 + c % 32

def State.tokens (s : State) (c : Nat) : Nat := s.fld (Reg.HWD_RATE_STATE c) 7 0
def State.suppressed (s : State) (c : Nat) : Nat := s.fld (Reg.HWD_RATE_STATE c) 31 16

/-- A code is exempt from the rate limits. -/
def State.exempt (s : State) (code : Nat) : Bool :=
  (decide (1 ≤ code) && decide (code ≤ 6)) || decide (code / 256 = 0x0E) || s.flag (Reg.HWD_RATE (bucketOf code)) 24

/-- One more event of a code has been suppressed; the count saturates (R444). -/
def State.suppress (s : State) (c : Nat) : State :=
  let s1 := s.setFld (Reg.HWD_RATE_STATE c) 31 16 (min 65535 (s.suppressed c + 1))
  if tabGet 0 s.hwd.pendingSince c = 0 then
    { s1 with hwd := { s1.hwd with pendingSince := tabPut s1.hwd.pendingSince c (s.tick + 1) } }
  else s1

/-- The count of a code returns to 0. -/
def State.clearSuppressed (s : State) (c : Nat) : State :=
  let s1 := s.setFld (Reg.HWD_RATE_STATE c) 31 16 0
  { s1 with hwd := { s1.hwd with pendingSince := tabDel s1.hwd.pendingSince c } }

/-- The refill of one bucket (R450). -/
def State.refillOne (s : State) (c : Nat) : State :=
  let rate := s.fld (Reg.HWD_RATE c) 15 0
  let burst := s.fld (Reg.HWD_RATE c) 23 16
  let x := tabGet 0 s.hwd.fraction c + rate * (s.tick - s.hwd.lastRefill)
  let n := s.tokens c + x / 65536
  let f := if burst ≤ n then 0 else x % 65536
  let s1 := s.setFld (Reg.HWD_RATE_STATE c) 7 0 (min burst n)
  { s1 with hwd := { s1.hwd with fraction := tabSet 0 s1.hwd.fraction c f } }

/-- REFILL (R450, R452), once in a tick whose page holds it. A bucket that stands full with the reset settings keeps its
value. -/
def State.refill (s : State) : State :=
  if s.hwd.refilled = s.tick + 1 ∨ !s.pageHas 0x0E 1 0 then s
  else
    let s1 := s.upTo 1024 (fun t c =>
      if t.rdN (Reg.HWD_RATE c) = 0x20040 ∧ t.tokens c = 2 then t else t.refillOne c)
    { s1 with hwd := { s1.hwd with lastRefill := s.tick, refilled := s.tick + 1 } }

/-! ### Staging (R444, R445, R447, R448) -/

/-- The recorder's scan has ended (R453). -/
def State.hwdReady (s : State) : Bool := s.flag Reg.HWD_STATUS 0

/-- The payload of an event in parts of 40 bytes (R445). -/
def payloadParts : Nat → List Byte → List (List Byte)
  | 0, bs => [bs]
  | n + 1, bs => if bs.length ≤ 40 then [bs] else bs.take 40 :: payloadParts n (bs.drop 40)

/-- The records that an event takes, from its first SEQ. -/
def State.recordsOf (s : State) (e : HwEvent) (seq : Nat) : List Record :=
  let bs := Config.payload e.code e.fields
  (payloadParts bs.length bs).zipIdx.map (fun p =>
    { seq := (seq + p.2) % 2 ^ 32, epoch := s.hwd.epoch, code := e.code, tick := e.tick, sub := e.sub,
      suppressed := if p.2 = 0 then s.suppressed (bucketOf e.code) else 0, cont := decide (p.2 ≠ 0),
      first := decide ((seq + p.2) % 2 ^ 32 = s.hwd.epochFirst), payload := p.1 })

/-- A record is lost (R448). -/
def State.recordLost (s : State) (byWrite : Bool) : State :=
  let s1 := s.bump Reg.HWD_COUNT_LOST
  ({ s1 with hwd := { s1.hwd with lost := s1.hwd.lost + 1, lostByWrite := byWrite } } : State).raiseBit Reg.HWD_EVENTS 0

/-- Put an event's records into the staging queue; with no room for all of them the event is dropped (R447, R448). -/
def State.stage (s : State) (e : HwEvent) : State :=
  let rs := s.recordsOf e s.hwd.nextSeq
  if 256 < s.hwd.staging.length + rs.length then (s.suppress (bucketOf e.code)).recordLost false
  else
    let s1 := s.clearSuppressed (bucketOf e.code)
    { s1 with hwd := { s1.hwd with
      staging := s1.hwd.staging ++ rs, nextSeq := (s1.hwd.nextSeq + rs.length) % 2 ^ 32 } }

/-- HWD's own record of a code. -/
def State.ownRecord (s : State) (code : Nat) (fields : List Nat) : State := s.stage ⟨code, s.tick, 0, fields⟩

/-- The single record 0x0E04 reports every loss, as soon as the queue has room (R448). -/
def State.reportLost (s : State) : State :=
  let e : HwEvent := ⟨0x0E04, s.tick, 0, [s.hwd.lost, s.hwd.lostByWrite.toNat]⟩
  if s.hwd.lost = 0 ∨ 256 < s.hwd.staging.length + (s.recordsOf e s.hwd.nextSeq).length then s
  else ({ s with hwd := { s.hwd with lost := 0 } } : State).stage e

/-- One gathered event: the rate limit, then staging (R447, R449). -/
def State.takeEvent (s : State) (e : HwEvent) : State :=
  let c := bucketOf e.code
  if s.exempt e.code then s.stage e
  else if s.tokens c = 0 then s.suppress c
  else (s.setFld (Reg.HWD_RATE_STATE c) 7 0 (s.tokens c - 1)).stage e

/-- The order of R447: stamp, block number. -/
def HwEvent.before (a b : HwEvent) : Bool :=
  decide (a.tick < b.tick) || (decide (a.tick = b.tick) &&
    (decide (a.sub < b.sub) || (decide (a.sub = b.sub) && decide (a.code / 256 ≤ b.code / 256))))

/-- Put an event in its place, after those that it does not precede. -/
def insertEvent (e : HwEvent) : List HwEvent → List HwEvent
  | [] => [e]
  | d :: ds => if d.before e then d :: insertEvent e ds else e :: d :: ds

/-- This tick gathers an event: the page holds a READ slot of queue 40 (R385, R447). -/
def State.gathersEvent (s : State) (e : HwEvent) : Bool := s.gathers e.tick && decide (0 < s.cellsRead 40)

/-- The events that this tick gathers, in the order of R447. -/
def State.dueEvents (s : State) : List HwEvent :=
  (s.hwd.sent.filter s.gathersEvent).foldl (fun l e => insertEvent e l) []

/-- A count that has been pending for SUMMARY ticks (R451). -/
def State.summary (s : State) (c : Nat) : State :=
  let since := tabGet 0 s.hwd.pendingSince c
  if since ≠ 0 ∧ s.suppressed c ≠ 0 ∧ since - 1 + s.fld Reg.HWD_CFG 23 0 ≤ s.tick then
    (s.clearSuppressed c).ownRecord 0x0E05 [codeOfBucket c, s.suppressed c]
  else s

/-- SUPPRESSION_SUMMARY (R451). -/
def execSuppressionSummary (c : Fin 1024) (s : State) : Host.Outcome State Fault Refusal := .next (s.summary c)

/-! ### The MRAM store (R444, R447, R448, R453) -/

/-- A slot of the store. -/
def State.slotAt (s : State) (seq : Nat) : Slot := tabGet .empty s.hwd.mram (seq % 12288)

/-- The front record of the staging queue is written to its slot. -/
def State.writeRecord (s : State) (r : Record) : State :=
  { s with hwd := { s.hwd with
    mram := tabSet .empty s.hwd.mram (r.seq % 12288) (.holds r), head := some r.seq, staging := s.hwd.staging.tail,
    retried := false } }

/-- RECORD_WRITTEN (R447, R448): a slot write of the front record has been read back: as written, or different, which is
retried once. -/
def execRecordWritten (ok : Bool) (s : State) : Host.Outcome State Fault Refusal :=
  match s.hwdReady, s.hwd.staging with
  | true, r :: rest =>
    if ok then .next (s.writeRecord r).reportLost
    else if !s.hwd.retried then .next { s with hwd := { s.hwd with retried := true } }
    else
      let slot := r.seq % 12288
      let s1 : State := { s with hwd := { s.hwd with
        mram := tabSet .empty s.hwd.mram slot .torn, staging := rest, retried := false } }
      .next ((s1.recordLost true).fault 0x380 0x09 slot).reportLost
  | _, _ => .next s

/-- The valid records of a store, for an epoch (R446). -/
def validRecords (mram : Tab Slot) (epoch : Nat) : List Record :=
  mram.filterMap (fun e => match e.2 with
    | .holds r => if r.epoch = epoch then some r else none
    | _ => none)

/-- A slot holds a record of another epoch. -/
def stale (epoch : Nat) : Slot → Bool
  | .holds r => decide (r.epoch ≠ epoch)
  | _ => false

/-- The greatest, and the least, of some sequence numbers (R16, R446). -/
def greatestSeq (l : List Nat) : Option Nat :=
  l.foldl (fun m q => match m with
    | some x => if serialBefore x q then some q else some x
    | none => some q) none
def leastSeq (l : List Nat) : Option Nat :=
  l.foldl (fun m q => match m with
    | some x => if serialBefore q x then some q else some x
    | none => some q) none

/-- Give the records of the staging queue their numbers from `seq` on. -/
def renumber (first : Nat) : Nat → List Record → List Record
  | _, [] => []
  | seq, r :: rs => { r with seq := seq % 2 ^ 32, first := decide (seq % 2 ^ 32 = first) } :: renumber first (seq + 1) rs

/-- RECORDER_SCAN_DONE (R453, R458): the next SEQ follows the greatest valid one; 0x0E01 goes first, and the events raised
meanwhile follow it. An erase that a loss of power cut short starts again. -/
def execRecorderScanDone (s : State) : Host.Outcome State Fault Refusal :=
  if s.hwdReady ∨ !s.clk.up then .next s
  else
    let seqs := (validRecords s.hwd.mram s.hwd.epoch).map (·.seq)
    let head := greatestSeq seqs
    let next := match head with
      | some h => (h + 1) % 2 ^ 32
      | none => 0
    let first := (leastSeq seqs).getD next
    let torn := (s.hwd.mram.filter (fun e => decide (e.2 = .torn))).length
    let e : HwEvent := ⟨0x0E01, s.tick, 0, [s.rdN Reg.CLK_RST_CAUSE, torn, head.getD 0]⟩
    let s1 : State := { s with hwd := { s.hwd with epochFirst := first } }
    let staged := renumber first next (s1.recordsOf e next ++ s.hwd.staging)
    let s2 : State := { s1 with hwd := { s1.hwd with
      head := head, staging := staged, nextSeq := (next + staged.length) % 2 ^ 32 } }
    let s3 := (s2.setFld Reg.HWD_COUNT_TORN 13 0 torn).setFlag Reg.HWD_STATUS 0 true
    .next (s3.setFlag Reg.HWD_STATUS 1 (s.hwd.mram.any (fun x => stale s.hwd.epoch x.2)))

/-- A reset that writes its event first (R431, R480): everything handed to the recorder is staged, and the queue is written
out. Before the scan has ended nothing can be written. -/
def State.hwdFlush (s : State) : State :=
  if s.hwdReady then
    let due := s.hwd.sent.foldl (fun l e => insertEvent e l) []
    let s1 := due.foldl State.takeEvent ({ s with hwd := { s.hwd with sent := [] } } : State)
    s1.hwd.staging.foldl State.writeRecord s1
  else s

/-! ### Reading (R455) -/

/-- READ_SEQ (R455): a write of HWD_READ_SEQ starts the load. -/
def State.readSeq (s : State) (v : Nat) : State := (s.wrN Reg.HWD_READ_SEQ v).setFlag Reg.HWD_READ_STATUS 31 true

def execReadSeq (v : Word) (s : State) : Host.Outcome State Fault Refusal := .next (s.readSeq v.toNat)

/-- The status of R455 for a SEQ, and the record if it is VALID. -/
def State.readStatus (s : State) (q : Nat) : Nat × Option Record :=
  if s.hwd.head.all (fun h => serialBefore h q) then (2, none)
  else
    match s.slotAt q with
    | .holds r =>
      if r.epoch ≠ s.hwd.epoch then (3, none)
      else if r.seq ≠ q then (1, none)
      else (0, some r)
    | _ => (2, none)

/-- READ_LOADED (R455): the load ends. -/
def execReadLoaded (s : State) : Host.Outcome State Fault Refusal :=
  if s.flag Reg.HWD_READ_STATUS 31 then
    let (code, r) := s.readStatus (s.rdN Reg.HWD_READ_SEQ)
    let bs := match r with
      | some x => x.bytes
      | none => []
    .next ((s.wrN Reg.HWD_READ_STATUS code).upTo 16 (fun t j => t.wrN (Reg.HWD_READ_DATA j) (leAt bs (4 * j) 4)))
  else .next s

/-! ### Export (R456) -/

/-- Ring 15 takes a record if it runs and has room. -/
def State.exportRoom (s : State) : Bool :=
  decide (s.ringState 15 = 1) && decide (sub32 (s.producer 15) (s.consumer 15) < s.ringSize 15)

/-- One step of the export: a record that is held is written to the ring; one that has been overwritten is skipped and
counted; a slot whose write failed is passed over. -/
def State.exportOne (s : State) : State :=
  let q := s.rdN Reg.HWD_EXPORT_SEQ
  if !s.exportRoom ∨ s.hwd.head.all (fun h => serialBefore h q) then s
  else
    match s.readStatus q with
    | (0, some r) =>
      ((s.emit (.ringEntry 15 (s.producer 15) (s.slotAddr 15 (s.producer 15)) r.bytes)).advance 15 1).wrN Reg.HWD_EXPORT_SEQ (q + 1)
    | (1, _) =>
      ((s.bump Reg.HWD_COUNT_EXPORT_LOST).raiseBit Reg.HWD_EVENTS 3).wrN Reg.HWD_EXPORT_SEQ (q + 1)
    | _ => s.wrN Reg.HWD_EXPORT_SEQ (q + 1)

/-- EXPORT_RECORD (R456): in the emit phase ring 15 takes what has been written. Records that have been overwritten are
skipped at once and counted. -/
def State.exportRecords (s : State) : State :=
  if !s.exportRoom then s
  else
    let q := s.rdN Reg.HWD_EXPORT_SEQ
    let skip := match s.hwd.head with
      | some _ => if serialBefore q s.oldestSeq then sub32 s.oldestSeq q else 0
      | none => 0
    let s1 := if skip = 0 then s
      else ((s.wrN Reg.HWD_COUNT_EXPORT_LOST (s.rdN Reg.HWD_COUNT_EXPORT_LOST + skip)).raiseBit Reg.HWD_EVENTS 3).wrN
        Reg.HWD_EXPORT_SEQ (q + skip)
    let n := match s1.hwd.head with
      | some h => min 12288 (sub32 (h + 1) (s1.rdN Reg.HWD_EXPORT_SEQ))
      | none => 0
    s1.upTo n (fun t _ => t.exportOne)

/-! ### Clearing (R457, R458) -/

/-- A clearing request ends with a result; 2 to 6 and 8 are refusals. -/
def State.clrResult (s : State) (r : Nat) (refused : Bool) : State :=
  let s1 := s.wrN Reg.HWD_CLR_RESULT r
  if refused then s1.raiseBit Reg.HWD_EVENTS 2 else s1

/-- A challenge is outstanding: its deadline has not passed. -/
def State.challengeLive (s : State) : Bool := s.hwd.challenge.any (fun c => decide (s.tick ≤ c.deadline))

/-- The challenge is consumed. -/
def State.dropChallenge (s : State) : State :=
  ({ s with hwd := { s.hwd with challenge := none } } : State).setFlag Reg.HWD_STATUS 2 false

/-- A lockout runs (R457). -/
def State.lockout (s : State) : Bool := s.flag Reg.HWD_STATUS 3 && decide (s.tick < s.hwd.lockoutEnd)

/-- CLR_REQUEST (R457): the challenge's 32 bytes are free values, from the random source. -/
def State.clrRequest (s : State) : State :=
  if s.challengeLive then s.clrResult 2 true
  else if s.lockout then s.clrResult 4 true
  else if s.lcs.key = none then s.clrResult 5 true
  else if s.hwd.epoch = 0xFFFF then s.clrResult 8 true
  else
    let bytes := (List.range 32).map (fun i => BitVec.ofNat 8 (s.freeNat i))
    let c : Challenge := ⟨s.tick + s.fld Reg.HWD_CLR_TMO 23 0, s.hwd.head.getD 0, s.hwd.epoch, bytes⟩
    let s1 := (s.drawn 32).upTo 8 (fun t j => t.wrN (Reg.HWD_CLR_CHAL j) (leAt bytes (4 * j) 4))
    ({ s1 with hwd := { s1.hwd with challenge := some c } } : State).setFlag Reg.HWD_STATUS 2 true

def execClrRequest (s : State) : Host.Outcome State Fault Refusal := .next s.clrRequest

/-- The 32 bytes of the response registers. -/
def State.clrResponse (s : State) : List Byte := (List.range 8).flatMap (fun j => leBytes 4 (s.rdN (Reg.HWD_CLR_RESP j)))

/-- A successful clearing (R458): the first record of the new epoch is 0x0E02, and the erase begins. Unexported records of
the old epoch are dropped (R456). -/
def State.clear (s : State) (w : Writer) : State :=
  let old := s.hwd.epoch
  let fields := [old, s.hwd.epochFirst, sub32 s.hwd.nextSeq 1, if w = .host then 0 else 1]
  let first := s.hwd.nextSeq
  let s1 : State := { s with hwd := { s.hwd with epoch := old + 1, epochFirst := first } }
  let e : HwEvent := ⟨0x0E02, s.tick, 0, fields⟩
  let rs := s1.recordsOf e first
  let s2 := s1.clearSuppressed (bucketOf 0x0E02)
  let s3 : State := { s2 with hwd := { s2.hwd with
    staging := s2.hwd.staging ++ rs, nextSeq := (first + rs.length) % 2 ^ 32 } }
  (((s3.setFlag Reg.HWD_STATUS 1 true).wrN Reg.HWD_EXPORT_SEQ first).raiseBit Reg.HWD_EVENTS 1).clrResult 1 false

/-- A submission is decided (R457). -/
def State.clrSubmit (s : State) (w : Writer) : State :=
  match s.challengeLive, s.hwd.challenge, s.lcs.key with
  | true, some c, some key =>
    let s1 := s.dropChallenge
    if hmac256 key (c.bytes ++ leBytes 2 c.epoch ++ leBytes 4 c.headSeq) = s.clrResponse then s1.clear w
    else
      let s2 := (s1.bump Reg.HWD_CLR_FAILS 15 0).setFlag Reg.HWD_STATUS 3 true
      let s3 : State := { s2 with hwd := { s2.hwd with lockoutEnd := s.tick + 40000 } }
      (s3.ownRecord 0x0E03 [3, if w = .host then 0 else 1, s3.rdN Reg.HWD_CLR_FAILS]).clrResult 3 true
  | _, _, _ => s.dropChallenge.clrResult 6 true

/-- A submission is decided before HWD's other decisions of the tick; one that comes after them is gathered in the next
tick (R452). -/
def State.submit (s : State) (w : Writer) : State :=
  if s.hwd.decidedAt = s.tick + 1 then { s with hwd := { s.hwd with submits := s.hwd.submits ++ [w] } }
  else s.clrSubmit w

/-- CLR_SUBMIT (R452, R457). -/
def execClrSubmit (w : Writer) (s : State) : Host.Outcome State Fault Refusal := .next (s.submit w)

/-- CLR_CANCEL (R457). -/
def State.clrCancel (s : State) : State := if s.challengeLive then s.dropChallenge.clrResult 7 false else s

def execClrCancel (s : State) : Host.Outcome State Fault Refusal := .next s.clrCancel

/-- CHALLENGE_LAPSE (R457): the deadline tick has passed. -/
def execChallengeLapse (s : State) : Host.Outcome State Fault Refusal :=
  if s.hwd.challenge.any (fun c => decide (c.deadline < s.tick)) then .next (s.dropChallenge.clrResult 6 false) else .next s

/-- LOCKOUT_END (R457). -/
def execLockoutEnd (s : State) : Host.Outcome State Fault Refusal :=
  if s.flag Reg.HWD_STATUS 3 ∧ s.hwd.lockoutEnd ≤ s.tick then .next (s.setFlag Reg.HWD_STATUS 3 false) else .next s

/-- ERASE_DONE (R458): every slot that holds no record of the new epoch is empty. -/
def execEraseDone (s : State) : Host.Outcome State Fault Refusal :=
  if s.flag Reg.HWD_STATUS 1 then
    let kept := s.hwd.mram.filter (fun x => match x.2 with
      | .holds r => decide (r.epoch = s.hwd.epoch)
      | _ => false)
    .next (({ s with hwd := { s.hwd with mram := kept } } : State).setFlag Reg.HWD_STATUS 1 false)
  else .next s

/-! ### The decisions of a tick (R452) and snapshots (R454) -/

/-- Steps 1 to 3 of R452: the submissions that wait, REFILL, and the events that this tick gathers. -/
def State.hwdDecide (s : State) : State :=
  let s0 : State := { s with hwd := { s.hwd with submits := [], decidedAt := s.tick + 1 } }
  let s1 := (s.hwd.submits.foldl State.clrSubmit s0).refill
  let due := s1.dueEvents
  let s2 : State := { s1 with hwd := { s1.hwd with sent := s1.hwd.sent.filter (fun e => !s1.gathersEvent e) } }
  (due.foldl State.takeEvent s2).reportLost

/-- HWD_EVENT (R447). -/
def execHwdEvent (s : State) : Host.Outcome State Fault Refusal := .next s.hwdDecide

/-- The counts that are due for a summary (R451). -/
def State.summaries (s : State) : State := (s.hwd.pendingSince.map (·.1)).foldl State.summary s

/-- SNAP_TAKE (R452, R454). -/
def State.snapTake (s0 : State) : State :=
  let s := s0.hwdDecide
  (s.wrN Reg.HWD_SNAP_LAST (s.hwd.head.getD 0)).wrN Reg.HWD_SNAP_FIRST s.oldestSeq

def execSnapTake (s : State) : Host.Outcome State Fault Refusal := .next s.snapTake

/-! ### The wipe of a life-cycle change (R459) -/

/-- The store is emptied, SEQ and EPOCH return to 0, and one record is staged with SEQ 0 and FIRST. -/
def State.wipeStore (s : State) (code : Nat) (fields : List Nat) : State :=
  ({ s with hwd := { s.hwd with
    mram := [], epoch := 0, nextSeq := 0, epochFirst := 0, head := none, staging := [], retried := false, sent := [],
    lost := 0 } } : State).ownRecord code fields

end Sys2Proof.Machine
end

