-- ==== Sys2Proof/Machine/Power.lean ====
section
/-!
DEFINITION. PWR, SEQ and THM: the switched scan domains, the rail sequencers with their sequences, qualification, loss of
the input, margining and snapshots; thermal conversions with their hardware comparison, and the thaw of a head (R463 to
R489).
-/

namespace Sys2Proof.Machine

/-! ### Scan domains (R464) -/

/-- The stations of a scan domain: bit 3 of PWR_DOM_REQ holds 0 to 3, bit 4 holds 4 to 7. -/
def domainStations (b : Nat) : List Nat := (List.range 4).map (fun i => 4 * (b - 3) + i)

/-- A scan domain goes off: its stations' links are DOWN, LDENn is low, and their gates see no edges. -/
def State.domainOff (s : State) (b : Nat) : State :=
  let s1 := ((s.setFlag Reg.PWR_DOM_REQ b false).setFlag Reg.PWR_DOM_STATE b false).event 0x0F09 [b, 0]
  let s2 : State := { s1 with pwr := { s1.pwr with powering := putBit s1.pwr.powering b false } }
  (domainStations b).foldl (fun t i => (t.downBeam i).setGate i 0) s2

/-- One bit of a PWR_DOM_REQ write. -/
def State.domainBit (s : State) (b : Nat) (on : Bool) : State :=
  if on = s.flag Reg.PWR_DOM_REQ b then s
  else if on then
    let s1 := s.setFlag Reg.PWR_DOM_REQ b true
    { s1 with pwr := { s1.pwr with powering := putBit s1.pwr.powering b true } }
  else if s.holding ∧ (domainStations b).all (fun i => !s.armed i) then s.domainOff b
  else s.raiseBit Reg.PWR_EVENTS 6

/-- DOMAIN_SWITCH (R464): a write of PWR_DOM_REQ; bits other than 3 and 4 are ignored. -/
def State.domainSwitch (s : State) (v : Nat) : State := (s.domainBit 3 (bitOf v 3)).domainBit 4 (bitOf v 4)

def effDomainSwitch (v : Word) (s : State) : Host.Outcome State Fault Refusal := .next (s.domainSwitch v.toNat)

/-- DOMAIN_UP (R464): line store comes back wiped, and a station with EN set trains its link. -/
def execDomainUp (half : Fin 2) (s : State) : Host.Outcome State Fault Refusal :=
  let b := 3 + half.val
  if bitOf s.pwr.powering b then
    let s1 := (s.setFlag Reg.PWR_DOM_STATE b true).event 0x0F09 [b, 1]
    let s2 : State := { s1 with pwr := { s1.pwr with powering := putBit s1.pwr.powering b false } }
    .next ((domainStations b).foldl (fun t i =>
      let t1 := t.modStn i (fun x => { x with slots := [] })
      if t1.beamEnabled i ∧ t1.beamLink i = 0 then t1.trainBeam i else t1) s2)
  else .next s

/-! ### Rails (R468 to R471) -/

/-- The sequence state: 0 OFF, 1 UP, 2 ON, 3 DOWN, 4 OFF_WAIT. -/
def State.seqState (s : State) : Nat := s.fld Reg.PWR_SEQ_STATE 2 0
def State.seqPresent (s : State) (k : Nat) : Bool := s.flag Reg.PWR_SEQ_STATE (8 + k)
def State.vinGood (s : State) : Bool := s.flag Reg.PWR_SEQ_STATE 16

/-- The state of a rail: 0 OFF, 1 WAIT, 2 QUAL, 3 GOOD, 4 FAIL, 5 LOST. -/
def State.railState (s : State) (r : Nat) : Nat := s.fld (Reg.PWR_RAIL_STATE r) 2 0
def State.setRail (s : State) (r st : Nat) : State := s.setFld (Reg.PWR_RAIL_STATE r) 2 0 st

/-- The rail takes part in sequences. -/
def State.taking (s : State) (r : Nat) : Bool := s.flag (Reg.PWR_RAIL_CTL r) 0

def Rail.init : Rail := { start := 0, deadline := 0, off := false, low := 0, marginAt := 0 }
def State.rail (s : State) (r : Nat) : Rail := tabGet Rail.init s.pwr.rails r
def State.modRail (s : State) (r : Nat) (f : Rail → Rail) : State :=
  { s with pwr := { s.pwr with rails := tabMod Rail.init s.pwr.rails r f } }

/-- An event takes a snapshot: the first one that no running snapshot covers starts the next (R475). The code of an event
that has none of its own is a free value. -/
def State.snap (s : State) (code : Option Nat) (rail : Nat) : State :=
  match s.pwr.snapNow, s.pwr.snapNext with
  | some _, some _ => s
  | now, _ =>
    let c := code.getD (s.freeNat % 65536)
    let s1 := if code.isSome then s else s.drawn
    match now with
    | none => { s1 with pwr := { s1.pwr with snapNow := some (c, rail, s.tick) } }
    | some _ => { s1 with pwr := { s1.pwr with snapNext := some (c, rail, s.tick) } }

/-- Local rails of sequencer `k` whose enable bit is 1: QUAL, GOOD and LOST, until they are disabled. -/
def State.enableMask (s : State) (k : Nat) : Nat :=
  (List.range 8).foldl (fun n j =>
    let st := s.railState (8 * k + j)
    n + ((decide (st = 2) || decide (st = 3) || decide (st = 5)) && !(s.rail (8 * k + j)).off).toNat * 2 ^ j) 0

/-- RAIL_EN of a sequencer is written. -/
def State.writeRailEn (s : State) (k : Nat) : State := s.emit (.seqBus k 0x01 (s.enableMask k))

/-- The margin of a rail returns to 0 without stepping (R474). -/
def State.dropMargin (s : State) (r : Nat) : State :=
  if s.fld (Reg.PWR_RAIL_STATE r) 12 8 = 0 then s
  else (s.setFld (Reg.PWR_RAIL_STATE r) 12 8 0).emit (.seqBus (r / 8) (0x10 + r % 8) 0)

/-- A rail enters FAIL (R467, R470, R471). -/
def State.failRail (s : State) (r : Nat) : State :=
  let s1 := s.event 0x0F03 [r, s.railState r, (s.rail r).start]
  ((((s1.setRail r 4).dropMargin r).modRail r (fun x => { x with off := false, low := 0 })).raiseBit Reg.PWR_EVENTS 1).snap
    (some 0x0F03) r

/-- A rail enters OFF. -/
def State.offRail (s : State) (r : Nat) : State :=
  ((s.setRail r 0).modRail r (fun _ => Rail.init)).snap none r

/-- Rails in a state, among those that take part. -/
def State.railsIn (s : State) (st : Nat) : Nat := countUpTo (fun r => s.taking r && decide (s.railState r = st)) 64

/-- A sequence ends (R469, R471). -/
def State.seqEnd (s : State) (st : Nat) : State :=
  (((s.setFld Reg.PWR_SEQ_STATE 2 0 st).raiseBit Reg.PWR_EVENTS 0).event 0x0F02
    [s.railsIn 3, s.railsIn 4, s.railsIn 0, s.tick - s.pwr.seqAt]).snap (some 0x0F02) 0

/-- UP ends once no rail that takes part waits or qualifies; DOWN once each is OFF or FAIL. -/
def State.seqCheck (s : State) : State :=
  if s.seqState = 1 ∧ s.railsIn 1 = 0 ∧ s.railsIn 2 = 0 then s.seqEnd 2
  else if s.seqState = 3 ∧ s.railsIn 1 = 0 ∧ s.railsIn 2 = 0 ∧ s.railsIn 3 = 0 ∧ s.railsIn 5 = 0 then
    let s1 := s.seqEnd 4
    { s1 with pwr := { s1.pwr with endAt := s.tick } }
  else s

/-- A sequence starts (R467 to R469): absent sequencers are to be probed again. -/
def State.seqStart (s : State) (st code : Nat) : State :=
  let s1 := (s.setFld Reg.PWR_SEQ_STATE 2 0 st).setFlag Reg.PWR_SEQ_STATE 3 false
  let s2 := (s1.event 0x0F01 [code, s1.fld Reg.PWR_SEQ_STATE 7 4]).snap (some 0x0F01) 0
  { s2 with pwr := { s2.pwr with seqAt := s.tick, probe := true } }

/-- UP begins: every taking rail enters WAIT. LOST and FAIL have held until now (R470). -/
def State.seqGoUp (s : State) : State :=
  let s1 := s.upTo 64 (fun t r => if t.taking r then (t.setRail r 1).modRail r (fun _ => Rail.init) else t)
  (s1.seqStart 1 0).seqCheck

/-- DOWN begins, with its CAUSE: a rail in WAIT returns to OFF without a write, and every margin to 0. -/
def State.seqGoDown (s : State) (cause : Nat) : State :=
  let s1 := s.upTo 64 (fun t r =>
    let t1 := if t.rd (Reg.PWR_RAIL_STATE r) = 0 then t else t.dropMargin r
    if t1.taking r ∧ t1.railState r = 1 then t1.offRail r else t1)
  ((s1.setFld Reg.PWR_SEQ_STATE 7 4 cause).seqStart 3 1).seqCheck

/-- In OFF, UP begins where the input is good and an UP is held, or the last DOWN had CAUSE 3 and AUTO_UP is set (R472). -/
def State.maybeUp (s : State) : State :=
  if s.seqState = 0 ∧ s.vinGood ∧ (s.flag Reg.PWR_SEQ_STATE 3 ∨ (s.fld Reg.PWR_SEQ_STATE 7 4 = 3 ∧ s.flag Reg.PWR_SEQ_CFG 0))
  then s.seqGoUp else s

/-- PWR_RESULT (R485). -/
def State.pwrResult (s : State) (r : Nat) : State := s.setFld Reg.PWR_RESULT 3 0 r

/-- SEQ_UP (R468). -/
def State.seqUp (s : State) : State :=
  let st := s.seqState
  if st = 1 ∨ st = 2 then s.pwrResult 2
  else if st = 0 ∧ s.vinGood then s.seqGoUp.pwrResult 1
  else (s.setFlag Reg.PWR_SEQ_STATE 3 true).pwrResult 1

def effSeqUp (s : State) : Host.Outcome State Fault Refusal := .next s.seqUp

/-- SEQ_DOWN (R468). -/
def State.seqDown (s : State) (w : Writer) : State :=
  let st := s.seqState
  if st = 1 ∨ st = 2 then (s.seqGoDown (if w = .host then 1 else 2)).pwrResult 1
  else if st = 0 then s.pwrResult 2
  else (s.setFlag Reg.PWR_SEQ_STATE 3 false).pwrResult 2

def effSeqDown (w : Writer) (s : State) : Host.Outcome State Fault Refusal := .next (s.seqDown w)

/-- ON_DELAY and OFF_DELAY of a rail, in ticks. -/
def State.onDelay (s : State) (r : Nat) : Nat := 4 * s.fld (Reg.PWR_RAIL_CFG r) 15 0
def State.offDelay (s : State) (r : Nat) : Nat := 4 * s.fld (Reg.PWR_RAIL_CFG r) 31 16

def State.pgWindow (s : State) : Nat := s.fld Reg.PWR_PG_CFG 15 0
def State.pgTmo (s : State) : Nat := s.fld Reg.PWR_PG_CFG 31 16

/-- A rail is enabled at its on-slot; on an absent sequencer it fails. -/
def State.enableRail (s : State) (r : Nat) : State :=
  if s.seqPresent (r / 8) then
    (s.setRail r 2).modRail r (fun _ => ⟨s.tick, s.tick + s.pgTmo, false, 0, 0⟩)
  else s.failRail r

/-- The rails of one sequencer whose slot has come are enabled, or disabled, in one write (R469). -/
def State.railSlot (s : State) (k : Nat) : State :=
  let rs := (List.range 8).map (8 * k + ·)
  if s.seqState = 1 then
    let due := rs.filter (fun r => s.taking r && decide (s.railState r = 1) && decide (s.pwr.seqAt + s.onDelay r ≤ s.tick))
    if due = [] then s
    else
      let s1 := due.foldl State.enableRail s
      (if s.seqPresent k then s1.writeRailEn k else s1).seqCheck
  else if s.seqState = 3 then
    let due := rs.filter (fun r => s.taking r && !(s.rail r).off && decide (s.pwr.seqAt + s.offDelay r ≤ s.tick) &&
      (decide (s.railState r = 2) || decide (s.railState r = 3) || decide (s.railState r = 5)))
    if due = [] then s
    else
      let s1 := due.foldl (fun t r => t.modRail r (fun x =>
        { x with off := true, start := s.tick, deadline := s.tick + s.pgTmo })) s
      s1.writeRailEn k
  else s

/-- RAIL_SLOT (R469). -/
def effRailSlot (k : Fin 8) (s : State) : Host.Outcome State Fault Refusal := .next (s.railSlot k)

/-- The page holds SEQ_READ: the tick can evaluate the deadlines of the reads (R483). -/
def State.seqReads (s : State) : Bool := s.pageHas 0x0F 1 0

/-- The deadline of an enable or of a disable of a rail has come (R470, R471), in a tick that can evaluate it (R483). -/
def State.pgTimeout (s : State) (r : Nat) : State :=
  let x := s.rail r
  let st := s.railState r
  let src := 0x3C0 + r / 8
  if x.deadline ≤ s.tick ∧ s.seqReads ∧ st = 2 ∧ !x.off then
    (((s.failRail r).fault src 0x1E (r % 8 + 0x100)).writeRailEn (r / 8)).seqCheck
  else if x.deadline ≤ s.tick ∧ s.seqReads ∧ x.off ∧ (st = 2 ∨ st = 3 ∨ st = 5) then
    ((s.failRail r).fault src 0x1E (r % 8 + 0x300)).seqCheck
  else s

/-- PG_TIMEOUT (R470, R471). -/
def effPgTimeout (r : Fin 64) (s : State) : Host.Outcome State Fault Refusal := .next (s.pgTimeout r)

/-! ### Reads (R470 to R472) -/

/-- What one gathered STATUS read does to a rail. -/
def State.readRail (s : State) (r : Nat) (high changed : Bool) (stamp : Nat) : State :=
  let x := s.rail r
  let st := s.railState r
  if x.off then (if !high ∧ x.start ≤ stamp then s.offRail r else s)
  else if st = 2 then
    if !high ∨ changed then s.modRail r (fun y => { y with start := max y.start stamp })
    else if x.start + s.pgWindow ≤ stamp ∧ s.tick ≤ x.deadline then
      ((s.setRail r 3).modRail r (fun y => { y with low := 0 })).snap none r
    else s
  else if st = 3 then
    let s1 := if !high ∨ changed then
        let n := min 65535 (s.fld (Reg.PWR_RAIL_STATE r) 31 16 + 1)
        (((s.setFld (Reg.PWR_RAIL_STATE r) 31 16 n).raiseBit Reg.PWR_EVENTS 2).event 0x0F04 [r, n]).snap (some 0x0F04) r
      else s
    let low := if high then 0 else x.low + 1
    let s2 := s1.modRail r (fun y => { y with low := low })
    if low ≠ 0 ∧ s.fld Reg.PWR_POLL_CFG 23 20 ≤ low then
      ((((s2.setRail r 5).dropMargin r).fault (0x3C0 + r / 8) 0x1E (r % 8 + 0x200)).raiseBit Reg.PWR_EVENTS 3 |>.event
        0x0F05 [r]).snap (some 0x0F05) r
    else s2
  else s

/-- What one gathered VIN read does (R472). -/
def State.readVin (s : State) (good : Bool) : State :=
  if good = s.vinGood then { s with pwr := { s.pwr with vinRun := 0 } }
  else if s.pwr.vinRun + 1 < s.fld Reg.PWR_POLL_CFG 19 16 then
    { s with pwr := { s.pwr with vinRun := s.pwr.vinRun + 1 } }
  else
    let s1 : State := { s with pwr := { s.pwr with vinRun := 0 } }
    let s2 := ((s1.setFlag Reg.PWR_SEQ_STATE 16 good).fault 0x3C8 0x1E 0).raiseBit Reg.PWR_EVENTS 4
    if good then ((s2.event 0x0F08 [s.seqState, s.pwr.endAt]).snap (some 0x0F08) 0).maybeUp
    else
      let s3 := (s2.event 0x0F07 [s.seqState]).snap (some 0x0F07) 0
      if s.seqState = 1 ∨ s.seqState = 2 then s3.seqGoDown 3 else s3

/-- A completed read is gathered (R470, R472). -/
def State.takeRead (s : State) (x : SeqRead) : State :=
  if !s.seqPresent x.seq then s
  else if x.vin then (if x.seq = 0 then s.readVin (bitOf x.level 0) else s)
  else
    ((List.range 8).foldl
      (fun t j => t.readRail (8 * x.seq.val + j) (bitOf x.level j) (bitOf x.changed j) x.stamp) s).seqCheck

/-- A read that completed before this tick, in a tick whose page holds SEQ_READ and whose gather is not over (R25, R483). -/
def State.gathersRead (s : State) (x : SeqRead) : Bool := s.gathers x.stamp && s.seqReads && !s.decideOpen

/-- SEQ_READ_DONE (R470, R483): a completed read is gathered, or waits for SEQ_READ. -/
def execSeqReadDone (x : SeqRead) (s : State) : Host.Outcome State Fault Refusal :=
  if s.gathersRead x then .next (s.takeRead x)
  else .next { s with pwr := { s.pwr with reads := s.pwr.reads ++ [x] } }

/-- SEQ_READ (R483): the reads that wait are gathered. -/
def State.gatherReads (s : State) : State :=
  (s.pwr.reads.filter s.gathersRead).foldl State.takeRead
    { s with pwr := { s.pwr with reads := s.pwr.reads.filter (fun x => !s.gathersRead x) } }

/-- SEQ_TRANSACTION_FAILED (R467): the third failure of a transaction. -/
def execSeqTransactionFailed (k : Fin 8) (cmd : Fin 256) (s : State) : Host.Outcome State Fault Refusal :=
  if s.seqPresent k then
    let s1 := ((s.setFlag Reg.PWR_SEQ_STATE (8 + k) false).fault (0x580 + k) 0x1E 0).raiseBit Reg.PWR_EVENTS 8
    let s2 := s1.event 0x1601 [0x38 + k.val, cmd.val]
    .next ((List.range 8).foldl (fun t j =>
      if t.railState (8 * k.val + j) = 0 ∨ t.railState (8 * k.val + j) = 4 then t else t.failRail (8 * k.val + j)) s2).seqCheck
  else .next s

/-- What the probe of a poll round finds: RAIL_EN and the power-good levels of a sequencer (R473). -/
def State.adoptRails (s : State) (found : List (Nat × Nat)) : State :=
  let s1 := s.upTo 64 (fun t r =>
    if t.taking r then
      let f := found.getD (r / 8) (0, 0)
      if t.seqPresent (r / 8) && bitOf f.1 (r % 8) && bitOf f.2 (r % 8) then (t.setRail r 3).snap none r else t.setRail r 0
    else t)
  s1.setFld Reg.PWR_SEQ_STATE 2 0 (if s1.railsIn 3 = 0 then 0 else 2)

/-- POLL_ROUND (R465, R467, R470, R473): every POLL_SEQ ticks in UP and DOWN, every POLL_RUN otherwise, STATUS is read from
every present sequencer, then VIN from sequencer 0. Before it, absent sequencers that are to be probed answer with their ID
or do not, and after a reset the rails are adopted from RAIL_EN and STATUS. -/
def execPollRound (ids : Fin 256) (found : List (Nat × Nat)) (s : State) : Host.Outcome State Fault Refusal :=
  let period := if s.seqState = 1 ∨ s.seqState = 3 then s.fld Reg.PWR_POLL_CFG 7 0 else s.fld Reg.PWR_POLL_CFG 15 8
  if !s.clk.up ∨ (s.pwr.polledAt ≠ 0 ∧ s.tick < s.pwr.polledAt - 1 + period) then .next s
  else
    let s1 := if s.pwr.probe then
        s.setFld Reg.PWR_SEQ_STATE 15 8 (s.fld Reg.PWR_SEQ_STATE 15 8 ||| ids.val) else s
    let s2 := if s.pwr.adopt then s1.adoptRails found else s1
    let s3 : State := { s2 with pwr := { s2.pwr with probe := false, adopt := false, polledAt := s.tick + 1 } }
    let s4 := s3.upTo 8 (fun t k => if t.seqPresent k then t.emit (.seqBus k 0x02 0) else t)
    .next (if s4.seqPresent 0 then s4.emit (.seqBus 0 0x03 0) else s4)

/-- The rails have been off for PWR_MIN_OFF (R472). -/
def State.offWaitEnd (s : State) : State :=
  if s.seqState = 4 ∧ s.pwr.endAt + s.fld Reg.PWR_MIN_OFF 23 0 ≤ s.tick then (s.setFld Reg.PWR_SEQ_STATE 2 0 0).maybeUp
  else s

/-- OFF_WAIT_END (R472). -/
def effOffWaitEnd (s : State) : Host.Outcome State Fault Refusal := .next s.offWaitEnd

/-! ### Margining and snapshots (R474, R475) -/

/-- One margining step of 0.5 % towards the target (R474). -/
def State.marginStep (s : State) (r : Nat) : State :=
  let now := signedOf 5 (s.fld (Reg.PWR_RAIL_STATE r) 12 8)
  let target := signedOf 5 (s.fld (Reg.PWR_RAIL_CTL r) 12 8)
  let last := (s.rail r).marginAt
  if s.seqState = 2 ∧ s.railState r = 3 ∧ now ≠ target ∧
      (last = 0 ∨ last - 1 + s.fld Reg.PWR_MARGIN_CFG 15 0 ≤ s.tick) then
    let m := if now < target then now + 1 else now - 1
    let s1 := ((s.setFld (Reg.PWR_RAIL_STATE r) 12 8 (codeOf 5 m)).modRail r (fun x => { x with marginAt := s.tick + 1 })).emit
      (.seqBus (r / 8) (0x10 + r % 8) (codeOf 8 m))
    ((s1.raiseBit Reg.PWR_EVENTS 5).event 0x0F06 [r, codeOf 5 m, codeOf 5 target]).snap (some 0x0F06) r
  else s

/-- MARGIN_STEP (R474). -/
def effMarginStep (r : Fin 64) (s : State) : Host.Outcome State Fault Refusal := .next (s.marginStep r)

/-- SNAPSHOT_DONE (R475): READINGS of every present sequencer have been read: per rail, millivolts in [15:0] and
milliamperes in [31:16]; an absent sequencer gives zeros. The record's TICK is that of the first event it covers. -/
def execSnapshotDone (readings : List Word) (s : State) : Host.Outcome State Fault Refusal :=
  match s.pwr.snapNow with
  | none => .next s
  | some (code, rail, tick) =>
    let value (r : Nat) : Nat := if s.seqPresent (r / 8) then (readings.getD r 0).toNat else 0
    let s1 := s.upTo 64 (fun t r => if s.seqPresent (r / 8) then t.wrN (Reg.PWR_RAIL_READ r) (value r) else t)
    let e : HwEvent := ⟨0x0F0A, tick, 0, [code, rail, s.vinGood.toNat, s.fld Reg.PWR_SEQ_STATE 15 8] ++ (List.range 64).map value⟩
    .next { s1 with
      hwd := { s1.hwd with sent := s1.hwd.sent ++ [e] },
      pwr := { s1.pwr with snapNow := s1.pwr.snapNext, snapNext := none } }

/-! ### Thermal conversions (R476, R479, R482) -/

/-- A shut-down: SD has been confirmed on a channel of 0 to 11, by hardware (R30). Its message is sent in the next tick, which
also records it (R479). A wait for a reset ends, because the thaw restart will reset the chip (R431, R436). -/
def State.shutDown (s : State) (c : Nat) (v : Int) : State :=
  let s1 := (((s.setFlag Reg.THM_LATCHED c true).setFlag Reg.THM_STATUS 1 true).setFld (Reg.THM_CH_TEMP c) 18 17 3).showThrottle
  let s2 : State := { s1.setFlag Reg.FLT_STATUS 4 false with
    flt := { s1.flt with resetWait := none, sent := s1.flt.sent ++ [⟨0x400 + c, 0x1D, 3, s.tick + 1⟩] } }
  s2.enterByHardware 8 0x1003 [c, codeOf 16 v, s2.rdN Reg.THM_LATCHED]

/-- THERMAL_CONVERSION (R476, R479, R482): a conversion of channel 0 to 11 ends with a reading in 1/16 °C. -/
def execThermalConversion (c : Fin 12) (v : Int) (valid : Bool) (s : State) : Host.Outcome State Fault Refusal :=
  if !s.flag (Reg.THM_CH_CFG c) 0 then .next s
  else
    let s1 := s.thmReading c v valid
    if valid then
      let n := if s.thmSd c ≤ v then tabGet 0 s.thm.confirm c + 1 else 0
      let s2 : State := { s1 with thm := { s1.thm with
        invalid := tabSet 0 s1.thm.invalid c 0, confirm := tabSet 0 s1.thm.confirm c n } }
      .next (if n ≠ 0 ∧ s.fld (Reg.THM_CH_CFG c) 7 4 ≤ n ∧ !s.flag Reg.THM_LATCHED c then s2.shutDown c v else s2)
    else if c.val < 8 then
      let n := tabGet 0 s.thm.invalid c + 1
      let s2 : State := { s1 with thm := { s1.thm with invalid := tabSet 0 s1.thm.invalid c n } }
      .next (if n = 8 then ((s2.fault (0x400 + c) 0x1D 0).raiseBit Reg.THM_EVENTS 4).event 0x1005 [c.val] else s2)
    else .next s1

/-- A head's dwell of THAW_DWELL ticks below SD − HYS has ended (R481). -/
def State.thawHead (s : State) (i : Nat) : State :=
  let at_ := (s.bm i).dwellAt
  if s.headSd i ∧ at_ ≠ 0 ∧ at_ - 1 + s.fld Reg.THM_CFG 23 0 ≤ s.tick ∧ s.pageHas 0x10 1 0 then
    let s1 := (s.setFlag (Reg.BEAM_STN_STATE i) 9 false).setFlag Reg.BEAM_STATUS (16 + i) false
    ((s1.modBm i (fun b => { b with coolAt := 0, dwellAt := 0 })).raiseBit Reg.THM_EVENTS 3).event 0x1004
      [i, s.tick + 1 - at_]
  else s

/-- HEAD_THAW (R481). -/
def effHeadThaw (i : Fin 8) (s : State) : Host.Outcome State Fault Refusal := .next (s.thawHead i)

end Sys2Proof.Machine
end

