-- ==== Sys2Proof/Machine/Clock.lean ====
section
/-!
DEFINITION. CLK and LCS: lock of the PLLs, the three reset kinds, the watchdog, life-cycle transitions, OTP fields, the pad
ring and the test access port (R490 to R500, R509 to R519, R550, R558).
-/

namespace Sys2Proof.Machine

/-! ### The reset kinds (R497) -/

/-- What a reset of kind 1 (power-on), 2 (chip) or 3 (core) leaves of a register: RWS registers, and for a core reset the
band tables, the states of SYSPLL and DDRPLL, and the link that stays up (R7, R497, R519). -/
def keepsRegister (kind a : Nat) : Bool :=
  (decide (kind ≠ 1) && (regRow a).any (fun r => decide (r.access = .rws))) ||
  (decide (kind = 3) && (decide (a = Reg.CLK_PLL_STATE 0) || decide (a = Reg.CLK_PLL_STATE 1) || decide (a = Reg.HOST_LINK) ||
    (decide (Reg.CLK_BAND_b 1 0 ≤ a) && decide (a < Reg.CLK_BAND_b 9 31 + 4))))

/-- The state of every block after a reset; nothing is released yet but by a core reset. -/
def State.blocksReset (s : State) (kind : Nat) : State :=
  let c := State.cleared
  { c with
    pending := s.pending, fresh := s.fresh, out := s.out,
    regs := s.regs.filter (fun r => keepsRegister kind r.1),
    host := if kind = 3 then { c.host with pci := s.host.pci, power := s.host.power, linkUp := s.host.linkUp } else c.host,
    hwd := { c.hwd with mram := s.hwd.mram, epoch := s.hwd.epoch, epochFirst := s.hwd.epochFirst, head := s.hwd.head },
    pwr := { c.pwr with adopt := decide (kind ≠ 1) },
    clk := { c.clk with
      up := decide (kind = 3), wiping := decide (kind = 3), ioLow := decide (kind ≠ 1) && s.clk.ioLow,
      tap := if kind = 1 then 0xFF else s.clk.tap, trace := decide (kind ≠ 1) && s.clk.trace },
    lcs := { s.lcs with booted := false, trainDue := none, burning := none } }

/-- The thermal shut-down latch outlives a chip reset that is not the thaw restart, and a core reset (R497). -/
def State.keepLatch (t s : State) (kind cause : Nat) : State :=
  if kind = 1 ∨ cause = 3 then t
  else
    let t1 := t.wr Reg.THM_LATCHED (s.rd Reg.THM_LATCHED)
    let t2 := t1.upTo 12 (fun u c => if s.flag Reg.THM_LATCHED c then u.setFld (Reg.THM_CH_TEMP c) 18 17 3 else u)
    if s.thermalLatched then (t2.setFlag Reg.THM_STATUS 1 true).setFlag Reg.THM_STATUS 0 true else t2

/-- A reset of a kind, with the SOURCE of CLK_RST_CAUSE (R497, R500, R515). LDENn is low from then on, and ERR_N is asserted
until the SRAM wipe ends. -/
def State.doReset (s : State) (kind cause : Nat) : State :=
  let pins := if kind = 1 then 0 else s.rdN Reg.CLK_STATUS / 65536 * 65536
  let locks := if kind = 3 then s.fld Reg.CLK_STATUS 1 0 else 0
  let t1 := (s.blocksReset kind).keepLatch s kind cause
  let t2 := ((t1.wrN Reg.CLK_STATUS (pins + locks)).wrN Reg.CLK_RST_CAUSE (kind + cause * 256)).setFld Reg.LCS_STATUS 2 0
    t1.lcs.fused
  let t3 := if kind = 2 then t2.bump Reg.CLK_RST_COUNT 15 0 else if kind = 3 then t2.bump Reg.CLK_RST_COUNT 31 16 else t2
  let t4 := t3.emit (.resetChip kind cause)
  let t5 := if (List.range 8).any s.ldenHigh then t4.emit (.lden 0) else t4
  t5.driveErrn s.errnLow

/-- POWER_ON_RESET (R490, R497): PORST_N low, or the supply below its threshold; REF50 and MODESEL are sampled at the release.
A loss of power may tear the slot that is being written (R453). -/
def execPowerOnReset (ref50 modesel torn : Bool) (s : State) : Host.Outcome State Fault Refusal :=
  let s1 : State := match torn && s.hwdReady, s.hwd.staging with
    | true, r :: _ => { s with hwd := { s.hwd with mram := tabSet .empty s.hwd.mram (r.seq % 12288) .torn } }
    | _, _ => s
  .next (((s1.doReset 1 1).setFlag Reg.CLK_STATUS 16 ref50).setFlag Reg.CLK_STATUS 17 modesel)

/-- PLL_LOCK_DECLARED (R494, R497): PLL_LOCKF has read high for 200 µs: the domains and the core reset are released, and the
tick counter runs from 0. -/
def execPllLockDeclared (s : State) : Host.Outcome State Fault Refusal :=
  let s1 := (s.setFlag Reg.CLK_STATUS 0 true).setFlag (Reg.CLK_PLL_STATE 0) 8 true
  if s.clk.up then .next s1 else .next { s1 with clk := { s1.clk with up := true, wiping := true } }

/-- PLL_LOCK_LOST (R495): a declared lock is lost after the core reset has been released. -/
def execPllLockLost (p : Fin 10) (s : State) : Host.Outcome State Fault Refusal :=
  if s.clk.up ∧ s.flag Reg.CLK_STATUS p then
    let s1 := (s.lockBit p false).setFlag (Reg.CLK_PLL_STATE p) 8 false
    let s2 := if p = 0 then (s1.fault 0x440 0x02 0x200).raiseBit Reg.CLK_EVENTS 0
      else (s1.fault 0x440 0x02 (0x300 + p)).raiseBit Reg.CLK_EVENTS 1
    .next (s2.event 0x1101 [p.val, s.tick])
  else .next s

/-- CLOCK_FAILURE (R496): four windows in a row with the core clock out of range: the chip is reset with cause 7, without the
wait. -/
def execClockFailure (s : State) : Host.Outcome State Fault Refusal :=
  if s.clk.up then .next (s.doReset 2 7) else .next s

/-- SRAM_WIPE_DONE (R432, R497): 0.95 ms after the release at the least. -/
def execSramWipeDone (s : State) : Host.Outcome State Fault Refusal :=
  if s.clk.up ∧ s.clk.wiping ∧ 38 ≤ s.tick then
    .next (({ s with clk := { s.clk with wiping := false } } : State).driveErrn s.errnLow)
  else .next s

/-- A request of CLK_RST_CTRL (R498), for kind 2 or 3. -/
def State.resetRequest (s : State) (kind : Nat) (w : Writer) (now : Bool) : State :=
  let cause := if w = .host then 4 else 5
  if s.thermalLatched then s.raiseBit Reg.CLK_EVENTS 3
  else if s.flt.resetWait.isSome then s.startWait kind cause none
  else if now then s.doReset kind cause
  else (s.startWait kind cause none).decideSafe 32

/-- RST_CHIP and RST_CORE (R498). -/
def effRstChip (w : Writer) (now : Bool) (s : State) : Host.Outcome State Fault Refusal := .next (s.resetRequest 2 w now)

def effRstCore (w : Writer) (now : Bool) (s : State) : Host.Outcome State Fault Refusal := .next (s.resetRequest 3 w now)

/-- The wait for a reset ends: every axis stands still, or FLT_RESET_WAIT ticks have passed (R431). -/
def State.resetWaitEnd (s : State) : State :=
  match s.flt.resetWait with
  | some w =>
    if w.start < s.tick ∧ (s.allStill ∨ w.start + s.fld Reg.FLT_RESET_WAIT 23 0 ≤ s.tick) then
      let s1 := match w.msg with
        | some m =>
          let n := s.fld Reg.FLT_LAST_RESET 31 16 + 1
          ((s.wrN Reg.FLT_LAST_RESET (m.source % 2 ^ 11 + (m.kind % 32) * 2 ^ 11 + n * 2 ^ 16)).event 0x0004
            [m.bits, if s.allStill then 0 else 1, s.tick - w.start]).hwdFlush
        | none => s
      s1.doReset w.kind w.cause
    else s
  | none => s

/-- CHIP_RESET_WAIT_END (R431). -/
def effChipResetWaitEnd (s : State) : Host.Outcome State Fault Refusal := .next s.resetWaitEnd

/-- The dwell has lasted THAW_DWELL ticks and every axis stands still; the readings gathered in the tick count (R480). -/
def State.thawRestart (s0 : State) : State :=
  let s := s0.compareThermal
  let at_ := s.thm.dwellAt
  if at_ ≠ 0 ∧ at_ - 1 + s.fld Reg.THM_CFG 23 0 ≤ s.tick ∧ s.allStill then
    let s1 := (s.bump Reg.THM_THAW_COUNT).event 0x1004 [s.rdN Reg.THM_LATCHED, s.tick + 1 - at_]
    s1.hwdFlush.doReset 2 3
  else s

/-- THAW_RESTART (R480). -/
def effThawRestart (s : State) : Host.Outcome State Fault Refusal := .next s.thawRestart

/-! ### The watchdog (R499) -/

/-- WDT_KICK. -/
def State.wdtKick (s : State) : State := { s with clk := { s.clk with kickAt := s.tick } }

def execWdtKick (s : State) : Host.Outcome State Fault Refusal := .next s.wdtKick

/-- A period has passed without a kick: the wait of R431 begins, and the next period with it. -/
def State.watchdog (s : State) : State :=
  if s.clk.up ∧ s.clk.kickAt + s.fld Reg.CLK_WDT 23 0 ≤ s.tick ∧ s.flt.resetWait = none then
    let s1 := if s.thermalLatched then s else s.startWait 2 6 none
    ((s1.event 0x1401 [s.clk.kickAt]).decideSafe 32).wdtKick
  else s

/-- WATCHDOG_EXPIRY (R499). -/
def effWatchdogExpiry (s : State) : Host.Outcome State Fault Refusal := .next s.watchdog

/-! ### Life-cycle (R509 to R513) -/

/-- ACCEPT (R509): host software opens the gate for an untested pairing. -/
def State.accept (s : State) (v : Nat) : State :=
  let done (r : Nat) (t : State) : State := t.setFld Reg.LCS_ACCEPT_RESULT 3 0 r
  if !s.flag Reg.LCS_STATUS 4 ∨ s.flag Reg.LCS_STATUS 5 then done 2 s
  else if v ≠ s.rdN Reg.LCS_FW_VERSION then done 3 s
  else if s.lcs.fused = 0 ∨ s.lcs.fused = 3 ∨ s.lcs.fused = 4 then done 4 s
  else
    let kept := if 8 ≤ s.lcs.accepted.length then s.lcs.accepted.tail else s.lcs.accepted
    let s1 := (s.setFlag Reg.LCS_STATUS 3 true).setFlag Reg.LCS_STATUS 5 true
    let s2 := (s1.raiseBit Reg.LCS_EVENTS 1).event 0x1203 [v, 0x0C, 0]
    done 1 { s2 with lcs := { s2.lcs with accepted := kept ++ [v] } }

def execAccept (v : Word) (s : State) : Host.Outcome State Fault Refusal := .next (s.accept v.toNat)

/-- The token of LCS_TOKEN0 to LCS_TOKEN15 is a signature by the production key of the unique id and RETURN (R511). -/
def State.tokenOk (s : State) : Bool :=
  ecdsaVerify Config.productionKey (sha256 (leBytes 8 Config.uid ++ leBytes 1 3))
    ((List.range 16).flatMap (fun j => leBytes 4 (s.rdN (Reg.LCS_TOKEN j))))

/-- The result of a transition request (R511). -/
def State.transitionResult (s : State) (target confirm : Nat) : Nat :=
  if confirm ≠ 0x4C43 then 5
  else if s.lcs.burning.isSome ∨ target ≤ s.lcs.fused ∨ (target = 3 ∧ s.lcs.fused ≠ 2) then 2
  else if !s.holding ∨ !s.allDisabled then 3
  else if target = 3 ∧ !s.tokenOk then 4
  else 1

/-- LIFECYCLE_TRANSITION (R511, R518). -/
def State.transition (s : State) (target confirm : Nat) : State :=
  if 4 < target then s.reservedWrite 0x12 Reg.LCS_TRANS_CTRL
  else
    let r := s.transitionResult target confirm
    let s1 := s.setFld Reg.LCS_TRANS_RESULT 3 0 r
    if r = 1 then
      { s1.setFlag Reg.LCS_STATUS 12 true with lcs := { s1.lcs with burning := some (target, s.tick) } }
    else s1.raiseBit Reg.LCS_EVENTS 2

def execLifecycleTransition (target : Fin 8) (confirm : Fin 65536) (s : State) : Host.Outcome State Fault Refusal :=
  .next (s.transition target confirm)

/-- FUSE_BURN_DONE (R511): the chip is reset with cause 8, without the wait. -/
def execFuseBurnDone (s : State) : Host.Outcome State Fault Refusal :=
  match s.lcs.burning with
  | some (t, _) => .next (({ s with lcs := { s.lcs with fused := t } } : State).doReset 2 8)
  | none => .next s

/-- OTP_PROGRAM (R513): a field is programmed once, from LCS_OTP_DATA0 to LCS_OTP_DATA7, in BLANK and DEV. A field whose
verify read fails stays unprogrammed. -/
def State.otpProgram (s : State) (field : Nat) (verifyOk : Bool) : State :=
  let bytes := (List.range 8).flatMap (fun j => leBytes 4 (s.rdN (Reg.LCS_OTP_DATA j)))
  let written := if field = 1 then s.lcs.subsystem.isSome else s.lcs.key.isSome
  let done (r : Nat) (t : State) : State := (t.setFld Reg.LCS_OTP_RESULT 3 0 r).raiseBit Reg.LCS_EVENTS 3
  if field ≠ 1 ∧ field ≠ 2 then s.reservedWrite 0x12 Reg.LCS_OTP_CTRL
  else if 2 ≤ s.lcs.fused then done 3 s
  else if written then done 2 s
  else if !verifyOk then done 4 s
  else if field = 1 then done 1 { s with lcs := { s.lcs with subsystem := some (bytes.take 4) } }
  else done 1 { s with lcs := { s.lcs with key := some bytes } }

def execOtpProgram (field : Fin 4) (verifyOk : Bool) (s : State) : Host.Outcome State Fault Refusal :=
  .next (s.otpProgram field verifyOk)

/-! ### Pins, ticks and the test access port -/

/-- VDDIO33_LOW (R550): every LDENn pin is low in the pad ring. -/
def execVddio33Low (s : State) : Host.Outcome State Fault Refusal :=
  let s1 : State := { s with clk := { s.clk with ioLow := true } }
  .next (s1.upTo 8 (fun t i => if t.ldenHigh i then t.setLden i false else t))

/-- CLK_TICK_LO_READ (R515): the read latches the upper bits. -/
def execClkTickLoRead (s : State) : Host.Outcome State Fault Refusal := .next (s.wrN Reg.CLK_TICK_HI (s.tick / 2 ^ 32))

/-- TAP_INSTRUCTION (R510, R558): a code that is not accepted acts as BYPASS. Which of the debug instructions turns the trace
port on is a free value. -/
def execTapInstruction (ir : Fin 256) (s : State) : Host.Outcome State Fault Refusal :=
  let open_ := decide (s.lcs.fused = 0) || decide (s.lcs.fused = 1) || decide (s.lcs.fused = 3)
  let i := ir.val
  let accepted := decide (i ≤ 1) || (open_ && (decide (i ≤ 4) || (decide (0x80 ≤ i) && decide (i ≤ 0x8F))))
  let s1 : State := { s with clk := { s.clk with tap := if accepted then i else 0xFF } }
  if accepted ∧ 0x80 ≤ i then .next ({ s1 with clk := { s1.clk with trace := decide (s.freeNat % 2 = 1) } } : State).drawn
  else .next s1

end Sys2Proof.Machine
end

