-- ==== Sys2Proof/Machine/Activation.lean ====
section
/-!
DEFINITION. First activation: the standby bank becomes active, with the checks that it makes of pacing, backhitch and
stations (R60, R153, R155, R161, R248).
-/

namespace Sys2Proof.Machine

/-- Mark a station's plan as checked. -/
def State.planChecked (s : State) (i : Nat) (p : PlanNext) : State :=
  { s with alm := { s.alm with plans := tabPut s.alm.plans i { p with checked := true } } }

/-- The checks of R248 and the band choice of R492 on the volume that a station is about to take, made at first activation:
the plan in force stands as before, and the plan to come is marked checked. -/
def State.checkStation (s : State) (i : Nat) : State :=
  match tabFind s.alm.plans i with
  | some p =>
    let was := (s.stn i).plan
    let vol := p.volume.filter (fun v => decide (volFacetLen (s.alm.bank v.1) v.2 i ≠ 0))
    let s1 := ((s.modStn i (fun x => { x with plan := vol })).volumeCheck i).modStn i (fun x => { x with plan := was })
    s1.planChecked i p
  | none => s

/-- What first activation of grade `g` of an image does beside the pages (R153, R155, R159, R161, R248). -/
def State.activationChecks (s : State) (m : Memory) (g : Nat) : State :=
  let s1 := s.upTo 8 (fun t i => (t.wr (Reg.LEDG_PACE_STN_ARR i) 0).wr (Reg.LEDG_PACE_STN_CON i) 0)
  let s2 := (s1.setFld Reg.LEDG_PACE_STATUS 26 24 g).paceConfigCheck.bhConfigCheck
  s2.upTo 8 (fun t i => if bitOf (imgStnMask m) i then t.checkStation i else t)

/-- FIRST_ACTIVATION (R60): the standby bank will run from the next tick. -/
def effFirstActivation (s : State) : Host.Outcome State Fault Refusal :=
  if !s.canActivate then .next s
  else
    let m := s.standbyImage
    let g := s.activationGrade
    let lacked := s.flag Reg.ALM_STATUS 3 && decide (g ≠ s.fld Reg.ALM_STATUS 10 8)
    let s1 : State := { s with alm := { s.alm with request := none, next := .volume s.alm.standby g } }
    let s2 := ((s1.setFlag Reg.ALM_STATUS 2 false).setFlag Reg.ALM_STATUS 3 false).almResult (if lacked then 3 else 1)
    let s2 := { s2 with pace := { s2.pace with stepDown := none, stepUp := none, downAt := 0, upTicks := 0, byGovernor := false } }
    let s3 := (s2.raiseBit Reg.ALM_EVENTS 2).event 0x0203 [0, imgBuildId m, g, s.tick]
    .next ((s3.planAll s.alm.standby g (imgStnMask m)).activationChecks m g)

end Sys2Proof.Machine
end

