-- ==== Sys2Proof/Machine/Tables.lean ====
section
/-!
DEFINITION. The table windows: TABLE items of ring 9 after lock, and BAR1 writes before it (R76, R77, R97, R271, R324,
R344, R372, R402).
-/

namespace Sys2Proof.Machine

/-- The part of the staging window that takes no write: instruction buffers and ring staging (R402). -/
def readOnlyTouched (o n : Nat) : Bool := decide (o < 0x700000) && decide (0x600000 < o + n)

/-- A TABLE item is refused by its owner, whose TABLE_REFUSED event is bit `b` of the register at `r`. -/
def State.refuseTable (s : State) (it : Item) (detail r b : Nat) : State := (s.complete it 4 detail).raiseBit r b

/-- A TABLE item is written. -/
def State.writeTable (s : State) (it : Item) : State :=
  { s with sram := memWrite s.sram it.target it.data }.complete it 0 0

/-- The window's owner decides a TABLE item (R97, R271, R324, R344, R372, R402). -/
def State.tableItem (s : State) (it : Item) : State :=
  let o := it.target
  let n := it.data.length
  match tableOwner o n with
  | some 8 => s.beamTableItem it
  | some 9 =>
    if s.stepTableBusy o n then s.refuseTable it 1 Reg.STEP_EVENTS 9
    else if s.axisTableBusy o n then s.refuseTable it 1 Reg.AXIS_EVENTS 11
    else s.writeTable it
  | some 11 => if s.loopTableBusy o n then s.refuseTable it 1 Reg.LOOP_EVENTS 4 else s.writeTable it
  | some _ => if readOnlyTouched o n then s.complete it 4 4 else s.writeTable it
  | none => s

/-- TABLE_ITEM (R97): the front TABLE item goes to the owner of its window. -/
def execTableItem (s : State) : Host.Outcome State Fault Refusal :=
  let q := match s.inboxOf 64 with
    | it :: _ => tableQueue it
    | [] => 0
  match s.frontOf 64 q 1 with
  | none => .next s
  | some it => .next ((s.takeItem 64 q).tableItem it)

/-- The window in which the `n` bytes from BAR1 offset `o` lie wholly: block 2 for the Almanac window (R76). -/
def windowOf (o n : Nat) : Option Nat := if o + n ≤ 528384 then some 2 else tableOwner o n

/-- The `n` bytes from BAR1 offset `o` touch the live area of a station's beam area (R269, R271). -/
def liveTouched (o n : Nat) : Bool :=
  (List.range 8).any (fun i => decide (beamArea i + 0xC00 < o + n) && decide (o < beamArea i + 0xD00))

/-- A BAR1 write is refused under R77, R271 or R402. -/
def State.bar1Refused (s : State) (o n : Nat) : Bool :=
  s.locked || (match windowOf o n with
    | none => true
    | some 2 => false
    | some _ => !s.holding || readOnlyTouched o n || liveTouched o n)

/-- A BAR1 write that is carried out (R52, R76, R77). -/
def State.bar1Store (s : State) (o : Nat) (bs : List Byte) : State :=
  match windowOf o bs.length with
  | some 2 => s.bar1Almanac o bs
  | some 8 => s.beamBarWrite (o - 0x100000) bs
  | _ => { s with sram := memWrite s.sram o bs }

/-- A BAR1 write (R77): discarded and reported, or carried out. -/
def State.bar1Write (s : State) (o : Nat) (bs : List Byte) : State :=
  if bs = [] then s else if s.bar1Refused o bs.length then s.discarded 1 1 o else s.bar1Store o bs

/-- The host windows answer: the core reset is released, the SRAM wipe has ended and, for host software, the link is up
(R102, R497). -/
def State.windowsOpen (s : State) (w : Writer) : Bool :=
  s.clk.up && !s.clk.wiping && (decide (w = .mgmt) || s.host.linkUp)

/-- BAR1_WRITE (R77). More than 512 bytes exceed the Max Payload Size and cannot reach BAR1. -/
def execBar1Write (w : Writer) (o : Nat) (bs : List Byte) (s : State) : Host.Outcome State Fault Refusal :=
  if 512 < bs.length then .fault .illFormed
  else if s.windowsOpen w then .next (s.bar1Write o bs) else .next s

end Sys2Proof.Machine
end

