-- ==== Sys2Proof/Machine/RegWrite.lean ====
section
/-!
DEFINITION. Writes into BAR0 (R7, R8, R75, R78, R79, R86, R403, R493): which writes are discarded, which place a reserved
encoding in a field, what a write of each access code does, and the requests that a write-only register takes.
-/

namespace Sys2Proof.Machine

/-! ### Which register -/

/-- The index of a register in a group that begins at `base`, `stride` bytes apart, `n` of them. -/
def regIndex (a base stride n : Nat) : Option Nat :=
  if base ≤ a ∧ (a - base) % stride = 0 ∧ (a - base) / stride < n then some ((a - base) / stride) else none

/-- The register is one of such a group. -/
def regIn (a base stride n : Nat) : Bool := (regIndex a base stride n).isSome

/-- The block number that owns a register (R18, R74). DESIGN CHOICE: BURL_CFG and the other BURL registers that both BURLC
and BURLD read belong to BURLC, block 0x04 (log entry 76). -/
def regBlock (a : Nat) : Nat :=
  match a / 0x10000 with
  | 0 => 1
  | 1 => if a < 0x18000 then 0x11 else 0x12
  | 2 => 0x0F
  | 3 => 0x10
  | 4 => 0
  | 5 => 0x0E
  | 6 => 2
  | 7 => 3
  | 8 => if regIn a (Reg.BURL_DBIND 0) 4 32 then 5 else 4
  | 9 => 6
  | 10 => 7
  | 11 => 8
  | 12 => 9
  | 13 => 0x0A
  | 14 => 0x0B
  | 15 => 0x0C
  | 16 => 0x0D
  | 17 => 0x15
  | _ => 0x13

/-! ### Reserved encodings (R8) -/

/-- Field [hi:lo] lies in its stated range. -/
def fieldIn (v hi lo least most : Nat) : Bool := decide (least ≤ bitsOf v hi lo) && decide (bitsOf v hi lo ≤ most)

/-- An axis index that names no axis of its KIND (R152). -/
def noAxis (stepper : Bool) (i : Nat) : Bool := decide ((if stepper then 48 else 24) ≤ i)

/-- Reserved encodings of LEDG, BURL and DRAM registers (R152, R176, R201, R230). -/
def reservedStore (a v : Nat) : Bool :=
  if a = Reg.LEDG_CFG then !fieldIn v 7 4 1 15
  else if a = Reg.LEDG_REF_AXIS ∨ a = Reg.LEDG_BH_AXIS0 ∨ a = Reg.LEDG_BH_AXIS1 then noAxis (bitOf v 8) (bitsOf v 5 0)
  else if a = Reg.BURL_CFG then !fieldIn v 12 0 1 4096 || !fieldIn v 19 16 1 8 || !fieldIn v 30 24 1 64
  else if a = Reg.DRAM_ORG then decide (v % 8 = 6)
  else if a = Reg.DRAM_RH_CFG then !fieldIn v 7 0 1 255
  else if a = Reg.DRAM_WIPE_RATE then !fieldIn v 7 0 1 80
  else regIn a (Reg.HOST_RING_SIZE 0) 32 16 && !fieldIn v 4 0 4 16

/-- Reserved encodings of SCAN and BEAM registers (R261, R262, R294). -/
def reservedScan (a v : Nat) : Bool :=
  if a = Reg.SCAN_CFG then !fieldIn v 19 16 2 12
  else if regIn a (Reg.SCAN_STN_CFG 0) 256 8 then decide (v % 4 = 3) || !fieldIn v 7 4 1 15 || !fieldIn v 11 8 2 15
  else if regIn a (Reg.SCAN_STN_PIXCFG 0) 256 8 then decide (v % 4 = 3)
  else if regIn a (Reg.SCAN_STN_SLOPE 0) 256 8 then decide (v % 65536 = 0)
  else if regIn a (Reg.SCAN_STN_DRUM 0) 256 8 then noAxis (bitOf v 8) (bitsOf v 5 0)
  else regIn a (Reg.BEAM_STN_CFG 0) 64 8 && (!fieldIn v 7 4 1 15 || !fieldIn v 15 12 1 15 ||
    !fieldIn v 11 8 1 (bitsOf v 15 12) || !fieldIn v 31 24 2 255)

/-- Reserved encodings of STEP and SIO registers, and the operations of STEP_AXa_CMD (R304, R320, R326, R328). DESIGN CHOICE:
AXIS values 48 to 63 of STEP_VMj_CFG, which name no axis, are none: they are stored, and the axis reads as one that has not
moved (log entry 76). -/
def reservedStep (a v : Nat) : Bool :=
  if regIn a (Reg.STEP_LINK_CFG 0) 8 2 then !fieldIn v 7 4 1 15
  else if regIn a (Reg.STEP_AX_CFG 0) 128 48 then !fieldIn v 15 8 1 255
  else if regIn a (Reg.STEP_AX_CMD 0) 128 48 then !fieldIn v 3 0 1 10
  else if regIn a (Reg.STEP_AX_STALL_CFG 0) 128 48 then !fieldIn v 9 0 1 511
  else if regIn a (Reg.STEP_AX_HOME_CFG 0) 128 48 then !fieldIn v 8 0 0 263 || !fieldIn v 15 12 1 15
  else if regIn a (Reg.STEP_AX_CAM_CFG 0) 128 48 then !fieldIn v 7 0 0 239
  else if regIn a (Reg.STEP_AX_CAM_MCYCLE 0) 128 48 then !fieldIn v 31 0 1 (2 ^ 31)
  else decide (a = Reg.SIO_CFG) && (!fieldIn v 8 0 0 256 || decide (v % 8 ≠ 0))

/-- Reserved encodings of AXIS registers and the operations of AXIS_AXa_CMD (R346, R359). -/
def reservedAxis (a v : Nat) : Bool :=
  if regIn a (Reg.AXIS_LINK_CFG 0) 8 4 then !fieldIn v 7 4 1 15
  else if regIn a (Reg.AXIS_AX_CFG 0) 128 24 then decide (v % 4 = 3)
  else if regIn a (Reg.AXIS_AX_CMD 0) 128 24 then !fieldIn v 3 0 1 7
  else if regIn a (Reg.AXIS_AX_OBS_CFG 0) 128 24 then !fieldIn v 15 8 1 255
  else if regIn a (Reg.AXIS_AX_START_CFG 0) 128 24 then !fieldIn v 27 24 1 15
  else regIn a (Reg.AXIS_AX_CATCH_CFG 0) 128 24 && !fieldIn v 7 0 2 255

/-- Reserved encodings of LOOP, CNPY and DMA registers and their operations (R373, R378, R379, R396, R422). -/
def reservedLoop (a v : Nat) : Bool :=
  if regIn a (Reg.LOOP_LINK_CFG 0) 8 2 then !fieldIn v 7 4 1 15
  else if regIn a (Reg.LOOP_LP_CFG 0) 128 64 then decide (v % 4 = 3) || noAxis (bitOf v 22) (bitsOf v 21 16)
  else if regIn a (Reg.LOOP_LP_CMD 0) 128 64 then !fieldIn v 2 0 1 4
  else if regIn a (Reg.LOOP_LP_TIMERS 0) 128 64 then !fieldIn v 31 24 1 255
  else if regIn a (Reg.LOOP_LP_BINS 0) 128 64 then !fieldIn v 13 0 1 8192 || decide (bitsOf v 13 0 ≤ bitsOf v 29 16)
  else if regIn a (Reg.LOOP_LP_CYCLE 0) 128 64 then !fieldIn v 31 0 1 (2 ^ 31)
  else if a = Reg.CNPY_QCMD then !fieldIn v 1 0 1 3
  else regIn a (Reg.DMA_CH_CFG 0) 64 63 && bitOf v 16

/-- Reaction byte `j` of a FLT_REACTi value asks for a block reset of a block that R430 does not list (R428). -/
def badReact (i v j : Nat) : Bool :=
  bitOf v (8 * j + 2) && !([4, 5, 0x0D, 0x15, 0x17].contains ((4 * i + j) / 64))

/-- Reserved encodings of FLT, HWD, CLK and LEG registers (R428, R442, R462, R516, R542). -/
def reservedSystem (a v : Nat) : Bool :=
  if a = Reg.FLT_ESC_LEAK then decide (v % 65536 = 0)
  else if regIn a (Reg.FLT_REACT 0) 4 512 then
    match regIndex a (Reg.FLT_REACT 0) 4 512 with
    | some i => (List.range 4).any (badReact i v)
    | none => false
  else if regIn a (Reg.HWD_RATE 0) 8 1024 then !fieldIn v 23 16 1 255
  else if a = Reg.CLK_RST_CTRL then decide (bitsOf v 31 16 ≠ 0x4B52)
  else decide (a = Reg.LEG_CFG) && (decide (v % 4 = 3) || !fieldIn v 23 20 1 15 || !fieldIn v 31 24 8 255)

/-- Reserved encodings of PWR and THM registers: a margin beyond ±10, and levels out of order (R474, R477). DESIGN CHOICE:
SD_CONFIRM 0 is one on channels 12 to 19, too, where the field is ignored and reads 1 (log entry 76). -/
def State.reservedHeat (s : State) (a v : Nat) : Bool :=
  if regIn a (Reg.PWR_RAIL_CTL 0) 16 64 then
    decide (signedOf 5 (bitsOf v 12 8) < -10) || decide (10 < signedOf 5 (bitsOf v 12 8))
  else if regIn a (Reg.THM_CH_CFG 0) 32 20 then !fieldIn v 7 4 1 15
  else if regIn a (Reg.THM_CH_LEVEL0 0) 32 20 then
    !(decide (signedOf 16 v < signedOf 16 (v / 65536)) && decide (signedOf 16 (v / 65536) < signedOf 16 (s.rdN (a + 4))))
  else regIn a (Reg.THM_CH_LEVEL1 0) 32 20 && !decide (signedOf 16 (s.rdN (a - 4) / 65536) < signedOf 16 v)

/-- A write places a reserved encoding in a defined field of the register (R8). A value outside the range that the
register's table states is one, too (log entry 28). -/
def State.reservedEncoding (s : State) (a v : Nat) : Bool :=
  reservedStore a v || reservedScan a v || reservedStep a v || reservedAxis a v || reservedLoop a v || reservedSystem a v ||
  s.reservedHeat a v

/-! ### Discarded writes (R78) -/

/-- A register that only management firmware writes: the PLL band tables, CLK_WDT, LEG_TONER, the firmware DMA channels
(R78). -/
def firmwareOnly (a : Nat) : Bool :=
  decide (Reg.CLK_BAND_b 0 0 ≤ a ∧ a < Reg.CLK_BAND_b 9 31 + 4) || decide (a = Reg.CLK_WDT) || decide (a = Reg.LEG_TONER) ||
  (decide (Reg.DMA_CH_CFG 56 ≤ a ∧ a < Reg.DMA_CH_CFG 63 + 0x40) && decide (a % 0x40 < 0x2C))

/-- The ring of a ring register that may be written only while it is STOPPED (R86). -/
def ringRegister (a : Nat) : Option Nat :=
  match regIndex a (Reg.HOST_RING_BASE_LO 0) 32 16, regIndex a (Reg.HOST_RING_BASE_HI 0) 32 16,
      regIndex a (Reg.HOST_RING_SIZE 0) 32 16 with
  | some k, _, _ => some k
  | none, some k, _ => some k
  | none, none, k => k

/-- The HOST_ERR bit under which a write of the register is discarded (R78), if it is. -/
def State.discardBit (s : State) (w : Writer) (a : Nat) : Option Nat :=
  if w = .host ∧ firmwareOnly a then some 10
  else if s.locked ∧ (regRow a).any (fun r => decide (r.access = .rwl)) then some 0
  else if (a = Reg.HOST_WB_BASE_LO ∨ a = Reg.HOST_WB_BASE_HI) ∧ !s.allStopped then some 3
  else if (ringRegister a).any (fun k => decide (s.ringState k ≠ 0)) then some 3
  else none

/-! ### Write-only registers: the requests -/

/-- Apply `f` where bit `i` of `v` is 1. -/
def State.onBit (s : State) (v i : Nat) (f : State → State) : State := if bitOf v i then f s else s

/-- STEP_AXa_CMD (R304). -/
def State.stepCmd (s : State) (a v : Nat) : State :=
  let p := bitsOf v 6 4
  match v % 16 with
  | 1 => s.stepEnable a
  | 2 => s.stepDisable a
  | 3 => s.stepMove a p
  | 4 => s.stepVelocity a p
  | 5 => s.stepStop a
  | 6 => s.stepHome a
  | 7 => s.stepEngage a
  | 8 => s.stepDisengage a
  | 9 => s.stepSetPos a
  | 10 => s.stepClear a
  | _ => s

/-- AXIS_AXa_CMD (R346). -/
def State.axisCmd (s : State) (a v : Nat) : State :=
  let p := bitsOf v 6 4
  match v % 16 with
  | 1 => s.axisEnable a
  | 2 => s.axisDisable a
  | 3 => s.axisMove a p
  | 4 => s.axisVelocity a p
  | 5 => s.axisStop a
  | 6 => s.axisSetPos a
  | 7 => s.axisClear a
  | _ => s

/-- LOOP_LPl_CMD (R373). -/
def State.loopCmd (s : State) (l v : Nat) : State :=
  match v % 8 with
  | 1 => s.loopEnable l
  | 2 => s.loopDisable l
  | 3 => s.loopClear l
  | 4 => s.learnClear l
  | _ => s

/-- CNPY_QCMD (R396). -/
def State.queueCmd (s : State) (w : Writer) (v : Nat) : State :=
  match v % 4 with
  | 1 => s.queueWrite w
  | 2 => s.queueLoad
  | 3 => s.queueFlush
  | _ => s

/-- HOST_RINGk_CTRL (R87). DESIGN CHOICE: several requests in one write are decided in the order START, RESUME, STOP (log
entry 76). -/
def State.ringCmd (s : State) (k : Fin 16) (v : Nat) : State :=
  let go (o : Host.Outcome State Fault Refusal) (t : State) : State :=
    match o with
    | .next u => u
    | _ => t
  let s1 := if bitOf v 0 then go (execRingStart k s) s else s
  let s2 := if bitOf v 1 then go (execRingResume k s1) s1 else s1
  if bitOf v 2 then go (execRingStop k s2) s2 else s2

/-- ALM_CTRL (R70). DESIGN CHOICE: several requests in one write are decided in the order CHECK, SWITCH, CANCEL, RELEASE (log
entry 75). -/
def State.almCmd (s : State) (v : Nat) : State :=
  let go (o : Host.Outcome State Fault Refusal) (t : State) : State :=
    match o with
    | .next u => u
    | _ => t
  let s1 := if bitOf v 0 then go (effCheck s) s else s
  let s2 := s1.onBit v 1 State.requestSwitch
  let s3 := if bitOf v 2 then go (effAlmCancel s2) s2 else s2
  s3.onBit v 3 State.requestRelease

/-- What a write of a write-only register with a fixed offset does (R7). Whether an OTP field verifies is a free value here;
its own command names it. -/
def State.requestFixed (s : State) (w : Writer) (a v : Nat) : State :=
  if a = Reg.ALM_CTRL then s.almCmd v
  else if a = Reg.ALM_GRADE_REQ then s.requestGrade (v % 8)
  else if a = Reg.LEDG_BH_CTRL then
    (if bitOf v 0 then (match effAbandon s with
      | .next t => t
      | _ => s) else s)
  else if a = Reg.DRAM_CTRL then (s.onBit v 0 State.requestTraining).onBit v 1 State.requestRetrain
  else if a = Reg.SCAN_MEAS_CLR then s.clearMeasured (v % 256)
  else if a = Reg.BEAM_CTRL then s.onBit v 0 State.ilkClear
  else if a = Reg.CNPY_QCMD then s.queueCmd w v
  else if a = Reg.DMA_CTRL then s.onBit v 0 State.clearHalt
  else if a = Reg.DMA_EVT_CLR_LO then s.setEvt (s.evt &&& (2 ^ 64 - 1 - v))
  else if a = Reg.DMA_EVT_CLR_HI then s.setEvt (s.evt &&& (2 ^ 64 - 1 - v * 2 ^ 32))
  else if a = Reg.FLT_CTRL then
    ((s.onBit v 0 (fun t => t.safeEnter w)).onBit v 1 State.safeExit).onBit v 2 State.errnClear
  else if a = Reg.FLT_ESC_CLR then s.escClr v
  else if a = Reg.FLT_INJECT then s.inject v
  else if a = Reg.HWD_SNAP_CTRL then s.onBit v 0 State.snapTake
  else if a = Reg.HWD_CLR_CTRL then
    ((s.onBit v 0 State.clrRequest).onBit v 1 (fun t => t.submit w)).onBit v 2 State.clrCancel
  else if a = Reg.PWR_SEQ_CTRL then (s.onBit v 0 State.seqUp).onBit v 1 (fun t => t.seqDown w)
  else if a = Reg.CLK_RST_CTRL then
    (if bitOf v 0 then s.resetRequest 2 w (bitOf v 2) else if bitOf v 1 then s.resetRequest 3 w (bitOf v 2) else s)
  else if a = Reg.CLK_WDT_KICK then s.wdtKick
  else if a = Reg.LCS_ACCEPT then s.accept v
  else if a = Reg.LCS_TRANS_CTRL then s.transition (v % 8) (bitsOf v 31 16)
  else if a = Reg.LCS_OTP_CTRL then s.onBit v 8 (fun t => t.drawn.otpProgram (v % 4) (decide (t.freeNat % 2 = 1)))
  else s

/-- What a write of a write-only register does: a request, or a value that is kept (R7). -/
def State.requestWrite (s : State) (w : Writer) (a v : Nat) : State :=
  match regIndex a (Reg.HOST_RING_CTRL 0) 32 16, regIndex a (Reg.BEAM_STN_CTRL 0) 64 8, regIndex a (Reg.STEP_AX_CMD 0) 128 48,
      regIndex a (Reg.AXIS_AX_CMD 0) 128 24, regIndex a (Reg.LOOP_LP_CMD 0) 128 64, regIndex a (Reg.DMA_CH_CTRL 0) 64 64 with
  | some k, _, _, _, _, _ => s.ringCmd (Fin.ofNat 16 k) v
  | _, some i, _, _, _, _ =>
    (((s.onBit v 0 (fun t => t.requestArm i)).onBit v 1 (fun t => t.disarm i)).onBit v 2
      (fun t => t.chooseMap i (some t.tick) 0)).onBit v 3 (fun t => t.clearFailed i)
  | _, _, some x, _, _, _ => s.stepCmd x v
  | _, _, _, some x, _, _ => s.axisCmd x v
  | _, _, _, _, some l, _ => s.loopCmd l v
  | _, _, _, _, _, some c =>
    ((s.onBit v 0 (fun t => t.dmaStart c)).onBit v 1 (fun t => t.dmaAbort c)).onBit v 2 (fun t => t.dmaResume c)
  | _, _, _, _, _, _ =>
    if regIn a (Reg.HWD_CLR_RESP 0) 4 8 || regIn a (Reg.LCS_TOKEN 0) 4 16 || regIn a (Reg.LCS_OTP_DATA 0) 4 8 then s.wrN a v
    else s.requestFixed w a v

/-! ### Values (R7) -/

/-- The link whose EN a register holds. -/
def enLink (a : Nat) : Option LinkId :=
  match regIndex a (Reg.BEAM_STN_CFG 0) 64 8, regIndex a (Reg.AXIS_LINK_CFG 0) 8 4, regIndex a (Reg.STEP_LINK_CFG 0) 8 2,
      regIndex a (Reg.LOOP_LINK_CFG 0) 8 2 with
  | some i, _, _, _ => some (.beam (Fin.ofNat 8 i))
  | _, some k, _, _ => some (.axis (Fin.ofNat 4 k))
  | _, _, some k, _ => some (.step (Fin.ofNat 2 k))
  | _, _, _, some k => some (.hv (Fin.ofNat 2 k))
  | _, _, _, _ => none

/-- A write changes EN of a link (R290, R297, R334, R364): the rest of the word is stored first. -/
def State.writeLink (s : State) (l : LinkId) (a : Nat) (v : Word) : State :=
  let on := bitOf v.toNat 0
  if on = s.flag a 0 then s.wr a v
  else
    let s1 := (s.wr a v).setFlag a 0 (!on)
    if on then s1.linkOn l else s1.linkOff l

/-- The fields of THM_CHc_CFG that read as fixed values: EN on channels 8 to 19, SD_CONFIRM on the head channels (R487). -/
def fixThm (a v : Nat) : Nat :=
  match regIndex a (Reg.THM_CH_CFG 0) 32 20 with
  | some c => if 12 ≤ c then putBits (putBit v 0 true) 7 4 1 else if 8 ≤ c then putBit v 0 true else v
  | none => v

/-- A value written to a register that holds one (R7): the bits outside its fields stay (R8). -/
def State.storeWrite (s : State) (a : Nat) (mask v : Word) : State :=
  let new := (v &&& mask) ||| (s.rd a &&& ~~~mask)
  match enLink a, regIndex a (Reg.LOOP_LP_SETPOINT 0) 128 64 with
  | some l, _ => s.writeLink l a new
  | none, some l => s.writeSetpoint l v.toNat
  | none, none =>
    if a = Reg.PWR_DOM_REQ then s.domainSwitch v.toNat
    else if a = Reg.HWD_READ_SEQ then s.readSeq v.toNat
    else if regIn a (Reg.BURL_DBIND 0) 4 32 then (s.wr a new).setFlag Reg.BURL_STATUS 0 true
    else s.wrN a (fixThm a new.toNat)

/-- After an integrity error, writes to the reaction table and to FLT_ESC_REACT are discarded (R437). They are not in the
list of R78 and have no HOST_ERR bit, so nothing reports them (log entry 35). -/
def State.reactionsShut (s : State) (a : Nat) : Bool :=
  s.flag Reg.FLT_STATUS 3 && (regIn a (Reg.FLT_REACT 0) 4 512 || decide (a = Reg.FLT_ESC_REACT))

/-- A naturally aligned 32-bit write of the register at BAR0 offset `a` that is neither discarded nor reserved. -/
def State.applyWrite (s : State) (w : Writer) (a : Nat) (v : Word) : State :=
  match regRow a with
  | none => s
  | some r =>
    match r.access with
    | .ro => s
    | .wo => s.requestWrite w a v.toNat
    | .w1c => s.wr a (s.rd a &&& ~~~(v &&& word r.mask))
    | .w1s => if a = Reg.HOST_SETUP_LOCK then s.onBit v.toNat 0 State.setLock else s.wr a (s.rd a ||| (v &&& word r.mask))
    | .rw | .rws | .rwl =>
      if (Reg.CLK_BAND_b 0 0 ≤ a ∧ a < Reg.CLK_BAND_b 1 0) ∨ s.reactionsShut a then s else s.storeWrite a (word r.mask) v

/-- A naturally aligned 32-bit write into BAR0 (R8, R75, R78, R79). -/
def State.regWrite (s : State) (w : Writer) (a : Nat) (v : Word) : State :=
  match s.discardBit w a with
  | some b => s.discarded b 0 a
  | none => if s.reservedEncoding a v.toNat then s.reservedWrite (regBlock a) a else s.applyWrite w a v

/-- A write that R522 counts as refused: discarded, or a reserved encoding. -/
def State.writeRefused (s : State) (w : Writer) (a : Nat) (v : Word) : Bool :=
  (s.discardBit w a).isSome || s.reservedEncoding a v.toNat

/-- The MSI-X table, which also takes aligned 64-bit writes (R73). -/
def inMsixTable (a : Nat) : Bool := decide (0x8000 ≤ a) && decide (a < 0x9000)

/-- A write into BAR0 of a width at an offset (R73, R75). -/
def State.bar0Write (s : State) (w : Writer) (off width : Nat) (v : DWord) : State :=
  if width = 4 ∧ off % 4 = 0 then s.regWrite w off (v.setWidth 32)
  else if width = 8 ∧ off % 8 = 0 ∧ inMsixTable off then
    (s.regWrite w off (v.setWidth 32)).regWrite w (off + 4) ((v >>> 32).setWidth 32)
  else s.discarded 2 0 off

/-- REGISTER_WRITE (R79): a write into BAR0, or into BAR2, which holds the doorbells (R89). It is applied in delivery order.
Before the SRAM wipe has ended, and while the link is down for host software, no write arrives. -/
def effRegisterWrite (w : Writer) (bar2 : Bool) (off width : Nat) (v : DWord) (s : State) :
    Host.Outcome State Fault Refusal :=
  if !s.windowsOpen w then .next s
  else if bar2 then
    if off < 65536 then execDoorbell (Fin.ofNat 16 (off / 4096)) (off % 4096) width (v.setWidth 32) s else .next s
  else .next (s.bar0Write w off width v)

end Sys2Proof.Machine
end

