-- ==== Sys2Proof/Machine/Legacy.lean ====
section
/-!
DEFINITION. LEG: the CE220 port (R520 to R542). The UART channel and its commands, the status bytes and INT_N, the legacy
register window, the line syncs and the page handshake, the video groups, what the ledger's outcomes do at the port, the
trace, and the release of the engine from the engine pack.
-/

namespace Sys2Proof.Machine

/-! ### States and settings -/

/-- Put LEG in a state (R523). -/
def State.setLeg (s : State) (st : Nat) : State := s.setFld Reg.LEG_STATUS 2 0 st

/-- JAM at the port (R538). -/
def State.legJammed (s : State) : Bool := s.flag Reg.LEG_STATUS 3

/-- The error code (R529). -/
def State.legError (s : State) : Nat := s.fld Reg.LEG_STATUS 23 16

/-- L, W and TOP as kept for each following page (R527). -/
def State.legL (s : State) : Nat := s.fld Reg.LEG_PAGE 15 0
def State.legW (s : State) : Nat := s.fld Reg.LEG_PAGE 26 16
def State.legTop (s : State) : Nat := s.fld Reg.LEG_TOP 11 0

/-- LINE_BYTES of the volume that legacy lines are written for: the volume in force, or that of G6 in the standby image
while the holding page runs. -/
def State.legLineBytes (s : State) : Nat :=
  if s.holding then volLineBytes s.standbyImage 6 else volLineBytes s.active s.grade

/-! ### Trace (R539) -/

/-- A TELEMETRY item of the trace, in two cells: SOURCE, the length, up to 20 bytes, and the tick at bytes 48 to 53 of the
body. -/
def State.legTrace (s : State) (source : Nat) (bytes : List Byte) : State :=
  if s.flag Reg.LEG_TRACE 15 then
    let b := bytes.take 20
    let item := leBytes 8 (mkTag 0 0 0 9 0).toNat ++ leBytes 1 source ++ leBytes 1 b.length ++ b ++
      List.replicate (46 - b.length) 0 ++ leBytes 6 s.tick ++ leBytes 2 0
    let c0 : CellIn := ⟨true, false, false, 32, item.take 32, false, false⟩
    let c1 : CellIn := ⟨false, true, false, 32, item.drop 32, false, false⟩
    s.cellWrite (s.fld Reg.LEG_TRACE 11 0) [c0, c1] 0
  else s

/-- A traced event. The bytes of an event's item are not stated: they are free (log entry 5). -/
def State.legEvent (s : State) (code : Nat) (fields : List Nat) : State :=
  (s.event code fields).legTrace 2 (Config.payload code fields)

/-! ### Replies (R524, R526) -/

/-- The CHK that makes the 8-bit sum of CMD, the payload and CHK equal 0 (R524). -/
def legChk (cmd : Nat) (payload : List Nat) : Nat := (256 - (payload.foldl (· + ·) cmd) % 256) % 256

/-- A reply waits to be sent; the front frame has been decided (R525, R526). -/
def State.legReply (s : State) (bytes : List Nat) (status : Option Nat) : State :=
  { s with leg := { s.leg with
      frames := s.leg.frames.tail, decidedAt := s.tick + 1,
      replies := s.leg.replies ++ [⟨bytes, s.tick + s.fld Reg.LEG_CFG 15 8, status⟩] } }

/-- An ACK with its payload (R524). -/
def State.legAck (s : State) (cmd : Nat) (payload : List Nat) (status : Option Nat := none) : State :=
  (s.legReply ([0x06, payload.length, cmd] ++ payload ++ [legChk cmd payload]) status).bump Reg.LEG_COUNT_CMD 15 0

/-- A frame is NAKed or discarded: its count, event and record (R527, R540). -/
def State.legBad (s : State) (cmd code : Nat) : State :=
  ((s.bump Reg.LEG_COUNT_CMD 31 16).raiseBit Reg.LEG_EVENTS 2).event 0x1305 [cmd, code]

/-- A NAK (R524, R527). -/
def State.legNak (s : State) (cmd code : Nat) : State :=
  let s1 := (s.legReply [0x15, 1, cmd, code, legChk cmd [code]] none).legBad cmd code
  if 2 ≤ code then s1.legPost 0x60 else s1

/-! ### Status (R529) -/

/-- Status byte 0. -/
def State.legByte0 (s : State) : Nat :=
  let st := s.legState
  (decide (st = 4)).toNat + (decide (st = 3)).toNat * 2 + (decide (s.ledg.sheets ≠ [])).toNat * 4 + s.legJammed.toNat * 8 +
  (s.flag Reg.BEAM_STATUS 8).toNat * 16 + (decide (s.legError ≠ 0)).toNat * 32 + (decide (st = 5)).toNat * 64 +
  (decide (s.grade = 7)).toNat * 128

/-- The four status bytes. -/
def State.legStatusBytes (s : State) : List Nat :=
  [s.legByte0, min 15 s.ledg.sheets.length, s.legError, s.leg.lost]

/-- STATUS (R527, R529). -/
def State.legStatus (s : State) (f : LegFrame) : State :=
  if f.payload ≠ [] then s.legNak f.cmd 4 else s.legAck f.cmd s.legStatusBytes (some s.tick)

/-- READ_ERROR (R527). -/
def State.legReadError (s : State) (f : LegFrame) : State :=
  if f.payload ≠ [] then s.legNak f.cmd 4
  else
    let s1 := (s.legAck f.cmd [s.legError, 0]).setFld Reg.LEG_STATUS 23 16 0
    { s1 with leg := { s1.leg with lost := 0 } }

/-! ### Settings of the following pages (R527, R528) -/

/-- SPEED: a grade request for G6 or G7. -/
def State.legSpeed (s : State) (f : LegFrame) : State :=
  if s.legState ≠ 2 ∧ !(s.legState = 4 ∧ s.ledg.sheets = []) then s.legNak f.cmd 3
  else
    match f.payload with
    | [0] => (s.legAck f.cmd []).requestGrade 6
    | [1] => (s.legAck f.cmd []).requestGrade 7
    | _ => s.legNak f.cmd 4

/-- PAPER: L, LENGTH_UM ÷ 100, tray and bin. -/
def State.legPaper (s : State) (f : LegFrame) : State :=
  match f.payload with
  | [l0, l1, n0, n1, tray, bin] =>
    if l0 + 256 * l1 = 0 then s.legNak f.cmd 4
    else
      let s1 := (s.legAck f.cmd []).setFld Reg.LEG_PAGE 15 0 (l0 + 256 * l1)
      { s1 with leg := { s1.leg with length := n0 + 256 * n1, tray := tray, bin := bin, paper := true } }
  | _ => s.legNak f.cmd 4

/-- TOP: LSYNCs before data. -/
def State.legSetTop (s : State) (f : LegFrame) : State :=
  match f.payload with
  | [t0, t1] => if 4095 < t0 + 256 * t1 then s.legNak f.cmd 4 else (s.legAck f.cmd []).wrN Reg.LEG_TOP (t0 + 256 * t1)
  | _ => s.legNak f.cmd 4

/-- WIDTH: bytes per legacy line. -/
def State.legWidth (s : State) (f : LegFrame) : State :=
  match f.payload with
  | [w0, w1] =>
    if w0 + 256 * w1 = 0 ∨ s.legLineBytes / 8 < w0 + 256 * w1 then s.legNak f.cmd 4
    else
      let s1 := (s.legAck f.cmd []).setFld Reg.LEG_PAGE 26 16 (w0 + 256 * w1)
      { s1 with leg := { s1.leg with width := true } }
  | _ => s.legNak f.cmd 4

/-! ### Warm-up and sleep (R532) -/

/-- The writes of an engine pack's TYPE 4 or TYPE 5 records, by management firmware. -/
def State.legWrites (s : State) (ws : List (Nat × Nat)) : State := ws.foldl (fun t w => t.regWrite .mgmt w.1 (word w.2)) s

/-- WARMUP: first activation is requested; the TYPE 4 records follow in the tick after the activation. -/
def State.legWarmup (s : State) (f : LegFrame) : State :=
  if s.legState ≠ 2 then s.legNak f.cmd 3
  else if f.payload ≠ [] then s.legNak f.cmd 4
  else
    let s1 := ((s.legAck f.cmd []).requestSwitch).setLeg 3
    { s1 with leg := { s1.leg with warmDue := true } }

/-- SLEEP: the TYPE 5 records, then RELEASE. -/
def State.legSleep (s : State) (f : LegFrame) : State :=
  if s.legState ≠ 4 ∨ s.ledg.sheets ≠ [] then s.legNak f.cmd 3
  else if f.payload ≠ [] then s.legNak f.cmd 4
  else
    let s1 := (((s.legAck f.cmd []).legWrites s.leg.sleep).requestRelease).setLeg 5
    { s1 with leg := { s1.leg with syncs := false } }

/-- The loops that the TYPE 4 records enable. -/
def State.legLoops (s : State) : List Nat :=
  s.leg.warm.filterMap (fun w => if w.2 % 8 = 1 then regIndex w.1 (Reg.LOOP_LP_CMD 0) 128 64 else none)

/-- A station is LOCKED, armed, and has IDX_VALID where its plan needs it (R532). -/
def State.legStation (s : State) (i : Nat) : Bool :=
  decide (s.gate i = 2) && s.flag (Reg.BEAM_STN_STATE i) 3 && (decide (s.fld (Reg.SCAN_STN_CFG i) 1 0 ≠ 1) || s.idxValid i)

/-- The conditions under which WARMING ends. -/
def State.legWarm (s : State) : Bool :=
  !s.leg.warmDue && (List.range 4).all s.legStation && s.legLoops.all (fun l => decide (s.loopMode l = 1))

/-- P of R531 in 10 ns × 256, for the grade in force: 16 lines of 25.4 mm ÷ 2400. -/
def State.legPeriod (s : State) : Nat := 16 * 25400 * 640000 * 2 ^ 24 / (2400 * gradeSpeed s.grade)

/-- The syncs start: their first edge falls one period from now (log entry 29). -/
def State.startSyncs (s : State) : State :=
  let s1 := s.wrN Reg.LEG_PERIOD s.legPeriod
  { s1 with leg := { s1.leg with syncs := true, edgeAt := s.tick * 640000 + s.legPeriod, goRun := 0 } }

/-- LEG_READY (R532). -/
def effLegReady (s : State) : Host.Outcome State Fault Refusal :=
  if s.legState = 3 ∧ s.legWarm then .next (if s.legJammed then s.setLeg 4 else (s.setLeg 4).startSyncs) else .next s

/-- LEG_STANDBY (R532). -/
def effLegStandby (s : State) : Host.Outcome State Fault Refusal :=
  if s.legState = 5 ∧ s.holding then .next (s.setLeg 2) else .next s

/-! ### Losses, jams (R527, R538) -/

/-- A sheet that is not in the path is purged, and counts as lost. -/
def State.legPurge (s : State) (id cause : Nat) : State :=
  match s.sheet id with
  | some sh =>
    if sh.state = .announced ∨ sh.state = .admitted ∨ ((sh.state = .spoiled ∨ sh.state = .jammed) ∧ !sh.inPath) then
      ((s.purgeSheet sh).legLost id cause).legTrace 2 (Config.payload 0x1304 [id, cause])
    else s
  | none => s

/-- CLEAR_JAM (R538): JAM_CLEAR with the current count; then every JAMMED and SPOILED sheet is purged. -/
def State.legClearJam (s : State) (f : LegFrame) : State :=
  if !((s.legState = 4 ∨ s.legState = 3) ∧ s.legJammed) ∨ s.leg.jamAt = s.tick + 1 ∨ !s.jammed then s.legNak f.cmd 3
  else if f.payload ≠ [] then s.legNak f.cmd 4
  else
    let it : Item := { tag := mkTag 0 0 0 6 0, ring := 31, index := 0, serial := 0, count := 1, cookie := 0, cpl := false, len := 0,
                       opcode := 0x12, block := 3, data := leBytes 48 (s.rdN Reg.LEDG_COUNT_JAM), target := 0, readyAt := 0 }
    let s1 := (s.legAck f.cmd []).decideJamClear it
    let ids := (s1.sheets.filter (fun x => decide (x.state = .jammed) || decide (x.state = .spoiled))).map (·.id)
    let s2 := (ids.foldl (fun t id => t.legPurge id 0x10) s1).setFlag Reg.LEG_STATUS 3 false
    if s2.legState = 4 then s2.startSyncs else s2

/-- CANCEL (R527): the last page that has qualified and has not been admitted. -/
def State.legCancel (s : State) (f : LegFrame) : State :=
  let waiting := s.leg.pages.filter (fun p => (s.sheet p.id).any (fun x => decide (x.state = .announced)))
  match waiting.getLast? with
  | none => s.legNak f.cmd 3
  | some p => if f.payload ≠ [] then s.legNak f.cmd 4 else (s.legAck f.cmd []).legPurge p.id 0x41

/-! ### ENGINE_INFO and the register window (R527, R530) -/

/-- VERSION major and minor of the personality image. -/
def State.legMajor (s : State) : Nat := s.fld Reg.LCS_PERS_VERSION 31 24
def State.legMinor (s : State) : Nat := s.fld Reg.LCS_PERS_VERSION 23 16

/-- ENGINE_INFO. -/
def State.legInfo (s : State) (f : LegFrame) : State :=
  if f.payload ≠ [] then s.legNak f.cmd 4 else s.legAck f.cmd [0x20, 0x02, s.legMajor, s.legMinor]

/-- A byte of the legacy register window (R530). -/
def State.legWindow (s : State) (a : Nat) : Nat :=
  match a with
  | 0x00 => 0x20
  | 0x01 => 0x02
  | 0x02 => s.legMajor
  | 0x03 => s.legMinor
  | 0x10 => (decide (s.grade = 7)).toNat
  | 0x11 => s.legW % 256
  | 0x12 => s.legW / 256
  | 0x13 => s.legL % 256
  | 0x14 => s.legL / 256
  | 0x15 => s.legTop % 256
  | 0x16 => s.legTop / 256
  | 0x20 => (s.flag Reg.LEG_TONER 0).toNat
  | 0x21 => (s.flag Reg.LEG_TONER 1).toNat
  | 0x22 => (s.flag Reg.LEG_TONER 2).toNat
  | 0x23 => (s.flag Reg.LEG_TONER 3).toNat
  | 0x30 => s.fld Reg.LEG_COUNT_PAGES 7 0
  | 0x31 => s.fld Reg.LEG_COUNT_PAGES 15 8
  | 0x32 => s.fld Reg.LEG_COUNT_PAGES 23 16
  | 0x33 => s.fld Reg.LEG_COUNT_PAGES 31 24
  | _ => 0

/-- READ_REG. -/
def State.legReadReg (s : State) (f : LegFrame) : State :=
  match f.payload with
  | [a] => s.legAck f.cmd [s.legWindow a]
  | _ => s.legNak f.cmd 4

/-- WRITE_REG: an ACK, and nothing is written. -/
def State.legWriteReg (s : State) (f : LegFrame) : State :=
  match f.payload with
  | [_, _] => s.legAck f.cmd []
  | _ => s.legNak f.cmd 4

/-! ### Frames (R525, R527) -/

/-- Decide one frame by its CMD. -/
def State.decideFrame (s : State) (f : LegFrame) : State :=
  if !f.good then s.legNak f.cmd 1
  else
    match f.cmd with
    | 0x10 => s.legStatus f
    | 0x11 => s.legReadError f
    | 0x20 => s.legSpeed f
    | 0x21 => s.legPaper f
    | 0x22 => s.legSetTop f
    | 0x23 => s.legWidth f
    | 0x30 => s.legWarmup f
    | 0x31 => s.legSleep f
    | 0x40 => s.legClearJam f
    | 0x41 => s.legCancel f
    | 0x50 => s.legInfo f
    | 0x60 => s.legReadReg f
    | 0x61 => s.legWriteReg f
    | _ => s.legNak f.cmd 2

/-- The frame that this tick may decide: the oldest, where no frame has been decided in the tick (R525). -/
def State.frontFrame (s : State) : Option LegFrame :=
  if s.legState ≠ 0 ∧ s.leg.decidedAt ≠ s.tick + 1 then s.leg.frames.head? else none

/-- The row of a command decides the front frame where it carries that command. -/
def State.legRow (s : State) (cmd : Nat) (f : State → LegFrame → State) : State :=
  match s.frontFrame with
  | some fr => if fr.good ∧ fr.cmd = cmd then f s fr else s
  | none => s

/-- In its decide phase a tick decides the front frame, whichever command it carries (R525). -/
def State.legDecide (s : State) : State :=
  match s.frontFrame with
  | some fr => s.decideFrame fr
  | none => s

/-- STATUS (R529). -/
def effStatus (s : State) : Host.Outcome State Fault Refusal := .next (s.legRow 0x10 State.legStatus)
/-- READ_ERROR (R527). -/
def execReadError (s : State) : Host.Outcome State Fault Refusal := .next (s.legRow 0x11 State.legReadError)
/-- SPEED (R528). -/
def effSpeed (s : State) : Host.Outcome State Fault Refusal := .next (s.legRow 0x20 State.legSpeed)
/-- PAPER (R527). -/
def execPaper (s : State) : Host.Outcome State Fault Refusal := .next (s.legRow 0x21 State.legPaper)
/-- TOP (R527). -/
def execTop (s : State) : Host.Outcome State Fault Refusal := .next (s.legRow 0x22 State.legSetTop)
/-- WIDTH (R527). -/
def execWidth (s : State) : Host.Outcome State Fault Refusal := .next (s.legRow 0x23 State.legWidth)
/-- WARMUP (R532). -/
def effWarmup (s : State) : Host.Outcome State Fault Refusal := .next (s.legRow 0x30 State.legWarmup)
/-- SLEEP (R532). -/
def effSleep (s : State) : Host.Outcome State Fault Refusal := .next (s.legRow 0x31 State.legSleep)
/-- CLEAR_JAM (R538). -/
def effClearJam (s : State) : Host.Outcome State Fault Refusal := .next (s.legRow 0x40 State.legClearJam)
/-- CANCEL (R527). -/
def effCancel (s : State) : Host.Outcome State Fault Refusal := .next (s.legRow 0x41 State.legCancel)
/-- ENGINE_INFO (R527). -/
def execEngineInfo (s : State) : Host.Outcome State Fault Refusal := .next (s.legRow 0x50 State.legInfo)
/-- READ_REG (R530). -/
def execReadReg (s : State) : Host.Outcome State Fault Refusal := .next (s.legRow 0x60 State.legReadReg)
/-- WRITE_REG (R530). -/
def execWriteReg (s : State) : Host.Outcome State Fault Refusal := .next (s.legRow 0x61 State.legWriteReg)

/-- The bytes of a frame are discarded (R525). -/
def State.discardFrame (s : State) (cmd : Nat) : State :=
  ({ s with leg := { s.leg with bytes := [] } }.legBad cmd 0x62).legPost 0x62

/-- The frame being assembled is complete: at most four wait (R525). -/
def State.completeFrame (s : State) (bytes : List Nat) : State :=
  let cmd := bytes.getD 2 0
  let n := bytes.getD 1 0
  let payload := (bytes.drop 3).take n
  let good := decide (legChk cmd payload = bytes.getD (3 + n) 0)
  let s1 := ({ s with leg := { s.leg with bytes := [] } } : State).legTrace 0 (bytes.map (BitVec.ofNat 8))
  if 4 ≤ s1.leg.frames.length then s1.discardFrame cmd
  else { s1 with leg := { s1.leg with frames := s1.leg.frames ++ [⟨cmd, payload, good, s.tick⟩] } }

/-- UART_BYTE_TIMEOUT (R525). -/
def State.byteTimeout (s : State) : State :=
  if s.leg.bytes ≠ [] ∧ s.leg.byteAt + 80 ≤ s.tick then s.discardFrame (s.leg.bytes.getD 2 0) else s

def execUartByteTimeout (s : State) : Host.Outcome State Fault Refusal := .next s.byteTimeout

/-- A byte joins the frame: STX, LEN up to 16, CMD, the payload and CHK (R524). -/
def State.joinByte (s : State) (b : Nat) : State :=
  let bs := s.leg.bytes ++ [b]
  let s1 : State := { s with leg := { s.leg with bytes := bs, byteAt := s.tick } }
  if bs.length = 1 then (if b = 2 then s1 else ({ s1 with leg := { s1.leg with bytes := [] } } : State).legPost 0x62)
  else if bs.length = 2 then (if b ≤ 16 then s1 else s1.discardFrame 0)
  else if bs.length = bs.getD 1 0 + 4 then s1.completeFrame bs
  else s1

/-- UART_BYTE (R525): a byte is gathered. One with a parity or framing error is discarded. -/
def execUartByte (b : Byte) (err : Bool) (s : State) : Host.Outcome State Fault Refusal :=
  if s.legState = 0 then .next s
  else
    let s1 := if s.leg.bytes ≠ [] ∧ s.leg.byteAt + 80 < s.tick then s.discardFrame (s.leg.bytes.getD 2 0) else s
    .next (if err then s1.legPost 0x62 else s1.joinByte b.toNat)

/-- UART_REPLY (R526, R529): the oldest reply is sent. A STATUS reply releases INT_N, unless a change has been decided in the
tick of its frame or since. -/
def execUartReply (s : State) : Host.Outcome State Fault Refusal :=
  match s.leg.replies with
  | [] => .next s
  | r :: rs =>
    if s.tick < r.due then .next s
    else
      let s1 := (({ s with leg := { s.leg with replies := rs } } : State).emit (.uartReply r.bytes)).legTrace 1
        (r.bytes.map (BitVec.ofNat 8))
      .next (match r.status with
        | some t =>
          if s.leg.changedAt ≤ t ∧ s.flag Reg.LEG_STATUS 6 then (s1.setFlag Reg.LEG_STATUS 6 false).emit (.legInt false) else s1
        | none => s1)

/-! ### Line syncs and the page handshake (R531, R533, R534) -/

/-- Sheets not yet COMMITTED, with those whose announcement waits. -/
def State.legAhead (s : State) : Nat :=
  (s.sheets.filter (fun x => decide (x.state = .announced) || decide (x.state = .admitted))).length + s.leg.qualified.length

/-- PAGE_REQ_N is to be low (R533). -/
def State.wantsPage (s : State) : Bool :=
  decide (s.legState = 4) && !s.legJammed && s.leg.paper && s.leg.width &&
  decide (s.legAhead < s.fld Reg.LEG_CFG 23 20) && decide (s.ledg.sheets.length + s.leg.qualified.length < 256) &&
  (decide (s.leg.dataEnd = 0) || decide (s.leg.dataEnd - 1 + s.fld Reg.LEG_GAP 15 0 ≤ s.leg.edge))

/-- Set the level of PAGE_REQ_N. -/
def State.setReq (s : State) (low : Bool) : State :=
  if low = s.flag Reg.LEG_STATUS 4 then s else (s.setFlag Reg.LEG_STATUS 4 low).emit (.pageReq low)

/-- Groups of a page at each station: ⌈L ÷ 4⌉ (R534). -/
def legGroups (l : Nat) : Nat := (l + 3) / 4

/-- SKIP_s. -/
def State.legSkip (s : State) (i : Nat) : Nat := s.fld (Reg.LEG_STN_SKIP i) 11 0

/-- The announcement that LEG makes for a page (R534). -/
def State.legItem (s : State) : Item :=
  { tag := mkTag s.leg.nextId 0 0 5 0, ring := 31, index := 0, serial := 0, count := 1, cookie := 0, cpl := false, len := 0, opcode := 1,
    block := 3,
    data := leBytes 1 0x0F ++ leBytes 3 0 ++ leBytes 4 (4 * s.legL) ++ leBytes 4 (s.leg.length * 100) ++ leBytes 4 0 ++
      leBytes 1 s.leg.tray ++ leBytes 1 s.leg.bin ++ List.replicate 30 0,
    target := 0, readyAt := 0 }

/-- A page qualifies at the present edge (R533, R534). -/
def State.qualify (s : State) : State :=
  let l := s.legL
  let p : LegPage := { id := s.leg.nextId, lines := l, width := s.legW, top := s.legTop, edge0 := s.leg.edge,
                       groups := [0, 0, 0, 0], rows := [[], [], [], []] }
  { s with leg := { s.leg with
      pages := s.leg.pages ++ [p], qualified := s.leg.qualified ++ [s.legItem], nextId := (s.leg.nextId + 1) % 2 ^ 32,
      dataEnd := s.leg.edge + s.legTop + s.legSkip 0 + legGroups l + 1, goSpent := true, goRun := 0 } }

/-- LSYNC_EDGE (R531, R533): the four syncs fall; GO is sampled; PAGE_REQ_N is set. An edge falls in the tick that holds its
time. -/
def execLsyncEdge (goLow : Bool) (s : State) : Host.Outcome State Fault Refusal :=
  if !(s.leg.syncs ∧ s.legState = 4 ∧ s.leg.edgeAt < (s.tick + 1) * 640000) then .next s
  else
    let counts := goLow && s.flag Reg.LEG_STATUS 4 && !s.leg.goSpent
    let run := if counts then s.leg.goRun + 1 else 0
    let s1 := ((s.emit .lsync).setFlag Reg.LEG_STATUS 5 goLow).wrN Reg.LEG_PERIOD s.legPeriod
    let s2 : State := { s1 with leg := { s1.leg with
      edge := s.leg.edge + 1, edgeAt := s.leg.edgeAt + s.legPeriod, goRun := run, goSpent := s.leg.goSpent && goLow } }
    .next (if 2 ≤ run then s2.qualify.setReq false else s2.setReq s2.wantsPage)

/-- The announcements that qualified in the tick that has ended are gathered (R534). -/
def State.legGather (s : State) : State :=
  let items := s.leg.qualified
  items.foldl (fun t it =>
      let id := tagSheet it.tag
      let f := ((t.leg.pages.filter (fun p => decide (p.id = id))).map (fun p => [p.lines, p.width, p.top])).headD []
      (((t.deliver 3 it).wrN Reg.LEG_LAST_ID id).raiseBit Reg.LEG_EVENTS 0).legEvent 0x1302 (id :: f))
    { s with leg := { s.leg with qualified := [] } }

/-! ### Video (R535 to R537) -/

/-- The eight bytes that a legacy byte becomes on one line: each bit four mode A pixels (R537). -/
def legByte (map0 map1 : Nat) (b : Byte) : List Byte :=
  (List.range 8).map (fun j => BitVec.ofNat 8 ((if bitOf b.toNat (7 - j) then map1 else map0) * 0x55))

/-- One engine line of a legacy line, filled up to LINE_BYTES with code 0. -/
def State.legLine (s : State) (row : List Byte) : List Byte :=
  let px := row.flatMap (legByte (s.fld Reg.LEG_CFG 17 16) (s.fld Reg.LEG_CFG 19 18))
  px ++ List.replicate (s.legLineBytes - px.length) 0

/-- The RAW item of a band (R537). -/
def State.legBand (s : State) (p : LegPage) (stn band : Nat) (rows : List (List Byte)) : Item :=
  let n := min 64 (4 * p.lines - 64 * band)
  let data := (rows.flatMap (fun r => List.replicate 4 (s.legLine r))).take n |>.flatten
  { tag := mkTag p.id stn band 1 0, ring := 31, index := 0, serial := 0, count := 1, cookie := 0, cpl := false, len := data.length,
    opcode := 0, block := 0, data := data, target := 0, readyAt := 0 }

/-- The page and the group that a station decides next. -/
def State.nextGroup (s : State) (stn : Nat) : Option (LegPage × Nat) :=
  (s.leg.pages.find? (fun p => decide (p.groups.getD stn 0 < legGroups p.lines))).map (fun p => (p, p.groups.getD stn 0))

/-- The edge that requests group `g` of a page at a station (R534). -/
def State.groupEdge (s : State) (p : LegPage) (stn g : Nat) : Nat := p.edge0 + p.top + s.legSkip stn + 1 + g

/-- The four lines of a group in page order: the group carries 4g + 3 first (R535). -/
def groupRows (w : Nat) (bs : List Byte) : List (List Byte) :=
  [3, 2, 1, 0].map (fun i => bytesAt bs (i * w) w)

/-- GROUP_WINDOW_CLOSE (R535 to R537): the group that station `stn` was to receive is decided. `bytes` are those received
before any fault; `fault` is 0 for none, 1 for a late or absent start, 2 for a code error. -/
def execGroupWindowClose (stn : Fin 4) (bytes : List Byte) (fault : Fin 3) (s : State) : Host.Outcome State Fault Refusal :=
  match s.nextGroup stn with
  | none => .next s
  | some (p, g) =>
    if s.leg.edge < s.groupEdge p stn g then .next s
    else
      let n := 4 * p.width
      let short := decide (fault.val ≠ 0) || decide (bytes.length < n)
      let bs := bytes.take n ++ List.replicate (n - bytes.length) 0
      let s1 := if fault.val = 2 then
          s.setFld (Reg.LEG_LANE_STATE stn) 31 16 (min 65535 (s.fld (Reg.LEG_LANE_STATE stn) 31 16 + 1)) else s
      let s2 := if short then
          ((s1.bump Reg.LEG_COUNT_UNDERRUN).raiseBit Reg.LEG_EVENTS 1 |>.legPost 0x20).legEvent 0x1303 [stn, g, min n bytes.length]
        else s1
      let rows := (p.rows.getD stn [] ++ groupRows p.width bs).take (p.lines - 16 * (g / 4))
      let ends := g % 4 = 3 ∨ g + 1 = legGroups p.lines
      let p1 : LegPage := { p with groups := p.groups.set stn (g + 1), rows := p.rows.set stn (if ends then [] else rows) }
      let s3 : State := { s2 with leg := { s2.leg with pages := s2.leg.pages.map (fun q => if q.id = p.id then p1 else q) } }
      .next (if ends then s3.deliver (32 + stn) (s3.legBand p stn (g / 4) rows) else s3)

/-- VIDEO_LANE_STATE_CHANGE (R540, R541): a lane moves between DOWN, ACQUIRE and LOCKED. -/
def execVideoLaneStateChange (lane : Fin 4) (st : Fin 3) (s : State) : Host.Outcome State Fault Refusal :=
  let old := s.fld (Reg.LEG_LANE_STATE lane) 1 0
  if s.legState = 0 ∨ old = st.val then .next s
  else .next (((s.setFld (Reg.LEG_LANE_STATE lane) 1 0 st).raiseBit Reg.LEG_EVENTS 5).event 0x1306 [lane, old, st])

/-! ### TRACE (R539) -/

/-- TRACE: the front command of block 0x13. Another OPCODE is a command that the chapter does not list, refused with a free
DETAIL (log entry 7). -/
def execTrace (s : State) : Host.Outcome State Fault Refusal :=
  match s.frontOf 0x13 20 2 with
  | none => .next s
  | some it =>
    let s := s.takeItem 0x13 20
    let q := leAt it.data 0 2 % 4096
    if it.opcode ≠ 1 then .next (s.complete it 4 (s.freeNat 1 % 256)).drawn
    else if leAt it.data 0 2 < 64 ∨ 4095 < leAt it.data 0 2 ∨ !(s.cq q).classT then .next (s.complete it 4 1)
    else .next ((s.wrN Reg.LEG_TRACE (q + (leAt it.data 2 1 % 2) * 32768)).complete it 0 0)

/-! ### What a tick does at the port -/

/-- The pages whose sheets have been delivered, spoiled and run out, or freed (R538). -/
def State.legOutcome (s : State) (p : LegPage) : State :=
  let drop (t : State) : State := { t with leg := { t.leg with pages := t.leg.pages.filter (fun q => decide (q.id ≠ p.id)) } }
  match s.sheet p.id with
  | some sh =>
    match sh.state with
    | .delivered => (drop s).bump Reg.LEG_COUNT_PAGES
    | .purged => drop s
    | .spoiled =>
      if !sh.inPath ∧ !s.leg.purges.any (fun x => decide (x.1 = p.id)) then
        ({ s with leg := { s.leg with purges := s.leg.purges ++ [(p.id, s.tick + 1)] } } : State).legPost 0x21
      else s
    | _ => s
  | none => if s.leg.qualified.any (fun it => decide (tagSheet it.tag = p.id)) ∨
        (s.inboxOf 3).any (fun it => decide (it.ring = 31) && decide (tagSheet it.tag = p.id)) then s else drop s

/-- The purges that are due (R538). -/
def State.legPurges (s : State) : State :=
  let due := s.leg.purges.filter (fun x => decide (x.2 ≤ s.tick))
  due.foldl (fun t x => t.legPurge x.1 0x21)
    { s with leg := { s.leg with purges := s.leg.purges.filter (fun x => decide (s.tick < x.2)) } }

/-- The decide phase at the port: a late byte, the front frame, the warm-up writes, purges, and the outcomes of pages. -/
def State.legTick (s : State) : State :=
  if s.legState = 0 then s
  else
    let s1 := s.byteTimeout.legDecide
    let s2 : State := if s1.leg.warmDue ∧ !s1.holding then
        { s1 with leg := { s1.leg with warmDue := false } }.legWrites s1.leg.warm else s1
    let s3 := s2.legPurges
    s3.leg.pages.foldl State.legOutcome s3

/-- The emit phase at the port: INT_N goes low where byte 0 has changed or a code has been posted (R529). -/
def State.legEmit (s : State) : State :=
  if s.legState = 0 then s
  else
    let b := s.legByte0
    if b = s.leg.byte0 ∧ s.leg.changedAt ≠ s.tick + 1 then s
    else
      let s1 : State := { s with leg := { s.leg with byte0 := b, changedAt := s.tick + 1 } }
      if s.flag Reg.LEG_STATUS 6 then s1 else (s1.setFlag Reg.LEG_STATUS 6 true).emit (.legInt true)

/-! ### The engine pack and the release (R521, R522) -/

/-- The records of a pack's body: TYPE and payload, ending with TYPE 0xFF; none where the structure is wrong. -/
def packRecords : Nat → List Byte → Option (List (Nat × List Byte))
  | 0, _ => none
  | n + 1, bs =>
    let t := leAt bs 0 1
    let len := leAt bs 1 3
    if bs.length < 4 + len then none
    else if t = 0xFF then (if len = 0 ∧ bs.length = 4 then some [] else none)
    else if (t = 1 ∨ t = 4 ∨ t = 5) ∧ len = 8 ∨ t = 2 ∧ 8 ≤ len ∧ len % 4 = 0 ∨ t = 3 ∧ len = 528384 then
      (packRecords n (bs.drop (4 + len))).map (fun rs => (t, bytesAt bs 4 len) :: rs)
    else none

/-- The records of an engine pack whose MAGIC, LENGTH, CRC and structure are right (R521). -/
def packBody (pack : List Byte) : Option (List (Nat × List Byte)) :=
  let len := leAt pack 4 4
  let body := bytesAt pack 16 len
  if leAt pack 0 4 = 0x4B455047 ∧ 4 ≤ len ∧ len ≤ 2097136 ∧ leAt pack 12 4 = 0 ∧ body.length = len ∧ crc32 body = leAt pack 8 4 then
    packRecords (len / 4 + 1) body
  else none

/-- Offset and value of a TYPE 1, 4 or 5 record. -/
def packWrite (p : List Byte) : Nat × Nat := (leAt p 0 4, leAt p 4 4)

/-- Apply the TYPE 1 and TYPE 2 records in order until one is refused; a TYPE 3 record loads the standby bank. -/
def State.applyPack : List (Nat × List Byte) → State → Bool × State
  | [], s => (true, s)
  | (t, p) :: rs, s =>
    let w := packWrite p
    if t = 1 then
      if s.writeRefused .mgmt w.1 (word w.2) ∨ w.1 % 4 ≠ 0 then (false, s.bar0Write .mgmt w.1 4 (BitVec.ofNat 64 w.2))
      else State.applyPack rs (s.regWrite .mgmt w.1 (word w.2))
    else if t = 2 then
      if s.bar1Refused w.1 (p.length - 4) then (false, s.discarded 1 1 w.1)
      else State.applyPack rs (s.bar1Store w.1 (p.drop 4))
    else if t = 3 then
      State.applyPack rs ((List.range 129).foldl (fun u k => u.loadPiece k (bytesAt p (4096 * k) 4096)) s)
    else State.applyPack rs s

/-- The standby bank is checked at once (R55): READY or REFUSED. -/
def State.checkNow (s : State) : State :=
  if s.sbState ≠ 1 then s
  else
    let m := s.standbyImage
    match checkImage m s.alm.written none with
    | some f => s.refuseBank f
    | none => ((s.setSb 3).raiseBit Reg.ALM_EVENTS 0).event 0x0201 [imgBuildId m, imgEngineId m, imgMasks m]

/-- Step 3 of R522. -/
def State.packFits (s : State) : Bool :=
  let m := s.standbyImage
  decide (s.sbState = 3) && decide (imgStnMask m = 0x0F) &&
  [6, 7].all (fun g => volValid m g && !volModeB m g && decide (volLineBytes m g % 8 = 0) && decide (volLineBytes m g ≤ 8192)) &&
  !s.flag Reg.LEDG_CFG 0 && !s.flag Reg.LEDG_PACE_CFG 0

/-- The steps of the release up to the first failure: its CODE, or 0 (R522). -/
def State.releaseSteps (s : State) (pack : List Byte) : Nat × State :=
  match packBody pack with
  | none => (1, s)
  | some rs =>
    let r := State.applyPack rs s
    let t := r.2.checkNow
    let keep (k : Nat) : List (Nat × Nat) := rs.filterMap (fun x => if x.1 = k then some (packWrite x.2) else none)
    let u : State := { t with leg := { t.leg with warm := keep 4, sleep := keep 5 } }
    if !r.1 then (2, r.2)
    else if t.sbState = 4 then (3, t)
    else if !t.packFits then (4, t)
    else if !t.flag Reg.LCS_STATUS 3 then (5, t)
    else (0, u.setLock)

/-- ENGINE_RELEASE (R522): management firmware releases the engine from the pack. -/
def State.engineRelease (s : State) (pack : List Byte) : State :=
  let r := s.releaseSteps pack
  let t := r.2.event 0x1301 [r.1]
  if r.1 = 0 then t.setLeg 2
  else (((t.setLeg 1).setFld Reg.LEG_STATUS 10 8 r.1).raiseBit Reg.LEG_EVENTS 3).legPost 0x50

end Sys2Proof.Machine
end

