-- ==== Sys2Proof/Machine/Boot.lean ====
section
/-!
DEFINITION. The boot: the images of the flash and their checks, recovery, the version pairings, the wipe of a life-cycle
change, and the start of management firmware (R501 to R508, R512). The boot is carried out whole, at its end (log entry
30).
-/

namespace Sys2Proof.Machine

/-! ### Images (R503, R504) -/

/-- VERSION of an image. -/
def imageVersion (img : List Byte) : Nat := leAt img 8 4

/-- The body of an image. -/
def imageBody (img : List Byte) : List Byte := bytesAt img 0x100 (leAt img 0x0C 4)

/-- LENGTH is in range for the TYPE (R503). -/
def imageLength (type n : Nat) : Bool :=
  match type with
  | 1 => decide (1 ≤ n) && decide (n ≤ 786432)
  | 2 => decide (1 ≤ n) && decide (n ≤ 524288)
  | _ => decide (16 ≤ n) && decide (n ≤ 65280) && decide (n % 16 = 0)

/-- The life-cycle state permits the key (R510). -/
def keyAllowed (fused key : Nat) : Bool := decide (key = 0) || (decide (key = 1) && (decide (fused = 1) || decide (fused = 3)))

/-- Checks 1 to 4 of R504: the code of the first that fails, or 0. -/
def headCode (type fused : Nat) (img : List Byte) : Nat :=
  let key := leAt img 5 1
  let pub := bytesAt img 0x40 64
  if img.length < 0x100 ∨ leAt img 0 4 ≠ 0x4B51494D ∨ leAt img 4 1 ≠ type ∨ leAt img 6 2 ≠ 0x100 ∨
      !imageLength type (leAt img 0x0C 4) ∨ !zerosAt img 0x18 8 ∨ !zerosAt img 0xC0 64 then 1
  else if !keyAllowed fused key ∨ sha256 pub ≠ Config.keyHash key then 2
  else if !ecdsaVerify pub (sha256 (bytesAt img 0 0x80)) (bytesAt img 0x80 64) then 3
  else if type = 1 ∧ !(leAt img 0x10 1 ≤ 0x0C ∧ 0x0C ≤ leAt img 0x11 1) then 4
  else 0

/-- Check 5 of R504. -/
def bodyOk (img : List Byte) : Bool :=
  decide ((imageBody img).length = leAt img 0x0C 4) && decide (sha256 (imageBody img) = bytesAt img 0x20 32)

/-- All the checks of R504 on one image. -/
def imageCode (type fused : Nat) (img : List Byte) : Nat :=
  let h := headCode type fused img
  if h ≠ 0 then h else if bodyOk img then 0 else 5

/-- The slot taken of a pair (0 A, 1 B), and the code of each: the valid image with the greater VERSION, A when they are
equal; a body that fails falls back to the other slot. A slot that is not needed keeps its body unread. -/
def pickSlot (type fused : Nat) (a b : List Byte) : Option (Nat × List Byte) × Nat × Nat :=
  let ca := headCode type fused a
  let cb := headCode type fused b
  let aFirst := decide (ca = 0) && (decide (cb ≠ 0) || decide (imageVersion b ≤ imageVersion a))
  if aFirst then
    if bodyOk a then (some (0, a), ca, cb)
    else if cb = 0 then (if bodyOk b then (some (1, b), 5, 0) else (none, 5, 5))
    else (none, 5, cb)
  else if cb = 0 then
    if bodyOk b then (some (1, b), ca, cb)
    else if ca = 0 then (if bodyOk a then (some (0, a), 0, 5) else (none, 5, 5))
    else (none, ca, 5)
  else (none, ca, cb)

/-! ### Pairings (R505, R507) -/

/-- A matrix lists an entry of a KIND for this firmware VERSION with this code. -/
def matrixLists (mat : List Byte) (kind fw code : Nat) : Bool :=
  (List.range ((imageBody mat).length / 16)).any (fun i =>
    let e := bytesAt (imageBody mat) (16 * i) 16
    decide (leAt e 0 1 = kind) && decide (leAt e 4 4 = fw) && decide (leAt e 8 4 = code))

/-- The imaging gate: tested, untested with an acceptance, or untested (R507, R508). -/
def State.pairFirmware (s : State) (fw : Nat) (tested : Bool) : State :=
  let closed := decide (s.lcs.fused = 0) || decide (s.lcs.fused = 3)
  if tested then s.setFlag Reg.LCS_STATUS 3 (!closed)
  else if s.lcs.accepted.contains fw then
    (((s.setFlag Reg.LCS_STATUS 4 true).setFlag Reg.LCS_STATUS 5 true).setFlag Reg.LCS_STATUS 3 (!closed)).event 0x1203
      [fw, 0x0C, 1]
  else (s.setFlag Reg.LCS_STATUS 4 true).event 0x1202 [fw, 0x0C]

/-- The REASON for which CE220 mode is refused with MODESEL high, or 0 (R507). -/
def ce220Reason (fw : List Byte) (pers : Option (List Byte)) (mat : Option (List Byte)) : Nat :=
  match pers with
  | none => 1
  | some p =>
    let api := leAt fw 0x12 2
    if !(leAt p 0x10 2 ≤ api ∧ api ≤ leAt p 0x12 2) then 2
    else if !mat.any (fun m => matrixLists m 2 (imageVersion fw) (imageVersion p)) then 3
    else 0

/-- The mode (R3, R507). -/
def State.pairMode (s : State) (modesel : Bool) (reason : Nat) (versions : List Nat) : State :=
  if !modesel then s.setFlag Reg.HOST_MODE 0 false
  else if reason = 0 then s.setFlag Reg.HOST_MODE 0 true
  else
    ((((s.setFlag Reg.HOST_MODE 0 false).setFlag Reg.LCS_STATUS 6 true).setFld Reg.LCS_STATUS 11 8 reason).fault 0x480 0x02
      (0x400 + reason)).event 0x1204 (reason :: versions)

/-! ### The wipe of a life-cycle change (R512) -/

/-- Step 2 of R501: where the fused state differs from the marker, persistent configuration and Heartwood are erased, the RWS
registers are cleared, 0x1205 is the one record, and the new marker is written. -/
def State.lifecycleWipe (s : State) : State :=
  if s.lcs.marker = some s.lcs.fused then s
  else
    let old := (s.lcs.marker.map (· + 1)).getD 0
    let s1 : State := { s with
      regs := s.regs.filter (fun r => !(regRow r.1).any (fun x => decide (x.access = .rws))),
      lcs := { s.lcs with accepted := [], marker := some s.lcs.fused } }
    s1.wipeStore 0x1205 [old, s.lcs.fused]

/-! ### Steps 3 to 5 -/

/-- Management firmware starts (R213, R384, R468, R501, R522). -/
def State.startFirmware (s : State) (f : Flash) : State :=
  let s1 := s.configureQueues.setFlag Reg.HOST_STATUS 0 true
  let s2 : State := { s1 with lcs := { s1.lcs with booted := true, trainDue := some (s1.tick + 1) } }
  let s3 := if s2.flag Reg.PWR_SEQ_CFG 1 then s2.seqUp else s2
  if s3.ce220 then s3.engineRelease f.pack else s3

/-- Steps 4 and 5 of R501, with the firmware image that is booted and its slot (2 staged). -/
def State.bootWith (s : State) (f : Flash) (slot : Nat) (fw : List Byte) (codes : Nat) : State :=
  let modesel := s.flag Reg.CLK_STATUS 17
  let mat := pickSlot 3 s.lcs.fused f.matA f.matB
  let pers := if modesel then pickSlot 2 s.lcs.fused f.persA f.persB else (none, 0, 0)
  let matImg := mat.1.map (·.2)
  let persImg := pers.1.map (·.2)
  let v := imageVersion fw
  let pv := (persImg.map imageVersion).getD 0
  let mv := (matImg.map imageVersion).getD 0
  let status := codes + pers.2.1 * 2 ^ 8 + pers.2.2 * 2 ^ 12 + mat.2.1 * 2 ^ 16 + mat.2.2 * 2 ^ 20 + slot * 2 ^ 24 +
    (pers.1.map (·.1)).getD 0 * 2 ^ 26
  let s1 := s.pairFirmware v (matImg.any (fun m => matrixLists m 1 v 0x0C))
  let s2 := s1.pairMode modesel (ce220Reason fw persImg matImg) [v, pv, mv]
  let s3 := (((s2.wrN Reg.LCS_FW_VERSION v).wrN Reg.LCS_PERS_VERSION pv).wrN Reg.LCS_MATRIX_VERSION mv).wrN Reg.LCS_BOOT_STATUS
    status
  (s3.event 0x1201 [s.rdN Reg.CLK_RST_CAUSE, s3.rdN Reg.HOST_MODE, v, pv, mv, status]).startFirmware f

/-- The boot ROM can run: the core reset is released, the SRAM wipe and the start-up scan of Heartwood have ended, and no
firmware runs. -/
def State.romReady (s : State) : Bool := s.clk.up && !s.clk.wiping && s.hwdReady && !s.lcs.booted

/-- BOOT (R501): the boot ROM wipes where it must, chooses and checks the images, and boots or enters recovery (R506). In END
it stops after step 2. -/
def execBoot (f : Flash) (s : State) : Host.Outcome State Fault Refusal :=
  if !s.romReady ∨ s.flag Reg.LCS_STATUS 7 then .next s
  else
    let s1 := s.lifecycleWipe
    if s.lcs.fused = 4 then .next s1
    else
      let p := pickSlot 1 s.lcs.fused f.fwA f.fwB
      let codes := p.2.1 + p.2.2 * 16
      match p.1 with
      | some (slot, fw) => .next (s1.bootWith f slot fw codes)
      | none => .next ((s1.setFlag Reg.LCS_STATUS 7 true).wrN Reg.LCS_BOOT_STATUS codes)

/-- The image that host software has staged in the scratch area (R506). -/
def State.stagedImage (s : State) : List Byte := memBytes s.sram 0x700000 (256 + memLe s.sram 0x70000C 4 % 2 ^ 20)

/-- BOOT_STAGED (R506): in recovery the staged image is checked as R504 gives; a valid one is booted as staged, and another
leaves its code. The personality and the matrix come from the flash. -/
def execBootStaged (f : Flash) (s : State) : Host.Outcome State Fault Refusal :=
  if !s.romReady ∨ !s.flag Reg.LCS_STATUS 7 then .next s
  else
    let img := s.stagedImage
    let c := imageCode 1 s.lcs.fused img
    if c = 0 then .next ((s.setFlag Reg.LCS_STATUS 7 false).bootWith f 2 img (s.fld Reg.LCS_BOOT_STATUS 7 0))
    else .next (s.setFld Reg.LCS_BOOT_STATUS 3 0 c)

end Sys2Proof.Machine
end

