-- ==== Sys2Proof/Machine/Decide.lean ====
section
/-!
DEFINITION. The decide phase (R24, R27 to R29, R144): the gather that comes before it, the decisions with which it opens, and
the decisions that end it. A command that is a decision opens the phase where the tick has not yet; one of a ledger step
waits for the steps before it.
-/

namespace Sys2Proof.Machine

/-! ### Gather (R24, R25, R41) -/

/-- Carry out a row; what it leaves where it goes on. -/
def State.act (s : State) (f : State → Host.Outcome State Fault Refusal) : State :=
  match f s with
  | .next t => t
  | _ => s

/-- One gather slot of the page (R41, R45, R298, R335, R366, R391, R483). -/
def State.gatherSlot (s : State) (p : PageSlot) : State :=
  match p.block, p.op with
  | 1, 1 => s.drainDoorbells p.object
  | 0x0C, 1 => s.readCells p.object (p.param % 16)
  | 9, 1 => s.stepLinkIn p.object
  | 0x0A, 1 => s.axisLinkIn p.object
  | 0x0B, 1 => s.hvLinkIn p.object
  | 0x15, 1 => s.gatherChain
  | 0x15, 2 => s.homeCapture p.object
  | 0x0F, 1 => s.gatherReads
  | _, _ => s

/-- The slots of one phase of the present page, in slot order (R41). -/
def State.phaseSlots (s : State) (phase : Nat) : List PageSlot := s.slots.filter (fun p => decide (p.phase = phase))

/-- The begun reports that the tick gathers (R134): each sets its deadline, and feeds the consumption rate (R153). -/
def State.gatherBegun (s : State) : State := s.upTo s.ledg.reports.length (fun t _ => t.act execBandBegun)

/-- The gather work of a tick: Canopy's linking, the page's gather slots, and the gather work that needs none. -/
def State.gatherAll (s : State) : State :=
  let s1 := (s.phaseSlots 0).foldl State.gatherSlot s.linkCells
  s1.drainTelemetry.drainCompletions.readHolding.poolCheck.gatherBegun

/-! ### Opening (R28, R29) -/

/-- The facet periods that axis `a` gathers (R352, R357). -/
def State.facetPeriods (s : State) (a : Nat) : State :=
  s.upTo s.axis.periods.length (fun t _ => t.act (execFacetPeriodGathered (Fin.ofNat 24 a)))

/-- The decisions with which the phase opens: the forecast on the state as it was gathered (R153); safe-state entry and the
reactions of the fault collector, which come before all others (R29, R427, R434); what the returns, the facet periods and the
masters' positions decide. -/
def State.openWork (s : State) : State :=
  let s1 := s.forecast.gatherPaths.fltEvaluate.retrainLinks
  let s2 := s1.retestSwitch.governorStepDown.paceStage.axisReturns.hvReturns.stepReturns
  (s2.upTo 24 State.facetPeriods).upTo 48 State.camDecide

/-- The gather of the tick is over and its decide phase begins, once. -/
def State.openDecide (s : State) : State :=
  if s.decideOpen ∨ !s.clk.up then s
  else
    let g := s.gatherAll
    ({ g with alm := { g.alm with opened := g.tick + 1 } } : State).openWork

/-! ### Turns (R27, R144, R305, R346, R373) -/

/-- When a command takes its place in the tick: at any time; in the decide phase; in it, after what is due for a stepper, a
synchronous axis or a loop; or in it, as one of the steps 1 to 7 of R144. -/
inductive Turn where
  | any
  | decide
  | step (a : Nat)
  | axis (a : Nat)
  | loop (l : Nat)
  | ledg (k : Nat)
  deriving DecidableEq, Repr

/-- A report of a kind waits to be decided in this tick. -/
def State.reportWaits (s : State) (k : ReportKind) : Bool := (s.firstReport k).isSome

/-- Step 1 of R144 has something to decide: a head shut-down, or LSI_N's low. -/
def State.step1Waits (s : State) : Bool :=
  s.reportWaits .headShutdown || s.beam.interlock.any (fun i => decide (i.1 < s.tick))

/-- The bands of a sheet at a station that a deadline of this tick names (R134). -/
def State.bandsDue (s : State) (sh : Sheet) (stn : Nat) : List Nat :=
  (s.commitBands sh ++ (sh.due.filter (fun (d : Nat × Nat) => decide (d.1 / 4096 = stn))).map (fun (d : Nat × Nat) => d.1 % 4096)).filter
    (fun b => s.deadlineDue sh stn b)

/-- Step 2 of R144 has something to decide: a deadline on data, or a report. -/
def State.step2Waits (s : State) : Bool :=
  s.sheets.any (fun sh => sh.stationList.any (fun i => decide (s.bandsDue sh i ≠ []))) ||
  s.reportWaits .decodeFailure || s.reportWaits .underrun || s.reportWaits .observerLoss || s.reportWaits .beamFailure

/-- The points and edges of R131. -/
def points : List (Fin 4 × Bool) := (List.finRange 4).flatMap (fun k => [(k, false), (k, true)])

/-- A target of a sheet is met without an edge in this tick (R132). -/
def State.targetFalls (s : State) (sh : Sheet) (point : Nat) (trail : Bool) : Bool :=
  !s.pointActive point && sh.awaits point trail && s.fallen (s.target sh point trail)

/-- Step 3 of R144 has something to decide: an edge, the end of its window, or a target that needs none. -/
def State.step3Waits (s : State) : Bool :=
  (List.range 4).any (fun k => s.pointActive k && (s.gatherScap (s.pointInput k) k).isSome) ||
  s.sheets.any (fun sh => points.any (fun p => s.windowPast sh p.1 p.2 || s.targetFalls sh p.1 p.2))

/-- A step of R144 before step `k` has still something to decide in this tick. -/
def State.waits (s : State) (k : Nat) : Bool :=
  (decide (1 < k) && s.step1Waits) || (decide (2 < k) && s.step2Waits) || (decide (3 < k) && s.step3Waits) ||
  (decide (4 < k) && (s.frontOf 3 4 2).isSome)

/-- The state in which a command of this turn is decided. -/
def State.begin (s : State) : Turn → State
  | .any => s
  | .decide => s.openDecide
  | .step a => (s.openDecide.linkDue (.step (Fin.ofNat 2 (a / 24)))).stepDue a
  | .axis a => (s.openDecide.linkDue (.axis (Fin.ofNat 4 (a / 6)))).axisDue a
  | .loop l => s.openDecide.linkDue (.hv (Fin.ofNat 2 (s.openDecide.loopLink l)))
  | .ledg _ => s.openDecide

/-- A command of this turn can be decided: a ledger step where the page holds DEADLINES and no earlier step waits. -/
def State.ready (s : State) : Turn → Bool
  | .ledg k => s.pageHas 3 1 0 && !s.waits k
  | _ => true

/-- Decide a command in its turn with `f`; one whose step has not come yet waits. -/
def Turn.run (u : Turn) (f : State → Host.Outcome State Fault Refusal) (s : State) : Host.Outcome State Fault Refusal :=
  let t := s.begin u
  if t.ready u then f t else .next t

/-- The registers whose write requests decisions in the decide phase, beside those of motion (R53, R62, R172, R276, R396, R405,
R434, R437, R438, R465, R468, R498). -/
def decideRegs : List Nat :=
  [Reg.ALM_CTRL, Reg.ALM_GRADE_REQ, Reg.LEDG_BH_CTRL, Reg.BEAM_CTRL, Reg.CNPY_QCMD, Reg.FLT_CTRL, Reg.FLT_ESC_CLR,
   Reg.PWR_SEQ_CTRL, Reg.PWR_DOM_REQ, Reg.CLK_RST_CTRL]

/-- The turn of a register write into BAR0: a request is decided in the decide phase, in its turn (R53, R305, R346, R373). A write
of any other register, and a doorbell, takes its place at any time. -/
def regTurn (bar2 : Bool) (off : Nat) : Turn :=
  if bar2 then .any
  else
    match regIndex off (Reg.STEP_AX_CMD 0) 128 48, regIndex off (Reg.AXIS_AX_CMD 0) 128 24,
        regIndex off (Reg.LOOP_LP_CMD 0) 128 64 with
    | some a, _, _ => .step a
    | _, some a, _ => .axis a
    | _, _, some l => .loop l
    | _, _, _ =>
      if decideRegs.contains off || regIn off (Reg.BEAM_STN_CTRL 0) 64 8 || regIn off (Reg.DMA_CH_CTRL 0) 64 64 then .decide
      else .any

end Sys2Proof.Machine
end

