-- ==== Sys2Proof/Machine/Tick.lean ====
section
/-!
DEFINITION. TICK: the gather of one engine tick and the decisions of it that no command of its own has made, in their order, the
compute and emit work, and the step to the next tick (R24 to R29, R45 to R47, R144).
-/

namespace Sys2Proof.Machine

/-! ### What is due before the slots (R29, R297, R305, R346) -/

/-- The links of the chip. -/
def allLinks : List LinkId :=
  (List.finRange 8).map LinkId.beam ++ (List.finRange 4).map LinkId.axis ++ (List.finRange 2).map LinkId.step ++
  (List.finRange 2).map LinkId.hv

/-- The deadlines of one link (R290, R297, R334, R364). -/
def State.linkClose (s : State) (l : LinkId) : State :=
  ((s.linkDue l).act (execLinkTrainingTimeout l)).act (execLinkRetrain l)

/-- The deadlines of a beam link's reports and table frames (R287, R291). -/
def State.beamClose (s : State) (i : Nat) : State :=
  let s1 := s.act (execReportTimeout (Fin.ofNat 8 i))
  (s1.bm i).flights.foldl (fun t f => t.act (execTableAckTimeout (Fin.ofNat 8 i) (Fin.ofNat 20 f.1))) s1

/-- What is due for a stepper axis, and the end of its dwell (R305, R306). -/
def State.stepClose (s : State) (a : Nat) : State := (s.stepDue a).act (effReverseDwellEnd (Fin.ofNat 48 a))

/-- The deadlines of links and axes. -/
def State.closeMotion (s : State) : State :=
  (((allLinks.foldl State.linkClose s).upTo 8 State.beamClose).upTo 48 State.stepClose).upTo 24 State.axisDue

/-! ### The ledger (R144) -/

/-- Decide a row as often as there are reports. -/
def State.eachReport (s : State) (f : State → Host.Outcome State Fault Refusal) : State :=
  s.upTo s.ledg.reports.length (fun t _ => t.act f)

/-- A decision of every sheet. -/
def State.eachSheet (s : State) (f : State → Nat → State) : State := s.sheets.foldl (fun t sh => f t sh.id) s

/-- Step 1: the consequences of hardware paths. -/
def State.ledgerHeads (s : State) : State := (s.eachReport effHeadShutdownReport).act effInterlockGathered

/-- The data deadlines of a sheet that fall in this tick. -/
def State.sheetDeadlines (s : State) (sh : Sheet) : State :=
  sh.stationList.foldl
    (fun t i => (s.bandsDue sh i).foldl (fun u b => u.act (effBandDeadline sh.id (Fin.ofNat 8 i) b)) t) s

/-- Step 2: data deadlines, decode errors, underruns, observer loss and beam failure. -/
def State.ledgerSpoils (s : State) : State :=
  let s1 := s.sheets.foldl State.sheetDeadlines s
  ((((s1.eachReport effDecodeFailureReport).eachReport effUnderrunReport).eachReport effObserverLossReport).eachReport
    effBeamFailureReport)

/-- The windows and targets of a sheet that end in this tick. -/
def State.sheetTargets (s : State) (id : Nat) : State :=
  points.foldl (fun t p => (t.act (effEdgeWindowExpiry id p.1 p.2)).act (effTargetWithoutEdge id p.1 p.2)) s

/-- The edges gathered at a point: at most as many as its input's queue holds. -/
def State.pointEdges (s : State) (k : Nat) : State :=
  s.upTo ((s.sio.scap.map (fun x => x.queue.length)).foldl max 0) (fun t _ => t.act (effSheetEdge (Fin.ofNat 4 k)))

/-- Step 3: edges and targets. -/
def State.ledgerEdges (s : State) : State := (s.upTo 4 State.pointEdges).eachSheet State.sheetTargets

/-- One ledger item of ring 0. -/
def State.ledgerItem (s : State) : State :=
  ((((s.act effAnnounce).act effPurge).act effReprint).act effJamClear).act effQuery

/-- Steps 4 and 5: ring 0 items, and early-wait deadlines. A data header waits for its own row, which names its frames. -/
def State.ledgerItems (s : State) : State :=
  (s.upTo (s.inboxOf 3).length (fun t _ => t.ledgerItem)).upTo 8 (fun t i => t.act (effEarlyWaitExpiry (Fin.ofNat 8 i)))

/-- The phase that follows the backhitch's present one (R167). -/
def State.bhClose (s : State) : State :=
  (((((((s.act effBhDecel).act effBhStop).act effBhReverse).act effBhPark).act effBhAccel).act effBhReverseAgain).act
    effBhEnd).act effParkLong

/-- Steps 6 and 7: the backhitch or the admission of the head; commits and the progress of the sheets, the backhitch's phase,
the entries freed, and the governor. -/
def State.ledgerPath (s : State) : State :=
  let s1 := (s.act effBackhitchDecided).act effAdmission
  let s2 := (s1.eachSheet (fun t id => t.act (effCommit id))).eachReport effLastLine
  let s3 := (s2.eachSheet State.progress).bhClose.eachSheet (fun t id => t.act (effEntryFreed id))
  (s3.act effGovernorStepUp).showHead

/-- The ledger's decisions of a tick, in the order of R144. -/
def State.closeLedger (s : State) : State := s.ledgerHeads.ledgerSpoils.ledgerEdges.ledgerItems.ledgerPath

/-! ### The decide slots (R41, R45, R391, R483) -/

/-- TIMEOUT_SCAN (R391). -/
def State.closeClassT (s : State) : State :=
  (s.cnpy.queues.map (·.1)).foldl (fun t q => t.act (effClassTTimeout (Fin.ofNat 4096 q))) s

/-- COMPARE: the readings, the thaw of heads and the repeats of the throttle (R477, R478, R481). -/
def State.closeThermal (s : State) : State := (s.compareThermal.upTo 8 State.thawHead).act effThrottleRepeat

/-- One decide slot of the page. EVALUATE is served as the phase opens, REFILL among HWD's decisions (R452). -/
def State.decideSlot (s : State) (p : PageSlot) : State :=
  match p.block, p.op with
  | 3, 1 => s.closeLedger
  | 0x0C, 2 => s.closeClassT
  | 0x10, 1 => s.closeThermal
  | _, _ => s

/-! ### Decisions that need no slot -/

/-- The Almanac's: the checker's last tick, what is granted, and what lapses or drains (R56, R60 to R65). -/
def State.closeAlmanac (s : State) : State :=
  let late := s.alm.checkAt.any (fun g => decide (g + 8 ≤ s.tick))
  let s1 := if late then s.act (effCheckDone none) else s
  (((((s1.act effFirstActivation).act effBankSwitch).act effGradeChange).act effSwitchLapse).act effReleaseAfterDrain).act
    effDrainingEnd

/-- Power: the slots and deadlines of the rails, the wait in OFF, margins (R469 to R474). -/
def State.closePower (s : State) : State :=
  (((s.upTo 8 State.railSlot).upTo 64 State.pgTimeout).offWaitEnd.upTo 64 State.marginStep).maybeUp

/-- DMA: every channel's turn, and the errors of the bus (R407, R411, R419). -/
def State.closeDma (s : State) : State := (s.upTo 64 State.channelTurn).dmaReport

/-- The legacy port and LSI_N (R281, R532). -/
def State.closePort (s : State) (i : TickIn) : State :=
  (((s.completeTables.lsiTick i.lsiHigh).legTick).act effLegReady).act effLegStandby

/-- What the model completes at the end of the range that the spec gives it, where no command has before: the SRAM wipe and the
recorder's scan (log entry 82). -/
def State.closeWaits (s : State) : State :=
  let s1 := if 44 ≤ s.tick then s.act execSramWipeDone else s
  if 80 ≤ s1.tick then s1.act execRecorderScanDone else s1

/-- Heartwood's decisions (R451, R452, R457). -/
def State.closeRecorder (s : State) : State :=
  (s.closeWaits.hwdDecide.summaries.act execChallengeLapse).act execLockoutEnd

/-- Whether P has passed the latest admission point stands for the next tick (R163). -/
def State.notePast (s : State) : State := { s with pace := { s.pace with past := s.admissionPast } }

/-- A decision that may reset the chip, in a tick that no reset has ended. -/
def State.lastly (s : State) (f : State → State) : State := if s.decideOpen then f s else s

/-- Resets come last: the wait of a reset, the thaw restart and, once the chip has booted, the watchdog (R431, R480, R499; log
entry 82). -/
def State.closeResets (s : State) : State :=
  let s1 := (s.lastly State.resetWaitEnd).lastly State.thawRestart
  if s1.lcs.booted then s1.lastly State.watchdog else s1

/-- The decisions of the tick that no command has made: deadlines, the decide slots in page order (R29), the decisions that
need no slot, and resets. -/
def State.closeDecide (s : State) (i : TickIn) : State :=
  let s1 := (s.phaseSlots 1).foldl State.decideSlot s.closeMotion
  let s2 := ((s1.closeAlmanac.act effDecodeBinding).act effGapRetrain).closePower.closeDma
  ((s2.closePort i).closeRecorder.notePast).closeResets

/-! ### Compute -/

/-- One compute slot (R299, R314, R335, R367). -/
def State.computeSlot (s : State) (p : PageSlot) : State :=
  match p.block, p.op with
  | 9, 2 => s.profileStep p.object
  | 9, 4 => s.vmasterStep p.object
  | 0x0A, 2 => s.focStep p.object
  | 0x0B, 2 => s.loopStep p.object
  | _, _ => s

/-- The compute work of a tick (R24, R41): the page's compute slots in their order, then the path position (R112). Frames
decided on earlier come back (R212). -/
def State.tickCompute (s : State) : State :=
  let s1 := s.loopBegin.returnFrames.beamFailures.runResets.bhMotion.stepBegin.axisBegin
  ((s1.phaseSlots 2).foldl State.computeSlot s1).stepEndCompute.movePath

/-! ### Emit -/

/-- INTERRUPT: the rings' vectors, the write-back entries and the messages (R92, R103, R104). -/
def State.emitVectors (s : State) : State :=
  ((s.upTo 16 (fun t k => t.act (execRingVector (Fin.ofNat 16 k)))).writeBacks).sendVectors

/-- One emit slot (R41, R45, R298, R318, R335, R366, R391). -/
def State.emitSlot (s : State) (p : PageSlot) : State :=
  match p.block, p.op with
  | 9, 3 => s.stepLinkOut p.object
  | 0x0A, 3 => s.axisLinkOut p.object
  | 0x0B, 3 => s.hvLinkOut p.object
  | 0x15, 3 => s.chainEmit
  | 0x0C, 3 => s.cnpyNotices
  | 1, 2 => s.emitVectors
  | _, _ => s

/-- On the holding page every link sends its idle frame (R59): no axis and no loop runs. -/
def State.idleFrames (s : State) : State :=
  if s.holding then ((s.upTo 2 State.stepLinkOut).upTo 4 State.axisLinkOut).upTo 2 State.hvLinkOut else s

/-- The emit work of a tick (R24, R26): picks, the page's emit slots in their order, record export, the port. -/
def State.tickEmit (s : State) : State :=
  let s1 := (s.eachSheet (fun t id => t.act (effPick id))).idleFrames
  ((s1.phaseSlots 3).foldl State.emitSlot s1).exportRecords.legEmit.act execTakingResumed

/-! ### The end of the tick -/

/-- A set of decode bindings decided before a RELEASE takes effect on the holding page, where no facet comes (R193). -/
def State.holdBindings (s : State) : State :=
  match s.burl.bindNext with
  | some b => if s.holding then s.applyBindings b else s
  | none => s

/-- What the tick leaves for the next one (R24, R28, R47): edges gathered leave their queues, facet plans and loop and axis
bookkeeping settle, inputs that have stood count, and the season index advances. -/
def State.tickSettle (s : State) (i : TickIn) : State :=
  let s1 := (s.trimScap.holdBindings.settlePlans.upTo 8 State.drumNote).loopEnd.axisEnd.settleAll
  let s2 := (match i.chain with
    | some n => s1.latchChain ((List.range 256).map (bitOf n))
    | none => s1)
  let s3 := s2.scrubTick.dmaTick.updateGap.countEntries
  (({ s3 with flt := { s3.flt with left := none }, host := { s3.host with read := [] } } : State).seasonAdvance).applyJoins.completionsReady

/-- The tick counter goes on (R24); what the next tick gathers at the port is taken, and the slots of its page are read (R68). -/
def State.tickEnd (s : State) (i : TickIn) : State :=
  let t := s.tickSettle i
  (({ t with tick := (t.tick + 1) % 2 ^ 48 } : State).legGather).readPage i.slotErrors

/-- The work of a whole tick (R24). A reset ends the tick where it is decided. -/
def State.runTick (s : State) (i : TickIn) : State :=
  let t := s.openDecide.closeDecide i
  if t.decideOpen then t.tickCompute.tickEmit.tickEnd i else t

/-- TICK (R24): one engine tick ends. No tick runs before SYSPLL is in lock (R494). -/
def execTick (i : TickIn) (s : State) : Host.Outcome State Fault Refusal :=
  .next (if s.clk.up then s.runTick i else s)

end Sys2Proof.Machine
end

