-- ==== Sys2Proof/Machine/RegRead.lean ====
section
/-!
DEFINITION. What a read of a BAR0 register answers (R7, R8): the stored word, and, where the machine keeps more than the
register shows, the word that it shows of that. Reading changes nothing; the one read with an effect, that of CLK_TICK_LO,
is a command (R515).
-/

namespace Sys2Proof.Machine

/-- The bits of `p` below 32, as a word. -/
def maskOf (p : Nat → Bool) : Nat := (List.range 32).foldl (fun n i => n + (p i).toNat * 2 ^ i) 0

/-- The signed value `x` >> `k` in 48-bit two's complement, low or high word. -/
def pos48 (x : Int) (k : Nat) (high : Bool) : Nat :=
  if high then bitsOf (codeOf 48 (asr x k)) 47 32 else codeOf 48 (asr x k) % 2 ^ 32

/-- STEP_AXa_STATE (R327). -/
def State.stepStateWord (s : State) (a : Nat) : Nat :=
  let x := s.ax a
  x.mode.code + (decide (x.v ≠ 0)).toNat * 16 + x.homed.toNat * 32 + x.camLock.toNat * 64 + x.hphase % 4 * 256

/-- Registers of stepper axis `a` at offset `o` of its group (R326). -/
def State.stepView (s : State) (a o : Nat) : Option Nat :=
  match o with
  | 0x14 => some (s.stepStateWord a)
  | 0x1C => some (pos48 (s.ax a).pos 24 false)
  | 0x20 => some (pos48 (s.ax a).pos 24 true + codeOf 16 (asr (s.ax a).pos 8) * 65536)
  | 0x24 => some (codeOf 32 (asr (s.ax a).v 8))
  | _ => none

/-- Registers of synchronous axis `a` at offset `o` of its group (R359). -/
def State.axisView (s : State) (a o : Nat) : Option Nat :=
  match o with
  | 0x10 => some (s.axisStateWord a)
  | 0x18 => some (pos48 (s.sx a).p 0 false)
  | 0x1C => some (pos48 (s.sx a).p 0 true)
  | 0x20 => some (pos48 (s.sx a).pcmd 24 false)
  | 0x24 => some (pos48 (s.sx a).pcmd 24 true)
  | 0x28 => some (codeOf 32 (s.sx a).vEst)
  | 0x2C => some (codeOf 32 (asr (s.sx a).vcmd 16))
  | 0x70 => some ((s.sx a).conf % 256 + (s.sx a).amplitude % 65536 * 65536)
  | _ => none

/-- The used stations that no enabled decompressor lane serves (R200). -/
def State.unboundStations (s : State) : List Nat :=
  if s.holding then [] else unboundIn s.dbindsNow (imgStnMask s.active)

/-- Compressor lane `l` is enabled and bound to station `i` (R188). -/
def State.compServes (s : State) (l i : Nat) : Bool :=
  s.flag (Reg.BURL_CBIND l) 7 && decide (s.fld (Reg.BURL_CBIND l) 2 0 = i)

/-- Registers whose value is formed from the state of a block (R63, R151, R297, R328, R398, R421, R441, R461, R517). -/
def State.blockView (s : State) (a : Nat) : Option Nat :=
  if a = Reg.LEDG_QUERY_STATE then some (s.queryState (s.rdN Reg.LEDG_QUERY_ID))
  else if a = Reg.BURL_STATUS then
    some (s.rdN a % 2 + maskOf (fun i => (s.unboundStations).contains i) * 2 ^ 8 +
      maskOf (fun i => i < 8 && (List.range 16).all (fun l => !s.compServes l i)) * 2 ^ 16)
  else if a = Reg.STEP_ENABLED0 then some (maskOf (fun i => (s.ax i).enabled))
  else if a = Reg.STEP_ENABLED1 then some (maskOf (fun i => i < 16 && (s.ax (32 + i)).enabled))
  else if a = Reg.AXIS_ENABLED then some (maskOf (fun i => i < 24 && (s.sx i).mode ≠ .disabled))
  else if a = Reg.LOOP_ENABLED_LO then some (s.loopsEnabled 0)
  else if a = Reg.LOOP_ENABLED_HI then some (s.loopsEnabled 1)
  else if a = Reg.SIO_SCAP_LEVEL then some (maskOf (fun i => i < 8 && (s.sio.scap.getD i ScapIn.init).level))
  else if a = Reg.CNPY_STATUS then
    some (s.freeCells % 2 ^ 17 + (decide (s.cnpy.scrubs ≠ [])).toNat * 2 ^ 17 + (decide (s.cnpy.notices ≠ [])).toNat * 2 ^ 18)
  else if a = Reg.CNPY_OWED then some (s.owed % 2 ^ 17)
  else if a = Reg.CNPY_RES_TOTAL then some (s.resTotal % 2 ^ 17)
  else if a = Reg.DMA_ACTIVE_LO then some (s.dmaActive 0)
  else if a = Reg.DMA_ACTIVE_HI then some (s.dmaActive 1)
  else if a = Reg.FLT_BLOCK_PEND then some s.blockPend
  else if a = Reg.FLT_STATUS then some (putBit (s.rdN a) 1 s.errnLow)
  else if a = Reg.HWD_STATUS then some (putBit (s.rdN a) 4 s.lcs.key.isSome)
  else if a = Reg.HWD_EPOCH then some s.hwd.epoch
  else if a = Reg.HWD_HEAD_SEQ then some (s.hwd.head.getD 0)
  else if a = Reg.HWD_OLDEST_SEQ then some s.oldestSeq
  else if a = Reg.CLK_TICK_LO then some (s.tick % 2 ^ 32)
  else if a = Reg.CLK_FMON then some (Config.free s.fresh % 2 ^ 20)
  else if a = Reg.LCS_UID_LO then some (Config.uid % 2 ^ 32)
  else if a = Reg.LCS_UID_HI then some (Config.uid / 2 ^ 32)
  else none

/-- Registers of a group whose value is formed from the state of a block. -/
def State.groupView (s : State) (a : Nat) : Option Nat :=
  match regIndex a (Reg.ALM_COST_TABLE 0) 4 1024, regIndex a (Reg.STEP_VM_POS 0) 16 8, regIndex a (Reg.SIO_OUT 0) 4 8,
      regIndex a (Reg.LOOP_LP_DUTY 0) 128 64, regIndex a (Reg.CLK_BAND_b 0 0) 4 32 with
  | some k, _, _, _, _ => some (costEntry (k / 32) (2 * k % 64) + costEntry (k / 32) (2 * k % 64 + 1) * 65536)
  | _, some j, _, _, _ => some (codeOf 32 (asr (tabGet 0 s.step.vmPos j) 24))
  | _, _, some j, _, _ => some (s.chainOut j)
  | _, _, _, some l, _ => some (s.loopDuty l % 8192 + s.fld (Reg.LOOP_LP_DUTY l) 31 16 * 65536)
  | _, _, _, _, some b => some (Config.sysBand b)
  | _, _, _, _, _ =>
    if 0xC1000 ≤ a ∧ a < 0xC1000 + 48 * 128 then s.stepView ((a - 0xC1000) / 128) (a % 128)
    else if 0xD1000 ≤ a ∧ a < 0xD1000 + 24 * 128 then s.axisView ((a - 0xD1000) / 128) (a % 128)
    else none

/-- What a read of the register at BAR0 offset `a` answers. A write-only register, and a reserved offset, reads zero
(R7, R8). -/
def State.regRead (s : State) (a : Nat) : Word :=
  match regRow a with
  | none => 0
  | some r =>
    if r.access = .wo then 0
    else
      match s.blockView a with
      | some n => word n
      | none =>
        match s.groupView a with
        | some n => word n
        | none => s.rd a

/-! ### Reads through the windows (R71 to R77, R89) -/

/-- A read of BAR0 of a width (R73, R75): 32-bit and naturally aligned, in the MSI-X table 64-bit, too; zero otherwise. -/
def State.bar0Read (s : State) (off width : Nat) : DWord :=
  if width = 4 ∧ off % 4 = 0 then (s.regRead off).setWidth 64
  else if width = 8 ∧ off % 8 = 0 ∧ inMsixTable off then (s.regRead (off + 4)) ++ (s.regRead off)
  else 0

/-- A read of `n` bytes of BAR1 from offset `o` (R73, R76, R77): the SRAM contents in the table windows, zero in the Almanac
window and at reserved offsets. -/
def State.bar1Read (s : State) (o n : Nat) : List Byte :=
  (List.range n).map (fun i => if (tableOwner (o + i) 1).isSome then memByte s.sram (o + i) else 0)

/-- A read of BAR2 of a width (R73, R75, R89): the index that host software last had accepted at offset 0 of a page; zero
otherwise. -/
def State.bar2Read (s : State) (off width : Nat) : Word :=
  if width = 4 ∧ off % 4096 = 0 ∧ off < 65536 then s.rd (Reg.HOST_RING_HIDX (off / 4096)) else 0

/-- The answer to a configuration request: Configuration Request Retry Status, or a word. -/
inductive ConfigAnswer where
  | retry
  | data (w : Word)
  deriving DecidableEq, Repr

/-- Words of the configuration space (R71): vendor and device, revision and class code, subsystem vendor and subsystem. The
words that R71 does not name are free values. -/
def State.configWord (s : State) (off : Nat) : Nat :=
  match off with
  | 0x00 => 0x96401F9A
  | 0x08 => 0x1180000C
  | 0x2C => ((s.lcs.subsystem.map leNat).getD 0x96401F9A)
  | o => Config.free (s.fresh + o)

/-- A configuration read (R71, R72): Retry Status until the SRAM wipe has ended. -/
def State.configRead (s : State) (off : Nat) : ConfigAnswer :=
  if !s.clk.up || s.clk.wiping then .retry else .data (word (s.configWord off))

/-- Max Payload Size and Max Read Request Size in force, in bytes (R71, R72). -/
def State.maxPayload (s : State) : Nat := 128 * 2 ^ s.host.pci.payload.val
def State.maxRequest (s : State) : Nat := 128 * 2 ^ s.host.pci.request.val

/-- The requests of at most `limit` bytes that carry `n` bytes from host address `a`, none across a 4 KB boundary (R72): the
first of at most `fuel`. -/
def splitTlps (limit : Nat) : Nat → Nat → Nat → List (Nat × Nat)
  | 0, _, _ => []
  | _, _, 0 => []
  | fuel + 1, a, n + 1 =>
    let k := min (n + 1) (min limit (4096 - a % 4096))
    (a, k) :: splitTlps limit fuel (a + k) (n + 1 - k)

/-- The TLPs of an output that reaches host memory (R72). -/
def State.tlps (s : State) (o : Out) : List (Nat × Nat) :=
  match o with
  | .ringEntry _ _ a bs => splitTlps s.maxPayload bs.length a bs.length
  | .hostWrite a bs => splitTlps s.maxPayload bs.length a bs.length
  | .writeBack _ a _ _ => [(a, 8)]
  | .hostRead _ a n => splitTlps s.maxRequest n a n
  | _ => []

end Sys2Proof.Machine
end

