-- ==== Sys2Proof/Machine/Turns.lean ====
section
/-!
DEFINITION. The commands that are decisions of a tick, each in its turn (R24, R27 to R29, R144): the decide phase opens first where
the tick has not opened it, what comes before the command in the phase is decided, and its meaning runs on the state that leaves.
-/

namespace Sys2Proof.Machine

/-- GOVERNOR_STEP_UP, in the decide phase (R24). -/
def execGovernorStepUp (s : State) : Host.Outcome State Fault Refusal := Turn.run .decide effGovernorStepUp s

/-- CHECK, in the decide phase (R24). -/
def execCheck (s : State) : Host.Outcome State Fault Refusal := Turn.run .decide effCheck s

/-- CHECK_DONE, in the decide phase (R24). -/
def execCheckDone (storage : Option (Fin 129)) (s : State) : Host.Outcome State Fault Refusal :=
  Turn.run .decide (effCheckDone storage) s

/-- SWITCH, in the decide phase (R24). -/
def execSwitch (s : State) : Host.Outcome State Fault Refusal := Turn.run .decide effSwitch s

/-- FIRST_ACTIVATION, in the decide phase (R24). -/
def execFirstActivation (s : State) : Host.Outcome State Fault Refusal := Turn.run .decide effFirstActivation s

/-- BANK_SWITCH, in the decide phase (R24). -/
def execBankSwitch (s : State) : Host.Outcome State Fault Refusal := Turn.run .decide effBankSwitch s

/-- GRADE_REQUEST, in the decide phase (R24). -/
def execGradeRequest (g : Fin 8) (s : State) : Host.Outcome State Fault Refusal := Turn.run .decide (effGradeRequest g) s

/-- GRADE_CHANGE, in the decide phase (R24). -/
def execGradeChange (s : State) : Host.Outcome State Fault Refusal := Turn.run .decide effGradeChange s

/-- ALM_CANCEL, in the decide phase (R24). -/
def execAlmCancel (s : State) : Host.Outcome State Fault Refusal := Turn.run .decide effAlmCancel s

/-- RELEASE, in the decide phase (R24). -/
def execRelease (s : State) : Host.Outcome State Fault Refusal := Turn.run .decide effRelease s

/-- RELEASE_AFTER_DRAIN, in the decide phase (R24). -/
def execReleaseAfterDrain (s : State) : Host.Outcome State Fault Refusal := Turn.run .decide effReleaseAfterDrain s

/-- SWITCH_LAPSE, in the decide phase (R24). -/
def execSwitchLapse (s : State) : Host.Outcome State Fault Refusal := Turn.run .decide effSwitchLapse s

/-- DRAINING_END, in the decide phase (R24). -/
def execDrainingEnd (s : State) : Host.Outcome State Fault Refusal := Turn.run .decide effDrainingEnd s

/-- REGISTER_WRITE, in the turn of the request that the register carries. -/
def execRegisterWrite (w : Writer) (bar2 : Bool) (off width : Nat) (v : DWord) (s : State) : Host.Outcome State Fault Refusal :=
  Turn.run (regTurn bar2 off) (effRegisterWrite w bar2 off width v) s

/-- ANNOUNCE, step 4 of the ledger's order (R144). -/
def execAnnounce (s : State) : Host.Outcome State Fault Refusal := Turn.run (.ledg 4) effAnnounce s

/-- PURGE, step 4 of the ledger's order (R144). -/
def execPurge (s : State) : Host.Outcome State Fault Refusal := Turn.run (.ledg 4) effPurge s

/-- REPRINT, step 4 of the ledger's order (R144). -/
def execReprint (s : State) : Host.Outcome State Fault Refusal := Turn.run (.ledg 4) effReprint s

/-- JAM_CLEAR, step 4 of the ledger's order (R144). -/
def execJamClear (s : State) : Host.Outcome State Fault Refusal := Turn.run (.ledg 4) effJamClear s

/-- QUERY, step 4 of the ledger's order (R144). -/
def execQuery (s : State) : Host.Outcome State Fault Refusal := Turn.run (.ledg 4) effQuery s

/-- DATA_HEADER, step 5 of the ledger's order (R144). -/
def execDataHeader (stn : Fin 8) (frames : List Nat) (s : State) : Host.Outcome State Fault Refusal :=
  Turn.run (.ledg 5) (effDataHeader stn frames) s

/-- EARLY_WAIT_EXPIRY, step 5 of the ledger's order (R144). -/
def execEarlyWaitExpiry (stn : Fin 8) (s : State) : Host.Outcome State Fault Refusal :=
  Turn.run (.ledg 5) (effEarlyWaitExpiry stn) s

/-- FRAMES_AVAILABLE, in the decide phase (R24). -/
def execFramesAvailable (stn : Fin 8) (frames : List Nat) (s : State) : Host.Outcome State Fault Refusal :=
  Turn.run .decide (effFramesAvailable stn frames) s

/-- ADMISSION, step 6 of the ledger's order (R144). -/
def execAdmission (s : State) : Host.Outcome State Fault Refusal := Turn.run (.ledg 6) effAdmission s

/-- COMMIT, step 7 of the ledger's order (R144). -/
def execCommit (id : Nat) (s : State) : Host.Outcome State Fault Refusal := Turn.run (.ledg 7) (effCommit id) s

/-- PICK, in the decide phase (R24). -/
def execPick (id : Nat) (s : State) : Host.Outcome State Fault Refusal := Turn.run .decide (effPick id) s

/-- SHEET_EDGE, step 3 of the ledger's order (R144). -/
def execSheetEdge (point : Fin 4) (s : State) : Host.Outcome State Fault Refusal :=
  Turn.run (.ledg 3) (effSheetEdge point) s

/-- EDGE_WINDOW_EXPIRY, step 3 of the ledger's order (R144). -/
def execEdgeWindowExpiry (id : Nat) (point : Fin 4) (trail : Bool) (s : State) : Host.Outcome State Fault Refusal :=
  Turn.run (.ledg 3) (effEdgeWindowExpiry id point trail) s

/-- TARGET_WITHOUT_EDGE, step 3 of the ledger's order (R144). -/
def execTargetWithoutEdge (id : Nat) (point : Fin 4) (trail : Bool) (s : State) : Host.Outcome State Fault Refusal :=
  Turn.run (.ledg 3) (effTargetWithoutEdge id point trail) s

/-- BAND_DEADLINE, step 2 of the ledger's order (R144). -/
def execBandDeadline (id : Nat) (stn : Fin 8) (band : Nat) (s : State) : Host.Outcome State Fault Refusal :=
  Turn.run (.ledg 2) (effBandDeadline id stn band) s

/-- LAST_LINE, step 7 of the ledger's order (R144). -/
def execLastLine (s : State) : Host.Outcome State Fault Refusal := Turn.run (.ledg 7) effLastLine s

/-- UNDERRUN_REPORT, step 2 of the ledger's order (R144). -/
def execUnderrunReport (s : State) : Host.Outcome State Fault Refusal := Turn.run (.ledg 2) effUnderrunReport s

/-- BEAM_FAILURE_REPORT, step 2 of the ledger's order (R144). -/
def execBeamFailureReport (s : State) : Host.Outcome State Fault Refusal := Turn.run (.ledg 2) effBeamFailureReport s

/-- HEAD_SHUTDOWN_REPORT, step 1 of the ledger's order (R144). -/
def execHeadShutdownReport (s : State) : Host.Outcome State Fault Refusal := Turn.run (.ledg 1) effHeadShutdownReport s

/-- OBSERVER_LOSS_REPORT, step 2 of the ledger's order (R144). -/
def execObserverLossReport (s : State) : Host.Outcome State Fault Refusal := Turn.run (.ledg 2) effObserverLossReport s

/-- DECODE_FAILURE_REPORT, step 2 of the ledger's order (R144). -/
def execDecodeFailureReport (s : State) : Host.Outcome State Fault Refusal := Turn.run (.ledg 2) effDecodeFailureReport s

/-- ENTRY_FREED, in the decide phase (R24). -/
def execEntryFreed (id : Nat) (s : State) : Host.Outcome State Fault Refusal := Turn.run .decide (effEntryFreed id) s

/-- BACKHITCH_DECIDED, step 6 of the ledger's order (R144). -/
def execBackhitchDecided (s : State) : Host.Outcome State Fault Refusal := Turn.run (.ledg 6) effBackhitchDecided s

/-- BH_DECEL, step 7 of the ledger's order (R144). -/
def execBhDecel (s : State) : Host.Outcome State Fault Refusal := Turn.run (.ledg 7) effBhDecel s

/-- BH_STOP, step 7 of the ledger's order (R144). -/
def execBhStop (s : State) : Host.Outcome State Fault Refusal := Turn.run (.ledg 7) effBhStop s

/-- BH_REVERSE, step 7 of the ledger's order (R144). -/
def execBhReverse (s : State) : Host.Outcome State Fault Refusal := Turn.run (.ledg 7) effBhReverse s

/-- BH_PARK, step 7 of the ledger's order (R144). -/
def execBhPark (s : State) : Host.Outcome State Fault Refusal := Turn.run (.ledg 7) effBhPark s

/-- BH_ACCEL, step 7 of the ledger's order (R144). -/
def execBhAccel (s : State) : Host.Outcome State Fault Refusal := Turn.run (.ledg 7) effBhAccel s

/-- BH_REVERSE_AGAIN, step 7 of the ledger's order (R144). -/
def execBhReverseAgain (s : State) : Host.Outcome State Fault Refusal := Turn.run (.ledg 7) effBhReverseAgain s

/-- BH_END, step 7 of the ledger's order (R144). -/
def execBhEnd (s : State) : Host.Outcome State Fault Refusal := Turn.run (.ledg 7) effBhEnd s

/-- ABANDON, in the decide phase (R24). -/
def execAbandon (s : State) : Host.Outcome State Fault Refusal := Turn.run .decide effAbandon s

/-- PARK_LONG, step 7 of the ledger's order (R144). -/
def execParkLong (s : State) : Host.Outcome State Fault Refusal := Turn.run (.ledg 7) effParkLong s

/-- DECODE_BINDING, in the decide phase (R24). -/
def execDecodeBinding (s : State) : Host.Outcome State Fault Refusal := Turn.run .decide effDecodeBinding s

/-- GAP_RETRAIN, in the decide phase (R24). -/
def execGapRetrain (s : State) : Host.Outcome State Fault Refusal := Turn.run .decide effGapRetrain s

/-- ARM, in the decide phase (R24). -/
def execArm (i : Fin 8) (s : State) : Host.Outcome State Fault Refusal := Turn.run .decide (effArm i) s

/-- DISARM, in the decide phase (R24). -/
def execDisarm (i : Fin 8) (s : State) : Host.Outcome State Fault Refusal := Turn.run .decide (effDisarm i) s

/-- RESELECT, in the decide phase (R24). -/
def execReselect (i : Fin 8) (s : State) : Host.Outcome State Fault Refusal := Turn.run .decide (effReselect i) s

/-- CLEAR_FAILED, in the decide phase (R24). -/
def execClearFailed (i : Fin 8) (s : State) : Host.Outcome State Fault Refusal := Turn.run .decide (effClearFailed i) s

/-- ILK_CLEAR, in the decide phase (R24). -/
def execIlkClear (s : State) : Host.Outcome State Fault Refusal := Turn.run .decide effIlkClear s

/-- INTERLOCK_GATHERED, step 1 of the ledger's order (R144). -/
def execInterlockGathered (s : State) : Host.Outcome State Fault Refusal := Turn.run (.ledg 1) effInterlockGathered s

/-- LINK_TIMEOUT, in the decide phase (R24). -/
def execLinkTimeout (l : LinkId) (s : State) : Host.Outcome State Fault Refusal := Turn.run .decide (effLinkTimeout l) s

/-- STEP_START_TIMEOUT, in the decide phase (R24). -/
def execStepStartTimeout (a : Fin 48) (s : State) : Host.Outcome State Fault Refusal :=
  Turn.run .decide (effStepStartTimeout a) s

/-- STEP_ENABLE, after what is due for its axis (R305). -/
def execStepEnable (a : Fin 48) (s : State) : Host.Outcome State Fault Refusal := Turn.run (.step a) (effStepEnable a) s

/-- STEP_DISABLE, after what is due for its axis (R305). -/
def execStepDisable (a : Fin 48) (s : State) : Host.Outcome State Fault Refusal := Turn.run (.step a) (effStepDisable a) s

/-- STEP_MOVE, after what is due for its axis (R305). -/
def execStepMove (a : Fin 48) (prof : Fin 8) (s : State) : Host.Outcome State Fault Refusal :=
  Turn.run (.step a) (effStepMove a prof) s

/-- STEP_VELOCITY, after what is due for its axis (R305). -/
def execStepVelocity (a : Fin 48) (prof : Fin 8) (s : State) : Host.Outcome State Fault Refusal :=
  Turn.run (.step a) (effStepVelocity a prof) s

/-- STEP_STOP, after what is due for its axis (R305). -/
def execStepStop (a : Fin 48) (s : State) : Host.Outcome State Fault Refusal := Turn.run (.step a) (effStepStop a) s

/-- STEP_HOME, after what is due for its axis (R305). -/
def execStepHome (a : Fin 48) (s : State) : Host.Outcome State Fault Refusal := Turn.run (.step a) (effStepHome a) s

/-- STEP_ENGAGE, after what is due for its axis (R305). -/
def execStepEngage (a : Fin 48) (s : State) : Host.Outcome State Fault Refusal := Turn.run (.step a) (effStepEngage a) s

/-- STEP_DISENGAGE, after what is due for its axis (R305). -/
def execStepDisengage (a : Fin 48) (s : State) : Host.Outcome State Fault Refusal :=
  Turn.run (.step a) (effStepDisengage a) s

/-- STEP_SET_POS, after what is due for its axis (R305). -/
def execStepSetPos (a : Fin 48) (s : State) : Host.Outcome State Fault Refusal := Turn.run (.step a) (effStepSetPos a) s

/-- STEP_CLEAR, after what is due for its axis (R305). -/
def execStepClear (a : Fin 48) (s : State) : Host.Outcome State Fault Refusal := Turn.run (.step a) (effStepClear a) s

/-- REVERSE_DWELL_END, in the decide phase (R24). -/
def execReverseDwellEnd (a : Fin 48) (s : State) : Host.Outcome State Fault Refusal :=
  Turn.run .decide (effReverseDwellEnd a) s

/-- HOME_EDGE_QUALIFIED, in the decide phase (R24). -/
def execHomeEdgeQualified (a : Fin 48) (s : State) : Host.Outcome State Fault Refusal :=
  Turn.run .decide (effHomeEdgeQualified a) s

/-- HOME_WINDOW_END, in the decide phase (R24). -/
def execHomeWindowEnd (a : Fin 48) (s : State) : Host.Outcome State Fault Refusal := Turn.run .decide (effHomeWindowEnd a) s

/-- AXIS_ENABLE, after what is due for its axis (R346). -/
def execAxisEnable (a : Fin 24) (s : State) : Host.Outcome State Fault Refusal := Turn.run (.axis a) (effAxisEnable a) s

/-- AXIS_DISABLE, after what is due for its axis (R346). -/
def execAxisDisable (a : Fin 24) (s : State) : Host.Outcome State Fault Refusal := Turn.run (.axis a) (effAxisDisable a) s

/-- AXIS_MOVE, after what is due for its axis (R346). -/
def execAxisMove (a : Fin 24) (prof : Fin 8) (s : State) : Host.Outcome State Fault Refusal :=
  Turn.run (.axis a) (effAxisMove a prof) s

/-- AXIS_VELOCITY, after what is due for its axis (R346). -/
def execAxisVelocity (a : Fin 24) (prof : Fin 8) (s : State) : Host.Outcome State Fault Refusal :=
  Turn.run (.axis a) (effAxisVelocity a prof) s

/-- AXIS_STOP, after what is due for its axis (R346). -/
def execAxisStop (a : Fin 24) (s : State) : Host.Outcome State Fault Refusal := Turn.run (.axis a) (effAxisStop a) s

/-- AXIS_SET_POS, after what is due for its axis (R346). -/
def execAxisSetPos (a : Fin 24) (s : State) : Host.Outcome State Fault Refusal := Turn.run (.axis a) (effAxisSetPos a) s

/-- AXIS_CLEAR, after what is due for its axis (R346). -/
def execAxisClear (a : Fin 24) (s : State) : Host.Outcome State Fault Refusal := Turn.run (.axis a) (effAxisClear a) s

/-- CATCH_TIMEOUT, in the decide phase (R24). -/
def execCatchTimeout (a : Fin 24) (s : State) : Host.Outcome State Fault Refusal := Turn.run .decide (effCatchTimeout a) s

/-- SPINDOWN_TIMEOUT, in the decide phase (R24). -/
def execSpindownTimeout (a : Fin 24) (s : State) : Host.Outcome State Fault Refusal :=
  Turn.run .decide (effSpindownTimeout a) s

/-- OBSERVER_LOSS, in the decide phase (R24). -/
def execObserverLoss (a : Fin 24) (s : State) : Host.Outcome State Fault Refusal := Turn.run .decide (effObserverLoss a) s

/-- RECOVER_TIMEOUT, in the decide phase (R24). -/
def execRecoverTimeout (a : Fin 24) (s : State) : Host.Outcome State Fault Refusal :=
  Turn.run .decide (effRecoverTimeout a) s

/-- LOOP_ENABLE, after the timeout of its link (R373). -/
def execLoopEnable (l : Fin 64) (s : State) : Host.Outcome State Fault Refusal := Turn.run (.loop l) (effLoopEnable l) s

/-- LOOP_DISABLE, after the timeout of its link (R373). -/
def execLoopDisable (l : Fin 64) (s : State) : Host.Outcome State Fault Refusal := Turn.run (.loop l) (effLoopDisable l) s

/-- LOOP_CLEAR, after the timeout of its link (R373). -/
def execLoopClear (l : Fin 64) (s : State) : Host.Outcome State Fault Refusal := Turn.run (.loop l) (effLoopClear l) s

/-- LEARN_CLEAR, after the timeout of its link (R373). -/
def execLearnClear (l : Fin 64) (s : State) : Host.Outcome State Fault Refusal := Turn.run (.loop l) (effLearnClear l) s

/-- CLASS_T_TIMEOUT, in the decide phase (R24). -/
def execClassTTimeout (q : Fin 4096) (s : State) : Host.Outcome State Fault Refusal :=
  Turn.run .decide (effClassTTimeout q) s

/-- QUEUE_WRITE, in the decide phase (R24). -/
def execQueueWrite (w : Writer) (s : State) : Host.Outcome State Fault Refusal := Turn.run .decide (effQueueWrite w) s

/-- QUEUE_LOAD, in the decide phase (R24). -/
def execQueueLoad (s : State) : Host.Outcome State Fault Refusal := Turn.run .decide effQueueLoad s

/-- QUEUE_FLUSH, in the decide phase (R24). -/
def execQueueFlush (s : State) : Host.Outcome State Fault Refusal := Turn.run .decide effQueueFlush s

/-- DMA_START, in the decide phase (R24). -/
def execDmaStart (w : Writer) (c : Fin 64) (s : State) : Host.Outcome State Fault Refusal :=
  Turn.run .decide (effDmaStart w c) s

/-- DMA_ABORT, in the decide phase (R24). -/
def execDmaAbort (w : Writer) (c : Fin 64) (s : State) : Host.Outcome State Fault Refusal :=
  Turn.run .decide (effDmaAbort w c) s

/-- DMA_RESUME, in the decide phase (R24). -/
def execDmaResume (w : Writer) (c : Fin 64) (s : State) : Host.Outcome State Fault Refusal :=
  Turn.run .decide (effDmaResume w c) s

/-- WAIT_MET, in the decide phase (R24). -/
def execWaitMet (c : Fin 64) (s : State) : Host.Outcome State Fault Refusal := Turn.run .decide (effWaitMet c) s

/-- WAIT_TIMEOUT, in the decide phase (R24). -/
def execWaitTimeout (c : Fin 64) (s : State) : Host.Outcome State Fault Refusal := Turn.run .decide (effWaitTimeout c) s

/-- SAFE_ENTER, in the decide phase (R24). -/
def execSafeEnter (w : Writer) (s : State) : Host.Outcome State Fault Refusal := Turn.run .decide (effSafeEnter w) s

/-- SAFE_EXIT, in the decide phase (R24). -/
def execSafeExit (s : State) : Host.Outcome State Fault Refusal := Turn.run .decide effSafeExit s

/-- ERRN_CLEAR, in the decide phase (R24). -/
def execErrnClear (s : State) : Host.Outcome State Fault Refusal := Turn.run .decide effErrnClear s

/-- ESC_CLR, in the decide phase (R24). -/
def execEscClr (v : Word) (s : State) : Host.Outcome State Fault Refusal := Turn.run .decide (effEscClr v) s

/-- CHIP_RESET_WAIT_END, in the decide phase (R24). -/
def execChipResetWaitEnd (s : State) : Host.Outcome State Fault Refusal := Turn.run .decide effChipResetWaitEnd s

/-- DOMAIN_SWITCH, in the decide phase (R24). -/
def execDomainSwitch (v : Word) (s : State) : Host.Outcome State Fault Refusal := Turn.run .decide (effDomainSwitch v) s

/-- SEQ_UP, in the decide phase (R24). -/
def execSeqUp (s : State) : Host.Outcome State Fault Refusal := Turn.run .decide effSeqUp s

/-- SEQ_DOWN, in the decide phase (R24). -/
def execSeqDown (w : Writer) (s : State) : Host.Outcome State Fault Refusal := Turn.run .decide (effSeqDown w) s

/-- RAIL_SLOT, in the decide phase (R24). -/
def execRailSlot (k : Fin 8) (s : State) : Host.Outcome State Fault Refusal := Turn.run .decide (effRailSlot k) s

/-- PG_TIMEOUT, in the decide phase (R24). -/
def execPgTimeout (r : Fin 64) (s : State) : Host.Outcome State Fault Refusal := Turn.run .decide (effPgTimeout r) s

/-- OFF_WAIT_END, in the decide phase (R24). -/
def execOffWaitEnd (s : State) : Host.Outcome State Fault Refusal := Turn.run .decide effOffWaitEnd s

/-- MARGIN_STEP, in the decide phase (R24). -/
def execMarginStep (r : Fin 64) (s : State) : Host.Outcome State Fault Refusal := Turn.run .decide (effMarginStep r) s

/-- THROTTLE_REPEAT, in the decide phase (R24). -/
def execThrottleRepeat (s : State) : Host.Outcome State Fault Refusal := Turn.run .decide effThrottleRepeat s

/-- THAW_RESTART, in the decide phase (R24). -/
def execThawRestart (s : State) : Host.Outcome State Fault Refusal := Turn.run .decide effThawRestart s

/-- HEAD_THAW, in the decide phase (R24). -/
def execHeadThaw (i : Fin 8) (s : State) : Host.Outcome State Fault Refusal := Turn.run .decide (effHeadThaw i) s

/-- RST_CHIP, in the decide phase (R24). -/
def execRstChip (w : Writer) (now : Bool) (s : State) : Host.Outcome State Fault Refusal :=
  Turn.run .decide (effRstChip w now) s

/-- RST_CORE, in the decide phase (R24). -/
def execRstCore (w : Writer) (now : Bool) (s : State) : Host.Outcome State Fault Refusal :=
  Turn.run .decide (effRstCore w now) s

/-- WATCHDOG_EXPIRY, in the decide phase (R24). -/
def execWatchdogExpiry (s : State) : Host.Outcome State Fault Refusal := Turn.run .decide effWatchdogExpiry s

/-- STATUS, in the decide phase (R24). -/
def execStatus (s : State) : Host.Outcome State Fault Refusal := Turn.run .decide effStatus s

/-- SPEED, in the decide phase (R24). -/
def execSpeed (s : State) : Host.Outcome State Fault Refusal := Turn.run .decide effSpeed s

/-- WARMUP, in the decide phase (R24). -/
def execWarmup (s : State) : Host.Outcome State Fault Refusal := Turn.run .decide effWarmup s

/-- SLEEP, in the decide phase (R24). -/
def execSleep (s : State) : Host.Outcome State Fault Refusal := Turn.run .decide effSleep s

/-- CLEAR_JAM, step 4 of the ledger's order (R144). -/
def execClearJam (s : State) : Host.Outcome State Fault Refusal := Turn.run (.ledg 4) effClearJam s

/-- CANCEL, step 4 of the ledger's order (R144). -/
def execCancel (s : State) : Host.Outcome State Fault Refusal := Turn.run (.ledg 4) effCancel s

/-- LEG_READY, in the decide phase (R24). -/
def execLegReady (s : State) : Host.Outcome State Fault Refusal := Turn.run .decide effLegReady s

/-- LEG_STANDBY, in the decide phase (R24). -/
def execLegStandby (s : State) : Host.Outcome State Fault Refusal := Turn.run .decide effLegStandby s

end Sys2Proof.Machine

namespace Sys2Proof
open Sys2Proof.Machine

/-- The turn of every command: the state in which it is decided is `s.begin i.turn`. -/
def Instr.turn : Instr → Turn
  | .tick _ | .almanacPiece | .bar1Write _ _ _ | .setupLock | .ringStart _ | .ringResume _ | .ringStop _
  | .ringStopped _ | .doorbell _ _ _ _ | .descriptorFetch _ _ _ | .hostReadError _ _ _ _ | .takingResumed
  | .ringVector _ | .detach _ | .attach _ _ | .tableItem | .bandResident _ _ _ | .bandBegun
  | .segmentCompressed _ | .segmentHandout _ | .segmentDecoded _ | .lineStoreWrite _ | .trainingStart _ _
  | .train | .retrain | .trainingDone _ _ _ | .dramTempRead _ _ _ | .tracking | .dramRequest _ _ _ _ _ _
  | .rhWindowClear | .patrolScrub _ _ | .wipeGroupDone | .bdEdge _ _ _ _ _ | .facetMissed _ _ | .facetEnd _
  | .scanMeasClr _ | .facetReport _ _ | .tableAck _ _ _ _ | .tableAckTimeout _ _ | .statusReport _ _ _
  | .reportTimeout _ | .ldenRise _ | .lsiNLow | .linkEnable _ | .linkDisable _ | .linkTrainingDone _ _
  | .linkTrainingTimeout _ | .commaLost _ | .linkRetrain _ | .stepFrameReturn _ _ | .scapEdge _ _ _
  | .axisFrameReturn _ _ | .facetPeriodGathered _ | .hvFrameReturn _ _ | .cellWrite _ _ _ | .scrubEnd
  | .dmaAbortDone _ | .programCheckDone _ _ | .dmaDescriptor _ _ _ _ | .dataInstructionDone _ _ _ | .dmaEnd _
  | .dmaBusError _ _ _ | .clearHalt | .dmaEvtSet _ | .dmaEvtClr _ | .faultMessage _ _ _ | .escLeak | .inject _
  | .collectorIntegrity _ _ | .hwdEvent | .recordWritten _ | .suppressionSummary _ | .recorderScanDone
  | .snapTake | .readSeq _ | .readLoaded | .clrRequest | .clrSubmit _ | .clrCancel | .challengeLapse
  | .lockoutEnd | .eraseDone | .domainUp _ | .pollRound _ _ | .seqReadDone _ | .seqTransactionFailed _ _
  | .snapshotDone _ | .thermalConversion _ _ _ | .pllLockDeclared | .pllLockLost _ | .clockFailure
  | .powerOnReset _ _ _ | .sramWipeDone | .wdtKick | .boot _ | .bootStaged _ | .accept _
  | .lifecycleTransition _ _ | .fuseBurnDone | .otpProgram _ _ | .vddio33Low | .uartByte _ _ | .uartByteTimeout
  | .uartReply | .readError | .paper | .top | .width | .engineInfo | .readReg | .writeReg | .lsyncEdge _
  | .groupWindowClose _ _ _ | .trace | .videoLaneStateChange _ _ | .gapRetrainDone | .clkTickLoRead
  | .tapInstruction _ => .any
  | .governorStepUp | .check | .checkDone _ | .switch | .firstActivation | .bankSwitch | .gradeRequest _
  | .gradeChange | .almCancel | .release | .releaseAfterDrain | .switchLapse | .drainingEnd
  | .framesAvailable _ _ | .pick _ | .entryFreed _ | .abandon | .decodeBinding | .gapRetrain | .arm _
  | .disarm _ | .reselect _ | .clearFailed _ | .ilkClear | .linkTimeout _ | .stepStartTimeout _
  | .reverseDwellEnd _ | .homeEdgeQualified _ | .homeWindowEnd _ | .catchTimeout _ | .spindownTimeout _
  | .observerLoss _ | .recoverTimeout _ | .classTTimeout _ | .queueWrite _ | .queueLoad | .queueFlush
  | .dmaStart _ _ | .dmaAbort _ _ | .dmaResume _ _ | .waitMet _ | .waitTimeout _ | .safeEnter _ | .safeExit
  | .errnClear | .escClr _ | .chipResetWaitEnd | .domainSwitch _ | .seqUp | .seqDown _ | .railSlot _
  | .pgTimeout _ | .offWaitEnd | .marginStep _ | .throttleRepeat | .thawRestart | .headThaw _ | .rstChip _ _
  | .rstCore _ _ | .watchdogExpiry | .status | .speed | .warmup | .sleep | .legReady | .legStandby => .decide
  | .headShutdownReport | .interlockGathered => .ledg 1
  | .bandDeadline _ _ _ | .underrunReport | .beamFailureReport | .observerLossReport | .decodeFailureReport => .ledg 2
  | .sheetEdge _ | .edgeWindowExpiry _ _ _ | .targetWithoutEdge _ _ _ => .ledg 3
  | .announce | .purge | .reprint | .jamClear | .query | .clearJam | .cancel => .ledg 4
  | .dataHeader _ _ | .earlyWaitExpiry _ => .ledg 5
  | .admission | .backhitchDecided => .ledg 6
  | .commit _ | .lastLine | .bhDecel | .bhStop | .bhReverse | .bhPark | .bhAccel | .bhReverseAgain | .bhEnd
  | .parkLong => .ledg 7
  | .stepEnable a => .step a
  | .stepDisable a => .step a
  | .stepMove a _ => .step a
  | .stepVelocity a _ => .step a
  | .stepStop a => .step a
  | .stepHome a => .step a
  | .stepEngage a => .step a
  | .stepDisengage a => .step a
  | .stepSetPos a => .step a
  | .stepClear a => .step a
  | .axisEnable a => .axis a
  | .axisDisable a => .axis a
  | .axisMove a _ => .axis a
  | .axisVelocity a _ => .axis a
  | .axisStop a => .axis a
  | .axisSetPos a => .axis a
  | .axisClear a => .axis a
  | .loopEnable a => .loop a
  | .loopDisable a => .loop a
  | .loopClear a => .loop a
  | .learnClear a => .loop a
  | .registerWrite _ bar2 off _ _ => regTurn bar2 off

end Sys2Proof
end

