-- ==== Sys2Proof/Machine/Dispatch.lean ====
section
/-!
DEFINITION. What each command does to everything but the queue: one arm per constructor of `Instr`, in the order of the
operation table, each one call of its meaning.
-/

namespace Sys2Proof.Machine

def exec (i : Instr) (s : State) : Host.Outcome State Fault Refusal :=
  match i with
  | .tick k => Sys2Proof.Machine.execTick k s
  | .governorStepUp => Sys2Proof.Machine.execGovernorStepUp s
  | .almanacPiece => Sys2Proof.Machine.execAlmanacPiece s
  | .check => Sys2Proof.Machine.execCheck s
  | .checkDone storage => Sys2Proof.Machine.execCheckDone storage s
  | .switch => Sys2Proof.Machine.execSwitch s
  | .firstActivation => Sys2Proof.Machine.execFirstActivation s
  | .bankSwitch => Sys2Proof.Machine.execBankSwitch s
  | .gradeRequest g => Sys2Proof.Machine.execGradeRequest g s
  | .gradeChange => Sys2Proof.Machine.execGradeChange s
  | .almCancel => Sys2Proof.Machine.execAlmCancel s
  | .release => Sys2Proof.Machine.execRelease s
  | .releaseAfterDrain => Sys2Proof.Machine.execReleaseAfterDrain s
  | .switchLapse => Sys2Proof.Machine.execSwitchLapse s
  | .drainingEnd => Sys2Proof.Machine.execDrainingEnd s
  | .registerWrite w bar2 off width v => Sys2Proof.Machine.execRegisterWrite w bar2 off width v s
  | .bar1Write w o bs => Sys2Proof.Machine.execBar1Write w o bs s
  | .setupLock => Sys2Proof.Machine.execSetupLock s
  | .ringStart k => Sys2Proof.Machine.execRingStart k s
  | .ringResume k => Sys2Proof.Machine.execRingResume k s
  | .ringStop k => Sys2Proof.Machine.execRingStop k s
  | .ringStopped k => Sys2Proof.Machine.execRingStopped k s
  | .doorbell k off width v => Sys2Proof.Machine.execDoorbell k off width v s
  | .descriptorFetch k descs data => Sys2Proof.Machine.execDescriptorFetch k descs data s
  | .hostReadError k onBuffer descs status => Sys2Proof.Machine.execHostReadError k onBuffer descs status s
  | .takingResumed => Sys2Proof.Machine.execTakingResumed s
  | .ringVector k => Sys2Proof.Machine.execRingVector k s
  | .detach cause => Sys2Proof.Machine.execDetach cause s
  | .attach rate cfg => Sys2Proof.Machine.execAttach rate cfg s
  | .tableItem => Sys2Proof.Machine.execTableItem s
  | .announce => Sys2Proof.Machine.execAnnounce s
  | .purge => Sys2Proof.Machine.execPurge s
  | .reprint => Sys2Proof.Machine.execReprint s
  | .jamClear => Sys2Proof.Machine.execJamClear s
  | .query => Sys2Proof.Machine.execQuery s
  | .dataHeader stn frames => Sys2Proof.Machine.execDataHeader stn frames s
  | .earlyWaitExpiry stn => Sys2Proof.Machine.execEarlyWaitExpiry stn s
  | .framesAvailable stn frames => Sys2Proof.Machine.execFramesAvailable stn frames s
  | .bandResident sheet stn band => Sys2Proof.Machine.execBandResident sheet stn band s
  | .admission => Sys2Proof.Machine.execAdmission s
  | .commit id => Sys2Proof.Machine.execCommit id s
  | .pick id => Sys2Proof.Machine.execPick id s
  | .sheetEdge point => Sys2Proof.Machine.execSheetEdge point s
  | .edgeWindowExpiry id point trail => Sys2Proof.Machine.execEdgeWindowExpiry id point trail s
  | .targetWithoutEdge id point trail => Sys2Proof.Machine.execTargetWithoutEdge id point trail s
  | .bandBegun => Sys2Proof.Machine.execBandBegun s
  | .bandDeadline id stn band => Sys2Proof.Machine.execBandDeadline id stn band s
  | .lastLine => Sys2Proof.Machine.execLastLine s
  | .underrunReport => Sys2Proof.Machine.execUnderrunReport s
  | .beamFailureReport => Sys2Proof.Machine.execBeamFailureReport s
  | .headShutdownReport => Sys2Proof.Machine.execHeadShutdownReport s
  | .observerLossReport => Sys2Proof.Machine.execObserverLossReport s
  | .decodeFailureReport => Sys2Proof.Machine.execDecodeFailureReport s
  | .entryFreed id => Sys2Proof.Machine.execEntryFreed id s
  | .backhitchDecided => Sys2Proof.Machine.execBackhitchDecided s
  | .bhDecel => Sys2Proof.Machine.execBhDecel s
  | .bhStop => Sys2Proof.Machine.execBhStop s
  | .bhReverse => Sys2Proof.Machine.execBhReverse s
  | .bhPark => Sys2Proof.Machine.execBhPark s
  | .bhAccel => Sys2Proof.Machine.execBhAccel s
  | .bhReverseAgain => Sys2Proof.Machine.execBhReverseAgain s
  | .bhEnd => Sys2Proof.Machine.execBhEnd s
  | .abandon => Sys2Proof.Machine.execAbandon s
  | .parkLong => Sys2Proof.Machine.execParkLong s
  | .segmentCompressed lane => Sys2Proof.Machine.execSegmentCompressed lane s
  | .decodeBinding => Sys2Proof.Machine.execDecodeBinding s
  | .segmentHandout lane => Sys2Proof.Machine.execSegmentHandout lane s
  | .segmentDecoded lane => Sys2Proof.Machine.execSegmentDecoded lane s
  | .lineStoreWrite lane => Sys2Proof.Machine.execLineStoreWrite lane s
  | .trainingStart org bands => Sys2Proof.Machine.execTrainingStart org bands s
  | .train => Sys2Proof.Machine.execTrain s
  | .retrain => Sys2Proof.Machine.execRetrain s
  | .trainingDone c0 c1 temp => Sys2Proof.Machine.execTrainingDone c0 c1 temp s
  | .dramTempRead phy warmest hot => Sys2Proof.Machine.execDramTempRead phy warmest hot s
  | .tracking => Sys2Proof.Machine.execTracking s
  | .gapRetrain => Sys2Proof.Machine.execGapRetrain s
  | .dramRequest ch arrivals now sampled ecc decoding => Sys2Proof.Machine.execDramRequest ch arrivals now sampled ecc decoding s
  | .rhWindowClear => Sys2Proof.Machine.execRhWindowClear s
  | .patrolScrub now0 now1 => Sys2Proof.Machine.execPatrolScrub now0 now1 s
  | .wipeGroupDone => Sys2Proof.Machine.execWipeGroupDone s
  | .bdEdge k rising sub fine ecc => Sys2Proof.Machine.execBdEdge k rising sub fine ecc s
  | .facetMissed k ecc => Sys2Proof.Machine.execFacetMissed k ecc s
  | .facetEnd k => Sys2Proof.Machine.execFacetEnd k s
  | .scanMeasClr mask => Sys2Proof.Machine.execScanMeasClr mask s
  | .facetReport k bs => Sys2Proof.Machine.execFacetReport k bs s
  | .tableAck k head table crc => Sys2Proof.Machine.execTableAck k head table crc s
  | .tableAckTimeout k id => Sys2Proof.Machine.execTableAckTimeout k id s
  | .statusReport k head crc => Sys2Proof.Machine.execStatusReport k head crc s
  | .reportTimeout k => Sys2Proof.Machine.execReportTimeout k s
  | .arm k => Sys2Proof.Machine.execArm k s
  | .disarm k => Sys2Proof.Machine.execDisarm k s
  | .reselect k => Sys2Proof.Machine.execReselect k s
  | .clearFailed k => Sys2Proof.Machine.execClearFailed k s
  | .ilkClear => Sys2Proof.Machine.execIlkClear s
  | .ldenRise k => Sys2Proof.Machine.execLdenRise k s
  | .lsiNLow => Sys2Proof.Machine.execLsiNLow s
  | .interlockGathered => Sys2Proof.Machine.execInterlockGathered s
  | .linkEnable l => Sys2Proof.Machine.execLinkEnable l s
  | .linkDisable l => Sys2Proof.Machine.execLinkDisable l s
  | .linkTrainingDone l nodes => Sys2Proof.Machine.execLinkTrainingDone l nodes s
  | .linkTrainingTimeout l => Sys2Proof.Machine.execLinkTrainingTimeout l s
  | .linkTimeout l => Sys2Proof.Machine.execLinkTimeout l s
  | .commaLost l => Sys2Proof.Machine.execCommaLost l s
  | .linkRetrain l => Sys2Proof.Machine.execLinkRetrain l s
  | .stepFrameReturn k bs => Sys2Proof.Machine.execStepFrameReturn k bs s
  | .stepStartTimeout a => Sys2Proof.Machine.execStepStartTimeout a s
  | .stepEnable a => Sys2Proof.Machine.execStepEnable a s
  | .stepDisable a => Sys2Proof.Machine.execStepDisable a s
  | .stepMove a prof => Sys2Proof.Machine.execStepMove a prof s
  | .stepVelocity a prof => Sys2Proof.Machine.execStepVelocity a prof s
  | .stepStop a => Sys2Proof.Machine.execStepStop a s
  | .stepHome a => Sys2Proof.Machine.execStepHome a s
  | .stepEngage a => Sys2Proof.Machine.execStepEngage a s
  | .stepDisengage a => Sys2Proof.Machine.execStepDisengage a s
  | .stepSetPos a => Sys2Proof.Machine.execStepSetPos a s
  | .stepClear a => Sys2Proof.Machine.execStepClear a s
  | .reverseDwellEnd a => Sys2Proof.Machine.execReverseDwellEnd a s
  | .scapEdge k level sub => Sys2Proof.Machine.execScapEdge k level sub s
  | .homeEdgeQualified a => Sys2Proof.Machine.execHomeEdgeQualified a s
  | .homeWindowEnd a => Sys2Proof.Machine.execHomeWindowEnd a s
  | .axisFrameReturn k bs => Sys2Proof.Machine.execAxisFrameReturn k bs s
  | .axisEnable a => Sys2Proof.Machine.execAxisEnable a s
  | .axisDisable a => Sys2Proof.Machine.execAxisDisable a s
  | .axisMove a prof => Sys2Proof.Machine.execAxisMove a prof s
  | .axisVelocity a prof => Sys2Proof.Machine.execAxisVelocity a prof s
  | .axisStop a => Sys2Proof.Machine.execAxisStop a s
  | .axisSetPos a => Sys2Proof.Machine.execAxisSetPos a s
  | .axisClear a => Sys2Proof.Machine.execAxisClear a s
  | .catchTimeout a => Sys2Proof.Machine.execCatchTimeout a s
  | .spindownTimeout a => Sys2Proof.Machine.execSpindownTimeout a s
  | .observerLoss a => Sys2Proof.Machine.execObserverLoss a s
  | .facetPeriodGathered a => Sys2Proof.Machine.execFacetPeriodGathered a s
  | .recoverTimeout a => Sys2Proof.Machine.execRecoverTimeout a s
  | .hvFrameReturn k bs => Sys2Proof.Machine.execHvFrameReturn k bs s
  | .loopEnable l => Sys2Proof.Machine.execLoopEnable l s
  | .loopDisable l => Sys2Proof.Machine.execLoopDisable l s
  | .loopClear l => Sys2Proof.Machine.execLoopClear l s
  | .learnClear l => Sys2Proof.Machine.execLearnClear l s
  | .cellWrite q cells ptr => Sys2Proof.Machine.execCellWrite q cells ptr s
  | .classTTimeout q => Sys2Proof.Machine.execClassTTimeout q s
  | .scrubEnd => Sys2Proof.Machine.execScrubEnd s
  | .queueWrite w => Sys2Proof.Machine.execQueueWrite w s
  | .queueLoad => Sys2Proof.Machine.execQueueLoad s
  | .queueFlush => Sys2Proof.Machine.execQueueFlush s
  | .dmaStart w c => Sys2Proof.Machine.execDmaStart w c s
  | .dmaAbort w c => Sys2Proof.Machine.execDmaAbort w c s
  | .dmaAbortDone c => Sys2Proof.Machine.execDmaAbortDone c s
  | .dmaResume w c => Sys2Proof.Machine.execDmaResume w c s
  | .programCheckDone c host => Sys2Proof.Machine.execProgramCheckDone c host s
  | .dmaDescriptor c host hsrc hdst => Sys2Proof.Machine.execDmaDescriptor c host hsrc hdst s
  | .dataInstructionDone c hsrc hdst => Sys2Proof.Machine.execDataInstructionDone c hsrc hdst s
  | .waitMet c => Sys2Proof.Machine.execWaitMet c s
  | .waitTimeout c => Sys2Proof.Machine.execWaitTimeout c s
  | .dmaEnd c => Sys2Proof.Machine.execDmaEnd c s
  | .dmaBusError cause addr write => Sys2Proof.Machine.execDmaBusError cause addr write s
  | .clearHalt => Sys2Proof.Machine.execClearHalt s
  | .dmaEvtSet v => Sys2Proof.Machine.execDmaEvtSet v s
  | .dmaEvtClr v => Sys2Proof.Machine.execDmaEvtClr v s
  | .faultMessage src kind addr => Sys2Proof.Machine.execFaultMessage src kind addr s
  | .escLeak => Sys2Proof.Machine.execEscLeak s
  | .safeEnter w => Sys2Proof.Machine.execSafeEnter w s
  | .safeExit => Sys2Proof.Machine.execSafeExit s
  | .errnClear => Sys2Proof.Machine.execErrnClear s
  | .escClr v => Sys2Proof.Machine.execEscClr v s
  | .inject v => Sys2Proof.Machine.execInject v s
  | .collectorIntegrity addr parity => Sys2Proof.Machine.execCollectorIntegrity addr parity s
  | .chipResetWaitEnd => Sys2Proof.Machine.execChipResetWaitEnd s
  | .hwdEvent => Sys2Proof.Machine.execHwdEvent s
  | .recordWritten ok => Sys2Proof.Machine.execRecordWritten ok s
  | .suppressionSummary c => Sys2Proof.Machine.execSuppressionSummary c s
  | .recorderScanDone => Sys2Proof.Machine.execRecorderScanDone s
  | .snapTake => Sys2Proof.Machine.execSnapTake s
  | .readSeq v => Sys2Proof.Machine.execReadSeq v s
  | .readLoaded => Sys2Proof.Machine.execReadLoaded s
  | .clrRequest => Sys2Proof.Machine.execClrRequest s
  | .clrSubmit w => Sys2Proof.Machine.execClrSubmit w s
  | .clrCancel => Sys2Proof.Machine.execClrCancel s
  | .challengeLapse => Sys2Proof.Machine.execChallengeLapse s
  | .lockoutEnd => Sys2Proof.Machine.execLockoutEnd s
  | .eraseDone => Sys2Proof.Machine.execEraseDone s
  | .domainSwitch v => Sys2Proof.Machine.execDomainSwitch v s
  | .domainUp half => Sys2Proof.Machine.execDomainUp half s
  | .seqUp => Sys2Proof.Machine.execSeqUp s
  | .seqDown w => Sys2Proof.Machine.execSeqDown w s
  | .railSlot k => Sys2Proof.Machine.execRailSlot k s
  | .pollRound ids found => Sys2Proof.Machine.execPollRound ids found s
  | .seqReadDone x => Sys2Proof.Machine.execSeqReadDone x s
  | .seqTransactionFailed k cmd => Sys2Proof.Machine.execSeqTransactionFailed k cmd s
  | .pgTimeout r => Sys2Proof.Machine.execPgTimeout r s
  | .offWaitEnd => Sys2Proof.Machine.execOffWaitEnd s
  | .marginStep r => Sys2Proof.Machine.execMarginStep r s
  | .snapshotDone readings => Sys2Proof.Machine.execSnapshotDone readings s
  | .thermalConversion c v valid => Sys2Proof.Machine.execThermalConversion c v valid s
  | .throttleRepeat => Sys2Proof.Machine.execThrottleRepeat s
  | .thawRestart => Sys2Proof.Machine.execThawRestart s
  | .headThaw k => Sys2Proof.Machine.execHeadThaw k s
  | .pllLockDeclared => Sys2Proof.Machine.execPllLockDeclared s
  | .pllLockLost p => Sys2Proof.Machine.execPllLockLost p s
  | .clockFailure => Sys2Proof.Machine.execClockFailure s
  | .powerOnReset ref50 modesel torn => Sys2Proof.Machine.execPowerOnReset ref50 modesel torn s
  | .sramWipeDone => Sys2Proof.Machine.execSramWipeDone s
  | .rstChip w now => Sys2Proof.Machine.execRstChip w now s
  | .rstCore w now => Sys2Proof.Machine.execRstCore w now s
  | .wdtKick => Sys2Proof.Machine.execWdtKick s
  | .watchdogExpiry => Sys2Proof.Machine.execWatchdogExpiry s
  | .boot f => Sys2Proof.Machine.execBoot f s
  | .bootStaged f => Sys2Proof.Machine.execBootStaged f s
  | .accept v => Sys2Proof.Machine.execAccept v s
  | .lifecycleTransition target confirm => Sys2Proof.Machine.execLifecycleTransition target confirm s
  | .fuseBurnDone => Sys2Proof.Machine.execFuseBurnDone s
  | .otpProgram field verifyOk => Sys2Proof.Machine.execOtpProgram field verifyOk s
  | .vddio33Low => Sys2Proof.Machine.execVddio33Low s
  | .uartByte b err => Sys2Proof.Machine.execUartByte b err s
  | .uartByteTimeout => Sys2Proof.Machine.execUartByteTimeout s
  | .uartReply => Sys2Proof.Machine.execUartReply s
  | .status => Sys2Proof.Machine.execStatus s
  | .readError => Sys2Proof.Machine.execReadError s
  | .speed => Sys2Proof.Machine.execSpeed s
  | .paper => Sys2Proof.Machine.execPaper s
  | .top => Sys2Proof.Machine.execTop s
  | .width => Sys2Proof.Machine.execWidth s
  | .warmup => Sys2Proof.Machine.execWarmup s
  | .sleep => Sys2Proof.Machine.execSleep s
  | .clearJam => Sys2Proof.Machine.execClearJam s
  | .cancel => Sys2Proof.Machine.execCancel s
  | .engineInfo => Sys2Proof.Machine.execEngineInfo s
  | .readReg => Sys2Proof.Machine.execReadReg s
  | .writeReg => Sys2Proof.Machine.execWriteReg s
  | .legReady => Sys2Proof.Machine.execLegReady s
  | .legStandby => Sys2Proof.Machine.execLegStandby s
  | .lsyncEdge goLow => Sys2Proof.Machine.execLsyncEdge goLow s
  | .groupWindowClose stn bytes fault => Sys2Proof.Machine.execGroupWindowClose stn bytes fault s
  | .trace => Sys2Proof.Machine.execTrace s
  | .videoLaneStateChange lane st => Sys2Proof.Machine.execVideoLaneStateChange lane st s
  | .gapRetrainDone => Sys2Proof.Machine.execGapRetrainDone s
  | .clkTickLoRead => Sys2Proof.Machine.execClkTickLoRead s
  | .tapInstruction ir => Sys2Proof.Machine.execTapInstruction ir s

end Sys2Proof.Machine
end

