-- ==== Sys2Proof/Safety.lean ====
section
/-!
DEFINITION. What counts as a safe run: the canonical form of everything sparse in the state, and a step that stops nowhere.
-/

namespace Sys2Proof.Machine

/-- A register store in canonical form: offsets strictly rising. -/
def regsRise : Option Nat → Tab Word → Bool
  | _, [] => true
  | lo, (a, v) :: t => lo.all (fun l => decide (l < a)) && decide (v ≠ regReset a) && regsRise (some a) t

/-- The register store lists offsets in rising order, and no register that holds its reset value. -/
def State.regsWf (s : State) : Bool := regsRise none s.regs

/-- Every addressed memory of the part is in canonical form: the table windows of BAR1 and the two Almanac banks. -/
def State.memWf (s : State) : Bool := s.sram.wf && s.alm.bank0.wf && s.alm.bank1.wf

/-- The canonical form of the state's registers and memories. -/
def State.wf (s : State) : Bool := s.regsWf && s.memWf

/-- The parts of the state beside the queue of commands and the register store. -/
inductive Blk where
  | tick | fresh | out | sram | host | alm | ledg | pace | flt | hwd | burl | dram | scan | beam | step | sio | axis
  | loop | cnpy | dma | pwr | thm | clk | lcs | leg
  deriving DecidableEq, Repr

/-- Two states agree on a part. -/
def Blk.same (s t : State) : Blk → Prop
  | .tick => t.tick = s.tick
  | .fresh => t.fresh = s.fresh
  | .out => t.out = s.out
  | .sram => t.sram = s.sram
  | .host => t.host = s.host
  | .alm => t.alm = s.alm
  | .ledg => t.ledg = s.ledg
  | .pace => t.pace = s.pace
  | .flt => t.flt = s.flt
  | .hwd => t.hwd = s.hwd
  | .burl => t.burl = s.burl
  | .dram => t.dram = s.dram
  | .scan => t.scan = s.scan
  | .beam => t.beam = s.beam
  | .step => t.step = s.step
  | .sio => t.sio = s.sio
  | .axis => t.axis = s.axis
  | .loop => t.loop = s.loop
  | .cnpy => t.cnpy = s.cnpy
  | .dma => t.dma = s.dma
  | .pwr => t.pwr = s.pwr
  | .thm => t.thm = s.thm
  | .clk => t.clk = s.clk
  | .lcs => t.lcs = s.lcs
  | .leg => t.leg = s.leg

/-- From `s` to `t` nothing changes but the parts that `F` names and the registers at the offsets that `R` names; the queue
of commands, too, stays as it is. -/
def State.onlyChanges (s t : State) (F : Blk → Prop) (R : Nat → Prop) : Prop :=
  t.pending = s.pending ∧ (∀ b, ¬ F b → b.same s t) ∧ ∀ a, ¬ R a → t.rd a = s.rd a

/-- A register whose write only stores the value: its write is no command of its own (EN of a link, SETPOINT of a loop,
PWR_DOM_REQ, HWD_READ_SEQ), marks nothing (a decompressor binding, R193), and fixes no field (R487, R493). -/
def plainRegister (a : Nat) : Bool :=
  (enLink a).isNone && (regIndex a (Reg.LOOP_LP_SETPOINT 0) 128 64).isNone && decide (a ≠ Reg.PWR_DOM_REQ) &&
  decide (a ≠ Reg.HWD_READ_SEQ) && !regIn a (Reg.BURL_DBIND 0) 4 32 && !regIn a (Reg.THM_CH_CFG 0) 32 20 &&
  !(decide (Reg.CLK_BAND_b 0 0 ≤ a) && decide (a < Reg.CLK_BAND_b 1 0))

/-- A step goes on. -/
def State.goesOn (s : State) : Prop := ∃ t, Sys2Proof.Machine.step s = .next t

/-- A run of `n` steps goes on throughout. -/
def State.safeFor (s : State) (n : Nat) : Prop := ∃ t, core.run n s = .next t

end Sys2Proof.Machine
end

