-- ==== Sys2Proof/Machine/Footprint.lean ====
section
/-!
DEFINITION. What a command may change: for every command the parts of the state and the registers outside which it changes
nothing. The commands of `Instr.reachesAll` (time itself, the resets, and what writes registers) list everything.
-/

namespace Sys2Proof.Machine

/-- Every part of the state. -/
def Blk.all : List Blk :=
  [.tick, .fresh, .out, .sram, .host, .alm, .ledg, .pace, .flt, .hwd, .burl, .dram, .scan, .beam, .step, .sio,
   .axis, .loop, .cnpy, .dma, .pwr, .thm, .clk, .lcs, .leg]

/-- The offset of one register, as a family of offsets. -/
def one (a : Nat) : Nat → Nat → Nat := fun _ _ => a

/-- The offsets of an array of registers, as a family of offsets. -/
def each (f : Nat → Nat) : Nat → Nat → Nat := fun i _ => f i

/-- The words of the entries of FLT_LOG, four for an entry, as a family of offsets. -/
def logWords : Nat → Nat → Nat := fun i j => Reg.FLT_LOG i + 4 * (j % 4)

end Sys2Proof.Machine

namespace Sys2Proof
open Sys2Proof.Machine

/-- The commands whose effect may reach every part and every register: time itself, the resets, a boot, and a write. -/
def Instr.reachesAll : Instr → Bool
  | .tick _ | .registerWrite _ _ _ _ _ | .chipResetWaitEnd | .thawRestart | .clockFailure | .powerOnReset _ _ _
  | .rstChip _ _ | .rstCore _ _ | .boot _ | .bootStaged _ | .fuseBurnDone | .sleep => true
  | .governorStepUp => false
  | .almanacPiece => false
  | .check => false
  | .checkDone _ => false
  | .switch => false
  | .firstActivation => false
  | .bankSwitch => false
  | .gradeRequest _ => false
  | .gradeChange => false
  | .almCancel => false
  | .release => false
  | .releaseAfterDrain => false
  | .switchLapse => false
  | .drainingEnd => false
  | .bar1Write _ _ _ => false
  | .setupLock => false
  | .ringStart _ => false
  | .ringResume _ => false
  | .ringStop _ => false
  | .ringStopped _ => false
  | .doorbell _ _ _ _ => false
  | .descriptorFetch _ _ _ => false
  | .hostReadError _ _ _ _ => false
  | .takingResumed => false
  | .ringVector _ => false
  | .detach _ => false
  | .attach _ _ => false
  | .tableItem => false
  | .announce => false
  | .purge => false
  | .reprint => false
  | .jamClear => false
  | .query => false
  | .dataHeader _ _ => false
  | .earlyWaitExpiry _ => false
  | .framesAvailable _ _ => false
  | .bandResident _ _ _ => false
  | .admission => false
  | .commit _ => false
  | .pick _ => false
  | .sheetEdge _ => false
  | .edgeWindowExpiry _ _ _ => false
  | .targetWithoutEdge _ _ _ => false
  | .bandBegun => false
  | .bandDeadline _ _ _ => false
  | .lastLine => false
  | .underrunReport => false
  | .beamFailureReport => false
  | .headShutdownReport => false
  | .observerLossReport => false
  | .decodeFailureReport => false
  | .entryFreed _ => false
  | .backhitchDecided => false
  | .bhDecel => false
  | .bhStop => false
  | .bhReverse => false
  | .bhPark => false
  | .bhAccel => false
  | .bhReverseAgain => false
  | .bhEnd => false
  | .abandon => false
  | .parkLong => false
  | .segmentCompressed _ => false
  | .decodeBinding => false
  | .segmentHandout _ => false
  | .segmentDecoded _ => false
  | .lineStoreWrite _ => false
  | .trainingStart _ _ => false
  | .train => false
  | .retrain => false
  | .trainingDone _ _ _ => false
  | .dramTempRead _ _ _ => false
  | .tracking => false
  | .gapRetrain => false
  | .dramRequest _ _ _ _ _ _ => false
  | .rhWindowClear => false
  | .patrolScrub _ _ => false
  | .wipeGroupDone => false
  | .bdEdge _ _ _ _ _ => false
  | .facetMissed _ _ => false
  | .facetEnd _ => false
  | .scanMeasClr _ => false
  | .facetReport _ _ => false
  | .tableAck _ _ _ _ => false
  | .tableAckTimeout _ _ => false
  | .statusReport _ _ _ => false
  | .reportTimeout _ => false
  | .arm _ => false
  | .disarm _ => false
  | .reselect _ => false
  | .clearFailed _ => false
  | .ilkClear => false
  | .ldenRise _ => false
  | .lsiNLow => false
  | .interlockGathered => false
  | .linkEnable _ => false
  | .linkDisable _ => false
  | .linkTrainingDone _ _ => false
  | .linkTrainingTimeout _ => false
  | .linkTimeout _ => false
  | .commaLost _ => false
  | .linkRetrain _ => false
  | .stepFrameReturn _ _ => false
  | .stepStartTimeout _ => false
  | .stepEnable _ => false
  | .stepDisable _ => false
  | .stepMove _ _ => false
  | .stepVelocity _ _ => false
  | .stepStop _ => false
  | .stepHome _ => false
  | .stepEngage _ => false
  | .stepDisengage _ => false
  | .stepSetPos _ => false
  | .stepClear _ => false
  | .reverseDwellEnd _ => false
  | .scapEdge _ _ _ => false
  | .homeEdgeQualified _ => false
  | .homeWindowEnd _ => false
  | .axisFrameReturn _ _ => false
  | .axisEnable _ => false
  | .axisDisable _ => false
  | .axisMove _ _ => false
  | .axisVelocity _ _ => false
  | .axisStop _ => false
  | .axisSetPos _ => false
  | .axisClear _ => false
  | .catchTimeout _ => false
  | .spindownTimeout _ => false
  | .observerLoss _ => false
  | .facetPeriodGathered _ => false
  | .recoverTimeout _ => false
  | .hvFrameReturn _ _ => false
  | .loopEnable _ => false
  | .loopDisable _ => false
  | .loopClear _ => false
  | .learnClear _ => false
  | .cellWrite _ _ _ => false
  | .classTTimeout _ => false
  | .scrubEnd => false
  | .queueWrite _ => false
  | .queueLoad => false
  | .queueFlush => false
  | .dmaStart _ _ => false
  | .dmaAbort _ _ => false
  | .dmaAbortDone _ => false
  | .dmaResume _ _ => false
  | .programCheckDone _ _ => false
  | .dmaDescriptor _ _ _ _ => false
  | .dataInstructionDone _ _ _ => false
  | .waitMet _ => false
  | .waitTimeout _ => false
  | .dmaEnd _ => false
  | .dmaBusError _ _ _ => false
  | .clearHalt => false
  | .dmaEvtSet _ => false
  | .dmaEvtClr _ => false
  | .faultMessage _ _ _ => false
  | .escLeak => false
  | .safeEnter _ => false
  | .safeExit => false
  | .errnClear => false
  | .escClr _ => false
  | .inject _ => false
  | .collectorIntegrity _ _ => false
  | .hwdEvent => false
  | .recordWritten _ => false
  | .suppressionSummary _ => false
  | .recorderScanDone => false
  | .snapTake => false
  | .readSeq _ => false
  | .readLoaded => false
  | .clrRequest => false
  | .clrSubmit _ => false
  | .clrCancel => false
  | .challengeLapse => false
  | .lockoutEnd => false
  | .eraseDone => false
  | .domainSwitch _ => false
  | .domainUp _ => false
  | .seqUp => false
  | .seqDown _ => false
  | .railSlot _ => false
  | .pollRound _ _ => false
  | .seqReadDone _ => false
  | .seqTransactionFailed _ _ => false
  | .pgTimeout _ => false
  | .offWaitEnd => false
  | .marginStep _ => false
  | .snapshotDone _ => false
  | .thermalConversion _ _ _ => false
  | .throttleRepeat => false
  | .headThaw _ => false
  | .pllLockDeclared => false
  | .pllLockLost _ => false
  | .sramWipeDone => false
  | .wdtKick => false
  | .watchdogExpiry => false
  | .accept _ => false
  | .lifecycleTransition _ _ => false
  | .otpProgram _ _ => false
  | .vddio33Low => false
  | .uartByte _ _ => false
  | .uartByteTimeout => false
  | .uartReply => false
  | .status => false
  | .readError => false
  | .speed => false
  | .paper => false
  | .top => false
  | .width => false
  | .warmup => false
  | .clearJam => false
  | .cancel => false
  | .engineInfo => false
  | .readReg => false
  | .writeReg => false
  | .legReady => false
  | .legStandby => false
  | .lsyncEdge _ => false
  | .groupWindowClose _ _ _ => false
  | .trace => false
  | .videoLaneStateChange _ _ => false
  | .gapRetrainDone => false
  | .clkTickLoRead => false
  | .tapInstruction _ => false

/-- The parts of the state that a command may change. -/
def Instr.parts : Instr → List Blk
  | .tick _ => Blk.all
  | .governorStepUp => [.fresh, .host, .alm, .pace, .hwd]
  | .almanacPiece => [.fresh, .host, .alm, .flt, .hwd]
  | .check => [.host, .alm]
  | .checkDone _ => [.host, .alm, .hwd]
  | .switch => [.host, .alm, .hwd]
  | .firstActivation => [.host, .alm, .pace, .flt, .hwd, .scan]
  | .bankSwitch => [.host, .alm, .ledg, .pace, .hwd]
  | .gradeRequest _ => [.host, .alm]
  | .gradeChange => [.host, .alm, .ledg, .pace, .hwd]
  | .almCancel => [.host, .alm, .hwd]
  | .release => [.host, .alm, .hwd]
  | .releaseAfterDrain => [.host, .alm, .hwd]
  | .switchLapse => [.host, .alm, .hwd]
  | .drainingEnd => [.alm]
  | .registerWrite _ _ _ _ _ => Blk.all
  | .bar1Write _ _ _ => [.out, .sram, .host, .alm, .flt, .hwd, .beam]
  | .setupLock => [.host, .flt, .hwd]
  | .ringStart _ => [.host]
  | .ringResume _ => [.host]
  | .ringStop _ => [.host]
  | .ringStopped _ => []
  | .doorbell _ _ _ _ => [.host, .flt]
  | .descriptorFetch _ _ _ => [.fresh, .out, .host, .flt, .hwd]
  | .hostReadError _ _ _ _ => [.fresh, .host, .flt, .hwd]
  | .takingResumed => [.host]
  | .ringVector _ => [.out, .host]
  | .detach _ => [.host, .flt, .hwd]
  | .attach _ _ => [.host, .hwd]
  | .tableItem => [.fresh, .out, .sram, .host, .hwd, .beam]
  | .announce => [.fresh, .host, .ledg, .hwd]
  | .purge => [.fresh, .host, .ledg, .hwd, .burl, .scan]
  | .reprint => [.fresh, .host, .ledg, .hwd]
  | .jamClear => [.fresh, .host, .ledg, .hwd]
  | .query => [.fresh, .host, .hwd]
  | .dataHeader _ _ => [.fresh, .host, .ledg, .hwd, .burl, .dram]
  | .earlyWaitExpiry _ => [.fresh, .host, .ledg, .hwd]
  | .framesAvailable _ _ => [.fresh, .host, .ledg, .hwd, .burl, .dram]
  | .bandResident _ _ _ => [.fresh, .host, .ledg, .pace, .hwd, .burl, .dram]
  | .admission => [.fresh, .out, .host, .ledg, .hwd, .scan]
  | .commit _ => [.fresh, .host, .ledg, .hwd]
  | .pick _ => [.out, .ledg]
  | .sheetEdge _ => [.fresh, .out, .host, .ledg, .pace, .flt, .hwd, .burl, .scan, .step, .sio, .axis, .leg]
  | .edgeWindowExpiry _ _ _ => [.fresh, .out, .host, .ledg, .pace, .flt, .hwd, .burl, .scan, .step, .axis, .leg]
  | .targetWithoutEdge _ _ _ => [.ledg]
  | .bandBegun => [.ledg, .pace]
  | .bandDeadline _ _ _ => [.fresh, .host, .ledg, .hwd, .burl, .scan]
  | .lastLine => [.fresh, .host, .ledg, .hwd]
  | .underrunReport => [.fresh, .host, .ledg, .hwd, .burl, .scan]
  | .beamFailureReport => [.fresh, .host, .ledg, .hwd, .burl, .scan]
  | .headShutdownReport => [.fresh, .host, .ledg, .hwd, .burl, .scan]
  | .observerLossReport => [.fresh, .host, .ledg, .hwd, .burl, .scan]
  | .decodeFailureReport => [.fresh, .host, .ledg, .hwd, .burl, .dram, .scan]
  | .entryFreed _ => [.ledg, .burl, .dram, .scan]
  | .backhitchDecided => [.fresh, .out, .host, .pace, .hwd]
  | .bhDecel => [.out, .pace, .flt, .step, .axis]
  | .bhStop => [.out, .pace]
  | .bhReverse => [.out, .pace]
  | .bhPark => [.out, .pace]
  | .bhAccel => [.out, .pace]
  | .bhReverseAgain => [.out, .pace]
  | .bhEnd => [.fresh, .out, .host, .pace, .hwd, .step, .axis]
  | .abandon => [.fresh, .out, .host, .ledg, .pace, .flt, .hwd, .step, .axis]
  | .parkLong => [.host, .pace]
  | .segmentCompressed _ => [.host, .burl, .dram]
  | .decodeBinding => [.host, .hwd, .burl]
  | .segmentHandout _ => [.host, .ledg, .flt, .hwd, .burl, .dram]
  | .segmentDecoded _ => [.host, .ledg, .flt, .hwd, .burl]
  | .lineStoreWrite _ => [.burl, .scan]
  | .trainingStart _ _ => [.fresh, .host, .flt, .hwd, .dram, .lcs]
  | .train => [.fresh, .host, .flt, .hwd, .dram]
  | .retrain => [.dram]
  | .trainingDone _ _ _ => [.host, .flt, .hwd, .dram, .dma]
  | .dramTempRead _ _ _ => [.host, .hwd, .dram]
  | .tracking => [.dram]
  | .gapRetrain => [.hwd, .dram]
  | .dramRequest _ _ _ _ _ _ => [.out, .host, .ledg, .flt, .hwd, .burl, .dram, .dma]
  | .rhWindowClear => [.dram]
  | .patrolScrub _ _ => [.dram]
  | .wipeGroupDone => [.host, .hwd, .dram]
  | .bdEdge _ _ _ _ _ => [.out, .host, .alm, .ledg, .flt, .hwd, .burl, .scan, .beam, .axis, .leg]
  | .facetMissed _ _ => [.out, .host, .alm, .ledg, .flt, .hwd, .burl, .scan, .beam, .leg]
  | .facetEnd _ => [.out, .host, .ledg, .scan, .beam]
  | .scanMeasClr _ => [.scan]
  | .facetReport _ _ => [.out, .sram, .host, .ledg, .flt, .hwd, .beam, .thm, .leg]
  | .tableAck _ _ _ _ => [.fresh, .out, .host, .flt, .hwd, .beam, .leg]
  | .tableAckTimeout _ _ => [.out, .host, .flt, .hwd, .beam, .leg]
  | .statusReport _ _ _ => [.out, .host, .flt, .hwd, .beam, .leg]
  | .reportTimeout _ => [.out, .host, .flt, .hwd, .beam, .leg]
  | .arm _ => [.out, .host, .beam]
  | .disarm _ => [.out, .beam]
  | .reselect _ => [.host, .flt, .hwd, .beam, .leg]
  | .clearFailed _ => [.host, .flt, .hwd, .beam, .leg]
  | .ilkClear => [.hwd]
  | .ldenRise _ => [.out, .beam]
  | .lsiNLow => [.out, .beam]
  | .interlockGathered => [.fresh, .host, .ledg, .flt, .hwd, .burl, .scan, .beam, .leg]
  | .linkEnable _ => [.host, .flt, .hwd, .beam, .step, .axis, .loop]
  | .linkDisable _ => [.fresh, .out, .host, .ledg, .pace, .flt, .hwd, .burl, .scan, .beam, .step, .axis, .loop,
    .leg]
  | .linkTrainingDone _ _ => [.fresh, .out, .host, .ledg, .pace, .flt, .hwd, .burl, .scan, .beam, .step, .axis,
    .loop, .leg]
  | .linkTrainingTimeout _ => [.fresh, .out, .host, .ledg, .pace, .flt, .hwd, .burl, .scan, .beam, .step, .axis,
    .loop, .leg]
  | .linkTimeout _ => [.fresh, .out, .host, .ledg, .pace, .flt, .hwd, .burl, .scan, .beam, .step, .axis, .loop,
    .leg]
  | .commaLost _ => [.fresh, .out, .host, .ledg, .pace, .flt, .hwd, .burl, .scan, .beam, .step, .axis, .loop, .leg]
  | .linkRetrain _ => [.host, .hwd, .beam, .step, .axis, .loop]
  | .stepFrameReturn _ _ => [.step]
  | .stepStartTimeout _ => [.fresh, .out, .host, .ledg, .pace, .flt, .hwd, .burl, .scan, .step, .axis, .leg]
  | .stepEnable _ => [.host, .step]
  | .stepDisable _ => [.host, .flt, .step]
  | .stepMove _ _ => [.host, .step]
  | .stepVelocity _ _ => [.host, .step]
  | .stepStop _ => [.host, .step]
  | .stepHome _ => [.host, .step]
  | .stepEngage _ => [.host, .step]
  | .stepDisengage _ => [.host, .step]
  | .stepSetPos _ => [.host, .step]
  | .stepClear _ => [.host, .flt, .step]
  | .reverseDwellEnd _ => [.step]
  | .scapEdge _ _ _ => [.host, .sio]
  | .homeEdgeQualified _ => [.host, .hwd, .step]
  | .homeWindowEnd _ => [.fresh, .out, .host, .ledg, .pace, .flt, .hwd, .burl, .scan, .step, .axis, .leg]
  | .axisFrameReturn _ _ => [.axis]
  | .axisEnable _ => [.host, .axis]
  | .axisDisable _ => [.host, .flt, .axis]
  | .axisMove _ _ => [.host, .axis]
  | .axisVelocity _ _ => [.host, .axis]
  | .axisStop _ => [.host, .axis]
  | .axisSetPos _ => [.host, .axis]
  | .axisClear _ => [.host, .flt, .axis]
  | .catchTimeout _ => [.axis]
  | .spindownTimeout _ => [.fresh, .out, .host, .ledg, .pace, .flt, .hwd, .burl, .scan, .step, .axis, .leg]
  | .observerLoss _ => [.host, .ledg, .flt, .hwd, .axis]
  | .facetPeriodGathered _ => [.fresh, .out, .host, .ledg, .pace, .flt, .hwd, .burl, .scan, .step, .axis, .leg]
  | .recoverTimeout _ => [.fresh, .out, .host, .ledg, .pace, .flt, .hwd, .burl, .scan, .step, .axis, .leg]
  | .hvFrameReturn _ _ => [.loop]
  | .loopEnable _ => [.host, .loop]
  | .loopDisable _ => [.host, .loop]
  | .loopClear _ => [.host]
  | .learnClear _ => [.sram, .host, .hwd]
  | .cellWrite _ _ _ => [.host, .flt, .hwd, .cnpy]
  | .classTTimeout _ => [.cnpy]
  | .scrubEnd => [.host, .flt, .hwd, .cnpy]
  | .queueWrite _ => [.host, .flt, .hwd, .cnpy]
  | .queueLoad => []
  | .queueFlush => [.host, .flt, .hwd, .cnpy]
  | .dmaStart _ _ => [.host, .flt, .dma]
  | .dmaAbort _ _ => [.host, .flt, .dma]
  | .dmaAbortDone _ => [.dma]
  | .dmaResume _ _ => [.host, .flt, .dma]
  | .programCheckDone _ _ => [.sram, .host, .flt, .hwd, .dma]
  | .dmaDescriptor _ _ _ _ => [.out, .sram, .host, .flt, .hwd, .dram, .dma]
  | .dataInstructionDone _ _ _ => [.out, .sram, .host, .flt, .hwd, .dram, .dma]
  | .waitMet _ => [.host, .flt, .hwd, .dma]
  | .waitTimeout _ => [.host, .flt, .hwd, .dma]
  | .dmaEnd _ => [.host]
  | .dmaBusError _ _ _ => [.host, .dma]
  | .clearHalt => [.hwd]
  | .dmaEvtSet _ => []
  | .dmaEvtClr _ => []
  | .faultMessage _ _ _ => [.flt]
  | .escLeak => [.flt]
  | .safeEnter _ => [.fresh, .out, .host, .alm, .ledg, .pace, .flt, .hwd, .burl, .scan, .beam, .step, .axis, .loop,
    .leg]
  | .safeExit => [.out, .host, .flt, .hwd]
  | .errnClear => [.out, .host]
  | .escClr _ => []
  | .inject _ => [.flt]
  | .collectorIntegrity _ _ => [.out, .host, .flt, .beam]
  | .chipResetWaitEnd => Blk.all
  | .hwdEvent => [.host, .hwd]
  | .recordWritten _ => [.host, .flt, .hwd]
  | .suppressionSummary _ => [.host, .hwd]
  | .recorderScanDone => [.hwd]
  | .snapTake => [.host, .hwd]
  | .readSeq _ => []
  | .readLoaded => []
  | .clrRequest => [.fresh, .host, .hwd]
  | .clrSubmit _ => [.host, .hwd]
  | .clrCancel => [.host, .hwd]
  | .challengeLapse => [.host, .hwd]
  | .lockoutEnd => []
  | .eraseDone => [.hwd]
  | .domainSwitch _ => [.out, .host, .hwd, .scan, .beam, .pwr]
  | .domainUp _ => [.host, .hwd, .scan, .beam, .pwr]
  | .seqUp => [.fresh, .host, .hwd, .pwr]
  | .seqDown _ => [.fresh, .out, .host, .hwd, .pwr]
  | .railSlot _ => [.fresh, .out, .host, .hwd, .pwr]
  | .pollRound _ _ => [.fresh, .out, .pwr]
  | .seqReadDone _ => [.fresh, .out, .host, .flt, .hwd, .pwr]
  | .seqTransactionFailed _ _ => [.fresh, .out, .host, .flt, .hwd, .pwr]
  | .pgTimeout _ => [.fresh, .out, .host, .flt, .hwd, .pwr]
  | .offWaitEnd => [.fresh, .host, .hwd, .pwr]
  | .marginStep _ => [.fresh, .out, .host, .hwd, .pwr]
  | .snapshotDone _ => [.hwd, .pwr]
  | .thermalConversion _ _ _ => [.out, .host, .flt, .hwd, .beam, .thm]
  | .throttleRepeat => [.host, .alm, .hwd, .thm]
  | .thawRestart => Blk.all
  | .headThaw _ => [.host, .hwd, .beam]
  | .pllLockDeclared => [.clk]
  | .pllLockLost _ => [.host, .flt, .hwd]
  | .clockFailure => Blk.all
  | .powerOnReset _ _ _ => Blk.all
  | .sramWipeDone => [.out, .clk]
  | .rstChip _ _ => Blk.all
  | .rstCore _ _ => Blk.all
  | .wdtKick => [.clk]
  | .watchdogExpiry => [.fresh, .out, .host, .alm, .ledg, .pace, .flt, .hwd, .burl, .scan, .beam, .step, .axis,
    .loop, .clk, .leg]
  | .boot _ => Blk.all
  | .bootStaged _ => Blk.all
  | .accept _ => [.host, .hwd, .lcs]
  | .lifecycleTransition _ _ => [.host, .flt, .lcs]
  | .fuseBurnDone => Blk.all
  | .otpProgram _ _ => [.host, .flt, .lcs]
  | .vddio33Low => [.out, .clk]
  | .uartByte _ _ => [.host, .flt, .hwd, .cnpy, .leg]
  | .uartByteTimeout => [.host, .hwd, .leg]
  | .uartReply => [.out, .host, .flt, .hwd, .cnpy, .leg]
  | .status => [.host, .hwd, .leg]
  | .readError => [.host, .hwd, .leg]
  | .speed => [.host, .alm, .hwd, .leg]
  | .paper => [.host, .hwd, .leg]
  | .top => [.host, .hwd, .leg]
  | .width => [.host, .hwd, .leg]
  | .warmup => [.host, .alm, .hwd, .leg]
  | .sleep => Blk.all
  | .clearJam => [.fresh, .host, .ledg, .flt, .hwd, .burl, .scan, .cnpy, .leg]
  | .cancel => [.fresh, .host, .ledg, .flt, .hwd, .burl, .scan, .cnpy, .leg]
  | .engineInfo => [.host, .hwd, .leg]
  | .readReg => [.host, .hwd, .leg]
  | .writeReg => [.host, .hwd, .leg]
  | .legReady => [.leg]
  | .legStandby => []
  | .lsyncEdge _ => [.out, .leg]
  | .groupWindowClose _ _ _ => [.host, .flt, .hwd, .cnpy, .leg]
  | .trace => [.fresh, .host, .hwd]
  | .videoLaneStateChange _ _ => [.host, .hwd]
  | .gapRetrainDone => [.host, .dram]
  | .clkTickLoRead => []
  | .tapInstruction _ => [.fresh, .clk]

/-- The registers that a command may change: families of offsets, each indexed by up to two numbers. -/
def Instr.registers : Instr → List (Nat → Nat → Nat)
  | .tick _ => [each id]
  | .governorStepUp => [one Reg.HOST_ERR, one Reg.LEDG_PACE_EVENTS]
  | .almanacPiece => [one Reg.ALM_EVENTS, one Reg.ALM_REQ_RESULT, one Reg.ALM_SB_BUILD_ID, one Reg.ALM_SB_ENGINE_ID,
    one Reg.ALM_SB_MASKS, one Reg.ALM_SB_STATE, one Reg.ALM_STATUS, one Reg.HOST_ERR]
  | .check => [one Reg.ALM_EVENTS, one Reg.ALM_REQ_RESULT, one Reg.ALM_SB_COST, one Reg.ALM_SB_DETAIL,
    one Reg.ALM_SB_STATE]
  | .checkDone _ => [one Reg.ALM_EVENTS, one Reg.ALM_SB_COST, one Reg.ALM_SB_DETAIL, one Reg.ALM_SB_STATE]
  | .switch => [one Reg.ALM_EVENTS, one Reg.ALM_REQ_RESULT, one Reg.ALM_STATUS]
  | .firstActivation => [one Reg.ALM_EVENTS, one Reg.ALM_REQ_RESULT, one Reg.ALM_STATUS, one Reg.CLK_EVENTS,
    each Reg.CLK_PLL_STATE, one Reg.CLK_STATUS, one Reg.LEDG_BH_STATUS, one Reg.LEDG_PACE_EVENTS,
    one Reg.LEDG_PACE_STATUS, each Reg.LEDG_PACE_STN_ARR, each Reg.LEDG_PACE_STN_CON, one Reg.SCAN_EVENTS,
    one Reg.SCAN_STATUS, each Reg.SCAN_STN_NDIV, each Reg.SCAN_STN_PIXNOW, each Reg.SCAN_STN_STATE]
  | .bankSwitch => [one Reg.ALM_EVENTS, one Reg.ALM_REQ_RESULT, one Reg.ALM_STATUS, one Reg.LEDG_PACE_STATUS]
  | .gradeRequest _ => [one Reg.ALM_EVENTS, one Reg.ALM_REQ_RESULT, one Reg.ALM_STATUS]
  | .gradeChange => [one Reg.ALM_EVENTS, one Reg.ALM_STATUS, one Reg.LEDG_PACE_STATUS]
  | .almCancel => [one Reg.ALM_EVENTS, one Reg.ALM_REQ_RESULT, one Reg.ALM_STATUS]
  | .release => [one Reg.ALM_EVENTS, one Reg.ALM_REQ_RESULT, one Reg.ALM_STATUS]
  | .releaseAfterDrain => [one Reg.ALM_EVENTS, one Reg.ALM_REQ_RESULT, one Reg.ALM_STATUS]
  | .switchLapse => [one Reg.ALM_EVENTS, one Reg.ALM_REQ_RESULT, one Reg.ALM_STATUS]
  | .drainingEnd => [one Reg.ALM_SB_STATE]
  | .registerWrite _ _ _ _ _ => [each id]
  | .bar1Write _ _ _ => [one Reg.ALM_EVENTS, one Reg.ALM_REQ_RESULT, one Reg.ALM_SB_BUILD_ID,
    one Reg.ALM_SB_ENGINE_ID, one Reg.ALM_SB_MASKS, one Reg.ALM_SB_STATE, one Reg.ALM_STATUS,
    each Reg.BEAM_STN_MAP_VALID, each Reg.BEAM_STN_STATE, one Reg.HOST_ERR, one Reg.HOST_ERR_ADDR]
  | .setupLock => [one Reg.HOST_SETUP_LOCK, one Reg.HOST_STATUS, one Reg.LCS_EVENTS]
  | .ringStart _ => [one Reg.HOST_ERR, one Reg.HOST_ERR_RING, each Reg.HOST_RING_DIDX, each Reg.HOST_RING_HIDX,
    each Reg.HOST_RING_STATE, one Reg.HWD_EXPORT_SEQ]
  | .ringResume _ => [one Reg.HOST_ERR, one Reg.HOST_ERR_RING, each Reg.HOST_RING_STATE]
  | .ringStop _ => [one Reg.HOST_ERR, one Reg.HOST_ERR_RING, each Reg.HOST_RING_STATE]
  | .ringStopped _ => [each Reg.HOST_RING_STATE]
  | .doorbell _ _ _ _ => [one Reg.HOST_ERR, one Reg.HOST_ERR_ADDR, one Reg.HOST_ERR_INDEX, one Reg.HOST_ERR_RING,
    each Reg.HOST_RING_HIDX]
  | .descriptorFetch _ _ _ => [one Reg.HOST_ERR, one Reg.HOST_ERR_INDEX, one Reg.HOST_ERR_RING,
    each Reg.HOST_RING_DIDX, each Reg.HOST_RING_HIDX]
  | .hostReadError _ _ _ _ => [one Reg.HOST_ERR, one Reg.HOST_ERR_INDEX, one Reg.HOST_ERR_RING,
    each Reg.HOST_RING_DIDX, each Reg.HOST_RING_STATE]
  | .takingResumed => []
  | .ringVector _ => [each Reg.HOST_MSIX_PBA]
  | .detach _ => [one Reg.HOST_LINK, each Reg.HOST_RING_STATE, one Reg.HOST_STATUS]
  | .attach _ _ => [one Reg.HOST_LINK]
  | .tableItem => [one Reg.AXIS_EVENTS, one Reg.BEAM_EVENTS, each Reg.BEAM_STN_MAP_VALID, each Reg.BEAM_STN_STATE,
    one Reg.HOST_ERR, one Reg.LOOP_EVENTS, one Reg.STEP_EVENTS]
  | .announce => [one Reg.HOST_ERR, one Reg.LEDG_COUNT_REFUSED, one Reg.LEDG_EVENTS, one Reg.LEDG_NEXT_ID,
    one Reg.LEDG_STATUS]
  | .purge => [one Reg.HOST_ERR, one Reg.LEDG_COUNT_REFUSED, one Reg.LEDG_EVENTS]
  | .reprint => [one Reg.HOST_ERR, one Reg.LEDG_COUNT_REFUSED, one Reg.LEDG_EVENTS]
  | .jamClear => [one Reg.HOST_ERR, one Reg.LEDG_COUNT_REFUSED, one Reg.LEDG_EVENTS, one Reg.LEDG_STATUS]
  | .query => [one Reg.HOST_ERR, one Reg.LEDG_COUNT_REFUSED, one Reg.LEDG_EVENTS]
  | .dataHeader _ _ => [one Reg.BURL_COUNT_IN, one Reg.BURL_COUNT_REFUSED, one Reg.BURL_EVENTS,
    one Reg.BURL_ING_ERR, one Reg.BURL_ING_TAG_HI, one Reg.BURL_ING_TAG_LO, one Reg.DRAM_EVENTS,
    one Reg.DRAM_FRAMES_FREE, each Reg.DRAM_PS_HELD, one Reg.DRAM_STATUS, one Reg.HOST_ERR,
    one Reg.LEDG_COUNT_REFUSED, one Reg.LEDG_EVENTS]
  | .earlyWaitExpiry _ => [one Reg.HOST_ERR, one Reg.LEDG_COUNT_REFUSED, one Reg.LEDG_EVENTS]
  | .framesAvailable _ _ => [one Reg.BURL_COUNT_IN, one Reg.BURL_COUNT_REFUSED, one Reg.BURL_EVENTS,
    one Reg.BURL_ING_ERR, one Reg.BURL_ING_TAG_HI, one Reg.BURL_ING_TAG_LO, one Reg.DRAM_EVENTS,
    one Reg.DRAM_FRAMES_FREE, each Reg.DRAM_PS_HELD, one Reg.DRAM_STATUS, one Reg.HOST_ERR,
    one Reg.LEDG_COUNT_REFUSED, one Reg.LEDG_EVENTS]
  | .bandResident _ _ _ => [one Reg.HOST_ERR, one Reg.LEDG_COUNT_REFUSED, one Reg.LEDG_EVENTS]
  | .admission => [one Reg.HOST_ERR, one Reg.LEDG_HEAD_ID, one Reg.LEDG_PACE_COUNT_EXT, one Reg.LEDG_STATUS]
  | .commit _ => [one Reg.HOST_ERR]
  | .pick _ => []
  | .sheetEdge _ => [one Reg.HOST_ERR, one Reg.LEDG_BH_STATUS, one Reg.LEDG_COUNT_JAM, one Reg.LEDG_EVENTS,
    one Reg.LEDG_PACE_EVENTS, one Reg.LEDG_STATUS, one Reg.LEG_STATUS]
  | .edgeWindowExpiry _ _ _ => [one Reg.HOST_ERR, one Reg.LEDG_BH_STATUS, one Reg.LEDG_COUNT_JAM,
    one Reg.LEDG_EVENTS, one Reg.LEDG_PACE_EVENTS, one Reg.LEDG_STATUS, one Reg.LEG_STATUS]
  | .targetWithoutEdge _ _ _ => []
  | .bandBegun => []
  | .bandDeadline _ _ _ => [one Reg.HOST_ERR, one Reg.LEDG_COUNT_SPOILED, one Reg.LEDG_EVENTS]
  | .lastLine => [one Reg.HOST_ERR, one Reg.LEDG_COUNT_DELIVERED, one Reg.LEDG_EVENTS]
  | .underrunReport => [one Reg.HOST_ERR, one Reg.LEDG_COUNT_SPOILED, one Reg.LEDG_EVENTS]
  | .beamFailureReport => [one Reg.HOST_ERR, one Reg.LEDG_COUNT_SPOILED, one Reg.LEDG_EVENTS]
  | .headShutdownReport => [one Reg.HOST_ERR, one Reg.LEDG_COUNT_SPOILED, one Reg.LEDG_EVENTS]
  | .observerLossReport => [one Reg.HOST_ERR, one Reg.LEDG_COUNT_SPOILED, one Reg.LEDG_EVENTS]
  | .decodeFailureReport => [one Reg.HOST_ERR, one Reg.LEDG_COUNT_SPOILED, one Reg.LEDG_EVENTS]
  | .entryFreed _ => [one Reg.LEDG_STATUS]
  | .backhitchDecided => [one Reg.HOST_ERR, one Reg.LEDG_BH_REV_PLAN, one Reg.LEDG_BH_STATUS,
    one Reg.LEDG_PACE_EVENTS]
  | .bhDecel => [one Reg.LEDG_BH_STATUS]
  | .bhStop => [one Reg.LEDG_BH_STATUS]
  | .bhReverse => [one Reg.LEDG_BH_STATUS, one Reg.LEDG_BH_TARGET]
  | .bhPark => [one Reg.LEDG_BH_STATUS]
  | .bhAccel => [one Reg.LEDG_BH_STATUS]
  | .bhReverseAgain => [one Reg.LEDG_BH_STATUS, one Reg.LEDG_BH_TARGET]
  | .bhEnd => [one Reg.HOST_ERR, one Reg.LEDG_BH_COUNT, one Reg.LEDG_BH_STATUS, one Reg.LEDG_PACE_EVENTS]
  | .abandon => [one Reg.HOST_ERR, one Reg.LEDG_BH_STATUS, one Reg.LEDG_PACE_EVENTS]
  | .parkLong => [one Reg.LEDG_PACE_EVENTS]
  | .segmentCompressed _ => [one Reg.BURL_COUNT_STORED, one Reg.BURL_EVENTS]
  | .decodeBinding => [each Reg.BURL_DBIND, each Reg.BURL_DBIND_ACT, one Reg.BURL_EVENTS, one Reg.BURL_STATUS]
  | .segmentHandout _ => [one Reg.BURL_COUNT_DEC_ERR, one Reg.BURL_DEC_ERR, one Reg.BURL_DEC_OFFSET,
    one Reg.BURL_DEC_TAG_HI, one Reg.BURL_DEC_TAG_LO, one Reg.BURL_EVENTS, one Reg.DRAM_ECC_ADDR_HI,
    one Reg.DRAM_ECC_ADDR_LO, one Reg.DRAM_ECC_UE_COUNT, one Reg.DRAM_EVENTS, one Reg.DRAM_FRAMES_BAD,
    one Reg.DRAM_FRAMES_FREE]
  | .segmentDecoded _ => [one Reg.BURL_COUNT_DEC_ERR, one Reg.BURL_DEC_ERR, one Reg.BURL_DEC_OFFSET,
    one Reg.BURL_DEC_TAG_HI, one Reg.BURL_DEC_TAG_LO, one Reg.BURL_EVENTS]
  | .lineStoreWrite _ => []
  | .trainingStart _ _ => [Reg.CLK_BAND_b, one Reg.CLK_EVENTS, each Reg.CLK_PLL_STATE, one Reg.CLK_STATUS,
    one Reg.DRAM_EVENTS, one Reg.DRAM_FRAMES_FREE, one Reg.DRAM_FRAMES_TOTAL, one Reg.DRAM_ORG,
    each Reg.DRAM_PS_HELD, one Reg.DRAM_STATUS, one Reg.DRAM_TRAIN_RESULT, one Reg.DRAM_WIPE_POS]
  | .train => [one Reg.CLK_EVENTS, each Reg.CLK_PLL_STATE, one Reg.CLK_STATUS, one Reg.DRAM_EVENTS,
    one Reg.DRAM_FRAMES_FREE, one Reg.DRAM_FRAMES_TOTAL, each Reg.DRAM_PS_HELD, one Reg.DRAM_STATUS,
    one Reg.DRAM_TRAIN_RESULT, one Reg.DRAM_WIPE_POS]
  | .retrain => [one Reg.DRAM_STATUS]
  | .trainingDone _ _ _ => [each Reg.DMA_CH_CFG, each Reg.DMA_CH_STATE, one Reg.DRAM_EVENTS,
    one Reg.DRAM_FRAMES_TOTAL, one Reg.DRAM_STATUS, one Reg.DRAM_TEMP, one Reg.DRAM_TRAIN_RESULT]
  | .dramTempRead _ _ _ => [one Reg.DRAM_EVENTS, one Reg.DRAM_STATUS, one Reg.DRAM_TEMP]
  | .tracking => []
  | .gapRetrain => [one Reg.DRAM_STATUS]
  | .dramRequest _ _ _ _ _ _ => [one Reg.BURL_COUNT_DEC_ERR, one Reg.BURL_DEC_ERR, one Reg.BURL_DEC_OFFSET,
    one Reg.BURL_DEC_TAG_HI, one Reg.BURL_DEC_TAG_LO, one Reg.BURL_EVENTS, each Reg.DMA_CH_STATE,
    one Reg.DMA_EVENTS, one Reg.DMA_HALT_ADDR_HI, one Reg.DMA_HALT_ADDR_LO, one Reg.DMA_HALT_INFO,
    one Reg.DMA_STATUS, one Reg.DRAM_ECC_ADDR_HI, one Reg.DRAM_ECC_ADDR_LO, one Reg.DRAM_ECC_CE_COUNT,
    one Reg.DRAM_ECC_UE_COUNT, one Reg.DRAM_EVENTS, one Reg.DRAM_FRAMES_BAD, one Reg.DRAM_FRAMES_FREE,
    each Reg.DRAM_PORT_MISS, each Reg.DRAM_PORT_THROT]
  | .rhWindowClear => []
  | .patrolScrub _ _ => []
  | .wipeGroupDone => [each Reg.DMA_CH_STATE, one Reg.DRAM_EVENTS, one Reg.DRAM_FRAMES_FREE, one Reg.DRAM_STATUS,
    one Reg.DRAM_WIPE_POS]
  | .bdEdge _ _ _ _ _ => [one Reg.ALM_EVENTS, one Reg.BEAM_EVENTS, one Reg.BEAM_STATUS,
    each Reg.BEAM_STN_COUNT_FAILOVER, each Reg.BEAM_STN_STATE, each Reg.BURL_DBIND_ACT, one Reg.BURL_EVENTS,
    one Reg.BURL_STATUS, one Reg.CLK_EVENTS, each Reg.CLK_PLL_STATE, one Reg.CLK_STATUS, each Reg.HOST_RING_DIDX,
    one Reg.LEG_STATUS, one Reg.SCAN_EVENTS, one Reg.SCAN_STATUS, each Reg.SCAN_STN_COUNT_MISS,
    each Reg.SCAN_STN_COUNT_STRAY, each Reg.SCAN_STN_COUNT_UNDER, Reg.SCAN_STN_FPER, each Reg.SCAN_STN_LINE_HI,
    each Reg.SCAN_STN_LINE_LO, each Reg.SCAN_STN_NDIV, each Reg.SCAN_STN_PERIOD, each Reg.SCAN_STN_PIXNOW,
    Reg.SCAN_STN_PYR, each Reg.SCAN_STN_REG_ERR, Reg.SCAN_STN_RESID, each Reg.SCAN_STN_STATE]
  | .facetMissed _ _ => [one Reg.ALM_EVENTS, one Reg.BEAM_EVENTS, one Reg.BEAM_STATUS,
    each Reg.BEAM_STN_COUNT_FAILOVER, each Reg.BEAM_STN_STATE, each Reg.BURL_DBIND_ACT, one Reg.BURL_EVENTS,
    one Reg.BURL_STATUS, one Reg.CLK_EVENTS, each Reg.CLK_PLL_STATE, one Reg.CLK_STATUS, each Reg.HOST_RING_DIDX,
    one Reg.LEG_STATUS, one Reg.SCAN_EVENTS, one Reg.SCAN_STATUS, each Reg.SCAN_STN_COUNT_MISS,
    each Reg.SCAN_STN_COUNT_UNDER, each Reg.SCAN_STN_LINE_HI, each Reg.SCAN_STN_LINE_LO, each Reg.SCAN_STN_NDIV,
    each Reg.SCAN_STN_PIXNOW, each Reg.SCAN_STN_REG_ERR, Reg.SCAN_STN_RESID, each Reg.SCAN_STN_STATE]
  | .facetEnd _ => [one Reg.BEAM_STATUS, each Reg.BEAM_STN_STATE, each Reg.HOST_RING_DIDX, each Reg.SCAN_STN_STATE]
  | .scanMeasClr _ => [Reg.SCAN_STN_FPER, Reg.SCAN_STN_PYR, Reg.SCAN_STN_RESID]
  | .facetReport _ _ => [one Reg.BEAM_EVENTS, one Reg.BEAM_STATUS, each Reg.BEAM_STN_COUNT_BADREP,
    each Reg.BEAM_STN_COUNT_FAILOVER, each Reg.BEAM_STN_COUNT_FRAME_BAD, each Reg.BEAM_STN_FACET_SEQ,
    each Reg.BEAM_STN_FAILED_HI, each Reg.BEAM_STN_FAILED_LO, each Reg.BEAM_STN_HEAD_TEMP, each Reg.BEAM_STN_STATE,
    one Reg.LEG_STATUS, one Reg.SCAN_EVENTS, each Reg.SCAN_STN_COUNT_UNDER, each Reg.THM_CH_TEMP]
  | .tableAck _ _ _ _ => [one Reg.BEAM_EVENTS, one Reg.BEAM_STATUS, each Reg.BEAM_STN_COUNT_BADREP,
    each Reg.BEAM_STN_LINK_LOG, each Reg.BEAM_STN_STATE, one Reg.HOST_ERR, one Reg.LEG_STATUS]
  | .tableAckTimeout _ _ => [one Reg.BEAM_EVENTS, one Reg.BEAM_STATUS, each Reg.BEAM_STN_LINK_LOG,
    each Reg.BEAM_STN_STATE, one Reg.LEG_STATUS]
  | .statusReport _ _ _ => [one Reg.BEAM_EVENTS, one Reg.BEAM_STATUS, each Reg.BEAM_STN_COUNT_BADREP,
    each Reg.BEAM_STN_LINK_LOG, each Reg.BEAM_STN_STATE, one Reg.LEG_STATUS]
  | .reportTimeout _ => [one Reg.BEAM_EVENTS, one Reg.BEAM_STATUS, each Reg.BEAM_STN_LINK_LOG,
    each Reg.BEAM_STN_STATE, one Reg.LEG_STATUS]
  | .arm _ => [one Reg.BEAM_EVENTS, each Reg.BEAM_STN_STATE]
  | .disarm _ => [one Reg.BEAM_STATUS, each Reg.BEAM_STN_STATE]
  | .reselect _ => [one Reg.BEAM_EVENTS, each Reg.BEAM_STN_COUNT_FAILOVER, each Reg.BEAM_STN_STATE,
    one Reg.LEG_STATUS]
  | .clearFailed _ => [one Reg.BEAM_EVENTS, each Reg.BEAM_STN_COUNT_FAILOVER, each Reg.BEAM_STN_FAILED_HI,
    each Reg.BEAM_STN_FAILED_LO, each Reg.BEAM_STN_STATE, one Reg.LEG_STATUS]
  | .ilkClear => [one Reg.BEAM_STATUS]
  | .ldenRise _ => [one Reg.BEAM_STATUS, each Reg.BEAM_STN_STATE]
  | .lsiNLow => [one Reg.BEAM_STATUS, each Reg.BEAM_STN_STATE]
  | .interlockGathered => [one Reg.BEAM_EVENTS, one Reg.BEAM_ILK_COUNT, one Reg.HOST_ERR,
    one Reg.LEDG_COUNT_SPOILED, one Reg.LEDG_EVENTS, one Reg.LEG_STATUS]
  | .linkEnable _ => [one Reg.AXIS_EVENTS, each Reg.AXIS_LINK_CFG, each Reg.AXIS_LINK_STATE, one Reg.BEAM_EVENTS,
    each Reg.BEAM_STN_CFG, each Reg.BEAM_STN_STATE, one Reg.HOST_ERR, one Reg.HOST_ERR_ADDR, one Reg.LOOP_EVENTS,
    each Reg.LOOP_LINK_CFG, each Reg.LOOP_LINK_STATE, one Reg.STEP_EVENTS, each Reg.STEP_LINK_CFG,
    each Reg.STEP_LINK_STATE]
  | .linkDisable _ => [each Reg.AXIS_AX_FAULT, one Reg.AXIS_EVENTS, each Reg.AXIS_LINK_CFG,
    each Reg.AXIS_LINK_STATE, one Reg.BEAM_EVENTS, one Reg.BEAM_STATUS, each Reg.BEAM_STN_CFG,
    each Reg.BEAM_STN_STATE, one Reg.HOST_ERR, one Reg.HOST_ERR_ADDR, one Reg.LEDG_BH_STATUS,
    one Reg.LEDG_COUNT_JAM, one Reg.LEDG_EVENTS, one Reg.LEDG_PACE_EVENTS, one Reg.LEDG_STATUS, one Reg.LEG_STATUS,
    one Reg.LOOP_EVENTS, each Reg.LOOP_LINK_CFG, each Reg.LOOP_LINK_STATE, each Reg.LOOP_LP_DUTY,
    each Reg.LOOP_LP_FAULT, each Reg.LOOP_LP_STATE, each Reg.STEP_AX_FAULT, one Reg.STEP_EVENTS,
    each Reg.STEP_LINK_CFG, each Reg.STEP_LINK_STATE]
  | .linkTrainingDone _ _ => [one Reg.AXIS_EVENTS, each Reg.AXIS_LINK_STATE, one Reg.BEAM_EVENTS,
    each Reg.BEAM_STN_COUNT_FAILOVER, each Reg.BEAM_STN_STATE, one Reg.HOST_ERR, one Reg.LEDG_BH_STATUS,
    one Reg.LEDG_COUNT_JAM, one Reg.LEDG_EVENTS, one Reg.LEDG_PACE_EVENTS, one Reg.LEDG_STATUS, one Reg.LEG_STATUS,
    one Reg.LOOP_EVENTS, each Reg.LOOP_LINK_STATE, each Reg.STEP_AX_FAULT, one Reg.STEP_EVENTS,
    each Reg.STEP_LINK_STATE]
  | .linkTrainingTimeout _ => [each Reg.AXIS_AX_FAULT, one Reg.AXIS_EVENTS, each Reg.AXIS_LINK_STATE,
    one Reg.BEAM_EVENTS, one Reg.BEAM_STATUS, each Reg.BEAM_STN_LINK_LOG, each Reg.BEAM_STN_STATE, one Reg.HOST_ERR,
    one Reg.LEDG_BH_STATUS, one Reg.LEDG_COUNT_JAM, one Reg.LEDG_EVENTS, one Reg.LEDG_PACE_EVENTS,
    one Reg.LEDG_STATUS, one Reg.LEG_STATUS, one Reg.LOOP_EVENTS, each Reg.LOOP_LINK_STATE, each Reg.LOOP_LP_DUTY,
    each Reg.LOOP_LP_FAULT, each Reg.LOOP_LP_STATE, each Reg.STEP_AX_FAULT, one Reg.STEP_EVENTS,
    each Reg.STEP_LINK_STATE]
  | .linkTimeout _ => [each Reg.AXIS_AX_FAULT, one Reg.AXIS_EVENTS, each Reg.AXIS_LINK_STATE, one Reg.BEAM_EVENTS,
    one Reg.BEAM_STATUS, each Reg.BEAM_STN_LINK_LOG, each Reg.BEAM_STN_STATE, one Reg.HOST_ERR,
    one Reg.LEDG_BH_STATUS, one Reg.LEDG_COUNT_JAM, one Reg.LEDG_EVENTS, one Reg.LEDG_PACE_EVENTS,
    one Reg.LEDG_STATUS, one Reg.LEG_STATUS, one Reg.LOOP_EVENTS, each Reg.LOOP_LINK_STATE, each Reg.LOOP_LP_DUTY,
    each Reg.LOOP_LP_FAULT, each Reg.LOOP_LP_STATE, each Reg.STEP_AX_FAULT, one Reg.STEP_EVENTS,
    each Reg.STEP_LINK_STATE]
  | .commaLost _ => [each Reg.AXIS_AX_FAULT, one Reg.AXIS_EVENTS, each Reg.AXIS_LINK_STATE, one Reg.BEAM_EVENTS,
    one Reg.BEAM_STATUS, each Reg.BEAM_STN_LINK_LOG, each Reg.BEAM_STN_STATE, one Reg.HOST_ERR,
    one Reg.LEDG_BH_STATUS, one Reg.LEDG_COUNT_JAM, one Reg.LEDG_EVENTS, one Reg.LEDG_PACE_EVENTS,
    one Reg.LEDG_STATUS, one Reg.LEG_STATUS, one Reg.LOOP_EVENTS, each Reg.LOOP_LINK_STATE, each Reg.LOOP_LP_DUTY,
    each Reg.LOOP_LP_FAULT, each Reg.LOOP_LP_STATE, each Reg.STEP_AX_FAULT, one Reg.STEP_EVENTS,
    each Reg.STEP_LINK_STATE]
  | .linkRetrain _ => [one Reg.AXIS_EVENTS, each Reg.AXIS_LINK_STATE, one Reg.BEAM_EVENTS, each Reg.BEAM_STN_STATE,
    one Reg.LOOP_EVENTS, each Reg.LOOP_LINK_STATE, one Reg.STEP_EVENTS, each Reg.STEP_LINK_STATE]
  | .stepFrameReturn _ _ => [each Reg.STEP_LINK_STATE]
  | .stepStartTimeout _ => [one Reg.HOST_ERR, one Reg.LEDG_BH_STATUS, one Reg.LEDG_COUNT_JAM, one Reg.LEDG_EVENTS,
    one Reg.LEDG_PACE_EVENTS, one Reg.LEDG_STATUS, one Reg.LEG_STATUS, each Reg.STEP_AX_FAULT, one Reg.STEP_EVENTS]
  | .stepEnable _ => [each Reg.STEP_AX_RESULT, one Reg.STEP_EVENTS]
  | .stepDisable _ => [each Reg.STEP_AX_RESULT, one Reg.STEP_EVENTS]
  | .stepMove _ _ => [each Reg.STEP_AX_RESULT, one Reg.STEP_EVENTS]
  | .stepVelocity _ _ => [each Reg.STEP_AX_RESULT, one Reg.STEP_EVENTS]
  | .stepStop _ => [each Reg.STEP_AX_RESULT, one Reg.STEP_EVENTS]
  | .stepHome _ => [each Reg.STEP_AX_RESULT, one Reg.STEP_EVENTS]
  | .stepEngage _ => [each Reg.STEP_AX_RESULT, one Reg.STEP_EVENTS]
  | .stepDisengage _ => [each Reg.STEP_AX_RESULT, one Reg.STEP_EVENTS]
  | .stepSetPos _ => [each Reg.STEP_AX_RESULT, one Reg.STEP_EVENTS]
  | .stepClear _ => [each Reg.STEP_AX_RESULT, one Reg.STEP_EVENTS]
  | .reverseDwellEnd _ => []
  | .scapEdge _ _ _ => [one Reg.SIO_EVENTS]
  | .homeEdgeQualified _ => [each Reg.STEP_AX_HOME_LATCH, one Reg.STEP_EVENTS]
  | .homeWindowEnd _ => [one Reg.HOST_ERR, one Reg.LEDG_BH_STATUS, one Reg.LEDG_COUNT_JAM, one Reg.LEDG_EVENTS,
    one Reg.LEDG_PACE_EVENTS, one Reg.LEDG_STATUS, one Reg.LEG_STATUS, each Reg.STEP_AX_FAULT, one Reg.STEP_EVENTS]
  | .axisFrameReturn _ _ => [each Reg.AXIS_LINK_STATE]
  | .axisEnable _ => [each Reg.AXIS_AX_RESULT, one Reg.AXIS_EVENTS]
  | .axisDisable _ => [each Reg.AXIS_AX_RESULT, one Reg.AXIS_EVENTS]
  | .axisMove _ _ => [each Reg.AXIS_AX_RESULT, one Reg.AXIS_EVENTS]
  | .axisVelocity _ _ => [each Reg.AXIS_AX_RESULT, one Reg.AXIS_EVENTS]
  | .axisStop _ => [each Reg.AXIS_AX_RESULT, one Reg.AXIS_EVENTS]
  | .axisSetPos _ => [each Reg.AXIS_AX_RESULT, one Reg.AXIS_EVENTS]
  | .axisClear _ => [each Reg.AXIS_AX_RESULT, one Reg.AXIS_EVENTS]
  | .catchTimeout _ => []
  | .spindownTimeout _ => [each Reg.AXIS_AX_FAULT, one Reg.AXIS_EVENTS, one Reg.HOST_ERR, one Reg.LEDG_BH_STATUS,
    one Reg.LEDG_COUNT_JAM, one Reg.LEDG_EVENTS, one Reg.LEDG_PACE_EVENTS, one Reg.LEDG_STATUS, one Reg.LEG_STATUS]
  | .observerLoss _ => [each Reg.AXIS_AX_COUNTS, one Reg.AXIS_EVENTS]
  | .facetPeriodGathered _ => [each Reg.AXIS_AX_BD_EANGLE, each Reg.AXIS_AX_COUNTS, each Reg.AXIS_AX_FAULT,
    one Reg.AXIS_EVENTS, one Reg.HOST_ERR, one Reg.LEDG_BH_STATUS, one Reg.LEDG_COUNT_JAM, one Reg.LEDG_EVENTS,
    one Reg.LEDG_PACE_EVENTS, one Reg.LEDG_STATUS, one Reg.LEG_STATUS]
  | .recoverTimeout _ => [each Reg.AXIS_AX_FAULT, one Reg.AXIS_EVENTS, one Reg.HOST_ERR, one Reg.LEDG_BH_STATUS,
    one Reg.LEDG_COUNT_JAM, one Reg.LEDG_EVENTS, one Reg.LEDG_PACE_EVENTS, one Reg.LEDG_STATUS, one Reg.LEG_STATUS]
  | .hvFrameReturn _ _ => [each Reg.LOOP_LINK_STATE]
  | .loopEnable _ => [one Reg.LOOP_EVENTS, each Reg.LOOP_LP_RESULT, each Reg.LOOP_LP_STATE]
  | .loopDisable _ => [one Reg.LOOP_EVENTS, each Reg.LOOP_LP_DUTY, each Reg.LOOP_LP_RESULT, each Reg.LOOP_LP_STATE]
  | .loopClear _ => [one Reg.LOOP_EVENTS, each Reg.LOOP_LP_RESULT, each Reg.LOOP_LP_STATE]
  | .learnClear _ => [one Reg.LOOP_EVENTS, each Reg.LOOP_LP_RESULT]
  | .cellWrite _ _ _ => [one Reg.CNPY_COUNT_DROP, one Reg.CNPY_COUNT_MISMATCH, one Reg.CNPY_EVENTS,
    one Reg.CNPY_MISMATCH_Q]
  | .classTTimeout _ => []
  | .scrubEnd => [one Reg.CNPY_EVENTS]
  | .queueWrite _ => [one Reg.CNPY_EVENTS, one Reg.CNPY_QRESULT, one Reg.HOST_ERR, one Reg.HOST_ERR_ADDR]
  | .queueLoad => [one Reg.CNPY_QCFG0, one Reg.CNPY_QCFG1, one Reg.CNPY_QCFG2, one Reg.CNPY_QCFG3,
    one Reg.CNPY_QRESULT, one Reg.CNPY_QSTATE]
  | .queueFlush => [one Reg.CNPY_COUNT_DROP, one Reg.CNPY_EVENTS, one Reg.CNPY_QRESULT]
  | .dmaStart _ _ => [each Reg.DMA_CH_LOOP01, each Reg.DMA_CH_LOOP2, each Reg.DMA_CH_STATE, one Reg.DMA_EVENTS,
    one Reg.HOST_ERR, one Reg.HOST_ERR_ADDR]
  | .dmaAbort _ _ => [each Reg.DMA_CH_STATE, one Reg.DMA_EVENTS, one Reg.HOST_ERR, one Reg.HOST_ERR_ADDR]
  | .dmaAbortDone _ => [each Reg.DMA_CH_STATE]
  | .dmaResume _ _ => [each Reg.DMA_CH_STATE, one Reg.DMA_EVENTS, one Reg.HOST_ERR, one Reg.HOST_ERR_ADDR]
  | .programCheckDone _ _ => [each Reg.DMA_CH_ERRADDR_HI, each Reg.DMA_CH_ERRADDR_LO, each Reg.DMA_CH_LOOP01,
    each Reg.DMA_CH_LOOP2, each Reg.DMA_CH_SIGVAL, each Reg.DMA_CH_STATE, one Reg.DMA_EVENTS, one Reg.DMA_EVT_HI,
    one Reg.DMA_EVT_LO, one Reg.DMA_HALT_ADDR_HI, one Reg.DMA_HALT_ADDR_LO, one Reg.DMA_HALT_INFO,
    one Reg.DMA_STATUS]
  | .dmaDescriptor _ _ _ _ => [each Reg.DMA_CH_BYTES, each Reg.DMA_CH_ERRADDR_HI, each Reg.DMA_CH_ERRADDR_LO,
    each Reg.DMA_CH_STATE, one Reg.DMA_EVENTS, one Reg.DMA_HALT_ADDR_HI, one Reg.DMA_HALT_ADDR_LO,
    one Reg.DMA_HALT_INFO, one Reg.DMA_STATUS]
  | .dataInstructionDone _ _ _ => [each Reg.DMA_CH_BYTES, each Reg.DMA_CH_ERRADDR_HI, each Reg.DMA_CH_ERRADDR_LO,
    each Reg.DMA_CH_LOOP01, each Reg.DMA_CH_LOOP2, each Reg.DMA_CH_SIGVAL, each Reg.DMA_CH_STATE,
    one Reg.DMA_EVENTS, one Reg.DMA_EVT_HI, one Reg.DMA_EVT_LO, one Reg.DMA_HALT_ADDR_HI, one Reg.DMA_HALT_ADDR_LO,
    one Reg.DMA_HALT_INFO, one Reg.DMA_STATUS]
  | .waitMet _ => [each Reg.DMA_CH_ERRADDR_HI, each Reg.DMA_CH_ERRADDR_LO, each Reg.DMA_CH_LOOP01,
    each Reg.DMA_CH_LOOP2, each Reg.DMA_CH_SIGVAL, each Reg.DMA_CH_STATE, one Reg.DMA_EVENTS, one Reg.DMA_EVT_HI,
    one Reg.DMA_EVT_LO]
  | .waitTimeout _ => [each Reg.DMA_CH_ERRADDR_HI, each Reg.DMA_CH_ERRADDR_LO, each Reg.DMA_CH_LOOP01,
    each Reg.DMA_CH_LOOP2, each Reg.DMA_CH_SIGVAL, each Reg.DMA_CH_STATE, one Reg.DMA_EVENTS, one Reg.DMA_EVT_HI,
    one Reg.DMA_EVT_LO]
  | .dmaEnd _ => [each Reg.DMA_CH_STATE]
  | .dmaBusError _ _ _ => [each Reg.DMA_CH_STATE, one Reg.DMA_EVENTS, one Reg.DMA_HALT_ADDR_HI,
    one Reg.DMA_HALT_ADDR_LO, one Reg.DMA_HALT_INFO, one Reg.DMA_STATUS]
  | .clearHalt => [one Reg.DMA_STATUS]
  | .dmaEvtSet _ => [one Reg.DMA_EVT_HI, one Reg.DMA_EVT_LO]
  | .dmaEvtClr _ => [one Reg.DMA_EVT_HI, one Reg.DMA_EVT_LO]
  | .faultMessage _ _ _ => [one Reg.FLT_COUNT_MERGED, one Reg.FLT_COUNT_MSG]
  | .escLeak => [each Reg.FLT_ESC]
  | .safeEnter _ => [one Reg.ALM_EVENTS, one Reg.ALM_REQ_RESULT, one Reg.ALM_STATUS, one Reg.BEAM_STATUS,
    each Reg.BEAM_STN_STATE, one Reg.FLT_EVENTS, one Reg.FLT_RESULT, one Reg.FLT_SAFE_CAUSE, one Reg.FLT_SAFE_SRC,
    one Reg.FLT_SAFE_TICK_HI, one Reg.FLT_SAFE_TICK_LO, one Reg.FLT_STATUS, one Reg.HOST_ERR,
    one Reg.LEDG_BH_STATUS, one Reg.LEDG_COUNT_JAM, one Reg.LEDG_EVENTS, one Reg.LEDG_PACE_EVENTS,
    one Reg.LEDG_STATUS, one Reg.LEG_STATUS, one Reg.LOOP_EVENTS, each Reg.LOOP_LP_DUTY, each Reg.LOOP_LP_STATE]
  | .safeExit => [one Reg.FLT_EVENTS, one Reg.FLT_RESULT, one Reg.FLT_SAFE_CAUSE, one Reg.FLT_SAFE_SRC,
    one Reg.FLT_STATUS]
  | .errnClear => [one Reg.FLT_EVENTS, one Reg.FLT_RESULT, one Reg.FLT_STATUS]
  | .escClr _ => [each Reg.FLT_ESC]
  | .inject _ => [one Reg.FLT_COUNT_MERGED, one Reg.FLT_COUNT_MSG]
  | .collectorIntegrity _ _ => [one Reg.BEAM_STATUS, each Reg.BEAM_STN_STATE, one Reg.FLT_SAFE_CAUSE,
    one Reg.FLT_SAFE_TICK_HI, one Reg.FLT_SAFE_TICK_LO, one Reg.FLT_STATUS]
  | .chipResetWaitEnd => [each id]
  | .hwdEvent => [one Reg.HWD_CLR_FAILS, one Reg.HWD_CLR_RESULT, one Reg.HWD_COUNT_LOST, one Reg.HWD_EVENTS,
    one Reg.HWD_EXPORT_SEQ, each Reg.HWD_RATE_STATE, one Reg.HWD_STATUS]
  | .recordWritten _ => [one Reg.HWD_COUNT_LOST, one Reg.HWD_EVENTS, each Reg.HWD_RATE_STATE]
  | .suppressionSummary _ => [one Reg.HWD_COUNT_LOST, one Reg.HWD_EVENTS, each Reg.HWD_RATE_STATE]
  | .recorderScanDone => [one Reg.HWD_COUNT_TORN, one Reg.HWD_STATUS]
  | .snapTake => [one Reg.HWD_CLR_FAILS, one Reg.HWD_CLR_RESULT, one Reg.HWD_COUNT_LOST, one Reg.HWD_EVENTS,
    one Reg.HWD_EXPORT_SEQ, each Reg.HWD_RATE_STATE, one Reg.HWD_SNAP_FIRST, one Reg.HWD_SNAP_LAST,
    one Reg.HWD_STATUS]
  | .readSeq _ => [one Reg.HWD_READ_SEQ, one Reg.HWD_READ_STATUS]
  | .readLoaded => [each Reg.HWD_READ_DATA, one Reg.HWD_READ_STATUS]
  | .clrRequest => [each Reg.HWD_CLR_CHAL, one Reg.HWD_CLR_RESULT, one Reg.HWD_EVENTS, one Reg.HWD_STATUS]
  | .clrSubmit _ => [one Reg.HWD_CLR_FAILS, one Reg.HWD_CLR_RESULT, one Reg.HWD_COUNT_LOST, one Reg.HWD_EVENTS,
    one Reg.HWD_EXPORT_SEQ, each Reg.HWD_RATE_STATE, one Reg.HWD_STATUS]
  | .clrCancel => [one Reg.HWD_CLR_RESULT, one Reg.HWD_EVENTS, one Reg.HWD_STATUS]
  | .challengeLapse => [one Reg.HWD_CLR_RESULT, one Reg.HWD_EVENTS, one Reg.HWD_STATUS]
  | .lockoutEnd => [one Reg.HWD_STATUS]
  | .eraseDone => [one Reg.HWD_STATUS]
  | .domainSwitch _ => [one Reg.BEAM_EVENTS, one Reg.BEAM_STATUS, each Reg.BEAM_STN_STATE, one Reg.PWR_DOM_REQ,
    one Reg.PWR_DOM_STATE, one Reg.PWR_EVENTS, one Reg.SCAN_STATUS, each Reg.SCAN_STN_STATE]
  | .domainUp _ => [one Reg.BEAM_EVENTS, each Reg.BEAM_STN_STATE, one Reg.PWR_DOM_STATE]
  | .seqUp => [one Reg.PWR_EVENTS, each Reg.PWR_RAIL_STATE, one Reg.PWR_RESULT, one Reg.PWR_SEQ_STATE]
  | .seqDown _ => [one Reg.PWR_EVENTS, each Reg.PWR_RAIL_STATE, one Reg.PWR_RESULT, one Reg.PWR_SEQ_STATE]
  | .railSlot _ => [one Reg.PWR_EVENTS, each Reg.PWR_RAIL_STATE, one Reg.PWR_SEQ_STATE]
  | .pollRound _ _ => [each Reg.PWR_RAIL_STATE, one Reg.PWR_SEQ_STATE]
  | .seqReadDone _ => [one Reg.PWR_EVENTS, each Reg.PWR_RAIL_STATE, one Reg.PWR_SEQ_STATE]
  | .seqTransactionFailed _ _ => [one Reg.PWR_EVENTS, each Reg.PWR_RAIL_STATE, one Reg.PWR_SEQ_STATE]
  | .pgTimeout _ => [one Reg.PWR_EVENTS, each Reg.PWR_RAIL_STATE, one Reg.PWR_SEQ_STATE]
  | .offWaitEnd => [one Reg.PWR_EVENTS, each Reg.PWR_RAIL_STATE, one Reg.PWR_SEQ_STATE]
  | .marginStep _ => [one Reg.PWR_EVENTS, each Reg.PWR_RAIL_STATE]
  | .snapshotDone _ => [each Reg.PWR_RAIL_READ]
  | .thermalConversion _ _ _ => [one Reg.BEAM_STATUS, each Reg.BEAM_STN_STATE, one Reg.FLT_SAFE_CAUSE,
    one Reg.FLT_SAFE_TICK_HI, one Reg.FLT_SAFE_TICK_LO, one Reg.FLT_STATUS, each Reg.THM_CH_TEMP,
    one Reg.THM_EVENTS, one Reg.THM_LATCHED, one Reg.THM_STATUS]
  | .throttleRepeat => [one Reg.THM_EVENTS, one Reg.THM_STATUS]
  | .thawRestart => [each id]
  | .headThaw _ => [one Reg.BEAM_STATUS, each Reg.BEAM_STN_STATE, one Reg.THM_EVENTS]
  | .pllLockDeclared => [each Reg.CLK_PLL_STATE, one Reg.CLK_STATUS]
  | .pllLockLost _ => [one Reg.CLK_EVENTS, each Reg.CLK_PLL_STATE, one Reg.CLK_STATUS]
  | .clockFailure => [each id]
  | .powerOnReset _ _ _ => [each id]
  | .sramWipeDone => []
  | .rstChip _ _ => [each id]
  | .rstCore _ _ => [each id]
  | .wdtKick => []
  | .watchdogExpiry => [one Reg.ALM_EVENTS, one Reg.ALM_REQ_RESULT, one Reg.ALM_STATUS, one Reg.BEAM_STATUS,
    each Reg.BEAM_STN_STATE, one Reg.FLT_EVENTS, one Reg.FLT_RESULT, one Reg.FLT_SAFE_CAUSE, one Reg.FLT_SAFE_SRC,
    one Reg.FLT_SAFE_TICK_HI, one Reg.FLT_SAFE_TICK_LO, one Reg.FLT_STATUS, one Reg.HOST_ERR,
    one Reg.LEDG_BH_STATUS, one Reg.LEDG_COUNT_JAM, one Reg.LEDG_EVENTS, one Reg.LEDG_PACE_EVENTS,
    one Reg.LEDG_STATUS, one Reg.LEG_STATUS, one Reg.LOOP_EVENTS, each Reg.LOOP_LP_DUTY, each Reg.LOOP_LP_STATE]
  | .boot _ => [each id]
  | .bootStaged _ => [each id]
  | .accept _ => [one Reg.LCS_ACCEPT_RESULT, one Reg.LCS_EVENTS, one Reg.LCS_STATUS]
  | .lifecycleTransition _ _ => [one Reg.LCS_EVENTS, one Reg.LCS_STATUS, one Reg.LCS_TRANS_RESULT]
  | .fuseBurnDone => [each id]
  | .otpProgram _ _ => [one Reg.LCS_EVENTS, one Reg.LCS_OTP_RESULT]
  | .vddio33Low => [one Reg.BEAM_STATUS, each Reg.BEAM_STN_STATE]
  | .uartByte _ _ => [one Reg.CNPY_COUNT_DROP, one Reg.CNPY_COUNT_MISMATCH, one Reg.CNPY_EVENTS,
    one Reg.CNPY_MISMATCH_Q, one Reg.LEG_COUNT_CMD, one Reg.LEG_EVENTS, one Reg.LEG_STATUS]
  | .uartByteTimeout => [one Reg.LEG_COUNT_CMD, one Reg.LEG_EVENTS, one Reg.LEG_STATUS]
  | .uartReply => [one Reg.CNPY_COUNT_DROP, one Reg.CNPY_COUNT_MISMATCH, one Reg.CNPY_EVENTS,
    one Reg.CNPY_MISMATCH_Q, one Reg.LEG_STATUS]
  | .status => [one Reg.LEG_COUNT_CMD, one Reg.LEG_EVENTS, one Reg.LEG_STATUS]
  | .readError => [one Reg.LEG_COUNT_CMD, one Reg.LEG_EVENTS, one Reg.LEG_STATUS]
  | .speed => [one Reg.ALM_EVENTS, one Reg.ALM_REQ_RESULT, one Reg.ALM_STATUS, one Reg.LEG_COUNT_CMD,
    one Reg.LEG_EVENTS, one Reg.LEG_STATUS]
  | .paper => [one Reg.LEG_COUNT_CMD, one Reg.LEG_EVENTS, one Reg.LEG_PAGE, one Reg.LEG_STATUS]
  | .top => [one Reg.LEG_COUNT_CMD, one Reg.LEG_EVENTS, one Reg.LEG_STATUS, one Reg.LEG_TOP]
  | .width => [one Reg.LEG_COUNT_CMD, one Reg.LEG_EVENTS, one Reg.LEG_PAGE, one Reg.LEG_STATUS]
  | .warmup => [one Reg.ALM_EVENTS, one Reg.ALM_REQ_RESULT, one Reg.ALM_STATUS, one Reg.LEG_COUNT_CMD,
    one Reg.LEG_EVENTS, one Reg.LEG_STATUS]
  | .sleep => [each id]
  | .clearJam => [one Reg.CNPY_COUNT_DROP, one Reg.CNPY_COUNT_MISMATCH, one Reg.CNPY_EVENTS,
    one Reg.CNPY_MISMATCH_Q, one Reg.HOST_ERR, one Reg.LEDG_COUNT_REFUSED, one Reg.LEDG_EVENTS, one Reg.LEDG_STATUS,
    one Reg.LEG_COUNT_CMD, one Reg.LEG_EVENTS, one Reg.LEG_PERIOD, one Reg.LEG_STATUS]
  | .cancel => [one Reg.CNPY_COUNT_DROP, one Reg.CNPY_COUNT_MISMATCH, one Reg.CNPY_EVENTS, one Reg.CNPY_MISMATCH_Q,
    one Reg.HOST_ERR, one Reg.LEG_COUNT_CMD, one Reg.LEG_EVENTS, one Reg.LEG_STATUS]
  | .engineInfo => [one Reg.LEG_COUNT_CMD, one Reg.LEG_EVENTS, one Reg.LEG_STATUS]
  | .readReg => [one Reg.LEG_COUNT_CMD, one Reg.LEG_EVENTS, one Reg.LEG_STATUS]
  | .writeReg => [one Reg.LEG_COUNT_CMD, one Reg.LEG_EVENTS, one Reg.LEG_STATUS]
  | .legReady => [one Reg.LEG_PERIOD, one Reg.LEG_STATUS]
  | .legStandby => [one Reg.LEG_STATUS]
  | .lsyncEdge _ => [one Reg.LEG_PERIOD, one Reg.LEG_STATUS]
  | .groupWindowClose _ _ _ => [one Reg.CNPY_COUNT_DROP, one Reg.CNPY_COUNT_MISMATCH, one Reg.CNPY_EVENTS,
    one Reg.CNPY_MISMATCH_Q, one Reg.LEG_COUNT_UNDERRUN, one Reg.LEG_EVENTS, each Reg.LEG_LANE_STATE,
    one Reg.LEG_STATUS]
  | .trace => [one Reg.HOST_ERR, one Reg.LEG_TRACE]
  | .videoLaneStateChange _ _ => [one Reg.LEG_EVENTS, each Reg.LEG_LANE_STATE]
  | .gapRetrainDone => [one Reg.DRAM_EVENTS, one Reg.DRAM_STATUS, one Reg.DRAM_TEMP]
  | .clkTickLoRead => [one Reg.CLK_TICK_HI]
  | .tapInstruction _ => []

/-- A register that a command may change. -/
def Instr.mayWrite (i : Instr) (a : Nat) : Prop := ∃ f ∈ i.registers, ∃ j k, a = f j k

end Sys2Proof
end

