-- ==== Sys2Proof/WellFormed.lean ====
section
/-!
DEFINITION. Which commands the outside can deliver: the checks on operands that their types leave open. A command that
fails its check reaches no port of the part.
-/

namespace Sys2Proof

/-- A width in bytes that a PCIe access can have (R73, R75). -/
def goodWidth (w : Nat) : Bool := [1, 2, 4, 8].contains w

/-- A number in the range of a `w`-bit two's-complement field. -/
def inSigned (w : Nat) (i : Int) : Bool := decide (-(2 : Int) ^ (w - 1) ≤ i) && decide (i < (2 : Int) ^ (w - 1))

/-- Page-store frames that an allocator can take: no frame twice (R207). -/
def goodFrames (fs : List Nat) : Bool := decide fs.Nodup && fs.all (fun f => decide (f < 2 ^ 23))

/-- What the outside brings to a tick: 256 chain bits, slots of a page. -/
def TickIn.wf (i : TickIn) : Bool :=
  i.chain.all (fun n => decide (n < 2 ^ 256)) && i.slotErrors.all (fun e => decide (e.1 < 1024))

/-- The number of nodes that a link can answer with (R297, R364). -/
def LinkId.nodesOk (l : LinkId) (n : Fin 32) : Bool :=
  match l with
  | .step _ => decide (n.val ≤ 24)
  | .hv _ => decide (n.val ≤ 16)
  | _ => decide (n.val = 0)

/-- A cell (R381): 32 bytes, of which LAST_BYTES are the packet's in its last cell. -/
def CellIn.wf (c : CellIn) : Bool := c.data.length == 32 && decide (c.last < 32)

/-- The boot flash: each slot within its size (R502, R521). -/
def Flash.wf (f : Flash) : Bool :=
  [f.fwA, f.fwB].all (fun b => decide (b.length ≤ 2 ^ 22)) &&
  [f.persA, f.persB, f.pack].all (fun b => decide (b.length ≤ 2 ^ 21)) &&
  [f.matA, f.matB].all (fun b => decide (b.length ≤ 65536))

/-- The operands of a command are ones that a port can deliver. -/
def Instr.wf : Instr → Bool
  | .tick i => i.wf
  | .governorStepUp => true
  | .almanacPiece => true
  | .check => true
  | .checkDone _ => true
  | .switch => true
  | .firstActivation => true
  | .bankSwitch => true
  | .gradeRequest _ => true
  | .gradeChange => true
  | .almCancel => true
  | .release => true
  | .releaseAfterDrain => true
  | .switchLapse => true
  | .drainingEnd => true
  | .registerWrite _ bar2 off n v =>
    decide (off < (if bar2 then 0x10000 else 0x1000000)) && goodWidth n && decide (v.toNat < 256 ^ n)
  | .bar1Write _ o bs =>
    decide (1 ≤ bs.length) && decide (bs.length ≤ 512) && decide (o + bs.length ≤ 0x4000000)
  | .setupLock => true
  | .ringStart _ => true
  | .ringResume _ => true
  | .ringStop _ => true
  | .ringStopped _ => true
  | .doorbell _ off n v => decide (off < 4096) && goodWidth n && decide (v.toNat < 256 ^ n)
  | .descriptorFetch k descs data =>
    decide (descs ≠ []) && descs.all (·.length == 64) && (k.val != 0 || data.isEmpty)
  | .hostReadError k onBuffer descs code =>
    decide (k.val ≤ 9) && descs.all (·.length == 64) && (!onBuffer || !descs.isEmpty) && decide (code < 8)
  | .takingResumed => true
  | .ringVector _ => true
  | .detach cause => decide (1 ≤ cause) && decide (cause ≤ 3)
  | .attach r _ => decide (1 ≤ r.speed) && decide (r.speed ≤ 5) && [1, 2, 4, 8].contains r.width
  | .tableItem => true
  | .announce => true
  | .purge => true
  | .reprint => true
  | .jamClear => true
  | .query => true
  | .dataHeader _ frames => goodFrames frames
  | .earlyWaitExpiry _ => true
  | .framesAvailable _ frames => goodFrames frames
  | .bandResident sheet _ band => decide (sheet < 2 ^ 32) && decide (band < 4096)
  | .admission => true
  | .commit id => decide (id < 2 ^ 32)
  | .pick id => decide (id < 2 ^ 32)
  | .sheetEdge _ => true
  | .edgeWindowExpiry id _ _ => decide (id < 2 ^ 32)
  | .targetWithoutEdge id _ _ => decide (id < 2 ^ 32)
  | .bandBegun => true
  | .bandDeadline id _ band => decide (id < 2 ^ 32) && decide (band < 4096)
  | .lastLine => true
  | .underrunReport => true
  | .beamFailureReport => true
  | .headShutdownReport => true
  | .observerLossReport => true
  | .decodeFailureReport => true
  | .entryFreed id => decide (id < 2 ^ 32)
  | .backhitchDecided => true
  | .bhDecel => true
  | .bhStop => true
  | .bhReverse => true
  | .bhPark => true
  | .bhAccel => true
  | .bhReverseAgain => true
  | .bhEnd => true
  | .abandon => true
  | .parkLong => true
  | .segmentCompressed _ => true
  | .decodeBinding => true
  | .segmentHandout _ => true
  | .segmentDecoded _ => true
  | .lineStoreWrite _ => true
  | .trainingStart _ bands => decide (bands.length ≤ 32)
  | .train => true
  | .retrain => true
  | .trainingDone _ _ temp => inSigned 8 temp
  | .dramTempRead phy warmest _ => inSigned 8 phy && inSigned 8 warmest
  | .tracking => true
  | .gapRetrain => true
  | .dramRequest _ arrivals now _ _ _ => arrivals.all (fun a => decide (a.addr < 2 ^ 36) && decide (a.time ≤ now))
  | .rhWindowClear => true
  | .patrolScrub _ _ => true
  | .wipeGroupDone => true
  | .bdEdge _ _ _ _ _ => true
  | .facetMissed _ _ => true
  | .facetEnd _ => true
  | .scanMeasClr _ => true
  | .facetReport _ bs => bs.length == 116 && decide (bs.headD 0 = 1)
  | .tableAck _ bs _ _ => bs.length == 6 && decide (bs.headD 0 = 2)
  | .tableAckTimeout _ _ => true
  | .statusReport _ bs _ => bs.length == 4 && decide (bs.headD 0 = 3)
  | .reportTimeout _ => true
  | .arm _ => true
  | .disarm _ => true
  | .reselect _ => true
  | .clearFailed _ => true
  | .ilkClear => true
  | .ldenRise _ => true
  | .lsiNLow => true
  | .interlockGathered => true
  | .linkEnable _ => true
  | .linkDisable _ => true
  | .linkTrainingDone l nodes => l.nodesOk nodes
  | .linkTrainingTimeout _ => true
  | .linkTimeout _ => true
  | .commaLost _ => true
  | .linkRetrain _ => true
  | .stepFrameReturn _ bs => bs.length == 204
  | .stepStartTimeout _ => true
  | .stepEnable _ => true
  | .stepDisable _ => true
  | .stepMove _ _ => true
  | .stepVelocity _ _ => true
  | .stepStop _ => true
  | .stepHome _ => true
  | .stepEngage _ => true
  | .stepDisengage _ => true
  | .stepSetPos _ => true
  | .stepClear _ => true
  | .reverseDwellEnd _ => true
  | .scapEdge _ _ _ => true
  | .homeEdgeQualified _ => true
  | .homeWindowEnd _ => true
  | .axisFrameReturn _ bs => bs.length == 208
  | .axisEnable _ => true
  | .axisDisable _ => true
  | .axisMove _ _ => true
  | .axisVelocity _ _ => true
  | .axisStop _ => true
  | .axisSetPos _ => true
  | .axisClear _ => true
  | .catchTimeout _ => true
  | .spindownTimeout _ => true
  | .observerLoss _ => true
  | .facetPeriodGathered _ => true
  | .recoverTimeout _ => true
  | .hvFrameReturn _ bs => bs.length == 140
  | .loopEnable _ => true
  | .loopDisable _ => true
  | .loopClear _ => true
  | .learnClear _ => true
  | .cellWrite _ cells ptr => (decide (cells ≠ []) || decide (ptr ≠ 0)) && cells.all CellIn.wf
  | .classTTimeout _ => true
  | .scrubEnd => true
  | .queueWrite _ => true
  | .queueLoad => true
  | .queueFlush => true
  | .dmaStart _ _ => true
  | .dmaAbort _ _ => true
  | .dmaAbortDone _ => true
  | .dmaResume _ _ => true
  | .programCheckDone _ host => decide (host.length ≤ 8192)
  | .dmaDescriptor _ host hsrc hdst =>
    (host.isEmpty || host.length == 32) && decide (hsrc.length < 2 ^ 24) && decide (hdst.length < 2 ^ 24)
  | .dataInstructionDone _ hsrc hdst => decide (hsrc.length < 2 ^ 24) && decide (hdst.length < 2 ^ 24)
  | .waitMet _ => true
  | .waitTimeout _ => true
  | .dmaEnd _ => true
  | .dmaBusError cause _ _ => decide (1 ≤ cause.val) && decide (cause.val ≤ 4)
  | .clearHalt => true
  | .dmaEvtSet _ => true
  | .dmaEvtClr _ => true
  | .faultMessage _ _ _ => true
  | .escLeak => true
  | .safeEnter _ => true
  | .safeExit => true
  | .errnClear => true
  | .escClr _ => true
  | .inject _ => true
  | .collectorIntegrity _ _ => true
  | .chipResetWaitEnd => true
  | .hwdEvent => true
  | .recordWritten _ => true
  | .suppressionSummary _ => true
  | .recorderScanDone => true
  | .snapTake => true
  | .readSeq _ => true
  | .readLoaded => true
  | .clrRequest => true
  | .clrSubmit _ => true
  | .clrCancel => true
  | .challengeLapse => true
  | .lockoutEnd => true
  | .eraseDone => true
  | .domainSwitch _ => true
  | .domainUp _ => true
  | .seqUp => true
  | .seqDown _ => true
  | .railSlot _ => true
  | .pollRound _ found =>
    decide (found.length ≤ 8) && found.all (fun p => decide (p.1 < 256) && decide (p.2 < 256))
  | .seqReadDone x => decide (x.level < 256) && decide (x.changed < 256) && (!x.vin || x.seq == 0)
  | .seqTransactionFailed _ _ => true
  | .pgTimeout _ => true
  | .offWaitEnd => true
  | .marginStep _ => true
  | .snapshotDone readings => readings.length == 64
  | .thermalConversion _ v _ => inSigned 16 v
  | .throttleRepeat => true
  | .thawRestart => true
  | .headThaw _ => true
  | .pllLockDeclared => true
  | .pllLockLost _ => true
  | .clockFailure => true
  | .powerOnReset _ _ _ => true
  | .sramWipeDone => true
  | .rstChip _ _ => true
  | .rstCore _ _ => true
  | .wdtKick => true
  | .watchdogExpiry => true
  | .boot f => f.wf
  | .bootStaged f => f.wf
  | .accept _ => true
  | .lifecycleTransition _ _ => true
  | .fuseBurnDone => true
  | .otpProgram _ _ => true
  | .vddio33Low => true
  | .uartByte _ _ => true
  | .uartByteTimeout => true
  | .uartReply => true
  | .status => true
  | .readError => true
  | .speed => true
  | .paper => true
  | .top => true
  | .width => true
  | .warmup => true
  | .sleep => true
  | .clearJam => true
  | .cancel => true
  | .engineInfo => true
  | .readReg => true
  | .writeReg => true
  | .legReady => true
  | .legStandby => true
  | .lsyncEdge _ => true
  | .groupWindowClose _ bytes _ => decide (bytes.length ≤ 65536)
  | .trace => true
  | .videoLaneStateChange _ _ => true
  | .gapRetrainDone => true
  | .clkTickLoRead => true
  | .tapInstruction _ => true

/-- The commands whose operands carry a check beyond their types; of every other command each operand can be delivered. -/
def Instr.checked : Instr → Bool
  | .tick _ | .registerWrite _ _ _ _ _ | .bar1Write _ _ _ | .doorbell _ _ _ _ | .descriptorFetch _ _ _
  | .hostReadError _ _ _ _ | .detach _ | .attach _ _ | .dataHeader _ _ | .framesAvailable _ _
  | .bandResident _ _ _ | .commit _ | .pick _ | .edgeWindowExpiry _ _ _ | .targetWithoutEdge _ _ _
  | .bandDeadline _ _ _ | .entryFreed _ | .trainingStart _ _ | .trainingDone _ _ _ | .dramTempRead _ _ _
  | .dramRequest _ _ _ _ _ _ | .facetReport _ _ | .tableAck _ _ _ _ | .statusReport _ _ _ | .linkTrainingDone _ _
  | .stepFrameReturn _ _ | .axisFrameReturn _ _ | .hvFrameReturn _ _ | .cellWrite _ _ _ | .programCheckDone _ _
  | .dmaDescriptor _ _ _ _ | .dataInstructionDone _ _ _ | .dmaBusError _ _ _ | .pollRound _ _ | .seqReadDone _
  | .snapshotDone _ | .thermalConversion _ _ _ | .boot _ | .bootStaged _ | .groupWindowClose _ _ _ => true
  | .governorStepUp => false
  | .almanacPiece => false
  | .check => false
  | .checkDone _ => false
  | .switch => false
  | .firstActivation => false
  | .bankSwitch => false
  | .gradeRequest _ => false
  | .gradeChange => false
  | .almCancel => false
  | .release => false
  | .releaseAfterDrain => false
  | .switchLapse => false
  | .drainingEnd => false
  | .setupLock => false
  | .ringStart _ => false
  | .ringResume _ => false
  | .ringStop _ => false
  | .ringStopped _ => false
  | .takingResumed => false
  | .ringVector _ => false
  | .tableItem => false
  | .announce => false
  | .purge => false
  | .reprint => false
  | .jamClear => false
  | .query => false
  | .earlyWaitExpiry _ => false
  | .admission => false
  | .sheetEdge _ => false
  | .bandBegun => false
  | .lastLine => false
  | .underrunReport => false
  | .beamFailureReport => false
  | .headShutdownReport => false
  | .observerLossReport => false
  | .decodeFailureReport => false
  | .backhitchDecided => false
  | .bhDecel => false
  | .bhStop => false
  | .bhReverse => false
  | .bhPark => false
  | .bhAccel => false
  | .bhReverseAgain => false
  | .bhEnd => false
  | .abandon => false
  | .parkLong => false
  | .segmentCompressed _ => false
  | .decodeBinding => false
  | .segmentHandout _ => false
  | .segmentDecoded _ => false
  | .lineStoreWrite _ => false
  | .train => false
  | .retrain => false
  | .tracking => false
  | .gapRetrain => false
  | .rhWindowClear => false
  | .patrolScrub _ _ => false
  | .wipeGroupDone => false
  | .bdEdge _ _ _ _ _ => false
  | .facetMissed _ _ => false
  | .facetEnd _ => false
  | .scanMeasClr _ => false
  | .tableAckTimeout _ _ => false
  | .reportTimeout _ => false
  | .arm _ => false
  | .disarm _ => false
  | .reselect _ => false
  | .clearFailed _ => false
  | .ilkClear => false
  | .ldenRise _ => false
  | .lsiNLow => false
  | .interlockGathered => false
  | .linkEnable _ => false
  | .linkDisable _ => false
  | .linkTrainingTimeout _ => false
  | .linkTimeout _ => false
  | .commaLost _ => false
  | .linkRetrain _ => false
  | .stepStartTimeout _ => false
  | .stepEnable _ => false
  | .stepDisable _ => false
  | .stepMove _ _ => false
  | .stepVelocity _ _ => false
  | .stepStop _ => false
  | .stepHome _ => false
  | .stepEngage _ => false
  | .stepDisengage _ => false
  | .stepSetPos _ => false
  | .stepClear _ => false
  | .reverseDwellEnd _ => false
  | .scapEdge _ _ _ => false
  | .homeEdgeQualified _ => false
  | .homeWindowEnd _ => false
  | .axisEnable _ => false
  | .axisDisable _ => false
  | .axisMove _ _ => false
  | .axisVelocity _ _ => false
  | .axisStop _ => false
  | .axisSetPos _ => false
  | .axisClear _ => false
  | .catchTimeout _ => false
  | .spindownTimeout _ => false
  | .observerLoss _ => false
  | .facetPeriodGathered _ => false
  | .recoverTimeout _ => false
  | .loopEnable _ => false
  | .loopDisable _ => false
  | .loopClear _ => false
  | .learnClear _ => false
  | .classTTimeout _ => false
  | .scrubEnd => false
  | .queueWrite _ => false
  | .queueLoad => false
  | .queueFlush => false
  | .dmaStart _ _ => false
  | .dmaAbort _ _ => false
  | .dmaAbortDone _ => false
  | .dmaResume _ _ => false
  | .waitMet _ => false
  | .waitTimeout _ => false
  | .dmaEnd _ => false
  | .clearHalt => false
  | .dmaEvtSet _ => false
  | .dmaEvtClr _ => false
  | .faultMessage _ _ _ => false
  | .escLeak => false
  | .safeEnter _ => false
  | .safeExit => false
  | .errnClear => false
  | .escClr _ => false
  | .inject _ => false
  | .collectorIntegrity _ _ => false
  | .chipResetWaitEnd => false
  | .hwdEvent => false
  | .recordWritten _ => false
  | .suppressionSummary _ => false
  | .recorderScanDone => false
  | .snapTake => false
  | .readSeq _ => false
  | .readLoaded => false
  | .clrRequest => false
  | .clrSubmit _ => false
  | .clrCancel => false
  | .challengeLapse => false
  | .lockoutEnd => false
  | .eraseDone => false
  | .domainSwitch _ => false
  | .domainUp _ => false
  | .seqUp => false
  | .seqDown _ => false
  | .railSlot _ => false
  | .seqTransactionFailed _ _ => false
  | .pgTimeout _ => false
  | .offWaitEnd => false
  | .marginStep _ => false
  | .throttleRepeat => false
  | .thawRestart => false
  | .headThaw _ => false
  | .pllLockDeclared => false
  | .pllLockLost _ => false
  | .clockFailure => false
  | .powerOnReset _ _ _ => false
  | .sramWipeDone => false
  | .rstChip _ _ => false
  | .rstCore _ _ => false
  | .wdtKick => false
  | .watchdogExpiry => false
  | .accept _ => false
  | .lifecycleTransition _ _ => false
  | .fuseBurnDone => false
  | .otpProgram _ _ => false
  | .vddio33Low => false
  | .uartByte _ _ => false
  | .uartByteTimeout => false
  | .uartReply => false
  | .status => false
  | .readError => false
  | .speed => false
  | .paper => false
  | .top => false
  | .width => false
  | .warmup => false
  | .sleep => false
  | .clearJam => false
  | .cancel => false
  | .engineInfo => false
  | .readReg => false
  | .writeReg => false
  | .legReady => false
  | .legStandby => false
  | .lsyncEdge _ => false
  | .trace => false
  | .videoLaneStateChange _ _ => false
  | .gapRetrainDone => false
  | .clkTickLoRead => false
  | .tapInstruction _ => false

end Sys2Proof
end

