-- ==== Sys2Proof/Certificates/Slice0/Obligations.lean ====
section
/-!
DEFINITION. The statements for the provers: the rules of the machine, the global statements first, then a block of
statements for each family of commands. Each clause of a family's statement says on which states a command has its
own effect and what the next state is like; what it leaves unchanged is `CommandFrame`. Where a command is a
decision of the tick, the clause names by `s` the state in which it is decided (`State.begin`), by `s0` the one in
which the command comes, and, for a decision of the ledger, by `s.ready` that no earlier step of R144 waits.
-/

open Sys2Proof Sys2Proof.Machine

/-- A step carries out the command at the front of the queue. For every command c, state s and queue rest: a step of s
with c in front of rest is exec c on s with the queue rest. It says nothing of what exec does. (01_engine_overview.md)
-/
def Obligations.FrontCommandRuns : Prop :=
  (∀ (c : Instr) (s : State) (rest : List Instr),
    step { s with pending := c :: rest } = exec c { s with pending := rest })

/-- On an empty queue the block idles (the model's choice, log entry 1). Where no command waits, a step answers the
same state. This is the model's choice (log entry 1): time passes only at a TICK command. (01_engine_overview.md) -/
def Obligations.EmptyQueueIdles : Prop :=
  (∀ s : State, s.pending = [] → step s = .next s)

/-- Reset leaves the registers at the values that the register tables state. After reset these registers hold the
reset values of their tables: the identity, the Almanac's status and budgets, the ledger's, the governor's and the
backhitch's settings, Burl's, Heartwood's, the power and thermal settings, the watchdog period and the legacy port's
settings; the setup lock is open; each ring is idle with size 8 and every reaction byte is 1. The queue of commands is
empty and the tick counter 0. (R69, R106, R151, R175, R200, R441, R461, R485, R515, R541) -/
def Obligations.ResetRegisterValues : Prop :=
  (State.reset.rd Reg.HOST_ID = 0x96401F9A ∧ State.reset.rd Reg.HOST_STEPPING = 0xC ∧
    State.reset.rd Reg.HOST_SETUP_LOCK = 0 ∧ State.reset.rd Reg.ALM_STATUS = 0x72 ∧
    State.reset.rd Reg.ALM_SWITCH_WAIT = 0x2710 ∧ State.reset.rd Reg.ALM_BUDGET0 = 0x0BB80FA0 ∧
    State.reset.rd Reg.ALM_BUDGET1 = 0x0BB82328 ∧ State.reset.rd Reg.ALM_COST_ID = 0xC01 ∧
    State.reset.rd Reg.LEDG_CFG = 0x2820 ∧ State.reset.rd Reg.LEDG_STATUS = 0x800 ∧
    State.reset.rd Reg.LEDG_GAP_UM = 0xC350 ∧ State.reset.rd Reg.LEDG_EDGE_WIN = 0x1388 ∧
    State.reset.rd Reg.LEDG_PACE_CFG = 0xA01 ∧ State.reset.rd Reg.LEDG_PACE_THR0 = 0x100030 ∧
    State.reset.rd Reg.LEDG_PACE_STATUS = 0x07007FFF ∧ State.reset.rd Reg.LEDG_BH_CFG = 4 ∧
    State.reset.rd Reg.LEDG_BH_REV_MAX = 0x1E8480 ∧ State.reset.rd Reg.BURL_CFG = 0x04040400 ∧
    State.reset.rd Reg.HWD_CFG = 0x9C40 ∧ State.reset.rd Reg.HWD_READ_STATUS = 2 ∧
    State.reset.rd Reg.HWD_CLR_TMO = 0x249F00 ∧ State.reset.rd Reg.PWR_SEQ_CFG = 3 ∧
    State.reset.rd Reg.PWR_PG_CFG = 0x0FA00050 ∧ State.reset.rd Reg.PWR_DOM_REQ = 0x18 ∧
    State.reset.rd Reg.PWR_DOM_STATE = 0xFFF ∧ State.reset.rd Reg.THM_CFG = 0x61A80 ∧
    State.reset.rd Reg.CLK_WDT = 0xFA0 ∧ State.reset.rd Reg.LEG_CFG = 0x644C1400 ∧
    State.reset.rd Reg.LEG_GAP = 0x10) ∧
  ((∀ k : Fin 16, State.reset.rd (Reg.HOST_RING_SIZE k) = 8 ∧ State.reset.rd (Reg.HOST_RING_STATE k) = 0) ∧
    (∀ k : Fin 16, State.reset.rd (Reg.HOST_RING_IMOD k) = 1) ∧
    (∀ i : Fin 512, State.reset.rd (Reg.FLT_REACT i) = 0x01010101) ∧
    (∀ c : Fin 256, State.reset.rd (Reg.HWD_RATE c) = 0x20040)) ∧
  (State.reset.pending = [] ∧ State.reset.tick = 0)

/-- The state after reset is canonical. After reset the register store lists only registers that differ from their
reset values, in rising order, and every addressed memory of the part is in canonical form (it lists nothing). The
form is the model's own (log entry 34 says what an unlisted byte reads). (02_almanac.md, 03_host_rings.md) -/
def Obligations.ResetIsCanonical : Prop :=
  (State.reset.wf = true ∧ State.reset.sram = [] ∧ State.reset.alm.bank0 = [] ∧ State.reset.alm.bank1 = [])

/-- Every step keeps the canonical form of registers and memories. For every state whose register store, table windows
and Almanac banks are in canonical form (offsets or addresses strictly rising, nothing listed that reads as it would
unlisted), every next state that a step answers has that form, so that equal contents are equal data. (02_almanac.md,
03_host_rings.md) -/
def Obligations.StepKeepsCanonicalForm : Prop :=
  (∀ s t : State, s.wf = true → step s = .next t → t.wf = true)

/-- No command touches the queue of commands. Where a command answers a next state, the queue is the one it started
with; so a step takes exactly the front command off the queue and puts none into it. (01_engine_overview.md) -/
def Obligations.CommandsLeaveTheQueue : Prop :=
  (∀ (i : Instr) (s t : State), exec i s = .next t → t.pending = s.pending) ∧
  (∀ (c : Instr) (s t : State) (rest : List Instr), s.pending = c :: rest → step s = .next t → t.pending = rest)

/-- No command is refused, and only operands that no port can deliver fault. Every command answers a next state in
every state, except that the five commands that carry bytes or descriptors fault where these have a form that no port
can deliver (log entry 36); a delivery that is well formed never stops the three of them whose form their operands
alone decide. No command is ever refused. (03_host_rings.md, 14_dma.md) -/
def Obligations.OnlyUndeliverableOperandsStop : Prop :=
  (∀ (i : Instr) (s : State), (∃ t, exec i s = .next t) ∨ (exec i s = .fault .illFormed ∧
      ((∃ k descs data, i = .descriptorFetch k descs data) ∨ (∃ k b descs e, i = .hostReadError k b descs e) ∨
       (∃ w o bs, i = .bar1Write w o bs) ∨ (∃ x host a d, i = .dmaDescriptor x host a d) ∨
       ∃ x a d, i = .dataInstructionDone x a d))) ∧
  (∀ (w : Writer) (o : Nat) (bs : List Byte) (s : State), (Instr.bar1Write w o bs).wf = true →
    ∃ t, exec (.bar1Write w o bs) s = .next t)

/-- The life-cycle fuses change only when a burn ends. A command that answers a state whose fused life-cycle state
differs from before is FUSE_BURN_DONE; and FUSE_BURN_DONE changes them only where a burn is running. (R511, R512) -/
def Obligations.OnlyBurningChangesTheFuses : Prop :=
  (∀ (i : Instr) (s t : State), exec i s = .next t → t.lcs.fused ≠ s.lcs.fused → i = .fuseBurnDone ∧ ∃ n m,
    s.lcs.burning = some (n, m) ∧ t.lcs.fused = n)

/-- The tick counter counts ticks. A TICK with the clock up, which no reset interrupts, ends with the 48-bit tick
counter one higher; and a command that is no tick, reset, boot or write leaves the counter as it is. (R24) -/
def Obligations.TickCounter : Prop :=
  (∀ (i : TickIn) (s : State), s.clk.up = true → (s.openDecide.closeDecide i).decideOpen = true →
      (s.openDecide.closeDecide i).tick = s.tick → ∃ t, exec (.tick i) s = .next t ∧ t.tick = (s.tick + 1) % 2 ^ 48) ∧
  (∀ (i : TickIn) (s : State), s.clk.up = false → ∃ t, exec (.tick i) s = .next t ∧ t = s) ∧
  (∀ (i : Instr) (s t : State), i.reachesAll = false → exec i s = .next t → t.tick = s.tick)

/-- What a command leaves unchanged. Every command is decided in the state in which its turn begins (State.begin): the
state as it is or, for a decision of the tick, the state with the decide phase opened. For every command and every
state: a next state differs from that state only in the parts that Instr.parts names for the command and in the
registers that Instr.registers names for it; every other part, every byte of the memories in the parts not named,
every other register and the queue are as before. Beginning a turn leaves the queue and the tick counter as they are,
and changes nothing at all for a command that is no decision, or where the decide phase is open already and the
command is no command of an axis or a loop. For the twelve commands of Instr.reachesAll (TICK, a register write, the
resets, a boot, the end of a burn, SLEEP) the tables name everything, so that of them it says only that the queue
stays. (01_engine_overview.md) -/
def Obligations.CommandFrame : Prop :=
  (∀ (i : Instr) (s t : State), exec i s = .next t → (s.begin i.turn).onlyChanges t (· ∈ i.parts) i.mayWrite) ∧
  (∀ (u : Turn) (s : State), (s.begin u).pending = s.pending ∧ (s.begin u).tick = s.tick) ∧
  (∀ s : State, s.begin .any = s ∧ (s.decideOpen = true → s.begin .decide = s ∧ ∀ k, s.begin (.ledg k) = s))

/-- The ledger decides in its seven steps, and a decision waits for what its tick has still to decide before it. While
a head shut-down or LSI_N waits to be decided, no later command of the ledger acts: no deadline, edge, item, header,
admission or commit; the same holds of the steps after a deadline or report that waits, of those after an edge or
target that waits, and of those after an item of ring 0 that waits. Such a command only opens the decide phase, where
the tick has not yet. A page without the DEADLINES slot decides none of them. A decision acts on the state that the
opening of the phase leaves, whichever command opens it. (R27, R28, R29, R130, R144, R145) -/
def Obligations.LedgerStepsTakeTheirOrder : Prop :=
  (∀ (id : Nat) (stn : Fin 8) (band : Nat) (point : Fin 4) (trail : Bool) (frames : List Nat) (s : State),
    s.openDecide.step1Waits = true →
      exec (.bandDeadline id stn band) s = .next s.openDecide ∧ exec .underrunReport s = .next s.openDecide ∧
      exec (.sheetEdge point) s = .next s.openDecide ∧ exec
        (.edgeWindowExpiry id point trail) s = .next s.openDecide ∧
      exec (.targetWithoutEdge id point trail) s = .next s.openDecide ∧ exec .announce s = .next s.openDecide ∧
      exec .purge s = .next s.openDecide ∧ exec .reprint s = .next s.openDecide ∧
      exec .jamClear s = .next s.openDecide ∧ exec .query s = .next s.openDecide ∧
      exec (.dataHeader stn frames) s = .next s.openDecide ∧ exec (.earlyWaitExpiry stn) s = .next s.openDecide ∧
      exec .backhitchDecided s = .next s.openDecide ∧ exec .admission s = .next s.openDecide ∧
      exec (.commit id) s = .next s.openDecide ∧ exec .lastLine s = .next s.openDecide) ∧
  (∀ (id : Nat) (stn : Fin 8) (point : Fin 4) (trail : Bool) (frames : List Nat) (s : State),
    s.openDecide.step2Waits = true →
      exec (.sheetEdge point) s = .next s.openDecide ∧ exec
        (.edgeWindowExpiry id point trail) s = .next s.openDecide ∧
      exec (.targetWithoutEdge id point trail) s = .next s.openDecide ∧ exec .announce s = .next s.openDecide ∧
      exec .purge s = .next s.openDecide ∧ exec .reprint s = .next s.openDecide ∧
      exec .jamClear s = .next s.openDecide ∧ exec .query s = .next s.openDecide ∧
      exec (.dataHeader stn frames) s = .next s.openDecide ∧ exec (.earlyWaitExpiry stn) s = .next s.openDecide ∧
      exec .backhitchDecided s = .next s.openDecide ∧ exec .admission s = .next s.openDecide ∧
      exec (.commit id) s = .next s.openDecide ∧ exec .lastLine s = .next s.openDecide) ∧
  (∀ (id : Nat) (stn : Fin 8) (frames : List Nat) (s : State), s.openDecide.step3Waits = true →
      exec .announce s = .next s.openDecide ∧ exec .purge s = .next s.openDecide ∧
      exec .reprint s = .next s.openDecide ∧ exec .jamClear s = .next s.openDecide ∧
      exec .query s = .next s.openDecide ∧ exec (.dataHeader stn frames) s = .next s.openDecide ∧
      exec (.earlyWaitExpiry stn) s = .next s.openDecide ∧ exec .backhitchDecided s = .next s.openDecide ∧
      exec .admission s = .next s.openDecide ∧ exec (.commit id) s = .next s.openDecide ∧
      exec .lastLine s = .next s.openDecide) ∧
  (∀ (id : Nat) (stn : Fin 8) (frames : List Nat) (s : State), (s.openDecide.frontOf 3 4 2).isSome = true →
      exec (.dataHeader stn frames) s = .next s.openDecide ∧ exec (.earlyWaitExpiry stn) s = .next s.openDecide ∧
      exec .backhitchDecided s = .next s.openDecide ∧ exec .admission s = .next s.openDecide ∧
      exec (.commit id) s = .next s.openDecide ∧ exec .lastLine s = .next s.openDecide) ∧
  (∀ (id : Nat) (stn : Fin 8) (band : Nat) (point : Fin 4) (trail : Bool) (frames : List Nat) (s : State),
    s.openDecide.pageHas 3 1 0 = false →
      exec .headShutdownReport s = .next s.openDecide ∧ exec (.bandDeadline id stn band) s = .next s.openDecide ∧
      exec .underrunReport s = .next s.openDecide ∧ exec (.sheetEdge point) s = .next s.openDecide ∧
      exec (.edgeWindowExpiry id point trail) s = .next s.openDecide ∧
        exec (.targetWithoutEdge id point trail) s = .next s.openDecide ∧
      exec .announce s = .next s.openDecide ∧ exec .purge s = .next s.openDecide ∧
      exec .reprint s = .next s.openDecide ∧ exec .jamClear s = .next s.openDecide ∧
      exec .query s = .next s.openDecide ∧ exec (.dataHeader stn frames) s = .next s.openDecide ∧
      exec (.earlyWaitExpiry stn) s = .next s.openDecide ∧ exec .backhitchDecided s = .next s.openDecide ∧
      exec .admission s = .next s.openDecide ∧ exec (.commit id) s = .next s.openDecide ∧
      exec .lastLine s = .next s.openDecide) ∧
  (∀ (i : Instr) (s : State), i.turn = .decide ∨ (∃ k, i.turn = .ledg k) → s.openDecide.decideOpen = true →
      exec i s = exec i s.openDecide)

/-- A register write of the wrong form is discarded and reported; any other stores exactly the writable bits. While
the host windows answer: a BAR0 write of another width or alignment is discarded, with HOST_ERR bit 2, HOST_ERR_ADDR
and ACCESS_REFUSED; a discarded write is reported under its bit of HOST_ERR; a write of a plain register that is
neither discarded nor a reserved encoding stores the bits of its fields and no other register changes; a W1C register
loses exactly the bits written as 1; an RO register keeps everything. (R7, R8, R75, R78, R79) -/
def Obligations.RegisterWritesAreCheckedAndApplied : Prop :=
  (∀ (w : Writer) (a : Nat) (v : DWord) (r : RegRow) (s0 s : State), s0.begin (regTurn false a) = s →
      s.windowsOpen w = true → a % 4 = 0 → s.discardBit w a = none →
      s.reservedEncoding a (v.setWidth 32).toNat = false → regRow a = some r →
      (r.access = .rw ∨ r.access = .rws ∨ r.access = .rwl) → plainRegister a = true → s.reactionsShut a = false →
      ∃ t, exec (.registerWrite w false a 4 v) s0 = .next t ∧
      t.rd a = (v.setWidth 32 &&& word r.mask) ||| (s.rd a &&& ~~~ word r.mask) ∧
      s.onlyChanges t (fun _ => False) (· = a)) ∧
  (∀ (w : Writer) (a : Nat) (v : DWord) (r : RegRow) (s0 s : State), s0.begin (regTurn false a) = s →
      s.windowsOpen w = true → a % 4 = 0 → s.discardBit w a = none →
      s.reservedEncoding a (v.setWidth 32).toNat = false → regRow a = some r → r.access = .w1c →
      ∃ t, exec (.registerWrite w false a 4 v) s0 = .next t ∧
      t.rd a = s.rd a &&& ~~~ (v.setWidth 32 &&& word r.mask) ∧ s.onlyChanges t (fun _ => False) (· = a)) ∧
  (∀ (w : Writer) (a : Nat) (v : DWord) (r : RegRow) (s0 s : State), s0.begin (regTurn false a) = s →
      s.windowsOpen w = true → a % 4 = 0 → s.discardBit w a = none →
      s.reservedEncoding a (v.setWidth 32).toNat = false → (regRow a = none ∨ regRow a = some r ∧ r.access = .ro) →
      ∃ t, exec (.registerWrite w false a 4 v) s0 = .next t ∧ t = s) ∧
  (∀ (w : Writer) (a b : Nat) (v : DWord) (s0 s : State), s0.begin (regTurn false a) = s → s.windowsOpen w = true →
      a % 4 = 0 → s.discardBit w a = some b → ∃ t, exec (.registerWrite w false a 4 v) s0 = .next t ∧
      t.flag Reg.HOST_ERR b = true ∧ t.rdN Reg.HOST_ERR_ADDR = a % 2 ^ 26 ∧
      t.flt.sent = s.flt.sent ++ [⟨0x040, 0x03, a, s.tick⟩] ∧
      (∀ r, r ≠ Reg.HOST_ERR → r ≠ Reg.HOST_ERR_ADDR → t.rd r = s.rd r)) ∧
  (∀ (w : Writer) (a n : Nat) (v : DWord) (s0 s : State), s0.begin (regTurn false a) = s → s.windowsOpen w = true →
      (n ≠ 4 ∨ a % 4 ≠ 0) → (¬ (n = 8 ∧ a % 8 = 0 ∧ inMsixTable a = true)) →
      ∃ t, exec (.registerWrite w false a n v) s0 = .next t ∧ t.flag Reg.HOST_ERR 2 = true ∧
      t.rdN Reg.HOST_ERR_ADDR = a % 2 ^ 26 ∧ t.flt.sent = s.flt.sent ++ [⟨0x040, 0x03, a, s.tick⟩] ∧
      (∀ r, r ≠ Reg.HOST_ERR → r ≠ Reg.HOST_ERR_ADDR → t.rd r = s.rd r)) ∧
  (∀ (w : Writer) (k : Fin 16) (v : DWord) (s0 s : State), s0.begin (regTurn true (4096 * k.val)) = s →
      s.windowsOpen w = true → ∃ t, exec (.registerWrite w true (4096 * k.val) 4 v) s0 = .next t ∧
      exec (.doorbell k 0 4 (v.setWidth 32)) s = .next t)

/-- A carried-out BAR1 write or TABLE item stores exactly its bytes; a refused one stores none and is reported. A BAR1
write into a motion, learning or staging window before lock and on the holding page stores its bytes at its offset and
no other byte; one into the Almanac window stores its bytes in the standby image, which enters LOADING; a refused one
stores nothing and sets HOST_ERR bit 1; a TABLE item that its owner accepts is written whole. (R52, R54, R76, R77,
R97, R324, R344, R372, R402) -/
def Obligations.TableWindowsTakeExactlyTheirBytes : Prop :=
  (∀ (w : Writer) (o b : Nat) (bs : List Byte) (s : State), bs.length ≤ 512 → bs ≠ [] → s.windowsOpen w = true →
      s.bar1Refused o bs.length = false → windowOf o bs.length = some b → b ≠ 2 → b ≠ 8 →
      ∃ t, exec (.bar1Write w o bs) s = .next t ∧
      (∀ x, memByte t.sram x = if o ≤ x ∧ x < o + bs.length then bs.getD (x - o) 0 else memByte s.sram x) ∧
      s.onlyChanges t (· = .sram) (fun _ => False)) ∧
  (∀ (w : Writer) (o : Nat) (bs : List Byte) (s : State), bs.length ≤ 512 → bs ≠ [] → s.windowsOpen w = true →
      s.locked = false → o + bs.length ≤ 528384 → s.sbState ≠ 5 → ∃ t, exec (.bar1Write w o bs) s = .next t ∧
      (∀ x, memByte t.standbyImage x = if o ≤ x ∧ x < o + bs.length
        then bs.getD (x - o) 0 else memByte s.standbyImage x) ∧
      t.sbState = 1 ∧ t.sram = s.sram) ∧
  (∀ (w : Writer) (o : Nat) (bs : List Byte) (s : State), bs.length ≤ 512 → bs ≠ [] → s.windowsOpen w = true →
      s.bar1Refused o bs.length = true → ∃ t, exec (.bar1Write w o bs) s = .next t ∧ t.sram = s.sram ∧
      t.alm = s.alm ∧ t.flag Reg.HOST_ERR 1 = true ∧ t.rdN Reg.HOST_ERR_ADDR = 2 ^ 26 + o % 2 ^ 26 ∧
      t.flt.sent = s.flt.sent ++ [⟨0x040, 0x03, o, s.tick⟩]) ∧
  (∀ (it : Item) (b : Nat) (s : State), s.frontOf 64 (tableQueue it) 1 = some it →
      tableOwner it.target it.data.length = some b →
      (b = 13 ∧ readOnlyTouched it.target it.data.length = false ∨ b = 11 ∧
        s.loopTableBusy it.target it.data.length = false ∨ b = 9 ∧ s.stepTableBusy it.target it.data.length = false ∧
        s.axisTableBusy it.target it.data.length = false) →
      ∃ t, exec .tableItem s = .next t ∧
      (∀ x, memByte t.sram x = if it.target ≤ x ∧ x < it.target
        + it.data.length then it.data.getD (x - it.target) 0 else memByte s.sram x) ∧
      t.inboxOf 64 = (s.inboxOf 64).tail) ∧
  (∀ (s : State), s.inboxOf 64 = [] → ∃ t, exec .tableItem s = .next t ∧ t = s)

/-- START, RESUME, STOP and the end of STOPPING move a ring between its states. After lock, START takes a STOPPED ring
to RUNNING with both indices 0, RESUME takes a STOPPED or HALTED ring to RUNNING from its indices, STOP takes a
RUNNING or HALTED ring to STOPPING, and a STOPPING ring with no write-back outstanding becomes STOPPED; a request in
another state changes no ring and sets HOST_ERR bit 4 with the ring number; the other rings keep their states and
indices. (R81, R84, R85, R87, R101) -/
def Obligations.RingRequests : Prop :=
  (∀ (k : Fin 16) (s : State), s.ringState k = 0 → s.locked = true → s.ringAllowed k = true →
      ∃ t, exec (.ringStart k) s = .next t ∧ t.ringState k = 1 ∧ t.producer k = 0 ∧ t.consumer k = 0 ∧
      (∀ j : Fin 16, j ≠ k → t.ringState j = s.ringState j ∧ t.producer j = s.producer j ∧
        t.consumer j = s.consumer j)) ∧
  (∀ (k : Fin 16) (s : State), (s.ringState k = 0 ∨ s.ringState k = 3) → s.locked = true → s.ringAllowed k = true →
      ∃ t, exec (.ringResume k) s = .next t ∧ t.ringState k = 1 ∧ (∀ a, a ≠ Reg.HOST_RING_STATE k →
        t.rd a = s.rd a)) ∧
  (∀ (k : Fin 16) (s : State), (s.ringState k = 1 ∨ s.ringState k = 3) → ∃ t, exec (.ringStop k) s = .next t ∧
      t.ringState k = 2 ∧ (∀ a, a ≠ Reg.HOST_RING_STATE k → t.rd a = s.rd a)) ∧
  (∀ (k : Fin 16) (s : State), s.ringState k = 2 → tabGet false s.host.moved k = false →
      ∃ t, exec (.ringStopped k) s = .next t ∧ t.ringState k = 0 ∧
      (∀ a, a ≠ Reg.HOST_RING_STATE k → t.rd a = s.rd a)) ∧
  (∀ (k : Fin 16) (s : State), tabGet false s.host.moved k = true → ∃ t, exec (.ringStopped k) s = .next t ∧ t = s) ∧
  (∀ (k : Fin 16) (s : State), (¬ (s.ringState k = 0 ∧ s.locked = true ∧ s.ringAllowed k = true)) →
      ∃ t, exec (.ringStart k) s = .next t ∧ t.flag Reg.HOST_ERR 4 = true ∧ t.fld Reg.HOST_ERR_RING 3 0 = k.val ∧
      (∀ j : Fin 16, t.ringState j = s.ringState j))

/-- A doorbell moves the host index; an item fetched is opened and passed to its owner; a read error halts the ring.
With its INGRESS slot in the page and no earlier doorbell waiting, a doorbell within the ring advances the index that
host software holds; without the slot, or once the decide work of the tick has begun, it waits. A well-formed fetch
that passes the checks of R97 advances the consumer index and passes the item to its owner. A read of host memory that
fails, of a descriptor that a doorbell covers or of a buffer, halts the ring and is reported. (R84, R89, R90, R93,
R94, R96, R97, R100) -/
def Obligations.DoorbellsAndItemsFromRings : Prop :=
  (∀ (k : Fin 16) (v : Word) (s : State), s.gathersRing k = true → s.host.doorbells = [] → s.ringState k ≠ 0 →
      k.val ≤ 9 → 0 ≤ signedOf 32 (sub32 v.toNat (s.producer k)) → sub32 v.toNat (s.consumer k) ≤ s.ringSize k →
      ∃ t, exec (.doorbell k 0 4 v) s = .next t ∧ t.producer k = v.toNat ∧ t.consumer k = s.consumer k ∧
      (∀ a, a ≠ Reg.HOST_RING_HIDX k → t.rd a = s.rd a)) ∧
  (∀ (k : Fin 16) (v : Word) (s : State), s.gathersRing k = false → ∃ t, exec (.doorbell k 0 4 v) s = .next t ∧
      t.host.doorbells = s.host.doorbells ++ [⟨k.val, v.toNat⟩] ∧ (∀ a, t.rd a = s.rd a)) ∧
  (∀ (k : Fin 10) (descs : List (List Byte)) (data : List Byte) (it : Item) (s : State),
      fetchFormed k descs data = true → s.host.doorbells = [] → s.canTake k descs.length = true →
      s.itemStatus k descs = none →
      (k.val ≠ 0 ∨ takesCommands (mkItem k (s.consumer k) s.host.serials descs data) = true) →
      mkItem k (s.consumer k) s.host.serials descs data = it →
      ∃ t, exec (.descriptorFetch k descs data) s = .next t ∧
      t.inboxOf (ownerOf k it) = s.inboxOf (ownerOf k it) ++ [{ it with readyAt := s.tick + 1 }] ∧
      t.consumer k = (s.consumer k + descs.length) % 2 ^ 32 ∧ t.producer k = s.producer k ∧
      tabGet false t.host.moved k = true ∧ (∀ a, a ≠ Reg.HOST_RING_DIDX k → t.rd a = s.rd a)) ∧
  (∀ (k : Fin 10) (descs : List (List Byte)) (data : List Byte) (s : State), fetchFormed k descs data = true →
      s.host.doorbells = [] → s.canTake k descs.length = false →
      ∃ t, exec (.descriptorFetch k descs data) s = .next t ∧ t = s) ∧
  (∀ (k : Fin 16) (descs : List (List Byte)) (status : Nat) (s : State), s.canTake k 1 = true →
      ∃ t, exec (.hostReadError k false descs status) s = .next t ∧ t.ringState k = 3 ∧
      t.flag Reg.HOST_ERR 8 = true ∧ t.fld Reg.HOST_ERR_RING 3 0 = k.val ∧ t.rdN Reg.HOST_ERR_INDEX = s.consumer k ∧
      t.flt.sent = s.flt.sent ++ [⟨0x040, 0x06, 0, s.tick⟩] ∧
      t.hwd.sent = s.hwd.sent ++ [⟨0x0104, s.tick, 0, [k.val, s.consumer k, status]⟩]) ∧
  (∀ (k : Fin 16) (descs : List (List Byte)) (status : Nat) (it : Item) (s : State), chainFormed k descs = true →
      s.canTake k descs.length = true → k.val ≠ 0 → mkItem k (s.consumer k) s.host.serials descs [] = it →
      ∃ t, exec (.hostReadError k true descs status) s = .next t ∧ t.ringState k = 3 ∧
      t.flag Reg.HOST_ERR 8 = true ∧ t.fld Reg.HOST_ERR_RING 3 0 = k.val ∧
      t.consumer k = (s.consumer k + descs.length) % 2 ^ 32 ∧
      t.flt.sent = s.flt.sent ++ [⟨0x040, 0x06, 0, s.tick⟩] ∧
      t.hwd.sent = s.hwd.sent ++ [⟨0x0104, s.tick, 0, [k.val, s.consumer k, status]⟩] ∧
      (∀ i, t.inboxOf i = s.inboxOf i)) ∧
  (∀ (s : State), s.host.held = true → s.host.completions.length < completionQuota →
      ∃ t, exec .takingResumed s = .next t ∧ t.host.held = false ∧ t.host.completions = s.host.completions ∧
      (∀ a, t.rd a = s.rd a)) ∧
  (∀ (k : Fin 16) (s : State), tabGet false s.host.ringVec k = true → s.flag (Reg.HOST_RING_IMOD k) 8 = true →
      (tabGet 0 s.host.ringVecAt k = 0 ∨ tabGet 0 s.host.ringVecAt
        k - 1 + max 1 (s.fld (Reg.HOST_RING_IMOD k) 7 0) ≤ s.tick) →
      s.pageHas 1 2 0 = true → s.masked (32 + k) = false → ∃ t, exec (.ringVector k) s = .next t ∧
      t.out = .msix (32 + k.val) :: s.out ∧ tabGet false t.host.ringVec k = false ∧
      tabGet 0 t.host.ringVecAt k = s.tick + 1)

/-- The link comes and goes, and LOCK is set once. DETACH puts every ring in STOPPED, clears HOST_LINK, and reports it
to the fault collector and Heartwood; ATTACH at a listed speed and width shows them and takes the configuration space
that host software wrote, and at a width of 16 it changes nothing; a write of 1 to LOCK sets it while the imaging gate
is open, and while the gate is closed it is discarded and reported. (R81, R102, R105, R508) -/
def Obligations.AttachDetachAndLock : Prop :=
  (∀ (cause : Nat) (s : State), ∃ t, exec (.detach cause) s = .next t ∧ t.host.linkUp = false ∧
      (∀ k : Fin 16, t.ringState k = 0) ∧ t.rdN Reg.HOST_LINK = 0 ∧ t.host.pci = PciSetup.init ∧ t.host.moved = [] ∧
      t.flag Reg.HOST_STATUS 2 = true ∧ t.flt.sent = s.flt.sent ++ [⟨0x040, 0x07, 0, s.tick⟩]) ∧
  (∀ (r : LinkRate) (cfg : PciSetup) (s : State), 1 ≤ r.speed → r.speed ≤ 5 →
      (r.width = 1 ∨ r.width = 2 ∨ r.width = 4 ∨ r.width = 8) → ∃ t, exec (.attach r cfg) s = .next t ∧
      t.host.linkUp = true ∧ t.fld Reg.HOST_LINK 2 0 = r.speed ∧ t.fld Reg.HOST_LINK 8 4 = r.width ∧
      t.host.pci = cfg ∧ t.host.power = 0 ∧ t.hwd.sent = s.hwd.sent ++ [⟨0x0102, s.tick, 0, [r.speed, r.width]⟩] ∧
      (∀ a, a ≠ Reg.HOST_LINK → t.rd a = s.rd a)) ∧
  (∀ (r : LinkRate) (cfg : PciSetup) (s : State), r.width = 16 → ∃ t, exec (.attach r cfg) s = .next t ∧ t = s) ∧
  (∀ (s : State), s.locked = false → s.flag Reg.LCS_STATUS 3 = true → ∃ t, exec .setupLock s = .next t ∧
      t.locked = true ∧ t.flag Reg.HOST_STATUS 1 = true ∧
      ⟨0x0101, s.tick, 0, [s.tick, s.fld Reg.HOST_LINK 2 0, s.fld Reg.HOST_LINK 8 4]⟩ ∈ t.hwd.sent) ∧
  (∀ (s : State), s.locked = false → s.flag Reg.LCS_STATUS 3 = false → ∃ t, exec .setupLock s = .next t ∧
      t.locked = false ∧ t.flag Reg.LCS_EVENTS 0 = true ∧
      t.flt.sent = s.flt.sent ++ [⟨0x480, 0x03, Reg.HOST_SETUP_LOCK, s.tick⟩]) ∧
  (∀ (s : State), s.locked = true → ∃ t, exec .setupLock s = .next t ∧ t = s)

/-- The standby bank is loaded piece by piece, checked, and found READY or REFUSED. An ALMANAC item with a piece
number up to 128 writes exactly its bytes to the standby image outside DRAINING, marks the piece and enters or stays
in LOADING; CHECK starts the checker in LOADING; no sooner than 2 and no later than 8 ticks after it is gathered the
checker leaves the bank READY with event 0x0201, or REFUSED with the code and detail it found and event 0x0202;
DRAINING ends in READY once every draining station has its polygon stopped or has taken a facet. (R52, R53, R54, R55,
R56, R58, R65) -/
def Obligations.LoadingAndCheckingTheStandbyBank : Prop :=
  (∀ (it : Item) (s : State), s.frontOf 2 25 1 = some it → tagFrag it.tag ≤ 128 → s.sbState ≠ 5 →
      ∃ t, exec .almanacPiece s = .next t ∧ t.sbState = 1 ∧ t.alm.standby = s.alm.standby ∧
      tabGet false t.alm.written (tagFrag it.tag) = true ∧
      (∀ a, memByte t.standbyImage a = if tagFrag it.tag * 4096 ≤ a ∧
        a < tagFrag it.tag * 4096 + it.data.length then it.data.getD
        (a - tagFrag it.tag * 4096) 0 else memByte s.standbyImage a)) ∧
  (∀ (s0 s : State), s0.begin .decide = s → s.sbState = 1 → ∃ t, exec .check s0 = .next t ∧ t.sbState = 2 ∧
      t.rdN Reg.ALM_SB_DETAIL = 0 ∧ t.rdN Reg.ALM_SB_COST = 0 ∧ t.alm.checkAt = some s.tick ∧
      t.alm.written = s.alm.written) ∧
  (∀ (storage : Option (Fin 129)) (g : Nat) (s0 s : State), s0.begin .decide = s → s.alm.checkAt = some g →
      s.sbState = 2 → g + 2 ≤ s.tick → s.tick ≤ g + 8 → ∃ t, exec (.checkDone storage) s0 = .next t ∧
      t.alm.checkAt = none ∧ t.standbyImage = s.standbyImage ∧
      (match checkImage s.standbyImage s.alm.written (storage.map (·.val)) with
      | none => t.sbState = 3 ∧ t.flag Reg.ALM_EVENTS 0 = true ∧ t.hwd.sent = s.hwd.sent ++
          [⟨0x0201, s.tick, 0, [imgBuildId s.standbyImage, imgEngineId s.standbyImage, imgMasks s.standbyImage]⟩]
      | some f => t.rd Reg.ALM_SB_STATE = word (4 + f.code * 256) ∧ t.rd Reg.ALM_SB_DETAIL = word f.detail ∧
          t.flag Reg.ALM_EVENTS 1 = true ∧ t.hwd.sent = s.hwd.sent ++
          [⟨0x0202, s.tick, 0, [imgBuildId s.standbyImage, f.code, f.detail, f.cost]⟩])) ∧
  (∀ (s0 s : State), s0.begin .decide = s → s.sbState = 5 →
      (List.range 8).all (fun i => !bitOf s.alm.draining i || s.stationStopped i) = true →
      ∃ t, exec .drainingEnd s0 = .next t ∧ t.sbState = 3 ∧ t.alm.draining = 0 ∧ t.alm.active = s.alm.active)

/-- First activation, bank switch, cancellation, lapse and release of the Almanac. SWITCH records a pending first
activation or bank switch with its deadline; a granted first activation and a decided bank switch make the standby
bank the pages of the next tick, with result 1, the SWITCHED flag and a new facet plan for every used station; CANCEL
and the deadline withdraw a request with result 7, 5 or 6; RELEASE returns to the holding page. (R58, R60, R61, R62,
R63, R64, R65) -/
def Obligations.SwitchesAndActivationOfTheAlmanac : Prop :=
  (∀ (s0 s : State), s0.begin .decide = s → s.safe = false → s.alm.request = none → s.alm.next ≠ .holding →
      s.holding = true → ∃ t, exec .switch s0 = .next t ∧
      (t.alm.request = some ⟨s.tick, (if s.fld Reg.ALM_SWITCH_WAIT
        15 0 = 0 then none else some (s.tick + s.fld Reg.ALM_SWITCH_WAIT 15 0)), true⟩) ∧
      t.flag Reg.ALM_STATUS 2 = true) ∧
  (∀ (s0 s : State), s0.begin .decide = s → s.safe = false → s.alm.request = none → s.alm.next ≠ .holding →
      s.holding = false → s.sbState = 3 → imgStnMask s.standbyImage = imgStnMask s.active →
      bitOf (imgVolMask s.standbyImage) s.nextGrade = true → ∃ t, exec .switch s0 = .next t ∧
      (t.alm.request = some ⟨s.tick, (if s.fld Reg.ALM_SWITCH_WAIT
        15 0 = 0 then none else some (s.tick + s.fld Reg.ALM_SWITCH_WAIT 15 0)), false⟩) ∧
      t.flag Reg.ALM_STATUS 2 = true ∧ t.alm.next = s.alm.next) ∧
  (∀ (r : SwitchRequest) (s0 s : State), s0.begin .decide = s → s.alm.request = some r → r.activation = true →
      r.inTime s.tick = true → s.holding = true → s.sbState = 3 → s.allDisabled = true → s.safe = false →
      s.alm.next = .same → ∃ t, exec .firstActivation s0 = .next t ∧
      t.alm.next = .volume s.alm.standby s.activationGrade ∧ t.alm.request = none ∧
      t.flag Reg.ALM_STATUS 2 = false ∧ t.flag Reg.ALM_EVENTS 2 = true) ∧
  (∀ (r : SwitchRequest) (s0 s : State), s0.begin .decide = s → s.alm.request = some r → r.activation = false →
      r.inTime s.tick = true → s.holding = false → s.switchFault = none → s.lastOfSeason = true →
      s.sheetGap = true → s.safe = false → s.alm.next = .same → ∃ t, exec .bankSwitch s0 = .next t ∧
      t.alm.next = .volume s.alm.standby s.nextGrade ∧ t.alm.request = none ∧ t.fld Reg.ALM_REQ_RESULT 3 0 = 1 ∧
      t.flag Reg.ALM_STATUS 2 = false ∧ t.flag Reg.ALM_EVENTS 2 = true ∧
      (∀ i, i < 8 → bitOf (imgStnMask s.standbyImage) i = true → tabFind t.alm.plans i = some ⟨some (s.alm.standby,
        s.nextGrade), s.tick, false⟩) ∧
      ⟨0x0203, s.tick, 0, [imgBuildId s.active, imgBuildId s.standbyImage, s.nextGrade, s.tick]⟩ ∈ t.hwd.sent) ∧
  (∀ (s0 s : State), s0.begin .decide = s → s.alm.request.isSome = true → ∃ t, exec .almCancel s0 = .next t ∧
      t.alm.request = none ∧ t.flag Reg.ALM_STATUS 2 = false ∧ t.fld Reg.ALM_REQ_RESULT 3 0 = 7 ∧
      t.flag Reg.ALM_EVENTS 4 = true ∧ t.hwd.sent = s.hwd.sent ++ [⟨0x0205, s.tick, 0, [7]⟩]) ∧
  (∀ (r : SwitchRequest) (d : Nat) (s0 s : State), s0.begin .decide = s → s.alm.request = some r →
      r.deadline = some d → d ≤ s.tick → s.canActivate = false → s.canSwitch = false →
      ∃ t, exec .switchLapse s0 = .next t ∧ t.alm.request = none ∧ t.flag Reg.ALM_STATUS 2 = false ∧
      (t.fld Reg.ALM_REQ_RESULT 3 0 = if r.activation && !s.allDisabled then 5 else 6) ∧ t.alm.next = s.alm.next) ∧
  (∀ (s0 s : State), s0.begin .decide = s → s.holding = false → s.allDisabled = true → s.sbState ≠ 5 →
      ∃ t, exec .release s0 = .next t ∧ t.alm.next = .holding ∧ t.alm.request = none ∧
      t.fld Reg.ALM_REQ_RESULT 3 0 = 1 ∧ t.flag Reg.ALM_EVENTS 2 = true) ∧
  (∀ (s0 s : State), s0.begin .decide = s → s.holding = false → s.allDisabled = true → s.sbState = 5 →
      ∃ t, exec .release s0 = .next t ∧ t.alm.releaseWaits = true ∧ t.alm.next = s.alm.next) ∧
  (∀ (s0 s : State), s0.begin .decide = s → s.alm.releaseWaits = true → s.sbState ≠ 5 → s.allDisabled = true →
      ∃ t, exec .releaseAfterDrain s0 = .next t ∧ t.alm.next = .holding ∧ t.alm.releaseWaits = false ∧
      t.fld Reg.ALM_REQ_RESULT 3 0 = 1)

/-- Speed-grade requests join the pending grade, and a grade change runs the new volume. A grade request on the
holding page becomes the pending grade; with a bank active it is recorded or joins the pending grade, the slower of
the two standing; a grade change decided at a sheet gap makes the volume of the pending grade the pages of the next
tick and clears the pending grade. (R58, R62, R127) -/
def Obligations.SpeedGradeRequestsAndChanges : Prop :=
  (∀ (g : Fin 8) (s0 s : State), s0.begin .decide = s → s.safe = false → s.holding = true →
      ∃ t, exec (.gradeRequest g) s0 = .next t ∧ t.flag Reg.ALM_STATUS 3 = true ∧
      t.fld Reg.ALM_STATUS 10 8 = g.val ∧ t.alm.gradeFrom = 0 ∧ t.fld Reg.ALM_REQ_RESULT 3 0 = 1) ∧
  (∀ (g : Fin 8) (s0 s : State), s0.begin .decide = s → s.safe = false → s.holding = false →
      bitOf (imgVolMask s.active) g.val = true → s.flag Reg.ALM_STATUS 3 = true →
      ∃ t, exec (.gradeRequest g) s0 = .next t ∧ t.flag Reg.ALM_STATUS 3 = true ∧
      t.fld Reg.ALM_STATUS 10 8 = max g.val (s.fld Reg.ALM_STATUS 10 8) ∧ t.fld Reg.ALM_REQ_RESULT 3 0 = 1) ∧
  (∀ (g : Fin 8) (s0 s : State), s0.begin .decide = s → s.safe = false → s.holding = false →
      bitOf (imgVolMask s.active) g.val = true → s.flag Reg.ALM_STATUS 3 = false → g.val ≠ s.grade →
      ∃ t, exec (.gradeRequest g) s0 = .next t ∧ t.flag Reg.ALM_STATUS 3 = true ∧
      t.fld Reg.ALM_STATUS 10 8 = g.val ∧ t.alm.gradeFrom = 0 ∧ t.fld Reg.ALM_REQ_RESULT 3 0 = 1) ∧
  (∀ (b : Nat) (s0 s : State), s0.begin .decide = s → s.alm.active = some b → s.flag Reg.ALM_STATUS 3 = true →
      s.holding = false → s.sheetGap = true → s.safe = false → s.canSwitch = false → s.alm.next = .same →
      ∃ t, exec .gradeChange s0 = .next t ∧ t.alm.next = .volume b s.nextGrade ∧ t.flag Reg.ALM_STATUS 3 = false ∧
      t.flag Reg.ALM_EVENTS 3 = true ∧ t.ledg.gradeAt = s.tick + 1 ∧
      (∀ i, i < 8 → bitOf (imgStnMask s.active) i = true → tabFind t.alm.plans i = some ⟨some (b, s.nextGrade),
        s.tick, false⟩) ∧
      t.hwd.sent = s.hwd.sent ++ [⟨0x0204, s.tick, 0, [s.grade, s.nextGrade, s.alm.gradeFrom]⟩])

/-- ANNOUNCE, PURGE, REPRINT, JAM_CLEAR and QUERY carry out their effect on the ledger. An accepted ANNOUNCE makes the
entry of the sheet in ANNOUNCED and moves NEXT_ID past it; PURGE takes a sheet out of the path to PURGED; REPRINT
takes a SPOILED or JAMMED sheet out of the path back to ANNOUNCED at the end of the reprint order; JAM_CLEAR with the
count of jams clears the jam; QUERY changes no sheet. No other sheet changes. (R109, R111, R114, R118, R119, R140,
R141, R146) -/
def Obligations.LedgerItemsOfRingZero : Prop :=
  (∀ (it : Item) (s0 s : State), s0.begin (.ledg 4) = s → s.ready (.ledg 4) = true → s.frontOf 3 4 2 = some it →
      tagKind it.tag = 5 → s.announceFault it = none → ∃ t, exec .announce s0 = .next t ∧
      t.sheet (tagSheet it.tag) = some (mkSheet it) ∧ t.rdN Reg.LEDG_NEXT_ID = (tagSheet it.tag + 1) % 2 ^ 32 ∧
      t.flag Reg.LEDG_STATUS 9 = true ∧ (∀ j, j ≠ tagSheet it.tag → t.sheet j = s.sheet j)) ∧
  (∀ (it : Item) (sh : Sheet) (s0 s : State), s0.begin (.ledg 4) = s → s.ready (.ledg 4) = true →
      s.frontOf 3 4 2 = some it → tagKind it.tag = 6 → it.opcode = 0x10 → itemTagOk it = true →
      zerosAt it.data 0 48 = true → s.sheet (tagSheet it.tag) = some sh → sh.id = tagSheet it.tag →
      (sh.state = .announced ∨ sh.state = .admitted ∨ (sh.state = .spoiled ∨ sh.state = .jammed) ∧
        sh.inPath = false) →
      ∃ t, exec .purge s0 = .next t ∧
      t.sheet (tagSheet it.tag) = some { sh with state := .purged, endedAt := s.tick } ∧
      (∀ j, j ≠ tagSheet it.tag → t.sheet j = s.sheet j) ∧ (∀ a ∈ t.ledg.admitted, a.1 ≠ tagSheet it.tag)) ∧
  (∀ (it : Item) (sh : Sheet) (s0 s : State), s0.begin (.ledg 4) = s → s.ready (.ledg 4) = true →
      s.frontOf 3 4 2 = some it → tagKind it.tag = 6 → it.opcode = 0x11 → itemTagOk it = true →
      zerosAt it.data 2 46 = true → s.sheet (tagSheet it.tag) = some sh → sh.id = tagSheet it.tag →
      (sh.state = .spoiled ∨ sh.state = .jammed) → sh.inPath = false → leAt it.data 0 2 < sh.bands →
      ∃ t, exec .reprint s0 = .next t ∧
      t.sheet (tagSheet it.tag) = some { sh with
        state := .announced, firstBand := leAt it.data 0 2, reprint := some s.ledg.reprints, due := [], begun := [],
        lastLine := 0, met := [], closed := [] } ∧
      (∀ j, j ≠ tagSheet it.tag → t.sheet j = s.sheet j) ∧ t.ledg.reprints = s.ledg.reprints + 1) ∧
  (∀ (it : Item) (s0 s : State), s0.begin (.ledg 4) = s → s.ready (.ledg 4) = true → s.frontOf 3 4 2 = some it →
      tagKind it.tag = 6 → it.opcode = 0x12 → itemTagOk it = true → tagSheet it.tag = 0 →
      zerosAt it.data 4 44 = true → s.jammed = true → leAt it.data 0 4 = s.rdN Reg.LEDG_COUNT_JAM →
      ∃ t, exec .jamClear s0 = .next t ∧ t.jammed = false ∧ t.ledg.admitted = []) ∧
  (∀ (it : Item) (sh : Sheet) (s0 s : State), s0.begin (.ledg 4) = s → s.ready (.ledg 4) = true →
      s.frontOf 3 4 2 = some it → tagKind it.tag = 6 → it.opcode = 0x13 → itemTagOk it = true →
      zerosAt it.data 0 48 = true → s.sheet (tagSheet it.tag) = some sh → ∃ t, exec .query s0 = .next t ∧
      t.ledg = s.ledg ∧ t.inboxOf 3 = (s.inboxOf 3).tail ∧
      (∃ c ∈ t.host.completions, c.type = 1 ∧ c.tag = mkTag sh.id 0 0 6 0 ∧ c.tick = s.tick ∧ c.body.take 2 = [0x0E,
        BitVec.ofNat 8 sh.state.code]))

/-- The head is admitted with its planned positions, an admitted sheet commits in its commit tick, and the pick is
driven. The head whose every condition holds becomes ADMITTED with Q the greater of the pitch position and P plus the
margin less E; an ADMITTED sheet whose commit position has fallen with its due bands resident becomes COMMITTED and
stands in the path; when Q of a sheet in a cut-sheet path has fallen, the pick output is driven once. (R109, R111,
R127, R128, R129, R130) -/
def Obligations.AdmissionCommitAndPick : Prop :=
  (∀ (u : State) (h : Sheet) (q : Int) (s0 s : State), s0.begin (.ledg 6) = s → s.ready (.ledg 6) = true →
      s.showHead = u → u.head = some h → u.waitReason h = none → u.ledg.admitAt ≠ u.tick + 1 →
      (u.bhWanted = false ∨ u.flag Reg.LEDG_BH_STATUS 7 = true) →
      u.qPitch.elim (u.ledg.pos + um (u.admitMargin - u.eOf
        h)) (fun p => max p (u.ledg.pos + um (u.admitMargin - u.eOf h))) = q →
      ∃ t, exec .admission s0 = .next t ∧
      t.sheet h.id = some { h with
        state := .admitted, q := q, e := u.eOf h, due := [], begun := [], lastLine := 0, met := [], closed := [] } ∧
      t.ledg.admitted.head? = some (h.id, q, h.lengthUm) ∧ t.ledg.admitAt = s.tick + 1 ∧
      (∀ j, j ≠ h.id → t.sheet j = u.sheet j)) ∧
  (∀ (u : State) (s0 s : State), s0.begin (.ledg 6) = s → s.ready (.ledg 6) = true → s.showHead = u →
      u.head = none → ∃ t, exec .admission s0 = .next t ∧ t = u) ∧
  (∀ (id : Nat) (sh : Sheet) (s0 s : State), s0.begin (.ledg 7) = s → s.ready (.ledg 7) = true →
      s.sheet id = some sh → sh.id = id → sh.state = .admitted → s.fallen (sh.q + um sh.e) = true →
      s.commitLate sh = false → ∃ t, exec (.commit id) s0 = .next t ∧
      t.sheet id = some { sh with inPath := true, state := .committed } ∧ (∀ j, j ≠ id → t.sheet j = s.sheet j) ∧
      t.ledg.admitted = s.ledg.admitted) ∧
  (∀ (id : Nat) (sh : Sheet) (s0 s : State), s0.begin .decide = s → s.sheet id = some sh → s.web = false →
      sh.inPath = true → s.fallen sh.q = true → tabGet false s.ledg.picked id = false →
      (sh.state = .committed ∨ sh.state = .imaged ∨ sh.state = .spoiled) → ∃ t, exec (.pick id) s0 = .next t ∧
      tabGet false t.ledg.picked id = true ∧ t.ledg.pickUntil = s.tick + max 1 (s.fld Reg.SIO_PICK_CFG 15 8) ∧
      t.out = .pathNotice 2 id :: s.out ∧ (∀ j, t.sheet j = s.sheet j))

/-- A missed deadline or a failure spoils the COMMITTED sheet or withdraws the ADMITTED one. A band that is absent
when its deadline fires spoils the COMMITTED sheet and withdraws the ADMITTED one; an underrun, a beam failure, a head
shutdown or an observer loss spoils the COMMITTED sheets it names, and a decode failure spoils or withdraws its sheet
and makes the band absent; the count of spoiled sheets follows. (R125, R134, R135, R136, R137) -/
def Obligations.DeadlinesSpoilAndWithdraw : Prop :=
  (∀ (id : Nat) (stn : Fin 8) (band : Nat) (sh : Sheet) (s0 s : State), s0.begin (.ledg 2) = s →
      s.ready (.ledg 2) = true → s.sheet id = some sh → sh.id = id → sh.uses stn = true → sh.has stn band = false →
      s.deadlineDue sh stn band = true → sh.state = .committed →
      ∃ t, exec (.bandDeadline id stn band) s0 = .next t ∧
      t.sheet id = some { sh with
        state := .spoiled, lateFired := tabSet false sh.lateFired (stn.val * 4096 + band) true, due :=
        tabSet 0 sh.due (stn.val * 4096 + band) 0 } ∧
      (∀ j, j ≠ id → t.sheet j = s.sheet j) ∧
      t.rdN Reg.LEDG_COUNT_SPOILED = (s.rdN Reg.LEDG_COUNT_SPOILED + 1) % 2 ^ 32) ∧
  (∀ (id : Nat) (stn : Fin 8) (band : Nat) (sh : Sheet) (s0 s : State), s0.begin (.ledg 2) = s →
      s.ready (.ledg 2) = true → s.sheet id = some sh → sh.id = id → sh.uses stn = true → sh.has stn band = false →
      s.deadlineDue sh stn band = true → sh.state = .admitted → ∃ t, exec (.bandDeadline id stn band) s0 = .next t ∧
      t.sheet id = some { sh with
        state := .announced, lateFired := tabSet false sh.lateFired (stn.val * 4096 + band) true, due := [], begun :=
        [] } ∧
      (∀ j, j ≠ id → t.sheet j = s.sheet j) ∧ t.ledg.admitted = s.ledg.admitted) ∧
  (∀ (r : Report) (sh : Sheet) (s0 s : State), s0.begin (.ledg 2) = s → s.ready (.ledg 2) = true →
      s.firstReport .underrun = some r → s.sheet r.sheet = some sh → sh.id = r.sheet → sh.state = .committed →
      ∃ t, exec .underrunReport s0 = .next t ∧ t.sheet r.sheet = some { sh with state := .spoiled } ∧
      (∀ j, j ≠ r.sheet → t.sheet j = s.sheet j) ∧ t.ledg.reports = s.ledg.reports.erase r) ∧
  (∀ (r : Report) (s0 s : State), s0.begin (.ledg 2) = s → s.ready (.ledg 2) = true →
      s.firstReport .beamFailure = some r → ∃ t, exec .beamFailureReport s0 = .next t ∧
      (∀ x ∈ s.sheets, x.state = .committed → x.uses r.station = true →
        (t.sheet x.id).any (fun y => decide (y.state = .spoiled)) = true) ∧
      (∀ j, (∀ x ∈ s.sheets, x.state = .committed → x.uses r.station = true → x.id ≠ j) → t.sheet j = s.sheet j) ∧
      t.ledg.reports = s.ledg.reports.erase r) ∧
  (∀ (r : Report) (s0 s : State), s0.begin (.ledg 1) = s → s.ready (.ledg 1) = true →
      s.firstReport .headShutdown = some r → ∃ t, exec .headShutdownReport s0 = .next t ∧
      (∀ x ∈ s.sheets, x.state = .committed → (t.sheet x.id).any (fun y => decide (y.state = .spoiled)) = true) ∧
      (∀ j, (∀ x ∈ s.sheets, x.state = .committed → x.id ≠ j) → t.sheet j = s.sheet j) ∧
      t.ledg.reports = s.ledg.reports.erase r) ∧
  (∀ (r : Report) (s0 s : State), s0.begin (.ledg 2) = s → s.ready (.ledg 2) = true →
      s.firstReport .observerLoss = some r → ∃ t, exec .observerLossReport s0 = .next t ∧
      (∀ x ∈ s.sheets, x.state = .committed → x.stations &&& r.sheet ≠ 0 →
        (t.sheet x.id).any (fun y => decide (y.state = .spoiled)) = true) ∧
      (∀ j, (∀ x ∈ s.sheets, x.state = .committed → x.stations &&& r.sheet ≠ 0 → x.id ≠ j) → t.sheet j = s.sheet j) ∧
      t.ledg.reports = s.ledg.reports.erase r) ∧
  (∀ (r : Report) (sh : Sheet) (s0 s : State), s0.begin (.ledg 2) = s → s.ready (.ledg 2) = true →
      s.firstReport .decodeFailure = some r → s.sheet r.sheet = some sh → sh.id = r.sheet → sh.state = .committed →
      ∃ t, exec .decodeFailureReport s0 = .next t ∧
      t.sheet r.sheet = some { sh with
        state := .spoiled, resident := tabSet false sh.resident (r.station * 4096 + r.band) false } ∧
      (∀ j, j ≠ r.sheet → t.sheet j = s.sheet j))

/-- Edges and targets move a sheet along its path; a missing edge jams; reports of stations are taken. A qualified
edge in the window of a pending target meets the first such target; a target whose window passes without an edge jams
the path, with the count and flag of the jam; a point without sensor meets its target when it falls, and a FUSED sheet
that has met its last trail target is delivered in the progress of the tick; a report of a begun band sets the
deadline of band b + LEAD_BANDS; the last line of the last station makes a COMMITTED sheet IMAGED, and DELIVERED at
once where its trail targets have been met; the entry of an ended sheet is freed in a later tick. (R109, R131, R132,
R133, R134, R138) -/
def Obligations.EdgesTargetsAndReportsOfTheSheet : Prop :=
  (∀ (k : Fin 4) (e : Edge) (u : State) (p0 : Int) (sh0 : Sheet) (tr : Bool) (p : Int) (sh : Sheet) (s0 s : State),
      s0.begin (.ledg 3) = s → s.ready (.ledg 3) = true → s.pointActive k = true →
      s.gatherScap (s.pointInput k) k = some (e, u) → u.nextTarget k = some (p0, sh0, tr) →
      u.edgeExpected k tr e = true →
      leastTarget ((u.pendingTargets k).filter (fun x => x.2.2 == tr && u.inWindow x.1 (u.edgePos e))) = some (p, sh,
        tr) →
      ∃ t, exec (.sheetEdge k) s0 = .next t ∧
      t.sheet sh.id = some { sh with met := tabSet false sh.met (k.val * 2 + tr.toNat) true } ∧
      t.ledg.metAt = (k.val, p) :: u.ledg.metAt ∧ (∀ j, j ≠ sh.id → t.sheet j = u.sheet j)) ∧
  (∀ (k : Fin 4) (s0 s : State), s0.begin (.ledg 3) = s → s.ready (.ledg 3) = true → s.pointActive k = false →
      ∃ t, exec (.sheetEdge k) s0 = .next t ∧ t = s) ∧
  (∀ (id : Nat) (k : Fin 4) (trail : Bool) (sh : Sheet) (s0 s : State), s0.begin (.ledg 3) = s →
      s.ready (.ledg 3) = true → s.sheet id = some sh → s.pointActive k = true → sh.awaits k trail = true →
      s.fallen (s.target sh k trail + um s.edgeWin) = true → s.gatherScap (s.pointInput k) k = none →
      ∃ t, exec (.edgeWindowExpiry id k trail) s0 = .next t ∧ t.jammed = true ∧
      t.rdN Reg.LEDG_COUNT_JAM = (s.rdN Reg.LEDG_COUNT_JAM + 1) % 2 ^ 32 ∧ t.flag Reg.LEDG_EVENTS 1 = true) ∧
  (∀ (id : Nat) (k : Fin 4) (trail : Bool) (sh : Sheet) (s0 s : State), s0.begin (.ledg 3) = s →
      s.ready (.ledg 3) = true → s.sheet id = some sh → sh.id = id → s.pointActive k = false →
      sh.awaits k trail = true → s.fallen (s.target sh k trail) = true →
      ∃ t, exec (.targetWithoutEdge id k trail) s0 = .next t ∧
      t.sheet id = some { sh with met := tabSet false sh.met (k.val * 2 + trail.toNat) true } ∧
      (∀ j, j ≠ id → t.sheet j = s.sheet j)) ∧
  (∀ (r : Report) (sh : Sheet) (s : State), s.firstReport .begun = some r → s.sheet r.sheet = some sh →
      sh.id = r.sheet → (sh.state = .committed ∨ sh.state = .admitted) → r.band + s.leadBands < sh.bands →
      sh.has r.station (r.band + s.leadBands) = false → ∃ t, exec .bandBegun s = .next t ∧
      t.sheet r.sheet = some { sh with
        due := tabPut sh.due (r.station * 4096 + (r.band + s.leadBands)) (s.tick + 1), begun :=
        tabPut sh.begun r.station (r.band + 1) } ∧
      (∀ j, j ≠ r.sheet → t.sheet j = s.sheet j) ∧
      tabGet 0 t.pace.begun r.station = tabGet 0 s.pace.begun r.station + 1) ∧
  (∀ (r : Report) (sh : Sheet) (s0 s : State), s0.begin (.ledg 7) = s → s.ready (.ledg 7) = true →
      s.firstReport .lastLine = some r → s.sheet r.sheet = some sh → sh.id = r.sheet → sh.state = .committed →
      (sh.lastLine ||| 2 ^ r.station) &&& sh.stations = sh.stations → sh.hasMet 2 true = false →
      ∃ t, exec .lastLine s0 = .next t ∧
      t.sheet r.sheet = some { sh with lastLine := sh.lastLine ||| 2 ^ r.station, state := .imaged } ∧
      (∀ j, j ≠ r.sheet → t.sheet j = s.sheet j)) ∧
  (∀ (r : Report) (sh : Sheet) (s0 s : State), s0.begin (.ledg 7) = s → s.ready (.ledg 7) = true →
      s.firstReport .lastLine = some r → s.sheet r.sheet = some sh → sh.id = r.sheet → sh.state = .committed →
      (sh.lastLine ||| 2 ^ r.station) &&& sh.stations = sh.stations → sh.hasMet 2 true = true →
      sh.hasMet 3 true = true → ∃ t, exec .lastLine s0 = .next t ∧
      t.sheet r.sheet = some { sh with
        lastLine := sh.lastLine ||| 2 ^ r.station, state := .delivered, inPath := false, endedAt := s.tick } ∧
      t.rdN Reg.LEDG_COUNT_DELIVERED = (s.rdN Reg.LEDG_COUNT_DELIVERED + 1) % 2 ^ 32 ∧
      t.flag Reg.LEDG_EVENTS 5 = true ∧ (∀ j, j ≠ r.sheet → t.sheet j = s.sheet j)) ∧
  (∀ (id : Nat) (sh : Sheet) (s : State), s.sheet id = some sh → sh.id = id → sh.state = .fused →
    sh.hasMet 3 true = true →
      (s.progress id).sheet id = some { sh with state := .delivered, inPath := false, endedAt := s.tick } ∧
      (s.progress id).rdN Reg.LEDG_COUNT_DELIVERED = (s.rdN Reg.LEDG_COUNT_DELIVERED + 1) % 2 ^ 32 ∧
      (s.progress id).flag Reg.LEDG_EVENTS 5 = true ∧ (∀ j, j ≠ id → (s.progress id).sheet j = s.sheet j)) ∧
  (∀ (id : Nat) (sh : Sheet) (s0 s : State), s0.begin .decide = s → s.sheet id = some sh →
      (sh.state = .delivered ∨ sh.state = .purged) → sh.endedAt < s.tick → ∃ t, exec (.entryFreed id) s0 = .next t ∧
      t.sheet id = none ∧ (∀ j, j ≠ id → t.sheet j = s.sheet j))

/-- The governor steps the grade and a backhitch goes through its phases. A governor step up requests the next faster
grade; a decided backhitch plans its reverse distance and enters DRAIN; one whose reverse distance exceeds REV_MAX is
refused; each later phase change follows its condition in a tick after the one before (sheet gap, standstill, dwell,
admissible head at the target, the speed of the grade taken with ACCEL); ABANDON ends a parked backhitch with the next
admission planned from now; a long park is reported once. (R159, R164, R166, R167, R169, R171, R172, R173, R174) -/
def Obligations.PacingGovernorAndBackhitchPhases : Prop :=
  (∀ (g : Nat) (s0 s : State), s0.begin .decide = s → s.stepsAllowed = true → s.flag Reg.ALM_STATUS 3 = false →
      s.alm.joins.any (fun j => decide (j.2 = 1)) = false → s.throttled = false →
      s.fld Reg.LEDG_PACE_HOLDOFF 23 0 ≤ s.pace.upTicks → s.tUp ≤ s.margin → s.fasterGrade = some g →
      s.safe = false → ∃ t, exec .governorStepUp s0 = .next t ∧ t.pace.stepUp = some g ∧
      t.alm.joins = s.alm.joins ++ [(g, 1)] ∧ t.flag Reg.LEDG_PACE_EVENTS 2 = true ∧
      ⟨0x0309, s.tick, 0, [s.grade, g, codeOf 16 s.margin]⟩ ∈ t.hwd.sent) ∧
  (∀ (s0 s : State), s0.begin .decide = s → s.margin < s.tUp → ∃ t, exec .governorStepUp s0 = .next t ∧ t = s) ∧
  (∀ (s0 s : State), s0.begin (.ledg 6) = s → s.ready (.ledg 6) = true → s.bhWanted = true →
      s.flag Reg.LEDG_BH_STATUS 7 = false → s.predictedR ≤ (s.fld Reg.LEDG_BH_REV_MAX 23 0 : Int) →
      ∃ t, exec .backhitchDecided s0 = .next t ∧ t.phase = 1 ∧ t.pace.decidedAt = s.tick ∧
      t.fld Reg.LEDG_BH_REV_PLAN 23 0 = s.predictedR.toNat % 2 ^ 24 ∧ t.flag Reg.LEDG_PACE_EVENTS 4 = true ∧
      ⟨0x030A, s.tick, 0, [s.headOr0.1, s.bhReason.getD 0, codeOf 32 s.predictedR, codeOf 48 s.posUm]⟩ ∈ t.hwd.sent) ∧
  (∀ (s0 s : State), s0.begin (.ledg 6) = s → s.ready (.ledg 6) = true → s.bhWanted = true →
      s.flag Reg.LEDG_BH_STATUS 7 = false → (s.fld Reg.LEDG_BH_REV_MAX 23 0 : Int) < s.predictedR →
      ∃ t, exec .backhitchDecided s0 = .next t ∧ t.phase = s.phase ∧ t.fld Reg.LEDG_BH_STATUS 15 8 = 0xFE ∧
      t.flag Reg.LEDG_PACE_EVENTS 6 = true ∧ t.pace.refusedAt = s.tick + 1 ∧
      ⟨0x030C, s.tick, 0, [0xFE, 0, codeOf 32 s.predictedR]⟩ ∈ t.hwd.sent) ∧
  (∀ (s0 s : State), s0.begin (.ledg 7) = s → s.ready (.ledg 7) = true → s.phase = 1 → s.phaseStood = true →
      s.sheetGap = true → ∃ t, exec .bhDecel s0 = .next t ∧ t.phase = 2 ∧ t.pace.v = s.pathSpeed ∧
      t.pace.phaseAt = s.tick) ∧
  (∀ (s0 s : State), s0.begin (.ledg 7) = s → s.ready (.ledg 7) = true → s.phase = 2 → s.phaseStood = true →
      s.pace.v = 0 → ∃ t, exec .bhStop s0 = .next t ∧ t.phase = 3 ∧ t.pace.phaseAt = s.tick ∧
      t.out = .pathNotice 3 3 :: s.out) ∧
  (∀ (s0 s : State), s0.begin (.ledg 7) = s → s.ready (.ledg 7) = true → s.phase = 3 → s.phaseStood = true →
      s.bhDwelt = true → ∃ t, exec .bhReverse s0 = .next t ∧ t.phase = 4 ∧ t.pace.low = s.pLow ∧
      t.rdN Reg.LEDG_BH_TARGET = codeOf 32 (s.pLow / 2 ^ 24) ∧
      t.fld Reg.LEDG_BH_STATUS 19 16 = min 15 (s.fld Reg.LEDG_BH_STATUS 19 16 + 1)) ∧
  (∀ (s0 s : State), s0.begin (.ledg 7) = s → s.ready (.ledg 7) = true → s.phase = 4 → s.phaseStood = true →
      s.pace.v = 0 → ∃ t, exec .bhPark s0 = .next t ∧ t.phase = 5 ∧ t.pace.parkLong = false ∧
      t.pace.phaseAt = s.tick) ∧
  (∀ (s0 s : State), s0.begin (.ledg 7) = s → s.ready (.ledg 7) = true → s.phase = 5 → s.phaseStood = true →
      s.bhLeave = true → s.ledg.pos ≤ s.pLow → ∃ t, exec .bhAccel s0 = .next t ∧ t.phase = 6 ∧
      t.pace.phaseAt = s.tick ∧ t.pace.goal = gradeSpeed s.grade) ∧
  (∀ (s0 s : State), s0.begin (.ledg 7) = s → s.ready (.ledg 7) = true → s.phase = 5 → s.phaseStood = true →
      s.bhLeave = true → s.pLow < s.ledg.pos → ∃ t, exec .bhReverseAgain s0 = .next t ∧ t.phase = 4 ∧
      t.pace.low = s.pLow) ∧
  (∀ (s0 s : State), s0.begin (.ledg 7) = s → s.ready (.ledg 7) = true → s.phase = 6 → s.phaseStood = true →
      s.pace.v = s.pace.goal → ∃ t, exec .bhEnd s0 = .next t ∧ t.phase = 0 ∧ t.pace.endedAt = s.tick + 1 ∧
      t.rdN Reg.LEDG_BH_COUNT = (s.rdN Reg.LEDG_BH_COUNT + 1) % 2 ^ 32 ∧ t.flag Reg.LEDG_PACE_EVENTS 5 = true ∧
      ⟨0x030B, s.tick, 0, [s.tick - s.pace.decidedAt, s.fld Reg.LEDG_BH_STATUS 19 16, s.grade]⟩ ∈ t.hwd.sent) ∧
  (∀ (s0 s : State), s0.begin .decide = s → s.phase = 5 → s.phaseStood = true → ∃ t, exec .abandon s0 = .next t ∧
      t.phase = 0 ∧ t.ledg.admitted = [] ∧ t.flag Reg.LEDG_PACE_EVENTS 6 = true ∧ t.ledg.sheets = s.ledg.sheets) ∧
  (∀ (s0 s : State), s0.begin (.ledg 7) = s → s.ready (.ledg 7) = true → s.phase = 5 → s.pace.parkLong = false →
      s.pace.phaseAt + s.fld Reg.LEDG_BH_PARK_WARN 23 0 ≤ s.tick → ∃ t, exec .parkLong s0 = .next t ∧
      t.pace.parkLong = true ∧ t.flag Reg.LEDG_PACE_EVENTS 7 = true ∧ t.phase = 5) ∧
  (∀ (s0 s : State), s0.begin (.ledg 7) = s → s.ready (.ledg 7) = true → s.phase ≠ 5 →
      ∃ t, exec .parkLong s0 = .next t ∧ t = s)

/-- Data items pass to the page store; bands become resident; lanes compress and decompress. A data item whose header
and ingress checks pass takes its frames from the free list and counts, one whose sheet is not yet announced is held
early, and one that fails is refused; a written block makes its band resident; compressor lanes end segments and write
blocks; decompressor lanes take, write out line by line, and end segments; a binding is decided in a common gap.
(R121, R122, R124, R187, R188, R190, R193, R194, R210, R211) -/
def Obligations.DataItemsCompressionAndDecompression : Prop :=
  (∀ (stn : Fin 8) (frames : List Nat) (it : Item) (rest : List Item) (sh : Sheet) (d : Nat) (s0 s : State),
      s0.begin (.ledg 5) = s → s.ready (.ledg 5) = true → tabFind s.ledg.early stn = none →
      s.inboxOf (32 + stn) = it :: rest → tabFind s.ledg.waitFrames stn = none → s.rawStuck stn = false →
      s.headerFate it.tag = .pass sh → s.ingressCode it sh = none → tagStation it.tag = stn →
      s.dirOf sh.id stn = some d → s.canReserve stn (itemFrames it) = true →
      s.freshFrames frames (itemFrames it) = true → ∃ t, exec (.dataHeader stn frames) s0 = .next t ∧
      t.rdN Reg.DRAM_FRAMES_FREE = s.rdN Reg.DRAM_FRAMES_FREE - frames.length ∧
      t.rdN (Reg.DRAM_PS_HELD stn) = (s.rdN (Reg.DRAM_PS_HELD stn) + frames.length) % 2 ^ 32 ∧
      t.rdN Reg.BURL_COUNT_IN = (s.rdN Reg.BURL_COUNT_IN + 1) % 2 ^ 32 ∧
      (tagKind it.tag ≠ 1 → t.burl.writing = s.burl.writing ++ [⟨it, frames, it.data, s.tick⟩])) ∧
  (∀ (stn : Fin 8) (frames : List Nat) (it : Item) (rest : List Item) (s0 s : State), s0.begin (.ledg 5) = s →
      s.ready (.ledg 5) = true → tabFind s.ledg.early stn = none → s.inboxOf (32 + stn) = it :: rest →
      tabFind s.ledg.waitFrames stn = none → s.rawStuck stn = false → s.headerFate it.tag = .early →
      tagStation it.tag = stn → ∃ t, exec (.dataHeader stn frames) s0 = .next t ∧
      tabFind t.ledg.early stn = some ⟨it, s.tick + s.fld Reg.LEDG_CFG 15 8⟩ ∧ t.ledg.sheets = s.ledg.sheets ∧
      (∀ a, t.rd a = s.rd a)) ∧
  (∀ (stn : Fin 8) (frames : List Nat) (it : Item) (rest : List Item) (c : Nat) (s0 s : State),
      s0.begin (.ledg 5) = s → s.ready (.ledg 5) = true → tabFind s.ledg.early stn = none →
      s.inboxOf (32 + stn) = it :: rest → tabFind s.ledg.waitFrames stn = none → s.rawStuck stn = false →
      s.headerFate it.tag = .refuse c → ∃ t, exec (.dataHeader stn frames) s0 = .next t ∧
      t.rdN Reg.LEDG_COUNT_REFUSED = (s.rdN Reg.LEDG_COUNT_REFUSED + 1) % 2 ^ 32 ∧ t.flag Reg.LEDG_EVENTS 4 = true ∧
      ⟨0x0306, s.tick, 0, [tagSheet it.tag, c, it.ring]⟩ ∈ t.hwd.sent ∧ t.ledg = s.ledg) ∧
  (∀ (stn : Fin 8) (x : HeldItem) (s0 s : State), s0.begin (.ledg 5) = s → s.ready (.ledg 5) = true →
      tabFind s.ledg.early stn = some x → x.deadline ≤ s.tick → s.sheet (tagSheet x.item.tag) = none →
      ∃ t, exec (.earlyWaitExpiry stn) s0 = .next t ∧ tabFind t.ledg.early stn = none ∧
      ⟨0x0306, s.tick, 0, [tagSheet x.item.tag, 1, x.item.ring]⟩ ∈ t.hwd.sent ∧ t.ledg.sheets = s.ledg.sheets) ∧
  (∀ (stn : Fin 8) (frames : List Nat) (w : HeldItem) (sh : Sheet) (d : Nat) (s0 s : State), s0.begin .decide = s →
      tabFind s.ledg.waitFrames stn = some w → s.sheet (tagSheet w.item.tag) = some sh →
      s.ingressCode w.item sh = none → tagStation w.item.tag = stn → s.dirOf sh.id stn = some d →
      s.canReserve stn (itemFrames w.item) = true → s.freshFrames frames (itemFrames w.item) = true →
      ∃ t, exec (.framesAvailable stn frames) s0 = .next t ∧ tabFind t.ledg.waitFrames stn = none ∧
      t.rdN Reg.DRAM_FRAMES_FREE = s.rdN Reg.DRAM_FRAMES_FREE - frames.length ∧
      t.rdN (Reg.DRAM_PS_HELD stn) = (s.rdN (Reg.DRAM_PS_HELD stn) + frames.length) % 2 ^ 32 ∧
      t.rdN Reg.BURL_COUNT_IN = (s.rdN Reg.BURL_COUNT_IN + 1) % 2 ^ 32) ∧
  (∀ (sheet : Nat) (stn : Fin 8) (band : Nat) (w : Writing) (sh : Sheet) (s : State),
      s.writingOf sheet stn band = some w → w.stamp < s.tick → s.flag Reg.DRAM_STATUS 2 = false →
      s.decideOpen = false → s.reportsRead = true → s.sheet sheet = some sh → sh.id = sheet → w.frames ≠ [] →
      tabGet false sh.lateFired (stn.val * 4096 + band) = false →
      ∃ t, exec (.bandResident sheet stn band) s = .next t ∧
      t.sheet sheet = some { sh with resident := tabSet false sh.resident (stn.val * 4096 + band) true } ∧
      t.band sheet stn band = some ⟨w.frames, s.tick⟩ ∧ (∀ j, j ≠ sheet → t.sheet j = s.sheet j) ∧
      t.burl.writing = s.burl.writing.erase w) ∧
  (∀ (lane : Fin 16) (js : List CompJob) (j : CompJob) (blk : List Byte) (full : Bool) (s : State),
      s.compBusy lane = true → endSegment lane s.burl.jobs = (js, some j) →
      compress (mkTag (tagSheet j.item.tag) (tagStation j.item.tag)
        (tagBand j.item.tag) 2 0).toNat j.item.data j.lines
        (s.fld Reg.BURL_CFG 19 16) (s.fld Reg.BURL_CFG 30 24) (s.fld Reg.BURL_CFG 12 0) = (blk, full) →
      ∃ t, exec (.segmentCompressed lane) s = .next t ∧
      t.burl.writing = s.burl.writing ++ [⟨j.item, j.frames.take (blockFrames (hdrCompLen blk)), blk, s.tick⟩] ∧
      t.dram.returning = s.dram.returning ++ (j.frames.drop (blockFrames (hdrCompLen blk))).map (fun f => ⟨f,
        tagStation j.item.tag, s.tick⟩) ∧
      (full = true → t.rdN Reg.BURL_COUNT_STORED = (s.rdN Reg.BURL_COUNT_STORED + 1) % 2 ^ 32)) ∧
  (∀ (s0 s : State), s0.begin .decide = s → s.flag Reg.BURL_STATUS 0 = true → s.burl.bindNext = none →
      s.sheetGap = true → s.holding = false → unboundIn s.dbinds (imgStnMask s.active) = [] →
      ∃ t, exec .decodeBinding s0 = .next t ∧ t.burl.bindNext = some ⟨s.tick, s.dbinds⟩ ∧ (∀ a, t.rd a = s.rd a)) ∧
  (∀ (lane : Fin 32) (stn : Nat) (sh : Sheet) (band : Nat)
    (r : BandRec) (blk : List Byte) (d : BandDecode) (g : Nat) (s : State),
      s.laneStation lane = some stn → tabFind s.burl.lanes lane = none → s.flag Reg.DRAM_STATUS 2 = false →
      s.nextBand stn = some (sh, band, r) → r.frames.all (fun f => decide (tabGet [] s.dram.badAt f = [])) = true →
      s.readBlock r = blk → hdrLineBytes blk = volLineBytes s.active s.grade → s.decodeOf sh.id stn band = d →
      d.redo.headD d.handed = g → ∃ t, exec (.segmentHandout lane) s = .next t ∧
      tabFind t.burl.lanes lane = some ⟨sh.id, stn, band, g, hdrFirst blk g, hdrLineBytes blk,
        (decodeSegment blk g).out, (decodeSegment blk g).out.length, (decodeSegment blk g).fail.map (fun c => (c,
        (decodeSegment blk g).out.length))⟩ ∧
      (t.decodeOf sh.id stn band = ⟨hdrSegs blk, if d.redo = [] then d.handed + 1 else d.handed, d.redo.tail, d.ended,
        d.failed⟩)) ∧
  (∀ (lane : Fin 32) (w : LaneWork) (x : Nat) (s : State), tabFind s.burl.lanes lane = some w →
      s.streamLine w = some x → s.released w.station x = true → w.lineBytes ≤ w.out.length → w.out ≠ [] →
      w.station < s.scan.length → ∃ t, exec (.lineStoreWrite lane) s = .next t ∧
      tabFind t.burl.lanes lane = some { w with line := w.line + 1, out := w.out.drop w.lineBytes } ∧
      tabFind (t.stn w.station).slots (s.slotOf w.station x) = some ⟨w.sheet, w.band, w.line, w.seg,
        w.out.take w.lineBytes⟩ ∧
      (∀ i, i ≠ w.station → t.stn i = s.stn i)) ∧
  (∀ (lane : Fin 32) (w : LaneWork) (s : State), tabFind s.burl.lanes lane = some w →
      (w.out.length < w.lineBytes ∨ w.out = []) → w.fail = none →
      (s.decodeOf w.sheet w.station w.band).ended + 1 < (s.decodeOf w.sheet w.station w.band).segs →
      ∃ t, exec (.segmentDecoded lane) s = .next t ∧ tabFind t.burl.lanes lane = none ∧
      (t.decodeOf w.sheet w.station w.band).ended = (s.decodeOf w.sheet w.station w.band).ended + 1 ∧
      (∀ l, l ≠ lane.val → tabFind t.burl.lanes l = tabFind s.burl.lanes l))

/-- The DRAM controller trains, follows the temperature, serves requests, scrubs and wipes. TRAINING_START when it is
due, and TRAIN on the holding page with no sheet known, put the page store out of use and start training; a passed
training sets READY, TRAINED and the frame count and starts the wipe; a reading sets the present temperature and the
pending retrain; a gap retrain runs in a common gap and ends with TRAINED at the present temperature; a request that
waits and whose page hint keeps the row open is served and its row stays open; the window clears the disturbance
counts; the scrub queues its reads of the next frame as requests of port 5, and waits for its period between passes;
while no request of ports 0 to 2 waits, the wipe returns its next group of frames as free. (R213, R214, R215, R216,
R217, R219, R221, R225, R227) -/
def Obligations.DramTrainingTemperatureAndScrub : Prop :=
  (∀ (s : State), ∃ t, exec .retrain s = .next t ∧ t.dram.retrainAsked = true ∧ t.flag Reg.DRAM_STATUS 3 = true ∧
      (∀ a, a ≠ Reg.DRAM_STATUS → t.rd a = s.rd a)) ∧
  (∀ (o : Fin 16) (bands : List Word) (n : Nat) (s : State), s.lcs.trainDue = some n → n ≤ s.tick →
      bands.length ≤ 32 → bitOf o 3 = true → (bitOf o 1 = false ∨ bitOf o 2 = false ∨ bitOf o 0 = true) →
      ∃ t, exec (.trainingStart (some o) bands) s = .next t ∧ t.lcs.trainDue = none ∧ t.rdN Reg.DRAM_ORG = o.val ∧
      (∀ i, i < bands.length → t.rd (Reg.CLK_BAND_b 1 i) = bands.getD i 0) ∧ t.rdN Reg.DRAM_FRAMES_TOTAL = 0 ∧
      t.rdN Reg.DRAM_FRAMES_FREE = 0 ∧ t.flag Reg.DRAM_STATUS 0 = false ∧ t.dram.wiped = 0) ∧
  (∀ (s : State), s.holding = true → s.ledg.sheets = [] → s.flag Reg.DRAM_ORG 3 = true →
      s.flag Reg.DRAM_STATUS 2 = false → ∃ t, exec .train s = .next t ∧ t.rdN Reg.DRAM_FRAMES_TOTAL = 0 ∧
      t.rdN Reg.DRAM_FRAMES_FREE = 0 ∧ t.rdN Reg.DRAM_WIPE_POS = 0 ∧ t.flag Reg.DRAM_STATUS 0 = false ∧
      t.flag Reg.DRAM_STATUS 4 = false ∧ t.dram.wiped = 0 ∧ t.dram.retrainAsked = false ∧ t.dram.returning = []) ∧
  (∀ (c0 c1 : ChannelTraining) (temp : Int) (s : State), s.flag Reg.DRAM_STATUS 2 = true →
      s.dram.retraining = false → s.trainCode c0.stage c0.parts = 0 → s.trainCode c1.stage c1.parts = 0 →
      s.dmaHalt = false → ∃ t, exec (.trainingDone c0 c1 temp) s = .next t ∧ t.flag Reg.DRAM_STATUS 0 = true ∧
      t.flag Reg.DRAM_STATUS 2 = false ∧ t.fld Reg.DRAM_TEMP 7 0 = codeOf 8 temp ∧
      t.fld Reg.DRAM_TEMP 15 8 = codeOf 8 temp ∧
      t.rdN Reg.DRAM_FRAMES_TOTAL = (s.dramBytes / 16384 - 256) % 2 ^ 32 ∧ t.rdN Reg.DRAM_TRAIN_RESULT = 0 ∧
      t.flag Reg.DRAM_EVENTS 0 = true ∧ t.wipeRuns = true) ∧
  (∀ (c0 c1 : ChannelTraining) (temp : Int) (s : State), s.flag Reg.DRAM_STATUS 2 = true →
      s.dram.retraining = false → (s.trainCode c0.stage c0.parts ≠ 0 ∨ s.trainCode c1.stage c1.parts ≠ 0) →
      ∃ t, exec (.trainingDone c0 c1 temp) s = .next t ∧ t.flag Reg.DRAM_STATUS 1 = true ∧
      t.flag Reg.DRAM_STATUS 2 = false ∧
      t.rdN Reg.DRAM_TRAIN_RESULT = s.trainCode c0.stage c0.parts + s.trainCode c1.stage c1.parts * 16 ∧
      t.flag Reg.DRAM_EVENTS 1 = true ∧ t.rdN Reg.DRAM_FRAMES_TOTAL = s.rdN Reg.DRAM_FRAMES_TOTAL) ∧
  (∀ (phy warmest : Int) (hot : Bool) (s : State), s.flag Reg.DRAM_STATUS 0 = true →
      s.dram.tempAt + 1280 ≤ s.tick → ∃ t, exec (.dramTempRead phy warmest hot) s = .next t ∧
      t.fld Reg.DRAM_TEMP 15 8 = codeOf 8 (max phy warmest) ∧ t.dram.tempAt = s.tick ∧ t.dram.fastRefresh = hot ∧
      t.fld Reg.DRAM_TEMP 7 0 = s.fld Reg.DRAM_TEMP 7 0) ∧
  (∀ (s : State), s.flag Reg.DRAM_STATUS 0 = true → s.dram.trackAt + s.fld Reg.DRAM_RETRAIN_CFG 23 16 ≤ s.tick →
      ∃ t, exec .tracking s = .next t ∧ t = { s with dram := { s.dram with trackAt := s.tick } }) ∧
  (∀ (s0 s : State), s0.begin .decide = s → s.sheetGap = true → s.retrainDue = true →
      s.flag Reg.DRAM_STATUS 0 = true → s.flag Reg.DRAM_STATUS 2 = false → ∃ t, exec .gapRetrain s0 = .next t ∧
      t.dram.retraining = true ∧ t.flag Reg.DRAM_STATUS 2 = true ∧ t.flag Reg.DRAM_STATUS 3 = false ∧
      t.hwd.sent = s.hwd.sent ++ [⟨0x0603, s.tick, 0, [codeOf 16 (s.dramNow - s.dramTrained), s.tick]⟩]) ∧
  (∀ (s : State), s.dram.retraining = true → ∃ t, exec .gapRetrainDone s = .next t ∧ t.dram.retraining = false ∧
      t.dram.retrainAsked = false ∧ t.flag Reg.DRAM_STATUS 2 = false ∧ t.flag Reg.DRAM_STATUS 3 = false ∧
      t.fld Reg.DRAM_TEMP 7 0 = s.fld Reg.DRAM_TEMP 15 8 ∧ t.flag Reg.DRAM_EVENTS 2 = true) ∧
  (∀ (ch : Fin 2) (now : Nat) (sampled decoding : Bool) (w : DramWait) (s : State), s.dram.waits = [w] →
      w.missed = true → s.flag Reg.DRAM_STATUS 2 = false → s.flag Reg.DRAM_STATUS 0 = true →
      (s.dramPlace w.addr).1 = ch.val → s.rowHit w now = true → w.close = false →
      ∃ t, exec (.dramRequest ch [] now sampled 0 decoding) s = .next t ∧ t.dram.waits = [] ∧
      tabFind t.dram.openRows (s.dramPlace w.addr).2.1 = some ⟨(s.dramPlace w.addr).2.2, now⟩ ∧
      t.dram.rows = s.dram.rows) ∧
  (∀ (s : State), ∃ t, exec .rhWindowClear s = .next t ∧
      t = { s with dram := { s.dram with rows := [], throttled := [] } }) ∧
  (∀ (now0 now1 : Nat) (s : State), s.flag Reg.DRAM_STATUS 0 = true → s.scrubTicks ≠ 0 →
      s.flag Reg.DRAM_STATUS 2 = false → s.dram.scrubAt < s.framesTotal →
      ∃ t, exec (.patrolScrub now0 now1) s = .next t ∧ t.dram.scrubAt = s.dram.scrubAt + 1 ∧
      t.dram.waits = s.dram.waits ++ [⟨5, s.dram.scrubAt * 16384, true, now0, false, [], false⟩, ⟨5,
        s.dram.scrubAt * 16384 + 256, true, now1, false, [], false⟩] ∧
      t.dram.bytes = s.dram.bytes ∧ (∀ a, t.rd a = s.rd a)) ∧
  (∀ (now0 now1 : Nat) (s : State), s.flag Reg.DRAM_STATUS 0 = true → s.scrubTicks ≠ 0 →
      s.flag Reg.DRAM_STATUS 2 = false → s.framesTotal ≤ s.dram.scrubAt → s.dram.scrubFrom + s.scrubTicks ≤ s.tick →
      ∃ t, exec (.patrolScrub now0 now1) s = .next t ∧ t.dram.scrubAt = 1 ∧ t.dram.scrubFrom = s.tick ∧
      t.dram.waits = s.dram.waits ++ [⟨5, 0, true, now0, false, [], false⟩, ⟨5, 256, true, now1, false, [], false⟩] ∧
      t.dram.bytes = s.dram.bytes ∧ (∀ a, t.rd a = s.rd a)) ∧
  (∀ (now0 now1 : Nat) (s : State), s.framesTotal ≤ s.dram.scrubAt → s.tick < s.dram.scrubFrom + s.scrubTicks →
      ∃ t, exec (.patrolScrub now0 now1) s = .next t ∧ t = s) ∧
  (∀ (s : State), s.flag Reg.DRAM_STATUS 0 = true → s.flag Reg.DRAM_STATUS 4 = false →
      s.flag Reg.DRAM_STATUS 2 = false → s.wipeRuns = true → s.dram.wiped + 256 ≤ s.framesTotal → s.dram.bad = [] →
      s.dram.waits.any (fun w => decide (w.port ≤ 2)) = false → ∃ t, exec .wipeGroupDone s = .next t ∧
      t.dram.wiped = s.dram.wiped + 256 ∧ t.rdN Reg.DRAM_WIPE_POS = s.dram.wiped + 256 ∧
      t.rdN Reg.DRAM_FRAMES_FREE = (s.rdN Reg.DRAM_FRAMES_FREE + 256) % 2 ^ 32 ∧
      t.flag Reg.DRAM_STATUS 4 = decide (s.dram.wiped + 256 = s.framesTotal))

/-- Beam-detect edges, missed facets and facet ends. An edge outside the window of a LOCKED station is stray: it is
counted and flagged and begins no facet. The first rising edge in SEARCH puts the gate in ACQUIRE with that edge as
the boundary. A falling edge in LOCKED takes the gate width into the last eight. A window that closes without an edge
is a missed facet: counted, flagged, its boundary synthesised; at the limit the gate is LOST with IDX_VALID cleared. A
facet end that has passed ends the facet in progress, fires its lines and releases the sheets past their last line.
SCAN_MEAS_CLR clears the averages of the stations named. (R235, R236, R237, R239, R241, R247, R255) -/
def Obligations.ScanEdgesAndFacets : Prop :=
  (∀ (i : Fin 8) (sub : Fin 2500) (fine : Fin 128) (ecc : Fin 3) (b : Nat) (s : State), s.domainOn i = true →
      s.gate i = 2 → (s.stn i).plan.isSome = true → s.duePlan i (s.edgeTime sub fine) = none →
      s.windowClosed i (s.edgeTime sub fine) = false → (s.stn i).boundary = some b →
      s.pastOpen i (s.edgeTime sub fine - b) = false → ∃ t, exec (.bdEdge i true sub fine ecc) s = .next t ∧
      t.rdN (Reg.SCAN_STN_COUNT_STRAY i) = (s.rdN (Reg.SCAN_STN_COUNT_STRAY i) + 1) % 2 ^ 32 ∧
      t.flag Reg.SCAN_EVENTS 8 = true ∧ (t.stn i).boundary = some b ∧ t.gate i = 2 ∧ t.out = s.out) ∧
  (∀ (i : Fin 8) (sub : Fin 2500) (fine : Fin 128) (ecc : Fin 3) (s : State), s.domainOn i = true → s.gate i = 0 →
      s.scan.length = 8 → s.beam.stns.length = 8 → (s.stn i).plan.isSome = true →
      s.duePlan i (s.edgeTime sub fine) = none → (s.stn i).facet = none → s.burl.bindNext = none →
      ∃ t, exec (.bdEdge i true sub fine ecc) s = .next t ∧ t.gate i = 1 ∧
      (t.stn i).boundary = some (s.edgeTime sub fine) ∧ (t.stn i).real = true ∧ (t.stn i).good = 0 ∧
      (t.bm i).seq = ((s.bm i).seq + 1) % 2 ^ 32) ∧
  (∀ (i : Fin 8) (sub : Fin 2500) (fine : Fin 128) (ecc : Fin 3) (r : Nat) (s : State), s.domainOn i = true →
      s.gate i = 2 → s.scan.length = 8 → (s.stn i).plan.isNone = false → (s.stn i).rise = some r →
      (s.stn i).widths.length < 8 → ∃ t, exec (.bdEdge i false sub fine ecc) s = .next t ∧
      t.stn i = { s.stn i with rise := none, widths := (s.edgeTime sub fine - r) :: (s.stn i).widths } ∧
      (∀ a, t.rd a = s.rd a)) ∧
  (∀ (i : Fin 8) (ecc : Fin 3) (b : Nat) (s : State), s.windowClosed i (s.tick * 320000) = true →
      (s.stn i).boundary = some b → ∃ t, exec (.facetMissed i ecc) s = .next t ∧
      t.rdN (Reg.SCAN_STN_COUNT_MISS i) = (s.rdN (Reg.SCAN_STN_COUNT_MISS i) + 1) % 2 ^ 32 ∧
      t.flag Reg.SCAN_EVENTS 2 = true) ∧
  (∀ (i : Fin 8) (ecc : Fin 3) (b : Nat) (s : State), s.windowClosed i (s.tick * 320000) = true →
      s.scan.length = 8 → (s.stn i).boundary = some b → (s.stn i).plan.isSome = true →
      s.duePlan i (b + s.stnPeriod i * 8 / 625) = none → s.burl.bindNext = none → (s.stn i).facet = none →
      s.fld (Reg.SCAN_STN_CFG i) 7 4 ≤ (s.stn i).missed + 1 → ∃ t, exec (.facetMissed i ecc) s = .next t ∧
      t.gate i = 3 ∧ t.idxValid i = false ∧ t.flag Reg.SCAN_EVENTS 1 = true ∧ (t.stn i).widths = [] ∧
      (t.stn i).boundary = some (b + s.stnPeriod i * 8 / 625) ∧ ⟨0x1C0 + i, 0x10, 0, s.tick⟩ ∈ t.flt.sent) ∧
  (∀ (i : Fin 8) (e : Nat) (f : FacetRun) (s : State), s.facetEndAt i = some e → e < s.tick * 320000 →
      (s.stn i).facet = some f → s.scan.length = 8 → ∃ t, exec (.facetEnd i) s = .next t ∧
      (t.stn i).facet = some { f with ended := true } ∧ (t.stn i).fired = f.n + f.advance ∧
      (t.stn i).bound = (s.stn i).bound.filter (fun b => decide (f.n + f.advance < b.n0 + b.lines)) ∧
      t.flag (Reg.SCAN_STN_STATE i) 16 = decide ((t.stn i).bound ≠ [])) ∧
  (∀ (mask : Fin 256) (s : State), s.scan.length = 8 → ∃ t, exec (.scanMeasClr mask) s = .next t ∧
      (∀ i : Fin 8, bitOf mask i = true → (t.stn i).pyr = [] ∧ (t.stn i).fper = [] ∧ (t.stn i).periods = [] ∧
        (t.stn i).resid = [] ∧ (∀ p : Fin 8, t.rdN (Reg.SCAN_STN_PYR i p) = 0 ∧ t.rdN (Reg.SCAN_STN_FPER i p) = 0) ∧
        ∀ e : Fin 64, t.rdN (Reg.SCAN_STN_RESID i e) = 0) ∧
      (∀ i : Fin 8, bitOf mask i = false → t.stn i = s.stn i ∧ (∀ p : Fin 8,
        t.rd (Reg.SCAN_STN_PYR i p) = s.rd (Reg.SCAN_STN_PYR i p)) ∧ ∀ e : Fin 64,
        t.rd (Reg.SCAN_STN_RESID i e) = s.rd (Reg.SCAN_STN_RESID i e)))

/-- Facet and status reports, and the acknowledgement of table frames. A facet report with a bad CRC counts in
COUNT_BADREP alone; one with a good CRC on a link that is UP sets FACET_SEQ and restarts the report time-out. A READY
STATUS in training starts the upload of every table; a STATUS without READY, or no report for REPORT_TMO ticks, loses
a link that is UP: FAULT with its cause in LINK_LOG, disarmed, LDENn low, fault 0x5C0 + i. A matching acknowledgement
with the right CRC clears the table's flight and its pending mark; one that does not come within 200 µs has the frame
sent again with the same SEQ, and the third failure loses the link. (R272, R287, R288, R290, R291) -/
def Obligations.BeamReportsAndTables : Prop :=
  (∀ (i : Fin 8) (bs : List Byte) (s : State), (readFacet bs).crcOk = false →
      ∃ t, exec (.facetReport i bs) s = .next t ∧
      t.rdN (Reg.BEAM_STN_COUNT_BADREP i) = (s.rdN (Reg.BEAM_STN_COUNT_BADREP i) + 1) % 2 ^ 32 ∧
      (∀ a, a ≠ Reg.BEAM_STN_COUNT_BADREP i → t.rd a = s.rd a) ∧ t.beam = s.beam) ∧
  (∀ (i : Fin 8) (bs : List Byte) (r : FacetReport) (s : State), readFacet bs = r → r.crcOk = true →
      s.beamLink i = 2 → r.sweepValid = false → r.frameBad = false → s.beam.stns.length = 8 →
      ∃ t, exec (.facetReport i bs) s = .next t ∧ t.rdN (Reg.BEAM_STN_FACET_SEQ i) = r.seq % 2 ^ 32 ∧
      (t.bm i).reportAt = s.tick) ∧
  (∀ (i : Fin 8) (head : List Byte) (crc : Word) (s : State), (readStatus (endedBy head crc)).crcOk = true →
      (readStatus (endedBy head crc)).ready = true → s.beamLink i = 1 → (s.bm i).ready = false →
      s.beam.stns.length = 8 → ∃ t, exec (.statusReport i head crc) s = .next t ∧ (t.bm i).ready = true ∧
      (t.bm i).reportAt = s.tick ∧
      (∀ id : Fin 20, (tabFind (t.bm i).flights id).isSome = true ∧ tabGet false (t.bm i).dirty id = true) ∧
      t.flag (Reg.BEAM_STN_STATE i) 10 = true) ∧
  (∀ (i : Fin 8) (head : List Byte) (crc : Word) (s : State), (readStatus (endedBy head crc)).crcOk = true →
      (readStatus (endedBy head crc)).ready = false → s.beamLink i = 2 → s.beam.stns.length = 8 →
      ∃ t, exec (.statusReport i head crc) s = .next t ∧ t.beamLink i = 3 ∧
      t.fld (Reg.BEAM_STN_LINK_LOG i) 3 0 = 3 ∧ t.armed i = false ∧ t.ldenHigh i = false ∧ (t.bm i).lost = true ∧
      ⟨0x5C0 + i, 0x07, 0, s.tick⟩ ∈ t.flt.sent) ∧
  (∀ (i : Fin 8) (s : State), s.beamLink i = 2 → (s.bm i).reportAt + s.fld (Reg.BEAM_STN_CFG i) 31 24 ≤ s.tick →
      s.beam.stns.length = 8 → ∃ t, exec (.reportTimeout i) s = .next t ∧ t.beamLink i = 3 ∧
      t.fld (Reg.BEAM_STN_LINK_LOG i) 3 0 = 1 ∧ t.armed i = false ∧ t.ldenHigh i = false ∧ (t.bm i).lost = true ∧
      ⟨0x5C0 + i, 0x07, 0, s.tick⟩ ∈ t.flt.sent ∧ ⟨0x0807, s.tick, 0, [i, 2, 3, 1]⟩ ∈ t.hwd.sent) ∧
  (∀ (i : Fin 8) (head : List Byte) (table crc : Word) (r : AckReport) (f : TableTx) (s : State),
      readAck (endedBy (endedBy head table) crc) = r → r.crcOk = true → tabFind (s.bm i).flights r.id = some f →
      f.sent = true → f.seq = r.seq → r.crc = crc32 (s.beamBytes i r.id) → s.beam.stns.length = 8 →
      ∃ t, exec (.tableAck i head table crc) s = .next t ∧ tabFind (t.bm i).flights r.id = none ∧
      tabGet false (t.bm i).dirty r.id = false ∧ (t.bm i).reportAt = s.tick ∧
      t.flag (Reg.BEAM_STN_STATE i) 10 = decide ((t.bm i).dirty ≠ [])) ∧
  (∀ (i : Fin 8) (head : List Byte) (table crc : Word) (s : State),
      (readAck (endedBy (endedBy head table) crc)).crcOk = false →
      ∃ t, exec (.tableAck i head table crc) s = .next t ∧
      t.rdN (Reg.BEAM_STN_COUNT_BADREP i) = (s.rdN (Reg.BEAM_STN_COUNT_BADREP i) + 1) % 2 ^ 32 ∧ t.beam = s.beam) ∧
  (∀ (i : Fin 8) (id : Fin 20) (f : TableTx) (s : State), tabFind (s.bm i).flights id = some f → f.sent = true →
      f.stamp + 8 ≤ s.tick → f.fails < 2 → s.tableTime i = true → s.beam.stns.length = 8 →
      ∃ t, exec (.tableAckTimeout i id) s = .next t ∧
      tabFind (t.bm i).flights id = some ⟨f.seq, f.fails + 1, s.tick, true⟩ ∧ (∀ a, t.rd a = s.rd a) ∧
      (t.bm i).dirty = (s.bm i).dirty)

/-- Arming, the laser enable, the interlock and the failover maps. ARM arms a station when every condition holds and
map 0 is usable in both modes, with the drive of each emitter at its nominal power; else it sets ARM_REFUSED. LDENn
rises once every table is acknowledged. DISARM drops LDENn and the arming. A low of LSI_N latches the interlock,
disarms every station at once and is reported in the next tick, with every COMMITTED sheet spoiled. ILK_CLEAR ends the
latch only after LSI_N has been high for LSI_QUAL ticks. RESELECT chooses the lowest covering map, in force at the
first boundary after the emit phase; CLEAR_FAILED empties the failed set of a station that no sheet needs. (R276,
R277, R278, R282, R283) -/
def Obligations.ArmingInterlockAndMaps : Prop :=
  (∀ (i : Fin 8) (s0 s : State), s0.begin .decide = s → s.ldenAllowed i = true → s.mapUsable i 0 = true →
      s.mapMode i 0 false = true → s.mapMode i 0 true = true → s.armed i = false → s.beam.stns.length = 8 →
      ∃ t, exec (.arm i) s0 = .next t ∧ t.armed i = true ∧ (t.bm i).rising = true ∧ (t.bm i).lost = false ∧
      (t.bm i).sat = [] ∧ (∀ p : Fin 64, tabGet 0 (t.bm i).drive p = s.powerField i p 23 12) ∧
      t.ldenHigh i = s.ldenHigh i ∧ t.rd Reg.BEAM_EVENTS = s.rd Reg.BEAM_EVENTS) ∧
  (∀ (i : Fin 8) (s0 s : State), s0.begin .decide = s →
      (s.ldenAllowed i && s.mapUsable i 0 && s.mapMode i 0 false && s.mapMode i 0 true) = false →
      ∃ t, exec (.arm i) s0 = .next t ∧ t = s.raiseBit Reg.BEAM_EVENTS 9) ∧
  (∀ (i : Fin 8) (s0 s : State), s0.begin .decide = s → s.beam.stns.length = 8 →
      ∃ t, exec (.disarm i) s0 = .next t ∧ t.armed i = false ∧ t.ldenHigh i = false ∧ (t.bm i).rising = false ∧
      (∀ j : Fin 8, j ≠ i → t.armed j = s.armed j ∧ t.ldenHigh j = s.ldenHigh j)) ∧
  (∀ (i : Fin 8) (s : State), (s.bm i).rising = true → s.armed i = true → s.ldenAllowed i = true →
      (s.bm i).dirty = [] → s.clk.ioLow = false → s.beam.stns.length = 8 → ∃ t, exec (.ldenRise i) s = .next t ∧
      t.ldenHigh i = true ∧ (t.bm i).rising = false ∧ t.armed i = true) ∧
  (∀ (s : State), s.beam.interlock = none → ∃ t, exec .lsiNLow s = .next t ∧ t.flag Reg.BEAM_STATUS 8 = false ∧
      t.flag Reg.BEAM_STATUS 9 = true ∧ (∀ i : Fin 8, t.armed i = false ∧ t.ldenHigh i = false) ∧
      t.beam.interlock = some (s.tick, s.fld Reg.BEAM_STATUS 7 0)) ∧
  (∀ (n mask : Nat) (s0 s : State), s0.begin (.ledg 1) = s → s.ready (.ledg 1) = true →
      s.beam.interlock = some (n, mask) → n < s.tick → ∃ t, exec .interlockGathered s0 = .next t ∧
      t.beam.interlock = none ∧ t.rdN Reg.BEAM_ILK_COUNT = (s.rdN Reg.BEAM_ILK_COUNT + 1) % 2 ^ 32 ∧
      t.flag Reg.BEAM_EVENTS 4 = true ∧ ⟨0x208, 0x13, 0, s.tick⟩ ∈ t.flt.sent ∧
      ⟨0x0805, s.tick, 0, [mask]⟩ ∈ t.hwd.sent) ∧
  (∀ (s0 s : State), s0.begin .decide = s → s.flag Reg.BEAM_STATUS 8 = true →
      s.fld Reg.BEAM_CFG 15 0 ≤ s.beam.lsiHigh → ∃ t, exec .ilkClear s0 = .next t ∧
      t.flag Reg.BEAM_STATUS 9 = false ∧ t.hwd.sent = s.hwd.sent ++ [⟨0x0806, s.tick, 0, [s.beam.lsiHigh]⟩] ∧
      (∀ a, a ≠ Reg.BEAM_STATUS → t.rd a = s.rd a)) ∧
  (∀ (i : Fin 8) (m : Nat) (s0 s : State), s0.begin .decide = s → s.covering i = some m → m ≠ s.mapTarget i →
      s.beam.stns.length = 8 → ∃ t, exec (.reselect i) s0 = .next t ∧ (t.bm i).mapNext = some ⟨m, some s.tick, 0⟩ ∧
      t.noMap i = false ∧
      t.rdN (Reg.BEAM_STN_COUNT_FAILOVER i) = (s.rdN (Reg.BEAM_STN_COUNT_FAILOVER i) + 1) % 2 ^ 32 ∧
      t.flag Reg.BEAM_EVENTS 1 = true ∧
      t.hwd.sent = s.hwd.sent ++ [⟨0x0802, s.tick, 0, [i, s.mapTarget i, m, s.failedSet i]⟩]) ∧
  (∀ (i : Fin 8) (s0 s : State), s0.begin .decide = s → s.stationBusy i = false → s.beam.stns.length = 8 →
      ∃ t, exec (.clearFailed i) s0 = .next t ∧ t.failedSet i = 0 ∧ (t.bm i).sweeps = [])

/-- Serial links: EN, training, loss and retraining. Writing EN to a link that is DOWN starts its training; clearing
EN takes it DOWN. Training that completes after its least time brings the link UP (a step ring only with a node for
every enabled axis, an axis link only after a frame with READY, an HV link only with its nodes READY, a beam link only
with every table acknowledged); training that lasts 2 ms, LINK_TMO ticks without a good frame, or lost commas put it
into FAULT; 100 ms later it trains again while EN is 1. After lock a write of EN is discarded and reported. (R290,
R291, R297, R334, R364) -/
def Obligations.LinksTrainAndFail : Prop :=
  (∀ (l : LinkId) (s : State), s.locked = false → s.linkState l = 0 → (∀ i, l = .beam i → s.domainOn i = true) →
      ∃ t, exec (.linkEnable l) s = .next t ∧ t.flag (linkCfg l) 0 = true ∧ t.linkState l = 1) ∧
  (∀ (l : LinkId) (s : State), s.locked = false → ∃ t, exec (.linkDisable l) s = .next t ∧
      t.flag (linkCfg l) 0 = false ∧ t.linkState l = 0) ∧
  (∀ (l : LinkId) (s : State), s.locked = true → ∃ t, exec (.linkEnable l) s = .next t ∧ t = s.rwlDiscard l) ∧
  (∀ (l : LinkId) (s : State), s.locked = true → ∃ t, exec (.linkDisable l) s = .next t ∧ t = s.rwlDiscard l) ∧
  (∀ (k : Fin 4) (n : Fin 32) (s : State), s.axisLink k = 1 → (s.linkRec (.axis k)).since + 8 ≤ s.tick →
      (s.linkRec (.axis k)).good ≠ 0 → ∃ t, exec (.linkTrainingDone (.axis k) n) s = .next t ∧ t.axisLink k = 2 ∧
      t.hwd.sent = s.hwd.sent ++ [⟨0x0A09, s.tick, 0, [k, 1, 2, 0]⟩] ∧ t.flag Reg.AXIS_EVENTS 8 = true) ∧
  (∀ (k : Fin 2) (n : Fin 32) (s : State), s.stepLink k = 1 → (s.linkRec (.step k)).since + 8 ≤ s.tick →
      s.nodesNeeded k ≤ min 24 n.val → ∃ t, exec (.linkTrainingDone (.step k) n) s = .next t ∧ t.stepLink k = 2 ∧
      t.fld (Reg.STEP_LINK_STATE k) 12 8 = min 24 n.val ∧
      t.hwd.sent = s.hwd.sent ++ [⟨0x0907, s.tick, 0, [k, 1, 2, 0]⟩]) ∧
  (∀ (k : Fin 2) (n : Fin 32) (s : State), s.hvLink k = 1 → (s.linkRec (.hv k)).since + 8 ≤ s.tick →
      s.hvReady k (min 16 n.val) = true → ∃ t, exec (.linkTrainingDone (.hv k) n) s = .next t ∧ t.hvLink k = 2 ∧
      t.fld (Reg.LOOP_LINK_STATE k) 12 8 = min 16 n.val ∧
      t.hwd.sent = s.hwd.sent ++ [⟨0x0B03, s.tick, 0, [k, 1, 2, 0]⟩]) ∧
  (∀ (i : Fin 8) (n : Fin 32) (s : State), s.beamLink i = 1 → (s.bm i).ready = true → (s.bm i).dirty = [] →
      (s.bm i).linkAt + 16 ≤ s.tick → s.beam.stns.length = 8 →
      ∃ t, exec (.linkTrainingDone (.beam i) n) s = .next t ∧ t.beamLink i = 2 ∧ (t.bm i).reportAt = s.tick ∧
      ⟨0x0807, s.tick, 0, [i, 1, 2, 0]⟩ ∈ t.hwd.sent) ∧
  (∀ (l : LinkId) (s : State), s.linkState l = 1 → (s.linkRec l).since + 80 ≤ s.tick →
      ∃ t, exec (.linkTrainingTimeout l) s = .next t ∧ t.linkState l = 3) ∧
  (∀ (l : LinkId) (s0 s : State), s0.begin .decide = s → s.linkState l = 2 → s.hasLinkIn l = true →
      (s.linkRec l).good ≠ s.tick + 1 → s.fld (linkCfg l) 7 4 ≤ (s.linkRec l).miss →
      ∃ t, exec (.linkTimeout l) s0 = .next t ∧ t.linkState l = 3) ∧
  (∀ (l : LinkId) (s : State), (s.linkState l = 1 ∨ s.linkState l = 2) → ∃ t, exec (.commaLost l) s = .next t ∧
      t.linkState l = 3) ∧
  (∀ (l : LinkId) (s : State), s.linkState l = 3 → s.flag (linkCfg l) 0 = true →
      (s.linkRec l).since + 4000 ≤ s.tick → (∀ i, l = .beam i → s.domainOn i = true) →
      ∃ t, exec (.linkRetrain l) s = .next t ∧ t.linkState l = 1)

/-- The commands of the stepper axes. Where its checks pass, each command writes RESULT 1 and takes effect: ENABLE
enters IDLE where the back-EMF read is below START, WAIT_SPIN otherwise; DISABLE enters DISABLED and clears HOMED;
MOVE and VELOCITY take the profile and the target; STOP ends the motion along the profile; HOME enters HOMING with
HOMED clear; ENGAGE enters CAM; DISENGAGE goes on at the present speed; SET_POS sets the position and clears HOMED;
CLEAR leaves FAULT. A command whose mode is not accepted writes its result and sets CMD_REFUSED, and changes no axis.
(R300, R302, R303, R304, R306, R307, R315) -/
def Obligations.StepperCommands : Prop :=
  (∀ (a : Fin 48) (s0 s : State), s0.begin (.step a) = s → s.safe = false → (s.ax a).mode = .disabled →
      s.stepLink (a / 24) = 2 → s.holding = false → a % 24 < s.stepNodes (a / 24) → s.step.axes.length = 48 →
      ∃ t, exec (.stepEnable a) s0 = .next t ∧
      ((t.ax a).mode = if (s.ax a).amplitude.any (fun m =>
        decide (m < s.fld (Reg.STEP_AX_EMF_CFG a) 31 16)) then .idle else .waitSpin) ∧
      (t.ax a).deadline = s.tick + s.fld (Reg.STEP_AX_START_WAIT a) 15 0 ∧ t.rdN (Reg.STEP_AX_RESULT a) = 1) ∧
  (∀ (a : Fin 48) (s0 s : State), s0.begin (.step a) = s →
      ((s.ax a).mode = .disabled ∨ (s.ax a).mode = .idle ∨ (s.ax a).mode = .waitSpin ∨ ((s.ax a).mode = .fault ∧
        (s.ax a).v = 0)) →
      s.step.axes.length = 48 → ∃ t, exec (.stepDisable a) s0 = .next t ∧ (t.ax a).mode = .disabled ∧
      (t.ax a).homed = false ∧ (t.ax a).bridges = false ∧ t.rdN (Reg.STEP_AX_RESULT a) = 1) ∧
  (∀ (a : Fin 48) (prof : Fin 8) (s0 s : State), s0.begin (.step a) = s → s.safe = false →
      ((s.ax a).mode = .idle ∨ (s.ax a).mode = .move ∨ (s.ax a).mode = .velocity) →
      profileValid (s.stepProfile a prof) = true → s.step.axes.length = 48 →
      ∃ t, exec (.stepMove a prof) s0 = .next t ∧
      ((t.ax a).mode = if s.stepTarget a = (s.ax a).pos ∧ (s.ax a).v = 0 ∧ (s.ax a).dwell = 0 then .idle else .move) ∧
      (t.ax a).goal = .target (s.stepTarget a) ∧ (t.ax a).profile = s.stepProfile a prof ∧
      ((t.ax a).halt = if behind (s.stepProfile a prof) (s.ax a).v (s.stepTarget a - (s.ax a).pos) ∨
        (s.ax a).dwell ≠ 0 then .reverse else .no) ∧
      t.rdN (Reg.STEP_AX_RESULT a) = 1) ∧
  (∀ (a : Fin 48) (prof : Fin 8) (s0 s : State), s0.begin (.step a) = s → s.safe = false →
      ((s.ax a).mode = .idle ∨ (s.ax a).mode = .move ∨ (s.ax a).mode = .velocity) →
      profileValid (s.stepProfile a prof) = true → s.stepAsked a ≠ 0 →
      (s.stepAsked a).natAbs ≤ pf (s.stepProfile a prof) 3 → s.step.axes.length = 48 →
      ∃ t, exec (.stepVelocity a prof) s0 = .next t ∧ (t.ax a).mode = .velocity ∧
      (t.ax a).goal = .speed (s.stepAsked a) ∧ (t.ax a).profile = s.stepProfile a prof ∧
      t.rdN (Reg.STEP_AX_RESULT a) = 1) ∧
  (∀ (a : Fin 48) (s0 s : State), s0.begin (.step a) = s → s.safe = false →
      ((s.ax a).mode = .move ∨ (s.ax a).mode = .velocity ∨ (s.ax a).mode = .homing ∨ (s.ax a).mode = .cam) →
      s.step.axes.length = 48 → ∃ t, exec (.stepStop a) s0 = .next t ∧ (t.ax a).mode = .stopping ∧
      (t.ax a).halt = .stop ∧ (t.ax a).goal = .none ∧ (t.ax a).homing = none ∧ (t.ax a).cam = none ∧
      t.rdN (Reg.STEP_AX_RESULT a) = 1) ∧
  (∀ (a : Fin 48) (s0 s : State), s0.begin (.step a) = s → s.safe = false → (s.ax a).mode = .idle →
      profileValid (s.stepProfile a (s.fld (Reg.STEP_AX_HOME_CFG a) 22 20)) = true → s.step.axes.length = 48 →
      ∃ t, exec (.stepHome a) s0 = .next t ∧ (t.ax a).mode = .homing ∧ (t.ax a).homed = false ∧
      ((t.ax a).hphase = 1 ∨ (t.ax a).hphase = 2) ∧ (t.ax a).homing.isSome = true ∧
        t.rdN (Reg.STEP_AX_RESULT a) = 1) ∧
  (∀ (a : Fin 48) (s0 s : State), s0.begin (.step a) = s → s.safe = false →
      ((s.ax a).mode = .idle ∨ (s.ax a).mode = .velocity) →
      ((s.camStart a).2 - (s.ax a).v).natAbs ≤ pf (s.stepProfile a 0) 0 → s.step.axes.length = 48 →
      ∃ t, exec (.stepEngage a) s0 = .next t ∧ (t.ax a).mode = .cam ∧ (t.ax a).cam = some (s.camStart a).1 ∧
      (t.ax a).camLock = decide ((s.camStart a).1.offset = 0) ∧ (t.ax a).goal = .none ∧ (t.ax a).halt = .no ∧
      t.rdN (Reg.STEP_AX_RESULT a) = 1) ∧
  (∀ (a : Fin 48) (s0 s : State), s0.begin (.step a) = s → s.safe = false → (s.ax a).mode = .cam →
      s.step.axes.length = 48 → ∃ t, exec (.stepDisengage a) s0 = .next t ∧ (t.ax a).mode = .velocity ∧
      (t.ax a).goal = .speed (s.ax a).v ∧ (t.ax a).cam = none ∧ (t.ax a).camLock = false ∧
      t.rdN (Reg.STEP_AX_RESULT a) = 1) ∧
  (∀ (a : Fin 48) (s0 s : State), s0.begin (.step a) = s → s.safe = false → (s.ax a).mode = .idle →
      s.step.axes.length = 48 → ∃ t, exec (.stepSetPos a) s0 = .next t ∧ (t.ax a).pos = s.stepTarget a ∧
      (t.ax a).homed = false ∧ (t.ax a).mode = .idle ∧ t.rdN (Reg.STEP_AX_RESULT a) = 1) ∧
  (∀ (a : Fin 48) (s0 s : State), s0.begin (.step a) = s → s.safe = false → (s.ax a).mode = .fault →
      (s.ax a).v = 0 → s.step.axes.length = 48 → ∃ t, exec (.stepClear a) s0 = .next t ∧
      ((t.ax a).mode = if (s.ax a).bridges then .idle else .disabled) ∧ (t.ax a).goal = .none ∧
      t.rdN (Reg.STEP_AX_RESULT a) = 1) ∧
  (∀ (a : Fin 48) (s0 s : State), s0.begin (.step a) = s → s.safe = false → (s.ax a).mode ≠ .idle →
      (s.ax a).mode ≠ .ledger → ∃ t, exec (.stepSetPos a) s0 = .next t ∧ t.rdN (Reg.STEP_AX_RESULT a) = 2 ∧
      t.flag Reg.STEP_EVENTS 8 = true ∧ t.step = s.step)

/-- Step-link returns, waits, homing edges and the SCAP inputs. A return frame with a good CRC is gathered in a tick
whose page holds LINK_IN and whose decide work has not begun, and restarts the link's count of misses; one with a bad
CRC is discarded and counted; without the slot, or once the decide work has begun, it waits. WAIT_SPIN that lasts
START_WAIT ticks is a fault with kind 0x0E; a reverse dwell ends after its ticks. A qualified edge of the sought
polarity moves homing on, and in CREEP ends it: the position is set from the latch and HOME_OFFSET, HOMED is set. A
window that ends without one is a homing fault. A change of a SCAP input counts and is queued once it has stood for
the filter time; an edge at a full queue is dropped. (R296, R297, R306, R315, R319, R321, R322) -/
def Obligations.StepperReturnsHomingAndEdges : Prop :=
  (∀ (k : Fin 2) (bs : List Byte) (f : StepFrame) (s : State), readStepFrame bs = f → f.crcOk = true →
      s.stepLink k = 2 → s.pageHas 9 1 k = true → s.decideOpen = false → s.step.links.length = 2 →
      ∃ t, exec (.stepFrameReturn k bs) s = .next t ∧ (t.step.links.getD k Link.init).good = s.tick + 1 ∧
      (t.step.links.getD k Link.init).miss = 0 ∧ tabFind t.step.waiting k = none ∧ t.step.axes = s.step.axes ∧
      (∀ a, t.rd a = s.rd a)) ∧
  (∀ (k : Fin 2) (bs : List Byte) (s : State), (readStepFrame bs).crcOk = false → s.stepLink k = 2 →
      s.pageHas 9 1 k = true → s.decideOpen = false → ∃ t, exec (.stepFrameReturn k bs) s = .next t ∧
      t.fld (Reg.STEP_LINK_STATE k) 31 24 = min 255 (s.fld (Reg.STEP_LINK_STATE k) 31 24 + 1) ∧
      t.step.axes = s.step.axes ∧ t.step.links = s.step.links ∧ t.step.returned = s.step.returned) ∧
  (∀ (k : Fin 2) (bs : List Byte) (s : State), s.stepLink k = 2 → (s.pageHas 9 1 k = false ∨ s.decideOpen = true) →
      ∃ t, exec (.stepFrameReturn k bs) s = .next t ∧
      t.step = { s.step with waiting := tabPut s.step.waiting k (readStepFrame bs) } ∧ (∀ a, t.rd a = s.rd a)) ∧
  (∀ (a : Fin 48) (s0 s : State), s0.begin .decide = s → (s.ax a).mode = .waitSpin → (s.ax a).deadline ≤ s.tick →
      s.step.axes.length = 48 → ∃ t, exec (.stepStartTimeout a) s0 = .next t ∧ (t.ax a).mode = .fault ∧
      (t.ax a).bridges = false ∧ t.rdN (Reg.STEP_AX_FAULT a) = 0x0E ∧ t.flag Reg.STEP_EVENTS 4 = true ∧
      ⟨0x240 + a, 0x0E, 0, s.tick⟩ ∈ t.flt.sent) ∧
  (∀ (a : Fin 48) (s0 s : State), s0.begin .decide = s → (s.ax a).dwell ≠ 0 → (s.ax a).dwell ≤ s.tick →
      s.step.axes.length = 48 → ∃ t, exec (.reverseDwellEnd a) s0 = .next t ∧
      t.ax a = { s.ax a with dwell := 0, halt := .no } ∧ (∀ r, t.rd r = s.rd r)) ∧
  (∀ (a : Fin 48) (h : Homing) (n : Nat) (s0 s : State), s0.begin .decide = s → (s.ax a).homing = some h →
      h.last = [(n, true)] → n + s.fld (Reg.STEP_AX_HOME_CFG a) 15 12 ≤ s.tick + 1 → (s.ax a).halt = .no →
      (s.ax a).hphase = 1 → s.step.axes.length = 48 → ∃ t, exec (.homeEdgeQualified a) s0 = .next t ∧
      (t.ax a).halt = .backoff ∧ (t.ax a).goal = .none ∧
      (t.ax a).homing = some { h with last := [], window := none } ∧ (∀ r, t.rd r = s.rd r)) ∧
  (∀ (a : Fin 48) (h : Homing) (n : Nat) (l : Int) (s0 s : State), s0.begin .decide = s →
      (s.ax a).homing = some h → h.last = [(n, true)] → n + s.fld (Reg.STEP_AX_HOME_CFG a) 15 12 ≤ s.tick + 1 →
      (s.ax a).halt = .no → (s.ax a).hphase = 3 → h.latch = some l → s.step.axes.length = 48 →
      ∃ t, exec (.homeEdgeQualified a) s0 = .next t ∧ (t.ax a).mode = .idle ∧ (t.ax a).homed = true ∧
      (t.ax a).v = 0 ∧
      ((t.ax a).pos = (s.ax a).pos + (if s.pageHas 9 2 a then
        directed (s.homeDir a) (s.homeCreep a) else 0) - l
        + signedOf 32 (s.rdN (Reg.STEP_AX_HOME_OFFSET a)) * 2 ^ 24) ∧
      t.rdN (Reg.STEP_AX_HOME_LATCH a) = codeOf 32 (l / 2 ^ 24) ∧ t.flag Reg.STEP_EVENTS 0 = true) ∧
  (∀ (a : Fin 48) (h : Homing) (g : Nat) (s0 s : State), s0.begin .decide = s → (s.ax a).homing = some h →
      h.window = some g → g + s.fld (Reg.STEP_AX_HOME_WIN a) 15 0 ≤ s.tick → h.last = [] → s.step.axes.length = 48 →
      ∃ t, exec (.homeWindowEnd a) s0 = .next t ∧ (t.ax a).mode = .fault ∧ t.rdN (Reg.STEP_AX_FAULT a) = 0x20B ∧
      t.flag Reg.STEP_EVENTS 1 = true ∧ ⟨0x240 + a, 0x0B, 0, s.tick⟩ ∈ t.flt.sent) ∧
  (∀ (i : Fin 8) (level : Bool) (sub : Fin 2500) (x : ScapIn) (s : State), s.sio.scap.getD i ScapIn.init = x →
      x.raw = x.level → x.raw ≠ level → s.scapFilter i = 0 → x.queue.length < 8 → s.sio.scap.length = 8 →
      ∃ t, exec (.scapEdge i level sub) s = .next t ∧
      t.sio.scap.getD i ScapIn.init = { x with
        raw := level, level := level, first := s.tick * 2500 + sub, queue := x.queue ++ [⟨s.tick, sub, level, s.tick,
        x.serial, 0⟩], serial := x.serial + 1 } ∧
      (∀ a, t.rd a = s.rd a)) ∧
  (∀ (i : Fin 8) (level : Bool) (sub : Fin 2500) (x : ScapIn) (s : State), s.sio.scap.getD i ScapIn.init = x →
      x.raw = x.level → x.raw ≠ level → 0 < s.scapFilter i → s.sio.scap.length = 8 →
      ∃ t, exec (.scapEdge i level sub) s = .next t ∧
      t.sio.scap.getD i ScapIn.init = { x with raw := level, first := s.tick * 2500 + sub } ∧
      t.sio.changed = s.sio.changed) ∧
  (∀ (i : Fin 8) (level : Bool) (sub : Fin 2500) (x : ScapIn) (s : State), s.sio.scap.getD i ScapIn.init = x →
      x.raw = x.level → x.raw ≠ level → s.scapFilter i = 0 → 8 ≤ x.queue.length → s.sio.scap.length = 8 →
      ∃ t, exec (.scapEdge i level sub) s = .next t ∧ (t.sio.scap.getD i ScapIn.init).queue = x.queue ∧
      (t.sio.scap.getD i ScapIn.init).level = level ∧ t.flag Reg.SIO_EVENTS i = true)

/-- The commands of the synchronous axes. Where its checks pass, each command writes RESULT 1 and takes effect: ENABLE
enters CATCH; DISABLE enters DISABLED with the bridges off; MOVE takes the profile and the target of an aligned axis;
VELOCITY the asked speed; STOP decelerates; SET_POS sets the position, the raw position and the commanded one; CLEAR
leaves FAULT for DISABLED after LINK_LOSS. A command whose mode is not accepted writes its result, sets CMD_REFUSED
and changes no axis. (R336, R337, R344, R345, R346, R347, R353) -/
def Obligations.AxisCommands : Prop :=
  (∀ (a : Fin 24) (s0 s : State), s0.begin (.axis a) = s → s.safe = false → (s.sx a).mode = .disabled →
      s.axisLink (a / 6) = 2 → s.holding = false → s.axisComplete a = true → s.axis.axes.length = 24 →
      ∃ t, exec (.axisEnable a) s0 = .next t ∧ (t.sx a).mode = .catching ∧ (t.sx a).since = s.tick ∧
      (t.sx a).bridges = false ∧ (t.sx a).crossings = 0 ∧ t.rdN (Reg.AXIS_AX_RESULT a) = 1) ∧
  (∀ (a : Fin 24) (s0 s : State), s0.begin (.axis a) = s →
      ((s.sx a).mode = .disabled ∨ (s.sx a).mode = .idle ∨ (s.sx a).mode = .spindown ∨ (s.sx a).mode = .fault) →
      s.axis.axes.length = 24 → ∃ t, exec (.axisDisable a) s0 = .next t ∧ (t.sx a).mode = .disabled ∧
      (t.sx a).bridges = false ∧ (t.sx a).vcmd = 0 ∧ (t.sx a).goal = .none ∧ t.rdN (Reg.AXIS_AX_RESULT a) = 1) ∧
  (∀ (a : Fin 24) (prof : Fin 8) (s0 s : State), s0.begin (.axis a) = s → s.safe = false →
      ((s.sx a).mode = .idle ∨ (s.sx a).mode = .velocity ∨ (s.sx a).mode = .move) → (s.sx a).aligned = true →
      axisProfileValid (s.syncProfile a prof) = true → s.axis.axes.length = 24 →
      ∃ t, exec (.axisMove a prof) s0 = .next t ∧ (t.sx a).mode = .move ∧
      (t.sx a).goal = .target (s.axisTarget a * 2 ^ 24) ∧ (t.sx a).profile = s.syncProfile a prof ∧
      (t.sx a).bridges = true ∧ t.rdN (Reg.AXIS_AX_RESULT a) = 1) ∧
  (∀ (a : Fin 24) (prof : Fin 8) (s0 s : State), s0.begin (.axis a) = s → s.safe = false →
      ((s.sx a).mode = .idle ∨ (s.sx a).mode = .velocity ∨ (s.sx a).mode = .move) → (s.sx a).aligned = false →
      ∃ t, exec (.axisMove a prof) s0 = .next t ∧ t.rdN (Reg.AXIS_AX_RESULT a) = 9 ∧
      t.flag Reg.AXIS_EVENTS 10 = true ∧ t.axis = s.axis) ∧
  (∀ (a : Fin 24) (prof : Fin 8) (s0 s : State), s0.begin (.axis a) = s → s.safe = false →
      ((s.sx a).mode = .idle ∨ (s.sx a).mode = .velocity ∨ (s.sx a).mode = .move) → (s.sx a).aligned = true →
      axisProfileValid (s.syncProfile a prof) = true → (s.axisAsked a).natAbs ≤ pf (s.syncProfile a prof) 1 →
      s.axis.axes.length = 24 → ∃ t, exec (.axisVelocity a prof) s0 = .next t ∧ (t.sx a).mode = .velocity ∧
      (t.sx a).goal = .speed (s.axisAsked a) ∧ (t.sx a).profile = s.syncProfile a prof ∧
      t.rdN (Reg.AXIS_AX_RESULT a) = 1) ∧
  (∀ (a : Fin 24) (s0 s : State), s0.begin (.axis a) = s → s.safe = false →
      ((s.sx a).mode = .velocity ∨ (s.sx a).mode = .move ∨ (s.sx a).mode = .start) → s.axis.axes.length = 24 →
      ∃ t, exec (.axisStop a) s0 = .next t ∧ (t.sx a).mode = .stopping ∧ (t.sx a).goal = .speed 0 ∧
      (t.sx a).halt = .stop ∧ t.rdN (Reg.AXIS_AX_RESULT a) = 1) ∧
  (∀ (a : Fin 24) (s0 s : State), s0.begin (.axis a) = s → s.safe = false → (s.sx a).mode = .idle →
      s.axis.axes.length = 24 → ∃ t, exec (.axisSetPos a) s0 = .next t ∧ (t.sx a).p = s.axisTarget a ∧
      ((t.sx a).r = if (s.sx a).aligned then s.axisTarget a else s.axisTarget a * s.axPoles a) ∧
      (t.sx a).pcmd = s.axisTarget a * 2 ^ 24 ∧ (t.sx a).mode = .idle ∧ t.rdN (Reg.AXIS_AX_RESULT a) = 1) ∧
  (∀ (a : Fin 24) (s0 s : State), s0.begin (.axis a) = s → s.safe = false → (s.sx a).mode = .fault →
      (s.sx a).still = true → s.fld (Reg.AXIS_AX_FAULT a) 4 0 = 0x07 → s.axis.axes.length = 24 →
      ∃ t, exec (.axisClear a) s0 = .next t ∧ (t.sx a).mode = .disabled ∧ (t.sx a).goal = .none ∧
      (t.sx a).bridges = false ∧ t.rdN (Reg.AXIS_AX_RESULT a) = 1) ∧
  (∀ (a : Fin 24) (s0 s : State), s0.begin (.axis a) = s → s.safe = false → (s.sx a).mode = .fault →
      (s.sx a).still = true → s.fld (Reg.AXIS_AX_FAULT a) 4 0 ≠ 0x07 → s.axis.axes.length = 24 →
      ∃ t, exec (.axisClear a) s0 = .next t ∧ (t.sx a).mode = .idle ∧ t.rdN (Reg.AXIS_AX_RESULT a) = 1) ∧
  (∀ (a : Fin 24) (s0 s : State), s0.begin (.axis a) = s → s.safe = false → (s.sx a).mode ≠ .idle →
      (s.sx a).mode ≠ .ledger → ∃ t, exec (.axisSetPos a) s0 = .next t ∧ t.rdN (Reg.AXIS_AX_RESULT a) = 2 ∧
      t.flag Reg.AXIS_EVENTS 10 = true ∧ t.axis = s.axis)

/-- Axis-link frames, the time-outs of catching and recovery, the observer's loss and facet periods. A good inbound
frame of the right TICK, in a tick whose page holds LINK_IN and whose decide work has not begun, restarts the link's
count of misses and is gathered; one with a bad CRC is counted and otherwise ignored; without the slot, or once the
decide work has begun, it waits; one of another TICK is discarded. CATCH that lasts CATCH_TMO ticks ends in SPINDOWN;
SPINDOWN that lasts START_WAIT ticks, or RECOVER that lasts CATCH_TMO, is a fault. Low confidence for OBS_TICKS ticks
raises fault 0x280 + a with kind 0x15, counts, and puts the axis into RECOVER. A facet period of the axis's own
polygon is taken once and moves the speed estimate towards it by POLY_GAIN. (R333, R334, R348, R351, R352, R357) -/
def Obligations.AxisReturnsAndTimeouts : Prop :=
  (∀ (k : Fin 4) (bs : List Byte) (f : AxisFrame) (s : State), readAxisFrame bs = f → f.crcOk = true →
      s.axisLink k = 2 → s.axisTickOk f.tick = true → s.pageHas 0x0A 1 k = true → s.decideOpen = false →
      s.axis.links.length = 4 → ∃ t, exec (.axisFrameReturn k bs) s = .next t ∧
      (t.axis.links.getD k Link.init).good = s.tick + 1 ∧ (t.axis.links.getD k Link.init).miss = 0 ∧
      tabFind t.axis.waiting k = none ∧ tabFind t.axis.returned k = some f ∧ t.axis.axes = s.axis.axes ∧
      (∀ a, t.rd a = s.rd a)) ∧
  (∀ (k : Fin 4) (bs : List Byte) (s : State), (readAxisFrame bs).crcOk = false → s.axisLink k = 2 →
      s.pageHas 0x0A 1 k = true → s.decideOpen = false → ∃ t, exec (.axisFrameReturn k bs) s = .next t ∧
      t.fld (Reg.AXIS_LINK_STATE k) 31 24 = min 255 (s.fld (Reg.AXIS_LINK_STATE k) 31 24 + 1) ∧
      t.axis.axes = s.axis.axes ∧ t.axis.links = s.axis.links ∧ t.axis.returned = s.axis.returned) ∧
  (∀ (k : Fin 4) (bs : List Byte) (f : AxisFrame) (s : State), readAxisFrame bs = f → s.axisLink k = 2 →
      (s.axisTickOk f.tick = true ∨ f.crcOk = false) → (s.pageHas 0x0A 1 k = false ∨ s.decideOpen = true) →
      ∃ t, exec (.axisFrameReturn k bs) s = .next t ∧
      t.axis = { s.axis with waiting := tabPut s.axis.waiting k f } ∧ (∀ a, t.rd a = s.rd a)) ∧
  (∀ (k : Fin 4) (bs : List Byte) (f : AxisFrame) (s : State), readAxisFrame bs = f → f.crcOk = true →
      s.axisLink k = 2 → s.axisTickOk f.tick = false → ∃ t, exec (.axisFrameReturn k bs) s = .next t ∧ t = s) ∧
  (∀ (a : Fin 24) (s0 s : State), s0.begin .decide = s → (s.sx a).mode = .catching → (s.sx a).aligned = false →
      (s.sx a).since + s.axCatchTmo a ≤ s.tick → s.axis.axes.length = 24 →
      ∃ t, exec (.catchTimeout a) s0 = .next t ∧ (t.sx a).mode = .spindown ∧ (t.sx a).since = s.tick ∧
      (t.sx a).bridges = false) ∧
  (∀ (a : Fin 24) (s0 s : State), s0.begin .decide = s → (s.sx a).mode = .spindown →
      (s.sx a).since + s.fld (Reg.AXIS_AX_START_WAIT a) 15 0 ≤ s.tick → s.axis.axes.length = 24 →
      ∃ t, exec (.spindownTimeout a) s0 = .next t ∧ (t.sx a).mode = .fault ∧
      t.fld (Reg.AXIS_AX_FAULT a) 7 0 = 0x0E ∧ t.flag Reg.AXIS_EVENTS 3 = true ∧
      ⟨0x280 + a, 0x0E, 0, s.tick⟩ ∈ t.flt.sent ∧ (t.sx a).bridges = false) ∧
  (∀ (a : Fin 24) (s0 s : State), s0.begin .decide = s → (s.sx a).observed = true → (s.sx a).mode ≠ .start →
      (s.sx a).mode ≠ .fault → s.axObsTicks a ≤ (s.sx a).lowRun → s.axis.axes.length = 24 →
      ∃ t, exec (.observerLoss a) s0 = .next t ∧ (t.sx a).mode = .recover ∧ (t.sx a).since = s.tick ∧
      (t.sx a).bridges = false ∧ (t.sx a).lowRun = 0 ∧
      t.fld (Reg.AXIS_AX_COUNTS a) 15 0 = (s.fld (Reg.AXIS_AX_COUNTS a) 15 0 + 1) % 2 ^ 16 ∧
      t.flag Reg.AXIS_EVENTS 0 = true ∧ ⟨0x280 + a, 0x15, 0, s.tick⟩ ∈ t.flt.sent) ∧
  (∀ (a : Fin 24) (f : FacetPeriod) (s : State),
      s.axis.periods.find? (fun f => s.polyGives a f.station && s.gathers (f.time / 320000)) = some f →
      (s.sx a).mode ≠ .recover → f.index0 = false → s.axis.axes.length = 24 →
      ∃ t, exec (.facetPeriodGathered a) s = .next t ∧ t.axis.periods = s.axis.periods.erase f ∧
      (t.sx a).vEst = (s.sx a).vEst + s.fld (Reg.AXIS_AX_POLY_CFG
        a) 15 0 * (facetSpeed f.period - (s.sx a).vEst) / 65536 ∧
      (t.sx a).polyRefine = true ∧ (∀ r, t.rd r = s.rd r)) ∧
  (∀ (a : Fin 24) (s0 s : State), s0.begin .decide = s → (s.sx a).mode = .recover →
      (s.sx a).since + s.axCatchTmo a ≤ s.tick → s.axis.axes.length = 24 →
      ∃ t, exec (.recoverTimeout a) s0 = .next t ∧ (t.sx a).mode = .fault ∧ t.flag Reg.AXIS_EVENTS 2 = true ∧
      t.rdN (Reg.AXIS_AX_FAULT a) = 0x215 ∧ ⟨0x280 + a, 0x15, 0, s.tick⟩ ∈ t.flt.sent ∧ (t.sx a).bridges = false)

/-- The commands of the loop engine and the HV links' returns. ENABLE with its checks passed puts the loop into RUN,
as if its actuator had stood off for MINTIME, with SETTLE counting from now; DISABLE ends it with the actuator off,
from any mode and in the safe state too; CLEAR leaves FAULT for DISABLED; LEARN_CLEAR zeroes exactly the loop's
partition of the learning memory, and not while it is in RUN. A refused command writes its result, sets CMD_REFUSED
and changes nothing else. A return frame with a good CRC is gathered in a tick whose page holds LINK_IN and whose
decide work has not begun; one with a bad CRC is counted; without the slot, once the decide work has begun, or in
TRAINING, it waits. (R361, R363, R364, R368, R373, R375) -/
def Obligations.LoopCommandsAndReturns : Prop :=
  (∀ (l : Fin 64) (s0 s : State), s0.begin (.loop l) = s → s.safe = false → s.loopMode l = 0 →
      s.hvLink (s.loopLink l) = 2 → s.holding = false → s.loopIncomplete l = false → s.loopConflict l = false →
      s.loop.loops.length = 64 → ∃ t, exec (.loopEnable l) s0 = .next t ∧ t.loopMode l = 1 ∧
      (t.lp l).since = (s.tick : Int) - s.fld (Reg.LOOP_LP_MINTIME l) 31 16 ∧ (t.lp l).settle = s.tick ∧
      (t.lp l).reading = none ∧ t.rdN (Reg.LOOP_LP_RESULT l) = 1) ∧
  (∀ (l : Fin 64) (s0 s : State), s0.begin (.loop l) = s → s.loop.loops.length = 64 →
      ∃ t, exec (.loopDisable l) s0 = .next t ∧ t.loopMode l = 0 ∧ t.loopOn l = false ∧ (t.lp l).reading = none ∧
      t.rdN (Reg.LOOP_LP_RESULT l) = 1) ∧
  (∀ (l : Fin 64) (s0 s : State), s0.begin (.loop l) = s → s.safe = false → s.loopMode l = 2 →
      ∃ t, exec (.loopClear l) s0 = .next t ∧ t.loopMode l = 0 ∧ t.rdN (Reg.LOOP_LP_RESULT l) = 1 ∧ t.loop = s.loop) ∧
  (∀ (l : Fin 64) (s0 s : State), s0.begin (.loop l) = s → s.safe = false → s.loopMode l ≠ 2 →
      ∃ t, exec (.loopClear l) s0 = .next t ∧ t.loopMode l = s.loopMode l ∧ t.rdN (Reg.LOOP_LP_RESULT l) = 2 ∧
      t.flag Reg.LOOP_EVENTS 3 = true) ∧
  (∀ (l : Fin 64) (s0 s : State), s0.begin (.loop l) = s → s.safe = false → s.loopRuns l = false →
      ∃ t, exec (.learnClear l) s0 = .next t ∧
      (∀ a, memByte t.sram a = if 0x400000 + 4 * s.loopBase l ≤ a ∧
        a < min 0x600000 (0x400000 + 4 * s.loopBase l + 4 * s.loopBins l) then 0 else memByte s.sram a) ∧
      t.hwd.sent = s.hwd.sent ++ [⟨0x0B04, s.tick, 0, [l, s.loopBase l, s.loopBins l]⟩] ∧
      t.rdN (Reg.LOOP_LP_RESULT l) = 1) ∧
  (∀ (l : Fin 64) (s0 s : State), s0.begin (.loop l) = s → s.safe = false → s.loopRuns l = true →
      ∃ t, exec (.learnClear l) s0 = .next t ∧ t.sram = s.sram ∧ t.rdN (Reg.LOOP_LP_RESULT l) = 2 ∧
      t.flag Reg.LOOP_EVENTS 3 = true) ∧
  (∀ (k : Fin 2) (bs : List Byte) (f : HvFrame) (s : State), readHvFrame bs = f → f.crcOk = true → s.hvLink k = 2 →
      s.pageHas 0x0B 1 k = true → s.decideOpen = false → s.loop.links.length = 2 →
      ∃ t, exec (.hvFrameReturn k bs) s = .next t ∧ (t.loop.links.getD k Link.init).good = s.tick + 1 ∧
      (t.loop.links.getD k Link.init).miss = 0 ∧ tabFind t.loop.waiting k = none ∧
      tabFind t.loop.returned k = some f ∧ t.loop.loops = s.loop.loops ∧ (∀ a, t.rd a = s.rd a)) ∧
  (∀ (k : Fin 2) (bs : List Byte) (s : State), (readHvFrame bs).crcOk = false → s.hvLink k = 2 →
      s.pageHas 0x0B 1 k = true → s.decideOpen = false → ∃ t, exec (.hvFrameReturn k bs) s = .next t ∧
      t.fld (Reg.LOOP_LINK_STATE k) 31 24 = min 255 (s.fld (Reg.LOOP_LINK_STATE k) 31 24 + 1) ∧
      t.loop.loops = s.loop.loops ∧ t.loop.links = s.loop.links ∧ t.loop.returned = s.loop.returned) ∧
  (∀ (k : Fin 2) (bs : List Byte) (f : HvFrame) (s : State), readHvFrame bs = f →
      ((s.hvLink k = 2 ∧ (s.pageHas 0x0B 1 k = false ∨ s.decideOpen = true)) ∨ (s.hvLink k = 1 ∧ f.crcOk = true)) →
      ∃ t, exec (.hvFrameReturn k bs) s = .next t ∧ t.loop = { s.loop with waiting := tabPut s.loop.waiting k f } ∧
      (∀ a, t.rd a = s.rd a))

/-- Writing, granting, timing out, scrubbing and configuring the queues of the canopy. A disabled queue accepts
nothing. A class P queue takes an offered cell that it is granted at its tail, stamped with the tick; a class T queue
takes a whole packet that fits, and drops it, counted and reported, where it does not fit and the queue does not drop
its oldest. A damaged pointer puts the queue into SCRUB, counted, with a fault message; the scrub's end returns its
cells and reports them. A class T queue's deadline raises a timeout notice and begins the next one. WRITE installs the
configuration or refuses with a result; LOAD reads one back; FLUSH empties an enabled queue. No other queue changes.
(R381, R387, R390, R391, R393, R394, R396) -/
def Obligations.CanopyQueues : Prop :=
  (∀ (q : Fin 4096) (cs : List CellIn) (ptr : Fin 4) (s : State), (s.cq q).enabled = false →
      ∃ t, exec (.cellWrite q cs ptr) s = .next t ∧ t = s) ∧
  (∀ (q : Fin 4096) (c : CellIn) (s : State), (s.cq q).enabled = true → (s.cq q).classT = false →
      s.scrubbing q = false → s.grants q 1 = true → (s.cq q).written = 0 → c.sop = true → badKind c = false →
      c.abort = false → ∃ t, exec (.cellWrite q [c] 0) s = .next t ∧
      (t.cq q).cells = (s.cq q).cells ++ [⟨c, s.tick⟩] ∧ ((t.cq q).written = if c.eop then 0 else 1) ∧
      (∀ p, p ≠ (q : Nat) → t.cq p = s.cq p)) ∧
  (∀ (q : Fin 4096) (cs : List CellIn) (s : State), (s.cq q).enabled = true → (s.cq q).classT = true →
      packetsOf [] cs = [cs] → (cs.head?).any badKind = false → s.scrubbing q = false →
      s.held q + cs.length ≤ (s.cq q).quota → s.grants q cs.length = true →
      ∃ t, exec (.cellWrite q cs 0) s = .next t ∧ (t.cq q).cells = (s.cq q).cells ++ cs.map (fun c => ⟨c, s.tick⟩) ∧
      ((t.cq q).t0 = if (s.cq q).cells = [] then s.tick + 1 else (s.cq q).t0) ∧
      (∀ p, p ≠ (q : Nat) → t.cq p = s.cq p)) ∧
  (∀ (q : Fin 4096) (cs : List CellIn) (s : State), (s.cq q).enabled = true → (s.cq q).classT = true →
      (s.cq q).dropOld = false → packetsOf [] cs = [cs] → (cs.head?).any badKind = false →
      (s.cq q).quota < s.held q + cs.length → ∃ t, exec (.cellWrite q cs 0) s = .next t ∧ (∀ p, t.cq p = s.cq p) ∧
      t.rd Reg.CNPY_COUNT_DROP = word (s.rdN Reg.CNPY_COUNT_DROP + 1) ∧ t.flag Reg.CNPY_EVENTS 2 = true ∧
      t.hwd.sent = s.hwd.sent ++ [⟨0x0C03, s.tick, 0, [q, 1]⟩]) ∧
  (∀ (q : Fin 4096) (cs : List CellIn) (ptr : Fin 4) (s : State), (s.cq q).enabled = true →
      (s.cq q).classT = false → s.scrubbing q = false → ptr ≠ 0 → ∃ t, exec (.cellWrite q cs ptr) s = .next t ∧
      t.scrubbing q = true ∧ (∀ p, t.cq p = s.cq p) ∧
      t.cnpy.notices = s.cnpy.notices.filter (fun n => decide (n.queue ≠ (q : Nat))) ∧
      t.rdN Reg.CNPY_MISMATCH_Q = (q : Nat) + ptr * 4096 ∧
      t.rd Reg.CNPY_COUNT_MISMATCH = s.rd Reg.CNPY_COUNT_MISMATCH + 1 ∧ t.flag Reg.CNPY_EVENTS 0 = true ∧
      t.flt.sent = s.flt.sent ++ [⟨0x300, 0x1B, q, s.tick⟩]) ∧
  (∀ (q : Fin 4096) (s0 s : State), s0.begin .decide = s → (s.cq q).enabled = true → (s.cq q).classT = true →
      s.scrubbing q = false → s.linkedCells (s.cq q) ≠ [] → (s.cq q).t0 + (s.cq q).tmo ≤ s.tick →
      s.pageHas 0x0C 2 0 = true → ∃ t, exec (.classTTimeout q) s0 = .next t ∧ (t.cq q).t0 = s.tick ∧
      (t.cq q).cells = (s.cq q).cells ∧ t.cnpy.notices = s.cnpy.notices ++ [⟨2, q⟩] ∧
      (∀ p, p ≠ (q : Nat) → t.cq p = s.cq p) ∧ (∀ a, t.rd a = s.rd a)) ∧
  (∀ (q : Fin 4096) (s0 s : State), s0.begin .decide = s → s.pageHas 0x0C 2 0 = false →
      ∃ t, exec (.classTTimeout q) s0 = .next t ∧ t = s) ∧
  (∀ (x : Scrub) (xs : List Scrub) (s : State), s.cnpy.scrubs = x :: xs → x.ended = false →
      ∃ t, exec .scrubEnd s = .next t ∧ (t.cq x.queue).cells = [] ∧ t.cnpy.scrubs = { x with ended := true } :: xs ∧
      (s.hwd.sent ++ [⟨0x0C01, s.tick, 0, [x.queue, x.which, s.held x.queue, s.tick - x.decided]⟩]) <+: t.hwd.sent ∧
      (∀ p, p ≠ x.queue → t.cq p = s.cq p)) ∧
  (∀ (s : State), s.cnpy.scrubs = [] → ∃ t, exec .scrubEnd s = .next t ∧ t = s) ∧
  (∀ (w : Writer) (s0 s : State), s0.begin .decide = s → s.queueWriteResult w s.qsel (s.qcfg (s.cq s.qsel)) = 1 →
      ∃ t, exec (.queueWrite w) s0 = .next t ∧ t.cq s.qsel = s.qcfg (s.cq s.qsel) ∧ t.rdN Reg.CNPY_QRESULT = 1 ∧
      (∀ p, p ≠ s.qsel → t.cq p = s.cq p) ∧ t.hwd.sent = s.hwd.sent) ∧
  (∀ (s0 s : State), s0.begin .decide = s → s.locked = false → s.qsel < 64 →
      ∃ t, exec (.queueWrite .host) s0 = .next t ∧ t.cnpy = s.cnpy ∧ t.rdN Reg.CNPY_QRESULT = 3 ∧
      t.flag Reg.CNPY_EVENTS 3 = true ∧ t.hwd.sent = s.hwd.sent ++ [⟨0x0C04, s.tick, 0, [s.qsel, 3, 0]⟩]) ∧
  (∀ (w : Writer) (s0 s : State), s0.begin .decide = s → w = .mgmt → s.scrubbing s.qsel = true →
      ∃ t, exec (.queueWrite w) s0 = .next t ∧ t.cnpy = s.cnpy ∧ t.rdN Reg.CNPY_QRESULT = 2 ∧
      t.flag Reg.CNPY_EVENTS 3 = true ∧ t.hwd.sent = s.hwd.sent ++ [⟨0x0C04, s.tick, 0, [s.qsel, 2, 1]⟩]) ∧
  (∀ (s0 s : State), s0.begin .decide = s → ∃ t, exec .queueLoad s0 = .next t ∧
      t.rd Reg.CNPY_QCFG0 = word (s.cq s.qsel).cfg0 ∧ t.rd Reg.CNPY_QCFG1 = word (s.cq s.qsel).cfg1 ∧
      t.rd Reg.CNPY_QCFG2 = word (s.cq s.qsel).cfg2 ∧ t.rd Reg.CNPY_QCFG3 = word (s.cq s.qsel).cfg3 ∧
      t.rd Reg.CNPY_QSTATE = word (s.queueState s.qsel) ∧ t.rdN Reg.CNPY_QRESULT = 1 ∧ t.cnpy = s.cnpy) ∧
  (∀ (s0 s : State), s0.begin .decide = s → (s.cq s.qsel).enabled = true → s.scrubbing s.qsel = false →
      ∃ t, exec .queueFlush s0 = .next t ∧ (t.cq s.qsel).cells = [] ∧
      t.cnpy.notices = s.cnpy.notices.filter (fun n => decide (n.queue ≠ s.qsel)) ∧ t.rdN Reg.CNPY_QRESULT = 1 ∧
      (∀ p, p ≠ s.qsel → t.cq p = s.cq p)) ∧
  (∀ (s0 s : State), s0.begin .decide = s → (s.cq s.qsel).enabled = false → ∃ t, exec .queueFlush s0 = .next t ∧
      t.cnpy = s.cnpy ∧ t.rdN Reg.CNPY_QRESULT = 2)

/-- The commands of a DMA channel, and the halt of the engine. START of a channel that is IDLE, DONE or ERROR, with
HALT clear, is accepted: the channel checks its program, or runs in list mode, from the beginning. ABORT of a working
or halted channel is accepted, and once its requests have ended the channel is in ERROR with code 0x0A. RESUME takes a
halted channel back to where it was. Any other START, ABORT or RESUME gets result 2, sets CMD_REFUSED and changes
nothing else; a host command to a firmware channel is discarded and reported. A bus error halts every working channel
and records the address; CLEAR_HALT clears HALT and leaves the channels as they are. (R403, R405, R407, R415, R416,
R418) -/
def Obligations.DmaChannelCommands : Prop :=
  (∀ (w : Writer) (c : Fin 64) (s0 s : State), s0.begin .decide = s → channelRefused w c = false →
      s.dmaHalt = false → (s.chState c = 0 ∨ s.chState c = 4 ∨ s.chState c = 5) → c ≠ 63 → s.dma.chans.length = 64 →
      ∃ t, exec (.dmaStart w c) s0 = .next t ∧ (t.chState c = if s.flag (Reg.DMA_CH_CFG c) 0 then 2 else 1) ∧
      t.chPc c = 0 ∧ t.fld (Reg.DMA_CH_STATE c) 27 24 = 1 ∧
      t.dch c = { DmaChan.init with list := s.flag (Reg.DMA_CH_CFG c) 0, at_ := s.chAddr c, entry := s.tick } ∧
      (∀ k : Fin 3, t.loopCnt c k = 0) ∧
      (∀ k : Fin 64, k ≠ c → t.rd (Reg.DMA_CH_STATE k) = s.rd (Reg.DMA_CH_STATE k))) ∧
  (∀ (w : Writer) (c : Fin 64) (s0 s : State), s0.begin .decide = s → channelRefused w c = false →
      (s.dmaHalt = true ∨ 1 ≤ s.chState c ∧ s.chState c ≤ 3 ∨ s.chState c = 6) →
      ∃ t, exec (.dmaStart w c) s0 = .next t ∧ t.chState c = s.chState c ∧ t.fld (Reg.DMA_CH_STATE c) 27 24 = 2 ∧
      t.flag Reg.DMA_EVENTS 4 = true ∧ t.dma = s.dma ∧
      (∀ k : Fin 64, k ≠ c → t.rd (Reg.DMA_CH_STATE k) = s.rd (Reg.DMA_CH_STATE k))) ∧
  (∀ (w : Writer) (c : Fin 64) (s0 s : State), s0.begin .decide = s → channelRefused w c = true →
      ∃ t, exec (.dmaStart w c) s0 = .next t ∧ t.dma = s.dma ∧
      t.rd (Reg.DMA_CH_STATE c) = s.rd (Reg.DMA_CH_STATE c) ∧
      t.flt.sent = s.flt.sent ++ [⟨0x040, 3, Reg.DMA_CH_CTRL c, s.tick⟩] ∧ t.flag Reg.HOST_ERR 10 = true) ∧
  (∀ (w : Writer) (c : Fin 64) (s0 s : State), s0.begin .decide = s → channelRefused w c = false →
      (1 ≤ s.chState c ∧ s.chState c ≤ 3 ∨ s.chState c = 6) → s.dma.chans.length = 64 →
      ∃ t, exec (.dmaAbort w c) s0 = .next t ∧ (t.dch c).aborting = true ∧ t.chState c = s.chState c ∧
      t.fld (Reg.DMA_CH_STATE c) 27 24 = 1 ∧
      (∀ k : Fin 64, k ≠ c → t.rd (Reg.DMA_CH_STATE k) = s.rd (Reg.DMA_CH_STATE k))) ∧
  (∀ (w : Writer) (c : Fin 64) (s0 s : State), s0.begin .decide = s → channelRefused w c = false →
      (s.chState c = 0 ∨ s.chState c = 4 ∨ s.chState c = 5) → ∃ t, exec (.dmaAbort w c) s0 = .next t ∧
      t.dma = s.dma ∧ t.chState c = s.chState c ∧ t.fld (Reg.DMA_CH_STATE c) 27 24 = 2 ∧
      t.flag Reg.DMA_EVENTS 4 = true ∧ (∀ k : Fin 64, k ≠ c →
        t.rd (Reg.DMA_CH_STATE k) = s.rd (Reg.DMA_CH_STATE k))) ∧
  (∀ (w : Writer) (c : Fin 64) (s0 s : State), s0.begin .decide = s → channelRefused w c = true →
      ∃ t, exec (.dmaAbort w c) s0 = .next t ∧ t.dma = s.dma ∧
      t.rd (Reg.DMA_CH_STATE c) = s.rd (Reg.DMA_CH_STATE c) ∧
      t.flt.sent = s.flt.sent ++ [⟨0x040, 3, Reg.DMA_CH_CTRL c, s.tick⟩] ∧ t.flag Reg.HOST_ERR 10 = true) ∧
  (∀ (c : Fin 64) (s : State), (s.dch c).aborting = true → s.dma.chans.length = 64 →
      ∃ t, exec (.dmaAbortDone c) s = .next t ∧ t.chState c = 5 ∧ t.fld (Reg.DMA_CH_STATE c) 15 8 = 10 ∧
      (t.dch c).aborting = false ∧ (∀ k : Fin 64, k ≠ c → t.rd (Reg.DMA_CH_STATE k) = s.rd (Reg.DMA_CH_STATE k))) ∧
  (∀ (c : Fin 64) (s : State), (s.dch c).aborting = false → ∃ t, exec (.dmaAbortDone c) s = .next t ∧ t = s) ∧
  (∀ (w : Writer) (c : Fin 64) (s0 s : State), s0.begin .decide = s → channelRefused w c = false →
      s.chState c = 6 → s.dmaHalt = false → (s.dch c).aborting = false → (s.dch c).was = 1 →
      ∃ t, exec (.dmaResume w c) s0 = .next t ∧ t.chState c = 1 ∧ t.fld (Reg.DMA_CH_STATE c) 27 24 = 1 ∧
      (t.dch c).list = (s.dch c).list ∧ (∀ k : Fin 64, k ≠ c → t.dch k = s.dch k) ∧
      (∀ k : Fin 64, k ≠ c → t.rd (Reg.DMA_CH_STATE k) = s.rd (Reg.DMA_CH_STATE k))) ∧
  (∀ (w : Writer) (c : Fin 64) (s0 s : State), s0.begin .decide = s → channelRefused w c = false →
      s.chState c = 6 → s.dmaHalt = false → (s.dch c).aborting = false → (s.dch c).was ≠ 1 → (s.dch c).list = true →
      ∃ t, exec (.dmaResume w c) s0 = .next t ∧ t.chState c = 2 ∧ t.fld (Reg.DMA_CH_STATE c) 27 24 = 1 ∧
      t.dma = s.dma ∧ (∀ k : Fin 64, k ≠ c → t.rd (Reg.DMA_CH_STATE k) = s.rd (Reg.DMA_CH_STATE k))) ∧
  (∀ (w : Writer) (c : Fin 64) (s0 s : State), s0.begin .decide = s → channelRefused w c = false →
      (s.chState c ≠ 6 ∨ s.dmaHalt = true) → ∃ t, exec (.dmaResume w c) s0 = .next t ∧ t.chState c = s.chState c ∧
      t.fld (Reg.DMA_CH_STATE c) 27 24 = 2 ∧ t.flag Reg.DMA_EVENTS 4 = true ∧ t.dma = s.dma ∧
      (∀ k : Fin 64, k ≠ c → t.rd (Reg.DMA_CH_STATE k) = s.rd (Reg.DMA_CH_STATE k))) ∧
  (∀ (w : Writer) (c : Fin 64) (s0 s : State), s0.begin .decide = s → channelRefused w c = true →
      ∃ t, exec (.dmaResume w c) s0 = .next t ∧ t.dma = s.dma ∧
      t.rd (Reg.DMA_CH_STATE c) = s.rd (Reg.DMA_CH_STATE c) ∧
      t.flt.sent = s.flt.sent ++ [⟨0x040, 3, Reg.DMA_CH_CTRL c, s.tick⟩] ∧ t.flag Reg.HOST_ERR 10 = true) ∧
  (∀ (cause : Fin 8) (addr : DWord) (write : Bool) (s : State), s.dma.chans.length = 64 →
      ∃ t, exec (.dmaBusError cause addr write) s = .next t ∧ t.dmaHalt = true ∧
      (∀ c : Fin 64, t.chState c = if 1 ≤ s.chState c ∧ s.chState c ≤ 3 then 6 else s.chState c) ∧
      (∀ c : Fin 64, 1 ≤ s.chState c ∧ s.chState c ≤ 3 → (t.dch c).was = s.chState c) ∧
      t.rdN Reg.DMA_HALT_ADDR_LO + t.rdN Reg.DMA_HALT_ADDR_HI * 2 ^ 32 = addr.toNat ∧
      t.fld Reg.DMA_HALT_INFO 2 0 = cause ∧ t.flag Reg.DMA_HALT_INFO 4 = write ∧
      t.fld Reg.DMA_HALT_INFO 31 16 = (s.fld Reg.DMA_HALT_INFO 31 16 + 1) % 65536 ∧ t.flag Reg.DMA_EVENTS 0 = true ∧
      t.dma.haltAt = s.tick) ∧
  (∀ (s : State), s.dmaHalt = true → ∃ t, exec .clearHalt s = .next t ∧ t.dmaHalt = false ∧
      t.hwd.sent = s.hwd.sent ++ [⟨0x0D02, s.tick, 0, [s.tick - s.dma.haltAt]⟩] ∧ t.dma = s.dma ∧
      (∀ c : Fin 64, t.rd (Reg.DMA_CH_STATE c) = s.rd (Reg.DMA_CH_STATE c))) ∧
  (∀ (s : State), s.dmaHalt = false → ∃ t, exec .clearHalt s = .next t ∧ t = s) ∧
  (∀ (v : DWord) (s : State), ∃ t, exec (.dmaEvtSet v) s = .next t ∧ t.evt = s.evt ||| v.toNat ∧ t.dma = s.dma) ∧
  (∀ (v : DWord) (s : State), ∃ t, exec (.dmaEvtClr v) s = .next t ∧ t.evt = s.evt &&& (2 ^ 64 - 1 - v.toNat) ∧
      t.dma = s.dma)

/-- What a channel's program and descriptors do. A fetched program is put into the channel's buffer and checked: a
program of END alone runs from instruction 0, and one that fails a check stops its channel in ERROR with the check's
code, a fault message and PROG_ERROR, and no other channel. A FILL descriptor marked last writes its pattern and ends
the list; a bad descriptor is code 0x0B. A MOVE copies its bytes and the channel goes on; a CMP that finds a
difference stops in ERROR with code 0x09 at that byte. A WAIT that is met, or times out with CONTINUE, passes to the
next instruction, and one that times out without it stops in ERROR with code 0x08. At END the channel is DONE. (R405,
R407, R409, R410, R411, R412, R417) -/
def Obligations.DmaPrograms : Prop :=
  (∀ (c : Fin 64) (host b : List Byte) (s : State), s.chState c = 1 → (s.dch c).aborting = false →
      spaceOf (s.chAddr c) = 2 → fetchProgram (s.programBytes c host) 256 = [b] → programCode [b] = none →
      ∃ t, exec (.programCheckDone c host) s = .next t ∧ t.chState c = 2 ∧ t.chPc c = 0 ∧
      t.sram = memWrite s.sram (bufferAt c) b ∧ t.dma = s.dma ∧
      (∀ k : Fin 64, k ≠ c → t.rd (Reg.DMA_CH_STATE k) = s.rd (Reg.DMA_CH_STATE k))) ∧
  (∀ (c : Fin 64) (host : List Byte) (code : Nat) (s : State), s.chState c = 1 → (s.dch c).aborting = false →
      spaceOf (s.chAddr c) = 2 → programCode (fetchProgram (s.programBytes c host) 256) = some code →
      ∃ t, exec (.programCheckDone c host) s = .next t ∧ t.chState c = 5 ∧ t.fld (Reg.DMA_CH_STATE c) 15 8 = code ∧
      t.flag Reg.DMA_EVENTS 1 = true ∧ t.flt.sent = s.flt.sent ++ [⟨0x341, 5, c + code * 256, s.tick⟩] ∧
      (∀ k : Fin 64, k ≠ c → t.rd (Reg.DMA_CH_STATE k) = s.rd (Reg.DMA_CH_STATE k)) ∧
      t.sram = memWrite s.sram (bufferAt c) (fetchProgram (s.programBytes c host) 256).flatten) ∧
  (∀ (c : Fin 64) (host hsrc hdst b : List Byte) (s : State), s.chState c = 2 → (s.dch c).aborting = false →
      (s.dch c).list = true → spaceOf (s.dch c).at_ = 2 → (s.dch c).at_ % 32 = 0 →
      offOf (s.dch c).at_ + 32 ≤ 0xA00000 → s.spaceRead (s.dch c).at_ 32 host = b → descOk b = true →
      (descOp b).op = 5 → s.dataCheck (descOp b) = none → spaceOf (descOp b).dst = 2 →
      bitOf (leAt b 0x14 4) 4 = false → bitOf (leAt b 0x14 4) 5 = true →
      ∃ t, exec (.dmaDescriptor c host hsrc hdst) s = .next t ∧ t.chState c = 4 ∧
      t.sram = memWrite s.sram (offOf (descOp b).dst) ((List.range
        (descOp b).len).map (fun i => (descOp b).pattern.getD ((offOf (descOp b).dst + i) % 8) 0)) ∧
      t.rd (Reg.DMA_CH_BYTES c) = word (s.rdN (Reg.DMA_CH_BYTES c) + (descOp b).len) ∧ t.dma = s.dma ∧
      (∀ k : Fin 64, k ≠ c → t.rd (Reg.DMA_CH_STATE k) = s.rd (Reg.DMA_CH_STATE k))) ∧
  (∀ (c : Fin 64) (host hsrc hdst : List Byte) (s : State), s.chState c = 2 → (s.dch c).aborting = false →
      (s.dch c).list = true → spaceOf (s.dch c).at_ = 2 → (s.dch c).at_ % 32 = 0 →
      offOf (s.dch c).at_ + 32 ≤ 0xA00000 → descOk (s.spaceRead (s.dch c).at_ 32 host) = false →
      ∃ t, exec (.dmaDescriptor c host hsrc hdst) s = .next t ∧ t.chState c = 5 ∧
      t.fld (Reg.DMA_CH_STATE c) 15 8 = 0x0B ∧ t.flag Reg.DMA_EVENTS 1 = true ∧
      t.flt.sent = s.flt.sent ++ [⟨0x341, 5, c + 0x0B * 256, s.tick⟩] ∧
      (∀ k : Fin 64, k ≠ c → t.rd (Reg.DMA_CH_STATE k) = s.rd (Reg.DMA_CH_STATE k))) ∧
  (∀ (c : Fin 64) (hsrc hdst : List Byte) (d : DataOp) (s : State), s.chState c = 2 → (s.dch c).aborting = false →
      (s.dch c).list = false → s.dataOp c = some d → d.op = 1 → s.dataCheck d = none → spaceOf d.src = 2 →
      spaceOf d.dst = 2 → s.chPc c < 255 → opOf (s.instr c (s.chPc c + 1)) = 7 →
      ∃ t, exec (.dataInstructionDone c hsrc hdst) s = .next t ∧ t.chState c = 2 ∧ t.chPc c = s.chPc c + 1 ∧
      t.sram = memWrite s.sram (offOf d.dst) (memBytes s.sram (offOf d.src) d.len) ∧
      t.rd (Reg.DMA_CH_BYTES c) = word (s.rdN (Reg.DMA_CH_BYTES c) + d.len) ∧ t.dma = s.dma ∧
      (∀ k : Fin 64, k ≠ c → t.rd (Reg.DMA_CH_STATE k) = s.rd (Reg.DMA_CH_STATE k))) ∧
  (∀ (c : Fin 64) (hsrc hdst : List Byte) (d : DataOp) (i : Nat) (s : State), s.chState c = 2 →
      (s.dch c).aborting = false → (s.dch c).list = false → s.dataOp c = some d → d.op = 6 → s.dataCheck d = none →
      spaceOf d.src = 2 → spaceOf d.dst = 2 →
      firstDiff (memBytes s.sram (offOf d.src) d.len) (memBytes s.sram (offOf d.dst) d.len) 0 = some i →
      ∃ t, exec (.dataInstructionDone c hsrc hdst) s = .next t ∧ t.chState c = 5 ∧
      t.fld (Reg.DMA_CH_STATE c) 15 8 = 9 ∧ t.flag Reg.DMA_EVENTS 3 = true ∧ t.rdN (Reg.DMA_CH_ERRADDR_LO c) = i ∧
      t.sram = s.sram ∧ t.flt.sent = s.flt.sent ∧
      (∀ k : Fin 64, k ≠ c → t.rd (Reg.DMA_CH_STATE k) = s.rd (Reg.DMA_CH_STATE k))) ∧
  (∀ (c : Fin 64) (b : List Byte) (s0 s : State), s0.begin .decide = s → s.chState c = 3 →
      (s.dch c).aborting = false → s.instr c (s.chPc c) = b → s.waitMet c b = true → s.chPc c < 255 →
      opOf (s.instr c (s.chPc c + 1)) = 7 → ∃ t, exec (.waitMet c) s0 = .next t ∧ t.chState c = 2 ∧
      t.chPc c = s.chPc c + 1 ∧ (t.evt = if leAt b 2 1 = 2 then putBit s.evt (leAt b 8 1) false else s.evt) ∧
      t.dma = s.dma ∧ (∀ k : Fin 64, k ≠ c → t.rd (Reg.DMA_CH_STATE k) = s.rd (Reg.DMA_CH_STATE k))) ∧
  (∀ (c : Fin 64) (s0 s : State), s0.begin .decide = s → s.chState c = 3 →
      s.waitMet c (s.instr c (s.chPc c)) = false → ∃ t, exec (.waitMet c) s0 = .next t ∧ t = s) ∧
  (∀ (c : Fin 64) (b : List Byte) (s0 s : State), s0.begin .decide = s → s.chState c = 3 →
      (s.dch c).aborting = false → s.instr c (s.chPc c) = b → s.waitMet c b = false → leAt b 4 4 ≠ 0 →
      (s.dch c).entry + leAt b 4 4 ≤ s.tick → bitOf (leAt b 1 1) 0 = false →
      ∃ t, exec (.waitTimeout c) s0 = .next t ∧ t.chState c = 5 ∧ t.fld (Reg.DMA_CH_STATE c) 15 8 = 8 ∧
      t.flag Reg.DMA_EVENTS 2 = true ∧ t.flt.sent = s.flt.sent ∧ t.dma = s.dma ∧
      (∀ k : Fin 64, k ≠ c → t.rd (Reg.DMA_CH_STATE k) = s.rd (Reg.DMA_CH_STATE k))) ∧
  (∀ (c : Fin 64) (b : List Byte) (s0 s : State), s0.begin .decide = s → s.chState c = 3 →
      (s.dch c).aborting = false → s.instr c (s.chPc c) = b → s.waitMet c b = false → leAt b 4 4 ≠ 0 →
      (s.dch c).entry + leAt b 4 4 ≤ s.tick → bitOf (leAt b 1 1) 0 = true → s.chPc c < 255 →
      opOf (s.instr c (s.chPc c + 1)) = 7 → ∃ t, exec (.waitTimeout c) s0 = .next t ∧ t.chState c = 2 ∧
      t.chPc c = s.chPc c + 1 ∧ t.flag Reg.DMA_EVENTS 2 = true ∧ t.evt = s.evt ∧ t.dma = s.dma ∧
      (∀ k : Fin 64, k ≠ c → t.rd (Reg.DMA_CH_STATE k) = s.rd (Reg.DMA_CH_STATE k))) ∧
  (∀ (c : Fin 64) (s : State), s.chState c = 2 → (s.dch c).aborting = false → (s.dch c).list = false →
      opOf (s.instr c (s.chPc c)) = 7 → bitOf (leAt (s.instr c (s.chPc c)) 1 1) 0 = false →
      ∃ t, exec (.dmaEnd c) s = .next t ∧ t.chState c = 4 ∧ t.dma = s.dma ∧ t.out = s.out ∧
      (∀ k : Fin 64, k ≠ c → t.rd (Reg.DMA_CH_STATE k) = s.rd (Reg.DMA_CH_STATE k)))

/-- Messages reach their latches, and the escalation counters. A message fills the empty latch of its source, with the
tick before as its stamp, and once the decide work of the tick has begun it waits for the next tick; one that finds
the latch filled is merged, and the first message stays. FLT_INJECT does the same with kind 0. Messages of blocks that
do not exist reach no latch. At the leak every escalation counter falls by 1, at 0 it stays; FLT_ESC_CLR clears the
counter of one source, or all of them. (R423, R424, R427, R438) -/
def Obligations.FaultMessagesAndLatches : Prop :=
  (∀ (src : Fin 2048) (kind : Fin 32) (addr : Word) (s : State), s.decideOpen = false → (src : Nat) / 64 < 0x18 →
      tabFind s.gatherFaults.flt.latches src = none → ∃ t, exec (.faultMessage src kind addr) s = .next t ∧
      tabFind t.flt.latches src = some ⟨⟨src, kind, addr.toNat, s.tick - 1⟩, 0⟩ ∧
      t.rd Reg.FLT_COUNT_MSG = word (s.gatherFaults.rdN Reg.FLT_COUNT_MSG + 1) ∧
      t.rd Reg.FLT_COUNT_MERGED = s.gatherFaults.rd Reg.FLT_COUNT_MERGED ∧
      (∀ k, k ≠ (src : Nat) → tabFind t.flt.latches k = tabFind s.gatherFaults.flt.latches k)) ∧
  (∀ (src : Fin 2048) (kind : Fin 32) (addr : Word) (l : Latch) (s : State), s.decideOpen = false →
      (src : Nat) / 64 < 0x18 → tabFind s.gatherFaults.flt.latches src = some l →
      ∃ t, exec (.faultMessage src kind addr) s = .next t ∧
      tabFind t.flt.latches src = some { l with merged := min 255 (l.merged + 1) } ∧
      t.rd Reg.FLT_COUNT_MSG = word (s.gatherFaults.rdN Reg.FLT_COUNT_MSG + 1) ∧
      t.rd Reg.FLT_COUNT_MERGED = word (s.gatherFaults.rdN Reg.FLT_COUNT_MERGED + 1)) ∧
  (∀ (src : Fin 2048) (kind : Fin 32) (addr : Word) (s : State), s.decideOpen = true → (src : Nat) / 64 < 0x18 →
      ∃ t, exec (.faultMessage src kind addr) s = .next t ∧
      t.flt = { s.flt with sent := s.flt.sent ++ [⟨src, kind, addr.toNat, s.tick⟩] } ∧ (∀ a, t.rd a = s.rd a)) ∧
  (∀ (src : Fin 2048) (kind : Fin 32) (addr : Word) (s : State), 0x18 ≤ (src : Nat) / 64 →
      ∃ t, exec (.faultMessage src kind addr) s = .next t ∧ t = s) ∧
  (∀ (v : Word) (s : State), s.decideOpen = false → bitsOf v.toNat 10 0 / 64 < 0x18 →
      tabFind s.gatherFaults.flt.latches (bitsOf v.toNat 10 0) = none → ∃ t, exec (.inject v) s = .next t ∧
      tabFind t.flt.latches (bitsOf v.toNat 10 0) = some ⟨⟨bitsOf v.toNat 10 0, 0, s.rdN Reg.FLT_INJECT_ADDR,
        s.tick - 1⟩, 0⟩) ∧
  (∀ (v : Word) (s : State), 0x18 ≤ bitsOf v.toNat 10 0 / 64 → ∃ t, exec (.inject v) s = .next t ∧
      t.flt.latches = s.flt.latches ∧ t.flt.sent = s.flt.sent ++ [⟨0, 1, Reg.FLT_INJECT, s.tick⟩]) ∧
  (∀ (s : State), s.fld Reg.FLT_ESC_LEAK 15 0 ≠ 0 → s.tick % s.fld Reg.FLT_ESC_LEAK 15 0 = 0 →
      s.flt.leaked ≠ s.tick + 1 → ∃ t, exec .escLeak s = .next t ∧
      (∀ src : Fin 2048, t.escCount src = s.escCount src - 1) ∧ t.flt.leaked = s.tick + 1) ∧
  (∀ (s : State),
      (s.fld Reg.FLT_ESC_LEAK 15 0 = 0 ∨ s.tick % s.fld Reg.FLT_ESC_LEAK 15 0 ≠ 0 ∨ s.flt.leaked = s.tick + 1) →
      ∃ t, exec .escLeak s = .next t ∧ t = s) ∧
  (∀ (v : Word) (s0 s : State), s0.begin .decide = s → bitOf v.toNat 31 = false →
      ∃ t, exec (.escClr v) s0 = .next t ∧
      (∀ src : Fin 2048, t.escCount src = if (src : Nat) = bitsOf v.toNat 10 0 then 0 else s.escCount src) ∧
      t.flt = s.flt) ∧
  (∀ (v : Word) (s0 s : State), s0.begin .decide = s → bitOf v.toNat 31 = true →
      ∃ t, exec (.escClr v) s0 = .next t ∧ (∀ src : Fin 2048, t.escCount src = 0) ∧ t.flt = s.flt)

/-- Entering and leaving the safe state, ERR_N, and the wait of a chip reset. An entry lowers every LDENn, takes every
loop out of RUN, records its cause and its tick, and raises SAFE_IN; while the safe state is in force only a cause is
added. SAFE_EXIT is granted where no latched cause forbids it and every axis stands still, and is otherwise refused
with a result that says why. ERRN_CLEAR clears the latch, except in the tick of an ERR_N reaction. A failure of the
collector's own integrity sets INTEGRITY, enters the safe state, sets the ERR_N latch and traps at once, and the next
tick logs it. When every axis stands still, the reset that was waited for is carried out. (R429, R431, R432, R433,
R434, R435, R436, R437) -/
def Obligations.SafeStateAndErrN : Prop :=
  (∀ (w : Writer) (s0 s : State), s0.begin .decide = s → s.safeNow = false → s.flt.left = none →
      ∃ t, exec (.safeEnter w) s0 = .next t ∧ t.safeNow = true ∧
      (t.rd Reg.FLT_SAFE_CAUSE = word (s.rdN Reg.FLT_SAFE_CAUSE ||| (if w = .host then 2 else 4))) ∧
      t.rdN Reg.FLT_RESULT = 1 ∧ t.rd Reg.FLT_SAFE_TICK_LO = word s.tick ∧
      t.rd Reg.FLT_SAFE_TICK_HI = word (s.tick / 2 ^ 32) ∧ t.flag Reg.FLT_EVENTS 1 = true ∧
      (∀ i : Fin 8, t.ldenHigh i = false) ∧ (∀ l : Fin 64, t.loopRuns l = false) ∧ t.flt.enteredAt = s.tick + 1) ∧
  (∀ (w : Writer) (s0 s : State), s0.begin .decide = s → s.safeNow = true → s.flt.left = none →
      ∃ t, exec (.safeEnter w) s0 = .next t ∧
      (t.rd Reg.FLT_SAFE_CAUSE = word (s.rdN Reg.FLT_SAFE_CAUSE ||| (if w = .host then 2 else 4))) ∧
      t.rdN Reg.FLT_RESULT = 1 ∧ t.safeNow = true ∧ t.hwd.sent = s.hwd.sent ∧
      (∀ a, a ≠ Reg.FLT_SAFE_CAUSE → a ≠ Reg.FLT_RESULT → t.rd a = s.rd a)) ∧
  (∀ (s0 s : State), s0.begin .decide = s → s.safeNow = true → s.flt.enteredAt ≠ s.tick + 1 →
      s.rdN Reg.FLT_SAFE_CAUSE &&& 0x38 = 0 → s.allStill = true → ∃ t, exec .safeExit s0 = .next t ∧
      t.safeNow = false ∧ t.rdN Reg.FLT_SAFE_CAUSE = 0 ∧ t.rdN Reg.FLT_SAFE_SRC = 0 ∧ t.rdN Reg.FLT_RESULT = 1 ∧
      t.flag Reg.FLT_EVENTS 2 = true ∧
      t.hwd.sent = s.hwd.sent ++ [⟨2, s.tick, 0, [s.tick -
        (s.rdN Reg.FLT_SAFE_TICK_LO + s.rdN Reg.FLT_SAFE_TICK_HI * 2 ^ 32), s.rdN Reg.FLT_SAFE_CAUSE]⟩]) ∧
  (∀ (s0 s : State), s0.begin .decide = s → s.safeNow = false → ∃ t, exec .safeExit s0 = .next t ∧
      t.rdN Reg.FLT_RESULT = 2 ∧ t.flag Reg.FLT_EVENTS 5 = true ∧ t.flt = s.flt ∧ t.hwd.sent = s.hwd.sent) ∧
  (∀ (s0 s : State), s0.begin .decide = s → s.safeNow = true → s.flt.enteredAt ≠ s.tick + 1 →
      s.rdN Reg.FLT_SAFE_CAUSE &&& 0x38 ≠ 0 → ∃ t, exec .safeExit s0 = .next t ∧ t.safeNow = true ∧
      t.rdN Reg.FLT_RESULT = 3 ∧ t.flag Reg.FLT_EVENTS 5 = true ∧ t.flt = s.flt ∧ t.hwd.sent = s.hwd.sent) ∧
  (∀ (s0 s : State), s0.begin .decide = s → s.safeNow = true → s.flt.enteredAt ≠ s.tick + 1 →
      s.rdN Reg.FLT_SAFE_CAUSE &&& 0x38 = 0 → s.allStill = false → ∃ t, exec .safeExit s0 = .next t ∧
      t.safeNow = true ∧ t.rdN Reg.FLT_RESULT = 4 ∧ t.flag Reg.FLT_EVENTS 5 = true ∧ t.flt = s.flt ∧
      t.hwd.sent = s.hwd.sent) ∧
  (∀ (s0 s : State), s0.begin .decide = s → s.flt.errnAt ≠ s.tick + 1 → ∃ t, exec .errnClear s0 = .next t ∧
      t.errnLatch = false ∧ t.rdN Reg.FLT_RESULT = 1 ∧ t.flt = s.flt ∧ t.safe = s.safe) ∧
  (∀ (s0 s : State), s0.begin .decide = s → s.flt.errnAt = s.tick + 1 → ∃ t, exec .errnClear s0 = .next t ∧
      t.errnLatch = s.errnLatch ∧ t.rdN Reg.FLT_RESULT = 2 ∧ t.flag Reg.FLT_EVENTS 5 = true ∧ t.flt = s.flt ∧
      t.hwd.sent = s.hwd.sent) ∧
  (∀ (addr : Word) (parity : Bool) (s : State), ∃ t, exec (.collectorIntegrity addr parity) s = .next t ∧
      t.integrity = true ∧ t.safeNow = true ∧ t.errnLatch = true ∧
      t.rd Reg.FLT_SAFE_CAUSE = word (s.rdN Reg.FLT_SAFE_CAUSE ||| 16) ∧ t.flt.traps = s.flt.traps + 1 ∧
      t.flt.paths.map (·.code) = s.flt.paths.map (·.code) ++ [5] ∧
      (t.flt.paths.getLast?).all (fun p => p.args == [addr.toNat, parity.toNat] && p.stamp == s.tick) = true) ∧
  (∀ (w : ResetWait) (s0 s : State), s0.begin .decide = s → s.flt.resetWait = some w → w.start < s.tick →
      s.allStill = true → w.msg = none → ∃ t, exec .chipResetWaitEnd s0 = .next t ∧
      t.rd Reg.CLK_RST_CAUSE = word (w.kind + w.cause * 256) ∧ t.flt.resetWait = none ∧
      t.ledg = State.cleared.ledg ∧ t.tick = 0) ∧
  (∀ (w : ResetWait) (s0 s : State), s0.begin .decide = s → s.flt.resetWait = some w →
      (s.tick ≤ w.start ∨ s.allStill = false ∧ s.tick < w.start + s.fld Reg.FLT_RESET_WAIT 23 0) →
      ∃ t, exec .chipResetWaitEnd s0 = .next t ∧ t = s)

/-- Events become records, and records reach the store. A gathered event whose bucket is empty is suppressed and
counted; one with a token takes it, and its records, numbered from the next SEQ, join the staging queue where they
fit; with the queue full the event is lost and counted. A written front record stands in its slot and becomes the
head; a write that reads back different is retried once, and a second failure leaves the slot torn, counts a loss and
sends a message. A summary puts a code's count back to 0. At the end of the start-up scan the recorder is ready, its
head is the greatest valid SEQ, and the store is as it was. (R444, R446, R447, R448, R449, R451, R453) -/
def Obligations.HeartwoodRecords : Prop :=
  (∀ (e : HwEvent) (s : State), s.hwd.refilled = s.tick + 1 → s.hwd.submits = [] → s.dueEvents = [e] →
      s.exempt e.code = false → s.tokens (bucketOf e.code) = 0 → s.hwd.lost = 0 → ∃ t, exec .hwdEvent s = .next t ∧
      t.suppressed (bucketOf e.code) = min 65535 (s.suppressed (bucketOf e.code) + 1) ∧
      t.hwd.staging = s.hwd.staging ∧ t.hwd.nextSeq = s.hwd.nextSeq ∧
      t.hwd.sent = s.hwd.sent.filter (fun d => !s.gathersEvent d)) ∧
  (∀ (e : HwEvent) (s : State), s.hwd.refilled = s.tick + 1 → s.hwd.submits = [] → s.dueEvents = [e] →
      s.exempt e.code = false → s.tokens (bucketOf e.code) ≠ 0 → s.hwd.lost = 0 → ∃ t, exec .hwdEvent s = .next t ∧
      t.tokens (bucketOf e.code) = s.tokens (bucketOf e.code) - 1 ∧
      ((s.hwd.staging.length + (s.recordsOf e s.hwd.nextSeq).length ≤ 256) →
        t.hwd.staging = s.hwd.staging ++ s.recordsOf e s.hwd.nextSeq ∧
        t.hwd.nextSeq = (s.hwd.nextSeq + (s.recordsOf e s.hwd.nextSeq).length) % 2 ^ 32 ∧
        t.suppressed (bucketOf e.code) = 0)) ∧
  (∀ (e : HwEvent) (s : State), s.hwd.refilled = s.tick + 1 → s.hwd.submits = [] → s.dueEvents = [e] →
      s.exempt e.code = true → s.hwd.staging.length = 256 → ∃ t, exec .hwdEvent s = .next t ∧
      t.hwd.staging = s.hwd.staging ∧ t.hwd.lost = s.hwd.lost + 1 ∧
      t.rd Reg.HWD_COUNT_LOST = s.rd Reg.HWD_COUNT_LOST + 1 ∧ t.flag Reg.HWD_EVENTS 0 = true) ∧
  (∀ (r : Record) (rest : List Record) (s : State), s.hwdReady = true → s.hwd.staging = r :: rest →
      s.hwd.lost = 0 → ∃ t, exec (.recordWritten true) s = .next t ∧ t.slotAt r.seq = .holds r ∧
      t.hwd.head = some r.seq ∧ t.hwd.staging = rest ∧ (∀ q, q % 12288 ≠ r.seq % 12288 → t.slotAt q = s.slotAt q)) ∧
  (∀ (r : Record) (rest : List Record) (s : State), s.hwdReady = true → s.hwd.staging = r :: rest →
      s.hwd.retried = false → ∃ t, exec (.recordWritten false) s = .next t ∧
      t = { s with hwd := { s.hwd with retried := true } }) ∧
  (∀ (r : Record) (rest : List Record) (s : State), s.hwdReady = true → s.hwd.staging = r :: rest →
      s.hwd.retried = true → ∃ t, exec (.recordWritten false) s = .next t ∧ t.slotAt r.seq = .torn ∧
      t.rd Reg.HWD_COUNT_LOST = s.rd Reg.HWD_COUNT_LOST + 1 ∧ t.flag Reg.HWD_EVENTS 0 = true ∧
      t.flt.sent = s.flt.sent ++ [⟨0x380, 9, r.seq % 12288, s.tick⟩] ∧
      (∀ q, q % 12288 ≠ r.seq % 12288 → t.slotAt q = s.slotAt q)) ∧
  (∀ (c : Fin 1024) (s : State), c ≠ 453 → tabGet 0 s.hwd.pendingSince c ≠ 0 → s.suppressed c ≠ 0 →
      tabGet 0 s.hwd.pendingSince c - 1 + s.fld Reg.HWD_CFG 23 0 ≤ s.tick →
      ∃ t, exec (.suppressionSummary c) s = .next t ∧ t.suppressed c = 0 ∧
      ((s.hwd.staging.length + (s.recordsOf ⟨0x0E05, s.tick, 0, [codeOfBucket c,
        s.suppressed c]⟩ s.hwd.nextSeq).length ≤ 256) → t.hwd.staging = s.hwd.staging ++ s.recordsOf ⟨0x0E05, s.tick,
        0, [codeOfBucket c, s.suppressed c]⟩ s.hwd.nextSeq)) ∧
  (∀ (c : Fin 1024) (s : State), s.suppressed c = 0 → ∃ t, exec (.suppressionSummary c) s = .next t ∧ t = s) ∧
  (∀ (s : State), s.hwdReady = false → s.clk.up = true → ∃ t, exec .recorderScanDone s = .next t ∧
      t.hwdReady = true ∧ t.hwd.mram = s.hwd.mram ∧
      t.hwd.head = greatestSeq ((validRecords s.hwd.mram s.hwd.epoch).map (·.seq)) ∧
      t.rdN Reg.HWD_COUNT_TORN % 2 ^ 14 = (s.hwd.mram.filter (fun e => decide (e.2 = .torn))).length % 2 ^ 14) ∧
  (∀ (s : State), s.hwdReady = true → ∃ t, exec .recorderScanDone s = .next t ∧ t = s)

/-- Reading records, snapshots, and authorised clearing. SNAP_TAKE latches the greatest written SEQ and the oldest
held. A write of HWD_READ_SEQ starts a load, and its end shows a valid record's 64 bytes, or a status and zeros where
none has been written. CLR_REQUEST gives one challenge with its deadline, and is refused while one is outstanding, in
a lockout, without a key, or at the last epoch; the right response consumes the challenge, begins the next epoch and
the erase, with result 1; a wrong one consumes it, counts a failure and begins the lockout; no live challenge is
result 6; a submission that comes after HWD's decisions of the tick waits for the next. Cancelling, lapsing and the
lockout's end work as the rule says. The erase leaves no record of another epoch in the store. (R444, R446, R454,
R455, R457, R458) -/
def Obligations.HeartwoodReadingAndClearing : Prop :=
  (∀ (u : State) (s : State), s.hwdDecide = u → ∃ t, exec .snapTake s = .next t ∧
      t.rd Reg.HWD_SNAP_LAST = word (u.hwd.head.getD 0) ∧ t.rd Reg.HWD_SNAP_FIRST = word u.oldestSeq ∧
        t.hwd = u.hwd) ∧
  (∀ (v : Word) (s : State), ∃ t, exec (.readSeq v) s = .next t ∧ t.rd Reg.HWD_READ_SEQ = v ∧
      t.flag Reg.HWD_READ_STATUS 31 = true ∧ t.hwd = s.hwd) ∧
  (∀ (h : Nat) (r : Record) (s : State), s.flag Reg.HWD_READ_STATUS 31 = true → s.hwd.head = some h →
      serialBefore h (s.rdN Reg.HWD_READ_SEQ) = false → s.slotAt (s.rdN Reg.HWD_READ_SEQ) = .holds r →
      r.epoch = s.hwd.epoch → r.seq = s.rdN Reg.HWD_READ_SEQ → ∃ t, exec .readLoaded s = .next t ∧
      t.rdN Reg.HWD_READ_STATUS = 0 ∧ (∀ j : Fin 16, t.rdN (Reg.HWD_READ_DATA j) = leAt r.bytes (4 * j) 4) ∧
      t.hwd = s.hwd) ∧
  (∀ (s : State), s.flag Reg.HWD_READ_STATUS 31 = true → s.hwd.head = none → ∃ t, exec .readLoaded s = .next t ∧
      t.rdN Reg.HWD_READ_STATUS = 2 ∧ (∀ j : Fin 16, t.rdN (Reg.HWD_READ_DATA j) = 0) ∧ t.hwd = s.hwd) ∧
  (∀ (s : State), s.flag Reg.HWD_READ_STATUS 31 = false → ∃ t, exec .readLoaded s = .next t ∧ t = s) ∧
  (∀ (key : List Byte) (s : State), s.challengeLive = false → s.lockout = false → s.lcs.key = some key →
      s.hwd.epoch ≠ 0xFFFF → ∃ t, exec .clrRequest s = .next t ∧
      t.hwd.challenge = some ⟨s.tick + s.fld Reg.HWD_CLR_TMO 23 0, s.hwd.head.getD 0, s.hwd.epoch,
        (List.range 32).map (fun i => BitVec.ofNat 8 (s.freeNat i))⟩ ∧
      t.challengeLive = true ∧ t.flag Reg.HWD_STATUS 2 = true ∧ t.fresh = s.fresh + 32 ∧
      t.rd Reg.HWD_CLR_RESULT = s.rd Reg.HWD_CLR_RESULT) ∧
  (∀ (s : State), s.challengeLive = true → ∃ t, exec .clrRequest s = .next t ∧ t.rdN Reg.HWD_CLR_RESULT = 2 ∧
      t.flag Reg.HWD_EVENTS 2 = true ∧ t.hwd = s.hwd ∧ t.fresh = s.fresh) ∧
  (∀ (s : State), s.challengeLive = false → s.lockout = true → ∃ t, exec .clrRequest s = .next t ∧
      t.rdN Reg.HWD_CLR_RESULT = 4 ∧ t.flag Reg.HWD_EVENTS 2 = true ∧ t.hwd = s.hwd ∧ t.fresh = s.fresh) ∧
  (∀ (s : State), s.challengeLive = false → s.lockout = false → s.lcs.key = none →
      ∃ t, exec .clrRequest s = .next t ∧ t.rdN Reg.HWD_CLR_RESULT = 5 ∧ t.flag Reg.HWD_EVENTS 2 = true ∧
      t.hwd = s.hwd ∧ t.fresh = s.fresh) ∧
  (∀ (w : Writer) (s : State), s.hwd.decidedAt ≠ s.tick + 1 → s.challengeLive = false →
      ∃ t, exec (.clrSubmit w) s = .next t ∧ t.hwd.challenge = none ∧ t.rdN Reg.HWD_CLR_RESULT = 6 ∧
      t.flag Reg.HWD_EVENTS 2 = true ∧ t.hwd.epoch = s.hwd.epoch ∧ t.flag Reg.HWD_STATUS 2 = false) ∧
  (∀ (w : Writer) (c : Challenge) (key : List Byte) (s : State), s.hwd.decidedAt ≠ s.tick + 1 →
      s.challengeLive = true → s.hwd.challenge = some c → s.lcs.key = some key →
      hmac256 key (c.bytes ++ leBytes 2 c.epoch ++ leBytes 4 c.headSeq) ≠ s.clrResponse →
      ∃ t, exec (.clrSubmit w) s = .next t ∧ t.hwd.challenge = none ∧ t.rdN Reg.HWD_CLR_RESULT = 3 ∧
      t.flag Reg.HWD_STATUS 3 = true ∧ t.hwd.lockoutEnd = s.tick + 40000 ∧
      t.fld Reg.HWD_CLR_FAILS 15 0 = (s.fld Reg.HWD_CLR_FAILS 15 0 + 1) % 65536 ∧ t.hwd.epoch = s.hwd.epoch ∧
      t.hwd.mram = s.hwd.mram) ∧
  (∀ (w : Writer) (c : Challenge) (key : List Byte) (s : State), s.hwd.decidedAt ≠ s.tick + 1 →
      s.challengeLive = true → s.hwd.challenge = some c → s.lcs.key = some key →
      hmac256 key (c.bytes ++ leBytes 2 c.epoch ++ leBytes 4 c.headSeq) = s.clrResponse →
      ∃ t, exec (.clrSubmit w) s = .next t ∧ t.hwd.challenge = none ∧ t.rdN Reg.HWD_CLR_RESULT = 1 ∧
      t.hwd.epoch = s.hwd.epoch + 1 ∧ t.hwd.epochFirst = s.hwd.nextSeq ∧ t.flag Reg.HWD_STATUS 1 = true ∧
      t.flag Reg.HWD_STATUS 2 = false ∧ t.rd Reg.HWD_EXPORT_SEQ = word s.hwd.nextSeq ∧
      t.flag Reg.HWD_EVENTS 1 = true ∧ t.flag Reg.HWD_EVENTS 2 = s.flag Reg.HWD_EVENTS 2 ∧ t.hwd.mram = s.hwd.mram ∧
      t.hwd.lockoutEnd = s.hwd.lockoutEnd ∧ s.hwd.staging <+: t.hwd.staging) ∧
  (∀ (w : Writer) (s : State), s.hwd.decidedAt = s.tick + 1 → ∃ t, exec (.clrSubmit w) s = .next t ∧
      t = { s with hwd := { s.hwd with submits := s.hwd.submits ++ [w] } }) ∧
  (∀ (s : State), s.challengeLive = true → ∃ t, exec .clrCancel s = .next t ∧ t.hwd.challenge = none ∧
      t.rdN Reg.HWD_CLR_RESULT = 7 ∧ t.flag Reg.HWD_STATUS 2 = false ∧
      t.flag Reg.HWD_EVENTS 2 = s.flag Reg.HWD_EVENTS 2) ∧
  (∀ (s : State), s.challengeLive = false → ∃ t, exec .clrCancel s = .next t ∧ t = s) ∧
  (∀ (c : Challenge) (s : State), s.hwd.challenge = some c → c.deadline < s.tick →
      ∃ t, exec .challengeLapse s = .next t ∧ t.hwd.challenge = none ∧ t.rdN Reg.HWD_CLR_RESULT = 6 ∧
      t.flag Reg.HWD_STATUS 2 = false) ∧
  (∀ (c : Challenge) (s : State), s.hwd.challenge = some c → s.tick ≤ c.deadline →
      ∃ t, exec .challengeLapse s = .next t ∧ t = s) ∧
  (∀ (s : State), s.flag Reg.HWD_STATUS 3 = true → s.hwd.lockoutEnd ≤ s.tick → ∃ t, exec .lockoutEnd s = .next t ∧
      t.flag Reg.HWD_STATUS 3 = false ∧ t.lockout = false ∧ t.hwd = s.hwd) ∧
  (∀ (s : State), s.tick < s.hwd.lockoutEnd → ∃ t, exec .lockoutEnd s = .next t ∧ t = s) ∧
  (∀ (s : State), s.flag Reg.HWD_STATUS 1 = true → tabWf .empty s.hwd.mram = true →
      ∃ t, exec .eraseDone s = .next t ∧ t.flag Reg.HWD_STATUS 1 = false ∧
      (∀ q, t.slotAt q = (match
        s.slotAt q with | .holds r => if r.epoch = s.hwd.epoch then .holds r else .empty | _ => .empty))) ∧
  (∀ (s : State), s.flag Reg.HWD_STATUS 1 = false → ∃ t, exec .eraseDone s = .next t ∧ t = s)

/-- Sequences of the board rails, their slots, deadlines and waits. SEQ_UP in OFF with the input good starts UP: every
rail that takes part waits; in UP or ON it gets result 2, and otherwise it is held. SEQ_DOWN in UP or ON starts DOWN
with its cause, and rails that wait go back to OFF. At its slot a rail of a present sequencer is enabled and
qualifies, with a deadline; on an absent one it fails. A rail whose deadline passes fails, with a message. After the
least time off the state is OFF, and a held UP begins. (R467, R468, R469, R470, R471, R472) -/
def Obligations.RailSequencing : Prop :=
  (∀ (s0 s : State), s0.begin .decide = s → (s.seqState = 1 ∨ s.seqState = 2) → ∃ t, exec .seqUp s0 = .next t ∧
      t.fld Reg.PWR_RESULT 3 0 = 2 ∧ t.seqState = s.seqState ∧ t.pwr = s.pwr ∧
      (∀ r : Fin 64, t.railState r = s.railState r)) ∧
  (∀ (x : Fin 64) (s0 s : State), s0.begin .decide = s → s.seqState = 0 → s.vinGood = true → s.taking x = true →
      ∃ t, exec .seqUp s0 = .next t ∧ t.fld Reg.PWR_RESULT 3 0 = 1 ∧ t.seqState = 1 ∧
      (∀ r : Fin 64, t.railState r = if s.taking r then 1 else s.railState r) ∧ t.pwr.seqAt = s.tick ∧
      t.pwr.probe = true) ∧
  (∀ (s0 s : State), s0.begin .decide = s →
      (s.seqState = 3 ∨ s.seqState = 4 ∨ s.seqState = 0 ∧ s.vinGood = false) → ∃ t, exec .seqUp s0 = .next t ∧
      t.fld Reg.PWR_RESULT 3 0 = 1 ∧ t.flag Reg.PWR_SEQ_STATE 3 = true ∧ t.seqState = s.seqState ∧ t.pwr = s.pwr) ∧
  (∀ (w : Writer) (x : Fin 64) (s0 s : State), s0.begin .decide = s → (s.seqState = 1 ∨ s.seqState = 2) →
      s.taking x = true → s.railState x = 3 → ∃ t, exec (.seqDown w) s0 = .next t ∧ t.fld Reg.PWR_RESULT 3 0 = 1 ∧
      t.seqState = 3 ∧ (t.fld Reg.PWR_SEQ_STATE 7 4 = if w = .host then 1 else 2) ∧
      (∀ r : Fin 64, t.railState r = if s.taking r ∧ s.railState r = 1 then 0 else s.railState r) ∧
      t.pwr.seqAt = s.tick) ∧
  (∀ (w : Writer) (s0 s : State), s0.begin .decide = s → s.seqState = 0 → ∃ t, exec (.seqDown w) s0 = .next t ∧
      t.fld Reg.PWR_RESULT 3 0 = 2 ∧ t.seqState = s.seqState ∧ t.pwr = s.pwr) ∧
  (∀ (w : Writer) (s0 s : State), s0.begin .decide = s → (s.seqState = 3 ∨ s.seqState = 4) →
      ∃ t, exec (.seqDown w) s0 = .next t ∧ t.fld Reg.PWR_RESULT 3 0 = 2 ∧ t.flag Reg.PWR_SEQ_STATE 3 = false ∧
      t.seqState = s.seqState ∧ t.pwr = s.pwr) ∧
  (∀ (k : Fin 8) (r : Fin 64) (s0 s : State), s0.begin .decide = s → s.seqState = 1 → (r : Nat) / 8 = k →
      s.taking r = true → s.railState r = 1 → s.pwr.seqAt + s.onDelay r ≤ s.tick → s.seqPresent k = true →
      ∃ t, exec (.railSlot k) s0 = .next t ∧ t.railState r = 2 ∧
      t.rail r = ⟨s.tick, s.tick + s.pgTmo, false, 0, 0⟩ ∧ t.seqState = 1 ∧
      (∀ q : Fin 64, (q : Nat) / 8 ≠ k → t.railState q = s.railState q)) ∧
  (∀ (k : Fin 8) (r : Fin 64) (s0 s : State), s0.begin .decide = s → s.seqState = 1 → (r : Nat) / 8 = k →
      s.taking r = true → s.railState r = 1 → s.pwr.seqAt + s.onDelay r ≤ s.tick → s.seqPresent k = false →
      ∃ t, exec (.railSlot k) s0 = .next t ∧ t.railState r = 4 ∧ t.flag Reg.PWR_EVENTS 1 = true ∧
      (∀ q : Fin 64, (q : Nat) / 8 ≠ k → t.railState q = s.railState q)) ∧
  (∀ (k : Fin 8) (s0 s : State), s0.begin .decide = s → s.seqState ≠ 1 → s.seqState ≠ 3 →
      ∃ t, exec (.railSlot k) s0 = .next t ∧ t = s) ∧
  (∀ (r : Fin 64) (s0 s : State), s0.begin .decide = s → (s.rail r).deadline ≤ s.tick → s.seqReads = true →
      s.railState r = 2 → (s.rail r).off = false → ∃ t, exec (.pgTimeout r) s0 = .next t ∧ t.railState r = 4 ∧
      t.flt.sent = s.flt.sent ++ [⟨0x3C0 + r / 8, 0x1E, r % 8 + 0x100, s.tick⟩] ∧ t.flag Reg.PWR_EVENTS 1 = true ∧
      (∀ q : Fin 64, q ≠ r → t.railState q = s.railState q)) ∧
  (∀ (r : Fin 64) (s0 s : State), s0.begin .decide = s → (s.rail r).deadline ≤ s.tick → s.seqReads = true →
      (s.railState r = 3 ∨ s.railState r = 5) → (s.rail r).off = true → ∃ t, exec (.pgTimeout r) s0 = .next t ∧
      t.railState r = 4 ∧ t.flt.sent = s.flt.sent ++ [⟨0x3C0 + r / 8, 0x1E, r % 8 + 0x300, s.tick⟩] ∧
      t.flag Reg.PWR_EVENTS 1 = true ∧ (∀ q : Fin 64, q ≠ r → t.railState q = s.railState q)) ∧
  (∀ (r : Fin 64) (s0 s : State), s0.begin .decide = s → s.tick < (s.rail r).deadline →
      ∃ t, exec (.pgTimeout r) s0 = .next t ∧ t = s) ∧
  (∀ (s0 s : State), s0.begin .decide = s → s.seqState = 4 → s.pwr.endAt + s.fld Reg.PWR_MIN_OFF 23 0 ≤ s.tick →
      s.flag Reg.PWR_SEQ_STATE 3 = false → s.fld Reg.PWR_SEQ_STATE 7 4 ≠ 3 → ∃ t, exec .offWaitEnd s0 = .next t ∧
      t.seqState = 0 ∧ t.pwr = s.pwr ∧ (∀ r : Fin 64, t.railState r = s.railState r)) ∧
  (∀ (x : Fin 64) (s0 s : State), s0.begin .decide = s → s.seqState = 4 →
      s.pwr.endAt + s.fld Reg.PWR_MIN_OFF 23 0 ≤ s.tick → s.flag Reg.PWR_SEQ_STATE 3 = true → s.vinGood = true →
      s.taking x = true → ∃ t, exec .offWaitEnd s0 = .next t ∧ t.seqState = 1 ∧ t.flag Reg.PWR_SEQ_STATE 3 = false ∧
      (∀ r : Fin 64, t.railState r = if s.taking r then 1 else s.railState r)) ∧
  (∀ (s0 s : State), s0.begin .decide = s → s.tick < s.pwr.endAt + s.fld Reg.PWR_MIN_OFF 23 0 →
      ∃ t, exec .offWaitEnd s0 = .next t ∧ t = s)

/-- What the sequencers report, margins and snapshots, and the scan domains. A completed read is gathered in a tick
after its stamp whose page holds SEQ_READ and whose decide work has not begun, and waits otherwise. One that shows a
qualifying rail high, unchanged, for the whole window before its deadline makes it GOOD; one that shows it low starts
the window again. A transaction that fails for the third time makes its sequencer absent and its rails fail. A poll
round asks every present sequencer for STATUS and sequencer 0 for VIN. A margin moves one step towards its target. A
snapshot shows its readings and goes into one event with the code, rail and tick that it covers. A scan domain that is
asked for powers up; one is switched off only on the holding page with no station of it armed, and the request is
otherwise refused. (R464, R465, R467, R470, R472, R474, R475) -/
def Obligations.RailReadsMarginsAndDomains : Prop :=
  (∀ (x : SeqRead) (r : Fin 64) (s : State), s.gathersRead x = true → s.seqPresent x.seq = true → x.vin = false →
      (r : Nat) / 8 = x.seq → s.railState r = 2 → (s.rail r).off = false → bitOf x.level (r % 8) = true →
      bitOf x.changed (r % 8) = false → (s.rail r).start + s.pgWindow ≤ x.stamp → s.tick ≤ (s.rail r).deadline →
      ∃ t, exec (.seqReadDone x) s = .next t ∧ t.railState r = 3 ∧ (t.rail r).low = 0) ∧
  (∀ (x : SeqRead) (r : Fin 64) (s : State), s.gathersRead x = true → s.seqPresent x.seq = true → x.vin = false →
      (r : Nat) / 8 = x.seq → s.railState r = 2 → (s.rail r).off = false → bitOf x.level (r % 8) = false →
      ∃ t, exec (.seqReadDone x) s = .next t ∧ t.railState r = 2 ∧ (t.rail r).start = max (s.rail r).start x.stamp) ∧
  (∀ (x : SeqRead) (s : State), s.gathersRead x = true → s.seqPresent x.seq = true → x.vin = true → x.seq = 0 →
      bitOf x.level 0 = s.vinGood → ∃ t, exec (.seqReadDone x) s = .next t ∧ t.pwr.vinRun = 0 ∧
      t.seqState = s.seqState ∧ (∀ a, t.rd a = s.rd a)) ∧
  (∀ (x : SeqRead) (s : State), s.gathersRead x = false → ∃ t, exec (.seqReadDone x) s = .next t ∧
      t = { s with pwr := { s.pwr with reads := s.pwr.reads ++ [x] } }) ∧
  (∀ (k : Fin 8) (cmd : Fin 256) (s : State), s.seqPresent k = true →
      ∃ t, exec (.seqTransactionFailed k cmd) s = .next t ∧ t.seqPresent k = false ∧
      t.flag Reg.PWR_EVENTS 8 = true ∧ t.flt.sent = s.flt.sent ++ [⟨0x580 + k, 0x1E, 0, s.tick⟩] ∧
      (∀ r : Fin 64, t.railState r = if (r : Nat) / 8 = k ∧ s.railState r ≠ 0 then 4 else s.railState r) ∧
      (∀ j : Fin 8, j ≠ k → t.seqPresent j = s.seqPresent j)) ∧
  (∀ (k : Fin 8) (cmd : Fin 256) (s : State), s.seqPresent k = false →
      ∃ t, exec (.seqTransactionFailed k cmd) s = .next t ∧ t = s) ∧
  (∀ (ids : Fin 256) (found : List (Nat × Nat)) (s : State), s.clk.up = true → s.pwr.polledAt = 0 →
      s.pwr.probe = false → s.pwr.adopt = false → s.seqPresent 0 = true →
      ∃ t, exec (.pollRound ids found) s = .next t ∧ t.pwr.polledAt = s.tick + 1 ∧ (∀ a, t.rd a = s.rd a) ∧
      t.out.head? = some (.seqBus 0 3 0) ∧ (∀ k : Fin 8, s.seqPresent k = true → .seqBus k 2 0 ∈ t.out)) ∧
  (∀ (ids : Fin 256) (found : List (Nat × Nat)) (s : State), s.clk.up = true → s.pwr.polledAt = 0 →
      s.pwr.probe = true → s.pwr.adopt = false → ∃ t, exec (.pollRound ids found) s = .next t ∧
      (∀ k : Fin 8, t.seqPresent k = (s.seqPresent k || bitOf ids k)) ∧ t.pwr.probe = false ∧
      t.pwr.polledAt = s.tick + 1 ∧ t.seqState = s.seqState) ∧
  (∀ (ids : Fin 256) (found : List (Nat × Nat)) (s : State), s.clk.up = false →
      ∃ t, exec (.pollRound ids found) s = .next t ∧ t = s) ∧
  (∀ (r : Fin 64) (m : Int) (s0 s : State), s0.begin .decide = s → s.seqState = 2 → s.railState r = 3 →
      signedOf 5 (s.fld (Reg.PWR_RAIL_STATE r) 12 8) = m → m < signedOf 5 (s.fld (Reg.PWR_RAIL_CTL r) 12 8) →
      (s.rail r).marginAt = 0 → ∃ t, exec (.marginStep r) s0 = .next t ∧
      signedOf 5 (t.fld (Reg.PWR_RAIL_STATE r) 12 8) = m + 1 ∧ (t.rail r).marginAt = s.tick + 1 ∧
      t.out.head? = some (.seqBus (r / 8) (0x10 + r % 8) (codeOf 8 (m + 1))) ∧ t.flag Reg.PWR_EVENTS 5 = true ∧
      t.railState r = 3) ∧
  (∀ (r : Fin 64) (s0 s : State), s0.begin .decide = s →
      signedOf 5 (s.fld (Reg.PWR_RAIL_STATE r) 12 8) = signedOf 5 (s.fld (Reg.PWR_RAIL_CTL r) 12 8) →
      ∃ t, exec (.marginStep r) s0 = .next t ∧ t = s) ∧
  (∀ (readings : List Word) (code rail tick : Nat) (s : State), s.pwr.snapNow = some (code, rail, tick) →
      ∃ t, exec (.snapshotDone readings) s = .next t ∧
      (∀ r : Fin 64, s.seqPresent (r / 8) = true → t.rdN (Reg.PWR_RAIL_READ r) = (readings.getD r 0).toNat) ∧
      t.pwr.snapNow = s.pwr.snapNext ∧ t.pwr.snapNext = none ∧
      (t.hwd.sent.map (fun e => (e.code, e.tick))) = s.hwd.sent.map (fun e => (e.code, e.tick)) ++ [(0x0F0A, tick)]) ∧
  (∀ (readings : List Word) (s : State), s.pwr.snapNow = none → ∃ t, exec (.snapshotDone readings) s = .next t ∧
      t = s) ∧
  (∀ (v : Word) (s0 s : State), s0.begin .decide = s → bitOf v.toNat 3 = s.flag Reg.PWR_DOM_REQ 3 →
      bitOf v.toNat 4 = s.flag Reg.PWR_DOM_REQ 4 → ∃ t, exec (.domainSwitch v) s0 = .next t ∧ t = s) ∧
  (∀ (v : Word) (s0 s : State), s0.begin .decide = s → s.flag Reg.PWR_DOM_REQ 3 = false → bitOf v.toNat 3 = true →
      bitOf v.toNat 4 = s.flag Reg.PWR_DOM_REQ 4 → ∃ t, exec (.domainSwitch v) s0 = .next t ∧
      t.flag Reg.PWR_DOM_REQ 3 = true ∧ t.flag Reg.PWR_DOM_REQ 4 = s.flag Reg.PWR_DOM_REQ 4 ∧
      bitOf t.pwr.powering 3 = true ∧ t.rd Reg.PWR_DOM_STATE = s.rd Reg.PWR_DOM_STATE) ∧
  (∀ (v : Word) (s0 s : State), s0.begin .decide = s → s.flag Reg.PWR_DOM_REQ 3 = true → bitOf v.toNat 3 = false →
      bitOf v.toNat 4 = s.flag Reg.PWR_DOM_REQ 4 → s.holding = true → s.armed 0 = false → s.armed 1 = false →
      s.armed 2 = false → s.armed 3 = false → ∃ t, exec (.domainSwitch v) s0 = .next t ∧
      t.flag Reg.PWR_DOM_REQ 3 = false ∧ t.flag Reg.PWR_DOM_STATE 3 = false ∧ bitOf t.pwr.powering 3 = false ∧
      (∀ i : Fin 4, t.beamLink i = 0 ∧ t.ldenHigh i = false) ∧
      (s.hwd.sent ++ [⟨0x0F09, s.tick, 0, [3, 0]⟩]) <+: t.hwd.sent) ∧
  (∀ (v : Word) (s0 s : State), s0.begin .decide = s → s.flag Reg.PWR_DOM_REQ 3 = true → bitOf v.toNat 3 = false →
      bitOf v.toNat 4 = s.flag Reg.PWR_DOM_REQ 4 → s.holding = false → ∃ t, exec (.domainSwitch v) s0 = .next t ∧
      t.rd Reg.PWR_DOM_REQ = s.rd Reg.PWR_DOM_REQ ∧ t.rd Reg.PWR_DOM_STATE = s.rd Reg.PWR_DOM_STATE ∧
      t.flag Reg.PWR_EVENTS 6 = true ∧ t.pwr = s.pwr) ∧
  (∀ (half : Fin 2) (s : State), bitOf s.pwr.powering (3 + half) = true → ∃ t, exec (.domainUp half) s = .next t ∧
      t.flag Reg.PWR_DOM_STATE (3 + half) = true ∧ bitOf t.pwr.powering (3 + half) = false ∧
      (s.hwd.sent ++ [⟨0x0F09, s.tick, 0, [3 + half, 1]⟩]) <+: t.hwd.sent ∧
      t.rd Reg.PWR_DOM_REQ = s.rd Reg.PWR_DOM_REQ) ∧
  (∀ (half : Fin 2) (s : State), bitOf s.pwr.powering (3 + half) = false → ∃ t, exec (.domainUp half) s = .next t ∧
      t = s)

/-- Conversions, shut-down, the throttle, and both thaws. A conversion of a channel that is not enabled does nothing.
A valid reading is shown in 1/16 degree; the confirmation count of a reading at or above SD goes up, and one below
puts it back to 0; at the confirmation number the channel is latched, the outputs of the safe state are driven at once
with its cause, a message is sent, and the next tick gathers the entry. The eighth invalid reading of a remote channel
in a row is reported. While the throttle is in force a request for the next slower grade that is present is made again
after its period (it joins the pending grade at the end of the tick), or, on the holding page, FLOOR is shown. A head
thaws at the end of its dwell, and the chip restarts with cause 3 at the end of the latch's dwell, with every axis
still. (R476, R478, R479, R480, R481, R482) -/
def Obligations.ThermalCommands : Prop :=
  (∀ (c : Fin 12) (v : Int) (valid : Bool) (s : State), s.flag (Reg.THM_CH_CFG c) 0 = false →
      ∃ t, exec (.thermalConversion c v valid) s = .next t ∧ t = s) ∧
  (∀ (c : Fin 12) (v : Int) (s : State), s.flag (Reg.THM_CH_CFG c) 0 = true → v < s.thmSd c →
      ∃ t, exec (.thermalConversion c v true) s = .next t ∧ t.thmTemp c = signedOf 16 (codeOf 16 v) ∧
      t.thmValid c = true ∧ tabGet 0 t.thm.confirm c = 0 ∧ tabGet 0 t.thm.invalid c = 0 ∧
      t.thmState c = s.thmState c ∧ t.rd Reg.THM_LATCHED = s.rd Reg.THM_LATCHED ∧ t.safe = s.safe) ∧
  (∀ (c : Fin 12) (v : Int) (s : State), s.flag (Reg.THM_CH_CFG c) 0 = true → s.thmSd c ≤ v →
      tabGet 0 s.thm.confirm c + 1 < s.fld (Reg.THM_CH_CFG c) 7 4 →
      ∃ t, exec (.thermalConversion c v true) s = .next t ∧ t.thmTemp c = signedOf 16 (codeOf 16 v) ∧
      t.thmValid c = true ∧ tabGet 0 t.thm.confirm c = tabGet 0 s.thm.confirm c + 1 ∧
      t.rd Reg.THM_LATCHED = s.rd Reg.THM_LATCHED ∧ t.safe = s.safe) ∧
  (∀ (c : Fin 12) (v : Int) (s : State), s.flag (Reg.THM_CH_CFG c) 0 = true → s.thmSd c ≤ v →
      s.fld (Reg.THM_CH_CFG c) 7 4 ≤ tabGet 0 s.thm.confirm c + 1 → s.flag Reg.THM_LATCHED c = false →
      s.safeNow = false → ∃ t, exec (.thermalConversion c v true) s = .next t ∧ t.flag Reg.THM_LATCHED c = true ∧
      t.thmState c = 3 ∧ t.safeNow = true ∧ t.flag Reg.FLT_SAFE_CAUSE 3 = true ∧
      t.flt.paths.map (·.code) = s.flt.paths.map (·.code) ++ [0x1003] ∧
      (t.flt.paths.getLast?).all (·.entry) = true ∧ t.flt.resetWait = none ∧
      (s.flt.sent ++ [⟨0x400 + c, 0x1D, 3, s.tick + 1⟩]) <+: t.flt.sent ∧ (∀ i : Fin 8, t.ldenHigh i = false)) ∧
  (∀ (c : Fin 12) (v : Int) (s : State), s.flag (Reg.THM_CH_CFG c) 0 = true → (c : Nat) < 8 →
      tabGet 0 s.thm.invalid c = 7 → ∃ t, exec (.thermalConversion c v false) s = .next t ∧ t.thmValid c = false ∧
      t.thmTemp c = s.thmTemp c ∧ tabGet 0 t.thm.invalid c = 8 ∧
      t.flt.sent = s.flt.sent ++ [⟨0x400 + c, 0x1D, 0, s.tick⟩] ∧ t.flag Reg.THM_EVENTS 4 = true ∧
      t.thmState c = s.thmState c ∧ t.hwd.sent = s.hwd.sent ++ [⟨0x1005, s.tick, 0, [(c : Nat)]⟩]) ∧
  (∀ (g : Nat) (s0 s : State), s0.begin .decide = s → s.throttled = true → s.fld Reg.THM_THR_REPEAT 23 0 ≠ 0 →
      s.thm.requestAt + s.fld Reg.THM_THR_REPEAT 23 0 ≤ s.tick → s.holding = false → s.safe = false →
      (gradesOf s.active).find? (fun g => decide (s.grade < g)) = some g → ∃ t, exec .throttleRepeat s0 = .next t ∧
      t.thm.requestAt = s.tick ∧ t.alm.joins = s.alm.joins ++ [(g, 2)] ∧ t.flag Reg.THM_STATUS 3 = false ∧
      t.flag Reg.THM_EVENTS 1 = true) ∧
  (∀ (s0 s : State), s0.begin .decide = s → s.throttled = true → s.fld Reg.THM_THR_REPEAT 23 0 ≠ 0 →
      s.thm.requestAt + s.fld Reg.THM_THR_REPEAT 23 0 ≤ s.tick → s.holding = true →
      ∃ t, exec .throttleRepeat s0 = .next t ∧ t.thm.requestAt = s.tick ∧ t.flag Reg.THM_STATUS 3 = true ∧
      t.flag Reg.THM_EVENTS 5 = true) ∧
  (∀ (s0 s : State), s0.begin .decide = s →
      (s.throttled = false ∨ s.fld Reg.THM_THR_REPEAT 23 0 = 0 ∨
        s.tick < s.thm.requestAt + s.fld Reg.THM_THR_REPEAT 23 0) →
      ∃ t, exec .throttleRepeat s0 = .next t ∧ t = s) ∧
  (∀ (i : Fin 8) (d : Nat) (s0 s : State), s0.begin .decide = s → s.headSd i = true → (s.bm i).dwellAt = d + 1 →
      d + s.fld Reg.THM_CFG 23 0 ≤ s.tick → s.pageHas 0x10 1 0 = true → s.beam.stns.length = 8 →
      ∃ t, exec (.headThaw i) s0 = .next t ∧ t.headSd i = false ∧ t.flag Reg.BEAM_STATUS (16 + i) = false ∧
      (t.bm i).dwellAt = 0 ∧ (t.bm i).coolAt = 0 ∧ t.flag Reg.THM_EVENTS 3 = true ∧
      t.hwd.sent = s.hwd.sent ++ [⟨0x1004, s.tick, 0, [(i : Nat), s.tick - d]⟩] ∧
      t.flag (Reg.BEAM_STN_STATE i) 2 = s.flag (Reg.BEAM_STN_STATE i) 2) ∧
  (∀ (i : Fin 8) (s0 s : State), s0.begin .decide = s → s.headSd i = false → ∃ t, exec (.headThaw i) s0 = .next t ∧
      t = s) ∧
  (∀ (u : State) (d : Nat) (s0 s : State), s0.begin .decide = s → s.compareThermal = u → u.thm.dwellAt = d + 1 →
      d + u.fld Reg.THM_CFG 23 0 ≤ u.tick → u.allStill = true → ∃ t, exec .thawRestart s0 = .next t ∧
      t.rdN Reg.CLK_RST_CAUSE = 2 + 3 * 256 ∧ t.rd Reg.THM_THAW_COUNT = word (u.rdN Reg.THM_THAW_COUNT + 1) ∧
      t.rdN Reg.THM_LATCHED = 0 ∧ t.tick = 0) ∧
  (∀ (u : State) (s0 s : State), s0.begin .decide = s → s.compareThermal = u → u.thm.dwellAt = 0 →
      ∃ t, exec .thawRestart s0 = .next t ∧ t = u)

/-- The loss of a declared PLL lock. In any tick in which the core reset is released and the lock of a PLL has been
declared, its loss sends kind 0x02 from source 0x440, with [11:8] of the address 2 for SYSPLL (PLL 0), and 3 with
[3:0] = p for DDRPLL and a pixel synthesiser. It raises SYSPLL_LOST, or PLL_LOST for the others, and writes Heartwood
event 0x1101. Nothing else follows of itself: no reset, no safe state and no output. (R495) -/
def Obligations.LockLossReported : Prop :=
  (∀ (p : Fin 10) (s : State), s.clk.up = true → s.flag Reg.CLK_STATUS p = true →
      ∃ t, exec (.pllLockLost p) s = .next t ∧
      (∃ addr, t.flt.sent = s.flt.sent ++ [⟨0x440, 2, addr, s.tick⟩] ∧ (p = 0 → bitsOf addr 11 8 = 2) ∧ (p ≠ 0 →
        bitsOf addr 11 8 = 3 ∧ bitsOf addr 3 0 = p)) ∧
      t.flag Reg.CLK_EVENTS 0 = (decide (p = 0) || s.flag Reg.CLK_EVENTS 0) ∧
      t.flag Reg.CLK_EVENTS 1 = (decide (p ≠ 0) || s.flag Reg.CLK_EVENTS 1) ∧
      (∃ fields, t.hwd.sent = s.hwd.sent ++ [⟨0x1101, s.tick, 0, fields⟩]) ∧ t.clk = s.clk ∧ t.tick = s.tick ∧
      t.safe = s.safe ∧ (∀ i : Fin 8, t.ldenHigh i = s.ldenHigh i))

/-- The watch of the AON domain over the core clock. When the core clock has been out of range for four windows, the
AON domain drives every LDENn low, asserts ERR_N and resets the chip with cause 7, without the wait of R431, whatever
the state was: the clock-failure command does all three in its one step, and no wait is left. (R496) -/
def Obligations.ClockFailureResets : Prop :=
  (∀ (s : State), s.clk.up = true → ∃ t, exec .clockFailure s = .next t ∧ (∀ i : Fin 8, t.ldenHigh i = false) ∧
      t.errnLow = true ∧ t.rdN Reg.CLK_RST_CAUSE = 2 + 7 * 256 ∧ .resetChip 2 7 ∈ t.out ∧ t.flt.resetWait = none ∧
      t.tick = 0 ∧ t.clk.up = false)

/-- Lock, the reset kinds and their requests, the watchdog and the wipe. The first declared lock releases the core
reset and starts the wipe; the wipe ends no sooner than tick 38. A power-on reset samples REF50 and MODESEL and leaves
every register at its reset value but for the status, cause and life-cycle registers. A reset request is carried out
at once, or after the wait that it starts with the safe state, and is not taken while a thermal shut-down is latched.
A kick starts the watchdog's period again; its expiry starts the wait of a chip reset with cause 6. (R490, R494, R497,
R498, R499, R500) -/
def Obligations.ClocksAndResets : Prop :=
  (∀ (s : State), s.clk.up = false → ∃ t, exec .pllLockDeclared s = .next t ∧
      t.clk = { s.clk with up := true, wiping := true } ∧ t.flag Reg.CLK_STATUS 0 = true ∧
      t.flag (Reg.CLK_PLL_STATE 0) 8 = true ∧ t.tick = s.tick) ∧
  (∀ (s : State), s.clk.up = true → ∃ t, exec .pllLockDeclared s = .next t ∧ t.clk = s.clk ∧
      t.flag Reg.CLK_STATUS 0 = true) ∧
  (∀ (s : State), s.clk.up = false → ∃ t, exec .clockFailure s = .next t ∧ t = s) ∧
  (∀ (ref50 modesel : Bool) (s : State), ∃ t, exec (.powerOnReset ref50 modesel false) s = .next t ∧
      t.flag Reg.CLK_STATUS 16 = ref50 ∧ t.flag Reg.CLK_STATUS 17 = modesel ∧
      t.rdN Reg.CLK_RST_CAUSE = 1 + 1 * 256 ∧ t.tick = 0 ∧ t.clk.up = false ∧ t.hwd.mram = s.hwd.mram ∧
      t.sram = [] ∧ t.lcs.fused = s.lcs.fused ∧ t.lcs.booted = false ∧
      (∀ a, a ≠ Reg.CLK_STATUS → a ≠ Reg.CLK_RST_CAUSE → a ≠ Reg.LCS_STATUS → t.rd a = regReset a)) ∧
  (∀ (s : State), s.clk.up = true → s.clk.wiping = true → 38 ≤ s.tick → ∃ t, exec .sramWipeDone s = .next t ∧
      t.clk = { s.clk with wiping := false } ∧ (∀ a, t.rd a = s.rd a) ∧ t.errnLow = (s.safe || s.errnLatch)) ∧
  (∀ (s : State), s.tick < 38 → ∃ t, exec .sramWipeDone s = .next t ∧ t = s) ∧
  (∀ (w : Writer) (now : Bool) (s0 s : State), s0.begin .decide = s → s.thermalLatched = false →
      s.flt.resetWait = none → now = true → ∃ t, exec (.rstChip w now) s0 = .next t ∧
      (t.rdN Reg.CLK_RST_CAUSE = 2 + (if w = .host then 4 else 5) * 256) ∧ t.tick = 0 ∧ t.clk.up = false ∧
      t.flt.resetWait = none) ∧
  (∀ (w : Writer) (now : Bool) (s0 s : State), s0.begin .decide = s → s.thermalLatched = false →
      s.flt.resetWait = none → s.flt.left = none → now = false → ∃ t, exec (.rstChip w now) s0 = .next t ∧
      (t.flt.resetWait = some ⟨s.tick, 2, if w = .host then 4 else 5, none⟩) ∧ t.safe = true ∧
      t.flag Reg.FLT_SAFE_CAUSE 5 = true ∧ t.tick = s.tick) ∧
  (∀ (w : Writer) (now : Bool) (s0 s : State), s0.begin .decide = s → s.thermalLatched = false →
      s.flt.resetWait = none → now = true → ∃ t, exec (.rstCore w now) s0 = .next t ∧
      (t.rdN Reg.CLK_RST_CAUSE = 3 + (if w = .host then 4 else 5) * 256) ∧ t.tick = 0 ∧ t.clk.up = true ∧
      t.clk.wiping = true ∧ t.ledg = State.cleared.ledg) ∧
  (∀ (w : Writer) (now : Bool) (s0 s : State), s0.begin .decide = s → s.thermalLatched = true →
      ∃ t, exec (.rstCore w now) s0 = .next t ∧ t.flag Reg.CLK_EVENTS 3 = true ∧ t.tick = s.tick ∧ t.flt = s.flt ∧
      t.clk = s.clk) ∧
  (∀ (s : State), ∃ t, exec .wdtKick s = .next t ∧ t = { s with clk := { s.clk with kickAt := s.tick } }) ∧
  (∀ (s0 s : State), s0.begin .decide = s → s.clk.up = true → s.clk.kickAt + s.fld Reg.CLK_WDT 23 0 ≤ s.tick →
      s.flt.resetWait = none → s.thermalLatched = false → s.flt.left = none →
      ∃ t, exec .watchdogExpiry s0 = .next t ∧ t.flt.resetWait = some ⟨s.tick, 2, 6, none⟩ ∧ t.safe = true ∧
      t.flag Reg.FLT_SAFE_CAUSE 5 = true ∧ (s.hwd.sent ++ [⟨0x1401, s.tick, 0, [s.clk.kickAt]⟩]) <+: t.hwd.sent) ∧
  (∀ (s0 s : State), s0.begin .decide = s → s.tick < s.clk.kickAt + s.fld Reg.CLK_WDT 23 0 →
      ∃ t, exec .watchdogExpiry s0 = .next t ∧ t = s) ∧
  (∀ (s : State), ∃ t, exec .vddio33Low s = .next t ∧ t.clk = { s.clk with ioLow := true } ∧
      (∀ i : Fin 8, t.ldenHigh i = false) ∧ t.tick = s.tick) ∧
  (∀ (s : State), ∃ t, exec .clkTickLoRead s = .next t ∧ t.rd Reg.CLK_TICK_HI = word (s.tick / 2 ^ 32) ∧
      (∀ a, a ≠ Reg.CLK_TICK_HI → t.rd a = s.rd a) ∧ t.tick = s.tick)

/-- The boot, acceptances, transitions, OTP fields and the test access port. The boot does nothing until the boot ROM
can run. With the marker in place and MODESEL low, a firmware image that passes its checks is booted in native mode,
with its version shown; where neither does, the controller is in recovery. In recovery a staged image that passes is
booted, and another leaves its code. An untested pairing is accepted once, by its version. A transition needs its
confirmation, a later state, the holding page and every axis and loop disabled; when its fuses are burnt the new state
holds and the chip resets with cause 8. An OTP field is programmed once, before PRODUCTION, and only where its verify
read succeeds. A TAP code that is not accepted acts as BYPASS. (R501, R504, R506, R507, R509, R510, R511, R512, R513,
R558) -/
def Obligations.BootAndLifeCycle : Prop :=
  (∀ (f : Flash) (s : State), s.romReady = true → s.flag Reg.LCS_STATUS 7 = false →
      s.lcs.marker = some s.lcs.fused → s.lcs.fused ≠ 4 → s.flag Reg.CLK_STATUS 17 = false →
      ∃ t, exec (.boot f) s = .next t ∧
      (∀ slot fw ca cb, pickSlot 1 s.lcs.fused f.fwA f.fwB = (some (slot, fw), ca, cb) → t.lcs.booted = true ∧
        t.rd Reg.LCS_FW_VERSION = word (imageVersion fw) ∧ t.flag Reg.HOST_STATUS 0 = true ∧
        t.flag Reg.HOST_MODE 0 = false) ∧
      (∀ ca cb, pickSlot 1 s.lcs.fused f.fwA f.fwB = (none, ca, cb) → t.flag Reg.LCS_STATUS 7 = true ∧
        t.rd Reg.LCS_BOOT_STATUS = word (ca + cb * 16) ∧ t.lcs = s.lcs)) ∧
  (∀ (f : Flash) (s : State), s.romReady = true → s.flag Reg.LCS_STATUS 7 = false →
      s.lcs.marker = some s.lcs.fused → s.lcs.fused ≠ 4 → (f.fwA.length < 0x100) → (f.fwB.length < 0x100) →
      ∃ t, exec (.boot f) s = .next t ∧ t.flag Reg.LCS_STATUS 7 = true ∧ t.rdN Reg.LCS_BOOT_STATUS = 0x11 ∧
      t.lcs = s.lcs) ∧
  (∀ (f : Flash) (s : State), s.romReady = false → ∃ t, exec (.boot f) s = .next t ∧ t = s) ∧
  (∀ (f : Flash) (code : Nat) (s : State), s.romReady = true → s.flag Reg.LCS_STATUS 7 = true →
      s.flag Reg.CLK_STATUS 17 = false → imageCode 1 s.lcs.fused s.stagedImage = code →
      ∃ t, exec (.bootStaged f) s = .next t ∧
      (code = 0 → t.flag Reg.LCS_STATUS 7 = false ∧ t.lcs.booted = true ∧
        t.rd Reg.LCS_FW_VERSION = word (imageVersion s.stagedImage) ∧ t.flag Reg.HOST_STATUS 0 = true ∧
        t.flag Reg.HOST_MODE 0 = false) ∧
      (code ≠ 0 → t.fld Reg.LCS_BOOT_STATUS 3 0 = code ∧ t.flag Reg.LCS_STATUS 7 = true ∧ t.lcs = s.lcs)) ∧
  (∀ (v : Word) (s : State), s.flag Reg.LCS_STATUS 4 = true → s.flag Reg.LCS_STATUS 5 = false →
      v = s.rd Reg.LCS_FW_VERSION → (s.lcs.fused = 1 ∨ s.lcs.fused = 2) → s.lcs.accepted.length < 8 →
      ∃ t, exec (.accept v) s = .next t ∧ t.fld Reg.LCS_ACCEPT_RESULT 3 0 = 1 ∧ t.flag Reg.LCS_STATUS 3 = true ∧
      t.flag Reg.LCS_STATUS 5 = true ∧ t.lcs.accepted = s.lcs.accepted ++ [v.toNat] ∧
      t.flag Reg.LCS_EVENTS 1 = true ∧ t.hwd.sent = s.hwd.sent ++ [⟨0x1203, s.tick, 0, [v.toNat, 0x0C, 0]⟩]) ∧
  (∀ (v : Word) (s : State), (s.flag Reg.LCS_STATUS 4 = false ∨ s.flag Reg.LCS_STATUS 5 = true) →
      ∃ t, exec (.accept v) s = .next t ∧ t.fld Reg.LCS_ACCEPT_RESULT 3 0 = 2 ∧ t.lcs = s.lcs ∧
      t.rd Reg.LCS_STATUS = s.rd Reg.LCS_STATUS) ∧
  (∀ (v : Word) (s : State), s.flag Reg.LCS_STATUS 4 = true → s.flag Reg.LCS_STATUS 5 = false →
      v ≠ s.rd Reg.LCS_FW_VERSION → ∃ t, exec (.accept v) s = .next t ∧ t.fld Reg.LCS_ACCEPT_RESULT 3 0 = 3 ∧
      t.lcs = s.lcs ∧ t.rd Reg.LCS_STATUS = s.rd Reg.LCS_STATUS) ∧
  (∀ (target : Fin 8) (confirm : Fin 65536) (s : State), (target : Nat) ≤ 4 → target ≠ 3 → confirm = 0x4C43 →
      s.lcs.burning = none → s.lcs.fused < target → s.holding = true → s.allDisabled = true →
      ∃ t, exec (.lifecycleTransition target confirm) s = .next t ∧ t.fld Reg.LCS_TRANS_RESULT 3 0 = 1 ∧
      t.flag Reg.LCS_STATUS 12 = true ∧ t.lcs = { s.lcs with burning := some (target, s.tick) }) ∧
  (∀ (target : Fin 8) (confirm : Fin 65536) (s : State), (target : Nat) ≤ 4 → confirm ≠ 0x4C43 →
      ∃ t, exec (.lifecycleTransition target confirm) s = .next t ∧ t.fld Reg.LCS_TRANS_RESULT 3 0 = 5 ∧
      t.flag Reg.LCS_EVENTS 2 = true ∧ t.lcs = s.lcs) ∧
  (∀ (target : Fin 8) (confirm : Fin 65536) (s : State), 4 < (target : Nat) →
      ∃ t, exec (.lifecycleTransition target confirm) s = .next t ∧
      t.flt.sent = s.flt.sent ++ [⟨0x480, 1, Reg.LCS_TRANS_CTRL, s.tick⟩] ∧ t.lcs = s.lcs ∧ (∀ a, t.rd a = s.rd a)) ∧
  (∀ (target at_ : Nat) (s : State), s.lcs.burning = some (target, at_) → target < 8 →
      ∃ t, exec .fuseBurnDone s = .next t ∧ t.lcs.fused = target ∧ t.lcs.burning = none ∧
      t.rdN Reg.CLK_RST_CAUSE = 2 + 8 * 256 ∧ t.fld Reg.LCS_STATUS 2 0 = target ∧ t.tick = 0) ∧
  (∀ (s : State), s.lcs.burning = none → ∃ t, exec .fuseBurnDone s = .next t ∧ t = s) ∧
  (∀ (field : Fin 4) (verifyOk : Bool) (s : State), field = 1 → verifyOk = true → s.lcs.fused < 2 →
      s.lcs.subsystem = none → ∃ t, exec (.otpProgram field verifyOk) s = .next t ∧
      t.fld Reg.LCS_OTP_RESULT 3 0 = 1 ∧ t.flag Reg.LCS_EVENTS 3 = true ∧
      t.lcs = { s.lcs with subsystem := some (leBytes 4 (s.rdN (Reg.LCS_OTP_DATA 0))) }) ∧
  (∀ (field : Fin 4) (verifyOk : Bool) (s : State), field = 2 → verifyOk = true → s.lcs.fused < 2 →
      s.lcs.key = none → ∃ t, exec (.otpProgram field verifyOk) s = .next t ∧ t.fld Reg.LCS_OTP_RESULT 3 0 = 1 ∧
      t.flag Reg.LCS_EVENTS 3 = true ∧
      t.lcs = { s.lcs with key := some ((List.range 8).flatMap (fun j => leBytes 4 (s.rdN (Reg.LCS_OTP_DATA j)))) }) ∧
  (∀ (field : Fin 4) (verifyOk : Bool) (s : State), (field = 1 ∨ field = 2) → 2 ≤ s.lcs.fused →
      ∃ t, exec (.otpProgram field verifyOk) s = .next t ∧ t.fld Reg.LCS_OTP_RESULT 3 0 = 3 ∧
      t.flag Reg.LCS_EVENTS 3 = true ∧ t.lcs = s.lcs) ∧
  (∀ (field : Fin 4) (verifyOk : Bool) (s : State), (field = 0 ∨ field = 3) →
      ∃ t, exec (.otpProgram field verifyOk) s = .next t ∧ t.lcs = s.lcs ∧
      t.flt.sent = s.flt.sent ++ [⟨0x480, 1, Reg.LCS_OTP_CTRL, s.tick⟩]) ∧
  (∀ (ir : Fin 256) (s : State), (ir : Nat) < 0x80 → ∃ t, exec (.tapInstruction ir) s = .next t ∧
      (t.clk = { s.clk with
        tap := if (ir : Nat) ≤ 1 ∨ ((s.lcs.fused = 0 ∨ s.lcs.fused = 1 ∨ s.lcs.fused = 3) ∧
        (ir : Nat) ≤ 4) then ir else 0xFF }) ∧
      t.fresh = s.fresh) ∧
  (∀ (ir : Fin 256) (s : State), 0x80 ≤ (ir : Nat) → (ir : Nat) ≤ 0x8F →
      (s.lcs.fused = 0 ∨ s.lcs.fused = 1 ∨ s.lcs.fused = 3) → ∃ t, exec (.tapInstruction ir) s = .next t ∧
      t.clk.tap = ir ∧ t.fresh = s.fresh + 1) ∧
  (∀ (ir : Fin 256) (s : State), 2 ≤ (ir : Nat) → (s.lcs.fused = 2 ∨ s.lcs.fused = 4) →
      ∃ t, exec (.tapInstruction ir) s = .next t ∧ t.clk = { s.clk with tap := 0xFF } ∧ t.fresh = s.fresh)

/-- The commands of the CE220 port and their replies. The front frame of a tick, if it is good and carries the
command, is decided: an ACK with its payload, or a NAK with a code, waits as the last reply, to be sent after the
hold, and the frame leaves the queue. STATUS answers the four status bytes; READ_ERROR answers the error code and
clears it; SPEED requests G6 or G7; PAPER, TOP and WIDTH set the following pages; WARMUP, SLEEP and CLEAR_JAM change
the state as their rule says; CANCEL purges the last announced page; ENGINE_INFO and READ_REG answer their values;
WRITE_REG changes nothing. A bad payload is code 4, and a command that the state does not take is code 3. With no
frame to decide nothing happens. (R524, R526, R527, R528, R529, R530, R532, R538) -/
def Obligations.LegacyCommandFrames : Prop :=
  (∀ (f : LegFrame) (s0 s : State), s0.begin .decide = s → s.frontFrame = some f → f.good = true → f.cmd = 0x10 →
      f.payload = [] → ∃ t, exec .status s0 = .next t ∧
      t.leg.replies = s.leg.replies ++ [⟨[6, (s.legStatusBytes).length,
        0x10] ++ s.legStatusBytes ++ [legChk 0x10 (s.legStatusBytes)], s.tick + s.fld Reg.LEG_CFG 15 8,
        some s.tick⟩] ∧
      t.leg.frames = s.leg.frames.tail ∧ t.leg.decidedAt = s.tick + 1 ∧
      (∀ a, a ≠ Reg.LEG_COUNT_CMD → t.rd a = s.rd a)) ∧
  (∀ (f : LegFrame) (s : State), s.frontFrame = some f → f.good = true → f.cmd = 0x11 → f.payload = [] →
      ∃ t, exec .readError s = .next t ∧
      t.leg.replies = s.leg.replies ++ [⟨[6, ([s.legError, 0]).length, 0x11] ++ [s.legError,
        0] ++ [legChk 0x11 ([s.legError, 0])], s.tick + s.fld Reg.LEG_CFG 15 8, none⟩] ∧
      t.leg.frames = s.leg.frames.tail ∧ t.leg.decidedAt = s.tick + 1 ∧ t.legError = 0 ∧ t.leg.lost = 0) ∧
  (∀ (f : LegFrame) (s0 s : State), s0.begin .decide = s → s.frontFrame = some f → f.good = true → f.cmd = 0x20 →
      f.payload = [0] → s.legState = 2 → s.holding = true → s.safe = false → ∃ t, exec .speed s0 = .next t ∧
      t.leg.replies = s.leg.replies ++ [⟨[6, (([] : List Nat)).length,
        0x20] ++ ([] : List Nat) ++ [legChk 0x20 (([] : List Nat))], s.tick + s.fld Reg.LEG_CFG 15 8, none⟩] ∧
      t.leg.frames = s.leg.frames.tail ∧ t.leg.decidedAt = s.tick + 1 ∧ t.fld Reg.ALM_STATUS 10 8 = 6 ∧
      t.flag Reg.ALM_STATUS 3 = true) ∧
  (∀ (f : LegFrame) (s0 s : State), s0.begin .decide = s → s.frontFrame = some f → f.good = true → f.cmd = 0x20 →
      f.payload = [1] → s.legState = 2 → s.holding = true → s.safe = false → ∃ t, exec .speed s0 = .next t ∧
      t.leg.replies = s.leg.replies ++ [⟨[6, (([] : List Nat)).length,
        0x20] ++ ([] : List Nat) ++ [legChk 0x20 (([] : List Nat))], s.tick + s.fld Reg.LEG_CFG 15 8, none⟩] ∧
      t.leg.frames = s.leg.frames.tail ∧ t.leg.decidedAt = s.tick + 1 ∧ t.fld Reg.ALM_STATUS 10 8 = 7 ∧
      t.flag Reg.ALM_STATUS 3 = true) ∧
  (∀ (f : LegFrame) (x : Nat) (s0 s : State), s0.begin .decide = s → s.frontFrame = some f → f.good = true →
      f.cmd = 0x20 → f.payload = [x] → s.legState = 2 → 2 ≤ x → ∃ t, exec .speed s0 = .next t ∧
      t.leg.replies = s.leg.replies ++ [⟨[0x15, 1, 0x20, 4, legChk 0x20 [4]], s.tick + s.fld Reg.LEG_CFG 15 8,
        none⟩] ∧
      t.leg.frames = s.leg.frames.tail ∧ t.flag Reg.LEG_EVENTS 2 = true ∧
      t.hwd.sent = s.hwd.sent ++ [⟨0x1305, s.tick, 0, [0x20, 4]⟩] ∧ t.legError = max s.legError 0x60) ∧
  (∀ (f : LegFrame) (s0 s : State), s0.begin .decide = s → s.frontFrame = some f → f.good = true → f.cmd = 0x20 →
      s.legState = 3 → ∃ t, exec .speed s0 = .next t ∧
      t.leg.replies = s.leg.replies ++ [⟨[0x15, 1, 0x20, 3, legChk 0x20 [3]], s.tick + s.fld Reg.LEG_CFG 15 8,
        none⟩] ∧
      t.leg.frames = s.leg.frames.tail ∧ t.flag Reg.LEG_EVENTS 2 = true ∧
      t.hwd.sent = s.hwd.sent ++ [⟨0x1305, s.tick, 0, [0x20, 3]⟩] ∧ t.legError = max s.legError 0x60) ∧
  (∀ (f : LegFrame) (l0 l1 n0 n1 tray bin : Nat) (s : State), s.frontFrame = some f → f.good = true →
      f.cmd = 0x21 → f.payload = [l0, l1, n0, n1, tray, bin] → l0 < 256 → l1 < 256 → l0 + 256 * l1 ≠ 0 →
      ∃ t, exec .paper s = .next t ∧
      t.leg.replies = s.leg.replies ++ [⟨[6, (([] : List Nat)).length,
        0x21] ++ ([] : List Nat) ++ [legChk 0x21 (([] : List Nat))], s.tick + s.fld Reg.LEG_CFG 15 8, none⟩] ∧
      t.leg.frames = s.leg.frames.tail ∧ t.leg.decidedAt = s.tick + 1 ∧ t.legL = l0 + 256 * l1 ∧
      t.leg.length = n0 + 256 * n1 ∧ t.leg.tray = tray ∧ t.leg.bin = bin ∧ t.leg.paper = true ∧ t.legW = s.legW) ∧
  (∀ (f : LegFrame) (n0 n1 tray bin : Nat) (s : State), s.frontFrame = some f → f.good = true → f.cmd = 0x21 →
      f.payload = [0, 0, n0, n1, tray, bin] → s.legState = 2 → ∃ t, exec .paper s = .next t ∧
      t.leg.replies = s.leg.replies ++ [⟨[0x15, 1, 0x21, 4, legChk 0x21 [4]], s.tick + s.fld Reg.LEG_CFG 15 8,
        none⟩] ∧
      t.leg.frames = s.leg.frames.tail ∧ t.flag Reg.LEG_EVENTS 2 = true ∧
      t.hwd.sent = s.hwd.sent ++ [⟨0x1305, s.tick, 0, [0x21, 4]⟩] ∧ t.legError = max s.legError 0x60 ∧
      t.legL = s.legL) ∧
  (∀ (f : LegFrame) (t0 t1 : Nat) (s : State), s.frontFrame = some f → f.good = true → f.cmd = 0x22 →
      f.payload = [t0, t1] → t0 + 256 * t1 ≤ 4095 → ∃ t, exec .top s = .next t ∧
      t.leg.replies = s.leg.replies ++ [⟨[6, (([] : List Nat)).length,
        0x22] ++ ([] : List Nat) ++ [legChk 0x22 (([] : List Nat))], s.tick + s.fld Reg.LEG_CFG 15 8, none⟩] ∧
      t.leg.frames = s.leg.frames.tail ∧ t.leg.decidedAt = s.tick + 1 ∧ t.rdN Reg.LEG_TOP = t0 + 256 * t1) ∧
  (∀ (f : LegFrame) (t0 t1 : Nat) (s : State), s.frontFrame = some f → f.good = true → f.cmd = 0x22 →
      f.payload = [t0, t1] → 4095 < t0 + 256 * t1 → s.legState = 2 → ∃ t, exec .top s = .next t ∧
      t.leg.replies = s.leg.replies ++ [⟨[0x15, 1, 0x22, 4, legChk 0x22 [4]], s.tick + s.fld Reg.LEG_CFG 15 8,
        none⟩] ∧
      t.leg.frames = s.leg.frames.tail ∧ t.flag Reg.LEG_EVENTS 2 = true ∧
      t.hwd.sent = s.hwd.sent ++ [⟨0x1305, s.tick, 0, [0x22, 4]⟩] ∧ t.legError = max s.legError 0x60 ∧
      t.rd Reg.LEG_TOP = s.rd Reg.LEG_TOP) ∧
  (∀ (f : LegFrame) (w0 w1 : Nat) (s : State), s.frontFrame = some f → f.good = true → f.cmd = 0x23 →
      f.payload = [w0, w1] → w0 + 256 * w1 ≠ 0 → w0 + 256 * w1 ≤ s.legLineBytes / 8 → w0 + 256 * w1 < 2048 →
      ∃ t, exec .width s = .next t ∧
      t.leg.replies = s.leg.replies ++ [⟨[6, (([] : List Nat)).length,
        0x23] ++ ([] : List Nat) ++ [legChk 0x23 (([] : List Nat))], s.tick + s.fld Reg.LEG_CFG 15 8, none⟩] ∧
      t.leg.frames = s.leg.frames.tail ∧ t.leg.decidedAt = s.tick + 1 ∧ t.legW = w0 + 256 * w1 ∧
      t.leg.width = true ∧ t.legL = s.legL) ∧
  (∀ (f : LegFrame) (s : State), s.frontFrame = some f → f.good = true → f.cmd = 0x23 → f.payload = [0, 0] →
      s.legState = 2 → ∃ t, exec .width s = .next t ∧
      t.leg.replies = s.leg.replies ++ [⟨[0x15, 1, 0x23, 4, legChk 0x23 [4]], s.tick + s.fld Reg.LEG_CFG 15 8,
        none⟩] ∧
      t.leg.frames = s.leg.frames.tail ∧ t.flag Reg.LEG_EVENTS 2 = true ∧
      t.hwd.sent = s.hwd.sent ++ [⟨0x1305, s.tick, 0, [0x23, 4]⟩] ∧ t.legError = max s.legError 0x60 ∧
      t.legW = s.legW) ∧
  (∀ (f : LegFrame) (s0 s : State), s0.begin .decide = s → s.frontFrame = some f → f.good = true → f.cmd = 0x30 →
      f.payload = [] → s.legState = 2 → ∃ t, exec .warmup s0 = .next t ∧
      t.leg.replies = s.leg.replies ++ [⟨[6, (([] : List Nat)).length,
        0x30] ++ ([] : List Nat) ++ [legChk 0x30 (([] : List Nat))], s.tick + s.fld Reg.LEG_CFG 15 8, none⟩] ∧
      t.leg.frames = s.leg.frames.tail ∧ t.leg.decidedAt = s.tick + 1 ∧ t.legState = 3 ∧ t.leg.warmDue = true) ∧
  (∀ (f : LegFrame) (s0 s : State), s0.begin .decide = s → s.frontFrame = some f → f.good = true → f.cmd = 0x30 →
      f.payload = [] → s.legState = 4 → ∃ t, exec .warmup s0 = .next t ∧
      t.leg.replies = s.leg.replies ++ [⟨[0x15, 1, 0x30, 3, legChk 0x30 [3]], s.tick + s.fld Reg.LEG_CFG 15 8,
        none⟩] ∧
      t.leg.frames = s.leg.frames.tail ∧ t.flag Reg.LEG_EVENTS 2 = true ∧
      t.hwd.sent = s.hwd.sent ++ [⟨0x1305, s.tick, 0, [0x30, 3]⟩] ∧ t.legError = max s.legError 0x60 ∧
      t.legState = 4) ∧
  (∀ (f : LegFrame) (s0 s : State), s0.begin .decide = s → s.frontFrame = some f → f.good = true → f.cmd = 0x31 →
      f.payload = [] → s.legState = 4 → s.ledg.sheets = [] → s.leg.sleep = [] → ∃ t, exec .sleep s0 = .next t ∧
      t.leg.replies = s.leg.replies ++ [⟨[6, (([] : List Nat)).length,
        0x31] ++ ([] : List Nat) ++ [legChk 0x31 (([] : List Nat))], s.tick + s.fld Reg.LEG_CFG 15 8, none⟩] ∧
      t.leg.frames = s.leg.frames.tail ∧ t.leg.decidedAt = s.tick + 1 ∧ t.legState = 5 ∧ t.leg.syncs = false) ∧
  (∀ (f : LegFrame) (s0 s : State), s0.begin .decide = s → s.frontFrame = some f → f.good = true → f.cmd = 0x31 →
      f.payload = [] → s.legState = 2 → ∃ t, exec .sleep s0 = .next t ∧
      t.leg.replies = s.leg.replies ++ [⟨[0x15, 1, 0x31, 3, legChk 0x31 [3]], s.tick + s.fld Reg.LEG_CFG 15 8,
        none⟩] ∧
      t.leg.frames = s.leg.frames.tail ∧ t.flag Reg.LEG_EVENTS 2 = true ∧
      t.hwd.sent = s.hwd.sent ++ [⟨0x1305, s.tick, 0, [0x31, 3]⟩] ∧ t.legError = max s.legError 0x60 ∧
      t.legState = 2) ∧
  (∀ (f : LegFrame) (s0 s : State), s0.begin (.ledg 4) = s → s.ready (.ledg 4) = true → s.frontFrame = some f →
      f.good = true → f.cmd = 0x40 → f.payload = [] → s.legState = 4 → s.legJammed = true → s.jammed = true →
      s.leg.jamAt ≠ s.tick + 1 → s.ledg.sheets = [] → ∃ t, exec .clearJam s0 = .next t ∧
      t.leg.replies = s.leg.replies ++ [⟨[6, (([] : List Nat)).length,
        0x40] ++ ([] : List Nat) ++ [legChk 0x40 (([] : List Nat))], s.tick + s.fld Reg.LEG_CFG 15 8, none⟩] ∧
      t.leg.frames = s.leg.frames.tail ∧ t.leg.decidedAt = s.tick + 1 ∧ t.legJammed = false ∧ t.jammed = false ∧
      t.leg.syncs = true ∧ t.legState = 4 ∧ ⟨0x0303, s.tick, 0, [s.rdN Reg.LEDG_COUNT_JAM, 0]⟩ ∈ t.hwd.sent) ∧
  (∀ (f : LegFrame) (s0 s : State), s0.begin (.ledg 4) = s → s.ready (.ledg 4) = true → s.frontFrame = some f →
      f.good = true → f.cmd = 0x40 → f.payload = [] → s.legState = 4 → s.legJammed = false →
      ∃ t, exec .clearJam s0 = .next t ∧
      t.leg.replies = s.leg.replies ++ [⟨[0x15, 1, 0x40, 3, legChk 0x40 [3]], s.tick + s.fld Reg.LEG_CFG 15 8,
        none⟩] ∧
      t.leg.frames = s.leg.frames.tail ∧ t.flag Reg.LEG_EVENTS 2 = true ∧
      t.hwd.sent = s.hwd.sent ++ [⟨0x1305, s.tick, 0, [0x40, 3]⟩] ∧ t.legError = max s.legError 0x60 ∧
      t.legJammed = false) ∧
  (∀ (f : LegFrame) (p : LegPage) (sh : Sheet) (s0 s : State), s0.begin (.ledg 4) = s → s.ready (.ledg 4) = true →
      s.frontFrame = some f → f.good = true → f.cmd = 0x41 → f.payload = [] → s.leg.pages = [p] →
      s.sheet p.id = some sh → sh.id = p.id → sh.state = .announced → s.flag Reg.LEG_TRACE 15 = false →
      ∃ t, exec .cancel s0 = .next t ∧
      t.leg.replies = s.leg.replies ++ [⟨[6, (([] : List Nat)).length,
        0x41] ++ ([] : List Nat) ++ [legChk 0x41 (([] : List Nat))], s.tick + s.fld Reg.LEG_CFG 15 8, none⟩] ∧
      t.leg.frames = s.leg.frames.tail ∧ t.leg.decidedAt = s.tick + 1 ∧
      (t.sheet p.id).map (·.state) = some .purged ∧ t.leg.lost = min 255 (s.leg.lost + 1) ∧
      t.flag Reg.LEG_EVENTS 4 = true) ∧
  (∀ (f : LegFrame) (s0 s : State), s0.begin (.ledg 4) = s → s.ready (.ledg 4) = true → s.frontFrame = some f →
      f.good = true → f.cmd = 0x41 → f.payload = [] → s.leg.pages = [] → s.legState = 4 →
      ∃ t, exec .cancel s0 = .next t ∧
      t.leg.replies = s.leg.replies ++ [⟨[0x15, 1, 0x41, 3, legChk 0x41 [3]], s.tick + s.fld Reg.LEG_CFG 15 8,
        none⟩] ∧
      t.leg.frames = s.leg.frames.tail ∧ t.flag Reg.LEG_EVENTS 2 = true ∧
      t.hwd.sent = s.hwd.sent ++ [⟨0x1305, s.tick, 0, [0x41, 3]⟩] ∧ t.legError = max s.legError 0x60 ∧
      t.ledg = s.ledg) ∧
  (∀ (f : LegFrame) (s : State), s.frontFrame = some f → f.good = true → f.cmd = 0x50 → f.payload = [] →
      ∃ t, exec .engineInfo s = .next t ∧
      t.leg.replies = s.leg.replies ++ [⟨[6, ([0x20, 2, s.legMajor, s.legMinor]).length, 0x50] ++ [0x20, 2,
        s.legMajor, s.legMinor] ++ [legChk 0x50 ([0x20, 2, s.legMajor, s.legMinor])], s.tick + s.fld Reg.LEG_CFG 15 8,
        none⟩] ∧
      t.leg.frames = s.leg.frames.tail ∧ t.leg.decidedAt = s.tick + 1 ∧
      (∀ a, a ≠ Reg.LEG_COUNT_CMD → t.rd a = s.rd a)) ∧
  (∀ (f : LegFrame) (a : Nat) (s : State), s.frontFrame = some f → f.good = true → f.cmd = 0x60 → f.payload = [a] →
      ∃ t, exec .readReg s = .next t ∧
      t.leg.replies = s.leg.replies ++ [⟨[6, ([s.legWindow a]).length,
        0x60] ++ [s.legWindow a] ++ [legChk 0x60 ([s.legWindow a])], s.tick + s.fld Reg.LEG_CFG 15 8, none⟩] ∧
      t.leg.frames = s.leg.frames.tail ∧ t.leg.decidedAt = s.tick + 1 ∧
      (∀ a, a ≠ Reg.LEG_COUNT_CMD → t.rd a = s.rd a)) ∧
  (∀ (f : LegFrame) (a v : Nat) (s : State), s.frontFrame = some f → f.good = true → f.cmd = 0x61 →
      f.payload = [a, v] → ∃ t, exec .writeReg s = .next t ∧
      t.leg.replies = s.leg.replies ++ [⟨[6, (([] : List Nat)).length,
        0x61] ++ ([] : List Nat) ++ [legChk 0x61 (([] : List Nat))], s.tick + s.fld Reg.LEG_CFG 15 8, none⟩] ∧
      t.leg.frames = s.leg.frames.tail ∧ t.leg.decidedAt = s.tick + 1 ∧
      (∀ a, a ≠ Reg.LEG_COUNT_CMD → t.rd a = s.rd a) ∧ t.alm = s.alm ∧ t.ledg = s.ledg ∧ t.sram = s.sram) ∧
  (∀ (s0 s : State), s0.begin .decide = s → s.frontFrame = none → ∃ t, exec .status s0 = .next t ∧ t = s) ∧
  (∀ (s : State), s.frontFrame = none → ∃ t, exec .readError s = .next t ∧ t = s) ∧
  (∀ (s0 s : State), s0.begin .decide = s → s.frontFrame = none → ∃ t, exec .speed s0 = .next t ∧ t = s) ∧
  (∀ (s : State), s.frontFrame = none → ∃ t, exec .paper s = .next t ∧ t = s) ∧
  (∀ (s : State), s.frontFrame = none → ∃ t, exec .top s = .next t ∧ t = s) ∧
  (∀ (s : State), s.frontFrame = none → ∃ t, exec .width s = .next t ∧ t = s) ∧
  (∀ (s0 s : State), s0.begin .decide = s → s.frontFrame = none → ∃ t, exec .warmup s0 = .next t ∧ t = s) ∧
  (∀ (s0 s : State), s0.begin .decide = s → s.frontFrame = none → ∃ t, exec .sleep s0 = .next t ∧ t = s) ∧
  (∀ (s0 s : State), s0.begin (.ledg 4) = s → s.ready (.ledg 4) = true → s.frontFrame = none →
      ∃ t, exec .clearJam s0 = .next t ∧ t = s) ∧
  (∀ (s0 s : State), s0.begin (.ledg 4) = s → s.ready (.ledg 4) = true → s.frontFrame = none →
      ∃ t, exec .cancel s0 = .next t ∧ t = s) ∧
  (∀ (s : State), s.frontFrame = none → ∃ t, exec .engineInfo s = .next t ∧ t = s) ∧
  (∀ (s : State), s.frontFrame = none → ∃ t, exec .readReg s = .next t ∧ t = s) ∧
  (∀ (s : State), s.frontFrame = none → ∃ t, exec .writeReg s = .next t ∧ t = s)

/-- The UART, the line syncs, the page handshake, the video groups and the trace. In OFF the UART is ignored. A byte
joins the frame; the one that completes a good frame queues it; one with an error posts 0x62, and a late one discards
the frame. The oldest reply is sent when it is due. WARMING ends once its conditions hold, and SLEEPING on the holding
page. At an edge that is due the syncs fall and the next is one period later; at the second edge in a row with GO a
page qualifies. A whole group goes into its page, and a short one is counted and posted. TRACE sets its queue and
switch where the queue is of class T. A video lane's change is shown, flagged and recorded. (R523, R524, R525, R526,
R531, R532, R533, R535, R539, R540) -/
def Obligations.LegacyPortEvents : Prop :=
  (∀ (b : Byte) (err : Bool) (s : State), s.legState = 0 → ∃ t, exec (.uartByte b err) s = .next t ∧ t = s) ∧
  (∀ (b : Byte) (s : State), s.legState ≠ 0 → s.leg.bytes = [] → b = 2 →
      ∃ t, exec (.uartByte b false) s = .next t ∧
      t = { s with leg := { s.leg with bytes := [2], byteAt := s.tick } }) ∧
  (∀ (b : Byte) (cmd : Nat) (s : State), s.legState ≠ 0 → s.leg.bytes = [2, 0, cmd] → s.tick ≤ s.leg.byteAt + 80 →
      s.leg.frames = [] → s.flag Reg.LEG_TRACE 15 = false → legChk cmd [] = b.toNat →
      ∃ t, exec (.uartByte b false) s = .next t ∧ t.leg.frames = [⟨cmd, [], true, s.tick⟩] ∧ t.leg.bytes = [] ∧
      (∀ a, t.rd a = s.rd a)) ∧
  (∀ (b : Byte) (s : State), s.legState ≠ 0 → s.leg.bytes = [] → ∃ t, exec (.uartByte b true) s = .next t ∧
      t.legError = max s.legError 0x62 ∧ t.leg.bytes = [] ∧ t.leg.frames = s.leg.frames) ∧
  (∀ (s : State), s.leg.bytes ≠ [] → s.leg.byteAt + 80 ≤ s.tick → s.legState ≠ 0 →
      ∃ t, exec .uartByteTimeout s = .next t ∧ t.leg.bytes = [] ∧ t.legError = max s.legError 0x62 ∧
      t.flag Reg.LEG_EVENTS 2 = true ∧ t.leg.frames = s.leg.frames ∧
      t.hwd.sent = s.hwd.sent ++ [⟨0x1305, s.tick, 0, [s.leg.bytes.getD 2 0, 0x62]⟩]) ∧
  (∀ (s : State), s.tick < s.leg.byteAt + 80 → ∃ t, exec .uartByteTimeout s = .next t ∧ t = s) ∧
  (∀ (r : LegReply) (rs : List LegReply) (s : State), s.leg.replies = r :: rs → r.due ≤ s.tick →
      s.flag Reg.LEG_TRACE 15 = false → r.status = none → ∃ t, exec .uartReply s = .next t ∧
      t.leg = { s.leg with replies := rs } ∧ t.out = .uartReply r.bytes :: s.out ∧ (∀ a, t.rd a = s.rd a)) ∧
  (∀ (r : LegReply) (rs : List LegReply) (x : Nat) (s : State), s.leg.replies = r :: rs → r.due ≤ s.tick →
      s.flag Reg.LEG_TRACE 15 = false → r.status = some x → s.leg.changedAt ≤ x → s.flag Reg.LEG_STATUS 6 = true →
      ∃ t, exec .uartReply s = .next t ∧ t.leg = { s.leg with replies := rs } ∧
      t.out = .legInt false :: .uartReply r.bytes :: s.out ∧ t.flag Reg.LEG_STATUS 6 = false) ∧
  (∀ (r : LegReply) (rs : List LegReply) (s : State), s.leg.replies = r :: rs → s.tick < r.due →
      ∃ t, exec .uartReply s = .next t ∧ t = s) ∧
  (∀ (s0 s : State), s0.begin .decide = s → s.legState = 3 → s.legWarm = true → s.legJammed = false →
      ∃ t, exec .legReady s0 = .next t ∧ t.legState = 4 ∧ t.leg.syncs = true ∧
      t.leg.edgeAt = s.tick * 640000 + s.legPeriod ∧ t.rd Reg.LEG_PERIOD = word s.legPeriod ∧ t.leg.goRun = 0) ∧
  (∀ (s0 s : State), s0.begin .decide = s → s.legState = 3 → s.legWarm = false → ∃ t, exec .legReady s0 = .next t ∧
      t = s) ∧
  (∀ (s0 s : State), s0.begin .decide = s → s.legState = 5 → s.holding = true →
      ∃ t, exec .legStandby s0 = .next t ∧ t.legState = 2 ∧ t.leg = s.leg ∧
      (∀ a, a ≠ Reg.LEG_STATUS → t.rd a = s.rd a)) ∧
  (∀ (s0 s : State), s0.begin .decide = s → s.holding = false → ∃ t, exec .legStandby s0 = .next t ∧ t = s) ∧
  (∀ (go : Bool) (s : State), s.leg.syncs = true → s.legState = 4 → s.leg.edgeAt < (s.tick + 1) * 640000 →
      s.leg.goRun = 0 → ∃ t, exec (.lsyncEdge go) s = .next t ∧ t.leg.edge = s.leg.edge + 1 ∧
      t.leg.edgeAt = s.leg.edgeAt + s.legPeriod ∧ t.flag Reg.LEG_STATUS 5 = go ∧ t.leg.pages = s.leg.pages ∧
      .lsync ∈ t.out) ∧
  (∀ (s : State), s.leg.syncs = true → s.legState = 4 → s.leg.edgeAt < (s.tick + 1) * 640000 → s.leg.goRun = 1 →
      s.leg.goSpent = false → s.flag Reg.LEG_STATUS 4 = true → ∃ t, exec (.lsyncEdge true) s = .next t ∧
      t.leg.pages = s.leg.pages ++ [⟨s.leg.nextId, s.legL, s.legW, s.legTop, s.leg.edge + 1, [0, 0, 0, 0], [[], [],
        [], []]⟩] ∧
      t.leg.qualified.length = s.leg.qualified.length + 1 ∧ t.leg.nextId = (s.leg.nextId + 1) % 2 ^ 32 ∧
      t.flag Reg.LEG_STATUS 4 = false ∧ t.leg.goSpent = true ∧ t.leg.goRun = 0) ∧
  (∀ (go : Bool) (s : State), (s.tick + 1) * 640000 ≤ s.leg.edgeAt → ∃ t, exec (.lsyncEdge go) s = .next t ∧ t = s) ∧
  (∀ (stn : Fin 4) (bytes : List Byte) (fault : Fin 3) (p :
    LegPage) (g : Nat) (rows : List (List Byte)) (n : LegPage) (s : State),
      s.nextGroup stn = some (p, g) → s.groupEdge p stn g ≤ s.leg.edge → fault = 0 → bytes.length = 4 * p.width →
      g % 4 ≠ 3 → g + 1 ≠ legGroups p.lines →
      (p.rows.getD stn [] ++ groupRows p.width bytes).take (p.lines - 16 * (g / 4)) = rows →
      { p with groups := p.groups.set stn (g + 1), rows := p.rows.set stn rows } = n →
      ∃ t, exec (.groupWindowClose stn bytes fault) s = .next t ∧
      (t.leg = { s.leg with pages := s.leg.pages.map (fun q => if q.id = p.id then n else q) }) ∧
      (∀ a, t.rd a = s.rd a)) ∧
  (∀ (stn : Fin 4) (bytes : List Byte) (fault : Fin 3) (p : LegPage) (g : Nat) (s : State),
      s.nextGroup stn = some (p, g) → s.groupEdge p stn g ≤ s.leg.edge → bytes.length < 4 * p.width → g % 4 ≠ 3 →
      g + 1 ≠ legGroups p.lines → fault ≠ 2 → s.flag Reg.LEG_TRACE 15 = false →
      ∃ t, exec (.groupWindowClose stn bytes fault) s = .next t ∧
      t.rd Reg.LEG_COUNT_UNDERRUN = s.rd Reg.LEG_COUNT_UNDERRUN + 1 ∧ t.flag Reg.LEG_EVENTS 1 = true ∧
      t.hwd.sent = s.hwd.sent ++ [⟨0x1303, s.tick, 0, [(stn : Nat), g, bytes.length]⟩] ∧
      (s.legState ≠ 0 → t.legError = max s.legError 0x20)) ∧
  (∀ (stn : Fin 4) (bytes : List Byte) (fault : Fin 3) (s : State), s.nextGroup stn = none →
      ∃ t, exec (.groupWindowClose stn bytes fault) s = .next t ∧ t = s) ∧
  (∀ (it : Item) (s : State), s.frontOf 0x13 20 2 = some it → it.opcode = 1 → 64 ≤ leAt it.data 0 2 →
      leAt it.data 0 2 ≤ 4095 → (s.cq (leAt it.data 0 2)).classT = true → ∃ t, exec .trace s = .next t ∧
      t.fld Reg.LEG_TRACE 11 0 = leAt it.data 0 2 ∧ t.flag Reg.LEG_TRACE 15 = decide (leAt it.data 2 1 % 2 = 1) ∧
      t.inboxOf 0x13 = (s.inboxOf 0x13).tail) ∧
  (∀ (s : State), s.frontOf 0x13 20 2 = none → ∃ t, exec .trace s = .next t ∧ t = s) ∧
  (∀ (lane : Fin 4) (st : Fin 3) (s : State), s.legState ≠ 0 → s.fld (Reg.LEG_LANE_STATE lane) 1 0 ≠ st →
      ∃ t, exec (.videoLaneStateChange lane st) s = .next t ∧ t.fld (Reg.LEG_LANE_STATE lane) 1 0 = st ∧
      t.flag Reg.LEG_EVENTS 5 = true ∧
      t.hwd.sent = s.hwd.sent ++ [⟨0x1306, s.tick, 0, [(lane : Nat), s.fld (Reg.LEG_LANE_STATE lane) 1 0, st]⟩]) ∧
  (∀ (lane : Fin 4) (st : Fin 3) (s : State), s.legState = 0 →
      ∃ t, exec (.videoLaneStateChange lane st) s = .next t ∧ t = s)

/-- READ_REG and WRITE_REG of the CE220 register window. A good READ_REG frame is ACKed with one byte of the 256-byte
window: the model, the personality's version, the SPEED code in force, W, L and TOP little-endian, the toner of the
stations, the page count little-endian, and 0x00 at every other address. A good WRITE_REG frame is ACKed whatever its
address and value, and changes nothing: every register but the count of commands, and every part of the state but the
frame and reply queues of the port, is as it was. (R530) -/
def Obligations.LegacyRegisterWindow : Prop :=
  (∀ (f : LegFrame) (a : Nat) (s : State), s.frontFrame = some f → f.good = true → f.cmd = 0x60 → f.payload = [a] →
      a < 256 → ∃ t, exec .readReg s = .next t ∧
      (∃ x, x = (if a = 0 then 0x20 else if a = 1 then 0x02
        else if a = 2 then s.fld Reg.LCS_PERS_VERSION 31 24
        else if a = 3 then s.fld Reg.LCS_PERS_VERSION 23 16
        else if a = 0x10 then (if s.grade = 7 then 1 else 0)
        else if a = 0x11 then s.fld Reg.LEG_PAGE 26 16 % 256
        else if a = 0x12 then s.fld Reg.LEG_PAGE 26 16 / 256
        else if a = 0x13 then s.fld Reg.LEG_PAGE 15 0 % 256
        else if a = 0x14 then s.fld Reg.LEG_PAGE 15 0 / 256
        else if a = 0x15 then s.fld Reg.LEG_TOP 11 0 % 256
        else if a = 0x16 then s.fld Reg.LEG_TOP 11 0 / 256 else if 0x20 ≤ a ∧
        a ≤ 0x23 then (if s.flag Reg.LEG_TONER (a - 0x20) = true then 1 else 0) else if 0x30 ≤ a ∧
        a ≤ 0x33 then s.rdN Reg.LEG_COUNT_PAGES / 256 ^ (a - 0x30) % 256 else 0) ∧ x < 256 ∧
        t.leg.replies = s.leg.replies ++ [⟨[6, 1, 0x60, x, legChk 0x60 [x]], s.tick + s.fld Reg.LEG_CFG 15 8,
        none⟩])) ∧
  (∀ (f : LegFrame) (a v : Nat) (s : State), s.frontFrame = some f → f.good = true → f.cmd = 0x61 →
      f.payload = [a, v] → ∃ t, exec .writeReg s = .next t ∧
      t.leg = { s.leg with
        frames := s.leg.frames.tail, decidedAt := s.tick + 1, replies := s.leg.replies ++ [⟨[6, 0, 0x61,
        legChk 0x61 []], s.tick + s.fld Reg.LEG_CFG 15 8, none⟩] } ∧
      (∀ a, a ≠ Reg.LEG_COUNT_CMD → t.rd a = s.rd a) ∧ t = { s with regs := t.regs, leg := t.leg })
end

