-- ==== Sys2Proof/Laws/Bits.lean ====
section
/-!
SUPPORT. Bit fields: what a field reads as after a field was written (R4, R8).
-/

set_option Elab.async false

namespace Sys2Proof.Machine

theorem testBit_bitsOf (n hi lo i : Nat) :
    (bitsOf n hi lo).testBit i = (decide (i < hi + 1 - lo) && n.testBit (lo + i)) := by
  simp [bitsOf, Nat.testBit_mod_two_pow, Nat.testBit_shiftRight]

theorem bitOf_eq (n i : Nat) : bitOf n i = n.testBit i := by
  simp only [bitOf, Nat.testBit_eq_decide_div_mod_eq, Nat.shiftRight_eq_div_pow]
  rfl

theorem testBit_putBits (n hi lo v i : Nat) (h : lo ≤ hi) :
    (putBits n hi lo v).testBit i = if i < lo then n.testBit i else if i ≤ hi then v.testBit (i - lo) else n.testBit i := by
  have hc : n % 2 ^ lo < 2 ^ lo := Nat.mod_lt _ (by positivity)
  have hb : v % 2 ^ (hi + 1 - lo) < 2 ^ (hi + 1 - lo) := Nat.mod_lt _ (by positivity)
  have e : putBits n hi lo v = (((n >>> (hi + 1)) <<< (hi + 1 - lo)) ||| (v % 2 ^ (hi + 1 - lo))) <<< lo ||| n % 2 ^ lo := by
    rw [← Nat.shiftLeft_add_eq_or_of_lt hb, ← Nat.shiftLeft_add_eq_or_of_lt hc]
    simp only [putBits, Nat.shiftLeft_eq]
    have hp : (2 : Nat) ^ (hi + 1) = 2 ^ (hi + 1 - lo) * 2 ^ lo := by rw [← pow_add]; congr 1; omega
    rw [hp]; ring
  rw [e]
  simp only [Nat.testBit_or, Nat.testBit_shiftLeft, Nat.testBit_mod_two_pow, Nat.testBit_shiftRight]
  by_cases h1 : i < lo
  · simp [h1]
  · have h2 : lo ≤ i := by omega
    by_cases h3 : i ≤ hi
    · have h4 : ¬ (hi + 1 - lo ≤ i - lo) := by omega
      have h5 : i - lo < hi + 1 - lo := by omega
      simp [h1, h2, h3, h4, h5]
    · have h4 : hi + 1 - lo ≤ i - lo := by omega
      have h5 : ¬ (i - lo < hi + 1 - lo) := by omega
      have h6 : hi + 1 + (i - lo - (hi + 1 - lo)) = i := by omega
      simp [h1, h2, h3, h4, h5, h6]

/-- A field reads as it was written. -/
theorem bitsOf_putBits_same (n hi lo v : Nat) (h : lo ≤ hi) :
    bitsOf (putBits n hi lo v) hi lo = v % 2 ^ (hi + 1 - lo) := by
  apply Nat.eq_of_testBit_eq
  intro i
  simp only [testBit_bitsOf, testBit_putBits _ _ _ _ _ h, Nat.testBit_mod_two_pow]
  by_cases hi1 : i < hi + 1 - lo
  · have h1 : ¬ (lo + i < lo) := by omega
    have h2 : lo + i ≤ hi := by omega
    simp [hi1, h2]
  · simp [hi1]

/-- A field that lies apart from the one written stays. -/
theorem bitsOf_putBits_other (n hi lo v hi' lo' : Nat) (h : lo ≤ hi) (hd : hi' < lo ∨ hi < lo') :
    bitsOf (putBits n hi lo v) hi' lo' = bitsOf n hi' lo' := by
  apply Nat.eq_of_testBit_eq
  intro i
  simp only [testBit_bitsOf, testBit_putBits _ _ _ _ _ h]
  by_cases hi1 : i < hi' + 1 - lo'
  · rcases hd with hd | hd
    · have h1 : lo' + i < lo := by omega
      simp [h1]
    · have h1 : ¬ (lo' + i < lo) := by omega
      have h2 : ¬ (lo' + i ≤ hi) := by omega
      simp [h1, h2]
  · simp [hi1]

theorem bitOf_putBits_same (n hi lo v i : Nat) (h : lo ≤ hi) (h1 : lo ≤ i) (h2 : i ≤ hi) :
    bitOf (putBits n hi lo v) i = v.testBit (i - lo) := by
  have h3 : ¬ i < lo := by omega
  simp [bitOf_eq, testBit_putBits _ _ _ _ _ h, h3, h2]

theorem bitOf_putBits_other (n hi lo v i : Nat) (h : lo ≤ hi) (hd : i < lo ∨ hi < i) :
    bitOf (putBits n hi lo v) i = bitOf n i := by
  rcases hd with hd | hd
  · simp [bitOf_eq, testBit_putBits _ _ _ _ _ h, hd]
  · have h1 : ¬ i < lo := by omega
    have h2 : ¬ i ≤ hi := by omega
    simp [bitOf_eq, testBit_putBits _ _ _ _ _ h, h1, h2]

/-- A field write within 32 bits stays within 32 bits. -/
theorem putBits_lt (n hi lo v : Nat) (h : lo ≤ hi) (hh : hi < 32) (hn : n < 2 ^ 32) : putBits n hi lo v < 2 ^ 32 := by
  apply Nat.lt_pow_two_of_testBit
  intro i hi'
  rw [testBit_putBits _ _ _ _ _ h]
  have h1 : ¬ i < lo := by omega
  have h2 : ¬ i ≤ hi := by omega
  simp only [h1, h2, if_false]
  exact Nat.testBit_lt_two_pow (lt_of_lt_of_le hn (Nat.pow_le_pow_right (by norm_num) hi'))

theorem bitsOf_lt (n hi lo : Nat) : bitsOf n hi lo < 2 ^ (hi + 1 - lo) := Nat.mod_lt _ (by positivity)

end Sys2Proof.Machine
end

