-- ==== Sys2Proof/Laws/State.lean ====
section
/-!
SUPPORT. One lemma per field and per named update of the state: what the update leaves as it was. Later proofs need unfold
no record update.
-/

set_option Elab.async false

namespace Sys2Proof.Machine

/-! ### wr -/

@[simp] theorem State.wr_pending (s : State) (a : Nat) (v : Word) : (s.wr a v).pending = s.pending := rfl
@[simp] theorem State.wr_tick (s : State) (a : Nat) (v : Word) : (s.wr a v).tick = s.tick := rfl
@[simp] theorem State.wr_fresh (s : State) (a : Nat) (v : Word) : (s.wr a v).fresh = s.fresh := rfl
@[simp] theorem State.wr_out (s : State) (a : Nat) (v : Word) : (s.wr a v).out = s.out := rfl
@[simp] theorem State.wr_sram (s : State) (a : Nat) (v : Word) : (s.wr a v).sram = s.sram := rfl
@[simp] theorem State.wr_host (s : State) (a : Nat) (v : Word) : (s.wr a v).host = s.host := rfl
@[simp] theorem State.wr_alm (s : State) (a : Nat) (v : Word) : (s.wr a v).alm = s.alm := rfl
@[simp] theorem State.wr_ledg (s : State) (a : Nat) (v : Word) : (s.wr a v).ledg = s.ledg := rfl
@[simp] theorem State.wr_pace (s : State) (a : Nat) (v : Word) : (s.wr a v).pace = s.pace := rfl
@[simp] theorem State.wr_flt (s : State) (a : Nat) (v : Word) : (s.wr a v).flt = s.flt := rfl
@[simp] theorem State.wr_hwd (s : State) (a : Nat) (v : Word) : (s.wr a v).hwd = s.hwd := rfl
@[simp] theorem State.wr_burl (s : State) (a : Nat) (v : Word) : (s.wr a v).burl = s.burl := rfl
@[simp] theorem State.wr_dram (s : State) (a : Nat) (v : Word) : (s.wr a v).dram = s.dram := rfl
@[simp] theorem State.wr_scan (s : State) (a : Nat) (v : Word) : (s.wr a v).scan = s.scan := rfl
@[simp] theorem State.wr_beam (s : State) (a : Nat) (v : Word) : (s.wr a v).beam = s.beam := rfl
@[simp] theorem State.wr_step (s : State) (a : Nat) (v : Word) : (s.wr a v).step = s.step := rfl
@[simp] theorem State.wr_sio (s : State) (a : Nat) (v : Word) : (s.wr a v).sio = s.sio := rfl
@[simp] theorem State.wr_axis (s : State) (a : Nat) (v : Word) : (s.wr a v).axis = s.axis := rfl
@[simp] theorem State.wr_loop (s : State) (a : Nat) (v : Word) : (s.wr a v).loop = s.loop := rfl
@[simp] theorem State.wr_cnpy (s : State) (a : Nat) (v : Word) : (s.wr a v).cnpy = s.cnpy := rfl
@[simp] theorem State.wr_dma (s : State) (a : Nat) (v : Word) : (s.wr a v).dma = s.dma := rfl
@[simp] theorem State.wr_pwr (s : State) (a : Nat) (v : Word) : (s.wr a v).pwr = s.pwr := rfl
@[simp] theorem State.wr_thm (s : State) (a : Nat) (v : Word) : (s.wr a v).thm = s.thm := rfl
@[simp] theorem State.wr_clk (s : State) (a : Nat) (v : Word) : (s.wr a v).clk = s.clk := rfl
@[simp] theorem State.wr_lcs (s : State) (a : Nat) (v : Word) : (s.wr a v).lcs = s.lcs := rfl
@[simp] theorem State.wr_leg (s : State) (a : Nat) (v : Word) : (s.wr a v).leg = s.leg := rfl

/-! ### wrN -/

@[simp] theorem State.wrN_pending (s : State) (a n : Nat) : (s.wrN a n).pending = s.pending := rfl
@[simp] theorem State.wrN_tick (s : State) (a n : Nat) : (s.wrN a n).tick = s.tick := rfl
@[simp] theorem State.wrN_fresh (s : State) (a n : Nat) : (s.wrN a n).fresh = s.fresh := rfl
@[simp] theorem State.wrN_out (s : State) (a n : Nat) : (s.wrN a n).out = s.out := rfl
@[simp] theorem State.wrN_sram (s : State) (a n : Nat) : (s.wrN a n).sram = s.sram := rfl
@[simp] theorem State.wrN_host (s : State) (a n : Nat) : (s.wrN a n).host = s.host := rfl
@[simp] theorem State.wrN_alm (s : State) (a n : Nat) : (s.wrN a n).alm = s.alm := rfl
@[simp] theorem State.wrN_ledg (s : State) (a n : Nat) : (s.wrN a n).ledg = s.ledg := rfl
@[simp] theorem State.wrN_pace (s : State) (a n : Nat) : (s.wrN a n).pace = s.pace := rfl
@[simp] theorem State.wrN_flt (s : State) (a n : Nat) : (s.wrN a n).flt = s.flt := rfl
@[simp] theorem State.wrN_hwd (s : State) (a n : Nat) : (s.wrN a n).hwd = s.hwd := rfl
@[simp] theorem State.wrN_burl (s : State) (a n : Nat) : (s.wrN a n).burl = s.burl := rfl
@[simp] theorem State.wrN_dram (s : State) (a n : Nat) : (s.wrN a n).dram = s.dram := rfl
@[simp] theorem State.wrN_scan (s : State) (a n : Nat) : (s.wrN a n).scan = s.scan := rfl
@[simp] theorem State.wrN_beam (s : State) (a n : Nat) : (s.wrN a n).beam = s.beam := rfl
@[simp] theorem State.wrN_step (s : State) (a n : Nat) : (s.wrN a n).step = s.step := rfl
@[simp] theorem State.wrN_sio (s : State) (a n : Nat) : (s.wrN a n).sio = s.sio := rfl
@[simp] theorem State.wrN_axis (s : State) (a n : Nat) : (s.wrN a n).axis = s.axis := rfl
@[simp] theorem State.wrN_loop (s : State) (a n : Nat) : (s.wrN a n).loop = s.loop := rfl
@[simp] theorem State.wrN_cnpy (s : State) (a n : Nat) : (s.wrN a n).cnpy = s.cnpy := rfl
@[simp] theorem State.wrN_dma (s : State) (a n : Nat) : (s.wrN a n).dma = s.dma := rfl
@[simp] theorem State.wrN_pwr (s : State) (a n : Nat) : (s.wrN a n).pwr = s.pwr := rfl
@[simp] theorem State.wrN_thm (s : State) (a n : Nat) : (s.wrN a n).thm = s.thm := rfl
@[simp] theorem State.wrN_clk (s : State) (a n : Nat) : (s.wrN a n).clk = s.clk := rfl
@[simp] theorem State.wrN_lcs (s : State) (a n : Nat) : (s.wrN a n).lcs = s.lcs := rfl
@[simp] theorem State.wrN_leg (s : State) (a n : Nat) : (s.wrN a n).leg = s.leg := rfl

/-! ### setFld -/

@[simp] theorem State.setFld_pending (s : State) (a hi lo v : Nat) : (s.setFld a hi lo v).pending = s.pending := rfl
@[simp] theorem State.setFld_tick (s : State) (a hi lo v : Nat) : (s.setFld a hi lo v).tick = s.tick := rfl
@[simp] theorem State.setFld_fresh (s : State) (a hi lo v : Nat) : (s.setFld a hi lo v).fresh = s.fresh := rfl
@[simp] theorem State.setFld_out (s : State) (a hi lo v : Nat) : (s.setFld a hi lo v).out = s.out := rfl
@[simp] theorem State.setFld_sram (s : State) (a hi lo v : Nat) : (s.setFld a hi lo v).sram = s.sram := rfl
@[simp] theorem State.setFld_host (s : State) (a hi lo v : Nat) : (s.setFld a hi lo v).host = s.host := rfl
@[simp] theorem State.setFld_alm (s : State) (a hi lo v : Nat) : (s.setFld a hi lo v).alm = s.alm := rfl
@[simp] theorem State.setFld_ledg (s : State) (a hi lo v : Nat) : (s.setFld a hi lo v).ledg = s.ledg := rfl
@[simp] theorem State.setFld_pace (s : State) (a hi lo v : Nat) : (s.setFld a hi lo v).pace = s.pace := rfl
@[simp] theorem State.setFld_flt (s : State) (a hi lo v : Nat) : (s.setFld a hi lo v).flt = s.flt := rfl
@[simp] theorem State.setFld_hwd (s : State) (a hi lo v : Nat) : (s.setFld a hi lo v).hwd = s.hwd := rfl
@[simp] theorem State.setFld_burl (s : State) (a hi lo v : Nat) : (s.setFld a hi lo v).burl = s.burl := rfl
@[simp] theorem State.setFld_dram (s : State) (a hi lo v : Nat) : (s.setFld a hi lo v).dram = s.dram := rfl
@[simp] theorem State.setFld_scan (s : State) (a hi lo v : Nat) : (s.setFld a hi lo v).scan = s.scan := rfl
@[simp] theorem State.setFld_beam (s : State) (a hi lo v : Nat) : (s.setFld a hi lo v).beam = s.beam := rfl
@[simp] theorem State.setFld_step (s : State) (a hi lo v : Nat) : (s.setFld a hi lo v).step = s.step := rfl
@[simp] theorem State.setFld_sio (s : State) (a hi lo v : Nat) : (s.setFld a hi lo v).sio = s.sio := rfl
@[simp] theorem State.setFld_axis (s : State) (a hi lo v : Nat) : (s.setFld a hi lo v).axis = s.axis := rfl
@[simp] theorem State.setFld_loop (s : State) (a hi lo v : Nat) : (s.setFld a hi lo v).loop = s.loop := rfl
@[simp] theorem State.setFld_cnpy (s : State) (a hi lo v : Nat) : (s.setFld a hi lo v).cnpy = s.cnpy := rfl
@[simp] theorem State.setFld_dma (s : State) (a hi lo v : Nat) : (s.setFld a hi lo v).dma = s.dma := rfl
@[simp] theorem State.setFld_pwr (s : State) (a hi lo v : Nat) : (s.setFld a hi lo v).pwr = s.pwr := rfl
@[simp] theorem State.setFld_thm (s : State) (a hi lo v : Nat) : (s.setFld a hi lo v).thm = s.thm := rfl
@[simp] theorem State.setFld_clk (s : State) (a hi lo v : Nat) : (s.setFld a hi lo v).clk = s.clk := rfl
@[simp] theorem State.setFld_lcs (s : State) (a hi lo v : Nat) : (s.setFld a hi lo v).lcs = s.lcs := rfl
@[simp] theorem State.setFld_leg (s : State) (a hi lo v : Nat) : (s.setFld a hi lo v).leg = s.leg := rfl

/-! ### setFlag -/

@[simp] theorem State.setFlag_pending (s : State) (a i : Nat) (b : Bool) : (s.setFlag a i b).pending = s.pending := rfl
@[simp] theorem State.setFlag_tick (s : State) (a i : Nat) (b : Bool) : (s.setFlag a i b).tick = s.tick := rfl
@[simp] theorem State.setFlag_fresh (s : State) (a i : Nat) (b : Bool) : (s.setFlag a i b).fresh = s.fresh := rfl
@[simp] theorem State.setFlag_out (s : State) (a i : Nat) (b : Bool) : (s.setFlag a i b).out = s.out := rfl
@[simp] theorem State.setFlag_sram (s : State) (a i : Nat) (b : Bool) : (s.setFlag a i b).sram = s.sram := rfl
@[simp] theorem State.setFlag_host (s : State) (a i : Nat) (b : Bool) : (s.setFlag a i b).host = s.host := rfl
@[simp] theorem State.setFlag_alm (s : State) (a i : Nat) (b : Bool) : (s.setFlag a i b).alm = s.alm := rfl
@[simp] theorem State.setFlag_ledg (s : State) (a i : Nat) (b : Bool) : (s.setFlag a i b).ledg = s.ledg := rfl
@[simp] theorem State.setFlag_pace (s : State) (a i : Nat) (b : Bool) : (s.setFlag a i b).pace = s.pace := rfl
@[simp] theorem State.setFlag_flt (s : State) (a i : Nat) (b : Bool) : (s.setFlag a i b).flt = s.flt := rfl
@[simp] theorem State.setFlag_hwd (s : State) (a i : Nat) (b : Bool) : (s.setFlag a i b).hwd = s.hwd := rfl
@[simp] theorem State.setFlag_burl (s : State) (a i : Nat) (b : Bool) : (s.setFlag a i b).burl = s.burl := rfl
@[simp] theorem State.setFlag_dram (s : State) (a i : Nat) (b : Bool) : (s.setFlag a i b).dram = s.dram := rfl
@[simp] theorem State.setFlag_scan (s : State) (a i : Nat) (b : Bool) : (s.setFlag a i b).scan = s.scan := rfl
@[simp] theorem State.setFlag_beam (s : State) (a i : Nat) (b : Bool) : (s.setFlag a i b).beam = s.beam := rfl
@[simp] theorem State.setFlag_step (s : State) (a i : Nat) (b : Bool) : (s.setFlag a i b).step = s.step := rfl
@[simp] theorem State.setFlag_sio (s : State) (a i : Nat) (b : Bool) : (s.setFlag a i b).sio = s.sio := rfl
@[simp] theorem State.setFlag_axis (s : State) (a i : Nat) (b : Bool) : (s.setFlag a i b).axis = s.axis := rfl
@[simp] theorem State.setFlag_loop (s : State) (a i : Nat) (b : Bool) : (s.setFlag a i b).loop = s.loop := rfl
@[simp] theorem State.setFlag_cnpy (s : State) (a i : Nat) (b : Bool) : (s.setFlag a i b).cnpy = s.cnpy := rfl
@[simp] theorem State.setFlag_dma (s : State) (a i : Nat) (b : Bool) : (s.setFlag a i b).dma = s.dma := rfl
@[simp] theorem State.setFlag_pwr (s : State) (a i : Nat) (b : Bool) : (s.setFlag a i b).pwr = s.pwr := rfl
@[simp] theorem State.setFlag_thm (s : State) (a i : Nat) (b : Bool) : (s.setFlag a i b).thm = s.thm := rfl
@[simp] theorem State.setFlag_clk (s : State) (a i : Nat) (b : Bool) : (s.setFlag a i b).clk = s.clk := rfl
@[simp] theorem State.setFlag_lcs (s : State) (a i : Nat) (b : Bool) : (s.setFlag a i b).lcs = s.lcs := rfl
@[simp] theorem State.setFlag_leg (s : State) (a i : Nat) (b : Bool) : (s.setFlag a i b).leg = s.leg := rfl

/-! ### bump -/

@[simp] theorem State.bump_pending (s : State) (a hi lo : Nat) : (s.bump a hi lo).pending = s.pending := rfl
@[simp] theorem State.bump_tick (s : State) (a hi lo : Nat) : (s.bump a hi lo).tick = s.tick := rfl
@[simp] theorem State.bump_fresh (s : State) (a hi lo : Nat) : (s.bump a hi lo).fresh = s.fresh := rfl
@[simp] theorem State.bump_out (s : State) (a hi lo : Nat) : (s.bump a hi lo).out = s.out := rfl
@[simp] theorem State.bump_sram (s : State) (a hi lo : Nat) : (s.bump a hi lo).sram = s.sram := rfl
@[simp] theorem State.bump_host (s : State) (a hi lo : Nat) : (s.bump a hi lo).host = s.host := rfl
@[simp] theorem State.bump_alm (s : State) (a hi lo : Nat) : (s.bump a hi lo).alm = s.alm := rfl
@[simp] theorem State.bump_ledg (s : State) (a hi lo : Nat) : (s.bump a hi lo).ledg = s.ledg := rfl
@[simp] theorem State.bump_pace (s : State) (a hi lo : Nat) : (s.bump a hi lo).pace = s.pace := rfl
@[simp] theorem State.bump_flt (s : State) (a hi lo : Nat) : (s.bump a hi lo).flt = s.flt := rfl
@[simp] theorem State.bump_hwd (s : State) (a hi lo : Nat) : (s.bump a hi lo).hwd = s.hwd := rfl
@[simp] theorem State.bump_burl (s : State) (a hi lo : Nat) : (s.bump a hi lo).burl = s.burl := rfl
@[simp] theorem State.bump_dram (s : State) (a hi lo : Nat) : (s.bump a hi lo).dram = s.dram := rfl
@[simp] theorem State.bump_scan (s : State) (a hi lo : Nat) : (s.bump a hi lo).scan = s.scan := rfl
@[simp] theorem State.bump_beam (s : State) (a hi lo : Nat) : (s.bump a hi lo).beam = s.beam := rfl
@[simp] theorem State.bump_step (s : State) (a hi lo : Nat) : (s.bump a hi lo).step = s.step := rfl
@[simp] theorem State.bump_sio (s : State) (a hi lo : Nat) : (s.bump a hi lo).sio = s.sio := rfl
@[simp] theorem State.bump_axis (s : State) (a hi lo : Nat) : (s.bump a hi lo).axis = s.axis := rfl
@[simp] theorem State.bump_loop (s : State) (a hi lo : Nat) : (s.bump a hi lo).loop = s.loop := rfl
@[simp] theorem State.bump_cnpy (s : State) (a hi lo : Nat) : (s.bump a hi lo).cnpy = s.cnpy := rfl
@[simp] theorem State.bump_dma (s : State) (a hi lo : Nat) : (s.bump a hi lo).dma = s.dma := rfl
@[simp] theorem State.bump_pwr (s : State) (a hi lo : Nat) : (s.bump a hi lo).pwr = s.pwr := rfl
@[simp] theorem State.bump_thm (s : State) (a hi lo : Nat) : (s.bump a hi lo).thm = s.thm := rfl
@[simp] theorem State.bump_clk (s : State) (a hi lo : Nat) : (s.bump a hi lo).clk = s.clk := rfl
@[simp] theorem State.bump_lcs (s : State) (a hi lo : Nat) : (s.bump a hi lo).lcs = s.lcs := rfl
@[simp] theorem State.bump_leg (s : State) (a hi lo : Nat) : (s.bump a hi lo).leg = s.leg := rfl

/-! ### drawn -/

@[simp] theorem State.drawn_pending (s : State) (k : Nat) : (s.drawn k).pending = s.pending := rfl
@[simp] theorem State.drawn_tick (s : State) (k : Nat) : (s.drawn k).tick = s.tick := rfl
@[simp] theorem State.drawn_out (s : State) (k : Nat) : (s.drawn k).out = s.out := rfl
@[simp] theorem State.drawn_regs (s : State) (k : Nat) : (s.drawn k).regs = s.regs := rfl
@[simp] theorem State.drawn_sram (s : State) (k : Nat) : (s.drawn k).sram = s.sram := rfl
@[simp] theorem State.drawn_host (s : State) (k : Nat) : (s.drawn k).host = s.host := rfl
@[simp] theorem State.drawn_alm (s : State) (k : Nat) : (s.drawn k).alm = s.alm := rfl
@[simp] theorem State.drawn_ledg (s : State) (k : Nat) : (s.drawn k).ledg = s.ledg := rfl
@[simp] theorem State.drawn_pace (s : State) (k : Nat) : (s.drawn k).pace = s.pace := rfl
@[simp] theorem State.drawn_flt (s : State) (k : Nat) : (s.drawn k).flt = s.flt := rfl
@[simp] theorem State.drawn_hwd (s : State) (k : Nat) : (s.drawn k).hwd = s.hwd := rfl
@[simp] theorem State.drawn_burl (s : State) (k : Nat) : (s.drawn k).burl = s.burl := rfl
@[simp] theorem State.drawn_dram (s : State) (k : Nat) : (s.drawn k).dram = s.dram := rfl
@[simp] theorem State.drawn_scan (s : State) (k : Nat) : (s.drawn k).scan = s.scan := rfl
@[simp] theorem State.drawn_beam (s : State) (k : Nat) : (s.drawn k).beam = s.beam := rfl
@[simp] theorem State.drawn_step (s : State) (k : Nat) : (s.drawn k).step = s.step := rfl
@[simp] theorem State.drawn_sio (s : State) (k : Nat) : (s.drawn k).sio = s.sio := rfl
@[simp] theorem State.drawn_axis (s : State) (k : Nat) : (s.drawn k).axis = s.axis := rfl
@[simp] theorem State.drawn_loop (s : State) (k : Nat) : (s.drawn k).loop = s.loop := rfl
@[simp] theorem State.drawn_cnpy (s : State) (k : Nat) : (s.drawn k).cnpy = s.cnpy := rfl
@[simp] theorem State.drawn_dma (s : State) (k : Nat) : (s.drawn k).dma = s.dma := rfl
@[simp] theorem State.drawn_pwr (s : State) (k : Nat) : (s.drawn k).pwr = s.pwr := rfl
@[simp] theorem State.drawn_thm (s : State) (k : Nat) : (s.drawn k).thm = s.thm := rfl
@[simp] theorem State.drawn_clk (s : State) (k : Nat) : (s.drawn k).clk = s.clk := rfl
@[simp] theorem State.drawn_lcs (s : State) (k : Nat) : (s.drawn k).lcs = s.lcs := rfl
@[simp] theorem State.drawn_leg (s : State) (k : Nat) : (s.drawn k).leg = s.leg := rfl

/-! ### emit -/

@[simp] theorem State.emit_pending (s : State) (o : Out) : (s.emit o).pending = s.pending := rfl
@[simp] theorem State.emit_tick (s : State) (o : Out) : (s.emit o).tick = s.tick := rfl
@[simp] theorem State.emit_fresh (s : State) (o : Out) : (s.emit o).fresh = s.fresh := rfl
@[simp] theorem State.emit_regs (s : State) (o : Out) : (s.emit o).regs = s.regs := rfl
@[simp] theorem State.emit_sram (s : State) (o : Out) : (s.emit o).sram = s.sram := rfl
@[simp] theorem State.emit_host (s : State) (o : Out) : (s.emit o).host = s.host := rfl
@[simp] theorem State.emit_alm (s : State) (o : Out) : (s.emit o).alm = s.alm := rfl
@[simp] theorem State.emit_ledg (s : State) (o : Out) : (s.emit o).ledg = s.ledg := rfl
@[simp] theorem State.emit_pace (s : State) (o : Out) : (s.emit o).pace = s.pace := rfl
@[simp] theorem State.emit_flt (s : State) (o : Out) : (s.emit o).flt = s.flt := rfl
@[simp] theorem State.emit_hwd (s : State) (o : Out) : (s.emit o).hwd = s.hwd := rfl
@[simp] theorem State.emit_burl (s : State) (o : Out) : (s.emit o).burl = s.burl := rfl
@[simp] theorem State.emit_dram (s : State) (o : Out) : (s.emit o).dram = s.dram := rfl
@[simp] theorem State.emit_scan (s : State) (o : Out) : (s.emit o).scan = s.scan := rfl
@[simp] theorem State.emit_beam (s : State) (o : Out) : (s.emit o).beam = s.beam := rfl
@[simp] theorem State.emit_step (s : State) (o : Out) : (s.emit o).step = s.step := rfl
@[simp] theorem State.emit_sio (s : State) (o : Out) : (s.emit o).sio = s.sio := rfl
@[simp] theorem State.emit_axis (s : State) (o : Out) : (s.emit o).axis = s.axis := rfl
@[simp] theorem State.emit_loop (s : State) (o : Out) : (s.emit o).loop = s.loop := rfl
@[simp] theorem State.emit_cnpy (s : State) (o : Out) : (s.emit o).cnpy = s.cnpy := rfl
@[simp] theorem State.emit_dma (s : State) (o : Out) : (s.emit o).dma = s.dma := rfl
@[simp] theorem State.emit_pwr (s : State) (o : Out) : (s.emit o).pwr = s.pwr := rfl
@[simp] theorem State.emit_thm (s : State) (o : Out) : (s.emit o).thm = s.thm := rfl
@[simp] theorem State.emit_clk (s : State) (o : Out) : (s.emit o).clk = s.clk := rfl
@[simp] theorem State.emit_lcs (s : State) (o : Out) : (s.emit o).lcs = s.lcs := rfl
@[simp] theorem State.emit_leg (s : State) (o : Out) : (s.emit o).leg = s.leg := rfl

/-! ### fault -/

@[simp] theorem State.fault_pending (s : State) (source kind addr : Nat) : (s.fault source kind addr).pending = s.pending := rfl
@[simp] theorem State.fault_tick (s : State) (source kind addr : Nat) : (s.fault source kind addr).tick = s.tick := rfl
@[simp] theorem State.fault_fresh (s : State) (source kind addr : Nat) : (s.fault source kind addr).fresh = s.fresh := rfl
@[simp] theorem State.fault_out (s : State) (source kind addr : Nat) : (s.fault source kind addr).out = s.out := rfl
@[simp] theorem State.fault_regs (s : State) (source kind addr : Nat) : (s.fault source kind addr).regs = s.regs := rfl
@[simp] theorem State.fault_sram (s : State) (source kind addr : Nat) : (s.fault source kind addr).sram = s.sram := rfl
@[simp] theorem State.fault_host (s : State) (source kind addr : Nat) : (s.fault source kind addr).host = s.host := rfl
@[simp] theorem State.fault_alm (s : State) (source kind addr : Nat) : (s.fault source kind addr).alm = s.alm := rfl
@[simp] theorem State.fault_ledg (s : State) (source kind addr : Nat) : (s.fault source kind addr).ledg = s.ledg := rfl
@[simp] theorem State.fault_pace (s : State) (source kind addr : Nat) : (s.fault source kind addr).pace = s.pace := rfl
@[simp] theorem State.fault_hwd (s : State) (source kind addr : Nat) : (s.fault source kind addr).hwd = s.hwd := rfl
@[simp] theorem State.fault_burl (s : State) (source kind addr : Nat) : (s.fault source kind addr).burl = s.burl := rfl
@[simp] theorem State.fault_dram (s : State) (source kind addr : Nat) : (s.fault source kind addr).dram = s.dram := rfl
@[simp] theorem State.fault_scan (s : State) (source kind addr : Nat) : (s.fault source kind addr).scan = s.scan := rfl
@[simp] theorem State.fault_beam (s : State) (source kind addr : Nat) : (s.fault source kind addr).beam = s.beam := rfl
@[simp] theorem State.fault_step (s : State) (source kind addr : Nat) : (s.fault source kind addr).step = s.step := rfl
@[simp] theorem State.fault_sio (s : State) (source kind addr : Nat) : (s.fault source kind addr).sio = s.sio := rfl
@[simp] theorem State.fault_axis (s : State) (source kind addr : Nat) : (s.fault source kind addr).axis = s.axis := rfl
@[simp] theorem State.fault_loop (s : State) (source kind addr : Nat) : (s.fault source kind addr).loop = s.loop := rfl
@[simp] theorem State.fault_cnpy (s : State) (source kind addr : Nat) : (s.fault source kind addr).cnpy = s.cnpy := rfl
@[simp] theorem State.fault_dma (s : State) (source kind addr : Nat) : (s.fault source kind addr).dma = s.dma := rfl
@[simp] theorem State.fault_pwr (s : State) (source kind addr : Nat) : (s.fault source kind addr).pwr = s.pwr := rfl
@[simp] theorem State.fault_thm (s : State) (source kind addr : Nat) : (s.fault source kind addr).thm = s.thm := rfl
@[simp] theorem State.fault_clk (s : State) (source kind addr : Nat) : (s.fault source kind addr).clk = s.clk := rfl
@[simp] theorem State.fault_lcs (s : State) (source kind addr : Nat) : (s.fault source kind addr).lcs = s.lcs := rfl
@[simp] theorem State.fault_leg (s : State) (source kind addr : Nat) : (s.fault source kind addr).leg = s.leg := rfl

/-! ### event -/

@[simp] theorem State.event_pending (s : State) (code : Nat) (fields : List Nat) (sub : Nat) : (s.event code fields sub).pending = s.pending := rfl
@[simp] theorem State.event_tick (s : State) (code : Nat) (fields : List Nat) (sub : Nat) : (s.event code fields sub).tick = s.tick := rfl
@[simp] theorem State.event_fresh (s : State) (code : Nat) (fields : List Nat) (sub : Nat) : (s.event code fields sub).fresh = s.fresh := rfl
@[simp] theorem State.event_out (s : State) (code : Nat) (fields : List Nat) (sub : Nat) : (s.event code fields sub).out = s.out := rfl
@[simp] theorem State.event_regs (s : State) (code : Nat) (fields : List Nat) (sub : Nat) : (s.event code fields sub).regs = s.regs := rfl
@[simp] theorem State.event_sram (s : State) (code : Nat) (fields : List Nat) (sub : Nat) : (s.event code fields sub).sram = s.sram := rfl
@[simp] theorem State.event_host (s : State) (code : Nat) (fields : List Nat) (sub : Nat) : (s.event code fields sub).host = s.host := rfl
@[simp] theorem State.event_alm (s : State) (code : Nat) (fields : List Nat) (sub : Nat) : (s.event code fields sub).alm = s.alm := rfl
@[simp] theorem State.event_ledg (s : State) (code : Nat) (fields : List Nat) (sub : Nat) : (s.event code fields sub).ledg = s.ledg := rfl
@[simp] theorem State.event_pace (s : State) (code : Nat) (fields : List Nat) (sub : Nat) : (s.event code fields sub).pace = s.pace := rfl
@[simp] theorem State.event_flt (s : State) (code : Nat) (fields : List Nat) (sub : Nat) : (s.event code fields sub).flt = s.flt := rfl
@[simp] theorem State.event_burl (s : State) (code : Nat) (fields : List Nat) (sub : Nat) : (s.event code fields sub).burl = s.burl := rfl
@[simp] theorem State.event_dram (s : State) (code : Nat) (fields : List Nat) (sub : Nat) : (s.event code fields sub).dram = s.dram := rfl
@[simp] theorem State.event_scan (s : State) (code : Nat) (fields : List Nat) (sub : Nat) : (s.event code fields sub).scan = s.scan := rfl
@[simp] theorem State.event_beam (s : State) (code : Nat) (fields : List Nat) (sub : Nat) : (s.event code fields sub).beam = s.beam := rfl
@[simp] theorem State.event_step (s : State) (code : Nat) (fields : List Nat) (sub : Nat) : (s.event code fields sub).step = s.step := rfl
@[simp] theorem State.event_sio (s : State) (code : Nat) (fields : List Nat) (sub : Nat) : (s.event code fields sub).sio = s.sio := rfl
@[simp] theorem State.event_axis (s : State) (code : Nat) (fields : List Nat) (sub : Nat) : (s.event code fields sub).axis = s.axis := rfl
@[simp] theorem State.event_loop (s : State) (code : Nat) (fields : List Nat) (sub : Nat) : (s.event code fields sub).loop = s.loop := rfl
@[simp] theorem State.event_cnpy (s : State) (code : Nat) (fields : List Nat) (sub : Nat) : (s.event code fields sub).cnpy = s.cnpy := rfl
@[simp] theorem State.event_dma (s : State) (code : Nat) (fields : List Nat) (sub : Nat) : (s.event code fields sub).dma = s.dma := rfl
@[simp] theorem State.event_pwr (s : State) (code : Nat) (fields : List Nat) (sub : Nat) : (s.event code fields sub).pwr = s.pwr := rfl
@[simp] theorem State.event_thm (s : State) (code : Nat) (fields : List Nat) (sub : Nat) : (s.event code fields sub).thm = s.thm := rfl
@[simp] theorem State.event_clk (s : State) (code : Nat) (fields : List Nat) (sub : Nat) : (s.event code fields sub).clk = s.clk := rfl
@[simp] theorem State.event_lcs (s : State) (code : Nat) (fields : List Nat) (sub : Nat) : (s.event code fields sub).lcs = s.lcs := rfl
@[simp] theorem State.event_leg (s : State) (code : Nat) (fields : List Nat) (sub : Nat) : (s.event code fields sub).leg = s.leg := rfl

/-! ### report -/

@[simp] theorem State.report_pending (s : State) (kind : ReportKind) (sheet station band : Nat) : (s.report kind sheet station band).pending = s.pending := rfl
@[simp] theorem State.report_tick (s : State) (kind : ReportKind) (sheet station band : Nat) : (s.report kind sheet station band).tick = s.tick := rfl
@[simp] theorem State.report_fresh (s : State) (kind : ReportKind) (sheet station band : Nat) : (s.report kind sheet station band).fresh = s.fresh := rfl
@[simp] theorem State.report_out (s : State) (kind : ReportKind) (sheet station band : Nat) : (s.report kind sheet station band).out = s.out := rfl
@[simp] theorem State.report_regs (s : State) (kind : ReportKind) (sheet station band : Nat) : (s.report kind sheet station band).regs = s.regs := rfl
@[simp] theorem State.report_sram (s : State) (kind : ReportKind) (sheet station band : Nat) : (s.report kind sheet station band).sram = s.sram := rfl
@[simp] theorem State.report_host (s : State) (kind : ReportKind) (sheet station band : Nat) : (s.report kind sheet station band).host = s.host := rfl
@[simp] theorem State.report_alm (s : State) (kind : ReportKind) (sheet station band : Nat) : (s.report kind sheet station band).alm = s.alm := rfl
@[simp] theorem State.report_pace (s : State) (kind : ReportKind) (sheet station band : Nat) : (s.report kind sheet station band).pace = s.pace := rfl
@[simp] theorem State.report_flt (s : State) (kind : ReportKind) (sheet station band : Nat) : (s.report kind sheet station band).flt = s.flt := rfl
@[simp] theorem State.report_hwd (s : State) (kind : ReportKind) (sheet station band : Nat) : (s.report kind sheet station band).hwd = s.hwd := rfl
@[simp] theorem State.report_burl (s : State) (kind : ReportKind) (sheet station band : Nat) : (s.report kind sheet station band).burl = s.burl := rfl
@[simp] theorem State.report_dram (s : State) (kind : ReportKind) (sheet station band : Nat) : (s.report kind sheet station band).dram = s.dram := rfl
@[simp] theorem State.report_scan (s : State) (kind : ReportKind) (sheet station band : Nat) : (s.report kind sheet station band).scan = s.scan := rfl
@[simp] theorem State.report_beam (s : State) (kind : ReportKind) (sheet station band : Nat) : (s.report kind sheet station band).beam = s.beam := rfl
@[simp] theorem State.report_step (s : State) (kind : ReportKind) (sheet station band : Nat) : (s.report kind sheet station band).step = s.step := rfl
@[simp] theorem State.report_sio (s : State) (kind : ReportKind) (sheet station band : Nat) : (s.report kind sheet station band).sio = s.sio := rfl
@[simp] theorem State.report_axis (s : State) (kind : ReportKind) (sheet station band : Nat) : (s.report kind sheet station band).axis = s.axis := rfl
@[simp] theorem State.report_loop (s : State) (kind : ReportKind) (sheet station band : Nat) : (s.report kind sheet station band).loop = s.loop := rfl
@[simp] theorem State.report_cnpy (s : State) (kind : ReportKind) (sheet station band : Nat) : (s.report kind sheet station band).cnpy = s.cnpy := rfl
@[simp] theorem State.report_dma (s : State) (kind : ReportKind) (sheet station band : Nat) : (s.report kind sheet station band).dma = s.dma := rfl
@[simp] theorem State.report_pwr (s : State) (kind : ReportKind) (sheet station band : Nat) : (s.report kind sheet station band).pwr = s.pwr := rfl
@[simp] theorem State.report_thm (s : State) (kind : ReportKind) (sheet station band : Nat) : (s.report kind sheet station band).thm = s.thm := rfl
@[simp] theorem State.report_clk (s : State) (kind : ReportKind) (sheet station band : Nat) : (s.report kind sheet station band).clk = s.clk := rfl
@[simp] theorem State.report_lcs (s : State) (kind : ReportKind) (sheet station band : Nat) : (s.report kind sheet station band).lcs = s.lcs := rfl
@[simp] theorem State.report_leg (s : State) (kind : ReportKind) (sheet station band : Nat) : (s.report kind sheet station band).leg = s.leg := rfl

/-! ### vector -/

@[simp] theorem State.vector_pending (s : State) (v : Nat) : (s.vector v).pending = s.pending := by unfold State.vector; split <;> rfl
@[simp] theorem State.vector_tick (s : State) (v : Nat) : (s.vector v).tick = s.tick := by unfold State.vector; split <;> rfl
@[simp] theorem State.vector_fresh (s : State) (v : Nat) : (s.vector v).fresh = s.fresh := by unfold State.vector; split <;> rfl
@[simp] theorem State.vector_out (s : State) (v : Nat) : (s.vector v).out = s.out := by unfold State.vector; split <;> rfl
@[simp] theorem State.vector_regs (s : State) (v : Nat) : (s.vector v).regs = s.regs := by unfold State.vector; split <;> rfl
@[simp] theorem State.vector_sram (s : State) (v : Nat) : (s.vector v).sram = s.sram := by unfold State.vector; split <;> rfl
@[simp] theorem State.vector_alm (s : State) (v : Nat) : (s.vector v).alm = s.alm := by unfold State.vector; split <;> rfl
@[simp] theorem State.vector_ledg (s : State) (v : Nat) : (s.vector v).ledg = s.ledg := by unfold State.vector; split <;> rfl
@[simp] theorem State.vector_pace (s : State) (v : Nat) : (s.vector v).pace = s.pace := by unfold State.vector; split <;> rfl
@[simp] theorem State.vector_flt (s : State) (v : Nat) : (s.vector v).flt = s.flt := by unfold State.vector; split <;> rfl
@[simp] theorem State.vector_hwd (s : State) (v : Nat) : (s.vector v).hwd = s.hwd := by unfold State.vector; split <;> rfl
@[simp] theorem State.vector_burl (s : State) (v : Nat) : (s.vector v).burl = s.burl := by unfold State.vector; split <;> rfl
@[simp] theorem State.vector_dram (s : State) (v : Nat) : (s.vector v).dram = s.dram := by unfold State.vector; split <;> rfl
@[simp] theorem State.vector_scan (s : State) (v : Nat) : (s.vector v).scan = s.scan := by unfold State.vector; split <;> rfl
@[simp] theorem State.vector_beam (s : State) (v : Nat) : (s.vector v).beam = s.beam := by unfold State.vector; split <;> rfl
@[simp] theorem State.vector_step (s : State) (v : Nat) : (s.vector v).step = s.step := by unfold State.vector; split <;> rfl
@[simp] theorem State.vector_sio (s : State) (v : Nat) : (s.vector v).sio = s.sio := by unfold State.vector; split <;> rfl
@[simp] theorem State.vector_axis (s : State) (v : Nat) : (s.vector v).axis = s.axis := by unfold State.vector; split <;> rfl
@[simp] theorem State.vector_loop (s : State) (v : Nat) : (s.vector v).loop = s.loop := by unfold State.vector; split <;> rfl
@[simp] theorem State.vector_cnpy (s : State) (v : Nat) : (s.vector v).cnpy = s.cnpy := by unfold State.vector; split <;> rfl
@[simp] theorem State.vector_dma (s : State) (v : Nat) : (s.vector v).dma = s.dma := by unfold State.vector; split <;> rfl
@[simp] theorem State.vector_pwr (s : State) (v : Nat) : (s.vector v).pwr = s.pwr := by unfold State.vector; split <;> rfl
@[simp] theorem State.vector_thm (s : State) (v : Nat) : (s.vector v).thm = s.thm := by unfold State.vector; split <;> rfl
@[simp] theorem State.vector_clk (s : State) (v : Nat) : (s.vector v).clk = s.clk := by unfold State.vector; split <;> rfl
@[simp] theorem State.vector_lcs (s : State) (v : Nat) : (s.vector v).lcs = s.lcs := by unfold State.vector; split <;> rfl
@[simp] theorem State.vector_leg (s : State) (v : Nat) : (s.vector v).leg = s.leg := by unfold State.vector; split <;> rfl

/-! ### raise -/

@[simp] theorem State.raise_pending (s : State) (a m : Nat) : (s.raise a m).pending = s.pending := by unfold State.raise; dsimp only; split <;> simp
@[simp] theorem State.raise_tick (s : State) (a m : Nat) : (s.raise a m).tick = s.tick := by unfold State.raise; dsimp only; split <;> simp
@[simp] theorem State.raise_fresh (s : State) (a m : Nat) : (s.raise a m).fresh = s.fresh := by unfold State.raise; dsimp only; split <;> simp
@[simp] theorem State.raise_out (s : State) (a m : Nat) : (s.raise a m).out = s.out := by unfold State.raise; dsimp only; split <;> simp
@[simp] theorem State.raise_sram (s : State) (a m : Nat) : (s.raise a m).sram = s.sram := by unfold State.raise; dsimp only; split <;> simp
@[simp] theorem State.raise_alm (s : State) (a m : Nat) : (s.raise a m).alm = s.alm := by unfold State.raise; dsimp only; split <;> simp
@[simp] theorem State.raise_ledg (s : State) (a m : Nat) : (s.raise a m).ledg = s.ledg := by unfold State.raise; dsimp only; split <;> simp
@[simp] theorem State.raise_pace (s : State) (a m : Nat) : (s.raise a m).pace = s.pace := by unfold State.raise; dsimp only; split <;> simp
@[simp] theorem State.raise_flt (s : State) (a m : Nat) : (s.raise a m).flt = s.flt := by unfold State.raise; dsimp only; split <;> simp
@[simp] theorem State.raise_hwd (s : State) (a m : Nat) : (s.raise a m).hwd = s.hwd := by unfold State.raise; dsimp only; split <;> simp
@[simp] theorem State.raise_burl (s : State) (a m : Nat) : (s.raise a m).burl = s.burl := by unfold State.raise; dsimp only; split <;> simp
@[simp] theorem State.raise_dram (s : State) (a m : Nat) : (s.raise a m).dram = s.dram := by unfold State.raise; dsimp only; split <;> simp
@[simp] theorem State.raise_scan (s : State) (a m : Nat) : (s.raise a m).scan = s.scan := by unfold State.raise; dsimp only; split <;> simp
@[simp] theorem State.raise_beam (s : State) (a m : Nat) : (s.raise a m).beam = s.beam := by unfold State.raise; dsimp only; split <;> simp
@[simp] theorem State.raise_step (s : State) (a m : Nat) : (s.raise a m).step = s.step := by unfold State.raise; dsimp only; split <;> simp
@[simp] theorem State.raise_sio (s : State) (a m : Nat) : (s.raise a m).sio = s.sio := by unfold State.raise; dsimp only; split <;> simp
@[simp] theorem State.raise_axis (s : State) (a m : Nat) : (s.raise a m).axis = s.axis := by unfold State.raise; dsimp only; split <;> simp
@[simp] theorem State.raise_loop (s : State) (a m : Nat) : (s.raise a m).loop = s.loop := by unfold State.raise; dsimp only; split <;> simp
@[simp] theorem State.raise_cnpy (s : State) (a m : Nat) : (s.raise a m).cnpy = s.cnpy := by unfold State.raise; dsimp only; split <;> simp
@[simp] theorem State.raise_dma (s : State) (a m : Nat) : (s.raise a m).dma = s.dma := by unfold State.raise; dsimp only; split <;> simp
@[simp] theorem State.raise_pwr (s : State) (a m : Nat) : (s.raise a m).pwr = s.pwr := by unfold State.raise; dsimp only; split <;> simp
@[simp] theorem State.raise_thm (s : State) (a m : Nat) : (s.raise a m).thm = s.thm := by unfold State.raise; dsimp only; split <;> simp
@[simp] theorem State.raise_clk (s : State) (a m : Nat) : (s.raise a m).clk = s.clk := by unfold State.raise; dsimp only; split <;> simp
@[simp] theorem State.raise_lcs (s : State) (a m : Nat) : (s.raise a m).lcs = s.lcs := by unfold State.raise; dsimp only; split <;> simp
@[simp] theorem State.raise_leg (s : State) (a m : Nat) : (s.raise a m).leg = s.leg := by unfold State.raise; dsimp only; split <;> simp

/-! ### raiseBit -/

@[simp] theorem State.raiseBit_pending (s : State) (a i : Nat) : (s.raiseBit a i).pending = s.pending := by simp [State.raiseBit]
@[simp] theorem State.raiseBit_tick (s : State) (a i : Nat) : (s.raiseBit a i).tick = s.tick := by simp [State.raiseBit]
@[simp] theorem State.raiseBit_fresh (s : State) (a i : Nat) : (s.raiseBit a i).fresh = s.fresh := by simp [State.raiseBit]
@[simp] theorem State.raiseBit_out (s : State) (a i : Nat) : (s.raiseBit a i).out = s.out := by simp [State.raiseBit]
@[simp] theorem State.raiseBit_sram (s : State) (a i : Nat) : (s.raiseBit a i).sram = s.sram := by simp [State.raiseBit]
@[simp] theorem State.raiseBit_alm (s : State) (a i : Nat) : (s.raiseBit a i).alm = s.alm := by simp [State.raiseBit]
@[simp] theorem State.raiseBit_ledg (s : State) (a i : Nat) : (s.raiseBit a i).ledg = s.ledg := by simp [State.raiseBit]
@[simp] theorem State.raiseBit_pace (s : State) (a i : Nat) : (s.raiseBit a i).pace = s.pace := by simp [State.raiseBit]
@[simp] theorem State.raiseBit_flt (s : State) (a i : Nat) : (s.raiseBit a i).flt = s.flt := by simp [State.raiseBit]
@[simp] theorem State.raiseBit_hwd (s : State) (a i : Nat) : (s.raiseBit a i).hwd = s.hwd := by simp [State.raiseBit]
@[simp] theorem State.raiseBit_burl (s : State) (a i : Nat) : (s.raiseBit a i).burl = s.burl := by simp [State.raiseBit]
@[simp] theorem State.raiseBit_dram (s : State) (a i : Nat) : (s.raiseBit a i).dram = s.dram := by simp [State.raiseBit]
@[simp] theorem State.raiseBit_scan (s : State) (a i : Nat) : (s.raiseBit a i).scan = s.scan := by simp [State.raiseBit]
@[simp] theorem State.raiseBit_beam (s : State) (a i : Nat) : (s.raiseBit a i).beam = s.beam := by simp [State.raiseBit]
@[simp] theorem State.raiseBit_step (s : State) (a i : Nat) : (s.raiseBit a i).step = s.step := by simp [State.raiseBit]
@[simp] theorem State.raiseBit_sio (s : State) (a i : Nat) : (s.raiseBit a i).sio = s.sio := by simp [State.raiseBit]
@[simp] theorem State.raiseBit_axis (s : State) (a i : Nat) : (s.raiseBit a i).axis = s.axis := by simp [State.raiseBit]
@[simp] theorem State.raiseBit_loop (s : State) (a i : Nat) : (s.raiseBit a i).loop = s.loop := by simp [State.raiseBit]
@[simp] theorem State.raiseBit_cnpy (s : State) (a i : Nat) : (s.raiseBit a i).cnpy = s.cnpy := by simp [State.raiseBit]
@[simp] theorem State.raiseBit_dma (s : State) (a i : Nat) : (s.raiseBit a i).dma = s.dma := by simp [State.raiseBit]
@[simp] theorem State.raiseBit_pwr (s : State) (a i : Nat) : (s.raiseBit a i).pwr = s.pwr := by simp [State.raiseBit]
@[simp] theorem State.raiseBit_thm (s : State) (a i : Nat) : (s.raiseBit a i).thm = s.thm := by simp [State.raiseBit]
@[simp] theorem State.raiseBit_clk (s : State) (a i : Nat) : (s.raiseBit a i).clk = s.clk := by simp [State.raiseBit]
@[simp] theorem State.raiseBit_lcs (s : State) (a i : Nat) : (s.raiseBit a i).lcs = s.lcs := by simp [State.raiseBit]
@[simp] theorem State.raiseBit_leg (s : State) (a i : Nat) : (s.raiseBit a i).leg = s.leg := by simp [State.raiseBit]

/-! ### The queue -/

@[simp] theorem State.pushFront_tick (s : State) (c : Instr) : (s.pushFront c).tick = s.tick := rfl
@[simp] theorem State.pushFront_fresh (s : State) (c : Instr) : (s.pushFront c).fresh = s.fresh := rfl
@[simp] theorem State.pushFront_out (s : State) (c : Instr) : (s.pushFront c).out = s.out := rfl
@[simp] theorem State.pushFront_regs (s : State) (c : Instr) : (s.pushFront c).regs = s.regs := rfl
@[simp] theorem State.pushFront_sram (s : State) (c : Instr) : (s.pushFront c).sram = s.sram := rfl
@[simp] theorem State.pushFront_host (s : State) (c : Instr) : (s.pushFront c).host = s.host := rfl
@[simp] theorem State.pushFront_alm (s : State) (c : Instr) : (s.pushFront c).alm = s.alm := rfl
@[simp] theorem State.pushFront_ledg (s : State) (c : Instr) : (s.pushFront c).ledg = s.ledg := rfl
@[simp] theorem State.pushFront_pace (s : State) (c : Instr) : (s.pushFront c).pace = s.pace := rfl
@[simp] theorem State.pushFront_flt (s : State) (c : Instr) : (s.pushFront c).flt = s.flt := rfl
@[simp] theorem State.pushFront_hwd (s : State) (c : Instr) : (s.pushFront c).hwd = s.hwd := rfl
@[simp] theorem State.pushFront_burl (s : State) (c : Instr) : (s.pushFront c).burl = s.burl := rfl
@[simp] theorem State.pushFront_dram (s : State) (c : Instr) : (s.pushFront c).dram = s.dram := rfl
@[simp] theorem State.pushFront_scan (s : State) (c : Instr) : (s.pushFront c).scan = s.scan := rfl
@[simp] theorem State.pushFront_beam (s : State) (c : Instr) : (s.pushFront c).beam = s.beam := rfl
@[simp] theorem State.pushFront_step (s : State) (c : Instr) : (s.pushFront c).step = s.step := rfl
@[simp] theorem State.pushFront_sio (s : State) (c : Instr) : (s.pushFront c).sio = s.sio := rfl
@[simp] theorem State.pushFront_axis (s : State) (c : Instr) : (s.pushFront c).axis = s.axis := rfl
@[simp] theorem State.pushFront_loop (s : State) (c : Instr) : (s.pushFront c).loop = s.loop := rfl
@[simp] theorem State.pushFront_cnpy (s : State) (c : Instr) : (s.pushFront c).cnpy = s.cnpy := rfl
@[simp] theorem State.pushFront_dma (s : State) (c : Instr) : (s.pushFront c).dma = s.dma := rfl
@[simp] theorem State.pushFront_pwr (s : State) (c : Instr) : (s.pushFront c).pwr = s.pwr := rfl
@[simp] theorem State.pushFront_thm (s : State) (c : Instr) : (s.pushFront c).thm = s.thm := rfl
@[simp] theorem State.pushFront_clk (s : State) (c : Instr) : (s.pushFront c).clk = s.clk := rfl
@[simp] theorem State.pushFront_lcs (s : State) (c : Instr) : (s.pushFront c).lcs = s.lcs := rfl
@[simp] theorem State.pushFront_leg (s : State) (c : Instr) : (s.pushFront c).leg = s.leg := rfl
@[simp] theorem State.pushFront_pending (s : State) (c : Instr) : (s.pushFront c).pending = c :: s.pending := rfl

end Sys2Proof.Machine
end

