-- ==== Sys2Proof/Laws/Tab.lean ====
section
/-!
SUPPORT. Sparse collections and memories: what an entry reads as after a write, and that every operation keeps the canonical
form. The reading laws hold of every collection, canonical or not.
-/

set_option Elab.async false

namespace Sys2Proof.Machine

variable {α : Type}

theorem tabFind_tabPut (t : Tab α) (k j : Nat) (v : α) :
    tabFind (tabPut t k v) j = if j = k then some v else tabFind t j := by
  induction t with
  | nil => simp only [tabPut, tabFind]; split <;> simp_all
  | cons p t ih =>
    obtain ⟨i, w⟩ := p
    simp only [tabPut]
    split
    · next h => subst h; simp only [tabFind]; split <;> simp_all
    · next h =>
      split
      · next h2 =>
        simp only [tabFind]
        by_cases hj : j = k
        · simp [hj]
        · simp only [hj, if_false]
          by_cases hjk : j < k
          · have : j ≠ i := by omega
            have : j < i := by omega
            simp [*]
          · simp [hjk]
      · next h2 =>
        simp only [tabFind, ih]
        by_cases hj : j = k
        · subst hj; simp [h, h2]
        · simp [hj]

theorem tabFind_dropWhile (t : Tab α) (k j : Nat) :
    tabFind (t.dropWhile (fun p => decide (p.1 ≤ k))) j = if k < j then tabFind t j else
      tabFind (t.dropWhile (fun p => decide (p.1 ≤ k))) j := by
  split
  · next h =>
    induction t with
    | nil => rfl
    | cons p t ih =>
      obtain ⟨i, w⟩ := p
      by_cases hi : i ≤ k
      · have h1 : ¬ j = i := by omega
        have h2 : ¬ j < i := by omega
        simp [hi, tabFind, h1, h2, ih]
      · simp [hi]
  · rfl

theorem tabFind_dropWhile_low (t : Tab α) (k j : Nat) (h : j ≤ k) :
    tabFind (t.dropWhile (fun p => decide (p.1 ≤ k))) j = none := by
  induction t with
  | nil => rfl
  | cons p t ih =>
    obtain ⟨i, w⟩ := p
    by_cases hi : i ≤ k
    · simp [hi, ih]
    · have h1 : ¬ j = i := by omega
      have h2 : j < i := by omega
      simp [hi, tabFind, h1, h2]

theorem tabFind_tabDel (t : Tab α) (k j : Nat) :
    tabFind (tabDel t k) j = if j = k then none else tabFind t j := by
  induction t with
  | nil => simp [tabDel, tabFind]
  | cons p t ih =>
    obtain ⟨i, w⟩ := p
    simp only [tabDel]
    split
    · next h =>
      subst h
      by_cases hj : j = k
      · simp [hj, tabFind_dropWhile_low t k k (Nat.le_refl k)]
      · by_cases hlt : k < j
        · have h1 : ¬ j < k := by omega
          rw [tabFind_dropWhile]; simp [hj, hlt, tabFind, h1]
        · have h1 : j < k := by omega
          rw [tabFind_dropWhile_low t k j (by omega)]; simp [tabFind, hj, h1]
    · next h =>
      split
      · next h2 =>
        by_cases hj : j = k
        · subst hj; simp [tabFind, h, h2]
        · simp [hj]
      · next h2 =>
        simp only [tabFind, ih]
        by_cases hj : j = k
        · subst hj; simp [h, h2]
        · simp [hj]

/-- Read after write, at the same index and at another. -/
@[simp] theorem tabGet_tabPut (d : α) (t : Tab α) (k j : Nat) (v : α) :
    tabGet d (tabPut t k v) j = if j = k then v else tabGet d t j := by
  simp only [tabGet, tabFind_tabPut]; split <;> rfl

@[simp] theorem tabGet_tabDel (d : α) (t : Tab α) (k j : Nat) :
    tabGet d (tabDel t k) j = if j = k then d else tabGet d t j := by
  simp only [tabGet, tabFind_tabDel]; split <;> rfl

@[simp] theorem tabGet_tabSet [DecidableEq α] (d : α) (t : Tab α) (k j : Nat) (v : α) :
    tabGet d (tabSet d t k v) j = if j = k then v else tabGet d t j := by
  simp only [tabSet]
  by_cases h : v = d
  · simp only [h, if_true, tabGet_tabDel]
  · simp only [h, if_false, tabGet_tabPut]

@[simp] theorem tabGet_nil (d : α) (k : Nat) : tabGet d ([] : Tab α) k = d := rfl

theorem tabGet_tabSet_same [DecidableEq α] (d : α) (t : Tab α) (k : Nat) (v : α) :
    tabGet d (tabSet d t k v) k = v := by simp

theorem tabGet_tabSet_other [DecidableEq α] (d : α) (t : Tab α) {k j : Nat} (v : α) (h : j ≠ k) :
    tabGet d (tabSet d t k v) j = tabGet d t j := by simp [h]

/-! ### The canonical form -/

/-- Indices of a canonical list lie above its bound. -/
theorem tabWfFrom_mono [DecidableEq α] (d : α) {l l' : Nat} (t : Tab α) (h : l ≤ l')
    (hw : tabWfFrom d (some l') t = true) : tabWfFrom d (some l) t = true := by
  cases t with
  | nil => rfl
  | cons p t =>
    obtain ⟨i, v⟩ := p
    simp only [tabWfFrom, Bool.and_eq_true, decide_eq_true_eq] at *
    exact ⟨⟨by omega, hw.1.2⟩, hw.2⟩

/-- Forgetting the lower bound keeps the form. -/
theorem tabWfFrom_none [DecidableEq α] (d : α) {l : Nat} (t : Tab α) (hw : tabWfFrom d (some l) t = true) :
    tabWfFrom d none t = true := by
  cases t with
  | nil => rfl
  | cons p t =>
    obtain ⟨i, v⟩ := p
    simp only [tabWfFrom, Bool.and_eq_true, decide_eq_true_eq, Bool.true_and] at *
    exact ⟨hw.1.2, hw.2⟩

theorem tabWfFrom_tabPut [DecidableEq α] (d : α) (lo : Option Nat) (t : Tab α) (k : Nat) (v : α) (hv : v ≠ d)
    (hlo : ∀ l, lo = some l → l < k) (hw : tabWfFrom d lo t = true) : tabWfFrom d lo (tabPut t k v) = true := by
  induction t generalizing lo with
  | nil =>
    cases lo with
    | none => simp [tabPut, tabWfFrom, hv]
    | some l => simp [tabPut, tabWfFrom, hv, hlo l rfl]
  | cons p t ih =>
    obtain ⟨i, w⟩ := p
    simp only [tabPut]
    split
    · next h =>
      subst h
      simp only [tabWfFrom, Bool.and_eq_true, decide_eq_true_eq] at *
      exact ⟨⟨hw.1.1, hv⟩, hw.2⟩
    · next h =>
      split
      · next h2 =>
        simp only [tabWfFrom, Bool.and_eq_true, decide_eq_true_eq] at *
        refine ⟨⟨?_, hv⟩, ⟨⟨h2, hw.1.2⟩, hw.2⟩⟩
        cases lo with
        | none => rfl
        | some l => simpa using hlo l rfl
      · next h2 =>
        simp only [tabWfFrom, Bool.and_eq_true, decide_eq_true_eq] at *
        refine ⟨hw.1, ih (some i) ?_ hw.2⟩
        intro l hl
        cases hl
        omega

theorem tabWfFrom_dropWhile [DecidableEq α] (d : α) (l k : Nat) (t : Tab α) (hw : tabWfFrom d (some l) t = true) :
    tabWfFrom d (some l) (t.dropWhile (fun p => decide (p.1 ≤ k))) = true := by
  induction t with
  | nil => rfl
  | cons p t ih =>
    obtain ⟨i, w⟩ := p
    by_cases hi : i ≤ k
    · simp only [List.dropWhile_cons, hi, decide_true, if_true]
      simp only [tabWfFrom, Bool.and_eq_true, decide_eq_true_eq] at hw
      exact ih (tabWfFrom_mono d t (Nat.le_of_lt hw.1.1) hw.2)
    · simpa [hi] using hw

theorem tabWfFrom_tabDel [DecidableEq α] (d : α) (lo : Option Nat) (t : Tab α) (k : Nat)
    (hw : tabWfFrom d lo t = true) : tabWfFrom d lo (tabDel t k) = true := by
  induction t generalizing lo with
  | nil => cases lo <;> rfl
  | cons p t ih =>
    obtain ⟨i, w⟩ := p
    simp only [tabDel]
    split
    · next h =>
      have hw' := hw
      simp only [tabWfFrom, Bool.and_eq_true] at hw'
      have h1 := tabWfFrom_dropWhile d i k t hw'.2
      cases lo with
      | none => exact tabWfFrom_none d _ h1
      | some l =>
        have hl : l < i := by simpa using hw'.1.1
        exact tabWfFrom_mono d _ (Nat.le_of_lt hl) h1
    · split
      · exact hw
      · simp only [tabWfFrom, Bool.and_eq_true] at *
        exact ⟨hw.1, ih (some i) hw.2⟩

/-- A write keeps the canonical form. -/
@[simp] theorem tabWf_tabSet [DecidableEq α] (d : α) (t : Tab α) (k : Nat) (v : α) (h : tabWf d t = true) :
    tabWf d (tabSet d t k v) = true := by
  simp only [tabSet, tabWf] at *
  by_cases hv : v = d
  · simpa [hv] using tabWfFrom_tabDel d none t k h
  · simpa [hv] using tabWfFrom_tabPut d none t k v hv (by simp) h

@[simp] theorem tabWf_nil [DecidableEq α] (d : α) : tabWf d ([] : Tab α) = true := rfl

/-- Two canonical collections whose entries all read alike are equal data. -/
theorem tabWfFrom_low [DecidableEq α] (d : α) (l j : Nat) (t : Tab α) (h : tabWfFrom d (some l) t = true) (hj : j ≤ l) :
    tabGet d t j = d := by
  cases t with
  | nil => rfl
  | cons p t =>
    obtain ⟨i, v⟩ := p
    simp only [tabWfFrom, Bool.and_eq_true, decide_eq_true_eq] at h
    have h1 : ¬ j = i := by omega
    have h2 : j < i := by omega
    simp [tabGet, tabFind, h1, h2]

/-! ### Memory -/

theorem memByte_memWrite (m : Memory) (a : Nat) (bs : List Byte) (x : Nat) :
    memByte (memWrite m a bs) x = if a ≤ x ∧ x < a + bs.length then bs.getD (x - a) 0 else memByte m x := by
  induction bs generalizing m a with
  | nil =>
    have : ¬ (a ≤ x ∧ x < a + ([] : List Byte).length) := by simp
    rw [if_neg this]; rfl
  | cons b bs ih =>
    rw [memWrite, ih]
    by_cases hx : x = a
    · subst hx
      rw [if_neg (by omega), if_pos (by simp)]
      simp [memByte]
    · by_cases h : a + 1 ≤ x ∧ x < a + 1 + bs.length
      · have h2 : a ≤ x ∧ x < a + (b :: bs).length := by simp; omega
        have h3 : x - a = (x - (a + 1)) + 1 := by omega
        rw [if_pos h, if_pos h2, h3]; simp
      · have h2 : ¬ (a ≤ x ∧ x < a + (b :: bs).length) := by simp; omega
        rw [if_neg h, if_neg h2]
        simp [memByte, hx]

/-- A byte outside a write reads as before. -/
theorem memByte_memWrite_other (m : Memory) (a : Nat) (bs : List Byte) (x : Nat) (h : x < a ∨ a + bs.length ≤ x) :
    memByte (memWrite m a bs) x = memByte m x := by
  rw [memByte_memWrite, if_neg (by omega)]

/-- Every memory write keeps the canonical form. -/
@[simp] theorem memWrite_wf (m : Memory) (a : Nat) (bs : List Byte) (h : m.wf = true) : (memWrite m a bs).wf = true := by
  induction bs generalizing m a with
  | nil => exact h
  | cons b bs ih => exact ih _ _ (tabWf_tabSet 0 m a b h)

end Sys2Proof.Machine
end

