-- ==== Sys2Proof/Laws/Reg.lean ====
section
/-!
SUPPORT. The register store: what every register, field and flag reads as after a write, and that each write keeps the
canonical form of the store (R4, R7, R8).
-/

set_option Elab.async false

namespace Sys2Proof.Machine

/-! ### Whole registers -/

theorem tabFind_tabSet {α : Type} [DecidableEq α] (d : α) (t : Tab α) (k j : Nat) (v : α) :
    tabFind (tabSet d t k v) j = if j = k then (if v = d then none else some v) else tabFind t j := by
  simp only [tabSet]
  by_cases h : v = d
  · simp only [h, if_true, tabFind_tabDel]
  · simp only [h, if_false, tabFind_tabPut]

/-- A register reads as it was written; every other register stays. -/
theorem State.rd_wr (s : State) (a b : Nat) (v : Word) : (s.wr a v).rd b = if b = a then v else s.rd b := by
  simp only [State.rd, State.wr, tabGet, tabFind_tabSet]
  by_cases h : b = a
  · subst h
    by_cases hv : v = regReset b
    · simp [hv]
    · simp [hv]
  · simp [h]

@[simp] theorem State.rd_wr_same (s : State) (a : Nat) (v : Word) : (s.wr a v).rd a = v := by simp [State.rd_wr]

theorem State.rd_wr_other (s : State) {a b : Nat} (v : Word) (h : b ≠ a) : (s.wr a v).rd b = s.rd b := by
  simp [State.rd_wr, h]

theorem State.rdN_lt (s : State) (a : Nat) : s.rdN a < 2 ^ 32 := (s.rd a).isLt

theorem State.rdN_wrN (s : State) (a b n : Nat) : (s.wrN a n).rdN b = if b = a then n % 2 ^ 32 else s.rdN b := by
  simp only [State.rdN, State.wrN, State.rd_wr]
  split
  · exact BitVec.toNat_ofNat n 32
  · rfl

@[simp] theorem State.rdN_wrN_same (s : State) (a n : Nat) : (s.wrN a n).rdN a = n % 2 ^ 32 := by
  simp [State.rdN_wrN]

theorem State.rdN_wrN_other (s : State) {a b : Nat} (n : Nat) (h : b ≠ a) : (s.wrN a n).rdN b = s.rdN b := by
  simp [State.rdN_wrN, h]

/-! ### Fields and flags -/

theorem State.rdN_setFld (s : State) (a b hi lo v : Nat) (h : lo ≤ hi) (hh : hi < 32) :
    (s.setFld a hi lo v).rdN b = if b = a then putBits (s.rdN a) hi lo v else s.rdN b := by
  rw [State.setFld, State.rdN_wrN]
  split
  · exact Nat.mod_eq_of_lt (putBits_lt _ _ _ _ h hh (s.rdN_lt a))
  · rfl

/-- A field reads as it was written. -/
theorem State.fld_setFld_same (s : State) (a hi lo v : Nat) (h : lo ≤ hi) (hh : hi < 32) :
    (s.setFld a hi lo v).fld a hi lo = v % 2 ^ (hi + 1 - lo) := by
  rw [State.fld, State.rdN_setFld s a a hi lo v h hh, if_pos rfl, bitsOf_putBits_same _ _ _ _ h]

/-- A field of another register, or one that lies apart, stays. -/
theorem State.fld_setFld_other (s : State) (a b hi lo v hi' lo' : Nat) (h : lo ≤ hi) (hh : hi < 32)
    (hd : b ≠ a ∨ hi' < lo ∨ hi < lo') : (s.setFld a hi lo v).fld b hi' lo' = s.fld b hi' lo' := by
  rw [State.fld, State.rdN_setFld s a b hi lo v h hh]
  split
  · next e =>
    subst e
    rcases hd with hd | hd
    · exact absurd rfl hd
    · exact bitsOf_putBits_other _ _ _ _ _ _ h hd
  · rfl

theorem State.flag_setFlag_same (s : State) (a i : Nat) (b : Bool) (h : i < 32) : (s.setFlag a i b).flag a i = b := by
  rw [State.flag, State.setFlag, State.rdN_setFld s a a i i b.toNat (Nat.le_refl i) h, if_pos rfl,
    bitOf_putBits_same _ _ _ _ _ (Nat.le_refl i) (Nat.le_refl i) (Nat.le_refl i)]
  cases b <;> simp

theorem State.flag_setFlag_other (s : State) (a c i j : Nat) (b : Bool) (h : i < 32) (hd : c ≠ a ∨ j ≠ i) :
    (s.setFlag a i b).flag c j = s.flag c j := by
  rw [State.flag, State.setFlag, State.rdN_setFld s a c i i b.toNat (Nat.le_refl i) h]
  split
  · next e =>
    subst e
    rcases hd with hd | hd
    · exact absurd rfl hd
    · exact bitOf_putBits_other _ _ _ _ _ (Nat.le_refl i) (by omega)
  · rfl

theorem State.flag_setFld_other (s : State) (a c hi lo v j : Nat) (h : lo ≤ hi) (hh : hi < 32)
    (hd : c ≠ a ∨ j < lo ∨ hi < j) : (s.setFld a hi lo v).flag c j = s.flag c j := by
  rw [State.flag, State.rdN_setFld s a c hi lo v h hh]
  split
  · next e =>
    subst e
    rcases hd with hd | hd
    · exact absurd rfl hd
    · exact bitOf_putBits_other _ _ _ _ _ h hd
  · rfl

theorem State.fld_setFlag_other (s : State) (a b i hi lo : Nat) (c : Bool) (h : i < 32) (hd : b ≠ a ∨ hi < i ∨ i < lo) :
    (s.setFlag a i c).fld b hi lo = s.fld b hi lo :=
  State.fld_setFld_other s a b i i _ hi lo (Nat.le_refl i) h hd

theorem State.rd_setFld_other (s : State) {a b : Nat} (hi lo v : Nat) (h : b ≠ a) : (s.setFld a hi lo v).rd b = s.rd b :=
  State.rd_wr_other s _ h

theorem State.rd_setFlag_other (s : State) {a b : Nat} (i : Nat) (c : Bool) (h : b ≠ a) : (s.setFlag a i c).rd b = s.rd b :=
  State.rd_wr_other s _ h

/-! ### Updates that leave the registers -/

@[simp] theorem State.rd_drawn (s : State) (k a : Nat) : (s.drawn k).rd a = s.rd a := rfl
@[simp] theorem State.rd_emit (s : State) (o : Out) (a : Nat) : (s.emit o).rd a = s.rd a := rfl
@[simp] theorem State.rd_fault (s : State) (x y z a : Nat) : (s.fault x y z).rd a = s.rd a := rfl
@[simp] theorem State.rd_event (s : State) (c : Nat) (f : List Nat) (u a : Nat) : (s.event c f u).rd a = s.rd a := rfl
@[simp] theorem State.rd_report (s : State) (k : ReportKind) (x y z a : Nat) : (s.report k x y z).rd a = s.rd a := rfl
@[simp] theorem State.rd_vector (s : State) (v a : Nat) : (s.vector v).rd a = s.rd a := by
  simp only [State.rd, State.vector_regs]

/-! ### Event flags (R104) -/

/-- Raising flags sets them, and leaves every other register. -/
theorem State.rd_raise (s : State) (a m b : Nat) : (s.raise a m).rd b = if b = a then word (s.rdN a ||| m) else s.rd b := by
  unfold State.raise
  dsimp only
  split
  · rw [State.wrN, State.rd_wr]
  · rw [State.rd_vector, State.wrN, State.rd_wr]

theorem State.rd_raise_other (s : State) {a b : Nat} (m : Nat) (h : b ≠ a) : (s.raise a m).rd b = s.rd b := by
  simp [State.rd_raise, h]

theorem State.rd_raiseBit_other (s : State) {a b : Nat} (i : Nat) (h : b ≠ a) : (s.raiseBit a i).rd b = s.rd b :=
  State.rd_raise_other s _ h

theorem State.flag_raiseBit_same (s : State) (a i : Nat) (h : i < 32) : (s.raiseBit a i).flag a i = true := by
  have hp : (2 : Nat) ^ i < 2 ^ 32 := Nat.pow_lt_pow_right (by norm_num) h
  rw [State.flag, State.raiseBit, State.rdN, State.rd_raise, if_pos rfl, bitOf_eq]
  rw [show (word (s.rdN a ||| 2 ^ i)).toNat = s.rdN a ||| 2 ^ i from
    (BitVec.toNat_ofNat _ 32).trans (Nat.mod_eq_of_lt (Nat.or_lt_two_pow (s.rdN_lt a) hp))]
  simp

/-- A flag that was set stays set when flags are raised. -/
theorem State.flag_raise_keep (s : State) (a m i : Nat) (hm : m < 2 ^ 32) (h : s.flag a i = true) :
    (s.raise a m).flag a i = true := by
  rw [State.flag, State.rdN, State.rd_raise, if_pos rfl, bitOf_eq]
  rw [show (word (s.rdN a ||| m)).toNat = s.rdN a ||| m from
    (BitVec.toNat_ofNat _ 32).trans (Nat.mod_eq_of_lt (Nat.or_lt_two_pow (s.rdN_lt a) hm))]
  rw [State.flag, bitOf_eq] at h
  simp [h]

/-! ### The canonical form of the store -/

theorem regsRise_mono (l l' : Nat) (t : Tab Word) (h : l ≤ l') (hw : regsRise (some l') t = true) :
    regsRise (some l) t = true := by
  cases t with
  | nil => rfl
  | cons p t =>
    obtain ⟨i, v⟩ := p
    simp only [regsRise, Bool.and_eq_true, Option.all_some, decide_eq_true_eq] at *
    exact ⟨⟨by omega, hw.1.2⟩, hw.2⟩

theorem regsRise_none (l : Nat) (t : Tab Word) (hw : regsRise (some l) t = true) : regsRise none t = true := by
  cases t with
  | nil => rfl
  | cons p t =>
    obtain ⟨i, v⟩ := p
    simp only [regsRise, Bool.and_eq_true, Option.all_some, Option.all_none, decide_eq_true_eq, Bool.true_and] at *
    exact ⟨hw.1.2, hw.2⟩

theorem regsRise_tabPut (lo : Option Nat) (t : Tab Word) (k : Nat) (v : Word) (hv : v ≠ regReset k)
    (hlo : lo.all (fun l => decide (l < k)) = true) (hw : regsRise lo t = true) : regsRise lo (tabPut t k v) = true := by
  induction t generalizing lo with
  | nil => simp [tabPut, regsRise, hv, hlo]
  | cons p t ih =>
    obtain ⟨i, w⟩ := p
    simp only [tabPut]
    split
    · next h =>
      subst h
      simp only [regsRise, Bool.and_eq_true, decide_eq_true_eq] at *
      exact ⟨⟨hw.1.1, hv⟩, hw.2⟩
    · next h =>
      split
      · next h2 =>
        simp only [regsRise, Bool.and_eq_true, decide_eq_true_eq] at *
        exact ⟨⟨hlo, hv⟩, ⟨⟨by simpa using h2, hw.1.2⟩, hw.2⟩⟩
      · next h2 =>
        simp only [regsRise, Bool.and_eq_true, decide_eq_true_eq] at *
        exact ⟨hw.1, ih (some i) (by simp; omega) hw.2⟩

theorem regsRise_dropWhile (l k : Nat) (t : Tab Word) (hw : regsRise (some l) t = true) :
    regsRise (some l) (t.dropWhile (fun p => decide (p.1 ≤ k))) = true := by
  induction t with
  | nil => rfl
  | cons p t ih =>
    obtain ⟨i, w⟩ := p
    by_cases hi : i ≤ k
    · simp only [List.dropWhile_cons, hi, decide_true, if_true]
      simp only [regsRise, Bool.and_eq_true, Option.all_some, decide_eq_true_eq] at hw
      exact ih (regsRise_mono l i t (Nat.le_of_lt hw.1.1) hw.2)
    · simpa [hi] using hw

theorem regsRise_tabDel (lo : Option Nat) (t : Tab Word) (k : Nat) (hw : regsRise lo t = true) :
    regsRise lo (tabDel t k) = true := by
  induction t generalizing lo with
  | nil => rfl
  | cons p t ih =>
    obtain ⟨i, w⟩ := p
    simp only [tabDel]
    split
    · have hw' := hw
      simp only [regsRise, Bool.and_eq_true] at hw'
      have h1 := regsRise_dropWhile i k t hw'.2
      cases lo with
      | none => exact regsRise_none i _ h1
      | some l =>
        have hl : l < i := by simpa using hw'.1.1
        exact regsRise_mono l i _ (Nat.le_of_lt hl) h1
    · split
      · exact hw
      · simp only [regsRise, Bool.and_eq_true] at *
        exact ⟨hw.1, ih (some i) hw.2⟩

/-- Every register write keeps the canonical form of the store. -/
@[simp] theorem State.wr_regsWf (s : State) (a : Nat) (v : Word) (h : s.regsWf = true) : (s.wr a v).regsWf = true := by
  simp only [State.regsWf, State.wr, tabSet] at *
  by_cases hv : v = regReset a
  · simpa [hv] using regsRise_tabDel none s.regs a h
  · simpa [hv] using regsRise_tabPut none s.regs a v hv rfl h

/-- A register is read from the register store alone. -/
theorem State.rd_mk (pending' : List Instr) (tick' : Nat) (fresh' : Nat) (out' : List Out) (regs' : Tab Word)
    (sram' : Memory) (host' : HostBlk) (alm' : AlmBlk) (ledg' : LedgBlk) (pace' : PaceBlk) (flt' : FltBlk)
    (hwd' : HwdBlk) (burl' : BurlBlk) (dram' : DramBlk) (scan' : List ScanStn) (beam' : BeamBlk) (step' : StepBlk)
    (sio' : SioBlk) (axis' : AxisBlk) (loop' : LoopBlk) (cnpy' : CnpyBlk) (dma' : DmaBlk) (pwr' : PwrBlk)
    (thm' : ThmBlk) (clk' : ClkBlk) (lcs' : LcsBlk) (leg' : LegBlk) (a : Nat) :
    (State.mk pending' tick' fresh' out' regs' sram' host' alm' ledg' pace' flt' hwd' burl' dram' scan' beam' step' sio' axis' loop'
      cnpy' dma' pwr' thm' clk' lcs' leg').rd a
      = tabGet (regReset a) regs' a := rfl

/-- The register store read back as a register. -/
theorem State.tab_rd (s : State) (a : Nat) : tabGet (regReset a) s.regs a = s.rd a := rfl

theorem State.rd_wrN_other (s : State) {a b : Nat} (n : Nat) (h : b ≠ a) : (s.wrN a n).rd b = s.rd b := State.rd_wr_other s _ h

theorem State.rdN_word (n : Nat) : (word n).toNat = n % 2 ^ 32 := BitVec.toNat_ofNat n 32

end Sys2Proof.Machine
end

