-- ==== Sys2Proof/Laws/Frame.lean ====
section
/-!
SUPPORT. Frames: what an operation keeps, how frames compose, and the frames of the primitive updates of the state.
-/

set_option Elab.async false

namespace Sys2Proof.Machine

/-- What an operation keeps: the queue of commands, every part that `F` does not name, every register that `R` does not name,
the fused life-cycle state, and the canonical form of the registers and memories. -/
structure Frame (F : Blk → Prop) (R : Nat → Prop) (s t : State) : Prop where
  pending : t.pending = s.pending
  parts : ∀ b, ¬ F b → b.same s t
  regs : ∀ a, ¬ R a → t.rd a = s.rd a
  fused : t.lcs.fused = s.lcs.fused
  wf : s.wf = true → t.wf = true

/-- The same of an outcome, where it is a next state. -/
structure FrameO (F : Blk → Prop) (R : Nat → Prop) (s : State) (o : Host.Outcome State Fault Refusal) : Prop where
  next' : ∀ t, o = .next t → Frame F R s t

section
variable {F : Blk → Prop} {R : Nat → Prop}

theorem Blk.same_refl (b : Blk) (s : State) : b.same s s := by cases b <;> rfl

theorem Blk.same_trans (b : Blk) {s t u : State} (h : b.same s t) (k : b.same t u) : b.same s u := by
  cases b <;> exact Eq.trans k h

theorem Frame.refl (s : State) : Frame F R s s := ⟨rfl, fun b _ => b.same_refl s, fun _ _ => rfl, rfl, id⟩

theorem Frame.trans {s t u : State} (h : Frame F R s t) (k : Frame F R t u) : Frame F R s u :=
  ⟨k.pending.trans h.pending, fun b n => b.same_trans (h.parts b n) (k.parts b n),
    fun a n => (k.regs a n).trans (h.regs a n), k.fused.trans h.fused, fun w => k.wf (h.wf w)⟩

/-- A frame stays one where more may change. -/
theorem Frame.mono {F' : Blk → Prop} {R' : Nat → Prop} {s t : State} (h : Frame F R s t) (hF : ∀ b, F b → F' b)
    (hR : ∀ a, R a → R' a) : Frame F' R' s t :=
  ⟨h.pending, fun b n => h.parts b (fun x => n (hF b x)), fun a n => h.regs a (fun x => n (hR a x)), h.fused, h.wf⟩

theorem Frame.onlyChanges {s t : State} (h : Frame F R s t) : s.onlyChanges t F R := ⟨h.pending, h.parts, h.regs⟩

theorem FrameO.next {s t : State} (h : Frame F R s t) : FrameO F R s (.next t) := ⟨fun _ e => by cases e; exact h⟩

theorem FrameO.fault {s : State} (r : Fault) : FrameO F R s (.fault r) := ⟨fun _ e => by cases e⟩

theorem FrameO.get {s t : State} {o : Host.Outcome State Fault Refusal} (h : FrameO F R s o) (e : o = .next t) :
    Frame F R s t := h.next' t e

theorem Frame.ite {s t u : State} {c : Prop} [Decidable c] (h1 : Frame F R s t) (h2 : Frame F R s u) :
    Frame F R s (if c then t else u) := by
  split
  · exact h1
  · exact h2

theorem FrameO.ite {s : State} {o p : Host.Outcome State Fault Refusal} {c : Prop} [Decidable c]
    (h1 : FrameO F R s o) (h2 : FrameO F R s p) : FrameO F R s (if c then o else p) := by
  split
  · exact h1
  · exact h2

/-- What a command of its own would do, taken or left. -/
theorem FrameO.taken {sB s : State} {o : Host.Outcome State Fault Refusal} (h : FrameO F R sB o) (hs : Frame F R sB s) :
    Frame F R sB (match (generalizing := false) o with
      | .next u => u
      | _ => s) := by
  cases o with
  | next u => exact h.get rfl
  | fault _ => exact hs
  | refused _ => exact hs

theorem Frame.foldl {α : Type} {s0 : State} (f : State → α → State) (l : List α) {s : State} (h : Frame F R s0 s)
    (hf : ∀ u, Frame F R s0 u → ∀ x, Frame F R s0 (f u x)) : Frame F R s0 (l.foldl f s) := by
  induction l generalizing s with
  | nil => exact h
  | cons x l ih => exact ih (hf s h x)

/-! ### Addressed memories -/

theorem tabWfFrom_filter {α : Type} [DecidableEq α] (d : α) (lo : Option Nat) (t : Tab α) (p : Nat × α → Bool)
    (hw : tabWfFrom d lo t = true) : tabWfFrom d lo (t.filter p) = true := by
  induction t generalizing lo with
  | nil => cases lo <;> rfl
  | cons e t ih =>
    obtain ⟨i, v⟩ := e
    cases lo with
    | none =>
      simp only [tabWfFrom, Bool.and_eq_true] at hw
      by_cases h : p (i, v) = true
      · simp only [List.filter_cons, h, if_true, tabWfFrom, Bool.and_eq_true]; exact ⟨hw.1, ih _ hw.2⟩
      · simp only [List.filter_cons, h]; exact tabWfFrom_none d _ (ih (some i) hw.2)
    | some l =>
      simp only [tabWfFrom, Bool.and_eq_true, decide_eq_true_eq] at hw
      by_cases h : p (i, v) = true
      · simp only [List.filter_cons, h, if_true, tabWfFrom, Bool.and_eq_true, decide_eq_true_eq]; exact ⟨hw.1, ih _ hw.2⟩
      · simp only [List.filter_cons, h]; exact tabWfFrom_mono d _ (Nat.le_of_lt hw.1.1) (ih (some i) hw.2)

theorem filter_memWf (m : Memory) (p : Host.Cell → Bool) (h : m.wf = true) : Memory.wf (m.filter p) = true :=
  tabWfFrom_filter 0 none m p h

theorem AlmBlk.setBank_wf (a : AlmBlk) (b : Nat) (m : Memory) (hm : a.bank0.wf = true → a.bank1.wf = true → m.wf = true)
    (h0 : a.bank0.wf = true) (h1 : a.bank1.wf = true) :
    (a.setBank b m).bank0.wf = true ∧ (a.setBank b m).bank1.wf = true := by
  unfold AlmBlk.setBank
  split
  · exact ⟨hm h0 h1, h1⟩
  · exact ⟨h0, hm h0 h1⟩

theorem AlmBlk.bank_wf (a : AlmBlk) (b : Nat) (h0 : a.bank0.wf = true) (h1 : a.bank1.wf = true) :
    (a.bank b).wf = true := by
  unfold AlmBlk.bank; split <;> assumption

theorem writeBeamBytes_wf (m : Memory) (o : Nat) (bs : List Byte) (h : m.wf = true) : (writeBeamBytes m o bs).wf = true := by
  induction bs generalizing m o with
  | nil => exact h
  | cons b bs ih =>
    refine ih _ _ ?_
    split
    · exact memWrite_wf _ _ _ h
    · exact h

theorem regsRise_filter (lo : Option Nat) (t : Tab Word) (p : Nat × Word → Bool) (hw : regsRise lo t = true) :
    regsRise lo (t.filter p) = true := by
  induction t generalizing lo with
  | nil => rfl
  | cons e t ih =>
    obtain ⟨i, v⟩ := e
    simp only [regsRise, Bool.and_eq_true] at hw
    by_cases h : p (i, v) = true
    · simp only [List.filter_cons, h, if_true, regsRise, Bool.and_eq_true]; exact ⟨hw.1, ih _ hw.2⟩
    · simp only [List.filter_cons, h]
      cases lo with
      | none => exact regsRise_none i _ (ih (some i) hw.2)
      | some l => exact regsRise_mono l i _ (by simpa using Nat.le_of_lt (by simpa using hw.1.1)) (ih (some i) hw.2)


/-- An update of parts that writes no register and leaves the addressed memories in canonical form. -/
theorem Frame.mem {s0 s : State} {pending' : List Instr} {tick' : Nat} {fresh' : Nat} {out' : List Out} {regs' : Tab Word} {sram' : Memory} {host' : HostBlk} {alm' : AlmBlk} {ledg' : LedgBlk} {pace' : PaceBlk} {flt' : FltBlk} {hwd' : HwdBlk} {burl' : BurlBlk} {dram' : DramBlk} {scan' : List ScanStn} {beam' : BeamBlk} {step' : StepBlk} {sio' : SioBlk} {axis' : AxisBlk} {loop' : LoopBlk} {cnpy' : CnpyBlk} {dma' : DmaBlk} {pwr' : PwrBlk} {thm' : ThmBlk} {clk' : ClkBlk} {lcs' : LcsBlk} {leg' : LegBlk}
    (h : Frame F R s0 s) (h1 : pending' = s.pending) (h4 : regs' = s.regs := by rfl) (h3 : lcs'.fused = s.lcs.fused := by rfl)
    (h5 : s.sram.wf = true → sram'.wf = true := by first | exact id | exact memWrite_wf _ _ _ | exact filter_memWf _ _ | exact writeBeamBytes_wf _ _ _)
    (h6 : s.alm.bank0.wf = true → s.alm.bank1.wf = true → alm'.bank0.wf = true ∧ alm'.bank1.wf = true := by first | exact fun a b => ⟨a, b⟩ | exact AlmBlk.setBank_wf _ _ _ (fun a b => memWrite_wf _ _ _ (AlmBlk.bank_wf _ _ a b)) | exact AlmBlk.setBank_wf _ _ _ (fun _ _ => rfl))
    (p_tick : F .tick ∨ tick' = s.tick := by first | exact .inl (by with_reducible assumption) | exact .inl trivial | with_reducible exact .inr rfl) (p_fresh : F .fresh ∨ fresh' = s.fresh := by first | exact .inl (by with_reducible assumption) | exact .inl trivial | with_reducible exact .inr rfl) (p_out : F .out ∨ out' = s.out := by first | exact .inl (by with_reducible assumption) | exact .inl trivial | with_reducible exact .inr rfl) (p_sram : F .sram ∨ sram' = s.sram := by first | exact .inl (by with_reducible assumption) | exact .inl trivial | with_reducible exact .inr rfl) (p_host : F .host ∨ host' = s.host := by first | exact .inl (by with_reducible assumption) | exact .inl trivial | with_reducible exact .inr rfl) (p_alm : F .alm ∨ alm' = s.alm := by first | exact .inl (by with_reducible assumption) | exact .inl trivial | with_reducible exact .inr rfl) (p_ledg : F .ledg ∨ ledg' = s.ledg := by first | exact .inl (by with_reducible assumption) | exact .inl trivial | with_reducible exact .inr rfl) (p_pace : F .pace ∨ pace' = s.pace := by first | exact .inl (by with_reducible assumption) | exact .inl trivial | with_reducible exact .inr rfl) (p_flt : F .flt ∨ flt' = s.flt := by first | exact .inl (by with_reducible assumption) | exact .inl trivial | with_reducible exact .inr rfl) (p_hwd : F .hwd ∨ hwd' = s.hwd := by first | exact .inl (by with_reducible assumption) | exact .inl trivial | with_reducible exact .inr rfl) (p_burl : F .burl ∨ burl' = s.burl := by first | exact .inl (by with_reducible assumption) | exact .inl trivial | with_reducible exact .inr rfl) (p_dram : F .dram ∨ dram' = s.dram := by first | exact .inl (by with_reducible assumption) | exact .inl trivial | with_reducible exact .inr rfl) (p_scan : F .scan ∨ scan' = s.scan := by first | exact .inl (by with_reducible assumption) | exact .inl trivial | with_reducible exact .inr rfl) (p_beam : F .beam ∨ beam' = s.beam := by first | exact .inl (by with_reducible assumption) | exact .inl trivial | with_reducible exact .inr rfl) (p_step : F .step ∨ step' = s.step := by first | exact .inl (by with_reducible assumption) | exact .inl trivial | with_reducible exact .inr rfl) (p_sio : F .sio ∨ sio' = s.sio := by first | exact .inl (by with_reducible assumption) | exact .inl trivial | with_reducible exact .inr rfl) (p_axis : F .axis ∨ axis' = s.axis := by first | exact .inl (by with_reducible assumption) | exact .inl trivial | with_reducible exact .inr rfl) (p_loop : F .loop ∨ loop' = s.loop := by first | exact .inl (by with_reducible assumption) | exact .inl trivial | with_reducible exact .inr rfl) (p_cnpy : F .cnpy ∨ cnpy' = s.cnpy := by first | exact .inl (by with_reducible assumption) | exact .inl trivial | with_reducible exact .inr rfl) (p_dma : F .dma ∨ dma' = s.dma := by first | exact .inl (by with_reducible assumption) | exact .inl trivial | with_reducible exact .inr rfl) (p_pwr : F .pwr ∨ pwr' = s.pwr := by first | exact .inl (by with_reducible assumption) | exact .inl trivial | with_reducible exact .inr rfl) (p_thm : F .thm ∨ thm' = s.thm := by first | exact .inl (by with_reducible assumption) | exact .inl trivial | with_reducible exact .inr rfl) (p_clk : F .clk ∨ clk' = s.clk := by first | exact .inl (by with_reducible assumption) | exact .inl trivial | with_reducible exact .inr rfl) (p_lcs : F .lcs ∨ lcs' = s.lcs := by first | exact .inl (by with_reducible assumption) | exact .inl trivial | with_reducible exact .inr rfl) (p_leg : F .leg ∨ leg' = s.leg := by first | exact .inl (by with_reducible assumption) | exact .inl trivial | with_reducible exact .inr rfl) : Frame F R s0 (State.mk pending' tick' fresh' out' regs' sram' host' alm' ledg' pace' flt' hwd' burl' dram' scan' beam' step' sio' axis' loop' cnpy' dma' pwr' thm' clk' lcs' leg') :=
  ⟨h1.trans h.pending, fun b n => b.same_trans (h.parts b n) (by
      cases b <;> simp_all [Blk.same]), fun a n => by
      rw [← h.regs a n, State.rd, State.rd, h4], h3.trans h.fused, fun w => by
    have := h.wf w
    simp only [State.wf, State.regsWf, State.memWf, h4, Bool.and_eq_true] at *
    exact ⟨this.1, ⟨h5 this.2.1.1, (h6 this.2.1.2 this.2.2).1⟩, (h6 this.2.1.2 this.2.2).2⟩⟩

/-- An update of parts that writes neither a register nor an addressed memory. -/
theorem Frame.mk' {s0 s : State} {pending' : List Instr} {tick' : Nat} {fresh' : Nat} {out' : List Out} {regs' : Tab Word} {sram' : Memory} {host' : HostBlk} {alm' : AlmBlk} {ledg' : LedgBlk} {pace' : PaceBlk} {flt' : FltBlk} {hwd' : HwdBlk} {burl' : BurlBlk} {dram' : DramBlk} {scan' : List ScanStn} {beam' : BeamBlk} {step' : StepBlk} {sio' : SioBlk} {axis' : AxisBlk} {loop' : LoopBlk} {cnpy' : CnpyBlk} {dma' : DmaBlk} {pwr' : PwrBlk} {thm' : ThmBlk} {clk' : ClkBlk} {lcs' : LcsBlk} {leg' : LegBlk}
    (h : Frame F R s0 s) (h1 : pending' = s.pending) (h4 : regs' = s.regs := by rfl) (h3 : lcs'.fused = s.lcs.fused := by rfl)
    (h5 : sram' = s.sram := by rfl) (h6 : alm'.bank0 = s.alm.bank0 := by rfl) (h7 : alm'.bank1 = s.alm.bank1 := by rfl)
    (p_tick : F .tick ∨ tick' = s.tick := by first | exact .inl (by with_reducible assumption) | exact .inl trivial | with_reducible exact .inr rfl) (p_fresh : F .fresh ∨ fresh' = s.fresh := by first | exact .inl (by with_reducible assumption) | exact .inl trivial | with_reducible exact .inr rfl) (p_out : F .out ∨ out' = s.out := by first | exact .inl (by with_reducible assumption) | exact .inl trivial | with_reducible exact .inr rfl) (p_host : F .host ∨ host' = s.host := by first | exact .inl (by with_reducible assumption) | exact .inl trivial | with_reducible exact .inr rfl) (p_alm : F .alm ∨ alm' = s.alm := by first | exact .inl (by with_reducible assumption) | exact .inl trivial | with_reducible exact .inr rfl) (p_ledg : F .ledg ∨ ledg' = s.ledg := by first | exact .inl (by with_reducible assumption) | exact .inl trivial | with_reducible exact .inr rfl) (p_pace : F .pace ∨ pace' = s.pace := by first | exact .inl (by with_reducible assumption) | exact .inl trivial | with_reducible exact .inr rfl) (p_flt : F .flt ∨ flt' = s.flt := by first | exact .inl (by with_reducible assumption) | exact .inl trivial | with_reducible exact .inr rfl) (p_hwd : F .hwd ∨ hwd' = s.hwd := by first | exact .inl (by with_reducible assumption) | exact .inl trivial | with_reducible exact .inr rfl) (p_burl : F .burl ∨ burl' = s.burl := by first | exact .inl (by with_reducible assumption) | exact .inl trivial | with_reducible exact .inr rfl) (p_dram : F .dram ∨ dram' = s.dram := by first | exact .inl (by with_reducible assumption) | exact .inl trivial | with_reducible exact .inr rfl) (p_scan : F .scan ∨ scan' = s.scan := by first | exact .inl (by with_reducible assumption) | exact .inl trivial | with_reducible exact .inr rfl) (p_beam : F .beam ∨ beam' = s.beam := by first | exact .inl (by with_reducible assumption) | exact .inl trivial | with_reducible exact .inr rfl) (p_step : F .step ∨ step' = s.step := by first | exact .inl (by with_reducible assumption) | exact .inl trivial | with_reducible exact .inr rfl) (p_sio : F .sio ∨ sio' = s.sio := by first | exact .inl (by with_reducible assumption) | exact .inl trivial | with_reducible exact .inr rfl) (p_axis : F .axis ∨ axis' = s.axis := by first | exact .inl (by with_reducible assumption) | exact .inl trivial | with_reducible exact .inr rfl) (p_loop : F .loop ∨ loop' = s.loop := by first | exact .inl (by with_reducible assumption) | exact .inl trivial | with_reducible exact .inr rfl) (p_cnpy : F .cnpy ∨ cnpy' = s.cnpy := by first | exact .inl (by with_reducible assumption) | exact .inl trivial | with_reducible exact .inr rfl) (p_dma : F .dma ∨ dma' = s.dma := by first | exact .inl (by with_reducible assumption) | exact .inl trivial | with_reducible exact .inr rfl) (p_pwr : F .pwr ∨ pwr' = s.pwr := by first | exact .inl (by with_reducible assumption) | exact .inl trivial | with_reducible exact .inr rfl) (p_thm : F .thm ∨ thm' = s.thm := by first | exact .inl (by with_reducible assumption) | exact .inl trivial | with_reducible exact .inr rfl) (p_clk : F .clk ∨ clk' = s.clk := by first | exact .inl (by with_reducible assumption) | exact .inl trivial | with_reducible exact .inr rfl) (p_lcs : F .lcs ∨ lcs' = s.lcs := by first | exact .inl (by with_reducible assumption) | exact .inl trivial | with_reducible exact .inr rfl) (p_leg : F .leg ∨ leg' = s.leg := by first | exact .inl (by with_reducible assumption) | exact .inl trivial | with_reducible exact .inr rfl) : Frame F R s0 (State.mk pending' tick' fresh' out' regs' sram' host' alm' ledg' pace' flt' hwd' burl' dram' scan' beam' step' sio' axis' loop' cnpy' dma' pwr' thm' clk' lcs' leg') :=
  h.mem h1 h4 h3 (fun w => h5 ▸ w) (fun a b => by rw [h6, h7]; exact ⟨a, b⟩) p_tick p_fresh p_out (.inr h5) p_host p_alm p_ledg p_pace p_flt p_hwd p_burl p_dram p_scan p_beam p_step p_sio p_axis p_loop p_cnpy p_dma p_pwr p_thm p_clk p_lcs p_leg

theorem State.wr_frame {sB : State} (s : State) (a : Nat) (v : Word) (h : Frame F R sB s) (r : R a) : Frame F R sB (s.wr a v) :=
  ⟨h.pending, fun b n => b.same_trans (h.parts b n) (by cases b <;> rfl),
    fun x n => by rw [State.rd_wr_other s v (fun e => n (by rw [e]; exact r)), h.regs x n], h.fused, fun w => by
    have := h.wf w
    simp only [State.wf, Bool.and_eq_true] at *
    exact ⟨State.wr_regsWf s a v this.1, this.2⟩⟩
theorem State.wrN_frame {sB : State} (s : State) (a n : Nat) (h : Frame F R sB s) (r : R a) : Frame F R sB (s.wrN a n) :=
  wr_frame _ a _ h r
theorem State.setFld_frame {sB : State} (s : State) (a b c n : Nat) (h : Frame F R sB s) (r : R a) :
    Frame F R sB (s.setFld a b c n) := wr_frame _ a _ h r
theorem State.setFlag_frame {sB : State} (s : State) (a b : Nat) (c : Bool) (h : Frame F R sB s) (r : R a) :
    Frame F R sB (s.setFlag a b c) := wr_frame _ a _ h r
theorem State.bump_frame {sB : State} (s : State) (a b c : Nat) (h : Frame F R sB s) (r : R a) :
    Frame F R sB (s.bump a b c) := wr_frame _ a _ h r
theorem State.emit_frame {sB : State} (s : State) (o : Out) (h : Frame F R sB s) (f_out : F .out) :
    Frame F R sB (s.emit o) :=
  h.mk' rfl rfl rfl rfl rfl rfl (.inr rfl) (.inr rfl) (.inl f_out) (.inr rfl) (.inr rfl) (.inr rfl) (.inr rfl) (.inr rfl) (.inr rfl) (.inr rfl) (.inr rfl) (.inr rfl) (.inr rfl) (.inr rfl) (.inr rfl) (.inr rfl) (.inr rfl) (.inr rfl) (.inr rfl) (.inr rfl) (.inr rfl) (.inr rfl) (.inr rfl) (.inr rfl)
theorem State.drawn_frame {sB : State} (s : State) (k : Nat) (h : Frame F R sB s) (f_fresh : F .fresh) :
    Frame F R sB (s.drawn k) :=
  h.mk' rfl rfl rfl rfl rfl rfl (.inr rfl) (.inl f_fresh) (.inr rfl) (.inr rfl) (.inr rfl) (.inr rfl) (.inr rfl) (.inr rfl) (.inr rfl) (.inr rfl) (.inr rfl) (.inr rfl) (.inr rfl) (.inr rfl) (.inr rfl) (.inr rfl) (.inr rfl) (.inr rfl) (.inr rfl) (.inr rfl) (.inr rfl) (.inr rfl) (.inr rfl) (.inr rfl)
theorem State.fault_frame {sB : State} (s : State) (a b c : Nat) (h : Frame F R sB s) (f_flt : F .flt) :
    Frame F R sB (s.fault a b c) :=
  h.mk' rfl rfl rfl rfl rfl rfl (.inr rfl) (.inr rfl) (.inr rfl) (.inr rfl) (.inr rfl) (.inr rfl) (.inr rfl) (.inl f_flt) (.inr rfl) (.inr rfl) (.inr rfl) (.inr rfl) (.inr rfl) (.inr rfl) (.inr rfl) (.inr rfl) (.inr rfl) (.inr rfl) (.inr rfl) (.inr rfl) (.inr rfl) (.inr rfl) (.inr rfl) (.inr rfl)
theorem State.event_frame {sB : State} (s : State) (a : Nat) (b : List Nat) (c : Nat) (h : Frame F R sB s) (f_hwd : F .hwd) :
    Frame F R sB (s.event a b c) :=
  h.mk' rfl rfl rfl rfl rfl rfl (.inr rfl) (.inr rfl) (.inr rfl) (.inr rfl) (.inr rfl) (.inr rfl) (.inr rfl) (.inr rfl) (.inl f_hwd) (.inr rfl) (.inr rfl) (.inr rfl) (.inr rfl) (.inr rfl) (.inr rfl) (.inr rfl) (.inr rfl) (.inr rfl) (.inr rfl) (.inr rfl) (.inr rfl) (.inr rfl) (.inr rfl) (.inr rfl)
theorem State.report_frame {sB : State} (s : State) (k : ReportKind) (a b c : Nat) (h : Frame F R sB s) (f_ledg : F .ledg) :
    Frame F R sB (s.report k a b c) :=
  h.mk' rfl rfl rfl rfl rfl rfl (.inr rfl) (.inr rfl) (.inr rfl) (.inr rfl) (.inr rfl) (.inl f_ledg) (.inr rfl) (.inr rfl) (.inr rfl) (.inr rfl) (.inr rfl) (.inr rfl) (.inr rfl) (.inr rfl) (.inr rfl) (.inr rfl) (.inr rfl) (.inr rfl) (.inr rfl) (.inr rfl) (.inr rfl) (.inr rfl) (.inr rfl) (.inr rfl)
theorem State.vector_frame {sB : State} (s : State) (v : Nat) (h : Frame F R sB s) (f_host : F .host) :
    Frame F R sB (s.vector v) := by
  unfold State.vector
  split
  · exact h
  · exact h.mk' rfl rfl rfl rfl rfl rfl (.inr rfl) (.inr rfl) (.inr rfl) (.inl f_host) (.inr rfl) (.inr rfl) (.inr rfl) (.inr rfl) (.inr rfl) (.inr rfl) (.inr rfl) (.inr rfl) (.inr rfl) (.inr rfl) (.inr rfl) (.inr rfl) (.inr rfl) (.inr rfl) (.inr rfl) (.inr rfl) (.inr rfl) (.inr rfl) (.inr rfl) (.inr rfl)
theorem State.raise_frame {sB : State} (s : State) (a m : Nat) (h : Frame F R sB s) (f_host : F .host) (r : R a) :
    Frame F R sB (s.raise a m) := by
  have hx := wrN_frame s a (s.rdN a ||| m) h r
  unfold State.raise
  split
  · exact hx
  · exact vector_frame _ _ hx f_host
theorem State.raiseBit_frame {sB : State} (s : State) (a m : Nat) (h : Frame F R sB s) (f_host : F .host) (r : R a) :
    Frame F R sB (s.raiseBit a m) := raise_frame _ _ _ h f_host r
theorem State.upTo_frame {sB : State} (s : State) (n : Nat) (f : State → Nat → State) (h : Frame F R sB s)
    (hf : ∀ u, Frame F R sB u → ∀ x, Frame F R sB (f u x)) : Frame F R sB (s.upTo n f) := Frame.foldl f _ h hf

/-- An update that drops registers from the store. -/
theorem Frame.filter {sB s t : State} (p : Nat × Word → Bool) (h : Frame F (fun _ => True) sB s) (h1 : t.pending = s.pending)
    (hp : ∀ b, ¬ F b → b.same s t) (h3 : t.lcs.fused = s.lcs.fused) (h4 : t.regs = s.regs.filter p) (h5 : t.sram = s.sram)
    (h6 : t.alm.bank0 = s.alm.bank0) (h7 : t.alm.bank1 = s.alm.bank1) : Frame F (fun _ => True) sB t :=
  ⟨h1.trans h.pending, fun b n => b.same_trans (h.parts b n) (hp b n), fun _ n => absurd trivial n, h3.trans h.fused, fun w => by
    have := h.wf w
    simp only [State.wf, State.regsWf, State.memWf, h4, h5, h6, h7, Bool.and_eq_true] at *
    exact ⟨regsRise_filter _ _ _ this.1, this.2⟩⟩

/-- Every part but the tick counter, one by one. -/
theorem Blk.but_tick (h : ∀ b, b ≠ Blk.tick → F b) :
    F .fresh ∧ F .out ∧ F .sram ∧ F .host ∧ F .alm ∧ F .ledg ∧ F .pace ∧ F .flt ∧ F .hwd ∧ F .burl ∧ F .dram ∧ F .scan ∧ F .beam ∧ F .step ∧ F .sio ∧ F .axis ∧ F .loop ∧ F .cnpy ∧ F .dma ∧ F .pwr ∧ F .thm ∧ F .clk ∧ F .lcs ∧ F .leg :=
  ⟨h _ (by decide), h _ (by decide), h _ (by decide), h _ (by decide), h _ (by decide), h _ (by decide), h _ (by decide), h _ (by decide), h _ (by decide), h _ (by decide), h _ (by decide), h _ (by decide), h _ (by decide), h _ (by decide), h _ (by decide), h _ (by decide), h _ (by decide), h _ (by decide), h _ (by decide), h _ (by decide), h _ (by decide), h _ (by decide), h _ (by decide), h _ (by decide)⟩

end

end Sys2Proof.Machine
end

