-- ==== Sys2Proof/Laws/FrameShared.lean ====
section
/-!
SUPPORT. What each operation and each command can change, said once: the shared operations: vectors, frames, rings, the shared steps of the blocks, the sheet ledger. A lemma
`f_frame` names the parts of the state and the registers that `f` can change; all else, the queue of commands and the
fused life-cycle state stay, and the canonical form is kept.
-/

set_option Elab.async false
set_option linter.all false

namespace Sys2Proof.Machine

variable {F : Blk → Prop} {R : Nat → Prop}

/-! ### Flags -/

theorem State.urgent_frame {sB : State} (s : State) (hB : Frame F R sB s) (f_host : F .host) :
    Frame F R sB (State.urgent s) := by
  delta State.urgent
  repeat' first
    | with_reducible assumption | with_reducible apply State.vector_frame

theorem State.sendVector_frame {sB : State} (s : State) (v : Nat) (hB : Frame F R sB s) (f_out : F .out)
    (r_HOST_MSIX_PBA : ∀ i, R (Reg.HOST_MSIX_PBA i)) :
    Frame F R sB (State.sendVector s v) := by
  delta State.sendVector
  repeat' first
    | with_reducible assumption | lift_lets | with_reducible apply State.setFlag_frame
    | with_reducible apply State.emit_frame | with_reducible apply r_HOST_MSIX_PBA | with_reducible apply Frame.ite

theorem State.sendVectors_frame {sB : State} (s : State) (hB : Frame F R sB s) (f_out : F .out) (f_host : F .host)
    (r_HOST_MSIX_PBA : ∀ i, R (Reg.HOST_MSIX_PBA i)) :
    Frame F R sB (State.sendVectors s) := by
  delta State.sendVectors
  repeat' first
    | with_reducible assumption | intro (u : State) (hu : Frame F R sB u) | lift_lets
    | with_reducible apply State.sendVector_frame | with_reducible apply Frame.foldl | intro _
    | with_reducible refine Frame.mk' ?_ rfl

/-! ### Frames -/

theorem State.writeFrame_frame {sB : State} (s : State) (f o : Nat) (bs : List Byte) (hB : Frame F R sB s)
    (f_dram : F .dram) :
    Frame F R sB (State.writeFrame s f o bs) := by
  delta State.writeFrame
  repeat' first
    | with_reducible assumption | lift_lets | (intro x; clear_value x) | refine Frame.mem ?_ rfl

theorem State.dramWrite_frame {sB : State} (s : State) (a : Nat) (bs : List Byte) (hB : Frame F R sB s) (f_dram : F
    .dram) :
    Frame F R sB (State.dramWrite s a bs) := by
  induction bs generalizing s a with
  | nil => exact hB
  | cons b bs ih =>
    refine ih _ _ ?_
    repeat' first
      | with_reducible assumption | lift_lets | with_reducible apply State.writeFrame_frame

theorem State.takeFrames_frame {sB : State} (s : State) (stn : Nat) (fs : List Nat) (hB : Frame F R sB s)
    (f_dram : F .dram) (r_DRAM_FRAMES_FREE : R Reg.DRAM_FRAMES_FREE) (r_DRAM_PS_HELD : ∀ i, R (Reg.DRAM_PS_HELD i)) :
    Frame F R sB (State.takeFrames s stn fs) := by
  delta State.takeFrames
  repeat' first
    | with_reducible assumption | lift_lets | with_reducible apply State.wrN_frame
    | with_reducible apply r_DRAM_PS_HELD | with_reducible refine Frame.mk' ?_ rfl

theorem State.giveBack_frame {sB : State} (s : State) (stn : Nat) (fs : List Nat) (hB : Frame F R sB s)
    (f_dram : F .dram) :
    Frame F R sB (State.giveBack s stn fs) := by
  delta State.giveBack
  repeat' first
    | with_reducible assumption | lift_lets | (intro x; clear_value x) | with_reducible refine Frame.mk' ?_ rfl

theorem State.returnFrame_frame {sB : State} (s : State) (r : Returning) (hB : Frame F R sB s) (f_dram : F .dram)
    (r_DRAM_FRAMES_FREE : R Reg.DRAM_FRAMES_FREE) (r_DRAM_PS_HELD : ∀ i, R (Reg.DRAM_PS_HELD i)) :
    Frame F R sB (State.returnFrame s r) := by
  delta State.returnFrame
  repeat' first
    | with_reducible assumption | lift_lets
    | (intro x; refine (fun (hx : Frame F R sB x) => ?_) ?_ <;> [clear_value x; subst x])
    | with_reducible apply State.wrN_frame | with_reducible apply r_DRAM_PS_HELD | (intro x; clear_value x)
    | with_reducible apply Frame.ite | with_reducible refine Frame.mk' ?_ rfl

theorem State.returnFrames_frame {sB : State} (s : State) (hB : Frame F R sB s) (f_dram : F .dram)
    (r_DRAM_FRAMES_FREE : R Reg.DRAM_FRAMES_FREE) (r_DRAM_PS_HELD : ∀ i, R (Reg.DRAM_PS_HELD i)) :
    Frame F R sB (State.returnFrames s) := by
  delta State.returnFrames
  repeat' first
    | with_reducible assumption | intro (u : State) (hu : Frame F R sB u) | lift_lets
    | with_reducible apply State.returnFrame_frame | with_reducible apply Frame.foldl | intro _
    | with_reducible refine Frame.mk' ?_ rfl

theorem State.setDirectory_frame {sB : State} (s : State) (sheet stn band lead : Nat) (hB : Frame F R sB s)
    (f_dram : F .dram) :
    Frame F R sB (State.setDirectory s sheet stn band lead) := by
  delta State.setDirectory
  repeat' first
    | with_reducible assumption | lift_lets | (intro x; clear_value x) | split
    | with_reducible refine Frame.mk' ?_ rfl

theorem State.takeDirectory_frame {sB : State} (s : State) (sheet stn f : Nat) (hB : Frame F R sB s)
    (f_dram : F .dram) (r_DRAM_FRAMES_FREE : R Reg.DRAM_FRAMES_FREE) (r_DRAM_PS_HELD : ∀ i, R (Reg.DRAM_PS_HELD i)) :
    Frame F R sB (State.takeDirectory s sheet stn f) := by
  delta State.takeDirectory
  repeat' first
    | with_reducible assumption | lift_lets
    | (intro x; refine (fun (hx : Frame F R sB x) => ?_) ?_ <;> [clear_value x; subst x])
    | with_reducible apply State.takeFrames_frame | (intro x; clear_value x) | with_reducible refine Frame.mk' ?_ rfl

theorem State.storeBlock_frame {sB : State} (s : State) (blk : List Byte) (frames : List Nat) (hB : Frame F R sB s)
    (f_dram : F .dram) :
    Frame F R sB (State.storeBlock s blk frames) := by
  delta State.storeBlock
  repeat' first
    | with_reducible assumption | intro (u : State) (hu : Frame F R sB u) | lift_lets
    | with_reducible apply State.writeFrame_frame | with_reducible apply Frame.foldl | intro _

theorem State.freeBand_frame {sB : State} (s : State) (sheet stn band : Nat) (hB : Frame F R sB s) (f_burl : F .burl)
    (f_dram : F .dram) :
    Frame F R sB (State.freeBand s sheet stn band) := by
  delta State.freeBand
  repeat' first
    | with_reducible assumption | lift_lets
    | (intro x; refine (fun (hx : Frame F R sB x) => ?_) ?_ <;> [clear_value x; subst x])
    | with_reducible apply State.giveBack_frame | with_reducible apply State.setDirectory_frame
    | (intro x; clear_value x) | split | with_reducible refine Frame.mk' ?_ rfl

theorem State.abandonLanes_frame {sB : State} (s : State) (p : LaneWork → Bool) (hB : Frame F R sB s)
    (f_burl : F .burl) :
    Frame F R sB (State.abandonLanes s p) := by
  delta State.abandonLanes
  repeat' first
    | with_reducible assumption | lift_lets | (intro x; clear_value x) | with_reducible refine Frame.mk' ?_ rfl

theorem State.dropLanes_frame {sB : State} (s : State) (id : Nat) (hB : Frame F R sB s) (f_burl : F .burl) :
    Frame F R sB (State.dropLanes s id) := by
  delta State.dropLanes
  repeat' first
    | with_reducible assumption | lift_lets
    | (intro x; refine (fun (hx : Frame F R sB x) => ?_) ?_ <;> [clear_value x; subst x])
    | with_reducible apply State.abandonLanes_frame | (intro x; clear_value x)
    | with_reducible refine Frame.mk' ?_ rfl

theorem State.dropLines_frame {sB : State} (s : State) (id : Nat) (hB : Frame F R sB s) (f_scan : F .scan) :
    Frame F R sB (State.dropLines s id) := by
  delta State.dropLines
  repeat' first
    | with_reducible assumption | with_reducible refine Frame.mk' ?_ rfl

theorem State.freeSheet_frame {sB : State} (s : State) (id : Nat) (hB : Frame F R sB s) (f_burl : F .burl)
    (f_dram : F .dram) (f_scan : F .scan) :
    Frame F R sB (State.freeSheet s id) := by
  delta State.freeSheet
  repeat' first
    | with_reducible assumption | intro (u : State) (hu : Frame F R sB u) | lift_lets
    | with_reducible apply State.giveBack_frame | with_reducible apply State.freeBand_frame
    | with_reducible apply State.dropLanes_frame | with_reducible apply State.dropLines_frame
    | with_reducible apply Frame.foldl | intro _ | with_reducible apply Frame.ite
    | with_reducible refine Frame.mk' ?_ rfl

/-! ### Rings -/

theorem State.setRing_frame {sB : State} (s : State) (k st : Nat) (hB : Frame F R sB s)
    (r_HOST_RING_STATE : ∀ i, R (Reg.HOST_RING_STATE i)) :
    Frame F R sB (State.setRing s k st) := by
  delta State.setRing
  repeat' first
    | with_reducible assumption | lift_lets | with_reducible apply State.setFld_frame
    | with_reducible apply r_HOST_RING_STATE

theorem State.advance_frame {sB : State} (s : State) (k n : Nat) (hB : Frame F R sB s) (f_host : F .host)
    (r_HOST_RING_DIDX : ∀ i, R (Reg.HOST_RING_DIDX i)) :
    Frame F R sB (State.advance s k n) := by
  delta State.advance
  repeat' first
    | with_reducible assumption | lift_lets
    | (intro x; refine (fun (hx : Frame F R sB x) => ?_) ?_ <;> [clear_value x; subst x])
    | with_reducible apply State.wrN_frame | with_reducible apply r_HOST_RING_DIDX | (intro x; clear_value x)
    | with_reducible refine Frame.mk' ?_ rfl

theorem State.hostErr_frame {sB : State} (s : State) (bit : Nat) (hB : Frame F R sB s) (f_host : F .host)
    (r_HOST_ERR : R Reg.HOST_ERR) :
    Frame F R sB (State.hostErr s bit) := by
  delta State.hostErr
  repeat' first
    | with_reducible assumption | with_reducible apply State.raiseBit_frame

theorem State.ringStateError_frame {sB : State} (s : State) (k : Nat) (hB : Frame F R sB s) (f_host : F .host)
    (r_HOST_ERR : R Reg.HOST_ERR) (r_HOST_ERR_RING : R Reg.HOST_ERR_RING) :
    Frame F R sB (State.ringStateError s k) := by
  delta State.ringStateError
  repeat' first
    | with_reducible assumption | lift_lets | with_reducible apply State.setFld_frame
    | with_reducible apply State.hostErr_frame

theorem State.discarded_frame {sB : State} (s : State) (bit bar off : Nat) (hB : Frame F R sB s) (f_host : F .host)
    (f_flt : F .flt) (r_HOST_ERR : R Reg.HOST_ERR) (r_HOST_ERR_ADDR : R Reg.HOST_ERR_ADDR) :
    Frame F R sB (State.discarded s bit bar off) := by
  delta State.discarded
  repeat' first
    | with_reducible assumption | lift_lets | with_reducible apply State.wrN_frame
    | with_reducible apply State.fault_frame | with_reducible apply State.hostErr_frame

theorem State.queueRecord_frame {sB : State} (s : State) (c : Completion) (hB : Frame F R sB s) (f_host : F .host)
    (f_hwd : F .hwd) (r_HOST_ERR : R Reg.HOST_ERR) :
    Frame F R sB (State.queueRecord s c) := by
  delta State.queueRecord
  repeat' first
    | with_reducible assumption | lift_lets
    | (intro x; refine (fun (hx : Frame F R sB x) => ?_) ?_ <;> [clear_value x; subst x])
    | with_reducible apply State.event_frame | with_reducible apply State.hostErr_frame | (intro x; clear_value x)
    | with_reducible apply Frame.ite | with_reducible refine Frame.mk' ?_ rfl

theorem State.showComplete_frame {sB : State} (s : State) (k : Nat) (os : List OpenItem) (hB : Frame F R sB s) (f_host
    : F .host) (f_hwd : F .hwd) (r_HOST_ERR : R Reg.HOST_ERR) :
    Frame F R sB (State.showComplete s k os) := by
  induction os generalizing s with
  | nil => exact hB.mk' rfl
  | cons o os ih =>
    unfold State.showComplete
    split
    · exact hB.mk' rfl
    · refine ih _ ?_
      repeat' first
        | with_reducible assumption | lift_lets | with_reducible apply State.queueRecord_frame
        | with_reducible apply Frame.ite

theorem State.complete_frame {sB : State} (s : State) (it : Item) (status detail : Nat) (hB : Frame F R sB s)
    (f_fresh : F .fresh) (f_host : F .host) (f_hwd : F .hwd) (r_HOST_ERR : R Reg.HOST_ERR) :
    Frame F R sB (State.complete s it status detail) := by
  delta State.complete
  repeat' first
    | with_reducible assumption | lift_lets | with_reducible apply State.drawn_frame
    | with_reducible apply State.showComplete_frame | (intro x; clear_value x) | with_reducible apply Frame.ite

theorem State.openItem_frame {sB : State} (s : State) (it : Item) (hB : Frame F R sB s) (f_host : F .host) :
    Frame F R sB (State.openItem s it) := by
  delta State.openItem
  repeat' first
    | with_reducible assumption | lift_lets | (intro x; clear_value x) | with_reducible refine Frame.mk' ?_ rfl

theorem State.deliver_frame {sB : State} (s : State) (owner : Nat) (it : Item) (hB : Frame F R sB s)
    (f_host : F .host) :
    Frame F R sB (State.deliver s owner it) := by
  delta State.deliver
  repeat' first
    | with_reducible assumption | lift_lets | (intro x; clear_value x) | with_reducible refine Frame.mk' ?_ rfl

theorem State.dropInbox_frame {sB : State} (s : State) (owner : Nat) (hB : Frame F R sB s) (f_host : F .host) :
    Frame F R sB (State.dropInbox s owner) := by
  delta State.dropInbox
  repeat' first
    | with_reducible assumption | lift_lets | (intro x; clear_value x) | with_reducible refine Frame.mk' ?_ rfl

theorem State.takeItem_frame {sB : State} (s : State) (owner q : Nat) (hB : Frame F R sB s) (f_host : F .host) :
    Frame F R sB (State.takeItem s owner q) := by
  delta State.takeItem
  repeat' first
    | with_reducible assumption | lift_lets
    | (intro x; refine (fun (hx : Frame F R sB x) => ?_) ?_ <;> [clear_value x; subst x])
    | with_reducible apply State.dropInbox_frame | (intro x; clear_value x) | with_reducible refine Frame.mk' ?_ rfl

theorem State.failItem_frame {sB : State} (s : State) (it : Item) (status : Nat) (hB : Frame F R sB s)
    (f_fresh : F .fresh) (f_host : F .host) (f_flt : F .flt) (f_hwd : F .hwd) (r_HOST_ERR : R Reg.HOST_ERR) :
    Frame F R sB (State.failItem s it status) := by
  delta State.failItem
  repeat' first
    | with_reducible assumption | lift_lets | with_reducible apply State.fault_frame
    | with_reducible apply State.hostErr_frame | with_reducible apply State.complete_frame
    | with_reducible apply State.openItem_frame

theorem execRingStart_frame {sB : State} (k : Fin 16) (s : State) (hB : Frame F R sB s) (f_host : F .host)
    (r_HOST_ERR : R Reg.HOST_ERR) (r_HOST_ERR_RING : R Reg.HOST_ERR_RING)
    (r_HOST_RING_DIDX : ∀ i, R (Reg.HOST_RING_DIDX i)) (r_HOST_RING_HIDX : ∀ i, R (Reg.HOST_RING_HIDX i))
    (r_HOST_RING_STATE : ∀ i, R (Reg.HOST_RING_STATE i)) (r_HWD_EXPORT_SEQ : R Reg.HWD_EXPORT_SEQ) :
    FrameO F R sB (execRingStart k s) := by
  delta execRingStart
  repeat' first
    | with_reducible assumption | lift_lets
    | (intro x; refine (fun (hx : Frame F R sB x) => ?_) ?_ <;> [clear_value x; subst x])
    | with_reducible apply FrameO.next | with_reducible apply State.wrN_frame
    | with_reducible apply State.setRing_frame | with_reducible apply State.ringStateError_frame
    | with_reducible apply r_HOST_RING_DIDX | with_reducible apply r_HOST_RING_HIDX | (intro x; clear_value x)
    | with_reducible apply Frame.ite | with_reducible apply FrameO.ite | split
    | with_reducible refine Frame.mk' ?_ rfl

theorem execRingResume_frame {sB : State} (k : Fin 16) (s : State) (hB : Frame F R sB s) (f_host : F .host)
    (r_HOST_ERR : R Reg.HOST_ERR) (r_HOST_ERR_RING : R Reg.HOST_ERR_RING)
    (r_HOST_RING_STATE : ∀ i, R (Reg.HOST_RING_STATE i)) :
    FrameO F R sB (execRingResume k s) := by
  delta execRingResume
  repeat' first
    | with_reducible assumption | lift_lets | with_reducible apply FrameO.next
    | with_reducible apply State.setRing_frame | with_reducible apply State.ringStateError_frame
    | with_reducible apply FrameO.ite

theorem execRingStop_frame {sB : State} (k : Fin 16) (s : State) (hB : Frame F R sB s) (f_host : F .host)
    (r_HOST_ERR : R Reg.HOST_ERR) (r_HOST_ERR_RING : R Reg.HOST_ERR_RING)
    (r_HOST_RING_STATE : ∀ i, R (Reg.HOST_RING_STATE i)) :
    FrameO F R sB (execRingStop k s) := by
  delta execRingStop
  repeat' first
    | with_reducible assumption | lift_lets | with_reducible apply FrameO.next
    | with_reducible apply State.setRing_frame | with_reducible apply State.ringStateError_frame
    | with_reducible apply FrameO.ite

theorem execRingStopped_frame {sB : State} (k : Fin 16) (s : State) (hB : Frame F R sB s)
    (r_HOST_RING_STATE : ∀ i, R (Reg.HOST_RING_STATE i)) :
    FrameO F R sB (execRingStopped k s) := by
  delta execRingStopped
  repeat' first
    | with_reducible assumption | lift_lets | with_reducible apply FrameO.next
    | with_reducible apply State.setRing_frame | with_reducible apply FrameO.ite

theorem State.doorbellError_frame {sB : State} (s : State) (bit k v : Nat) (hB : Frame F R sB s) (f_host : F .host)
    (f_flt : F .flt) (r_HOST_ERR : R Reg.HOST_ERR) (r_HOST_ERR_INDEX : R Reg.HOST_ERR_INDEX)
    (r_HOST_ERR_RING : R Reg.HOST_ERR_RING) :
    Frame F R sB (State.doorbellError s bit k v) := by
  delta State.doorbellError
  repeat' first
    | with_reducible assumption | lift_lets | with_reducible apply State.wrN_frame
    | with_reducible apply State.setFld_frame | with_reducible apply State.fault_frame
    | with_reducible apply State.hostErr_frame

theorem State.applyDoorbell_frame {sB : State} (s : State) (k v : Nat) (hB : Frame F R sB s) (f_host : F .host)
    (f_flt : F .flt) (r_HOST_ERR : R Reg.HOST_ERR) (r_HOST_ERR_INDEX : R Reg.HOST_ERR_INDEX)
    (r_HOST_ERR_RING : R Reg.HOST_ERR_RING) (r_HOST_RING_HIDX : ∀ i, R (Reg.HOST_RING_HIDX i)) :
    Frame F R sB (State.applyDoorbell s k v) := by
  delta State.applyDoorbell
  repeat' first
    | with_reducible assumption | lift_lets | with_reducible apply State.wrN_frame
    | with_reducible apply State.doorbellError_frame | with_reducible apply r_HOST_RING_HIDX
    | (intro x; clear_value x) | with_reducible apply Frame.ite

theorem State.drainDoorbells_frame {sB : State} (s : State) (k : Nat) (hB : Frame F R sB s) (f_host : F .host)
    (f_flt : F .flt) (r_HOST_ERR : R Reg.HOST_ERR) (r_HOST_ERR_INDEX : R Reg.HOST_ERR_INDEX)
    (r_HOST_ERR_RING : R Reg.HOST_ERR_RING) (r_HOST_RING_HIDX : ∀ i, R (Reg.HOST_RING_HIDX i)) :
    Frame F R sB (State.drainDoorbells s k) := by
  delta State.drainDoorbells
  repeat' first
    | with_reducible assumption | intro (u : State) (hu : Frame F R sB u) | lift_lets
    | with_reducible apply State.applyDoorbell_frame | with_reducible apply Frame.foldl | intro _
    | with_reducible refine Frame.mk' ?_ rfl

theorem execDoorbell_frame {sB : State} (k : Fin 16) (off width : Nat) (v : Word) (s : State) (hB : Frame F R sB s)
    (f_host : F .host) (f_flt : F .flt) (r_HOST_ERR : R Reg.HOST_ERR) (r_HOST_ERR_ADDR : R Reg.HOST_ERR_ADDR)
    (r_HOST_ERR_INDEX : R Reg.HOST_ERR_INDEX) (r_HOST_ERR_RING : R Reg.HOST_ERR_RING)
    (r_HOST_RING_HIDX : ∀ i, R (Reg.HOST_RING_HIDX i)) :
    FrameO F R sB (execDoorbell k off width v s) := by
  delta execDoorbell
  repeat' first
    | with_reducible assumption | lift_lets | with_reducible apply FrameO.next
    | with_reducible apply State.discarded_frame | with_reducible apply State.applyDoorbell_frame
    | with_reducible apply State.drainDoorbells_frame | (intro x; clear_value x) | with_reducible apply FrameO.ite
    | with_reducible refine Frame.mk' ?_ rfl

theorem State.readItem_frame {sB : State} (s : State) (k : Nat) (descs : List (List Byte)) (hB : Frame F R sB s)
    (f_out : F .out) :
    Frame F R sB (State.readItem s k descs) := by
  delta State.readItem
  repeat' first
    | with_reducible assumption | intro (u : State) (hu : Frame F R sB u) | lift_lets
    | (intro x; refine (fun (hx : Frame F R sB x) => ?_) ?_ <;> [clear_value x; subst x])
    | with_reducible apply State.emit_frame | with_reducible apply Frame.foldl | (intro x; clear_value x) | intro _
    | with_reducible apply Frame.ite

theorem State.checkItem_frame {sB : State} (s : State) (k : Nat) (it : Item) (descs : List (List Byte))
    (hB : Frame F R sB s) (f_fresh : F .fresh) (f_host : F .host) (f_flt : F .flt) (f_hwd : F .hwd)
    (r_HOST_ERR : R Reg.HOST_ERR) :
    Frame F R sB (State.checkItem s k it descs) := by
  delta State.checkItem
  repeat' first
    | with_reducible assumption | intro (u : State) (hu : Frame F R sB u) | lift_lets
    | with_reducible apply State.drawn_frame | with_reducible apply State.fault_frame
    | with_reducible apply State.hostErr_frame | with_reducible apply State.complete_frame
    | with_reducible apply State.openItem_frame | with_reducible apply State.deliver_frame
    | with_reducible apply State.failItem_frame | with_reducible apply Frame.foldl | intro _
    | with_reducible apply Frame.ite | split

theorem execDescriptorFetch_frame {sB : State} (k : Fin 10) (descs : List (List Byte)) (data : List Byte) (s : State)
    (hB : Frame F R sB s) (f_fresh : F .fresh) (f_out : F .out) (f_host : F .host) (f_flt : F .flt) (f_hwd : F .hwd)
    (r_HOST_ERR : R Reg.HOST_ERR) (r_HOST_ERR_INDEX : R Reg.HOST_ERR_INDEX) (r_HOST_ERR_RING : R Reg.HOST_ERR_RING)
    (r_HOST_RING_DIDX : ∀ i, R (Reg.HOST_RING_DIDX i)) (r_HOST_RING_HIDX : ∀ i, R (Reg.HOST_RING_HIDX i)) :
    FrameO F R sB (execDescriptorFetch k descs data s) := by
  delta execDescriptorFetch
  repeat' first
    | with_reducible assumption | with_reducible exact FrameO.fault _ | lift_lets
    | (intro x; refine (fun (hx : Frame F R sB x) => ?_) ?_ <;> [clear_value x; subst x])
    | with_reducible apply FrameO.next | with_reducible apply State.advance_frame
    | with_reducible apply State.drainDoorbells_frame | with_reducible apply State.readItem_frame
    | with_reducible apply State.checkItem_frame | with_reducible apply Frame.ite | with_reducible apply FrameO.ite

theorem execHostReadError_frame {sB : State} (k : Fin 16) (onBuffer : Bool) (descs : List (List Byte)) (status : Nat)
    (s : State) (hB : Frame F R sB s) (f_fresh : F .fresh) (f_host : F .host) (f_flt : F .flt) (f_hwd : F .hwd)
    (r_HOST_ERR : R Reg.HOST_ERR) (r_HOST_ERR_INDEX : R Reg.HOST_ERR_INDEX) (r_HOST_ERR_RING : R Reg.HOST_ERR_RING)
    (r_HOST_RING_DIDX : ∀ i, R (Reg.HOST_RING_DIDX i)) (r_HOST_RING_STATE : ∀ i, R (Reg.HOST_RING_STATE i)) :
    FrameO F R sB (execHostReadError k onBuffer descs status s) := by
  delta execHostReadError
  repeat' first
    | with_reducible assumption | with_reducible exact FrameO.fault _ | lift_lets
    | (intro x; refine (fun (hx : Frame F R sB x) => ?_) ?_ <;> [clear_value x; subst x])
    | with_reducible apply FrameO.next | with_reducible apply State.wrN_frame
    | with_reducible apply State.setFld_frame | with_reducible apply State.fault_frame
    | with_reducible apply State.event_frame | with_reducible apply State.setRing_frame
    | with_reducible apply State.advance_frame | with_reducible apply State.hostErr_frame
    | with_reducible apply State.complete_frame | with_reducible apply State.openItem_frame | (intro x; clear_value x)
    | with_reducible apply Frame.ite | with_reducible apply FrameO.ite

theorem execTakingResumed_frame {sB : State} (s : State) (hB : Frame F R sB s) (f_host : F .host) :
    FrameO F R sB (execTakingResumed s) := by
  delta execTakingResumed
  repeat' first
    | with_reducible assumption | lift_lets | with_reducible apply FrameO.next | (intro x; clear_value x)
    | with_reducible apply FrameO.ite | with_reducible refine Frame.mk' ?_ rfl

theorem State.drainCompletions_frame {sB : State} (s : State) (hB : Frame F R sB s) (f_out : F .out)
    (f_host : F .host) (r_HOST_RING_DIDX : ∀ i, R (Reg.HOST_RING_DIDX i)) :
    Frame F R sB (State.drainCompletions s) := by
  delta State.drainCompletions
  repeat' first
    | with_reducible assumption | intro (u : State) (hu : Frame F R sB u) | lift_lets
    | with_reducible apply State.emit_frame | with_reducible apply State.advance_frame
    | with_reducible apply Frame.foldl | intro _ | with_reducible apply Frame.ite
    | with_reducible refine Frame.mk' ?_ rfl

theorem State.completionsReady_frame {sB : State} (s : State) (hB : Frame F R sB s) (f_host : F .host) :
    Frame F R sB (State.completionsReady s) := by
  delta State.completionsReady
  repeat' first
    | with_reducible assumption | lift_lets | (intro x; clear_value x) | with_reducible refine Frame.mk' ?_ rfl

theorem State.writeBacks_frame {sB : State} (s : State) (hB : Frame F R sB s) (f_out : F .out) (f_host : F .host) :
    Frame F R sB (State.writeBacks s) := by
  delta State.writeBacks
  repeat' first
    | with_reducible assumption | intro (u : State) (hu : Frame F R sB u) | lift_lets
    | (intro x; refine (fun (hx : Frame F R sB x) => ?_) ?_ <;> [clear_value x; subst x])
    | with_reducible apply State.emit_frame | with_reducible apply Frame.foldl | intro _
    | with_reducible apply Frame.ite | with_reducible refine Frame.mk' ?_ rfl

theorem execRingVector_frame {sB : State} (k : Fin 16) (s : State) (hB : Frame F R sB s) (f_out : F .out)
    (f_host : F .host) (r_HOST_MSIX_PBA : ∀ i, R (Reg.HOST_MSIX_PBA i)) :
    FrameO F R sB (execRingVector k s) := by
  delta execRingVector
  repeat' first
    | with_reducible assumption | lift_lets
    | (intro x; refine (fun (hx : Frame F R sB x) => ?_) ?_ <;> [clear_value x; subst x])
    | with_reducible apply FrameO.next | with_reducible apply State.sendVector_frame | (intro x; clear_value x)
    | with_reducible apply FrameO.ite | with_reducible refine Frame.mk' ?_ rfl

theorem execDetach_frame {sB : State} (cause : Nat) (s : State) (hB : Frame F R sB s) (f_host : F .host)
    (f_flt : F .flt) (f_hwd : F .hwd) (r_HOST_LINK : R Reg.HOST_LINK)
    (r_HOST_RING_STATE : ∀ i, R (Reg.HOST_RING_STATE i)) (r_HOST_STATUS : R Reg.HOST_STATUS) :
    FrameO F R sB (execDetach cause s) := by
  delta execDetach
  repeat' first
    | with_reducible assumption | intro (u : State) (hu : Frame F R sB u) | lift_lets
    | with_reducible apply FrameO.next | with_reducible apply State.wrN_frame
    | with_reducible apply State.setFlag_frame | with_reducible apply State.fault_frame
    | with_reducible apply State.event_frame | with_reducible apply State.setRing_frame
    | with_reducible apply Frame.foldl | intro _ | with_reducible apply Frame.ite | split
    | with_reducible refine Frame.mk' ?_ rfl

theorem execAttach_frame {sB : State} (r : LinkRate) (cfg : PciSetup) (s : State) (hB : Frame F R sB s)
    (f_host : F .host) (f_hwd : F .hwd) (r_HOST_LINK : R Reg.HOST_LINK) :
    FrameO F R sB (execAttach r cfg s) := by
  delta execAttach
  repeat' first
    | with_reducible assumption | lift_lets | with_reducible apply FrameO.next | with_reducible apply State.wrN_frame
    | with_reducible apply State.event_frame | (intro x; clear_value x) | with_reducible apply FrameO.ite
    | with_reducible refine Frame.mk' ?_ rfl

theorem State.setLock_frame {sB : State} (s : State) (hB : Frame F R sB s) (f_host : F .host) (f_flt : F .flt)
    (f_hwd : F .hwd) (r_HOST_SETUP_LOCK : R Reg.HOST_SETUP_LOCK) (r_HOST_STATUS : R Reg.HOST_STATUS)
    (r_LCS_EVENTS : R Reg.LCS_EVENTS) :
    Frame F R sB (State.setLock s) := by
  delta State.setLock
  repeat' first
    | with_reducible assumption | lift_lets | with_reducible apply State.setFlag_frame
    | with_reducible apply State.fault_frame | with_reducible apply State.event_frame
    | with_reducible apply State.raiseBit_frame | with_reducible apply Frame.ite

theorem execSetupLock_frame {sB : State} (s : State) (hB : Frame F R sB s) (f_host : F .host) (f_flt : F .flt)
    (f_hwd : F .hwd) (r_HOST_SETUP_LOCK : R Reg.HOST_SETUP_LOCK) (r_HOST_STATUS : R Reg.HOST_STATUS)
    (r_LCS_EVENTS : R Reg.LCS_EVENTS) :
    FrameO F R sB (execSetupLock s) := by
  delta execSetupLock
  repeat' first
    | with_reducible assumption | lift_lets | with_reducible apply FrameO.next
    | with_reducible apply State.setLock_frame

/-! ### Shared -/

theorem State.modStn_frame {sB : State} (s : State) (i : Nat) (f : ScanStn → ScanStn) (hB : Frame F R sB s)
    (f_scan : F .scan) :
    Frame F R sB (State.modStn s i f) := by
  delta State.modStn
  repeat' first
    | with_reducible assumption | with_reducible refine Frame.mk' ?_ rfl

theorem State.modBm_frame {sB : State} (s : State) (i : Nat) (f : BeamStn → BeamStn) (hB : Frame F R sB s)
    (f_beam : F .beam) :
    Frame F R sB (State.modBm s i f) := by
  delta State.modBm
  repeat' first
    | with_reducible assumption | lift_lets | (intro x; clear_value x) | with_reducible refine Frame.mk' ?_ rfl

theorem State.modAx_frame {sB : State} (s : State) (a : Nat) (f : StepAxis → StepAxis) (hB : Frame F R sB s)
    (f_step : F .step) :
    Frame F R sB (State.modAx s a f) := by
  delta State.modAx
  repeat' first
    | with_reducible assumption | lift_lets | (intro x; clear_value x) | with_reducible refine Frame.mk' ?_ rfl

theorem State.modSx_frame {sB : State} (s : State) (a : Nat) (f : SyncAxis → SyncAxis) (hB : Frame F R sB s)
    (f_axis : F .axis) :
    Frame F R sB (State.modSx s a f) := by
  delta State.modSx
  repeat' first
    | with_reducible assumption | lift_lets | (intro x; clear_value x) | with_reducible refine Frame.mk' ?_ rfl

theorem State.modLp_frame {sB : State} (s : State) (l : Nat) (f : LoopUnit → LoopUnit) (hB : Frame F R sB s)
    (f_loop : F .loop) :
    Frame F R sB (State.modLp s l f) := by
  delta State.modLp
  repeat' first
    | with_reducible assumption | lift_lets | (intro x; clear_value x) | with_reducible refine Frame.mk' ?_ rfl

theorem State.modDch_frame {sB : State} (s : State) (c : Nat) (f : DmaChan → DmaChan) (hB : Frame F R sB s)
    (f_dma : F .dma) :
    Frame F R sB (State.modDch s c f) := by
  delta State.modDch
  repeat' first
    | with_reducible assumption | lift_lets | (intro x; clear_value x) | with_reducible refine Frame.mk' ?_ rfl

theorem State.pathNotice_frame {sB : State} (s : State) (kind value : Nat) (hB : Frame F R sB s) (f_out : F .out) :
    Frame F R sB (State.pathNotice s kind value) := by
  delta State.pathNotice
  repeat' first
    | with_reducible assumption | with_reducible apply State.emit_frame

theorem State.brakeStep_frame {sB : State} (s : State) (a : Nat) (mode : StepMode) (h : Halt) (hB : Frame F R sB s)
    (f_step : F .step) :
    Frame F R sB (State.brakeStep s a mode h) := by
  delta State.brakeStep
  repeat' first
    | with_reducible assumption | lift_lets | with_reducible apply State.modAx_frame

theorem State.brakeSync_frame {sB : State} (s : State) (a : Nat) (mode : AxisMode) (h : Halt) (hB : Frame F R sB s)
    (f_axis : F .axis) :
    Frame F R sB (State.brakeSync s a mode h) := by
  delta State.brakeSync
  repeat' first
    | with_reducible assumption | lift_lets | with_reducible apply State.modSx_frame

theorem State.askStop_frame {sB : State} (s : State) (stepper : Bool) (a : Nat) (hB : Frame F R sB s)
    (f_step : F .step) (f_axis : F .axis) :
    Frame F R sB (State.askStop s stepper a) := by
  delta State.askStop
  repeat' first
    | with_reducible assumption | lift_lets | with_reducible apply State.brakeStep_frame
    | with_reducible apply State.brakeSync_frame | with_reducible apply Frame.ite | split

theorem State.enterLedger_frame {sB : State} (s : State) (stepper : Bool) (a : Nat) (hB : Frame F R sB s)
    (f_flt : F .flt) (f_step : F .step) (f_axis : F .axis) :
    Frame F R sB (State.enterLedger s stepper a) := by
  delta State.enterLedger
  repeat' first
    | with_reducible assumption | lift_lets | with_reducible apply State.modAx_frame
    | with_reducible apply State.modSx_frame | with_reducible apply Frame.ite | split

theorem State.leaveLedger_frame {sB : State} (s : State) (stepper : Bool) (a : Nat) (hB : Frame F R sB s)
    (f_step : F .step) (f_axis : F .axis) :
    Frame F R sB (State.leaveLedger s stepper a) := by
  delta State.leaveLedger
  repeat' first
    | with_reducible assumption | lift_lets | with_reducible apply State.modAx_frame
    | with_reducible apply State.modSx_frame | (intro x; clear_value x) | with_reducible apply Frame.ite

theorem State.idleLedger_frame {sB : State} (s : State) (stepper : Bool) (a : Nat) (hB : Frame F R sB s)
    (f_step : F .step) (f_axis : F .axis) :
    Frame F R sB (State.idleLedger s stepper a) := by
  delta State.idleLedger
  repeat' first
    | with_reducible assumption | lift_lets | with_reducible apply State.modAx_frame
    | with_reducible apply State.modSx_frame | with_reducible apply Frame.ite

theorem State.ledgerSpeed_frame {sB : State} (s : State) (stepper : Bool) (a : Nat) (v : Int) (hB : Frame F R sB s)
    (f_step : F .step) (f_axis : F .axis) :
    Frame F R sB (State.ledgerSpeed s stepper a v) := by
  delta State.ledgerSpeed
  repeat' first
    | with_reducible assumption | lift_lets | with_reducible apply State.modAx_frame
    | with_reducible apply State.modSx_frame | with_reducible apply Frame.ite

theorem State.gatherScap_frame {sB : State} (s : State) (i p : Nat) (e : Edge) (t : State) (h : s.gatherScap i p =
    some (e, t)) (hB : Frame F R sB s) (f_sio : F .sio) :
    Frame F R sB t := by
  unfold State.gatherScap at h
  dsimp only at h
  split at h
  · split at h
    · obtain ⟨rfl, rfl⟩ := h
      exact hB.mk' rfl
    · cases h
  · cases h

theorem State.wipeChannel_frame {sB : State} (s : State) (code : Nat) (hB : Frame F R sB s)
    (r_DMA_CH_STATE : ∀ i, R (Reg.DMA_CH_STATE i)) :
    Frame F R sB (State.wipeChannel s code) := by
  delta State.wipeChannel
  repeat' first
    | with_reducible assumption | lift_lets | with_reducible apply State.setFld_frame
    | with_reducible apply r_DMA_CH_STATE

theorem State.legPost_frame {sB : State} (s : State) (code : Nat) (hB : Frame F R sB s) (f_leg : F .leg)
    (r_LEG_STATUS : R Reg.LEG_STATUS) :
    Frame F R sB (State.legPost s code) := by
  delta State.legPost
  repeat' first
    | with_reducible assumption | lift_lets
    | (intro x; refine (fun (hx : Frame F R sB x) => ?_) ?_ <;> [clear_value x; subst x])
    | with_reducible apply State.setFld_frame | (intro x; clear_value x) | with_reducible apply Frame.ite
    | with_reducible refine Frame.mk' ?_ rfl

theorem State.legLost_frame {sB : State} (s : State) (id cause : Nat) (hB : Frame F R sB s) (f_host : F .host)
    (f_hwd : F .hwd) (f_leg : F .leg) (r_LEG_EVENTS : R Reg.LEG_EVENTS) :
    Frame F R sB (State.legLost s id cause) := by
  delta State.legLost
  repeat' first
    | with_reducible assumption | lift_lets | with_reducible apply State.event_frame
    | with_reducible apply State.raiseBit_frame | with_reducible refine Frame.mk' ?_ rfl

theorem State.legJam_frame {sB : State} (s : State) (hB : Frame F R sB s) (f_leg : F .leg)
    (r_LEG_STATUS : R Reg.LEG_STATUS) :
    Frame F R sB (State.legJam s) := by
  delta State.legJam
  repeat' first
    | with_reducible assumption | lift_lets | with_reducible apply State.setFlag_frame
    | with_reducible apply State.legPost_frame | (intro x; clear_value x) | with_reducible apply Frame.ite
    | with_reducible refine Frame.mk' ?_ rfl

/-! ### LedgerOps -/

theorem State.putSheet_frame {sB : State} (s : State) (sh : Sheet) (hB : Frame F R sB s) (f_ledg : F .ledg) :
    Frame F R sB (State.putSheet s sh) := by
  delta State.putSheet
  repeat' first
    | with_reducible assumption | lift_lets | (intro x; clear_value x) | with_reducible refine Frame.mk' ?_ rfl

theorem State.ledgerRecord_frame {sB : State} (s : State) (ev id st frm cause stn band aux : Nat)
    (hB : Frame F R sB s) (f_fresh : F .fresh) (f_host : F .host) (f_hwd : F .hwd) (r_HOST_ERR : R Reg.HOST_ERR) :
    Frame F R sB (State.ledgerRecord s ev id st frm cause stn band aux) := by
  delta State.ledgerRecord
  repeat' first
    | with_reducible assumption | lift_lets | with_reducible apply State.drawn_frame
    | with_reducible apply State.queueRecord_frame

theorem State.moveSheet_frame {sB : State} (s : State) (sh : Sheet) (st : SheetState) (ev : Nat) (cause : Nat)
    (stn : Nat) (band : Nat) (aux : Nat) (hB : Frame F R sB s) (f_fresh : F .fresh) (f_host : F .host)
    (f_ledg : F .ledg) (f_hwd : F .hwd) (r_HOST_ERR : R Reg.HOST_ERR) :
    Frame F R sB (State.moveSheet s sh st ev cause stn band aux) := by
  delta State.moveSheet
  repeat' first
    | with_reducible assumption | lift_lets | with_reducible apply State.putSheet_frame
    | with_reducible apply State.ledgerRecord_frame

theorem State.refuseItem_frame {sB : State} (s : State) (it : Item) (detail : Nat) (hB : Frame F R sB s)
    (f_fresh : F .fresh) (f_host : F .host) (f_hwd : F .hwd) (r_HOST_ERR : R Reg.HOST_ERR)
    (r_LEDG_COUNT_REFUSED : R Reg.LEDG_COUNT_REFUSED) (r_LEDG_EVENTS : R Reg.LEDG_EVENTS) :
    Frame F R sB (State.refuseItem s it detail) := by
  delta State.refuseItem
  repeat' first
    | with_reducible assumption | lift_lets | with_reducible apply State.bump_frame
    | with_reducible apply State.event_frame | with_reducible apply State.raiseBit_frame
    | with_reducible apply State.complete_frame

theorem State.dropReport_frame {sB : State} (s : State) (r : Report) (hB : Frame F R sB s) (f_ledg : F .ledg) :
    Frame F R sB (State.dropReport s r) := by
  delta State.dropReport
  repeat' first
    | with_reducible assumption | lift_lets | (intro x; clear_value x) | with_reducible refine Frame.mk' ?_ rfl

theorem State.stopSheet_frame {sB : State} (s : State) (id : Nat) (hB : Frame F R sB s) (f_scan : F .scan) :
    Frame F R sB (State.stopSheet s id) := by
  delta State.stopSheet
  repeat' first
    | with_reducible assumption | with_reducible refine Frame.mk' ?_ rfl

theorem State.giveSheet_frame {sB : State} (s : State) (sh : Sheet) (hB : Frame F R sB s) (f_scan : F .scan) :
    Frame F R sB (State.giveSheet s sh) := by
  delta State.giveSheet
  repeat' first
    | with_reducible assumption | intro (u : State) (hu : Frame F R sB u) | lift_lets
    | with_reducible apply State.modStn_frame | with_reducible apply Frame.foldl | intro _

theorem State.withdraw_frame {sB : State} (s : State) (sh : Sheet) (cause : Nat) (stn : Nat) (band : Nat)
    (hB : Frame F R sB s) (f_fresh : F .fresh) (f_host : F .host) (f_ledg : F .ledg) (f_hwd : F .hwd)
    (f_burl : F .burl) (f_scan : F .scan) (r_HOST_ERR : R Reg.HOST_ERR) (r_LEDG_EVENTS : R Reg.LEDG_EVENTS) :
    Frame F R sB (State.withdraw s sh cause stn band) := by
  delta State.withdraw
  repeat' first
    | with_reducible assumption | lift_lets
    | (intro x; refine (fun (hx : Frame F R sB x) => ?_) ?_ <;> [clear_value x; subst x])
    | with_reducible apply State.event_frame | with_reducible apply State.raiseBit_frame
    | with_reducible apply State.dropLanes_frame | with_reducible apply State.dropLines_frame
    | with_reducible apply State.moveSheet_frame | with_reducible apply State.stopSheet_frame

theorem State.spoil_frame {sB : State} (s : State) (sh : Sheet) (cause : Nat) (stn : Nat) (band : Nat)
    (hB : Frame F R sB s) (f_fresh : F .fresh) (f_host : F .host) (f_ledg : F .ledg) (f_hwd : F .hwd)
    (f_burl : F .burl) (f_scan : F .scan) (r_HOST_ERR : R Reg.HOST_ERR)
    (r_LEDG_COUNT_SPOILED : R Reg.LEDG_COUNT_SPOILED) (r_LEDG_EVENTS : R Reg.LEDG_EVENTS) :
    Frame F R sB (State.spoil s sh cause stn band) := by
  delta State.spoil
  repeat' first
    | with_reducible assumption | lift_lets
    | (intro x; refine (fun (hx : Frame F R sB x) => ?_) ?_ <;> [clear_value x; subst x])
    | with_reducible apply State.bump_frame | with_reducible apply State.event_frame
    | with_reducible apply State.raiseBit_frame | with_reducible apply State.dropLanes_frame
    | with_reducible apply State.moveSheet_frame | with_reducible apply State.stopSheet_frame

theorem State.spoilAll_frame {sB : State} (s : State) (cause : Nat) (p : Sheet → Bool) (stn : Nat)
    (hB : Frame F R sB s) (f_fresh : F .fresh) (f_host : F .host) (f_ledg : F .ledg) (f_hwd : F .hwd)
    (f_burl : F .burl) (f_scan : F .scan) (r_HOST_ERR : R Reg.HOST_ERR)
    (r_LEDG_COUNT_SPOILED : R Reg.LEDG_COUNT_SPOILED) (r_LEDG_EVENTS : R Reg.LEDG_EVENTS) :
    Frame F R sB (State.spoilAll s cause p stn) := by
  delta State.spoilAll
  repeat' first
    | with_reducible assumption | intro (u : State) (hu : Frame F R sB u) | lift_lets
    | with_reducible apply State.spoil_frame | with_reducible apply Frame.foldl | intro _

theorem State.jamSheet_frame {sB : State} (s : State) (sh : Sheet) (cause point : Nat) (hB : Frame F R sB s)
    (f_fresh : F .fresh) (f_host : F .host) (f_ledg : F .ledg) (f_hwd : F .hwd) (f_burl : F .burl) (f_scan : F .scan)
    (r_HOST_ERR : R Reg.HOST_ERR) :
    Frame F R sB (State.jamSheet s sh cause point) := by
  delta State.jamSheet
  repeat' first
    | with_reducible assumption | lift_lets | with_reducible apply State.event_frame
    | with_reducible apply State.dropLanes_frame | with_reducible apply State.moveSheet_frame
    | with_reducible apply State.stopSheet_frame

theorem State.stopPath_frame {sB : State} (s : State) (hB : Frame F R sB s) (f_step : F .step) (f_axis : F .axis) :
    Frame F R sB (State.stopPath s) := by
  delta State.stopPath
  repeat' first
    | with_reducible assumption | intro (u : State) (hu : Frame F R sB u) | lift_lets
    | with_reducible apply State.askStop_frame | with_reducible apply Frame.foldl | intro _
    | with_reducible apply Frame.ite

theorem State.takeAxes_frame {sB : State} (s : State) (hB : Frame F R sB s) (f_pace : F .pace) (f_flt : F .flt)
    (f_step : F .step) (f_axis : F .axis) :
    Frame F R sB (State.takeAxes s) := by
  delta State.takeAxes
  repeat' first
    | with_reducible assumption | intro (u : State) (hu : Frame F R sB u) | lift_lets
    | (intro x; refine (fun (hx : Frame F R sB x) => ?_) ?_ <;> [clear_value x; subst x])
    | with_reducible apply State.enterLedger_frame | with_reducible apply Frame.foldl | (intro x; clear_value x)
    | intro _ | with_reducible refine Frame.mk' ?_ rfl

theorem State.safePath_frame {sB : State} (s : State) (hB : Frame F R sB s) (f_pace : F .pace) :
    Frame F R sB (State.safePath s) := by
  delta State.safePath
  repeat' first
    | with_reducible assumption | lift_lets | (intro x; clear_value x) | with_reducible refine Frame.mk' ?_ rfl

theorem State.abortBackhitch_frame {sB : State} (s : State) (cause : Nat) (hB : Frame F R sB s) (f_fresh : F .fresh)
    (f_out : F .out) (f_host : F .host) (f_pace : F .pace) (f_flt : F .flt) (f_hwd : F .hwd) (f_step : F .step)
    (f_axis : F .axis) (r_HOST_ERR : R Reg.HOST_ERR) (r_LEDG_BH_STATUS : R Reg.LEDG_BH_STATUS)
    (r_LEDG_PACE_EVENTS : R Reg.LEDG_PACE_EVENTS) :
    Frame F R sB (State.abortBackhitch s cause) := by
  delta State.abortBackhitch
  repeat' first
    | with_reducible assumption | intro (u : State) (hu : Frame F R sB u) | lift_lets
    | (intro x; refine (fun (hx : Frame F R sB x) => ?_) ?_ <;> [clear_value x; subst x])
    | with_reducible apply State.setFld_frame | with_reducible apply State.event_frame
    | with_reducible apply State.raiseBit_frame | with_reducible apply State.pathNotice_frame
    | with_reducible apply State.idleLedger_frame | with_reducible apply State.ledgerRecord_frame
    | with_reducible apply State.takeAxes_frame | with_reducible apply State.safePath_frame
    | with_reducible apply Frame.foldl | (intro x; clear_value x) | intro _ | with_reducible apply Frame.ite
    | with_reducible refine Frame.mk' ?_ rfl

theorem State.jam_frame {sB : State} (s : State) (concerned : Option Nat) (cause point : Nat) (hB : Frame F R sB s)
    (f_fresh : F .fresh) (f_out : F .out) (f_host : F .host) (f_ledg : F .ledg) (f_pace : F .pace) (f_flt : F .flt)
    (f_hwd : F .hwd) (f_burl : F .burl) (f_scan : F .scan) (f_step : F .step) (f_axis : F .axis) (f_leg : F .leg)
    (r_HOST_ERR : R Reg.HOST_ERR) (r_LEDG_BH_STATUS : R Reg.LEDG_BH_STATUS) (r_LEDG_COUNT_JAM : R Reg.LEDG_COUNT_JAM)
    (r_LEDG_EVENTS : R Reg.LEDG_EVENTS) (r_LEDG_PACE_EVENTS : R Reg.LEDG_PACE_EVENTS)
    (r_LEDG_STATUS : R Reg.LEDG_STATUS) (r_LEG_STATUS : R Reg.LEG_STATUS) :
    Frame F R sB (State.jam s concerned cause point) := by
  delta State.jam
  repeat' first
    | with_reducible assumption | intro (u : State) (hu : Frame F R sB u) | lift_lets
    | (intro x; refine (fun (hx : Frame F R sB x) => ?_) ?_ <;> [clear_value x; subst x])
    | with_reducible apply State.setFlag_frame | with_reducible apply State.bump_frame
    | with_reducible apply State.raiseBit_frame | with_reducible apply State.legJam_frame
    | with_reducible apply State.withdraw_frame | with_reducible apply State.jamSheet_frame
    | with_reducible apply State.stopPath_frame | with_reducible apply State.abortBackhitch_frame
    | with_reducible apply Frame.foldl | intro _

theorem State.axisFaultJam_frame {sB : State} (s : State) (stepper : Bool) (a : Nat) (hB : Frame F R sB s)
    (f_fresh : F .fresh) (f_out : F .out) (f_host : F .host) (f_ledg : F .ledg) (f_pace : F .pace) (f_flt : F .flt)
    (f_hwd : F .hwd) (f_burl : F .burl) (f_scan : F .scan) (f_step : F .step) (f_axis : F .axis) (f_leg : F .leg)
    (r_HOST_ERR : R Reg.HOST_ERR) (r_LEDG_BH_STATUS : R Reg.LEDG_BH_STATUS) (r_LEDG_COUNT_JAM : R Reg.LEDG_COUNT_JAM)
    (r_LEDG_EVENTS : R Reg.LEDG_EVENTS) (r_LEDG_PACE_EVENTS : R Reg.LEDG_PACE_EVENTS)
    (r_LEDG_STATUS : R Reg.LEDG_STATUS) (r_LEG_STATUS : R Reg.LEG_STATUS) :
    Frame F R sB (State.axisFaultJam s stepper a) := by
  delta State.axisFaultJam
  repeat' first
    | with_reducible assumption | lift_lets | with_reducible apply State.jam_frame | (intro x; clear_value x)
    | with_reducible apply Frame.ite

theorem State.progress_frame {sB : State} (s : State) (id : Nat) (hB : Frame F R sB s) (f_fresh : F .fresh)
    (f_host : F .host) (f_ledg : F .ledg) (f_hwd : F .hwd) (r_HOST_ERR : R Reg.HOST_ERR)
    (r_LEDG_COUNT_DELIVERED : R Reg.LEDG_COUNT_DELIVERED) (r_LEDG_EVENTS : R Reg.LEDG_EVENTS) :
    Frame F R sB (State.progress s id) := by
  delta State.progress
  repeat' first
    | with_reducible assumption | lift_lets
    | (intro x; refine (fun (hx : Frame F R sB x) => ?_) ?_ <;> [clear_value x; subst x])
    | with_reducible apply State.bump_frame | with_reducible apply State.raiseBit_frame
    | with_reducible apply State.putSheet_frame | with_reducible apply State.ledgerRecord_frame
    | with_reducible apply State.moveSheet_frame | with_reducible apply Frame.ite | split

theorem State.meetTarget_frame {sB : State} (s : State) (sh : Sheet) (point : Nat) (trail : Bool)
    (hB : Frame F R sB s) (f_ledg : F .ledg) :
    Frame F R sB (State.meetTarget s sh point trail) := by
  delta State.meetTarget
  repeat' first
    | with_reducible assumption | with_reducible apply State.putSheet_frame

end Sys2Proof.Machine
end

