-- ==== Sys2Proof/Laws/FrameMotion.lean ====
section
/-!
SUPPORT. What each operation and each command can change, said once: the operations of STEP, AXIS and LOOP. A lemma
`f_frame` names the parts of the state and the registers that `f` can change; all else, the queue of commands and the
fused life-cycle state stay, and the canonical form is kept.
-/

set_option Elab.async false
set_option linter.all false

namespace Sys2Proof.Machine

variable {F : Blk → Prop} {R : Nat → Prop}

/-! ### Stepper -/

theorem State.stepCommand_frame {sB : State} (s : State) (a : Nat) (checks : List (Bool × Nat)) (f : State → State)
    (hf : ∀ u, Frame F R sB u → Frame F R sB (f u)) (hB : Frame F R sB s) (f_host : F .host)
    (r_STEP_AX_RESULT : ∀ i, R (Reg.STEP_AX_RESULT i)) (r_STEP_EVENTS : R Reg.STEP_EVENTS) :
    Frame F R sB (State.stepCommand s a checks f) := by
  delta State.stepCommand
  repeat' first
    | with_reducible assumption | lift_lets | with_reducible apply State.wrN_frame
    | with_reducible apply State.raiseBit_frame | with_reducible apply hf | with_reducible apply r_STEP_AX_RESULT
    | split

theorem State.stepFault_frame {sB : State} (s : State) (a kind detail status : Nat) (hB : Frame F R sB s)
    (f_fresh : F .fresh) (f_out : F .out) (f_host : F .host) (f_ledg : F .ledg) (f_pace : F .pace) (f_flt : F .flt)
    (f_hwd : F .hwd) (f_burl : F .burl) (f_scan : F .scan) (f_step : F .step) (f_axis : F .axis) (f_leg : F .leg)
    (r_HOST_ERR : R Reg.HOST_ERR) (r_LEDG_BH_STATUS : R Reg.LEDG_BH_STATUS) (r_LEDG_COUNT_JAM : R Reg.LEDG_COUNT_JAM)
    (r_LEDG_EVENTS : R Reg.LEDG_EVENTS) (r_LEDG_PACE_EVENTS : R Reg.LEDG_PACE_EVENTS)
    (r_LEDG_STATUS : R Reg.LEDG_STATUS) (r_LEG_STATUS : R Reg.LEG_STATUS)
    (r_STEP_AX_FAULT : ∀ i, R (Reg.STEP_AX_FAULT i)) :
    Frame F R sB (State.stepFault s a kind detail status) := by
  delta State.stepFault
  repeat' first
    | with_reducible assumption | lift_lets
    | (intro x; refine (fun (hx : Frame F R sB x) => ?_) ?_ <;> [clear_value x; subst x])
    | with_reducible apply State.wrN_frame | with_reducible apply State.fault_frame
    | with_reducible apply State.modAx_frame | with_reducible apply State.brakeStep_frame
    | with_reducible apply State.axisFaultJam_frame | with_reducible apply r_STEP_AX_FAULT
    | with_reducible apply Frame.ite

theorem State.clearHomed_frame {sB : State} (s : State) (a : Nat) (hB : Frame F R sB s) (f_step : F .step) :
    Frame F R sB (State.clearHomed s a) := by
  delta State.clearHomed
  repeat' first
    | with_reducible assumption | with_reducible apply State.modAx_frame

theorem State.setStepLink_frame {sB : State} (s : State) (k new cause : Nat) (hB : Frame F R sB s) (f_host : F .host)
    (f_hwd : F .hwd) (f_step : F .step) (r_STEP_EVENTS : R Reg.STEP_EVENTS)
    (r_STEP_LINK_STATE : ∀ i, R (Reg.STEP_LINK_STATE i)) :
    Frame F R sB (State.setStepLink s k new cause) := by
  delta State.setStepLink
  repeat' first
    | with_reducible assumption | lift_lets | with_reducible apply State.setFld_frame
    | with_reducible apply State.event_frame | with_reducible apply State.raiseBit_frame
    | with_reducible apply r_STEP_LINK_STATE | split | with_reducible refine Frame.mk' ?_ rfl

theorem State.stepLinkFaults_frame {sB : State} (s : State) (k : Nat) (hB : Frame F R sB s) (f_fresh : F .fresh)
    (f_out : F .out) (f_host : F .host) (f_ledg : F .ledg) (f_pace : F .pace) (f_flt : F .flt) (f_hwd : F .hwd)
    (f_burl : F .burl) (f_scan : F .scan) (f_step : F .step) (f_axis : F .axis) (f_leg : F .leg)
    (r_HOST_ERR : R Reg.HOST_ERR) (r_LEDG_BH_STATUS : R Reg.LEDG_BH_STATUS) (r_LEDG_COUNT_JAM : R Reg.LEDG_COUNT_JAM)
    (r_LEDG_EVENTS : R Reg.LEDG_EVENTS) (r_LEDG_PACE_EVENTS : R Reg.LEDG_PACE_EVENTS)
    (r_LEDG_STATUS : R Reg.LEDG_STATUS) (r_LEG_STATUS : R Reg.LEG_STATUS)
    (r_STEP_AX_FAULT : ∀ i, R (Reg.STEP_AX_FAULT i)) :
    Frame F R sB (State.stepLinkFaults s k) := by
  delta State.stepLinkFaults
  repeat' first
    | with_reducible assumption | intro (u : State) (hu : Frame F R sB u) | lift_lets
    | with_reducible apply State.fault_frame | with_reducible apply State.stepFault_frame
    | with_reducible apply State.clearHomed_frame | with_reducible apply Frame.foldl | intro _
    | with_reducible apply Frame.ite

theorem State.loseStepLink_frame {sB : State} (s : State) (k cause : Nat) (hB : Frame F R sB s) (f_fresh : F .fresh)
    (f_out : F .out) (f_host : F .host) (f_ledg : F .ledg) (f_pace : F .pace) (f_flt : F .flt) (f_hwd : F .hwd)
    (f_burl : F .burl) (f_scan : F .scan) (f_step : F .step) (f_axis : F .axis) (f_leg : F .leg)
    (r_HOST_ERR : R Reg.HOST_ERR) (r_LEDG_BH_STATUS : R Reg.LEDG_BH_STATUS) (r_LEDG_COUNT_JAM : R Reg.LEDG_COUNT_JAM)
    (r_LEDG_EVENTS : R Reg.LEDG_EVENTS) (r_LEDG_PACE_EVENTS : R Reg.LEDG_PACE_EVENTS)
    (r_LEDG_STATUS : R Reg.LEDG_STATUS) (r_LEG_STATUS : R Reg.LEG_STATUS)
    (r_STEP_AX_FAULT : ∀ i, R (Reg.STEP_AX_FAULT i)) (r_STEP_EVENTS : R Reg.STEP_EVENTS)
    (r_STEP_LINK_STATE : ∀ i, R (Reg.STEP_LINK_STATE i)) :
    Frame F R sB (State.loseStepLink s k cause) := by
  delta State.loseStepLink
  repeat' first
    | with_reducible assumption | lift_lets | with_reducible apply State.setStepLink_frame
    | with_reducible apply State.stepLinkFaults_frame | with_reducible apply Frame.ite

theorem State.downStepLink_frame {sB : State} (s : State) (k : Nat) (hB : Frame F R sB s) (f_fresh : F .fresh)
    (f_out : F .out) (f_host : F .host) (f_ledg : F .ledg) (f_pace : F .pace) (f_flt : F .flt) (f_hwd : F .hwd)
    (f_burl : F .burl) (f_scan : F .scan) (f_step : F .step) (f_axis : F .axis) (f_leg : F .leg)
    (r_HOST_ERR : R Reg.HOST_ERR) (r_LEDG_BH_STATUS : R Reg.LEDG_BH_STATUS) (r_LEDG_COUNT_JAM : R Reg.LEDG_COUNT_JAM)
    (r_LEDG_EVENTS : R Reg.LEDG_EVENTS) (r_LEDG_PACE_EVENTS : R Reg.LEDG_PACE_EVENTS)
    (r_LEDG_STATUS : R Reg.LEDG_STATUS) (r_LEG_STATUS : R Reg.LEG_STATUS)
    (r_STEP_AX_FAULT : ∀ i, R (Reg.STEP_AX_FAULT i)) (r_STEP_EVENTS : R Reg.STEP_EVENTS)
    (r_STEP_LINK_STATE : ∀ i, R (Reg.STEP_LINK_STATE i)) :
    Frame F R sB (State.downStepLink s k) := by
  delta State.downStepLink
  repeat' first
    | with_reducible assumption | lift_lets | with_reducible apply State.setStepLink_frame
    | with_reducible apply State.stepLinkFaults_frame | with_reducible apply Frame.ite

theorem State.stallCheck_frame {sB : State} (s : State) (a : Nat) (r : StepSlot) (hB : Frame F R sB s)
    (f_fresh : F .fresh) (f_out : F .out) (f_host : F .host) (f_ledg : F .ledg) (f_pace : F .pace) (f_flt : F .flt)
    (f_hwd : F .hwd) (f_burl : F .burl) (f_scan : F .scan) (f_step : F .step) (f_axis : F .axis) (f_leg : F .leg)
    (r_HOST_ERR : R Reg.HOST_ERR) (r_LEDG_BH_STATUS : R Reg.LEDG_BH_STATUS) (r_LEDG_COUNT_JAM : R Reg.LEDG_COUNT_JAM)
    (r_LEDG_EVENTS : R Reg.LEDG_EVENTS) (r_LEDG_PACE_EVENTS : R Reg.LEDG_PACE_EVENTS)
    (r_LEDG_STATUS : R Reg.LEDG_STATUS) (r_LEG_STATUS : R Reg.LEG_STATUS)
    (r_STEP_AX_FAULT : ∀ i, R (Reg.STEP_AX_FAULT i)) (r_STEP_EVENTS : R Reg.STEP_EVENTS) :
    Frame F R sB (State.stallCheck s a r) := by
  delta State.stallCheck
  repeat' first
    | with_reducible assumption | lift_lets
    | (intro x; refine (fun (hx : Frame F R sB x) => ?_) ?_ <;> [clear_value x; subst x])
    | with_reducible apply State.event_frame | with_reducible apply State.raiseBit_frame
    | with_reducible apply State.modAx_frame | with_reducible apply State.stepFault_frame | (intro x; clear_value x)
    | with_reducible apply Frame.ite

theorem State.stepEstimate_frame {sB : State} (s : State) (a : Nat) (r : StepSlot) (hB : Frame F R sB s)
    (f_step : F .step) (r_STEP_AX_LOAD : ∀ i, R (Reg.STEP_AX_LOAD i)) :
    Frame F R sB (State.stepEstimate s a r) := by
  delta State.stepEstimate
  repeat' first
    | with_reducible assumption | lift_lets | with_reducible apply State.wrN_frame
    | with_reducible apply State.modAx_frame | with_reducible apply r_STEP_AX_LOAD

theorem State.driverFault_frame {sB : State} (s : State) (a st : Nat) (hB : Frame F R sB s) (f_fresh : F .fresh)
    (f_out : F .out) (f_host : F .host) (f_ledg : F .ledg) (f_pace : F .pace) (f_flt : F .flt) (f_hwd : F .hwd)
    (f_burl : F .burl) (f_scan : F .scan) (f_step : F .step) (f_axis : F .axis) (f_leg : F .leg)
    (r_HOST_ERR : R Reg.HOST_ERR) (r_LEDG_BH_STATUS : R Reg.LEDG_BH_STATUS) (r_LEDG_COUNT_JAM : R Reg.LEDG_COUNT_JAM)
    (r_LEDG_EVENTS : R Reg.LEDG_EVENTS) (r_LEDG_PACE_EVENTS : R Reg.LEDG_PACE_EVENTS)
    (r_LEDG_STATUS : R Reg.LEDG_STATUS) (r_LEG_STATUS : R Reg.LEG_STATUS)
    (r_STEP_AX_FAULT : ∀ i, R (Reg.STEP_AX_FAULT i)) (r_STEP_EVENTS : R Reg.STEP_EVENTS) :
    Frame F R sB (State.driverFault s a st) := by
  delta State.driverFault
  repeat' first
    | with_reducible assumption | lift_lets
    | (intro x; refine (fun (hx : Frame F R sB x) => ?_) ?_ <;> [clear_value x; subst x])
    | with_reducible apply State.wrN_frame | with_reducible apply State.setFld_frame
    | with_reducible apply State.fault_frame | with_reducible apply State.event_frame
    | with_reducible apply State.raiseBit_frame | with_reducible apply State.stepFault_frame
    | with_reducible apply State.clearHomed_frame | with_reducible apply r_STEP_AX_FAULT | (intro x; clear_value x)
    | with_reducible apply Frame.ite

theorem State.stepReturn_frame {sB : State} (s : State) (a : Nat) (r : StepSlot) (hB : Frame F R sB s)
    (f_fresh : F .fresh) (f_out : F .out) (f_host : F .host) (f_ledg : F .ledg) (f_pace : F .pace) (f_flt : F .flt)
    (f_hwd : F .hwd) (f_burl : F .burl) (f_scan : F .scan) (f_step : F .step) (f_axis : F .axis) (f_leg : F .leg)
    (r_HOST_ERR : R Reg.HOST_ERR) (r_LEDG_BH_STATUS : R Reg.LEDG_BH_STATUS) (r_LEDG_COUNT_JAM : R Reg.LEDG_COUNT_JAM)
    (r_LEDG_EVENTS : R Reg.LEDG_EVENTS) (r_LEDG_PACE_EVENTS : R Reg.LEDG_PACE_EVENTS)
    (r_LEDG_STATUS : R Reg.LEDG_STATUS) (r_LEG_STATUS : R Reg.LEG_STATUS)
    (r_STEP_AX_FAULT : ∀ i, R (Reg.STEP_AX_FAULT i)) (r_STEP_AX_LOAD : ∀ i, R (Reg.STEP_AX_LOAD i))
    (r_STEP_EVENTS : R Reg.STEP_EVENTS) :
    Frame F R sB (State.stepReturn s a r) := by
  delta State.stepReturn
  repeat' first
    | with_reducible assumption | lift_lets
    | (intro x; refine (fun (hx : Frame F R sB x) => ?_) ?_ <;> [clear_value x; subst x])
    | with_reducible apply State.modAx_frame | with_reducible apply State.stallCheck_frame
    | with_reducible apply State.stepEstimate_frame | with_reducible apply State.driverFault_frame
    | with_reducible apply Frame.ite | split

theorem State.stepReturns_frame {sB : State} (s : State) (hB : Frame F R sB s) (f_fresh : F .fresh) (f_out : F .out)
    (f_host : F .host) (f_ledg : F .ledg) (f_pace : F .pace) (f_flt : F .flt) (f_hwd : F .hwd) (f_burl : F .burl)
    (f_scan : F .scan) (f_step : F .step) (f_axis : F .axis) (f_leg : F .leg) (r_HOST_ERR : R Reg.HOST_ERR)
    (r_LEDG_BH_STATUS : R Reg.LEDG_BH_STATUS) (r_LEDG_COUNT_JAM : R Reg.LEDG_COUNT_JAM)
    (r_LEDG_EVENTS : R Reg.LEDG_EVENTS) (r_LEDG_PACE_EVENTS : R Reg.LEDG_PACE_EVENTS)
    (r_LEDG_STATUS : R Reg.LEDG_STATUS) (r_LEG_STATUS : R Reg.LEG_STATUS)
    (r_STEP_AX_FAULT : ∀ i, R (Reg.STEP_AX_FAULT i)) (r_STEP_AX_LOAD : ∀ i, R (Reg.STEP_AX_LOAD i))
    (r_STEP_EVENTS : R Reg.STEP_EVENTS) :
    Frame F R sB (State.stepReturns s) := by
  delta State.stepReturns
  repeat' first
    | with_reducible assumption | intro (u : State) (hu : Frame F R sB u) | lift_lets
    | with_reducible apply State.stepReturn_frame | with_reducible apply Frame.foldl | intro _
    | with_reducible refine Frame.mk' ?_ rfl

theorem State.gatherStepFrame_frame {sB : State} (s : State) (k : Nat) (f : StepFrame) (hB : Frame F R sB s)
    (f_step : F .step) (r_STEP_LINK_STATE : ∀ i, R (Reg.STEP_LINK_STATE i)) :
    Frame F R sB (State.gatherStepFrame s k f) := by
  delta State.gatherStepFrame
  repeat' first
    | with_reducible assumption | lift_lets
    | (intro x; refine (fun (hx : Frame F R sB x) => ?_) ?_ <;> [clear_value x; subst x])
    | with_reducible apply State.setFld_frame | with_reducible apply r_STEP_LINK_STATE | (intro x; clear_value x)
    | with_reducible apply Frame.ite | with_reducible refine Frame.mk' ?_ rfl

theorem execStepFrameReturn_frame {sB : State} (k : Fin 2) (bs : List Byte) (s : State) (hB : Frame F R sB s)
    (f_step : F .step) (r_STEP_LINK_STATE : ∀ i, R (Reg.STEP_LINK_STATE i)) :
    FrameO F R sB (execStepFrameReturn k bs s) := by
  delta execStepFrameReturn
  repeat' first
    | with_reducible assumption | lift_lets | with_reducible apply FrameO.next
    | with_reducible apply State.gatherStepFrame_frame | (intro x; clear_value x) | with_reducible apply FrameO.ite
    | with_reducible refine Frame.mk' ?_ rfl

theorem State.stepLinkIn_frame {sB : State} (s : State) (k : Nat) (hB : Frame F R sB s) (f_step : F .step)
    (r_STEP_LINK_STATE : ∀ i, R (Reg.STEP_LINK_STATE i)) :
    Frame F R sB (State.stepLinkIn s k) := by
  delta State.stepLinkIn
  repeat' first
    | with_reducible assumption | lift_lets | with_reducible apply State.gatherStepFrame_frame
    | (intro x; clear_value x) | intro _ | with_reducible apply Frame.ite | split
    | with_reducible refine Frame.mk' ?_ rfl

theorem State.stepEnable_frame {sB : State} (s : State) (a : Nat) (hB : Frame F R sB s) (f_host : F .host)
    (f_step : F .step) (r_STEP_AX_RESULT : ∀ i, R (Reg.STEP_AX_RESULT i)) (r_STEP_EVENTS : R Reg.STEP_EVENTS) :
    Frame F R sB (State.stepEnable s a) := by
  delta State.stepEnable
  repeat' first
    | with_reducible assumption | intro (u : State) (hu : Frame F R sB u) | lift_lets
    | with_reducible apply State.modAx_frame | with_reducible apply State.stepCommand_frame

theorem State.stepDisable_frame {sB : State} (s : State) (a : Nat) (hB : Frame F R sB s) (f_host : F .host)
    (f_flt : F .flt) (f_step : F .step) (r_STEP_AX_RESULT : ∀ i, R (Reg.STEP_AX_RESULT i))
    (r_STEP_EVENTS : R Reg.STEP_EVENTS) :
    Frame F R sB (State.stepDisable s a) := by
  delta State.stepDisable
  repeat' first
    | with_reducible assumption | intro (u : State) (hu : Frame F R sB u) | lift_lets
    | with_reducible apply State.modAx_frame | with_reducible apply State.stepCommand_frame

theorem State.stepMove_frame {sB : State} (s : State) (a prof : Nat) (hB : Frame F R sB s) (f_host : F .host)
    (f_step : F .step) (r_STEP_AX_RESULT : ∀ i, R (Reg.STEP_AX_RESULT i)) (r_STEP_EVENTS : R Reg.STEP_EVENTS) :
    Frame F R sB (State.stepMove s a prof) := by
  delta State.stepMove
  repeat' first
    | with_reducible assumption | intro (u : State) (hu : Frame F R sB u) | lift_lets
    | with_reducible apply State.modAx_frame | with_reducible apply State.stepCommand_frame

theorem State.stepVelocity_frame {sB : State} (s : State) (a prof : Nat) (hB : Frame F R sB s) (f_host : F .host)
    (f_step : F .step) (r_STEP_AX_RESULT : ∀ i, R (Reg.STEP_AX_RESULT i)) (r_STEP_EVENTS : R Reg.STEP_EVENTS) :
    Frame F R sB (State.stepVelocity s a prof) := by
  delta State.stepVelocity
  repeat' first
    | with_reducible assumption | intro (u : State) (hu : Frame F R sB u) | lift_lets
    | with_reducible apply State.modAx_frame | with_reducible apply State.brakeStep_frame
    | with_reducible apply State.stepCommand_frame | with_reducible apply Frame.ite

theorem State.stepStop_frame {sB : State} (s : State) (a : Nat) (hB : Frame F R sB s) (f_host : F .host)
    (f_step : F .step) (r_STEP_AX_RESULT : ∀ i, R (Reg.STEP_AX_RESULT i)) (r_STEP_EVENTS : R Reg.STEP_EVENTS) :
    Frame F R sB (State.stepStop s a) := by
  delta State.stepStop
  repeat' first
    | with_reducible assumption | intro (u : State) (hu : Frame F R sB u) | lift_lets
    | with_reducible apply State.brakeStep_frame | with_reducible apply State.stepCommand_frame

theorem State.homePhase_frame {sB : State} (s : State) (a ph : Nat) (hB : Frame F R sB s) (f_step : F .step) :
    Frame F R sB (State.homePhase s a ph) := by
  delta State.homePhase
  repeat' first
    | with_reducible assumption | lift_lets | with_reducible apply State.modAx_frame

theorem State.homeSeek_frame {sB : State} (s : State) (a : Nat) (hB : Frame F R sB s) (f_step : F .step) :
    Frame F R sB (State.homeSeek s a) := by
  delta State.homeSeek
  repeat' first
    | with_reducible assumption | lift_lets | with_reducible apply State.modAx_frame
    | with_reducible apply State.homePhase_frame

theorem State.homeAway_frame {sB : State} (s : State) (a : Nat) (hB : Frame F R sB s) (f_step : F .step) :
    Frame F R sB (State.homeAway s a) := by
  delta State.homeAway
  repeat' first
    | with_reducible assumption | lift_lets | with_reducible apply State.modAx_frame
    | with_reducible apply State.homePhase_frame

theorem State.homeBack_frame {sB : State} (s : State) (a : Nat) (hB : Frame F R sB s) (f_step : F .step) :
    Frame F R sB (State.homeBack s a) := by
  delta State.homeBack
  repeat' first
    | with_reducible assumption | lift_lets | with_reducible apply State.modAx_frame
    | with_reducible apply State.homePhase_frame

theorem State.stepHome_frame {sB : State} (s : State) (a : Nat) (hB : Frame F R sB s) (f_host : F .host)
    (f_step : F .step) (r_STEP_AX_RESULT : ∀ i, R (Reg.STEP_AX_RESULT i)) (r_STEP_EVENTS : R Reg.STEP_EVENTS) :
    Frame F R sB (State.stepHome s a) := by
  delta State.stepHome
  repeat' first
    | with_reducible assumption | intro (u : State) (hu : Frame F R sB u) | lift_lets
    | (intro x; refine (fun (hx : Frame F R sB x) => ?_) ?_ <;> [clear_value x; subst x])
    | with_reducible apply State.modAx_frame | with_reducible apply State.stepCommand_frame
    | with_reducible apply State.homeSeek_frame | with_reducible apply State.homeAway_frame | (intro x; clear_value x)
    | with_reducible apply Frame.ite

theorem State.stepEngage_frame {sB : State} (s : State) (a : Nat) (hB : Frame F R sB s) (f_host : F .host)
    (f_step : F .step) (r_STEP_AX_RESULT : ∀ i, R (Reg.STEP_AX_RESULT i)) (r_STEP_EVENTS : R Reg.STEP_EVENTS) :
    Frame F R sB (State.stepEngage s a) := by
  delta State.stepEngage
  repeat' first
    | with_reducible assumption | intro (u : State) (hu : Frame F R sB u) | lift_lets
    | with_reducible apply State.modAx_frame | with_reducible apply State.stepCommand_frame

theorem State.stepDisengage_frame {sB : State} (s : State) (a : Nat) (hB : Frame F R sB s) (f_host : F .host)
    (f_step : F .step) (r_STEP_AX_RESULT : ∀ i, R (Reg.STEP_AX_RESULT i)) (r_STEP_EVENTS : R Reg.STEP_EVENTS) :
    Frame F R sB (State.stepDisengage s a) := by
  delta State.stepDisengage
  repeat' first
    | with_reducible assumption | intro (u : State) (hu : Frame F R sB u) | lift_lets
    | with_reducible apply State.modAx_frame | with_reducible apply State.stepCommand_frame

theorem State.stepSetPos_frame {sB : State} (s : State) (a : Nat) (hB : Frame F R sB s) (f_host : F .host)
    (f_step : F .step) (r_STEP_AX_RESULT : ∀ i, R (Reg.STEP_AX_RESULT i)) (r_STEP_EVENTS : R Reg.STEP_EVENTS) :
    Frame F R sB (State.stepSetPos s a) := by
  delta State.stepSetPos
  repeat' first
    | with_reducible assumption | intro (u : State) (hu : Frame F R sB u) | lift_lets
    | with_reducible apply State.modAx_frame | with_reducible apply State.stepCommand_frame

theorem State.stepClear_frame {sB : State} (s : State) (a : Nat) (hB : Frame F R sB s) (f_host : F .host)
    (f_flt : F .flt) (f_step : F .step) (r_STEP_AX_RESULT : ∀ i, R (Reg.STEP_AX_RESULT i))
    (r_STEP_EVENTS : R Reg.STEP_EVENTS) :
    Frame F R sB (State.stepClear s a) := by
  delta State.stepClear
  repeat' first
    | with_reducible assumption | intro (u : State) (hu : Frame F R sB u) | lift_lets
    | with_reducible apply State.modAx_frame | with_reducible apply State.stepCommand_frame

theorem effStepEnable_frame {sB : State} (a : Fin 48) (s : State) (hB : Frame F R sB s) (f_host : F .host)
    (f_step : F .step) (r_STEP_AX_RESULT : ∀ i, R (Reg.STEP_AX_RESULT i)) (r_STEP_EVENTS : R Reg.STEP_EVENTS) :
    FrameO F R sB (effStepEnable a s) := by
  delta effStepEnable
  repeat' first
    | with_reducible assumption | lift_lets | with_reducible apply FrameO.next
    | with_reducible apply State.stepEnable_frame

theorem effStepDisable_frame {sB : State} (a : Fin 48) (s : State) (hB : Frame F R sB s) (f_host : F .host)
    (f_flt : F .flt) (f_step : F .step) (r_STEP_AX_RESULT : ∀ i, R (Reg.STEP_AX_RESULT i))
    (r_STEP_EVENTS : R Reg.STEP_EVENTS) :
    FrameO F R sB (effStepDisable a s) := by
  delta effStepDisable
  repeat' first
    | with_reducible assumption | lift_lets | with_reducible apply FrameO.next
    | with_reducible apply State.stepDisable_frame

theorem effStepMove_frame {sB : State} (a : Fin 48) (prof : Fin 8) (s : State) (hB : Frame F R sB s)
    (f_host : F .host) (f_step : F .step) (r_STEP_AX_RESULT : ∀ i, R (Reg.STEP_AX_RESULT i))
    (r_STEP_EVENTS : R Reg.STEP_EVENTS) :
    FrameO F R sB (effStepMove a prof s) := by
  delta effStepMove
  repeat' first
    | with_reducible assumption | lift_lets | with_reducible apply FrameO.next
    | with_reducible apply State.stepMove_frame

theorem effStepVelocity_frame {sB : State} (a : Fin 48) (prof : Fin 8) (s : State) (hB : Frame F R sB s)
    (f_host : F .host) (f_step : F .step) (r_STEP_AX_RESULT : ∀ i, R (Reg.STEP_AX_RESULT i))
    (r_STEP_EVENTS : R Reg.STEP_EVENTS) :
    FrameO F R sB (effStepVelocity a prof s) := by
  delta effStepVelocity
  repeat' first
    | with_reducible assumption | lift_lets | with_reducible apply FrameO.next
    | with_reducible apply State.stepVelocity_frame

theorem effStepStop_frame {sB : State} (a : Fin 48) (s : State) (hB : Frame F R sB s) (f_host : F .host)
    (f_step : F .step) (r_STEP_AX_RESULT : ∀ i, R (Reg.STEP_AX_RESULT i)) (r_STEP_EVENTS : R Reg.STEP_EVENTS) :
    FrameO F R sB (effStepStop a s) := by
  delta effStepStop
  repeat' first
    | with_reducible assumption | lift_lets | with_reducible apply FrameO.next
    | with_reducible apply State.stepStop_frame

theorem effStepEngage_frame {sB : State} (a : Fin 48) (s : State) (hB : Frame F R sB s) (f_host : F .host)
    (f_step : F .step) (r_STEP_AX_RESULT : ∀ i, R (Reg.STEP_AX_RESULT i)) (r_STEP_EVENTS : R Reg.STEP_EVENTS) :
    FrameO F R sB (effStepEngage a s) := by
  delta effStepEngage
  repeat' first
    | with_reducible assumption | lift_lets | with_reducible apply FrameO.next
    | with_reducible apply State.stepEngage_frame

theorem effStepDisengage_frame {sB : State} (a : Fin 48) (s : State) (hB : Frame F R sB s) (f_host : F .host)
    (f_step : F .step) (r_STEP_AX_RESULT : ∀ i, R (Reg.STEP_AX_RESULT i)) (r_STEP_EVENTS : R Reg.STEP_EVENTS) :
    FrameO F R sB (effStepDisengage a s) := by
  delta effStepDisengage
  repeat' first
    | with_reducible assumption | lift_lets | with_reducible apply FrameO.next
    | with_reducible apply State.stepDisengage_frame

theorem effStepSetPos_frame {sB : State} (a : Fin 48) (s : State) (hB : Frame F R sB s) (f_host : F .host)
    (f_step : F .step) (r_STEP_AX_RESULT : ∀ i, R (Reg.STEP_AX_RESULT i)) (r_STEP_EVENTS : R Reg.STEP_EVENTS) :
    FrameO F R sB (effStepSetPos a s) := by
  delta effStepSetPos
  repeat' first
    | with_reducible assumption | lift_lets | with_reducible apply FrameO.next
    | with_reducible apply State.stepSetPos_frame

theorem effStepClear_frame {sB : State} (a : Fin 48) (s : State) (hB : Frame F R sB s) (f_host : F .host)
    (f_flt : F .flt) (f_step : F .step) (r_STEP_AX_RESULT : ∀ i, R (Reg.STEP_AX_RESULT i))
    (r_STEP_EVENTS : R Reg.STEP_EVENTS) :
    FrameO F R sB (effStepClear a s) := by
  delta effStepClear
  repeat' first
    | with_reducible assumption | lift_lets | with_reducible apply FrameO.next
    | with_reducible apply State.stepClear_frame

theorem State.startTimeout_frame {sB : State} (s : State) (a : Nat) (hB : Frame F R sB s) (f_fresh : F .fresh)
    (f_out : F .out) (f_host : F .host) (f_ledg : F .ledg) (f_pace : F .pace) (f_flt : F .flt) (f_hwd : F .hwd)
    (f_burl : F .burl) (f_scan : F .scan) (f_step : F .step) (f_axis : F .axis) (f_leg : F .leg)
    (r_HOST_ERR : R Reg.HOST_ERR) (r_LEDG_BH_STATUS : R Reg.LEDG_BH_STATUS) (r_LEDG_COUNT_JAM : R Reg.LEDG_COUNT_JAM)
    (r_LEDG_EVENTS : R Reg.LEDG_EVENTS) (r_LEDG_PACE_EVENTS : R Reg.LEDG_PACE_EVENTS)
    (r_LEDG_STATUS : R Reg.LEDG_STATUS) (r_LEG_STATUS : R Reg.LEG_STATUS)
    (r_STEP_AX_FAULT : ∀ i, R (Reg.STEP_AX_FAULT i)) (r_STEP_EVENTS : R Reg.STEP_EVENTS) :
    Frame F R sB (State.startTimeout s a) := by
  delta State.startTimeout
  repeat' first
    | with_reducible assumption | lift_lets | with_reducible apply State.event_frame
    | with_reducible apply State.raiseBit_frame | with_reducible apply State.stepFault_frame
    | with_reducible apply Frame.ite

theorem effStepStartTimeout_frame {sB : State} (a : Fin 48) (s : State) (hB : Frame F R sB s) (f_fresh : F .fresh)
    (f_out : F .out) (f_host : F .host) (f_ledg : F .ledg) (f_pace : F .pace) (f_flt : F .flt) (f_hwd : F .hwd)
    (f_burl : F .burl) (f_scan : F .scan) (f_step : F .step) (f_axis : F .axis) (f_leg : F .leg)
    (r_HOST_ERR : R Reg.HOST_ERR) (r_LEDG_BH_STATUS : R Reg.LEDG_BH_STATUS) (r_LEDG_COUNT_JAM : R Reg.LEDG_COUNT_JAM)
    (r_LEDG_EVENTS : R Reg.LEDG_EVENTS) (r_LEDG_PACE_EVENTS : R Reg.LEDG_PACE_EVENTS)
    (r_LEDG_STATUS : R Reg.LEDG_STATUS) (r_LEG_STATUS : R Reg.LEG_STATUS)
    (r_STEP_AX_FAULT : ∀ i, R (Reg.STEP_AX_FAULT i)) (r_STEP_EVENTS : R Reg.STEP_EVENTS) :
    FrameO F R sB (effStepStartTimeout a s) := by
  delta effStepStartTimeout
  repeat' first
    | with_reducible assumption | lift_lets | with_reducible apply FrameO.next
    | with_reducible apply State.startTimeout_frame

theorem effReverseDwellEnd_frame {sB : State} (a : Fin 48) (s : State) (hB : Frame F R sB s) (f_step : F .step) :
    FrameO F R sB (effReverseDwellEnd a s) := by
  delta effReverseDwellEnd
  repeat' first
    | with_reducible assumption | lift_lets | with_reducible apply FrameO.next
    | with_reducible apply State.modAx_frame | with_reducible apply FrameO.ite

theorem State.homeFail_frame {sB : State} (s : State) (a detail : Nat) (hB : Frame F R sB s) (f_fresh : F .fresh)
    (f_out : F .out) (f_host : F .host) (f_ledg : F .ledg) (f_pace : F .pace) (f_flt : F .flt) (f_hwd : F .hwd)
    (f_burl : F .burl) (f_scan : F .scan) (f_step : F .step) (f_axis : F .axis) (f_leg : F .leg)
    (r_HOST_ERR : R Reg.HOST_ERR) (r_LEDG_BH_STATUS : R Reg.LEDG_BH_STATUS) (r_LEDG_COUNT_JAM : R Reg.LEDG_COUNT_JAM)
    (r_LEDG_EVENTS : R Reg.LEDG_EVENTS) (r_LEDG_PACE_EVENTS : R Reg.LEDG_PACE_EVENTS)
    (r_LEDG_STATUS : R Reg.LEDG_STATUS) (r_LEG_STATUS : R Reg.LEG_STATUS)
    (r_STEP_AX_FAULT : ∀ i, R (Reg.STEP_AX_FAULT i)) (r_STEP_EVENTS : R Reg.STEP_EVENTS) :
    Frame F R sB (State.homeFail s a detail) := by
  delta State.homeFail
  repeat' first
    | with_reducible assumption | lift_lets | with_reducible apply State.event_frame
    | with_reducible apply State.raiseBit_frame | with_reducible apply State.stepFault_frame

theorem State.homeDone_frame {sB : State} (s : State) (a : Nat) (h : Homing) (hB : Frame F R sB s) (f_host : F .host)
    (f_hwd : F .hwd) (f_step : F .step) (r_STEP_AX_HOME_LATCH : ∀ i, R (Reg.STEP_AX_HOME_LATCH i))
    (r_STEP_EVENTS : R Reg.STEP_EVENTS) :
    Frame F R sB (State.homeDone s a h) := by
  delta State.homeDone
  repeat' first
    | with_reducible assumption | lift_lets | with_reducible apply State.wrN_frame
    | with_reducible apply State.event_frame | with_reducible apply State.raiseBit_frame
    | with_reducible apply State.modAx_frame | with_reducible apply r_STEP_AX_HOME_LATCH

theorem State.homeQualified_frame {sB : State} (s : State) (a : Nat) (h : Homing) (hB : Frame F R sB s)
    (f_host : F .host) (f_hwd : F .hwd) (f_step : F .step) (r_STEP_AX_HOME_LATCH : ∀ i, R (Reg.STEP_AX_HOME_LATCH i))
    (r_STEP_EVENTS : R Reg.STEP_EVENTS) :
    Frame F R sB (State.homeQualified s a h) := by
  delta State.homeQualified
  repeat' first
    | with_reducible assumption | lift_lets | with_reducible apply State.modAx_frame
    | with_reducible apply State.homeBack_frame | with_reducible apply State.homeDone_frame
    | with_reducible apply Frame.ite | split

theorem State.qualifyEdge_frame {sB : State} (s : State) (a : Nat) (hB : Frame F R sB s) (f_host : F .host)
    (f_hwd : F .hwd) (f_step : F .step) (r_STEP_AX_HOME_LATCH : ∀ i, R (Reg.STEP_AX_HOME_LATCH i))
    (r_STEP_EVENTS : R Reg.STEP_EVENTS) :
    Frame F R sB (State.qualifyEdge s a) := by
  delta State.qualifyEdge
  repeat' first
    | with_reducible assumption | lift_lets
    | (intro x; refine (fun (hx : Frame F R sB x) => ?_) ?_ <;> [clear_value x; subst x])
    | with_reducible apply State.modAx_frame | with_reducible apply State.homeQualified_frame
    | (intro x; clear_value x) | with_reducible apply Frame.ite | split

theorem State.homeEdge_frame {sB : State} (s : State) (a tick sub : Nat) (level : Bool) (hB : Frame F R sB s)
    (f_fresh : F .fresh) (f_out : F .out) (f_host : F .host) (f_ledg : F .ledg) (f_pace : F .pace) (f_flt : F .flt)
    (f_hwd : F .hwd) (f_burl : F .burl) (f_scan : F .scan) (f_step : F .step) (f_axis : F .axis) (f_leg : F .leg)
    (r_HOST_ERR : R Reg.HOST_ERR) (r_LEDG_BH_STATUS : R Reg.LEDG_BH_STATUS) (r_LEDG_COUNT_JAM : R Reg.LEDG_COUNT_JAM)
    (r_LEDG_EVENTS : R Reg.LEDG_EVENTS) (r_LEDG_PACE_EVENTS : R Reg.LEDG_PACE_EVENTS)
    (r_LEDG_STATUS : R Reg.LEDG_STATUS) (r_LEG_STATUS : R Reg.LEG_STATUS)
    (r_STEP_AX_FAULT : ∀ i, R (Reg.STEP_AX_FAULT i)) (r_STEP_EVENTS : R Reg.STEP_EVENTS) :
    Frame F R sB (State.homeEdge s a tick sub level) := by
  delta State.homeEdge
  repeat' first
    | with_reducible assumption | lift_lets
    | (intro x; refine (fun (hx : Frame F R sB x) => ?_) ?_ <;> [clear_value x; subst x])
    | with_reducible apply State.modAx_frame | with_reducible apply State.homeFail_frame | (intro x; clear_value x)
    | with_reducible apply Frame.ite | split

theorem State.homeScap_frame {sB : State} (s : State) (a i : Nat) (hB : Frame F R sB s) (f_fresh : F .fresh)
    (f_out : F .out) (f_host : F .host) (f_ledg : F .ledg) (f_pace : F .pace) (f_flt : F .flt) (f_hwd : F .hwd)
    (f_burl : F .burl) (f_scan : F .scan) (f_step : F .step) (f_axis : F .axis) (f_leg : F .leg)
    (r_HOST_ERR : R Reg.HOST_ERR) (r_LEDG_BH_STATUS : R Reg.LEDG_BH_STATUS) (r_LEDG_COUNT_JAM : R Reg.LEDG_COUNT_JAM)
    (r_LEDG_EVENTS : R Reg.LEDG_EVENTS) (r_LEDG_PACE_EVENTS : R Reg.LEDG_PACE_EVENTS)
    (r_LEDG_STATUS : R Reg.LEDG_STATUS) (r_LEG_STATUS : R Reg.LEG_STATUS)
    (r_STEP_AX_FAULT : ∀ i, R (Reg.STEP_AX_FAULT i)) (r_STEP_EVENTS : R Reg.STEP_EVENTS) :
    Frame F R sB (State.homeScap s a i) := by
  delta State.homeScap
  repeat' first
    | with_reducible assumption | intro (u : State) (hu : Frame F R sB u) | lift_lets
    | with_reducible apply State.modAx_frame | with_reducible apply State.homeEdge_frame
    | with_reducible apply Frame.foldl | intro _ | split

theorem State.gatherChain_frame {sB : State} (s : State) (hB : Frame F R sB s) (f_fresh : F .fresh) (f_out : F .out)
    (f_host : F .host) (f_ledg : F .ledg) (f_pace : F .pace) (f_flt : F .flt) (f_hwd : F .hwd) (f_burl : F .burl)
    (f_scan : F .scan) (f_step : F .step) (f_sio : F .sio) (f_axis : F .axis) (f_leg : F .leg)
    (r_HOST_ERR : R Reg.HOST_ERR) (r_LEDG_BH_STATUS : R Reg.LEDG_BH_STATUS) (r_LEDG_COUNT_JAM : R Reg.LEDG_COUNT_JAM)
    (r_LEDG_EVENTS : R Reg.LEDG_EVENTS) (r_LEDG_PACE_EVENTS : R Reg.LEDG_PACE_EVENTS)
    (r_LEDG_STATUS : R Reg.LEDG_STATUS) (r_LEG_STATUS : R Reg.LEG_STATUS) (r_SIO_IN : ∀ i, R (Reg.SIO_IN i))
    (r_STEP_AX_FAULT : ∀ i, R (Reg.STEP_AX_FAULT i)) (r_STEP_EVENTS : R Reg.STEP_EVENTS) :
    Frame F R sB (State.gatherChain s) := by
  delta State.gatherChain
  repeat' first
    | with_reducible assumption | intro (u : State) (hu : Frame F R sB u) | lift_lets
    | (intro x; refine (fun (hx : Frame F R sB x) => ?_) ?_ <;> [clear_value x; subst x])
    | with_reducible apply State.setFlag_frame | with_reducible apply State.upTo_frame
    | with_reducible apply State.homeEdge_frame | with_reducible apply r_SIO_IN | with_reducible apply Frame.foldl
    | (intro x; clear_value x) | intro _ | with_reducible apply Frame.ite | with_reducible refine Frame.mk' ?_ rfl

theorem State.homeCapture_frame {sB : State} (s : State) (i : Nat) (hB : Frame F R sB s) (f_fresh : F .fresh)
    (f_out : F .out) (f_host : F .host) (f_ledg : F .ledg) (f_pace : F .pace) (f_flt : F .flt) (f_hwd : F .hwd)
    (f_burl : F .burl) (f_scan : F .scan) (f_step : F .step) (f_axis : F .axis) (f_leg : F .leg)
    (r_HOST_ERR : R Reg.HOST_ERR) (r_LEDG_BH_STATUS : R Reg.LEDG_BH_STATUS) (r_LEDG_COUNT_JAM : R Reg.LEDG_COUNT_JAM)
    (r_LEDG_EVENTS : R Reg.LEDG_EVENTS) (r_LEDG_PACE_EVENTS : R Reg.LEDG_PACE_EVENTS)
    (r_LEDG_STATUS : R Reg.LEDG_STATUS) (r_LEG_STATUS : R Reg.LEG_STATUS)
    (r_STEP_AX_FAULT : ∀ i, R (Reg.STEP_AX_FAULT i)) (r_STEP_EVENTS : R Reg.STEP_EVENTS) :
    Frame F R sB (State.homeCapture s i) := by
  delta State.homeCapture
  repeat' first
    | with_reducible assumption | intro (u : State) (hu : Frame F R sB u) | lift_lets
    | with_reducible apply State.upTo_frame | with_reducible apply State.homeScap_frame | intro _
    | with_reducible apply Frame.ite

theorem effStepHome_frame {sB : State} (a : Fin 48) (s : State) (hB : Frame F R sB s) (f_host : F .host)
    (f_step : F .step) (r_STEP_AX_RESULT : ∀ i, R (Reg.STEP_AX_RESULT i)) (r_STEP_EVENTS : R Reg.STEP_EVENTS) :
    FrameO F R sB (effStepHome a s) := by
  delta effStepHome
  repeat' first
    | with_reducible assumption | lift_lets | with_reducible apply FrameO.next
    | with_reducible apply State.stepHome_frame

theorem State.qualifyDue_frame {sB : State} (s : State) (a : Nat) (hB : Frame F R sB s) (f_host : F .host)
    (f_hwd : F .hwd) (f_step : F .step) (r_STEP_AX_HOME_LATCH : ∀ i, R (Reg.STEP_AX_HOME_LATCH i))
    (r_STEP_EVENTS : R Reg.STEP_EVENTS) :
    Frame F R sB (State.qualifyDue s a) := by
  delta State.qualifyDue
  repeat' first
    | with_reducible assumption | lift_lets | with_reducible apply State.qualifyEdge_frame
    | with_reducible apply Frame.ite

theorem effHomeEdgeQualified_frame {sB : State} (a : Fin 48) (s : State) (hB : Frame F R sB s) (f_host : F .host)
    (f_hwd : F .hwd) (f_step : F .step) (r_STEP_AX_HOME_LATCH : ∀ i, R (Reg.STEP_AX_HOME_LATCH i))
    (r_STEP_EVENTS : R Reg.STEP_EVENTS) :
    FrameO F R sB (effHomeEdgeQualified a s) := by
  delta effHomeEdgeQualified
  repeat' first
    | with_reducible assumption | lift_lets | with_reducible apply FrameO.next
    | with_reducible apply State.qualifyDue_frame

theorem State.windowDue_frame {sB : State} (s : State) (a : Nat) (hB : Frame F R sB s) (f_fresh : F .fresh)
    (f_out : F .out) (f_host : F .host) (f_ledg : F .ledg) (f_pace : F .pace) (f_flt : F .flt) (f_hwd : F .hwd)
    (f_burl : F .burl) (f_scan : F .scan) (f_step : F .step) (f_axis : F .axis) (f_leg : F .leg)
    (r_HOST_ERR : R Reg.HOST_ERR) (r_LEDG_BH_STATUS : R Reg.LEDG_BH_STATUS) (r_LEDG_COUNT_JAM : R Reg.LEDG_COUNT_JAM)
    (r_LEDG_EVENTS : R Reg.LEDG_EVENTS) (r_LEDG_PACE_EVENTS : R Reg.LEDG_PACE_EVENTS)
    (r_LEDG_STATUS : R Reg.LEDG_STATUS) (r_LEG_STATUS : R Reg.LEG_STATUS)
    (r_STEP_AX_FAULT : ∀ i, R (Reg.STEP_AX_FAULT i)) (r_STEP_EVENTS : R Reg.STEP_EVENTS) :
    Frame F R sB (State.windowDue s a) := by
  delta State.windowDue
  repeat' first
    | with_reducible assumption | lift_lets | with_reducible apply State.homeFail_frame | (intro x; clear_value x)
    | with_reducible apply Frame.ite | split

theorem effHomeWindowEnd_frame {sB : State} (a : Fin 48) (s : State) (hB : Frame F R sB s) (f_fresh : F .fresh)
    (f_out : F .out) (f_host : F .host) (f_ledg : F .ledg) (f_pace : F .pace) (f_flt : F .flt) (f_hwd : F .hwd)
    (f_burl : F .burl) (f_scan : F .scan) (f_step : F .step) (f_axis : F .axis) (f_leg : F .leg)
    (r_HOST_ERR : R Reg.HOST_ERR) (r_LEDG_BH_STATUS : R Reg.LEDG_BH_STATUS) (r_LEDG_COUNT_JAM : R Reg.LEDG_COUNT_JAM)
    (r_LEDG_EVENTS : R Reg.LEDG_EVENTS) (r_LEDG_PACE_EVENTS : R Reg.LEDG_PACE_EVENTS)
    (r_LEDG_STATUS : R Reg.LEDG_STATUS) (r_LEG_STATUS : R Reg.LEG_STATUS)
    (r_STEP_AX_FAULT : ∀ i, R (Reg.STEP_AX_FAULT i)) (r_STEP_EVENTS : R Reg.STEP_EVENTS) :
    FrameO F R sB (effHomeWindowEnd a s) := by
  delta effHomeWindowEnd
  repeat' first
    | with_reducible assumption | lift_lets | with_reducible apply FrameO.next
    | with_reducible apply State.windowDue_frame

theorem State.homeLimits_frame {sB : State} (s : State) (a : Nat) (hB : Frame F R sB s) (f_fresh : F .fresh)
    (f_out : F .out) (f_host : F .host) (f_ledg : F .ledg) (f_pace : F .pace) (f_flt : F .flt) (f_hwd : F .hwd)
    (f_burl : F .burl) (f_scan : F .scan) (f_step : F .step) (f_axis : F .axis) (f_leg : F .leg)
    (r_HOST_ERR : R Reg.HOST_ERR) (r_LEDG_BH_STATUS : R Reg.LEDG_BH_STATUS) (r_LEDG_COUNT_JAM : R Reg.LEDG_COUNT_JAM)
    (r_LEDG_EVENTS : R Reg.LEDG_EVENTS) (r_LEDG_PACE_EVENTS : R Reg.LEDG_PACE_EVENTS)
    (r_LEDG_STATUS : R Reg.LEDG_STATUS) (r_LEG_STATUS : R Reg.LEG_STATUS)
    (r_STEP_AX_FAULT : ∀ i, R (Reg.STEP_AX_FAULT i)) (r_STEP_EVENTS : R Reg.STEP_EVENTS) :
    Frame F R sB (State.homeLimits s a) := by
  delta State.homeLimits
  repeat' first
    | with_reducible assumption | lift_lets | with_reducible apply State.modAx_frame
    | with_reducible apply State.homeBack_frame | with_reducible apply State.homeFail_frame | (intro x; clear_value x)
    | with_reducible apply Frame.ite | split

theorem State.stepDue_frame {sB : State} (s : State) (a : Nat) (hB : Frame F R sB s) (f_fresh : F .fresh)
    (f_out : F .out) (f_host : F .host) (f_ledg : F .ledg) (f_pace : F .pace) (f_flt : F .flt) (f_hwd : F .hwd)
    (f_burl : F .burl) (f_scan : F .scan) (f_step : F .step) (f_axis : F .axis) (f_leg : F .leg)
    (r_HOST_ERR : R Reg.HOST_ERR) (r_LEDG_BH_STATUS : R Reg.LEDG_BH_STATUS) (r_LEDG_COUNT_JAM : R Reg.LEDG_COUNT_JAM)
    (r_LEDG_EVENTS : R Reg.LEDG_EVENTS) (r_LEDG_PACE_EVENTS : R Reg.LEDG_PACE_EVENTS)
    (r_LEDG_STATUS : R Reg.LEDG_STATUS) (r_LEG_STATUS : R Reg.LEG_STATUS)
    (r_STEP_AX_FAULT : ∀ i, R (Reg.STEP_AX_FAULT i)) (r_STEP_AX_HOME_LATCH : ∀ i, R (Reg.STEP_AX_HOME_LATCH i))
    (r_STEP_EVENTS : R Reg.STEP_EVENTS) :
    Frame F R sB (State.stepDue s a) := by
  delta State.stepDue
  repeat' first
    | with_reducible assumption | lift_lets | with_reducible apply State.startTimeout_frame
    | with_reducible apply State.qualifyDue_frame | with_reducible apply State.windowDue_frame
    | with_reducible apply State.homeLimits_frame

theorem State.camDecide_frame {sB : State} (s : State) (a : Nat) (hB : Frame F R sB s) (f_fresh : F .fresh)
    (f_out : F .out) (f_host : F .host) (f_ledg : F .ledg) (f_pace : F .pace) (f_flt : F .flt) (f_hwd : F .hwd)
    (f_burl : F .burl) (f_scan : F .scan) (f_step : F .step) (f_axis : F .axis) (f_leg : F .leg)
    (r_HOST_ERR : R Reg.HOST_ERR) (r_LEDG_BH_STATUS : R Reg.LEDG_BH_STATUS) (r_LEDG_COUNT_JAM : R Reg.LEDG_COUNT_JAM)
    (r_LEDG_EVENTS : R Reg.LEDG_EVENTS) (r_LEDG_PACE_EVENTS : R Reg.LEDG_PACE_EVENTS)
    (r_LEDG_STATUS : R Reg.LEDG_STATUS) (r_LEG_STATUS : R Reg.LEG_STATUS)
    (r_STEP_AX_FAULT : ∀ i, R (Reg.STEP_AX_FAULT i)) (r_STEP_EVENTS : R Reg.STEP_EVENTS) :
    Frame F R sB (State.camDecide s a) := by
  delta State.camDecide
  repeat' first
    | with_reducible assumption | lift_lets | with_reducible apply State.event_frame
    | with_reducible apply State.raiseBit_frame | with_reducible apply State.modAx_frame
    | with_reducible apply State.brakeStep_frame | with_reducible apply State.stepFault_frame
    | (intro x; clear_value x) | with_reducible apply Frame.ite | split

theorem State.stepRun_frame {sB : State} (s : State) (a : Nat) (v : Int) (hB : Frame F R sB s) (f_step : F .step) :
    Frame F R sB (State.stepRun s a v) := by
  delta State.stepRun
  repeat' first
    | with_reducible assumption | lift_lets | with_reducible apply State.modAx_frame

theorem State.gradeGoal_frame {sB : State} (s : State) (a : Nat) (hB : Frame F R sB s) (f_host : F .host)
    (f_step : F .step) (r_STEP_EVENTS : R Reg.STEP_EVENTS) :
    Frame F R sB (State.gradeGoal s a) := by
  delta State.gradeGoal
  repeat' first
    | with_reducible assumption | lift_lets
    | (intro x; refine (fun (hx : Frame F R sB x) => ?_) ?_ <;> [clear_value x; subst x])
    | with_reducible apply State.raiseBit_frame | with_reducible apply State.modAx_frame | (intro x; clear_value x)
    | with_reducible apply Frame.ite

theorem State.stepRested_frame {sB : State} (s : State) (a : Nat) (hB : Frame F R sB s) (f_flt : F .flt)
    (f_step : F .step) :
    Frame F R sB (State.stepRested s a) := by
  delta State.stepRested
  repeat' first
    | with_reducible assumption | with_reducible apply State.modAx_frame | with_reducible apply State.homeAway_frame
    | split

theorem State.stepToward_frame {sB : State} (s : State) (a : Nat) (g : Int) (hB : Frame F R sB s) (f_step : F .step) :
    Frame F R sB (State.stepToward s a g) := by
  delta State.stepToward
  repeat' first
    | with_reducible assumption | lift_lets | with_reducible apply State.modAx_frame
    | with_reducible apply State.stepRun_frame

theorem State.homeStep_frame {sB : State} (s : State) (a : Nat) (h : Homing) (hB : Frame F R sB s) (f_step : F .step)
    :
    Frame F R sB (State.homeStep s a h) := by
  delta State.homeStep
  repeat' first
    | with_reducible assumption | lift_lets | with_reducible apply State.stepRun_frame
    | with_reducible apply State.stepToward_frame | (intro x; clear_value x) | with_reducible apply Frame.ite | split

theorem State.profileStep_frame {sB : State} (s : State) (a : Nat) (hB : Frame F R sB s) (f_host : F .host)
    (f_flt : F .flt) (f_step : F .step) (r_STEP_EVENTS : R Reg.STEP_EVENTS) :
    Frame F R sB (State.profileStep s a) := by
  delta State.profileStep
  repeat' first
    | with_reducible assumption | lift_lets
    | (intro x; refine (fun (hx : Frame F R sB x) => ?_) ?_ <;> [clear_value x; subst x])
    | with_reducible apply State.modAx_frame | with_reducible apply State.stepRun_frame
    | with_reducible apply State.gradeGoal_frame | with_reducible apply State.stepRested_frame
    | with_reducible apply State.stepToward_frame | with_reducible apply State.homeStep_frame
    | (intro x; clear_value x) | with_reducible apply Frame.ite | split

theorem State.vmasterStep_frame {sB : State} (s : State) (j : Nat) (hB : Frame F R sB s) (f_step : F .step) :
    Frame F R sB (State.vmasterStep s j) := by
  delta State.vmasterStep
  repeat' first
    | with_reducible assumption | lift_lets | (intro x; clear_value x) | with_reducible apply Frame.ite
    | with_reducible refine Frame.mk' ?_ rfl

theorem State.stepBegin_frame {sB : State} (s : State) (hB : Frame F R sB s) (f_step : F .step) :
    Frame F R sB (State.stepBegin s) := by
  delta State.stepBegin
  repeat' first
    | with_reducible assumption | lift_lets | (intro x; clear_value x) | with_reducible refine Frame.mk' ?_ rfl

theorem State.stepEndCompute_frame {sB : State} (s : State) (hB : Frame F R sB s) (f_step : F .step) :
    Frame F R sB (State.stepEndCompute s) := by
  delta State.stepEndCompute
  repeat' first
    | with_reducible assumption | lift_lets | (intro x; clear_value x) | with_reducible refine Frame.mk' ?_ rfl

theorem State.safeSteppers_frame {sB : State} (s : State) (hB : Frame F R sB s) (f_flt : F .flt) (f_step : F .step) :
    Frame F R sB (State.safeSteppers s) := by
  delta State.safeSteppers
  repeat' first
    | with_reducible assumption | intro (u : State) (hu : Frame F R sB u) | lift_lets
    | with_reducible apply State.upTo_frame | with_reducible apply State.modAx_frame
    | with_reducible apply State.brakeStep_frame | intro _ | with_reducible apply Frame.ite | split

theorem State.stepLinkOut_frame {sB : State} (s : State) (k : Nat) (hB : Frame F R sB s) (f_out : F .out) :
    Frame F R sB (State.stepLinkOut s k) := by
  delta State.stepLinkOut
  repeat' first
    | with_reducible assumption | lift_lets | with_reducible apply State.emit_frame | with_reducible apply Frame.ite

/-! ### Axis -/

theorem State.coastSync_frame {sB : State} (s : State) (a : Nat) (m : AxisMode) (hB : Frame F R sB s)
    (f_axis : F .axis) :
    Frame F R sB (State.coastSync s a m) := by
  delta State.coastSync
  repeat' first
    | with_reducible assumption | with_reducible apply State.modSx_frame

theorem State.dropSensor_frame {sB : State} (s : State) (a : Nat) (hB : Frame F R sB s) (f_axis : F .axis) :
    Frame F R sB (State.dropSensor s a) := by
  delta State.dropSensor
  repeat' first
    | with_reducible assumption | lift_lets | with_reducible apply State.modSx_frame

theorem State.axisFault_frame {sB : State} (s : State) (a kind detail flags : Nat) (hB : Frame F R sB s)
    (f_fresh : F .fresh) (f_out : F .out) (f_host : F .host) (f_ledg : F .ledg) (f_pace : F .pace) (f_flt : F .flt)
    (f_hwd : F .hwd) (f_burl : F .burl) (f_scan : F .scan) (f_step : F .step) (f_axis : F .axis) (f_leg : F .leg)
    (r_AXIS_AX_FAULT : ∀ i, R (Reg.AXIS_AX_FAULT i)) (r_HOST_ERR : R Reg.HOST_ERR)
    (r_LEDG_BH_STATUS : R Reg.LEDG_BH_STATUS) (r_LEDG_COUNT_JAM : R Reg.LEDG_COUNT_JAM)
    (r_LEDG_EVENTS : R Reg.LEDG_EVENTS) (r_LEDG_PACE_EVENTS : R Reg.LEDG_PACE_EVENTS)
    (r_LEDG_STATUS : R Reg.LEDG_STATUS) (r_LEG_STATUS : R Reg.LEG_STATUS) :
    Frame F R sB (State.axisFault s a kind detail flags) := by
  delta State.axisFault
  repeat' first
    | with_reducible assumption | lift_lets
    | (intro x; refine (fun (hx : Frame F R sB x) => ?_) ?_ <;> [clear_value x; subst x])
    | with_reducible apply State.wrN_frame | with_reducible apply State.fault_frame
    | with_reducible apply State.modSx_frame | with_reducible apply State.brakeSync_frame
    | with_reducible apply State.axisFaultJam_frame | with_reducible apply State.coastSync_frame
    | with_reducible apply State.dropSensor_frame | with_reducible apply r_AXIS_AX_FAULT
    | with_reducible apply Frame.ite

theorem State.setAxisLink_frame {sB : State} (s : State) (k new cause : Nat) (hB : Frame F R sB s) (f_host : F .host)
    (f_hwd : F .hwd) (f_axis : F .axis) (r_AXIS_EVENTS : R Reg.AXIS_EVENTS)
    (r_AXIS_LINK_STATE : ∀ i, R (Reg.AXIS_LINK_STATE i)) :
    Frame F R sB (State.setAxisLink s k new cause) := by
  delta State.setAxisLink
  repeat' first
    | with_reducible assumption | lift_lets | with_reducible apply State.setFld_frame
    | with_reducible apply State.event_frame | with_reducible apply State.raiseBit_frame
    | with_reducible apply r_AXIS_LINK_STATE | split | with_reducible refine Frame.mk' ?_ rfl

theorem State.axisLinkFaults_frame {sB : State} (s : State) (k : Nat) (hB : Frame F R sB s) (f_fresh : F .fresh)
    (f_out : F .out) (f_host : F .host) (f_ledg : F .ledg) (f_pace : F .pace) (f_flt : F .flt) (f_hwd : F .hwd)
    (f_burl : F .burl) (f_scan : F .scan) (f_step : F .step) (f_axis : F .axis) (f_leg : F .leg)
    (r_AXIS_AX_FAULT : ∀ i, R (Reg.AXIS_AX_FAULT i)) (r_HOST_ERR : R Reg.HOST_ERR)
    (r_LEDG_BH_STATUS : R Reg.LEDG_BH_STATUS) (r_LEDG_COUNT_JAM : R Reg.LEDG_COUNT_JAM)
    (r_LEDG_EVENTS : R Reg.LEDG_EVENTS) (r_LEDG_PACE_EVENTS : R Reg.LEDG_PACE_EVENTS)
    (r_LEDG_STATUS : R Reg.LEDG_STATUS) (r_LEG_STATUS : R Reg.LEG_STATUS) :
    Frame F R sB (State.axisLinkFaults s k) := by
  delta State.axisLinkFaults
  repeat' first
    | with_reducible assumption | intro (u : State) (hu : Frame F R sB u) | lift_lets
    | with_reducible apply State.fault_frame | with_reducible apply State.axisFault_frame
    | with_reducible apply Frame.foldl | intro _ | with_reducible apply Frame.ite

theorem State.loseAxisLink_frame {sB : State} (s : State) (k cause : Nat) (hB : Frame F R sB s) (f_fresh : F .fresh)
    (f_out : F .out) (f_host : F .host) (f_ledg : F .ledg) (f_pace : F .pace) (f_flt : F .flt) (f_hwd : F .hwd)
    (f_burl : F .burl) (f_scan : F .scan) (f_step : F .step) (f_axis : F .axis) (f_leg : F .leg)
    (r_AXIS_AX_FAULT : ∀ i, R (Reg.AXIS_AX_FAULT i)) (r_AXIS_EVENTS : R Reg.AXIS_EVENTS)
    (r_AXIS_LINK_STATE : ∀ i, R (Reg.AXIS_LINK_STATE i)) (r_HOST_ERR : R Reg.HOST_ERR)
    (r_LEDG_BH_STATUS : R Reg.LEDG_BH_STATUS) (r_LEDG_COUNT_JAM : R Reg.LEDG_COUNT_JAM)
    (r_LEDG_EVENTS : R Reg.LEDG_EVENTS) (r_LEDG_PACE_EVENTS : R Reg.LEDG_PACE_EVENTS)
    (r_LEDG_STATUS : R Reg.LEDG_STATUS) (r_LEG_STATUS : R Reg.LEG_STATUS) :
    Frame F R sB (State.loseAxisLink s k cause) := by
  delta State.loseAxisLink
  repeat' first
    | with_reducible assumption | lift_lets | with_reducible apply State.setAxisLink_frame
    | with_reducible apply State.axisLinkFaults_frame | with_reducible apply Frame.ite

theorem State.downAxisLink_frame {sB : State} (s : State) (k : Nat) (hB : Frame F R sB s) (f_fresh : F .fresh)
    (f_out : F .out) (f_host : F .host) (f_ledg : F .ledg) (f_pace : F .pace) (f_flt : F .flt) (f_hwd : F .hwd)
    (f_burl : F .burl) (f_scan : F .scan) (f_step : F .step) (f_axis : F .axis) (f_leg : F .leg)
    (r_AXIS_AX_FAULT : ∀ i, R (Reg.AXIS_AX_FAULT i)) (r_AXIS_EVENTS : R Reg.AXIS_EVENTS)
    (r_AXIS_LINK_STATE : ∀ i, R (Reg.AXIS_LINK_STATE i)) (r_HOST_ERR : R Reg.HOST_ERR)
    (r_LEDG_BH_STATUS : R Reg.LEDG_BH_STATUS) (r_LEDG_COUNT_JAM : R Reg.LEDG_COUNT_JAM)
    (r_LEDG_EVENTS : R Reg.LEDG_EVENTS) (r_LEDG_PACE_EVENTS : R Reg.LEDG_PACE_EVENTS)
    (r_LEDG_STATUS : R Reg.LEDG_STATUS) (r_LEG_STATUS : R Reg.LEG_STATUS) :
    Frame F R sB (State.downAxisLink s k) := by
  delta State.downAxisLink
  repeat' first
    | with_reducible assumption | lift_lets | with_reducible apply State.setAxisLink_frame
    | with_reducible apply State.axisLinkFaults_frame | with_reducible apply Frame.ite

theorem State.busWatch_frame {sB : State} (s : State) (h vbus : Nat) (tripped : Bool) (hB : Frame F R sB s)
    (f_fresh : F .fresh) (f_out : F .out) (f_host : F .host) (f_ledg : F .ledg) (f_pace : F .pace) (f_flt : F .flt)
    (f_hwd : F .hwd) (f_burl : F .burl) (f_scan : F .scan) (f_step : F .step) (f_axis : F .axis) (f_leg : F .leg)
    (r_AXIS_AX_FAULT : ∀ i, R (Reg.AXIS_AX_FAULT i)) (r_AXIS_EVENTS : R Reg.AXIS_EVENTS)
    (r_AXIS_HUB_VBUS : ∀ i, R (Reg.AXIS_HUB_VBUS i)) (r_HOST_ERR : R Reg.HOST_ERR)
    (r_LEDG_BH_STATUS : R Reg.LEDG_BH_STATUS) (r_LEDG_COUNT_JAM : R Reg.LEDG_COUNT_JAM)
    (r_LEDG_EVENTS : R Reg.LEDG_EVENTS) (r_LEDG_PACE_EVENTS : R Reg.LEDG_PACE_EVENTS)
    (r_LEDG_STATUS : R Reg.LEDG_STATUS) (r_LEG_STATUS : R Reg.LEG_STATUS) :
    Frame F R sB (State.busWatch s h vbus tripped) := by
  delta State.busWatch
  repeat' first
    | with_reducible assumption | intro (u : State) (hu : Frame F R sB u) | lift_lets
    | (intro x; refine (fun (hx : Frame F R sB x) => ?_) ?_ <;> [clear_value x; subst x])
    | with_reducible apply State.wrN_frame | with_reducible apply State.event_frame
    | with_reducible apply State.raiseBit_frame | with_reducible apply State.axisFault_frame
    | with_reducible apply r_AXIS_HUB_VBUS | with_reducible apply Frame.foldl | (intro x; clear_value x) | intro _
    | with_reducible apply Frame.ite | with_reducible refine Frame.mk' ?_ rfl

theorem State.followRaw_frame {sB : State} (s : State) (a : Nat) (hB : Frame F R sB s) (f_host : F .host)
    (f_axis : F .axis) (r_AXIS_AX_JITTER : ∀ i, R (Reg.AXIS_AX_JITTER i)) (r_AXIS_EVENTS : R Reg.AXIS_EVENTS) :
    Frame F R sB (State.followRaw s a) := by
  delta State.followRaw
  repeat' first
    | with_reducible assumption | lift_lets
    | (intro x; refine (fun (hx : Frame F R sB x) => ?_) ?_ <;> [clear_value x; subst x])
    | with_reducible apply State.setFld_frame | with_reducible apply State.bump_frame
    | with_reducible apply State.raiseBit_frame | with_reducible apply State.modSx_frame
    | with_reducible apply r_AXIS_AX_JITTER | (intro x; clear_value x) | with_reducible apply Frame.ite

theorem State.takeAngle_frame {sB : State} (s : State) (a angle : Nat) (hB : Frame F R sB s) (f_host : F .host)
    (f_axis : F .axis) (r_AXIS_AX_JITTER : ∀ i, R (Reg.AXIS_AX_JITTER i)) (r_AXIS_EVENTS : R Reg.AXIS_EVENTS) :
    Frame F R sB (State.takeAngle s a angle) := by
  delta State.takeAngle
  repeat' first
    | with_reducible assumption | lift_lets | with_reducible apply State.modSx_frame
    | with_reducible apply State.followRaw_frame | (intro x; clear_value x) | with_reducible apply Frame.ite | split

theorem State.enterSpindown_frame {sB : State} (s : State) (a : Nat) (g : Goal) (hB : Frame F R sB s)
    (f_axis : F .axis) :
    Frame F R sB (State.enterSpindown s a g) := by
  delta State.enterSpindown
  repeat' first
    | with_reducible assumption | with_reducible apply State.modSx_frame

theorem State.enterStart_frame {sB : State} (s : State) (a : Nat) (v : Int) (hB : Frame F R sB s) (f_axis : F .axis) :
    Frame F R sB (State.enterStart s a v) := by
  delta State.enterStart
  repeat' first
    | with_reducible assumption | with_reducible apply State.modSx_frame

theorem State.axisIdle_frame {sB : State} (s : State) (a : Nat) (next : Option Int) (hB : Frame F R sB s)
    (f_axis : F .axis) :
    Frame F R sB (State.axisIdle s a next) := by
  delta State.axisIdle
  repeat' first
    | with_reducible assumption | lift_lets
    | (intro x; refine (fun (hx : Frame F R sB x) => ?_) ?_ <;> [clear_value x; subst x])
    | with_reducible apply State.modSx_frame | with_reducible apply State.enterStart_frame | (intro x; clear_value x)
    | with_reducible apply Frame.ite | split

theorem State.takeRotor_frame {sB : State} (s : State) (a : Nat) (w : Int) (hB : Frame F R sB s) (f_axis : F .axis) :
    Frame F R sB (State.takeRotor s a w) := by
  delta State.takeRotor
  repeat' first
    | with_reducible assumption | lift_lets | with_reducible apply State.modSx_frame

theorem State.brakeRotor_frame {sB : State} (s : State) (a : Nat) (w : Int) (hB : Frame F R sB s) (f_axis : F .axis) :
    Frame F R sB (State.brakeRotor s a w) := by
  delta State.brakeRotor
  repeat' first
    | with_reducible assumption | lift_lets | with_reducible apply State.modSx_frame
    | with_reducible apply State.takeRotor_frame

theorem State.noteCatch_frame {sB : State} (s : State) (a route : Nat) (w : Int) (hB : Frame F R sB s)
    (f_host : F .host) (f_hwd : F .hwd) (r_AXIS_AX_COUNTS : ∀ i, R (Reg.AXIS_AX_COUNTS i))
    (r_AXIS_EVENTS : R Reg.AXIS_EVENTS) :
    Frame F R sB (State.noteCatch s a route w) := by
  delta State.noteCatch
  repeat' first
    | with_reducible assumption | lift_lets | with_reducible apply State.bump_frame
    | with_reducible apply State.event_frame | with_reducible apply State.raiseBit_frame
    | with_reducible apply r_AXIS_AX_COUNTS

theorem State.catchFail_frame {sB : State} (s : State) (a route : Nat) (hB : Frame F R sB s) (f_fresh : F .fresh)
    (f_out : F .out) (f_host : F .host) (f_ledg : F .ledg) (f_pace : F .pace) (f_flt : F .flt) (f_hwd : F .hwd)
    (f_burl : F .burl) (f_scan : F .scan) (f_step : F .step) (f_axis : F .axis) (f_leg : F .leg)
    (r_AXIS_AX_FAULT : ∀ i, R (Reg.AXIS_AX_FAULT i)) (r_AXIS_EVENTS : R Reg.AXIS_EVENTS) (r_HOST_ERR : R Reg.HOST_ERR)
    (r_LEDG_BH_STATUS : R Reg.LEDG_BH_STATUS) (r_LEDG_COUNT_JAM : R Reg.LEDG_COUNT_JAM)
    (r_LEDG_EVENTS : R Reg.LEDG_EVENTS) (r_LEDG_PACE_EVENTS : R Reg.LEDG_PACE_EVENTS)
    (r_LEDG_STATUS : R Reg.LEDG_STATUS) (r_LEG_STATUS : R Reg.LEG_STATUS) :
    Frame F R sB (State.catchFail s a route) := by
  delta State.catchFail
  repeat' first
    | with_reducible assumption | lift_lets | with_reducible apply State.event_frame
    | with_reducible apply State.raiseBit_frame | with_reducible apply State.axisFault_frame

theorem State.recovered_frame {sB : State} (s : State) (a route : Nat) (w : Int) (hB : Frame F R sB s)
    (f_fresh : F .fresh) (f_out : F .out) (f_host : F .host) (f_ledg : F .ledg) (f_pace : F .pace) (f_flt : F .flt)
    (f_hwd : F .hwd) (f_burl : F .burl) (f_scan : F .scan) (f_step : F .step) (f_axis : F .axis) (f_leg : F .leg)
    (r_AXIS_AX_COUNTS : ∀ i, R (Reg.AXIS_AX_COUNTS i)) (r_AXIS_AX_FAULT : ∀ i, R (Reg.AXIS_AX_FAULT i))
    (r_AXIS_EVENTS : R Reg.AXIS_EVENTS) (r_HOST_ERR : R Reg.HOST_ERR) (r_LEDG_BH_STATUS : R Reg.LEDG_BH_STATUS)
    (r_LEDG_COUNT_JAM : R Reg.LEDG_COUNT_JAM) (r_LEDG_EVENTS : R Reg.LEDG_EVENTS)
    (r_LEDG_PACE_EVENTS : R Reg.LEDG_PACE_EVENTS) (r_LEDG_STATUS : R Reg.LEDG_STATUS)
    (r_LEG_STATUS : R Reg.LEG_STATUS) :
    Frame F R sB (State.recovered s a route w) := by
  delta State.recovered
  repeat' first
    | with_reducible assumption | lift_lets | with_reducible apply State.modSx_frame
    | with_reducible apply State.noteCatch_frame | with_reducible apply State.catchFail_frame
    | with_reducible apply Frame.ite

theorem State.countCrossings_frame {sB : State} (s : State) (a : Nat) (r : AxisSlot) (hB : Frame F R sB s)
    (f_axis : F .axis) :
    Frame F R sB (State.countCrossings s a r) := by
  delta State.countCrossings
  repeat' first
    | with_reducible assumption | with_reducible apply State.modSx_frame

theorem State.catchSensor_frame {sB : State} (s : State) (a : Nat) (hB : Frame F R sB s) (f_axis : F .axis) :
    Frame F R sB (State.catchSensor s a) := by
  delta State.catchSensor
  repeat' first
    | with_reducible assumption | lift_lets
    | (intro x; refine (fun (hx : Frame F R sB x) => ?_) ?_ <;> [clear_value x; subst x])
    | with_reducible apply State.modSx_frame | with_reducible apply State.axisIdle_frame
    | with_reducible apply State.takeRotor_frame | with_reducible apply State.brakeRotor_frame
    | (intro x; clear_value x) | with_reducible apply Frame.ite

theorem State.catchCrossings_frame {sB : State} (s : State) (a : Nat) (r : AxisSlot) (hB : Frame F R sB s)
    (f_fresh : F .fresh) (f_host : F .host) (f_hwd : F .hwd) (f_axis : F .axis)
    (r_AXIS_AX_COUNTS : ∀ i, R (Reg.AXIS_AX_COUNTS i)) (r_AXIS_EVENTS : R Reg.AXIS_EVENTS) :
    Frame F R sB (State.catchCrossings s a r) := by
  delta State.catchCrossings
  repeat' first
    | with_reducible assumption | lift_lets
    | (intro x; refine (fun (hx : Frame F R sB x) => ?_) ?_ <;> [clear_value x; subst x])
    | with_reducible apply State.drawn_frame | with_reducible apply State.enterSpindown_frame
    | with_reducible apply State.axisIdle_frame | with_reducible apply State.takeRotor_frame
    | with_reducible apply State.brakeRotor_frame | with_reducible apply State.noteCatch_frame
    | with_reducible apply State.countCrossings_frame | (intro x; clear_value x) | with_reducible apply Frame.ite

theorem State.recoverCrossings_frame {sB : State} (s : State) (a : Nat) (r : AxisSlot) (hB : Frame F R sB s)
    (f_fresh : F .fresh) (f_out : F .out) (f_host : F .host) (f_ledg : F .ledg) (f_pace : F .pace) (f_flt : F .flt)
    (f_hwd : F .hwd) (f_burl : F .burl) (f_scan : F .scan) (f_step : F .step) (f_axis : F .axis) (f_leg : F .leg)
    (r_AXIS_AX_COUNTS : ∀ i, R (Reg.AXIS_AX_COUNTS i)) (r_AXIS_AX_FAULT : ∀ i, R (Reg.AXIS_AX_FAULT i))
    (r_AXIS_EVENTS : R Reg.AXIS_EVENTS) (r_HOST_ERR : R Reg.HOST_ERR) (r_LEDG_BH_STATUS : R Reg.LEDG_BH_STATUS)
    (r_LEDG_COUNT_JAM : R Reg.LEDG_COUNT_JAM) (r_LEDG_EVENTS : R Reg.LEDG_EVENTS)
    (r_LEDG_PACE_EVENTS : R Reg.LEDG_PACE_EVENTS) (r_LEDG_STATUS : R Reg.LEDG_STATUS)
    (r_LEG_STATUS : R Reg.LEG_STATUS) :
    Frame F R sB (State.recoverCrossings s a r) := by
  delta State.recoverCrossings
  repeat' first
    | with_reducible assumption | lift_lets
    | (intro x; refine (fun (hx : Frame F R sB x) => ?_) ?_ <;> [clear_value x; subst x])
    | with_reducible apply State.drawn_frame | with_reducible apply State.recovered_frame
    | with_reducible apply State.countCrossings_frame | with_reducible apply Frame.ite

theorem State.spindownSlot_frame {sB : State} (s : State) (a : Nat) (r : AxisSlot) (hB : Frame F R sB s)
    (f_axis : F .axis) :
    Frame F R sB (State.spindownSlot s a r) := by
  delta State.spindownSlot
  repeat' first
    | with_reducible assumption | lift_lets
    | (intro x; refine (fun (hx : Frame F R sB x) => ?_) ?_ <;> [clear_value x; subst x])
    | with_reducible apply State.axisIdle_frame | with_reducible apply State.countCrossings_frame
    | with_reducible apply Frame.ite

theorem State.startFail_frame {sB : State} (s : State) (a detail : Nat) (hB : Frame F R sB s) (f_fresh : F .fresh)
    (f_out : F .out) (f_host : F .host) (f_ledg : F .ledg) (f_pace : F .pace) (f_flt : F .flt) (f_hwd : F .hwd)
    (f_burl : F .burl) (f_scan : F .scan) (f_step : F .step) (f_axis : F .axis) (f_leg : F .leg)
    (r_AXIS_AX_FAULT : ∀ i, R (Reg.AXIS_AX_FAULT i)) (r_AXIS_EVENTS : R Reg.AXIS_EVENTS) (r_HOST_ERR : R Reg.HOST_ERR)
    (r_LEDG_BH_STATUS : R Reg.LEDG_BH_STATUS) (r_LEDG_COUNT_JAM : R Reg.LEDG_COUNT_JAM)
    (r_LEDG_EVENTS : R Reg.LEDG_EVENTS) (r_LEDG_PACE_EVENTS : R Reg.LEDG_PACE_EVENTS)
    (r_LEDG_STATUS : R Reg.LEDG_STATUS) (r_LEG_STATUS : R Reg.LEG_STATUS) :
    Frame F R sB (State.startFail s a detail) := by
  delta State.startFail
  repeat' first
    | with_reducible assumption | lift_lets | with_reducible apply State.event_frame
    | with_reducible apply State.raiseBit_frame | with_reducible apply State.axisFault_frame

theorem State.takePeak_frame {sB : State} (s : State) (a peak : Nat) (hB : Frame F R sB s) (f_fresh : F .fresh)
    (f_out : F .out) (f_host : F .host) (f_ledg : F .ledg) (f_pace : F .pace) (f_flt : F .flt) (f_hwd : F .hwd)
    (f_burl : F .burl) (f_scan : F .scan) (f_step : F .step) (f_axis : F .axis) (f_leg : F .leg)
    (r_AXIS_AX_FAULT : ∀ i, R (Reg.AXIS_AX_FAULT i)) (r_AXIS_EVENTS : R Reg.AXIS_EVENTS) (r_HOST_ERR : R Reg.HOST_ERR)
    (r_LEDG_BH_STATUS : R Reg.LEDG_BH_STATUS) (r_LEDG_COUNT_JAM : R Reg.LEDG_COUNT_JAM)
    (r_LEDG_EVENTS : R Reg.LEDG_EVENTS) (r_LEDG_PACE_EVENTS : R Reg.LEDG_PACE_EVENTS)
    (r_LEDG_STATUS : R Reg.LEDG_STATUS) (r_LEG_STATUS : R Reg.LEG_STATUS) :
    Frame F R sB (State.takePeak s a peak) := by
  delta State.takePeak
  repeat' first
    | with_reducible assumption | lift_lets
    | (intro x; refine (fun (hx : Frame F R sB x) => ?_) ?_ <;> [clear_value x; subst x])
    | with_reducible apply State.modSx_frame | with_reducible apply State.startFail_frame | (intro x; clear_value x)
    | with_reducible apply Frame.ite

theorem State.coastRest_frame {sB : State} (s : State) (a : Nat) (hB : Frame F R sB s) (f_axis : F .axis) :
    Frame F R sB (State.coastRest s a) := by
  delta State.coastRest
  repeat' first
    | with_reducible assumption | lift_lets
    | (intro x; refine (fun (hx : Frame F R sB x) => ?_) ?_ <;> [clear_value x; subst x])
    | with_reducible apply State.modSx_frame | with_reducible apply State.axisIdle_frame | split

theorem State.axisSlotDecide_frame {sB : State} (s : State) (a : Nat) (r : AxisSlot) (hB : Frame F R sB s)
    (f_fresh : F .fresh) (f_out : F .out) (f_host : F .host) (f_ledg : F .ledg) (f_pace : F .pace) (f_flt : F .flt)
    (f_hwd : F .hwd) (f_burl : F .burl) (f_scan : F .scan) (f_step : F .step) (f_axis : F .axis) (f_leg : F .leg)
    (r_AXIS_AX_COUNTS : ∀ i, R (Reg.AXIS_AX_COUNTS i)) (r_AXIS_AX_FAULT : ∀ i, R (Reg.AXIS_AX_FAULT i))
    (r_AXIS_AX_JITTER : ∀ i, R (Reg.AXIS_AX_JITTER i)) (r_AXIS_EVENTS : R Reg.AXIS_EVENTS)
    (r_HOST_ERR : R Reg.HOST_ERR) (r_LEDG_BH_STATUS : R Reg.LEDG_BH_STATUS) (r_LEDG_COUNT_JAM : R Reg.LEDG_COUNT_JAM)
    (r_LEDG_EVENTS : R Reg.LEDG_EVENTS) (r_LEDG_PACE_EVENTS : R Reg.LEDG_PACE_EVENTS)
    (r_LEDG_STATUS : R Reg.LEDG_STATUS) (r_LEG_STATUS : R Reg.LEG_STATUS) :
    Frame F R sB (State.axisSlotDecide s a r) := by
  delta State.axisSlotDecide
  repeat' first
    | with_reducible assumption | lift_lets
    | (intro x; refine (fun (hx : Frame F R sB x) => ?_) ?_ <;> [clear_value x; subst x])
    | with_reducible apply State.event_frame | with_reducible apply State.raiseBit_frame
    | with_reducible apply State.dropSensor_frame | with_reducible apply State.axisFault_frame
    | with_reducible apply State.takeAngle_frame | with_reducible apply State.countCrossings_frame
    | with_reducible apply State.catchSensor_frame | with_reducible apply State.catchCrossings_frame
    | with_reducible apply State.recoverCrossings_frame | with_reducible apply State.spindownSlot_frame
    | with_reducible apply State.takePeak_frame | with_reducible apply State.coastRest_frame
    | (intro x; clear_value x) | with_reducible apply Frame.ite | split

theorem State.axisReturn_frame {sB : State} (s : State) (a n : Nat) (r : AxisSlot) (hB : Frame F R sB s)
    (f_fresh : F .fresh) (f_out : F .out) (f_host : F .host) (f_ledg : F .ledg) (f_pace : F .pace) (f_flt : F .flt)
    (f_hwd : F .hwd) (f_burl : F .burl) (f_scan : F .scan) (f_step : F .step) (f_axis : F .axis) (f_leg : F .leg)
    (r_AXIS_AX_COUNTS : ∀ i, R (Reg.AXIS_AX_COUNTS i)) (r_AXIS_AX_FAULT : ∀ i, R (Reg.AXIS_AX_FAULT i))
    (r_AXIS_AX_JITTER : ∀ i, R (Reg.AXIS_AX_JITTER i)) (r_AXIS_EVENTS : R Reg.AXIS_EVENTS)
    (r_HOST_ERR : R Reg.HOST_ERR) (r_LEDG_BH_STATUS : R Reg.LEDG_BH_STATUS) (r_LEDG_COUNT_JAM : R Reg.LEDG_COUNT_JAM)
    (r_LEDG_EVENTS : R Reg.LEDG_EVENTS) (r_LEDG_PACE_EVENTS : R Reg.LEDG_PACE_EVENTS)
    (r_LEDG_STATUS : R Reg.LEDG_STATUS) (r_LEG_STATUS : R Reg.LEG_STATUS) :
    Frame F R sB (State.axisReturn s a n r) := by
  delta State.axisReturn
  repeat' first
    | with_reducible assumption | lift_lets | with_reducible apply State.modSx_frame
    | with_reducible apply State.axisSlotDecide_frame

theorem State.gatherAxisFrame_frame {sB : State} (s : State) (k : Nat) (f : AxisFrame) (hB : Frame F R sB s)
    (f_axis : F .axis) (r_AXIS_LINK_STATE : ∀ i, R (Reg.AXIS_LINK_STATE i)) :
    Frame F R sB (State.gatherAxisFrame s k f) := by
  delta State.gatherAxisFrame
  repeat' first
    | with_reducible assumption | lift_lets
    | (intro x; refine (fun (hx : Frame F R sB x) => ?_) ?_ <;> [clear_value x; subst x])
    | with_reducible apply State.setFld_frame | with_reducible apply r_AXIS_LINK_STATE | (intro x; clear_value x)
    | with_reducible apply Frame.ite | with_reducible refine Frame.mk' ?_ rfl

theorem State.axisFrameDecide_frame {sB : State} (s : State) (k : Nat) (f : AxisFrame) (hB : Frame F R sB s)
    (f_fresh : F .fresh) (f_out : F .out) (f_host : F .host) (f_ledg : F .ledg) (f_pace : F .pace) (f_flt : F .flt)
    (f_hwd : F .hwd) (f_burl : F .burl) (f_scan : F .scan) (f_step : F .step) (f_axis : F .axis) (f_leg : F .leg)
    (r_AXIS_AX_COUNTS : ∀ i, R (Reg.AXIS_AX_COUNTS i)) (r_AXIS_AX_FAULT : ∀ i, R (Reg.AXIS_AX_FAULT i))
    (r_AXIS_AX_JITTER : ∀ i, R (Reg.AXIS_AX_JITTER i)) (r_AXIS_EVENTS : R Reg.AXIS_EVENTS)
    (r_AXIS_HUB_VBUS : ∀ i, R (Reg.AXIS_HUB_VBUS i)) (r_AXIS_LINK_STATE : ∀ i, R (Reg.AXIS_LINK_STATE i))
    (r_HOST_ERR : R Reg.HOST_ERR) (r_LEDG_BH_STATUS : R Reg.LEDG_BH_STATUS) (r_LEDG_COUNT_JAM : R Reg.LEDG_COUNT_JAM)
    (r_LEDG_EVENTS : R Reg.LEDG_EVENTS) (r_LEDG_PACE_EVENTS : R Reg.LEDG_PACE_EVENTS)
    (r_LEDG_STATUS : R Reg.LEDG_STATUS) (r_LEG_STATUS : R Reg.LEG_STATUS) :
    Frame F R sB (State.axisFrameDecide s k f) := by
  delta State.axisFrameDecide
  repeat' first
    | with_reducible assumption | intro (u : State) (hu : Frame F R sB u) | lift_lets
    | with_reducible apply State.setFld_frame | with_reducible apply State.loseAxisLink_frame
    | with_reducible apply State.busWatch_frame | with_reducible apply State.axisReturn_frame
    | with_reducible apply r_AXIS_HUB_VBUS | with_reducible apply Frame.foldl | intro _
    | with_reducible apply Frame.ite

theorem State.axisReturns_frame {sB : State} (s : State) (hB : Frame F R sB s) (f_fresh : F .fresh) (f_out : F .out)
    (f_host : F .host) (f_ledg : F .ledg) (f_pace : F .pace) (f_flt : F .flt) (f_hwd : F .hwd) (f_burl : F .burl)
    (f_scan : F .scan) (f_step : F .step) (f_axis : F .axis) (f_leg : F .leg)
    (r_AXIS_AX_COUNTS : ∀ i, R (Reg.AXIS_AX_COUNTS i)) (r_AXIS_AX_FAULT : ∀ i, R (Reg.AXIS_AX_FAULT i))
    (r_AXIS_AX_JITTER : ∀ i, R (Reg.AXIS_AX_JITTER i)) (r_AXIS_EVENTS : R Reg.AXIS_EVENTS)
    (r_AXIS_HUB_VBUS : ∀ i, R (Reg.AXIS_HUB_VBUS i)) (r_AXIS_LINK_STATE : ∀ i, R (Reg.AXIS_LINK_STATE i))
    (r_HOST_ERR : R Reg.HOST_ERR) (r_LEDG_BH_STATUS : R Reg.LEDG_BH_STATUS) (r_LEDG_COUNT_JAM : R Reg.LEDG_COUNT_JAM)
    (r_LEDG_EVENTS : R Reg.LEDG_EVENTS) (r_LEDG_PACE_EVENTS : R Reg.LEDG_PACE_EVENTS)
    (r_LEDG_STATUS : R Reg.LEDG_STATUS) (r_LEG_STATUS : R Reg.LEG_STATUS) :
    Frame F R sB (State.axisReturns s) := by
  delta State.axisReturns
  repeat' first
    | with_reducible assumption | intro (u : State) (hu : Frame F R sB u) | lift_lets
    | with_reducible apply State.axisFrameDecide_frame | with_reducible apply Frame.foldl | intro _
    | with_reducible refine Frame.mk' ?_ rfl

theorem execAxisFrameReturn_frame {sB : State} (k : Fin 4) (bs : List Byte) (s : State) (hB : Frame F R sB s)
    (f_axis : F .axis) (r_AXIS_LINK_STATE : ∀ i, R (Reg.AXIS_LINK_STATE i)) :
    FrameO F R sB (execAxisFrameReturn k bs s) := by
  delta execAxisFrameReturn
  repeat' first
    | with_reducible assumption | lift_lets | with_reducible apply FrameO.next
    | with_reducible apply State.gatherAxisFrame_frame | (intro x; clear_value x) | with_reducible apply FrameO.ite
    | with_reducible refine Frame.mk' ?_ rfl

theorem State.axisLinkIn_frame {sB : State} (s : State) (k : Nat) (hB : Frame F R sB s) (f_axis : F .axis)
    (r_AXIS_LINK_STATE : ∀ i, R (Reg.AXIS_LINK_STATE i)) :
    Frame F R sB (State.axisLinkIn s k) := by
  delta State.axisLinkIn
  repeat' first
    | with_reducible assumption | lift_lets | with_reducible apply State.gatherAxisFrame_frame
    | (intro x; clear_value x) | intro _ | with_reducible apply Frame.ite | split
    | with_reducible refine Frame.mk' ?_ rfl

theorem State.axisCommand_frame {sB : State} (s : State) (a : Nat) (checks : List (Bool × Nat)) (f : State → State)
    (hf : ∀ u, Frame F R sB u → Frame F R sB (f u)) (hB : Frame F R sB s) (f_host : F .host)
    (r_AXIS_AX_RESULT : ∀ i, R (Reg.AXIS_AX_RESULT i)) (r_AXIS_EVENTS : R Reg.AXIS_EVENTS) :
    Frame F R sB (State.axisCommand s a checks f) := by
  delta State.axisCommand
  repeat' first
    | with_reducible assumption | lift_lets | with_reducible apply State.wrN_frame
    | with_reducible apply State.raiseBit_frame | with_reducible apply hf | with_reducible apply r_AXIS_AX_RESULT
    | split

theorem State.axisEnable_frame {sB : State} (s : State) (a : Nat) (hB : Frame F R sB s) (f_host : F .host)
    (f_axis : F .axis) (r_AXIS_AX_RESULT : ∀ i, R (Reg.AXIS_AX_RESULT i)) (r_AXIS_EVENTS : R Reg.AXIS_EVENTS) :
    Frame F R sB (State.axisEnable s a) := by
  delta State.axisEnable
  repeat' first
    | with_reducible assumption | intro (u : State) (hu : Frame F R sB u) | lift_lets
    | with_reducible apply State.modSx_frame | with_reducible apply State.axisCommand_frame

theorem State.axisDisable_frame {sB : State} (s : State) (a : Nat) (hB : Frame F R sB s) (f_host : F .host)
    (f_flt : F .flt) (f_axis : F .axis) (r_AXIS_AX_RESULT : ∀ i, R (Reg.AXIS_AX_RESULT i))
    (r_AXIS_EVENTS : R Reg.AXIS_EVENTS) :
    Frame F R sB (State.axisDisable s a) := by
  delta State.axisDisable
  repeat' first
    | with_reducible assumption | intro (u : State) (hu : Frame F R sB u) | lift_lets
    | with_reducible apply State.modSx_frame | with_reducible apply State.axisCommand_frame

theorem State.axisMove_frame {sB : State} (s : State) (a prof : Nat) (hB : Frame F R sB s) (f_host : F .host)
    (f_axis : F .axis) (r_AXIS_AX_RESULT : ∀ i, R (Reg.AXIS_AX_RESULT i)) (r_AXIS_EVENTS : R Reg.AXIS_EVENTS) :
    Frame F R sB (State.axisMove s a prof) := by
  delta State.axisMove
  repeat' first
    | with_reducible assumption | intro (u : State) (hu : Frame F R sB u) | lift_lets
    | with_reducible apply State.modSx_frame | with_reducible apply State.axisCommand_frame

theorem State.axisVelocity_frame {sB : State} (s : State) (a prof : Nat) (hB : Frame F R sB s) (f_host : F .host)
    (f_axis : F .axis) (r_AXIS_AX_RESULT : ∀ i, R (Reg.AXIS_AX_RESULT i)) (r_AXIS_EVENTS : R Reg.AXIS_EVENTS) :
    Frame F R sB (State.axisVelocity s a prof) := by
  delta State.axisVelocity
  repeat' first
    | with_reducible assumption | intro (u : State) (hu : Frame F R sB u) | lift_lets
    | (intro x; refine (fun (hx : Frame F R sB x) => ?_) ?_ <;> [clear_value x; subst x])
    | with_reducible apply State.modSx_frame | with_reducible apply State.brakeSync_frame
    | with_reducible apply State.enterSpindown_frame | with_reducible apply State.enterStart_frame
    | with_reducible apply State.axisCommand_frame | (intro x; clear_value x) | with_reducible apply Frame.ite | split

theorem State.axisStop_frame {sB : State} (s : State) (a : Nat) (hB : Frame F R sB s) (f_host : F .host)
    (f_axis : F .axis) (r_AXIS_AX_RESULT : ∀ i, R (Reg.AXIS_AX_RESULT i)) (r_AXIS_EVENTS : R Reg.AXIS_EVENTS) :
    Frame F R sB (State.axisStop s a) := by
  delta State.axisStop
  repeat' first
    | with_reducible assumption | intro (u : State) (hu : Frame F R sB u) | lift_lets
    | with_reducible apply State.brakeSync_frame | with_reducible apply State.axisCommand_frame
    | with_reducible apply Frame.ite

theorem State.axisSetPos_frame {sB : State} (s : State) (a : Nat) (hB : Frame F R sB s) (f_host : F .host)
    (f_axis : F .axis) (r_AXIS_AX_RESULT : ∀ i, R (Reg.AXIS_AX_RESULT i)) (r_AXIS_EVENTS : R Reg.AXIS_EVENTS) :
    Frame F R sB (State.axisSetPos s a) := by
  delta State.axisSetPos
  repeat' first
    | with_reducible assumption | intro (u : State) (hu : Frame F R sB u) | lift_lets
    | with_reducible apply State.modSx_frame | with_reducible apply State.axisCommand_frame

theorem State.axisClear_frame {sB : State} (s : State) (a : Nat) (hB : Frame F R sB s) (f_host : F .host)
    (f_flt : F .flt) (f_axis : F .axis) (r_AXIS_AX_RESULT : ∀ i, R (Reg.AXIS_AX_RESULT i))
    (r_AXIS_EVENTS : R Reg.AXIS_EVENTS) :
    Frame F R sB (State.axisClear s a) := by
  delta State.axisClear
  repeat' first
    | with_reducible assumption | intro (u : State) (hu : Frame F R sB u) | lift_lets
    | with_reducible apply State.modSx_frame | with_reducible apply State.axisIdle_frame
    | with_reducible apply State.axisCommand_frame | with_reducible apply Frame.ite

theorem effAxisEnable_frame {sB : State} (a : Fin 24) (s : State) (hB : Frame F R sB s) (f_host : F .host)
    (f_axis : F .axis) (r_AXIS_AX_RESULT : ∀ i, R (Reg.AXIS_AX_RESULT i)) (r_AXIS_EVENTS : R Reg.AXIS_EVENTS) :
    FrameO F R sB (effAxisEnable a s) := by
  delta effAxisEnable
  repeat' first
    | with_reducible assumption | lift_lets | with_reducible apply FrameO.next
    | with_reducible apply State.axisEnable_frame

theorem effAxisDisable_frame {sB : State} (a : Fin 24) (s : State) (hB : Frame F R sB s) (f_host : F .host)
    (f_flt : F .flt) (f_axis : F .axis) (r_AXIS_AX_RESULT : ∀ i, R (Reg.AXIS_AX_RESULT i))
    (r_AXIS_EVENTS : R Reg.AXIS_EVENTS) :
    FrameO F R sB (effAxisDisable a s) := by
  delta effAxisDisable
  repeat' first
    | with_reducible assumption | lift_lets | with_reducible apply FrameO.next
    | with_reducible apply State.axisDisable_frame

theorem effAxisMove_frame {sB : State} (a : Fin 24) (prof : Fin 8) (s : State) (hB : Frame F R sB s)
    (f_host : F .host) (f_axis : F .axis) (r_AXIS_AX_RESULT : ∀ i, R (Reg.AXIS_AX_RESULT i))
    (r_AXIS_EVENTS : R Reg.AXIS_EVENTS) :
    FrameO F R sB (effAxisMove a prof s) := by
  delta effAxisMove
  repeat' first
    | with_reducible assumption | lift_lets | with_reducible apply FrameO.next
    | with_reducible apply State.axisMove_frame

theorem effAxisVelocity_frame {sB : State} (a : Fin 24) (prof : Fin 8) (s : State) (hB : Frame F R sB s)
    (f_host : F .host) (f_axis : F .axis) (r_AXIS_AX_RESULT : ∀ i, R (Reg.AXIS_AX_RESULT i))
    (r_AXIS_EVENTS : R Reg.AXIS_EVENTS) :
    FrameO F R sB (effAxisVelocity a prof s) := by
  delta effAxisVelocity
  repeat' first
    | with_reducible assumption | lift_lets | with_reducible apply FrameO.next
    | with_reducible apply State.axisVelocity_frame

theorem effAxisStop_frame {sB : State} (a : Fin 24) (s : State) (hB : Frame F R sB s) (f_host : F .host)
    (f_axis : F .axis) (r_AXIS_AX_RESULT : ∀ i, R (Reg.AXIS_AX_RESULT i)) (r_AXIS_EVENTS : R Reg.AXIS_EVENTS) :
    FrameO F R sB (effAxisStop a s) := by
  delta effAxisStop
  repeat' first
    | with_reducible assumption | lift_lets | with_reducible apply FrameO.next
    | with_reducible apply State.axisStop_frame

theorem effAxisSetPos_frame {sB : State} (a : Fin 24) (s : State) (hB : Frame F R sB s) (f_host : F .host)
    (f_axis : F .axis) (r_AXIS_AX_RESULT : ∀ i, R (Reg.AXIS_AX_RESULT i)) (r_AXIS_EVENTS : R Reg.AXIS_EVENTS) :
    FrameO F R sB (effAxisSetPos a s) := by
  delta effAxisSetPos
  repeat' first
    | with_reducible assumption | lift_lets | with_reducible apply FrameO.next
    | with_reducible apply State.axisSetPos_frame

theorem effAxisClear_frame {sB : State} (a : Fin 24) (s : State) (hB : Frame F R sB s) (f_host : F .host)
    (f_flt : F .flt) (f_axis : F .axis) (r_AXIS_AX_RESULT : ∀ i, R (Reg.AXIS_AX_RESULT i))
    (r_AXIS_EVENTS : R Reg.AXIS_EVENTS) :
    FrameO F R sB (effAxisClear a s) := by
  delta effAxisClear
  repeat' first
    | with_reducible assumption | lift_lets | with_reducible apply FrameO.next
    | with_reducible apply State.axisClear_frame

theorem State.catchTimeout_frame {sB : State} (s : State) (a : Nat) (hB : Frame F R sB s) (f_axis : F .axis) :
    Frame F R sB (State.catchTimeout s a) := by
  delta State.catchTimeout
  repeat' first
    | with_reducible assumption | lift_lets | with_reducible apply State.enterSpindown_frame
    | (intro x; clear_value x) | with_reducible apply Frame.ite

theorem State.spindownTimeout_frame {sB : State} (s : State) (a : Nat) (hB : Frame F R sB s) (f_fresh : F .fresh)
    (f_out : F .out) (f_host : F .host) (f_ledg : F .ledg) (f_pace : F .pace) (f_flt : F .flt) (f_hwd : F .hwd)
    (f_burl : F .burl) (f_scan : F .scan) (f_step : F .step) (f_axis : F .axis) (f_leg : F .leg)
    (r_AXIS_AX_FAULT : ∀ i, R (Reg.AXIS_AX_FAULT i)) (r_AXIS_EVENTS : R Reg.AXIS_EVENTS) (r_HOST_ERR : R Reg.HOST_ERR)
    (r_LEDG_BH_STATUS : R Reg.LEDG_BH_STATUS) (r_LEDG_COUNT_JAM : R Reg.LEDG_COUNT_JAM)
    (r_LEDG_EVENTS : R Reg.LEDG_EVENTS) (r_LEDG_PACE_EVENTS : R Reg.LEDG_PACE_EVENTS)
    (r_LEDG_STATUS : R Reg.LEDG_STATUS) (r_LEG_STATUS : R Reg.LEG_STATUS) :
    Frame F R sB (State.spindownTimeout s a) := by
  delta State.spindownTimeout
  repeat' first
    | with_reducible assumption | lift_lets | with_reducible apply State.event_frame
    | with_reducible apply State.raiseBit_frame | with_reducible apply State.axisFault_frame
    | (intro x; clear_value x) | with_reducible apply Frame.ite

theorem effCatchTimeout_frame {sB : State} (a : Fin 24) (s : State) (hB : Frame F R sB s) (f_axis : F .axis) :
    FrameO F R sB (effCatchTimeout a s) := by
  delta effCatchTimeout
  repeat' first
    | with_reducible assumption | lift_lets | with_reducible apply FrameO.next
    | with_reducible apply State.catchTimeout_frame

theorem effSpindownTimeout_frame {sB : State} (a : Fin 24) (s : State) (hB : Frame F R sB s) (f_fresh : F .fresh)
    (f_out : F .out) (f_host : F .host) (f_ledg : F .ledg) (f_pace : F .pace) (f_flt : F .flt) (f_hwd : F .hwd)
    (f_burl : F .burl) (f_scan : F .scan) (f_step : F .step) (f_axis : F .axis) (f_leg : F .leg)
    (r_AXIS_AX_FAULT : ∀ i, R (Reg.AXIS_AX_FAULT i)) (r_AXIS_EVENTS : R Reg.AXIS_EVENTS) (r_HOST_ERR : R Reg.HOST_ERR)
    (r_LEDG_BH_STATUS : R Reg.LEDG_BH_STATUS) (r_LEDG_COUNT_JAM : R Reg.LEDG_COUNT_JAM)
    (r_LEDG_EVENTS : R Reg.LEDG_EVENTS) (r_LEDG_PACE_EVENTS : R Reg.LEDG_PACE_EVENTS)
    (r_LEDG_STATUS : R Reg.LEDG_STATUS) (r_LEG_STATUS : R Reg.LEG_STATUS) :
    FrameO F R sB (effSpindownTimeout a s) := by
  delta effSpindownTimeout
  repeat' first
    | with_reducible assumption | lift_lets | with_reducible apply FrameO.next
    | with_reducible apply State.spindownTimeout_frame

theorem State.loseObserver_frame {sB : State} (s : State) (a : Nat) (hB : Frame F R sB s) (f_host : F .host)
    (f_ledg : F .ledg) (f_flt : F .flt) (f_hwd : F .hwd) (f_axis : F .axis)
    (r_AXIS_AX_COUNTS : ∀ i, R (Reg.AXIS_AX_COUNTS i)) (r_AXIS_EVENTS : R Reg.AXIS_EVENTS) :
    Frame F R sB (State.loseObserver s a) := by
  delta State.loseObserver
  repeat' first
    | with_reducible assumption | lift_lets
    | (intro x; refine (fun (hx : Frame F R sB x) => ?_) ?_ <;> [clear_value x; subst x])
    | with_reducible apply State.bump_frame | with_reducible apply State.fault_frame
    | with_reducible apply State.event_frame | with_reducible apply State.report_frame
    | with_reducible apply State.raiseBit_frame | with_reducible apply State.modSx_frame
    | with_reducible apply State.coastSync_frame | with_reducible apply r_AXIS_AX_COUNTS | (intro x; clear_value x)
    | with_reducible apply Frame.ite

theorem effObserverLoss_frame {sB : State} (a : Fin 24) (s : State) (hB : Frame F R sB s) (f_host : F .host)
    (f_ledg : F .ledg) (f_flt : F .flt) (f_hwd : F .hwd) (f_axis : F .axis)
    (r_AXIS_AX_COUNTS : ∀ i, R (Reg.AXIS_AX_COUNTS i)) (r_AXIS_EVENTS : R Reg.AXIS_EVENTS) :
    FrameO F R sB (effObserverLoss a s) := by
  delta effObserverLoss
  repeat' first
    | with_reducible assumption | lift_lets | with_reducible apply FrameO.next
    | with_reducible apply State.loseObserver_frame

theorem State.recoverTimeout_frame {sB : State} (s : State) (a : Nat) (hB : Frame F R sB s) (f_fresh : F .fresh)
    (f_out : F .out) (f_host : F .host) (f_ledg : F .ledg) (f_pace : F .pace) (f_flt : F .flt) (f_hwd : F .hwd)
    (f_burl : F .burl) (f_scan : F .scan) (f_step : F .step) (f_axis : F .axis) (f_leg : F .leg)
    (r_AXIS_AX_FAULT : ∀ i, R (Reg.AXIS_AX_FAULT i)) (r_AXIS_EVENTS : R Reg.AXIS_EVENTS) (r_HOST_ERR : R Reg.HOST_ERR)
    (r_LEDG_BH_STATUS : R Reg.LEDG_BH_STATUS) (r_LEDG_COUNT_JAM : R Reg.LEDG_COUNT_JAM)
    (r_LEDG_EVENTS : R Reg.LEDG_EVENTS) (r_LEDG_PACE_EVENTS : R Reg.LEDG_PACE_EVENTS)
    (r_LEDG_STATUS : R Reg.LEDG_STATUS) (r_LEG_STATUS : R Reg.LEG_STATUS) :
    Frame F R sB (State.recoverTimeout s a) := by
  delta State.recoverTimeout
  repeat' first
    | with_reducible assumption | lift_lets | with_reducible apply State.catchFail_frame | (intro x; clear_value x)
    | with_reducible apply Frame.ite

theorem effRecoverTimeout_frame {sB : State} (a : Fin 24) (s : State) (hB : Frame F R sB s) (f_fresh : F .fresh)
    (f_out : F .out) (f_host : F .host) (f_ledg : F .ledg) (f_pace : F .pace) (f_flt : F .flt) (f_hwd : F .hwd)
    (f_burl : F .burl) (f_scan : F .scan) (f_step : F .step) (f_axis : F .axis) (f_leg : F .leg)
    (r_AXIS_AX_FAULT : ∀ i, R (Reg.AXIS_AX_FAULT i)) (r_AXIS_EVENTS : R Reg.AXIS_EVENTS) (r_HOST_ERR : R Reg.HOST_ERR)
    (r_LEDG_BH_STATUS : R Reg.LEDG_BH_STATUS) (r_LEDG_COUNT_JAM : R Reg.LEDG_COUNT_JAM)
    (r_LEDG_EVENTS : R Reg.LEDG_EVENTS) (r_LEDG_PACE_EVENTS : R Reg.LEDG_PACE_EVENTS)
    (r_LEDG_STATUS : R Reg.LEDG_STATUS) (r_LEG_STATUS : R Reg.LEG_STATUS) :
    FrameO F R sB (effRecoverTimeout a s) := by
  delta effRecoverTimeout
  repeat' first
    | with_reducible assumption | lift_lets | with_reducible apply FrameO.next
    | with_reducible apply State.recoverTimeout_frame

theorem State.axisDue_frame {sB : State} (s : State) (a : Nat) (hB : Frame F R sB s) (f_fresh : F .fresh)
    (f_out : F .out) (f_host : F .host) (f_ledg : F .ledg) (f_pace : F .pace) (f_flt : F .flt) (f_hwd : F .hwd)
    (f_burl : F .burl) (f_scan : F .scan) (f_step : F .step) (f_axis : F .axis) (f_leg : F .leg)
    (r_AXIS_AX_COUNTS : ∀ i, R (Reg.AXIS_AX_COUNTS i)) (r_AXIS_AX_FAULT : ∀ i, R (Reg.AXIS_AX_FAULT i))
    (r_AXIS_EVENTS : R Reg.AXIS_EVENTS) (r_HOST_ERR : R Reg.HOST_ERR) (r_LEDG_BH_STATUS : R Reg.LEDG_BH_STATUS)
    (r_LEDG_COUNT_JAM : R Reg.LEDG_COUNT_JAM) (r_LEDG_EVENTS : R Reg.LEDG_EVENTS)
    (r_LEDG_PACE_EVENTS : R Reg.LEDG_PACE_EVENTS) (r_LEDG_STATUS : R Reg.LEDG_STATUS)
    (r_LEG_STATUS : R Reg.LEG_STATUS) :
    Frame F R sB (State.axisDue s a) := by
  delta State.axisDue
  repeat' first
    | with_reducible assumption | lift_lets | with_reducible apply State.catchTimeout_frame
    | with_reducible apply State.spindownTimeout_frame | with_reducible apply State.loseObserver_frame
    | with_reducible apply State.recoverTimeout_frame

theorem State.takeFacetPeriod_frame {sB : State} (s : State) (a : Nat) (f : FacetPeriod) (hB : Frame F R sB s)
    (f_fresh : F .fresh) (f_out : F .out) (f_host : F .host) (f_ledg : F .ledg) (f_pace : F .pace) (f_flt : F .flt)
    (f_hwd : F .hwd) (f_burl : F .burl) (f_scan : F .scan) (f_step : F .step) (f_axis : F .axis) (f_leg : F .leg)
    (r_AXIS_AX_BD_EANGLE : ∀ i, R (Reg.AXIS_AX_BD_EANGLE i)) (r_AXIS_AX_COUNTS : ∀ i, R (Reg.AXIS_AX_COUNTS i))
    (r_AXIS_AX_FAULT : ∀ i, R (Reg.AXIS_AX_FAULT i)) (r_AXIS_EVENTS : R Reg.AXIS_EVENTS) (r_HOST_ERR : R Reg.HOST_ERR)
    (r_LEDG_BH_STATUS : R Reg.LEDG_BH_STATUS) (r_LEDG_COUNT_JAM : R Reg.LEDG_COUNT_JAM)
    (r_LEDG_EVENTS : R Reg.LEDG_EVENTS) (r_LEDG_PACE_EVENTS : R Reg.LEDG_PACE_EVENTS)
    (r_LEDG_STATUS : R Reg.LEDG_STATUS) (r_LEG_STATUS : R Reg.LEG_STATUS) :
    Frame F R sB (State.takeFacetPeriod s a f) := by
  delta State.takeFacetPeriod
  repeat' first
    | with_reducible assumption | lift_lets
    | (intro x; refine (fun (hx : Frame F R sB x) => ?_) ?_ <;> [clear_value x; subst x])
    | with_reducible apply State.wrN_frame | with_reducible apply State.drawn_frame
    | with_reducible apply State.modSx_frame | with_reducible apply State.recovered_frame
    | with_reducible apply r_AXIS_AX_BD_EANGLE | (intro x; clear_value x) | with_reducible apply Frame.ite

theorem execFacetPeriodGathered_frame {sB : State} (a : Fin 24) (s : State) (hB : Frame F R sB s) (f_fresh : F .fresh)
    (f_out : F .out) (f_host : F .host) (f_ledg : F .ledg) (f_pace : F .pace) (f_flt : F .flt) (f_hwd : F .hwd)
    (f_burl : F .burl) (f_scan : F .scan) (f_step : F .step) (f_axis : F .axis) (f_leg : F .leg)
    (r_AXIS_AX_BD_EANGLE : ∀ i, R (Reg.AXIS_AX_BD_EANGLE i)) (r_AXIS_AX_COUNTS : ∀ i, R (Reg.AXIS_AX_COUNTS i))
    (r_AXIS_AX_FAULT : ∀ i, R (Reg.AXIS_AX_FAULT i)) (r_AXIS_EVENTS : R Reg.AXIS_EVENTS) (r_HOST_ERR : R Reg.HOST_ERR)
    (r_LEDG_BH_STATUS : R Reg.LEDG_BH_STATUS) (r_LEDG_COUNT_JAM : R Reg.LEDG_COUNT_JAM)
    (r_LEDG_EVENTS : R Reg.LEDG_EVENTS) (r_LEDG_PACE_EVENTS : R Reg.LEDG_PACE_EVENTS)
    (r_LEDG_STATUS : R Reg.LEDG_STATUS) (r_LEG_STATUS : R Reg.LEG_STATUS) :
    FrameO F R sB (execFacetPeriodGathered a s) := by
  delta execFacetPeriodGathered
  repeat' first
    | with_reducible assumption | lift_lets
    | (intro x; refine (fun (hx : Frame F R sB x) => ?_) ?_ <;> [clear_value x; subst x])
    | with_reducible apply FrameO.next | with_reducible apply State.takeFacetPeriod_frame | (intro x; clear_value x)
    | split | with_reducible refine Frame.mk' ?_ rfl

theorem State.axisGradeGoal_frame {sB : State} (s : State) (a : Nat) (hB : Frame F R sB s) (f_host : F .host)
    (f_axis : F .axis) (r_AXIS_EVENTS : R Reg.AXIS_EVENTS) :
    Frame F R sB (State.axisGradeGoal s a) := by
  delta State.axisGradeGoal
  repeat' first
    | with_reducible assumption | lift_lets
    | (intro x; refine (fun (hx : Frame F R sB x) => ?_) ?_ <;> [clear_value x; subst x])
    | with_reducible apply State.raiseBit_frame | with_reducible apply State.modSx_frame | (intro x; clear_value x)
    | with_reducible apply Frame.ite | split

theorem State.observe_frame {sB : State} (s : State) (a : Nat) (hB : Frame F R sB s) (f_fresh : F .fresh)
    (f_axis : F .axis) :
    Frame F R sB (State.observe s a) := by
  delta State.observe
  repeat' first
    | with_reducible assumption | lift_lets | with_reducible apply State.drawn_frame
    | with_reducible apply State.modSx_frame | (intro x; clear_value x) | with_reducible apply Frame.ite

theorem State.axisRun_frame {sB : State} (s : State) (a : Nat) (w : Int) (hB : Frame F R sB s) (f_axis : F .axis) :
    Frame F R sB (State.axisRun s a w) := by
  delta State.axisRun
  repeat' first
    | with_reducible assumption | lift_lets | with_reducible apply State.modSx_frame

theorem State.leaveRamp_frame {sB : State} (s : State) (a : Nat) (hB : Frame F R sB s) (f_axis : F .axis) :
    Frame F R sB (State.leaveRamp s a) := by
  delta State.leaveRamp
  repeat' first
    | with_reducible assumption | lift_lets | with_reducible apply State.coastSync_frame
    | with_reducible apply State.enterSpindown_frame | (intro x; clear_value x) | with_reducible apply Frame.ite
    | split

theorem State.axisAfter_frame {sB : State} (s : State) (a : Nat) (hB : Frame F R sB s) (f_fresh : F .fresh)
    (f_out : F .out) (f_host : F .host) (f_ledg : F .ledg) (f_pace : F .pace) (f_flt : F .flt) (f_hwd : F .hwd)
    (f_burl : F .burl) (f_scan : F .scan) (f_step : F .step) (f_axis : F .axis) (f_leg : F .leg)
    (r_AXIS_AX_FAULT : ∀ i, R (Reg.AXIS_AX_FAULT i)) (r_AXIS_EVENTS : R Reg.AXIS_EVENTS) (r_HOST_ERR : R Reg.HOST_ERR)
    (r_LEDG_BH_STATUS : R Reg.LEDG_BH_STATUS) (r_LEDG_COUNT_JAM : R Reg.LEDG_COUNT_JAM)
    (r_LEDG_EVENTS : R Reg.LEDG_EVENTS) (r_LEDG_PACE_EVENTS : R Reg.LEDG_PACE_EVENTS)
    (r_LEDG_STATUS : R Reg.LEDG_STATUS) (r_LEG_STATUS : R Reg.LEG_STATUS) :
    Frame F R sB (State.axisAfter s a) := by
  delta State.axisAfter
  repeat' first
    | with_reducible assumption | lift_lets | with_reducible apply State.modSx_frame
    | with_reducible apply State.axisFault_frame | with_reducible apply State.enterSpindown_frame
    | with_reducible apply State.enterStart_frame | with_reducible apply State.axisIdle_frame
    | with_reducible apply State.startFail_frame | with_reducible apply State.leaveRamp_frame
    | (intro x; clear_value x) | with_reducible apply Frame.ite | split

theorem State.pwmSlot_frame {sB : State} (s : State) (a : Nat) (hB : Frame F R sB s) (f_fresh : F .fresh)
    (f_axis : F .axis) :
    Frame F R sB (State.pwmSlot s a) := by
  delta State.pwmSlot
  repeat' first
    | with_reducible assumption | lift_lets | with_reducible apply State.drawn_frame
    | with_reducible apply State.modSx_frame | with_reducible apply Frame.ite

theorem State.idleSlot_frame {sB : State} (s : State) (a : Nat) (slot : List Byte) (hB : Frame F R sB s)
    (f_axis : F .axis) :
    Frame F R sB (State.idleSlot s a slot) := by
  delta State.idleSlot
  repeat' first
    | with_reducible assumption | with_reducible apply State.modSx_frame

theorem State.axisSlot_frame {sB : State} (s : State) (a : Nat) (hB : Frame F R sB s) (f_fresh : F .fresh)
    (f_axis : F .axis) :
    Frame F R sB (State.axisSlot s a) := by
  delta State.axisSlot
  repeat' first
    | with_reducible assumption | lift_lets | with_reducible apply State.modSx_frame
    | with_reducible apply State.pwmSlot_frame | with_reducible apply State.idleSlot_frame | (intro x; clear_value x)
    | with_reducible apply Frame.ite

theorem State.focStep_frame {sB : State} (s : State) (a : Nat) (hB : Frame F R sB s) (f_fresh : F .fresh)
    (f_out : F .out) (f_host : F .host) (f_ledg : F .ledg) (f_pace : F .pace) (f_flt : F .flt) (f_hwd : F .hwd)
    (f_burl : F .burl) (f_scan : F .scan) (f_step : F .step) (f_axis : F .axis) (f_leg : F .leg)
    (r_AXIS_AX_FAULT : ∀ i, R (Reg.AXIS_AX_FAULT i)) (r_AXIS_EVENTS : R Reg.AXIS_EVENTS) (r_HOST_ERR : R Reg.HOST_ERR)
    (r_LEDG_BH_STATUS : R Reg.LEDG_BH_STATUS) (r_LEDG_COUNT_JAM : R Reg.LEDG_COUNT_JAM)
    (r_LEDG_EVENTS : R Reg.LEDG_EVENTS) (r_LEDG_PACE_EVENTS : R Reg.LEDG_PACE_EVENTS)
    (r_LEDG_STATUS : R Reg.LEDG_STATUS) (r_LEG_STATUS : R Reg.LEG_STATUS) :
    Frame F R sB (State.focStep s a) := by
  delta State.focStep
  repeat' first
    | with_reducible assumption | lift_lets
    | (intro x; refine (fun (hx : Frame F R sB x) => ?_) ?_ <;> [clear_value x; subst x])
    | with_reducible apply State.axisGradeGoal_frame | with_reducible apply State.observe_frame
    | with_reducible apply State.axisRun_frame | with_reducible apply State.axisAfter_frame
    | with_reducible apply State.axisSlot_frame

theorem State.axisBegin_frame {sB : State} (s : State) (hB : Frame F R sB s) (f_axis : F .axis) :
    Frame F R sB (State.axisBegin s) := by
  delta State.axisBegin
  repeat' first
    | with_reducible assumption | lift_lets | (intro x; clear_value x) | with_reducible refine Frame.mk' ?_ rfl

theorem State.axisEnd_frame {sB : State} (s : State) (hB : Frame F R sB s) (f_axis : F .axis) :
    Frame F R sB (State.axisEnd s) := by
  delta State.axisEnd
  repeat' first
    | with_reducible assumption | lift_lets | (intro x; clear_value x) | with_reducible refine Frame.mk' ?_ rfl

theorem State.safeAxes_frame {sB : State} (s : State) (hB : Frame F R sB s) (f_axis : F .axis) :
    Frame F R sB (State.safeAxes s) := by
  delta State.safeAxes
  repeat' first
    | with_reducible assumption | intro (u : State) (hu : Frame F R sB u) | lift_lets
    | with_reducible apply State.upTo_frame | with_reducible apply State.modSx_frame
    | with_reducible apply State.brakeSync_frame | with_reducible apply State.coastSync_frame | intro _ | split

theorem State.axisLinkOut_frame {sB : State} (s : State) (k : Nat) (hB : Frame F R sB s) (f_out : F .out) :
    Frame F R sB (State.axisLinkOut s k) := by
  delta State.axisLinkOut
  repeat' first
    | with_reducible assumption | lift_lets | with_reducible apply State.emit_frame | with_reducible apply Frame.ite

/-! ### Loop -/

theorem State.switchLoop_frame {sB : State} (s : State) (l : Nat) (on : Bool) (hB : Frame F R sB s) (f_loop : F .loop)
    (r_LOOP_LP_DUTY : ∀ i, R (Reg.LOOP_LP_DUTY i)) (r_LOOP_LP_STATE : ∀ i, R (Reg.LOOP_LP_STATE i)) :
    Frame F R sB (State.switchLoop s l on) := by
  delta State.switchLoop
  repeat' first
    | with_reducible assumption | lift_lets
    | (intro x; refine (fun (hx : Frame F R sB x) => ?_) ?_ <;> [clear_value x; subst x])
    | with_reducible apply State.setFlag_frame | with_reducible apply State.bump_frame
    | with_reducible apply State.modLp_frame | with_reducible apply r_LOOP_LP_DUTY
    | with_reducible apply r_LOOP_LP_STATE | (intro x; clear_value x) | with_reducible apply Frame.ite

theorem State.endLoop_frame {sB : State} (s : State) (l mode : Nat) (hB : Frame F R sB s) (f_loop : F .loop)
    (r_LOOP_LP_DUTY : ∀ i, R (Reg.LOOP_LP_DUTY i)) (r_LOOP_LP_STATE : ∀ i, R (Reg.LOOP_LP_STATE i)) :
    Frame F R sB (State.endLoop s l mode) := by
  delta State.endLoop
  repeat' first
    | with_reducible assumption | lift_lets
    | (intro x; refine (fun (hx : Frame F R sB x) => ?_) ?_ <;> [clear_value x; subst x])
    | with_reducible apply State.setFld_frame | with_reducible apply State.modLp_frame
    | with_reducible apply State.switchLoop_frame | with_reducible apply r_LOOP_LP_STATE

theorem State.loopFault_frame {sB : State} (s : State) (l kind detail bits : Nat) (hB : Frame F R sB s)
    (f_host : F .host) (f_flt : F .flt) (f_hwd : F .hwd) (f_loop : F .loop) (f_leg : F .leg)
    (r_LEG_STATUS : R Reg.LEG_STATUS) (r_LOOP_EVENTS : R Reg.LOOP_EVENTS)
    (r_LOOP_LP_DUTY : ∀ i, R (Reg.LOOP_LP_DUTY i)) (r_LOOP_LP_FAULT : ∀ i, R (Reg.LOOP_LP_FAULT i))
    (r_LOOP_LP_STATE : ∀ i, R (Reg.LOOP_LP_STATE i)) :
    Frame F R sB (State.loopFault s l kind detail bits) := by
  delta State.loopFault
  repeat' first
    | with_reducible assumption | lift_lets | with_reducible apply State.wrN_frame
    | with_reducible apply State.fault_frame | with_reducible apply State.event_frame
    | with_reducible apply State.raiseBit_frame | with_reducible apply State.legPost_frame
    | with_reducible apply State.endLoop_frame | with_reducible apply r_LOOP_LP_FAULT

theorem State.setHvLink_frame {sB : State} (s : State) (k new cause : Nat) (hB : Frame F R sB s) (f_host : F .host)
    (f_hwd : F .hwd) (f_loop : F .loop) (r_LOOP_EVENTS : R Reg.LOOP_EVENTS)
    (r_LOOP_LINK_STATE : ∀ i, R (Reg.LOOP_LINK_STATE i)) :
    Frame F R sB (State.setHvLink s k new cause) := by
  delta State.setHvLink
  repeat' first
    | with_reducible assumption | lift_lets | with_reducible apply State.setFld_frame
    | with_reducible apply State.event_frame | with_reducible apply State.raiseBit_frame
    | with_reducible apply r_LOOP_LINK_STATE | split | with_reducible refine Frame.mk' ?_ rfl

theorem State.hvLinkFaults_frame {sB : State} (s : State) (k : Nat) (hB : Frame F R sB s) (f_host : F .host)
    (f_flt : F .flt) (f_hwd : F .hwd) (f_loop : F .loop) (f_leg : F .leg) (r_LEG_STATUS : R Reg.LEG_STATUS)
    (r_LOOP_EVENTS : R Reg.LOOP_EVENTS) (r_LOOP_LP_DUTY : ∀ i, R (Reg.LOOP_LP_DUTY i))
    (r_LOOP_LP_FAULT : ∀ i, R (Reg.LOOP_LP_FAULT i)) (r_LOOP_LP_STATE : ∀ i, R (Reg.LOOP_LP_STATE i)) :
    Frame F R sB (State.hvLinkFaults s k) := by
  delta State.hvLinkFaults
  repeat' first
    | with_reducible assumption | intro (u : State) (hu : Frame F R sB u) | lift_lets
    | with_reducible apply State.fault_frame | with_reducible apply State.loopFault_frame
    | with_reducible apply Frame.foldl | intro _

theorem State.loseHvLink_frame {sB : State} (s : State) (k cause : Nat) (hB : Frame F R sB s) (f_host : F .host)
    (f_flt : F .flt) (f_hwd : F .hwd) (f_loop : F .loop) (f_leg : F .leg) (r_LEG_STATUS : R Reg.LEG_STATUS)
    (r_LOOP_EVENTS : R Reg.LOOP_EVENTS) (r_LOOP_LINK_STATE : ∀ i, R (Reg.LOOP_LINK_STATE i))
    (r_LOOP_LP_DUTY : ∀ i, R (Reg.LOOP_LP_DUTY i)) (r_LOOP_LP_FAULT : ∀ i, R (Reg.LOOP_LP_FAULT i))
    (r_LOOP_LP_STATE : ∀ i, R (Reg.LOOP_LP_STATE i)) :
    Frame F R sB (State.loseHvLink s k cause) := by
  delta State.loseHvLink
  repeat' first
    | with_reducible assumption | lift_lets | with_reducible apply State.setHvLink_frame
    | with_reducible apply State.hvLinkFaults_frame | with_reducible apply Frame.ite

theorem State.downHvLink_frame {sB : State} (s : State) (k : Nat) (hB : Frame F R sB s) (f_host : F .host)
    (f_flt : F .flt) (f_hwd : F .hwd) (f_loop : F .loop) (f_leg : F .leg) (r_LEG_STATUS : R Reg.LEG_STATUS)
    (r_LOOP_EVENTS : R Reg.LOOP_EVENTS) (r_LOOP_LINK_STATE : ∀ i, R (Reg.LOOP_LINK_STATE i))
    (r_LOOP_LP_DUTY : ∀ i, R (Reg.LOOP_LP_DUTY i)) (r_LOOP_LP_FAULT : ∀ i, R (Reg.LOOP_LP_FAULT i))
    (r_LOOP_LP_STATE : ∀ i, R (Reg.LOOP_LP_STATE i)) :
    Frame F R sB (State.downHvLink s k) := by
  delta State.downHvLink
  repeat' first
    | with_reducible assumption | lift_lets | with_reducible apply State.setHvLink_frame
    | with_reducible apply State.hvLinkFaults_frame | with_reducible apply Frame.ite

theorem State.loopReading_frame {sB : State} (s : State) (l x : Nat) (hB : Frame F R sB s) (f_host : F .host)
    (f_flt : F .flt) (f_hwd : F .hwd) (f_loop : F .loop) (f_leg : F .leg) (r_LEG_STATUS : R Reg.LEG_STATUS)
    (r_LOOP_EVENTS : R Reg.LOOP_EVENTS) (r_LOOP_LP_DUTY : ∀ i, R (Reg.LOOP_LP_DUTY i))
    (r_LOOP_LP_FAULT : ∀ i, R (Reg.LOOP_LP_FAULT i)) (r_LOOP_LP_STATE : ∀ i, R (Reg.LOOP_LP_STATE i)) :
    Frame F R sB (State.loopReading s l x) := by
  delta State.loopReading
  repeat' first
    | with_reducible assumption | lift_lets
    | (intro x; refine (fun (hx : Frame F R sB x) => ?_) ?_ <;> [clear_value x; subst x])
    | with_reducible apply State.modLp_frame | with_reducible apply State.loopFault_frame | (intro x; clear_value x)
    | with_reducible apply Frame.ite

theorem State.hvSlot_frame {sB : State} (s : State) (k node : Nat) (r : HvSlot) (hB : Frame F R sB s)
    (f_host : F .host) (f_flt : F .flt) (f_hwd : F .hwd) (f_loop : F .loop) (f_leg : F .leg)
    (r_LEG_STATUS : R Reg.LEG_STATUS) (r_LOOP_EVENTS : R Reg.LOOP_EVENTS)
    (r_LOOP_LP_DUTY : ∀ i, R (Reg.LOOP_LP_DUTY i)) (r_LOOP_LP_FAULT : ∀ i, R (Reg.LOOP_LP_FAULT i))
    (r_LOOP_LP_STATE : ∀ i, R (Reg.LOOP_LP_STATE i)) :
    Frame F R sB (State.hvSlot s k node r) := by
  delta State.hvSlot
  repeat' first
    | with_reducible assumption | intro (u : State) (hu : Frame F R sB u) | lift_lets
    | with_reducible apply State.event_frame | with_reducible apply State.raiseBit_frame
    | with_reducible apply State.loopFault_frame | with_reducible apply State.loopReading_frame
    | with_reducible apply Frame.foldl | (intro x; clear_value x) | intro _ | with_reducible apply Frame.ite

theorem State.gatherHvFrame_frame {sB : State} (s : State) (k : Nat) (f : HvFrame) (hB : Frame F R sB s)
    (f_loop : F .loop) (r_LOOP_LINK_STATE : ∀ i, R (Reg.LOOP_LINK_STATE i)) :
    Frame F R sB (State.gatherHvFrame s k f) := by
  delta State.gatherHvFrame
  repeat' first
    | with_reducible assumption | lift_lets
    | (intro x; refine (fun (hx : Frame F R sB x) => ?_) ?_ <;> [clear_value x; subst x])
    | with_reducible apply State.setFld_frame | with_reducible apply r_LOOP_LINK_STATE | (intro x; clear_value x)
    | with_reducible apply Frame.ite | with_reducible refine Frame.mk' ?_ rfl

theorem State.hvFrameDecide_frame {sB : State} (s : State) (k : Nat) (f : HvFrame) (hB : Frame F R sB s)
    (f_host : F .host) (f_flt : F .flt) (f_hwd : F .hwd) (f_loop : F .loop) (f_leg : F .leg)
    (r_LEG_STATUS : R Reg.LEG_STATUS) (r_LOOP_EVENTS : R Reg.LOOP_EVENTS)
    (r_LOOP_LINK_STATE : ∀ i, R (Reg.LOOP_LINK_STATE i)) (r_LOOP_LP_DUTY : ∀ i, R (Reg.LOOP_LP_DUTY i))
    (r_LOOP_LP_FAULT : ∀ i, R (Reg.LOOP_LP_FAULT i)) (r_LOOP_LP_STATE : ∀ i, R (Reg.LOOP_LP_STATE i)) :
    Frame F R sB (State.hvFrameDecide s k f) := by
  delta State.hvFrameDecide
  repeat' first
    | with_reducible assumption | intro (u : State) (hu : Frame F R sB u) | lift_lets
    | with_reducible apply State.loseHvLink_frame | with_reducible apply State.hvSlot_frame
    | with_reducible apply Frame.foldl | (intro x; clear_value x) | intro _ | with_reducible apply Frame.ite

theorem State.hvReturns_frame {sB : State} (s : State) (hB : Frame F R sB s) (f_host : F .host) (f_flt : F .flt)
    (f_hwd : F .hwd) (f_loop : F .loop) (f_leg : F .leg) (r_LEG_STATUS : R Reg.LEG_STATUS)
    (r_LOOP_EVENTS : R Reg.LOOP_EVENTS) (r_LOOP_LINK_STATE : ∀ i, R (Reg.LOOP_LINK_STATE i))
    (r_LOOP_LP_DUTY : ∀ i, R (Reg.LOOP_LP_DUTY i)) (r_LOOP_LP_FAULT : ∀ i, R (Reg.LOOP_LP_FAULT i))
    (r_LOOP_LP_STATE : ∀ i, R (Reg.LOOP_LP_STATE i)) :
    Frame F R sB (State.hvReturns s) := by
  delta State.hvReturns
  repeat' first
    | with_reducible assumption | intro (u : State) (hu : Frame F R sB u) | lift_lets
    | with_reducible apply State.hvFrameDecide_frame | with_reducible apply Frame.foldl | intro _
    | with_reducible refine Frame.mk' ?_ rfl

theorem execHvFrameReturn_frame {sB : State} (k : Fin 2) (bs : List Byte) (s : State) (hB : Frame F R sB s)
    (f_loop : F .loop) (r_LOOP_LINK_STATE : ∀ i, R (Reg.LOOP_LINK_STATE i)) :
    FrameO F R sB (execHvFrameReturn k bs s) := by
  delta execHvFrameReturn
  repeat' first
    | with_reducible assumption | lift_lets | with_reducible apply FrameO.next
    | with_reducible apply State.gatherHvFrame_frame | (intro x; clear_value x) | with_reducible apply FrameO.ite
    | with_reducible refine Frame.mk' ?_ rfl

theorem State.hvLinkIn_frame {sB : State} (s : State) (k : Nat) (hB : Frame F R sB s) (f_loop : F .loop)
    (r_LOOP_LINK_STATE : ∀ i, R (Reg.LOOP_LINK_STATE i)) :
    Frame F R sB (State.hvLinkIn s k) := by
  delta State.hvLinkIn
  repeat' first
    | with_reducible assumption | lift_lets | with_reducible apply State.gatherHvFrame_frame
    | (intro x; clear_value x) | intro _ | with_reducible apply Frame.ite | split
    | with_reducible refine Frame.mk' ?_ rfl

theorem State.loopCommand_frame {sB : State} (s : State) (l : Nat) (checks : List (Bool × Nat)) (f : State → State)
    (hf : ∀ u, Frame F R sB u → Frame F R sB (f u)) (hB : Frame F R sB s) (f_host : F .host)
    (r_LOOP_EVENTS : R Reg.LOOP_EVENTS) (r_LOOP_LP_RESULT : ∀ i, R (Reg.LOOP_LP_RESULT i)) :
    Frame F R sB (State.loopCommand s l checks f) := by
  delta State.loopCommand
  repeat' first
    | with_reducible assumption | lift_lets | with_reducible apply State.wrN_frame
    | with_reducible apply State.raiseBit_frame | with_reducible apply hf | with_reducible apply r_LOOP_LP_RESULT
    | split

theorem State.loopEnable_frame {sB : State} (s : State) (l : Nat) (hB : Frame F R sB s) (f_host : F .host)
    (f_loop : F .loop) (r_LOOP_EVENTS : R Reg.LOOP_EVENTS) (r_LOOP_LP_RESULT : ∀ i, R (Reg.LOOP_LP_RESULT i))
    (r_LOOP_LP_STATE : ∀ i, R (Reg.LOOP_LP_STATE i)) :
    Frame F R sB (State.loopEnable s l) := by
  delta State.loopEnable
  repeat' first
    | with_reducible assumption | intro (u : State) (hu : Frame F R sB u) | lift_lets
    | with_reducible apply State.setFld_frame | with_reducible apply State.modLp_frame
    | with_reducible apply State.loopCommand_frame | with_reducible apply r_LOOP_LP_STATE

theorem State.loopDisable_frame {sB : State} (s : State) (l : Nat) (hB : Frame F R sB s) (f_host : F .host)
    (f_loop : F .loop) (r_LOOP_EVENTS : R Reg.LOOP_EVENTS) (r_LOOP_LP_DUTY : ∀ i, R (Reg.LOOP_LP_DUTY i))
    (r_LOOP_LP_RESULT : ∀ i, R (Reg.LOOP_LP_RESULT i)) (r_LOOP_LP_STATE : ∀ i, R (Reg.LOOP_LP_STATE i)) :
    Frame F R sB (State.loopDisable s l) := by
  delta State.loopDisable
  repeat' first
    | with_reducible assumption | intro (u : State) (hu : Frame F R sB u) | lift_lets
    | with_reducible apply State.endLoop_frame | with_reducible apply State.loopCommand_frame

theorem State.loopClear_frame {sB : State} (s : State) (l : Nat) (hB : Frame F R sB s) (f_host : F .host)
    (r_LOOP_EVENTS : R Reg.LOOP_EVENTS) (r_LOOP_LP_RESULT : ∀ i, R (Reg.LOOP_LP_RESULT i))
    (r_LOOP_LP_STATE : ∀ i, R (Reg.LOOP_LP_STATE i)) :
    Frame F R sB (State.loopClear s l) := by
  delta State.loopClear
  repeat' first
    | with_reducible assumption | intro (u : State) (hu : Frame F R sB u) | lift_lets
    | with_reducible apply State.setFld_frame | with_reducible apply State.loopCommand_frame
    | with_reducible apply r_LOOP_LP_STATE

theorem State.learnClear_frame {sB : State} (s : State) (l : Nat) (hB : Frame F R sB s) (f_sram : F .sram)
    (f_host : F .host) (f_hwd : F .hwd) (r_LOOP_EVENTS : R Reg.LOOP_EVENTS)
    (r_LOOP_LP_RESULT : ∀ i, R (Reg.LOOP_LP_RESULT i)) :
    Frame F R sB (State.learnClear s l) := by
  delta State.learnClear
  repeat' first
    | with_reducible assumption | intro (u : State) (hu : Frame F R sB u) | lift_lets
    | with_reducible apply State.event_frame | with_reducible apply State.loopCommand_frame | refine Frame.mem ?_ rfl

theorem effLoopEnable_frame {sB : State} (l : Fin 64) (s : State) (hB : Frame F R sB s) (f_host : F .host)
    (f_loop : F .loop) (r_LOOP_EVENTS : R Reg.LOOP_EVENTS) (r_LOOP_LP_RESULT : ∀ i, R (Reg.LOOP_LP_RESULT i))
    (r_LOOP_LP_STATE : ∀ i, R (Reg.LOOP_LP_STATE i)) :
    FrameO F R sB (effLoopEnable l s) := by
  delta effLoopEnable
  repeat' first
    | with_reducible assumption | lift_lets | with_reducible apply FrameO.next
    | with_reducible apply State.loopEnable_frame

theorem effLoopDisable_frame {sB : State} (l : Fin 64) (s : State) (hB : Frame F R sB s) (f_host : F .host)
    (f_loop : F .loop) (r_LOOP_EVENTS : R Reg.LOOP_EVENTS) (r_LOOP_LP_DUTY : ∀ i, R (Reg.LOOP_LP_DUTY i))
    (r_LOOP_LP_RESULT : ∀ i, R (Reg.LOOP_LP_RESULT i)) (r_LOOP_LP_STATE : ∀ i, R (Reg.LOOP_LP_STATE i)) :
    FrameO F R sB (effLoopDisable l s) := by
  delta effLoopDisable
  repeat' first
    | with_reducible assumption | lift_lets | with_reducible apply FrameO.next
    | with_reducible apply State.loopDisable_frame

theorem effLoopClear_frame {sB : State} (l : Fin 64) (s : State) (hB : Frame F R sB s) (f_host : F .host)
    (r_LOOP_EVENTS : R Reg.LOOP_EVENTS) (r_LOOP_LP_RESULT : ∀ i, R (Reg.LOOP_LP_RESULT i))
    (r_LOOP_LP_STATE : ∀ i, R (Reg.LOOP_LP_STATE i)) :
    FrameO F R sB (effLoopClear l s) := by
  delta effLoopClear
  repeat' first
    | with_reducible assumption | lift_lets | with_reducible apply FrameO.next
    | with_reducible apply State.loopClear_frame

theorem effLearnClear_frame {sB : State} (l : Fin 64) (s : State) (hB : Frame F R sB s) (f_sram : F .sram)
    (f_host : F .host) (f_hwd : F .hwd) (r_LOOP_EVENTS : R Reg.LOOP_EVENTS)
    (r_LOOP_LP_RESULT : ∀ i, R (Reg.LOOP_LP_RESULT i)) :
    FrameO F R sB (effLearnClear l s) := by
  delta effLearnClear
  repeat' first
    | with_reducible assumption | lift_lets | with_reducible apply FrameO.next
    | with_reducible apply State.learnClear_frame

theorem State.writeSetpoint_frame {sB : State} (s : State) (l v : Nat) (hB : Frame F R sB s) (f_loop : F .loop)
    (r_LOOP_LP_SETPOINT : ∀ i, R (Reg.LOOP_LP_SETPOINT i)) :
    Frame F R sB (State.writeSetpoint s l v) := by
  delta State.writeSetpoint
  repeat' first
    | with_reducible assumption | lift_lets
    | (intro x; refine (fun (hx : Frame F R sB x) => ?_) ?_ <;> [clear_value x; subst x])
    | with_reducible apply State.wrN_frame | with_reducible apply State.modLp_frame
    | with_reducible apply r_LOOP_LP_SETPOINT | with_reducible apply Frame.ite

theorem State.loopBegin_frame {sB : State} (s : State) (hB : Frame F R sB s) (f_loop : F .loop) :
    Frame F R sB (State.loopBegin s) := by
  delta State.loopBegin
  repeat' first
    | with_reducible assumption | intro (u : State) (hu : Frame F R sB u) | lift_lets
    | with_reducible apply State.upTo_frame | with_reducible apply State.modLp_frame | intro _

theorem State.learn_frame {sB : State} (s : State) (l : Nat) (x : Int) (hB : Frame F R sB s) (f_sram : F .sram) :
    Frame F R sB (State.learn s l x) := by
  delta State.learn
  repeat' first
    | with_reducible assumption | lift_lets | (intro x; clear_value x) | refine Frame.mem ?_ rfl

theorem State.saturate_frame {sB : State} (s : State) (l : Nat) (w : Bool × Bool) (hB : Frame F R sB s)
    (f_host : F .host) (f_flt : F .flt) (f_hwd : F .hwd) (f_loop : F .loop) (f_leg : F .leg)
    (r_LEG_STATUS : R Reg.LEG_STATUS) (r_LOOP_EVENTS : R Reg.LOOP_EVENTS)
    (r_LOOP_LP_DUTY : ∀ i, R (Reg.LOOP_LP_DUTY i)) (r_LOOP_LP_FAULT : ∀ i, R (Reg.LOOP_LP_FAULT i))
    (r_LOOP_LP_STATE : ∀ i, R (Reg.LOOP_LP_STATE i)) :
    Frame F R sB (State.saturate s l w) := by
  delta State.saturate
  repeat' first
    | with_reducible assumption | lift_lets
    | (intro x; refine (fun (hx : Frame F R sB x) => ?_) ?_ <;> [clear_value x; subst x])
    | with_reducible apply State.modLp_frame | with_reducible apply State.loopFault_frame | (intro x; clear_value x)
    | with_reducible apply Frame.ite

theorem State.loopStep_frame {sB : State} (s : State) (l : Nat) (hB : Frame F R sB s) (f_sram : F .sram)
    (f_host : F .host) (f_flt : F .flt) (f_hwd : F .hwd) (f_loop : F .loop) (f_leg : F .leg)
    (r_LEG_STATUS : R Reg.LEG_STATUS) (r_LOOP_EVENTS : R Reg.LOOP_EVENTS)
    (r_LOOP_LP_DUTY : ∀ i, R (Reg.LOOP_LP_DUTY i)) (r_LOOP_LP_FAULT : ∀ i, R (Reg.LOOP_LP_FAULT i))
    (r_LOOP_LP_STATE : ∀ i, R (Reg.LOOP_LP_STATE i)) (r_LOOP_LP_STATUS : ∀ i, R (Reg.LOOP_LP_STATUS i)) :
    Frame F R sB (State.loopStep s l) := by
  delta State.loopStep
  repeat' first
    | with_reducible assumption | lift_lets
    | (intro x; refine (fun (hx : Frame F R sB x) => ?_) ?_ <;> [clear_value x; subst x])
    | with_reducible apply State.wrN_frame | with_reducible apply State.setFld_frame
    | with_reducible apply State.switchLoop_frame | with_reducible apply State.learn_frame
    | with_reducible apply State.saturate_frame | with_reducible apply r_LOOP_LP_STATE
    | with_reducible apply r_LOOP_LP_STATUS | (intro x; clear_value x) | with_reducible apply Frame.ite | split

theorem State.loopEnd_frame {sB : State} (s : State) (hB : Frame F R sB s) (f_loop : F .loop)
    (r_LOOP_LP_STATE : ∀ i, R (Reg.LOOP_LP_STATE i)) :
    Frame F R sB (State.loopEnd s) := by
  delta State.loopEnd
  repeat' first
    | with_reducible assumption | intro (u : State) (hu : Frame F R sB u) | lift_lets
    | with_reducible apply State.setFlag_frame | with_reducible apply State.upTo_frame
    | with_reducible apply State.modLp_frame | with_reducible apply r_LOOP_LP_STATE | intro _
    | with_reducible apply Frame.ite

theorem State.hvLinkOut_frame {sB : State} (s : State) (k : Nat) (hB : Frame F R sB s) (f_out : F .out) :
    Frame F R sB (State.hvLinkOut s k) := by
  delta State.hvLinkOut
  repeat' first
    | with_reducible assumption | lift_lets | with_reducible apply State.emit_frame | (intro x; clear_value x)
    | with_reducible apply Frame.ite

theorem State.safeLoops_frame {sB : State} (s : State) (entered : Nat) (hB : Frame F R sB s) (f_host : F .host)
    (f_hwd : F .hwd) (f_loop : F .loop) (r_LOOP_EVENTS : R Reg.LOOP_EVENTS)
    (r_LOOP_LP_DUTY : ∀ i, R (Reg.LOOP_LP_DUTY i)) (r_LOOP_LP_STATE : ∀ i, R (Reg.LOOP_LP_STATE i)) :
    Frame F R sB (State.safeLoops s entered) := by
  delta State.safeLoops
  repeat' first
    | with_reducible assumption | intro (u : State) (hu : Frame F R sB u) | lift_lets
    | (intro x; refine (fun (hx : Frame F R sB x) => ?_) ?_ <;> [clear_value x; subst x])
    | with_reducible apply State.event_frame | with_reducible apply State.raiseBit_frame
    | with_reducible apply State.upTo_frame | with_reducible apply State.endLoop_frame | intro _
    | with_reducible apply Frame.ite

end Sys2Proof.Machine
end

