-- ==== Sys2Proof/Laws/FrameImaging.lean ====
section
/-!
SUPPORT. What each operation and each command can change, said once: the operations of ALM, the pacing of LEDG, THM and BEAM. A lemma
`f_frame` names the parts of the state and the registers that `f` can change; all else, the queue of commands and the
fused life-cycle state stay, and the canonical form is kept.
-/

set_option Elab.async false
set_option linter.all false

namespace Sys2Proof.Machine

variable {F : Blk → Prop} {R : Nat → Prop}

/-! ### Almanac -/

theorem State.almResult_frame {sB : State} (s : State) (v : Nat) (hB : Frame F R sB s) (f_host : F .host)
    (r_ALM_EVENTS : R Reg.ALM_EVENTS) (r_ALM_REQ_RESULT : R Reg.ALM_REQ_RESULT) :
    Frame F R sB (State.almResult s v) := by
  delta State.almResult
  repeat' first
    | with_reducible assumption | lift_lets
    | (intro x; refine (fun (hx : Frame F R sB x) => ?_) ?_ <;> [clear_value x; subst x])
    | with_reducible apply State.setFld_frame | with_reducible apply State.raiseBit_frame
    | with_reducible apply Frame.ite

theorem State.setSb_frame {sB : State} (s : State) (st : Nat) (code : Nat) (hB : Frame F R sB s)
    (r_ALM_SB_STATE : R Reg.ALM_SB_STATE) :
    Frame F R sB (State.setSb s st code) := by
  delta State.setSb
  repeat' first
    | with_reducible assumption | with_reducible apply State.wrN_frame

theorem State.showStandby_frame {sB : State} (s : State) (hB : Frame F R sB s)
    (r_ALM_SB_BUILD_ID : R Reg.ALM_SB_BUILD_ID) (r_ALM_SB_ENGINE_ID : R Reg.ALM_SB_ENGINE_ID)
    (r_ALM_SB_MASKS : R Reg.ALM_SB_MASKS) :
    Frame F R sB (State.showStandby s) := by
  delta State.showStandby
  repeat' first
    | with_reducible assumption | lift_lets | with_reducible apply State.wrN_frame

theorem State.almCancelled_frame {sB : State} (s : State) (v : Nat) (hB : Frame F R sB s) (f_host : F .host)
    (f_alm : F .alm) (f_hwd : F .hwd) (r_ALM_EVENTS : R Reg.ALM_EVENTS) (r_ALM_REQ_RESULT : R Reg.ALM_REQ_RESULT)
    (r_ALM_STATUS : R Reg.ALM_STATUS) :
    Frame F R sB (State.almCancelled s v) := by
  delta State.almCancelled
  repeat' first
    | with_reducible assumption | lift_lets | with_reducible apply State.setFlag_frame
    | with_reducible apply State.event_frame | with_reducible apply State.almResult_frame
    | with_reducible refine Frame.mk' ?_ rfl

theorem State.enterLoading_frame {sB : State} (s : State) (hB : Frame F R sB s) (f_host : F .host) (f_alm : F .alm)
    (f_hwd : F .hwd) (r_ALM_EVENTS : R Reg.ALM_EVENTS) (r_ALM_REQ_RESULT : R Reg.ALM_REQ_RESULT)
    (r_ALM_SB_STATE : R Reg.ALM_SB_STATE) (r_ALM_STATUS : R Reg.ALM_STATUS) :
    Frame F R sB (State.enterLoading s) := by
  delta State.enterLoading
  repeat' first
    | with_reducible assumption | lift_lets
    | (intro x; refine (fun (hx : Frame F R sB x) => ?_) ?_ <;> [skip; subst x])
    | with_reducible apply State.setSb_frame | with_reducible apply State.almCancelled_frame | intro (x : AlmBlk)
    | intro _ | with_reducible apply Frame.ite | refine Frame.mk' ?_ rfl

theorem State.writeStandby_frame {sB : State} (s : State) (o : Nat) (bs : List Byte) (hB : Frame F R sB s)
    (f_alm : F .alm) :
    Frame F R sB (State.writeStandby s o bs) := by
  delta State.writeStandby
  repeat' first
    | with_reducible assumption | refine Frame.mem ?_ rfl

theorem State.markPiece_frame {sB : State} (s : State) (p : Nat) (hB : Frame F R sB s) (f_alm : F .alm) :
    Frame F R sB (State.markPiece s p) := by
  delta State.markPiece
  repeat' first
    | with_reducible assumption | lift_lets | intro (x : AlmBlk) | with_reducible refine Frame.mk' ?_ rfl

theorem State.loadPiece_frame {sB : State} (s : State) (p : Nat) (bs : List Byte) (hB : Frame F R sB s)
    (f_host : F .host) (f_alm : F .alm) (f_hwd : F .hwd) (r_ALM_EVENTS : R Reg.ALM_EVENTS)
    (r_ALM_REQ_RESULT : R Reg.ALM_REQ_RESULT) (r_ALM_SB_BUILD_ID : R Reg.ALM_SB_BUILD_ID)
    (r_ALM_SB_ENGINE_ID : R Reg.ALM_SB_ENGINE_ID) (r_ALM_SB_MASKS : R Reg.ALM_SB_MASKS)
    (r_ALM_SB_STATE : R Reg.ALM_SB_STATE) (r_ALM_STATUS : R Reg.ALM_STATUS) :
    Frame F R sB (State.loadPiece s p bs) := by
  delta State.loadPiece
  repeat' first
    | with_reducible assumption | lift_lets | with_reducible apply State.showStandby_frame
    | with_reducible apply State.enterLoading_frame | with_reducible apply State.writeStandby_frame
    | with_reducible apply State.markPiece_frame

theorem State.bar1Almanac_frame {sB : State} (s : State) (o : Nat) (bs : List Byte) (hB : Frame F R sB s)
    (f_host : F .host) (f_alm : F .alm) (f_flt : F .flt) (f_hwd : F .hwd) (r_ALM_EVENTS : R Reg.ALM_EVENTS)
    (r_ALM_REQ_RESULT : R Reg.ALM_REQ_RESULT) (r_ALM_SB_BUILD_ID : R Reg.ALM_SB_BUILD_ID)
    (r_ALM_SB_ENGINE_ID : R Reg.ALM_SB_ENGINE_ID) (r_ALM_SB_MASKS : R Reg.ALM_SB_MASKS)
    (r_ALM_SB_STATE : R Reg.ALM_SB_STATE) (r_ALM_STATUS : R Reg.ALM_STATUS) :
    Frame F R sB (State.bar1Almanac s o bs) := by
  delta State.bar1Almanac
  repeat' first
    | with_reducible assumption | intro (u : State) (hu : Frame F R sB u) | lift_lets
    | with_reducible apply State.fault_frame | with_reducible apply State.showStandby_frame
    | with_reducible apply State.enterLoading_frame | with_reducible apply State.writeStandby_frame
    | with_reducible apply State.markPiece_frame | with_reducible apply Frame.foldl | (intro x; clear_value x)
    | intro _ | with_reducible apply Frame.ite

theorem execAlmanacPiece_frame {sB : State} (s : State) (hB : Frame F R sB s) (f_fresh : F .fresh) (f_host : F .host)
    (f_alm : F .alm) (f_flt : F .flt) (f_hwd : F .hwd) (r_ALM_EVENTS : R Reg.ALM_EVENTS) (r_ALM_REQ_RESULT : R
    Reg.ALM_REQ_RESULT) (r_ALM_SB_BUILD_ID : R Reg.ALM_SB_BUILD_ID) (r_ALM_SB_ENGINE_ID : R Reg.ALM_SB_ENGINE_ID)
    (r_ALM_SB_MASKS : R Reg.ALM_SB_MASKS) (r_ALM_SB_STATE : R Reg.ALM_SB_STATE) (r_ALM_STATUS : R Reg.ALM_STATUS)
    (r_HOST_ERR : R Reg.HOST_ERR) : FrameO F R sB (execAlmanacPiece s) := by
  have h1 : Frame F R sB (s.takeItem 2 25) := by
    repeat' first
      | with_reducible assumption | lift_lets | with_reducible apply FrameO.next
      | with_reducible apply State.fault_frame | with_reducible apply State.complete_frame
      | with_reducible apply State.takeItem_frame | with_reducible apply State.loadPiece_frame
      | with_reducible apply FrameO.ite
  unfold execAlmanacPiece
  split
  · exact FrameO.next hB
  · dsimp only
    generalize s.takeItem 2 25 = t at *
    repeat' first
      | with_reducible assumption | lift_lets | with_reducible apply FrameO.next
      | with_reducible apply State.fault_frame | with_reducible apply State.complete_frame
      | with_reducible apply State.takeItem_frame | with_reducible apply State.loadPiece_frame
      | with_reducible apply FrameO.ite

theorem effCheck_frame {sB : State} (s : State) (hB : Frame F R sB s) (f_host : F .host) (f_alm : F .alm)
    (r_ALM_EVENTS : R Reg.ALM_EVENTS) (r_ALM_REQ_RESULT : R Reg.ALM_REQ_RESULT) (r_ALM_SB_COST : R Reg.ALM_SB_COST)
    (r_ALM_SB_DETAIL : R Reg.ALM_SB_DETAIL) (r_ALM_SB_STATE : R Reg.ALM_SB_STATE) :
    FrameO F R sB (effCheck s) := by
  delta effCheck
  repeat' first
    | with_reducible assumption | lift_lets
    | (intro x; refine (fun (hx : Frame F R sB x) => ?_) ?_ <;> [skip; subst x]) | with_reducible apply FrameO.next
    | with_reducible apply State.wrN_frame | with_reducible apply State.almResult_frame
    | with_reducible apply State.setSb_frame | intro (x : AlmBlk) | with_reducible apply FrameO.ite
    | refine Frame.mk' ?_ rfl

theorem State.refuseBank_frame {sB : State} (s : State) (f : CheckFail) (hB : Frame F R sB s) (f_host : F .host)
    (f_hwd : F .hwd) (r_ALM_EVENTS : R Reg.ALM_EVENTS) (r_ALM_SB_COST : R Reg.ALM_SB_COST)
    (r_ALM_SB_DETAIL : R Reg.ALM_SB_DETAIL) (r_ALM_SB_STATE : R Reg.ALM_SB_STATE) :
    Frame F R sB (State.refuseBank s f) := by
  delta State.refuseBank
  repeat' first
    | with_reducible assumption | lift_lets | with_reducible apply State.wrN_frame
    | with_reducible apply State.event_frame | with_reducible apply State.raise_frame
    | with_reducible apply State.setSb_frame

theorem State.refuseReady_frame {sB : State} (s : State) (piece : Nat) (hB : Frame F R sB s) (f_host : F .host)
    (f_hwd : F .hwd) (r_ALM_EVENTS : R Reg.ALM_EVENTS) (r_ALM_SB_COST : R Reg.ALM_SB_COST)
    (r_ALM_SB_DETAIL : R Reg.ALM_SB_DETAIL) (r_ALM_SB_STATE : R Reg.ALM_SB_STATE) :
    Frame F R sB (State.refuseReady s piece) := by
  delta State.refuseReady
  repeat' first
    | with_reducible assumption | lift_lets | with_reducible apply State.wrN_frame
    | with_reducible apply State.event_frame | with_reducible apply State.raise_frame
    | with_reducible apply State.setSb_frame

theorem effCheckDone_frame {sB : State} (storage : Option (Fin 129)) (s : State) (hB : Frame F R sB s)
    (f_host : F .host) (f_alm : F .alm) (f_hwd : F .hwd) (r_ALM_EVENTS : R Reg.ALM_EVENTS)
    (r_ALM_SB_COST : R Reg.ALM_SB_COST) (r_ALM_SB_DETAIL : R Reg.ALM_SB_DETAIL) (r_ALM_SB_STATE : R Reg.ALM_SB_STATE)
    :
    FrameO F R sB (effCheckDone storage s) := by
  delta effCheckDone
  repeat' first
    | with_reducible assumption | lift_lets
    | (intro x; refine (fun (hx : Frame F R sB x) => ?_) ?_ <;> [clear_value x; subst x])
    | with_reducible apply FrameO.next | with_reducible apply State.event_frame
    | with_reducible apply State.raiseBit_frame | with_reducible apply State.setSb_frame
    | with_reducible apply State.refuseBank_frame | with_reducible apply State.refuseReady_frame | intro (x : AlmBlk)
    | (intro x; clear_value x) | with_reducible apply Frame.ite | with_reducible apply FrameO.ite | split
    | with_reducible refine Frame.mk' ?_ rfl

theorem State.requestSwitch_frame {sB : State} (s : State) (hB : Frame F R sB s) (f_host : F .host) (f_alm : F .alm)
    (f_hwd : F .hwd) (r_ALM_EVENTS : R Reg.ALM_EVENTS) (r_ALM_REQ_RESULT : R Reg.ALM_REQ_RESULT)
    (r_ALM_STATUS : R Reg.ALM_STATUS) :
    Frame F R sB (State.requestSwitch s) := by
  delta State.requestSwitch
  repeat' first
    | with_reducible assumption | lift_lets | with_reducible apply State.setFlag_frame
    | with_reducible apply State.event_frame | with_reducible apply State.almResult_frame | intro (x : AlmBlk)
    | (intro x; clear_value x) | with_reducible apply Frame.ite | split | with_reducible refine Frame.mk' ?_ rfl

theorem effSwitch_frame {sB : State} (s : State) (hB : Frame F R sB s) (f_host : F .host) (f_alm : F .alm)
    (f_hwd : F .hwd) (r_ALM_EVENTS : R Reg.ALM_EVENTS) (r_ALM_REQ_RESULT : R Reg.ALM_REQ_RESULT)
    (r_ALM_STATUS : R Reg.ALM_STATUS) :
    FrameO F R sB (effSwitch s) := by
  delta effSwitch
  repeat' first
    | with_reducible assumption | lift_lets | with_reducible apply FrameO.next
    | with_reducible apply State.requestSwitch_frame

theorem State.planAll_frame {sB : State} (s : State) (bank grade mask : Nat) (hB : Frame F R sB s) (f_alm : F .alm) :
    Frame F R sB (State.planAll s bank grade mask) := by
  delta State.planAll
  repeat' first
    | with_reducible assumption | intro (u : State) (hu : Frame F R sB u) | lift_lets
    | with_reducible apply Frame.foldl | intro _ | with_reducible apply Frame.ite
    | with_reducible refine Frame.mk' ?_ rfl

theorem State.gradeChanged_frame {sB : State} (s : State) (old new : Nat) (hB : Frame F R sB s) (f_host : F .host)
    (f_ledg : F .ledg) (f_pace : F .pace) (f_hwd : F .hwd) (r_ALM_EVENTS : R Reg.ALM_EVENTS)
    (r_ALM_STATUS : R Reg.ALM_STATUS) (r_LEDG_PACE_STATUS : R Reg.LEDG_PACE_STATUS) :
    Frame F R sB (State.gradeChanged s old new) := by
  delta State.gradeChanged
  repeat' first
    | with_reducible assumption | lift_lets
    | (intro x; refine (fun (hx : Frame F R sB x) => ?_) ?_ <;> [clear_value x; subst x])
    | with_reducible apply State.setFld_frame | with_reducible apply State.setFlag_frame
    | with_reducible apply State.event_frame | with_reducible apply State.raiseBit_frame | (intro x; clear_value x)
    | with_reducible apply Frame.ite | split | with_reducible refine Frame.mk' ?_ rfl

theorem effBankSwitch_frame {sB : State} (s : State) (hB : Frame F R sB s) (f_host : F .host) (f_alm : F .alm)
    (f_ledg : F .ledg) (f_pace : F .pace) (f_hwd : F .hwd) (r_ALM_EVENTS : R Reg.ALM_EVENTS)
    (r_ALM_REQ_RESULT : R Reg.ALM_REQ_RESULT) (r_ALM_STATUS : R Reg.ALM_STATUS)
    (r_LEDG_PACE_STATUS : R Reg.LEDG_PACE_STATUS) :
    FrameO F R sB (effBankSwitch s) := by
  delta effBankSwitch
  repeat' first
    | with_reducible assumption | lift_lets
    | (intro x; refine (fun (hx : Frame F R sB x) => ?_) ?_ <;> [clear_value x; subst x])
    | with_reducible apply FrameO.next | with_reducible apply State.setFlag_frame
    | with_reducible apply State.event_frame | with_reducible apply State.raiseBit_frame
    | with_reducible apply State.almResult_frame | with_reducible apply State.planAll_frame
    | with_reducible apply State.gradeChanged_frame | intro (x : AlmBlk) | (intro x; clear_value x)
    | with_reducible apply Frame.ite | with_reducible apply FrameO.ite | with_reducible refine Frame.mk' ?_ rfl

theorem effSwitchLapse_frame {sB : State} (s : State) (hB : Frame F R sB s) (f_host : F .host) (f_alm : F .alm)
    (f_hwd : F .hwd) (r_ALM_EVENTS : R Reg.ALM_EVENTS) (r_ALM_REQ_RESULT : R Reg.ALM_REQ_RESULT)
    (r_ALM_STATUS : R Reg.ALM_STATUS) :
    FrameO F R sB (effSwitchLapse s) := by
  delta effSwitchLapse
  repeat' first
    | with_reducible assumption | lift_lets | with_reducible apply FrameO.next
    | with_reducible apply State.almCancelled_frame | with_reducible apply FrameO.ite | split

theorem effAlmCancel_frame {sB : State} (s : State) (hB : Frame F R sB s) (f_host : F .host) (f_alm : F .alm)
    (f_hwd : F .hwd) (r_ALM_EVENTS : R Reg.ALM_EVENTS) (r_ALM_REQ_RESULT : R Reg.ALM_REQ_RESULT)
    (r_ALM_STATUS : R Reg.ALM_STATUS) :
    FrameO F R sB (effAlmCancel s) := by
  delta effAlmCancel
  repeat' first
    | with_reducible assumption | lift_lets | with_reducible apply FrameO.next
    | with_reducible apply State.almResult_frame | with_reducible apply State.almCancelled_frame
    | with_reducible apply FrameO.ite

theorem State.joinGrade_frame {sB : State} (s : State) (g src : Nat) (hB : Frame F R sB s) (f_alm : F .alm)
    (r_ALM_STATUS : R Reg.ALM_STATUS) :
    Frame F R sB (State.joinGrade s g src) := by
  delta State.joinGrade
  repeat' first
    | with_reducible assumption | lift_lets
    | (intro x; refine (fun (hx : Frame F R sB x) => ?_) ?_ <;> [skip; subst x])
    | with_reducible apply State.setFld_frame | with_reducible apply State.setFlag_frame | intro (x : AlmBlk)
    | with_reducible apply Frame.ite | refine Frame.mk' ?_ rfl

theorem State.joinLater_frame {sB : State} (s : State) (g src : Nat) (hB : Frame F R sB s) (f_alm : F .alm) :
    Frame F R sB (State.joinLater s g src) := by
  delta State.joinLater
  repeat' first
    | with_reducible assumption | lift_lets | intro (x : AlmBlk) | with_reducible apply Frame.ite
    | with_reducible refine Frame.mk' ?_ rfl

theorem State.applyJoins_frame {sB : State} (s : State) (hB : Frame F R sB s) (f_alm : F .alm) (f_pace : F .pace)
    (r_ALM_STATUS : R Reg.ALM_STATUS) :
    Frame F R sB (State.applyJoins s) := by
  delta State.applyJoins
  repeat' first
    | with_reducible assumption | intro (u : State) (hu : Frame F R sB u) | lift_lets
    | (intro x; refine (fun (hx : Frame F R sB x) => ?_) ?_ <;> [clear_value x; subst x])
    | with_reducible apply State.joinGrade_frame | with_reducible apply Frame.foldl | intro (x : AlmBlk) | intro _
    | with_reducible apply Frame.ite | with_reducible refine Frame.mk' ?_ rfl

theorem State.requestGrade_frame {sB : State} (s : State) (g : Nat) (hB : Frame F R sB s) (f_host : F .host)
    (f_alm : F .alm) (r_ALM_EVENTS : R Reg.ALM_EVENTS) (r_ALM_REQ_RESULT : R Reg.ALM_REQ_RESULT)
    (r_ALM_STATUS : R Reg.ALM_STATUS) :
    Frame F R sB (State.requestGrade s g) := by
  delta State.requestGrade
  repeat' first
    | with_reducible assumption | lift_lets
    | (intro x; refine (fun (hx : Frame F R sB x) => ?_) ?_ <;> [skip; subst x])
    | with_reducible apply State.setFld_frame | with_reducible apply State.setFlag_frame
    | with_reducible apply State.almResult_frame | with_reducible apply State.joinGrade_frame | intro (x : AlmBlk)
    | with_reducible apply Frame.ite | refine Frame.mk' ?_ rfl

theorem effGradeRequest_frame {sB : State} (g : Fin 8) (s : State) (hB : Frame F R sB s) (f_host : F .host)
    (f_alm : F .alm) (r_ALM_EVENTS : R Reg.ALM_EVENTS) (r_ALM_REQ_RESULT : R Reg.ALM_REQ_RESULT)
    (r_ALM_STATUS : R Reg.ALM_STATUS) :
    FrameO F R sB (effGradeRequest g s) := by
  delta effGradeRequest
  repeat' first
    | with_reducible assumption | lift_lets | with_reducible apply FrameO.next
    | with_reducible apply State.requestGrade_frame

theorem effGradeChange_frame {sB : State} (s : State) (hB : Frame F R sB s) (f_host : F .host) (f_alm : F .alm)
    (f_ledg : F .ledg) (f_pace : F .pace) (f_hwd : F .hwd) (r_ALM_EVENTS : R Reg.ALM_EVENTS)
    (r_ALM_STATUS : R Reg.ALM_STATUS) (r_LEDG_PACE_STATUS : R Reg.LEDG_PACE_STATUS) :
    FrameO F R sB (effGradeChange s) := by
  delta effGradeChange
  repeat' first
    | with_reducible assumption | lift_lets | with_reducible apply FrameO.next
    | with_reducible apply State.planAll_frame | with_reducible apply State.gradeChanged_frame | intro (x : AlmBlk)
    | (intro x; clear_value x) | with_reducible apply FrameO.ite | split | with_reducible refine Frame.mk' ?_ rfl

theorem State.decideRelease_frame {sB : State} (s : State) (hB : Frame F R sB s) (f_host : F .host) (f_alm : F .alm)
    (f_hwd : F .hwd) (r_ALM_EVENTS : R Reg.ALM_EVENTS) (r_ALM_REQ_RESULT : R Reg.ALM_REQ_RESULT)
    (r_ALM_STATUS : R Reg.ALM_STATUS) :
    Frame F R sB (State.decideRelease s) := by
  delta State.decideRelease
  repeat' first
    | with_reducible assumption | lift_lets | with_reducible apply State.setFlag_frame
    | with_reducible apply State.event_frame | with_reducible apply State.raiseBit_frame
    | with_reducible apply State.almResult_frame | split | with_reducible refine Frame.mk' ?_ rfl

theorem State.requestRelease_frame {sB : State} (s : State) (hB : Frame F R sB s) (f_host : F .host) (f_alm : F .alm)
    (f_hwd : F .hwd) (r_ALM_EVENTS : R Reg.ALM_EVENTS) (r_ALM_REQ_RESULT : R Reg.ALM_REQ_RESULT)
    (r_ALM_STATUS : R Reg.ALM_STATUS) :
    Frame F R sB (State.requestRelease s) := by
  delta State.requestRelease
  repeat' first
    | with_reducible assumption | lift_lets | with_reducible apply State.almResult_frame
    | with_reducible apply State.decideRelease_frame | intro (x : AlmBlk) | with_reducible apply Frame.ite
    | with_reducible refine Frame.mk' ?_ rfl

theorem effRelease_frame {sB : State} (s : State) (hB : Frame F R sB s) (f_host : F .host) (f_alm : F .alm)
    (f_hwd : F .hwd) (r_ALM_EVENTS : R Reg.ALM_EVENTS) (r_ALM_REQ_RESULT : R Reg.ALM_REQ_RESULT)
    (r_ALM_STATUS : R Reg.ALM_STATUS) :
    FrameO F R sB (effRelease s) := by
  delta effRelease
  repeat' first
    | with_reducible assumption | lift_lets | with_reducible apply FrameO.next
    | with_reducible apply State.requestRelease_frame

theorem effReleaseAfterDrain_frame {sB : State} (s : State) (hB : Frame F R sB s) (f_host : F .host) (f_alm : F .alm)
    (f_hwd : F .hwd) (r_ALM_EVENTS : R Reg.ALM_EVENTS) (r_ALM_REQ_RESULT : R Reg.ALM_REQ_RESULT)
    (r_ALM_STATUS : R Reg.ALM_STATUS) :
    FrameO F R sB (effReleaseAfterDrain s) := by
  delta effReleaseAfterDrain
  repeat' first
    | with_reducible assumption | lift_lets | with_reducible apply FrameO.next
    | with_reducible apply State.almResult_frame | with_reducible apply State.decideRelease_frame | intro (x : AlmBlk)
    | with_reducible apply Frame.ite | with_reducible apply FrameO.ite | with_reducible refine Frame.mk' ?_ rfl

theorem effDrainingEnd_frame {sB : State} (s : State) (hB : Frame F R sB s) (f_alm : F .alm)
    (r_ALM_SB_STATE : R Reg.ALM_SB_STATE) :
    FrameO F R sB (effDrainingEnd s) := by
  delta effDrainingEnd
  repeat' first
    | with_reducible assumption | lift_lets
    | (intro x; refine (fun (hx : Frame F R sB x) => ?_) ?_ <;> [skip; subst x]) | with_reducible apply FrameO.next
    | with_reducible apply State.setSb_frame | intro (x : AlmBlk) | with_reducible apply FrameO.ite
    | refine Frame.mk' ?_ rfl

theorem State.runVolume_frame {sB : State} (s : State) (b g : Nat) (hB : Frame F R sB s) (f_alm : F .alm)
    (r_ALM_ACT_BUILD_ID : R Reg.ALM_ACT_BUILD_ID) (r_ALM_ACT_ENGINE_ID : R Reg.ALM_ACT_ENGINE_ID)
    (r_ALM_ACT_MASKS : R Reg.ALM_ACT_MASKS) (r_ALM_SB_BUILD_ID : R Reg.ALM_SB_BUILD_ID)
    (r_ALM_SB_ENGINE_ID : R Reg.ALM_SB_ENGINE_ID) (r_ALM_SB_MASKS : R Reg.ALM_SB_MASKS)
    (r_ALM_SB_STATE : R Reg.ALM_SB_STATE) (r_ALM_SEASON_POS : R Reg.ALM_SEASON_POS) (r_ALM_STATUS : R Reg.ALM_STATUS)
    (r_LEDG_ADMIT_DEPTH : R Reg.LEDG_ADMIT_DEPTH) :
    Frame F R sB (State.runVolume s b g) := by
  delta State.runVolume
  repeat' first
    | with_reducible assumption | lift_lets
    | (intro x; refine (fun (hx : Frame F R sB x) => ?_) ?_ <;> [skip; subst x])
    | with_reducible apply State.wrN_frame | with_reducible apply State.setFld_frame
    | with_reducible apply State.setSb_frame | with_reducible apply State.showStandby_frame | intro (x : AlmBlk)
    | intro _ | with_reducible apply Frame.ite | refine Frame.mem ?_ rfl

theorem State.runHolding_frame {sB : State} (s : State) (hB : Frame F R sB s) (f_alm : F .alm)
    (r_ALM_ACT_BUILD_ID : R Reg.ALM_ACT_BUILD_ID) (r_ALM_ACT_ENGINE_ID : R Reg.ALM_ACT_ENGINE_ID)
    (r_ALM_ACT_MASKS : R Reg.ALM_ACT_MASKS) (r_ALM_SB_BUILD_ID : R Reg.ALM_SB_BUILD_ID)
    (r_ALM_SB_ENGINE_ID : R Reg.ALM_SB_ENGINE_ID) (r_ALM_SB_MASKS : R Reg.ALM_SB_MASKS)
    (r_ALM_SB_STATE : R Reg.ALM_SB_STATE) (r_ALM_SEASON_POS : R Reg.ALM_SEASON_POS) (r_ALM_STATUS : R Reg.ALM_STATUS)
    (r_LEDG_ADMIT_DEPTH : R Reg.LEDG_ADMIT_DEPTH) :
    Frame F R sB (State.runHolding s) := by
  delta State.runHolding
  repeat' first
    | with_reducible assumption | lift_lets
    | (intro x; refine (fun (hx : Frame F R sB x) => ?_) ?_ <;> [skip; subst x])
    | with_reducible apply State.wrN_frame | with_reducible apply State.setFld_frame
    | with_reducible apply State.setSb_frame | with_reducible apply State.showStandby_frame | intro (x : AlmBlk)
    | intro _ | with_reducible apply Frame.ite | refine Frame.mem ?_ rfl

theorem State.seasonAdvance_frame {sB : State} (s : State) (hB : Frame F R sB s) (f_alm : F .alm)
    (r_ALM_ACT_BUILD_ID : R Reg.ALM_ACT_BUILD_ID) (r_ALM_ACT_ENGINE_ID : R Reg.ALM_ACT_ENGINE_ID)
    (r_ALM_ACT_MASKS : R Reg.ALM_ACT_MASKS) (r_ALM_PAGE : R Reg.ALM_PAGE) (r_ALM_SB_BUILD_ID : R Reg.ALM_SB_BUILD_ID)
    (r_ALM_SB_ENGINE_ID : R Reg.ALM_SB_ENGINE_ID) (r_ALM_SB_MASKS : R Reg.ALM_SB_MASKS)
    (r_ALM_SB_STATE : R Reg.ALM_SB_STATE) (r_ALM_SEASON_POS : R Reg.ALM_SEASON_POS) (r_ALM_STATUS : R Reg.ALM_STATUS)
    (r_LEDG_ADMIT_DEPTH : R Reg.LEDG_ADMIT_DEPTH) :
    Frame F R sB (State.seasonAdvance s) := by
  delta State.seasonAdvance
  repeat' first
    | with_reducible assumption | lift_lets
    | (intro x; refine (fun (hx : Frame F R sB x) => ?_) ?_ <;> [clear_value x; subst x])
    | with_reducible apply State.wrN_frame | with_reducible apply State.setFld_frame
    | with_reducible apply State.runVolume_frame | with_reducible apply State.runHolding_frame
    | with_reducible apply Frame.ite | split

theorem State.retestSwitch_frame {sB : State} (s : State) (hB : Frame F R sB s) (f_host : F .host) (f_alm : F .alm)
    (r_ALM_EVENTS : R Reg.ALM_EVENTS) (r_ALM_REQ_RESULT : R Reg.ALM_REQ_RESULT) (r_ALM_STATUS : R Reg.ALM_STATUS) :
    Frame F R sB (State.retestSwitch s) := by
  delta State.retestSwitch
  repeat' first
    | with_reducible assumption | lift_lets | with_reducible apply State.setFlag_frame
    | with_reducible apply State.almResult_frame | intro (x : AlmBlk) | with_reducible apply Frame.ite | split
    | with_reducible refine Frame.mk' ?_ rfl

theorem State.slotReport_frame {sB : State} (s : State) (slot : Nat) (bad : Bool) (hB : Frame F R sB s)
    (f_host : F .host) (f_flt : F .flt) (f_hwd : F .hwd) (r_ALM_EVENTS : R Reg.ALM_EVENTS) :
    Frame F R sB (State.slotReport s slot bad) := by
  delta State.slotReport
  repeat' first
    | with_reducible assumption | lift_lets | with_reducible apply State.fault_frame
    | with_reducible apply State.event_frame | with_reducible apply State.raiseBit_frame

theorem State.slotError_frame {sB : State} (s : State) (slot : Nat) (bad : Bool) (hB : Frame F R sB s)
    (f_host : F .host) (f_alm : F .alm) (f_flt : F .flt) (f_hwd : F .hwd) (r_ALM_EVENTS : R Reg.ALM_EVENTS) :
    Frame F R sB (State.slotError s slot bad) := by
  delta State.slotError
  repeat' first
    | with_reducible assumption | lift_lets
    | (intro x; refine (fun (hx : Frame F R sB x) => ?_) ?_ <;> [clear_value x; subst x])
    | with_reducible apply State.slotReport_frame | intro (x : AlmBlk) | with_reducible apply Frame.ite
    | with_reducible refine Frame.mk' ?_ rfl

theorem State.readPage_frame {sB : State} (s : State) (errs : List (Nat × Bool)) (hB : Frame F R sB s)
    (f_host : F .host) (f_alm : F .alm) (f_flt : F .flt) (f_hwd : F .hwd) (r_ALM_EVENTS : R Reg.ALM_EVENTS) :
    Frame F R sB (State.readPage s errs) := by
  delta State.readPage
  repeat' first
    | with_reducible assumption | intro (u : State) (hu : Frame F R sB u) | lift_lets
    | (intro x; refine (fun (hx : Frame F R sB x) => ?_) ?_ <;> [clear_value x; subst x])
    | with_reducible apply State.slotReport_frame | with_reducible apply State.slotError_frame
    | with_reducible apply Frame.foldl | (intro x; clear_value x) | intro _ | with_reducible apply Frame.ite

theorem State.almSafe_frame {sB : State} (s : State) (hB : Frame F R sB s) (f_host : F .host) (f_alm : F .alm)
    (f_pace : F .pace) (f_hwd : F .hwd) (r_ALM_EVENTS : R Reg.ALM_EVENTS) (r_ALM_REQ_RESULT : R Reg.ALM_REQ_RESULT)
    (r_ALM_STATUS : R Reg.ALM_STATUS) :
    Frame F R sB (State.almSafe s) := by
  delta State.almSafe
  repeat' first
    | with_reducible assumption | lift_lets
    | (intro x; refine (fun (hx : Frame F R sB x) => ?_) ?_ <;> [clear_value x; subst x])
    | with_reducible apply State.setFlag_frame | with_reducible apply State.event_frame
    | with_reducible apply State.almResult_frame | with_reducible apply State.almCancelled_frame | intro (x : AlmBlk)
    | (intro x; clear_value x) | intro _ | with_reducible apply Frame.ite | with_reducible refine Frame.mk' ?_ rfl

/-! ### Pacing -/

theorem State.forecastStation_frame {sB : State} (s : State) (stn : Nat) (hB : Frame F R sB s)
    (r_LEDG_PACE_STN_ARR : ∀ i, R (Reg.LEDG_PACE_STN_ARR i)) (r_LEDG_PACE_STN_CON : ∀ i, R (Reg.LEDG_PACE_STN_CON i))
    (r_LEDG_PACE_STN_RES : ∀ i, R (Reg.LEDG_PACE_STN_RES i)) :
    Frame F R sB (State.forecastStation s stn) := by
  delta State.forecastStation
  repeat' first
    | with_reducible assumption | lift_lets | with_reducible apply State.wrN_frame
    | with_reducible apply r_LEDG_PACE_STN_ARR | with_reducible apply r_LEDG_PACE_STN_CON
    | with_reducible apply r_LEDG_PACE_STN_RES

theorem State.paceStage_frame {sB : State} (s : State) (hB : Frame F R sB s) (f_fresh : F .fresh) (f_host : F .host)
    (f_hwd : F .hwd) (r_HOST_ERR : R Reg.HOST_ERR) (r_LEDG_PACE_EVENTS : R Reg.LEDG_PACE_EVENTS)
    (r_LEDG_PACE_STATUS : R Reg.LEDG_PACE_STATUS) :
    Frame F R sB (State.paceStage s) := by
  delta State.paceStage
  repeat' first
    | with_reducible assumption | lift_lets
    | (intro x; refine (fun (hx : Frame F R sB x) => ?_) ?_ <;> [clear_value x; subst x])
    | with_reducible apply State.setFld_frame | with_reducible apply State.event_frame
    | with_reducible apply State.raiseBit_frame | with_reducible apply State.ledgerRecord_frame
    | (intro x; clear_value x) | with_reducible apply Frame.ite

theorem State.forecast_frame {sB : State} (s : State) (hB : Frame F R sB s) (f_pace : F .pace) (r_LEDG_PACE_EXT_NOW :
    R Reg.LEDG_PACE_EXT_NOW) (r_LEDG_PACE_STATUS : R Reg.LEDG_PACE_STATUS) (r_LEDG_PACE_STN_ARR : ∀ i, R
    (Reg.LEDG_PACE_STN_ARR i)) (r_LEDG_PACE_STN_CON : ∀ i, R (Reg.LEDG_PACE_STN_CON i)) (r_LEDG_PACE_STN_RES : ∀ i, R
    (Reg.LEDG_PACE_STN_RES i)) : Frame F R sB s.forecast := by
  delta State.forecast
  split
  · exact hB
  · lift_lets
    intro s0
    have h0 : Frame F R sB s0 := Frame.foldl _ _ hB (fun u hu x => by
      repeat' first
        | with_reducible assumption | lift_lets | with_reducible apply State.setFld_frame
        | with_reducible apply State.forecastStation_frame)
    intro p0 s1
    have h1 : Frame F R sB s1 := h0.mk' rfl
    intro m s2
    have h2 : Frame F R sB s2 := by
      dsimp only [s2]
      generalize s1 = t at *
      repeat' first
        | with_reducible assumption | lift_lets | with_reducible apply State.setFld_frame
        | with_reducible apply State.forecastStation_frame
    intro up p2
    refine State.wrN_frame _ _ _ (h2.mk' rfl) ?_
    repeat' first
      | with_reducible assumption | lift_lets | with_reducible apply State.setFld_frame
      | with_reducible apply State.forecastStation_frame

theorem State.paceGrade_frame {sB : State} (s : State) (g : Nat) (up : Bool) (hB : Frame F R sB s)
    (f_fresh : F .fresh) (f_host : F .host) (f_hwd : F .hwd) (r_HOST_ERR : R Reg.HOST_ERR) :
    Frame F R sB (State.paceGrade s g up) := by
  delta State.paceGrade
  repeat' first
    | with_reducible assumption | lift_lets | with_reducible apply State.event_frame
    | with_reducible apply State.ledgerRecord_frame

theorem State.governorStepDown_frame {sB : State} (s : State) (hB : Frame F R sB s) (f_fresh : F .fresh)
    (f_host : F .host) (f_alm : F .alm) (f_pace : F .pace) (f_hwd : F .hwd) (r_HOST_ERR : R Reg.HOST_ERR)
    (r_LEDG_PACE_COUNT_DOWN : R Reg.LEDG_PACE_COUNT_DOWN) (r_LEDG_PACE_EVENTS : R Reg.LEDG_PACE_EVENTS) :
    Frame F R sB (State.governorStepDown s) := by
  delta State.governorStepDown
  repeat' first
    | with_reducible assumption | lift_lets
    | (intro x; refine (fun (hx : Frame F R sB x) => ?_) ?_ <;> [clear_value x; subst x])
    | with_reducible apply State.bump_frame | with_reducible apply State.raiseBit_frame
    | with_reducible apply State.joinLater_frame | with_reducible apply State.paceGrade_frame
    | (intro x; clear_value x) | with_reducible apply Frame.ite | split | with_reducible refine Frame.mk' ?_ rfl

theorem effGovernorStepUp_frame {sB : State} (s : State) (hB : Frame F R sB s) (f_fresh : F .fresh)
    (f_host : F .host) (f_alm : F .alm) (f_pace : F .pace) (f_hwd : F .hwd) (r_HOST_ERR : R Reg.HOST_ERR)
    (r_LEDG_PACE_EVENTS : R Reg.LEDG_PACE_EVENTS) :
    FrameO F R sB (effGovernorStepUp s) := by
  delta effGovernorStepUp
  repeat' first
    | with_reducible assumption | lift_lets | with_reducible apply FrameO.next
    | with_reducible apply State.raiseBit_frame | with_reducible apply State.joinLater_frame
    | with_reducible apply State.paceGrade_frame | (intro x; clear_value x) | with_reducible apply FrameO.ite | split
    | with_reducible refine Frame.mk' ?_ rfl

theorem State.showHead_frame {sB : State} (s : State) (hB : Frame F R sB s) (r_LEDG_HEAD_ID : R Reg.LEDG_HEAD_ID)
    (r_LEDG_STATUS : R Reg.LEDG_STATUS) :
    Frame F R sB (State.showHead s) := by
  delta State.showHead
  repeat' first
    | with_reducible assumption | lift_lets | with_reducible apply State.wrN_frame
    | with_reducible apply State.setFld_frame | with_reducible apply State.setFlag_frame | (intro x; clear_value x)
    | split

theorem State.bhPhase_frame {sB : State} (s : State) (p : Nat) (hB : Frame F R sB s) (f_out : F .out)
    (f_pace : F .pace) (r_LEDG_BH_STATUS : R Reg.LEDG_BH_STATUS) :
    Frame F R sB (State.bhPhase s p) := by
  delta State.bhPhase
  repeat' first
    | with_reducible assumption | lift_lets
    | (intro x; refine (fun (hx : Frame F R sB x) => ?_) ?_ <;> [clear_value x; subst x])
    | with_reducible apply State.setFld_frame | with_reducible apply State.pathNotice_frame
    | with_reducible refine Frame.mk' ?_ rfl

theorem State.bhRefuse_frame {sB : State} (s : State) (last aux : Nat) (hB : Frame F R sB s) (f_fresh : F .fresh)
    (f_host : F .host) (f_pace : F .pace) (f_hwd : F .hwd) (r_HOST_ERR : R Reg.HOST_ERR)
    (r_LEDG_BH_STATUS : R Reg.LEDG_BH_STATUS) (r_LEDG_PACE_EVENTS : R Reg.LEDG_PACE_EVENTS) :
    Frame F R sB (State.bhRefuse s last aux) := by
  delta State.bhRefuse
  repeat' first
    | with_reducible assumption | lift_lets | with_reducible apply State.setFld_frame
    | with_reducible apply State.event_frame | with_reducible apply State.raiseBit_frame
    | with_reducible apply State.ledgerRecord_frame | with_reducible refine Frame.mk' ?_ rfl

theorem effBackhitchDecided_frame {sB : State} (s : State) (hB : Frame F R sB s) (f_fresh : F .fresh)
    (f_out : F .out) (f_host : F .host) (f_pace : F .pace) (f_hwd : F .hwd) (r_HOST_ERR : R Reg.HOST_ERR)
    (r_LEDG_BH_REV_PLAN : R Reg.LEDG_BH_REV_PLAN) (r_LEDG_BH_STATUS : R Reg.LEDG_BH_STATUS)
    (r_LEDG_PACE_EVENTS : R Reg.LEDG_PACE_EVENTS) :
    FrameO F R sB (effBackhitchDecided s) := by
  delta effBackhitchDecided
  repeat' first
    | with_reducible assumption | lift_lets
    | (intro x; refine (fun (hx : Frame F R sB x) => ?_) ?_ <;> [clear_value x; subst x])
    | with_reducible apply FrameO.next | with_reducible apply State.setFld_frame
    | with_reducible apply State.event_frame | with_reducible apply State.raiseBit_frame
    | with_reducible apply State.ledgerRecord_frame | with_reducible apply State.bhPhase_frame
    | with_reducible apply State.bhRefuse_frame | (intro x; clear_value x) | with_reducible apply FrameO.ite
    | with_reducible refine Frame.mk' ?_ rfl

theorem effBhDecel_frame {sB : State} (s : State) (hB : Frame F R sB s) (f_out : F .out) (f_pace : F .pace)
    (f_flt : F .flt) (f_step : F .step) (f_axis : F .axis) (r_LEDG_BH_STATUS : R Reg.LEDG_BH_STATUS) :
    FrameO F R sB (effBhDecel s) := by
  delta effBhDecel
  repeat' first
    | with_reducible assumption | lift_lets | with_reducible apply FrameO.next
    | with_reducible apply State.takeAxes_frame | with_reducible apply State.bhPhase_frame
    | with_reducible apply FrameO.ite

theorem effBhStop_frame {sB : State} (s : State) (hB : Frame F R sB s) (f_out : F .out) (f_pace : F .pace)
    (r_LEDG_BH_STATUS : R Reg.LEDG_BH_STATUS) :
    FrameO F R sB (effBhStop s) := by
  delta effBhStop
  repeat' first
    | with_reducible assumption | lift_lets | with_reducible apply FrameO.next
    | with_reducible apply State.bhPhase_frame | with_reducible apply FrameO.ite

theorem State.bhReverse_frame {sB : State} (s : State) (hB : Frame F R sB s) (f_out : F .out) (f_pace : F .pace)
    (r_LEDG_BH_STATUS : R Reg.LEDG_BH_STATUS) (r_LEDG_BH_TARGET : R Reg.LEDG_BH_TARGET) :
    Frame F R sB (State.bhReverse s) := by
  delta State.bhReverse
  repeat' first
    | with_reducible assumption | lift_lets | with_reducible apply State.wrN_frame
    | with_reducible apply State.setFld_frame | with_reducible apply State.bhPhase_frame
    | with_reducible refine Frame.mk' ?_ rfl

theorem effBhReverse_frame {sB : State} (s : State) (hB : Frame F R sB s) (f_out : F .out) (f_pace : F .pace)
    (r_LEDG_BH_STATUS : R Reg.LEDG_BH_STATUS) (r_LEDG_BH_TARGET : R Reg.LEDG_BH_TARGET) :
    FrameO F R sB (effBhReverse s) := by
  delta effBhReverse
  repeat' first
    | with_reducible assumption | lift_lets | with_reducible apply FrameO.next
    | with_reducible apply State.bhReverse_frame | with_reducible apply FrameO.ite

theorem effBhPark_frame {sB : State} (s : State) (hB : Frame F R sB s) (f_out : F .out) (f_pace : F .pace)
    (r_LEDG_BH_STATUS : R Reg.LEDG_BH_STATUS) :
    FrameO F R sB (effBhPark s) := by
  delta effBhPark
  repeat' first
    | with_reducible assumption | lift_lets | with_reducible apply FrameO.next
    | with_reducible apply State.bhPhase_frame | (intro x; clear_value x) | with_reducible apply FrameO.ite
    | with_reducible refine Frame.mk' ?_ rfl

theorem effBhAccel_frame {sB : State} (s : State) (hB : Frame F R sB s) (f_out : F .out) (f_pace : F .pace)
    (r_LEDG_BH_STATUS : R Reg.LEDG_BH_STATUS) :
    FrameO F R sB (effBhAccel s) := by
  delta effBhAccel
  repeat' first
    | with_reducible assumption | lift_lets | with_reducible apply FrameO.next
    | with_reducible apply State.bhPhase_frame | (intro x; clear_value x) | with_reducible apply FrameO.ite
    | with_reducible refine Frame.mk' ?_ rfl

theorem effBhReverseAgain_frame {sB : State} (s : State) (hB : Frame F R sB s) (f_out : F .out) (f_pace : F .pace)
    (r_LEDG_BH_STATUS : R Reg.LEDG_BH_STATUS) (r_LEDG_BH_TARGET : R Reg.LEDG_BH_TARGET) :
    FrameO F R sB (effBhReverseAgain s) := by
  delta effBhReverseAgain
  repeat' first
    | with_reducible assumption | lift_lets | with_reducible apply FrameO.next
    | with_reducible apply State.bhReverse_frame | with_reducible apply FrameO.ite

theorem effBhEnd_frame {sB : State} (s : State) (hB : Frame F R sB s) (f_fresh : F .fresh) (f_out : F .out)
    (f_host : F .host) (f_pace : F .pace) (f_hwd : F .hwd) (f_step : F .step) (f_axis : F .axis)
    (r_HOST_ERR : R Reg.HOST_ERR) (r_LEDG_BH_COUNT : R Reg.LEDG_BH_COUNT) (r_LEDG_BH_STATUS : R Reg.LEDG_BH_STATUS)
    (r_LEDG_PACE_EVENTS : R Reg.LEDG_PACE_EVENTS) :
    FrameO F R sB (effBhEnd s) := by
  delta effBhEnd
  repeat' first
    | with_reducible assumption | intro (u : State) (hu : Frame F R sB u) | lift_lets
    | (intro x; refine (fun (hx : Frame F R sB x) => ?_) ?_ <;> [clear_value x; subst x])
    | with_reducible apply FrameO.next | with_reducible apply State.bump_frame
    | with_reducible apply State.event_frame | with_reducible apply State.raiseBit_frame
    | with_reducible apply State.leaveLedger_frame | with_reducible apply State.ledgerRecord_frame
    | with_reducible apply State.bhPhase_frame | with_reducible apply Frame.foldl | (intro x; clear_value x) | intro _
    | with_reducible apply FrameO.ite | with_reducible refine Frame.mk' ?_ rfl

theorem effAbandon_frame {sB : State} (s : State) (hB : Frame F R sB s) (f_fresh : F .fresh) (f_out : F .out)
    (f_host : F .host) (f_ledg : F .ledg) (f_pace : F .pace) (f_flt : F .flt) (f_hwd : F .hwd) (f_step : F .step)
    (f_axis : F .axis) (r_HOST_ERR : R Reg.HOST_ERR) (r_LEDG_BH_STATUS : R Reg.LEDG_BH_STATUS)
    (r_LEDG_PACE_EVENTS : R Reg.LEDG_PACE_EVENTS) :
    FrameO F R sB (effAbandon s) := by
  delta effAbandon
  repeat' first
    | with_reducible assumption | lift_lets
    | (intro x; refine (fun (hx : Frame F R sB x) => ?_) ?_ <;> [clear_value x; subst x])
    | with_reducible apply FrameO.next | with_reducible apply State.abortBackhitch_frame | (intro x; clear_value x)
    | with_reducible apply FrameO.ite | with_reducible refine Frame.mk' ?_ rfl

theorem effParkLong_frame {sB : State} (s : State) (hB : Frame F R sB s) (f_host : F .host) (f_pace : F .pace)
    (r_LEDG_PACE_EVENTS : R Reg.LEDG_PACE_EVENTS) :
    FrameO F R sB (effParkLong s) := by
  delta effParkLong
  repeat' first
    | with_reducible assumption | lift_lets | with_reducible apply FrameO.next
    | with_reducible apply State.raiseBit_frame | (intro x; clear_value x) | with_reducible apply FrameO.ite
    | with_reducible refine Frame.mk' ?_ rfl

theorem State.bhMotion_frame {sB : State} (s : State) (hB : Frame F R sB s) (f_pace : F .pace) (f_step : F .step)
    (f_axis : F .axis) :
    Frame F R sB (State.bhMotion s) := by
  delta State.bhMotion
  repeat' first
    | with_reducible assumption | intro (u : State) (hu : Frame F R sB u) | lift_lets
    | (intro x; refine (fun (hx : Frame F R sB x) => ?_) ?_ <;> [clear_value x; subst x])
    | with_reducible apply State.idleLedger_frame | with_reducible apply State.ledgerSpeed_frame
    | with_reducible apply Frame.foldl | (intro x; clear_value x) | intro _ | with_reducible apply Frame.ite
    | with_reducible refine Frame.mk' ?_ rfl

theorem State.paceConfigCheck_frame {sB : State} (s : State) (hB : Frame F R sB s) (f_host : F .host)
    (r_LEDG_PACE_EVENTS : R Reg.LEDG_PACE_EVENTS) (r_LEDG_PACE_STATUS : R Reg.LEDG_PACE_STATUS) :
    Frame F R sB (State.paceConfigCheck s) := by
  delta State.paceConfigCheck
  repeat' first
    | with_reducible assumption | lift_lets
    | (intro x; refine (fun (hx : Frame F R sB x) => ?_) ?_ <;> [clear_value x; subst x])
    | with_reducible apply State.setFlag_frame | with_reducible apply State.raiseBit_frame | (intro x; clear_value x)
    | with_reducible apply Frame.ite

theorem State.bhConfigCheck_frame {sB : State} (s : State) (hB : Frame F R sB s) (f_host : F .host)
    (r_LEDG_BH_STATUS : R Reg.LEDG_BH_STATUS) (r_LEDG_PACE_EVENTS : R Reg.LEDG_PACE_EVENTS) :
    Frame F R sB (State.bhConfigCheck s) := by
  delta State.bhConfigCheck
  repeat' first
    | with_reducible assumption | lift_lets
    | (intro x; refine (fun (hx : Frame F R sB x) => ?_) ?_ <;> [clear_value x; subst x])
    | with_reducible apply State.setFlag_frame | with_reducible apply State.raiseBit_frame | (intro x; clear_value x)
    | with_reducible apply Frame.ite

/-! ### Thermal -/

theorem State.thmReading_frame {sB : State} (s : State) (c : Nat) (v : Int) (valid : Bool) (back : Nat)
    (hB : Frame F R sB s) (f_thm : F .thm) (r_THM_CH_TEMP : ∀ i, R (Reg.THM_CH_TEMP i)) :
    Frame F R sB (State.thmReading s c v valid back) := by
  delta State.thmReading
  repeat' first
    | with_reducible assumption | lift_lets
    | (intro x; refine (fun (hx : Frame F R sB x) => ?_) ?_ <;> [clear_value x; subst x])
    | with_reducible apply State.setFld_frame | with_reducible apply State.setFlag_frame
    | with_reducible apply r_THM_CH_TEMP | (intro x; clear_value x) | with_reducible apply Frame.ite
    | with_reducible refine Frame.mk' ?_ rfl

theorem State.throttleRequest_frame {sB : State} (s : State) (c : Nat) (v : Int) (hB : Frame F R sB s)
    (f_host : F .host) (f_alm : F .alm) (f_hwd : F .hwd) (f_thm : F .thm) (r_THM_EVENTS : R Reg.THM_EVENTS)
    (r_THM_STATUS : R Reg.THM_STATUS) :
    Frame F R sB (State.throttleRequest s c v) := by
  delta State.throttleRequest
  repeat' first
    | with_reducible assumption | lift_lets
    | (intro x; refine (fun (hx : Frame F R sB x) => ?_) ?_ <;> [clear_value x; subst x])
    | with_reducible apply State.setFlag_frame | with_reducible apply State.event_frame
    | with_reducible apply State.raiseBit_frame | with_reducible apply State.joinLater_frame
    | (intro x; clear_value x) | split | with_reducible refine Frame.mk' ?_ rfl

theorem State.warnMoved_frame {sB : State} (s : State) (c : Nat) (v : Int) (reached : Bool) (hB : Frame F R sB s)
    (f_host : F .host) (f_flt : F .flt) (f_hwd : F .hwd) (r_THM_EVENTS : R Reg.THM_EVENTS) :
    Frame F R sB (State.warnMoved s c v reached) := by
  delta State.warnMoved
  repeat' first
    | with_reducible assumption | lift_lets
    | (intro x; refine (fun (hx : Frame F R sB x) => ?_) ?_ <;> [clear_value x; subst x])
    | with_reducible apply State.fault_frame | with_reducible apply State.event_frame
    | with_reducible apply State.raiseBit_frame | with_reducible apply Frame.ite

theorem State.throttleMoved_frame {sB : State} (s : State) (c : Nat) (v : Int) (reached : Bool) (hB : Frame F R sB s)
    (f_host : F .host) (f_alm : F .alm) (f_flt : F .flt) (f_hwd : F .hwd) (f_thm : F .thm) (f_leg : F .leg)
    (r_LEG_STATUS : R Reg.LEG_STATUS) (r_THM_EVENTS : R Reg.THM_EVENTS) (r_THM_STATUS : R Reg.THM_STATUS) :
    Frame F R sB (State.throttleMoved s c v reached) := by
  delta State.throttleMoved
  repeat' first
    | with_reducible assumption | lift_lets | with_reducible apply State.fault_frame
    | with_reducible apply State.event_frame | with_reducible apply State.raiseBit_frame
    | with_reducible apply State.legPost_frame | with_reducible apply State.throttleRequest_frame
    | with_reducible apply Frame.ite

theorem State.showThrottle_frame {sB : State} (s : State) (hB : Frame F R sB s) (r_THM_STATUS : R Reg.THM_STATUS) :
    Frame F R sB (State.showThrottle s) := by
  delta State.showThrottle
  repeat' first
    | with_reducible assumption | lift_lets
    | (intro x; refine (fun (hx : Frame F R sB x) => ?_) ?_ <;> [clear_value x; subst x])
    | with_reducible apply State.setFlag_frame | (intro x; clear_value x) | with_reducible apply Frame.ite

theorem State.seeReading_frame {sB : State} (s : State) (r : ThmReading) (hB : Frame F R sB s) (f_thm : F .thm) :
    Frame F R sB (State.seeReading s r) := by
  delta State.seeReading
  repeat' first
    | with_reducible assumption | lift_lets | (intro x; clear_value x) | split
    | with_reducible refine Frame.mk' ?_ rfl

theorem State.compareReading_frame {sB : State} (s0 : State) (r : ThmReading) (hB : Frame F R sB s0)
    (f_host : F .host) (f_alm : F .alm) (f_flt : F .flt) (f_hwd : F .hwd) (f_thm : F .thm) (f_leg : F .leg)
    (r_LEG_STATUS : R Reg.LEG_STATUS) (r_THM_CH_TEMP : ∀ i, R (Reg.THM_CH_TEMP i)) (r_THM_EVENTS : R Reg.THM_EVENTS)
    (r_THM_STATUS : R Reg.THM_STATUS) :
    Frame F R sB (State.compareReading s0 r) := by
  delta State.compareReading
  repeat' first
    | with_reducible assumption | lift_lets
    | (intro x; refine (fun (hx : Frame F R sB x) => ?_) ?_ <;> [clear_value x; subst x])
    | with_reducible apply State.setFld_frame | with_reducible apply State.warnMoved_frame
    | with_reducible apply State.throttleMoved_frame | with_reducible apply State.showThrottle_frame
    | with_reducible apply State.seeReading_frame | with_reducible apply r_THM_CH_TEMP | (intro x; clear_value x)
    | with_reducible apply Frame.ite

theorem State.compareThermal_frame {sB : State} (s : State) (hB : Frame F R sB s) (f_host : F .host) (f_alm : F .alm)
    (f_flt : F .flt) (f_hwd : F .hwd) (f_thm : F .thm) (f_leg : F .leg) (r_LEG_STATUS : R Reg.LEG_STATUS)
    (r_THM_CH_TEMP : ∀ i, R (Reg.THM_CH_TEMP i)) (r_THM_EVENTS : R Reg.THM_EVENTS) (r_THM_STATUS : R Reg.THM_STATUS) :
    Frame F R sB (State.compareThermal s) := by
  delta State.compareThermal
  repeat' first
    | with_reducible assumption | intro (u : State) (hu : Frame F R sB u) | lift_lets
    | (intro x; refine (fun (hx : Frame F R sB x) => ?_) ?_ <;> [clear_value x; subst x])
    | with_reducible apply State.setFlag_frame | with_reducible apply State.compareReading_frame
    | with_reducible apply Frame.foldl | (intro x; clear_value x) | intro _ | with_reducible apply Frame.ite | split
    | with_reducible refine Frame.mk' ?_ rfl

theorem effThrottleRepeat_frame {sB : State} (s : State) (hB : Frame F R sB s) (f_host : F .host) (f_alm : F .alm)
    (f_hwd : F .hwd) (f_thm : F .thm) (r_THM_EVENTS : R Reg.THM_EVENTS) (r_THM_STATUS : R Reg.THM_STATUS) :
    FrameO F R sB (effThrottleRepeat s) := by
  delta effThrottleRepeat
  repeat' first
    | with_reducible assumption | lift_lets | with_reducible apply FrameO.next
    | with_reducible apply State.throttleRequest_frame | (intro x; clear_value x) | with_reducible apply FrameO.ite

/-! ### Beam -/

theorem State.setFailedSet_frame {sB : State} (s : State) (i f : Nat) (hB : Frame F R sB s)
    (r_BEAM_STN_FAILED_HI : ∀ i, R (Reg.BEAM_STN_FAILED_HI i))
    (r_BEAM_STN_FAILED_LO : ∀ i, R (Reg.BEAM_STN_FAILED_LO i)) :
    Frame F R sB (State.setFailedSet s i f) := by
  delta State.setFailedSet
  repeat' first
    | with_reducible assumption | lift_lets | with_reducible apply State.wrN_frame
    | with_reducible apply r_BEAM_STN_FAILED_HI | with_reducible apply r_BEAM_STN_FAILED_LO

theorem State.facetReport_frame {sB : State} (s : State) (kind : ReportKind) (sheet station band line : Nat)
    (hB : Frame F R sB s) (f_ledg : F .ledg) :
    Frame F R sB (State.facetReport s kind sheet station band line) := by
  delta State.facetReport
  repeat' first
    | with_reducible assumption | lift_lets | (intro x; clear_value x) | with_reducible refine Frame.mk' ?_ rfl

theorem State.showPending_frame {sB : State} (s : State) (i : Nat) (hB : Frame F R sB s)
    (r_BEAM_STN_STATE : ∀ i, R (Reg.BEAM_STN_STATE i)) :
    Frame F R sB (State.showPending s i) := by
  delta State.showPending
  repeat' first
    | with_reducible assumption | lift_lets | with_reducible apply State.setFlag_frame
    | with_reducible apply r_BEAM_STN_STATE

theorem State.sendWaiting_frame {sB : State} (s : State) (i : Nat) (hB : Frame F R sB s) (f_out : F .out)
    (f_beam : F .beam) :
    Frame F R sB (State.sendWaiting s i) := by
  delta State.sendWaiting
  repeat' first
    | with_reducible assumption | intro (u : State) (hu : Frame F R sB u) | lift_lets
    | with_reducible apply State.emit_frame | with_reducible apply State.modBm_frame
    | with_reducible apply Frame.foldl | intro _ | with_reducible apply Frame.ite

theorem State.sendTable_frame {sB : State} (s : State) (i id : Nat) (hB : Frame F R sB s) (f_out : F .out)
    (f_beam : F .beam) :
    Frame F R sB (State.sendTable s i id) := by
  delta State.sendTable
  repeat' first
    | with_reducible assumption | lift_lets | with_reducible apply State.modBm_frame
    | with_reducible apply State.sendWaiting_frame

theorem State.tableChanged_frame {sB : State} (s : State) (i id : Nat) (hB : Frame F R sB s) (f_out : F .out)
    (f_beam : F .beam) (r_BEAM_STN_STATE : ∀ i, R (Reg.BEAM_STN_STATE i)) :
    Frame F R sB (State.tableChanged s i id) := by
  delta State.tableChanged
  repeat' first
    | with_reducible assumption | lift_lets
    | (intro x; refine (fun (hx : Frame F R sB x) => ?_) ?_ <;> [clear_value x; subst x])
    | with_reducible apply State.modBm_frame | with_reducible apply State.showPending_frame
    | with_reducible apply State.sendTable_frame | with_reducible apply Frame.ite

theorem State.showMaps_frame {sB : State} (s : State) (i : Nat) (hB : Frame F R sB s)
    (r_BEAM_STN_MAP_VALID : ∀ i, R (Reg.BEAM_STN_MAP_VALID i)) :
    Frame F R sB (State.showMaps s i) := by
  delta State.showMaps
  repeat' first
    | with_reducible assumption | lift_lets | with_reducible apply State.setFld_frame
    | with_reducible apply r_BEAM_STN_MAP_VALID

theorem State.chooseMap_frame {sB : State} (s : State) (i : Nat) (decided : Option Nat) (facets : Nat) (now : Bool)
    (hB : Frame F R sB s) (f_host : F .host) (f_flt : F .flt) (f_hwd : F .hwd) (f_beam : F .beam) (f_leg : F .leg)
    (r_BEAM_EVENTS : R Reg.BEAM_EVENTS) (r_BEAM_STN_COUNT_FAILOVER : ∀ i, R (Reg.BEAM_STN_COUNT_FAILOVER i))
    (r_BEAM_STN_STATE : ∀ i, R (Reg.BEAM_STN_STATE i)) (r_LEG_STATUS : R Reg.LEG_STATUS) :
    Frame F R sB (State.chooseMap s i decided facets now) := by
  delta State.chooseMap
  repeat' first
    | with_reducible assumption | lift_lets
    | (intro x; refine (fun (hx : Frame F R sB x) => ?_) ?_ <;> [clear_value x; subst x])
    | with_reducible apply State.setFld_frame | with_reducible apply State.setFlag_frame
    | with_reducible apply State.bump_frame | with_reducible apply State.fault_frame
    | with_reducible apply State.event_frame | with_reducible apply State.raiseBit_frame
    | with_reducible apply State.modBm_frame | with_reducible apply State.legPost_frame
    | with_reducible apply r_BEAM_STN_COUNT_FAILOVER | with_reducible apply r_BEAM_STN_STATE
    | (intro x; clear_value x) | with_reducible apply Frame.ite | split

theorem State.mapBoundary_frame {sB : State} (s : State) (i time : Nat) (hB : Frame F R sB s) (f_beam : F .beam)
    (r_BEAM_STN_STATE : ∀ i, R (Reg.BEAM_STN_STATE i)) :
    Frame F R sB (State.mapBoundary s i time) := by
  delta State.mapBoundary
  repeat' first
    | with_reducible assumption | lift_lets | with_reducible apply State.setFld_frame
    | with_reducible apply State.modBm_frame | with_reducible apply r_BEAM_STN_STATE | (intro x; clear_value x)
    | with_reducible apply Frame.ite | split

theorem State.setLden_frame {sB : State} (s : State) (i : Nat) (high : Bool) (hB : Frame F R sB s) (f_out : F .out)
    (r_BEAM_STATUS : R Reg.BEAM_STATUS) (r_BEAM_STN_STATE : ∀ i, R (Reg.BEAM_STN_STATE i)) :
    Frame F R sB (State.setLden s i high) := by
  delta State.setLden
  repeat' first
    | with_reducible assumption | lift_lets
    | (intro x; refine (fun (hx : Frame F R sB x) => ?_) ?_ <;> [clear_value x; subst x])
    | with_reducible apply State.setFlag_frame | with_reducible apply State.emit_frame
    | with_reducible apply r_BEAM_STN_STATE | with_reducible apply Frame.ite

theorem State.disarm_frame {sB : State} (s : State) (i : Nat) (hB : Frame F R sB s) (f_out : F .out)
    (f_beam : F .beam) (r_BEAM_STATUS : R Reg.BEAM_STATUS) (r_BEAM_STN_STATE : ∀ i, R (Reg.BEAM_STN_STATE i)) :
    Frame F R sB (State.disarm s i) := by
  delta State.disarm
  repeat' first
    | with_reducible assumption | lift_lets | with_reducible apply State.setFlag_frame
    | with_reducible apply State.modBm_frame | with_reducible apply State.setLden_frame
    | with_reducible apply r_BEAM_STN_STATE

theorem State.darkAll_frame {sB : State} (s : State) (hB : Frame F R sB s) (f_out : F .out) (f_beam : F .beam)
    (r_BEAM_STATUS : R Reg.BEAM_STATUS) (r_BEAM_STN_STATE : ∀ i, R (Reg.BEAM_STN_STATE i)) :
    Frame F R sB (State.darkAll s) := by
  delta State.darkAll
  repeat' first
    | with_reducible assumption | intro (u : State) (hu : Frame F R sB u) | lift_lets
    | with_reducible apply State.emit_frame | with_reducible apply State.upTo_frame
    | with_reducible apply State.disarm_frame | intro _

theorem State.armStation_frame {sB : State} (s : State) (i : Nat) (hB : Frame F R sB s) (f_out : F .out)
    (f_beam : F .beam) (r_BEAM_STN_STATE : ∀ i, R (Reg.BEAM_STN_STATE i)) :
    Frame F R sB (State.armStation s i) := by
  delta State.armStation
  repeat' first
    | with_reducible assumption | intro (u : State) (hu : Frame F R sB u) | lift_lets
    | with_reducible apply State.setFlag_frame | with_reducible apply State.modBm_frame
    | with_reducible apply State.sendTable_frame | with_reducible apply r_BEAM_STN_STATE
    | with_reducible apply Frame.foldl | intro _

theorem State.requestArm_frame {sB : State} (s : State) (i : Nat) (hB : Frame F R sB s) (f_out : F .out)
    (f_host : F .host) (f_beam : F .beam) (r_BEAM_EVENTS : R Reg.BEAM_EVENTS)
    (r_BEAM_STN_STATE : ∀ i, R (Reg.BEAM_STN_STATE i)) :
    Frame F R sB (State.requestArm s i) := by
  delta State.requestArm
  repeat' first
    | with_reducible assumption | lift_lets | with_reducible apply State.raiseBit_frame
    | with_reducible apply State.armStation_frame | with_reducible apply Frame.ite

theorem effArm_frame {sB : State} (i : Fin 8) (s : State) (hB : Frame F R sB s) (f_out : F .out) (f_host : F .host)
    (f_beam : F .beam) (r_BEAM_EVENTS : R Reg.BEAM_EVENTS) (r_BEAM_STN_STATE : ∀ i, R (Reg.BEAM_STN_STATE i)) :
    FrameO F R sB (effArm i s) := by
  delta effArm
  repeat' first
    | with_reducible assumption | lift_lets | with_reducible apply FrameO.next
    | with_reducible apply State.requestArm_frame

theorem effDisarm_frame {sB : State} (i : Fin 8) (s : State) (hB : Frame F R sB s) (f_out : F .out)
    (f_beam : F .beam) (r_BEAM_STATUS : R Reg.BEAM_STATUS) (r_BEAM_STN_STATE : ∀ i, R (Reg.BEAM_STN_STATE i)) :
    FrameO F R sB (effDisarm i s) := by
  delta effDisarm
  repeat' first
    | with_reducible assumption | lift_lets | with_reducible apply FrameO.next
    | with_reducible apply State.disarm_frame

theorem execLdenRise_frame {sB : State} (i : Fin 8) (s : State) (hB : Frame F R sB s) (f_out : F .out)
    (f_beam : F .beam) (r_BEAM_STATUS : R Reg.BEAM_STATUS) (r_BEAM_STN_STATE : ∀ i, R (Reg.BEAM_STN_STATE i)) :
    FrameO F R sB (execLdenRise i s) := by
  delta execLdenRise
  repeat' first
    | with_reducible assumption | lift_lets | with_reducible apply FrameO.next
    | with_reducible apply State.modBm_frame | with_reducible apply State.setLden_frame
    | with_reducible apply FrameO.ite

theorem State.lsiLow_frame {sB : State} (s : State) (hB : Frame F R sB s) (f_out : F .out) (f_beam : F .beam)
    (r_BEAM_STATUS : R Reg.BEAM_STATUS) (r_BEAM_STN_STATE : ∀ i, R (Reg.BEAM_STN_STATE i)) :
    Frame F R sB (State.lsiLow s) := by
  delta State.lsiLow
  repeat' first
    | with_reducible assumption | lift_lets
    | (intro x; refine (fun (hx : Frame F R sB x) => ?_) ?_ <;> [clear_value x; subst x])
    | with_reducible apply State.setFlag_frame | with_reducible apply State.darkAll_frame | (intro x; clear_value x)
    | with_reducible refine Frame.mk' ?_ rfl

theorem execLsiNLow_frame {sB : State} (s : State) (hB : Frame F R sB s) (f_out : F .out) (f_beam : F .beam)
    (r_BEAM_STATUS : R Reg.BEAM_STATUS) (r_BEAM_STN_STATE : ∀ i, R (Reg.BEAM_STN_STATE i)) :
    FrameO F R sB (execLsiNLow s) := by
  delta execLsiNLow
  repeat' first
    | with_reducible assumption | lift_lets | with_reducible apply FrameO.next
    | with_reducible apply State.lsiLow_frame

theorem effInterlockGathered_frame {sB : State} (s : State) (hB : Frame F R sB s) (f_fresh : F .fresh)
    (f_host : F .host) (f_ledg : F .ledg) (f_flt : F .flt) (f_hwd : F .hwd) (f_burl : F .burl) (f_scan : F .scan)
    (f_beam : F .beam) (f_leg : F .leg) (r_BEAM_EVENTS : R Reg.BEAM_EVENTS) (r_BEAM_ILK_COUNT : R Reg.BEAM_ILK_COUNT)
    (r_HOST_ERR : R Reg.HOST_ERR) (r_LEDG_COUNT_SPOILED : R Reg.LEDG_COUNT_SPOILED)
    (r_LEDG_EVENTS : R Reg.LEDG_EVENTS) (r_LEG_STATUS : R Reg.LEG_STATUS) :
    FrameO F R sB (effInterlockGathered s) := by
  delta effInterlockGathered
  repeat' first
    | with_reducible assumption | lift_lets
    | (intro x; refine (fun (hx : Frame F R sB x) => ?_) ?_ <;> [clear_value x; subst x])
    | with_reducible apply FrameO.next | with_reducible apply State.bump_frame
    | with_reducible apply State.fault_frame | with_reducible apply State.event_frame
    | with_reducible apply State.raiseBit_frame | with_reducible apply State.legPost_frame
    | with_reducible apply State.spoilAll_frame | (intro x; clear_value x) | with_reducible apply FrameO.ite | split
    | with_reducible refine Frame.mk' ?_ rfl

theorem State.ilkClear_frame {sB : State} (s : State) (hB : Frame F R sB s) (f_hwd : F .hwd)
    (r_BEAM_STATUS : R Reg.BEAM_STATUS) :
    Frame F R sB (State.ilkClear s) := by
  delta State.ilkClear
  repeat' first
    | with_reducible assumption | lift_lets | with_reducible apply State.setFlag_frame
    | with_reducible apply State.event_frame | with_reducible apply Frame.ite

theorem effIlkClear_frame {sB : State} (s : State) (hB : Frame F R sB s) (f_hwd : F .hwd)
    (r_BEAM_STATUS : R Reg.BEAM_STATUS) :
    FrameO F R sB (effIlkClear s) := by
  delta effIlkClear
  repeat' first
    | with_reducible assumption | lift_lets | with_reducible apply FrameO.next
    | with_reducible apply State.ilkClear_frame

theorem State.lsiTick_frame {sB : State} (s : State) (high : Bool) (hB : Frame F R sB s) (f_out : F .out)
    (f_beam : F .beam) (r_BEAM_STATUS : R Reg.BEAM_STATUS) (r_BEAM_STN_STATE : ∀ i, R (Reg.BEAM_STN_STATE i)) :
    Frame F R sB (State.lsiTick s high) := by
  delta State.lsiTick
  repeat' first
    | with_reducible assumption | lift_lets
    | (intro x; refine (fun (hx : Frame F R sB x) => ?_) ?_ <;> [clear_value x; subst x])
    | with_reducible apply State.setFlag_frame | with_reducible apply State.lsiLow_frame | (intro x; clear_value x)
    | with_reducible apply Frame.ite | split | with_reducible refine Frame.mk' ?_ rfl

theorem State.setBeamLink_frame {sB : State} (s : State) (i new cause : Nat) (hB : Frame F R sB s) (f_host : F .host)
    (f_hwd : F .hwd) (f_beam : F .beam) (r_BEAM_EVENTS : R Reg.BEAM_EVENTS)
    (r_BEAM_STN_STATE : ∀ i, R (Reg.BEAM_STN_STATE i)) :
    Frame F R sB (State.setBeamLink s i new cause) := by
  delta State.setBeamLink
  repeat' first
    | with_reducible assumption | lift_lets | with_reducible apply State.setFld_frame
    | with_reducible apply State.event_frame | with_reducible apply State.raiseBit_frame
    | with_reducible apply State.modBm_frame | with_reducible apply r_BEAM_STN_STATE | (intro x; clear_value x)
    | with_reducible apply Frame.ite

theorem State.trainBeam_frame {sB : State} (s : State) (i : Nat) (hB : Frame F R sB s) (f_host : F .host)
    (f_hwd : F .hwd) (f_beam : F .beam) (r_BEAM_EVENTS : R Reg.BEAM_EVENTS)
    (r_BEAM_STN_STATE : ∀ i, R (Reg.BEAM_STN_STATE i)) :
    Frame F R sB (State.trainBeam s i) := by
  delta State.trainBeam
  repeat' first
    | with_reducible assumption | lift_lets | with_reducible apply State.modBm_frame
    | with_reducible apply State.setBeamLink_frame

theorem State.loseBeam_frame {sB : State} (s : State) (i cause : Nat) (hB : Frame F R sB s) (f_out : F .out)
    (f_host : F .host) (f_flt : F .flt) (f_hwd : F .hwd) (f_beam : F .beam) (f_leg : F .leg)
    (r_BEAM_EVENTS : R Reg.BEAM_EVENTS) (r_BEAM_STATUS : R Reg.BEAM_STATUS)
    (r_BEAM_STN_LINK_LOG : ∀ i, R (Reg.BEAM_STN_LINK_LOG i)) (r_BEAM_STN_STATE : ∀ i, R (Reg.BEAM_STN_STATE i))
    (r_LEG_STATUS : R Reg.LEG_STATUS) :
    Frame F R sB (State.loseBeam s i cause) := by
  delta State.loseBeam
  repeat' first
    | with_reducible assumption | lift_lets
    | (intro x; refine (fun (hx : Frame F R sB x) => ?_) ?_ <;> [clear_value x; subst x])
    | with_reducible apply State.setFld_frame | with_reducible apply State.bump_frame
    | with_reducible apply State.fault_frame | with_reducible apply State.modBm_frame
    | with_reducible apply State.legPost_frame | with_reducible apply State.disarm_frame
    | with_reducible apply State.setBeamLink_frame | with_reducible apply r_BEAM_STN_LINK_LOG
    | with_reducible apply Frame.ite

theorem State.downBeam_frame {sB : State} (s : State) (i : Nat) (hB : Frame F R sB s) (f_out : F .out)
    (f_host : F .host) (f_hwd : F .hwd) (f_beam : F .beam) (r_BEAM_EVENTS : R Reg.BEAM_EVENTS)
    (r_BEAM_STATUS : R Reg.BEAM_STATUS) (r_BEAM_STN_STATE : ∀ i, R (Reg.BEAM_STN_STATE i)) :
    Frame F R sB (State.downBeam s i) := by
  delta State.downBeam
  repeat' first
    | with_reducible assumption | lift_lets | with_reducible apply State.modBm_frame
    | with_reducible apply State.showPending_frame | with_reducible apply State.disarm_frame
    | with_reducible apply State.setBeamLink_frame

theorem State.beamTrained_frame {sB : State} (s : State) (i : Nat) (hB : Frame F R sB s) (f_host : F .host)
    (f_flt : F .flt) (f_hwd : F .hwd) (f_beam : F .beam) (f_leg : F .leg) (r_BEAM_EVENTS : R Reg.BEAM_EVENTS)
    (r_BEAM_STN_COUNT_FAILOVER : ∀ i, R (Reg.BEAM_STN_COUNT_FAILOVER i))
    (r_BEAM_STN_STATE : ∀ i, R (Reg.BEAM_STN_STATE i)) (r_LEG_STATUS : R Reg.LEG_STATUS) :
    Frame F R sB (State.beamTrained s i) := by
  delta State.beamTrained
  repeat' first
    | with_reducible assumption | lift_lets | with_reducible apply State.modBm_frame
    | with_reducible apply State.chooseMap_frame | with_reducible apply State.setBeamLink_frame
    | with_reducible apply Frame.ite

theorem State.beamTrainingLate_frame {sB : State} (s : State) (i : Nat) (hB : Frame F R sB s) (f_out : F .out)
    (f_host : F .host) (f_flt : F .flt) (f_hwd : F .hwd) (f_beam : F .beam) (f_leg : F .leg)
    (r_BEAM_EVENTS : R Reg.BEAM_EVENTS) (r_BEAM_STATUS : R Reg.BEAM_STATUS)
    (r_BEAM_STN_LINK_LOG : ∀ i, R (Reg.BEAM_STN_LINK_LOG i)) (r_BEAM_STN_STATE : ∀ i, R (Reg.BEAM_STN_STATE i))
    (r_LEG_STATUS : R Reg.LEG_STATUS) :
    Frame F R sB (State.beamTrainingLate s i) := by
  delta State.beamTrainingLate
  repeat' first
    | with_reducible assumption | lift_lets | with_reducible apply State.loseBeam_frame
    | with_reducible apply Frame.ite

theorem State.beamRetrain_frame {sB : State} (s : State) (i : Nat) (hB : Frame F R sB s) (f_host : F .host)
    (f_hwd : F .hwd) (f_beam : F .beam) (r_BEAM_EVENTS : R Reg.BEAM_EVENTS)
    (r_BEAM_STN_STATE : ∀ i, R (Reg.BEAM_STN_STATE i)) :
    Frame F R sB (State.beamRetrain s i) := by
  delta State.beamRetrain
  repeat' first
    | with_reducible assumption | lift_lets | with_reducible apply State.trainBeam_frame
    | with_reducible apply Frame.ite

theorem execReportTimeout_frame {sB : State} (i : Fin 8) (s : State) (hB : Frame F R sB s) (f_out : F .out)
    (f_host : F .host) (f_flt : F .flt) (f_hwd : F .hwd) (f_beam : F .beam) (f_leg : F .leg)
    (r_BEAM_EVENTS : R Reg.BEAM_EVENTS) (r_BEAM_STATUS : R Reg.BEAM_STATUS)
    (r_BEAM_STN_LINK_LOG : ∀ i, R (Reg.BEAM_STN_LINK_LOG i)) (r_BEAM_STN_STATE : ∀ i, R (Reg.BEAM_STN_STATE i))
    (r_LEG_STATUS : R Reg.LEG_STATUS) :
    FrameO F R sB (execReportTimeout i s) := by
  delta execReportTimeout
  repeat' first
    | with_reducible assumption | lift_lets | with_reducible apply FrameO.next
    | with_reducible apply State.loseBeam_frame | with_reducible apply FrameO.ite

theorem execStatusReport_frame {sB : State} (i : Fin 8) (head : List Byte) (crc : Word) (s : State) (hB : Frame F R sB s)
    (f_out : F .out) (f_host : F .host) (f_flt : F .flt) (f_hwd : F .hwd) (f_beam : F .beam) (f_leg : F .leg)
    (r_BEAM_EVENTS : R Reg.BEAM_EVENTS) (r_BEAM_STATUS : R Reg.BEAM_STATUS)
    (r_BEAM_STN_COUNT_BADREP : ∀ i, R (Reg.BEAM_STN_COUNT_BADREP i))
    (r_BEAM_STN_LINK_LOG : ∀ i, R (Reg.BEAM_STN_LINK_LOG i)) (r_BEAM_STN_STATE : ∀ i, R (Reg.BEAM_STN_STATE i))
    (r_LEG_STATUS : R Reg.LEG_STATUS) :
    FrameO F R sB (execStatusReport i head crc s) := by
  delta execStatusReport
  repeat' first
    | with_reducible assumption | intro (u : State) (hu : Frame F R sB u) | lift_lets
    | (intro x; refine (fun (hx : Frame F R sB x) => ?_) ?_ <;> [clear_value x; subst x])
    | with_reducible apply FrameO.next | with_reducible apply State.bump_frame | with_reducible apply State.upTo_frame
    | with_reducible apply State.modBm_frame | with_reducible apply State.showPending_frame
    | with_reducible apply State.sendTable_frame | with_reducible apply State.loseBeam_frame
    | with_reducible apply r_BEAM_STN_COUNT_BADREP | (intro x; clear_value x) | intro _
    | with_reducible apply FrameO.ite

theorem State.completeTables_frame {sB : State} (s : State) (hB : Frame F R sB s) (f_fresh : F .fresh)
    (f_host : F .host) (f_hwd : F .hwd) (f_beam : F .beam) (r_HOST_ERR : R Reg.HOST_ERR) :
    Frame F R sB (State.completeTables s) := by
  delta State.completeTables
  repeat' first
    | with_reducible assumption | intro (u : State) (hu : Frame F R sB u) | lift_lets
    | with_reducible apply State.complete_frame | with_reducible apply Frame.foldl | intro _
    | with_reducible refine Frame.mk' ?_ rfl

theorem State.tableAcked_frame {sB : State} (s : State) (i id : Nat) (hB : Frame F R sB s) (f_fresh : F .fresh)
    (f_host : F .host) (f_hwd : F .hwd) (f_beam : F .beam) (r_BEAM_STN_STATE : ∀ i, R (Reg.BEAM_STN_STATE i))
    (r_HOST_ERR : R Reg.HOST_ERR) :
    Frame F R sB (State.tableAcked s i id) := by
  delta State.tableAcked
  repeat' first
    | with_reducible assumption | lift_lets
    | (intro x; refine (fun (hx : Frame F R sB x) => ?_) ?_ <;> [clear_value x; subst x])
    | with_reducible apply State.modBm_frame | with_reducible apply State.showPending_frame
    | with_reducible apply State.completeTables_frame | with_reducible refine Frame.mk' ?_ rfl

theorem State.tableFailed_frame {sB : State} (s : State) (i id : Nat) (f : TableTx) (hB : Frame F R sB s)
    (f_out : F .out) (f_host : F .host) (f_flt : F .flt) (f_hwd : F .hwd) (f_beam : F .beam) (f_leg : F .leg)
    (r_BEAM_EVENTS : R Reg.BEAM_EVENTS) (r_BEAM_STATUS : R Reg.BEAM_STATUS)
    (r_BEAM_STN_LINK_LOG : ∀ i, R (Reg.BEAM_STN_LINK_LOG i)) (r_BEAM_STN_STATE : ∀ i, R (Reg.BEAM_STN_STATE i))
    (r_LEG_STATUS : R Reg.LEG_STATUS) :
    Frame F R sB (State.tableFailed s i id f) := by
  delta State.tableFailed
  repeat' first
    | with_reducible assumption | lift_lets | with_reducible apply State.modBm_frame
    | with_reducible apply State.sendWaiting_frame | with_reducible apply State.loseBeam_frame
    | with_reducible apply Frame.ite

theorem execTableAck_frame {sB : State} (i : Fin 8) (head : List Byte) (table crc : Word) (s : State) (hB : Frame F R sB s)
    (f_fresh : F .fresh) (f_out : F .out) (f_host : F .host) (f_flt : F .flt) (f_hwd : F .hwd) (f_beam : F .beam)
    (f_leg : F .leg) (r_BEAM_EVENTS : R Reg.BEAM_EVENTS) (r_BEAM_STATUS : R Reg.BEAM_STATUS)
    (r_BEAM_STN_COUNT_BADREP : ∀ i, R (Reg.BEAM_STN_COUNT_BADREP i))
    (r_BEAM_STN_LINK_LOG : ∀ i, R (Reg.BEAM_STN_LINK_LOG i)) (r_BEAM_STN_STATE : ∀ i, R (Reg.BEAM_STN_STATE i))
    (r_HOST_ERR : R Reg.HOST_ERR) (r_LEG_STATUS : R Reg.LEG_STATUS) :
    FrameO F R sB (execTableAck i head table crc s) := by
  delta execTableAck
  repeat' first
    | with_reducible assumption | lift_lets
    | (intro x; refine (fun (hx : Frame F R sB x) => ?_) ?_ <;> [clear_value x; subst x])
    | with_reducible apply FrameO.next | with_reducible apply State.bump_frame
    | with_reducible apply State.modBm_frame | with_reducible apply State.tableAcked_frame
    | with_reducible apply State.tableFailed_frame | with_reducible apply r_BEAM_STN_COUNT_BADREP
    | (intro x; clear_value x) | with_reducible apply FrameO.ite | split

theorem execTableAckTimeout_frame {sB : State} (i : Fin 8) (id : Fin 20) (s : State) (hB : Frame F R sB s)
    (f_out : F .out) (f_host : F .host) (f_flt : F .flt) (f_hwd : F .hwd) (f_beam : F .beam) (f_leg : F .leg)
    (r_BEAM_EVENTS : R Reg.BEAM_EVENTS) (r_BEAM_STATUS : R Reg.BEAM_STATUS)
    (r_BEAM_STN_LINK_LOG : ∀ i, R (Reg.BEAM_STN_LINK_LOG i)) (r_BEAM_STN_STATE : ∀ i, R (Reg.BEAM_STN_STATE i))
    (r_LEG_STATUS : R Reg.LEG_STATUS) :
    FrameO F R sB (execTableAckTimeout i id s) := by
  delta execTableAckTimeout
  repeat' first
    | with_reducible assumption | lift_lets | with_reducible apply FrameO.next
    | with_reducible apply State.tableFailed_frame | with_reducible apply FrameO.ite | split

theorem State.beamTableItem_frame {sB : State} (s : State) (it : Item) (hB : Frame F R sB s) (f_fresh : F .fresh)
    (f_out : F .out) (f_sram : F .sram) (f_host : F .host) (f_hwd : F .hwd) (f_beam : F .beam) (r_BEAM_EVENTS : R
    Reg.BEAM_EVENTS) (r_BEAM_STN_MAP_VALID : ∀ i, R (Reg.BEAM_STN_MAP_VALID i)) (r_BEAM_STN_STATE : ∀ i, R
    (Reg.BEAM_STN_STATE i)) (r_HOST_ERR : R Reg.HOST_ERR) : Frame F R sB (s.beamTableItem it) := by
  delta State.beamTableItem
  lift_lets
  intro o ts maps refuse
  have hr (d : Nat) : Frame F R sB (refuse d) := by
    dsimp only [refuse]
    repeat' first
      | with_reducible assumption | lift_lets | with_reducible apply State.raiseBit_frame
      | with_reducible apply State.complete_frame | with_reducible apply State.tableChanged_frame
      | with_reducible apply State.showMaps_frame | with_reducible apply State.completeTables_frame
      | refine Frame.mem ?_ rfl
  clear_value refuse
  intro live s1
  have h1 : Frame F R sB s1 := hB.mem rfl
  clear_value s1
  intro onlyMaps s2
  have h2 : Frame F R sB s2 := Frame.foldl _ _ h1 (fun u hu x => by
    repeat' first
      | with_reducible assumption | lift_lets | with_reducible apply State.raiseBit_frame
      | with_reducible apply State.complete_frame | with_reducible apply State.tableChanged_frame
      | with_reducible apply State.showMaps_frame | with_reducible apply State.completeTables_frame
      | refine Frame.mem ?_ rfl)
  clear_value s2
  intro s3
  have h3 : Frame F R sB s3 := Frame.foldl _ _ h2 (fun u hu x => by
    repeat' first
      | with_reducible assumption | lift_lets | with_reducible apply State.raiseBit_frame
      | with_reducible apply State.complete_frame | with_reducible apply State.tableChanged_frame
      | with_reducible apply State.showMaps_frame | with_reducible apply State.completeTables_frame
      | refine Frame.mem ?_ rfl)
  clear_value s3
  intro waits item b3
  clear_value onlyMaps live b3 item waits maps ts o
  split
  · exact hr _
  · split
    · exact hr _
    · split
      · exact hr _
      · split
        · exact hr _
        · repeat' first
            | with_reducible assumption | lift_lets | with_reducible apply State.raiseBit_frame
            | with_reducible apply State.complete_frame | with_reducible apply State.tableChanged_frame
            | with_reducible apply State.showMaps_frame | with_reducible apply State.completeTables_frame
            | refine Frame.mem ?_ rfl

theorem State.beamBarWrite_frame {sB : State} (s : State) (o : Nat) (bs : List Byte) (hB : Frame F R sB s)
    (f_out : F .out) (f_sram : F .sram) (f_beam : F .beam) (r_BEAM_STN_MAP_VALID : ∀ i, R (Reg.BEAM_STN_MAP_VALID i))
    (r_BEAM_STN_STATE : ∀ i, R (Reg.BEAM_STN_STATE i)) :
    Frame F R sB (State.beamBarWrite s o bs) := by
  delta State.beamBarWrite
  repeat' first
    | with_reducible assumption | intro (u : State) (hu : Frame F R sB u) | lift_lets
    | (intro x; refine (fun (hx : Frame F R sB x) => ?_) ?_ <;> [clear_value x; subst x])
    | with_reducible apply State.tableChanged_frame | with_reducible apply State.showMaps_frame
    | with_reducible apply Frame.foldl | intro _ | refine Frame.mem ?_ rfl

theorem State.trimOne_frame {sB : State} (s : State) (i : Nat) (r : FacetReport) (p : Nat) (hB : Frame F R sB s)
    (f_host : F .host) (f_hwd : F .hwd) (f_beam : F .beam) (r_BEAM_EVENTS : R Reg.BEAM_EVENTS) :
    Frame F R sB (State.trimOne s i r p) := by
  delta State.trimOne
  repeat' first
    | with_reducible assumption | lift_lets
    | (intro x; refine (fun (hx : Frame F R sB x) => ?_) ?_ <;> [clear_value x; subst x])
    | with_reducible apply State.event_frame | with_reducible apply State.raiseBit_frame
    | with_reducible apply State.modBm_frame | (intro x; clear_value x) | with_reducible apply Frame.ite

theorem State.trim_frame {sB : State} (s : State) (i : Nat) (r : FacetReport) (hB : Frame F R sB s) (f_host : F .host)
    (f_hwd : F .hwd) (f_beam : F .beam) (r_BEAM_EVENTS : R Reg.BEAM_EVENTS)
    (r_BEAM_STN_STATE : ∀ i, R (Reg.BEAM_STN_STATE i)) :
    Frame F R sB (State.trim s i r) := by
  delta State.trim
  repeat' first
    | with_reducible assumption | intro (u : State) (hu : Frame F R sB u) | lift_lets
    | with_reducible apply State.setFlag_frame | with_reducible apply State.trimOne_frame
    | with_reducible apply r_BEAM_STN_STATE | with_reducible apply Frame.foldl | intro _

theorem State.countSweep_frame {sB : State} (s : State) (i : Nat) (r : FacetReport) (hB : Frame F R sB s)
    (f_host : F .host) (f_flt : F .flt) (f_hwd : F .hwd) (f_beam : F .beam) (f_leg : F .leg)
    (r_BEAM_EVENTS : R Reg.BEAM_EVENTS) (r_BEAM_STN_COUNT_FAILOVER : ∀ i, R (Reg.BEAM_STN_COUNT_FAILOVER i))
    (r_BEAM_STN_FAILED_HI : ∀ i, R (Reg.BEAM_STN_FAILED_HI i))
    (r_BEAM_STN_FAILED_LO : ∀ i, R (Reg.BEAM_STN_FAILED_LO i)) (r_BEAM_STN_STATE : ∀ i, R (Reg.BEAM_STN_STATE i))
    (r_LEG_STATUS : R Reg.LEG_STATUS) :
    Frame F R sB (State.countSweep s i r) := by
  delta State.countSweep
  repeat' first
    | with_reducible assumption | intro (u : State) (hu : Frame F R sB u) | lift_lets
    | (intro x; refine (fun (hx : Frame F R sB x) => ?_) ?_ <;> [clear_value x; subst x])
    | with_reducible apply State.fault_frame | with_reducible apply State.event_frame
    | with_reducible apply State.raiseBit_frame | with_reducible apply State.modBm_frame
    | with_reducible apply State.setFailedSet_frame | with_reducible apply State.chooseMap_frame
    | with_reducible apply Frame.foldl | (intro x; clear_value x) | intro _ | with_reducible apply Frame.ite

theorem State.frameWasBad_frame {sB : State} (s : State) (i : Nat) (r : FacetReport) (hB : Frame F R sB s)
    (f_host : F .host) (f_ledg : F .ledg) (f_hwd : F .hwd) (r_BEAM_EVENTS : R Reg.BEAM_EVENTS)
    (r_BEAM_STN_COUNT_FRAME_BAD : ∀ i, R (Reg.BEAM_STN_COUNT_FRAME_BAD i)) (r_SCAN_EVENTS : R Reg.SCAN_EVENTS)
    (r_SCAN_STN_COUNT_UNDER : ∀ i, R (Reg.SCAN_STN_COUNT_UNDER i)) :
    Frame F R sB (State.frameWasBad s i r) := by
  delta State.frameWasBad
  repeat' first
    | with_reducible assumption | intro (u : State) (hu : Frame F R sB u) | lift_lets
    | with_reducible apply State.bump_frame | with_reducible apply State.event_frame
    | with_reducible apply State.raiseBit_frame | with_reducible apply State.facetReport_frame
    | with_reducible apply r_BEAM_STN_COUNT_FRAME_BAD | with_reducible apply r_SCAN_STN_COUNT_UNDER
    | with_reducible apply Frame.foldl | intro _

theorem State.shutHead_frame {sB : State} (s : State) (i : Nat) (r : FacetReport) (hB : Frame F R sB s)
    (f_out : F .out) (f_host : F .host) (f_ledg : F .ledg) (f_flt : F .flt) (f_hwd : F .hwd) (f_beam : F .beam)
    (f_leg : F .leg) (r_BEAM_EVENTS : R Reg.BEAM_EVENTS) (r_BEAM_STATUS : R Reg.BEAM_STATUS)
    (r_BEAM_STN_STATE : ∀ i, R (Reg.BEAM_STN_STATE i)) (r_LEG_STATUS : R Reg.LEG_STATUS) :
    Frame F R sB (State.shutHead s i r) := by
  delta State.shutHead
  repeat' first
    | with_reducible assumption | lift_lets
    | (intro x; refine (fun (hx : Frame F R sB x) => ?_) ?_ <;> [clear_value x; subst x])
    | with_reducible apply State.setFlag_frame | with_reducible apply State.emit_frame
    | with_reducible apply State.fault_frame | with_reducible apply State.event_frame
    | with_reducible apply State.raiseBit_frame | with_reducible apply State.modBm_frame
    | with_reducible apply State.legPost_frame | with_reducible apply State.facetReport_frame
    | with_reducible apply State.disarm_frame | with_reducible apply r_BEAM_STN_STATE | with_reducible apply Frame.ite

theorem State.headTemp_frame {sB : State} (s : State) (i : Nat) (r : FacetReport) (hB : Frame F R sB s)
    (f_out : F .out) (f_host : F .host) (f_ledg : F .ledg) (f_flt : F .flt) (f_hwd : F .hwd) (f_beam : F .beam)
    (f_thm : F .thm) (f_leg : F .leg) (r_BEAM_EVENTS : R Reg.BEAM_EVENTS) (r_BEAM_STATUS : R Reg.BEAM_STATUS)
    (r_BEAM_STN_HEAD_TEMP : ∀ i, R (Reg.BEAM_STN_HEAD_TEMP i)) (r_BEAM_STN_STATE : ∀ i, R (Reg.BEAM_STN_STATE i))
    (r_LEG_STATUS : R Reg.LEG_STATUS) (r_THM_CH_TEMP : ∀ i, R (Reg.THM_CH_TEMP i)) :
    Frame F R sB (State.headTemp s i r) := by
  delta State.headTemp
  repeat' first
    | with_reducible assumption | lift_lets
    | (intro x; refine (fun (hx : Frame F R sB x) => ?_) ?_ <;> [clear_value x; subst x])
    | with_reducible apply State.setFld_frame | with_reducible apply State.modBm_frame
    | with_reducible apply State.thmReading_frame | with_reducible apply State.shutHead_frame
    | with_reducible apply r_BEAM_STN_HEAD_TEMP | with_reducible apply Frame.ite

theorem State.writeLive_frame {sB : State} (s : State) (i : Nat) (r : FacetReport) (hB : Frame F R sB s)
    (f_sram : F .sram) :
    Frame F R sB (State.writeLive s i r) := by
  delta State.writeLive
  repeat' first
    | with_reducible assumption | lift_lets | (intro x; clear_value x) | refine Frame.mem ?_ rfl

theorem execFacetReport_frame {sB : State} (i : Fin 8) (bs : List Byte) (s : State) (hB : Frame F R sB s)
    (f_out : F .out) (f_sram : F .sram) (f_host : F .host) (f_ledg : F .ledg) (f_flt : F .flt) (f_hwd : F .hwd)
    (f_beam : F .beam) (f_thm : F .thm) (f_leg : F .leg) (r_BEAM_EVENTS : R Reg.BEAM_EVENTS)
    (r_BEAM_STATUS : R Reg.BEAM_STATUS) (r_BEAM_STN_COUNT_BADREP : ∀ i, R (Reg.BEAM_STN_COUNT_BADREP i))
    (r_BEAM_STN_COUNT_FAILOVER : ∀ i, R (Reg.BEAM_STN_COUNT_FAILOVER i))
    (r_BEAM_STN_COUNT_FRAME_BAD : ∀ i, R (Reg.BEAM_STN_COUNT_FRAME_BAD i))
    (r_BEAM_STN_FACET_SEQ : ∀ i, R (Reg.BEAM_STN_FACET_SEQ i))
    (r_BEAM_STN_FAILED_HI : ∀ i, R (Reg.BEAM_STN_FAILED_HI i))
    (r_BEAM_STN_FAILED_LO : ∀ i, R (Reg.BEAM_STN_FAILED_LO i))
    (r_BEAM_STN_HEAD_TEMP : ∀ i, R (Reg.BEAM_STN_HEAD_TEMP i)) (r_BEAM_STN_STATE : ∀ i, R (Reg.BEAM_STN_STATE i))
    (r_LEG_STATUS : R Reg.LEG_STATUS) (r_SCAN_EVENTS : R Reg.SCAN_EVENTS)
    (r_SCAN_STN_COUNT_UNDER : ∀ i, R (Reg.SCAN_STN_COUNT_UNDER i)) (r_THM_CH_TEMP : ∀ i, R (Reg.THM_CH_TEMP i)) :
    FrameO F R sB (execFacetReport i bs s) := by
  delta execFacetReport
  repeat' first
    | with_reducible assumption | lift_lets
    | (intro x; refine (fun (hx : Frame F R sB x) => ?_) ?_ <;> [clear_value x; subst x])
    | with_reducible apply FrameO.next | with_reducible apply State.wrN_frame | with_reducible apply State.bump_frame
    | with_reducible apply State.modBm_frame | with_reducible apply State.trim_frame
    | with_reducible apply State.countSweep_frame | with_reducible apply State.frameWasBad_frame
    | with_reducible apply State.headTemp_frame | with_reducible apply State.writeLive_frame
    | with_reducible apply r_BEAM_STN_COUNT_BADREP | with_reducible apply r_BEAM_STN_FACET_SEQ
    | (intro x; clear_value x) | with_reducible apply Frame.ite | with_reducible apply FrameO.ite

theorem effReselect_frame {sB : State} (i : Fin 8) (s : State) (hB : Frame F R sB s) (f_host : F .host)
    (f_flt : F .flt) (f_hwd : F .hwd) (f_beam : F .beam) (f_leg : F .leg) (r_BEAM_EVENTS : R Reg.BEAM_EVENTS)
    (r_BEAM_STN_COUNT_FAILOVER : ∀ i, R (Reg.BEAM_STN_COUNT_FAILOVER i))
    (r_BEAM_STN_STATE : ∀ i, R (Reg.BEAM_STN_STATE i)) (r_LEG_STATUS : R Reg.LEG_STATUS) :
    FrameO F R sB (effReselect i s) := by
  delta effReselect
  repeat' first
    | with_reducible assumption | lift_lets | with_reducible apply FrameO.next
    | with_reducible apply State.chooseMap_frame

theorem State.clearFailed_frame {sB : State} (s : State) (i : Nat) (hB : Frame F R sB s) (f_host : F .host)
    (f_flt : F .flt) (f_hwd : F .hwd) (f_beam : F .beam) (f_leg : F .leg) (r_BEAM_EVENTS : R Reg.BEAM_EVENTS)
    (r_BEAM_STN_COUNT_FAILOVER : ∀ i, R (Reg.BEAM_STN_COUNT_FAILOVER i))
    (r_BEAM_STN_FAILED_HI : ∀ i, R (Reg.BEAM_STN_FAILED_HI i))
    (r_BEAM_STN_FAILED_LO : ∀ i, R (Reg.BEAM_STN_FAILED_LO i)) (r_BEAM_STN_STATE : ∀ i, R (Reg.BEAM_STN_STATE i))
    (r_LEG_STATUS : R Reg.LEG_STATUS) :
    Frame F R sB (State.clearFailed s i) := by
  delta State.clearFailed
  repeat' first
    | with_reducible assumption | lift_lets | with_reducible apply State.modBm_frame
    | with_reducible apply State.setFailedSet_frame | with_reducible apply State.chooseMap_frame
    | with_reducible apply Frame.ite

theorem effClearFailed_frame {sB : State} (i : Fin 8) (s : State) (hB : Frame F R sB s) (f_host : F .host)
    (f_flt : F .flt) (f_hwd : F .hwd) (f_beam : F .beam) (f_leg : F .leg) (r_BEAM_EVENTS : R Reg.BEAM_EVENTS)
    (r_BEAM_STN_COUNT_FAILOVER : ∀ i, R (Reg.BEAM_STN_COUNT_FAILOVER i))
    (r_BEAM_STN_FAILED_HI : ∀ i, R (Reg.BEAM_STN_FAILED_HI i))
    (r_BEAM_STN_FAILED_LO : ∀ i, R (Reg.BEAM_STN_FAILED_LO i)) (r_BEAM_STN_STATE : ∀ i, R (Reg.BEAM_STN_STATE i))
    (r_LEG_STATUS : R Reg.LEG_STATUS) :
    FrameO F R sB (effClearFailed i s) := by
  delta effClearFailed
  repeat' first
    | with_reducible assumption | lift_lets | with_reducible apply FrameO.next
    | with_reducible apply State.clearFailed_frame

theorem State.beamFailures_frame {sB : State} (s : State) (hB : Frame F R sB s) (f_ledg : F .ledg) :
    Frame F R sB (State.beamFailures s) := by
  delta State.beamFailures
  repeat' first
    | with_reducible assumption | intro (u : State) (hu : Frame F R sB u) | lift_lets
    | with_reducible apply State.report_frame | with_reducible apply State.upTo_frame | intro _
    | with_reducible apply Frame.ite

end Sys2Proof.Machine
end

