-- ==== Sys2Proof/Laws/FramePaper.lean ====
section
/-!
SUPPORT. What each operation and each command can change, said once: the operations of the lane links, LEDG, SIO, BURL and SCAN. A lemma
`f_frame` names the parts of the state and the registers that `f` can change; all else, the queue of commands and the
fused life-cycle state stay, and the canonical form is kept.
-/

set_option Elab.async false
set_option linter.all false

namespace Sys2Proof.Machine

variable {F : Blk → Prop} {R : Nat → Prop}

/-! ### Links -/

theorem State.rwlDiscard_frame {sB : State} (s : State) (l : LinkId) (hB : Frame F R sB s) (f_host : F .host)
    (f_flt : F .flt) (r_HOST_ERR : R Reg.HOST_ERR) (r_HOST_ERR_ADDR : R Reg.HOST_ERR_ADDR) :
    Frame F R sB (State.rwlDiscard s l) := by
  delta State.rwlDiscard
  repeat' first
    | with_reducible assumption | with_reducible apply State.discarded_frame

theorem State.trainLink_frame {sB : State} (s : State) (l : LinkId) (hB : Frame F R sB s) (f_host : F .host) (f_hwd :
    F .hwd) (f_beam : F .beam) (f_step : F .step) (f_axis : F .axis) (f_loop : F .loop) (r_AXIS_EVENTS : R
    Reg.AXIS_EVENTS) (r_AXIS_LINK_STATE : ∀ i, R (Reg.AXIS_LINK_STATE i)) (r_BEAM_EVENTS : R Reg.BEAM_EVENTS)
    (r_BEAM_STN_STATE : ∀ i, R (Reg.BEAM_STN_STATE i)) (r_LOOP_EVENTS : R Reg.LOOP_EVENTS) (r_LOOP_LINK_STATE : ∀ i, R
    (Reg.LOOP_LINK_STATE i)) (r_STEP_EVENTS : R Reg.STEP_EVENTS) (r_STEP_LINK_STATE : ∀ i, R (Reg.STEP_LINK_STATE i))
    : Frame F R sB (s.trainLink l) := by
  unfold State.trainLink
  repeat' first
    | with_reducible assumption | with_reducible apply State.setStepLink_frame
    | with_reducible apply State.setAxisLink_frame | with_reducible apply State.setHvLink_frame
    | with_reducible apply State.trainBeam_frame | split

theorem State.loseLink_frame {sB : State} (s : State) (l : LinkId) (cause : Nat) (hB : Frame F R sB s)
    (f_fresh : F .fresh) (f_out : F .out) (f_host : F .host) (f_ledg : F .ledg) (f_pace : F .pace) (f_flt : F .flt)
    (f_hwd : F .hwd) (f_burl : F .burl) (f_scan : F .scan) (f_beam : F .beam) (f_step : F .step) (f_axis : F .axis)
    (f_loop : F .loop) (f_leg : F .leg) (r_AXIS_AX_FAULT : ∀ i, R (Reg.AXIS_AX_FAULT i))
    (r_AXIS_EVENTS : R Reg.AXIS_EVENTS) (r_AXIS_LINK_STATE : ∀ i, R (Reg.AXIS_LINK_STATE i))
    (r_BEAM_EVENTS : R Reg.BEAM_EVENTS) (r_BEAM_STATUS : R Reg.BEAM_STATUS)
    (r_BEAM_STN_LINK_LOG : ∀ i, R (Reg.BEAM_STN_LINK_LOG i)) (r_BEAM_STN_STATE : ∀ i, R (Reg.BEAM_STN_STATE i))
    (r_HOST_ERR : R Reg.HOST_ERR) (r_LEDG_BH_STATUS : R Reg.LEDG_BH_STATUS) (r_LEDG_COUNT_JAM : R Reg.LEDG_COUNT_JAM)
    (r_LEDG_EVENTS : R Reg.LEDG_EVENTS) (r_LEDG_PACE_EVENTS : R Reg.LEDG_PACE_EVENTS)
    (r_LEDG_STATUS : R Reg.LEDG_STATUS) (r_LEG_STATUS : R Reg.LEG_STATUS) (r_LOOP_EVENTS : R Reg.LOOP_EVENTS)
    (r_LOOP_LINK_STATE : ∀ i, R (Reg.LOOP_LINK_STATE i)) (r_LOOP_LP_DUTY : ∀ i, R (Reg.LOOP_LP_DUTY i))
    (r_LOOP_LP_FAULT : ∀ i, R (Reg.LOOP_LP_FAULT i)) (r_LOOP_LP_STATE : ∀ i, R (Reg.LOOP_LP_STATE i))
    (r_STEP_AX_FAULT : ∀ i, R (Reg.STEP_AX_FAULT i)) (r_STEP_EVENTS : R Reg.STEP_EVENTS)
    (r_STEP_LINK_STATE : ∀ i, R (Reg.STEP_LINK_STATE i)) :
    Frame F R sB (State.loseLink s l cause) := by
  delta State.loseLink
  repeat' first
    | with_reducible assumption | with_reducible apply State.loseStepLink_frame
    | with_reducible apply State.loseAxisLink_frame | with_reducible apply State.loseHvLink_frame
    | with_reducible apply State.loseBeam_frame | split

theorem State.linkOn_frame {sB : State} (s : State) (l : LinkId) (hB : Frame F R sB s) (f_host : F .host)
    (f_hwd : F .hwd) (f_beam : F .beam) (f_step : F .step) (f_axis : F .axis) (f_loop : F .loop)
    (r_AXIS_EVENTS : R Reg.AXIS_EVENTS) (r_AXIS_LINK_CFG : ∀ i, R (Reg.AXIS_LINK_CFG i))
    (r_AXIS_LINK_STATE : ∀ i, R (Reg.AXIS_LINK_STATE i)) (r_BEAM_EVENTS : R Reg.BEAM_EVENTS)
    (r_BEAM_STN_CFG : ∀ i, R (Reg.BEAM_STN_CFG i)) (r_BEAM_STN_STATE : ∀ i, R (Reg.BEAM_STN_STATE i))
    (r_LOOP_EVENTS : R Reg.LOOP_EVENTS) (r_LOOP_LINK_CFG : ∀ i, R (Reg.LOOP_LINK_CFG i))
    (r_LOOP_LINK_STATE : ∀ i, R (Reg.LOOP_LINK_STATE i)) (r_STEP_EVENTS : R Reg.STEP_EVENTS)
    (r_STEP_LINK_CFG : ∀ i, R (Reg.STEP_LINK_CFG i)) (r_STEP_LINK_STATE : ∀ i, R (Reg.STEP_LINK_STATE i)) :
    Frame F R sB (State.linkOn s l) := by
  delta State.linkOn
  repeat' first
    | with_reducible assumption | lift_lets
    | (intro x; refine (fun (hx : Frame F R sB x) => ?_) ?_ <;> [clear_value x; subst x])
    | with_reducible apply State.setFlag_frame | with_reducible apply State.trainBeam_frame
    | with_reducible apply State.trainLink_frame
    | (refine (?_ : R (linkCfg l)); cases l <;> first | exact r_BEAM_STN_CFG _ | exact r_AXIS_LINK_CFG _ | exact r_STEP_LINK_CFG _ | exact r_LOOP_LINK_CFG _)
    | with_reducible apply Frame.ite | split

theorem State.linkOff_frame {sB : State} (s : State) (l : LinkId) (hB : Frame F R sB s) (f_fresh : F .fresh)
    (f_out : F .out) (f_host : F .host) (f_ledg : F .ledg) (f_pace : F .pace) (f_flt : F .flt) (f_hwd : F .hwd)
    (f_burl : F .burl) (f_scan : F .scan) (f_beam : F .beam) (f_step : F .step) (f_axis : F .axis) (f_loop : F .loop)
    (f_leg : F .leg) (r_AXIS_AX_FAULT : ∀ i, R (Reg.AXIS_AX_FAULT i)) (r_AXIS_EVENTS : R Reg.AXIS_EVENTS)
    (r_AXIS_LINK_CFG : ∀ i, R (Reg.AXIS_LINK_CFG i)) (r_AXIS_LINK_STATE : ∀ i, R (Reg.AXIS_LINK_STATE i))
    (r_BEAM_EVENTS : R Reg.BEAM_EVENTS) (r_BEAM_STATUS : R Reg.BEAM_STATUS)
    (r_BEAM_STN_CFG : ∀ i, R (Reg.BEAM_STN_CFG i)) (r_BEAM_STN_STATE : ∀ i, R (Reg.BEAM_STN_STATE i))
    (r_HOST_ERR : R Reg.HOST_ERR) (r_LEDG_BH_STATUS : R Reg.LEDG_BH_STATUS) (r_LEDG_COUNT_JAM : R Reg.LEDG_COUNT_JAM)
    (r_LEDG_EVENTS : R Reg.LEDG_EVENTS) (r_LEDG_PACE_EVENTS : R Reg.LEDG_PACE_EVENTS)
    (r_LEDG_STATUS : R Reg.LEDG_STATUS) (r_LEG_STATUS : R Reg.LEG_STATUS) (r_LOOP_EVENTS : R Reg.LOOP_EVENTS)
    (r_LOOP_LINK_CFG : ∀ i, R (Reg.LOOP_LINK_CFG i)) (r_LOOP_LINK_STATE : ∀ i, R (Reg.LOOP_LINK_STATE i))
    (r_LOOP_LP_DUTY : ∀ i, R (Reg.LOOP_LP_DUTY i)) (r_LOOP_LP_FAULT : ∀ i, R (Reg.LOOP_LP_FAULT i))
    (r_LOOP_LP_STATE : ∀ i, R (Reg.LOOP_LP_STATE i)) (r_STEP_AX_FAULT : ∀ i, R (Reg.STEP_AX_FAULT i))
    (r_STEP_EVENTS : R Reg.STEP_EVENTS) (r_STEP_LINK_CFG : ∀ i, R (Reg.STEP_LINK_CFG i))
    (r_STEP_LINK_STATE : ∀ i, R (Reg.STEP_LINK_STATE i)) :
    Frame F R sB (State.linkOff s l) := by
  delta State.linkOff
  repeat' first
    | with_reducible assumption | lift_lets
    | (intro x; refine (fun (hx : Frame F R sB x) => ?_) ?_ <;> [clear_value x; subst x])
    | with_reducible apply State.setFlag_frame | with_reducible apply State.downStepLink_frame
    | with_reducible apply State.downAxisLink_frame | with_reducible apply State.downHvLink_frame
    | with_reducible apply State.downBeam_frame
    | (refine (?_ : R (linkCfg l)); cases l <;> first | exact r_BEAM_STN_CFG _ | exact r_AXIS_LINK_CFG _ | exact r_STEP_LINK_CFG _ | exact r_LOOP_LINK_CFG _)
    | split

theorem execLinkEnable_frame {sB : State} (l : LinkId) (s : State) (hB : Frame F R sB s) (f_host : F .host)
    (f_flt : F .flt) (f_hwd : F .hwd) (f_beam : F .beam) (f_step : F .step) (f_axis : F .axis) (f_loop : F .loop)
    (r_AXIS_EVENTS : R Reg.AXIS_EVENTS) (r_AXIS_LINK_CFG : ∀ i, R (Reg.AXIS_LINK_CFG i))
    (r_AXIS_LINK_STATE : ∀ i, R (Reg.AXIS_LINK_STATE i)) (r_BEAM_EVENTS : R Reg.BEAM_EVENTS)
    (r_BEAM_STN_CFG : ∀ i, R (Reg.BEAM_STN_CFG i)) (r_BEAM_STN_STATE : ∀ i, R (Reg.BEAM_STN_STATE i))
    (r_HOST_ERR : R Reg.HOST_ERR) (r_HOST_ERR_ADDR : R Reg.HOST_ERR_ADDR) (r_LOOP_EVENTS : R Reg.LOOP_EVENTS)
    (r_LOOP_LINK_CFG : ∀ i, R (Reg.LOOP_LINK_CFG i)) (r_LOOP_LINK_STATE : ∀ i, R (Reg.LOOP_LINK_STATE i))
    (r_STEP_EVENTS : R Reg.STEP_EVENTS) (r_STEP_LINK_CFG : ∀ i, R (Reg.STEP_LINK_CFG i))
    (r_STEP_LINK_STATE : ∀ i, R (Reg.STEP_LINK_STATE i)) :
    FrameO F R sB (execLinkEnable l s) := by
  delta execLinkEnable
  repeat' first
    | with_reducible assumption | lift_lets | with_reducible apply FrameO.next
    | with_reducible apply State.rwlDiscard_frame | with_reducible apply State.linkOn_frame
    | with_reducible apply FrameO.ite

theorem execLinkDisable_frame {sB : State} (l : LinkId) (s : State) (hB : Frame F R sB s) (f_fresh : F .fresh)
    (f_out : F .out) (f_host : F .host) (f_ledg : F .ledg) (f_pace : F .pace) (f_flt : F .flt) (f_hwd : F .hwd)
    (f_burl : F .burl) (f_scan : F .scan) (f_beam : F .beam) (f_step : F .step) (f_axis : F .axis) (f_loop : F .loop)
    (f_leg : F .leg) (r_AXIS_AX_FAULT : ∀ i, R (Reg.AXIS_AX_FAULT i)) (r_AXIS_EVENTS : R Reg.AXIS_EVENTS)
    (r_AXIS_LINK_CFG : ∀ i, R (Reg.AXIS_LINK_CFG i)) (r_AXIS_LINK_STATE : ∀ i, R (Reg.AXIS_LINK_STATE i))
    (r_BEAM_EVENTS : R Reg.BEAM_EVENTS) (r_BEAM_STATUS : R Reg.BEAM_STATUS)
    (r_BEAM_STN_CFG : ∀ i, R (Reg.BEAM_STN_CFG i)) (r_BEAM_STN_STATE : ∀ i, R (Reg.BEAM_STN_STATE i))
    (r_HOST_ERR : R Reg.HOST_ERR) (r_HOST_ERR_ADDR : R Reg.HOST_ERR_ADDR) (r_LEDG_BH_STATUS : R Reg.LEDG_BH_STATUS)
    (r_LEDG_COUNT_JAM : R Reg.LEDG_COUNT_JAM) (r_LEDG_EVENTS : R Reg.LEDG_EVENTS)
    (r_LEDG_PACE_EVENTS : R Reg.LEDG_PACE_EVENTS) (r_LEDG_STATUS : R Reg.LEDG_STATUS)
    (r_LEG_STATUS : R Reg.LEG_STATUS) (r_LOOP_EVENTS : R Reg.LOOP_EVENTS)
    (r_LOOP_LINK_CFG : ∀ i, R (Reg.LOOP_LINK_CFG i)) (r_LOOP_LINK_STATE : ∀ i, R (Reg.LOOP_LINK_STATE i))
    (r_LOOP_LP_DUTY : ∀ i, R (Reg.LOOP_LP_DUTY i)) (r_LOOP_LP_FAULT : ∀ i, R (Reg.LOOP_LP_FAULT i))
    (r_LOOP_LP_STATE : ∀ i, R (Reg.LOOP_LP_STATE i)) (r_STEP_AX_FAULT : ∀ i, R (Reg.STEP_AX_FAULT i))
    (r_STEP_EVENTS : R Reg.STEP_EVENTS) (r_STEP_LINK_CFG : ∀ i, R (Reg.STEP_LINK_CFG i))
    (r_STEP_LINK_STATE : ∀ i, R (Reg.STEP_LINK_STATE i)) :
    FrameO F R sB (execLinkDisable l s) := by
  delta execLinkDisable
  repeat' first
    | with_reducible assumption | lift_lets | with_reducible apply FrameO.next
    | with_reducible apply State.rwlDiscard_frame | with_reducible apply State.linkOff_frame
    | with_reducible apply FrameO.ite

theorem State.linkTrained_frame {sB : State} (s : State) (l : LinkId) (nodes : Nat) (hB : Frame F R sB s)
    (f_fresh : F .fresh) (f_out : F .out) (f_host : F .host) (f_ledg : F .ledg) (f_pace : F .pace) (f_flt : F .flt)
    (f_hwd : F .hwd) (f_burl : F .burl) (f_scan : F .scan) (f_beam : F .beam) (f_step : F .step) (f_axis : F .axis)
    (f_loop : F .loop) (f_leg : F .leg) (r_AXIS_EVENTS : R Reg.AXIS_EVENTS)
    (r_AXIS_LINK_STATE : ∀ i, R (Reg.AXIS_LINK_STATE i)) (r_BEAM_EVENTS : R Reg.BEAM_EVENTS)
    (r_BEAM_STN_COUNT_FAILOVER : ∀ i, R (Reg.BEAM_STN_COUNT_FAILOVER i))
    (r_BEAM_STN_STATE : ∀ i, R (Reg.BEAM_STN_STATE i)) (r_HOST_ERR : R Reg.HOST_ERR)
    (r_LEDG_BH_STATUS : R Reg.LEDG_BH_STATUS) (r_LEDG_COUNT_JAM : R Reg.LEDG_COUNT_JAM)
    (r_LEDG_EVENTS : R Reg.LEDG_EVENTS) (r_LEDG_PACE_EVENTS : R Reg.LEDG_PACE_EVENTS)
    (r_LEDG_STATUS : R Reg.LEDG_STATUS) (r_LEG_STATUS : R Reg.LEG_STATUS) (r_LOOP_EVENTS : R Reg.LOOP_EVENTS)
    (r_LOOP_LINK_STATE : ∀ i, R (Reg.LOOP_LINK_STATE i)) (r_STEP_AX_FAULT : ∀ i, R (Reg.STEP_AX_FAULT i))
    (r_STEP_EVENTS : R Reg.STEP_EVENTS) (r_STEP_LINK_STATE : ∀ i, R (Reg.STEP_LINK_STATE i)) :
    Frame F R sB (State.linkTrained s l nodes) := by
  delta State.linkTrained
  repeat' first
    | with_reducible assumption | lift_lets
    | (intro x; refine (fun (hx : Frame F R sB x) => ?_) ?_ <;> [clear_value x; subst x])
    | with_reducible apply State.setFld_frame | with_reducible apply State.setStepLink_frame
    | with_reducible apply State.loseStepLink_frame | with_reducible apply State.setAxisLink_frame
    | with_reducible apply State.setHvLink_frame | with_reducible apply State.beamTrained_frame
    | with_reducible apply r_LOOP_LINK_STATE | with_reducible apply r_STEP_LINK_STATE | (intro x; clear_value x)
    | with_reducible apply Frame.ite | split

theorem execLinkTrainingDone_frame {sB : State} (l : LinkId) (nodes : Fin 32) (s : State) (hB : Frame F R sB s)
    (f_fresh : F .fresh) (f_out : F .out) (f_host : F .host) (f_ledg : F .ledg) (f_pace : F .pace) (f_flt : F .flt)
    (f_hwd : F .hwd) (f_burl : F .burl) (f_scan : F .scan) (f_beam : F .beam) (f_step : F .step) (f_axis : F .axis)
    (f_loop : F .loop) (f_leg : F .leg) (r_AXIS_EVENTS : R Reg.AXIS_EVENTS)
    (r_AXIS_LINK_STATE : ∀ i, R (Reg.AXIS_LINK_STATE i)) (r_BEAM_EVENTS : R Reg.BEAM_EVENTS)
    (r_BEAM_STN_COUNT_FAILOVER : ∀ i, R (Reg.BEAM_STN_COUNT_FAILOVER i))
    (r_BEAM_STN_STATE : ∀ i, R (Reg.BEAM_STN_STATE i)) (r_HOST_ERR : R Reg.HOST_ERR)
    (r_LEDG_BH_STATUS : R Reg.LEDG_BH_STATUS) (r_LEDG_COUNT_JAM : R Reg.LEDG_COUNT_JAM)
    (r_LEDG_EVENTS : R Reg.LEDG_EVENTS) (r_LEDG_PACE_EVENTS : R Reg.LEDG_PACE_EVENTS)
    (r_LEDG_STATUS : R Reg.LEDG_STATUS) (r_LEG_STATUS : R Reg.LEG_STATUS) (r_LOOP_EVENTS : R Reg.LOOP_EVENTS)
    (r_LOOP_LINK_STATE : ∀ i, R (Reg.LOOP_LINK_STATE i)) (r_STEP_AX_FAULT : ∀ i, R (Reg.STEP_AX_FAULT i))
    (r_STEP_EVENTS : R Reg.STEP_EVENTS) (r_STEP_LINK_STATE : ∀ i, R (Reg.STEP_LINK_STATE i)) :
    FrameO F R sB (execLinkTrainingDone l nodes s) := by
  delta execLinkTrainingDone
  repeat' first
    | with_reducible assumption | lift_lets | with_reducible apply FrameO.next
    | with_reducible apply State.linkTrained_frame | with_reducible apply FrameO.ite

theorem execLinkTrainingTimeout_frame {sB : State} (l : LinkId) (s : State) (hB : Frame F R sB s) (f_fresh : F .fresh)
    (f_out : F .out) (f_host : F .host) (f_ledg : F .ledg) (f_pace : F .pace) (f_flt : F .flt) (f_hwd : F .hwd)
    (f_burl : F .burl) (f_scan : F .scan) (f_beam : F .beam) (f_step : F .step) (f_axis : F .axis) (f_loop : F .loop)
    (f_leg : F .leg) (r_AXIS_AX_FAULT : ∀ i, R (Reg.AXIS_AX_FAULT i)) (r_AXIS_EVENTS : R Reg.AXIS_EVENTS)
    (r_AXIS_LINK_STATE : ∀ i, R (Reg.AXIS_LINK_STATE i)) (r_BEAM_EVENTS : R Reg.BEAM_EVENTS)
    (r_BEAM_STATUS : R Reg.BEAM_STATUS) (r_BEAM_STN_LINK_LOG : ∀ i, R (Reg.BEAM_STN_LINK_LOG i))
    (r_BEAM_STN_STATE : ∀ i, R (Reg.BEAM_STN_STATE i)) (r_HOST_ERR : R Reg.HOST_ERR)
    (r_LEDG_BH_STATUS : R Reg.LEDG_BH_STATUS) (r_LEDG_COUNT_JAM : R Reg.LEDG_COUNT_JAM)
    (r_LEDG_EVENTS : R Reg.LEDG_EVENTS) (r_LEDG_PACE_EVENTS : R Reg.LEDG_PACE_EVENTS)
    (r_LEDG_STATUS : R Reg.LEDG_STATUS) (r_LEG_STATUS : R Reg.LEG_STATUS) (r_LOOP_EVENTS : R Reg.LOOP_EVENTS)
    (r_LOOP_LINK_STATE : ∀ i, R (Reg.LOOP_LINK_STATE i)) (r_LOOP_LP_DUTY : ∀ i, R (Reg.LOOP_LP_DUTY i))
    (r_LOOP_LP_FAULT : ∀ i, R (Reg.LOOP_LP_FAULT i)) (r_LOOP_LP_STATE : ∀ i, R (Reg.LOOP_LP_STATE i))
    (r_STEP_AX_FAULT : ∀ i, R (Reg.STEP_AX_FAULT i)) (r_STEP_EVENTS : R Reg.STEP_EVENTS)
    (r_STEP_LINK_STATE : ∀ i, R (Reg.STEP_LINK_STATE i)) :
    FrameO F R sB (execLinkTrainingTimeout l s) := by
  delta execLinkTrainingTimeout
  repeat' first
    | with_reducible assumption | lift_lets | with_reducible apply FrameO.next
    | with_reducible apply State.beamTrainingLate_frame | with_reducible apply State.loseLink_frame
    | with_reducible apply FrameO.ite | split

theorem State.linkDue_frame {sB : State} (s : State) (l : LinkId) (hB : Frame F R sB s) (f_fresh : F .fresh)
    (f_out : F .out) (f_host : F .host) (f_ledg : F .ledg) (f_pace : F .pace) (f_flt : F .flt) (f_hwd : F .hwd)
    (f_burl : F .burl) (f_scan : F .scan) (f_beam : F .beam) (f_step : F .step) (f_axis : F .axis) (f_loop : F .loop)
    (f_leg : F .leg) (r_AXIS_AX_FAULT : ∀ i, R (Reg.AXIS_AX_FAULT i)) (r_AXIS_EVENTS : R Reg.AXIS_EVENTS)
    (r_AXIS_LINK_STATE : ∀ i, R (Reg.AXIS_LINK_STATE i)) (r_BEAM_EVENTS : R Reg.BEAM_EVENTS)
    (r_BEAM_STATUS : R Reg.BEAM_STATUS) (r_BEAM_STN_LINK_LOG : ∀ i, R (Reg.BEAM_STN_LINK_LOG i))
    (r_BEAM_STN_STATE : ∀ i, R (Reg.BEAM_STN_STATE i)) (r_HOST_ERR : R Reg.HOST_ERR)
    (r_LEDG_BH_STATUS : R Reg.LEDG_BH_STATUS) (r_LEDG_COUNT_JAM : R Reg.LEDG_COUNT_JAM)
    (r_LEDG_EVENTS : R Reg.LEDG_EVENTS) (r_LEDG_PACE_EVENTS : R Reg.LEDG_PACE_EVENTS)
    (r_LEDG_STATUS : R Reg.LEDG_STATUS) (r_LEG_STATUS : R Reg.LEG_STATUS) (r_LOOP_EVENTS : R Reg.LOOP_EVENTS)
    (r_LOOP_LINK_STATE : ∀ i, R (Reg.LOOP_LINK_STATE i)) (r_LOOP_LP_DUTY : ∀ i, R (Reg.LOOP_LP_DUTY i))
    (r_LOOP_LP_FAULT : ∀ i, R (Reg.LOOP_LP_FAULT i)) (r_LOOP_LP_STATE : ∀ i, R (Reg.LOOP_LP_STATE i))
    (r_STEP_AX_FAULT : ∀ i, R (Reg.STEP_AX_FAULT i)) (r_STEP_EVENTS : R Reg.STEP_EVENTS)
    (r_STEP_LINK_STATE : ∀ i, R (Reg.STEP_LINK_STATE i)) :
    Frame F R sB (State.linkDue s l) := by
  delta State.linkDue
  repeat' first
    | with_reducible assumption | lift_lets | with_reducible apply State.loseLink_frame | (intro x; clear_value x)
    | with_reducible apply Frame.ite

theorem effLinkTimeout_frame {sB : State} (l : LinkId) (s : State) (hB : Frame F R sB s) (f_fresh : F .fresh)
    (f_out : F .out) (f_host : F .host) (f_ledg : F .ledg) (f_pace : F .pace) (f_flt : F .flt) (f_hwd : F .hwd)
    (f_burl : F .burl) (f_scan : F .scan) (f_beam : F .beam) (f_step : F .step) (f_axis : F .axis) (f_loop : F .loop)
    (f_leg : F .leg) (r_AXIS_AX_FAULT : ∀ i, R (Reg.AXIS_AX_FAULT i)) (r_AXIS_EVENTS : R Reg.AXIS_EVENTS)
    (r_AXIS_LINK_STATE : ∀ i, R (Reg.AXIS_LINK_STATE i)) (r_BEAM_EVENTS : R Reg.BEAM_EVENTS)
    (r_BEAM_STATUS : R Reg.BEAM_STATUS) (r_BEAM_STN_LINK_LOG : ∀ i, R (Reg.BEAM_STN_LINK_LOG i))
    (r_BEAM_STN_STATE : ∀ i, R (Reg.BEAM_STN_STATE i)) (r_HOST_ERR : R Reg.HOST_ERR)
    (r_LEDG_BH_STATUS : R Reg.LEDG_BH_STATUS) (r_LEDG_COUNT_JAM : R Reg.LEDG_COUNT_JAM)
    (r_LEDG_EVENTS : R Reg.LEDG_EVENTS) (r_LEDG_PACE_EVENTS : R Reg.LEDG_PACE_EVENTS)
    (r_LEDG_STATUS : R Reg.LEDG_STATUS) (r_LEG_STATUS : R Reg.LEG_STATUS) (r_LOOP_EVENTS : R Reg.LOOP_EVENTS)
    (r_LOOP_LINK_STATE : ∀ i, R (Reg.LOOP_LINK_STATE i)) (r_LOOP_LP_DUTY : ∀ i, R (Reg.LOOP_LP_DUTY i))
    (r_LOOP_LP_FAULT : ∀ i, R (Reg.LOOP_LP_FAULT i)) (r_LOOP_LP_STATE : ∀ i, R (Reg.LOOP_LP_STATE i))
    (r_STEP_AX_FAULT : ∀ i, R (Reg.STEP_AX_FAULT i)) (r_STEP_EVENTS : R Reg.STEP_EVENTS)
    (r_STEP_LINK_STATE : ∀ i, R (Reg.STEP_LINK_STATE i)) :
    FrameO F R sB (effLinkTimeout l s) := by
  delta effLinkTimeout
  repeat' first
    | with_reducible assumption | lift_lets | with_reducible apply FrameO.next
    | with_reducible apply State.linkDue_frame

theorem execCommaLost_frame {sB : State} (l : LinkId) (s : State) (hB : Frame F R sB s) (f_fresh : F .fresh)
    (f_out : F .out) (f_host : F .host) (f_ledg : F .ledg) (f_pace : F .pace) (f_flt : F .flt) (f_hwd : F .hwd)
    (f_burl : F .burl) (f_scan : F .scan) (f_beam : F .beam) (f_step : F .step) (f_axis : F .axis) (f_loop : F .loop)
    (f_leg : F .leg) (r_AXIS_AX_FAULT : ∀ i, R (Reg.AXIS_AX_FAULT i)) (r_AXIS_EVENTS : R Reg.AXIS_EVENTS)
    (r_AXIS_LINK_STATE : ∀ i, R (Reg.AXIS_LINK_STATE i)) (r_BEAM_EVENTS : R Reg.BEAM_EVENTS)
    (r_BEAM_STATUS : R Reg.BEAM_STATUS) (r_BEAM_STN_LINK_LOG : ∀ i, R (Reg.BEAM_STN_LINK_LOG i))
    (r_BEAM_STN_STATE : ∀ i, R (Reg.BEAM_STN_STATE i)) (r_HOST_ERR : R Reg.HOST_ERR)
    (r_LEDG_BH_STATUS : R Reg.LEDG_BH_STATUS) (r_LEDG_COUNT_JAM : R Reg.LEDG_COUNT_JAM)
    (r_LEDG_EVENTS : R Reg.LEDG_EVENTS) (r_LEDG_PACE_EVENTS : R Reg.LEDG_PACE_EVENTS)
    (r_LEDG_STATUS : R Reg.LEDG_STATUS) (r_LEG_STATUS : R Reg.LEG_STATUS) (r_LOOP_EVENTS : R Reg.LOOP_EVENTS)
    (r_LOOP_LINK_STATE : ∀ i, R (Reg.LOOP_LINK_STATE i)) (r_LOOP_LP_DUTY : ∀ i, R (Reg.LOOP_LP_DUTY i))
    (r_LOOP_LP_FAULT : ∀ i, R (Reg.LOOP_LP_FAULT i)) (r_LOOP_LP_STATE : ∀ i, R (Reg.LOOP_LP_STATE i))
    (r_STEP_AX_FAULT : ∀ i, R (Reg.STEP_AX_FAULT i)) (r_STEP_EVENTS : R Reg.STEP_EVENTS)
    (r_STEP_LINK_STATE : ∀ i, R (Reg.STEP_LINK_STATE i)) :
    FrameO F R sB (execCommaLost l s) := by
  delta execCommaLost
  repeat' first
    | with_reducible assumption | lift_lets | with_reducible apply FrameO.next
    | with_reducible apply State.loseLink_frame

theorem execLinkRetrain_frame {sB : State} (l : LinkId) (s : State) (hB : Frame F R sB s) (f_host : F .host)
    (f_hwd : F .hwd) (f_beam : F .beam) (f_step : F .step) (f_axis : F .axis) (f_loop : F .loop)
    (r_AXIS_EVENTS : R Reg.AXIS_EVENTS) (r_AXIS_LINK_STATE : ∀ i, R (Reg.AXIS_LINK_STATE i))
    (r_BEAM_EVENTS : R Reg.BEAM_EVENTS) (r_BEAM_STN_STATE : ∀ i, R (Reg.BEAM_STN_STATE i))
    (r_LOOP_EVENTS : R Reg.LOOP_EVENTS) (r_LOOP_LINK_STATE : ∀ i, R (Reg.LOOP_LINK_STATE i))
    (r_STEP_EVENTS : R Reg.STEP_EVENTS) (r_STEP_LINK_STATE : ∀ i, R (Reg.STEP_LINK_STATE i)) :
    FrameO F R sB (execLinkRetrain l s) := by
  delta execLinkRetrain
  repeat' first
    | with_reducible assumption | lift_lets | with_reducible apply FrameO.next
    | with_reducible apply State.beamRetrain_frame | with_reducible apply State.trainLink_frame
    | with_reducible apply FrameO.ite | split

/-! ### Ledger -/

theorem State.ledgerRow_frame {sB : State} (s : State) (kind op : Nat) (f : State → Item → State)
    (hf : ∀ u, Frame F R sB u → ∀ x0, Frame F R sB (f u x0)) (hB : Frame F R sB s) (f_fresh : F .fresh)
    (f_host : F .host) (f_hwd : F .hwd) (r_HOST_ERR : R Reg.HOST_ERR)
    (r_LEDG_COUNT_REFUSED : R Reg.LEDG_COUNT_REFUSED) (r_LEDG_EVENTS : R Reg.LEDG_EVENTS) :
    Frame F R sB (State.ledgerRow s kind op f) := by
  delta State.ledgerRow
  repeat' first
    | with_reducible assumption | lift_lets | with_reducible apply State.takeItem_frame
    | with_reducible apply State.refuseItem_frame | with_reducible apply hf | split

theorem State.countEntries_frame {sB : State} (s : State) (hB : Frame F R sB s) (r_LEDG_STATUS : R Reg.LEDG_STATUS) :
    Frame F R sB (State.countEntries s) := by
  delta State.countEntries
  repeat' first
    | with_reducible assumption | with_reducible apply State.setFld_frame

theorem State.acceptSheet_frame {sB : State} (s : State) (it : Item) (hB : Frame F R sB s) (f_fresh : F .fresh)
    (f_host : F .host) (f_ledg : F .ledg) (f_hwd : F .hwd) (r_HOST_ERR : R Reg.HOST_ERR)
    (r_LEDG_EVENTS : R Reg.LEDG_EVENTS) (r_LEDG_NEXT_ID : R Reg.LEDG_NEXT_ID) (r_LEDG_STATUS : R Reg.LEDG_STATUS) :
    Frame F R sB (State.acceptSheet s it) := by
  delta State.acceptSheet
  repeat' first
    | with_reducible assumption | lift_lets
    | (intro x; refine (fun (hx : Frame F R sB x) => ?_) ?_ <;> [clear_value x; subst x])
    | with_reducible apply State.wrN_frame | with_reducible apply State.setFlag_frame
    | with_reducible apply State.event_frame | with_reducible apply State.raiseBit_frame
    | with_reducible apply State.complete_frame | with_reducible apply State.putSheet_frame
    | with_reducible apply State.ledgerRecord_frame | with_reducible apply State.countEntries_frame
    | (intro x; clear_value x) | with_reducible apply Frame.ite

theorem effAnnounce_frame {sB : State} (s : State) (hB : Frame F R sB s) (f_fresh : F .fresh) (f_host : F .host)
    (f_ledg : F .ledg) (f_hwd : F .hwd) (r_HOST_ERR : R Reg.HOST_ERR)
    (r_LEDG_COUNT_REFUSED : R Reg.LEDG_COUNT_REFUSED) (r_LEDG_EVENTS : R Reg.LEDG_EVENTS)
    (r_LEDG_NEXT_ID : R Reg.LEDG_NEXT_ID) (r_LEDG_STATUS : R Reg.LEDG_STATUS) :
    FrameO F R sB (effAnnounce s) := by
  delta effAnnounce
  repeat' first
    | with_reducible assumption | intro (u : State) (hu : Frame F R sB u) | lift_lets
    | with_reducible apply FrameO.next | with_reducible apply State.refuseItem_frame
    | with_reducible apply State.ledgerRow_frame | with_reducible apply State.acceptSheet_frame | intro _ | split

theorem State.purgeSheet_frame {sB : State} (s : State) (sh : Sheet) (hB : Frame F R sB s) (f_fresh : F .fresh)
    (f_host : F .host) (f_ledg : F .ledg) (f_hwd : F .hwd) (f_burl : F .burl) (f_scan : F .scan)
    (r_HOST_ERR : R Reg.HOST_ERR) :
    Frame F R sB (State.purgeSheet s sh) := by
  delta State.purgeSheet
  repeat' first
    | with_reducible assumption | lift_lets | with_reducible apply State.dropLanes_frame
    | with_reducible apply State.dropLines_frame | with_reducible apply State.moveSheet_frame
    | with_reducible apply State.stopSheet_frame | with_reducible refine Frame.mk' ?_ rfl

theorem State.decidePurge_frame {sB : State} (s : State) (it : Item) (hB : Frame F R sB s) (f_fresh : F .fresh)
    (f_host : F .host) (f_ledg : F .ledg) (f_hwd : F .hwd) (f_burl : F .burl) (f_scan : F .scan)
    (r_HOST_ERR : R Reg.HOST_ERR) (r_LEDG_COUNT_REFUSED : R Reg.LEDG_COUNT_REFUSED)
    (r_LEDG_EVENTS : R Reg.LEDG_EVENTS) :
    Frame F R sB (State.decidePurge s it) := by
  delta State.decidePurge
  repeat' first
    | with_reducible assumption | lift_lets | with_reducible apply State.complete_frame
    | with_reducible apply State.refuseItem_frame | with_reducible apply State.purgeSheet_frame
    | with_reducible apply Frame.ite | split

theorem effPurge_frame {sB : State} (s : State) (hB : Frame F R sB s) (f_fresh : F .fresh) (f_host : F .host)
    (f_ledg : F .ledg) (f_hwd : F .hwd) (f_burl : F .burl) (f_scan : F .scan) (r_HOST_ERR : R Reg.HOST_ERR)
    (r_LEDG_COUNT_REFUSED : R Reg.LEDG_COUNT_REFUSED) (r_LEDG_EVENTS : R Reg.LEDG_EVENTS) :
    FrameO F R sB (effPurge s) := by
  delta effPurge
  repeat' first
    | with_reducible assumption | intro (u : State) (hu : Frame F R sB u) | lift_lets
    | with_reducible apply FrameO.next | with_reducible apply State.ledgerRow_frame
    | with_reducible apply State.decidePurge_frame | intro _

theorem State.decideReprint_frame {sB : State} (s : State) (it : Item) (hB : Frame F R sB s) (f_fresh : F .fresh)
    (f_host : F .host) (f_ledg : F .ledg) (f_hwd : F .hwd) (r_HOST_ERR : R Reg.HOST_ERR)
    (r_LEDG_COUNT_REFUSED : R Reg.LEDG_COUNT_REFUSED) (r_LEDG_EVENTS : R Reg.LEDG_EVENTS) :
    Frame F R sB (State.decideReprint s it) := by
  delta State.decideReprint
  repeat' first
    | with_reducible assumption | lift_lets
    | (intro x; refine (fun (hx : Frame F R sB x) => ?_) ?_ <;> [clear_value x; subst x])
    | with_reducible apply State.complete_frame | with_reducible apply State.moveSheet_frame
    | with_reducible apply State.refuseItem_frame | (intro x; clear_value x) | with_reducible apply Frame.ite | split
    | with_reducible refine Frame.mk' ?_ rfl

theorem effReprint_frame {sB : State} (s : State) (hB : Frame F R sB s) (f_fresh : F .fresh) (f_host : F .host)
    (f_ledg : F .ledg) (f_hwd : F .hwd) (r_HOST_ERR : R Reg.HOST_ERR)
    (r_LEDG_COUNT_REFUSED : R Reg.LEDG_COUNT_REFUSED) (r_LEDG_EVENTS : R Reg.LEDG_EVENTS) :
    FrameO F R sB (effReprint s) := by
  delta effReprint
  repeat' first
    | with_reducible assumption | intro (u : State) (hu : Frame F R sB u) | lift_lets
    | with_reducible apply FrameO.next | with_reducible apply State.ledgerRow_frame
    | with_reducible apply State.decideReprint_frame | intro _

theorem State.decideJamClear_frame {sB : State} (s : State) (it : Item) (hB : Frame F R sB s) (f_fresh : F .fresh)
    (f_host : F .host) (f_ledg : F .ledg) (f_hwd : F .hwd) (r_HOST_ERR : R Reg.HOST_ERR)
    (r_LEDG_COUNT_REFUSED : R Reg.LEDG_COUNT_REFUSED) (r_LEDG_EVENTS : R Reg.LEDG_EVENTS)
    (r_LEDG_STATUS : R Reg.LEDG_STATUS) :
    Frame F R sB (State.decideJamClear s it) := by
  delta State.decideJamClear
  repeat' first
    | with_reducible assumption | intro (u : State) (hu : Frame F R sB u) | lift_lets
    | (intro x; refine (fun (hx : Frame F R sB x) => ?_) ?_ <;> [clear_value x; subst x])
    | with_reducible apply State.setFlag_frame | with_reducible apply State.event_frame
    | with_reducible apply State.complete_frame | with_reducible apply State.putSheet_frame
    | with_reducible apply State.ledgerRecord_frame | with_reducible apply State.refuseItem_frame
    | with_reducible apply Frame.foldl | (intro x; clear_value x) | intro _ | with_reducible apply Frame.ite
    | with_reducible refine Frame.mk' ?_ rfl

theorem effJamClear_frame {sB : State} (s : State) (hB : Frame F R sB s) (f_fresh : F .fresh) (f_host : F .host)
    (f_ledg : F .ledg) (f_hwd : F .hwd) (r_HOST_ERR : R Reg.HOST_ERR)
    (r_LEDG_COUNT_REFUSED : R Reg.LEDG_COUNT_REFUSED) (r_LEDG_EVENTS : R Reg.LEDG_EVENTS)
    (r_LEDG_STATUS : R Reg.LEDG_STATUS) :
    FrameO F R sB (effJamClear s) := by
  delta effJamClear
  repeat' first
    | with_reducible assumption | intro (u : State) (hu : Frame F R sB u) | lift_lets
    | with_reducible apply FrameO.next | with_reducible apply State.ledgerRow_frame
    | with_reducible apply State.decideJamClear_frame | intro _

theorem State.decideQuery_frame {sB : State} (s : State) (it : Item) (hB : Frame F R sB s) (f_fresh : F .fresh)
    (f_host : F .host) (f_hwd : F .hwd) (r_HOST_ERR : R Reg.HOST_ERR)
    (r_LEDG_COUNT_REFUSED : R Reg.LEDG_COUNT_REFUSED) (r_LEDG_EVENTS : R Reg.LEDG_EVENTS) :
    Frame F R sB (State.decideQuery s it) := by
  delta State.decideQuery
  repeat' first
    | with_reducible assumption | lift_lets | with_reducible apply State.complete_frame
    | with_reducible apply State.ledgerRecord_frame | with_reducible apply State.refuseItem_frame
    | with_reducible apply Frame.ite | split

theorem effQuery_frame {sB : State} (s : State) (hB : Frame F R sB s) (f_fresh : F .fresh) (f_host : F .host)
    (f_hwd : F .hwd) (r_HOST_ERR : R Reg.HOST_ERR) (r_LEDG_COUNT_REFUSED : R Reg.LEDG_COUNT_REFUSED)
    (r_LEDG_EVENTS : R Reg.LEDG_EVENTS) :
    FrameO F R sB (effQuery s) := by
  delta effQuery
  repeat' first
    | with_reducible assumption | intro (u : State) (hu : Frame F R sB u) | lift_lets
    | with_reducible apply FrameO.next | with_reducible apply State.ledgerRow_frame
    | with_reducible apply State.decideQuery_frame | intro _

theorem State.admitSheet_frame {sB : State} (s : State) (h : Sheet) (hB : Frame F R sB s) (f_fresh : F .fresh)
    (f_out : F .out) (f_host : F .host) (f_ledg : F .ledg) (f_hwd : F .hwd) (f_scan : F .scan)
    (r_HOST_ERR : R Reg.HOST_ERR) (r_LEDG_PACE_COUNT_EXT : R Reg.LEDG_PACE_COUNT_EXT) :
    Frame F R sB (State.admitSheet s h) := by
  delta State.admitSheet
  repeat' first
    | with_reducible assumption | lift_lets | with_reducible apply State.bump_frame
    | with_reducible apply State.pathNotice_frame | with_reducible apply State.moveSheet_frame
    | with_reducible apply State.giveSheet_frame | with_reducible apply Frame.ite | split
    | with_reducible refine Frame.mk' ?_ rfl

theorem effAdmission_frame {sB : State} (s : State) (hB : Frame F R sB s) (f_fresh : F .fresh) (f_out : F .out)
    (f_host : F .host) (f_ledg : F .ledg) (f_hwd : F .hwd) (f_scan : F .scan) (r_HOST_ERR : R Reg.HOST_ERR)
    (r_LEDG_HEAD_ID : R Reg.LEDG_HEAD_ID) (r_LEDG_PACE_COUNT_EXT : R Reg.LEDG_PACE_COUNT_EXT)
    (r_LEDG_STATUS : R Reg.LEDG_STATUS) :
    FrameO F R sB (effAdmission s) := by
  delta effAdmission
  repeat' first
    | with_reducible assumption | lift_lets
    | (intro x; refine (fun (hx : Frame F R sB x) => ?_) ?_ <;> [clear_value x; subst x])
    | with_reducible apply FrameO.next | with_reducible apply State.showHead_frame
    | with_reducible apply State.admitSheet_frame | with_reducible apply FrameO.ite | split

theorem effCommit_frame {sB : State} (id : Nat) (s : State) (hB : Frame F R sB s) (f_fresh : F .fresh)
    (f_host : F .host) (f_ledg : F .ledg) (f_hwd : F .hwd) (r_HOST_ERR : R Reg.HOST_ERR) :
    FrameO F R sB (effCommit id s) := by
  delta effCommit
  repeat' first
    | with_reducible assumption | lift_lets | with_reducible apply FrameO.next
    | with_reducible apply State.moveSheet_frame | with_reducible apply FrameO.ite | split

theorem effPick_frame {sB : State} (id : Nat) (s : State) (hB : Frame F R sB s) (f_out : F .out) (f_ledg : F .ledg) :
    FrameO F R sB (effPick id s) := by
  delta effPick
  repeat' first
    | with_reducible assumption | lift_lets
    | (intro x; refine (fun (hx : Frame F R sB x) => ?_) ?_ <;> [clear_value x; subst x])
    | with_reducible apply FrameO.next | with_reducible apply State.pathNotice_frame | (intro x; clear_value x)
    | with_reducible apply FrameO.ite | split | with_reducible refine Frame.mk' ?_ rfl

theorem State.takeEdge_frame {sB : State} (s : State) (sh : Sheet) (k : Nat) (trail : Bool) (at_ : Int)
    (hB : Frame F R sB s) (f_ledg : F .ledg) :
    Frame F R sB (State.takeEdge s sh k trail at_) := by
  delta State.takeEdge
  repeat' first
    | with_reducible assumption | lift_lets
    | (intro x; refine (fun (hx : Frame F R sB x) => ?_) ?_ <;> [clear_value x; subst x])
    | with_reducible apply State.meetTarget_frame | (intro x; clear_value x) | with_reducible refine Frame.mk' ?_ rfl

theorem State.judgeEdge_frame {sB : State} (s : State) (k : Nat) (e : Edge) (hB : Frame F R sB s) (f_fresh : F .fresh)
    (f_out : F .out) (f_host : F .host) (f_ledg : F .ledg) (f_pace : F .pace) (f_flt : F .flt) (f_hwd : F .hwd)
    (f_burl : F .burl) (f_scan : F .scan) (f_step : F .step) (f_axis : F .axis) (f_leg : F .leg)
    (r_HOST_ERR : R Reg.HOST_ERR) (r_LEDG_BH_STATUS : R Reg.LEDG_BH_STATUS) (r_LEDG_COUNT_JAM : R Reg.LEDG_COUNT_JAM)
    (r_LEDG_EVENTS : R Reg.LEDG_EVENTS) (r_LEDG_PACE_EVENTS : R Reg.LEDG_PACE_EVENTS)
    (r_LEDG_STATUS : R Reg.LEDG_STATUS) (r_LEG_STATUS : R Reg.LEG_STATUS) :
    Frame F R sB (State.judgeEdge s k e) := by
  delta State.judgeEdge
  repeat' first
    | with_reducible assumption | lift_lets | with_reducible apply State.jam_frame
    | with_reducible apply State.takeEdge_frame | (intro x; clear_value x) | with_reducible apply Frame.ite | split

theorem effSheetEdge_frame {sB : State} (p : Fin 4) (s : State) (hB : Frame F R sB s) (f_fresh : F .fresh) (f_out : F
    .out) (f_host : F .host) (f_ledg : F .ledg) (f_pace : F .pace) (f_flt : F .flt) (f_hwd : F .hwd) (f_burl : F
    .burl) (f_scan : F .scan) (f_step : F .step) (f_sio : F .sio) (f_axis : F .axis) (f_leg : F .leg) (r_HOST_ERR : R
    Reg.HOST_ERR) (r_LEDG_BH_STATUS : R Reg.LEDG_BH_STATUS) (r_LEDG_COUNT_JAM : R Reg.LEDG_COUNT_JAM) (r_LEDG_EVENTS :
    R Reg.LEDG_EVENTS) (r_LEDG_PACE_EVENTS : R Reg.LEDG_PACE_EVENTS) (r_LEDG_STATUS : R Reg.LEDG_STATUS) (r_LEG_STATUS
    : R Reg.LEG_STATUS) : FrameO F R sB (effSheetEdge p s) := by
  unfold effSheetEdge
  split
  · exact FrameO.next hB
  · split
    · rename_i e t h
      have h1 := State.gatherScap_frame _ _ _ _ _ h hB f_sio
      repeat' first
        | with_reducible assumption | lift_lets | with_reducible apply FrameO.next
        | with_reducible apply State.judgeEdge_frame
    · exact FrameO.next hB

theorem effEdgeWindowExpiry_frame {sB : State} (id : Nat) (point : Fin 4) (trail : Bool) (s : State)
    (hB : Frame F R sB s) (f_fresh : F .fresh) (f_out : F .out) (f_host : F .host) (f_ledg : F .ledg)
    (f_pace : F .pace) (f_flt : F .flt) (f_hwd : F .hwd) (f_burl : F .burl) (f_scan : F .scan) (f_step : F .step)
    (f_axis : F .axis) (f_leg : F .leg) (r_HOST_ERR : R Reg.HOST_ERR) (r_LEDG_BH_STATUS : R Reg.LEDG_BH_STATUS)
    (r_LEDG_COUNT_JAM : R Reg.LEDG_COUNT_JAM) (r_LEDG_EVENTS : R Reg.LEDG_EVENTS)
    (r_LEDG_PACE_EVENTS : R Reg.LEDG_PACE_EVENTS) (r_LEDG_STATUS : R Reg.LEDG_STATUS)
    (r_LEG_STATUS : R Reg.LEG_STATUS) :
    FrameO F R sB (effEdgeWindowExpiry id point trail s) := by
  delta effEdgeWindowExpiry
  repeat' first
    | with_reducible assumption | lift_lets | with_reducible apply FrameO.next
    | with_reducible apply State.putSheet_frame | with_reducible apply State.jam_frame
    | with_reducible apply FrameO.ite | split

theorem effTargetWithoutEdge_frame {sB : State} (id : Nat) (point : Fin 4) (trail : Bool) (s : State)
    (hB : Frame F R sB s) (f_ledg : F .ledg) :
    FrameO F R sB (effTargetWithoutEdge id point trail s) := by
  delta effTargetWithoutEdge
  repeat' first
    | with_reducible assumption | lift_lets | with_reducible apply FrameO.next
    | with_reducible apply State.meetTarget_frame | with_reducible apply FrameO.ite | split

theorem State.onReport_frame {sB : State} (s : State) (k : ReportKind) (f : State → Report → State)
    (hf : ∀ u, Frame F R sB u → ∀ x0, Frame F R sB (f u x0)) (hB : Frame F R sB s) (f_ledg : F .ledg) :
    Frame F R sB (State.onReport s k f) := by
  delta State.onReport
  repeat' first
    | with_reducible assumption | lift_lets | with_reducible apply State.dropReport_frame | with_reducible apply hf
    | split

theorem State.bandBegun_frame {sB : State} (s : State) (r : Report) (hB : Frame F R sB s) (f_ledg : F .ledg)
    (f_pace : F .pace) :
    Frame F R sB (State.bandBegun s r) := by
  delta State.bandBegun
  repeat' first
    | with_reducible assumption | lift_lets
    | (intro x; refine (fun (hx : Frame F R sB x) => ?_) ?_ <;> [clear_value x; subst x])
    | with_reducible apply State.putSheet_frame | (intro x; clear_value x) | split
    | with_reducible refine Frame.mk' ?_ rfl

theorem execBandBegun_frame {sB : State} (s : State) (hB : Frame F R sB s) (f_ledg : F .ledg) (f_pace : F .pace) :
    FrameO F R sB (execBandBegun s) := by
  delta execBandBegun
  repeat' first
    | with_reducible assumption | intro (u : State) (hu : Frame F R sB u) | lift_lets
    | with_reducible apply FrameO.next | with_reducible apply State.onReport_frame
    | with_reducible apply State.bandBegun_frame | intro _

theorem State.fireDeadline_frame {sB : State} (s : State) (sh : Sheet) (stn band : Nat) (hB : Frame F R sB s)
    (f_fresh : F .fresh) (f_host : F .host) (f_ledg : F .ledg) (f_hwd : F .hwd) (f_burl : F .burl) (f_scan : F .scan)
    (r_HOST_ERR : R Reg.HOST_ERR) (r_LEDG_COUNT_SPOILED : R Reg.LEDG_COUNT_SPOILED)
    (r_LEDG_EVENTS : R Reg.LEDG_EVENTS) :
    Frame F R sB (State.fireDeadline s sh stn band) := by
  delta State.fireDeadline
  repeat' first
    | with_reducible assumption | lift_lets | with_reducible apply State.putSheet_frame
    | with_reducible apply State.withdraw_frame | with_reducible apply State.spoil_frame | (intro x; clear_value x)
    | with_reducible apply Frame.ite

theorem effBandDeadline_frame {sB : State} (id : Nat) (stn : Fin 8) (band : Nat) (s : State) (hB : Frame F R sB s)
    (f_fresh : F .fresh) (f_host : F .host) (f_ledg : F .ledg) (f_hwd : F .hwd) (f_burl : F .burl) (f_scan : F .scan)
    (r_HOST_ERR : R Reg.HOST_ERR) (r_LEDG_COUNT_SPOILED : R Reg.LEDG_COUNT_SPOILED)
    (r_LEDG_EVENTS : R Reg.LEDG_EVENTS) :
    FrameO F R sB (effBandDeadline id stn band s) := by
  delta effBandDeadline
  repeat' first
    | with_reducible assumption | lift_lets | with_reducible apply FrameO.next
    | with_reducible apply State.fireDeadline_frame | with_reducible apply FrameO.ite | split

theorem effLastLine_frame {sB : State} (s : State) (hB : Frame F R sB s) (f_fresh : F .fresh) (f_host : F .host)
    (f_ledg : F .ledg) (f_hwd : F .hwd) (r_HOST_ERR : R Reg.HOST_ERR)
    (r_LEDG_COUNT_DELIVERED : R Reg.LEDG_COUNT_DELIVERED) (r_LEDG_EVENTS : R Reg.LEDG_EVENTS) :
    FrameO F R sB (effLastLine s) := by
  delta effLastLine
  repeat' first
    | with_reducible assumption | intro (u : State) (hu : Frame F R sB u) | lift_lets
    | with_reducible apply FrameO.next | with_reducible apply State.putSheet_frame
    | with_reducible apply State.progress_frame | with_reducible apply State.onReport_frame | intro _ | split

theorem effUnderrunReport_frame {sB : State} (s : State) (hB : Frame F R sB s) (f_fresh : F .fresh)
    (f_host : F .host) (f_ledg : F .ledg) (f_hwd : F .hwd) (f_burl : F .burl) (f_scan : F .scan)
    (r_HOST_ERR : R Reg.HOST_ERR) (r_LEDG_COUNT_SPOILED : R Reg.LEDG_COUNT_SPOILED)
    (r_LEDG_EVENTS : R Reg.LEDG_EVENTS) :
    FrameO F R sB (effUnderrunReport s) := by
  delta effUnderrunReport
  repeat' first
    | with_reducible assumption | intro (u : State) (hu : Frame F R sB u) | lift_lets
    | with_reducible apply FrameO.next | with_reducible apply State.spoil_frame
    | with_reducible apply State.onReport_frame | intro _ | with_reducible apply Frame.ite | split

theorem effBeamFailureReport_frame {sB : State} (s : State) (hB : Frame F R sB s) (f_fresh : F .fresh)
    (f_host : F .host) (f_ledg : F .ledg) (f_hwd : F .hwd) (f_burl : F .burl) (f_scan : F .scan)
    (r_HOST_ERR : R Reg.HOST_ERR) (r_LEDG_COUNT_SPOILED : R Reg.LEDG_COUNT_SPOILED)
    (r_LEDG_EVENTS : R Reg.LEDG_EVENTS) :
    FrameO F R sB (effBeamFailureReport s) := by
  delta effBeamFailureReport
  repeat' first
    | with_reducible assumption | intro (u : State) (hu : Frame F R sB u) | lift_lets
    | with_reducible apply FrameO.next | with_reducible apply State.spoilAll_frame
    | with_reducible apply State.onReport_frame | intro _

theorem effHeadShutdownReport_frame {sB : State} (s : State) (hB : Frame F R sB s) (f_fresh : F .fresh)
    (f_host : F .host) (f_ledg : F .ledg) (f_hwd : F .hwd) (f_burl : F .burl) (f_scan : F .scan)
    (r_HOST_ERR : R Reg.HOST_ERR) (r_LEDG_COUNT_SPOILED : R Reg.LEDG_COUNT_SPOILED)
    (r_LEDG_EVENTS : R Reg.LEDG_EVENTS) :
    FrameO F R sB (effHeadShutdownReport s) := by
  delta effHeadShutdownReport
  repeat' first
    | with_reducible assumption | intro (u : State) (hu : Frame F R sB u) | lift_lets
    | with_reducible apply FrameO.next | with_reducible apply State.spoilAll_frame
    | with_reducible apply State.onReport_frame | intro _

theorem effObserverLossReport_frame {sB : State} (s : State) (hB : Frame F R sB s) (f_fresh : F .fresh)
    (f_host : F .host) (f_ledg : F .ledg) (f_hwd : F .hwd) (f_burl : F .burl) (f_scan : F .scan)
    (r_HOST_ERR : R Reg.HOST_ERR) (r_LEDG_COUNT_SPOILED : R Reg.LEDG_COUNT_SPOILED)
    (r_LEDG_EVENTS : R Reg.LEDG_EVENTS) :
    FrameO F R sB (effObserverLossReport s) := by
  delta effObserverLossReport
  repeat' first
    | with_reducible assumption | intro (u : State) (hu : Frame F R sB u) | lift_lets
    | with_reducible apply FrameO.next | with_reducible apply State.spoilAll_frame
    | with_reducible apply State.onReport_frame | intro _

theorem effDecodeFailureReport_frame {sB : State} (s : State) (hB : Frame F R sB s) (f_fresh : F .fresh)
    (f_host : F .host) (f_ledg : F .ledg) (f_hwd : F .hwd) (f_burl : F .burl) (f_dram : F .dram) (f_scan : F .scan)
    (r_HOST_ERR : R Reg.HOST_ERR) (r_LEDG_COUNT_SPOILED : R Reg.LEDG_COUNT_SPOILED)
    (r_LEDG_EVENTS : R Reg.LEDG_EVENTS) :
    FrameO F R sB (effDecodeFailureReport s) := by
  delta effDecodeFailureReport
  repeat' first
    | with_reducible assumption | intro (u : State) (hu : Frame F R sB u) | lift_lets
    | (intro x; refine (fun (hx : Frame F R sB x) => ?_) ?_ <;> [clear_value x; subst x])
    | with_reducible apply FrameO.next | with_reducible apply State.freeBand_frame
    | with_reducible apply State.putSheet_frame | with_reducible apply State.withdraw_frame
    | with_reducible apply State.spoil_frame | with_reducible apply State.onReport_frame | (intro x; clear_value x)
    | intro _ | with_reducible apply Frame.ite | split

theorem effEntryFreed_frame {sB : State} (id : Nat) (s : State) (hB : Frame F R sB s) (f_ledg : F .ledg)
    (f_burl : F .burl) (f_dram : F .dram) (f_scan : F .scan) (r_LEDG_STATUS : R Reg.LEDG_STATUS) :
    FrameO F R sB (effEntryFreed id s) := by
  delta effEntryFreed
  repeat' first
    | with_reducible assumption | lift_lets | with_reducible apply FrameO.next
    | with_reducible apply State.freeSheet_frame | with_reducible apply State.countEntries_frame
    | (intro x; clear_value x) | with_reducible apply FrameO.ite | split | with_reducible refine Frame.mk' ?_ rfl

theorem State.movePath_frame {sB : State} (s : State) (hB : Frame F R sB s) (f_ledg : F .ledg)
    (r_LEDG_PATH_POS_HI : R Reg.LEDG_PATH_POS_HI) (r_LEDG_PATH_POS_LO : R Reg.LEDG_PATH_POS_LO) :
    Frame F R sB (State.movePath s) := by
  delta State.movePath
  repeat' first
    | with_reducible assumption | lift_lets | with_reducible apply State.wrN_frame
    | with_reducible refine Frame.mk' ?_ rfl

theorem State.updateGap_frame {sB : State} (s : State) (hB : Frame F R sB s) (r_LEDG_STATUS : R Reg.LEDG_STATUS) :
    Frame F R sB (State.updateGap s) := by
  delta State.updateGap
  repeat' first
    | with_reducible assumption | with_reducible apply State.setFlag_frame

/-! ### Sio -/

theorem State.queueEdge_frame {sB : State} (s : State) (i first at_ : Nat) (rising : Bool) (hB : Frame F R sB s)
    (f_host : F .host) (f_sio : F .sio) (r_SIO_EVENTS : R Reg.SIO_EVENTS) :
    Frame F R sB (State.queueEdge s i first at_ rising) := by
  delta State.queueEdge
  repeat' first
    | with_reducible assumption | lift_lets | with_reducible apply State.raiseBit_frame | (intro x; clear_value x)
    | with_reducible apply Frame.ite | with_reducible refine Frame.mk' ?_ rfl

theorem State.settleScap_frame {sB : State} (s : State) (i now : Nat) (hB : Frame F R sB s) (f_host : F .host)
    (f_sio : F .sio) (r_SIO_EVENTS : R Reg.SIO_EVENTS) :
    Frame F R sB (State.settleScap s i now) := by
  delta State.settleScap
  repeat' first
    | with_reducible assumption | lift_lets | with_reducible apply State.queueEdge_frame | (intro x; clear_value x)
    | with_reducible apply Frame.ite

theorem execScapEdge_frame {sB : State} (i : Fin 8) (level : Bool) (sub : Fin 2500) (s : State) (hB : Frame F R sB s)
    (f_host : F .host) (f_sio : F .sio) (r_SIO_EVENTS : R Reg.SIO_EVENTS) :
    FrameO F R sB (execScapEdge i level sub s) := by
  delta execScapEdge
  repeat' first
    | with_reducible assumption | lift_lets
    | (intro x; refine (fun (hx : Frame F R sB x) => ?_) ?_ <;> [clear_value x; subst x])
    | with_reducible apply FrameO.next | with_reducible apply State.settleScap_frame | (intro x; clear_value x)
    | with_reducible apply FrameO.ite | with_reducible refine Frame.mk' ?_ rfl

theorem State.settleAll_frame {sB : State} (s : State) (hB : Frame F R sB s) (f_host : F .host) (f_sio : F .sio)
    (r_SIO_EVENTS : R Reg.SIO_EVENTS) :
    Frame F R sB (State.settleAll s) := by
  delta State.settleAll
  repeat' first
    | with_reducible assumption | intro (u : State) (hu : Frame F R sB u) | lift_lets
    | with_reducible apply State.upTo_frame | with_reducible apply State.settleScap_frame | intro _

theorem State.trimScap_frame {sB : State} (s : State) (hB : Frame F R sB s) (f_sio : F .sio) :
    Frame F R sB (State.trimScap s) := by
  delta State.trimScap
  repeat' first
    | with_reducible assumption | intro (u : State) (hu : Frame F R sB u) | lift_lets
    | with_reducible apply State.upTo_frame | (intro x; clear_value x) | intro _ | with_reducible apply Frame.ite
    | with_reducible refine Frame.mk' ?_ rfl

theorem State.latchChain_frame {sB : State} (s : State) (bits : List Bool) (hB : Frame F R sB s) (f_sio : F .sio) :
    Frame F R sB (State.latchChain s bits) := by
  delta State.latchChain
  repeat' first
    | with_reducible assumption | lift_lets | (intro x; clear_value x) | with_reducible apply Frame.ite
    | with_reducible refine Frame.mk' ?_ rfl

theorem State.chainEmit_frame {sB : State} (s : State) (hB : Frame F R sB s) (f_out : F .out) :
    Frame F R sB (State.chainEmit s) := by
  delta State.chainEmit
  repeat' first
    | with_reducible assumption | lift_lets | with_reducible apply State.emit_frame | with_reducible apply Frame.ite

/-! ### PageStore -/

theorem State.refuseIngress_frame {sB : State} (s : State) (it : Item) (code : Nat) (hB : Frame F R sB s)
    (f_fresh : F .fresh) (f_host : F .host) (f_hwd : F .hwd) (r_BURL_COUNT_REFUSED : R Reg.BURL_COUNT_REFUSED)
    (r_BURL_EVENTS : R Reg.BURL_EVENTS) (r_BURL_ING_ERR : R Reg.BURL_ING_ERR)
    (r_BURL_ING_TAG_HI : R Reg.BURL_ING_TAG_HI) (r_BURL_ING_TAG_LO : R Reg.BURL_ING_TAG_LO)
    (r_HOST_ERR : R Reg.HOST_ERR) (r_LEDG_COUNT_REFUSED : R Reg.LEDG_COUNT_REFUSED)
    (r_LEDG_EVENTS : R Reg.LEDG_EVENTS) :
    Frame F R sB (State.refuseIngress s it code) := by
  delta State.refuseIngress
  repeat' first
    | with_reducible assumption | lift_lets
    | (intro x; refine (fun (hx : Frame F R sB x) => ?_) ?_ <;> [clear_value x; subst x])
    | with_reducible apply State.wrN_frame | with_reducible apply State.bump_frame
    | with_reducible apply State.event_frame | with_reducible apply State.raiseBit_frame
    | with_reducible apply State.refuseItem_frame

theorem State.waitForFrames_frame {sB : State} (s : State) (it : Item) (hB : Frame F R sB s) (f_host : F .host)
    (f_ledg : F .ledg) (f_hwd : F .hwd) (r_DRAM_EVENTS : R Reg.DRAM_EVENTS) (r_DRAM_STATUS : R Reg.DRAM_STATUS) :
    Frame F R sB (State.waitForFrames s it) := by
  delta State.waitForFrames
  repeat' first
    | with_reducible assumption | lift_lets | with_reducible apply State.setFlag_frame
    | with_reducible apply State.event_frame | with_reducible apply State.raiseBit_frame | (intro x; clear_value x)
    | with_reducible apply Frame.ite | with_reducible refine Frame.mk' ?_ rfl

theorem State.endWait_frame {sB : State} (s : State) (stn : Nat) (hB : Frame F R sB s) (f_ledg : F .ledg)
    (r_DRAM_STATUS : R Reg.DRAM_STATUS) :
    Frame F R sB (State.endWait s stn) := by
  delta State.endWait
  repeat' first
    | with_reducible assumption | lift_lets | with_reducible apply State.setFlag_frame
    | with_reducible refine Frame.mk' ?_ rfl

theorem State.startLanes_frame {sB : State} (s : State) (hB : Frame F R sB s) (f_burl : F .burl) :
    Frame F R sB (State.startLanes s) := by
  delta State.startLanes
  repeat' first
    | with_reducible assumption | intro (u : State) (hu : Frame F R sB u) | lift_lets
    | with_reducible apply Frame.foldl | intro _ | with_reducible apply Frame.ite
    | with_reducible refine Frame.mk' ?_ rfl

theorem State.acceptData_frame {sB : State} (s : State) (it : Item) (sh : Sheet) (frames : List Nat)
    (hB : Frame F R sB s) (f_burl : F .burl) (f_dram : F .dram) (r_BURL_COUNT_IN : R Reg.BURL_COUNT_IN)
    (r_DRAM_FRAMES_FREE : R Reg.DRAM_FRAMES_FREE) (r_DRAM_PS_HELD : ∀ i, R (Reg.DRAM_PS_HELD i)) :
    Frame F R sB (State.acceptData s it sh frames) := by
  delta State.acceptData
  repeat' first
    | with_reducible assumption | lift_lets
    | (intro x; refine (fun (hx : Frame F R sB x) => ?_) ?_ <;> [clear_value x; subst x])
    | with_reducible apply State.bump_frame | with_reducible apply State.takeFrames_frame
    | with_reducible apply State.startLanes_frame | (intro x; clear_value x) | with_reducible apply Frame.ite
    | with_reducible refine Frame.mk' ?_ rfl

theorem State.toPageStore_frame {sB : State} (s : State) (it : Item) (sh : Sheet) (frames : List Nat)
    (hB : Frame F R sB s) (f_fresh : F .fresh) (f_host : F .host) (f_ledg : F .ledg) (f_hwd : F .hwd)
    (f_burl : F .burl) (f_dram : F .dram) (r_BURL_COUNT_IN : R Reg.BURL_COUNT_IN)
    (r_BURL_COUNT_REFUSED : R Reg.BURL_COUNT_REFUSED) (r_BURL_EVENTS : R Reg.BURL_EVENTS)
    (r_BURL_ING_ERR : R Reg.BURL_ING_ERR) (r_BURL_ING_TAG_HI : R Reg.BURL_ING_TAG_HI)
    (r_BURL_ING_TAG_LO : R Reg.BURL_ING_TAG_LO) (r_DRAM_EVENTS : R Reg.DRAM_EVENTS)
    (r_DRAM_FRAMES_FREE : R Reg.DRAM_FRAMES_FREE) (r_DRAM_PS_HELD : ∀ i, R (Reg.DRAM_PS_HELD i))
    (r_DRAM_STATUS : R Reg.DRAM_STATUS) (r_HOST_ERR : R Reg.HOST_ERR)
    (r_LEDG_COUNT_REFUSED : R Reg.LEDG_COUNT_REFUSED) (r_LEDG_EVENTS : R Reg.LEDG_EVENTS) :
    Frame F R sB (State.toPageStore s it sh frames) := by
  delta State.toPageStore
  repeat' first
    | with_reducible assumption | lift_lets | with_reducible apply State.takeDirectory_frame
    | with_reducible apply State.refuseIngress_frame | with_reducible apply State.waitForFrames_frame
    | with_reducible apply State.endWait_frame | with_reducible apply State.acceptData_frame
    | (intro x; clear_value x) | with_reducible apply Frame.ite | split

theorem State.holdEarly_frame {sB : State} (s : State) (it : Item) (hB : Frame F R sB s) (f_ledg : F .ledg) :
    Frame F R sB (State.holdEarly s it) := by
  delta State.holdEarly
  repeat' first
    | with_reducible assumption | lift_lets | (intro x; clear_value x) | with_reducible refine Frame.mk' ?_ rfl

theorem State.dropEarly_frame {sB : State} (s : State) (stn : Nat) (hB : Frame F R sB s) (f_ledg : F .ledg) :
    Frame F R sB (State.dropEarly s stn) := by
  delta State.dropEarly
  repeat' first
    | with_reducible assumption | lift_lets | (intro x; clear_value x) | with_reducible refine Frame.mk' ?_ rfl

theorem effDataHeader_frame {sB : State} (stn : Fin 8) (frames : List Nat) (s : State) (hB : Frame F R sB s)
    (f_fresh : F .fresh) (f_host : F .host) (f_ledg : F .ledg) (f_hwd : F .hwd) (f_burl : F .burl) (f_dram : F .dram)
    (r_BURL_COUNT_IN : R Reg.BURL_COUNT_IN) (r_BURL_COUNT_REFUSED : R Reg.BURL_COUNT_REFUSED)
    (r_BURL_EVENTS : R Reg.BURL_EVENTS) (r_BURL_ING_ERR : R Reg.BURL_ING_ERR)
    (r_BURL_ING_TAG_HI : R Reg.BURL_ING_TAG_HI) (r_BURL_ING_TAG_LO : R Reg.BURL_ING_TAG_LO)
    (r_DRAM_EVENTS : R Reg.DRAM_EVENTS) (r_DRAM_FRAMES_FREE : R Reg.DRAM_FRAMES_FREE)
    (r_DRAM_PS_HELD : ∀ i, R (Reg.DRAM_PS_HELD i)) (r_DRAM_STATUS : R Reg.DRAM_STATUS) (r_HOST_ERR : R Reg.HOST_ERR)
    (r_LEDG_COUNT_REFUSED : R Reg.LEDG_COUNT_REFUSED) (r_LEDG_EVENTS : R Reg.LEDG_EVENTS) :
    FrameO F R sB (effDataHeader stn frames s) := by
  delta effDataHeader
  repeat' first
    | with_reducible assumption | lift_lets
    | (intro x; refine (fun (hx : Frame F R sB x) => ?_) ?_ <;> [clear_value x; subst x])
    | with_reducible apply FrameO.next | with_reducible apply State.dropInbox_frame
    | with_reducible apply State.refuseItem_frame | with_reducible apply State.toPageStore_frame
    | with_reducible apply State.holdEarly_frame | with_reducible apply State.dropEarly_frame
    | with_reducible apply Frame.ite | split

theorem effEarlyWaitExpiry_frame {sB : State} (stn : Fin 8) (s : State) (hB : Frame F R sB s) (f_fresh : F .fresh)
    (f_host : F .host) (f_ledg : F .ledg) (f_hwd : F .hwd) (r_HOST_ERR : R Reg.HOST_ERR)
    (r_LEDG_COUNT_REFUSED : R Reg.LEDG_COUNT_REFUSED) (r_LEDG_EVENTS : R Reg.LEDG_EVENTS) :
    FrameO F R sB (effEarlyWaitExpiry stn s) := by
  delta effEarlyWaitExpiry
  repeat' first
    | with_reducible assumption | lift_lets | with_reducible apply FrameO.next
    | with_reducible apply State.refuseItem_frame | with_reducible apply State.dropEarly_frame
    | with_reducible apply FrameO.ite | split

theorem effFramesAvailable_frame {sB : State} (stn : Fin 8) (frames : List Nat) (s : State) (hB : Frame F R sB s)
    (f_fresh : F .fresh) (f_host : F .host) (f_ledg : F .ledg) (f_hwd : F .hwd) (f_burl : F .burl) (f_dram : F .dram)
    (r_BURL_COUNT_IN : R Reg.BURL_COUNT_IN) (r_BURL_COUNT_REFUSED : R Reg.BURL_COUNT_REFUSED)
    (r_BURL_EVENTS : R Reg.BURL_EVENTS) (r_BURL_ING_ERR : R Reg.BURL_ING_ERR)
    (r_BURL_ING_TAG_HI : R Reg.BURL_ING_TAG_HI) (r_BURL_ING_TAG_LO : R Reg.BURL_ING_TAG_LO)
    (r_DRAM_EVENTS : R Reg.DRAM_EVENTS) (r_DRAM_FRAMES_FREE : R Reg.DRAM_FRAMES_FREE)
    (r_DRAM_PS_HELD : ∀ i, R (Reg.DRAM_PS_HELD i)) (r_DRAM_STATUS : R Reg.DRAM_STATUS) (r_HOST_ERR : R Reg.HOST_ERR)
    (r_LEDG_COUNT_REFUSED : R Reg.LEDG_COUNT_REFUSED) (r_LEDG_EVENTS : R Reg.LEDG_EVENTS) :
    FrameO F R sB (effFramesAvailable stn frames s) := by
  delta effFramesAvailable
  repeat' first
    | with_reducible assumption | lift_lets | with_reducible apply FrameO.next
    | with_reducible apply State.refuseItem_frame | with_reducible apply State.endWait_frame
    | with_reducible apply State.toPageStore_frame | split

theorem State.makeResident_frame {sB : State} (s : State) (sh : Sheet) (stn band : Nat) (hB : Frame F R sB s)
    (f_fresh : F .fresh) (f_host : F .host) (f_ledg : F .ledg) (f_pace : F .pace) (f_hwd : F .hwd)
    (r_HOST_ERR : R Reg.HOST_ERR) :
    Frame F R sB (State.makeResident s sh stn band) := by
  delta State.makeResident
  repeat' first
    | with_reducible assumption | lift_lets
    | (intro x; refine (fun (hx : Frame F R sB x) => ?_) ?_ <;> [clear_value x; subst x])
    | with_reducible apply State.event_frame | with_reducible apply State.putSheet_frame
    | with_reducible apply State.ledgerRecord_frame | (intro x; clear_value x) | with_reducible apply Frame.ite
    | with_reducible refine Frame.mk' ?_ rfl

theorem execBandResident_frame {sB : State} (sheet : Nat) (stn : Fin 8) (band : Nat) (s : State) (hB : Frame F R sB s)
    (f_fresh : F .fresh) (f_host : F .host) (f_ledg : F .ledg) (f_pace : F .pace) (f_hwd : F .hwd) (f_burl : F .burl)
    (f_dram : F .dram) (r_HOST_ERR : R Reg.HOST_ERR) (r_LEDG_COUNT_REFUSED : R Reg.LEDG_COUNT_REFUSED)
    (r_LEDG_EVENTS : R Reg.LEDG_EVENTS) :
    FrameO F R sB (execBandResident sheet stn band s) := by
  delta execBandResident
  repeat' first
    | with_reducible assumption | lift_lets
    | (intro x; refine (fun (hx : Frame F R sB x) => ?_) ?_ <;> [clear_value x; subst x])
    | with_reducible apply FrameO.next | with_reducible apply State.giveBack_frame
    | with_reducible apply State.setDirectory_frame | with_reducible apply State.storeBlock_frame
    | with_reducible apply State.complete_frame | with_reducible apply State.refuseItem_frame
    | with_reducible apply State.makeResident_frame | (intro x; clear_value x) | with_reducible apply FrameO.ite
    | split | with_reducible refine Frame.mk' ?_ rfl

theorem State.writeCompressed_frame {sB : State} (s : State) (j : CompJob) (hB : Frame F R sB s) (f_host : F .host)
    (f_burl : F .burl) (f_dram : F .dram) (r_BURL_COUNT_STORED : R Reg.BURL_COUNT_STORED)
    (r_BURL_EVENTS : R Reg.BURL_EVENTS) :
    Frame F R sB (State.writeCompressed s j) := by
  delta State.writeCompressed
  repeat' first
    | with_reducible assumption | lift_lets
    | (intro x; refine (fun (hx : Frame F R sB x) => ?_) ?_ <;> [clear_value x; subst x])
    | with_reducible apply State.bump_frame | with_reducible apply State.raiseBit_frame
    | with_reducible apply State.giveBack_frame | (intro x; clear_value x) | with_reducible apply Frame.ite
    | with_reducible refine Frame.mk' ?_ rfl

theorem execSegmentCompressed_frame {sB : State} (lane : Fin 16) (s : State) (hB : Frame F R sB s) (f_host : F .host)
    (f_burl : F .burl) (f_dram : F .dram) (r_BURL_COUNT_STORED : R Reg.BURL_COUNT_STORED)
    (r_BURL_EVENTS : R Reg.BURL_EVENTS) :
    FrameO F R sB (execSegmentCompressed lane s) := by
  delta execSegmentCompressed
  repeat' first
    | with_reducible assumption | lift_lets
    | (intro x; refine (fun (hx : Frame F R sB x) => ?_) ?_ <;> [clear_value x; subst x])
    | with_reducible apply FrameO.next | with_reducible apply State.startLanes_frame
    | with_reducible apply State.writeCompressed_frame | (intro x; clear_value x) | with_reducible apply FrameO.ite
    | split | with_reducible refine Frame.mk' ?_ rfl

theorem State.applyBindings_frame {sB : State} (s : State) (b : BindNext) (hB : Frame F R sB s) (f_host : F .host)
    (f_hwd : F .hwd) (f_burl : F .burl) (r_BURL_DBIND_ACT : ∀ i, R (Reg.BURL_DBIND_ACT i))
    (r_BURL_EVENTS : R Reg.BURL_EVENTS) (r_BURL_STATUS : R Reg.BURL_STATUS) :
    Frame F R sB (State.applyBindings s b) := by
  delta State.applyBindings
  repeat' first
    | with_reducible assumption | intro (u : State) (hu : Frame F R sB u) | lift_lets
    | with_reducible apply State.wrN_frame | with_reducible apply State.setFlag_frame
    | with_reducible apply State.event_frame | with_reducible apply State.raiseBit_frame
    | with_reducible apply r_BURL_DBIND_ACT | with_reducible apply Frame.foldl | intro _
    | with_reducible refine Frame.mk' ?_ rfl

theorem effDecodeBinding_frame {sB : State} (s : State) (hB : Frame F R sB s) (f_host : F .host) (f_hwd : F .hwd)
    (f_burl : F .burl) (r_BURL_DBIND : ∀ i, R (Reg.BURL_DBIND i)) (r_BURL_DBIND_ACT : ∀ i, R (Reg.BURL_DBIND_ACT i))
    (r_BURL_EVENTS : R Reg.BURL_EVENTS) (r_BURL_STATUS : R Reg.BURL_STATUS) :
    FrameO F R sB (effDecodeBinding s) := by
  delta effDecodeBinding
  repeat' first
    | with_reducible assumption | intro (u : State) (hu : Frame F R sB u) | lift_lets
    | (intro x; refine (fun (hx : Frame F R sB x) => ?_) ?_ <;> [clear_value x; subst x])
    | with_reducible apply FrameO.next | with_reducible apply State.wrN_frame
    | with_reducible apply State.setFlag_frame | with_reducible apply State.event_frame
    | with_reducible apply State.raiseBit_frame | with_reducible apply State.applyBindings_frame
    | with_reducible apply r_BURL_DBIND | with_reducible apply Frame.foldl | (intro x; clear_value x) | intro _
    | with_reducible apply Frame.ite | with_reducible apply FrameO.ite | split
    | with_reducible refine Frame.mk' ?_ rfl

theorem State.decodeFail_frame {sB : State} (s : State) (sheet stn band code lane seg off : Nat) (hB : Frame F R sB s)
    (f_host : F .host) (f_ledg : F .ledg) (f_flt : F .flt) (f_hwd : F .hwd) (f_burl : F .burl)
    (r_BURL_COUNT_DEC_ERR : R Reg.BURL_COUNT_DEC_ERR) (r_BURL_DEC_ERR : R Reg.BURL_DEC_ERR)
    (r_BURL_DEC_OFFSET : R Reg.BURL_DEC_OFFSET) (r_BURL_DEC_TAG_HI : R Reg.BURL_DEC_TAG_HI)
    (r_BURL_DEC_TAG_LO : R Reg.BURL_DEC_TAG_LO) (r_BURL_EVENTS : R Reg.BURL_EVENTS) :
    Frame F R sB (State.decodeFail s sheet stn band code lane seg off) := by
  delta State.decodeFail
  repeat' first
    | with_reducible assumption | lift_lets
    | (intro x; refine (fun (hx : Frame F R sB x) => ?_) ?_ <;> [clear_value x; subst x])
    | with_reducible apply State.wrN_frame | with_reducible apply State.bump_frame
    | with_reducible apply State.fault_frame | with_reducible apply State.event_frame
    | with_reducible apply State.report_frame | with_reducible apply State.raiseBit_frame
    | with_reducible apply State.abandonLanes_frame | (intro x; clear_value x) | with_reducible apply Frame.ite
    | with_reducible refine Frame.mk' ?_ rfl

theorem State.dramCorrected_frame {sB : State} (s : State) (ch addr : Nat) (hB : Frame F R sB s) (f_host : F .host)
    (f_flt : F .flt) (r_DRAM_ECC_CE_COUNT : R Reg.DRAM_ECC_CE_COUNT) (r_DRAM_EVENTS : R Reg.DRAM_EVENTS) :
    Frame F R sB (State.dramCorrected s ch addr) := by
  delta State.dramCorrected
  repeat' first
    | with_reducible assumption | lift_lets | with_reducible apply State.bump_frame
    | with_reducible apply State.fault_frame | with_reducible apply State.raiseBit_frame

theorem State.markBad_frame {sB : State} (s : State) (a : Nat) (hB : Frame F R sB s) (f_dram : F .dram)
    (r_DRAM_FRAMES_BAD : R Reg.DRAM_FRAMES_BAD) (r_DRAM_FRAMES_FREE : R Reg.DRAM_FRAMES_FREE) :
    Frame F R sB (State.markBad s a) := by
  delta State.markBad
  repeat' first
    | with_reducible assumption | lift_lets
    | (intro x; refine (fun (hx : Frame F R sB x) => ?_) ?_ <;> [clear_value x; subst x])
    | with_reducible apply State.wrN_frame | with_reducible apply State.bump_frame | (intro x; clear_value x)
    | with_reducible apply Frame.ite | with_reducible refine Frame.mk' ?_ rfl

theorem State.loseBand_frame {sB : State} (s : State) (sheet stn band : Nat) (hB : Frame F R sB s) (f_ledg : F .ledg)
    (f_burl : F .burl) (f_dram : F .dram) :
    Frame F R sB (State.loseBand s sheet stn band) := by
  delta State.loseBand
  repeat' first
    | with_reducible assumption | lift_lets | with_reducible apply State.freeBand_frame
    | with_reducible apply State.putSheet_frame | split

theorem State.dramUncorrectable_frame {sB : State} (s : State) (ch addr port : Nat) (decoding : Bool)
    (hB : Frame F R sB s) (f_host : F .host) (f_ledg : F .ledg) (f_flt : F .flt) (f_hwd : F .hwd) (f_burl : F .burl)
    (f_dram : F .dram) (r_BURL_COUNT_DEC_ERR : R Reg.BURL_COUNT_DEC_ERR) (r_BURL_DEC_ERR : R Reg.BURL_DEC_ERR)
    (r_BURL_DEC_OFFSET : R Reg.BURL_DEC_OFFSET) (r_BURL_DEC_TAG_HI : R Reg.BURL_DEC_TAG_HI)
    (r_BURL_DEC_TAG_LO : R Reg.BURL_DEC_TAG_LO) (r_BURL_EVENTS : R Reg.BURL_EVENTS)
    (r_DRAM_ECC_ADDR_HI : R Reg.DRAM_ECC_ADDR_HI) (r_DRAM_ECC_ADDR_LO : R Reg.DRAM_ECC_ADDR_LO)
    (r_DRAM_ECC_UE_COUNT : R Reg.DRAM_ECC_UE_COUNT) (r_DRAM_EVENTS : R Reg.DRAM_EVENTS)
    (r_DRAM_FRAMES_BAD : R Reg.DRAM_FRAMES_BAD) (r_DRAM_FRAMES_FREE : R Reg.DRAM_FRAMES_FREE) :
    Frame F R sB (State.dramUncorrectable s ch addr port decoding) := by
  delta State.dramUncorrectable
  repeat' first
    | with_reducible assumption | lift_lets
    | (intro x; refine (fun (hx : Frame F R sB x) => ?_) ?_ <;> [clear_value x; subst x])
    | with_reducible apply State.wrN_frame | with_reducible apply State.bump_frame
    | with_reducible apply State.fault_frame | with_reducible apply State.event_frame
    | with_reducible apply State.raiseBit_frame | with_reducible apply State.decodeFail_frame
    | with_reducible apply State.markBad_frame | with_reducible apply State.loseBand_frame | (intro x; clear_value x)
    | with_reducible apply Frame.ite | split

theorem State.meetBad_frame {sB : State} (s : State) (r : BandRec) (hdr : List Byte) (g : Nat) (hB : Frame F R sB s)
    (f_host : F .host) (f_ledg : F .ledg) (f_flt : F .flt) (f_hwd : F .hwd) (f_burl : F .burl) (f_dram : F .dram)
    (r_BURL_COUNT_DEC_ERR : R Reg.BURL_COUNT_DEC_ERR) (r_BURL_DEC_ERR : R Reg.BURL_DEC_ERR)
    (r_BURL_DEC_OFFSET : R Reg.BURL_DEC_OFFSET) (r_BURL_DEC_TAG_HI : R Reg.BURL_DEC_TAG_HI)
    (r_BURL_DEC_TAG_LO : R Reg.BURL_DEC_TAG_LO) (r_BURL_EVENTS : R Reg.BURL_EVENTS)
    (r_DRAM_ECC_ADDR_HI : R Reg.DRAM_ECC_ADDR_HI) (r_DRAM_ECC_ADDR_LO : R Reg.DRAM_ECC_ADDR_LO)
    (r_DRAM_ECC_UE_COUNT : R Reg.DRAM_ECC_UE_COUNT) (r_DRAM_EVENTS : R Reg.DRAM_EVENTS)
    (r_DRAM_FRAMES_BAD : R Reg.DRAM_FRAMES_BAD) (r_DRAM_FRAMES_FREE : R Reg.DRAM_FRAMES_FREE) :
    Frame F R sB (State.meetBad s r hdr g) := by
  delta State.meetBad
  repeat' first
    | with_reducible assumption | with_reducible apply State.dramUncorrectable_frame | split

theorem execSegmentHandout_frame {sB : State} (lane : Fin 32) (s : State) (hB : Frame F R sB s) (f_host : F .host)
    (f_ledg : F .ledg) (f_flt : F .flt) (f_hwd : F .hwd) (f_burl : F .burl) (f_dram : F .dram) (r_BURL_COUNT_DEC_ERR :
    R Reg.BURL_COUNT_DEC_ERR) (r_BURL_DEC_ERR : R Reg.BURL_DEC_ERR) (r_BURL_DEC_OFFSET : R Reg.BURL_DEC_OFFSET)
    (r_BURL_DEC_TAG_HI : R Reg.BURL_DEC_TAG_HI) (r_BURL_DEC_TAG_LO : R Reg.BURL_DEC_TAG_LO) (r_BURL_EVENTS : R
    Reg.BURL_EVENTS) (r_DRAM_ECC_ADDR_HI : R Reg.DRAM_ECC_ADDR_HI) (r_DRAM_ECC_ADDR_LO : R Reg.DRAM_ECC_ADDR_LO)
    (r_DRAM_ECC_UE_COUNT : R Reg.DRAM_ECC_UE_COUNT) (r_DRAM_EVENTS : R Reg.DRAM_EVENTS) (r_DRAM_FRAMES_BAD : R
    Reg.DRAM_FRAMES_BAD) (r_DRAM_FRAMES_FREE : R Reg.DRAM_FRAMES_FREE) :
    FrameO F R sB (execSegmentHandout lane s) := by
  unfold execSegmentHandout
  split
  · split
    · dsimp only
      split
      · repeat' first
          | with_reducible assumption | lift_lets | with_reducible apply FrameO.next
          | with_reducible apply State.decodeFail_frame | with_reducible apply State.meetBad_frame | split
          | with_reducible refine Frame.mk' ?_ rfl
      · repeat' first
          | with_reducible assumption | lift_lets | with_reducible apply FrameO.next
          | with_reducible apply State.decodeFail_frame | with_reducible apply State.meetBad_frame | split
          | with_reducible refine Frame.mk' ?_ rfl
    · exact FrameO.next hB
  · exact FrameO.next hB

theorem execLineStoreWrite_frame {sB : State} (lane : Fin 32) (s : State) (hB : Frame F R sB s) (f_burl : F .burl)
    (f_scan : F .scan) :
    FrameO F R sB (execLineStoreWrite lane s) := by
  delta execLineStoreWrite
  repeat' first
    | with_reducible assumption | lift_lets | with_reducible apply FrameO.next
    | with_reducible apply State.modStn_frame | (intro x; clear_value x) | with_reducible apply FrameO.ite | split
    | with_reducible refine Frame.mk' ?_ rfl

theorem execSegmentDecoded_frame {sB : State} (lane : Fin 32) (s : State) (hB : Frame F R sB s) (f_host : F .host)
    (f_ledg : F .ledg) (f_flt : F .flt) (f_hwd : F .hwd) (f_burl : F .burl)
    (r_BURL_COUNT_DEC_ERR : R Reg.BURL_COUNT_DEC_ERR) (r_BURL_DEC_ERR : R Reg.BURL_DEC_ERR)
    (r_BURL_DEC_OFFSET : R Reg.BURL_DEC_OFFSET) (r_BURL_DEC_TAG_HI : R Reg.BURL_DEC_TAG_HI)
    (r_BURL_DEC_TAG_LO : R Reg.BURL_DEC_TAG_LO) (r_BURL_EVENTS : R Reg.BURL_EVENTS) :
    FrameO F R sB (execSegmentDecoded lane s) := by
  delta execSegmentDecoded
  repeat' first
    | with_reducible assumption | lift_lets
    | (intro x; refine (fun (hx : Frame F R sB x) => ?_) ?_ <;> [clear_value x; subst x])
    | with_reducible apply FrameO.next | with_reducible apply State.decodeFail_frame | (intro x; clear_value x)
    | with_reducible apply FrameO.ite | split | with_reducible refine Frame.mk' ?_ rfl

/-! ### Pll -/

theorem State.lockBit_frame {sB : State} (s : State) (p : Nat) (b : Bool) (hB : Frame F R sB s)
    (r_CLK_STATUS : R Reg.CLK_STATUS) :
    Frame F R sB (State.lockBit s p b) := by
  delta State.lockBit
  repeat' first
    | with_reducible assumption | with_reducible apply State.setFlag_frame

theorem State.startPll_frame {sB : State} (s : State) (p num den : Nat) (hB : Frame F R sB s) (f_host : F .host)
    (f_flt : F .flt) (f_hwd : F .hwd) (r_CLK_EVENTS : R Reg.CLK_EVENTS)
    (r_CLK_PLL_STATE : ∀ i, R (Reg.CLK_PLL_STATE i)) (r_CLK_STATUS : R Reg.CLK_STATUS) :
    Frame F R sB (State.startPll s p num den) := by
  delta State.startPll
  repeat' first
    | with_reducible assumption | lift_lets | with_reducible apply State.wrN_frame
    | with_reducible apply State.fault_frame | with_reducible apply State.event_frame
    | with_reducible apply State.raiseBit_frame | with_reducible apply State.lockBit_frame
    | with_reducible apply r_CLK_PLL_STATE | split

/-! ### Scan -/

theorem State.setIdxValid_frame {sB : State} (s : State) (i : Nat) (b : Bool) (hB : Frame F R sB s)
    (r_SCAN_STATUS : R Reg.SCAN_STATUS) (r_SCAN_STN_STATE : ∀ i, R (Reg.SCAN_STN_STATE i)) :
    Frame F R sB (State.setIdxValid s i b) := by
  delta State.setIdxValid
  repeat' first
    | with_reducible assumption | lift_lets | with_reducible apply State.setFlag_frame
    | with_reducible apply r_SCAN_STN_STATE

theorem State.setGate_frame {sB : State} (s : State) (i g : Nat) (hB : Frame F R sB s) (f_scan : F .scan)
    (r_SCAN_STATUS : R Reg.SCAN_STATUS) (r_SCAN_STN_STATE : ∀ i, R (Reg.SCAN_STN_STATE i)) :
    Frame F R sB (State.setGate s i g) := by
  delta State.setGate
  repeat' first
    | with_reducible assumption | lift_lets
    | (intro x; refine (fun (hx : Frame F R sB x) => ?_) ?_ <;> [clear_value x; subst x])
    | with_reducible apply State.setFld_frame | with_reducible apply State.setFlag_frame
    | with_reducible apply State.modStn_frame | with_reducible apply State.setIdxValid_frame
    | with_reducible apply r_SCAN_STN_STATE | with_reducible apply Frame.ite

theorem State.setCfg_frame {sB : State} (s : State) (i code : Nat) (hB : Frame F R sB s)
    (r_SCAN_STATUS : R Reg.SCAN_STATUS) (r_SCAN_STN_STATE : ∀ i, R (Reg.SCAN_STN_STATE i)) :
    Frame F R sB (State.setCfg s i code) := by
  delta State.setCfg
  repeat' first
    | with_reducible assumption | lift_lets | with_reducible apply State.setFld_frame
    | with_reducible apply State.setFlag_frame | with_reducible apply r_SCAN_STN_STATE

theorem State.showLine_frame {sB : State} (s : State) (i n : Nat) (hB : Frame F R sB s)
    (r_SCAN_STN_LINE_HI : ∀ i, R (Reg.SCAN_STN_LINE_HI i)) (r_SCAN_STN_LINE_LO : ∀ i, R (Reg.SCAN_STN_LINE_LO i)) :
    Frame F R sB (State.showLine s i n) := by
  delta State.showLine
  repeat' first
    | with_reducible assumption | lift_lets | with_reducible apply State.wrN_frame
    | with_reducible apply r_SCAN_STN_LINE_HI | with_reducible apply r_SCAN_STN_LINE_LO

theorem State.showBound_frame {sB : State} (s : State) (i : Nat) (hB : Frame F R sB s)
    (r_SCAN_STN_STATE : ∀ i, R (Reg.SCAN_STN_STATE i)) :
    Frame F R sB (State.showBound s i) := by
  delta State.showBound
  repeat' first
    | with_reducible assumption | lift_lets | with_reducible apply State.setFlag_frame
    | with_reducible apply r_SCAN_STN_STATE

theorem State.stopPixel_frame {sB : State} (s : State) (i : Nat) (hB : Frame F R sB s)
    (r_CLK_PLL_STATE : ∀ i, R (Reg.CLK_PLL_STATE i)) (r_CLK_STATUS : R Reg.CLK_STATUS)
    (r_SCAN_STN_NDIV : ∀ i, R (Reg.SCAN_STN_NDIV i)) (r_SCAN_STN_PIXNOW : ∀ i, R (Reg.SCAN_STN_PIXNOW i)) :
    Frame F R sB (State.stopPixel s i) := by
  delta State.stopPixel
  repeat' first
    | with_reducible assumption | lift_lets | with_reducible apply State.wrN_frame
    | with_reducible apply State.lockBit_frame | with_reducible apply r_CLK_PLL_STATE
    | with_reducible apply r_SCAN_STN_NDIV | with_reducible apply r_SCAN_STN_PIXNOW

theorem State.volumeCheck_frame {sB : State} (s : State) (i : Nat) (hB : Frame F R sB s) (f_host : F .host)
    (f_flt : F .flt) (f_hwd : F .hwd) (r_CLK_EVENTS : R Reg.CLK_EVENTS)
    (r_CLK_PLL_STATE : ∀ i, R (Reg.CLK_PLL_STATE i)) (r_CLK_STATUS : R Reg.CLK_STATUS)
    (r_SCAN_EVENTS : R Reg.SCAN_EVENTS) (r_SCAN_STATUS : R Reg.SCAN_STATUS)
    (r_SCAN_STN_NDIV : ∀ i, R (Reg.SCAN_STN_NDIV i)) (r_SCAN_STN_PIXNOW : ∀ i, R (Reg.SCAN_STN_PIXNOW i))
    (r_SCAN_STN_STATE : ∀ i, R (Reg.SCAN_STN_STATE i)) :
    Frame F R sB (State.volumeCheck s i) := by
  delta State.volumeCheck
  repeat' first
    | with_reducible assumption | lift_lets | with_reducible apply State.wrN_frame
    | with_reducible apply State.event_frame | with_reducible apply State.raiseBit_frame
    | with_reducible apply State.startPll_frame | with_reducible apply State.setCfg_frame
    | with_reducible apply State.stopPixel_frame | with_reducible apply r_SCAN_STN_NDIV
    | with_reducible apply r_SCAN_STN_PIXNOW | (intro x; clear_value x) | with_reducible apply Frame.ite

theorem State.stampedReport_frame {sB : State} (s : State) (kind : ReportKind) (sheet stn band line time : Nat)
    (hB : Frame F R sB s) (f_ledg : F .ledg) :
    Frame F R sB (State.stampedReport s kind sheet stn band line time) := by
  delta State.stampedReport
  repeat' first
    | with_reducible assumption | lift_lets | (intro x; clear_value x) | with_reducible refine Frame.mk' ?_ rfl

theorem State.endFacet_frame {sB : State} (s : State) (i time : Nat) (hB : Frame F R sB s) (f_out : F .out)
    (f_host : F .host) (f_ledg : F .ledg) (f_scan : F .scan) (f_beam : F .beam) (r_BEAM_STATUS : R Reg.BEAM_STATUS)
    (r_BEAM_STN_STATE : ∀ i, R (Reg.BEAM_STN_STATE i)) (r_HOST_RING_DIDX : ∀ i, R (Reg.HOST_RING_DIDX i))
    (r_SCAN_STN_STATE : ∀ i, R (Reg.SCAN_STN_STATE i)) :
    Frame F R sB (State.endFacet s i time) := by
  delta State.endFacet
  repeat' first
    | with_reducible assumption | intro (u : State) (hu : Frame F R sB u) | lift_lets
    | (intro x; refine (fun (hx : Frame F R sB x) => ?_) ?_ <;> [clear_value x; subst x])
    | with_reducible apply State.emit_frame | with_reducible apply State.modStn_frame
    | with_reducible apply State.sendWaiting_frame | with_reducible apply State.disarm_frame
    | with_reducible apply State.showBound_frame | with_reducible apply State.stampedReport_frame
    | with_reducible apply Frame.foldl | (intro x; clear_value x) | intro _ | with_reducible apply Frame.ite | split

theorem State.takePlan_frame {sB : State} (s0 : State) (i : Nat) (p : PlanNext) (hB : Frame F R sB s0)
    (f_out : F .out) (f_host : F .host) (f_alm : F .alm) (f_ledg : F .ledg) (f_flt : F .flt) (f_hwd : F .hwd)
    (f_scan : F .scan) (f_beam : F .beam) (f_leg : F .leg) (r_BEAM_EVENTS : R Reg.BEAM_EVENTS)
    (r_BEAM_STATUS : R Reg.BEAM_STATUS) (r_BEAM_STN_COUNT_FAILOVER : ∀ i, R (Reg.BEAM_STN_COUNT_FAILOVER i))
    (r_BEAM_STN_STATE : ∀ i, R (Reg.BEAM_STN_STATE i)) (r_CLK_EVENTS : R Reg.CLK_EVENTS)
    (r_CLK_PLL_STATE : ∀ i, R (Reg.CLK_PLL_STATE i)) (r_CLK_STATUS : R Reg.CLK_STATUS)
    (r_HOST_RING_DIDX : ∀ i, R (Reg.HOST_RING_DIDX i)) (r_LEG_STATUS : R Reg.LEG_STATUS)
    (r_SCAN_EVENTS : R Reg.SCAN_EVENTS) (r_SCAN_STATUS : R Reg.SCAN_STATUS)
    (r_SCAN_STN_NDIV : ∀ i, R (Reg.SCAN_STN_NDIV i)) (r_SCAN_STN_PIXNOW : ∀ i, R (Reg.SCAN_STN_PIXNOW i))
    (r_SCAN_STN_STATE : ∀ i, R (Reg.SCAN_STN_STATE i)) :
    Frame F R sB (State.takePlan s0 i p) := by
  delta State.takePlan
  repeat' first
    | with_reducible assumption | lift_lets
    | (intro x; refine (fun (hx : Frame F R sB x) => ?_) ?_ <;> [clear_value x; subst x])
    | with_reducible apply State.modStn_frame | with_reducible apply State.chooseMap_frame
    | with_reducible apply State.setIdxValid_frame | with_reducible apply State.setGate_frame
    | with_reducible apply State.setCfg_frame | with_reducible apply State.stopPixel_frame
    | with_reducible apply State.volumeCheck_frame | with_reducible apply State.endFacet_frame | intro (x : AlmBlk)
    | (intro x; clear_value x) | with_reducible apply Frame.ite | split | with_reducible refine Frame.mk' ?_ rfl

theorem State.settlePlans_frame {sB : State} (s : State) (hB : Frame F R sB s) (f_out : F .out) (f_host : F .host)
    (f_alm : F .alm) (f_ledg : F .ledg) (f_flt : F .flt) (f_hwd : F .hwd) (f_scan : F .scan) (f_beam : F .beam)
    (f_leg : F .leg) (r_BEAM_EVENTS : R Reg.BEAM_EVENTS) (r_BEAM_STATUS : R Reg.BEAM_STATUS)
    (r_BEAM_STN_COUNT_FAILOVER : ∀ i, R (Reg.BEAM_STN_COUNT_FAILOVER i))
    (r_BEAM_STN_STATE : ∀ i, R (Reg.BEAM_STN_STATE i)) (r_CLK_EVENTS : R Reg.CLK_EVENTS)
    (r_CLK_PLL_STATE : ∀ i, R (Reg.CLK_PLL_STATE i)) (r_CLK_STATUS : R Reg.CLK_STATUS)
    (r_HOST_RING_DIDX : ∀ i, R (Reg.HOST_RING_DIDX i)) (r_LEG_STATUS : R Reg.LEG_STATUS)
    (r_SCAN_EVENTS : R Reg.SCAN_EVENTS) (r_SCAN_STATUS : R Reg.SCAN_STATUS)
    (r_SCAN_STN_NDIV : ∀ i, R (Reg.SCAN_STN_NDIV i)) (r_SCAN_STN_PIXNOW : ∀ i, R (Reg.SCAN_STN_PIXNOW i))
    (r_SCAN_STN_STATE : ∀ i, R (Reg.SCAN_STN_STATE i)) :
    Frame F R sB (State.settlePlans s) := by
  delta State.settlePlans
  repeat' first
    | with_reducible assumption | intro (u : State) (hu : Frame F R sB u) | lift_lets
    | with_reducible apply State.upTo_frame | with_reducible apply State.takePlan_frame | intro _
    | with_reducible apply Frame.ite | split

theorem execFacetEnd_frame {sB : State} (i : Fin 8) (s : State) (hB : Frame F R sB s) (f_out : F .out)
    (f_host : F .host) (f_ledg : F .ledg) (f_scan : F .scan) (f_beam : F .beam) (r_BEAM_STATUS : R Reg.BEAM_STATUS)
    (r_BEAM_STN_STATE : ∀ i, R (Reg.BEAM_STN_STATE i)) (r_HOST_RING_DIDX : ∀ i, R (Reg.HOST_RING_DIDX i))
    (r_SCAN_STN_STATE : ∀ i, R (Reg.SCAN_STN_STATE i)) :
    FrameO F R sB (execFacetEnd i s) := by
  delta execFacetEnd
  repeat' first
    | with_reducible assumption | lift_lets | with_reducible apply FrameO.next
    | with_reducible apply State.endFacet_frame | with_reducible apply FrameO.ite | split

theorem State.drumNote_frame {sB : State} (s : State) (i : Nat) (hB : Frame F R sB s) (f_scan : F .scan) :
    Frame F R sB (State.drumNote s i) := by
  delta State.drumNote
  repeat' first
    | with_reducible assumption | lift_lets | with_reducible apply State.modStn_frame | (intro x; clear_value x)
    | with_reducible apply Frame.ite

theorem State.drumStep_frame {sB : State} (s : State) (i time : Nat) (hB : Frame F R sB s) (f_host : F .host)
    (f_hwd : F .hwd) (f_scan : F .scan) (r_HOST_RING_DIDX : ∀ i, R (Reg.HOST_RING_DIDX i))
    (r_SCAN_EVENTS : R Reg.SCAN_EVENTS) (r_SCAN_STN_REG_ERR : ∀ i, R (Reg.SCAN_STN_REG_ERR i))
    (r_SCAN_STN_RESID : ∀ i j, R (Reg.SCAN_STN_RESID i j)) :
    Frame F R sB (State.drumStep s i time) := by
  delta State.drumStep
  repeat' first
    | with_reducible assumption | intro (u : State) (hu : Frame F R sB u) | lift_lets
    | (intro x; refine (fun (hx : Frame F R sB x) => ?_) ?_ <;> [clear_value x; subst x])
    | with_reducible apply State.wrN_frame | with_reducible apply State.event_frame
    | with_reducible apply State.raiseBit_frame | with_reducible apply State.modStn_frame
    | with_reducible apply r_SCAN_STN_REG_ERR | with_reducible apply r_SCAN_STN_RESID
    | with_reducible apply Frame.foldl | (intro x; clear_value x) | intro _ | with_reducible apply Frame.ite | split

theorem State.applyStops_frame {sB : State} (s : State) (i time : Nat) (hB : Frame F R sB s) (f_scan : F .scan) :
    Frame F R sB (State.applyStops s i time) := by
  delta State.applyStops
  repeat' first
    | with_reducible assumption | with_reducible apply State.modStn_frame

theorem State.boundaryChanges_frame {sB : State} (s : State) (i time : Nat) (hB : Frame F R sB s) (f_out : F .out)
    (f_host : F .host) (f_alm : F .alm) (f_ledg : F .ledg) (f_flt : F .flt) (f_hwd : F .hwd) (f_burl : F .burl)
    (f_scan : F .scan) (f_beam : F .beam) (f_leg : F .leg) (r_BEAM_EVENTS : R Reg.BEAM_EVENTS)
    (r_BEAM_STATUS : R Reg.BEAM_STATUS) (r_BEAM_STN_COUNT_FAILOVER : ∀ i, R (Reg.BEAM_STN_COUNT_FAILOVER i))
    (r_BEAM_STN_STATE : ∀ i, R (Reg.BEAM_STN_STATE i)) (r_BURL_DBIND_ACT : ∀ i, R (Reg.BURL_DBIND_ACT i))
    (r_BURL_EVENTS : R Reg.BURL_EVENTS) (r_BURL_STATUS : R Reg.BURL_STATUS) (r_CLK_EVENTS : R Reg.CLK_EVENTS)
    (r_CLK_PLL_STATE : ∀ i, R (Reg.CLK_PLL_STATE i)) (r_CLK_STATUS : R Reg.CLK_STATUS)
    (r_HOST_RING_DIDX : ∀ i, R (Reg.HOST_RING_DIDX i)) (r_LEG_STATUS : R Reg.LEG_STATUS)
    (r_SCAN_EVENTS : R Reg.SCAN_EVENTS) (r_SCAN_STATUS : R Reg.SCAN_STATUS)
    (r_SCAN_STN_NDIV : ∀ i, R (Reg.SCAN_STN_NDIV i)) (r_SCAN_STN_PIXNOW : ∀ i, R (Reg.SCAN_STN_PIXNOW i))
    (r_SCAN_STN_STATE : ∀ i, R (Reg.SCAN_STN_STATE i)) :
    Frame F R sB (State.boundaryChanges s i time) := by
  delta State.boundaryChanges
  repeat' first
    | with_reducible assumption | lift_lets
    | (intro x; refine (fun (hx : Frame F R sB x) => ?_) ?_ <;> [clear_value x; subst x])
    | with_reducible apply State.applyBindings_frame | with_reducible apply State.takePlan_frame
    | with_reducible apply State.applyStops_frame | with_reducible apply Frame.ite | split

theorem State.entryError_frame {sB : State} (s : State) (n : Nat) (bad : Bool) (hB : Frame F R sB s)
    (f_host : F .host) (f_flt : F .flt) (f_hwd : F .hwd) (r_ALM_EVENTS : R Reg.ALM_EVENTS) :
    Frame F R sB (State.entryError s n bad) := by
  delta State.entryError
  repeat' first
    | with_reducible assumption | lift_lets | with_reducible apply State.fault_frame
    | with_reducible apply State.event_frame | with_reducible apply State.raiseBit_frame

theorem State.entryEcc_frame {sB : State} (s : State) (i ecc : Nat) (hB : Frame F R sB s) (f_host : F .host)
    (f_alm : F .alm) (f_flt : F .flt) (f_hwd : F .hwd) (r_ALM_EVENTS : R Reg.ALM_EVENTS) :
    Frame F R sB (State.entryEcc s i ecc) := by
  delta State.entryEcc
  repeat' first
    | with_reducible assumption | lift_lets | with_reducible apply State.entryError_frame | intro (x : AlmBlk)
    | (intro x; clear_value x) | with_reducible apply Frame.ite | with_reducible refine Frame.mk' ?_ rfl

theorem State.setEntry_frame {sB : State} (s : State) (i time ecc : Nat) (hB : Frame F R sB s) (f_host : F .host)
    (f_alm : F .alm) (f_flt : F .flt) (f_hwd : F .hwd) (f_scan : F .scan) (r_ALM_EVENTS : R Reg.ALM_EVENTS)
    (r_HOST_RING_DIDX : ∀ i, R (Reg.HOST_RING_DIDX i)) (r_SCAN_EVENTS : R Reg.SCAN_EVENTS)
    (r_SCAN_STN_LINE_HI : ∀ i, R (Reg.SCAN_STN_LINE_HI i)) (r_SCAN_STN_LINE_LO : ∀ i, R (Reg.SCAN_STN_LINE_LO i))
    (r_SCAN_STN_REG_ERR : ∀ i, R (Reg.SCAN_STN_REG_ERR i)) (r_SCAN_STN_RESID : ∀ i j, R (Reg.SCAN_STN_RESID i j))
    (r_SCAN_STN_STATE : ∀ i, R (Reg.SCAN_STN_STATE i)) :
    Frame F R sB (State.setEntry s i time ecc) := by
  delta State.setEntry
  repeat' first
    | with_reducible assumption | lift_lets
    | (intro x; refine (fun (hx : Frame F R sB x) => ?_) ?_ <;> [clear_value x; subst x])
    | with_reducible apply State.setFld_frame | with_reducible apply State.modStn_frame
    | with_reducible apply State.showLine_frame | with_reducible apply State.drumStep_frame
    | with_reducible apply State.entryEcc_frame | with_reducible apply r_SCAN_STN_STATE | (intro x; clear_value x)
    | with_reducible apply Frame.ite | split

theorem State.bindSheet_frame {sB : State} (s : State) (i time : Nat) (g : Given) (hB : Frame F R sB s)
    (f_host : F .host) (f_hwd : F .hwd) (f_scan : F .scan) (r_SCAN_EVENTS : R Reg.SCAN_EVENTS)
    (r_SCAN_STN_REG_ERR : ∀ i, R (Reg.SCAN_STN_REG_ERR i)) :
    Frame F R sB (State.bindSheet s i time g) := by
  delta State.bindSheet
  repeat' first
    | with_reducible assumption | lift_lets
    | (intro x; refine (fun (hx : Frame F R sB x) => ?_) ?_ <;> [clear_value x; subst x])
    | with_reducible apply State.wrN_frame | with_reducible apply State.event_frame
    | with_reducible apply State.raiseBit_frame | with_reducible apply State.modStn_frame
    | with_reducible apply r_SCAN_STN_REG_ERR | (intro x; clear_value x) | with_reducible apply Frame.ite

theorem State.bindSheets_frame {sB : State} (s : State) (i time : Nat) (hB : Frame F R sB s) (f_host : F .host)
    (f_hwd : F .hwd) (f_scan : F .scan) (r_SCAN_EVENTS : R Reg.SCAN_EVENTS)
    (r_SCAN_STN_REG_ERR : ∀ i, R (Reg.SCAN_STN_REG_ERR i)) (r_SCAN_STN_STATE : ∀ i, R (Reg.SCAN_STN_STATE i)) :
    Frame F R sB (State.bindSheets s i time) := by
  delta State.bindSheets
  repeat' first
    | with_reducible assumption | intro (u : State) (hu : Frame F R sB u) | lift_lets
    | with_reducible apply State.showBound_frame | with_reducible apply State.bindSheet_frame
    | with_reducible apply Frame.foldl | intro _

theorem State.facetReports_frame {sB : State} (s : State) (i time : Nat) (fs : List LineFate) (hB : Frame F R sB s)
    (f_host : F .host) (f_ledg : F .ledg) (f_hwd : F .hwd) (f_scan : F .scan) (r_SCAN_EVENTS : R Reg.SCAN_EVENTS)
    (r_SCAN_STN_COUNT_UNDER : ∀ i, R (Reg.SCAN_STN_COUNT_UNDER i)) :
    Frame F R sB (State.facetReports s i time fs) := by
  delta State.facetReports
  repeat' first
    | with_reducible assumption | intro (u : State) (hu : Frame F R sB u) | lift_lets
    | (intro x; refine (fun (hx : Frame F R sB x) => ?_) ?_ <;> [clear_value x; subst x])
    | with_reducible apply State.bump_frame | with_reducible apply State.event_frame
    | with_reducible apply State.raiseBit_frame | with_reducible apply State.modStn_frame
    | with_reducible apply State.stampedReport_frame | with_reducible apply r_SCAN_STN_COUNT_UNDER
    | with_reducible apply Frame.foldl | (intro x; clear_value x) | intro _ | with_reducible apply Frame.ite | split

theorem State.sendFacet_frame {sB : State} (s : State) (i : Nat) (fs : List LineFate) (hB : Frame F R sB s)
    (f_out : F .out) (f_beam : F .beam) :
    Frame F R sB (State.sendFacet s i fs) := by
  delta State.sendFacet
  repeat' first
    | with_reducible assumption | lift_lets | with_reducible apply State.emit_frame
    | with_reducible apply State.modBm_frame | (intro x; clear_value x) | with_reducible apply Frame.ite

theorem State.crossed_frame {sB : State} (s : State) (i : Nat) (hB : Frame F R sB s) (f_alm : F .alm) :
    Frame F R sB (State.crossed s i) := by
  delta State.crossed
  repeat' first
    | with_reducible assumption | lift_lets | intro (x : AlmBlk) | with_reducible apply Frame.ite
    | with_reducible refine Frame.mk' ?_ rfl

theorem State.facetBoundary_frame {sB : State} (s : State) (i time : Nat) (real : Bool) (ecc : Nat)
    (hB : Frame F R sB s) (f_out : F .out) (f_host : F .host) (f_alm : F .alm) (f_ledg : F .ledg) (f_flt : F .flt)
    (f_hwd : F .hwd) (f_burl : F .burl) (f_scan : F .scan) (f_beam : F .beam) (f_leg : F .leg)
    (r_ALM_EVENTS : R Reg.ALM_EVENTS) (r_BEAM_EVENTS : R Reg.BEAM_EVENTS) (r_BEAM_STATUS : R Reg.BEAM_STATUS)
    (r_BEAM_STN_COUNT_FAILOVER : ∀ i, R (Reg.BEAM_STN_COUNT_FAILOVER i))
    (r_BEAM_STN_STATE : ∀ i, R (Reg.BEAM_STN_STATE i)) (r_BURL_DBIND_ACT : ∀ i, R (Reg.BURL_DBIND_ACT i))
    (r_BURL_EVENTS : R Reg.BURL_EVENTS) (r_BURL_STATUS : R Reg.BURL_STATUS) (r_CLK_EVENTS : R Reg.CLK_EVENTS)
    (r_CLK_PLL_STATE : ∀ i, R (Reg.CLK_PLL_STATE i)) (r_CLK_STATUS : R Reg.CLK_STATUS)
    (r_HOST_RING_DIDX : ∀ i, R (Reg.HOST_RING_DIDX i)) (r_LEG_STATUS : R Reg.LEG_STATUS)
    (r_SCAN_EVENTS : R Reg.SCAN_EVENTS) (r_SCAN_STATUS : R Reg.SCAN_STATUS)
    (r_SCAN_STN_COUNT_UNDER : ∀ i, R (Reg.SCAN_STN_COUNT_UNDER i))
    (r_SCAN_STN_LINE_HI : ∀ i, R (Reg.SCAN_STN_LINE_HI i)) (r_SCAN_STN_LINE_LO : ∀ i, R (Reg.SCAN_STN_LINE_LO i))
    (r_SCAN_STN_NDIV : ∀ i, R (Reg.SCAN_STN_NDIV i)) (r_SCAN_STN_PIXNOW : ∀ i, R (Reg.SCAN_STN_PIXNOW i))
    (r_SCAN_STN_REG_ERR : ∀ i, R (Reg.SCAN_STN_REG_ERR i)) (r_SCAN_STN_RESID : ∀ i j, R (Reg.SCAN_STN_RESID i j))
    (r_SCAN_STN_STATE : ∀ i, R (Reg.SCAN_STN_STATE i)) :
    Frame F R sB (State.facetBoundary s i time real ecc) := by
  delta State.facetBoundary
  repeat' first
    | with_reducible assumption | lift_lets
    | (intro x; refine (fun (hx : Frame F R sB x) => ?_) ?_ <;> [clear_value x; subst x])
    | with_reducible apply State.modStn_frame | with_reducible apply State.modBm_frame
    | with_reducible apply State.mapBoundary_frame | with_reducible apply State.endFacet_frame
    | with_reducible apply State.boundaryChanges_frame | with_reducible apply State.setEntry_frame
    | with_reducible apply State.bindSheets_frame | with_reducible apply State.facetReports_frame
    | with_reducible apply State.sendFacet_frame | with_reducible apply State.crossed_frame | (intro x; clear_value x)
    | with_reducible apply Frame.ite

theorem State.notePeriod_frame {sB : State} (s : State) (i time : Nat) (hB : Frame F R sB s) (f_scan : F .scan)
    (f_axis : F .axis) (r_SCAN_STN_FPER : ∀ i j, R (Reg.SCAN_STN_FPER i j))
    (r_SCAN_STN_PERIOD : ∀ i, R (Reg.SCAN_STN_PERIOD i)) :
    Frame F R sB (State.notePeriod s i time) := by
  delta State.notePeriod
  repeat' first
    | with_reducible assumption | lift_lets
    | (intro x; refine (fun (hx : Frame F R sB x) => ?_) ?_ <;> [clear_value x; subst x])
    | with_reducible apply State.wrN_frame | with_reducible apply State.modStn_frame
    | with_reducible apply r_SCAN_STN_FPER | with_reducible apply r_SCAN_STN_PERIOD | (intro x; clear_value x)
    | with_reducible apply Frame.ite | split | with_reducible refine Frame.mk' ?_ rfl

theorem State.strayEdge_frame {sB : State} (s : State) (i : Nat) (hB : Frame F R sB s) (f_host : F .host)
    (r_SCAN_EVENTS : R Reg.SCAN_EVENTS) (r_SCAN_STN_COUNT_STRAY : ∀ i, R (Reg.SCAN_STN_COUNT_STRAY i)) :
    Frame F R sB (State.strayEdge s i) := by
  delta State.strayEdge
  repeat' first
    | with_reducible assumption | lift_lets | with_reducible apply State.bump_frame
    | with_reducible apply State.raiseBit_frame | with_reducible apply r_SCAN_STN_COUNT_STRAY

theorem State.loseGate_frame {sB : State} (s : State) (i : Nat) (hB : Frame F R sB s) (f_host : F .host)
    (f_flt : F .flt) (f_hwd : F .hwd) (f_scan : F .scan) (r_SCAN_EVENTS : R Reg.SCAN_EVENTS)
    (r_SCAN_STATUS : R Reg.SCAN_STATUS) (r_SCAN_STN_STATE : ∀ i, R (Reg.SCAN_STN_STATE i)) :
    Frame F R sB (State.loseGate s i) := by
  delta State.loseGate
  repeat' first
    | with_reducible assumption | lift_lets | with_reducible apply State.fault_frame
    | with_reducible apply State.event_frame | with_reducible apply State.raiseBit_frame
    | with_reducible apply State.modStn_frame | with_reducible apply State.setGate_frame

theorem State.missFacet_frame {sB : State} (s : State) (i ecc : Nat) (hB : Frame F R sB s) (f_out : F .out)
    (f_host : F .host) (f_alm : F .alm) (f_ledg : F .ledg) (f_flt : F .flt) (f_hwd : F .hwd) (f_burl : F .burl)
    (f_scan : F .scan) (f_beam : F .beam) (f_leg : F .leg) (r_ALM_EVENTS : R Reg.ALM_EVENTS)
    (r_BEAM_EVENTS : R Reg.BEAM_EVENTS) (r_BEAM_STATUS : R Reg.BEAM_STATUS)
    (r_BEAM_STN_COUNT_FAILOVER : ∀ i, R (Reg.BEAM_STN_COUNT_FAILOVER i))
    (r_BEAM_STN_STATE : ∀ i, R (Reg.BEAM_STN_STATE i)) (r_BURL_DBIND_ACT : ∀ i, R (Reg.BURL_DBIND_ACT i))
    (r_BURL_EVENTS : R Reg.BURL_EVENTS) (r_BURL_STATUS : R Reg.BURL_STATUS) (r_CLK_EVENTS : R Reg.CLK_EVENTS)
    (r_CLK_PLL_STATE : ∀ i, R (Reg.CLK_PLL_STATE i)) (r_CLK_STATUS : R Reg.CLK_STATUS)
    (r_HOST_RING_DIDX : ∀ i, R (Reg.HOST_RING_DIDX i)) (r_LEG_STATUS : R Reg.LEG_STATUS)
    (r_SCAN_EVENTS : R Reg.SCAN_EVENTS) (r_SCAN_STATUS : R Reg.SCAN_STATUS)
    (r_SCAN_STN_COUNT_MISS : ∀ i, R (Reg.SCAN_STN_COUNT_MISS i))
    (r_SCAN_STN_COUNT_UNDER : ∀ i, R (Reg.SCAN_STN_COUNT_UNDER i))
    (r_SCAN_STN_LINE_HI : ∀ i, R (Reg.SCAN_STN_LINE_HI i)) (r_SCAN_STN_LINE_LO : ∀ i, R (Reg.SCAN_STN_LINE_LO i))
    (r_SCAN_STN_NDIV : ∀ i, R (Reg.SCAN_STN_NDIV i)) (r_SCAN_STN_PIXNOW : ∀ i, R (Reg.SCAN_STN_PIXNOW i))
    (r_SCAN_STN_REG_ERR : ∀ i, R (Reg.SCAN_STN_REG_ERR i)) (r_SCAN_STN_RESID : ∀ i j, R (Reg.SCAN_STN_RESID i j))
    (r_SCAN_STN_STATE : ∀ i, R (Reg.SCAN_STN_STATE i)) :
    Frame F R sB (State.missFacet s i ecc) := by
  delta State.missFacet
  repeat' first
    | with_reducible assumption | lift_lets
    | (intro x; refine (fun (hx : Frame F R sB x) => ?_) ?_ <;> [clear_value x; subst x])
    | with_reducible apply State.bump_frame | with_reducible apply State.raiseBit_frame
    | with_reducible apply State.modStn_frame | with_reducible apply State.facetBoundary_frame
    | with_reducible apply State.loseGate_frame | with_reducible apply r_SCAN_STN_COUNT_MISS
    | with_reducible apply Frame.ite | split

theorem execFacetMissed_frame {sB : State} (i : Fin 8) (ecc : Fin 3) (s : State) (hB : Frame F R sB s)
    (f_out : F .out) (f_host : F .host) (f_alm : F .alm) (f_ledg : F .ledg) (f_flt : F .flt) (f_hwd : F .hwd)
    (f_burl : F .burl) (f_scan : F .scan) (f_beam : F .beam) (f_leg : F .leg) (r_ALM_EVENTS : R Reg.ALM_EVENTS)
    (r_BEAM_EVENTS : R Reg.BEAM_EVENTS) (r_BEAM_STATUS : R Reg.BEAM_STATUS)
    (r_BEAM_STN_COUNT_FAILOVER : ∀ i, R (Reg.BEAM_STN_COUNT_FAILOVER i))
    (r_BEAM_STN_STATE : ∀ i, R (Reg.BEAM_STN_STATE i)) (r_BURL_DBIND_ACT : ∀ i, R (Reg.BURL_DBIND_ACT i))
    (r_BURL_EVENTS : R Reg.BURL_EVENTS) (r_BURL_STATUS : R Reg.BURL_STATUS) (r_CLK_EVENTS : R Reg.CLK_EVENTS)
    (r_CLK_PLL_STATE : ∀ i, R (Reg.CLK_PLL_STATE i)) (r_CLK_STATUS : R Reg.CLK_STATUS)
    (r_HOST_RING_DIDX : ∀ i, R (Reg.HOST_RING_DIDX i)) (r_LEG_STATUS : R Reg.LEG_STATUS)
    (r_SCAN_EVENTS : R Reg.SCAN_EVENTS) (r_SCAN_STATUS : R Reg.SCAN_STATUS)
    (r_SCAN_STN_COUNT_MISS : ∀ i, R (Reg.SCAN_STN_COUNT_MISS i))
    (r_SCAN_STN_COUNT_UNDER : ∀ i, R (Reg.SCAN_STN_COUNT_UNDER i))
    (r_SCAN_STN_LINE_HI : ∀ i, R (Reg.SCAN_STN_LINE_HI i)) (r_SCAN_STN_LINE_LO : ∀ i, R (Reg.SCAN_STN_LINE_LO i))
    (r_SCAN_STN_NDIV : ∀ i, R (Reg.SCAN_STN_NDIV i)) (r_SCAN_STN_PIXNOW : ∀ i, R (Reg.SCAN_STN_PIXNOW i))
    (r_SCAN_STN_REG_ERR : ∀ i, R (Reg.SCAN_STN_REG_ERR i)) (r_SCAN_STN_RESID : ∀ i j, R (Reg.SCAN_STN_RESID i j))
    (r_SCAN_STN_STATE : ∀ i, R (Reg.SCAN_STN_STATE i)) :
    FrameO F R sB (execFacetMissed i ecc s) := by
  delta execFacetMissed
  repeat' first
    | with_reducible assumption | lift_lets | with_reducible apply FrameO.next
    | with_reducible apply State.missFacet_frame | with_reducible apply FrameO.ite

theorem State.closeWindows_frame {sB : State} (s : State) (i time n : Nat) (hB : Frame F R sB s) (f_out : F .out)
    (f_host : F .host) (f_alm : F .alm) (f_ledg : F .ledg) (f_flt : F .flt) (f_hwd : F .hwd) (f_burl : F .burl)
    (f_scan : F .scan) (f_beam : F .beam) (f_leg : F .leg) (r_ALM_EVENTS : R Reg.ALM_EVENTS) (r_BEAM_EVENTS : R
    Reg.BEAM_EVENTS) (r_BEAM_STATUS : R Reg.BEAM_STATUS) (r_BEAM_STN_COUNT_FAILOVER : ∀ i, R
    (Reg.BEAM_STN_COUNT_FAILOVER i)) (r_BEAM_STN_STATE : ∀ i, R (Reg.BEAM_STN_STATE i)) (r_BURL_DBIND_ACT : ∀ i, R
    (Reg.BURL_DBIND_ACT i)) (r_BURL_EVENTS : R Reg.BURL_EVENTS) (r_BURL_STATUS : R Reg.BURL_STATUS) (r_CLK_EVENTS : R
    Reg.CLK_EVENTS) (r_CLK_PLL_STATE : ∀ i, R (Reg.CLK_PLL_STATE i)) (r_CLK_STATUS : R Reg.CLK_STATUS)
    (r_HOST_RING_DIDX : ∀ i, R (Reg.HOST_RING_DIDX i)) (r_LEG_STATUS : R Reg.LEG_STATUS) (r_SCAN_EVENTS : R
    Reg.SCAN_EVENTS) (r_SCAN_STATUS : R Reg.SCAN_STATUS) (r_SCAN_STN_COUNT_MISS : ∀ i, R (Reg.SCAN_STN_COUNT_MISS i))
    (r_SCAN_STN_COUNT_UNDER : ∀ i, R (Reg.SCAN_STN_COUNT_UNDER i)) (r_SCAN_STN_LINE_HI : ∀ i, R (Reg.SCAN_STN_LINE_HI
    i)) (r_SCAN_STN_LINE_LO : ∀ i, R (Reg.SCAN_STN_LINE_LO i)) (r_SCAN_STN_NDIV : ∀ i, R (Reg.SCAN_STN_NDIV i))
    (r_SCAN_STN_PIXNOW : ∀ i, R (Reg.SCAN_STN_PIXNOW i)) (r_SCAN_STN_REG_ERR : ∀ i, R (Reg.SCAN_STN_REG_ERR i))
    (r_SCAN_STN_RESID : ∀ i j, R (Reg.SCAN_STN_RESID i j)) (r_SCAN_STN_STATE : ∀ i, R (Reg.SCAN_STN_STATE i)) :
    Frame F R sB (State.closeWindows s i time n) := by
  induction n generalizing s with
  | zero => exact hB
  | succ n ih =>
    unfold State.closeWindows
    split
    · refine ih _ ?_
      repeat' first
        | with_reducible assumption | lift_lets | with_reducible apply State.missFacet_frame
    · exact hB

theorem State.realBoundary_frame {sB : State} (s : State) (i time ecc : Nat) (hB : Frame F R sB s) (f_out : F .out)
    (f_host : F .host) (f_alm : F .alm) (f_ledg : F .ledg) (f_flt : F .flt) (f_hwd : F .hwd) (f_burl : F .burl)
    (f_scan : F .scan) (f_beam : F .beam) (f_axis : F .axis) (f_leg : F .leg) (r_ALM_EVENTS : R Reg.ALM_EVENTS)
    (r_BEAM_EVENTS : R Reg.BEAM_EVENTS) (r_BEAM_STATUS : R Reg.BEAM_STATUS)
    (r_BEAM_STN_COUNT_FAILOVER : ∀ i, R (Reg.BEAM_STN_COUNT_FAILOVER i))
    (r_BEAM_STN_STATE : ∀ i, R (Reg.BEAM_STN_STATE i)) (r_BURL_DBIND_ACT : ∀ i, R (Reg.BURL_DBIND_ACT i))
    (r_BURL_EVENTS : R Reg.BURL_EVENTS) (r_BURL_STATUS : R Reg.BURL_STATUS) (r_CLK_EVENTS : R Reg.CLK_EVENTS)
    (r_CLK_PLL_STATE : ∀ i, R (Reg.CLK_PLL_STATE i)) (r_CLK_STATUS : R Reg.CLK_STATUS)
    (r_HOST_RING_DIDX : ∀ i, R (Reg.HOST_RING_DIDX i)) (r_LEG_STATUS : R Reg.LEG_STATUS)
    (r_SCAN_EVENTS : R Reg.SCAN_EVENTS) (r_SCAN_STATUS : R Reg.SCAN_STATUS)
    (r_SCAN_STN_COUNT_UNDER : ∀ i, R (Reg.SCAN_STN_COUNT_UNDER i))
    (r_SCAN_STN_FPER : ∀ i j, R (Reg.SCAN_STN_FPER i j)) (r_SCAN_STN_LINE_HI : ∀ i, R (Reg.SCAN_STN_LINE_HI i))
    (r_SCAN_STN_LINE_LO : ∀ i, R (Reg.SCAN_STN_LINE_LO i)) (r_SCAN_STN_NDIV : ∀ i, R (Reg.SCAN_STN_NDIV i))
    (r_SCAN_STN_PERIOD : ∀ i, R (Reg.SCAN_STN_PERIOD i)) (r_SCAN_STN_PIXNOW : ∀ i, R (Reg.SCAN_STN_PIXNOW i))
    (r_SCAN_STN_REG_ERR : ∀ i, R (Reg.SCAN_STN_REG_ERR i)) (r_SCAN_STN_RESID : ∀ i j, R (Reg.SCAN_STN_RESID i j))
    (r_SCAN_STN_STATE : ∀ i, R (Reg.SCAN_STN_STATE i)) :
    Frame F R sB (State.realBoundary s i time ecc) := by
  delta State.realBoundary
  repeat' first
    | with_reducible assumption | lift_lets | with_reducible apply State.modStn_frame
    | with_reducible apply State.facetBoundary_frame | with_reducible apply State.notePeriod_frame

theorem State.acquireEdge_frame {sB : State} (s : State) (i time ecc : Nat) (hB : Frame F R sB s) (f_out : F .out)
    (f_host : F .host) (f_alm : F .alm) (f_ledg : F .ledg) (f_flt : F .flt) (f_hwd : F .hwd) (f_burl : F .burl)
    (f_scan : F .scan) (f_beam : F .beam) (f_axis : F .axis) (f_leg : F .leg) (r_ALM_EVENTS : R Reg.ALM_EVENTS)
    (r_BEAM_EVENTS : R Reg.BEAM_EVENTS) (r_BEAM_STATUS : R Reg.BEAM_STATUS)
    (r_BEAM_STN_COUNT_FAILOVER : ∀ i, R (Reg.BEAM_STN_COUNT_FAILOVER i))
    (r_BEAM_STN_STATE : ∀ i, R (Reg.BEAM_STN_STATE i)) (r_BURL_DBIND_ACT : ∀ i, R (Reg.BURL_DBIND_ACT i))
    (r_BURL_EVENTS : R Reg.BURL_EVENTS) (r_BURL_STATUS : R Reg.BURL_STATUS) (r_CLK_EVENTS : R Reg.CLK_EVENTS)
    (r_CLK_PLL_STATE : ∀ i, R (Reg.CLK_PLL_STATE i)) (r_CLK_STATUS : R Reg.CLK_STATUS)
    (r_HOST_RING_DIDX : ∀ i, R (Reg.HOST_RING_DIDX i)) (r_LEG_STATUS : R Reg.LEG_STATUS)
    (r_SCAN_EVENTS : R Reg.SCAN_EVENTS) (r_SCAN_STATUS : R Reg.SCAN_STATUS)
    (r_SCAN_STN_COUNT_UNDER : ∀ i, R (Reg.SCAN_STN_COUNT_UNDER i))
    (r_SCAN_STN_FPER : ∀ i j, R (Reg.SCAN_STN_FPER i j)) (r_SCAN_STN_LINE_HI : ∀ i, R (Reg.SCAN_STN_LINE_HI i))
    (r_SCAN_STN_LINE_LO : ∀ i, R (Reg.SCAN_STN_LINE_LO i)) (r_SCAN_STN_NDIV : ∀ i, R (Reg.SCAN_STN_NDIV i))
    (r_SCAN_STN_PERIOD : ∀ i, R (Reg.SCAN_STN_PERIOD i)) (r_SCAN_STN_PIXNOW : ∀ i, R (Reg.SCAN_STN_PIXNOW i))
    (r_SCAN_STN_REG_ERR : ∀ i, R (Reg.SCAN_STN_REG_ERR i)) (r_SCAN_STN_RESID : ∀ i j, R (Reg.SCAN_STN_RESID i j))
    (r_SCAN_STN_STATE : ∀ i, R (Reg.SCAN_STN_STATE i)) :
    Frame F R sB (State.acquireEdge s i time ecc) := by
  delta State.acquireEdge
  repeat' first
    | with_reducible assumption | lift_lets | with_reducible apply State.event_frame
    | with_reducible apply State.raiseBit_frame | with_reducible apply State.modStn_frame
    | with_reducible apply State.setGate_frame | with_reducible apply State.realBoundary_frame
    | with_reducible apply Frame.ite

theorem State.riseEdge_frame {sB : State} (s : State) (i time ecc : Nat) (hB : Frame F R sB s) (f_out : F .out)
    (f_host : F .host) (f_alm : F .alm) (f_ledg : F .ledg) (f_flt : F .flt) (f_hwd : F .hwd) (f_burl : F .burl)
    (f_scan : F .scan) (f_beam : F .beam) (f_axis : F .axis) (f_leg : F .leg) (r_ALM_EVENTS : R Reg.ALM_EVENTS)
    (r_BEAM_EVENTS : R Reg.BEAM_EVENTS) (r_BEAM_STATUS : R Reg.BEAM_STATUS)
    (r_BEAM_STN_COUNT_FAILOVER : ∀ i, R (Reg.BEAM_STN_COUNT_FAILOVER i))
    (r_BEAM_STN_STATE : ∀ i, R (Reg.BEAM_STN_STATE i)) (r_BURL_DBIND_ACT : ∀ i, R (Reg.BURL_DBIND_ACT i))
    (r_BURL_EVENTS : R Reg.BURL_EVENTS) (r_BURL_STATUS : R Reg.BURL_STATUS) (r_CLK_EVENTS : R Reg.CLK_EVENTS)
    (r_CLK_PLL_STATE : ∀ i, R (Reg.CLK_PLL_STATE i)) (r_CLK_STATUS : R Reg.CLK_STATUS)
    (r_HOST_RING_DIDX : ∀ i, R (Reg.HOST_RING_DIDX i)) (r_LEG_STATUS : R Reg.LEG_STATUS)
    (r_SCAN_EVENTS : R Reg.SCAN_EVENTS) (r_SCAN_STATUS : R Reg.SCAN_STATUS)
    (r_SCAN_STN_COUNT_STRAY : ∀ i, R (Reg.SCAN_STN_COUNT_STRAY i))
    (r_SCAN_STN_COUNT_UNDER : ∀ i, R (Reg.SCAN_STN_COUNT_UNDER i))
    (r_SCAN_STN_FPER : ∀ i j, R (Reg.SCAN_STN_FPER i j)) (r_SCAN_STN_LINE_HI : ∀ i, R (Reg.SCAN_STN_LINE_HI i))
    (r_SCAN_STN_LINE_LO : ∀ i, R (Reg.SCAN_STN_LINE_LO i)) (r_SCAN_STN_NDIV : ∀ i, R (Reg.SCAN_STN_NDIV i))
    (r_SCAN_STN_PERIOD : ∀ i, R (Reg.SCAN_STN_PERIOD i)) (r_SCAN_STN_PIXNOW : ∀ i, R (Reg.SCAN_STN_PIXNOW i))
    (r_SCAN_STN_REG_ERR : ∀ i, R (Reg.SCAN_STN_REG_ERR i)) (r_SCAN_STN_RESID : ∀ i j, R (Reg.SCAN_STN_RESID i j))
    (r_SCAN_STN_STATE : ∀ i, R (Reg.SCAN_STN_STATE i)) :
    Frame F R sB (State.riseEdge s i time ecc) := by
  delta State.riseEdge
  repeat' first
    | with_reducible assumption | lift_lets
    | (intro x; refine (fun (hx : Frame F R sB x) => ?_) ?_ <;> [clear_value x; subst x])
    | with_reducible apply State.wrN_frame | with_reducible apply State.modStn_frame
    | with_reducible apply State.setGate_frame | with_reducible apply State.takePlan_frame
    | with_reducible apply State.strayEdge_frame | with_reducible apply State.realBoundary_frame
    | with_reducible apply State.acquireEdge_frame | with_reducible apply r_SCAN_STN_PERIOD | (intro x; clear_value x)
    | with_reducible apply Frame.ite | split

theorem State.lockIndex_frame {sB : State} (s : State) (i : Nat) (hB : Frame F R sB s) (f_host : F .host) (f_hwd : F
    .hwd) (f_scan : F .scan) (r_SCAN_EVENTS : R Reg.SCAN_EVENTS) (r_SCAN_STATUS : R Reg.SCAN_STATUS) (r_SCAN_STN_STATE
    : ∀ i, R (Reg.SCAN_STN_STATE i)) : Frame F R sB (s.lockIndex i) := by
  unfold State.lockIndex
  dsimp only
  have h1 : Frame F R sB (s.modStn i (fun t => { t with offsets := [] })) := by
    repeat' first
      | with_reducible assumption | lift_lets | with_reducible apply State.setFld_frame
      | with_reducible apply State.event_frame | with_reducible apply State.raiseBit_frame
      | with_reducible apply State.modStn_frame | with_reducible apply State.setIdxValid_frame
      | with_reducible apply r_SCAN_STN_STATE
  split
  · exact hB
  · generalize s.modStn i (fun t => { t with offsets := [] }) = t at *
    split
    · split
      · repeat' first
          | with_reducible assumption | lift_lets | with_reducible apply State.setFld_frame
          | with_reducible apply State.event_frame | with_reducible apply State.raiseBit_frame
          | with_reducible apply State.modStn_frame | with_reducible apply State.setIdxValid_frame
          | with_reducible apply r_SCAN_STN_STATE
      · exact h1
    · exact h1

theorem State.fallEdge_frame {sB : State} (s : State) (i time : Nat) (hB : Frame F R sB s) (f_host : F .host)
    (f_hwd : F .hwd) (f_scan : F .scan) (r_SCAN_EVENTS : R Reg.SCAN_EVENTS) (r_SCAN_STATUS : R Reg.SCAN_STATUS)
    (r_SCAN_STN_COUNT_STRAY : ∀ i, R (Reg.SCAN_STN_COUNT_STRAY i)) (r_SCAN_STN_PYR : ∀ i j, R (Reg.SCAN_STN_PYR i j))
    (r_SCAN_STN_STATE : ∀ i, R (Reg.SCAN_STN_STATE i)) :
    Frame F R sB (State.fallEdge s i time) := by
  delta State.fallEdge
  repeat' first
    | with_reducible assumption | lift_lets
    | (intro x; refine (fun (hx : Frame F R sB x) => ?_) ?_ <;> [clear_value x; subst x])
    | with_reducible apply State.wrN_frame | with_reducible apply State.modStn_frame
    | with_reducible apply State.strayEdge_frame | with_reducible apply State.lockIndex_frame
    | with_reducible apply r_SCAN_STN_PYR | (intro x; clear_value x) | with_reducible apply Frame.ite | split

theorem execBdEdge_frame {sB : State} (i : Fin 8) (rising : Bool) (sub : Fin 2500) (fine : Fin 128) (ecc : Fin 3)
    (s : State) (hB : Frame F R sB s) (f_out : F .out) (f_host : F .host) (f_alm : F .alm) (f_ledg : F .ledg)
    (f_flt : F .flt) (f_hwd : F .hwd) (f_burl : F .burl) (f_scan : F .scan) (f_beam : F .beam) (f_axis : F .axis)
    (f_leg : F .leg) (r_ALM_EVENTS : R Reg.ALM_EVENTS) (r_BEAM_EVENTS : R Reg.BEAM_EVENTS)
    (r_BEAM_STATUS : R Reg.BEAM_STATUS) (r_BEAM_STN_COUNT_FAILOVER : ∀ i, R (Reg.BEAM_STN_COUNT_FAILOVER i))
    (r_BEAM_STN_STATE : ∀ i, R (Reg.BEAM_STN_STATE i)) (r_BURL_DBIND_ACT : ∀ i, R (Reg.BURL_DBIND_ACT i))
    (r_BURL_EVENTS : R Reg.BURL_EVENTS) (r_BURL_STATUS : R Reg.BURL_STATUS) (r_CLK_EVENTS : R Reg.CLK_EVENTS)
    (r_CLK_PLL_STATE : ∀ i, R (Reg.CLK_PLL_STATE i)) (r_CLK_STATUS : R Reg.CLK_STATUS)
    (r_HOST_RING_DIDX : ∀ i, R (Reg.HOST_RING_DIDX i)) (r_LEG_STATUS : R Reg.LEG_STATUS)
    (r_SCAN_EVENTS : R Reg.SCAN_EVENTS) (r_SCAN_STATUS : R Reg.SCAN_STATUS)
    (r_SCAN_STN_COUNT_MISS : ∀ i, R (Reg.SCAN_STN_COUNT_MISS i))
    (r_SCAN_STN_COUNT_STRAY : ∀ i, R (Reg.SCAN_STN_COUNT_STRAY i))
    (r_SCAN_STN_COUNT_UNDER : ∀ i, R (Reg.SCAN_STN_COUNT_UNDER i))
    (r_SCAN_STN_FPER : ∀ i j, R (Reg.SCAN_STN_FPER i j)) (r_SCAN_STN_LINE_HI : ∀ i, R (Reg.SCAN_STN_LINE_HI i))
    (r_SCAN_STN_LINE_LO : ∀ i, R (Reg.SCAN_STN_LINE_LO i)) (r_SCAN_STN_NDIV : ∀ i, R (Reg.SCAN_STN_NDIV i))
    (r_SCAN_STN_PERIOD : ∀ i, R (Reg.SCAN_STN_PERIOD i)) (r_SCAN_STN_PIXNOW : ∀ i, R (Reg.SCAN_STN_PIXNOW i))
    (r_SCAN_STN_PYR : ∀ i j, R (Reg.SCAN_STN_PYR i j)) (r_SCAN_STN_REG_ERR : ∀ i, R (Reg.SCAN_STN_REG_ERR i))
    (r_SCAN_STN_RESID : ∀ i j, R (Reg.SCAN_STN_RESID i j)) (r_SCAN_STN_STATE : ∀ i, R (Reg.SCAN_STN_STATE i)) :
    FrameO F R sB (execBdEdge i rising sub fine ecc s) := by
  delta execBdEdge
  repeat' first
    | with_reducible assumption | lift_lets | with_reducible apply FrameO.next
    | with_reducible apply State.closeWindows_frame | with_reducible apply State.riseEdge_frame
    | with_reducible apply State.fallEdge_frame | (intro x; clear_value x) | with_reducible apply FrameO.ite

theorem State.clearMeasured_frame {sB : State} (s : State) (mask : Nat) (hB : Frame F R sB s) (f_scan : F .scan)
    (r_SCAN_STN_FPER : ∀ i j, R (Reg.SCAN_STN_FPER i j)) (r_SCAN_STN_PYR : ∀ i j, R (Reg.SCAN_STN_PYR i j))
    (r_SCAN_STN_RESID : ∀ i j, R (Reg.SCAN_STN_RESID i j)) :
    Frame F R sB (State.clearMeasured s mask) := by
  delta State.clearMeasured
  repeat' first
    | with_reducible assumption | intro (u : State) (hu : Frame F R sB u) | lift_lets
    | (intro x; refine (fun (hx : Frame F R sB x) => ?_) ?_ <;> [clear_value x; subst x])
    | with_reducible apply State.wrN_frame | with_reducible apply State.upTo_frame
    | with_reducible apply State.modStn_frame | with_reducible apply r_SCAN_STN_FPER
    | with_reducible apply r_SCAN_STN_PYR | with_reducible apply r_SCAN_STN_RESID | intro _
    | with_reducible apply Frame.ite

theorem execScanMeasClr_frame {sB : State} (mask : Fin 256) (s : State) (hB : Frame F R sB s) (f_scan : F .scan)
    (r_SCAN_STN_FPER : ∀ i j, R (Reg.SCAN_STN_FPER i j)) (r_SCAN_STN_PYR : ∀ i j, R (Reg.SCAN_STN_PYR i j))
    (r_SCAN_STN_RESID : ∀ i j, R (Reg.SCAN_STN_RESID i j)) :
    FrameO F R sB (execScanMeasClr mask s) := by
  delta execScanMeasClr
  repeat' first
    | with_reducible assumption | lift_lets | with_reducible apply FrameO.next
    | with_reducible apply State.clearMeasured_frame

end Sys2Proof.Machine
end

