-- ==== Sys2Proof/Laws/FrameFabric.lean ====
section
/-!
SUPPORT. What each operation and each command can change, said once: the operations of CNPY, DMA, FLT and HWD. A lemma
`f_frame` names the parts of the state and the registers that `f` can change; all else, the queue of commands and the
fused life-cycle state stay, and the canonical form is kept.
-/

set_option Elab.async false
set_option linter.all false

namespace Sys2Proof.Machine

variable {F : Blk → Prop} {R : Nat → Prop}

/-! ### Canopy -/

theorem State.modCq_frame {sB : State} (s : State) (q : Nat) (f : CanopyQ → CanopyQ) (hB : Frame F R sB s)
    (f_cnpy : F .cnpy) :
    Frame F R sB (State.modCq s q f) := by
  delta State.modCq
  repeat' first
    | with_reducible assumption | lift_lets | (intro x; clear_value x) | with_reducible refine Frame.mk' ?_ rfl

theorem State.loseHeld_frame {sB : State} (s : State) (q : Nat) (hB : Frame F R sB s) (f_host : F .host)
    (f_cnpy : F .cnpy) :
    Frame F R sB (State.loseHeld s q) := by
  delta State.loseHeld
  repeat' first
    | with_reducible assumption | lift_lets
    | (intro x; refine (fun (hx : Frame F R sB x) => ?_) ?_ <;> [clear_value x; subst x])
    | with_reducible apply State.modCq_frame | (intro x; clear_value x) | split
    | with_reducible refine Frame.mk' ?_ rfl

theorem State.poolCheck_frame {sB : State} (s : State) (hB : Frame F R sB s) (f_host : F .host) (f_flt : F .flt)
    (f_hwd : F .hwd) (f_cnpy : F .cnpy) (r_CNPY_EVENTS : R Reg.CNPY_EVENTS) :
    Frame F R sB (State.poolCheck s) := by
  delta State.poolCheck
  repeat' first
    | with_reducible assumption | lift_lets | with_reducible apply State.fault_frame
    | with_reducible apply State.event_frame | with_reducible apply State.raiseBit_frame | (intro x; clear_value x)
    | with_reducible apply Frame.ite | with_reducible refine Frame.mk' ?_ rfl

theorem State.dropPackets_frame {sB : State} (s : State) (q n : Nat) (hB : Frame F R sB s) (f_host : F .host)
    (f_hwd : F .hwd) (r_CNPY_COUNT_DROP : R Reg.CNPY_COUNT_DROP) (r_CNPY_EVENTS : R Reg.CNPY_EVENTS) :
    Frame F R sB (State.dropPackets s q n) := by
  delta State.dropPackets
  repeat' first
    | with_reducible assumption | lift_lets
    | (intro x; refine (fun (hx : Frame F R sB x) => ?_) ?_ <;> [clear_value x; subst x])
    | with_reducible apply State.wrN_frame | with_reducible apply State.event_frame
    | with_reducible apply State.raiseBit_frame | with_reducible apply Frame.ite

theorem State.mismatch_frame {sB : State} (s : State) (q which : Nat) (hB : Frame F R sB s) (f_host : F .host)
    (f_flt : F .flt) (f_cnpy : F .cnpy) (r_CNPY_COUNT_MISMATCH : R Reg.CNPY_COUNT_MISMATCH)
    (r_CNPY_EVENTS : R Reg.CNPY_EVENTS) (r_CNPY_MISMATCH_Q : R Reg.CNPY_MISMATCH_Q) :
    Frame F R sB (State.mismatch s q which) := by
  delta State.mismatch
  repeat' first
    | with_reducible assumption | lift_lets
    | (intro x; refine (fun (hx : Frame F R sB x) => ?_) ?_ <;> [clear_value x; subst x])
    | with_reducible apply State.wrN_frame | with_reducible apply State.bump_frame
    | with_reducible apply State.fault_frame | with_reducible apply State.raiseBit_frame | (intro x; clear_value x)
    | with_reducible apply Frame.ite | with_reducible refine Frame.mk' ?_ rfl

theorem State.malformedPacket_frame {sB : State} (s : State) (q : Nat) (hB : Frame F R sB s) (f_host : F .host)
    (f_flt : F .flt) (f_hwd : F .hwd) (r_CNPY_COUNT_DROP : R Reg.CNPY_COUNT_DROP) (r_CNPY_EVENTS : R Reg.CNPY_EVENTS)
    :
    Frame F R sB (State.malformedPacket s q) := by
  delta State.malformedPacket
  repeat' first
    | with_reducible assumption | lift_lets | with_reducible apply State.fault_frame
    | with_reducible apply State.dropPackets_frame

theorem State.offerCell_frame {sB : State} (s : State) (q : Nat) (c : CellIn) (hB : Frame F R sB s) (f_host : F .host)
    (f_flt : F .flt) (f_hwd : F .hwd) (f_cnpy : F .cnpy) (r_CNPY_COUNT_DROP : R Reg.CNPY_COUNT_DROP) (r_CNPY_EVENTS :
    R Reg.CNPY_EVENTS) :
    Frame F R sB (s.offerCell q c).2 := by
  unfold State.offerCell
  dsimp only
  split
  · exact hB
  · split
    · repeat' first
        | with_reducible assumption | lift_lets | with_reducible apply State.modCq_frame
        | with_reducible apply State.poolCheck_frame | with_reducible apply State.malformedPacket_frame
    · split
      · repeat' first
          | with_reducible assumption | lift_lets | with_reducible apply State.modCq_frame
          | with_reducible apply State.poolCheck_frame | with_reducible apply State.malformedPacket_frame
      · split
        · repeat' first
            | with_reducible assumption | lift_lets | with_reducible apply State.modCq_frame
            | with_reducible apply State.poolCheck_frame | with_reducible apply State.malformedPacket_frame
        · exact hB

theorem State.offerCells_frame {sB : State} (s : State) (q : Nat) (cs : List CellIn) (hB : Frame F R sB s) (f_host : F
    .host) (f_flt : F .flt) (f_hwd : F .hwd) (f_cnpy : F .cnpy) (r_CNPY_COUNT_DROP : R Reg.CNPY_COUNT_DROP)
    (r_CNPY_EVENTS : R Reg.CNPY_EVENTS) :
    Frame F R sB (s.offerCells q cs) := by
  induction cs generalizing s with
  | nil => exact hB
  | cons c cs ih =>
    have h : Frame F R sB (s.offerCell q c).2 := by
      repeat' first
        | with_reducible assumption | lift_lets | with_reducible apply State.offerCell_frame
    unfold State.offerCells
    split
    · rename_i t e; rw [e] at h; exact ih _ h
    · rename_i t e; rw [e] at h; exact h

theorem State.makeRoom_frame {sB : State} (s : State) (q n fuel : Nat) (hB : Frame F R sB s) (f_cnpy : F .cnpy) :
    Frame F R sB (s.makeRoom q n fuel).2 := by
  induction fuel generalizing s with
  | zero => exact hB
  | succ f ih =>
    unfold State.makeRoom
    dsimp only
    split
    · exact hB
    · refine ih _ ?_
      repeat' first
        | with_reducible assumption | lift_lets | with_reducible apply State.modCq_frame

theorem State.offerPacket_frame {sB : State} (s : State) (q : Nat) (cs : List CellIn) (hB : Frame F R sB s) (f_host :
    F .host) (f_flt : F .flt) (f_hwd : F .hwd) (f_cnpy : F .cnpy) (r_CNPY_COUNT_DROP : R Reg.CNPY_COUNT_DROP)
    (r_CNPY_EVENTS : R Reg.CNPY_EVENTS) :
    Frame F R sB (s.offerPacket q cs) := by
  have hm : Frame F R sB (s.makeRoom q cs.length (s.cq q).cells.length).2 := by
    repeat' first
      | with_reducible assumption | lift_lets | with_reducible apply State.modCq_frame
      | with_reducible apply State.poolCheck_frame | with_reducible apply State.dropPackets_frame
      | with_reducible apply State.malformedPacket_frame | with_reducible apply State.makeRoom_frame
      | with_reducible apply Frame.ite
  unfold State.offerPacket
  dsimp only
  generalize s.makeRoom q cs.length (s.cq q).cells.length = r at *
  repeat' first
    | with_reducible assumption | lift_lets | with_reducible apply State.modCq_frame
    | with_reducible apply State.poolCheck_frame | with_reducible apply State.dropPackets_frame
    | with_reducible apply State.malformedPacket_frame | with_reducible apply State.makeRoom_frame
    | with_reducible apply Frame.ite

theorem State.cellWrite_frame {sB : State} (s : State) (q : Nat) (cells : List CellIn) (ptr : Nat)
    (hB : Frame F R sB s) (f_host : F .host) (f_flt : F .flt) (f_hwd : F .hwd) (f_cnpy : F .cnpy)
    (r_CNPY_COUNT_DROP : R Reg.CNPY_COUNT_DROP) (r_CNPY_COUNT_MISMATCH : R Reg.CNPY_COUNT_MISMATCH)
    (r_CNPY_EVENTS : R Reg.CNPY_EVENTS) (r_CNPY_MISMATCH_Q : R Reg.CNPY_MISMATCH_Q) :
    Frame F R sB (State.cellWrite s q cells ptr) := by
  delta State.cellWrite
  repeat' first
    | with_reducible assumption | intro (u : State) (hu : Frame F R sB u) | lift_lets
    | (intro x; refine (fun (hx : Frame F R sB x) => ?_) ?_ <;> [clear_value x; subst x])
    | with_reducible apply State.mismatch_frame | with_reducible apply State.offerCells_frame
    | with_reducible apply State.offerPacket_frame | with_reducible apply Frame.foldl | (intro x; clear_value x)
    | intro _ | with_reducible apply Frame.ite

theorem execCellWrite_frame {sB : State} (q : Fin 4096) (cells : List CellIn) (ptr : Fin 4) (s : State)
    (hB : Frame F R sB s) (f_host : F .host) (f_flt : F .flt) (f_hwd : F .hwd) (f_cnpy : F .cnpy)
    (r_CNPY_COUNT_DROP : R Reg.CNPY_COUNT_DROP) (r_CNPY_COUNT_MISMATCH : R Reg.CNPY_COUNT_MISMATCH)
    (r_CNPY_EVENTS : R Reg.CNPY_EVENTS) (r_CNPY_MISMATCH_Q : R Reg.CNPY_MISMATCH_Q) :
    FrameO F R sB (execCellWrite q cells ptr s) := by
  delta execCellWrite
  repeat' first
    | with_reducible assumption | lift_lets | with_reducible apply FrameO.next
    | with_reducible apply State.cellWrite_frame

theorem State.raiseNotice_frame {sB : State} (s : State) (kind q : Nat) (hB : Frame F R sB s) (f_cnpy : F .cnpy) :
    Frame F R sB (State.raiseNotice s kind q) := by
  delta State.raiseNotice
  repeat' first
    | with_reducible assumption | lift_lets | (intro x; clear_value x) | with_reducible refine Frame.mk' ?_ rfl

theorem State.linkQueue_frame {sB : State} (s : State) (q : Nat) (hB : Frame F R sB s) (f_cnpy : F .cnpy) :
    Frame F R sB (State.linkQueue s q) := by
  delta State.linkQueue
  repeat' first
    | with_reducible assumption | intro (u : State) (hu : Frame F R sB u) | lift_lets
    | with_reducible apply State.modCq_frame | with_reducible apply State.raiseNotice_frame
    | with_reducible apply Frame.foldl | (intro x; clear_value x) | intro _ | with_reducible apply Frame.ite

theorem State.readCell_frame {sB : State} (s : State) (q : Nat) (hB : Frame F R sB s) (f_cnpy : F .cnpy) : Frame F R
    sB (s.readCell q).2.2 := by
  unfold State.readCell
  dsimp only
  split
  · exact hB
  · split
    · exact hB
    · split
      · split
        · repeat' first
            | with_reducible assumption | with_reducible apply State.modCq_frame
        · repeat' first
            | with_reducible assumption | with_reducible apply State.modCq_frame
      · repeat' first
          | with_reducible assumption | with_reducible apply State.modCq_frame

theorem State.reportFixed_frame {sB : State} (s : State) (c : Option CellIn) (hB : Frame F R sB s) (f_flt : F .flt) :
    Frame F R sB (State.reportFixed s c) := by
  delta State.reportFixed
  repeat' first
    | with_reducible assumption | lift_lets | with_reducible apply State.fault_frame | with_reducible apply Frame.ite

theorem State.readCells_frame {sB : State} (s : State) (q n : Nat) (hB : Frame F R sB s) (f_out : F .out) (f_flt : F
    .flt) (f_cnpy : F .cnpy) : Frame F R sB (s.readCells q n) := by
  induction n generalizing s with
  | zero => exact hB
  | succ n ih =>
    unfold State.readCells
    split
    · exact hB
    · refine ih _ ?_
      repeat' first
        | with_reducible assumption | lift_lets | with_reducible apply State.emit_frame
        | with_reducible apply State.readCell_frame | with_reducible apply State.reportFixed_frame

theorem State.drainItem_frame {sB : State} (s : State) (q j : Nat) (hB : Frame F R sB s) (f_out : F .out)
    (f_host : F .host) (f_flt : F .flt) (f_cnpy : F .cnpy) (r_HOST_RING_DIDX : ∀ i, R (Reg.HOST_RING_DIDX i)) :
    Frame F R sB (State.drainItem s q j) := by
  delta State.drainItem
  repeat' first
    | with_reducible assumption | intro (u : State) (hu : Frame F R sB u) | lift_lets
    | (intro x; refine (fun (hx : Frame F R sB x) => ?_) ?_ <;> [clear_value x; subst x])
    | with_reducible apply State.emit_frame | with_reducible apply State.advance_frame
    | with_reducible apply State.modCq_frame | with_reducible apply State.reportFixed_frame
    | with_reducible apply Frame.foldl | (intro x; clear_value x) | intro _ | with_reducible apply Frame.ite

theorem State.drainTelemetry_frame {sB : State} (s : State) (hB : Frame F R sB s) (f_out : F .out) (f_host : F .host)
    (f_flt : F .flt) (f_cnpy : F .cnpy) (r_HOST_RING_DIDX : ∀ i, R (Reg.HOST_RING_DIDX i)) :
    Frame F R sB (State.drainTelemetry s) := by
  delta State.drainTelemetry
  repeat' first
    | with_reducible assumption | intro (u : State) (hu : Frame F R sB u) | lift_lets
    | (intro x; refine (fun (hx : Frame F R sB x) => ?_) ?_ <;> [clear_value x; subst x])
    | with_reducible apply State.upTo_frame | with_reducible apply State.drainItem_frame
    | with_reducible apply Frame.foldl | (intro x; clear_value x) | intro _ | with_reducible apply Frame.ite | split
    | with_reducible refine Frame.mk' ?_ rfl

theorem State.readHolding_frame {sB : State} (s : State) (hB : Frame F R sB s) (f_out : F .out) (f_flt : F .flt)
    (f_cnpy : F .cnpy) :
    Frame F R sB (State.readHolding s) := by
  delta State.readHolding
  repeat' first
    | with_reducible assumption | intro (u : State) (hu : Frame F R sB u) | lift_lets
    | with_reducible apply State.readCells_frame | with_reducible apply Frame.foldl | intro _
    | with_reducible apply Frame.ite

theorem State.linkCells_frame {sB : State} (s : State) (hB : Frame F R sB s) (f_cnpy : F .cnpy) :
    Frame F R sB (State.linkCells s) := by
  delta State.linkCells
  repeat' first
    | with_reducible assumption | intro (u : State) (hu : Frame F R sB u) | lift_lets
    | (intro x; refine (fun (hx : Frame F R sB x) => ?_) ?_ <;> [clear_value x; subst x])
    | with_reducible apply State.linkQueue_frame | with_reducible apply Frame.foldl | (intro x; clear_value x)
    | intro _ | with_reducible apply Frame.ite | with_reducible refine Frame.mk' ?_ rfl

theorem effClassTTimeout_frame {sB : State} (q : Fin 4096) (s : State) (hB : Frame F R sB s) (f_cnpy : F .cnpy) :
    FrameO F R sB (effClassTTimeout q s) := by
  delta effClassTTimeout
  repeat' first
    | with_reducible assumption | lift_lets | with_reducible apply FrameO.next
    | with_reducible apply State.modCq_frame | with_reducible apply State.raiseNotice_frame | (intro x; clear_value x)
    | with_reducible apply FrameO.ite

theorem State.cnpyNotices_frame {sB : State} (s : State) (hB : Frame F R sB s) (f_out : F .out) (f_cnpy : F .cnpy)
    (r_CNPY_NOTICE_BACKLOG : R Reg.CNPY_NOTICE_BACKLOG) :
    Frame F R sB (State.cnpyNotices s) := by
  delta State.cnpyNotices
  repeat' first
    | with_reducible assumption | intro (u : State) (hu : Frame F R sB u) | lift_lets
    | with_reducible apply State.wrN_frame | with_reducible apply State.emit_frame | with_reducible apply Frame.foldl
    | intro _ | with_reducible apply Frame.ite | with_reducible refine Frame.mk' ?_ rfl

theorem State.endScrub_frame {sB : State} (s : State) (hB : Frame F R sB s) (f_host : F .host) (f_flt : F .flt) (f_hwd
    : F .hwd) (f_cnpy : F .cnpy) (r_CNPY_EVENTS : R Reg.CNPY_EVENTS) : Frame F R sB s.endScrub := by
  unfold State.endScrub
  split
  · split
    · exact hB
    · dsimp only
      rename_i x xs _ _
      have h1 : Frame F R sB (s.loseHeld x.queue) := by
        repeat' first
          | with_reducible assumption | lift_lets | with_reducible apply State.event_frame
          | with_reducible apply State.loseHeld_frame | with_reducible apply State.poolCheck_frame
      generalize s.loseHeld x.queue = t at *
      have h2 : Frame F R sB { t with cnpy := { t.cnpy with scrubs := { x with ended := true } :: xs } } := h1.mk' rfl
      generalize ({ t with cnpy := { t.cnpy with scrubs := { x with ended := true } :: xs } } : State) = u at *
      repeat' first
        | with_reducible assumption | lift_lets | with_reducible apply State.event_frame
        | with_reducible apply State.loseHeld_frame | with_reducible apply State.poolCheck_frame
  · exact hB

theorem execScrubEnd_frame {sB : State} (s : State) (hB : Frame F R sB s) (f_host : F .host) (f_flt : F .flt)
    (f_hwd : F .hwd) (f_cnpy : F .cnpy) (r_CNPY_EVENTS : R Reg.CNPY_EVENTS) :
    FrameO F R sB (execScrubEnd s) := by
  delta execScrubEnd
  repeat' first
    | with_reducible assumption | lift_lets | with_reducible apply FrameO.next
    | with_reducible apply State.endScrub_frame

theorem State.scrubTick_frame {sB : State} (s : State) (hB : Frame F R sB s) (f_host : F .host) (f_flt : F .flt)
    (f_hwd : F .hwd) (f_cnpy : F .cnpy) (r_CNPY_EVENTS : R Reg.CNPY_EVENTS) :
    Frame F R sB (State.scrubTick s) := by
  delta State.scrubTick
  repeat' first
    | with_reducible assumption | lift_lets
    | (intro x; refine (fun (hx : Frame F R sB x) => ?_) ?_ <;> [clear_value x; subst x])
    | with_reducible apply State.endScrub_frame | (intro x; clear_value x) | with_reducible apply Frame.ite | split
    | with_reducible refine Frame.mk' ?_ rfl

theorem State.queueWrite_frame {sB : State} (s : State) (w : Writer) (hB : Frame F R sB s) (f_host : F .host)
    (f_flt : F .flt) (f_hwd : F .hwd) (f_cnpy : F .cnpy) (r_CNPY_EVENTS : R Reg.CNPY_EVENTS)
    (r_CNPY_QRESULT : R Reg.CNPY_QRESULT) (r_HOST_ERR : R Reg.HOST_ERR) (r_HOST_ERR_ADDR : R Reg.HOST_ERR_ADDR) :
    Frame F R sB (State.queueWrite s w) := by
  delta State.queueWrite
  repeat' first
    | with_reducible assumption | lift_lets
    | (intro x; refine (fun (hx : Frame F R sB x) => ?_) ?_ <;> [clear_value x; subst x])
    | with_reducible apply State.wrN_frame | with_reducible apply State.event_frame
    | with_reducible apply State.raiseBit_frame | with_reducible apply State.discarded_frame
    | with_reducible apply State.modCq_frame | (intro x; clear_value x) | with_reducible apply Frame.ite

theorem effQueueWrite_frame {sB : State} (w : Writer) (s : State) (hB : Frame F R sB s) (f_host : F .host)
    (f_flt : F .flt) (f_hwd : F .hwd) (f_cnpy : F .cnpy) (r_CNPY_EVENTS : R Reg.CNPY_EVENTS)
    (r_CNPY_QRESULT : R Reg.CNPY_QRESULT) (r_HOST_ERR : R Reg.HOST_ERR) (r_HOST_ERR_ADDR : R Reg.HOST_ERR_ADDR) :
    FrameO F R sB (effQueueWrite w s) := by
  delta effQueueWrite
  repeat' first
    | with_reducible assumption | lift_lets | with_reducible apply FrameO.next
    | with_reducible apply State.queueWrite_frame

theorem State.queueLoad_frame {sB : State} (s : State) (hB : Frame F R sB s) (r_CNPY_QCFG0 : R Reg.CNPY_QCFG0)
    (r_CNPY_QCFG1 : R Reg.CNPY_QCFG1) (r_CNPY_QCFG2 : R Reg.CNPY_QCFG2) (r_CNPY_QCFG3 : R Reg.CNPY_QCFG3)
    (r_CNPY_QRESULT : R Reg.CNPY_QRESULT) (r_CNPY_QSTATE : R Reg.CNPY_QSTATE) :
    Frame F R sB (State.queueLoad s) := by
  delta State.queueLoad
  repeat' first
    | with_reducible assumption | lift_lets | with_reducible apply State.wrN_frame

theorem effQueueLoad_frame {sB : State} (s : State) (hB : Frame F R sB s) (r_CNPY_QCFG0 : R Reg.CNPY_QCFG0)
    (r_CNPY_QCFG1 : R Reg.CNPY_QCFG1) (r_CNPY_QCFG2 : R Reg.CNPY_QCFG2) (r_CNPY_QCFG3 : R Reg.CNPY_QCFG3)
    (r_CNPY_QRESULT : R Reg.CNPY_QRESULT) (r_CNPY_QSTATE : R Reg.CNPY_QSTATE) :
    FrameO F R sB (effQueueLoad s) := by
  delta effQueueLoad
  repeat' first
    | with_reducible assumption | lift_lets | with_reducible apply FrameO.next
    | with_reducible apply State.queueLoad_frame

theorem State.queueFlush_frame {sB : State} (s : State) (hB : Frame F R sB s) (f_host : F .host) (f_flt : F .flt)
    (f_hwd : F .hwd) (f_cnpy : F .cnpy) (r_CNPY_COUNT_DROP : R Reg.CNPY_COUNT_DROP)
    (r_CNPY_EVENTS : R Reg.CNPY_EVENTS) (r_CNPY_QRESULT : R Reg.CNPY_QRESULT) :
    Frame F R sB (State.queueFlush s) := by
  delta State.queueFlush
  repeat' first
    | with_reducible assumption | lift_lets
    | (intro x; refine (fun (hx : Frame F R sB x) => ?_) ?_ <;> [clear_value x; subst x])
    | with_reducible apply State.wrN_frame | with_reducible apply State.loseHeld_frame
    | with_reducible apply State.poolCheck_frame | with_reducible apply State.dropPackets_frame
    | (intro x; clear_value x) | with_reducible apply Frame.ite | with_reducible refine Frame.mk' ?_ rfl

theorem effQueueFlush_frame {sB : State} (s : State) (hB : Frame F R sB s) (f_host : F .host) (f_flt : F .flt)
    (f_hwd : F .hwd) (f_cnpy : F .cnpy) (r_CNPY_COUNT_DROP : R Reg.CNPY_COUNT_DROP)
    (r_CNPY_EVENTS : R Reg.CNPY_EVENTS) (r_CNPY_QRESULT : R Reg.CNPY_QRESULT) :
    FrameO F R sB (effQueueFlush s) := by
  delta effQueueFlush
  repeat' first
    | with_reducible assumption | lift_lets | with_reducible apply FrameO.next
    | with_reducible apply State.queueFlush_frame

theorem State.configureQueues_frame {sB : State} (s : State) (hB : Frame F R sB s) (f_cnpy : F .cnpy) :
    Frame F R sB (State.configureQueues s) := by
  delta State.configureQueues
  repeat' first
    | with_reducible assumption | intro (u : State) (hu : Frame F R sB u) | lift_lets
    | with_reducible apply State.modCq_frame | with_reducible apply Frame.foldl | intro _

/-! ### Dma -/

theorem State.setCh_frame {sB : State} (s : State) (c st : Nat) (hB : Frame F R sB s)
    (r_DMA_CH_STATE : ∀ i, R (Reg.DMA_CH_STATE i)) :
    Frame F R sB (State.setCh s c st) := by
  delta State.setCh
  repeat' first
    | with_reducible assumption | lift_lets | with_reducible apply State.setFld_frame
    | with_reducible apply r_DMA_CH_STATE

theorem State.setPc_frame {sB : State} (s : State) (c pc : Nat) (hB : Frame F R sB s)
    (r_DMA_CH_STATE : ∀ i, R (Reg.DMA_CH_STATE i)) :
    Frame F R sB (State.setPc s c pc) := by
  delta State.setPc
  repeat' first
    | with_reducible assumption | lift_lets | with_reducible apply State.setFld_frame
    | with_reducible apply r_DMA_CH_STATE

theorem State.chResult_frame {sB : State} (s : State) (c r : Nat) (hB : Frame F R sB s) (f_host : F .host)
    (r_DMA_CH_STATE : ∀ i, R (Reg.DMA_CH_STATE i)) (r_DMA_EVENTS : R Reg.DMA_EVENTS) :
    Frame F R sB (State.chResult s c r) := by
  delta State.chResult
  repeat' first
    | with_reducible assumption | lift_lets
    | (intro x; refine (fun (hx : Frame F R sB x) => ?_) ?_ <;> [clear_value x; subst x])
    | with_reducible apply State.setFld_frame | with_reducible apply State.raiseBit_frame
    | with_reducible apply r_DMA_CH_STATE | with_reducible apply Frame.ite

theorem State.setLoopCnt_frame {sB : State} (s : State) (c k v : Nat) (hB : Frame F R sB s)
    (r_DMA_CH_LOOP01 : ∀ i, R (Reg.DMA_CH_LOOP01 i)) (r_DMA_CH_LOOP2 : ∀ i, R (Reg.DMA_CH_LOOP2 i)) :
    Frame F R sB (State.setLoopCnt s c k v) := by
  delta State.setLoopCnt
  repeat' first
    | with_reducible assumption | lift_lets | with_reducible apply State.setFld_frame
    | with_reducible apply r_DMA_CH_LOOP01 | with_reducible apply r_DMA_CH_LOOP2 | with_reducible apply Frame.ite

theorem State.setEvt_frame {sB : State} (s : State) (v : Nat) (hB : Frame F R sB s) (r_DMA_EVT_HI : R Reg.DMA_EVT_HI)
    (r_DMA_EVT_LO : R Reg.DMA_EVT_LO) :
    Frame F R sB (State.setEvt s v) := by
  delta State.setEvt
  repeat' first
    | with_reducible assumption | lift_lets | with_reducible apply State.wrN_frame

theorem State.chError_frame {sB : State} (s : State) (c code : Nat) (hB : Frame F R sB s)
    (r_DMA_CH_STATE : ∀ i, R (Reg.DMA_CH_STATE i)) :
    Frame F R sB (State.chError s c code) := by
  delta State.chError
  repeat' first
    | with_reducible assumption | lift_lets | with_reducible apply State.setFld_frame
    | with_reducible apply State.setCh_frame | with_reducible apply r_DMA_CH_STATE

theorem State.progError_frame {sB : State} (s : State) (c code : Nat) (hB : Frame F R sB s) (f_host : F .host)
    (f_flt : F .flt) (f_hwd : F .hwd) (r_DMA_CH_STATE : ∀ i, R (Reg.DMA_CH_STATE i)) (r_DMA_EVENTS : R Reg.DMA_EVENTS)
    :
    Frame F R sB (State.progError s c code) := by
  delta State.progError
  repeat' first
    | with_reducible assumption | lift_lets | with_reducible apply State.fault_frame
    | with_reducible apply State.event_frame | with_reducible apply State.raiseBit_frame
    | with_reducible apply State.chError_frame

theorem State.errAddr_frame {sB : State} (s : State) (c a : Nat) (hB : Frame F R sB s)
    (r_DMA_CH_ERRADDR_HI : ∀ i, R (Reg.DMA_CH_ERRADDR_HI i)) (r_DMA_CH_ERRADDR_LO : ∀ i, R (Reg.DMA_CH_ERRADDR_LO i))
    :
    Frame F R sB (State.errAddr s c a) := by
  delta State.errAddr
  repeat' first
    | with_reducible assumption | lift_lets | with_reducible apply State.wrN_frame
    | with_reducible apply r_DMA_CH_ERRADDR_HI | with_reducible apply r_DMA_CH_ERRADDR_LO

theorem State.busError_frame {sB : State} (s : State) (cause addr : Nat) (write : Bool) (hB : Frame F R sB s)
    (f_host : F .host) (f_dma : F .dma) (r_DMA_CH_STATE : ∀ i, R (Reg.DMA_CH_STATE i))
    (r_DMA_EVENTS : R Reg.DMA_EVENTS) (r_DMA_HALT_ADDR_HI : R Reg.DMA_HALT_ADDR_HI)
    (r_DMA_HALT_ADDR_LO : R Reg.DMA_HALT_ADDR_LO) (r_DMA_HALT_INFO : R Reg.DMA_HALT_INFO)
    (r_DMA_STATUS : R Reg.DMA_STATUS) :
    Frame F R sB (State.busError s cause addr write) := by
  delta State.busError
  repeat' first
    | with_reducible assumption | intro (u : State) (hu : Frame F R sB u) | lift_lets
    | (intro x; refine (fun (hx : Frame F R sB x) => ?_) ?_ <;> [clear_value x; subst x])
    | with_reducible apply State.wrN_frame | with_reducible apply State.setFlag_frame
    | with_reducible apply State.raiseBit_frame | with_reducible apply State.modDch_frame
    | with_reducible apply State.setCh_frame | with_reducible apply Frame.foldl | (intro x; clear_value x) | intro _
    | with_reducible refine Frame.mk' ?_ rfl

theorem execDmaBusError_frame {sB : State} (cause : Fin 8) (addr : DWord) (write : Bool) (s : State)
    (hB : Frame F R sB s) (f_host : F .host) (f_dma : F .dma) (r_DMA_CH_STATE : ∀ i, R (Reg.DMA_CH_STATE i))
    (r_DMA_EVENTS : R Reg.DMA_EVENTS) (r_DMA_HALT_ADDR_HI : R Reg.DMA_HALT_ADDR_HI)
    (r_DMA_HALT_ADDR_LO : R Reg.DMA_HALT_ADDR_LO) (r_DMA_HALT_INFO : R Reg.DMA_HALT_INFO)
    (r_DMA_STATUS : R Reg.DMA_STATUS) :
    FrameO F R sB (execDmaBusError cause addr write s) := by
  delta execDmaBusError
  repeat' first
    | with_reducible assumption | lift_lets | with_reducible apply FrameO.next
    | with_reducible apply State.busError_frame

theorem State.dmaReport_frame {sB : State} (s : State) (hB : Frame F R sB s) (f_flt : F .flt) (f_hwd : F .hwd)
    (f_dma : F .dma) :
    Frame F R sB (State.dmaReport s) := by
  delta State.dmaReport
  repeat' first
    | with_reducible assumption | lift_lets
    | (intro x; refine (fun (hx : Frame F R sB x) => ?_) ?_ <;> [clear_value x; subst x])
    | with_reducible apply State.fault_frame | with_reducible apply State.event_frame | (intro x; clear_value x)
    | with_reducible apply Frame.ite | split | with_reducible refine Frame.mk' ?_ rfl

theorem State.clearHalt_frame {sB : State} (s : State) (hB : Frame F R sB s) (f_hwd : F .hwd)
    (r_DMA_STATUS : R Reg.DMA_STATUS) :
    Frame F R sB (State.clearHalt s) := by
  delta State.clearHalt
  repeat' first
    | with_reducible assumption | lift_lets | with_reducible apply State.setFlag_frame
    | with_reducible apply State.event_frame | with_reducible apply Frame.ite

theorem execClearHalt_frame {sB : State} (s : State) (hB : Frame F R sB s) (f_hwd : F .hwd)
    (r_DMA_STATUS : R Reg.DMA_STATUS) :
    FrameO F R sB (execClearHalt s) := by
  delta execClearHalt
  repeat' first
    | with_reducible assumption | lift_lets | with_reducible apply FrameO.next
    | with_reducible apply State.clearHalt_frame

theorem State.spaceWrite_frame {sB : State} (s : State) (a : Nat) (bs : List Byte) (hB : Frame F R sB s) (f_out : F
    .out) (f_sram : F .sram) (f_dram : F .dram) :
    Frame F R sB (s.spaceWrite a bs) := by
  unfold State.spaceWrite
  repeat' first
    | with_reducible assumption | lift_lets | with_reducible apply State.emit_frame
    | with_reducible apply State.dramWrite_frame | with_reducible apply Frame.ite | refine Frame.mem ?_ rfl

theorem State.countBytes_frame {sB : State} (s : State) (c n : Nat) (hB : Frame F R sB s)
    (r_DMA_CH_BYTES : ∀ i, R (Reg.DMA_CH_BYTES i)) :
    Frame F R sB (State.countBytes s c n) := by
  delta State.countBytes
  repeat' first
    | with_reducible assumption | lift_lets | with_reducible apply State.wrN_frame
    | with_reducible apply r_DMA_CH_BYTES

theorem State.dataRun_frame {sB : State} (s : State) (c : Nat) (d : DataOp) (hsrc hdst : List Byte) (hB : Frame F R sB
    s) (f_out : F .out) (f_sram : F .sram) (f_host : F .host) (f_flt : F .flt) (f_hwd : F .hwd) (f_dram : F .dram)
    (f_dma : F .dma) (r_DMA_CH_BYTES : ∀ i, R (Reg.DMA_CH_BYTES i)) (r_DMA_CH_ERRADDR_HI : ∀ i, R
    (Reg.DMA_CH_ERRADDR_HI i)) (r_DMA_CH_ERRADDR_LO : ∀ i, R (Reg.DMA_CH_ERRADDR_LO i)) (r_DMA_CH_STATE : ∀ i, R
    (Reg.DMA_CH_STATE i)) (r_DMA_EVENTS : R Reg.DMA_EVENTS) (r_DMA_HALT_ADDR_HI : R Reg.DMA_HALT_ADDR_HI)
    (r_DMA_HALT_ADDR_LO : R Reg.DMA_HALT_ADDR_LO) (r_DMA_HALT_INFO : R Reg.DMA_HALT_INFO) (r_DMA_STATUS : R
    Reg.DMA_STATUS) :
    Frame F R sB (s.dataRun c d hsrc hdst).2 := by
  unfold State.dataRun
  dsimp only
  split
  · repeat' first
      | with_reducible assumption | lift_lets | with_reducible apply State.raiseBit_frame
      | with_reducible apply State.chError_frame | with_reducible apply State.progError_frame
      | with_reducible apply State.errAddr_frame | with_reducible apply State.busError_frame
      | with_reducible apply State.spaceWrite_frame | with_reducible apply State.countBytes_frame
  · split
    · repeat' first
        | with_reducible assumption | lift_lets | with_reducible apply State.raiseBit_frame
        | with_reducible apply State.chError_frame | with_reducible apply State.progError_frame
        | with_reducible apply State.errAddr_frame | with_reducible apply State.busError_frame
        | with_reducible apply State.spaceWrite_frame | with_reducible apply State.countBytes_frame
    · split
      · repeat' first
          | with_reducible assumption | lift_lets | with_reducible apply State.raiseBit_frame
          | with_reducible apply State.chError_frame | with_reducible apply State.progError_frame
          | with_reducible apply State.errAddr_frame | with_reducible apply State.busError_frame
          | with_reducible apply State.spaceWrite_frame | with_reducible apply State.countBytes_frame
      · split
        · split
          · repeat' first
              | with_reducible assumption | lift_lets | with_reducible apply State.raiseBit_frame
              | with_reducible apply State.chError_frame | with_reducible apply State.progError_frame
              | with_reducible apply State.errAddr_frame | with_reducible apply State.busError_frame
              | with_reducible apply State.spaceWrite_frame | with_reducible apply State.countBytes_frame
          · repeat' first
              | with_reducible assumption | lift_lets | with_reducible apply State.raiseBit_frame
              | with_reducible apply State.chError_frame | with_reducible apply State.progError_frame
              | with_reducible apply State.errAddr_frame | with_reducible apply State.busError_frame
              | with_reducible apply State.spaceWrite_frame | with_reducible apply State.countBytes_frame
        · repeat' first
            | with_reducible assumption | lift_lets | with_reducible apply State.raiseBit_frame
            | with_reducible apply State.chError_frame | with_reducible apply State.progError_frame
            | with_reducible apply State.errAddr_frame | with_reducible apply State.busError_frame
            | with_reducible apply State.spaceWrite_frame | with_reducible apply State.countBytes_frame

theorem State.loopInstr_frame {sB : State} (s : State) (c : Nat) (b : List Byte) (hB : Frame F R sB s)
    (f_dma : F .dma) (r_DMA_CH_LOOP01 : ∀ i, R (Reg.DMA_CH_LOOP01 i)) (r_DMA_CH_LOOP2 : ∀ i, R (Reg.DMA_CH_LOOP2 i))
    (r_DMA_CH_STATE : ∀ i, R (Reg.DMA_CH_STATE i)) :
    Frame F R sB (State.loopInstr s c b) := by
  delta State.loopInstr
  repeat' first
    | with_reducible assumption | lift_lets | with_reducible apply State.modDch_frame
    | with_reducible apply State.setPc_frame | with_reducible apply State.setLoopCnt_frame | (intro x; clear_value x)
    | with_reducible apply Frame.ite

theorem State.signalInstr_frame {sB : State} (s : State) (c : Nat) (b : List Byte) (hB : Frame F R sB s)
    (f_host : F .host) (f_dma : F .dma) (r_DMA_CH_SIGVAL : ∀ i, R (Reg.DMA_CH_SIGVAL i))
    (r_DMA_CH_STATE : ∀ i, R (Reg.DMA_CH_STATE i)) :
    Frame F R sB (State.signalInstr s c b) := by
  delta State.signalInstr
  repeat' first
    | with_reducible assumption | lift_lets
    | (intro x; refine (fun (hx : Frame F R sB x) => ?_) ?_ <;> [clear_value x; subst x])
    | with_reducible apply State.wrN_frame | with_reducible apply State.vector_frame
    | with_reducible apply State.setPc_frame | with_reducible apply r_DMA_CH_SIGVAL | with_reducible apply Frame.ite
    | with_reducible refine Frame.mk' ?_ rfl

theorem State.passWait_frame {sB : State} (s : State) (c : Nat) (b : List Byte) (met : Bool) (hB : Frame F R sB s)
    (r_DMA_CH_STATE : ∀ i, R (Reg.DMA_CH_STATE i)) (r_DMA_EVT_HI : R Reg.DMA_EVT_HI) (r_DMA_EVT_LO : R Reg.DMA_EVT_LO)
    :
    Frame F R sB (State.passWait s c b met) := by
  delta State.passWait
  repeat' first
    | with_reducible assumption | lift_lets
    | (intro x; refine (fun (hx : Frame F R sB x) => ?_) ?_ <;> [clear_value x; subst x])
    | with_reducible apply State.setCh_frame | with_reducible apply State.setPc_frame
    | with_reducible apply State.setEvt_frame | with_reducible apply Frame.ite

theorem State.enterWait_frame {sB : State} (s : State) (c : Nat) (b : List Byte) (hB : Frame F R sB s)
    (f_host : F .host) (f_flt : F .flt) (f_hwd : F .hwd) (f_dma : F .dma)
    (r_DMA_CH_STATE : ∀ i, R (Reg.DMA_CH_STATE i)) (r_DMA_EVENTS : R Reg.DMA_EVENTS) (r_DMA_EVT_HI : R Reg.DMA_EVT_HI)
    (r_DMA_EVT_LO : R Reg.DMA_EVT_LO) :
    Frame F R sB (State.enterWait s c b) := by
  delta State.enterWait
  repeat' first
    | with_reducible assumption | lift_lets
    | (intro x; refine (fun (hx : Frame F R sB x) => ?_) ?_ <;> [clear_value x; subst x])
    | with_reducible apply State.modDch_frame | with_reducible apply State.setCh_frame
    | with_reducible apply State.progError_frame | with_reducible apply State.passWait_frame
    | with_reducible apply Frame.ite

theorem State.runControl_frame {sB : State} (ctl : Bool) (c n : Nat) (s : State) (hB : Frame F R sB s) (f_host : F
    .host) (f_flt : F .flt) (f_hwd : F .hwd) (f_dma : F .dma) (r_DMA_CH_ERRADDR_HI : ∀ i, R (Reg.DMA_CH_ERRADDR_HI i))
    (r_DMA_CH_ERRADDR_LO : ∀ i, R (Reg.DMA_CH_ERRADDR_LO i)) (r_DMA_CH_LOOP01 : ∀ i, R (Reg.DMA_CH_LOOP01 i))
    (r_DMA_CH_LOOP2 : ∀ i, R (Reg.DMA_CH_LOOP2 i)) (r_DMA_CH_SIGVAL : ∀ i, R (Reg.DMA_CH_SIGVAL i)) (r_DMA_CH_STATE :
    ∀ i, R (Reg.DMA_CH_STATE i)) (r_DMA_EVENTS : R Reg.DMA_EVENTS) (r_DMA_EVT_HI : R Reg.DMA_EVT_HI) (r_DMA_EVT_LO : R
    Reg.DMA_EVT_LO) :
    Frame F R sB (State.runControl ctl c n s) := by
  induction n generalizing s with
  | zero => exact hB
  | succ n ih =>
    unfold State.runControl
    dsimp only
    split
    · exact hB
    · split
      · refine ih _ ?_
        repeat' first
          | with_reducible assumption | lift_lets | with_reducible apply State.progError_frame
          | with_reducible apply State.errAddr_frame | with_reducible apply State.loopInstr_frame
          | with_reducible apply State.signalInstr_frame | with_reducible apply State.enterWait_frame
      · split
        · refine ih _ ?_
          repeat' first
            | with_reducible assumption | lift_lets | with_reducible apply State.progError_frame
            | with_reducible apply State.errAddr_frame | with_reducible apply State.loopInstr_frame
            | with_reducible apply State.signalInstr_frame | with_reducible apply State.enterWait_frame
        · exact hB
      · split
        · refine ih _ ?_
          repeat' first
            | with_reducible assumption | lift_lets | with_reducible apply State.progError_frame
            | with_reducible apply State.errAddr_frame | with_reducible apply State.loopInstr_frame
            | with_reducible apply State.signalInstr_frame | with_reducible apply State.enterWait_frame
        · exact hB
      · exact hB
      · split
        · repeat' first
            | with_reducible assumption | lift_lets | with_reducible apply State.progError_frame
            | with_reducible apply State.errAddr_frame | with_reducible apply State.loopInstr_frame
            | with_reducible apply State.signalInstr_frame | with_reducible apply State.enterWait_frame
        · exact hB

theorem State.goOn_frame {sB : State} (s : State) (c : Nat) (hB : Frame F R sB s) (f_host : F .host) (f_flt : F .flt)
    (f_hwd : F .hwd) (f_dma : F .dma) (r_DMA_CH_ERRADDR_HI : ∀ i, R (Reg.DMA_CH_ERRADDR_HI i))
    (r_DMA_CH_ERRADDR_LO : ∀ i, R (Reg.DMA_CH_ERRADDR_LO i)) (r_DMA_CH_LOOP01 : ∀ i, R (Reg.DMA_CH_LOOP01 i))
    (r_DMA_CH_LOOP2 : ∀ i, R (Reg.DMA_CH_LOOP2 i)) (r_DMA_CH_SIGVAL : ∀ i, R (Reg.DMA_CH_SIGVAL i))
    (r_DMA_CH_STATE : ∀ i, R (Reg.DMA_CH_STATE i)) (r_DMA_EVENTS : R Reg.DMA_EVENTS) (r_DMA_EVT_HI : R Reg.DMA_EVT_HI)
    (r_DMA_EVT_LO : R Reg.DMA_EVT_LO) :
    Frame F R sB (State.goOn s c) := by
  delta State.goOn
  repeat' first
    | with_reducible assumption | with_reducible apply State.runControl_frame

theorem State.goDecide_frame {sB : State} (s : State) (c : Nat) (hB : Frame F R sB s) (f_host : F .host)
    (f_flt : F .flt) (f_hwd : F .hwd) (f_dma : F .dma) (r_DMA_CH_ERRADDR_HI : ∀ i, R (Reg.DMA_CH_ERRADDR_HI i))
    (r_DMA_CH_ERRADDR_LO : ∀ i, R (Reg.DMA_CH_ERRADDR_LO i)) (r_DMA_CH_LOOP01 : ∀ i, R (Reg.DMA_CH_LOOP01 i))
    (r_DMA_CH_LOOP2 : ∀ i, R (Reg.DMA_CH_LOOP2 i)) (r_DMA_CH_SIGVAL : ∀ i, R (Reg.DMA_CH_SIGVAL i))
    (r_DMA_CH_STATE : ∀ i, R (Reg.DMA_CH_STATE i)) (r_DMA_EVENTS : R Reg.DMA_EVENTS) (r_DMA_EVT_HI : R Reg.DMA_EVT_HI)
    (r_DMA_EVT_LO : R Reg.DMA_EVT_LO) :
    Frame F R sB (State.goDecide s c) := by
  delta State.goDecide
  repeat' first
    | with_reducible assumption | with_reducible apply State.runControl_frame

theorem State.dmaStart_frame {sB : State} (s : State) (c : Nat) (hB : Frame F R sB s) (f_host : F .host)
    (f_dma : F .dma) (r_DMA_CH_LOOP01 : ∀ i, R (Reg.DMA_CH_LOOP01 i)) (r_DMA_CH_LOOP2 : ∀ i, R (Reg.DMA_CH_LOOP2 i))
    (r_DMA_CH_STATE : ∀ i, R (Reg.DMA_CH_STATE i)) (r_DMA_EVENTS : R Reg.DMA_EVENTS) :
    Frame F R sB (State.dmaStart s c) := by
  delta State.dmaStart
  repeat' first
    | with_reducible assumption | lift_lets
    | (intro x; refine (fun (hx : Frame F R sB x) => ?_) ?_ <;> [clear_value x; subst x])
    | with_reducible apply State.wrN_frame | with_reducible apply State.modDch_frame
    | with_reducible apply State.chResult_frame | with_reducible apply r_DMA_CH_LOOP01
    | with_reducible apply r_DMA_CH_LOOP2 | with_reducible apply r_DMA_CH_STATE | (intro x; clear_value x)
    | with_reducible apply Frame.ite

theorem State.dmaAbort_frame {sB : State} (s : State) (c : Nat) (hB : Frame F R sB s) (f_host : F .host)
    (f_dma : F .dma) (r_DMA_CH_STATE : ∀ i, R (Reg.DMA_CH_STATE i)) (r_DMA_EVENTS : R Reg.DMA_EVENTS) :
    Frame F R sB (State.dmaAbort s c) := by
  delta State.dmaAbort
  repeat' first
    | with_reducible assumption | lift_lets | with_reducible apply State.modDch_frame
    | with_reducible apply State.chResult_frame | (intro x; clear_value x) | with_reducible apply Frame.ite

theorem State.dmaResume_frame {sB : State} (s : State) (c : Nat) (hB : Frame F R sB s) (f_host : F .host)
    (f_dma : F .dma) (r_DMA_CH_STATE : ∀ i, R (Reg.DMA_CH_STATE i)) (r_DMA_EVENTS : R Reg.DMA_EVENTS) :
    Frame F R sB (State.dmaResume s c) := by
  delta State.dmaResume
  repeat' first
    | with_reducible assumption | lift_lets
    | (intro x; refine (fun (hx : Frame F R sB x) => ?_) ?_ <;> [clear_value x; subst x])
    | with_reducible apply State.modDch_frame | with_reducible apply State.setCh_frame
    | with_reducible apply State.chResult_frame | with_reducible apply Frame.ite

theorem effDmaStart_frame {sB : State} (w : Writer) (c : Fin 64) (s : State) (hB : Frame F R sB s) (f_host : F .host)
    (f_flt : F .flt) (f_dma : F .dma) (r_DMA_CH_LOOP01 : ∀ i, R (Reg.DMA_CH_LOOP01 i))
    (r_DMA_CH_LOOP2 : ∀ i, R (Reg.DMA_CH_LOOP2 i)) (r_DMA_CH_STATE : ∀ i, R (Reg.DMA_CH_STATE i))
    (r_DMA_EVENTS : R Reg.DMA_EVENTS) (r_HOST_ERR : R Reg.HOST_ERR) (r_HOST_ERR_ADDR : R Reg.HOST_ERR_ADDR) :
    FrameO F R sB (effDmaStart w c s) := by
  delta effDmaStart
  repeat' first
    | with_reducible assumption | lift_lets | with_reducible apply FrameO.next
    | with_reducible apply State.discarded_frame | with_reducible apply State.dmaStart_frame
    | with_reducible apply FrameO.ite

theorem effDmaAbort_frame {sB : State} (w : Writer) (c : Fin 64) (s : State) (hB : Frame F R sB s) (f_host : F .host)
    (f_flt : F .flt) (f_dma : F .dma) (r_DMA_CH_STATE : ∀ i, R (Reg.DMA_CH_STATE i)) (r_DMA_EVENTS : R Reg.DMA_EVENTS)
    (r_HOST_ERR : R Reg.HOST_ERR) (r_HOST_ERR_ADDR : R Reg.HOST_ERR_ADDR) :
    FrameO F R sB (effDmaAbort w c s) := by
  delta effDmaAbort
  repeat' first
    | with_reducible assumption | lift_lets | with_reducible apply FrameO.next
    | with_reducible apply State.discarded_frame | with_reducible apply State.dmaAbort_frame
    | with_reducible apply FrameO.ite

theorem effDmaResume_frame {sB : State} (w : Writer) (c : Fin 64) (s : State) (hB : Frame F R sB s)
    (f_host : F .host) (f_flt : F .flt) (f_dma : F .dma) (r_DMA_CH_STATE : ∀ i, R (Reg.DMA_CH_STATE i))
    (r_DMA_EVENTS : R Reg.DMA_EVENTS) (r_HOST_ERR : R Reg.HOST_ERR) (r_HOST_ERR_ADDR : R Reg.HOST_ERR_ADDR) :
    FrameO F R sB (effDmaResume w c s) := by
  delta effDmaResume
  repeat' first
    | with_reducible assumption | lift_lets | with_reducible apply FrameO.next
    | with_reducible apply State.discarded_frame | with_reducible apply State.dmaResume_frame
    | with_reducible apply FrameO.ite

theorem execDmaAbortDone_frame {sB : State} (c : Fin 64) (s : State) (hB : Frame F R sB s) (f_dma : F .dma)
    (r_DMA_CH_STATE : ∀ i, R (Reg.DMA_CH_STATE i)) :
    FrameO F R sB (execDmaAbortDone c s) := by
  delta execDmaAbortDone
  repeat' first
    | with_reducible assumption | lift_lets | with_reducible apply FrameO.next
    | with_reducible apply State.modDch_frame | with_reducible apply State.chError_frame
    | with_reducible apply FrameO.ite

theorem execDmaEvtSet_frame {sB : State} (v : DWord) (s : State) (hB : Frame F R sB s)
    (r_DMA_EVT_HI : R Reg.DMA_EVT_HI) (r_DMA_EVT_LO : R Reg.DMA_EVT_LO) :
    FrameO F R sB (execDmaEvtSet v s) := by
  delta execDmaEvtSet
  repeat' first
    | with_reducible assumption | lift_lets | with_reducible apply FrameO.next
    | with_reducible apply State.setEvt_frame

theorem execDmaEvtClr_frame {sB : State} (v : DWord) (s : State) (hB : Frame F R sB s)
    (r_DMA_EVT_HI : R Reg.DMA_EVT_HI) (r_DMA_EVT_LO : R Reg.DMA_EVT_LO) :
    FrameO F R sB (execDmaEvtClr v s) := by
  delta execDmaEvtClr
  repeat' first
    | with_reducible assumption | lift_lets | with_reducible apply FrameO.next
    | with_reducible apply State.setEvt_frame

theorem State.checkProgram_frame {sB : State} (s : State) (c : Nat) (host : List Byte) (hB : Frame F R sB s)
    (f_sram : F .sram) (f_host : F .host) (f_flt : F .flt) (f_hwd : F .hwd) (f_dma : F .dma)
    (r_DMA_CH_ERRADDR_HI : ∀ i, R (Reg.DMA_CH_ERRADDR_HI i)) (r_DMA_CH_ERRADDR_LO : ∀ i, R (Reg.DMA_CH_ERRADDR_LO i))
    (r_DMA_CH_LOOP01 : ∀ i, R (Reg.DMA_CH_LOOP01 i)) (r_DMA_CH_LOOP2 : ∀ i, R (Reg.DMA_CH_LOOP2 i))
    (r_DMA_CH_SIGVAL : ∀ i, R (Reg.DMA_CH_SIGVAL i)) (r_DMA_CH_STATE : ∀ i, R (Reg.DMA_CH_STATE i))
    (r_DMA_EVENTS : R Reg.DMA_EVENTS) (r_DMA_EVT_HI : R Reg.DMA_EVT_HI) (r_DMA_EVT_LO : R Reg.DMA_EVT_LO)
    (r_DMA_HALT_ADDR_HI : R Reg.DMA_HALT_ADDR_HI) (r_DMA_HALT_ADDR_LO : R Reg.DMA_HALT_ADDR_LO)
    (r_DMA_HALT_INFO : R Reg.DMA_HALT_INFO) (r_DMA_STATUS : R Reg.DMA_STATUS) :
    Frame F R sB (State.checkProgram s c host) := by
  delta State.checkProgram
  repeat' first
    | with_reducible assumption | lift_lets
    | (intro x; refine (fun (hx : Frame F R sB x) => ?_) ?_ <;> [clear_value x; subst x])
    | with_reducible apply State.setCh_frame | with_reducible apply State.setPc_frame
    | with_reducible apply State.progError_frame | with_reducible apply State.busError_frame
    | with_reducible apply State.goOn_frame | (intro x; clear_value x) | with_reducible apply Frame.ite | split
    | refine Frame.mem ?_ rfl

theorem execProgramCheckDone_frame {sB : State} (c : Fin 64) (host : List Byte) (s : State) (hB : Frame F R sB s)
    (f_sram : F .sram) (f_host : F .host) (f_flt : F .flt) (f_hwd : F .hwd) (f_dma : F .dma)
    (r_DMA_CH_ERRADDR_HI : ∀ i, R (Reg.DMA_CH_ERRADDR_HI i)) (r_DMA_CH_ERRADDR_LO : ∀ i, R (Reg.DMA_CH_ERRADDR_LO i))
    (r_DMA_CH_LOOP01 : ∀ i, R (Reg.DMA_CH_LOOP01 i)) (r_DMA_CH_LOOP2 : ∀ i, R (Reg.DMA_CH_LOOP2 i))
    (r_DMA_CH_SIGVAL : ∀ i, R (Reg.DMA_CH_SIGVAL i)) (r_DMA_CH_STATE : ∀ i, R (Reg.DMA_CH_STATE i))
    (r_DMA_EVENTS : R Reg.DMA_EVENTS) (r_DMA_EVT_HI : R Reg.DMA_EVT_HI) (r_DMA_EVT_LO : R Reg.DMA_EVT_LO)
    (r_DMA_HALT_ADDR_HI : R Reg.DMA_HALT_ADDR_HI) (r_DMA_HALT_ADDR_LO : R Reg.DMA_HALT_ADDR_LO)
    (r_DMA_HALT_INFO : R Reg.DMA_HALT_INFO) (r_DMA_STATUS : R Reg.DMA_STATUS) :
    FrameO F R sB (execProgramCheckDone c host s) := by
  delta execProgramCheckDone
  repeat' first
    | with_reducible assumption | lift_lets | with_reducible apply FrameO.next
    | with_reducible apply State.checkProgram_frame

theorem State.descRun_frame {sB : State} (s : State) (c : Nat) (b hsrc hdst : List Byte) (hB : Frame F R sB s) (f_out
    : F .out) (f_sram : F .sram) (f_host : F .host) (f_flt : F .flt) (f_hwd : F .hwd) (f_dram : F .dram) (f_dma : F
    .dma) (r_DMA_CH_BYTES : ∀ i, R (Reg.DMA_CH_BYTES i)) (r_DMA_CH_ERRADDR_HI : ∀ i, R (Reg.DMA_CH_ERRADDR_HI i))
    (r_DMA_CH_ERRADDR_LO : ∀ i, R (Reg.DMA_CH_ERRADDR_LO i)) (r_DMA_CH_STATE : ∀ i, R (Reg.DMA_CH_STATE i))
    (r_DMA_EVENTS : R Reg.DMA_EVENTS) (r_DMA_HALT_ADDR_HI : R Reg.DMA_HALT_ADDR_HI) (r_DMA_HALT_ADDR_LO : R
    Reg.DMA_HALT_ADDR_LO) (r_DMA_HALT_INFO : R Reg.DMA_HALT_INFO) (r_DMA_STATUS : R Reg.DMA_STATUS) :
    Frame F R sB (s.descRun c b hsrc hdst) := by
  have h : Frame F R sB (s.dataRun c (descOp b) hsrc hdst).2 := by
    repeat' first
      | with_reducible assumption | lift_lets | with_reducible apply State.vector_frame
      | with_reducible apply State.modDch_frame | with_reducible apply State.setCh_frame
      | with_reducible apply State.dataRun_frame | with_reducible apply Frame.ite
  unfold State.descRun
  dsimp only
  split
  · rename_i t e; rw [e] at h; exact h
  · rename_i t e; rw [e] at h
    have h1 : Frame F R sB (if bitOf (leAt b 0x14 4) 4 = true then t.vector (48 + c) else t) := by
      repeat' first
        | with_reducible assumption | lift_lets | with_reducible apply State.vector_frame
        | with_reducible apply State.modDch_frame | with_reducible apply State.setCh_frame
        | with_reducible apply State.dataRun_frame | with_reducible apply Frame.ite
    generalize (if bitOf (leAt b 0x14 4) 4 = true then t.vector (48 + c) else t) = u at *
    repeat' first
      | with_reducible assumption | lift_lets | with_reducible apply State.vector_frame
      | with_reducible apply State.modDch_frame | with_reducible apply State.setCh_frame
      | with_reducible apply State.dataRun_frame | with_reducible apply Frame.ite

theorem execDmaDescriptor_frame {sB : State} (c : Fin 64) (host hsrc hdst : List Byte) (s : State)
    (hB : Frame F R sB s) (f_out : F .out) (f_sram : F .sram) (f_host : F .host) (f_flt : F .flt) (f_hwd : F .hwd)
    (f_dram : F .dram) (f_dma : F .dma) (r_DMA_CH_BYTES : ∀ i, R (Reg.DMA_CH_BYTES i))
    (r_DMA_CH_ERRADDR_HI : ∀ i, R (Reg.DMA_CH_ERRADDR_HI i)) (r_DMA_CH_ERRADDR_LO : ∀ i, R (Reg.DMA_CH_ERRADDR_LO i))
    (r_DMA_CH_STATE : ∀ i, R (Reg.DMA_CH_STATE i)) (r_DMA_EVENTS : R Reg.DMA_EVENTS)
    (r_DMA_HALT_ADDR_HI : R Reg.DMA_HALT_ADDR_HI) (r_DMA_HALT_ADDR_LO : R Reg.DMA_HALT_ADDR_LO)
    (r_DMA_HALT_INFO : R Reg.DMA_HALT_INFO) (r_DMA_STATUS : R Reg.DMA_STATUS) :
    FrameO F R sB (execDmaDescriptor c host hsrc hdst s) := by
  delta execDmaDescriptor
  repeat' first
    | with_reducible assumption | with_reducible exact FrameO.fault _ | lift_lets | with_reducible apply FrameO.next
    | with_reducible apply State.progError_frame | with_reducible apply State.busError_frame
    | with_reducible apply State.descRun_frame | (intro x; clear_value x) | with_reducible apply FrameO.ite

theorem execDataInstructionDone_frame {sB : State} (c : Fin 64) (hsrc hdst : List Byte) (s : State) (hB : Frame F R sB
    s) (f_out : F .out) (f_sram : F .sram) (f_host : F .host) (f_flt : F .flt) (f_hwd : F .hwd) (f_dram : F .dram)
    (f_dma : F .dma) (r_DMA_CH_BYTES : ∀ i, R (Reg.DMA_CH_BYTES i)) (r_DMA_CH_ERRADDR_HI : ∀ i, R
    (Reg.DMA_CH_ERRADDR_HI i)) (r_DMA_CH_ERRADDR_LO : ∀ i, R (Reg.DMA_CH_ERRADDR_LO i)) (r_DMA_CH_LOOP01 : ∀ i, R
    (Reg.DMA_CH_LOOP01 i)) (r_DMA_CH_LOOP2 : ∀ i, R (Reg.DMA_CH_LOOP2 i)) (r_DMA_CH_SIGVAL : ∀ i, R (Reg.DMA_CH_SIGVAL
    i)) (r_DMA_CH_STATE : ∀ i, R (Reg.DMA_CH_STATE i)) (r_DMA_EVENTS : R Reg.DMA_EVENTS) (r_DMA_EVT_HI : R
    Reg.DMA_EVT_HI) (r_DMA_EVT_LO : R Reg.DMA_EVT_LO) (r_DMA_HALT_ADDR_HI : R Reg.DMA_HALT_ADDR_HI)
    (r_DMA_HALT_ADDR_LO : R Reg.DMA_HALT_ADDR_LO) (r_DMA_HALT_INFO : R Reg.DMA_HALT_INFO) (r_DMA_STATUS : R
    Reg.DMA_STATUS) :
    FrameO F R sB (execDataInstructionDone c hsrc hdst s) := by
  unfold execDataInstructionDone
  split
  · exact FrameO.next hB
  · split
    · rename_i d _
      have h : Frame F R sB (s.dataRun c d hsrc hdst).2 := by
        repeat' first
          | with_reducible assumption | lift_lets | with_reducible apply FrameO.next
          | with_reducible apply State.setPc_frame | with_reducible apply State.dataRun_frame
          | with_reducible apply State.goOn_frame
      split
      · exact FrameO.fault _
      · split
        · exact FrameO.next hB
        · split
          · rename_i t e; rw [e] at h; exact FrameO.next h
          · rename_i t e; rw [e] at h
            repeat' first
              | with_reducible assumption | lift_lets | with_reducible apply FrameO.next
              | with_reducible apply State.setPc_frame | with_reducible apply State.dataRun_frame
              | with_reducible apply State.goOn_frame
    · exact FrameO.next hB

theorem State.waitEnds_frame {sB : State} (s : State) (c : Nat) (hB : Frame F R sB s) (f_host : F .host)
    (f_flt : F .flt) (f_hwd : F .hwd) (f_dma : F .dma) (r_DMA_CH_ERRADDR_HI : ∀ i, R (Reg.DMA_CH_ERRADDR_HI i))
    (r_DMA_CH_ERRADDR_LO : ∀ i, R (Reg.DMA_CH_ERRADDR_LO i)) (r_DMA_CH_LOOP01 : ∀ i, R (Reg.DMA_CH_LOOP01 i))
    (r_DMA_CH_LOOP2 : ∀ i, R (Reg.DMA_CH_LOOP2 i)) (r_DMA_CH_SIGVAL : ∀ i, R (Reg.DMA_CH_SIGVAL i))
    (r_DMA_CH_STATE : ∀ i, R (Reg.DMA_CH_STATE i)) (r_DMA_EVENTS : R Reg.DMA_EVENTS) (r_DMA_EVT_HI : R Reg.DMA_EVT_HI)
    (r_DMA_EVT_LO : R Reg.DMA_EVT_LO) :
    Frame F R sB (State.waitEnds s c) := by
  delta State.waitEnds
  repeat' first
    | with_reducible assumption | lift_lets | with_reducible apply State.passWait_frame
    | with_reducible apply State.goDecide_frame | (intro x; clear_value x) | with_reducible apply Frame.ite

theorem effWaitMet_frame {sB : State} (c : Fin 64) (s : State) (hB : Frame F R sB s) (f_host : F .host)
    (f_flt : F .flt) (f_hwd : F .hwd) (f_dma : F .dma) (r_DMA_CH_ERRADDR_HI : ∀ i, R (Reg.DMA_CH_ERRADDR_HI i))
    (r_DMA_CH_ERRADDR_LO : ∀ i, R (Reg.DMA_CH_ERRADDR_LO i)) (r_DMA_CH_LOOP01 : ∀ i, R (Reg.DMA_CH_LOOP01 i))
    (r_DMA_CH_LOOP2 : ∀ i, R (Reg.DMA_CH_LOOP2 i)) (r_DMA_CH_SIGVAL : ∀ i, R (Reg.DMA_CH_SIGVAL i))
    (r_DMA_CH_STATE : ∀ i, R (Reg.DMA_CH_STATE i)) (r_DMA_EVENTS : R Reg.DMA_EVENTS) (r_DMA_EVT_HI : R Reg.DMA_EVT_HI)
    (r_DMA_EVT_LO : R Reg.DMA_EVT_LO) :
    FrameO F R sB (effWaitMet c s) := by
  delta effWaitMet
  repeat' first
    | with_reducible assumption | lift_lets | with_reducible apply FrameO.next
    | with_reducible apply State.waitEnds_frame

theorem State.waitLapses_frame {sB : State} (s : State) (c : Nat) (hB : Frame F R sB s) (f_host : F .host)
    (f_flt : F .flt) (f_hwd : F .hwd) (f_dma : F .dma) (r_DMA_CH_ERRADDR_HI : ∀ i, R (Reg.DMA_CH_ERRADDR_HI i))
    (r_DMA_CH_ERRADDR_LO : ∀ i, R (Reg.DMA_CH_ERRADDR_LO i)) (r_DMA_CH_LOOP01 : ∀ i, R (Reg.DMA_CH_LOOP01 i))
    (r_DMA_CH_LOOP2 : ∀ i, R (Reg.DMA_CH_LOOP2 i)) (r_DMA_CH_SIGVAL : ∀ i, R (Reg.DMA_CH_SIGVAL i))
    (r_DMA_CH_STATE : ∀ i, R (Reg.DMA_CH_STATE i)) (r_DMA_EVENTS : R Reg.DMA_EVENTS) (r_DMA_EVT_HI : R Reg.DMA_EVT_HI)
    (r_DMA_EVT_LO : R Reg.DMA_EVT_LO) :
    Frame F R sB (State.waitLapses s c) := by
  delta State.waitLapses
  repeat' first
    | with_reducible assumption | lift_lets
    | (intro x; refine (fun (hx : Frame F R sB x) => ?_) ?_ <;> [clear_value x; subst x])
    | with_reducible apply State.raiseBit_frame | with_reducible apply State.chError_frame
    | with_reducible apply State.passWait_frame | with_reducible apply State.goDecide_frame | (intro x; clear_value x)
    | with_reducible apply Frame.ite

theorem effWaitTimeout_frame {sB : State} (c : Fin 64) (s : State) (hB : Frame F R sB s) (f_host : F .host)
    (f_flt : F .flt) (f_hwd : F .hwd) (f_dma : F .dma) (r_DMA_CH_ERRADDR_HI : ∀ i, R (Reg.DMA_CH_ERRADDR_HI i))
    (r_DMA_CH_ERRADDR_LO : ∀ i, R (Reg.DMA_CH_ERRADDR_LO i)) (r_DMA_CH_LOOP01 : ∀ i, R (Reg.DMA_CH_LOOP01 i))
    (r_DMA_CH_LOOP2 : ∀ i, R (Reg.DMA_CH_LOOP2 i)) (r_DMA_CH_SIGVAL : ∀ i, R (Reg.DMA_CH_SIGVAL i))
    (r_DMA_CH_STATE : ∀ i, R (Reg.DMA_CH_STATE i)) (r_DMA_EVENTS : R Reg.DMA_EVENTS) (r_DMA_EVT_HI : R Reg.DMA_EVT_HI)
    (r_DMA_EVT_LO : R Reg.DMA_EVT_LO) :
    FrameO F R sB (effWaitTimeout c s) := by
  delta effWaitTimeout
  repeat' first
    | with_reducible assumption | lift_lets | with_reducible apply FrameO.next
    | with_reducible apply State.waitLapses_frame

theorem State.channelTurn_frame {sB : State} (s : State) (c : Nat) (hB : Frame F R sB s) (f_sram : F .sram)
    (f_host : F .host) (f_flt : F .flt) (f_hwd : F .hwd) (f_dma : F .dma)
    (r_DMA_CH_ERRADDR_HI : ∀ i, R (Reg.DMA_CH_ERRADDR_HI i)) (r_DMA_CH_ERRADDR_LO : ∀ i, R (Reg.DMA_CH_ERRADDR_LO i))
    (r_DMA_CH_LOOP01 : ∀ i, R (Reg.DMA_CH_LOOP01 i)) (r_DMA_CH_LOOP2 : ∀ i, R (Reg.DMA_CH_LOOP2 i))
    (r_DMA_CH_SIGVAL : ∀ i, R (Reg.DMA_CH_SIGVAL i)) (r_DMA_CH_STATE : ∀ i, R (Reg.DMA_CH_STATE i))
    (r_DMA_EVENTS : R Reg.DMA_EVENTS) (r_DMA_EVT_HI : R Reg.DMA_EVT_HI) (r_DMA_EVT_LO : R Reg.DMA_EVT_LO)
    (r_DMA_HALT_ADDR_HI : R Reg.DMA_HALT_ADDR_HI) (r_DMA_HALT_ADDR_LO : R Reg.DMA_HALT_ADDR_LO)
    (r_DMA_HALT_INFO : R Reg.DMA_HALT_INFO) (r_DMA_STATUS : R Reg.DMA_STATUS) :
    Frame F R sB (State.channelTurn s c) := by
  delta State.channelTurn
  repeat' first
    | with_reducible assumption | lift_lets
    | (intro x; refine (fun (hx : Frame F R sB x) => ?_) ?_ <;> [clear_value x; subst x])
    | with_reducible apply State.goDecide_frame | with_reducible apply State.checkProgram_frame
    | with_reducible apply State.waitEnds_frame | with_reducible apply State.waitLapses_frame
    | with_reducible apply Frame.ite

theorem execDmaEnd_frame {sB : State} (c : Fin 64) (s : State) (hB : Frame F R sB s) (f_host : F .host)
    (r_DMA_CH_STATE : ∀ i, R (Reg.DMA_CH_STATE i)) :
    FrameO F R sB (execDmaEnd c s) := by
  delta execDmaEnd
  repeat' first
    | with_reducible assumption | lift_lets
    | (intro x; refine (fun (hx : Frame F R sB x) => ?_) ?_ <;> [clear_value x; subst x])
    | with_reducible apply FrameO.next | with_reducible apply State.vector_frame
    | with_reducible apply State.setCh_frame | (intro x; clear_value x) | with_reducible apply Frame.ite
    | with_reducible apply FrameO.ite

theorem State.dmaTick_frame {sB : State} (s : State) (hB : Frame F R sB s) (f_dma : F .dma)
    (r_DMA_EVT_HI : R Reg.DMA_EVT_HI) (r_DMA_EVT_LO : R Reg.DMA_EVT_LO) :
    Frame F R sB (State.dmaTick s) := by
  delta State.dmaTick
  repeat' first
    | with_reducible assumption | lift_lets
    | (intro x; refine (fun (hx : Frame F R sB x) => ?_) ?_ <;> [clear_value x; subst x])
    | with_reducible apply State.setEvt_frame | (intro x; clear_value x) | with_reducible apply Frame.ite
    | with_reducible refine Frame.mk' ?_ rfl

/-! ### Faults -/

theorem State.driveErrn_frame {sB : State} (s : State) (was : Bool) (hB : Frame F R sB s) (f_out : F .out) :
    Frame F R sB (State.driveErrn s was) := by
  delta State.driveErrn
  repeat' first
    | with_reducible assumption | lift_lets | with_reducible apply State.emit_frame | with_reducible apply Frame.ite

theorem State.addCause_frame {sB : State} (s : State) (causes : Nat) (hB : Frame F R sB s)
    (r_FLT_SAFE_CAUSE : R Reg.FLT_SAFE_CAUSE) :
    Frame F R sB (State.addCause s causes) := by
  delta State.addCause
  repeat' first
    | with_reducible assumption | with_reducible apply State.wrN_frame

theorem State.safeOutputs_frame {sB : State} (s : State) (causes : Nat) (hB : Frame F R sB s) (f_out : F .out)
    (f_beam : F .beam) (r_BEAM_STATUS : R Reg.BEAM_STATUS) (r_BEAM_STN_STATE : ∀ i, R (Reg.BEAM_STN_STATE i))
    (r_FLT_SAFE_CAUSE : R Reg.FLT_SAFE_CAUSE) (r_FLT_SAFE_TICK_HI : R Reg.FLT_SAFE_TICK_HI)
    (r_FLT_SAFE_TICK_LO : R Reg.FLT_SAFE_TICK_LO) (r_FLT_STATUS : R Reg.FLT_STATUS) :
    Frame F R sB (State.safeOutputs s causes) := by
  delta State.safeOutputs
  repeat' first
    | with_reducible assumption | lift_lets
    | (intro x; refine (fun (hx : Frame F R sB x) => ?_) ?_ <;> [clear_value x; subst x])
    | with_reducible apply State.wrN_frame | with_reducible apply State.setFlag_frame
    | with_reducible apply State.emit_frame | with_reducible apply State.darkAll_frame
    | with_reducible apply State.driveErrn_frame | with_reducible apply State.addCause_frame

theorem State.safeBlocks_frame {sB : State} (s : State) (hB : Frame F R sB s) (f_fresh : F .fresh) (f_out : F .out)
    (f_host : F .host) (f_alm : F .alm) (f_ledg : F .ledg) (f_pace : F .pace) (f_flt : F .flt) (f_hwd : F .hwd)
    (f_burl : F .burl) (f_scan : F .scan) (f_step : F .step) (f_axis : F .axis) (f_loop : F .loop) (f_leg : F .leg)
    (r_ALM_EVENTS : R Reg.ALM_EVENTS) (r_ALM_REQ_RESULT : R Reg.ALM_REQ_RESULT) (r_ALM_STATUS : R Reg.ALM_STATUS)
    (r_FLT_EVENTS : R Reg.FLT_EVENTS) (r_HOST_ERR : R Reg.HOST_ERR) (r_LEDG_BH_STATUS : R Reg.LEDG_BH_STATUS)
    (r_LEDG_COUNT_JAM : R Reg.LEDG_COUNT_JAM) (r_LEDG_EVENTS : R Reg.LEDG_EVENTS)
    (r_LEDG_PACE_EVENTS : R Reg.LEDG_PACE_EVENTS) (r_LEDG_STATUS : R Reg.LEDG_STATUS)
    (r_LEG_STATUS : R Reg.LEG_STATUS) (r_LOOP_EVENTS : R Reg.LOOP_EVENTS)
    (r_LOOP_LP_DUTY : ∀ i, R (Reg.LOOP_LP_DUTY i)) (r_LOOP_LP_STATE : ∀ i, R (Reg.LOOP_LP_STATE i)) :
    Frame F R sB (State.safeBlocks s) := by
  delta State.safeBlocks
  repeat' first
    | with_reducible assumption | lift_lets
    | (intro x; refine (fun (hx : Frame F R sB x) => ?_) ?_ <;> [clear_value x; subst x])
    | with_reducible apply State.event_frame | with_reducible apply State.raiseBit_frame
    | with_reducible apply State.urgent_frame | with_reducible apply State.legPost_frame
    | with_reducible apply State.safePath_frame | with_reducible apply State.jam_frame
    | with_reducible apply State.safeSteppers_frame | with_reducible apply State.safeAxes_frame
    | with_reducible apply State.safeLoops_frame | with_reducible apply State.almSafe_frame

theorem State.enterSafe_frame {sB : State} (s : State) (causes : Nat) (hB : Frame F R sB s) (f_fresh : F .fresh)
    (f_out : F .out) (f_host : F .host) (f_alm : F .alm) (f_ledg : F .ledg) (f_pace : F .pace) (f_flt : F .flt)
    (f_hwd : F .hwd) (f_burl : F .burl) (f_scan : F .scan) (f_beam : F .beam) (f_step : F .step) (f_axis : F .axis)
    (f_loop : F .loop) (f_leg : F .leg) (r_ALM_EVENTS : R Reg.ALM_EVENTS) (r_ALM_REQ_RESULT : R Reg.ALM_REQ_RESULT)
    (r_ALM_STATUS : R Reg.ALM_STATUS) (r_BEAM_STATUS : R Reg.BEAM_STATUS)
    (r_BEAM_STN_STATE : ∀ i, R (Reg.BEAM_STN_STATE i)) (r_FLT_EVENTS : R Reg.FLT_EVENTS)
    (r_FLT_SAFE_CAUSE : R Reg.FLT_SAFE_CAUSE) (r_FLT_SAFE_TICK_HI : R Reg.FLT_SAFE_TICK_HI)
    (r_FLT_SAFE_TICK_LO : R Reg.FLT_SAFE_TICK_LO) (r_FLT_STATUS : R Reg.FLT_STATUS) (r_HOST_ERR : R Reg.HOST_ERR)
    (r_LEDG_BH_STATUS : R Reg.LEDG_BH_STATUS) (r_LEDG_COUNT_JAM : R Reg.LEDG_COUNT_JAM)
    (r_LEDG_EVENTS : R Reg.LEDG_EVENTS) (r_LEDG_PACE_EVENTS : R Reg.LEDG_PACE_EVENTS)
    (r_LEDG_STATUS : R Reg.LEDG_STATUS) (r_LEG_STATUS : R Reg.LEG_STATUS) (r_LOOP_EVENTS : R Reg.LOOP_EVENTS)
    (r_LOOP_LP_DUTY : ∀ i, R (Reg.LOOP_LP_DUTY i)) (r_LOOP_LP_STATE : ∀ i, R (Reg.LOOP_LP_STATE i)) :
    Frame F R sB (State.enterSafe s causes) := by
  delta State.enterSafe
  repeat' first
    | with_reducible assumption | lift_lets | with_reducible apply State.addCause_frame
    | with_reducible apply State.safeOutputs_frame | with_reducible apply State.safeBlocks_frame
    | with_reducible apply Frame.ite

theorem State.enterByHardware_frame {sB : State} (s : State) (causes code : Nat) (args : List Nat)
    (hB : Frame F R sB s) (f_out : F .out) (f_flt : F .flt) (f_beam : F .beam) (r_BEAM_STATUS : R Reg.BEAM_STATUS)
    (r_BEAM_STN_STATE : ∀ i, R (Reg.BEAM_STN_STATE i)) (r_FLT_SAFE_CAUSE : R Reg.FLT_SAFE_CAUSE)
    (r_FLT_SAFE_TICK_HI : R Reg.FLT_SAFE_TICK_HI) (r_FLT_SAFE_TICK_LO : R Reg.FLT_SAFE_TICK_LO)
    (r_FLT_STATUS : R Reg.FLT_STATUS) :
    Frame F R sB (State.enterByHardware s causes code args) := by
  delta State.enterByHardware
  repeat' first
    | with_reducible assumption | lift_lets
    | (intro x; refine (fun (hx : Frame F R sB x) => ?_) ?_ <;> [clear_value x; subst x])
    | with_reducible apply State.addCause_frame | with_reducible apply State.safeOutputs_frame
    | (intro x; clear_value x) | with_reducible apply Frame.ite | with_reducible refine Frame.mk' ?_ rfl

theorem State.decideSafe_frame {sB : State} (s : State) (causes : Nat) (hB : Frame F R sB s) (f_fresh : F .fresh)
    (f_out : F .out) (f_host : F .host) (f_alm : F .alm) (f_ledg : F .ledg) (f_pace : F .pace) (f_flt : F .flt)
    (f_hwd : F .hwd) (f_burl : F .burl) (f_scan : F .scan) (f_beam : F .beam) (f_step : F .step) (f_axis : F .axis)
    (f_loop : F .loop) (f_leg : F .leg) (r_ALM_EVENTS : R Reg.ALM_EVENTS) (r_ALM_REQ_RESULT : R Reg.ALM_REQ_RESULT)
    (r_ALM_STATUS : R Reg.ALM_STATUS) (r_BEAM_STATUS : R Reg.BEAM_STATUS)
    (r_BEAM_STN_STATE : ∀ i, R (Reg.BEAM_STN_STATE i)) (r_FLT_EVENTS : R Reg.FLT_EVENTS)
    (r_FLT_RESULT : R Reg.FLT_RESULT) (r_FLT_SAFE_CAUSE : R Reg.FLT_SAFE_CAUSE) (r_FLT_SAFE_SRC : R Reg.FLT_SAFE_SRC)
    (r_FLT_SAFE_TICK_HI : R Reg.FLT_SAFE_TICK_HI) (r_FLT_SAFE_TICK_LO : R Reg.FLT_SAFE_TICK_LO)
    (r_FLT_STATUS : R Reg.FLT_STATUS) (r_HOST_ERR : R Reg.HOST_ERR) (r_LEDG_BH_STATUS : R Reg.LEDG_BH_STATUS)
    (r_LEDG_COUNT_JAM : R Reg.LEDG_COUNT_JAM) (r_LEDG_EVENTS : R Reg.LEDG_EVENTS)
    (r_LEDG_PACE_EVENTS : R Reg.LEDG_PACE_EVENTS) (r_LEDG_STATUS : R Reg.LEDG_STATUS)
    (r_LEG_STATUS : R Reg.LEG_STATUS) (r_LOOP_EVENTS : R Reg.LOOP_EVENTS)
    (r_LOOP_LP_DUTY : ∀ i, R (Reg.LOOP_LP_DUTY i)) (r_LOOP_LP_STATE : ∀ i, R (Reg.LOOP_LP_STATE i)) :
    Frame F R sB (State.decideSafe s causes) := by
  delta State.decideSafe
  repeat' first
    | with_reducible assumption | lift_lets
    | (intro x; refine (fun (hx : Frame F R sB x) => ?_) ?_ <;> [clear_value x; subst x])
    | with_reducible apply State.wrN_frame | with_reducible apply State.setFlag_frame
    | with_reducible apply State.raiseBit_frame | with_reducible apply State.driveErrn_frame
    | with_reducible apply State.addCause_frame | with_reducible apply State.enterSafe_frame
    | (intro x; clear_value x) | split | with_reducible refine Frame.mk' ?_ rfl

theorem State.ctrlRefused_frame {sB : State} (s : State) (r : Nat) (hB : Frame F R sB s) (f_host : F .host)
    (r_FLT_EVENTS : R Reg.FLT_EVENTS) (r_FLT_RESULT : R Reg.FLT_RESULT) :
    Frame F R sB (State.ctrlRefused s r) := by
  delta State.ctrlRefused
  repeat' first
    | with_reducible assumption | lift_lets | with_reducible apply State.wrN_frame
    | with_reducible apply State.raiseBit_frame

theorem State.latchMsg_frame {sB : State} (s : State) (m : FaultMsg) (hB : Frame F R sB s) (f_flt : F .flt)
    (r_FLT_COUNT_MERGED : R Reg.FLT_COUNT_MERGED) (r_FLT_COUNT_MSG : R Reg.FLT_COUNT_MSG) :
    Frame F R sB (State.latchMsg s m) := by
  delta State.latchMsg
  repeat' first
    | with_reducible assumption | lift_lets
    | (intro x; refine (fun (hx : Frame F R sB x) => ?_) ?_ <;> [clear_value x; subst x])
    | with_reducible apply State.bump_frame | (intro x; clear_value x) | split
    | with_reducible refine Frame.mk' ?_ rfl

theorem State.gatherFaults_frame {sB : State} (s : State) (hB : Frame F R sB s) (f_flt : F .flt)
    (r_FLT_COUNT_MERGED : R Reg.FLT_COUNT_MERGED) (r_FLT_COUNT_MSG : R Reg.FLT_COUNT_MSG) :
    Frame F R sB (State.gatherFaults s) := by
  delta State.gatherFaults
  repeat' first
    | with_reducible assumption | intro (u : State) (hu : Frame F R sB u) | lift_lets
    | with_reducible apply State.latchMsg_frame | with_reducible apply Frame.foldl | intro _
    | with_reducible refine Frame.mk' ?_ rfl

theorem State.setEsc_frame {sB : State} (s : State) (src v : Nat) (hB : Frame F R sB s)
    (r_FLT_ESC : ∀ i, R (Reg.FLT_ESC i)) :
    Frame F R sB (State.setEsc s src v) := by
  delta State.setEsc
  repeat' first
    | with_reducible assumption | lift_lets | with_reducible apply State.setFld_frame | with_reducible apply r_FLT_ESC

theorem State.logEntry_frame {sB : State} (s : State) (m : FaultMsg) (merged reaction : Nat) (escalated : Bool) (hB :
    Frame F R sB s) (r_FLT_LOG : ∀ i k, R (Reg.FLT_LOG i + 4 * (k % 4))) (r_FLT_LOG_WR : R Reg.FLT_LOG_WR) :
    Frame F R sB (s.logEntry m merged reaction escalated) :=
  State.bump_frame _ _ _ _ (State.bump_frame _ _ _ _ (State.wrN_frame _ _ _ (State.wrN_frame _ _ _ (State.wrN_frame _ _ _
    (State.wrN_frame _ _ _ hB (r_FLT_LOG _ 0)) (r_FLT_LOG _ 1)) (r_FLT_LOG _ 2)) (r_FLT_LOG _ 3)) r_FLT_LOG_WR) r_FLT_LOG_WR

theorem State.setPendBit_frame {sB : State} (s : State) (src : Nat) (hB : Frame F R sB s)
    (r_FLT_PEND_HI : ∀ i, R (Reg.FLT_PEND_HI i)) (r_FLT_PEND_LO : ∀ i, R (Reg.FLT_PEND_LO i)) :
    Frame F R sB (State.setPendBit s src) := by
  delta State.setPendBit
  repeat' first
    | with_reducible assumption | lift_lets | with_reducible apply State.setFlag_frame
    | with_reducible apply r_FLT_PEND_HI | with_reducible apply r_FLT_PEND_LO | split

theorem State.trap_frame {sB : State} (s : State) (hB : Frame F R sB s) (f_host : F .host) (f_flt : F .flt) :
    Frame F R sB (State.trap s) := by
  delta State.trap
  repeat' first
    | with_reducible assumption | lift_lets | with_reducible apply State.urgent_frame
    | with_reducible refine Frame.mk' ?_ rfl

theorem State.setErrn_frame {sB : State} (s : State) (hB : Frame F R sB s) (f_out : F .out) (f_flt : F .flt)
    (r_FLT_STATUS : R Reg.FLT_STATUS) :
    Frame F R sB (State.setErrn s) := by
  delta State.setErrn
  repeat' first
    | with_reducible assumption | lift_lets
    | (intro x; refine (fun (hx : Frame F R sB x) => ?_) ?_ <;> [clear_value x; subst x])
    | with_reducible apply State.setFlag_frame | with_reducible apply State.driveErrn_frame
    | with_reducible refine Frame.mk' ?_ rfl

theorem State.startWait_frame {sB : State} (s : State) (kind cause : Nat) (msg : Option FaultMsg)
    (hB : Frame F R sB s) (f_flt : F .flt) (r_FLT_STATUS : R Reg.FLT_STATUS) :
    Frame F R sB (State.startWait s kind cause msg) := by
  delta State.startWait
  repeat' first
    | with_reducible assumption | lift_lets
    | (intro x; refine (fun (hx : Frame F R sB x) => ?_) ?_ <;> [clear_value x; subst x])
    | with_reducible apply State.setFlag_frame | (intro x; clear_value x) | with_reducible apply Frame.ite | split
    | with_reducible refine Frame.mk' ?_ rfl

theorem State.react_frame {sB : State} (s : State) (m : FaultMsg) (r : Nat) (hB : Frame F R sB s) (f_out : F .out)
    (f_host : F .host) (f_flt : F .flt) (r_FLT_EVENTS : R Reg.FLT_EVENTS) (r_FLT_PEND_HI : ∀ i, R (Reg.FLT_PEND_HI i))
    (r_FLT_PEND_LO : ∀ i, R (Reg.FLT_PEND_LO i)) (r_FLT_STATUS : R Reg.FLT_STATUS) :
    Frame F R sB (State.react s m r) := by
  delta State.react
  repeat' first
    | with_reducible assumption | lift_lets
    | (intro x; refine (fun (hx : Frame F R sB x) => ?_) ?_ <;> [clear_value x; subst x])
    | with_reducible apply State.raiseBit_frame | with_reducible apply State.setPendBit_frame
    | with_reducible apply State.trap_frame | with_reducible apply State.setErrn_frame
    | with_reducible apply State.startWait_frame | (intro x; clear_value x) | with_reducible apply Frame.ite
    | with_reducible refine Frame.mk' ?_ rfl

theorem State.reactSafe_frame {sB : State} (s : State) (m : FaultMsg) (merged count r : Nat) (esc : Bool)
    (hB : Frame F R sB s) (f_fresh : F .fresh) (f_out : F .out) (f_host : F .host) (f_alm : F .alm) (f_ledg : F .ledg)
    (f_pace : F .pace) (f_flt : F .flt) (f_hwd : F .hwd) (f_burl : F .burl) (f_scan : F .scan) (f_beam : F .beam)
    (f_step : F .step) (f_axis : F .axis) (f_loop : F .loop) (f_leg : F .leg) (r_ALM_EVENTS : R Reg.ALM_EVENTS)
    (r_ALM_REQ_RESULT : R Reg.ALM_REQ_RESULT) (r_ALM_STATUS : R Reg.ALM_STATUS) (r_BEAM_STATUS : R Reg.BEAM_STATUS)
    (r_BEAM_STN_STATE : ∀ i, R (Reg.BEAM_STN_STATE i)) (r_FLT_EVENTS : R Reg.FLT_EVENTS)
    (r_FLT_RESULT : R Reg.FLT_RESULT) (r_FLT_SAFE_CAUSE : R Reg.FLT_SAFE_CAUSE) (r_FLT_SAFE_SRC : R Reg.FLT_SAFE_SRC)
    (r_FLT_SAFE_TICK_HI : R Reg.FLT_SAFE_TICK_HI) (r_FLT_SAFE_TICK_LO : R Reg.FLT_SAFE_TICK_LO)
    (r_FLT_STATUS : R Reg.FLT_STATUS) (r_HOST_ERR : R Reg.HOST_ERR) (r_LEDG_BH_STATUS : R Reg.LEDG_BH_STATUS)
    (r_LEDG_COUNT_JAM : R Reg.LEDG_COUNT_JAM) (r_LEDG_EVENTS : R Reg.LEDG_EVENTS)
    (r_LEDG_PACE_EVENTS : R Reg.LEDG_PACE_EVENTS) (r_LEDG_STATUS : R Reg.LEDG_STATUS)
    (r_LEG_STATUS : R Reg.LEG_STATUS) (r_LOOP_EVENTS : R Reg.LOOP_EVENTS)
    (r_LOOP_LP_DUTY : ∀ i, R (Reg.LOOP_LP_DUTY i)) (r_LOOP_LP_STATE : ∀ i, R (Reg.LOOP_LP_STATE i)) :
    Frame F R sB (State.reactSafe s m merged count r esc) := by
  delta State.reactSafe
  repeat' first
    | with_reducible assumption | lift_lets
    | (intro x; refine (fun (hx : Frame F R sB x) => ?_) ?_ <;> [clear_value x; subst x])
    | with_reducible apply State.wrN_frame | with_reducible apply State.event_frame
    | with_reducible apply State.raiseBit_frame | with_reducible apply State.decideSafe_frame
    | with_reducible apply Frame.ite

theorem State.evalLatch_frame {sB : State} (s : State) (l : Latch) (hB : Frame F R sB s) (f_fresh : F .fresh)
    (f_out : F .out) (f_host : F .host) (f_alm : F .alm) (f_ledg : F .ledg) (f_pace : F .pace) (f_flt : F .flt)
    (f_hwd : F .hwd) (f_burl : F .burl) (f_scan : F .scan) (f_beam : F .beam) (f_step : F .step) (f_axis : F .axis)
    (f_loop : F .loop) (f_leg : F .leg) (r_ALM_EVENTS : R Reg.ALM_EVENTS) (r_ALM_REQ_RESULT : R Reg.ALM_REQ_RESULT)
    (r_ALM_STATUS : R Reg.ALM_STATUS) (r_BEAM_STATUS : R Reg.BEAM_STATUS)
    (r_BEAM_STN_STATE : ∀ i, R (Reg.BEAM_STN_STATE i)) (r_FLT_ESC : ∀ i, R (Reg.FLT_ESC i))
    (r_FLT_EVENTS : R Reg.FLT_EVENTS) (r_FLT_LOG : ∀ i k, R (Reg.FLT_LOG i + 4 * (k % 4)))
    (r_FLT_LOG_WR : R Reg.FLT_LOG_WR) (r_FLT_PEND_HI : ∀ i, R (Reg.FLT_PEND_HI i))
    (r_FLT_PEND_LO : ∀ i, R (Reg.FLT_PEND_LO i)) (r_FLT_RESULT : R Reg.FLT_RESULT)
    (r_FLT_SAFE_CAUSE : R Reg.FLT_SAFE_CAUSE) (r_FLT_SAFE_SRC : R Reg.FLT_SAFE_SRC)
    (r_FLT_SAFE_TICK_HI : R Reg.FLT_SAFE_TICK_HI) (r_FLT_SAFE_TICK_LO : R Reg.FLT_SAFE_TICK_LO)
    (r_FLT_STATUS : R Reg.FLT_STATUS) (r_HOST_ERR : R Reg.HOST_ERR) (r_LEDG_BH_STATUS : R Reg.LEDG_BH_STATUS)
    (r_LEDG_COUNT_JAM : R Reg.LEDG_COUNT_JAM) (r_LEDG_EVENTS : R Reg.LEDG_EVENTS)
    (r_LEDG_PACE_EVENTS : R Reg.LEDG_PACE_EVENTS) (r_LEDG_STATUS : R Reg.LEDG_STATUS)
    (r_LEG_STATUS : R Reg.LEG_STATUS) (r_LOOP_EVENTS : R Reg.LOOP_EVENTS)
    (r_LOOP_LP_DUTY : ∀ i, R (Reg.LOOP_LP_DUTY i)) (r_LOOP_LP_STATE : ∀ i, R (Reg.LOOP_LP_STATE i)) :
    Frame F R sB (State.evalLatch s l) := by
  delta State.evalLatch
  repeat' first
    | with_reducible assumption | lift_lets | with_reducible apply State.setEsc_frame
    | with_reducible apply State.logEntry_frame | with_reducible apply State.react_frame
    | with_reducible apply State.reactSafe_frame

theorem State.leak_frame {sB : State} (s : State) (hB : Frame F R sB s) (f_flt : F .flt)
    (r_FLT_ESC : ∀ i, R (Reg.FLT_ESC i)) :
    Frame F R sB (State.leak s) := by
  delta State.leak
  repeat' first
    | with_reducible assumption | intro (u : State) (hu : Frame F R sB u) | lift_lets
    | (intro x; refine (fun (hx : Frame F R sB x) => ?_) ?_ <;> [clear_value x; subst x])
    | with_reducible apply State.upTo_frame | with_reducible apply State.setEsc_frame
    | with_reducible apply Frame.foldl | (intro x; clear_value x) | intro _ | with_reducible apply Frame.ite
    | with_reducible refine Frame.mk' ?_ rfl

theorem State.fltEvaluate_frame {sB : State} (s : State) (hB : Frame F R sB s) (f_fresh : F .fresh) (f_out : F .out)
    (f_host : F .host) (f_alm : F .alm) (f_ledg : F .ledg) (f_pace : F .pace) (f_flt : F .flt) (f_hwd : F .hwd)
    (f_burl : F .burl) (f_scan : F .scan) (f_beam : F .beam) (f_step : F .step) (f_axis : F .axis) (f_loop : F .loop)
    (f_leg : F .leg) (r_ALM_EVENTS : R Reg.ALM_EVENTS) (r_ALM_REQ_RESULT : R Reg.ALM_REQ_RESULT)
    (r_ALM_STATUS : R Reg.ALM_STATUS) (r_BEAM_STATUS : R Reg.BEAM_STATUS)
    (r_BEAM_STN_STATE : ∀ i, R (Reg.BEAM_STN_STATE i)) (r_FLT_COUNT_MERGED : R Reg.FLT_COUNT_MERGED)
    (r_FLT_COUNT_MSG : R Reg.FLT_COUNT_MSG) (r_FLT_ESC : ∀ i, R (Reg.FLT_ESC i)) (r_FLT_EVENTS : R Reg.FLT_EVENTS)
    (r_FLT_LOG : ∀ i k, R (Reg.FLT_LOG i + 4 * (k % 4))) (r_FLT_LOG_WR : R Reg.FLT_LOG_WR)
    (r_FLT_PEND_HI : ∀ i, R (Reg.FLT_PEND_HI i)) (r_FLT_PEND_LO : ∀ i, R (Reg.FLT_PEND_LO i))
    (r_FLT_RESULT : R Reg.FLT_RESULT) (r_FLT_SAFE_CAUSE : R Reg.FLT_SAFE_CAUSE) (r_FLT_SAFE_SRC : R Reg.FLT_SAFE_SRC)
    (r_FLT_SAFE_TICK_HI : R Reg.FLT_SAFE_TICK_HI) (r_FLT_SAFE_TICK_LO : R Reg.FLT_SAFE_TICK_LO)
    (r_FLT_STATUS : R Reg.FLT_STATUS) (r_HOST_ERR : R Reg.HOST_ERR) (r_LEDG_BH_STATUS : R Reg.LEDG_BH_STATUS)
    (r_LEDG_COUNT_JAM : R Reg.LEDG_COUNT_JAM) (r_LEDG_EVENTS : R Reg.LEDG_EVENTS)
    (r_LEDG_PACE_EVENTS : R Reg.LEDG_PACE_EVENTS) (r_LEDG_STATUS : R Reg.LEDG_STATUS)
    (r_LEG_STATUS : R Reg.LEG_STATUS) (r_LOOP_EVENTS : R Reg.LOOP_EVENTS)
    (r_LOOP_LP_DUTY : ∀ i, R (Reg.LOOP_LP_DUTY i)) (r_LOOP_LP_STATE : ∀ i, R (Reg.LOOP_LP_STATE i)) :
    Frame F R sB (State.fltEvaluate s) := by
  delta State.fltEvaluate
  repeat' first
    | with_reducible assumption | intro (u : State) (hu : Frame F R sB u) | lift_lets
    | (intro x; refine (fun (hx : Frame F R sB x) => ?_) ?_ <;> [clear_value x; subst x])
    | with_reducible apply State.gatherFaults_frame | with_reducible apply State.evalLatch_frame
    | with_reducible apply State.leak_frame | with_reducible apply Frame.foldl | (intro x; clear_value x) | intro _
    | with_reducible apply Frame.ite | with_reducible refine Frame.mk' ?_ rfl

theorem State.collect_frame {sB : State} (s : State) (src kind addr : Nat) (hB : Frame F R sB s) (f_flt : F .flt)
    (r_FLT_COUNT_MERGED : R Reg.FLT_COUNT_MERGED) (r_FLT_COUNT_MSG : R Reg.FLT_COUNT_MSG) :
    Frame F R sB (State.collect s src kind addr) := by
  delta State.collect
  repeat' first
    | with_reducible assumption | lift_lets | with_reducible apply State.fault_frame
    | with_reducible apply State.latchMsg_frame | with_reducible apply State.gatherFaults_frame
    | with_reducible apply Frame.ite

theorem execFaultMessage_frame {sB : State} (src : Fin 2048) (kind : Fin 32) (addr : Word) (s : State)
    (hB : Frame F R sB s) (f_flt : F .flt) (r_FLT_COUNT_MERGED : R Reg.FLT_COUNT_MERGED)
    (r_FLT_COUNT_MSG : R Reg.FLT_COUNT_MSG) :
    FrameO F R sB (execFaultMessage src kind addr s) := by
  delta execFaultMessage
  repeat' first
    | with_reducible assumption | lift_lets | with_reducible apply FrameO.next
    | with_reducible apply State.collect_frame | with_reducible apply FrameO.ite

theorem execEscLeak_frame {sB : State} (s : State) (hB : Frame F R sB s) (f_flt : F .flt)
    (r_FLT_ESC : ∀ i, R (Reg.FLT_ESC i)) :
    FrameO F R sB (execEscLeak s) := by
  delta execEscLeak
  repeat' first
    | with_reducible assumption | lift_lets | with_reducible apply FrameO.next | with_reducible apply State.leak_frame

theorem State.safeEnter_frame {sB : State} (s : State) (w : Writer) (hB : Frame F R sB s) (f_fresh : F .fresh)
    (f_out : F .out) (f_host : F .host) (f_alm : F .alm) (f_ledg : F .ledg) (f_pace : F .pace) (f_flt : F .flt)
    (f_hwd : F .hwd) (f_burl : F .burl) (f_scan : F .scan) (f_beam : F .beam) (f_step : F .step) (f_axis : F .axis)
    (f_loop : F .loop) (f_leg : F .leg) (r_ALM_EVENTS : R Reg.ALM_EVENTS) (r_ALM_REQ_RESULT : R Reg.ALM_REQ_RESULT)
    (r_ALM_STATUS : R Reg.ALM_STATUS) (r_BEAM_STATUS : R Reg.BEAM_STATUS)
    (r_BEAM_STN_STATE : ∀ i, R (Reg.BEAM_STN_STATE i)) (r_FLT_EVENTS : R Reg.FLT_EVENTS)
    (r_FLT_RESULT : R Reg.FLT_RESULT) (r_FLT_SAFE_CAUSE : R Reg.FLT_SAFE_CAUSE) (r_FLT_SAFE_SRC : R Reg.FLT_SAFE_SRC)
    (r_FLT_SAFE_TICK_HI : R Reg.FLT_SAFE_TICK_HI) (r_FLT_SAFE_TICK_LO : R Reg.FLT_SAFE_TICK_LO)
    (r_FLT_STATUS : R Reg.FLT_STATUS) (r_HOST_ERR : R Reg.HOST_ERR) (r_LEDG_BH_STATUS : R Reg.LEDG_BH_STATUS)
    (r_LEDG_COUNT_JAM : R Reg.LEDG_COUNT_JAM) (r_LEDG_EVENTS : R Reg.LEDG_EVENTS)
    (r_LEDG_PACE_EVENTS : R Reg.LEDG_PACE_EVENTS) (r_LEDG_STATUS : R Reg.LEDG_STATUS)
    (r_LEG_STATUS : R Reg.LEG_STATUS) (r_LOOP_EVENTS : R Reg.LOOP_EVENTS)
    (r_LOOP_LP_DUTY : ∀ i, R (Reg.LOOP_LP_DUTY i)) (r_LOOP_LP_STATE : ∀ i, R (Reg.LOOP_LP_STATE i)) :
    Frame F R sB (State.safeEnter s w) := by
  delta State.safeEnter
  repeat' first
    | with_reducible assumption | lift_lets | with_reducible apply State.wrN_frame
    | with_reducible apply State.decideSafe_frame

theorem effSafeEnter_frame {sB : State} (w : Writer) (s : State) (hB : Frame F R sB s) (f_fresh : F .fresh)
    (f_out : F .out) (f_host : F .host) (f_alm : F .alm) (f_ledg : F .ledg) (f_pace : F .pace) (f_flt : F .flt)
    (f_hwd : F .hwd) (f_burl : F .burl) (f_scan : F .scan) (f_beam : F .beam) (f_step : F .step) (f_axis : F .axis)
    (f_loop : F .loop) (f_leg : F .leg) (r_ALM_EVENTS : R Reg.ALM_EVENTS) (r_ALM_REQ_RESULT : R Reg.ALM_REQ_RESULT)
    (r_ALM_STATUS : R Reg.ALM_STATUS) (r_BEAM_STATUS : R Reg.BEAM_STATUS)
    (r_BEAM_STN_STATE : ∀ i, R (Reg.BEAM_STN_STATE i)) (r_FLT_EVENTS : R Reg.FLT_EVENTS)
    (r_FLT_RESULT : R Reg.FLT_RESULT) (r_FLT_SAFE_CAUSE : R Reg.FLT_SAFE_CAUSE) (r_FLT_SAFE_SRC : R Reg.FLT_SAFE_SRC)
    (r_FLT_SAFE_TICK_HI : R Reg.FLT_SAFE_TICK_HI) (r_FLT_SAFE_TICK_LO : R Reg.FLT_SAFE_TICK_LO)
    (r_FLT_STATUS : R Reg.FLT_STATUS) (r_HOST_ERR : R Reg.HOST_ERR) (r_LEDG_BH_STATUS : R Reg.LEDG_BH_STATUS)
    (r_LEDG_COUNT_JAM : R Reg.LEDG_COUNT_JAM) (r_LEDG_EVENTS : R Reg.LEDG_EVENTS)
    (r_LEDG_PACE_EVENTS : R Reg.LEDG_PACE_EVENTS) (r_LEDG_STATUS : R Reg.LEDG_STATUS)
    (r_LEG_STATUS : R Reg.LEG_STATUS) (r_LOOP_EVENTS : R Reg.LOOP_EVENTS)
    (r_LOOP_LP_DUTY : ∀ i, R (Reg.LOOP_LP_DUTY i)) (r_LOOP_LP_STATE : ∀ i, R (Reg.LOOP_LP_STATE i)) :
    FrameO F R sB (effSafeEnter w s) := by
  delta effSafeEnter
  repeat' first
    | with_reducible assumption | lift_lets | with_reducible apply FrameO.next
    | with_reducible apply State.safeEnter_frame

theorem State.safeExit_frame {sB : State} (s : State) (hB : Frame F R sB s) (f_out : F .out) (f_host : F .host)
    (f_flt : F .flt) (f_hwd : F .hwd) (r_FLT_EVENTS : R Reg.FLT_EVENTS) (r_FLT_RESULT : R Reg.FLT_RESULT)
    (r_FLT_SAFE_CAUSE : R Reg.FLT_SAFE_CAUSE) (r_FLT_SAFE_SRC : R Reg.FLT_SAFE_SRC) (r_FLT_STATUS : R Reg.FLT_STATUS)
    :
    Frame F R sB (State.safeExit s) := by
  delta State.safeExit
  repeat' first
    | with_reducible assumption | lift_lets
    | (intro x; refine (fun (hx : Frame F R sB x) => ?_) ?_ <;> [clear_value x; subst x])
    | with_reducible apply State.wrN_frame | with_reducible apply State.setFlag_frame
    | with_reducible apply State.event_frame | with_reducible apply State.raiseBit_frame
    | with_reducible apply State.driveErrn_frame | with_reducible apply State.ctrlRefused_frame
    | (intro x; clear_value x) | with_reducible apply Frame.ite | with_reducible refine Frame.mk' ?_ rfl

theorem effSafeExit_frame {sB : State} (s : State) (hB : Frame F R sB s) (f_out : F .out) (f_host : F .host)
    (f_flt : F .flt) (f_hwd : F .hwd) (r_FLT_EVENTS : R Reg.FLT_EVENTS) (r_FLT_RESULT : R Reg.FLT_RESULT)
    (r_FLT_SAFE_CAUSE : R Reg.FLT_SAFE_CAUSE) (r_FLT_SAFE_SRC : R Reg.FLT_SAFE_SRC) (r_FLT_STATUS : R Reg.FLT_STATUS)
    :
    FrameO F R sB (effSafeExit s) := by
  delta effSafeExit
  repeat' first
    | with_reducible assumption | lift_lets | with_reducible apply FrameO.next
    | with_reducible apply State.safeExit_frame

theorem State.errnClear_frame {sB : State} (s : State) (hB : Frame F R sB s) (f_out : F .out) (f_host : F .host)
    (r_FLT_EVENTS : R Reg.FLT_EVENTS) (r_FLT_RESULT : R Reg.FLT_RESULT) (r_FLT_STATUS : R Reg.FLT_STATUS) :
    Frame F R sB (State.errnClear s) := by
  delta State.errnClear
  repeat' first
    | with_reducible assumption | lift_lets | with_reducible apply State.wrN_frame
    | with_reducible apply State.setFlag_frame | with_reducible apply State.driveErrn_frame
    | with_reducible apply State.ctrlRefused_frame | with_reducible apply Frame.ite

theorem effErrnClear_frame {sB : State} (s : State) (hB : Frame F R sB s) (f_out : F .out) (f_host : F .host)
    (r_FLT_EVENTS : R Reg.FLT_EVENTS) (r_FLT_RESULT : R Reg.FLT_RESULT) (r_FLT_STATUS : R Reg.FLT_STATUS) :
    FrameO F R sB (effErrnClear s) := by
  delta effErrnClear
  repeat' first
    | with_reducible assumption | lift_lets | with_reducible apply FrameO.next
    | with_reducible apply State.errnClear_frame

theorem State.escClr_frame {sB : State} (s : State) (v : Nat) (hB : Frame F R sB s)
    (r_FLT_ESC : ∀ i, R (Reg.FLT_ESC i)) :
    Frame F R sB (State.escClr s v) := by
  delta State.escClr
  repeat' first
    | with_reducible assumption | intro (u : State) (hu : Frame F R sB u) | lift_lets
    | with_reducible apply State.wr_frame | with_reducible apply State.upTo_frame
    | with_reducible apply State.setEsc_frame | with_reducible apply r_FLT_ESC | intro _
    | with_reducible apply Frame.ite

theorem effEscClr_frame {sB : State} (v : Word) (s : State) (hB : Frame F R sB s)
    (r_FLT_ESC : ∀ i, R (Reg.FLT_ESC i)) :
    FrameO F R sB (effEscClr v s) := by
  delta effEscClr
  repeat' first
    | with_reducible assumption | lift_lets | with_reducible apply FrameO.next
    | with_reducible apply State.escClr_frame

theorem State.reservedWrite_frame {sB : State} (s : State) (block off : Nat) (hB : Frame F R sB s) (f_flt : F .flt) :
    Frame F R sB (State.reservedWrite s block off) := by
  delta State.reservedWrite
  repeat' first
    | with_reducible assumption | with_reducible apply State.fault_frame

theorem State.inject_frame {sB : State} (s : State) (v : Nat) (hB : Frame F R sB s) (f_flt : F .flt)
    (r_FLT_COUNT_MERGED : R Reg.FLT_COUNT_MERGED) (r_FLT_COUNT_MSG : R Reg.FLT_COUNT_MSG) :
    Frame F R sB (State.inject s v) := by
  delta State.inject
  repeat' first
    | with_reducible assumption | lift_lets | with_reducible apply State.collect_frame
    | with_reducible apply State.reservedWrite_frame | (intro x; clear_value x) | with_reducible apply Frame.ite

theorem execInject_frame {sB : State} (v : Word) (s : State) (hB : Frame F R sB s) (f_flt : F .flt)
    (r_FLT_COUNT_MERGED : R Reg.FLT_COUNT_MERGED) (r_FLT_COUNT_MSG : R Reg.FLT_COUNT_MSG) :
    FrameO F R sB (execInject v s) := by
  delta execInject
  repeat' first
    | with_reducible assumption | lift_lets | with_reducible apply FrameO.next
    | with_reducible apply State.inject_frame

theorem execCollectorIntegrity_frame {sB : State} (addr : Word) (parity : Bool) (s : State) (hB : Frame F R sB s)
    (f_out : F .out) (f_host : F .host) (f_flt : F .flt) (f_beam : F .beam) (r_BEAM_STATUS : R Reg.BEAM_STATUS)
    (r_BEAM_STN_STATE : ∀ i, R (Reg.BEAM_STN_STATE i)) (r_FLT_SAFE_CAUSE : R Reg.FLT_SAFE_CAUSE)
    (r_FLT_SAFE_TICK_HI : R Reg.FLT_SAFE_TICK_HI) (r_FLT_SAFE_TICK_LO : R Reg.FLT_SAFE_TICK_LO)
    (r_FLT_STATUS : R Reg.FLT_STATUS) :
    FrameO F R sB (execCollectorIntegrity addr parity s) := by
  delta execCollectorIntegrity
  repeat' first
    | with_reducible assumption | lift_lets | with_reducible apply FrameO.next
    | with_reducible apply State.setFlag_frame | with_reducible apply State.enterByHardware_frame
    | with_reducible apply State.trap_frame | with_reducible apply State.setErrn_frame

theorem State.gatherPath_frame {sB : State} (s : State) (p : HwPath) (hB : Frame F R sB s) (f_host : F .host)
    (f_hwd : F .hwd) (f_leg : F .leg) (r_FLT_EVENTS : R Reg.FLT_EVENTS)
    (r_FLT_LOG : ∀ i k, R (Reg.FLT_LOG i + 4 * (k % 4))) (r_FLT_LOG_WR : R Reg.FLT_LOG_WR)
    (r_LEG_STATUS : R Reg.LEG_STATUS) (r_THM_EVENTS : R Reg.THM_EVENTS) :
    Frame F R sB (State.gatherPath s p) := by
  delta State.gatherPath
  repeat' first
    | with_reducible assumption | lift_lets | with_reducible apply State.event_frame
    | with_reducible apply State.raiseBit_frame | with_reducible apply State.legPost_frame
    | with_reducible apply State.logEntry_frame | with_reducible apply Frame.ite

theorem State.gatherPaths_frame {sB : State} (s : State) (hB : Frame F R sB s) (f_fresh : F .fresh) (f_out : F .out)
    (f_host : F .host) (f_alm : F .alm) (f_ledg : F .ledg) (f_pace : F .pace) (f_flt : F .flt) (f_hwd : F .hwd)
    (f_burl : F .burl) (f_scan : F .scan) (f_step : F .step) (f_axis : F .axis) (f_loop : F .loop) (f_leg : F .leg)
    (r_ALM_EVENTS : R Reg.ALM_EVENTS) (r_ALM_REQ_RESULT : R Reg.ALM_REQ_RESULT) (r_ALM_STATUS : R Reg.ALM_STATUS)
    (r_FLT_EVENTS : R Reg.FLT_EVENTS) (r_FLT_LOG : ∀ i k, R (Reg.FLT_LOG i + 4 * (k % 4)))
    (r_FLT_LOG_WR : R Reg.FLT_LOG_WR) (r_HOST_ERR : R Reg.HOST_ERR) (r_LEDG_BH_STATUS : R Reg.LEDG_BH_STATUS)
    (r_LEDG_COUNT_JAM : R Reg.LEDG_COUNT_JAM) (r_LEDG_EVENTS : R Reg.LEDG_EVENTS)
    (r_LEDG_PACE_EVENTS : R Reg.LEDG_PACE_EVENTS) (r_LEDG_STATUS : R Reg.LEDG_STATUS)
    (r_LEG_STATUS : R Reg.LEG_STATUS) (r_LOOP_EVENTS : R Reg.LOOP_EVENTS)
    (r_LOOP_LP_DUTY : ∀ i, R (Reg.LOOP_LP_DUTY i)) (r_LOOP_LP_STATE : ∀ i, R (Reg.LOOP_LP_STATE i))
    (r_THM_EVENTS : R Reg.THM_EVENTS) :
    Frame F R sB (State.gatherPaths s) := by
  delta State.gatherPaths
  repeat' first
    | with_reducible assumption | intro (u : State) (hu : Frame F R sB u) | lift_lets
    | with_reducible apply State.safeBlocks_frame | with_reducible apply State.gatherPath_frame
    | with_reducible apply Frame.foldl | intro _ | with_reducible apply Frame.ite
    | with_reducible refine Frame.mk' ?_ rfl

theorem State.resetBurlc_frame {sB : State} (s : State) (hB : Frame F R sB s) (f_burl : F .burl)
    (r_BURL_EVENTS : R Reg.BURL_EVENTS) :
    Frame F R sB (State.resetBurlc s) := by
  delta State.resetBurlc
  repeat' first
    | with_reducible assumption | lift_lets | with_reducible apply State.setFld_frame
    | with_reducible apply State.startLanes_frame | with_reducible refine Frame.mk' ?_ rfl

theorem State.resetBurld_frame {sB : State} (s : State) (hB : Frame F R sB s) (f_burl : F .burl) (f_scan : F .scan)
    (r_BURL_EVENTS : R Reg.BURL_EVENTS) :
    Frame F R sB (State.resetBurld s) := by
  delta State.resetBurld
  repeat' first
    | with_reducible assumption | intro (u : State) (hu : Frame F R sB u) | lift_lets
    | with_reducible apply State.setFld_frame | with_reducible apply State.modStn_frame
    | with_reducible apply Frame.foldl | intro _ | with_reducible refine Frame.mk' ?_ rfl

theorem State.resetDma_frame {sB : State} (s : State) (hB : Frame F R sB s) (f_dma : F .dma)
    (r_DMA_CH_STATE : ∀ i, R (Reg.DMA_CH_STATE i)) (r_DMA_EVENTS : R Reg.DMA_EVENTS) (r_DMA_STATUS : R Reg.DMA_STATUS)
    :
    Frame F R sB (State.resetDma s) := by
  delta State.resetDma
  repeat' first
    | with_reducible assumption | intro (u : State) (hu : Frame F R sB u) | lift_lets
    | (intro x; refine (fun (hx : Frame F R sB x) => ?_) ?_ <;> [clear_value x; subst x])
    | with_reducible apply State.wr_frame | with_reducible apply State.setFlag_frame
    | with_reducible apply State.upTo_frame | with_reducible apply State.modDch_frame
    | with_reducible apply State.chError_frame | intro _ | with_reducible apply Frame.ite

theorem State.resetSio_frame {sB : State} (s : State) (hB : Frame F R sB s) (f_sio : F .sio)
    (r_SIO_EVENTS : R Reg.SIO_EVENTS) :
    Frame F R sB (State.resetSio s) := by
  delta State.resetSio
  repeat' first
    | with_reducible assumption | lift_lets | with_reducible apply State.wr_frame
    | with_reducible refine Frame.mk' ?_ rfl

theorem State.resetLink_frame {sB : State} (s : State) (i : Nat) (hB : Frame F R sB s) (f_fresh : F .fresh)
    (f_out : F .out) (f_host : F .host) (f_ledg : F .ledg) (f_pace : F .pace) (f_flt : F .flt) (f_hwd : F .hwd)
    (f_burl : F .burl) (f_scan : F .scan) (f_beam : F .beam) (f_step : F .step) (f_axis : F .axis) (f_loop : F .loop)
    (f_leg : F .leg) (r_AXIS_AX_FAULT : ∀ i, R (Reg.AXIS_AX_FAULT i)) (r_AXIS_EVENTS : R Reg.AXIS_EVENTS)
    (r_AXIS_LINK_STATE : ∀ i, R (Reg.AXIS_LINK_STATE i)) (r_BEAM_EVENTS : R Reg.BEAM_EVENTS)
    (r_BEAM_STATUS : R Reg.BEAM_STATUS) (r_BEAM_STN_LINK_LOG : ∀ i, R (Reg.BEAM_STN_LINK_LOG i))
    (r_BEAM_STN_STATE : ∀ i, R (Reg.BEAM_STN_STATE i)) (r_HOST_ERR : R Reg.HOST_ERR)
    (r_LEDG_BH_STATUS : R Reg.LEDG_BH_STATUS) (r_LEDG_COUNT_JAM : R Reg.LEDG_COUNT_JAM)
    (r_LEDG_EVENTS : R Reg.LEDG_EVENTS) (r_LEDG_PACE_EVENTS : R Reg.LEDG_PACE_EVENTS)
    (r_LEDG_STATUS : R Reg.LEDG_STATUS) (r_LEG_STATUS : R Reg.LEG_STATUS) (r_LOOP_EVENTS : R Reg.LOOP_EVENTS)
    (r_LOOP_LINK_STATE : ∀ i, R (Reg.LOOP_LINK_STATE i)) (r_LOOP_LP_DUTY : ∀ i, R (Reg.LOOP_LP_DUTY i))
    (r_LOOP_LP_FAULT : ∀ i, R (Reg.LOOP_LP_FAULT i)) (r_LOOP_LP_STATE : ∀ i, R (Reg.LOOP_LP_STATE i))
    (r_STEP_AX_FAULT : ∀ i, R (Reg.STEP_AX_FAULT i)) (r_STEP_EVENTS : R Reg.STEP_EVENTS)
    (r_STEP_LINK_STATE : ∀ i, R (Reg.STEP_LINK_STATE i)) :
    Frame F R sB (State.resetLink s i) := by
  delta State.resetLink
  repeat' first
    | with_reducible assumption | lift_lets
    | (intro x; refine (fun (hx : Frame F R sB x) => ?_) ?_ <;> [clear_value x; subst x])
    | with_reducible apply State.loseLink_frame | (intro x; clear_value x) | with_reducible refine Frame.mk' ?_ rfl

theorem State.blockReset_frame {sB : State} (s : State) (src : Nat) (hB : Frame F R sB s) (f_fresh : F .fresh)
    (f_out : F .out) (f_host : F .host) (f_ledg : F .ledg) (f_pace : F .pace) (f_flt : F .flt) (f_hwd : F .hwd)
    (f_burl : F .burl) (f_scan : F .scan) (f_beam : F .beam) (f_step : F .step) (f_sio : F .sio) (f_axis : F .axis)
    (f_loop : F .loop) (f_dma : F .dma) (f_leg : F .leg) (r_AXIS_AX_FAULT : ∀ i, R (Reg.AXIS_AX_FAULT i))
    (r_AXIS_EVENTS : R Reg.AXIS_EVENTS) (r_AXIS_LINK_STATE : ∀ i, R (Reg.AXIS_LINK_STATE i))
    (r_BEAM_EVENTS : R Reg.BEAM_EVENTS) (r_BEAM_STATUS : R Reg.BEAM_STATUS)
    (r_BEAM_STN_LINK_LOG : ∀ i, R (Reg.BEAM_STN_LINK_LOG i)) (r_BEAM_STN_STATE : ∀ i, R (Reg.BEAM_STN_STATE i))
    (r_BURL_EVENTS : R Reg.BURL_EVENTS) (r_DMA_CH_STATE : ∀ i, R (Reg.DMA_CH_STATE i))
    (r_DMA_EVENTS : R Reg.DMA_EVENTS) (r_DMA_STATUS : R Reg.DMA_STATUS) (r_HOST_ERR : R Reg.HOST_ERR)
    (r_LEDG_BH_STATUS : R Reg.LEDG_BH_STATUS) (r_LEDG_COUNT_JAM : R Reg.LEDG_COUNT_JAM)
    (r_LEDG_EVENTS : R Reg.LEDG_EVENTS) (r_LEDG_PACE_EVENTS : R Reg.LEDG_PACE_EVENTS)
    (r_LEDG_STATUS : R Reg.LEDG_STATUS) (r_LEG_STATUS : R Reg.LEG_STATUS) (r_LOOP_EVENTS : R Reg.LOOP_EVENTS)
    (r_LOOP_LINK_STATE : ∀ i, R (Reg.LOOP_LINK_STATE i)) (r_LOOP_LP_DUTY : ∀ i, R (Reg.LOOP_LP_DUTY i))
    (r_LOOP_LP_FAULT : ∀ i, R (Reg.LOOP_LP_FAULT i)) (r_LOOP_LP_STATE : ∀ i, R (Reg.LOOP_LP_STATE i))
    (r_SIO_EVENTS : R Reg.SIO_EVENTS) (r_STEP_AX_FAULT : ∀ i, R (Reg.STEP_AX_FAULT i))
    (r_STEP_EVENTS : R Reg.STEP_EVENTS) (r_STEP_LINK_STATE : ∀ i, R (Reg.STEP_LINK_STATE i)) :
    Frame F R sB (State.blockReset s src) := by
  delta State.blockReset
  repeat' first
    | with_reducible assumption | lift_lets | with_reducible apply State.resetBurlc_frame
    | with_reducible apply State.resetBurld_frame | with_reducible apply State.resetDma_frame
    | with_reducible apply State.resetSio_frame | with_reducible apply State.resetLink_frame
    | with_reducible apply Frame.ite | split

theorem State.runResets_frame {sB : State} (s : State) (hB : Frame F R sB s) (f_fresh : F .fresh) (f_out : F .out)
    (f_host : F .host) (f_ledg : F .ledg) (f_pace : F .pace) (f_flt : F .flt) (f_hwd : F .hwd) (f_burl : F .burl)
    (f_scan : F .scan) (f_beam : F .beam) (f_step : F .step) (f_sio : F .sio) (f_axis : F .axis) (f_loop : F .loop)
    (f_dma : F .dma) (f_leg : F .leg) (r_AXIS_AX_FAULT : ∀ i, R (Reg.AXIS_AX_FAULT i))
    (r_AXIS_EVENTS : R Reg.AXIS_EVENTS) (r_AXIS_LINK_STATE : ∀ i, R (Reg.AXIS_LINK_STATE i))
    (r_BEAM_EVENTS : R Reg.BEAM_EVENTS) (r_BEAM_STATUS : R Reg.BEAM_STATUS)
    (r_BEAM_STN_LINK_LOG : ∀ i, R (Reg.BEAM_STN_LINK_LOG i)) (r_BEAM_STN_STATE : ∀ i, R (Reg.BEAM_STN_STATE i))
    (r_BURL_EVENTS : R Reg.BURL_EVENTS) (r_DMA_CH_STATE : ∀ i, R (Reg.DMA_CH_STATE i))
    (r_DMA_EVENTS : R Reg.DMA_EVENTS) (r_DMA_STATUS : R Reg.DMA_STATUS) (r_HOST_ERR : R Reg.HOST_ERR)
    (r_LEDG_BH_STATUS : R Reg.LEDG_BH_STATUS) (r_LEDG_COUNT_JAM : R Reg.LEDG_COUNT_JAM)
    (r_LEDG_EVENTS : R Reg.LEDG_EVENTS) (r_LEDG_PACE_EVENTS : R Reg.LEDG_PACE_EVENTS)
    (r_LEDG_STATUS : R Reg.LEDG_STATUS) (r_LEG_STATUS : R Reg.LEG_STATUS) (r_LOOP_EVENTS : R Reg.LOOP_EVENTS)
    (r_LOOP_LINK_STATE : ∀ i, R (Reg.LOOP_LINK_STATE i)) (r_LOOP_LP_DUTY : ∀ i, R (Reg.LOOP_LP_DUTY i))
    (r_LOOP_LP_FAULT : ∀ i, R (Reg.LOOP_LP_FAULT i)) (r_LOOP_LP_STATE : ∀ i, R (Reg.LOOP_LP_STATE i))
    (r_SIO_EVENTS : R Reg.SIO_EVENTS) (r_STEP_AX_FAULT : ∀ i, R (Reg.STEP_AX_FAULT i))
    (r_STEP_EVENTS : R Reg.STEP_EVENTS) (r_STEP_LINK_STATE : ∀ i, R (Reg.STEP_LINK_STATE i)) :
    Frame F R sB (State.runResets s) := by
  delta State.runResets
  repeat' first
    | with_reducible assumption | intro (u : State) (hu : Frame F R sB u) | lift_lets
    | with_reducible apply State.blockReset_frame | with_reducible apply Frame.foldl | intro _
    | with_reducible refine Frame.mk' ?_ rfl

theorem State.retrainLinks_frame {sB : State} (s : State) (hB : Frame F R sB s) (f_host : F .host) (f_flt : F .flt)
    (f_hwd : F .hwd) (f_beam : F .beam) (f_step : F .step) (f_axis : F .axis) (f_loop : F .loop)
    (r_AXIS_EVENTS : R Reg.AXIS_EVENTS) (r_AXIS_LINK_STATE : ∀ i, R (Reg.AXIS_LINK_STATE i))
    (r_BEAM_EVENTS : R Reg.BEAM_EVENTS) (r_BEAM_STN_STATE : ∀ i, R (Reg.BEAM_STN_STATE i))
    (r_LOOP_EVENTS : R Reg.LOOP_EVENTS) (r_LOOP_LINK_STATE : ∀ i, R (Reg.LOOP_LINK_STATE i))
    (r_STEP_EVENTS : R Reg.STEP_EVENTS) (r_STEP_LINK_STATE : ∀ i, R (Reg.STEP_LINK_STATE i)) :
    Frame F R sB (State.retrainLinks s) := by
  delta State.retrainLinks
  repeat' first
    | with_reducible assumption | intro (u : State) (hu : Frame F R sB u) | lift_lets
    | with_reducible apply State.trainLink_frame | with_reducible apply Frame.foldl | intro _
    | with_reducible apply Frame.ite | with_reducible refine Frame.mk' ?_ rfl

/-! ### Heartwood -/

theorem State.suppress_frame {sB : State} (s : State) (c : Nat) (hB : Frame F R sB s) (f_hwd : F .hwd)
    (r_HWD_RATE_STATE : ∀ i, R (Reg.HWD_RATE_STATE i)) :
    Frame F R sB (State.suppress s c) := by
  delta State.suppress
  repeat' first
    | with_reducible assumption | lift_lets
    | (intro x; refine (fun (hx : Frame F R sB x) => ?_) ?_ <;> [clear_value x; subst x])
    | with_reducible apply State.setFld_frame | with_reducible apply r_HWD_RATE_STATE | (intro x; clear_value x)
    | with_reducible apply Frame.ite | with_reducible refine Frame.mk' ?_ rfl

theorem State.clearSuppressed_frame {sB : State} (s : State) (c : Nat) (hB : Frame F R sB s) (f_hwd : F .hwd)
    (r_HWD_RATE_STATE : ∀ i, R (Reg.HWD_RATE_STATE i)) :
    Frame F R sB (State.clearSuppressed s c) := by
  delta State.clearSuppressed
  repeat' first
    | with_reducible assumption | lift_lets
    | (intro x; refine (fun (hx : Frame F R sB x) => ?_) ?_ <;> [clear_value x; subst x])
    | with_reducible apply State.setFld_frame | with_reducible apply r_HWD_RATE_STATE | (intro x; clear_value x)
    | with_reducible refine Frame.mk' ?_ rfl

theorem State.refillOne_frame {sB : State} (s : State) (c : Nat) (hB : Frame F R sB s) (f_hwd : F .hwd)
    (r_HWD_RATE_STATE : ∀ i, R (Reg.HWD_RATE_STATE i)) :
    Frame F R sB (State.refillOne s c) := by
  delta State.refillOne
  repeat' first
    | with_reducible assumption | lift_lets
    | (intro x; refine (fun (hx : Frame F R sB x) => ?_) ?_ <;> [clear_value x; subst x])
    | with_reducible apply State.setFld_frame | with_reducible apply r_HWD_RATE_STATE | (intro x; clear_value x)
    | with_reducible refine Frame.mk' ?_ rfl

theorem State.refill_frame {sB : State} (s : State) (hB : Frame F R sB s) (f_hwd : F .hwd)
    (r_HWD_RATE_STATE : ∀ i, R (Reg.HWD_RATE_STATE i)) :
    Frame F R sB (State.refill s) := by
  delta State.refill
  repeat' first
    | with_reducible assumption | intro (u : State) (hu : Frame F R sB u) | lift_lets
    | (intro x; refine (fun (hx : Frame F R sB x) => ?_) ?_ <;> [clear_value x; subst x])
    | with_reducible apply State.upTo_frame | with_reducible apply State.refillOne_frame | (intro x; clear_value x)
    | intro _ | with_reducible apply Frame.ite | with_reducible refine Frame.mk' ?_ rfl

theorem State.recordLost_frame {sB : State} (s : State) (byWrite : Bool) (hB : Frame F R sB s) (f_host : F .host)
    (f_hwd : F .hwd) (r_HWD_COUNT_LOST : R Reg.HWD_COUNT_LOST) (r_HWD_EVENTS : R Reg.HWD_EVENTS) :
    Frame F R sB (State.recordLost s byWrite) := by
  delta State.recordLost
  repeat' first
    | with_reducible assumption | lift_lets
    | (intro x; refine (fun (hx : Frame F R sB x) => ?_) ?_ <;> [clear_value x; subst x])
    | with_reducible apply State.bump_frame | with_reducible apply State.raiseBit_frame
    | with_reducible refine Frame.mk' ?_ rfl

theorem State.stage_frame {sB : State} (s : State) (e : HwEvent) (hB : Frame F R sB s) (f_host : F .host)
    (f_hwd : F .hwd) (r_HWD_COUNT_LOST : R Reg.HWD_COUNT_LOST) (r_HWD_EVENTS : R Reg.HWD_EVENTS)
    (r_HWD_RATE_STATE : ∀ i, R (Reg.HWD_RATE_STATE i)) :
    Frame F R sB (State.stage s e) := by
  delta State.stage
  repeat' first
    | with_reducible assumption | lift_lets
    | (intro x; refine (fun (hx : Frame F R sB x) => ?_) ?_ <;> [clear_value x; subst x])
    | with_reducible apply State.suppress_frame | with_reducible apply State.clearSuppressed_frame
    | with_reducible apply State.recordLost_frame | (intro x; clear_value x) | with_reducible apply Frame.ite
    | with_reducible refine Frame.mk' ?_ rfl

theorem State.ownRecord_frame {sB : State} (s : State) (code : Nat) (fields : List Nat) (hB : Frame F R sB s)
    (f_host : F .host) (f_hwd : F .hwd) (r_HWD_COUNT_LOST : R Reg.HWD_COUNT_LOST) (r_HWD_EVENTS : R Reg.HWD_EVENTS)
    (r_HWD_RATE_STATE : ∀ i, R (Reg.HWD_RATE_STATE i)) :
    Frame F R sB (State.ownRecord s code fields) := by
  delta State.ownRecord
  repeat' first
    | with_reducible assumption | with_reducible apply State.stage_frame

theorem State.reportLost_frame {sB : State} (s : State) (hB : Frame F R sB s) (f_host : F .host) (f_hwd : F .hwd)
    (r_HWD_COUNT_LOST : R Reg.HWD_COUNT_LOST) (r_HWD_EVENTS : R Reg.HWD_EVENTS)
    (r_HWD_RATE_STATE : ∀ i, R (Reg.HWD_RATE_STATE i)) :
    Frame F R sB (State.reportLost s) := by
  delta State.reportLost
  repeat' first
    | with_reducible assumption | lift_lets | with_reducible apply State.stage_frame | (intro x; clear_value x)
    | with_reducible apply Frame.ite | with_reducible refine Frame.mk' ?_ rfl

theorem State.takeEvent_frame {sB : State} (s : State) (e : HwEvent) (hB : Frame F R sB s) (f_host : F .host)
    (f_hwd : F .hwd) (r_HWD_COUNT_LOST : R Reg.HWD_COUNT_LOST) (r_HWD_EVENTS : R Reg.HWD_EVENTS)
    (r_HWD_RATE_STATE : ∀ i, R (Reg.HWD_RATE_STATE i)) :
    Frame F R sB (State.takeEvent s e) := by
  delta State.takeEvent
  repeat' first
    | with_reducible assumption | lift_lets | with_reducible apply State.setFld_frame
    | with_reducible apply State.suppress_frame | with_reducible apply State.stage_frame
    | with_reducible apply r_HWD_RATE_STATE | (intro x; clear_value x) | with_reducible apply Frame.ite

theorem State.summary_frame {sB : State} (s : State) (c : Nat) (hB : Frame F R sB s) (f_host : F .host)
    (f_hwd : F .hwd) (r_HWD_COUNT_LOST : R Reg.HWD_COUNT_LOST) (r_HWD_EVENTS : R Reg.HWD_EVENTS)
    (r_HWD_RATE_STATE : ∀ i, R (Reg.HWD_RATE_STATE i)) :
    Frame F R sB (State.summary s c) := by
  delta State.summary
  repeat' first
    | with_reducible assumption | lift_lets | with_reducible apply State.clearSuppressed_frame
    | with_reducible apply State.ownRecord_frame | (intro x; clear_value x) | with_reducible apply Frame.ite

theorem execSuppressionSummary_frame {sB : State} (c : Fin 1024) (s : State) (hB : Frame F R sB s) (f_host : F .host)
    (f_hwd : F .hwd) (r_HWD_COUNT_LOST : R Reg.HWD_COUNT_LOST) (r_HWD_EVENTS : R Reg.HWD_EVENTS)
    (r_HWD_RATE_STATE : ∀ i, R (Reg.HWD_RATE_STATE i)) :
    FrameO F R sB (execSuppressionSummary c s) := by
  delta execSuppressionSummary
  repeat' first
    | with_reducible assumption | lift_lets | with_reducible apply FrameO.next
    | with_reducible apply State.summary_frame

theorem State.writeRecord_frame {sB : State} (s : State) (r : Record) (hB : Frame F R sB s) (f_hwd : F .hwd) :
    Frame F R sB (State.writeRecord s r) := by
  delta State.writeRecord
  repeat' first
    | with_reducible assumption | lift_lets | (intro x; clear_value x) | with_reducible refine Frame.mk' ?_ rfl

theorem execRecordWritten_frame {sB : State} (ok : Bool) (s : State) (hB : Frame F R sB s) (f_host : F .host) (f_flt :
    F .flt) (f_hwd : F .hwd) (r_HWD_COUNT_LOST : R Reg.HWD_COUNT_LOST) (r_HWD_EVENTS : R Reg.HWD_EVENTS)
    (r_HWD_RATE_STATE : ∀ i, R (Reg.HWD_RATE_STATE i)) : FrameO F R sB (execRecordWritten ok s) := by
  unfold execRecordWritten
  split
  · split
    · repeat' first
        | with_reducible assumption | lift_lets | with_reducible apply FrameO.next
        | with_reducible apply State.fault_frame | with_reducible apply State.recordLost_frame
        | with_reducible apply State.reportLost_frame | with_reducible apply State.writeRecord_frame
        | with_reducible refine Frame.mk' ?_ rfl
    · split
      · exact FrameO.next (hB.mk' rfl)
      · repeat' first
          | with_reducible assumption | lift_lets | with_reducible apply FrameO.next
          | with_reducible apply State.fault_frame | with_reducible apply State.recordLost_frame
          | with_reducible apply State.reportLost_frame | with_reducible apply State.writeRecord_frame
          | with_reducible refine Frame.mk' ?_ rfl
  · exact FrameO.next hB

theorem execRecorderScanDone_frame {sB : State} (s : State) (hB : Frame F R sB s) (f_hwd : F .hwd)
    (r_HWD_COUNT_TORN : R Reg.HWD_COUNT_TORN) (r_HWD_STATUS : R Reg.HWD_STATUS) :
    FrameO F R sB (execRecorderScanDone s) := by
  delta execRecorderScanDone
  repeat' first
    | with_reducible assumption | lift_lets
    | (intro x; refine (fun (hx : Frame F R sB x) => ?_) ?_ <;> [clear_value x; subst x])
    | with_reducible apply FrameO.next | with_reducible apply State.setFld_frame
    | with_reducible apply State.setFlag_frame | (intro x; clear_value x) | with_reducible apply FrameO.ite
    | with_reducible refine Frame.mk' ?_ rfl

theorem State.hwdFlush_frame {sB : State} (s : State) (hB : Frame F R sB s) (f_host : F .host) (f_hwd : F .hwd)
    (r_HWD_COUNT_LOST : R Reg.HWD_COUNT_LOST) (r_HWD_EVENTS : R Reg.HWD_EVENTS)
    (r_HWD_RATE_STATE : ∀ i, R (Reg.HWD_RATE_STATE i)) :
    Frame F R sB (State.hwdFlush s) := by
  delta State.hwdFlush
  repeat' first
    | with_reducible assumption | intro (u : State) (hu : Frame F R sB u) | lift_lets
    | (intro x; refine (fun (hx : Frame F R sB x) => ?_) ?_ <;> [clear_value x; subst x])
    | with_reducible apply State.takeEvent_frame | with_reducible apply State.writeRecord_frame
    | with_reducible apply Frame.foldl | (intro x; clear_value x) | intro _ | with_reducible apply Frame.ite
    | with_reducible refine Frame.mk' ?_ rfl

theorem State.readSeq_frame {sB : State} (s : State) (v : Nat) (hB : Frame F R sB s)
    (r_HWD_READ_SEQ : R Reg.HWD_READ_SEQ) (r_HWD_READ_STATUS : R Reg.HWD_READ_STATUS) :
    Frame F R sB (State.readSeq s v) := by
  delta State.readSeq
  repeat' first
    | with_reducible assumption | lift_lets | with_reducible apply State.wrN_frame
    | with_reducible apply State.setFlag_frame

theorem execReadSeq_frame {sB : State} (v : Word) (s : State) (hB : Frame F R sB s)
    (r_HWD_READ_SEQ : R Reg.HWD_READ_SEQ) (r_HWD_READ_STATUS : R Reg.HWD_READ_STATUS) :
    FrameO F R sB (execReadSeq v s) := by
  delta execReadSeq
  repeat' first
    | with_reducible assumption | lift_lets | with_reducible apply FrameO.next
    | with_reducible apply State.readSeq_frame

theorem execReadLoaded_frame {sB : State} (s : State) (hB : Frame F R sB s)
    (r_HWD_READ_DATA : ∀ i, R (Reg.HWD_READ_DATA i)) (r_HWD_READ_STATUS : R Reg.HWD_READ_STATUS) :
    FrameO F R sB (execReadLoaded s) := by
  delta execReadLoaded
  repeat' first
    | with_reducible assumption | intro (u : State) (hu : Frame F R sB u) | lift_lets
    | with_reducible apply FrameO.next | with_reducible apply State.wrN_frame | with_reducible apply State.upTo_frame
    | with_reducible apply r_HWD_READ_DATA | intro _ | with_reducible apply FrameO.ite

theorem State.exportOne_frame {sB : State} (s : State) (hB : Frame F R sB s) (f_out : F .out) (f_host : F .host)
    (r_HOST_RING_DIDX : ∀ i, R (Reg.HOST_RING_DIDX i)) (r_HWD_COUNT_EXPORT_LOST : R Reg.HWD_COUNT_EXPORT_LOST)
    (r_HWD_EVENTS : R Reg.HWD_EVENTS) (r_HWD_EXPORT_SEQ : R Reg.HWD_EXPORT_SEQ) :
    Frame F R sB (State.exportOne s) := by
  delta State.exportOne
  repeat' first
    | with_reducible assumption | lift_lets | with_reducible apply State.wrN_frame
    | with_reducible apply State.bump_frame | with_reducible apply State.emit_frame
    | with_reducible apply State.raiseBit_frame | with_reducible apply State.advance_frame | (intro x; clear_value x)
    | with_reducible apply Frame.ite | split

theorem State.exportRecords_frame {sB : State} (s : State) (hB : Frame F R sB s) (f_out : F .out) (f_host : F .host)
    (r_HOST_RING_DIDX : ∀ i, R (Reg.HOST_RING_DIDX i)) (r_HWD_COUNT_EXPORT_LOST : R Reg.HWD_COUNT_EXPORT_LOST)
    (r_HWD_EVENTS : R Reg.HWD_EVENTS) (r_HWD_EXPORT_SEQ : R Reg.HWD_EXPORT_SEQ) :
    Frame F R sB (State.exportRecords s) := by
  delta State.exportRecords
  repeat' first
    | with_reducible assumption | intro (u : State) (hu : Frame F R sB u) | lift_lets
    | (intro x; refine (fun (hx : Frame F R sB x) => ?_) ?_ <;> [clear_value x; subst x])
    | with_reducible apply State.wrN_frame | with_reducible apply State.raiseBit_frame
    | with_reducible apply State.upTo_frame | with_reducible apply State.exportOne_frame | (intro x; clear_value x)
    | intro _ | with_reducible apply Frame.ite

theorem State.clrResult_frame {sB : State} (s : State) (r : Nat) (refused : Bool) (hB : Frame F R sB s)
    (f_host : F .host) (r_HWD_CLR_RESULT : R Reg.HWD_CLR_RESULT) (r_HWD_EVENTS : R Reg.HWD_EVENTS) :
    Frame F R sB (State.clrResult s r refused) := by
  delta State.clrResult
  repeat' first
    | with_reducible assumption | lift_lets
    | (intro x; refine (fun (hx : Frame F R sB x) => ?_) ?_ <;> [clear_value x; subst x])
    | with_reducible apply State.wrN_frame | with_reducible apply State.raiseBit_frame
    | with_reducible apply Frame.ite

theorem State.dropChallenge_frame {sB : State} (s : State) (hB : Frame F R sB s) (f_hwd : F .hwd)
    (r_HWD_STATUS : R Reg.HWD_STATUS) :
    Frame F R sB (State.dropChallenge s) := by
  delta State.dropChallenge
  repeat' first
    | with_reducible assumption | lift_lets | with_reducible apply State.setFlag_frame
    | with_reducible refine Frame.mk' ?_ rfl

theorem State.clrRequest_frame {sB : State} (s : State) (hB : Frame F R sB s) (f_fresh : F .fresh) (f_host : F .host)
    (f_hwd : F .hwd) (r_HWD_CLR_CHAL : ∀ i, R (Reg.HWD_CLR_CHAL i)) (r_HWD_CLR_RESULT : R Reg.HWD_CLR_RESULT)
    (r_HWD_EVENTS : R Reg.HWD_EVENTS) (r_HWD_STATUS : R Reg.HWD_STATUS) :
    Frame F R sB (State.clrRequest s) := by
  delta State.clrRequest
  repeat' first
    | with_reducible assumption | intro (u : State) (hu : Frame F R sB u) | lift_lets
    | (intro x; refine (fun (hx : Frame F R sB x) => ?_) ?_ <;> [clear_value x; subst x])
    | with_reducible apply State.wrN_frame | with_reducible apply State.setFlag_frame
    | with_reducible apply State.drawn_frame | with_reducible apply State.upTo_frame
    | with_reducible apply State.clrResult_frame | with_reducible apply r_HWD_CLR_CHAL | (intro x; clear_value x)
    | intro _ | with_reducible apply Frame.ite | with_reducible refine Frame.mk' ?_ rfl

theorem execClrRequest_frame {sB : State} (s : State) (hB : Frame F R sB s) (f_fresh : F .fresh) (f_host : F .host)
    (f_hwd : F .hwd) (r_HWD_CLR_CHAL : ∀ i, R (Reg.HWD_CLR_CHAL i)) (r_HWD_CLR_RESULT : R Reg.HWD_CLR_RESULT)
    (r_HWD_EVENTS : R Reg.HWD_EVENTS) (r_HWD_STATUS : R Reg.HWD_STATUS) :
    FrameO F R sB (execClrRequest s) := by
  delta execClrRequest
  repeat' first
    | with_reducible assumption | lift_lets | with_reducible apply FrameO.next
    | with_reducible apply State.clrRequest_frame

theorem State.clear_frame {sB : State} (s : State) (w : Writer) (hB : Frame F R sB s) (f_host : F .host)
    (f_hwd : F .hwd) (r_HWD_CLR_RESULT : R Reg.HWD_CLR_RESULT) (r_HWD_EVENTS : R Reg.HWD_EVENTS)
    (r_HWD_EXPORT_SEQ : R Reg.HWD_EXPORT_SEQ) (r_HWD_RATE_STATE : ∀ i, R (Reg.HWD_RATE_STATE i))
    (r_HWD_STATUS : R Reg.HWD_STATUS) :
    Frame F R sB (State.clear s w) := by
  delta State.clear
  repeat' first
    | with_reducible assumption | lift_lets | with_reducible apply State.wrN_frame
    | with_reducible apply State.setFlag_frame | with_reducible apply State.raiseBit_frame
    | with_reducible apply State.clearSuppressed_frame | with_reducible apply State.clrResult_frame | split
    | with_reducible refine Frame.mk' ?_ rfl

theorem State.clrSubmit_frame {sB : State} (s : State) (w : Writer) (hB : Frame F R sB s) (f_host : F .host)
    (f_hwd : F .hwd) (r_HWD_CLR_FAILS : R Reg.HWD_CLR_FAILS) (r_HWD_CLR_RESULT : R Reg.HWD_CLR_RESULT)
    (r_HWD_COUNT_LOST : R Reg.HWD_COUNT_LOST) (r_HWD_EVENTS : R Reg.HWD_EVENTS)
    (r_HWD_EXPORT_SEQ : R Reg.HWD_EXPORT_SEQ) (r_HWD_RATE_STATE : ∀ i, R (Reg.HWD_RATE_STATE i))
    (r_HWD_STATUS : R Reg.HWD_STATUS) :
    Frame F R sB (State.clrSubmit s w) := by
  delta State.clrSubmit
  repeat' first
    | with_reducible assumption | lift_lets
    | (intro x; refine (fun (hx : Frame F R sB x) => ?_) ?_ <;> [clear_value x; subst x])
    | with_reducible apply State.setFlag_frame | with_reducible apply State.bump_frame
    | with_reducible apply State.ownRecord_frame | with_reducible apply State.clrResult_frame
    | with_reducible apply State.dropChallenge_frame | with_reducible apply State.clear_frame
    | (intro x; clear_value x) | with_reducible apply Frame.ite | split | with_reducible refine Frame.mk' ?_ rfl

theorem State.submit_frame {sB : State} (s : State) (w : Writer) (hB : Frame F R sB s) (f_host : F .host)
    (f_hwd : F .hwd) (r_HWD_CLR_FAILS : R Reg.HWD_CLR_FAILS) (r_HWD_CLR_RESULT : R Reg.HWD_CLR_RESULT)
    (r_HWD_COUNT_LOST : R Reg.HWD_COUNT_LOST) (r_HWD_EVENTS : R Reg.HWD_EVENTS)
    (r_HWD_EXPORT_SEQ : R Reg.HWD_EXPORT_SEQ) (r_HWD_RATE_STATE : ∀ i, R (Reg.HWD_RATE_STATE i))
    (r_HWD_STATUS : R Reg.HWD_STATUS) :
    Frame F R sB (State.submit s w) := by
  delta State.submit
  repeat' first
    | with_reducible assumption | lift_lets | with_reducible apply State.clrSubmit_frame | (intro x; clear_value x)
    | with_reducible apply Frame.ite | with_reducible refine Frame.mk' ?_ rfl

theorem execClrSubmit_frame {sB : State} (w : Writer) (s : State) (hB : Frame F R sB s) (f_host : F .host)
    (f_hwd : F .hwd) (r_HWD_CLR_FAILS : R Reg.HWD_CLR_FAILS) (r_HWD_CLR_RESULT : R Reg.HWD_CLR_RESULT)
    (r_HWD_COUNT_LOST : R Reg.HWD_COUNT_LOST) (r_HWD_EVENTS : R Reg.HWD_EVENTS)
    (r_HWD_EXPORT_SEQ : R Reg.HWD_EXPORT_SEQ) (r_HWD_RATE_STATE : ∀ i, R (Reg.HWD_RATE_STATE i))
    (r_HWD_STATUS : R Reg.HWD_STATUS) :
    FrameO F R sB (execClrSubmit w s) := by
  delta execClrSubmit
  repeat' first
    | with_reducible assumption | lift_lets | with_reducible apply FrameO.next
    | with_reducible apply State.submit_frame

theorem State.clrCancel_frame {sB : State} (s : State) (hB : Frame F R sB s) (f_host : F .host) (f_hwd : F .hwd)
    (r_HWD_CLR_RESULT : R Reg.HWD_CLR_RESULT) (r_HWD_EVENTS : R Reg.HWD_EVENTS) (r_HWD_STATUS : R Reg.HWD_STATUS) :
    Frame F R sB (State.clrCancel s) := by
  delta State.clrCancel
  repeat' first
    | with_reducible assumption | lift_lets | with_reducible apply State.clrResult_frame
    | with_reducible apply State.dropChallenge_frame | with_reducible apply Frame.ite

theorem execClrCancel_frame {sB : State} (s : State) (hB : Frame F R sB s) (f_host : F .host) (f_hwd : F .hwd)
    (r_HWD_CLR_RESULT : R Reg.HWD_CLR_RESULT) (r_HWD_EVENTS : R Reg.HWD_EVENTS) (r_HWD_STATUS : R Reg.HWD_STATUS) :
    FrameO F R sB (execClrCancel s) := by
  delta execClrCancel
  repeat' first
    | with_reducible assumption | lift_lets | with_reducible apply FrameO.next
    | with_reducible apply State.clrCancel_frame

theorem execChallengeLapse_frame {sB : State} (s : State) (hB : Frame F R sB s) (f_host : F .host) (f_hwd : F .hwd)
    (r_HWD_CLR_RESULT : R Reg.HWD_CLR_RESULT) (r_HWD_EVENTS : R Reg.HWD_EVENTS) (r_HWD_STATUS : R Reg.HWD_STATUS) :
    FrameO F R sB (execChallengeLapse s) := by
  delta execChallengeLapse
  repeat' first
    | with_reducible assumption | lift_lets | with_reducible apply FrameO.next
    | with_reducible apply State.clrResult_frame | with_reducible apply State.dropChallenge_frame
    | with_reducible apply FrameO.ite

theorem execLockoutEnd_frame {sB : State} (s : State) (hB : Frame F R sB s) (r_HWD_STATUS : R Reg.HWD_STATUS) :
    FrameO F R sB (execLockoutEnd s) := by
  delta execLockoutEnd
  repeat' first
    | with_reducible assumption | lift_lets | with_reducible apply FrameO.next
    | with_reducible apply State.setFlag_frame | with_reducible apply FrameO.ite

theorem execEraseDone_frame {sB : State} (s : State) (hB : Frame F R sB s) (f_hwd : F .hwd)
    (r_HWD_STATUS : R Reg.HWD_STATUS) :
    FrameO F R sB (execEraseDone s) := by
  delta execEraseDone
  repeat' first
    | with_reducible assumption | lift_lets | with_reducible apply FrameO.next
    | with_reducible apply State.setFlag_frame | (intro x; clear_value x) | with_reducible apply FrameO.ite
    | with_reducible refine Frame.mk' ?_ rfl

theorem State.hwdDecide_frame {sB : State} (s : State) (hB : Frame F R sB s) (f_host : F .host) (f_hwd : F .hwd)
    (r_HWD_CLR_FAILS : R Reg.HWD_CLR_FAILS) (r_HWD_CLR_RESULT : R Reg.HWD_CLR_RESULT)
    (r_HWD_COUNT_LOST : R Reg.HWD_COUNT_LOST) (r_HWD_EVENTS : R Reg.HWD_EVENTS)
    (r_HWD_EXPORT_SEQ : R Reg.HWD_EXPORT_SEQ) (r_HWD_RATE_STATE : ∀ i, R (Reg.HWD_RATE_STATE i))
    (r_HWD_STATUS : R Reg.HWD_STATUS) :
    Frame F R sB (State.hwdDecide s) := by
  delta State.hwdDecide
  repeat' first
    | with_reducible assumption | intro (u : State) (hu : Frame F R sB u) | lift_lets
    | with_reducible apply State.refill_frame | with_reducible apply State.reportLost_frame
    | with_reducible apply State.takeEvent_frame | with_reducible apply State.clrSubmit_frame
    | with_reducible apply Frame.foldl | intro _ | with_reducible refine Frame.mk' ?_ rfl

theorem execHwdEvent_frame {sB : State} (s : State) (hB : Frame F R sB s) (f_host : F .host) (f_hwd : F .hwd)
    (r_HWD_CLR_FAILS : R Reg.HWD_CLR_FAILS) (r_HWD_CLR_RESULT : R Reg.HWD_CLR_RESULT)
    (r_HWD_COUNT_LOST : R Reg.HWD_COUNT_LOST) (r_HWD_EVENTS : R Reg.HWD_EVENTS)
    (r_HWD_EXPORT_SEQ : R Reg.HWD_EXPORT_SEQ) (r_HWD_RATE_STATE : ∀ i, R (Reg.HWD_RATE_STATE i))
    (r_HWD_STATUS : R Reg.HWD_STATUS) :
    FrameO F R sB (execHwdEvent s) := by
  delta execHwdEvent
  repeat' first
    | with_reducible assumption | lift_lets | with_reducible apply FrameO.next
    | with_reducible apply State.hwdDecide_frame

theorem State.summaries_frame {sB : State} (s : State) (hB : Frame F R sB s) (f_host : F .host) (f_hwd : F .hwd)
    (r_HWD_COUNT_LOST : R Reg.HWD_COUNT_LOST) (r_HWD_EVENTS : R Reg.HWD_EVENTS)
    (r_HWD_RATE_STATE : ∀ i, R (Reg.HWD_RATE_STATE i)) :
    Frame F R sB (State.summaries s) := by
  delta State.summaries
  repeat' first
    | with_reducible assumption | intro (u : State) (hu : Frame F R sB u) | lift_lets
    | with_reducible apply State.summary_frame | with_reducible apply Frame.foldl | intro _

theorem State.snapTake_frame {sB : State} (s0 : State) (hB : Frame F R sB s0) (f_host : F .host) (f_hwd : F .hwd)
    (r_HWD_CLR_FAILS : R Reg.HWD_CLR_FAILS) (r_HWD_CLR_RESULT : R Reg.HWD_CLR_RESULT)
    (r_HWD_COUNT_LOST : R Reg.HWD_COUNT_LOST) (r_HWD_EVENTS : R Reg.HWD_EVENTS)
    (r_HWD_EXPORT_SEQ : R Reg.HWD_EXPORT_SEQ) (r_HWD_RATE_STATE : ∀ i, R (Reg.HWD_RATE_STATE i))
    (r_HWD_SNAP_FIRST : R Reg.HWD_SNAP_FIRST) (r_HWD_SNAP_LAST : R Reg.HWD_SNAP_LAST)
    (r_HWD_STATUS : R Reg.HWD_STATUS) :
    Frame F R sB (State.snapTake s0) := by
  delta State.snapTake
  repeat' first
    | with_reducible assumption | lift_lets
    | (intro x; refine (fun (hx : Frame F R sB x) => ?_) ?_ <;> [clear_value x; subst x])
    | with_reducible apply State.wrN_frame | with_reducible apply State.hwdDecide_frame

theorem execSnapTake_frame {sB : State} (s : State) (hB : Frame F R sB s) (f_host : F .host) (f_hwd : F .hwd)
    (r_HWD_CLR_FAILS : R Reg.HWD_CLR_FAILS) (r_HWD_CLR_RESULT : R Reg.HWD_CLR_RESULT)
    (r_HWD_COUNT_LOST : R Reg.HWD_COUNT_LOST) (r_HWD_EVENTS : R Reg.HWD_EVENTS)
    (r_HWD_EXPORT_SEQ : R Reg.HWD_EXPORT_SEQ) (r_HWD_RATE_STATE : ∀ i, R (Reg.HWD_RATE_STATE i))
    (r_HWD_SNAP_FIRST : R Reg.HWD_SNAP_FIRST) (r_HWD_SNAP_LAST : R Reg.HWD_SNAP_LAST)
    (r_HWD_STATUS : R Reg.HWD_STATUS) :
    FrameO F R sB (execSnapTake s) := by
  delta execSnapTake
  repeat' first
    | with_reducible assumption | lift_lets | with_reducible apply FrameO.next
    | with_reducible apply State.snapTake_frame

theorem State.wipeStore_frame {sB : State} (s : State) (code : Nat) (fields : List Nat) (hB : Frame F R sB s)
    (f_host : F .host) (f_hwd : F .hwd) (r_HWD_COUNT_LOST : R Reg.HWD_COUNT_LOST) (r_HWD_EVENTS : R Reg.HWD_EVENTS)
    (r_HWD_RATE_STATE : ∀ i, R (Reg.HWD_RATE_STATE i)) :
    Frame F R sB (State.wipeStore s code fields) := by
  delta State.wipeStore
  repeat' first
    | with_reducible assumption | lift_lets | with_reducible apply State.ownRecord_frame
    | with_reducible refine Frame.mk' ?_ rfl

end Sys2Proof.Machine
end

