-- ==== Sys2Proof/Laws/FramePower.lean ====
section
/-!
SUPPORT. What each operation and each command can change, said once: the operations of PWR, CLK and LCS, the activation of ALM, the tables of BAR1 and DRAM. A lemma
`f_frame` names the parts of the state and the registers that `f` can change; all else, the queue of commands and the
fused life-cycle state stay, and the canonical form is kept.
-/

set_option Elab.async false
set_option linter.all false

namespace Sys2Proof.Machine

variable {F : Blk → Prop} {R : Nat → Prop}

/-! ### Power -/

theorem State.domainOff_frame {sB : State} (s : State) (b : Nat) (hB : Frame F R sB s) (f_out : F .out)
    (f_host : F .host) (f_hwd : F .hwd) (f_scan : F .scan) (f_beam : F .beam) (f_pwr : F .pwr)
    (r_BEAM_EVENTS : R Reg.BEAM_EVENTS) (r_BEAM_STATUS : R Reg.BEAM_STATUS)
    (r_BEAM_STN_STATE : ∀ i, R (Reg.BEAM_STN_STATE i)) (r_PWR_DOM_REQ : R Reg.PWR_DOM_REQ)
    (r_PWR_DOM_STATE : R Reg.PWR_DOM_STATE) (r_SCAN_STATUS : R Reg.SCAN_STATUS)
    (r_SCAN_STN_STATE : ∀ i, R (Reg.SCAN_STN_STATE i)) :
    Frame F R sB (State.domainOff s b) := by
  delta State.domainOff
  repeat' first
    | with_reducible assumption | intro (u : State) (hu : Frame F R sB u) | lift_lets
    | (intro x; refine (fun (hx : Frame F R sB x) => ?_) ?_ <;> [clear_value x; subst x])
    | with_reducible apply State.setFlag_frame | with_reducible apply State.event_frame
    | with_reducible apply State.downBeam_frame | with_reducible apply State.setGate_frame
    | with_reducible apply Frame.foldl | intro _ | with_reducible refine Frame.mk' ?_ rfl

theorem State.domainBit_frame {sB : State} (s : State) (b : Nat) (on : Bool) (hB : Frame F R sB s) (f_out : F .out)
    (f_host : F .host) (f_hwd : F .hwd) (f_scan : F .scan) (f_beam : F .beam) (f_pwr : F .pwr)
    (r_BEAM_EVENTS : R Reg.BEAM_EVENTS) (r_BEAM_STATUS : R Reg.BEAM_STATUS)
    (r_BEAM_STN_STATE : ∀ i, R (Reg.BEAM_STN_STATE i)) (r_PWR_DOM_REQ : R Reg.PWR_DOM_REQ)
    (r_PWR_DOM_STATE : R Reg.PWR_DOM_STATE) (r_PWR_EVENTS : R Reg.PWR_EVENTS) (r_SCAN_STATUS : R Reg.SCAN_STATUS)
    (r_SCAN_STN_STATE : ∀ i, R (Reg.SCAN_STN_STATE i)) :
    Frame F R sB (State.domainBit s b on) := by
  delta State.domainBit
  repeat' first
    | with_reducible assumption | lift_lets
    | (intro x; refine (fun (hx : Frame F R sB x) => ?_) ?_ <;> [clear_value x; subst x])
    | with_reducible apply State.setFlag_frame | with_reducible apply State.raiseBit_frame
    | with_reducible apply State.domainOff_frame | (intro x; clear_value x) | with_reducible apply Frame.ite
    | with_reducible refine Frame.mk' ?_ rfl

theorem State.domainSwitch_frame {sB : State} (s : State) (v : Nat) (hB : Frame F R sB s) (f_out : F .out)
    (f_host : F .host) (f_hwd : F .hwd) (f_scan : F .scan) (f_beam : F .beam) (f_pwr : F .pwr)
    (r_BEAM_EVENTS : R Reg.BEAM_EVENTS) (r_BEAM_STATUS : R Reg.BEAM_STATUS)
    (r_BEAM_STN_STATE : ∀ i, R (Reg.BEAM_STN_STATE i)) (r_PWR_DOM_REQ : R Reg.PWR_DOM_REQ)
    (r_PWR_DOM_STATE : R Reg.PWR_DOM_STATE) (r_PWR_EVENTS : R Reg.PWR_EVENTS) (r_SCAN_STATUS : R Reg.SCAN_STATUS)
    (r_SCAN_STN_STATE : ∀ i, R (Reg.SCAN_STN_STATE i)) :
    Frame F R sB (State.domainSwitch s v) := by
  delta State.domainSwitch
  repeat' first
    | with_reducible assumption | lift_lets | with_reducible apply State.domainBit_frame

theorem effDomainSwitch_frame {sB : State} (v : Word) (s : State) (hB : Frame F R sB s) (f_out : F .out)
    (f_host : F .host) (f_hwd : F .hwd) (f_scan : F .scan) (f_beam : F .beam) (f_pwr : F .pwr)
    (r_BEAM_EVENTS : R Reg.BEAM_EVENTS) (r_BEAM_STATUS : R Reg.BEAM_STATUS)
    (r_BEAM_STN_STATE : ∀ i, R (Reg.BEAM_STN_STATE i)) (r_PWR_DOM_REQ : R Reg.PWR_DOM_REQ)
    (r_PWR_DOM_STATE : R Reg.PWR_DOM_STATE) (r_PWR_EVENTS : R Reg.PWR_EVENTS) (r_SCAN_STATUS : R Reg.SCAN_STATUS)
    (r_SCAN_STN_STATE : ∀ i, R (Reg.SCAN_STN_STATE i)) :
    FrameO F R sB (effDomainSwitch v s) := by
  delta effDomainSwitch
  repeat' first
    | with_reducible assumption | lift_lets | with_reducible apply FrameO.next
    | with_reducible apply State.domainSwitch_frame

theorem execDomainUp_frame {sB : State} (half : Fin 2) (s : State) (hB : Frame F R sB s) (f_host : F .host)
    (f_hwd : F .hwd) (f_scan : F .scan) (f_beam : F .beam) (f_pwr : F .pwr) (r_BEAM_EVENTS : R Reg.BEAM_EVENTS)
    (r_BEAM_STN_STATE : ∀ i, R (Reg.BEAM_STN_STATE i)) (r_PWR_DOM_STATE : R Reg.PWR_DOM_STATE) :
    FrameO F R sB (execDomainUp half s) := by
  delta execDomainUp
  repeat' first
    | with_reducible assumption | intro (u : State) (hu : Frame F R sB u) | lift_lets
    | (intro x; refine (fun (hx : Frame F R sB x) => ?_) ?_ <;> [clear_value x; subst x])
    | with_reducible apply FrameO.next | with_reducible apply State.setFlag_frame
    | with_reducible apply State.event_frame | with_reducible apply State.modStn_frame
    | with_reducible apply State.trainBeam_frame | with_reducible apply Frame.foldl | (intro x; clear_value x)
    | intro _ | with_reducible apply Frame.ite | with_reducible apply FrameO.ite
    | with_reducible refine Frame.mk' ?_ rfl

theorem State.setRail_frame {sB : State} (s : State) (r st : Nat) (hB : Frame F R sB s)
    (r_PWR_RAIL_STATE : ∀ i, R (Reg.PWR_RAIL_STATE i)) :
    Frame F R sB (State.setRail s r st) := by
  delta State.setRail
  repeat' first
    | with_reducible assumption | lift_lets | with_reducible apply State.setFld_frame
    | with_reducible apply r_PWR_RAIL_STATE

theorem State.modRail_frame {sB : State} (s : State) (r : Nat) (f : Rail → Rail) (hB : Frame F R sB s)
    (f_pwr : F .pwr) :
    Frame F R sB (State.modRail s r f) := by
  delta State.modRail
  repeat' first
    | with_reducible assumption | lift_lets | (intro x; clear_value x) | with_reducible refine Frame.mk' ?_ rfl

theorem State.snap_frame {sB : State} (s : State) (code : Option Nat) (rail : Nat) (hB : Frame F R sB s)
    (f_fresh : F .fresh) (f_pwr : F .pwr) :
    Frame F R sB (State.snap s code rail) := by
  delta State.snap
  repeat' first
    | with_reducible assumption | lift_lets
    | (intro x; refine (fun (hx : Frame F R sB x) => ?_) ?_ <;> [clear_value x; subst x])
    | with_reducible apply State.drawn_frame | (intro x; clear_value x) | with_reducible apply Frame.ite | split
    | with_reducible refine Frame.mk' ?_ rfl

theorem State.writeRailEn_frame {sB : State} (s : State) (k : Nat) (hB : Frame F R sB s) (f_out : F .out) :
    Frame F R sB (State.writeRailEn s k) := by
  delta State.writeRailEn
  repeat' first
    | with_reducible assumption | with_reducible apply State.emit_frame

theorem State.dropMargin_frame {sB : State} (s : State) (r : Nat) (hB : Frame F R sB s) (f_out : F .out)
    (r_PWR_RAIL_STATE : ∀ i, R (Reg.PWR_RAIL_STATE i)) :
    Frame F R sB (State.dropMargin s r) := by
  delta State.dropMargin
  repeat' first
    | with_reducible assumption | lift_lets | with_reducible apply State.setFld_frame
    | with_reducible apply State.emit_frame | with_reducible apply r_PWR_RAIL_STATE | with_reducible apply Frame.ite

theorem State.failRail_frame {sB : State} (s : State) (r : Nat) (hB : Frame F R sB s) (f_fresh : F .fresh)
    (f_out : F .out) (f_host : F .host) (f_hwd : F .hwd) (f_pwr : F .pwr) (r_PWR_EVENTS : R Reg.PWR_EVENTS)
    (r_PWR_RAIL_STATE : ∀ i, R (Reg.PWR_RAIL_STATE i)) :
    Frame F R sB (State.failRail s r) := by
  delta State.failRail
  repeat' first
    | with_reducible assumption | lift_lets
    | (intro x; refine (fun (hx : Frame F R sB x) => ?_) ?_ <;> [clear_value x; subst x])
    | with_reducible apply State.event_frame | with_reducible apply State.raiseBit_frame
    | with_reducible apply State.setRail_frame | with_reducible apply State.modRail_frame
    | with_reducible apply State.snap_frame | with_reducible apply State.dropMargin_frame

theorem State.offRail_frame {sB : State} (s : State) (r : Nat) (hB : Frame F R sB s) (f_fresh : F .fresh)
    (f_pwr : F .pwr) (r_PWR_RAIL_STATE : ∀ i, R (Reg.PWR_RAIL_STATE i)) :
    Frame F R sB (State.offRail s r) := by
  delta State.offRail
  repeat' first
    | with_reducible assumption | lift_lets | with_reducible apply State.setRail_frame
    | with_reducible apply State.modRail_frame | with_reducible apply State.snap_frame

theorem State.seqEnd_frame {sB : State} (s : State) (st : Nat) (hB : Frame F R sB s) (f_fresh : F .fresh)
    (f_host : F .host) (f_hwd : F .hwd) (f_pwr : F .pwr) (r_PWR_EVENTS : R Reg.PWR_EVENTS)
    (r_PWR_SEQ_STATE : R Reg.PWR_SEQ_STATE) :
    Frame F R sB (State.seqEnd s st) := by
  delta State.seqEnd
  repeat' first
    | with_reducible assumption | lift_lets | with_reducible apply State.setFld_frame
    | with_reducible apply State.event_frame | with_reducible apply State.raiseBit_frame
    | with_reducible apply State.snap_frame

theorem State.seqCheck_frame {sB : State} (s : State) (hB : Frame F R sB s) (f_fresh : F .fresh) (f_host : F .host)
    (f_hwd : F .hwd) (f_pwr : F .pwr) (r_PWR_EVENTS : R Reg.PWR_EVENTS) (r_PWR_SEQ_STATE : R Reg.PWR_SEQ_STATE) :
    Frame F R sB (State.seqCheck s) := by
  delta State.seqCheck
  repeat' first
    | with_reducible assumption | lift_lets
    | (intro x; refine (fun (hx : Frame F R sB x) => ?_) ?_ <;> [clear_value x; subst x])
    | with_reducible apply State.seqEnd_frame | (intro x; clear_value x) | with_reducible apply Frame.ite
    | with_reducible refine Frame.mk' ?_ rfl

theorem State.seqStart_frame {sB : State} (s : State) (st code : Nat) (hB : Frame F R sB s) (f_fresh : F .fresh)
    (f_hwd : F .hwd) (f_pwr : F .pwr) (r_PWR_SEQ_STATE : R Reg.PWR_SEQ_STATE) :
    Frame F R sB (State.seqStart s st code) := by
  delta State.seqStart
  repeat' first
    | with_reducible assumption | lift_lets
    | (intro x; refine (fun (hx : Frame F R sB x) => ?_) ?_ <;> [clear_value x; subst x])
    | with_reducible apply State.setFld_frame | with_reducible apply State.setFlag_frame
    | with_reducible apply State.event_frame | with_reducible apply State.snap_frame | (intro x; clear_value x)
    | with_reducible refine Frame.mk' ?_ rfl

theorem State.seqGoUp_frame {sB : State} (s : State) (hB : Frame F R sB s) (f_fresh : F .fresh) (f_host : F .host)
    (f_hwd : F .hwd) (f_pwr : F .pwr) (r_PWR_EVENTS : R Reg.PWR_EVENTS)
    (r_PWR_RAIL_STATE : ∀ i, R (Reg.PWR_RAIL_STATE i)) (r_PWR_SEQ_STATE : R Reg.PWR_SEQ_STATE) :
    Frame F R sB (State.seqGoUp s) := by
  delta State.seqGoUp
  repeat' first
    | with_reducible assumption | intro (u : State) (hu : Frame F R sB u) | lift_lets
    | (intro x; refine (fun (hx : Frame F R sB x) => ?_) ?_ <;> [clear_value x; subst x])
    | with_reducible apply State.upTo_frame | with_reducible apply State.setRail_frame
    | with_reducible apply State.modRail_frame | with_reducible apply State.seqCheck_frame
    | with_reducible apply State.seqStart_frame | intro _ | with_reducible apply Frame.ite

theorem State.seqGoDown_frame {sB : State} (s : State) (cause : Nat) (hB : Frame F R sB s) (f_fresh : F .fresh)
    (f_out : F .out) (f_host : F .host) (f_hwd : F .hwd) (f_pwr : F .pwr) (r_PWR_EVENTS : R Reg.PWR_EVENTS)
    (r_PWR_RAIL_STATE : ∀ i, R (Reg.PWR_RAIL_STATE i)) (r_PWR_SEQ_STATE : R Reg.PWR_SEQ_STATE) :
    Frame F R sB (State.seqGoDown s cause) := by
  delta State.seqGoDown
  repeat' first
    | with_reducible assumption | intro (u : State) (hu : Frame F R sB u) | lift_lets
    | (intro x; refine (fun (hx : Frame F R sB x) => ?_) ?_ <;> [clear_value x; subst x])
    | with_reducible apply State.setFld_frame | with_reducible apply State.upTo_frame
    | with_reducible apply State.dropMargin_frame | with_reducible apply State.offRail_frame
    | with_reducible apply State.seqCheck_frame | with_reducible apply State.seqStart_frame | intro _
    | with_reducible apply Frame.ite

theorem State.maybeUp_frame {sB : State} (s : State) (hB : Frame F R sB s) (f_fresh : F .fresh) (f_host : F .host)
    (f_hwd : F .hwd) (f_pwr : F .pwr) (r_PWR_EVENTS : R Reg.PWR_EVENTS)
    (r_PWR_RAIL_STATE : ∀ i, R (Reg.PWR_RAIL_STATE i)) (r_PWR_SEQ_STATE : R Reg.PWR_SEQ_STATE) :
    Frame F R sB (State.maybeUp s) := by
  delta State.maybeUp
  repeat' first
    | with_reducible assumption | lift_lets | with_reducible apply State.seqGoUp_frame
    | with_reducible apply Frame.ite

theorem State.pwrResult_frame {sB : State} (s : State) (r : Nat) (hB : Frame F R sB s)
    (r_PWR_RESULT : R Reg.PWR_RESULT) :
    Frame F R sB (State.pwrResult s r) := by
  delta State.pwrResult
  repeat' first
    | with_reducible assumption | with_reducible apply State.setFld_frame

theorem State.seqUp_frame {sB : State} (s : State) (hB : Frame F R sB s) (f_fresh : F .fresh) (f_host : F .host)
    (f_hwd : F .hwd) (f_pwr : F .pwr) (r_PWR_EVENTS : R Reg.PWR_EVENTS)
    (r_PWR_RAIL_STATE : ∀ i, R (Reg.PWR_RAIL_STATE i)) (r_PWR_RESULT : R Reg.PWR_RESULT)
    (r_PWR_SEQ_STATE : R Reg.PWR_SEQ_STATE) :
    Frame F R sB (State.seqUp s) := by
  delta State.seqUp
  repeat' first
    | with_reducible assumption | lift_lets | with_reducible apply State.setFlag_frame
    | with_reducible apply State.seqGoUp_frame | with_reducible apply State.pwrResult_frame | (intro x; clear_value x)
    | with_reducible apply Frame.ite

theorem effSeqUp_frame {sB : State} (s : State) (hB : Frame F R sB s) (f_fresh : F .fresh) (f_host : F .host)
    (f_hwd : F .hwd) (f_pwr : F .pwr) (r_PWR_EVENTS : R Reg.PWR_EVENTS)
    (r_PWR_RAIL_STATE : ∀ i, R (Reg.PWR_RAIL_STATE i)) (r_PWR_RESULT : R Reg.PWR_RESULT)
    (r_PWR_SEQ_STATE : R Reg.PWR_SEQ_STATE) :
    FrameO F R sB (effSeqUp s) := by
  delta effSeqUp
  repeat' first
    | with_reducible assumption | lift_lets | with_reducible apply FrameO.next
    | with_reducible apply State.seqUp_frame

theorem State.seqDown_frame {sB : State} (s : State) (w : Writer) (hB : Frame F R sB s) (f_fresh : F .fresh)
    (f_out : F .out) (f_host : F .host) (f_hwd : F .hwd) (f_pwr : F .pwr) (r_PWR_EVENTS : R Reg.PWR_EVENTS)
    (r_PWR_RAIL_STATE : ∀ i, R (Reg.PWR_RAIL_STATE i)) (r_PWR_RESULT : R Reg.PWR_RESULT)
    (r_PWR_SEQ_STATE : R Reg.PWR_SEQ_STATE) :
    Frame F R sB (State.seqDown s w) := by
  delta State.seqDown
  repeat' first
    | with_reducible assumption | lift_lets | with_reducible apply State.setFlag_frame
    | with_reducible apply State.seqGoDown_frame | with_reducible apply State.pwrResult_frame
    | (intro x; clear_value x) | with_reducible apply Frame.ite

theorem effSeqDown_frame {sB : State} (w : Writer) (s : State) (hB : Frame F R sB s) (f_fresh : F .fresh)
    (f_out : F .out) (f_host : F .host) (f_hwd : F .hwd) (f_pwr : F .pwr) (r_PWR_EVENTS : R Reg.PWR_EVENTS)
    (r_PWR_RAIL_STATE : ∀ i, R (Reg.PWR_RAIL_STATE i)) (r_PWR_RESULT : R Reg.PWR_RESULT)
    (r_PWR_SEQ_STATE : R Reg.PWR_SEQ_STATE) :
    FrameO F R sB (effSeqDown w s) := by
  delta effSeqDown
  repeat' first
    | with_reducible assumption | lift_lets | with_reducible apply FrameO.next
    | with_reducible apply State.seqDown_frame

theorem State.enableRail_frame {sB : State} (s : State) (r : Nat) (hB : Frame F R sB s) (f_fresh : F .fresh)
    (f_out : F .out) (f_host : F .host) (f_hwd : F .hwd) (f_pwr : F .pwr) (r_PWR_EVENTS : R Reg.PWR_EVENTS)
    (r_PWR_RAIL_STATE : ∀ i, R (Reg.PWR_RAIL_STATE i)) :
    Frame F R sB (State.enableRail s r) := by
  delta State.enableRail
  repeat' first
    | with_reducible assumption | lift_lets | with_reducible apply State.setRail_frame
    | with_reducible apply State.modRail_frame | with_reducible apply State.failRail_frame
    | with_reducible apply Frame.ite

theorem State.railSlot_frame {sB : State} (s : State) (k : Nat) (hB : Frame F R sB s) (f_fresh : F .fresh)
    (f_out : F .out) (f_host : F .host) (f_hwd : F .hwd) (f_pwr : F .pwr) (r_PWR_EVENTS : R Reg.PWR_EVENTS)
    (r_PWR_RAIL_STATE : ∀ i, R (Reg.PWR_RAIL_STATE i)) (r_PWR_SEQ_STATE : R Reg.PWR_SEQ_STATE) :
    Frame F R sB (State.railSlot s k) := by
  delta State.railSlot
  repeat' first
    | with_reducible assumption | intro (u : State) (hu : Frame F R sB u) | lift_lets
    | (intro x; refine (fun (hx : Frame F R sB x) => ?_) ?_ <;> [clear_value x; subst x])
    | with_reducible apply State.modRail_frame | with_reducible apply State.writeRailEn_frame
    | with_reducible apply State.seqCheck_frame | with_reducible apply State.enableRail_frame
    | with_reducible apply Frame.foldl | (intro x; clear_value x) | intro _ | with_reducible apply Frame.ite

theorem effRailSlot_frame {sB : State} (k : Fin 8) (s : State) (hB : Frame F R sB s) (f_fresh : F .fresh)
    (f_out : F .out) (f_host : F .host) (f_hwd : F .hwd) (f_pwr : F .pwr) (r_PWR_EVENTS : R Reg.PWR_EVENTS)
    (r_PWR_RAIL_STATE : ∀ i, R (Reg.PWR_RAIL_STATE i)) (r_PWR_SEQ_STATE : R Reg.PWR_SEQ_STATE) :
    FrameO F R sB (effRailSlot k s) := by
  delta effRailSlot
  repeat' first
    | with_reducible assumption | lift_lets | with_reducible apply FrameO.next
    | with_reducible apply State.railSlot_frame

theorem State.pgTimeout_frame {sB : State} (s : State) (r : Nat) (hB : Frame F R sB s) (f_fresh : F .fresh)
    (f_out : F .out) (f_host : F .host) (f_flt : F .flt) (f_hwd : F .hwd) (f_pwr : F .pwr)
    (r_PWR_EVENTS : R Reg.PWR_EVENTS) (r_PWR_RAIL_STATE : ∀ i, R (Reg.PWR_RAIL_STATE i))
    (r_PWR_SEQ_STATE : R Reg.PWR_SEQ_STATE) :
    Frame F R sB (State.pgTimeout s r) := by
  delta State.pgTimeout
  repeat' first
    | with_reducible assumption | lift_lets | with_reducible apply State.fault_frame
    | with_reducible apply State.writeRailEn_frame | with_reducible apply State.failRail_frame
    | with_reducible apply State.seqCheck_frame | (intro x; clear_value x) | with_reducible apply Frame.ite

theorem effPgTimeout_frame {sB : State} (r : Fin 64) (s : State) (hB : Frame F R sB s) (f_fresh : F .fresh)
    (f_out : F .out) (f_host : F .host) (f_flt : F .flt) (f_hwd : F .hwd) (f_pwr : F .pwr)
    (r_PWR_EVENTS : R Reg.PWR_EVENTS) (r_PWR_RAIL_STATE : ∀ i, R (Reg.PWR_RAIL_STATE i))
    (r_PWR_SEQ_STATE : R Reg.PWR_SEQ_STATE) :
    FrameO F R sB (effPgTimeout r s) := by
  delta effPgTimeout
  repeat' first
    | with_reducible assumption | lift_lets | with_reducible apply FrameO.next
    | with_reducible apply State.pgTimeout_frame

theorem State.readRail_frame {sB : State} (s : State) (r : Nat) (high changed : Bool) (stamp : Nat)
    (hB : Frame F R sB s) (f_fresh : F .fresh) (f_out : F .out) (f_host : F .host) (f_flt : F .flt) (f_hwd : F .hwd)
    (f_pwr : F .pwr) (r_PWR_EVENTS : R Reg.PWR_EVENTS) (r_PWR_RAIL_STATE : ∀ i, R (Reg.PWR_RAIL_STATE i)) :
    Frame F R sB (State.readRail s r high changed stamp) := by
  delta State.readRail
  repeat' first
    | with_reducible assumption | lift_lets
    | (intro x; refine (fun (hx : Frame F R sB x) => ?_) ?_ <;> [clear_value x; subst x])
    | with_reducible apply State.setFld_frame | with_reducible apply State.fault_frame
    | with_reducible apply State.event_frame | with_reducible apply State.raiseBit_frame
    | with_reducible apply State.setRail_frame | with_reducible apply State.modRail_frame
    | with_reducible apply State.snap_frame | with_reducible apply State.dropMargin_frame
    | with_reducible apply State.offRail_frame | with_reducible apply r_PWR_RAIL_STATE | (intro x; clear_value x)
    | with_reducible apply Frame.ite

theorem State.readVin_frame {sB : State} (s : State) (good : Bool) (hB : Frame F R sB s) (f_fresh : F .fresh)
    (f_out : F .out) (f_host : F .host) (f_flt : F .flt) (f_hwd : F .hwd) (f_pwr : F .pwr)
    (r_PWR_EVENTS : R Reg.PWR_EVENTS) (r_PWR_RAIL_STATE : ∀ i, R (Reg.PWR_RAIL_STATE i))
    (r_PWR_SEQ_STATE : R Reg.PWR_SEQ_STATE) :
    Frame F R sB (State.readVin s good) := by
  delta State.readVin
  repeat' first
    | with_reducible assumption | lift_lets
    | (intro x; refine (fun (hx : Frame F R sB x) => ?_) ?_ <;> [clear_value x; subst x])
    | with_reducible apply State.setFlag_frame | with_reducible apply State.fault_frame
    | with_reducible apply State.event_frame | with_reducible apply State.raiseBit_frame
    | with_reducible apply State.snap_frame | with_reducible apply State.seqGoDown_frame
    | with_reducible apply State.maybeUp_frame | (intro x; clear_value x) | with_reducible apply Frame.ite
    | with_reducible refine Frame.mk' ?_ rfl

theorem State.takeRead_frame {sB : State} (s : State) (x : SeqRead) (hB : Frame F R sB s) (f_fresh : F .fresh)
    (f_out : F .out) (f_host : F .host) (f_flt : F .flt) (f_hwd : F .hwd) (f_pwr : F .pwr)
    (r_PWR_EVENTS : R Reg.PWR_EVENTS) (r_PWR_RAIL_STATE : ∀ i, R (Reg.PWR_RAIL_STATE i))
    (r_PWR_SEQ_STATE : R Reg.PWR_SEQ_STATE) :
    Frame F R sB (State.takeRead s x) := by
  delta State.takeRead
  repeat' first
    | with_reducible assumption | intro (u : State) (hu : Frame F R sB u) | lift_lets
    | with_reducible apply State.seqCheck_frame | with_reducible apply State.readRail_frame
    | with_reducible apply State.readVin_frame | with_reducible apply Frame.foldl | intro _
    | with_reducible apply Frame.ite

theorem execSeqReadDone_frame {sB : State} (x : SeqRead) (s : State) (hB : Frame F R sB s) (f_fresh : F .fresh)
    (f_out : F .out) (f_host : F .host) (f_flt : F .flt) (f_hwd : F .hwd) (f_pwr : F .pwr)
    (r_PWR_EVENTS : R Reg.PWR_EVENTS) (r_PWR_RAIL_STATE : ∀ i, R (Reg.PWR_RAIL_STATE i))
    (r_PWR_SEQ_STATE : R Reg.PWR_SEQ_STATE) :
    FrameO F R sB (execSeqReadDone x s) := by
  delta execSeqReadDone
  repeat' first
    | with_reducible assumption | lift_lets | with_reducible apply FrameO.next
    | with_reducible apply State.takeRead_frame | (intro x; clear_value x) | with_reducible apply FrameO.ite
    | with_reducible refine Frame.mk' ?_ rfl

theorem State.gatherReads_frame {sB : State} (s : State) (hB : Frame F R sB s) (f_fresh : F .fresh) (f_out : F .out)
    (f_host : F .host) (f_flt : F .flt) (f_hwd : F .hwd) (f_pwr : F .pwr) (r_PWR_EVENTS : R Reg.PWR_EVENTS)
    (r_PWR_RAIL_STATE : ∀ i, R (Reg.PWR_RAIL_STATE i)) (r_PWR_SEQ_STATE : R Reg.PWR_SEQ_STATE) :
    Frame F R sB (State.gatherReads s) := by
  delta State.gatherReads
  repeat' first
    | with_reducible assumption | intro (u : State) (hu : Frame F R sB u) | lift_lets
    | with_reducible apply State.takeRead_frame | with_reducible apply Frame.foldl | intro _
    | with_reducible refine Frame.mk' ?_ rfl

theorem execSeqTransactionFailed_frame {sB : State} (k : Fin 8) (cmd : Fin 256) (s : State) (hB : Frame F R sB s)
    (f_fresh : F .fresh) (f_out : F .out) (f_host : F .host) (f_flt : F .flt) (f_hwd : F .hwd) (f_pwr : F .pwr)
    (r_PWR_EVENTS : R Reg.PWR_EVENTS) (r_PWR_RAIL_STATE : ∀ i, R (Reg.PWR_RAIL_STATE i))
    (r_PWR_SEQ_STATE : R Reg.PWR_SEQ_STATE) :
    FrameO F R sB (execSeqTransactionFailed k cmd s) := by
  delta execSeqTransactionFailed
  repeat' first
    | with_reducible assumption | intro (u : State) (hu : Frame F R sB u) | lift_lets
    | (intro x; refine (fun (hx : Frame F R sB x) => ?_) ?_ <;> [clear_value x; subst x])
    | with_reducible apply FrameO.next | with_reducible apply State.setFlag_frame
    | with_reducible apply State.fault_frame | with_reducible apply State.event_frame
    | with_reducible apply State.raiseBit_frame | with_reducible apply State.failRail_frame
    | with_reducible apply State.seqCheck_frame | with_reducible apply Frame.foldl | intro _
    | with_reducible apply Frame.ite | with_reducible apply FrameO.ite

theorem State.adoptRails_frame {sB : State} (s : State) (found : List (Nat × Nat)) (hB : Frame F R sB s)
    (f_fresh : F .fresh) (f_pwr : F .pwr) (r_PWR_RAIL_STATE : ∀ i, R (Reg.PWR_RAIL_STATE i))
    (r_PWR_SEQ_STATE : R Reg.PWR_SEQ_STATE) :
    Frame F R sB (State.adoptRails s found) := by
  delta State.adoptRails
  repeat' first
    | with_reducible assumption | intro (u : State) (hu : Frame F R sB u) | lift_lets
    | (intro x; refine (fun (hx : Frame F R sB x) => ?_) ?_ <;> [clear_value x; subst x])
    | with_reducible apply State.setFld_frame | with_reducible apply State.upTo_frame
    | with_reducible apply State.setRail_frame | with_reducible apply State.snap_frame | (intro x; clear_value x)
    | intro _ | with_reducible apply Frame.ite

theorem execPollRound_frame {sB : State} (ids : Fin 256) (found : List (Nat × Nat)) (s : State) (hB : Frame F R sB s)
    (f_fresh : F .fresh) (f_out : F .out) (f_pwr : F .pwr) (r_PWR_RAIL_STATE : ∀ i, R (Reg.PWR_RAIL_STATE i))
    (r_PWR_SEQ_STATE : R Reg.PWR_SEQ_STATE) :
    FrameO F R sB (execPollRound ids found s) := by
  delta execPollRound
  repeat' first
    | with_reducible assumption | intro (u : State) (hu : Frame F R sB u) | lift_lets
    | (intro x; refine (fun (hx : Frame F R sB x) => ?_) ?_ <;> [clear_value x; subst x])
    | with_reducible apply FrameO.next | with_reducible apply State.setFld_frame
    | with_reducible apply State.emit_frame | with_reducible apply State.upTo_frame
    | with_reducible apply State.adoptRails_frame | (intro x; clear_value x) | intro _
    | with_reducible apply Frame.ite | with_reducible apply FrameO.ite | with_reducible refine Frame.mk' ?_ rfl

theorem State.offWaitEnd_frame {sB : State} (s : State) (hB : Frame F R sB s) (f_fresh : F .fresh) (f_host : F .host)
    (f_hwd : F .hwd) (f_pwr : F .pwr) (r_PWR_EVENTS : R Reg.PWR_EVENTS)
    (r_PWR_RAIL_STATE : ∀ i, R (Reg.PWR_RAIL_STATE i)) (r_PWR_SEQ_STATE : R Reg.PWR_SEQ_STATE) :
    Frame F R sB (State.offWaitEnd s) := by
  delta State.offWaitEnd
  repeat' first
    | with_reducible assumption | lift_lets | with_reducible apply State.setFld_frame
    | with_reducible apply State.maybeUp_frame | with_reducible apply Frame.ite

theorem effOffWaitEnd_frame {sB : State} (s : State) (hB : Frame F R sB s) (f_fresh : F .fresh) (f_host : F .host)
    (f_hwd : F .hwd) (f_pwr : F .pwr) (r_PWR_EVENTS : R Reg.PWR_EVENTS)
    (r_PWR_RAIL_STATE : ∀ i, R (Reg.PWR_RAIL_STATE i)) (r_PWR_SEQ_STATE : R Reg.PWR_SEQ_STATE) :
    FrameO F R sB (effOffWaitEnd s) := by
  delta effOffWaitEnd
  repeat' first
    | with_reducible assumption | lift_lets | with_reducible apply FrameO.next
    | with_reducible apply State.offWaitEnd_frame

theorem State.marginStep_frame {sB : State} (s : State) (r : Nat) (hB : Frame F R sB s) (f_fresh : F .fresh)
    (f_out : F .out) (f_host : F .host) (f_hwd : F .hwd) (f_pwr : F .pwr) (r_PWR_EVENTS : R Reg.PWR_EVENTS)
    (r_PWR_RAIL_STATE : ∀ i, R (Reg.PWR_RAIL_STATE i)) :
    Frame F R sB (State.marginStep s r) := by
  delta State.marginStep
  repeat' first
    | with_reducible assumption | lift_lets
    | (intro x; refine (fun (hx : Frame F R sB x) => ?_) ?_ <;> [clear_value x; subst x])
    | with_reducible apply State.setFld_frame | with_reducible apply State.emit_frame
    | with_reducible apply State.event_frame | with_reducible apply State.raiseBit_frame
    | with_reducible apply State.modRail_frame | with_reducible apply State.snap_frame
    | with_reducible apply r_PWR_RAIL_STATE | (intro x; clear_value x) | with_reducible apply Frame.ite

theorem effMarginStep_frame {sB : State} (r : Fin 64) (s : State) (hB : Frame F R sB s) (f_fresh : F .fresh)
    (f_out : F .out) (f_host : F .host) (f_hwd : F .hwd) (f_pwr : F .pwr) (r_PWR_EVENTS : R Reg.PWR_EVENTS)
    (r_PWR_RAIL_STATE : ∀ i, R (Reg.PWR_RAIL_STATE i)) :
    FrameO F R sB (effMarginStep r s) := by
  delta effMarginStep
  repeat' first
    | with_reducible assumption | lift_lets | with_reducible apply FrameO.next
    | with_reducible apply State.marginStep_frame

theorem execSnapshotDone_frame {sB : State} (readings : List Word) (s : State) (hB : Frame F R sB s) (f_hwd : F .hwd)
    (f_pwr : F .pwr) (r_PWR_RAIL_READ : ∀ i, R (Reg.PWR_RAIL_READ i)) :
    FrameO F R sB (execSnapshotDone readings s) := by
  delta execSnapshotDone
  repeat' first
    | with_reducible assumption | intro (u : State) (hu : Frame F R sB u) | lift_lets
    | (intro x; refine (fun (hx : Frame F R sB x) => ?_) ?_ <;> [clear_value x; subst x])
    | with_reducible apply FrameO.next | with_reducible apply State.wrN_frame | with_reducible apply State.upTo_frame
    | with_reducible apply r_PWR_RAIL_READ | (intro x; clear_value x) | intro _ | with_reducible apply Frame.ite
    | split | with_reducible refine Frame.mk' ?_ rfl

theorem State.shutDown_frame {sB : State} (s : State) (c : Nat) (v : Int) (hB : Frame F R sB s) (f_out : F .out)
    (f_flt : F .flt) (f_beam : F .beam) (r_BEAM_STATUS : R Reg.BEAM_STATUS)
    (r_BEAM_STN_STATE : ∀ i, R (Reg.BEAM_STN_STATE i)) (r_FLT_SAFE_CAUSE : R Reg.FLT_SAFE_CAUSE)
    (r_FLT_SAFE_TICK_HI : R Reg.FLT_SAFE_TICK_HI) (r_FLT_SAFE_TICK_LO : R Reg.FLT_SAFE_TICK_LO)
    (r_FLT_STATUS : R Reg.FLT_STATUS) (r_THM_CH_TEMP : ∀ i, R (Reg.THM_CH_TEMP i)) (r_THM_LATCHED : R Reg.THM_LATCHED)
    (r_THM_STATUS : R Reg.THM_STATUS) :
    Frame F R sB (State.shutDown s c v) := by
  delta State.shutDown
  repeat' first
    | with_reducible assumption | lift_lets
    | (intro x; refine (fun (hx : Frame F R sB x) => ?_) ?_ <;> [clear_value x; subst x])
    | with_reducible apply State.setFld_frame | with_reducible apply State.setFlag_frame
    | with_reducible apply State.showThrottle_frame | with_reducible apply State.enterByHardware_frame
    | with_reducible apply r_THM_CH_TEMP | with_reducible refine Frame.mk' ?_ rfl

theorem execThermalConversion_frame {sB : State} (c : Fin 12) (v : Int) (valid : Bool) (s : State)
    (hB : Frame F R sB s) (f_out : F .out) (f_host : F .host) (f_flt : F .flt) (f_hwd : F .hwd) (f_beam : F .beam)
    (f_thm : F .thm) (r_BEAM_STATUS : R Reg.BEAM_STATUS) (r_BEAM_STN_STATE : ∀ i, R (Reg.BEAM_STN_STATE i))
    (r_FLT_SAFE_CAUSE : R Reg.FLT_SAFE_CAUSE) (r_FLT_SAFE_TICK_HI : R Reg.FLT_SAFE_TICK_HI)
    (r_FLT_SAFE_TICK_LO : R Reg.FLT_SAFE_TICK_LO) (r_FLT_STATUS : R Reg.FLT_STATUS)
    (r_THM_CH_TEMP : ∀ i, R (Reg.THM_CH_TEMP i)) (r_THM_EVENTS : R Reg.THM_EVENTS) (r_THM_LATCHED : R Reg.THM_LATCHED)
    (r_THM_STATUS : R Reg.THM_STATUS) :
    FrameO F R sB (execThermalConversion c v valid s) := by
  delta execThermalConversion
  repeat' first
    | with_reducible assumption | lift_lets
    | (intro x; refine (fun (hx : Frame F R sB x) => ?_) ?_ <;> [clear_value x; subst x])
    | with_reducible apply FrameO.next | with_reducible apply State.fault_frame
    | with_reducible apply State.event_frame | with_reducible apply State.raiseBit_frame
    | with_reducible apply State.thmReading_frame | with_reducible apply State.shutDown_frame
    | (intro x; clear_value x) | with_reducible apply Frame.ite | with_reducible apply FrameO.ite
    | with_reducible refine Frame.mk' ?_ rfl

theorem State.thawHead_frame {sB : State} (s : State) (i : Nat) (hB : Frame F R sB s) (f_host : F .host)
    (f_hwd : F .hwd) (f_beam : F .beam) (r_BEAM_STATUS : R Reg.BEAM_STATUS)
    (r_BEAM_STN_STATE : ∀ i, R (Reg.BEAM_STN_STATE i)) (r_THM_EVENTS : R Reg.THM_EVENTS) :
    Frame F R sB (State.thawHead s i) := by
  delta State.thawHead
  repeat' first
    | with_reducible assumption | lift_lets
    | (intro x; refine (fun (hx : Frame F R sB x) => ?_) ?_ <;> [clear_value x; subst x])
    | with_reducible apply State.setFlag_frame | with_reducible apply State.event_frame
    | with_reducible apply State.raiseBit_frame | with_reducible apply State.modBm_frame
    | with_reducible apply r_BEAM_STN_STATE | (intro x; clear_value x) | with_reducible apply Frame.ite

theorem effHeadThaw_frame {sB : State} (i : Fin 8) (s : State) (hB : Frame F R sB s) (f_host : F .host)
    (f_hwd : F .hwd) (f_beam : F .beam) (r_BEAM_STATUS : R Reg.BEAM_STATUS)
    (r_BEAM_STN_STATE : ∀ i, R (Reg.BEAM_STN_STATE i)) (r_THM_EVENTS : R Reg.THM_EVENTS) :
    FrameO F R sB (effHeadThaw i s) := by
  delta effHeadThaw
  repeat' first
    | with_reducible assumption | lift_lets | with_reducible apply FrameO.next
    | with_reducible apply State.thawHead_frame

/-! ### Clock -/

/-- A reset of the blocks keeps the queue, the fused life-cycle state and the canonical forms. -/
theorem State.blocksReset_frame {sB : State} (s : State) (kind : Nat) (hB : Frame (fun _ => True) (fun _ => True) sB
    s) : Frame (fun _ => True) (fun _ => True) sB (s.blocksReset kind) :=
  ⟨hB.pending, fun _ n => absurd trivial n, fun _ n => absurd trivial n, hB.fused, fun w => by
    have := hB.wf w
    simp only [State.wf, Bool.and_eq_true] at *
    exact ⟨regsRise_filter none s.regs _ this.1, rfl⟩⟩

theorem State.keepLatch_frame {sB : State} (t s : State) (kind cause : Nat) (hB : Frame F R sB t)
    (r_THM_CH_TEMP : ∀ i, R (Reg.THM_CH_TEMP i)) (r_THM_LATCHED : R Reg.THM_LATCHED) (r_THM_STATUS : R Reg.THM_STATUS)
    :
    Frame F R sB (State.keepLatch t s kind cause) := by
  delta State.keepLatch
  repeat' first
    | with_reducible assumption | intro (u : State) (hu : Frame F R sB u) | lift_lets
    | (intro x; refine (fun (hx : Frame F R sB x) => ?_) ?_ <;> [clear_value x; subst x])
    | with_reducible apply State.wr_frame | with_reducible apply State.setFld_frame
    | with_reducible apply State.setFlag_frame | with_reducible apply State.upTo_frame
    | with_reducible apply r_THM_CH_TEMP | intro _ | with_reducible apply Frame.ite

theorem State.doReset_frame {sB : State} (s : State) (kind cause : Nat) (hB : Frame (fun _ => True) (fun _ => True) sB
    s) :
    Frame (fun _ => True) (fun _ => True) sB (s.doReset kind cause) := by
  have h1 : Frame (fun _ => True) (fun _ => True) sB ((s.blocksReset kind).keepLatch s kind cause) := by
    repeat' first
      | exact trivial | exact fun _ => trivial | with_reducible assumption | lift_lets
      | with_reducible apply State.wrN_frame | with_reducible apply State.setFld_frame
      | with_reducible apply State.bump_frame | with_reducible apply State.emit_frame
      | with_reducible apply State.driveErrn_frame | with_reducible apply State.blocksReset_frame
      | with_reducible apply State.keepLatch_frame | with_reducible apply Frame.ite
  unfold State.doReset
  dsimp only
  generalize (s.blocksReset kind).keepLatch s kind cause = t at *
  generalize (if kind = 1 then 0 else s.rdN Reg.CLK_STATUS / 65536 * 65536) + (if kind = 3 then s.fld Reg.CLK_STATUS 1 0 else 0) = n
  repeat' first
    | exact trivial | exact fun _ => trivial | with_reducible assumption | lift_lets
    | with_reducible apply State.wrN_frame | with_reducible apply State.setFld_frame
    | with_reducible apply State.bump_frame | with_reducible apply State.emit_frame
    | with_reducible apply State.driveErrn_frame | with_reducible apply State.blocksReset_frame
    | with_reducible apply State.keepLatch_frame | with_reducible apply Frame.ite

theorem execPowerOnReset_frame {sB : State} (ref50 modesel torn : Bool) (s : State)
    (hB : Frame (fun _ => True) (fun _ => True) sB s) :
    FrameO (fun _ => True) (fun _ => True) sB (execPowerOnReset ref50 modesel torn s) := by
  delta execPowerOnReset
  repeat' first
    | exact trivial | with_reducible assumption | lift_lets | with_reducible apply FrameO.next
    | with_reducible apply State.setFlag_frame | with_reducible apply State.doReset_frame | split
    | with_reducible refine Frame.mk' ?_ rfl

theorem execPllLockDeclared_frame {sB : State} (s : State) (hB : Frame F R sB s) (f_clk : F .clk)
    (r_CLK_PLL_STATE : ∀ i, R (Reg.CLK_PLL_STATE i)) (r_CLK_STATUS : R Reg.CLK_STATUS) :
    FrameO F R sB (execPllLockDeclared s) := by
  delta execPllLockDeclared
  repeat' first
    | with_reducible assumption | lift_lets
    | (intro x; refine (fun (hx : Frame F R sB x) => ?_) ?_ <;> [clear_value x; subst x])
    | with_reducible apply FrameO.next | with_reducible apply State.setFlag_frame
    | with_reducible apply r_CLK_PLL_STATE | (intro x; clear_value x) | with_reducible apply FrameO.ite
    | with_reducible refine Frame.mk' ?_ rfl

theorem execPllLockLost_frame {sB : State} (p : Fin 10) (s : State) (hB : Frame F R sB s) (f_host : F .host)
    (f_flt : F .flt) (f_hwd : F .hwd) (r_CLK_EVENTS : R Reg.CLK_EVENTS)
    (r_CLK_PLL_STATE : ∀ i, R (Reg.CLK_PLL_STATE i)) (r_CLK_STATUS : R Reg.CLK_STATUS) :
    FrameO F R sB (execPllLockLost p s) := by
  delta execPllLockLost
  repeat' first
    | with_reducible assumption | lift_lets
    | (intro x; refine (fun (hx : Frame F R sB x) => ?_) ?_ <;> [clear_value x; subst x])
    | with_reducible apply FrameO.next | with_reducible apply State.setFlag_frame
    | with_reducible apply State.fault_frame | with_reducible apply State.event_frame
    | with_reducible apply State.raiseBit_frame | with_reducible apply State.lockBit_frame
    | with_reducible apply r_CLK_PLL_STATE | with_reducible apply Frame.ite | with_reducible apply FrameO.ite

theorem execClockFailure_frame {sB : State} (s : State) (hB : Frame (fun _ => True) (fun _ => True) sB s) :
    FrameO (fun _ => True) (fun _ => True) sB (execClockFailure s) := by
  delta execClockFailure
  repeat' first
    | with_reducible assumption | lift_lets | with_reducible apply FrameO.next
    | with_reducible apply State.doReset_frame | with_reducible apply FrameO.ite

theorem execSramWipeDone_frame {sB : State} (s : State) (hB : Frame F R sB s) (f_out : F .out) (f_clk : F .clk) :
    FrameO F R sB (execSramWipeDone s) := by
  delta execSramWipeDone
  repeat' first
    | with_reducible assumption | lift_lets | with_reducible apply FrameO.next
    | with_reducible apply State.driveErrn_frame | (intro x; clear_value x) | with_reducible apply FrameO.ite
    | with_reducible refine Frame.mk' ?_ rfl

theorem State.resetRequest_frame {sB : State} (s : State) (kind : Nat) (w : Writer) (now : Bool)
    (hB : Frame (fun _ => True) (fun _ => True) sB s) :
    Frame (fun _ => True) (fun _ => True) sB (State.resetRequest s kind w now) := by
  delta State.resetRequest
  repeat' first
    | exact trivial | exact fun _ => trivial | with_reducible assumption | lift_lets
    | with_reducible apply State.raiseBit_frame | with_reducible apply State.decideSafe_frame
    | with_reducible apply State.startWait_frame | with_reducible apply State.doReset_frame | (intro x; clear_value x)
    | with_reducible apply Frame.ite

theorem effRstChip_frame {sB : State} (w : Writer) (now : Bool) (s : State)
    (hB : Frame (fun _ => True) (fun _ => True) sB s) :
    FrameO (fun _ => True) (fun _ => True) sB (effRstChip w now s) := by
  delta effRstChip
  repeat' first
    | with_reducible assumption | lift_lets | with_reducible apply FrameO.next
    | with_reducible apply State.resetRequest_frame

theorem effRstCore_frame {sB : State} (w : Writer) (now : Bool) (s : State)
    (hB : Frame (fun _ => True) (fun _ => True) sB s) :
    FrameO (fun _ => True) (fun _ => True) sB (effRstCore w now s) := by
  delta effRstCore
  repeat' first
    | with_reducible assumption | lift_lets | with_reducible apply FrameO.next
    | with_reducible apply State.resetRequest_frame

theorem State.resetWaitEnd_frame {sB : State} (s : State) (hB : Frame (fun _ => True) (fun _ => True) sB s) :
    Frame (fun _ => True) (fun _ => True) sB (State.resetWaitEnd s) := by
  delta State.resetWaitEnd
  repeat' first
    | exact trivial | exact fun _ => trivial | with_reducible assumption | lift_lets
    | (intro x; refine (fun (hx : Frame (fun _ => True) (fun _ => True) sB x) => ?_) ?_ <;> [clear_value x; subst x])
    | with_reducible apply State.wrN_frame | with_reducible apply State.event_frame
    | with_reducible apply State.hwdFlush_frame | with_reducible apply State.doReset_frame | (intro x; clear_value x)
    | with_reducible apply Frame.ite | split

theorem effChipResetWaitEnd_frame {sB : State} (s : State) (hB : Frame (fun _ => True) (fun _ => True) sB s) :
    FrameO (fun _ => True) (fun _ => True) sB (effChipResetWaitEnd s) := by
  delta effChipResetWaitEnd
  repeat' first
    | with_reducible assumption | lift_lets | with_reducible apply FrameO.next
    | with_reducible apply State.resetWaitEnd_frame

theorem State.thawRestart_frame {sB : State} (s0 : State) (hB : Frame (fun _ => True) (fun _ => True) sB s0) :
    Frame (fun _ => True) (fun _ => True) sB (State.thawRestart s0) := by
  delta State.thawRestart
  repeat' first
    | exact trivial | exact fun _ => trivial | with_reducible assumption | lift_lets
    | (intro x; refine (fun (hx : Frame (fun _ => True) (fun _ => True) sB x) => ?_) ?_ <;> [clear_value x; subst x])
    | with_reducible apply State.bump_frame | with_reducible apply State.event_frame
    | with_reducible apply State.compareThermal_frame | with_reducible apply State.hwdFlush_frame
    | with_reducible apply State.doReset_frame | (intro x; clear_value x) | with_reducible apply Frame.ite

theorem effThawRestart_frame {sB : State} (s : State) (hB : Frame (fun _ => True) (fun _ => True) sB s) :
    FrameO (fun _ => True) (fun _ => True) sB (effThawRestart s) := by
  delta effThawRestart
  repeat' first
    | with_reducible assumption | lift_lets | with_reducible apply FrameO.next
    | with_reducible apply State.thawRestart_frame

theorem State.wdtKick_frame {sB : State} (s : State) (hB : Frame F R sB s) (f_clk : F .clk) :
    Frame F R sB (State.wdtKick s) := by
  delta State.wdtKick
  repeat' first
    | with_reducible assumption | lift_lets | (intro x; clear_value x) | with_reducible refine Frame.mk' ?_ rfl

theorem execWdtKick_frame {sB : State} (s : State) (hB : Frame F R sB s) (f_clk : F .clk) :
    FrameO F R sB (execWdtKick s) := by
  delta execWdtKick
  repeat' first
    | with_reducible assumption | lift_lets | with_reducible apply FrameO.next
    | with_reducible apply State.wdtKick_frame

theorem State.watchdog_frame {sB : State} (s : State) (hB : Frame F R sB s) (f_fresh : F .fresh) (f_out : F .out)
    (f_host : F .host) (f_alm : F .alm) (f_ledg : F .ledg) (f_pace : F .pace) (f_flt : F .flt) (f_hwd : F .hwd)
    (f_burl : F .burl) (f_scan : F .scan) (f_beam : F .beam) (f_step : F .step) (f_axis : F .axis) (f_loop : F .loop)
    (f_clk : F .clk) (f_leg : F .leg) (r_ALM_EVENTS : R Reg.ALM_EVENTS) (r_ALM_REQ_RESULT : R Reg.ALM_REQ_RESULT)
    (r_ALM_STATUS : R Reg.ALM_STATUS) (r_BEAM_STATUS : R Reg.BEAM_STATUS)
    (r_BEAM_STN_STATE : ∀ i, R (Reg.BEAM_STN_STATE i)) (r_FLT_EVENTS : R Reg.FLT_EVENTS)
    (r_FLT_RESULT : R Reg.FLT_RESULT) (r_FLT_SAFE_CAUSE : R Reg.FLT_SAFE_CAUSE) (r_FLT_SAFE_SRC : R Reg.FLT_SAFE_SRC)
    (r_FLT_SAFE_TICK_HI : R Reg.FLT_SAFE_TICK_HI) (r_FLT_SAFE_TICK_LO : R Reg.FLT_SAFE_TICK_LO)
    (r_FLT_STATUS : R Reg.FLT_STATUS) (r_HOST_ERR : R Reg.HOST_ERR) (r_LEDG_BH_STATUS : R Reg.LEDG_BH_STATUS)
    (r_LEDG_COUNT_JAM : R Reg.LEDG_COUNT_JAM) (r_LEDG_EVENTS : R Reg.LEDG_EVENTS)
    (r_LEDG_PACE_EVENTS : R Reg.LEDG_PACE_EVENTS) (r_LEDG_STATUS : R Reg.LEDG_STATUS)
    (r_LEG_STATUS : R Reg.LEG_STATUS) (r_LOOP_EVENTS : R Reg.LOOP_EVENTS)
    (r_LOOP_LP_DUTY : ∀ i, R (Reg.LOOP_LP_DUTY i)) (r_LOOP_LP_STATE : ∀ i, R (Reg.LOOP_LP_STATE i)) :
    Frame F R sB (State.watchdog s) := by
  delta State.watchdog
  repeat' first
    | with_reducible assumption | lift_lets
    | (intro x; refine (fun (hx : Frame F R sB x) => ?_) ?_ <;> [clear_value x; subst x])
    | with_reducible apply State.event_frame | with_reducible apply State.decideSafe_frame
    | with_reducible apply State.startWait_frame | with_reducible apply State.wdtKick_frame
    | with_reducible apply Frame.ite

theorem effWatchdogExpiry_frame {sB : State} (s : State) (hB : Frame F R sB s) (f_fresh : F .fresh) (f_out : F .out)
    (f_host : F .host) (f_alm : F .alm) (f_ledg : F .ledg) (f_pace : F .pace) (f_flt : F .flt) (f_hwd : F .hwd)
    (f_burl : F .burl) (f_scan : F .scan) (f_beam : F .beam) (f_step : F .step) (f_axis : F .axis) (f_loop : F .loop)
    (f_clk : F .clk) (f_leg : F .leg) (r_ALM_EVENTS : R Reg.ALM_EVENTS) (r_ALM_REQ_RESULT : R Reg.ALM_REQ_RESULT)
    (r_ALM_STATUS : R Reg.ALM_STATUS) (r_BEAM_STATUS : R Reg.BEAM_STATUS)
    (r_BEAM_STN_STATE : ∀ i, R (Reg.BEAM_STN_STATE i)) (r_FLT_EVENTS : R Reg.FLT_EVENTS)
    (r_FLT_RESULT : R Reg.FLT_RESULT) (r_FLT_SAFE_CAUSE : R Reg.FLT_SAFE_CAUSE) (r_FLT_SAFE_SRC : R Reg.FLT_SAFE_SRC)
    (r_FLT_SAFE_TICK_HI : R Reg.FLT_SAFE_TICK_HI) (r_FLT_SAFE_TICK_LO : R Reg.FLT_SAFE_TICK_LO)
    (r_FLT_STATUS : R Reg.FLT_STATUS) (r_HOST_ERR : R Reg.HOST_ERR) (r_LEDG_BH_STATUS : R Reg.LEDG_BH_STATUS)
    (r_LEDG_COUNT_JAM : R Reg.LEDG_COUNT_JAM) (r_LEDG_EVENTS : R Reg.LEDG_EVENTS)
    (r_LEDG_PACE_EVENTS : R Reg.LEDG_PACE_EVENTS) (r_LEDG_STATUS : R Reg.LEDG_STATUS)
    (r_LEG_STATUS : R Reg.LEG_STATUS) (r_LOOP_EVENTS : R Reg.LOOP_EVENTS)
    (r_LOOP_LP_DUTY : ∀ i, R (Reg.LOOP_LP_DUTY i)) (r_LOOP_LP_STATE : ∀ i, R (Reg.LOOP_LP_STATE i)) :
    FrameO F R sB (effWatchdogExpiry s) := by
  delta effWatchdogExpiry
  repeat' first
    | with_reducible assumption | lift_lets | with_reducible apply FrameO.next
    | with_reducible apply State.watchdog_frame

theorem State.accept_frame {sB : State} (s : State) (v : Nat) (hB : Frame F R sB s) (f_host : F .host)
    (f_hwd : F .hwd) (f_lcs : F .lcs) (r_LCS_ACCEPT_RESULT : R Reg.LCS_ACCEPT_RESULT)
    (r_LCS_EVENTS : R Reg.LCS_EVENTS) (r_LCS_STATUS : R Reg.LCS_STATUS) :
    Frame F R sB (State.accept s v) := by
  delta State.accept
  repeat' first
    | with_reducible assumption | lift_lets
    | (intro x; refine (fun (hx : Frame F R sB x) => ?_) ?_ <;> [skip; subst x])
    | with_reducible apply State.setFld_frame | with_reducible apply State.setFlag_frame
    | with_reducible apply State.event_frame | with_reducible apply State.raiseBit_frame | intro (x : LcsBlk)
    | intro _ | with_reducible apply Frame.ite | refine Frame.mk' ?_ rfl

theorem execAccept_frame {sB : State} (v : Word) (s : State) (hB : Frame F R sB s) (f_host : F .host) (f_hwd : F .hwd)
    (f_lcs : F .lcs) (r_LCS_ACCEPT_RESULT : R Reg.LCS_ACCEPT_RESULT) (r_LCS_EVENTS : R Reg.LCS_EVENTS)
    (r_LCS_STATUS : R Reg.LCS_STATUS) :
    FrameO F R sB (execAccept v s) := by
  delta execAccept
  repeat' first
    | with_reducible assumption | lift_lets | with_reducible apply FrameO.next
    | with_reducible apply State.accept_frame

theorem State.transition_frame {sB : State} (s : State) (target confirm : Nat) (hB : Frame F R sB s)
    (f_host : F .host) (f_flt : F .flt) (f_lcs : F .lcs) (r_LCS_EVENTS : R Reg.LCS_EVENTS)
    (r_LCS_STATUS : R Reg.LCS_STATUS) (r_LCS_TRANS_RESULT : R Reg.LCS_TRANS_RESULT) :
    Frame F R sB (State.transition s target confirm) := by
  delta State.transition
  repeat' first
    | with_reducible assumption | lift_lets
    | (intro x; refine (fun (hx : Frame F R sB x) => ?_) ?_ <;> [skip; subst x])
    | with_reducible apply State.setFld_frame | with_reducible apply State.setFlag_frame
    | with_reducible apply State.raiseBit_frame | with_reducible apply State.reservedWrite_frame | intro (x : LcsBlk)
    | intro _ | with_reducible apply Frame.ite | refine Frame.mk' ?_ rfl

theorem execLifecycleTransition_frame {sB : State} (target : Fin 8) (confirm : Fin 65536) (s : State)
    (hB : Frame F R sB s) (f_host : F .host) (f_flt : F .flt) (f_lcs : F .lcs) (r_LCS_EVENTS : R Reg.LCS_EVENTS)
    (r_LCS_STATUS : R Reg.LCS_STATUS) (r_LCS_TRANS_RESULT : R Reg.LCS_TRANS_RESULT) :
    FrameO F R sB (execLifecycleTransition target confirm s) := by
  delta execLifecycleTransition
  repeat' first
    | with_reducible assumption | lift_lets | with_reducible apply FrameO.next
    | with_reducible apply State.transition_frame

/-- The end of a burn changes the fused life-cycle state and keeps the queue and the canonical forms. -/
theorem execFuseBurnDone_after (s t : State) (h : execFuseBurnDone s = .next t) :
    t.pending = s.pending ∧ (s.wf = true → t.wf = true) := by
  unfold execFuseBurnDone at h
  split at h
  · rename_i n m e
    injection h with h
    subst h
    have k := State.doReset_frame _ 2 8 (Frame.refl { s with lcs := { s.lcs with fused := n } })
    exact ⟨k.pending, k.wf⟩
  · injection h with h
    subst h
    exact ⟨rfl, id⟩

theorem State.otpProgram_frame {sB : State} (s : State) (field : Nat) (verifyOk : Bool) (hB : Frame F R sB s)
    (f_host : F .host) (f_flt : F .flt) (f_lcs : F .lcs) (r_LCS_EVENTS : R Reg.LCS_EVENTS)
    (r_LCS_OTP_RESULT : R Reg.LCS_OTP_RESULT) :
    Frame F R sB (State.otpProgram s field verifyOk) := by
  delta State.otpProgram
  repeat' first
    | with_reducible assumption | lift_lets | with_reducible apply State.setFld_frame
    | with_reducible apply State.raiseBit_frame | with_reducible apply State.reservedWrite_frame | intro (x : LcsBlk)
    | intro _ | with_reducible apply Frame.ite | refine Frame.mk' ?_ rfl

theorem execOtpProgram_frame {sB : State} (field : Fin 4) (verifyOk : Bool) (s : State) (hB : Frame F R sB s)
    (f_host : F .host) (f_flt : F .flt) (f_lcs : F .lcs) (r_LCS_EVENTS : R Reg.LCS_EVENTS)
    (r_LCS_OTP_RESULT : R Reg.LCS_OTP_RESULT) :
    FrameO F R sB (execOtpProgram field verifyOk s) := by
  delta execOtpProgram
  repeat' first
    | with_reducible assumption | lift_lets | with_reducible apply FrameO.next
    | with_reducible apply State.otpProgram_frame

theorem execVddio33Low_frame {sB : State} (s : State) (hB : Frame F R sB s) (f_out : F .out) (f_clk : F .clk)
    (r_BEAM_STATUS : R Reg.BEAM_STATUS) (r_BEAM_STN_STATE : ∀ i, R (Reg.BEAM_STN_STATE i)) :
    FrameO F R sB (execVddio33Low s) := by
  delta execVddio33Low
  repeat' first
    | with_reducible assumption | intro (u : State) (hu : Frame F R sB u) | lift_lets
    | with_reducible apply FrameO.next | with_reducible apply State.upTo_frame
    | with_reducible apply State.setLden_frame | intro _ | with_reducible apply Frame.ite
    | with_reducible refine Frame.mk' ?_ rfl

theorem execClkTickLoRead_frame {sB : State} (s : State) (hB : Frame F R sB s) (r_CLK_TICK_HI : R Reg.CLK_TICK_HI) :
    FrameO F R sB (execClkTickLoRead s) := by
  delta execClkTickLoRead
  repeat' first
    | with_reducible assumption | lift_lets | with_reducible apply FrameO.next | with_reducible apply State.wrN_frame

theorem execTapInstruction_frame {sB : State} (ir : Fin 256) (s : State) (hB : Frame F R sB s) (f_fresh : F .fresh)
    (f_clk : F .clk) :
    FrameO F R sB (execTapInstruction ir s) := by
  delta execTapInstruction
  repeat' first
    | with_reducible assumption | lift_lets
    | (intro x; refine (fun (hx : Frame F R sB x) => ?_) ?_ <;> [clear_value x; subst x])
    | with_reducible apply FrameO.next | with_reducible apply State.drawn_frame | (intro x; clear_value x)
    | with_reducible apply FrameO.ite | split | with_reducible refine Frame.mk' ?_ rfl

/-! ### Activation -/

theorem State.planChecked_frame {sB : State} (s : State) (i : Nat) (p : PlanNext) (hB : Frame F R sB s)
    (f_alm : F .alm) :
    Frame F R sB (State.planChecked s i p) := by
  delta State.planChecked
  repeat' first
    | with_reducible assumption | lift_lets | intro (x : AlmBlk) | with_reducible refine Frame.mk' ?_ rfl

theorem State.checkStation_frame {sB : State} (s : State) (i : Nat) (hB : Frame F R sB s) (f_host : F .host)
    (f_alm : F .alm) (f_flt : F .flt) (f_hwd : F .hwd) (f_scan : F .scan) (r_CLK_EVENTS : R Reg.CLK_EVENTS)
    (r_CLK_PLL_STATE : ∀ i, R (Reg.CLK_PLL_STATE i)) (r_CLK_STATUS : R Reg.CLK_STATUS)
    (r_SCAN_EVENTS : R Reg.SCAN_EVENTS) (r_SCAN_STATUS : R Reg.SCAN_STATUS)
    (r_SCAN_STN_NDIV : ∀ i, R (Reg.SCAN_STN_NDIV i)) (r_SCAN_STN_PIXNOW : ∀ i, R (Reg.SCAN_STN_PIXNOW i))
    (r_SCAN_STN_STATE : ∀ i, R (Reg.SCAN_STN_STATE i)) :
    Frame F R sB (State.checkStation s i) := by
  delta State.checkStation
  repeat' first
    | with_reducible assumption | lift_lets | with_reducible apply State.modStn_frame
    | with_reducible apply State.volumeCheck_frame | with_reducible apply State.planChecked_frame
    | (intro x; clear_value x) | split

theorem State.activationChecks_frame {sB : State} (s : State) (m : Memory) (g : Nat) (hB : Frame F R sB s)
    (f_host : F .host) (f_alm : F .alm) (f_flt : F .flt) (f_hwd : F .hwd) (f_scan : F .scan)
    (r_CLK_EVENTS : R Reg.CLK_EVENTS) (r_CLK_PLL_STATE : ∀ i, R (Reg.CLK_PLL_STATE i))
    (r_CLK_STATUS : R Reg.CLK_STATUS) (r_LEDG_BH_STATUS : R Reg.LEDG_BH_STATUS)
    (r_LEDG_PACE_EVENTS : R Reg.LEDG_PACE_EVENTS) (r_LEDG_PACE_STATUS : R Reg.LEDG_PACE_STATUS)
    (r_LEDG_PACE_STN_ARR : ∀ i, R (Reg.LEDG_PACE_STN_ARR i)) (r_LEDG_PACE_STN_CON : ∀ i, R (Reg.LEDG_PACE_STN_CON i))
    (r_SCAN_EVENTS : R Reg.SCAN_EVENTS) (r_SCAN_STATUS : R Reg.SCAN_STATUS)
    (r_SCAN_STN_NDIV : ∀ i, R (Reg.SCAN_STN_NDIV i)) (r_SCAN_STN_PIXNOW : ∀ i, R (Reg.SCAN_STN_PIXNOW i))
    (r_SCAN_STN_STATE : ∀ i, R (Reg.SCAN_STN_STATE i)) :
    Frame F R sB (State.activationChecks s m g) := by
  delta State.activationChecks
  repeat' first
    | with_reducible assumption | intro (u : State) (hu : Frame F R sB u) | lift_lets
    | (intro x; refine (fun (hx : Frame F R sB x) => ?_) ?_ <;> [clear_value x; subst x])
    | with_reducible apply State.wr_frame | with_reducible apply State.setFld_frame
    | with_reducible apply State.upTo_frame | with_reducible apply State.paceConfigCheck_frame
    | with_reducible apply State.bhConfigCheck_frame | with_reducible apply State.checkStation_frame
    | with_reducible apply r_LEDG_PACE_STN_ARR | with_reducible apply r_LEDG_PACE_STN_CON | intro _
    | with_reducible apply Frame.ite

theorem effFirstActivation_frame {sB : State} (s : State) (hB : Frame F R sB s) (f_host : F .host) (f_alm : F .alm)
    (f_pace : F .pace) (f_flt : F .flt) (f_hwd : F .hwd) (f_scan : F .scan) (r_ALM_EVENTS : R Reg.ALM_EVENTS)
    (r_ALM_REQ_RESULT : R Reg.ALM_REQ_RESULT) (r_ALM_STATUS : R Reg.ALM_STATUS) (r_CLK_EVENTS : R Reg.CLK_EVENTS)
    (r_CLK_PLL_STATE : ∀ i, R (Reg.CLK_PLL_STATE i)) (r_CLK_STATUS : R Reg.CLK_STATUS)
    (r_LEDG_BH_STATUS : R Reg.LEDG_BH_STATUS) (r_LEDG_PACE_EVENTS : R Reg.LEDG_PACE_EVENTS)
    (r_LEDG_PACE_STATUS : R Reg.LEDG_PACE_STATUS) (r_LEDG_PACE_STN_ARR : ∀ i, R (Reg.LEDG_PACE_STN_ARR i))
    (r_LEDG_PACE_STN_CON : ∀ i, R (Reg.LEDG_PACE_STN_CON i)) (r_SCAN_EVENTS : R Reg.SCAN_EVENTS)
    (r_SCAN_STATUS : R Reg.SCAN_STATUS) (r_SCAN_STN_NDIV : ∀ i, R (Reg.SCAN_STN_NDIV i))
    (r_SCAN_STN_PIXNOW : ∀ i, R (Reg.SCAN_STN_PIXNOW i)) (r_SCAN_STN_STATE : ∀ i, R (Reg.SCAN_STN_STATE i)) :
    FrameO F R sB (effFirstActivation s) := by
  delta effFirstActivation
  repeat' first
    | with_reducible assumption | lift_lets
    | (intro x; refine (fun (hx : Frame F R sB x) => ?_) ?_ <;> [clear_value x; subst x])
    | with_reducible apply FrameO.next | with_reducible apply State.setFlag_frame
    | with_reducible apply State.event_frame | with_reducible apply State.raiseBit_frame
    | with_reducible apply State.almResult_frame | with_reducible apply State.planAll_frame
    | with_reducible apply State.activationChecks_frame | intro (x : AlmBlk) | (intro x; clear_value x)
    | with_reducible apply FrameO.ite | with_reducible refine Frame.mk' ?_ rfl

/-! ### Tables -/

theorem State.refuseTable_frame {sB : State} (s : State) (it : Item) (detail r b : Nat) (hB : Frame F R sB s)
    (f_fresh : F .fresh) (f_host : F .host) (f_hwd : F .hwd) (r_HOST_ERR : R Reg.HOST_ERR) (hr : R r) :
    Frame F R sB (State.refuseTable s it detail r b) := by
  delta State.refuseTable
  repeat' first
    | with_reducible assumption | lift_lets | with_reducible apply State.raiseBit_frame
    | with_reducible apply State.complete_frame

theorem State.writeTable_frame {sB : State} (s : State) (it : Item) (hB : Frame F R sB s) (f_fresh : F .fresh)
    (f_sram : F .sram) (f_host : F .host) (f_hwd : F .hwd) (r_HOST_ERR : R Reg.HOST_ERR) :
    Frame F R sB (State.writeTable s it) := by
  delta State.writeTable
  repeat' first
    | with_reducible assumption | lift_lets | with_reducible apply State.complete_frame | refine Frame.mem ?_ rfl

theorem State.tableItem_frame {sB : State} (s : State) (it : Item) (hB : Frame F R sB s) (f_fresh : F .fresh)
    (f_out : F .out) (f_sram : F .sram) (f_host : F .host) (f_hwd : F .hwd) (f_beam : F .beam)
    (r_AXIS_EVENTS : R Reg.AXIS_EVENTS) (r_BEAM_EVENTS : R Reg.BEAM_EVENTS)
    (r_BEAM_STN_MAP_VALID : ∀ i, R (Reg.BEAM_STN_MAP_VALID i)) (r_BEAM_STN_STATE : ∀ i, R (Reg.BEAM_STN_STATE i))
    (r_HOST_ERR : R Reg.HOST_ERR) (r_LOOP_EVENTS : R Reg.LOOP_EVENTS) (r_STEP_EVENTS : R Reg.STEP_EVENTS) :
    Frame F R sB (State.tableItem s it) := by
  delta State.tableItem
  repeat' first
    | with_reducible assumption | lift_lets | with_reducible apply State.complete_frame
    | with_reducible apply State.beamTableItem_frame | with_reducible apply State.refuseTable_frame
    | with_reducible apply State.writeTable_frame | (intro x; clear_value x) | with_reducible apply Frame.ite | split

theorem execTableItem_frame {sB : State} (s : State) (hB : Frame F R sB s) (f_fresh : F .fresh) (f_out : F .out)
    (f_sram : F .sram) (f_host : F .host) (f_hwd : F .hwd) (f_beam : F .beam) (r_AXIS_EVENTS : R Reg.AXIS_EVENTS)
    (r_BEAM_EVENTS : R Reg.BEAM_EVENTS) (r_BEAM_STN_MAP_VALID : ∀ i, R (Reg.BEAM_STN_MAP_VALID i))
    (r_BEAM_STN_STATE : ∀ i, R (Reg.BEAM_STN_STATE i)) (r_HOST_ERR : R Reg.HOST_ERR)
    (r_LOOP_EVENTS : R Reg.LOOP_EVENTS) (r_STEP_EVENTS : R Reg.STEP_EVENTS) :
    FrameO F R sB (execTableItem s) := by
  delta execTableItem
  repeat' first
    | with_reducible assumption | lift_lets | with_reducible apply FrameO.next
    | with_reducible apply State.takeItem_frame | with_reducible apply State.tableItem_frame
    | (intro x; clear_value x) | split

theorem State.bar1Store_frame {sB : State} (s : State) (o : Nat) (bs : List Byte) (hB : Frame F R sB s)
    (f_out : F .out) (f_sram : F .sram) (f_host : F .host) (f_alm : F .alm) (f_flt : F .flt) (f_hwd : F .hwd)
    (f_beam : F .beam) (r_ALM_EVENTS : R Reg.ALM_EVENTS) (r_ALM_REQ_RESULT : R Reg.ALM_REQ_RESULT)
    (r_ALM_SB_BUILD_ID : R Reg.ALM_SB_BUILD_ID) (r_ALM_SB_ENGINE_ID : R Reg.ALM_SB_ENGINE_ID)
    (r_ALM_SB_MASKS : R Reg.ALM_SB_MASKS) (r_ALM_SB_STATE : R Reg.ALM_SB_STATE) (r_ALM_STATUS : R Reg.ALM_STATUS)
    (r_BEAM_STN_MAP_VALID : ∀ i, R (Reg.BEAM_STN_MAP_VALID i)) (r_BEAM_STN_STATE : ∀ i, R (Reg.BEAM_STN_STATE i)) :
    Frame F R sB (State.bar1Store s o bs) := by
  delta State.bar1Store
  repeat' first
    | with_reducible assumption | with_reducible apply State.bar1Almanac_frame
    | with_reducible apply State.beamBarWrite_frame | split | refine Frame.mem ?_ rfl

theorem State.bar1Write_frame {sB : State} (s : State) (o : Nat) (bs : List Byte) (hB : Frame F R sB s)
    (f_out : F .out) (f_sram : F .sram) (f_host : F .host) (f_alm : F .alm) (f_flt : F .flt) (f_hwd : F .hwd)
    (f_beam : F .beam) (r_ALM_EVENTS : R Reg.ALM_EVENTS) (r_ALM_REQ_RESULT : R Reg.ALM_REQ_RESULT)
    (r_ALM_SB_BUILD_ID : R Reg.ALM_SB_BUILD_ID) (r_ALM_SB_ENGINE_ID : R Reg.ALM_SB_ENGINE_ID)
    (r_ALM_SB_MASKS : R Reg.ALM_SB_MASKS) (r_ALM_SB_STATE : R Reg.ALM_SB_STATE) (r_ALM_STATUS : R Reg.ALM_STATUS)
    (r_BEAM_STN_MAP_VALID : ∀ i, R (Reg.BEAM_STN_MAP_VALID i)) (r_BEAM_STN_STATE : ∀ i, R (Reg.BEAM_STN_STATE i))
    (r_HOST_ERR : R Reg.HOST_ERR) (r_HOST_ERR_ADDR : R Reg.HOST_ERR_ADDR) :
    Frame F R sB (State.bar1Write s o bs) := by
  delta State.bar1Write
  repeat' first
    | with_reducible assumption | lift_lets | with_reducible apply State.discarded_frame
    | with_reducible apply State.bar1Store_frame | with_reducible apply Frame.ite

theorem execBar1Write_frame {sB : State} (w : Writer) (o : Nat) (bs : List Byte) (s : State) (hB : Frame F R sB s)
    (f_out : F .out) (f_sram : F .sram) (f_host : F .host) (f_alm : F .alm) (f_flt : F .flt) (f_hwd : F .hwd)
    (f_beam : F .beam) (r_ALM_EVENTS : R Reg.ALM_EVENTS) (r_ALM_REQ_RESULT : R Reg.ALM_REQ_RESULT)
    (r_ALM_SB_BUILD_ID : R Reg.ALM_SB_BUILD_ID) (r_ALM_SB_ENGINE_ID : R Reg.ALM_SB_ENGINE_ID)
    (r_ALM_SB_MASKS : R Reg.ALM_SB_MASKS) (r_ALM_SB_STATE : R Reg.ALM_SB_STATE) (r_ALM_STATUS : R Reg.ALM_STATUS)
    (r_BEAM_STN_MAP_VALID : ∀ i, R (Reg.BEAM_STN_MAP_VALID i)) (r_BEAM_STN_STATE : ∀ i, R (Reg.BEAM_STN_STATE i))
    (r_HOST_ERR : R Reg.HOST_ERR) (r_HOST_ERR_ADDR : R Reg.HOST_ERR_ADDR) :
    FrameO F R sB (execBar1Write w o bs s) := by
  delta execBar1Write
  repeat' first
    | with_reducible assumption | with_reducible exact FrameO.fault _ | lift_lets | with_reducible apply FrameO.next
    | with_reducible apply State.bar1Write_frame | with_reducible apply FrameO.ite

/-! ### Dram -/

theorem State.requestRetrain_frame {sB : State} (s : State) (hB : Frame F R sB s) (f_dram : F .dram)
    (r_DRAM_STATUS : R Reg.DRAM_STATUS) :
    Frame F R sB (State.requestRetrain s) := by
  delta State.requestRetrain
  repeat' first
    | with_reducible assumption | lift_lets | with_reducible apply State.setFlag_frame
    | with_reducible refine Frame.mk' ?_ rfl

theorem execRetrain_frame {sB : State} (s : State) (hB : Frame F R sB s) (f_dram : F .dram)
    (r_DRAM_STATUS : R Reg.DRAM_STATUS) :
    FrameO F R sB (execRetrain s) := by
  delta execRetrain
  repeat' first
    | with_reducible assumption | lift_lets | with_reducible apply FrameO.next
    | with_reducible apply State.requestRetrain_frame

theorem State.trainFailed_frame {sB : State} (s : State) (c0 c1 : Nat) (hB : Frame F R sB s) (f_host : F .host)
    (f_flt : F .flt) (f_hwd : F .hwd) (r_DRAM_EVENTS : R Reg.DRAM_EVENTS) (r_DRAM_STATUS : R Reg.DRAM_STATUS) :
    Frame F R sB (State.trainFailed s c0 c1) := by
  delta State.trainFailed
  repeat' first
    | with_reducible assumption | lift_lets
    | (intro x; refine (fun (hx : Frame F R sB x) => ?_) ?_ <;> [clear_value x; subst x])
    | with_reducible apply State.setFlag_frame | with_reducible apply State.fault_frame
    | with_reducible apply State.event_frame | with_reducible apply State.raiseBit_frame
    | with_reducible apply Frame.ite

theorem State.startTraining_frame {sB : State} (s : State) (hB : Frame F R sB s) (f_fresh : F .fresh)
    (f_host : F .host) (f_flt : F .flt) (f_hwd : F .hwd) (f_dram : F .dram) (r_CLK_EVENTS : R Reg.CLK_EVENTS)
    (r_CLK_PLL_STATE : ∀ i, R (Reg.CLK_PLL_STATE i)) (r_CLK_STATUS : R Reg.CLK_STATUS)
    (r_DRAM_EVENTS : R Reg.DRAM_EVENTS) (r_DRAM_FRAMES_FREE : R Reg.DRAM_FRAMES_FREE)
    (r_DRAM_FRAMES_TOTAL : R Reg.DRAM_FRAMES_TOTAL) (r_DRAM_PS_HELD : ∀ i, R (Reg.DRAM_PS_HELD i))
    (r_DRAM_STATUS : R Reg.DRAM_STATUS) (r_DRAM_TRAIN_RESULT : R Reg.DRAM_TRAIN_RESULT)
    (r_DRAM_WIPE_POS : R Reg.DRAM_WIPE_POS) :
    Frame F R sB (State.startTraining s) := by
  delta State.startTraining
  repeat' first
    | with_reducible assumption | intro (u : State) (hu : Frame F R sB u) | lift_lets
    | (intro x; refine (fun (hx : Frame F R sB x) => ?_) ?_ <;> [clear_value x; subst x])
    | with_reducible apply State.wrN_frame | with_reducible apply State.setFld_frame
    | with_reducible apply State.setFlag_frame | with_reducible apply State.drawn_frame
    | with_reducible apply State.startPll_frame | with_reducible apply State.trainFailed_frame
    | with_reducible apply r_DRAM_PS_HELD | with_reducible apply Frame.foldl | (intro x; clear_value x) | intro _
    | with_reducible apply Frame.ite | with_reducible refine Frame.mk' ?_ rfl

theorem execTrainingStart_frame {sB : State} (org : Option (Fin 16)) (bands : List Word) (s : State)
    (hB : Frame F R sB s) (f_fresh : F .fresh) (f_host : F .host) (f_flt : F .flt) (f_hwd : F .hwd) (f_dram : F .dram)
    (f_lcs : F .lcs) (r_CLK_BAND_b : ∀ i j, R (Reg.CLK_BAND_b i j)) (r_CLK_EVENTS : R Reg.CLK_EVENTS)
    (r_CLK_PLL_STATE : ∀ i, R (Reg.CLK_PLL_STATE i)) (r_CLK_STATUS : R Reg.CLK_STATUS)
    (r_DRAM_EVENTS : R Reg.DRAM_EVENTS) (r_DRAM_FRAMES_FREE : R Reg.DRAM_FRAMES_FREE)
    (r_DRAM_FRAMES_TOTAL : R Reg.DRAM_FRAMES_TOTAL) (r_DRAM_ORG : R Reg.DRAM_ORG)
    (r_DRAM_PS_HELD : ∀ i, R (Reg.DRAM_PS_HELD i)) (r_DRAM_STATUS : R Reg.DRAM_STATUS)
    (r_DRAM_TRAIN_RESULT : R Reg.DRAM_TRAIN_RESULT) (r_DRAM_WIPE_POS : R Reg.DRAM_WIPE_POS) :
    FrameO F R sB (execTrainingStart org bands s) := by
  delta execTrainingStart
  repeat' first
    | with_reducible assumption | intro (u : State) (hu : Frame F R sB u) | lift_lets
    | (intro x; refine (fun (hx : Frame F R sB x) => ?_) ?_ <;> [clear_value x; subst x])
    | with_reducible apply FrameO.next | with_reducible apply State.wr_frame | with_reducible apply State.wrN_frame
    | with_reducible apply State.startTraining_frame | with_reducible apply r_CLK_BAND_b
    | with_reducible apply Frame.foldl | intro (x : LcsBlk) | intro _ | with_reducible apply Frame.ite
    | with_reducible apply FrameO.ite | split | with_reducible refine Frame.mk' ?_ rfl

theorem State.requestTraining_frame {sB : State} (s : State) (hB : Frame F R sB s) (f_fresh : F .fresh)
    (f_host : F .host) (f_flt : F .flt) (f_hwd : F .hwd) (f_dram : F .dram) (r_CLK_EVENTS : R Reg.CLK_EVENTS)
    (r_CLK_PLL_STATE : ∀ i, R (Reg.CLK_PLL_STATE i)) (r_CLK_STATUS : R Reg.CLK_STATUS)
    (r_DRAM_EVENTS : R Reg.DRAM_EVENTS) (r_DRAM_FRAMES_FREE : R Reg.DRAM_FRAMES_FREE)
    (r_DRAM_FRAMES_TOTAL : R Reg.DRAM_FRAMES_TOTAL) (r_DRAM_PS_HELD : ∀ i, R (Reg.DRAM_PS_HELD i))
    (r_DRAM_STATUS : R Reg.DRAM_STATUS) (r_DRAM_TRAIN_RESULT : R Reg.DRAM_TRAIN_RESULT)
    (r_DRAM_WIPE_POS : R Reg.DRAM_WIPE_POS) :
    Frame F R sB (State.requestTraining s) := by
  delta State.requestTraining
  repeat' first
    | with_reducible assumption | lift_lets | with_reducible apply State.startTraining_frame
    | with_reducible apply Frame.ite

theorem execTrain_frame {sB : State} (s : State) (hB : Frame F R sB s) (f_fresh : F .fresh) (f_host : F .host)
    (f_flt : F .flt) (f_hwd : F .hwd) (f_dram : F .dram) (r_CLK_EVENTS : R Reg.CLK_EVENTS)
    (r_CLK_PLL_STATE : ∀ i, R (Reg.CLK_PLL_STATE i)) (r_CLK_STATUS : R Reg.CLK_STATUS)
    (r_DRAM_EVENTS : R Reg.DRAM_EVENTS) (r_DRAM_FRAMES_FREE : R Reg.DRAM_FRAMES_FREE)
    (r_DRAM_FRAMES_TOTAL : R Reg.DRAM_FRAMES_TOTAL) (r_DRAM_PS_HELD : ∀ i, R (Reg.DRAM_PS_HELD i))
    (r_DRAM_STATUS : R Reg.DRAM_STATUS) (r_DRAM_TRAIN_RESULT : R Reg.DRAM_TRAIN_RESULT)
    (r_DRAM_WIPE_POS : R Reg.DRAM_WIPE_POS) :
    FrameO F R sB (execTrain s) := by
  delta execTrain
  repeat' first
    | with_reducible assumption | lift_lets | with_reducible apply FrameO.next
    | with_reducible apply State.requestTraining_frame

theorem State.startWipe_frame {sB : State} (s : State) (hB : Frame F R sB s) (f_dma : F .dma)
    (r_DMA_CH_CFG : ∀ i, R (Reg.DMA_CH_CFG i)) (r_DMA_CH_STATE : ∀ i, R (Reg.DMA_CH_STATE i)) :
    Frame F R sB (State.startWipe s) := by
  delta State.startWipe
  repeat' first
    | with_reducible assumption | lift_lets | with_reducible apply State.setFld_frame
    | with_reducible apply State.setFlag_frame | with_reducible apply State.modDch_frame
    | with_reducible apply State.wipeChannel_frame | with_reducible apply r_DMA_CH_CFG

theorem State.trainPassed_frame {sB : State} (s : State) (temp : Int) (hB : Frame F R sB s) (f_host : F .host)
    (f_hwd : F .hwd) (f_dram : F .dram) (f_dma : F .dma) (r_DMA_CH_CFG : ∀ i, R (Reg.DMA_CH_CFG i))
    (r_DMA_CH_STATE : ∀ i, R (Reg.DMA_CH_STATE i)) (r_DRAM_EVENTS : R Reg.DRAM_EVENTS)
    (r_DRAM_FRAMES_TOTAL : R Reg.DRAM_FRAMES_TOTAL) (r_DRAM_STATUS : R Reg.DRAM_STATUS)
    (r_DRAM_TEMP : R Reg.DRAM_TEMP) :
    Frame F R sB (State.trainPassed s temp) := by
  delta State.trainPassed
  repeat' first
    | with_reducible assumption | lift_lets | with_reducible apply State.wrN_frame
    | with_reducible apply State.setFld_frame | with_reducible apply State.setFlag_frame
    | with_reducible apply State.event_frame | with_reducible apply State.raiseBit_frame
    | with_reducible apply State.startWipe_frame | with_reducible refine Frame.mk' ?_ rfl

theorem execTrainingDone_frame {sB : State} (c0 c1 : ChannelTraining) (temp : Int) (s : State)
    (hB : Frame F R sB s) (f_host : F .host) (f_flt : F .flt) (f_hwd : F .hwd) (f_dram : F .dram) (f_dma : F .dma)
    (r_DMA_CH_CFG : ∀ i, R (Reg.DMA_CH_CFG i)) (r_DMA_CH_STATE : ∀ i, R (Reg.DMA_CH_STATE i))
    (r_DRAM_EVENTS : R Reg.DRAM_EVENTS) (r_DRAM_FRAMES_TOTAL : R Reg.DRAM_FRAMES_TOTAL)
    (r_DRAM_STATUS : R Reg.DRAM_STATUS) (r_DRAM_TEMP : R Reg.DRAM_TEMP)
    (r_DRAM_TRAIN_RESULT : R Reg.DRAM_TRAIN_RESULT) :
    FrameO F R sB (execTrainingDone c0 c1 temp s) := by
  delta execTrainingDone
  repeat' first
    | with_reducible assumption | lift_lets
    | (intro x; refine (fun (hx : Frame F R sB x) => ?_) ?_ <;> [clear_value x; subst x])
    | with_reducible apply FrameO.next | with_reducible apply State.wrN_frame
    | with_reducible apply State.setFlag_frame | with_reducible apply State.trainFailed_frame
    | with_reducible apply State.trainPassed_frame | (intro x; clear_value x) | with_reducible apply Frame.ite
    | with_reducible apply FrameO.ite

theorem execDramTempRead_frame {sB : State} (phy warmest : Int) (hot : Bool) (s : State) (hB : Frame F R sB s)
    (f_host : F .host) (f_hwd : F .hwd) (f_dram : F .dram) (r_DRAM_EVENTS : R Reg.DRAM_EVENTS)
    (r_DRAM_STATUS : R Reg.DRAM_STATUS) (r_DRAM_TEMP : R Reg.DRAM_TEMP) :
    FrameO F R sB (execDramTempRead phy warmest hot s) := by
  delta execDramTempRead
  repeat' first
    | with_reducible assumption | lift_lets
    | (intro x; refine (fun (hx : Frame F R sB x) => ?_) ?_ <;> [clear_value x; subst x])
    | with_reducible apply FrameO.next | with_reducible apply State.setFld_frame
    | with_reducible apply State.setFlag_frame | with_reducible apply State.event_frame
    | with_reducible apply State.raiseBit_frame | (intro x; clear_value x) | with_reducible apply Frame.ite
    | with_reducible apply FrameO.ite | with_reducible refine Frame.mk' ?_ rfl

theorem execTracking_frame {sB : State} (s : State) (hB : Frame F R sB s) (f_dram : F .dram) :
    FrameO F R sB (execTracking s) := by
  delta execTracking
  repeat' first
    | with_reducible assumption | lift_lets | with_reducible apply FrameO.next | (intro x; clear_value x)
    | with_reducible apply FrameO.ite | with_reducible refine Frame.mk' ?_ rfl

theorem effGapRetrain_frame {sB : State} (s : State) (hB : Frame F R sB s) (f_hwd : F .hwd) (f_dram : F .dram)
    (r_DRAM_STATUS : R Reg.DRAM_STATUS) :
    FrameO F R sB (effGapRetrain s) := by
  delta effGapRetrain
  repeat' first
    | with_reducible assumption | lift_lets | with_reducible apply FrameO.next
    | with_reducible apply State.setFlag_frame | with_reducible apply State.event_frame | (intro x; clear_value x)
    | with_reducible apply FrameO.ite | with_reducible refine Frame.mk' ?_ rfl

theorem execGapRetrainDone_frame {sB : State} (s : State) (hB : Frame F R sB s) (f_host : F .host) (f_dram : F .dram)
    (r_DRAM_EVENTS : R Reg.DRAM_EVENTS) (r_DRAM_STATUS : R Reg.DRAM_STATUS) (r_DRAM_TEMP : R Reg.DRAM_TEMP) :
    FrameO F R sB (execGapRetrainDone s) := by
  delta execGapRetrainDone
  repeat' first
    | with_reducible assumption | lift_lets | with_reducible apply FrameO.next
    | with_reducible apply State.setFld_frame | with_reducible apply State.setFlag_frame
    | with_reducible apply State.raiseBit_frame | (intro x; clear_value x) | with_reducible apply FrameO.ite
    | with_reducible refine Frame.mk' ?_ rfl

theorem State.countMisses_frame {sB : State} (s : State) (now : Nat) (hB : Frame F R sB s) (f_dram : F .dram)
    (r_DRAM_PORT_MISS : ∀ i, R (Reg.DRAM_PORT_MISS i)) :
    Frame F R sB (State.countMisses s now) := by
  delta State.countMisses
  repeat' first
    | with_reducible assumption | intro (u : State) (hu : Frame F R sB u) | lift_lets
    | with_reducible apply State.bump_frame | with_reducible apply r_DRAM_PORT_MISS | with_reducible apply Frame.foldl
    | intro _ | with_reducible apply Frame.ite | with_reducible refine Frame.mk' ?_ rfl

theorem State.sampleActivation_frame {sB : State} (s : State) (bank row port now : Nat) (hB : Frame F R sB s)
    (f_host : F .host) (f_hwd : F .hwd) (f_dram : F .dram) (r_DRAM_EVENTS : R Reg.DRAM_EVENTS)
    (r_DRAM_PORT_THROT : ∀ i, R (Reg.DRAM_PORT_THROT i)) :
    Frame F R sB (State.sampleActivation s bank row port now) := by
  delta State.sampleActivation
  repeat' first
    | with_reducible assumption | lift_lets
    | (intro x; refine (fun (hx : Frame F R sB x) => ?_) ?_ <;> [clear_value x; subst x])
    | with_reducible apply State.bump_frame | with_reducible apply State.event_frame
    | with_reducible apply State.raiseBit_frame | with_reducible apply r_DRAM_PORT_THROT | (intro x; clear_value x)
    | split | with_reducible refine Frame.mk' ?_ rfl

theorem State.serve_frame {sB : State} (s : State) (w : DramWait) (now : Nat) (sampled : Bool) (hB : Frame F R sB s)
    (f_host : F .host) (f_hwd : F .hwd) (f_dram : F .dram) (r_DRAM_EVENTS : R Reg.DRAM_EVENTS)
    (r_DRAM_PORT_THROT : ∀ i, R (Reg.DRAM_PORT_THROT i)) :
    Frame F R sB (State.serve s w now sampled) := by
  delta State.serve
  repeat' first
    | with_reducible assumption | lift_lets
    | (intro x; refine (fun (hx : Frame F R sB x) => ?_) ?_ <;> [clear_value x; subst x])
    | with_reducible apply State.sampleActivation_frame | (intro x; clear_value x) | with_reducible apply Frame.ite
    | with_reducible refine Frame.mk' ?_ rfl

theorem State.dramArrive_frame {sB : State} (s : State) (r : MemReq) (hB : Frame F R sB s) (f_flt : F .flt)
    (f_dram : F .dram) :
    Frame F R sB (State.dramArrive s r) := by
  delta State.dramArrive
  repeat' first
    | with_reducible assumption | lift_lets | with_reducible apply State.fault_frame | (intro x; clear_value x)
    | with_reducible apply Frame.ite | with_reducible refine Frame.mk' ?_ rfl

theorem State.dramAnswer_frame {sB : State} (s : State) (ch : Nat) (w : DramWait) (now : Nat) (ecc : Fin 3)
    (decoding : Bool) (hB : Frame F R sB s) (f_out : F .out) (f_host : F .host) (f_ledg : F .ledg) (f_flt : F .flt)
    (f_hwd : F .hwd) (f_burl : F .burl) (f_dram : F .dram) (f_dma : F .dma)
    (r_BURL_COUNT_DEC_ERR : R Reg.BURL_COUNT_DEC_ERR) (r_BURL_DEC_ERR : R Reg.BURL_DEC_ERR)
    (r_BURL_DEC_OFFSET : R Reg.BURL_DEC_OFFSET) (r_BURL_DEC_TAG_HI : R Reg.BURL_DEC_TAG_HI)
    (r_BURL_DEC_TAG_LO : R Reg.BURL_DEC_TAG_LO) (r_BURL_EVENTS : R Reg.BURL_EVENTS)
    (r_DMA_CH_STATE : ∀ i, R (Reg.DMA_CH_STATE i)) (r_DMA_EVENTS : R Reg.DMA_EVENTS)
    (r_DMA_HALT_ADDR_HI : R Reg.DMA_HALT_ADDR_HI) (r_DMA_HALT_ADDR_LO : R Reg.DMA_HALT_ADDR_LO)
    (r_DMA_HALT_INFO : R Reg.DMA_HALT_INFO) (r_DMA_STATUS : R Reg.DMA_STATUS)
    (r_DRAM_ECC_ADDR_HI : R Reg.DRAM_ECC_ADDR_HI) (r_DRAM_ECC_ADDR_LO : R Reg.DRAM_ECC_ADDR_LO)
    (r_DRAM_ECC_CE_COUNT : R Reg.DRAM_ECC_CE_COUNT) (r_DRAM_ECC_UE_COUNT : R Reg.DRAM_ECC_UE_COUNT)
    (r_DRAM_EVENTS : R Reg.DRAM_EVENTS) (r_DRAM_FRAMES_BAD : R Reg.DRAM_FRAMES_BAD)
    (r_DRAM_FRAMES_FREE : R Reg.DRAM_FRAMES_FREE) :
    Frame F R sB (State.dramAnswer s ch w now ecc decoding) := by
  delta State.dramAnswer
  repeat' first
    | with_reducible assumption | lift_lets
    | (intro x; refine (fun (hx : Frame F R sB x) => ?_) ?_ <;> [clear_value x; subst x])
    | with_reducible apply State.emit_frame | with_reducible apply State.dramWrite_frame
    | with_reducible apply State.dramCorrected_frame | with_reducible apply State.dramUncorrectable_frame
    | with_reducible apply State.busError_frame | (intro x; clear_value x) | with_reducible apply Frame.ite
    | with_reducible refine Frame.mk' ?_ rfl

theorem execDramRequest_frame {sB : State} (ch : Fin 2) (arrivals : List MemReq) (now : Nat) (sampled : Bool)
    (ecc : Fin 3) (decoding : Bool) (s : State) (hB : Frame F R sB s) (f_out : F .out) (f_host : F .host)
    (f_ledg : F .ledg) (f_flt : F .flt) (f_hwd : F .hwd) (f_burl : F .burl) (f_dram : F .dram) (f_dma : F .dma)
    (r_BURL_COUNT_DEC_ERR : R Reg.BURL_COUNT_DEC_ERR) (r_BURL_DEC_ERR : R Reg.BURL_DEC_ERR)
    (r_BURL_DEC_OFFSET : R Reg.BURL_DEC_OFFSET) (r_BURL_DEC_TAG_HI : R Reg.BURL_DEC_TAG_HI)
    (r_BURL_DEC_TAG_LO : R Reg.BURL_DEC_TAG_LO) (r_BURL_EVENTS : R Reg.BURL_EVENTS)
    (r_DMA_CH_STATE : ∀ i, R (Reg.DMA_CH_STATE i)) (r_DMA_EVENTS : R Reg.DMA_EVENTS)
    (r_DMA_HALT_ADDR_HI : R Reg.DMA_HALT_ADDR_HI) (r_DMA_HALT_ADDR_LO : R Reg.DMA_HALT_ADDR_LO)
    (r_DMA_HALT_INFO : R Reg.DMA_HALT_INFO) (r_DMA_STATUS : R Reg.DMA_STATUS)
    (r_DRAM_ECC_ADDR_HI : R Reg.DRAM_ECC_ADDR_HI) (r_DRAM_ECC_ADDR_LO : R Reg.DRAM_ECC_ADDR_LO)
    (r_DRAM_ECC_CE_COUNT : R Reg.DRAM_ECC_CE_COUNT) (r_DRAM_ECC_UE_COUNT : R Reg.DRAM_ECC_UE_COUNT)
    (r_DRAM_EVENTS : R Reg.DRAM_EVENTS) (r_DRAM_FRAMES_BAD : R Reg.DRAM_FRAMES_BAD)
    (r_DRAM_FRAMES_FREE : R Reg.DRAM_FRAMES_FREE) (r_DRAM_PORT_MISS : ∀ i, R (Reg.DRAM_PORT_MISS i))
    (r_DRAM_PORT_THROT : ∀ i, R (Reg.DRAM_PORT_THROT i)) :
    FrameO F R sB (execDramRequest ch arrivals now sampled ecc decoding s) := by
  delta execDramRequest
  repeat' first
    | with_reducible assumption | intro (u : State) (hu : Frame F R sB u) | lift_lets
    | (intro x; refine (fun (hx : Frame F R sB x) => ?_) ?_ <;> [clear_value x; subst x])
    | with_reducible apply FrameO.next | with_reducible apply State.countMisses_frame
    | with_reducible apply State.serve_frame | with_reducible apply State.dramArrive_frame
    | with_reducible apply State.dramAnswer_frame | with_reducible apply Frame.foldl | intro _
    | with_reducible apply FrameO.ite | split

theorem execRhWindowClear_frame {sB : State} (s : State) (hB : Frame F R sB s) (f_dram : F .dram) :
    FrameO F R sB (execRhWindowClear s) := by
  delta execRhWindowClear
  repeat' first
    | with_reducible assumption | lift_lets | with_reducible apply FrameO.next
    | with_reducible refine Frame.mk' ?_ rfl

theorem execPatrolScrub_frame {sB : State} (now0 now1 : Nat) (s : State) (hB : Frame F R sB s) (f_dram : F .dram) :
    FrameO F R sB (execPatrolScrub now0 now1 s) := by
  delta execPatrolScrub
  repeat' first
    | with_reducible assumption | lift_lets | with_reducible apply FrameO.next | (intro x; clear_value x)
    | with_reducible apply FrameO.ite | split | with_reducible refine Frame.mk' ?_ rfl

theorem execWipeGroupDone_frame {sB : State} (s : State) (hB : Frame F R sB s) (f_host : F .host) (f_hwd : F .hwd)
    (f_dram : F .dram) (r_DMA_CH_STATE : ∀ i, R (Reg.DMA_CH_STATE i)) (r_DRAM_EVENTS : R Reg.DRAM_EVENTS)
    (r_DRAM_FRAMES_FREE : R Reg.DRAM_FRAMES_FREE) (r_DRAM_STATUS : R Reg.DRAM_STATUS)
    (r_DRAM_WIPE_POS : R Reg.DRAM_WIPE_POS) :
    FrameO F R sB (execWipeGroupDone s) := by
  delta execWipeGroupDone
  repeat' first
    | with_reducible assumption | lift_lets
    | (intro x; refine (fun (hx : Frame F R sB x) => ?_) ?_ <;> [clear_value x; subst x])
    | with_reducible apply FrameO.next | with_reducible apply State.wrN_frame
    | with_reducible apply State.setFlag_frame | with_reducible apply State.event_frame
    | with_reducible apply State.raiseBit_frame | with_reducible apply State.wipeChannel_frame
    | (intro x; clear_value x) | with_reducible apply Frame.ite | with_reducible apply FrameO.ite
    | with_reducible refine Frame.mk' ?_ rfl

end Sys2Proof.Machine
end

