-- ==== Sys2Proof/Laws/FrameTick.lean ====
section
/-!
SUPPORT. What each operation and each command can change, said once: register writes, LEG, the boot, the decide phase and the tick. A lemma
`f_frame` names the parts of the state and the registers that `f` can change; all else, the queue of commands and the
fused life-cycle state stay, and the canonical form is kept.
-/

set_option Elab.async false
set_option linter.all false

namespace Sys2Proof.Machine

variable {F : Blk → Prop} {R : Nat → Prop}

/-! ### RegWrite -/

theorem State.onBit_frame {sB : State} (s : State) (v i : Nat) (f : State → State)
    (hf : ∀ u, Frame F R sB u → Frame F R sB (f u)) (hB : Frame F R sB s) :
    Frame F R sB (State.onBit s v i f) := by
  delta State.onBit
  repeat' first
    | with_reducible assumption | lift_lets | with_reducible apply hf | with_reducible apply Frame.ite

theorem State.stepCmd_frame {sB : State} (s : State) (a v : Nat) (hB : Frame F R sB s) (f_host : F .host)
    (f_flt : F .flt) (f_step : F .step) (r_STEP_AX_RESULT : ∀ i, R (Reg.STEP_AX_RESULT i))
    (r_STEP_EVENTS : R Reg.STEP_EVENTS) :
    Frame F R sB (State.stepCmd s a v) := by
  delta State.stepCmd
  repeat' first
    | with_reducible assumption | lift_lets | with_reducible apply State.stepEnable_frame
    | with_reducible apply State.stepDisable_frame | with_reducible apply State.stepMove_frame
    | with_reducible apply State.stepVelocity_frame | with_reducible apply State.stepStop_frame
    | with_reducible apply State.stepHome_frame | with_reducible apply State.stepEngage_frame
    | with_reducible apply State.stepDisengage_frame | with_reducible apply State.stepSetPos_frame
    | with_reducible apply State.stepClear_frame | (intro x; clear_value x) | split

theorem State.axisCmd_frame {sB : State} (s : State) (a v : Nat) (hB : Frame F R sB s) (f_host : F .host)
    (f_flt : F .flt) (f_axis : F .axis) (r_AXIS_AX_RESULT : ∀ i, R (Reg.AXIS_AX_RESULT i))
    (r_AXIS_EVENTS : R Reg.AXIS_EVENTS) :
    Frame F R sB (State.axisCmd s a v) := by
  delta State.axisCmd
  repeat' first
    | with_reducible assumption | lift_lets | with_reducible apply State.axisEnable_frame
    | with_reducible apply State.axisDisable_frame | with_reducible apply State.axisMove_frame
    | with_reducible apply State.axisVelocity_frame | with_reducible apply State.axisStop_frame
    | with_reducible apply State.axisSetPos_frame | with_reducible apply State.axisClear_frame
    | (intro x; clear_value x) | split

theorem State.loopCmd_frame {sB : State} (s : State) (l v : Nat) (hB : Frame F R sB s) (f_sram : F .sram)
    (f_host : F .host) (f_hwd : F .hwd) (f_loop : F .loop) (r_LOOP_EVENTS : R Reg.LOOP_EVENTS)
    (r_LOOP_LP_DUTY : ∀ i, R (Reg.LOOP_LP_DUTY i)) (r_LOOP_LP_RESULT : ∀ i, R (Reg.LOOP_LP_RESULT i))
    (r_LOOP_LP_STATE : ∀ i, R (Reg.LOOP_LP_STATE i)) :
    Frame F R sB (State.loopCmd s l v) := by
  delta State.loopCmd
  repeat' first
    | with_reducible assumption | with_reducible apply State.loopEnable_frame
    | with_reducible apply State.loopDisable_frame | with_reducible apply State.loopClear_frame
    | with_reducible apply State.learnClear_frame | split

theorem State.queueCmd_frame {sB : State} (s : State) (w : Writer) (v : Nat) (hB : Frame F R sB s) (f_host : F .host)
    (f_flt : F .flt) (f_hwd : F .hwd) (f_cnpy : F .cnpy) (r_CNPY_COUNT_DROP : R Reg.CNPY_COUNT_DROP)
    (r_CNPY_EVENTS : R Reg.CNPY_EVENTS) (r_CNPY_QCFG0 : R Reg.CNPY_QCFG0) (r_CNPY_QCFG1 : R Reg.CNPY_QCFG1)
    (r_CNPY_QCFG2 : R Reg.CNPY_QCFG2) (r_CNPY_QCFG3 : R Reg.CNPY_QCFG3) (r_CNPY_QRESULT : R Reg.CNPY_QRESULT)
    (r_CNPY_QSTATE : R Reg.CNPY_QSTATE) (r_HOST_ERR : R Reg.HOST_ERR) (r_HOST_ERR_ADDR : R Reg.HOST_ERR_ADDR) :
    Frame F R sB (State.queueCmd s w v) := by
  delta State.queueCmd
  repeat' first
    | with_reducible assumption | with_reducible apply State.queueWrite_frame
    | with_reducible apply State.queueLoad_frame | with_reducible apply State.queueFlush_frame | split

theorem State.ringCmd_frame {sB : State} (s : State) (k : Fin 16) (v : Nat) (hB : Frame F R sB s) (f_host : F .host)
    (r_HOST_ERR : R Reg.HOST_ERR) (r_HOST_ERR_RING : R Reg.HOST_ERR_RING) (r_HOST_RING_DIDX : ∀ i, R
    (Reg.HOST_RING_DIDX i)) (r_HOST_RING_HIDX : ∀ i, R (Reg.HOST_RING_HIDX i)) (r_HOST_RING_STATE : ∀ i, R
    (Reg.HOST_RING_STATE i)) (r_HWD_EXPORT_SEQ : R Reg.HWD_EXPORT_SEQ) : Frame F R sB (s.ringCmd k v) := by
  unfold State.ringCmd
  dsimp only
  have h1 : Frame F R sB (if bitOf v 0 = true then (match execRingStart k s with
      | .next u => u
      | _ => s) else s) := by
    refine Frame.ite (FrameO.taken ?_ hB) hB
    repeat' first
      | with_reducible assumption | lift_lets | with_reducible apply execRingStart_frame
      | with_reducible apply execRingResume_frame | with_reducible apply execRingStop_frame
  generalize (if bitOf v 0 = true then _ else s) = s1 at *
  have h2 : Frame F R sB (if bitOf v 1 = true then (match execRingResume k s1 with
      | .next u => u
      | _ => s1) else s1) := by
    refine Frame.ite (FrameO.taken ?_ h1) h1
    repeat' first
      | with_reducible assumption | lift_lets | with_reducible apply execRingStart_frame
      | with_reducible apply execRingResume_frame | with_reducible apply execRingStop_frame
  generalize (if bitOf v 1 = true then _ else s1) = s2 at *
  refine Frame.ite (FrameO.taken ?_ h2) h2
  repeat' first
    | with_reducible assumption | lift_lets | with_reducible apply execRingStart_frame
    | with_reducible apply execRingResume_frame | with_reducible apply execRingStop_frame

theorem State.almCmd_frame {sB : State} (s : State) (v : Nat) (hB : Frame F R sB s) (f_host : F .host) (f_alm : F
    .alm) (f_hwd : F .hwd) (r_ALM_EVENTS : R Reg.ALM_EVENTS) (r_ALM_REQ_RESULT : R Reg.ALM_REQ_RESULT) (r_ALM_SB_COST
    : R Reg.ALM_SB_COST) (r_ALM_SB_DETAIL : R Reg.ALM_SB_DETAIL) (r_ALM_SB_STATE : R Reg.ALM_SB_STATE) (r_ALM_STATUS :
    R Reg.ALM_STATUS) : Frame F R sB (s.almCmd v) := by
  unfold State.almCmd
  dsimp only
  have h1 : Frame F R sB (if bitOf v 0 = true then (match effCheck s with
      | .next u => u
      | _ => s) else s) := by
    refine Frame.ite (FrameO.taken ?_ hB) hB
    repeat' first
      | with_reducible assumption | intro (u : State) (hu : Frame F R sB u) | lift_lets
      | with_reducible apply effCheck_frame | with_reducible apply State.requestSwitch_frame
      | with_reducible apply effAlmCancel_frame | with_reducible apply State.requestRelease_frame
      | with_reducible apply State.onBit_frame
  generalize (if bitOf v 0 = true then _ else s) = s1 at *
  have h2 : Frame F R sB (s1.onBit v 1 State.requestSwitch) := by
    repeat' first
      | with_reducible assumption | intro (u : State) (hu : Frame F R sB u) | lift_lets
      | with_reducible apply effCheck_frame | with_reducible apply State.requestSwitch_frame
      | with_reducible apply effAlmCancel_frame | with_reducible apply State.requestRelease_frame
      | with_reducible apply State.onBit_frame
  generalize s1.onBit v 1 State.requestSwitch = s2 at *
  have h3 : Frame F R sB (if bitOf v 2 = true then (match effAlmCancel s2 with
      | .next u => u
      | _ => s2) else s2) := by
    refine Frame.ite (FrameO.taken ?_ h2) h2
    repeat' first
      | with_reducible assumption | intro (u : State) (hu : Frame F R sB u) | lift_lets
      | with_reducible apply effCheck_frame | with_reducible apply State.requestSwitch_frame
      | with_reducible apply effAlmCancel_frame | with_reducible apply State.requestRelease_frame
      | with_reducible apply State.onBit_frame
  generalize (if bitOf v 2 = true then _ else s2) = s3 at *
  repeat' first
    | with_reducible assumption | intro (u : State) (hu : Frame F R sB u) | lift_lets
    | with_reducible apply effCheck_frame | with_reducible apply State.requestSwitch_frame
    | with_reducible apply effAlmCancel_frame | with_reducible apply State.requestRelease_frame
    | with_reducible apply State.onBit_frame

theorem State.requestFixed_frame {sB : State} (s : State) (w : Writer) (a v : Nat) (hB : Frame (fun _ => True) (fun _
    => True) sB s) :
    Frame (fun _ => True) (fun _ => True) sB (s.requestFixed w a v) := by
  have hA : Frame (fun _ => True) (fun _ => True) sB (match effAbandon s with
      | .next u => u
      | _ => s) := by
    refine FrameO.taken ?_ hB
    repeat' first
      | exact trivial | exact fun _ => trivial | exact fun _ _ => trivial | with_reducible assumption
      | intro (u : State) (hu : Frame (fun _ => True) (fun _ => True) sB u) | lift_lets
      | with_reducible apply State.drawn_frame | with_reducible apply State.requestGrade_frame
      | with_reducible apply effAbandon_frame | with_reducible apply State.ilkClear_frame
      | with_reducible apply State.clearMeasured_frame | with_reducible apply State.setEvt_frame
      | with_reducible apply State.clearHalt_frame | with_reducible apply State.safeEnter_frame
      | with_reducible apply State.safeExit_frame | with_reducible apply State.errnClear_frame
      | with_reducible apply State.escClr_frame | with_reducible apply State.inject_frame
      | with_reducible apply State.clrRequest_frame | with_reducible apply State.submit_frame
      | with_reducible apply State.clrCancel_frame | with_reducible apply State.snapTake_frame
      | with_reducible apply State.seqUp_frame | with_reducible apply State.seqDown_frame
      | with_reducible apply State.resetRequest_frame | with_reducible apply State.wdtKick_frame
      | with_reducible apply State.accept_frame | with_reducible apply State.transition_frame
      | with_reducible apply State.otpProgram_frame | with_reducible apply State.requestRetrain_frame
      | with_reducible apply State.requestTraining_frame | with_reducible apply State.onBit_frame
      | with_reducible apply State.queueCmd_frame | with_reducible apply State.almCmd_frame
      | with_reducible apply Frame.ite
  unfold State.requestFixed
  refine Frame.ite ?_ ?_
  · repeat' first
      | exact trivial | exact fun _ => trivial | exact fun _ _ => trivial | with_reducible assumption
      | intro (u : State) (hu : Frame (fun _ => True) (fun _ => True) sB u) | lift_lets
      | with_reducible apply State.drawn_frame | with_reducible apply State.requestGrade_frame
      | with_reducible apply effAbandon_frame | with_reducible apply State.ilkClear_frame
      | with_reducible apply State.clearMeasured_frame | with_reducible apply State.setEvt_frame
      | with_reducible apply State.clearHalt_frame | with_reducible apply State.safeEnter_frame
      | with_reducible apply State.safeExit_frame | with_reducible apply State.errnClear_frame
      | with_reducible apply State.escClr_frame | with_reducible apply State.inject_frame
      | with_reducible apply State.clrRequest_frame | with_reducible apply State.submit_frame
      | with_reducible apply State.clrCancel_frame | with_reducible apply State.snapTake_frame
      | with_reducible apply State.seqUp_frame | with_reducible apply State.seqDown_frame
      | with_reducible apply State.resetRequest_frame | with_reducible apply State.wdtKick_frame
      | with_reducible apply State.accept_frame | with_reducible apply State.transition_frame
      | with_reducible apply State.otpProgram_frame | with_reducible apply State.requestRetrain_frame
      | with_reducible apply State.requestTraining_frame | with_reducible apply State.onBit_frame
      | with_reducible apply State.queueCmd_frame | with_reducible apply State.almCmd_frame
      | with_reducible apply Frame.ite
  refine Frame.ite ?_ ?_
  · repeat' first
      | exact trivial | exact fun _ => trivial | exact fun _ _ => trivial | with_reducible assumption
      | intro (u : State) (hu : Frame (fun _ => True) (fun _ => True) sB u) | lift_lets
      | with_reducible apply State.drawn_frame | with_reducible apply State.requestGrade_frame
      | with_reducible apply effAbandon_frame | with_reducible apply State.ilkClear_frame
      | with_reducible apply State.clearMeasured_frame | with_reducible apply State.setEvt_frame
      | with_reducible apply State.clearHalt_frame | with_reducible apply State.safeEnter_frame
      | with_reducible apply State.safeExit_frame | with_reducible apply State.errnClear_frame
      | with_reducible apply State.escClr_frame | with_reducible apply State.inject_frame
      | with_reducible apply State.clrRequest_frame | with_reducible apply State.submit_frame
      | with_reducible apply State.clrCancel_frame | with_reducible apply State.snapTake_frame
      | with_reducible apply State.seqUp_frame | with_reducible apply State.seqDown_frame
      | with_reducible apply State.resetRequest_frame | with_reducible apply State.wdtKick_frame
      | with_reducible apply State.accept_frame | with_reducible apply State.transition_frame
      | with_reducible apply State.otpProgram_frame | with_reducible apply State.requestRetrain_frame
      | with_reducible apply State.requestTraining_frame | with_reducible apply State.onBit_frame
      | with_reducible apply State.queueCmd_frame | with_reducible apply State.almCmd_frame
      | with_reducible apply Frame.ite
  refine Frame.ite (Frame.ite hA hB) ?_
  repeat' first
    | exact trivial | exact fun _ => trivial | exact fun _ _ => trivial | with_reducible assumption
    | intro (u : State) (hu : Frame (fun _ => True) (fun _ => True) sB u) | lift_lets
    | with_reducible apply State.drawn_frame | with_reducible apply State.requestGrade_frame
    | with_reducible apply effAbandon_frame | with_reducible apply State.ilkClear_frame
    | with_reducible apply State.clearMeasured_frame | with_reducible apply State.setEvt_frame
    | with_reducible apply State.clearHalt_frame | with_reducible apply State.safeEnter_frame
    | with_reducible apply State.safeExit_frame | with_reducible apply State.errnClear_frame
    | with_reducible apply State.escClr_frame | with_reducible apply State.inject_frame
    | with_reducible apply State.clrRequest_frame | with_reducible apply State.submit_frame
    | with_reducible apply State.clrCancel_frame | with_reducible apply State.snapTake_frame
    | with_reducible apply State.seqUp_frame | with_reducible apply State.seqDown_frame
    | with_reducible apply State.resetRequest_frame | with_reducible apply State.wdtKick_frame
    | with_reducible apply State.accept_frame | with_reducible apply State.transition_frame
    | with_reducible apply State.otpProgram_frame | with_reducible apply State.requestRetrain_frame
    | with_reducible apply State.requestTraining_frame | with_reducible apply State.onBit_frame
    | with_reducible apply State.queueCmd_frame | with_reducible apply State.almCmd_frame
    | with_reducible apply Frame.ite

theorem State.requestWrite_frame {sB : State} (s : State) (w : Writer) (a v : Nat)
    (hB : Frame (fun _ => True) (fun _ => True) sB s) :
    Frame (fun _ => True) (fun _ => True) sB (State.requestWrite s w a v) := by
  delta State.requestWrite
  repeat' first
    | exact trivial | exact fun _ => trivial | with_reducible assumption
    | intro (u : State) (hu : Frame (fun _ => True) (fun _ => True) sB u) | lift_lets
    | with_reducible apply State.wrN_frame | with_reducible apply State.chooseMap_frame
    | with_reducible apply State.disarm_frame | with_reducible apply State.requestArm_frame
    | with_reducible apply State.clearFailed_frame | with_reducible apply State.dmaStart_frame
    | with_reducible apply State.dmaAbort_frame | with_reducible apply State.dmaResume_frame
    | with_reducible apply State.onBit_frame | with_reducible apply State.stepCmd_frame
    | with_reducible apply State.axisCmd_frame | with_reducible apply State.loopCmd_frame
    | with_reducible apply State.ringCmd_frame | with_reducible apply State.requestFixed_frame
    | with_reducible apply Frame.ite | split

theorem State.writeLink_frame {sB : State} (s : State) (l : LinkId) (a : Nat) (v : Word)
    (hB : Frame (fun _ => True) (fun _ => True) sB s) :
    Frame (fun _ => True) (fun _ => True) sB (State.writeLink s l a v) := by
  delta State.writeLink
  repeat' first
    | exact trivial | exact fun _ => trivial | with_reducible assumption | lift_lets
    | (intro x; refine (fun (hx : Frame (fun _ => True) (fun _ => True) sB x) => ?_) ?_ <;> [clear_value x; subst x])
    | with_reducible apply State.wr_frame | with_reducible apply State.setFlag_frame
    | with_reducible apply State.linkOn_frame | with_reducible apply State.linkOff_frame | (intro x; clear_value x)
    | with_reducible apply Frame.ite

theorem State.storeWrite_frame {sB : State} (s : State) (a : Nat) (mask v : Word)
    (hB : Frame (fun _ => True) (fun _ => True) sB s) :
    Frame (fun _ => True) (fun _ => True) sB (State.storeWrite s a mask v) := by
  delta State.storeWrite
  repeat' first
    | exact trivial | exact fun _ => trivial | with_reducible assumption | lift_lets
    | with_reducible apply State.wr_frame | with_reducible apply State.wrN_frame
    | with_reducible apply State.setFlag_frame | with_reducible apply State.writeSetpoint_frame
    | with_reducible apply State.readSeq_frame | with_reducible apply State.domainSwitch_frame
    | with_reducible apply State.writeLink_frame | (intro x; clear_value x) | with_reducible apply Frame.ite | split

theorem State.applyWrite_frame {sB : State} (s : State) (w : Writer) (a : Nat) (v : Word)
    (hB : Frame (fun _ => True) (fun _ => True) sB s) :
    Frame (fun _ => True) (fun _ => True) sB (State.applyWrite s w a v) := by
  delta State.applyWrite
  repeat' first
    | exact trivial | with_reducible assumption | intro (u : State) (hu : Frame (fun _ => True) (fun _ => True) sB u)
    | lift_lets | with_reducible apply State.wr_frame | with_reducible apply State.setLock_frame
    | with_reducible apply State.onBit_frame | with_reducible apply State.requestWrite_frame
    | with_reducible apply State.storeWrite_frame | with_reducible apply Frame.ite | split

theorem State.regWrite_frame {sB : State} (s : State) (w : Writer) (a : Nat) (v : Word)
    (hB : Frame (fun _ => True) (fun _ => True) sB s) :
    Frame (fun _ => True) (fun _ => True) sB (State.regWrite s w a v) := by
  delta State.regWrite
  repeat' first
    | exact trivial | with_reducible assumption | lift_lets | with_reducible apply State.discarded_frame
    | with_reducible apply State.reservedWrite_frame | with_reducible apply State.applyWrite_frame
    | with_reducible apply Frame.ite | split

theorem State.bar0Write_frame {sB : State} (s : State) (w : Writer) (off width : Nat) (v : DWord)
    (hB : Frame (fun _ => True) (fun _ => True) sB s) :
    Frame (fun _ => True) (fun _ => True) sB (State.bar0Write s w off width v) := by
  delta State.bar0Write
  repeat' first
    | exact trivial | with_reducible assumption | lift_lets | with_reducible apply State.discarded_frame
    | with_reducible apply State.regWrite_frame | with_reducible apply Frame.ite

theorem effRegisterWrite_frame {sB : State} (w : Writer) (bar2 : Bool) (off width : Nat) (v : DWord) (s : State)
    (hB : Frame (fun _ => True) (fun _ => True) sB s) :
    FrameO (fun _ => True) (fun _ => True) sB (effRegisterWrite w bar2 off width v s) := by
  delta effRegisterWrite
  repeat' first
    | exact trivial | exact fun _ => trivial | with_reducible assumption | lift_lets
    | with_reducible apply FrameO.next | with_reducible apply execDoorbell_frame
    | with_reducible apply State.bar0Write_frame | with_reducible apply FrameO.ite

/-! ### Legacy -/

theorem State.setLeg_frame {sB : State} (s : State) (st : Nat) (hB : Frame F R sB s) (r_LEG_STATUS : R Reg.LEG_STATUS)
    :
    Frame F R sB (State.setLeg s st) := by
  delta State.setLeg
  repeat' first
    | with_reducible assumption | with_reducible apply State.setFld_frame

theorem State.legTrace_frame {sB : State} (s : State) (source : Nat) (bytes : List Byte) (hB : Frame F R sB s)
    (f_host : F .host) (f_flt : F .flt) (f_hwd : F .hwd) (f_cnpy : F .cnpy)
    (r_CNPY_COUNT_DROP : R Reg.CNPY_COUNT_DROP) (r_CNPY_COUNT_MISMATCH : R Reg.CNPY_COUNT_MISMATCH)
    (r_CNPY_EVENTS : R Reg.CNPY_EVENTS) (r_CNPY_MISMATCH_Q : R Reg.CNPY_MISMATCH_Q) :
    Frame F R sB (State.legTrace s source bytes) := by
  delta State.legTrace
  repeat' first
    | with_reducible assumption | lift_lets | with_reducible apply State.cellWrite_frame | (intro x; clear_value x)
    | with_reducible apply Frame.ite

theorem State.legEvent_frame {sB : State} (s : State) (code : Nat) (fields : List Nat) (hB : Frame F R sB s)
    (f_host : F .host) (f_flt : F .flt) (f_hwd : F .hwd) (f_cnpy : F .cnpy)
    (r_CNPY_COUNT_DROP : R Reg.CNPY_COUNT_DROP) (r_CNPY_COUNT_MISMATCH : R Reg.CNPY_COUNT_MISMATCH)
    (r_CNPY_EVENTS : R Reg.CNPY_EVENTS) (r_CNPY_MISMATCH_Q : R Reg.CNPY_MISMATCH_Q) :
    Frame F R sB (State.legEvent s code fields) := by
  delta State.legEvent
  repeat' first
    | with_reducible assumption | lift_lets | with_reducible apply State.event_frame
    | with_reducible apply State.legTrace_frame

theorem State.legReply_frame {sB : State} (s : State) (bytes : List Nat) (status : Option Nat) (hB : Frame F R sB s)
    (f_leg : F .leg) :
    Frame F R sB (State.legReply s bytes status) := by
  delta State.legReply
  repeat' first
    | with_reducible assumption | lift_lets | (intro x; clear_value x) | with_reducible refine Frame.mk' ?_ rfl

theorem State.legAck_frame {sB : State} (s : State) (cmd : Nat) (payload : List Nat) (status : Option Nat)
    (hB : Frame F R sB s) (f_leg : F .leg) (r_LEG_COUNT_CMD : R Reg.LEG_COUNT_CMD) :
    Frame F R sB (State.legAck s cmd payload status) := by
  delta State.legAck
  repeat' first
    | with_reducible assumption | lift_lets | with_reducible apply State.bump_frame
    | with_reducible apply State.legReply_frame

theorem State.legBad_frame {sB : State} (s : State) (cmd code : Nat) (hB : Frame F R sB s) (f_host : F .host)
    (f_hwd : F .hwd) (r_LEG_COUNT_CMD : R Reg.LEG_COUNT_CMD) (r_LEG_EVENTS : R Reg.LEG_EVENTS) :
    Frame F R sB (State.legBad s cmd code) := by
  delta State.legBad
  repeat' first
    | with_reducible assumption | lift_lets | with_reducible apply State.bump_frame
    | with_reducible apply State.event_frame | with_reducible apply State.raiseBit_frame

theorem State.legNak_frame {sB : State} (s : State) (cmd code : Nat) (hB : Frame F R sB s) (f_host : F .host)
    (f_hwd : F .hwd) (f_leg : F .leg) (r_LEG_COUNT_CMD : R Reg.LEG_COUNT_CMD) (r_LEG_EVENTS : R Reg.LEG_EVENTS)
    (r_LEG_STATUS : R Reg.LEG_STATUS) :
    Frame F R sB (State.legNak s cmd code) := by
  delta State.legNak
  repeat' first
    | with_reducible assumption | lift_lets
    | (intro x; refine (fun (hx : Frame F R sB x) => ?_) ?_ <;> [clear_value x; subst x])
    | with_reducible apply State.legPost_frame | with_reducible apply State.legReply_frame
    | with_reducible apply State.legBad_frame | with_reducible apply Frame.ite

theorem State.legStatus_frame {sB : State} (s : State) (f : LegFrame) (hB : Frame F R sB s) (f_host : F .host)
    (f_hwd : F .hwd) (f_leg : F .leg) (r_LEG_COUNT_CMD : R Reg.LEG_COUNT_CMD) (r_LEG_EVENTS : R Reg.LEG_EVENTS)
    (r_LEG_STATUS : R Reg.LEG_STATUS) :
    Frame F R sB (State.legStatus s f) := by
  delta State.legStatus
  repeat' first
    | with_reducible assumption | lift_lets | with_reducible apply State.legAck_frame
    | with_reducible apply State.legNak_frame | with_reducible apply Frame.ite

theorem State.legReadError_frame {sB : State} (s : State) (f : LegFrame) (hB : Frame F R sB s) (f_host : F .host)
    (f_hwd : F .hwd) (f_leg : F .leg) (r_LEG_COUNT_CMD : R Reg.LEG_COUNT_CMD) (r_LEG_EVENTS : R Reg.LEG_EVENTS)
    (r_LEG_STATUS : R Reg.LEG_STATUS) :
    Frame F R sB (State.legReadError s f) := by
  delta State.legReadError
  repeat' first
    | with_reducible assumption | lift_lets
    | (intro x; refine (fun (hx : Frame F R sB x) => ?_) ?_ <;> [clear_value x; subst x])
    | with_reducible apply State.setFld_frame | with_reducible apply State.legAck_frame
    | with_reducible apply State.legNak_frame | (intro x; clear_value x) | with_reducible apply Frame.ite
    | with_reducible refine Frame.mk' ?_ rfl

theorem State.legSpeed_frame {sB : State} (s : State) (f : LegFrame) (hB : Frame F R sB s) (f_host : F .host)
    (f_alm : F .alm) (f_hwd : F .hwd) (f_leg : F .leg) (r_ALM_EVENTS : R Reg.ALM_EVENTS)
    (r_ALM_REQ_RESULT : R Reg.ALM_REQ_RESULT) (r_ALM_STATUS : R Reg.ALM_STATUS)
    (r_LEG_COUNT_CMD : R Reg.LEG_COUNT_CMD) (r_LEG_EVENTS : R Reg.LEG_EVENTS) (r_LEG_STATUS : R Reg.LEG_STATUS) :
    Frame F R sB (State.legSpeed s f) := by
  delta State.legSpeed
  repeat' first
    | with_reducible assumption | lift_lets | with_reducible apply State.requestGrade_frame
    | with_reducible apply State.legAck_frame | with_reducible apply State.legNak_frame
    | with_reducible apply Frame.ite | split

theorem State.legPaper_frame {sB : State} (s : State) (f : LegFrame) (hB : Frame F R sB s) (f_host : F .host) (f_hwd :
    F .hwd) (f_leg : F .leg) (r_LEG_COUNT_CMD : R Reg.LEG_COUNT_CMD) (r_LEG_EVENTS : R Reg.LEG_EVENTS) (r_LEG_PAGE : R
    Reg.LEG_PAGE) (r_LEG_STATUS : R Reg.LEG_STATUS) : Frame F R sB (s.legPaper f) := by
  unfold State.legPaper
  split
  · split
    · repeat' first
        | with_reducible assumption | lift_lets | with_reducible apply State.setFld_frame
        | with_reducible apply State.legAck_frame | with_reducible apply State.legNak_frame
        | with_reducible refine Frame.mk' ?_ rfl
    · dsimp only
      repeat' first
        | with_reducible assumption | lift_lets | with_reducible apply State.setFld_frame
        | with_reducible apply State.legAck_frame | with_reducible apply State.legNak_frame
        | with_reducible refine Frame.mk' ?_ rfl
  · repeat' first
      | with_reducible assumption | lift_lets | with_reducible apply State.setFld_frame
      | with_reducible apply State.legAck_frame | with_reducible apply State.legNak_frame
      | with_reducible refine Frame.mk' ?_ rfl

theorem State.legSetTop_frame {sB : State} (s : State) (f : LegFrame) (hB : Frame F R sB s) (f_host : F .host)
    (f_hwd : F .hwd) (f_leg : F .leg) (r_LEG_COUNT_CMD : R Reg.LEG_COUNT_CMD) (r_LEG_EVENTS : R Reg.LEG_EVENTS)
    (r_LEG_STATUS : R Reg.LEG_STATUS) (r_LEG_TOP : R Reg.LEG_TOP) :
    Frame F R sB (State.legSetTop s f) := by
  delta State.legSetTop
  repeat' first
    | with_reducible assumption | lift_lets | with_reducible apply State.wrN_frame
    | with_reducible apply State.legAck_frame | with_reducible apply State.legNak_frame
    | with_reducible apply Frame.ite | split

theorem State.legWidth_frame {sB : State} (s : State) (f : LegFrame) (hB : Frame F R sB s) (f_host : F .host)
    (f_hwd : F .hwd) (f_leg : F .leg) (r_LEG_COUNT_CMD : R Reg.LEG_COUNT_CMD) (r_LEG_EVENTS : R Reg.LEG_EVENTS)
    (r_LEG_PAGE : R Reg.LEG_PAGE) (r_LEG_STATUS : R Reg.LEG_STATUS) :
    Frame F R sB (State.legWidth s f) := by
  delta State.legWidth
  repeat' first
    | with_reducible assumption | lift_lets
    | (intro x; refine (fun (hx : Frame F R sB x) => ?_) ?_ <;> [clear_value x; subst x])
    | with_reducible apply State.setFld_frame | with_reducible apply State.legAck_frame
    | with_reducible apply State.legNak_frame | (intro x; clear_value x) | with_reducible apply Frame.ite | split
    | with_reducible refine Frame.mk' ?_ rfl

theorem State.legWrites_frame {sB : State} (s : State) (ws : List (Nat × Nat))
    (hB : Frame (fun _ => True) (fun _ => True) sB s) :
    Frame (fun _ => True) (fun _ => True) sB (State.legWrites s ws) := by
  delta State.legWrites
  repeat' first
    | with_reducible assumption | intro (u : State) (hu : Frame (fun _ => True) (fun _ => True) sB u) | lift_lets
    | with_reducible apply State.regWrite_frame | with_reducible apply Frame.foldl | intro _

theorem State.legWarmup_frame {sB : State} (s : State) (f : LegFrame) (hB : Frame F R sB s) (f_host : F .host)
    (f_alm : F .alm) (f_hwd : F .hwd) (f_leg : F .leg) (r_ALM_EVENTS : R Reg.ALM_EVENTS)
    (r_ALM_REQ_RESULT : R Reg.ALM_REQ_RESULT) (r_ALM_STATUS : R Reg.ALM_STATUS)
    (r_LEG_COUNT_CMD : R Reg.LEG_COUNT_CMD) (r_LEG_EVENTS : R Reg.LEG_EVENTS) (r_LEG_STATUS : R Reg.LEG_STATUS) :
    Frame F R sB (State.legWarmup s f) := by
  delta State.legWarmup
  repeat' first
    | with_reducible assumption | lift_lets
    | (intro x; refine (fun (hx : Frame F R sB x) => ?_) ?_ <;> [clear_value x; subst x])
    | with_reducible apply State.requestSwitch_frame | with_reducible apply State.setLeg_frame
    | with_reducible apply State.legAck_frame | with_reducible apply State.legNak_frame | (intro x; clear_value x)
    | with_reducible apply Frame.ite | with_reducible refine Frame.mk' ?_ rfl

theorem State.legSleep_frame {sB : State} (s : State) (f : LegFrame) (hB : Frame (fun _ => True) (fun _ => True) sB s)
    :
    Frame (fun _ => True) (fun _ => True) sB (State.legSleep s f) := by
  delta State.legSleep
  repeat' first
    | exact trivial | with_reducible assumption | lift_lets
    | (intro x; refine (fun (hx : Frame (fun _ => True) (fun _ => True) sB x) => ?_) ?_ <;> [clear_value x; subst x])
    | with_reducible apply State.requestRelease_frame | with_reducible apply State.setLeg_frame
    | with_reducible apply State.legAck_frame | with_reducible apply State.legNak_frame
    | with_reducible apply State.legWrites_frame | (intro x; clear_value x) | with_reducible apply Frame.ite
    | with_reducible refine Frame.mk' ?_ rfl

theorem State.startSyncs_frame {sB : State} (s : State) (hB : Frame F R sB s) (f_leg : F .leg)
    (r_LEG_PERIOD : R Reg.LEG_PERIOD) :
    Frame F R sB (State.startSyncs s) := by
  delta State.startSyncs
  repeat' first
    | with_reducible assumption | lift_lets
    | (intro x; refine (fun (hx : Frame F R sB x) => ?_) ?_ <;> [clear_value x; subst x])
    | with_reducible apply State.wrN_frame | (intro x; clear_value x) | with_reducible refine Frame.mk' ?_ rfl

theorem effLegReady_frame {sB : State} (s : State) (hB : Frame F R sB s) (f_leg : F .leg)
    (r_LEG_PERIOD : R Reg.LEG_PERIOD) (r_LEG_STATUS : R Reg.LEG_STATUS) :
    FrameO F R sB (effLegReady s) := by
  delta effLegReady
  repeat' first
    | with_reducible assumption | lift_lets | with_reducible apply FrameO.next
    | with_reducible apply State.setLeg_frame | with_reducible apply State.startSyncs_frame
    | with_reducible apply Frame.ite | with_reducible apply FrameO.ite

theorem effLegStandby_frame {sB : State} (s : State) (hB : Frame F R sB s) (r_LEG_STATUS : R Reg.LEG_STATUS) :
    FrameO F R sB (effLegStandby s) := by
  delta effLegStandby
  repeat' first
    | with_reducible assumption | lift_lets | with_reducible apply FrameO.next
    | with_reducible apply State.setLeg_frame | with_reducible apply FrameO.ite

theorem State.legPurge_frame {sB : State} (s : State) (id cause : Nat) (hB : Frame F R sB s) (f_fresh : F .fresh)
    (f_host : F .host) (f_ledg : F .ledg) (f_flt : F .flt) (f_hwd : F .hwd) (f_burl : F .burl) (f_scan : F .scan)
    (f_cnpy : F .cnpy) (f_leg : F .leg) (r_CNPY_COUNT_DROP : R Reg.CNPY_COUNT_DROP)
    (r_CNPY_COUNT_MISMATCH : R Reg.CNPY_COUNT_MISMATCH) (r_CNPY_EVENTS : R Reg.CNPY_EVENTS)
    (r_CNPY_MISMATCH_Q : R Reg.CNPY_MISMATCH_Q) (r_HOST_ERR : R Reg.HOST_ERR) (r_LEG_EVENTS : R Reg.LEG_EVENTS) :
    Frame F R sB (State.legPurge s id cause) := by
  delta State.legPurge
  repeat' first
    | with_reducible assumption | lift_lets | with_reducible apply State.legLost_frame
    | with_reducible apply State.purgeSheet_frame | with_reducible apply State.legTrace_frame
    | with_reducible apply Frame.ite | split

theorem State.legClearJam_frame {sB : State} (s : State) (f : LegFrame) (hB : Frame F R sB s) (f_fresh : F .fresh)
    (f_host : F .host) (f_ledg : F .ledg) (f_flt : F .flt) (f_hwd : F .hwd) (f_burl : F .burl) (f_scan : F .scan)
    (f_cnpy : F .cnpy) (f_leg : F .leg) (r_CNPY_COUNT_DROP : R Reg.CNPY_COUNT_DROP)
    (r_CNPY_COUNT_MISMATCH : R Reg.CNPY_COUNT_MISMATCH) (r_CNPY_EVENTS : R Reg.CNPY_EVENTS)
    (r_CNPY_MISMATCH_Q : R Reg.CNPY_MISMATCH_Q) (r_HOST_ERR : R Reg.HOST_ERR)
    (r_LEDG_COUNT_REFUSED : R Reg.LEDG_COUNT_REFUSED) (r_LEDG_EVENTS : R Reg.LEDG_EVENTS)
    (r_LEDG_STATUS : R Reg.LEDG_STATUS) (r_LEG_COUNT_CMD : R Reg.LEG_COUNT_CMD) (r_LEG_EVENTS : R Reg.LEG_EVENTS)
    (r_LEG_PERIOD : R Reg.LEG_PERIOD) (r_LEG_STATUS : R Reg.LEG_STATUS) :
    Frame F R sB (State.legClearJam s f) := by
  delta State.legClearJam
  repeat' first
    | with_reducible assumption | intro (u : State) (hu : Frame F R sB u) | lift_lets
    | (intro x; refine (fun (hx : Frame F R sB x) => ?_) ?_ <;> [clear_value x; subst x])
    | with_reducible apply State.setFlag_frame | with_reducible apply State.decideJamClear_frame
    | with_reducible apply State.legAck_frame | with_reducible apply State.legNak_frame
    | with_reducible apply State.startSyncs_frame | with_reducible apply State.legPurge_frame
    | with_reducible apply Frame.foldl | (intro x; clear_value x) | intro _ | with_reducible apply Frame.ite

theorem State.legCancel_frame {sB : State} (s : State) (f : LegFrame) (hB : Frame F R sB s) (f_fresh : F .fresh)
    (f_host : F .host) (f_ledg : F .ledg) (f_flt : F .flt) (f_hwd : F .hwd) (f_burl : F .burl) (f_scan : F .scan)
    (f_cnpy : F .cnpy) (f_leg : F .leg) (r_CNPY_COUNT_DROP : R Reg.CNPY_COUNT_DROP)
    (r_CNPY_COUNT_MISMATCH : R Reg.CNPY_COUNT_MISMATCH) (r_CNPY_EVENTS : R Reg.CNPY_EVENTS)
    (r_CNPY_MISMATCH_Q : R Reg.CNPY_MISMATCH_Q) (r_HOST_ERR : R Reg.HOST_ERR) (r_LEG_COUNT_CMD : R Reg.LEG_COUNT_CMD)
    (r_LEG_EVENTS : R Reg.LEG_EVENTS) (r_LEG_STATUS : R Reg.LEG_STATUS) :
    Frame F R sB (State.legCancel s f) := by
  delta State.legCancel
  repeat' first
    | with_reducible assumption | lift_lets | with_reducible apply State.legAck_frame
    | with_reducible apply State.legNak_frame | with_reducible apply State.legPurge_frame | (intro x; clear_value x)
    | with_reducible apply Frame.ite | split

theorem State.legInfo_frame {sB : State} (s : State) (f : LegFrame) (hB : Frame F R sB s) (f_host : F .host)
    (f_hwd : F .hwd) (f_leg : F .leg) (r_LEG_COUNT_CMD : R Reg.LEG_COUNT_CMD) (r_LEG_EVENTS : R Reg.LEG_EVENTS)
    (r_LEG_STATUS : R Reg.LEG_STATUS) :
    Frame F R sB (State.legInfo s f) := by
  delta State.legInfo
  repeat' first
    | with_reducible assumption | lift_lets | with_reducible apply State.legAck_frame
    | with_reducible apply State.legNak_frame | with_reducible apply Frame.ite

theorem State.legReadReg_frame {sB : State} (s : State) (f : LegFrame) (hB : Frame F R sB s) (f_host : F .host)
    (f_hwd : F .hwd) (f_leg : F .leg) (r_LEG_COUNT_CMD : R Reg.LEG_COUNT_CMD) (r_LEG_EVENTS : R Reg.LEG_EVENTS)
    (r_LEG_STATUS : R Reg.LEG_STATUS) :
    Frame F R sB (State.legReadReg s f) := by
  delta State.legReadReg
  repeat' first
    | with_reducible assumption | with_reducible apply State.legAck_frame | with_reducible apply State.legNak_frame
    | split

theorem State.legWriteReg_frame {sB : State} (s : State) (f : LegFrame) (hB : Frame F R sB s) (f_host : F .host)
    (f_hwd : F .hwd) (f_leg : F .leg) (r_LEG_COUNT_CMD : R Reg.LEG_COUNT_CMD) (r_LEG_EVENTS : R Reg.LEG_EVENTS)
    (r_LEG_STATUS : R Reg.LEG_STATUS) :
    Frame F R sB (State.legWriteReg s f) := by
  delta State.legWriteReg
  repeat' first
    | with_reducible assumption | with_reducible apply State.legAck_frame | with_reducible apply State.legNak_frame
    | split

theorem State.decideFrame_frame {sB : State} (s : State) (f : LegFrame)
    (hB : Frame (fun _ => True) (fun _ => True) sB s) :
    Frame (fun _ => True) (fun _ => True) sB (State.decideFrame s f) := by
  delta State.decideFrame
  repeat' first
    | exact trivial | with_reducible assumption | lift_lets | with_reducible apply State.legNak_frame
    | with_reducible apply State.legStatus_frame | with_reducible apply State.legReadError_frame
    | with_reducible apply State.legSpeed_frame | with_reducible apply State.legPaper_frame
    | with_reducible apply State.legSetTop_frame | with_reducible apply State.legWidth_frame
    | with_reducible apply State.legWarmup_frame | with_reducible apply State.legSleep_frame
    | with_reducible apply State.legClearJam_frame | with_reducible apply State.legCancel_frame
    | with_reducible apply State.legInfo_frame | with_reducible apply State.legReadReg_frame
    | with_reducible apply State.legWriteReg_frame | with_reducible apply Frame.ite | split

theorem State.legRow_frame {sB : State} (s : State) (cmd : Nat) (f : State → LegFrame → State)
    (hf : ∀ u, Frame F R sB u → ∀ x0, Frame F R sB (f u x0)) (hB : Frame F R sB s) :
    Frame F R sB (State.legRow s cmd f) := by
  delta State.legRow
  repeat' first
    | with_reducible assumption | lift_lets | with_reducible apply hf | with_reducible apply Frame.ite | split

theorem State.legDecide_frame {sB : State} (s : State) (hB : Frame (fun _ => True) (fun _ => True) sB s) :
    Frame (fun _ => True) (fun _ => True) sB (State.legDecide s) := by
  delta State.legDecide
  repeat' first
    | with_reducible assumption | with_reducible apply State.decideFrame_frame | split

theorem effStatus_frame {sB : State} (s : State) (hB : Frame F R sB s) (f_host : F .host) (f_hwd : F .hwd)
    (f_leg : F .leg) (r_LEG_COUNT_CMD : R Reg.LEG_COUNT_CMD) (r_LEG_EVENTS : R Reg.LEG_EVENTS)
    (r_LEG_STATUS : R Reg.LEG_STATUS) :
    FrameO F R sB (effStatus s) := by
  delta effStatus
  repeat' first
    | with_reducible assumption | intro (u : State) (hu : Frame F R sB u) | lift_lets
    | with_reducible apply FrameO.next | with_reducible apply State.legStatus_frame
    | with_reducible apply State.legRow_frame | intro _

theorem execReadError_frame {sB : State} (s : State) (hB : Frame F R sB s) (f_host : F .host) (f_hwd : F .hwd)
    (f_leg : F .leg) (r_LEG_COUNT_CMD : R Reg.LEG_COUNT_CMD) (r_LEG_EVENTS : R Reg.LEG_EVENTS)
    (r_LEG_STATUS : R Reg.LEG_STATUS) :
    FrameO F R sB (execReadError s) := by
  delta execReadError
  repeat' first
    | with_reducible assumption | intro (u : State) (hu : Frame F R sB u) | lift_lets
    | with_reducible apply FrameO.next | with_reducible apply State.legReadError_frame
    | with_reducible apply State.legRow_frame | intro _

theorem effSpeed_frame {sB : State} (s : State) (hB : Frame F R sB s) (f_host : F .host) (f_alm : F .alm)
    (f_hwd : F .hwd) (f_leg : F .leg) (r_ALM_EVENTS : R Reg.ALM_EVENTS) (r_ALM_REQ_RESULT : R Reg.ALM_REQ_RESULT)
    (r_ALM_STATUS : R Reg.ALM_STATUS) (r_LEG_COUNT_CMD : R Reg.LEG_COUNT_CMD) (r_LEG_EVENTS : R Reg.LEG_EVENTS)
    (r_LEG_STATUS : R Reg.LEG_STATUS) :
    FrameO F R sB (effSpeed s) := by
  delta effSpeed
  repeat' first
    | with_reducible assumption | intro (u : State) (hu : Frame F R sB u) | lift_lets
    | with_reducible apply FrameO.next | with_reducible apply State.legSpeed_frame
    | with_reducible apply State.legRow_frame | intro _

theorem execPaper_frame {sB : State} (s : State) (hB : Frame F R sB s) (f_host : F .host) (f_hwd : F .hwd)
    (f_leg : F .leg) (r_LEG_COUNT_CMD : R Reg.LEG_COUNT_CMD) (r_LEG_EVENTS : R Reg.LEG_EVENTS)
    (r_LEG_PAGE : R Reg.LEG_PAGE) (r_LEG_STATUS : R Reg.LEG_STATUS) :
    FrameO F R sB (execPaper s) := by
  delta execPaper
  repeat' first
    | with_reducible assumption | intro (u : State) (hu : Frame F R sB u) | lift_lets
    | with_reducible apply FrameO.next | with_reducible apply State.legPaper_frame
    | with_reducible apply State.legRow_frame | intro _

theorem execTop_frame {sB : State} (s : State) (hB : Frame F R sB s) (f_host : F .host) (f_hwd : F .hwd)
    (f_leg : F .leg) (r_LEG_COUNT_CMD : R Reg.LEG_COUNT_CMD) (r_LEG_EVENTS : R Reg.LEG_EVENTS)
    (r_LEG_STATUS : R Reg.LEG_STATUS) (r_LEG_TOP : R Reg.LEG_TOP) :
    FrameO F R sB (execTop s) := by
  delta execTop
  repeat' first
    | with_reducible assumption | intro (u : State) (hu : Frame F R sB u) | lift_lets
    | with_reducible apply FrameO.next | with_reducible apply State.legSetTop_frame
    | with_reducible apply State.legRow_frame | intro _

theorem execWidth_frame {sB : State} (s : State) (hB : Frame F R sB s) (f_host : F .host) (f_hwd : F .hwd)
    (f_leg : F .leg) (r_LEG_COUNT_CMD : R Reg.LEG_COUNT_CMD) (r_LEG_EVENTS : R Reg.LEG_EVENTS)
    (r_LEG_PAGE : R Reg.LEG_PAGE) (r_LEG_STATUS : R Reg.LEG_STATUS) :
    FrameO F R sB (execWidth s) := by
  delta execWidth
  repeat' first
    | with_reducible assumption | intro (u : State) (hu : Frame F R sB u) | lift_lets
    | with_reducible apply FrameO.next | with_reducible apply State.legWidth_frame
    | with_reducible apply State.legRow_frame | intro _

theorem effWarmup_frame {sB : State} (s : State) (hB : Frame F R sB s) (f_host : F .host) (f_alm : F .alm)
    (f_hwd : F .hwd) (f_leg : F .leg) (r_ALM_EVENTS : R Reg.ALM_EVENTS) (r_ALM_REQ_RESULT : R Reg.ALM_REQ_RESULT)
    (r_ALM_STATUS : R Reg.ALM_STATUS) (r_LEG_COUNT_CMD : R Reg.LEG_COUNT_CMD) (r_LEG_EVENTS : R Reg.LEG_EVENTS)
    (r_LEG_STATUS : R Reg.LEG_STATUS) :
    FrameO F R sB (effWarmup s) := by
  delta effWarmup
  repeat' first
    | with_reducible assumption | intro (u : State) (hu : Frame F R sB u) | lift_lets
    | with_reducible apply FrameO.next | with_reducible apply State.legWarmup_frame
    | with_reducible apply State.legRow_frame | intro _

theorem effSleep_frame {sB : State} (s : State) (hB : Frame (fun _ => True) (fun _ => True) sB s) :
    FrameO (fun _ => True) (fun _ => True) sB (effSleep s) := by
  delta effSleep
  repeat' first
    | with_reducible assumption | intro (u : State) (hu : Frame (fun _ => True) (fun _ => True) sB u) | lift_lets
    | with_reducible apply FrameO.next | with_reducible apply State.legSleep_frame
    | with_reducible apply State.legRow_frame | intro _

theorem effClearJam_frame {sB : State} (s : State) (hB : Frame F R sB s) (f_fresh : F .fresh) (f_host : F .host)
    (f_ledg : F .ledg) (f_flt : F .flt) (f_hwd : F .hwd) (f_burl : F .burl) (f_scan : F .scan) (f_cnpy : F .cnpy)
    (f_leg : F .leg) (r_CNPY_COUNT_DROP : R Reg.CNPY_COUNT_DROP) (r_CNPY_COUNT_MISMATCH : R Reg.CNPY_COUNT_MISMATCH)
    (r_CNPY_EVENTS : R Reg.CNPY_EVENTS) (r_CNPY_MISMATCH_Q : R Reg.CNPY_MISMATCH_Q) (r_HOST_ERR : R Reg.HOST_ERR)
    (r_LEDG_COUNT_REFUSED : R Reg.LEDG_COUNT_REFUSED) (r_LEDG_EVENTS : R Reg.LEDG_EVENTS)
    (r_LEDG_STATUS : R Reg.LEDG_STATUS) (r_LEG_COUNT_CMD : R Reg.LEG_COUNT_CMD) (r_LEG_EVENTS : R Reg.LEG_EVENTS)
    (r_LEG_PERIOD : R Reg.LEG_PERIOD) (r_LEG_STATUS : R Reg.LEG_STATUS) :
    FrameO F R sB (effClearJam s) := by
  delta effClearJam
  repeat' first
    | with_reducible assumption | intro (u : State) (hu : Frame F R sB u) | lift_lets
    | with_reducible apply FrameO.next | with_reducible apply State.legClearJam_frame
    | with_reducible apply State.legRow_frame | intro _

theorem effCancel_frame {sB : State} (s : State) (hB : Frame F R sB s) (f_fresh : F .fresh) (f_host : F .host)
    (f_ledg : F .ledg) (f_flt : F .flt) (f_hwd : F .hwd) (f_burl : F .burl) (f_scan : F .scan) (f_cnpy : F .cnpy)
    (f_leg : F .leg) (r_CNPY_COUNT_DROP : R Reg.CNPY_COUNT_DROP) (r_CNPY_COUNT_MISMATCH : R Reg.CNPY_COUNT_MISMATCH)
    (r_CNPY_EVENTS : R Reg.CNPY_EVENTS) (r_CNPY_MISMATCH_Q : R Reg.CNPY_MISMATCH_Q) (r_HOST_ERR : R Reg.HOST_ERR)
    (r_LEG_COUNT_CMD : R Reg.LEG_COUNT_CMD) (r_LEG_EVENTS : R Reg.LEG_EVENTS) (r_LEG_STATUS : R Reg.LEG_STATUS) :
    FrameO F R sB (effCancel s) := by
  delta effCancel
  repeat' first
    | with_reducible assumption | intro (u : State) (hu : Frame F R sB u) | lift_lets
    | with_reducible apply FrameO.next | with_reducible apply State.legCancel_frame
    | with_reducible apply State.legRow_frame | intro _

theorem execEngineInfo_frame {sB : State} (s : State) (hB : Frame F R sB s) (f_host : F .host) (f_hwd : F .hwd)
    (f_leg : F .leg) (r_LEG_COUNT_CMD : R Reg.LEG_COUNT_CMD) (r_LEG_EVENTS : R Reg.LEG_EVENTS)
    (r_LEG_STATUS : R Reg.LEG_STATUS) :
    FrameO F R sB (execEngineInfo s) := by
  delta execEngineInfo
  repeat' first
    | with_reducible assumption | intro (u : State) (hu : Frame F R sB u) | lift_lets
    | with_reducible apply FrameO.next | with_reducible apply State.legInfo_frame
    | with_reducible apply State.legRow_frame | intro _

theorem execReadReg_frame {sB : State} (s : State) (hB : Frame F R sB s) (f_host : F .host) (f_hwd : F .hwd)
    (f_leg : F .leg) (r_LEG_COUNT_CMD : R Reg.LEG_COUNT_CMD) (r_LEG_EVENTS : R Reg.LEG_EVENTS)
    (r_LEG_STATUS : R Reg.LEG_STATUS) :
    FrameO F R sB (execReadReg s) := by
  delta execReadReg
  repeat' first
    | with_reducible assumption | intro (u : State) (hu : Frame F R sB u) | lift_lets
    | with_reducible apply FrameO.next | with_reducible apply State.legReadReg_frame
    | with_reducible apply State.legRow_frame | intro _

theorem execWriteReg_frame {sB : State} (s : State) (hB : Frame F R sB s) (f_host : F .host) (f_hwd : F .hwd)
    (f_leg : F .leg) (r_LEG_COUNT_CMD : R Reg.LEG_COUNT_CMD) (r_LEG_EVENTS : R Reg.LEG_EVENTS)
    (r_LEG_STATUS : R Reg.LEG_STATUS) :
    FrameO F R sB (execWriteReg s) := by
  delta execWriteReg
  repeat' first
    | with_reducible assumption | intro (u : State) (hu : Frame F R sB u) | lift_lets
    | with_reducible apply FrameO.next | with_reducible apply State.legWriteReg_frame
    | with_reducible apply State.legRow_frame | intro _

theorem State.discardFrame_frame {sB : State} (s : State) (cmd : Nat) (hB : Frame F R sB s) (f_host : F .host)
    (f_hwd : F .hwd) (f_leg : F .leg) (r_LEG_COUNT_CMD : R Reg.LEG_COUNT_CMD) (r_LEG_EVENTS : R Reg.LEG_EVENTS)
    (r_LEG_STATUS : R Reg.LEG_STATUS) :
    Frame F R sB (State.discardFrame s cmd) := by
  delta State.discardFrame
  repeat' first
    | with_reducible assumption | lift_lets | with_reducible apply State.legPost_frame
    | with_reducible apply State.legBad_frame | with_reducible refine Frame.mk' ?_ rfl

theorem State.completeFrame_frame {sB : State} (s : State) (bytes : List Nat) (hB : Frame F R sB s) (f_host : F .host)
    (f_flt : F .flt) (f_hwd : F .hwd) (f_cnpy : F .cnpy) (f_leg : F .leg) (r_CNPY_COUNT_DROP : R Reg.CNPY_COUNT_DROP)
    (r_CNPY_COUNT_MISMATCH : R Reg.CNPY_COUNT_MISMATCH) (r_CNPY_EVENTS : R Reg.CNPY_EVENTS)
    (r_CNPY_MISMATCH_Q : R Reg.CNPY_MISMATCH_Q) (r_LEG_COUNT_CMD : R Reg.LEG_COUNT_CMD)
    (r_LEG_EVENTS : R Reg.LEG_EVENTS) (r_LEG_STATUS : R Reg.LEG_STATUS) :
    Frame F R sB (State.completeFrame s bytes) := by
  delta State.completeFrame
  repeat' first
    | with_reducible assumption | lift_lets
    | (intro x; refine (fun (hx : Frame F R sB x) => ?_) ?_ <;> [clear_value x; subst x])
    | with_reducible apply State.legTrace_frame | with_reducible apply State.discardFrame_frame
    | (intro x; clear_value x) | with_reducible apply Frame.ite | with_reducible refine Frame.mk' ?_ rfl

theorem State.byteTimeout_frame {sB : State} (s : State) (hB : Frame F R sB s) (f_host : F .host) (f_hwd : F .hwd)
    (f_leg : F .leg) (r_LEG_COUNT_CMD : R Reg.LEG_COUNT_CMD) (r_LEG_EVENTS : R Reg.LEG_EVENTS)
    (r_LEG_STATUS : R Reg.LEG_STATUS) :
    Frame F R sB (State.byteTimeout s) := by
  delta State.byteTimeout
  repeat' first
    | with_reducible assumption | lift_lets | with_reducible apply State.discardFrame_frame
    | with_reducible apply Frame.ite

theorem execUartByteTimeout_frame {sB : State} (s : State) (hB : Frame F R sB s) (f_host : F .host) (f_hwd : F .hwd)
    (f_leg : F .leg) (r_LEG_COUNT_CMD : R Reg.LEG_COUNT_CMD) (r_LEG_EVENTS : R Reg.LEG_EVENTS)
    (r_LEG_STATUS : R Reg.LEG_STATUS) :
    FrameO F R sB (execUartByteTimeout s) := by
  delta execUartByteTimeout
  repeat' first
    | with_reducible assumption | lift_lets | with_reducible apply FrameO.next
    | with_reducible apply State.byteTimeout_frame

theorem State.joinByte_frame {sB : State} (s : State) (b : Nat) (hB : Frame F R sB s) (f_host : F .host)
    (f_flt : F .flt) (f_hwd : F .hwd) (f_cnpy : F .cnpy) (f_leg : F .leg) (r_CNPY_COUNT_DROP : R Reg.CNPY_COUNT_DROP)
    (r_CNPY_COUNT_MISMATCH : R Reg.CNPY_COUNT_MISMATCH) (r_CNPY_EVENTS : R Reg.CNPY_EVENTS)
    (r_CNPY_MISMATCH_Q : R Reg.CNPY_MISMATCH_Q) (r_LEG_COUNT_CMD : R Reg.LEG_COUNT_CMD)
    (r_LEG_EVENTS : R Reg.LEG_EVENTS) (r_LEG_STATUS : R Reg.LEG_STATUS) :
    Frame F R sB (State.joinByte s b) := by
  delta State.joinByte
  repeat' first
    | with_reducible assumption | lift_lets
    | (intro x; refine (fun (hx : Frame F R sB x) => ?_) ?_ <;> [clear_value x; subst x])
    | with_reducible apply State.legPost_frame | with_reducible apply State.discardFrame_frame
    | with_reducible apply State.completeFrame_frame | (intro x; clear_value x) | with_reducible apply Frame.ite
    | with_reducible refine Frame.mk' ?_ rfl

theorem execUartByte_frame {sB : State} (b : Byte) (err : Bool) (s : State) (hB : Frame F R sB s) (f_host : F .host)
    (f_flt : F .flt) (f_hwd : F .hwd) (f_cnpy : F .cnpy) (f_leg : F .leg) (r_CNPY_COUNT_DROP : R Reg.CNPY_COUNT_DROP)
    (r_CNPY_COUNT_MISMATCH : R Reg.CNPY_COUNT_MISMATCH) (r_CNPY_EVENTS : R Reg.CNPY_EVENTS)
    (r_CNPY_MISMATCH_Q : R Reg.CNPY_MISMATCH_Q) (r_LEG_COUNT_CMD : R Reg.LEG_COUNT_CMD)
    (r_LEG_EVENTS : R Reg.LEG_EVENTS) (r_LEG_STATUS : R Reg.LEG_STATUS) :
    FrameO F R sB (execUartByte b err s) := by
  delta execUartByte
  repeat' first
    | with_reducible assumption | lift_lets
    | (intro x; refine (fun (hx : Frame F R sB x) => ?_) ?_ <;> [clear_value x; subst x])
    | with_reducible apply FrameO.next | with_reducible apply State.legPost_frame
    | with_reducible apply State.discardFrame_frame | with_reducible apply State.joinByte_frame
    | with_reducible apply Frame.ite | with_reducible apply FrameO.ite

theorem execUartReply_frame {sB : State} (s : State) (hB : Frame F R sB s) (f_out : F .out) (f_host : F .host)
    (f_flt : F .flt) (f_hwd : F .hwd) (f_cnpy : F .cnpy) (f_leg : F .leg) (r_CNPY_COUNT_DROP : R Reg.CNPY_COUNT_DROP)
    (r_CNPY_COUNT_MISMATCH : R Reg.CNPY_COUNT_MISMATCH) (r_CNPY_EVENTS : R Reg.CNPY_EVENTS)
    (r_CNPY_MISMATCH_Q : R Reg.CNPY_MISMATCH_Q) (r_LEG_STATUS : R Reg.LEG_STATUS) :
    FrameO F R sB (execUartReply s) := by
  delta execUartReply
  repeat' first
    | with_reducible assumption | lift_lets
    | (intro x; refine (fun (hx : Frame F R sB x) => ?_) ?_ <;> [clear_value x; subst x])
    | with_reducible apply FrameO.next | with_reducible apply State.setFlag_frame
    | with_reducible apply State.emit_frame | with_reducible apply State.legTrace_frame | (intro x; clear_value x)
    | with_reducible apply Frame.ite | with_reducible apply FrameO.ite | split
    | with_reducible refine Frame.mk' ?_ rfl

theorem State.setReq_frame {sB : State} (s : State) (low : Bool) (hB : Frame F R sB s) (f_out : F .out)
    (r_LEG_STATUS : R Reg.LEG_STATUS) :
    Frame F R sB (State.setReq s low) := by
  delta State.setReq
  repeat' first
    | with_reducible assumption | lift_lets | with_reducible apply State.setFlag_frame
    | with_reducible apply State.emit_frame | with_reducible apply Frame.ite

theorem State.qualify_frame {sB : State} (s : State) (hB : Frame F R sB s) (f_leg : F .leg) :
    Frame F R sB (State.qualify s) := by
  delta State.qualify
  repeat' first
    | with_reducible assumption | lift_lets | (intro x; clear_value x) | with_reducible refine Frame.mk' ?_ rfl

theorem execLsyncEdge_frame {sB : State} (goLow : Bool) (s : State) (hB : Frame F R sB s) (f_out : F .out)
    (f_leg : F .leg) (r_LEG_PERIOD : R Reg.LEG_PERIOD) (r_LEG_STATUS : R Reg.LEG_STATUS) :
    FrameO F R sB (execLsyncEdge goLow s) := by
  delta execLsyncEdge
  repeat' first
    | with_reducible assumption | lift_lets
    | (intro x; refine (fun (hx : Frame F R sB x) => ?_) ?_ <;> [clear_value x; subst x])
    | with_reducible apply FrameO.next | with_reducible apply State.wrN_frame
    | with_reducible apply State.setFlag_frame | with_reducible apply State.emit_frame
    | with_reducible apply State.setReq_frame | with_reducible apply State.qualify_frame | (intro x; clear_value x)
    | with_reducible apply Frame.ite | with_reducible apply FrameO.ite | with_reducible refine Frame.mk' ?_ rfl

theorem State.legGather_frame {sB : State} (s : State) (hB : Frame F R sB s) (f_host : F .host) (f_flt : F .flt)
    (f_hwd : F .hwd) (f_cnpy : F .cnpy) (f_leg : F .leg) (r_CNPY_COUNT_DROP : R Reg.CNPY_COUNT_DROP)
    (r_CNPY_COUNT_MISMATCH : R Reg.CNPY_COUNT_MISMATCH) (r_CNPY_EVENTS : R Reg.CNPY_EVENTS)
    (r_CNPY_MISMATCH_Q : R Reg.CNPY_MISMATCH_Q) (r_LEG_EVENTS : R Reg.LEG_EVENTS) (r_LEG_LAST_ID : R Reg.LEG_LAST_ID)
    :
    Frame F R sB (State.legGather s) := by
  delta State.legGather
  repeat' first
    | with_reducible assumption | intro (u : State) (hu : Frame F R sB u) | lift_lets
    | with_reducible apply State.wrN_frame | with_reducible apply State.raiseBit_frame
    | with_reducible apply State.deliver_frame | with_reducible apply State.legEvent_frame
    | with_reducible apply Frame.foldl | intro _ | with_reducible refine Frame.mk' ?_ rfl

theorem execGroupWindowClose_frame {sB : State} (stn : Fin 4) (bytes : List Byte) (fault : Fin 3) (s : State) (hB :
    Frame F R sB s) (f_host : F .host) (f_flt : F .flt) (f_hwd : F .hwd) (f_cnpy : F .cnpy) (f_leg : F .leg)
    (r_CNPY_COUNT_DROP : R Reg.CNPY_COUNT_DROP) (r_CNPY_COUNT_MISMATCH : R Reg.CNPY_COUNT_MISMATCH) (r_CNPY_EVENTS : R
    Reg.CNPY_EVENTS) (r_CNPY_MISMATCH_Q : R Reg.CNPY_MISMATCH_Q) (r_LEG_COUNT_UNDERRUN : R Reg.LEG_COUNT_UNDERRUN)
    (r_LEG_EVENTS : R Reg.LEG_EVENTS) (r_LEG_LANE_STATE : ∀ i, R (Reg.LEG_LANE_STATE i)) (r_LEG_STATUS : R
    Reg.LEG_STATUS) :
    FrameO F R sB (execGroupWindowClose stn bytes fault s) := by
  delta execGroupWindowClose
  split
  · exact FrameO.next hB
  · split
    · exact FrameO.next hB
    · lift_lets
      intro n short bs s1
      have h1 : Frame F R sB s1 := by
        dsimp only [s1]
        repeat' first
          | with_reducible assumption | lift_lets | with_reducible apply State.setFld_frame
          | with_reducible apply State.bump_frame | with_reducible apply State.raiseBit_frame
          | with_reducible apply State.deliver_frame | with_reducible apply State.legPost_frame
          | with_reducible apply State.legEvent_frame | with_reducible apply r_LEG_LANE_STATE
          | with_reducible apply Frame.ite
      intro s2
      have h2 : Frame F R sB s2 := by
        dsimp only [s2]
        generalize s1 = t at *
        repeat' first
          | with_reducible assumption | lift_lets | with_reducible apply State.setFld_frame
          | with_reducible apply State.bump_frame | with_reducible apply State.raiseBit_frame
          | with_reducible apply State.deliver_frame | with_reducible apply State.legPost_frame
          | with_reducible apply State.legEvent_frame | with_reducible apply r_LEG_LANE_STATE
          | with_reducible apply Frame.ite
      intro rows ends p1 l3 s3
      have h3 : Frame F R sB s3 := h2.mk' rfl
      refine FrameO.next ?_
      generalize s3 = t at *
      repeat' first
        | with_reducible assumption | lift_lets | with_reducible apply State.setFld_frame
        | with_reducible apply State.bump_frame | with_reducible apply State.raiseBit_frame
        | with_reducible apply State.deliver_frame | with_reducible apply State.legPost_frame
        | with_reducible apply State.legEvent_frame | with_reducible apply r_LEG_LANE_STATE
        | with_reducible apply Frame.ite

theorem execVideoLaneStateChange_frame {sB : State} (lane : Fin 4) (st : Fin 3) (s : State) (hB : Frame F R sB s)
    (f_host : F .host) (f_hwd : F .hwd) (r_LEG_EVENTS : R Reg.LEG_EVENTS)
    (r_LEG_LANE_STATE : ∀ i, R (Reg.LEG_LANE_STATE i)) :
    FrameO F R sB (execVideoLaneStateChange lane st s) := by
  delta execVideoLaneStateChange
  repeat' first
    | with_reducible assumption | lift_lets | with_reducible apply FrameO.next
    | with_reducible apply State.setFld_frame | with_reducible apply State.event_frame
    | with_reducible apply State.raiseBit_frame | with_reducible apply r_LEG_LANE_STATE | (intro x; clear_value x)
    | with_reducible apply FrameO.ite

theorem execTrace_frame {sB : State} (s : State) (hB : Frame F R sB s) (f_fresh : F .fresh) (f_host : F .host) (f_hwd
    : F .hwd) (r_HOST_ERR : R Reg.HOST_ERR) (r_LEG_TRACE : R Reg.LEG_TRACE) : FrameO F R sB (execTrace s) := by
  have h1 : Frame F R sB (s.takeItem 0x13 20) := by
    repeat' first
      | with_reducible assumption | lift_lets | with_reducible apply FrameO.next
      | with_reducible apply State.wrN_frame | with_reducible apply State.drawn_frame
      | with_reducible apply State.complete_frame | with_reducible apply State.takeItem_frame
      | with_reducible apply FrameO.ite
  unfold execTrace
  split
  · exact FrameO.next hB
  · dsimp only
    generalize s.takeItem 0x13 20 = t at *
    repeat' first
      | with_reducible assumption | lift_lets | with_reducible apply FrameO.next
      | with_reducible apply State.wrN_frame | with_reducible apply State.drawn_frame
      | with_reducible apply State.complete_frame | with_reducible apply State.takeItem_frame
      | with_reducible apply FrameO.ite

theorem State.legOutcome_frame {sB : State} (s : State) (p : LegPage) (hB : Frame F R sB s) (f_leg : F .leg)
    (r_LEG_COUNT_PAGES : R Reg.LEG_COUNT_PAGES) (r_LEG_STATUS : R Reg.LEG_STATUS) : Frame F R sB (s.legOutcome p) :=
    by
  unfold State.legOutcome
  dsimp only
  repeat' first
    | with_reducible assumption | lift_lets | with_reducible apply State.bump_frame
    | with_reducible apply State.legPost_frame | with_reducible apply Frame.ite | split
    | with_reducible refine Frame.mk' ?_ rfl

theorem State.legPurges_frame {sB : State} (s : State) (hB : Frame F R sB s) (f_fresh : F .fresh) (f_host : F .host)
    (f_ledg : F .ledg) (f_flt : F .flt) (f_hwd : F .hwd) (f_burl : F .burl) (f_scan : F .scan) (f_cnpy : F .cnpy)
    (f_leg : F .leg) (r_CNPY_COUNT_DROP : R Reg.CNPY_COUNT_DROP) (r_CNPY_COUNT_MISMATCH : R Reg.CNPY_COUNT_MISMATCH)
    (r_CNPY_EVENTS : R Reg.CNPY_EVENTS) (r_CNPY_MISMATCH_Q : R Reg.CNPY_MISMATCH_Q) (r_HOST_ERR : R Reg.HOST_ERR)
    (r_LEG_EVENTS : R Reg.LEG_EVENTS) :
    Frame F R sB (State.legPurges s) := by
  delta State.legPurges
  repeat' first
    | with_reducible assumption | intro (u : State) (hu : Frame F R sB u) | lift_lets
    | with_reducible apply State.legPurge_frame | with_reducible apply Frame.foldl | intro _
    | with_reducible refine Frame.mk' ?_ rfl

theorem State.legTick_frame {sB : State} (s : State) (hB : Frame (fun _ => True) (fun _ => True) sB s) : Frame (fun _
    => True) (fun _ => True) sB s.legTick := by
  unfold State.legTick
  split
  · exact hB
  · dsimp only
    have h1 : Frame (fun _ => True) (fun _ => True) sB s.byteTimeout.legDecide := by
      repeat' first
        | exact trivial | with_reducible assumption
        | intro (u : State) (hu : Frame (fun _ => True) (fun _ => True) sB u) | lift_lets
        | with_reducible apply State.legWrites_frame | with_reducible apply State.legDecide_frame
        | with_reducible apply State.byteTimeout_frame | with_reducible apply State.legOutcome_frame
        | with_reducible apply State.legPurges_frame | with_reducible apply Frame.foldl | intro _
        | with_reducible apply Frame.ite | with_reducible refine Frame.mk' ?_ rfl
    generalize s.byteTimeout.legDecide = s1 at *
    repeat' first
      | exact trivial | with_reducible assumption
      | intro (u : State) (hu : Frame (fun _ => True) (fun _ => True) sB u) | lift_lets
      | with_reducible apply State.legWrites_frame | with_reducible apply State.legDecide_frame
      | with_reducible apply State.byteTimeout_frame | with_reducible apply State.legOutcome_frame
      | with_reducible apply State.legPurges_frame | with_reducible apply Frame.foldl | intro _
      | with_reducible apply Frame.ite | with_reducible refine Frame.mk' ?_ rfl

theorem State.legEmit_frame {sB : State} (s : State) (hB : Frame F R sB s) (f_out : F .out) (f_leg : F .leg)
    (r_LEG_STATUS : R Reg.LEG_STATUS) :
    Frame F R sB (State.legEmit s) := by
  delta State.legEmit
  repeat' first
    | with_reducible assumption | lift_lets
    | (intro x; refine (fun (hx : Frame F R sB x) => ?_) ?_ <;> [clear_value x; subst x])
    | with_reducible apply State.setFlag_frame | with_reducible apply State.emit_frame | (intro x; clear_value x)
    | with_reducible apply Frame.ite | with_reducible refine Frame.mk' ?_ rfl

theorem State.applyPack_frame {sB : State} (rs : List (Nat × List Byte)) (s : State) (hB : Frame (fun _ => True) (fun
    _ => True) sB s) :
    Frame (fun _ => True) (fun _ => True) sB (State.applyPack rs s).2 := by
  induction rs generalizing s with
  | nil => exact hB
  | cons r rs ih =>
    obtain ⟨t, p⟩ := r
    unfold State.applyPack
    dsimp only
    split
    · split
      · repeat' first
          | exact trivial | exact fun _ => trivial | with_reducible assumption
          | intro (u : State) (hu : Frame (fun _ => True) (fun _ => True) sB u) | lift_lets
          | with_reducible apply State.discarded_frame | with_reducible apply State.loadPiece_frame
          | with_reducible apply State.bar1Store_frame | with_reducible apply State.regWrite_frame
          | with_reducible apply State.bar0Write_frame | with_reducible apply Frame.foldl | intro _
      · refine ih _ ?_
        repeat' first
          | exact trivial | exact fun _ => trivial | with_reducible assumption
          | intro (u : State) (hu : Frame (fun _ => True) (fun _ => True) sB u) | lift_lets
          | with_reducible apply State.discarded_frame | with_reducible apply State.loadPiece_frame
          | with_reducible apply State.bar1Store_frame | with_reducible apply State.regWrite_frame
          | with_reducible apply State.bar0Write_frame | with_reducible apply Frame.foldl | intro _
    · split
      · split
        · repeat' first
            | exact trivial | exact fun _ => trivial | with_reducible assumption
            | intro (u : State) (hu : Frame (fun _ => True) (fun _ => True) sB u) | lift_lets
            | with_reducible apply State.discarded_frame | with_reducible apply State.loadPiece_frame
            | with_reducible apply State.bar1Store_frame | with_reducible apply State.regWrite_frame
            | with_reducible apply State.bar0Write_frame | with_reducible apply Frame.foldl | intro _
        · refine ih _ ?_
          repeat' first
            | exact trivial | exact fun _ => trivial | with_reducible assumption
            | intro (u : State) (hu : Frame (fun _ => True) (fun _ => True) sB u) | lift_lets
            | with_reducible apply State.discarded_frame | with_reducible apply State.loadPiece_frame
            | with_reducible apply State.bar1Store_frame | with_reducible apply State.regWrite_frame
            | with_reducible apply State.bar0Write_frame | with_reducible apply Frame.foldl | intro _
      · split
        · refine ih _ ?_
          repeat' first
            | exact trivial | exact fun _ => trivial | with_reducible assumption
            | intro (u : State) (hu : Frame (fun _ => True) (fun _ => True) sB u) | lift_lets
            | with_reducible apply State.discarded_frame | with_reducible apply State.loadPiece_frame
            | with_reducible apply State.bar1Store_frame | with_reducible apply State.regWrite_frame
            | with_reducible apply State.bar0Write_frame | with_reducible apply Frame.foldl | intro _
        · exact ih _ hB

theorem State.checkNow_frame {sB : State} (s : State) (hB : Frame F R sB s) (f_host : F .host) (f_hwd : F .hwd)
    (r_ALM_EVENTS : R Reg.ALM_EVENTS) (r_ALM_SB_COST : R Reg.ALM_SB_COST) (r_ALM_SB_DETAIL : R Reg.ALM_SB_DETAIL)
    (r_ALM_SB_STATE : R Reg.ALM_SB_STATE) :
    Frame F R sB (State.checkNow s) := by
  delta State.checkNow
  repeat' first
    | with_reducible assumption | lift_lets | with_reducible apply State.event_frame
    | with_reducible apply State.raiseBit_frame | with_reducible apply State.setSb_frame
    | with_reducible apply State.refuseBank_frame | (intro x; clear_value x) | with_reducible apply Frame.ite | split

theorem State.releaseSteps_frame {sB : State} (s : State) (pack : List Byte) (hB : Frame (fun _ => True) (fun _ =>
    True) sB s) :
    Frame (fun _ => True) (fun _ => True) sB (s.releaseSteps pack).2 := by
  unfold State.releaseSteps
  split
  · exact hB
  · rename_i rs _
    have h1 : Frame (fun _ => True) (fun _ => True) sB (State.applyPack rs s).2 := by
      repeat' first
        | exact trivial | with_reducible assumption | lift_lets | with_reducible apply State.setLock_frame
        | with_reducible apply State.applyPack_frame | with_reducible apply State.checkNow_frame
        | with_reducible refine Frame.mk' ?_ rfl
    dsimp only
    generalize State.applyPack rs s = r at *
    have h2 : Frame (fun _ => True) (fun _ => True) sB r.2.checkNow := by
      repeat' first
        | exact trivial | with_reducible assumption | lift_lets | with_reducible apply State.setLock_frame
        | with_reducible apply State.applyPack_frame | with_reducible apply State.checkNow_frame
        | with_reducible refine Frame.mk' ?_ rfl
    generalize r.2.checkNow = t at *
    split
    · exact h1
    · split
      · exact h2
      · split
        · exact h2
        · split
          · exact h2
          · repeat' first
              | exact trivial | with_reducible assumption | lift_lets | with_reducible apply State.setLock_frame
              | with_reducible apply State.applyPack_frame | with_reducible apply State.checkNow_frame
              | with_reducible refine Frame.mk' ?_ rfl

theorem State.engineRelease_frame {sB : State} (s : State) (pack : List Byte) (hB : Frame (fun _ => True) (fun _ =>
    True) sB s) :
    Frame (fun _ => True) (fun _ => True) sB (s.engineRelease pack) := by
  have h1 : Frame (fun _ => True) (fun _ => True) sB (s.releaseSteps pack).2 := by
    repeat' first
      | exact trivial | with_reducible assumption | lift_lets | with_reducible apply State.setFld_frame
      | with_reducible apply State.event_frame | with_reducible apply State.raiseBit_frame
      | with_reducible apply State.legPost_frame | with_reducible apply State.setLeg_frame
      | with_reducible apply State.releaseSteps_frame | with_reducible apply Frame.ite
  unfold State.engineRelease
  dsimp only
  generalize s.releaseSteps pack = r at *
  repeat' first
    | exact trivial | with_reducible assumption | lift_lets | with_reducible apply State.setFld_frame
    | with_reducible apply State.event_frame | with_reducible apply State.raiseBit_frame
    | with_reducible apply State.legPost_frame | with_reducible apply State.setLeg_frame
    | with_reducible apply State.releaseSteps_frame | with_reducible apply Frame.ite

/-! ### Boot -/

theorem State.pairFirmware_frame {sB : State} (s : State) (fw : Nat) (tested : Bool) (hB : Frame F R sB s)
    (f_hwd : F .hwd) (r_LCS_STATUS : R Reg.LCS_STATUS) :
    Frame F R sB (State.pairFirmware s fw tested) := by
  delta State.pairFirmware
  repeat' first
    | with_reducible assumption | lift_lets | with_reducible apply State.setFlag_frame
    | with_reducible apply State.event_frame | (intro x; clear_value x) | with_reducible apply Frame.ite

theorem State.pairMode_frame {sB : State} (s : State) (modesel : Bool) (reason : Nat) (versions : List Nat)
    (hB : Frame F R sB s) (f_flt : F .flt) (f_hwd : F .hwd) (r_HOST_MODE : R Reg.HOST_MODE)
    (r_LCS_STATUS : R Reg.LCS_STATUS) :
    Frame F R sB (State.pairMode s modesel reason versions) := by
  delta State.pairMode
  repeat' first
    | with_reducible assumption | lift_lets | with_reducible apply State.setFld_frame
    | with_reducible apply State.setFlag_frame | with_reducible apply State.fault_frame
    | with_reducible apply State.event_frame | with_reducible apply Frame.ite

theorem State.lifecycleWipe_frame {sB : State} (s : State) (hB : Frame (fun _ => True) (fun _ => True) sB s) : Frame
    (fun _ => True) (fun _ => True) sB s.lifecycleWipe := by
  unfold State.lifecycleWipe
  split
  · exact hB
  · dsimp only
    have h1 := Frame.filter (fun r => !(regRow r.1).any (fun x => decide (x.access = .rws))) (t := { s with
      regs := s.regs.filter (fun r => !(regRow r.1).any (fun x => decide (x.access = .rws))),
      lcs := { s.lcs with accepted := [], marker := some s.lcs.fused } }) hB rfl
      (fun _ n => absurd trivial n) rfl rfl rfl rfl rfl
    repeat' first
      | exact trivial | exact fun _ => trivial | with_reducible assumption
      | with_reducible apply State.wipeStore_frame

theorem State.startFirmware_frame {sB : State} (s : State) (f : Flash)
    (hB : Frame (fun _ => True) (fun _ => True) sB s) :
    Frame (fun _ => True) (fun _ => True) sB (State.startFirmware s f) := by
  delta State.startFirmware
  repeat' first
    | exact trivial | exact fun _ => trivial | with_reducible assumption | lift_lets
    | (intro x; refine (fun (hx : Frame (fun _ => True) (fun _ => True) sB x) => ?_) ?_ <;> [clear_value x; subst x])
    | with_reducible apply State.setFlag_frame | with_reducible apply State.configureQueues_frame
    | with_reducible apply State.seqUp_frame | with_reducible apply State.engineRelease_frame | intro (x : LcsBlk)
    | with_reducible apply Frame.ite | with_reducible refine Frame.mk' ?_ rfl

theorem State.bootWith_frame {sB : State} (s : State) (f : Flash) (slot : Nat) (fw : List Byte) (codes : Nat)
    (hB : Frame (fun _ => True) (fun _ => True) sB s) :
    Frame (fun _ => True) (fun _ => True) sB (State.bootWith s f slot fw codes) := by
  delta State.bootWith
  repeat' first
    | exact trivial | with_reducible assumption | lift_lets | with_reducible apply State.wrN_frame
    | with_reducible apply State.event_frame | with_reducible apply State.pairFirmware_frame
    | with_reducible apply State.pairMode_frame | with_reducible apply State.startFirmware_frame

theorem execBoot_frame {sB : State} (f : Flash) (s : State) (hB : Frame (fun _ => True) (fun _ => True) sB s) :
    FrameO (fun _ => True) (fun _ => True) sB (execBoot f s) := by
  delta execBoot
  repeat' first
    | exact trivial | with_reducible assumption | lift_lets
    | (intro x; refine (fun (hx : Frame (fun _ => True) (fun _ => True) sB x) => ?_) ?_ <;> [clear_value x; subst x])
    | with_reducible apply FrameO.next | with_reducible apply State.wrN_frame
    | with_reducible apply State.setFlag_frame | with_reducible apply State.lifecycleWipe_frame
    | with_reducible apply State.bootWith_frame | (intro x; clear_value x) | with_reducible apply FrameO.ite | split

theorem execBootStaged_frame {sB : State} (f : Flash) (s : State) (hB : Frame (fun _ => True) (fun _ => True) sB s) :
    FrameO (fun _ => True) (fun _ => True) sB (execBootStaged f s) := by
  delta execBootStaged
  repeat' first
    | exact trivial | with_reducible assumption | lift_lets | with_reducible apply FrameO.next
    | with_reducible apply State.setFld_frame | with_reducible apply State.setFlag_frame
    | with_reducible apply State.bootWith_frame | (intro x; clear_value x) | with_reducible apply FrameO.ite

/-! ### Decide -/

theorem State.act_frame {sB : State} (s : State) (f : State → Host.Outcome State Fault Refusal)
    (hf : ∀ u, Frame F R sB u → FrameO F R sB (f u)) (hB : Frame F R sB s) : Frame F R sB (s.act f) := by
  unfold State.act
  split
  · rename_i t e
    exact (hf _ hB).get e
  · exact hB

theorem State.gatherSlot_frame {sB : State} (s : State) (p : PageSlot) (hB : Frame F R sB s)
    (hF : ∀ b, b ≠ Blk.tick → F b) (hR : ∀ a, R a) :
    Frame F R sB (State.gatherSlot s p) := by
  delta State.gatherSlot
  obtain ⟨f_fresh, f_out, f_sram, f_host, f_alm, f_ledg, f_pace, f_flt, f_hwd, f_burl, f_dram, f_scan, f_beam, f_step, f_sio, f_axis, f_loop, f_cnpy, f_dma, f_pwr, f_thm, f_clk, f_lcs, f_leg⟩ := Blk.but_tick hF
  repeat' first
    | with_reducible exact hR _ | exact fun _ => hR _ | with_reducible assumption
    | with_reducible apply State.drainDoorbells_frame | with_reducible apply State.stepLinkIn_frame
    | with_reducible apply State.gatherChain_frame | with_reducible apply State.homeCapture_frame
    | with_reducible apply State.axisLinkIn_frame | with_reducible apply State.hvLinkIn_frame
    | with_reducible apply State.readCells_frame | with_reducible apply State.gatherReads_frame | split

theorem State.gatherBegun_frame {sB : State} (s : State) (hB : Frame F R sB s) (hF : ∀ b, b ≠ Blk.tick → F b)
    (hR : ∀ a, R a) :
    Frame F R sB (State.gatherBegun s) := by
  delta State.gatherBegun
  obtain ⟨f_fresh, f_out, f_sram, f_host, f_alm, f_ledg, f_pace, f_flt, f_hwd, f_burl, f_dram, f_scan, f_beam, f_step, f_sio, f_axis, f_loop, f_cnpy, f_dma, f_pwr, f_thm, f_clk, f_lcs, f_leg⟩ := Blk.but_tick hF
  repeat' first
    | with_reducible assumption | intro (u : State) (hu : Frame F R sB u) | lift_lets
    | with_reducible apply State.upTo_frame | with_reducible apply execBandBegun_frame
    | with_reducible apply State.act_frame | intro _

theorem State.gatherAll_frame {sB : State} (s : State) (hB : Frame F R sB s) (hF : ∀ b, b ≠ Blk.tick → F b)
    (hR : ∀ a, R a) :
    Frame F R sB (State.gatherAll s) := by
  delta State.gatherAll
  obtain ⟨f_fresh, f_out, f_sram, f_host, f_alm, f_ledg, f_pace, f_flt, f_hwd, f_burl, f_dram, f_scan, f_beam, f_step, f_sio, f_axis, f_loop, f_cnpy, f_dma, f_pwr, f_thm, f_clk, f_lcs, f_leg⟩ := Blk.but_tick hF
  repeat' first
    | with_reducible exact hR _ | exact fun _ => hR _ | with_reducible assumption
    | intro (u : State) (hu : Frame F R sB u) | lift_lets
    | (intro x; refine (fun (hx : Frame F R sB x) => ?_) ?_ <;> [clear_value x; subst x])
    | with_reducible apply State.drainCompletions_frame | with_reducible apply State.poolCheck_frame
    | with_reducible apply State.drainTelemetry_frame | with_reducible apply State.readHolding_frame
    | with_reducible apply State.linkCells_frame | with_reducible apply State.gatherSlot_frame
    | with_reducible apply State.gatherBegun_frame | with_reducible apply Frame.foldl | intro _

theorem State.facetPeriods_frame {sB : State} (s : State) (a : Nat) (hB : Frame F R sB s)
    (hF : ∀ b, b ≠ Blk.tick → F b) (hR : ∀ a, R a) :
    Frame F R sB (State.facetPeriods s a) := by
  delta State.facetPeriods
  obtain ⟨f_fresh, f_out, f_sram, f_host, f_alm, f_ledg, f_pace, f_flt, f_hwd, f_burl, f_dram, f_scan, f_beam, f_step, f_sio, f_axis, f_loop, f_cnpy, f_dma, f_pwr, f_thm, f_clk, f_lcs, f_leg⟩ := Blk.but_tick hF
  repeat' first
    | with_reducible exact hR _ | exact fun _ => hR _ | with_reducible assumption
    | intro (u : State) (hu : Frame F R sB u) | lift_lets | with_reducible apply State.upTo_frame
    | with_reducible apply execFacetPeriodGathered_frame | with_reducible apply State.act_frame | intro _

theorem State.openWork_frame {sB : State} (s : State) (hB : Frame F R sB s) (hF : ∀ b, b ≠ Blk.tick → F b)
    (hR : ∀ a, R a) :
    Frame F R sB (State.openWork s) := by
  delta State.openWork
  obtain ⟨f_fresh, f_out, f_sram, f_host, f_alm, f_ledg, f_pace, f_flt, f_hwd, f_burl, f_dram, f_scan, f_beam, f_step, f_sio, f_axis, f_loop, f_cnpy, f_dma, f_pwr, f_thm, f_clk, f_lcs, f_leg⟩ := Blk.but_tick hF
  repeat' first
    | with_reducible exact hR _ | exact fun _ => hR _ | exact fun _ _ => hR _ | with_reducible assumption
    | intro (u : State) (hu : Frame F R sB u) | lift_lets
    | (intro x; refine (fun (hx : Frame F R sB x) => ?_) ?_ <;> [clear_value x; subst x])
    | with_reducible apply State.upTo_frame | with_reducible apply State.stepReturns_frame
    | with_reducible apply State.camDecide_frame | with_reducible apply State.axisReturns_frame
    | with_reducible apply State.hvReturns_frame | with_reducible apply State.retestSwitch_frame
    | with_reducible apply State.paceStage_frame | with_reducible apply State.forecast_frame
    | with_reducible apply State.governorStepDown_frame | with_reducible apply State.fltEvaluate_frame
    | with_reducible apply State.gatherPaths_frame | with_reducible apply State.retrainLinks_frame
    | with_reducible apply State.facetPeriods_frame | intro _

theorem State.openDecide_frame {sB : State} (s : State) (hB : Frame F R sB s) (hF : ∀ b, b ≠ Blk.tick → F b)
    (hR : ∀ a, R a) :
    Frame F R sB (State.openDecide s) := by
  delta State.openDecide
  obtain ⟨f_fresh, f_out, f_sram, f_host, f_alm, f_ledg, f_pace, f_flt, f_hwd, f_burl, f_dram, f_scan, f_beam, f_step, f_sio, f_axis, f_loop, f_cnpy, f_dma, f_pwr, f_thm, f_clk, f_lcs, f_leg⟩ := Blk.but_tick hF
  repeat' first
    | exact fun _ => hR _ | with_reducible assumption | lift_lets
    | (intro x; refine (fun (hx : Frame F R sB x) => ?_) ?_ <;> [clear_value x; subst x])
    | with_reducible apply State.gatherAll_frame | with_reducible apply State.openWork_frame | intro (x : AlmBlk)
    | with_reducible apply Frame.ite | with_reducible refine Frame.mk' ?_ rfl

theorem State.begin_frame {sB : State} (s : State) (u : Turn) (hB : Frame F R sB s) (hF : ∀ b, b ≠ Blk.tick → F b)
    (hR : ∀ a, R a) : Frame F R sB (s.begin u) := by
  obtain ⟨f_fresh, f_out, f_sram, f_host, f_alm, f_ledg, f_pace, f_flt, f_hwd, f_burl, f_dram, f_scan, f_beam, f_step, f_sio, f_axis, f_loop, f_cnpy, f_dma, f_pwr, f_thm, f_clk, f_lcs, f_leg⟩ := Blk.but_tick hF
  unfold State.begin
  split
  · exact hB
  · repeat' first
      | with_reducible exact hR _ | exact fun _ => hR _ | with_reducible assumption | lift_lets
      | with_reducible apply State.stepDue_frame | with_reducible apply State.axisDue_frame
      | with_reducible apply State.linkDue_frame | with_reducible apply State.openDecide_frame
  · repeat' first
      | with_reducible exact hR _ | exact fun _ => hR _ | with_reducible assumption | lift_lets
      | with_reducible apply State.stepDue_frame | with_reducible apply State.axisDue_frame
      | with_reducible apply State.linkDue_frame | with_reducible apply State.openDecide_frame
  · repeat' first
      | with_reducible exact hR _ | exact fun _ => hR _ | with_reducible assumption | lift_lets
      | with_reducible apply State.stepDue_frame | with_reducible apply State.axisDue_frame
      | with_reducible apply State.linkDue_frame | with_reducible apply State.openDecide_frame
  · repeat' first
      | with_reducible exact hR _ | exact fun _ => hR _ | with_reducible assumption | lift_lets
      | with_reducible apply State.stepDue_frame | with_reducible apply State.axisDue_frame
      | with_reducible apply State.linkDue_frame | with_reducible apply State.openDecide_frame
  · repeat' first
      | with_reducible exact hR _ | exact fun _ => hR _ | with_reducible assumption | lift_lets
      | with_reducible apply State.stepDue_frame | with_reducible apply State.axisDue_frame
      | with_reducible apply State.linkDue_frame | with_reducible apply State.openDecide_frame

theorem Turn.run_frame {sB : State} (u : Turn) (f : State → Host.Outcome State Fault Refusal) (s : State)
    (hf : ∀ v, Frame F R sB v → FrameO F R sB (f v)) (hB : Frame F R sB s) (hF : ∀ b, b ≠ Blk.tick → F b)
    (hR : ∀ a, R a) : FrameO F R sB (u.run f s) := by
  have h0 := State.begin_frame s u hB hF hR
  unfold Turn.run
  dsimp only
  split
  · exact hf _ h0
  · exact FrameO.next h0

/-! ### Tick -/

theorem State.linkClose_frame {sB : State} (s : State) (l : LinkId) (hB : Frame F R sB s)
    (hF : ∀ b, b ≠ Blk.tick → F b) (hR : ∀ a, R a) :
    Frame F R sB (State.linkClose s l) := by
  delta State.linkClose
  obtain ⟨f_fresh, f_out, f_sram, f_host, f_alm, f_ledg, f_pace, f_flt, f_hwd, f_burl, f_dram, f_scan, f_beam, f_step, f_sio, f_axis, f_loop, f_cnpy, f_dma, f_pwr, f_thm, f_clk, f_lcs, f_leg⟩ := Blk.but_tick hF
  repeat' first
    | with_reducible exact hR _ | exact fun _ => hR _ | with_reducible assumption
    | intro (u : State) (hu : Frame F R sB u) | lift_lets | with_reducible apply execLinkTrainingTimeout_frame
    | with_reducible apply State.linkDue_frame | with_reducible apply execLinkRetrain_frame
    | with_reducible apply State.act_frame

theorem State.beamClose_frame {sB : State} (s : State) (i : Nat) (hB : Frame F R sB s) (hF : ∀ b, b ≠ Blk.tick → F b)
    (hR : ∀ a, R a) :
    Frame F R sB (State.beamClose s i) := by
  delta State.beamClose
  obtain ⟨f_fresh, f_out, f_sram, f_host, f_alm, f_ledg, f_pace, f_flt, f_hwd, f_burl, f_dram, f_scan, f_beam, f_step, f_sio, f_axis, f_loop, f_cnpy, f_dma, f_pwr, f_thm, f_clk, f_lcs, f_leg⟩ := Blk.but_tick hF
  repeat' first
    | with_reducible exact hR _ | exact fun _ => hR _ | with_reducible assumption
    | intro (u : State) (hu : Frame F R sB u) | lift_lets
    | (intro x; refine (fun (hx : Frame F R sB x) => ?_) ?_ <;> [clear_value x; subst x])
    | with_reducible apply execReportTimeout_frame | with_reducible apply execTableAckTimeout_frame
    | with_reducible apply State.act_frame | with_reducible apply Frame.foldl | intro _

theorem State.stepClose_frame {sB : State} (s : State) (a : Nat) (hB : Frame F R sB s) (hF : ∀ b, b ≠ Blk.tick → F b)
    (hR : ∀ a, R a) :
    Frame F R sB (State.stepClose s a) := by
  delta State.stepClose
  obtain ⟨f_fresh, f_out, f_sram, f_host, f_alm, f_ledg, f_pace, f_flt, f_hwd, f_burl, f_dram, f_scan, f_beam, f_step, f_sio, f_axis, f_loop, f_cnpy, f_dma, f_pwr, f_thm, f_clk, f_lcs, f_leg⟩ := Blk.but_tick hF
  repeat' first
    | with_reducible exact hR _ | exact fun _ => hR _ | with_reducible assumption
    | intro (u : State) (hu : Frame F R sB u) | lift_lets | with_reducible apply effReverseDwellEnd_frame
    | with_reducible apply State.stepDue_frame | with_reducible apply State.act_frame

theorem State.closeMotion_frame {sB : State} (s : State) (hB : Frame F R sB s) (hF : ∀ b, b ≠ Blk.tick → F b)
    (hR : ∀ a, R a) :
    Frame F R sB (State.closeMotion s) := by
  delta State.closeMotion
  obtain ⟨f_fresh, f_out, f_sram, f_host, f_alm, f_ledg, f_pace, f_flt, f_hwd, f_burl, f_dram, f_scan, f_beam, f_step, f_sio, f_axis, f_loop, f_cnpy, f_dma, f_pwr, f_thm, f_clk, f_lcs, f_leg⟩ := Blk.but_tick hF
  repeat' first
    | with_reducible exact hR _ | exact fun _ => hR _ | with_reducible assumption
    | intro (u : State) (hu : Frame F R sB u) | lift_lets | with_reducible apply State.upTo_frame
    | with_reducible apply State.axisDue_frame | with_reducible apply State.linkClose_frame
    | with_reducible apply State.beamClose_frame | with_reducible apply State.stepClose_frame
    | with_reducible apply Frame.foldl | intro _

theorem State.eachReport_frame {sB : State} (s : State) (f : State → Host.Outcome State Fault Refusal)
    (hf : ∀ u, Frame F R sB u → FrameO F R sB (f u)) (hB : Frame F R sB s) (hF : ∀ b, b ≠ Blk.tick → F b)
    (hR : ∀ a, R a) :
    Frame F R sB (State.eachReport s f) := by
  delta State.eachReport
  obtain ⟨f_fresh, f_out, f_sram, f_host, f_alm, f_ledg, f_pace, f_flt, f_hwd, f_burl, f_dram, f_scan, f_beam, f_step, f_sio, f_axis, f_loop, f_cnpy, f_dma, f_pwr, f_thm, f_clk, f_lcs, f_leg⟩ := Blk.but_tick hF
  repeat' first
    | with_reducible assumption | intro (u : State) (hu : Frame F R sB u) | lift_lets
    | with_reducible apply State.upTo_frame | with_reducible apply State.act_frame | intro _

theorem State.eachSheet_frame {sB : State} (s : State) (f : State → Nat → State)
    (hf : ∀ u, Frame F R sB u → ∀ x0, Frame F R sB (f u x0)) (hB : Frame F R sB s) (hF : ∀ b, b ≠ Blk.tick → F b)
    (hR : ∀ a, R a) :
    Frame F R sB (State.eachSheet s f) := by
  delta State.eachSheet
  obtain ⟨f_fresh, f_out, f_sram, f_host, f_alm, f_ledg, f_pace, f_flt, f_hwd, f_burl, f_dram, f_scan, f_beam, f_step, f_sio, f_axis, f_loop, f_cnpy, f_dma, f_pwr, f_thm, f_clk, f_lcs, f_leg⟩ := Blk.but_tick hF
  repeat' first
    | with_reducible assumption | intro (u : State) (hu : Frame F R sB u) | lift_lets | with_reducible apply hf
    | with_reducible apply Frame.foldl | intro _

theorem State.ledgerHeads_frame {sB : State} (s : State) (hB : Frame F R sB s) (hF : ∀ b, b ≠ Blk.tick → F b)
    (hR : ∀ a, R a) :
    Frame F R sB (State.ledgerHeads s) := by
  delta State.ledgerHeads
  obtain ⟨f_fresh, f_out, f_sram, f_host, f_alm, f_ledg, f_pace, f_flt, f_hwd, f_burl, f_dram, f_scan, f_beam, f_step, f_sio, f_axis, f_loop, f_cnpy, f_dma, f_pwr, f_thm, f_clk, f_lcs, f_leg⟩ := Blk.but_tick hF
  repeat' first
    | with_reducible exact hR _ | exact fun _ => hR _ | with_reducible assumption
    | intro (u : State) (hu : Frame F R sB u) | lift_lets | with_reducible apply effInterlockGathered_frame
    | with_reducible apply effHeadShutdownReport_frame | with_reducible apply State.act_frame
    | with_reducible apply State.eachReport_frame

theorem State.sheetDeadlines_frame {sB : State} (s : State) (sh : Sheet) (hB : Frame F R sB s)
    (hF : ∀ b, b ≠ Blk.tick → F b) (hR : ∀ a, R a) :
    Frame F R sB (State.sheetDeadlines s sh) := by
  delta State.sheetDeadlines
  obtain ⟨f_fresh, f_out, f_sram, f_host, f_alm, f_ledg, f_pace, f_flt, f_hwd, f_burl, f_dram, f_scan, f_beam, f_step, f_sio, f_axis, f_loop, f_cnpy, f_dma, f_pwr, f_thm, f_clk, f_lcs, f_leg⟩ := Blk.but_tick hF
  repeat' first
    | with_reducible exact hR _ | with_reducible assumption | intro (u : State) (hu : Frame F R sB u) | lift_lets
    | with_reducible apply effBandDeadline_frame | with_reducible apply State.act_frame
    | with_reducible apply Frame.foldl | intro _

theorem State.ledgerSpoils_frame {sB : State} (s : State) (hB : Frame F R sB s) (hF : ∀ b, b ≠ Blk.tick → F b)
    (hR : ∀ a, R a) :
    Frame F R sB (State.ledgerSpoils s) := by
  delta State.ledgerSpoils
  obtain ⟨f_fresh, f_out, f_sram, f_host, f_alm, f_ledg, f_pace, f_flt, f_hwd, f_burl, f_dram, f_scan, f_beam, f_step, f_sio, f_axis, f_loop, f_cnpy, f_dma, f_pwr, f_thm, f_clk, f_lcs, f_leg⟩ := Blk.but_tick hF
  repeat' first
    | with_reducible exact hR _ | exact fun _ => hR _ | with_reducible assumption
    | intro (u : State) (hu : Frame F R sB u) | lift_lets
    | (intro x; refine (fun (hx : Frame F R sB x) => ?_) ?_ <;> [clear_value x; subst x])
    | with_reducible apply effUnderrunReport_frame | with_reducible apply effBeamFailureReport_frame
    | with_reducible apply effObserverLossReport_frame | with_reducible apply effDecodeFailureReport_frame
    | with_reducible apply State.eachReport_frame | with_reducible apply State.sheetDeadlines_frame
    | with_reducible apply Frame.foldl | intro _

theorem State.sheetTargets_frame {sB : State} (s : State) (id : Nat) (hB : Frame F R sB s)
    (hF : ∀ b, b ≠ Blk.tick → F b) (hR : ∀ a, R a) :
    Frame F R sB (State.sheetTargets s id) := by
  delta State.sheetTargets
  obtain ⟨f_fresh, f_out, f_sram, f_host, f_alm, f_ledg, f_pace, f_flt, f_hwd, f_burl, f_dram, f_scan, f_beam, f_step, f_sio, f_axis, f_loop, f_cnpy, f_dma, f_pwr, f_thm, f_clk, f_lcs, f_leg⟩ := Blk.but_tick hF
  repeat' first
    | with_reducible exact hR _ | with_reducible assumption | intro (u : State) (hu : Frame F R sB u) | lift_lets
    | with_reducible apply effEdgeWindowExpiry_frame | with_reducible apply effTargetWithoutEdge_frame
    | with_reducible apply State.act_frame | with_reducible apply Frame.foldl | intro _

theorem State.pointEdges_frame {sB : State} (s : State) (k : Nat) (hB : Frame F R sB s) (hF : ∀ b, b ≠ Blk.tick → F b)
    (hR : ∀ a, R a) :
    Frame F R sB (State.pointEdges s k) := by
  delta State.pointEdges
  obtain ⟨f_fresh, f_out, f_sram, f_host, f_alm, f_ledg, f_pace, f_flt, f_hwd, f_burl, f_dram, f_scan, f_beam, f_step, f_sio, f_axis, f_loop, f_cnpy, f_dma, f_pwr, f_thm, f_clk, f_lcs, f_leg⟩ := Blk.but_tick hF
  repeat' first
    | with_reducible exact hR _ | with_reducible assumption | intro (u : State) (hu : Frame F R sB u) | lift_lets
    | with_reducible apply State.upTo_frame | with_reducible apply effSheetEdge_frame
    | with_reducible apply State.act_frame | intro _

theorem State.ledgerEdges_frame {sB : State} (s : State) (hB : Frame F R sB s) (hF : ∀ b, b ≠ Blk.tick → F b)
    (hR : ∀ a, R a) :
    Frame F R sB (State.ledgerEdges s) := by
  delta State.ledgerEdges
  obtain ⟨f_fresh, f_out, f_sram, f_host, f_alm, f_ledg, f_pace, f_flt, f_hwd, f_burl, f_dram, f_scan, f_beam, f_step, f_sio, f_axis, f_loop, f_cnpy, f_dma, f_pwr, f_thm, f_clk, f_lcs, f_leg⟩ := Blk.but_tick hF
  repeat' first
    | exact fun _ => hR _ | with_reducible assumption | intro (u : State) (hu : Frame F R sB u) | lift_lets
    | with_reducible apply State.upTo_frame | with_reducible apply State.eachSheet_frame
    | with_reducible apply State.sheetTargets_frame | with_reducible apply State.pointEdges_frame | intro _

theorem State.ledgerItem_frame {sB : State} (s : State) (hB : Frame F R sB s) (hF : ∀ b, b ≠ Blk.tick → F b)
    (hR : ∀ a, R a) :
    Frame F R sB (State.ledgerItem s) := by
  delta State.ledgerItem
  obtain ⟨f_fresh, f_out, f_sram, f_host, f_alm, f_ledg, f_pace, f_flt, f_hwd, f_burl, f_dram, f_scan, f_beam, f_step, f_sio, f_axis, f_loop, f_cnpy, f_dma, f_pwr, f_thm, f_clk, f_lcs, f_leg⟩ := Blk.but_tick hF
  repeat' first
    | with_reducible exact hR _ | with_reducible assumption | intro (u : State) (hu : Frame F R sB u) | lift_lets
    | with_reducible apply effAnnounce_frame | with_reducible apply effPurge_frame
    | with_reducible apply effReprint_frame | with_reducible apply effJamClear_frame
    | with_reducible apply effQuery_frame | with_reducible apply State.act_frame

theorem State.ledgerItems_frame {sB : State} (s : State) (hB : Frame F R sB s) (hF : ∀ b, b ≠ Blk.tick → F b)
    (hR : ∀ a, R a) :
    Frame F R sB (State.ledgerItems s) := by
  delta State.ledgerItems
  obtain ⟨f_fresh, f_out, f_sram, f_host, f_alm, f_ledg, f_pace, f_flt, f_hwd, f_burl, f_dram, f_scan, f_beam, f_step, f_sio, f_axis, f_loop, f_cnpy, f_dma, f_pwr, f_thm, f_clk, f_lcs, f_leg⟩ := Blk.but_tick hF
  repeat' first
    | with_reducible exact hR _ | exact fun _ => hR _ | with_reducible assumption
    | intro (u : State) (hu : Frame F R sB u) | lift_lets | with_reducible apply State.upTo_frame
    | with_reducible apply effEarlyWaitExpiry_frame | with_reducible apply State.act_frame
    | with_reducible apply State.ledgerItem_frame | intro _

theorem State.bhClose_frame {sB : State} (s : State) (hB : Frame F R sB s) (hF : ∀ b, b ≠ Blk.tick → F b)
    (hR : ∀ a, R a) :
    Frame F R sB (State.bhClose s) := by
  delta State.bhClose
  obtain ⟨f_fresh, f_out, f_sram, f_host, f_alm, f_ledg, f_pace, f_flt, f_hwd, f_burl, f_dram, f_scan, f_beam, f_step, f_sio, f_axis, f_loop, f_cnpy, f_dma, f_pwr, f_thm, f_clk, f_lcs, f_leg⟩ := Blk.but_tick hF
  repeat' first
    | with_reducible exact hR _ | with_reducible assumption | intro (u : State) (hu : Frame F R sB u) | lift_lets
    | with_reducible apply effBhDecel_frame | with_reducible apply effBhStop_frame
    | with_reducible apply effBhReverse_frame | with_reducible apply effBhPark_frame
    | with_reducible apply effBhAccel_frame | with_reducible apply effBhReverseAgain_frame
    | with_reducible apply effBhEnd_frame | with_reducible apply effParkLong_frame
    | with_reducible apply State.act_frame

theorem State.ledgerPath_frame {sB : State} (s : State) (hB : Frame F R sB s) (hF : ∀ b, b ≠ Blk.tick → F b)
    (hR : ∀ a, R a) :
    Frame F R sB (State.ledgerPath s) := by
  delta State.ledgerPath
  obtain ⟨f_fresh, f_out, f_sram, f_host, f_alm, f_ledg, f_pace, f_flt, f_hwd, f_burl, f_dram, f_scan, f_beam, f_step, f_sio, f_axis, f_loop, f_cnpy, f_dma, f_pwr, f_thm, f_clk, f_lcs, f_leg⟩ := Blk.but_tick hF
  repeat' first
    | with_reducible exact hR _ | exact fun _ => hR _ | with_reducible assumption
    | intro (u : State) (hu : Frame F R sB u) | lift_lets
    | (intro x; refine (fun (hx : Frame F R sB x) => ?_) ?_ <;> [clear_value x; subst x])
    | with_reducible apply State.progress_frame | with_reducible apply effGovernorStepUp_frame
    | with_reducible apply State.showHead_frame | with_reducible apply effBackhitchDecided_frame
    | with_reducible apply effAdmission_frame | with_reducible apply effCommit_frame
    | with_reducible apply effLastLine_frame | with_reducible apply effEntryFreed_frame
    | with_reducible apply State.act_frame | with_reducible apply State.eachReport_frame
    | with_reducible apply State.eachSheet_frame | with_reducible apply State.bhClose_frame | intro _

theorem State.closeLedger_frame {sB : State} (s : State) (hB : Frame F R sB s) (hF : ∀ b, b ≠ Blk.tick → F b)
    (hR : ∀ a, R a) :
    Frame F R sB (State.closeLedger s) := by
  delta State.closeLedger
  obtain ⟨f_fresh, f_out, f_sram, f_host, f_alm, f_ledg, f_pace, f_flt, f_hwd, f_burl, f_dram, f_scan, f_beam, f_step, f_sio, f_axis, f_loop, f_cnpy, f_dma, f_pwr, f_thm, f_clk, f_lcs, f_leg⟩ := Blk.but_tick hF
  repeat' first
    | exact fun _ => hR _ | with_reducible assumption | lift_lets | with_reducible apply State.ledgerHeads_frame
    | with_reducible apply State.ledgerSpoils_frame | with_reducible apply State.ledgerEdges_frame
    | with_reducible apply State.ledgerItems_frame | with_reducible apply State.ledgerPath_frame

theorem State.closeClassT_frame {sB : State} (s : State) (hB : Frame F R sB s) (hF : ∀ b, b ≠ Blk.tick → F b)
    (hR : ∀ a, R a) :
    Frame F R sB (State.closeClassT s) := by
  delta State.closeClassT
  obtain ⟨f_fresh, f_out, f_sram, f_host, f_alm, f_ledg, f_pace, f_flt, f_hwd, f_burl, f_dram, f_scan, f_beam, f_step, f_sio, f_axis, f_loop, f_cnpy, f_dma, f_pwr, f_thm, f_clk, f_lcs, f_leg⟩ := Blk.but_tick hF
  repeat' first
    | with_reducible assumption | intro (u : State) (hu : Frame F R sB u) | lift_lets
    | with_reducible apply effClassTTimeout_frame | with_reducible apply State.act_frame
    | with_reducible apply Frame.foldl | intro _

theorem State.closeThermal_frame {sB : State} (s : State) (hB : Frame F R sB s) (hF : ∀ b, b ≠ Blk.tick → F b)
    (hR : ∀ a, R a) :
    Frame F R sB (State.closeThermal s) := by
  delta State.closeThermal
  obtain ⟨f_fresh, f_out, f_sram, f_host, f_alm, f_ledg, f_pace, f_flt, f_hwd, f_burl, f_dram, f_scan, f_beam, f_step, f_sio, f_axis, f_loop, f_cnpy, f_dma, f_pwr, f_thm, f_clk, f_lcs, f_leg⟩ := Blk.but_tick hF
  repeat' first
    | with_reducible exact hR _ | exact fun _ => hR _ | with_reducible assumption
    | intro (u : State) (hu : Frame F R sB u) | lift_lets | with_reducible apply State.upTo_frame
    | with_reducible apply State.compareThermal_frame | with_reducible apply effThrottleRepeat_frame
    | with_reducible apply State.thawHead_frame | with_reducible apply State.act_frame | intro _

theorem State.decideSlot_frame {sB : State} (s : State) (p : PageSlot) (hB : Frame F R sB s)
    (hF : ∀ b, b ≠ Blk.tick → F b) (hR : ∀ a, R a) :
    Frame F R sB (State.decideSlot s p) := by
  delta State.decideSlot
  obtain ⟨f_fresh, f_out, f_sram, f_host, f_alm, f_ledg, f_pace, f_flt, f_hwd, f_burl, f_dram, f_scan, f_beam, f_step, f_sio, f_axis, f_loop, f_cnpy, f_dma, f_pwr, f_thm, f_clk, f_lcs, f_leg⟩ := Blk.but_tick hF
  repeat' first
    | exact fun _ => hR _ | with_reducible assumption | with_reducible apply State.closeLedger_frame
    | with_reducible apply State.closeClassT_frame | with_reducible apply State.closeThermal_frame | split

theorem State.closeAlmanac_frame {sB : State} (s : State) (hB : Frame F R sB s) (hF : ∀ b, b ≠ Blk.tick → F b)
    (hR : ∀ a, R a) :
    Frame F R sB (State.closeAlmanac s) := by
  delta State.closeAlmanac
  obtain ⟨f_fresh, f_out, f_sram, f_host, f_alm, f_ledg, f_pace, f_flt, f_hwd, f_burl, f_dram, f_scan, f_beam, f_step, f_sio, f_axis, f_loop, f_cnpy, f_dma, f_pwr, f_thm, f_clk, f_lcs, f_leg⟩ := Blk.but_tick hF
  repeat' first
    | with_reducible exact hR _ | exact fun _ => hR _ | with_reducible assumption
    | intro (u : State) (hu : Frame F R sB u) | lift_lets | with_reducible apply effCheckDone_frame
    | with_reducible apply effBankSwitch_frame | with_reducible apply effSwitchLapse_frame
    | with_reducible apply effGradeChange_frame | with_reducible apply effReleaseAfterDrain_frame
    | with_reducible apply effDrainingEnd_frame | with_reducible apply effFirstActivation_frame
    | with_reducible apply State.act_frame | with_reducible apply Frame.ite

theorem State.closePower_frame {sB : State} (s : State) (hB : Frame F R sB s) (hF : ∀ b, b ≠ Blk.tick → F b)
    (hR : ∀ a, R a) :
    Frame F R sB (State.closePower s) := by
  delta State.closePower
  obtain ⟨f_fresh, f_out, f_sram, f_host, f_alm, f_ledg, f_pace, f_flt, f_hwd, f_burl, f_dram, f_scan, f_beam, f_step, f_sio, f_axis, f_loop, f_cnpy, f_dma, f_pwr, f_thm, f_clk, f_lcs, f_leg⟩ := Blk.but_tick hF
  repeat' first
    | with_reducible exact hR _ | exact fun _ => hR _ | with_reducible assumption
    | intro (u : State) (hu : Frame F R sB u) | lift_lets | with_reducible apply State.upTo_frame
    | with_reducible apply State.maybeUp_frame | with_reducible apply State.railSlot_frame
    | with_reducible apply State.pgTimeout_frame | with_reducible apply State.offWaitEnd_frame
    | with_reducible apply State.marginStep_frame | intro _

theorem State.closeDma_frame {sB : State} (s : State) (hB : Frame F R sB s) (hF : ∀ b, b ≠ Blk.tick → F b)
    (hR : ∀ a, R a) :
    Frame F R sB (State.closeDma s) := by
  delta State.closeDma
  obtain ⟨f_fresh, f_out, f_sram, f_host, f_alm, f_ledg, f_pace, f_flt, f_hwd, f_burl, f_dram, f_scan, f_beam, f_step, f_sio, f_axis, f_loop, f_cnpy, f_dma, f_pwr, f_thm, f_clk, f_lcs, f_leg⟩ := Blk.but_tick hF
  repeat' first
    | with_reducible exact hR _ | exact fun _ => hR _ | with_reducible assumption
    | intro (u : State) (hu : Frame F R sB u) | lift_lets | with_reducible apply State.upTo_frame
    | with_reducible apply State.dmaReport_frame | with_reducible apply State.channelTurn_frame | intro _

theorem State.closePort_frame {sB : State} (s : State) (i : TickIn) (hB : Frame (fun _ => True) (fun _ => True) sB s)
    :
    Frame (fun _ => True) (fun _ => True) sB (State.closePort s i) := by
  delta State.closePort
  repeat' first
    | exact trivial | exact fun _ => trivial | with_reducible assumption
    | intro (u : State) (hu : Frame (fun _ => True) (fun _ => True) sB u) | lift_lets
    | with_reducible apply State.lsiTick_frame | with_reducible apply State.completeTables_frame
    | with_reducible apply effLegReady_frame | with_reducible apply effLegStandby_frame
    | with_reducible apply State.legTick_frame | with_reducible apply State.act_frame

theorem State.closeWaits_frame {sB : State} (s : State) (hB : Frame F R sB s) (hF : ∀ b, b ≠ Blk.tick → F b)
    (hR : ∀ a, R a) :
    Frame F R sB (State.closeWaits s) := by
  delta State.closeWaits
  obtain ⟨f_fresh, f_out, f_sram, f_host, f_alm, f_ledg, f_pace, f_flt, f_hwd, f_burl, f_dram, f_scan, f_beam, f_step, f_sio, f_axis, f_loop, f_cnpy, f_dma, f_pwr, f_thm, f_clk, f_lcs, f_leg⟩ := Blk.but_tick hF
  repeat' first
    | with_reducible exact hR _ | with_reducible assumption | intro (u : State) (hu : Frame F R sB u) | lift_lets
    | (intro x; refine (fun (hx : Frame F R sB x) => ?_) ?_ <;> [clear_value x; subst x])
    | with_reducible apply execRecorderScanDone_frame | with_reducible apply execSramWipeDone_frame
    | with_reducible apply State.act_frame | with_reducible apply Frame.ite

theorem State.closeRecorder_frame {sB : State} (s : State) (hB : Frame F R sB s) (hF : ∀ b, b ≠ Blk.tick → F b)
    (hR : ∀ a, R a) :
    Frame F R sB (State.closeRecorder s) := by
  delta State.closeRecorder
  obtain ⟨f_fresh, f_out, f_sram, f_host, f_alm, f_ledg, f_pace, f_flt, f_hwd, f_burl, f_dram, f_scan, f_beam, f_step, f_sio, f_axis, f_loop, f_cnpy, f_dma, f_pwr, f_thm, f_clk, f_lcs, f_leg⟩ := Blk.but_tick hF
  repeat' first
    | with_reducible exact hR _ | exact fun _ => hR _ | with_reducible assumption
    | intro (u : State) (hu : Frame F R sB u) | lift_lets | with_reducible apply execChallengeLapse_frame
    | with_reducible apply execLockoutEnd_frame | with_reducible apply State.hwdDecide_frame
    | with_reducible apply State.summaries_frame | with_reducible apply State.act_frame
    | with_reducible apply State.closeWaits_frame

theorem State.notePast_frame {sB : State} (s : State) (hB : Frame F R sB s) (hF : ∀ b, b ≠ Blk.tick → F b)
    (hR : ∀ a, R a) :
    Frame F R sB (State.notePast s) := by
  delta State.notePast
  obtain ⟨f_fresh, f_out, f_sram, f_host, f_alm, f_ledg, f_pace, f_flt, f_hwd, f_burl, f_dram, f_scan, f_beam, f_step, f_sio, f_axis, f_loop, f_cnpy, f_dma, f_pwr, f_thm, f_clk, f_lcs, f_leg⟩ := Blk.but_tick hF
  repeat' first
    | with_reducible assumption | lift_lets | (intro x; clear_value x) | with_reducible refine Frame.mk' ?_ rfl

theorem State.lastly_frame {sB : State} (s : State) (f : State → State)
    (hf : ∀ u, Frame F R sB u → Frame F R sB (f u)) (hB : Frame F R sB s) (hF : ∀ b, b ≠ Blk.tick → F b)
    (hR : ∀ a, R a) :
    Frame F R sB (State.lastly s f) := by
  delta State.lastly
  obtain ⟨f_fresh, f_out, f_sram, f_host, f_alm, f_ledg, f_pace, f_flt, f_hwd, f_burl, f_dram, f_scan, f_beam, f_step, f_sio, f_axis, f_loop, f_cnpy, f_dma, f_pwr, f_thm, f_clk, f_lcs, f_leg⟩ := Blk.but_tick hF
  repeat' first
    | with_reducible assumption | lift_lets | with_reducible apply hf | with_reducible apply Frame.ite

theorem State.closeResets_frame {sB : State} (s : State) (hB : Frame (fun _ => True) (fun _ => True) sB s) :
    Frame (fun _ => True) (fun _ => True) sB (State.closeResets s) := by
  delta State.closeResets
  repeat' first
    | exact trivial | exact fun _ => trivial | exact fun _ _ => trivial | with_reducible assumption
    | intro (u : State) (hu : Frame (fun _ => True) (fun _ => True) sB u) | lift_lets
    | (intro x; refine (fun (hx : Frame (fun _ => True) (fun _ => True) sB x) => ?_) ?_ <;> [clear_value x; subst x])
    | with_reducible apply State.resetWaitEnd_frame | with_reducible apply State.thawRestart_frame
    | with_reducible apply State.watchdog_frame | with_reducible apply State.lastly_frame
    | with_reducible apply Frame.ite

theorem State.closeDecide_frame {sB : State} (s : State) (i : TickIn)
    (hB : Frame (fun _ => True) (fun _ => True) sB s) :
    Frame (fun _ => True) (fun _ => True) sB (State.closeDecide s i) := by
  delta State.closeDecide
  repeat' first
    | exact trivial | exact fun _ => trivial | exact fun _ _ => trivial | with_reducible assumption
    | intro (u : State) (hu : Frame (fun _ => True) (fun _ => True) sB u) | lift_lets
    | (intro x; refine (fun (hx : Frame (fun _ => True) (fun _ => True) sB x) => ?_) ?_ <;> [clear_value x; subst x])
    | with_reducible apply effDecodeBinding_frame | with_reducible apply effGapRetrain_frame
    | with_reducible apply State.act_frame | with_reducible apply State.closeMotion_frame
    | with_reducible apply State.decideSlot_frame | with_reducible apply State.closeAlmanac_frame
    | with_reducible apply State.closePower_frame | with_reducible apply State.closeDma_frame
    | with_reducible apply State.closePort_frame | with_reducible apply State.closeRecorder_frame
    | with_reducible apply State.notePast_frame | with_reducible apply State.closeResets_frame
    | with_reducible apply Frame.foldl | intro _

theorem State.computeSlot_frame {sB : State} (s : State) (p : PageSlot) (hB : Frame F R sB s)
    (hF : ∀ b, b ≠ Blk.tick → F b) (hR : ∀ a, R a) :
    Frame F R sB (State.computeSlot s p) := by
  delta State.computeSlot
  obtain ⟨f_fresh, f_out, f_sram, f_host, f_alm, f_ledg, f_pace, f_flt, f_hwd, f_burl, f_dram, f_scan, f_beam, f_step, f_sio, f_axis, f_loop, f_cnpy, f_dma, f_pwr, f_thm, f_clk, f_lcs, f_leg⟩ := Blk.but_tick hF
  repeat' first
    | with_reducible exact hR _ | exact fun _ => hR _ | with_reducible assumption
    | with_reducible apply State.profileStep_frame | with_reducible apply State.vmasterStep_frame
    | with_reducible apply State.focStep_frame | with_reducible apply State.loopStep_frame | split

theorem State.tickCompute_frame {sB : State} (s : State) (hB : Frame F R sB s) (hF : ∀ b, b ≠ Blk.tick → F b)
    (hR : ∀ a, R a) :
    Frame F R sB (State.tickCompute s) := by
  delta State.tickCompute
  obtain ⟨f_fresh, f_out, f_sram, f_host, f_alm, f_ledg, f_pace, f_flt, f_hwd, f_burl, f_dram, f_scan, f_beam, f_step, f_sio, f_axis, f_loop, f_cnpy, f_dma, f_pwr, f_thm, f_clk, f_lcs, f_leg⟩ := Blk.but_tick hF
  repeat' first
    | with_reducible exact hR _ | exact fun _ => hR _ | with_reducible assumption
    | intro (u : State) (hu : Frame F R sB u) | lift_lets
    | (intro x; refine (fun (hx : Frame F R sB x) => ?_) ?_ <;> [clear_value x; subst x])
    | with_reducible apply State.returnFrames_frame | with_reducible apply State.stepBegin_frame
    | with_reducible apply State.stepEndCompute_frame | with_reducible apply State.axisBegin_frame
    | with_reducible apply State.loopBegin_frame | with_reducible apply State.bhMotion_frame
    | with_reducible apply State.beamFailures_frame | with_reducible apply State.movePath_frame
    | with_reducible apply State.runResets_frame | with_reducible apply State.computeSlot_frame
    | with_reducible apply Frame.foldl | intro _

theorem State.emitVectors_frame {sB : State} (s : State) (hB : Frame F R sB s) (hF : ∀ b, b ≠ Blk.tick → F b)
    (hR : ∀ a, R a) :
    Frame F R sB (State.emitVectors s) := by
  delta State.emitVectors
  obtain ⟨f_fresh, f_out, f_sram, f_host, f_alm, f_ledg, f_pace, f_flt, f_hwd, f_burl, f_dram, f_scan, f_beam, f_step, f_sio, f_axis, f_loop, f_cnpy, f_dma, f_pwr, f_thm, f_clk, f_lcs, f_leg⟩ := Blk.but_tick hF
  repeat' first
    | exact fun _ => hR _ | with_reducible assumption | intro (u : State) (hu : Frame F R sB u) | lift_lets
    | with_reducible apply State.upTo_frame | with_reducible apply State.sendVectors_frame
    | with_reducible apply State.writeBacks_frame | with_reducible apply execRingVector_frame
    | with_reducible apply State.act_frame | intro _

theorem State.emitSlot_frame {sB : State} (s : State) (p : PageSlot) (hB : Frame F R sB s)
    (hF : ∀ b, b ≠ Blk.tick → F b) (hR : ∀ a, R a) :
    Frame F R sB (State.emitSlot s p) := by
  delta State.emitSlot
  obtain ⟨f_fresh, f_out, f_sram, f_host, f_alm, f_ledg, f_pace, f_flt, f_hwd, f_burl, f_dram, f_scan, f_beam, f_step, f_sio, f_axis, f_loop, f_cnpy, f_dma, f_pwr, f_thm, f_clk, f_lcs, f_leg⟩ := Blk.but_tick hF
  repeat' first
    | with_reducible exact hR _ | exact fun _ => hR _ | with_reducible assumption
    | with_reducible apply State.stepLinkOut_frame | with_reducible apply State.axisLinkOut_frame
    | with_reducible apply State.hvLinkOut_frame | with_reducible apply State.chainEmit_frame
    | with_reducible apply State.cnpyNotices_frame | with_reducible apply State.emitVectors_frame | split

theorem State.idleFrames_frame {sB : State} (s : State) (hB : Frame F R sB s) (hF : ∀ b, b ≠ Blk.tick → F b)
    (hR : ∀ a, R a) :
    Frame F R sB (State.idleFrames s) := by
  delta State.idleFrames
  obtain ⟨f_fresh, f_out, f_sram, f_host, f_alm, f_ledg, f_pace, f_flt, f_hwd, f_burl, f_dram, f_scan, f_beam, f_step, f_sio, f_axis, f_loop, f_cnpy, f_dma, f_pwr, f_thm, f_clk, f_lcs, f_leg⟩ := Blk.but_tick hF
  repeat' first
    | with_reducible assumption | intro (u : State) (hu : Frame F R sB u) | lift_lets
    | with_reducible apply State.upTo_frame | with_reducible apply State.stepLinkOut_frame
    | with_reducible apply State.axisLinkOut_frame | with_reducible apply State.hvLinkOut_frame | intro _
    | with_reducible apply Frame.ite

theorem State.tickEmit_frame {sB : State} (s : State) (hB : Frame F R sB s) (hF : ∀ b, b ≠ Blk.tick → F b)
    (hR : ∀ a, R a) :
    Frame F R sB (State.tickEmit s) := by
  delta State.tickEmit
  obtain ⟨f_fresh, f_out, f_sram, f_host, f_alm, f_ledg, f_pace, f_flt, f_hwd, f_burl, f_dram, f_scan, f_beam, f_step, f_sio, f_axis, f_loop, f_cnpy, f_dma, f_pwr, f_thm, f_clk, f_lcs, f_leg⟩ := Blk.but_tick hF
  repeat' first
    | with_reducible exact hR _ | exact fun _ => hR _ | with_reducible assumption
    | intro (u : State) (hu : Frame F R sB u) | lift_lets
    | (intro x; refine (fun (hx : Frame F R sB x) => ?_) ?_ <;> [clear_value x; subst x])
    | with_reducible apply execTakingResumed_frame | with_reducible apply effPick_frame
    | with_reducible apply State.exportRecords_frame | with_reducible apply State.legEmit_frame
    | with_reducible apply State.act_frame | with_reducible apply State.eachSheet_frame
    | with_reducible apply State.emitSlot_frame | with_reducible apply State.idleFrames_frame
    | with_reducible apply Frame.foldl | intro _

theorem State.holdBindings_frame {sB : State} (s : State) (hB : Frame F R sB s) (hF : ∀ b, b ≠ Blk.tick → F b)
    (hR : ∀ a, R a) :
    Frame F R sB (State.holdBindings s) := by
  delta State.holdBindings
  obtain ⟨f_fresh, f_out, f_sram, f_host, f_alm, f_ledg, f_pace, f_flt, f_hwd, f_burl, f_dram, f_scan, f_beam, f_step, f_sio, f_axis, f_loop, f_cnpy, f_dma, f_pwr, f_thm, f_clk, f_lcs, f_leg⟩ := Blk.but_tick hF
  repeat' first
    | with_reducible exact hR _ | exact fun _ => hR _ | with_reducible assumption | lift_lets
    | with_reducible apply State.applyBindings_frame | with_reducible apply Frame.ite | split

theorem State.tickSettle_frame {sB : State} (s : State) (i : TickIn) (hB : Frame F R sB s)
    (hF : ∀ b, b ≠ Blk.tick → F b) (hR : ∀ a, R a) :
    Frame F R sB (State.tickSettle s i) := by
  delta State.tickSettle
  obtain ⟨f_fresh, f_out, f_sram, f_host, f_alm, f_ledg, f_pace, f_flt, f_hwd, f_burl, f_dram, f_scan, f_beam, f_step, f_sio, f_axis, f_loop, f_cnpy, f_dma, f_pwr, f_thm, f_clk, f_lcs, f_leg⟩ := Blk.but_tick hF
  repeat' first
    | with_reducible exact hR _ | exact fun _ => hR _ | with_reducible assumption
    | intro (u : State) (hu : Frame F R sB u) | lift_lets
    | (intro x; refine (fun (hx : Frame F R sB x) => ?_) ?_ <;> [clear_value x; subst x])
    | with_reducible apply State.upTo_frame | with_reducible apply State.completionsReady_frame
    | with_reducible apply State.axisEnd_frame | with_reducible apply State.loopEnd_frame
    | with_reducible apply State.applyJoins_frame | with_reducible apply State.seasonAdvance_frame
    | with_reducible apply State.countEntries_frame | with_reducible apply State.updateGap_frame
    | with_reducible apply State.settleAll_frame | with_reducible apply State.trimScap_frame
    | with_reducible apply State.latchChain_frame | with_reducible apply State.settlePlans_frame
    | with_reducible apply State.drumNote_frame | with_reducible apply State.scrubTick_frame
    | with_reducible apply State.dmaTick_frame | with_reducible apply State.holdBindings_frame | intro _ | split
    | with_reducible refine Frame.mk' ?_ rfl

/-- The end of a tick advances the tick counter and keeps what `Frame` says beside it. -/
theorem State.tickEnd_frame {sB : State} (s : State) (i : TickIn) (hB : Frame (fun _ => True) (fun _ => True) sB s)  :
    Frame (fun _ => True) (fun _ => True) sB (s.tickEnd i) := by
  have h1 : Frame (fun _ => True) (fun _ => True) sB (s.tickSettle i) := by
    repeat' first
      | exact trivial | exact fun _ => trivial | exact fun _ _ => trivial | with_reducible assumption | lift_lets
      | with_reducible apply State.readPage_frame | with_reducible apply State.legGather_frame
      | with_reducible apply State.tickSettle_frame | with_reducible refine Frame.mk' ?_ rfl
  unfold State.tickEnd
  dsimp only
  generalize s.tickSettle i = t at *
  repeat' first
    | exact trivial | exact fun _ => trivial | exact fun _ _ => trivial | with_reducible assumption | lift_lets
    | with_reducible apply State.readPage_frame | with_reducible apply State.legGather_frame
    | with_reducible apply State.tickSettle_frame | with_reducible refine Frame.mk' ?_ rfl

theorem State.tickEnd_tick (s : State) (i : TickIn) : (s.tickEnd i).tick = (s.tick + 1) % 2 ^ 48 := by
  have h1 : (s.tickSettle i).tick = s.tick := (State.tickSettle_frame (F := fun b => b ≠ .tick) (R := fun _ => True) s i
    (Frame.refl s) (fun _ h => h) (fun _ => trivial)).parts .tick (fun h => h rfl)
  unfold State.tickEnd
  dsimp only
  generalize s.tickSettle i = t at *
  have h2 (u : State) : (u.legGather.readPage i.slotErrors).tick = u.tick :=
    (State.readPage_frame (F := fun b => b ≠ .tick) (R := fun _ => True) _ i.slotErrors
      (State.legGather_frame u (Frame.refl u) (by simp) (by simp) (by simp) (by simp) (by simp) trivial trivial trivial trivial trivial trivial) (by simp) (by simp) (by simp) (by simp) trivial).parts .tick (fun h => h rfl)
  rw [h2, ← h1]

theorem State.runTick_frame {sB : State} (s : State) (i : TickIn) (hB : Frame (fun _ => True) (fun _ => True) sB s) :
    Frame (fun _ => True) (fun _ => True) sB (s.runTick i) := by
  have h1 : Frame (fun _ => True) (fun _ => True) sB (s.openDecide.closeDecide i) := by
    repeat' first
      | exact fun _ => trivial | exact fun _ _ => trivial | with_reducible assumption | lift_lets
      | with_reducible apply State.openDecide_frame | with_reducible apply State.closeDecide_frame
      | with_reducible apply State.tickCompute_frame | with_reducible apply State.tickEmit_frame
      | with_reducible apply State.tickEnd_frame | with_reducible apply Frame.ite
  unfold State.runTick
  dsimp only
  generalize s.openDecide.closeDecide i = t at *
  repeat' first
    | exact fun _ => trivial | exact fun _ _ => trivial | with_reducible assumption | lift_lets
    | with_reducible apply State.openDecide_frame | with_reducible apply State.closeDecide_frame
    | with_reducible apply State.tickCompute_frame | with_reducible apply State.tickEmit_frame
    | with_reducible apply State.tickEnd_frame | with_reducible apply Frame.ite

theorem execTick_frame {sB : State} (i : TickIn) (s : State) (hB : Frame (fun _ => True) (fun _ => True) sB s) :
    FrameO (fun _ => True) (fun _ => True) sB (execTick i s) := by
  delta execTick
  repeat' first
    | with_reducible assumption | lift_lets | with_reducible apply FrameO.next
    | with_reducible apply State.runTick_frame | with_reducible apply Frame.ite

end Sys2Proof.Machine
end

