-- ==== Sys2Proof/Laws/PerInstr.lean ====
section
/-!
SUPPORT. A statement about every command as syntax: which commands any operands of their types make deliverable.
-/

set_option Elab.async false

namespace Sys2Proof.Laws.Operands

/-- A command without a check of its own is well formed whatever its operands are. -/
def Statement (i : Instr) : Prop := i.checked = false → i.wf = true

theorem tick (x0 : TickIn) : Statement (.tick x0) := nofun
theorem governorStepUp : Statement .governorStepUp := fun _ => rfl
theorem almanacPiece : Statement .almanacPiece := fun _ => rfl
theorem check : Statement .check := fun _ => rfl
theorem checkDone (x0 : Option (Fin 129)) : Statement (.checkDone x0) := fun _ => rfl
theorem switch : Statement .switch := fun _ => rfl
theorem firstActivation : Statement .firstActivation := fun _ => rfl
theorem bankSwitch : Statement .bankSwitch := fun _ => rfl
theorem gradeRequest (x0 : Fin 8) : Statement (.gradeRequest x0) := fun _ => rfl
theorem gradeChange : Statement .gradeChange := fun _ => rfl
theorem almCancel : Statement .almCancel := fun _ => rfl
theorem release : Statement .release := fun _ => rfl
theorem releaseAfterDrain : Statement .releaseAfterDrain := fun _ => rfl
theorem switchLapse : Statement .switchLapse := fun _ => rfl
theorem drainingEnd : Statement .drainingEnd := fun _ => rfl
theorem registerWrite (x0 : Writer) (x1 : Bool) (x2 x3 : Nat) (x4 : DWord) : Statement (.registerWrite x0 x1 x2 x3 x4) := nofun
theorem bar1Write (x0 : Writer) (x1 : Nat) (x2 : List Byte) : Statement (.bar1Write x0 x1 x2) := nofun
theorem setupLock : Statement .setupLock := fun _ => rfl
theorem ringStart (x0 : Fin 16) : Statement (.ringStart x0) := fun _ => rfl
theorem ringResume (x0 : Fin 16) : Statement (.ringResume x0) := fun _ => rfl
theorem ringStop (x0 : Fin 16) : Statement (.ringStop x0) := fun _ => rfl
theorem ringStopped (x0 : Fin 16) : Statement (.ringStopped x0) := fun _ => rfl
theorem doorbell (x0 : Fin 16) (x1 x2 : Nat) (x3 : Word) : Statement (.doorbell x0 x1 x2 x3) := nofun
theorem descriptorFetch (x0 : Fin 10) (x1 : List (List Byte)) (x2 : List Byte) : Statement (.descriptorFetch x0 x1 x2) := nofun
theorem hostReadError (x0 : Fin 16) (x1 : Bool) (x2 : List (List Byte)) (x3 : Nat) : Statement (.hostReadError x0 x1 x2 x3) := nofun
theorem takingResumed : Statement .takingResumed := fun _ => rfl
theorem ringVector (x0 : Fin 16) : Statement (.ringVector x0) := fun _ => rfl
theorem detach (x0 : Nat) : Statement (.detach x0) := nofun
theorem attach (x0 : LinkRate) (x1 : PciSetup) : Statement (.attach x0 x1) := nofun
theorem tableItem : Statement .tableItem := fun _ => rfl
theorem announce : Statement .announce := fun _ => rfl
theorem purge : Statement .purge := fun _ => rfl
theorem reprint : Statement .reprint := fun _ => rfl
theorem jamClear : Statement .jamClear := fun _ => rfl
theorem query : Statement .query := fun _ => rfl
theorem dataHeader (x0 : Fin 8) (x1 : List Nat) : Statement (.dataHeader x0 x1) := nofun
theorem earlyWaitExpiry (x0 : Fin 8) : Statement (.earlyWaitExpiry x0) := fun _ => rfl
theorem framesAvailable (x0 : Fin 8) (x1 : List Nat) : Statement (.framesAvailable x0 x1) := nofun
theorem bandResident (x0 : Nat) (x1 : Fin 8) (x2 : Nat) : Statement (.bandResident x0 x1 x2) := nofun
theorem admission : Statement .admission := fun _ => rfl
theorem commit (x0 : Nat) : Statement (.commit x0) := nofun
theorem pick (x0 : Nat) : Statement (.pick x0) := nofun
theorem sheetEdge (x0 : Fin 4) : Statement (.sheetEdge x0) := fun _ => rfl
theorem edgeWindowExpiry (x0 : Nat) (x1 : Fin 4) (x2 : Bool) : Statement (.edgeWindowExpiry x0 x1 x2) := nofun
theorem targetWithoutEdge (x0 : Nat) (x1 : Fin 4) (x2 : Bool) : Statement (.targetWithoutEdge x0 x1 x2) := nofun
theorem bandBegun : Statement .bandBegun := fun _ => rfl
theorem bandDeadline (x0 : Nat) (x1 : Fin 8) (x2 : Nat) : Statement (.bandDeadline x0 x1 x2) := nofun
theorem lastLine : Statement .lastLine := fun _ => rfl
theorem underrunReport : Statement .underrunReport := fun _ => rfl
theorem beamFailureReport : Statement .beamFailureReport := fun _ => rfl
theorem headShutdownReport : Statement .headShutdownReport := fun _ => rfl
theorem observerLossReport : Statement .observerLossReport := fun _ => rfl
theorem decodeFailureReport : Statement .decodeFailureReport := fun _ => rfl
theorem entryFreed (x0 : Nat) : Statement (.entryFreed x0) := nofun
theorem backhitchDecided : Statement .backhitchDecided := fun _ => rfl
theorem bhDecel : Statement .bhDecel := fun _ => rfl
theorem bhStop : Statement .bhStop := fun _ => rfl
theorem bhReverse : Statement .bhReverse := fun _ => rfl
theorem bhPark : Statement .bhPark := fun _ => rfl
theorem bhAccel : Statement .bhAccel := fun _ => rfl
theorem bhReverseAgain : Statement .bhReverseAgain := fun _ => rfl
theorem bhEnd : Statement .bhEnd := fun _ => rfl
theorem abandon : Statement .abandon := fun _ => rfl
theorem parkLong : Statement .parkLong := fun _ => rfl
theorem segmentCompressed (x0 : Fin 16) : Statement (.segmentCompressed x0) := fun _ => rfl
theorem decodeBinding : Statement .decodeBinding := fun _ => rfl
theorem segmentHandout (x0 : Fin 32) : Statement (.segmentHandout x0) := fun _ => rfl
theorem segmentDecoded (x0 : Fin 32) : Statement (.segmentDecoded x0) := fun _ => rfl
theorem lineStoreWrite (x0 : Fin 32) : Statement (.lineStoreWrite x0) := fun _ => rfl
theorem trainingStart (x0 : Option (Fin 16)) (x1 : List Word) : Statement (.trainingStart x0 x1) := nofun
theorem train : Statement .train := fun _ => rfl
theorem retrain : Statement .retrain := fun _ => rfl
theorem trainingDone (x0 x1 : ChannelTraining) (x2 : Int) : Statement (.trainingDone x0 x1 x2) := nofun
theorem dramTempRead (x0 x1 : Int) (x2 : Bool) : Statement (.dramTempRead x0 x1 x2) := nofun
theorem tracking : Statement .tracking := fun _ => rfl
theorem gapRetrain : Statement .gapRetrain := fun _ => rfl
theorem dramRequest (x0 : Fin 2) (x1 : List MemReq) (x2 : Nat) (x3 : Bool) (x4 : Fin 3) (x5 : Bool) : Statement (.dramRequest x0 x1 x2 x3 x4 x5) := nofun
theorem rhWindowClear : Statement .rhWindowClear := fun _ => rfl
theorem patrolScrub (x0 x1 : Nat) : Statement (.patrolScrub x0 x1) := fun _ => rfl
theorem wipeGroupDone : Statement .wipeGroupDone := fun _ => rfl
theorem bdEdge (x0 : Fin 8) (x1 : Bool) (x2 : Fin 2500) (x3 : Fin 128) (x4 : Fin 3) : Statement (.bdEdge x0 x1 x2 x3 x4) := fun _ => rfl
theorem facetMissed (x0 : Fin 8) (x1 : Fin 3) : Statement (.facetMissed x0 x1) := fun _ => rfl
theorem facetEnd (x0 : Fin 8) : Statement (.facetEnd x0) := fun _ => rfl
theorem scanMeasClr (x0 : Fin 256) : Statement (.scanMeasClr x0) := fun _ => rfl
theorem facetReport (x0 : Fin 8) (x1 : List Byte) : Statement (.facetReport x0 x1) := nofun
theorem tableAck (x0 : Fin 8) (x1 : List Byte) (x2 x3 : Word) : Statement (.tableAck x0 x1 x2 x3) := nofun
theorem tableAckTimeout (x0 : Fin 8) (x1 : Fin 20) : Statement (.tableAckTimeout x0 x1) := fun _ => rfl
theorem statusReport (x0 : Fin 8) (x1 : List Byte) (x2 : Word) : Statement (.statusReport x0 x1 x2) := nofun
theorem reportTimeout (x0 : Fin 8) : Statement (.reportTimeout x0) := fun _ => rfl
theorem arm (x0 : Fin 8) : Statement (.arm x0) := fun _ => rfl
theorem disarm (x0 : Fin 8) : Statement (.disarm x0) := fun _ => rfl
theorem reselect (x0 : Fin 8) : Statement (.reselect x0) := fun _ => rfl
theorem clearFailed (x0 : Fin 8) : Statement (.clearFailed x0) := fun _ => rfl
theorem ilkClear : Statement .ilkClear := fun _ => rfl
theorem ldenRise (x0 : Fin 8) : Statement (.ldenRise x0) := fun _ => rfl
theorem lsiNLow : Statement .lsiNLow := fun _ => rfl
theorem interlockGathered : Statement .interlockGathered := fun _ => rfl
theorem linkEnable (x0 : LinkId) : Statement (.linkEnable x0) := fun _ => rfl
theorem linkDisable (x0 : LinkId) : Statement (.linkDisable x0) := fun _ => rfl
theorem linkTrainingDone (x0 : LinkId) (x1 : Fin 32) : Statement (.linkTrainingDone x0 x1) := nofun
theorem linkTrainingTimeout (x0 : LinkId) : Statement (.linkTrainingTimeout x0) := fun _ => rfl
theorem linkTimeout (x0 : LinkId) : Statement (.linkTimeout x0) := fun _ => rfl
theorem commaLost (x0 : LinkId) : Statement (.commaLost x0) := fun _ => rfl
theorem linkRetrain (x0 : LinkId) : Statement (.linkRetrain x0) := fun _ => rfl
theorem stepFrameReturn (x0 : Fin 2) (x1 : List Byte) : Statement (.stepFrameReturn x0 x1) := nofun
theorem stepStartTimeout (x0 : Fin 48) : Statement (.stepStartTimeout x0) := fun _ => rfl
theorem stepEnable (x0 : Fin 48) : Statement (.stepEnable x0) := fun _ => rfl
theorem stepDisable (x0 : Fin 48) : Statement (.stepDisable x0) := fun _ => rfl
theorem stepMove (x0 : Fin 48) (x1 : Fin 8) : Statement (.stepMove x0 x1) := fun _ => rfl
theorem stepVelocity (x0 : Fin 48) (x1 : Fin 8) : Statement (.stepVelocity x0 x1) := fun _ => rfl
theorem stepStop (x0 : Fin 48) : Statement (.stepStop x0) := fun _ => rfl
theorem stepHome (x0 : Fin 48) : Statement (.stepHome x0) := fun _ => rfl
theorem stepEngage (x0 : Fin 48) : Statement (.stepEngage x0) := fun _ => rfl
theorem stepDisengage (x0 : Fin 48) : Statement (.stepDisengage x0) := fun _ => rfl
theorem stepSetPos (x0 : Fin 48) : Statement (.stepSetPos x0) := fun _ => rfl
theorem stepClear (x0 : Fin 48) : Statement (.stepClear x0) := fun _ => rfl
theorem reverseDwellEnd (x0 : Fin 48) : Statement (.reverseDwellEnd x0) := fun _ => rfl
theorem scapEdge (x0 : Fin 8) (x1 : Bool) (x2 : Fin 2500) : Statement (.scapEdge x0 x1 x2) := fun _ => rfl
theorem homeEdgeQualified (x0 : Fin 48) : Statement (.homeEdgeQualified x0) := fun _ => rfl
theorem homeWindowEnd (x0 : Fin 48) : Statement (.homeWindowEnd x0) := fun _ => rfl
theorem axisFrameReturn (x0 : Fin 4) (x1 : List Byte) : Statement (.axisFrameReturn x0 x1) := nofun
theorem axisEnable (x0 : Fin 24) : Statement (.axisEnable x0) := fun _ => rfl
theorem axisDisable (x0 : Fin 24) : Statement (.axisDisable x0) := fun _ => rfl
theorem axisMove (x0 : Fin 24) (x1 : Fin 8) : Statement (.axisMove x0 x1) := fun _ => rfl
theorem axisVelocity (x0 : Fin 24) (x1 : Fin 8) : Statement (.axisVelocity x0 x1) := fun _ => rfl
theorem axisStop (x0 : Fin 24) : Statement (.axisStop x0) := fun _ => rfl
theorem axisSetPos (x0 : Fin 24) : Statement (.axisSetPos x0) := fun _ => rfl
theorem axisClear (x0 : Fin 24) : Statement (.axisClear x0) := fun _ => rfl
theorem catchTimeout (x0 : Fin 24) : Statement (.catchTimeout x0) := fun _ => rfl
theorem spindownTimeout (x0 : Fin 24) : Statement (.spindownTimeout x0) := fun _ => rfl
theorem observerLoss (x0 : Fin 24) : Statement (.observerLoss x0) := fun _ => rfl
theorem facetPeriodGathered (x0 : Fin 24) : Statement (.facetPeriodGathered x0) := fun _ => rfl
theorem recoverTimeout (x0 : Fin 24) : Statement (.recoverTimeout x0) := fun _ => rfl
theorem hvFrameReturn (x0 : Fin 2) (x1 : List Byte) : Statement (.hvFrameReturn x0 x1) := nofun
theorem loopEnable (x0 : Fin 64) : Statement (.loopEnable x0) := fun _ => rfl
theorem loopDisable (x0 : Fin 64) : Statement (.loopDisable x0) := fun _ => rfl
theorem loopClear (x0 : Fin 64) : Statement (.loopClear x0) := fun _ => rfl
theorem learnClear (x0 : Fin 64) : Statement (.learnClear x0) := fun _ => rfl
theorem cellWrite (x0 : Fin 4096) (x1 : List CellIn) (x2 : Fin 4) : Statement (.cellWrite x0 x1 x2) := nofun
theorem classTTimeout (x0 : Fin 4096) : Statement (.classTTimeout x0) := fun _ => rfl
theorem scrubEnd : Statement .scrubEnd := fun _ => rfl
theorem queueWrite (x0 : Writer) : Statement (.queueWrite x0) := fun _ => rfl
theorem queueLoad : Statement .queueLoad := fun _ => rfl
theorem queueFlush : Statement .queueFlush := fun _ => rfl
theorem dmaStart (x0 : Writer) (x1 : Fin 64) : Statement (.dmaStart x0 x1) := fun _ => rfl
theorem dmaAbort (x0 : Writer) (x1 : Fin 64) : Statement (.dmaAbort x0 x1) := fun _ => rfl
theorem dmaAbortDone (x0 : Fin 64) : Statement (.dmaAbortDone x0) := fun _ => rfl
theorem dmaResume (x0 : Writer) (x1 : Fin 64) : Statement (.dmaResume x0 x1) := fun _ => rfl
theorem programCheckDone (x0 : Fin 64) (x1 : List Byte) : Statement (.programCheckDone x0 x1) := nofun
theorem dmaDescriptor (x0 : Fin 64) (x1 x2 x3 : List Byte) : Statement (.dmaDescriptor x0 x1 x2 x3) := nofun
theorem dataInstructionDone (x0 : Fin 64) (x1 x2 : List Byte) : Statement (.dataInstructionDone x0 x1 x2) := nofun
theorem waitMet (x0 : Fin 64) : Statement (.waitMet x0) := fun _ => rfl
theorem waitTimeout (x0 : Fin 64) : Statement (.waitTimeout x0) := fun _ => rfl
theorem dmaEnd (x0 : Fin 64) : Statement (.dmaEnd x0) := fun _ => rfl
theorem dmaBusError (x0 : Fin 8) (x1 : DWord) (x2 : Bool) : Statement (.dmaBusError x0 x1 x2) := nofun
theorem clearHalt : Statement .clearHalt := fun _ => rfl
theorem dmaEvtSet (x0 : DWord) : Statement (.dmaEvtSet x0) := fun _ => rfl
theorem dmaEvtClr (x0 : DWord) : Statement (.dmaEvtClr x0) := fun _ => rfl
theorem faultMessage (x0 : Fin 2048) (x1 : Fin 32) (x2 : Word) : Statement (.faultMessage x0 x1 x2) := fun _ => rfl
theorem escLeak : Statement .escLeak := fun _ => rfl
theorem safeEnter (x0 : Writer) : Statement (.safeEnter x0) := fun _ => rfl
theorem safeExit : Statement .safeExit := fun _ => rfl
theorem errnClear : Statement .errnClear := fun _ => rfl
theorem escClr (x0 : Word) : Statement (.escClr x0) := fun _ => rfl
theorem inject (x0 : Word) : Statement (.inject x0) := fun _ => rfl
theorem collectorIntegrity (x0 : Word) (x1 : Bool) : Statement (.collectorIntegrity x0 x1) := fun _ => rfl
theorem chipResetWaitEnd : Statement .chipResetWaitEnd := fun _ => rfl
theorem hwdEvent : Statement .hwdEvent := fun _ => rfl
theorem recordWritten (x0 : Bool) : Statement (.recordWritten x0) := fun _ => rfl
theorem suppressionSummary (x0 : Fin 1024) : Statement (.suppressionSummary x0) := fun _ => rfl
theorem recorderScanDone : Statement .recorderScanDone := fun _ => rfl
theorem snapTake : Statement .snapTake := fun _ => rfl
theorem readSeq (x0 : Word) : Statement (.readSeq x0) := fun _ => rfl
theorem readLoaded : Statement .readLoaded := fun _ => rfl
theorem clrRequest : Statement .clrRequest := fun _ => rfl
theorem clrSubmit (x0 : Writer) : Statement (.clrSubmit x0) := fun _ => rfl
theorem clrCancel : Statement .clrCancel := fun _ => rfl
theorem challengeLapse : Statement .challengeLapse := fun _ => rfl
theorem lockoutEnd : Statement .lockoutEnd := fun _ => rfl
theorem eraseDone : Statement .eraseDone := fun _ => rfl
theorem domainSwitch (x0 : Word) : Statement (.domainSwitch x0) := fun _ => rfl
theorem domainUp (x0 : Fin 2) : Statement (.domainUp x0) := fun _ => rfl
theorem seqUp : Statement .seqUp := fun _ => rfl
theorem seqDown (x0 : Writer) : Statement (.seqDown x0) := fun _ => rfl
theorem railSlot (x0 : Fin 8) : Statement (.railSlot x0) := fun _ => rfl
theorem pollRound (x0 : Fin 256) (x1 : List (Nat × Nat)) : Statement (.pollRound x0 x1) := nofun
theorem seqReadDone (x0 : SeqRead) : Statement (.seqReadDone x0) := nofun
theorem seqTransactionFailed (x0 : Fin 8) (x1 : Fin 256) : Statement (.seqTransactionFailed x0 x1) := fun _ => rfl
theorem pgTimeout (x0 : Fin 64) : Statement (.pgTimeout x0) := fun _ => rfl
theorem offWaitEnd : Statement .offWaitEnd := fun _ => rfl
theorem marginStep (x0 : Fin 64) : Statement (.marginStep x0) := fun _ => rfl
theorem snapshotDone (x0 : List Word) : Statement (.snapshotDone x0) := nofun
theorem thermalConversion (x0 : Fin 12) (x1 : Int) (x2 : Bool) : Statement (.thermalConversion x0 x1 x2) := nofun
theorem throttleRepeat : Statement .throttleRepeat := fun _ => rfl
theorem thawRestart : Statement .thawRestart := fun _ => rfl
theorem headThaw (x0 : Fin 8) : Statement (.headThaw x0) := fun _ => rfl
theorem pllLockDeclared : Statement .pllLockDeclared := fun _ => rfl
theorem pllLockLost (x0 : Fin 10) : Statement (.pllLockLost x0) := fun _ => rfl
theorem clockFailure : Statement .clockFailure := fun _ => rfl
theorem powerOnReset (x0 x1 x2 : Bool) : Statement (.powerOnReset x0 x1 x2) := fun _ => rfl
theorem sramWipeDone : Statement .sramWipeDone := fun _ => rfl
theorem rstChip (x0 : Writer) (x1 : Bool) : Statement (.rstChip x0 x1) := fun _ => rfl
theorem rstCore (x0 : Writer) (x1 : Bool) : Statement (.rstCore x0 x1) := fun _ => rfl
theorem wdtKick : Statement .wdtKick := fun _ => rfl
theorem watchdogExpiry : Statement .watchdogExpiry := fun _ => rfl
theorem boot (x0 : Flash) : Statement (.boot x0) := nofun
theorem bootStaged (x0 : Flash) : Statement (.bootStaged x0) := nofun
theorem accept (x0 : Word) : Statement (.accept x0) := fun _ => rfl
theorem lifecycleTransition (x0 : Fin 8) (x1 : Fin 65536) : Statement (.lifecycleTransition x0 x1) := fun _ => rfl
theorem fuseBurnDone : Statement .fuseBurnDone := fun _ => rfl
theorem otpProgram (x0 : Fin 4) (x1 : Bool) : Statement (.otpProgram x0 x1) := fun _ => rfl
theorem vddio33Low : Statement .vddio33Low := fun _ => rfl
theorem uartByte (x0 : Byte) (x1 : Bool) : Statement (.uartByte x0 x1) := fun _ => rfl
theorem uartByteTimeout : Statement .uartByteTimeout := fun _ => rfl
theorem uartReply : Statement .uartReply := fun _ => rfl
theorem status : Statement .status := fun _ => rfl
theorem readError : Statement .readError := fun _ => rfl
theorem speed : Statement .speed := fun _ => rfl
theorem paper : Statement .paper := fun _ => rfl
theorem top : Statement .top := fun _ => rfl
theorem width : Statement .width := fun _ => rfl
theorem warmup : Statement .warmup := fun _ => rfl
theorem sleep : Statement .sleep := fun _ => rfl
theorem clearJam : Statement .clearJam := fun _ => rfl
theorem cancel : Statement .cancel := fun _ => rfl
theorem engineInfo : Statement .engineInfo := fun _ => rfl
theorem readReg : Statement .readReg := fun _ => rfl
theorem writeReg : Statement .writeReg := fun _ => rfl
theorem legReady : Statement .legReady := fun _ => rfl
theorem legStandby : Statement .legStandby := fun _ => rfl
theorem lsyncEdge (x0 : Bool) : Statement (.lsyncEdge x0) := fun _ => rfl
theorem groupWindowClose (x0 : Fin 4) (x1 : List Byte) (x2 : Fin 3) : Statement (.groupWindowClose x0 x1 x2) := nofun
theorem trace : Statement .trace := fun _ => rfl
theorem videoLaneStateChange (x0 : Fin 4) (x1 : Fin 3) : Statement (.videoLaneStateChange x0 x1) := fun _ => rfl
theorem gapRetrainDone : Statement .gapRetrainDone := fun _ => rfl
theorem clkTickLoRead : Statement .clkTickLoRead := fun _ => rfl
theorem tapInstruction (x0 : Fin 256) : Statement (.tapInstruction x0) := fun _ => rfl

end Sys2Proof.Laws.Operands
end

