-- ==== Sys2Proof/Laws/Turn.lean ====
section
/-!
SUPPORT. What a turn does, said once: the state in which a command is decided, and the outcome of a command that is ready or
that waits.
-/

set_option Elab.async false

namespace Sys2Proof.Machine

/-- An open decide phase stays as it is. -/
theorem State.openDecide_open {s : State} (h : s.decideOpen = true) : s.openDecide = s := by simp [State.openDecide, h]

/-- Without SYSPLL in lock no tick runs, and no phase opens. -/
theorem State.openDecide_down {s : State} (h : s.clk.up = false) : s.openDecide = s := by simp [State.openDecide, h]

@[simp] theorem State.begin_any (s : State) : s.begin .any = s := rfl
@[simp] theorem State.begin_decide (s : State) : s.begin .decide = s.openDecide := rfl
@[simp] theorem State.begin_ledg (s : State) (k : Nat) : s.begin (.ledg k) = s.openDecide := rfl

@[simp] theorem State.ready_any (s : State) : s.ready .any = true := rfl
@[simp] theorem State.ready_decide (s : State) : s.ready .decide = true := rfl
@[simp] theorem State.ready_step (s : State) (a : Nat) : s.ready (.step a) = true := rfl
@[simp] theorem State.ready_axis (s : State) (a : Nat) : s.ready (.axis a) = true := rfl
@[simp] theorem State.ready_loop (s : State) (l : Nat) : s.ready (.loop l) = true := rfl

/-- A command that is ready acts on the state in which it is decided. -/
theorem Turn.run_ready {u : Turn} {s0 s : State} (f : State → Host.Outcome State Fault Refusal) (hb : s0.begin u = s)
    (hr : s.ready u = true) : u.run f s0 = f s := by
  subst hb; simp [Turn.run, hr]

/-- One that is not ready leaves that state as it is. -/
theorem Turn.run_waits {u : Turn} {s0 s : State} (f : State → Host.Outcome State Fault Refusal) (hb : s0.begin u = s)
    (hr : s.ready u = false) : u.run f s0 = .next s := by
  subst hb; simp [Turn.run, hr]

@[simp] theorem Turn.run_any (f : State → Host.Outcome State Fault Refusal) (s : State) : Turn.any.run f s = f s := rfl

end Sys2Proof.Machine
end

