-- ==== Sys2Proof/Tests/Slice0.lean ====
section
/-!
SUPPORT. The model's own tests: each check on operands refuses an ill-formed command,
  and the hypotheses of every statement
are met by a state.
-/

namespace Sys2Proof.Tests
open Sys2Proof Sys2Proof.Machine

set_option maxRecDepth 8000
set_option linter.unusedVariables false
set_option Elab.async false

/-! ### Each check on operands refuses an ill-formed command -/

theorem test_refuses_tick_chain : Instr.wf (.tick ⟨some (2 ^ 256), true, []⟩) = false := by decide +kernel
theorem test_refuses_tick_slot : Instr.wf (.tick ⟨none, true, [(1024, true)]⟩) = false := by decide +kernel
theorem test_refuses_write_offset : Instr.wf (.registerWrite .host false 0x1000000 4 0) = false := by decide +kernel
theorem test_refuses_write_offset_bar2 : Instr.wf (.registerWrite .host true 0x10000 4 0) = false := by decide +kernel
theorem test_refuses_write_width : Instr.wf (.registerWrite .host false 0 3 0) = false := by decide +kernel
theorem test_refuses_write_value : Instr.wf (.registerWrite .host false 0 1 256) = false := by decide +kernel
theorem test_refuses_window_empty : Instr.wf (.bar1Write .host 0 []) = false := by decide +kernel
theorem test_refuses_window_long : Instr.wf (.bar1Write .host 0 (List.replicate 513 0)) = false := by decide +kernel
theorem test_refuses_window_end : Instr.wf (.bar1Write .host 0x3FFFFFF [0, 0]) = false := by decide +kernel
theorem test_refuses_doorbell_offset : Instr.wf (.doorbell 0 4096 4 0) = false := by decide +kernel
theorem test_refuses_doorbell_width : Instr.wf (.doorbell 0 0 5 0) = false := by decide +kernel
theorem test_refuses_doorbell_value : Instr.wf (.doorbell 0 0 1 256) = false := by decide +kernel
theorem test_refuses_fetch_none : Instr.wf (.descriptorFetch 0 [] []) = false := by decide +kernel
theorem test_refuses_fetch_short : Instr.wf (.descriptorFetch 0 [[0]] []) = false := by decide +kernel
theorem test_refuses_fetch_data :
    Instr.wf (.descriptorFetch 0 [(List.replicate 64 0)] [0]) = false := by decide +kernel
theorem test_refuses_read_error_ring : Instr.wf (.hostReadError 10 false [] 1) = false := by decide +kernel
theorem test_refuses_read_error_short : Instr.wf (.hostReadError 0 false [[0]] 1) = false := by decide +kernel
theorem test_refuses_read_error_none : Instr.wf (.hostReadError 0 true [] 1) = false := by decide +kernel
theorem test_refuses_read_error_status : Instr.wf (.hostReadError 0 false [] 8) = false := by decide +kernel
theorem test_refuses_detach_low : Instr.wf (.detach 0) = false := by decide +kernel
theorem test_refuses_detach_high : Instr.wf (.detach 4) = false := by decide +kernel
theorem test_refuses_attach_speed_low : Instr.wf (.attach ⟨0, 1⟩ ⟨0, 2, false⟩) = false := by decide +kernel
theorem test_refuses_attach_speed_high : Instr.wf (.attach ⟨6, 1⟩ ⟨0, 2, false⟩) = false := by decide +kernel
theorem test_refuses_attach_width : Instr.wf (.attach ⟨1, 16⟩ ⟨0, 2, false⟩) = false := by decide +kernel
theorem test_refuses_frames_twice : Instr.wf (.dataHeader 0 [1, 1]) = false := by decide +kernel
theorem test_refuses_frames_range : Instr.wf (.framesAvailable 0 [2 ^ 23]) = false := by decide +kernel
theorem test_refuses_band_sheet : Instr.wf (.bandResident (2 ^ 32) 0 0) = false := by decide +kernel
theorem test_refuses_band_number : Instr.wf (.bandResident 0 0 4096) = false := by decide +kernel
theorem test_refuses_commit_id : Instr.wf (.commit (2 ^ 32)) = false := by decide +kernel
theorem test_refuses_pick_id : Instr.wf (.pick (2 ^ 32)) = false := by decide +kernel
theorem test_refuses_edge_window_id : Instr.wf (.edgeWindowExpiry (2 ^ 32) 0 false) = false := by decide +kernel
theorem test_refuses_target_id : Instr.wf (.targetWithoutEdge (2 ^ 32) 0 false) = false := by decide +kernel
theorem test_refuses_deadline_id : Instr.wf (.bandDeadline (2 ^ 32) 0 0) = false := by decide +kernel
theorem test_refuses_deadline_band : Instr.wf (.bandDeadline 0 0 4096) = false := by decide +kernel
theorem test_refuses_freed_id : Instr.wf (.entryFreed (2 ^ 32)) = false := by decide +kernel
theorem test_refuses_training_bands :
    Instr.wf (.trainingStart none (List.replicate 33 0)) = false := by decide +kernel
theorem test_refuses_training_temp : Instr.wf (.trainingDone ⟨0, []⟩ ⟨0, []⟩ 128) = false := by decide +kernel
theorem test_refuses_dram_phy : Instr.wf (.dramTempRead (-129) 0 false) = false := by decide +kernel
theorem test_refuses_dram_warmest : Instr.wf (.dramTempRead 0 128 false) = false := by decide +kernel
theorem test_refuses_dram_address :
    Instr.wf (.dramRequest 0 [⟨0, 2 ^ 36, 0, true, [], 0, false⟩] 0 false 0 false) = false := by decide +kernel
theorem test_refuses_dram_arrival :
    Instr.wf (.dramRequest 0 [⟨0, 0, 1, true, [], 0, false⟩] 0 false 0 false) = false := by decide +kernel
theorem test_refuses_report_short : Instr.wf (.facetReport 0 (1 :: List.replicate 114 0)) = false := by decide +kernel
theorem test_refuses_report_type : Instr.wf (.facetReport 0 (List.replicate 116 0)) = false := by decide +kernel
theorem test_refuses_ack_short : Instr.wf (.tableAck 0 [2, 0, 0, 0, 0] 0 0) = false := by decide +kernel
theorem test_refuses_ack_type : Instr.wf (.tableAck 0 [0, 0, 0, 0, 0, 0] 0 0) = false := by decide +kernel
theorem test_refuses_status_short : Instr.wf (.statusReport 0 [3, 0, 0] 0) = false := by decide +kernel
theorem test_refuses_status_type : Instr.wf (.statusReport 0 [0, 0, 0, 0] 0) = false := by decide +kernel
theorem test_refuses_nodes_step : Instr.wf (.linkTrainingDone (.step 0) 25) = false := by decide +kernel
theorem test_refuses_nodes_hv : Instr.wf (.linkTrainingDone (.hv 0) 17) = false := by decide +kernel
theorem test_refuses_nodes_other : Instr.wf (.linkTrainingDone (.beam 0) 1) = false := by decide +kernel
theorem test_refuses_step_bytes : Instr.wf (.stepFrameReturn 0 (List.replicate 203 0)) = false := by decide +kernel
theorem test_refuses_axis_bytes : Instr.wf (.axisFrameReturn 0 (List.replicate 204 0)) = false := by decide +kernel
theorem test_refuses_hv_bytes : Instr.wf (.hvFrameReturn 0 (List.replicate 139 0)) = false := by decide +kernel
theorem test_refuses_cells_none : Instr.wf (.cellWrite 0 [] 0) = false := by decide +kernel
theorem test_refuses_cell_bytes :
    Instr.wf (.cellWrite 0 [{ ({ sop := true, eop := true, abort := false, last := 0, data := List.replicate 32 0, poison := false, fixed := false } : CellIn) with data := [] }] 0) = false := by decide +kernel
theorem test_refuses_cell_last :
    Instr.wf (.cellWrite 0 [{ ({ sop := true, eop := true, abort := false, last := 0, data := List.replicate 32 0, poison := false, fixed := false } : CellIn) with last := 32 }] 0) = false := by decide +kernel
theorem test_refuses_program_long :
    Instr.wf (.programCheckDone 0 (List.replicate 8193 0)) = false := by decide +kernel
theorem test_refuses_descriptor_bytes : Instr.wf (.dmaDescriptor 0 [0] [] []) = false := by decide +kernel
theorem test_refuses_bus_cause_low : Instr.wf (.dmaBusError 0 0 false) = false := by decide +kernel
theorem test_refuses_bus_cause_high : Instr.wf (.dmaBusError 5 0 false) = false := by decide +kernel
theorem test_refuses_poll_many : Instr.wf (.pollRound 0 (List.replicate 9 (0, 0))) = false := by decide +kernel
theorem test_refuses_poll_level : Instr.wf (.pollRound 0 [(256, 0)]) = false := by decide +kernel
theorem test_refuses_poll_changed : Instr.wf (.pollRound 0 [(0, 256)]) = false := by decide +kernel
theorem test_refuses_read_level : Instr.wf (.seqReadDone ⟨0, false, 256, 0, 0⟩) = false := by decide +kernel
theorem test_refuses_read_changed : Instr.wf (.seqReadDone ⟨0, false, 0, 256, 0⟩) = false := by decide +kernel
theorem test_refuses_read_vin : Instr.wf (.seqReadDone ⟨1, true, 0, 0, 0⟩) = false := by decide +kernel
theorem test_refuses_snapshot_count : Instr.wf (.snapshotDone []) = false := by decide +kernel
theorem test_refuses_conversion : Instr.wf (.thermalConversion 0 (2 ^ 15) true) = false := by decide +kernel
theorem test_refuses_group_bytes :
    Instr.wf (.groupWindowClose 0 (List.replicate 65537 0) 0) = false := by decide +kernel
theorem test_refuses_flash :
    Instr.wf (.boot { ({ fwA := [], fwB := [], persA := [], persB := [], matA := [], matB := [], pack := [] } : Flash) with matA := List.replicate 65537 0 }) = false := by decide +kernel
theorem test_refuses_flash_staged :
    Instr.wf (.bootStaged { ({ fwA := [], fwB := [], persA := [], persB := [], matA := [], matB := [], pack := [] } : Flash) with matB := List.replicate 65537 0 }) = false := by decide +kernel
theorem test_refuses_data_source (l : List Byte) (h : l.length
  = 2 ^ 24) : Instr.wf (.dataInstructionDone 0 l []) = false := by
  simp [Instr.wf, h]
theorem test_refuses_data_destination (l : List Byte) (h :
  l.length = 2 ^ 24) : Instr.wf (.dataInstructionDone 0 [] l) = false := by
  simp [Instr.wf, h]
theorem test_refuses_descriptor_source (l : List Byte) (h :
  l.length = 2 ^ 24) : Instr.wf (.dmaDescriptor 0 [] l []) = false := by
  simp [Instr.wf, h]

/-- The state in which the decide phase of the present tick is open, with nothing gathered. -/
def opened (s : State) : State := { s with alm := { s.alm with opened := s.tick + 1 } }

/-- A state or value for the witnesses below. -/
def orderItem : Item := ⟨mkTag 1 0 0 5 0, 0, 0, 0, 1, 0, false, 0, 1, 3, [1, 0, 0, 0, 64, 0, 0, 0,
  100] ++ List.replicate 39 0, 0, 0⟩

/-- A state or value for the witnesses below. -/
def pageWith (phase block op object : Nat) : Memory :=
  memWrite (memWrite [] 0x40 [1]) 4096 (leBytes 8 (phase * 2 ^ 62 + block * 2 ^ 57 + op * 2 ^ 48 + object * 2 ^ 32))

/-- A state or value for the witnesses below. -/
def ledgerPage : State := State.reset

/-- A state or value for the witnesses below. -/
def admitReady : State :=
  { (((State.reset.wrN Reg.ALM_STATUS 0).wrN Reg.HOST_SETUP_LOCK 1).wrN Reg.LEDG_REF_SCALE 1) with
  alm := { State.reset.alm with active := some 0, bank0 := pageWith 2 3 1 0 }, pace := { State.reset.pace with
    forecastAt := 1 },
  ledg := { State.reset.ledg with
    sheets := [(1, ({
    id := 1, state := .announced, inPath := false, stations := 0, modeB := false, lines := 1, lengthUm := 100,
    leadUm := 0, tray := 0, bin := 0, firstBand := 0, reprint := none, q := 0, e := 0, resident := [], lateFired :=
    [], due := [], begun := [], lastLine := 0, met := [], closed := [], endedAt := 0 } : Sheet))] } }

/-- A state or value for the witnesses below. -/
def edge0 : Edge := ⟨0, 0, false, 0, 0, 0⟩

/-- A state or value for the witnesses below. -/
def edgeReady : State := {  (State.reset.wrN (Reg.LEDG_SENSOR_CFG 0) 8) with
  host := { State.reset.host with inbox := [(3, [])] }, ledg := { State.reset.ledg with
  sheets := [(1, ({
  id := 1, state := .committed, inPath := true, stations := 1, modeB := false, lines := 64, lengthUm := 100, leadUm :=
  0, tray := 0, bin := 0, firstBand := 0, reprint := none, q := 0, e := 0, resident := [], lateFired := [], due := [],
  begun := [], lastLine := 0, met := [], closed := [], endedAt := 0 } : Sheet))] } , tick := 1, sio :=
  { State.reset.sio with scap := [{ ScapIn.init with queue := [edge0], serial := 1 }] } }

/-- A state or value for the witnesses below. -/
def edged : State := ((opened edgeReady).gatherScap ((opened edgeReady).pointInput 0) 0).elim edgeReady (·.2)

/-- A state or value for the witnesses below. -/
def packJob : CompJob := ⟨(⟨mkTag 1 0 0 1 0, 1, 0, 0, 1, 0, false, 64, 0, 0, List.replicate 64 0, 0, 0⟩ : Item), 64,
  1, [0], [⟨0, 64, some 0, true⟩]⟩

/-- A state or value for the witnesses below. -/
def packState : State := { (((State.reset.wrN Reg.DRAM_FRAMES_FREE 10).wrN (Reg.DRAM_PS_QUOTA 0) 10).wrN (Reg.LEDG_STATUS) 512) with tick := 0, host := { State.reset.host with inbox := [] }, ledg := { State.reset.ledg with pos := 0 }, dram := { State.reset.dram with wiped := 10, dirs := [(8, 5)] }, burl := { State.reset.burl with jobs := [⟨(⟨mkTag 1 0 0 1 0, 1, 0, 0, 1, 0, false, 64, 0, 0, List.replicate 64 0, 0, 0⟩ : Item), 64, 1, [0], [⟨0, 64, some 0, false⟩]⟩] } }

/-- A state or value for the witnesses below. -/
def boundStn : ScanStn := { ScanStn.init with plan := some (0, 0), boundary := some 0, real := true }

/-- A state or value for the witnesses below. -/
def slowBank : Memory := memWrite [] (0x10C) (leBytes 4 100000000)

/-- A state or value for the witnesses below. -/
def withCrc (b : List Byte) : List Byte := b ++ leBytes 4 (crc32 b)

/-- A state or value for the witnesses below. -/
def plainReport : List Byte := withCrc ([1, 0] ++ leBytes 4 9 ++ List.replicate 106 0)

/-- A state or value for the witnesses below. -/
def statusHead (f : Byte) : List Byte := [3, f, 0, 0]

/-- A state or value for the witnesses below. -/
def ackHead : List Byte := [2, 3] ++ leBytes 4 7

/-- A state or value for the witnesses below. -/
def crcWord (b : List Byte) : Word := word (crc32 b)

/-- A state or value for the witnesses below. -/
def ackTable : Word := crcWord (State.reset.beamBytes 0 3)

/-- A state or value for the witnesses below. -/
def ackCrc : Word := crcWord (endedBy ackHead ackTable)

/-- A state or value for the witnesses below. -/
def goodMap : Memory := (List.range 63).map (fun k => (beamArea 0 + 0x1001 + k,
  BitVec.ofNat 8 (k + 1))) ++ [(beamArea 0 + 0x1048, 7)]

/-- A state or value for the witnesses below. -/
def goodProfile : Memory := memWrite [] 0x300000 ([1, 1, 1, 1, 1, 1, 1, 1].flatMap (leBytes 4))

/-- A state or value for the witnesses below. -/
def homingNow (ph : Nat) : StepAxis := { StepAxis.init with
  mode := .homing, v := 16777216, hphase := ph, homing := some ⟨some 3, some (2, 0), none, 0, [(4, ph != 2)], 0,
  ph == 2, false, 0⟩ }

/-- A state or value for the witnesses below. -/
def stepBytes : List Byte := withCrc (List.replicate 200 0)

/-- A state or value for the witnesses below. -/
def goodSync : Memory := memWrite [] 0x304000 ([1, 5, 1, 1, 1, 1].flatMap (leBytes 4))

/-- A state or value for the witnesses below. -/
def hubBytes (n st : Nat) : List Byte := withCrc (leBytes 6
  n ++ leBytes 2 400 ++ leBytes 2 st ++ List.replicate 194 0)

/-- A state or value for the witnesses below. -/
def hvBytes : List Byte := withCrc (List.replicate 136 0)

/-- A state or value for the witnesses below. -/
def cellOf (kind : Nat) (sop eop : Bool) : CellIn :=
  ⟨sop, eop, false, 31, leBytes 8 (kind * 4096), false, false⟩

/-- A state or value for the witnesses below. -/
def cnpyDue : State := { (State.reset.wrN Reg.ALM_STATUS 0) with
  alm := { State.reset.alm with active := some 0, bank0 := pageWith 0 0x0C 2 0 }, cnpy := { State.reset.cnpy with
  queues := [(5, { CanopyQ.init with
  cfg0 := 3, cfg1 := 0, cfg2 := 64, cells := [⟨cellOf 1 true true, 2⟩], cfg3 := 0x10000 })] }, tick := 9 }

/-- A state or value for the witnesses below. -/
def cnpyOff : State := { (State.reset.wrN Reg.ALM_STATUS 0) with
  alm := { State.reset.alm with active := some 0, bank0 := pageWith 0 0x0D 1 1 } }

/-- A state or value for the witnesses below. -/
def cnpyNew : State := (((((State.reset.wrN Reg.CNPY_QSEL 100).wrN
  Reg.CNPY_QCFG0 1).wrN Reg.CNPY_QCFG1 8).wrN Reg.CNPY_QCFG2 16).wrN Reg.CNPY_QCFG3 0x10000)

/-- A state or value for the witnesses below. -/
def cnpyLow : State := ((State.reset.wrN Reg.CNPY_QSEL 63).wrN Reg.CNPY_QCFG0 1)

/-- A state or value for the witnesses below. -/
def cnpyBad : State := { ((State.reset.wrN Reg.CNPY_QSEL 5).wrN Reg.CNPY_QCFG0 1) with
  cnpy := { State.reset.cnpy with
  scrubs := [⟨5, 1, 3, false⟩], queues := [(5, { CanopyQ.init with
  cfg0 := 1, cfg1 := 0, cfg2 := 64, cells := [] })] } }

/-- A state or value for the witnesses below. -/
def cnpyFull : State := { (State.reset.wrN Reg.CNPY_QSEL 5) with
  cnpy := { State.reset.cnpy with
  queues := [(5, { CanopyQ.init with cfg0 := 1, cfg1 := 0, cfg2 := 64, cells := [⟨cellOf 1 true true, 2⟩] })] } }

/-- A state or value for the witnesses below. -/
def insn (op flags x y len a b : Nat) : List Byte :=
  [BitVec.ofNat 8 op, BitVec.ofNat 8 flags, BitVec.ofNat 8 x,
    BitVec.ofNat 8 y] ++ leBytes 4 len ++ leBytes 8 a ++ leBytes 8 b ++ List.replicate 8 0

/-- A state or value for the witnesses below. -/
def withProgram (p : List (List Byte)) : Memory := memWrite (memWrite [] 0x600000 p.flatten) 0x700000 [7]

/-- A state or value for the witnesses below. -/
def fillDesc : List Byte :=
  leBytes 8 0x0807060504030201 ++ leBytes 8 0x200000000700103 ++ leBytes 4 16 ++ leBytes 4 0x21 ++ leBytes 8 0

/-- A state or value for the witnesses below. -/
def moveOp : DataOp := ⟨1, 4, 0x200000000700000, 0x200000000700100, leBytes 8 0x200000000700000⟩

/-- A state or value for the witnesses below. -/
def cmpOp : DataOp := ⟨6, 4, 0x200000000700000, 0x200000000700100, leBytes 8 0x200000000700000⟩

/-- A state or value for the witnesses below. -/
def dmaMove : State := { (State.reset.wrN (Reg.DMA_CH_STATE 0) (2 + 0 * 65536)) with
  sram := withProgram [insn 1 0 0 0 4 0x200000000700000 0x200000000700100, insn 7 0 0 0 0 0 0] }

/-- A state or value for the witnesses below. -/
def dmaCmp : State := { (State.reset.wrN (Reg.DMA_CH_STATE 0) (2 + 0 * 65536)) with
  sram := withProgram [insn 6 0 0 0 4 0x200000000700000 0x200000000700100, insn 7 0 0 0 0 0 0] }

/-- A state or value for the witnesses below. -/
def fltCalm : State := { State.reset with tick := 9 }

/-- A state or value for the witnesses below. -/
def fltHeld : State := { State.reset with
  flt := { State.reset.flt with latches := [(70, ⟨⟨70, 3, 1, 2⟩, 255⟩)] }, tick := 9 }

/-- A state or value for the witnesses below. -/
def fltAddr : State := { (State.reset.wrN Reg.FLT_INJECT_ADDR 77) with tick := 9 }

/-- A state or value for the witnesses below. -/
def fltCount : State := (State.reset.wrN (Reg.FLT_ESC 0) 0x01020304)

/-- A state or value for the witnesses below. -/
def fltWork : State := { (((State.reset.wrN (Reg.BEAM_STN_STATE 3) 0xE).wrN Reg.BEAM_STATUS 8).wrN (Reg.LOOP_LP_STATE 5) 1) with tick := 0x100000002 }

/-- A state or value for the witnesses below. -/
def fltSafe : State := { (((State.reset.wrN Reg.FLT_STATUS 1).wrN Reg.FLT_SAFE_CAUSE 2).wrN Reg.FLT_SAFE_SRC 0x80000005) with tick := 7 }

/-- A state or value for the witnesses below. -/
def fltLock : State := { ((State.reset.wrN Reg.FLT_STATUS 1).wrN Reg.FLT_SAFE_CAUSE 32) with tick := 7 }

/-- A state or value for the witnesses below. -/
def fltMoves : State := { ((State.reset.wrN Reg.FLT_STATUS 1).wrN Reg.FLT_SAFE_CAUSE 2) with
  tick := 7, step := { State.reset.step with
  axes := { StepAxis.init with v := 1 } :: List.replicate 47 StepAxis.init } }

/-- A state or value for the witnesses below. -/
def fltErrn : State := { (State.reset.wrN Reg.FLT_STATUS 4) with tick := 7 }

/-- A state or value for the witnesses below. -/
def fltLate : State := { (State.reset.wrN Reg.FLT_STATUS 4) with
  tick := 7, flt := { State.reset.flt with errnAt := 8 } }

/-- A state or value for the witnesses below. -/
def rec (seq epoch : Nat) : Record := ⟨seq, epoch, 0x0101, 5, 0, 0, false, false, [1, 2]⟩

/-- A state or value for the witnesses below. -/
def hwdSeen : State := { State.reset with
  hwd := { State.reset.hwd with head := some 7, mram := [(7, .holds (rec 7 0))], refilled := 1 } }

/-- A state or value for the witnesses below. -/
def hwdRight : State :=
  (List.range 8).foldl (fun t j => t.wrN (Reg.HWD_CLR_RESP
    j) (leAt (hmac256 [1] ([1] ++ leBytes 2 0 ++ leBytes 4 4)) (4 * j) 4))
    { State.reset with
      hwd := { State.reset.hwd with challenge := some ⟨50, 4, 0, [1]⟩ }, lcs := { State.reset.lcs with
      key := some [1] }, tick := 50 }

/-- A state or value for the witnesses below. -/
def thmCool : State := { ((((((State.reset.wrN Reg.THM_LATCHED 8).wrN (Reg.THM_CH_CFG 3) 0x31).wrN (Reg.THM_CH_LEVEL1 3) 0x50600).wrN (Reg.THM_CH_TEMP 3) 0x70100).wrN Reg.THM_CFG 3).wrN Reg.THM_THAW_COUNT 6) with thm := { State.reset.thm with dwellAt := 5, seen := [(3, ⟨3, 0x100, true, 0⟩)] }, tick := 7 }

/-- A state or value for the witnesses below. -/
def thmHot : State := { (((((State.reset.wrN Reg.THM_LATCHED 8).wrN (Reg.THM_CH_CFG 3) 0x31).wrN (Reg.THM_CH_LEVEL1 3) 0x50600).wrN (Reg.THM_CH_TEMP 3) 0x70600).wrN Reg.THM_CFG 3) with thm := { State.reset.thm with dwellAt := 5, seen := [(3, ⟨3, 0x600, true, 0⟩)] }, tick := 7 }

/-- A state or value for the witnesses below. -/
def noFlash : Flash := ⟨[], [], [], [], [], [], []⟩

/-- A state or value for the witnesses below. -/
def clkHot : State := (State.reset.wrN Reg.THM_LATCHED 1)

/-- A state or value for the witnesses below. -/
def clkDog : State := { (State.reset.wrN Reg.CLK_WDT 40) with
  clk := { State.reset.clk with kickAt := 2 }, tick := 42 }

/-- A state or value for the witnesses below. -/
def legPage1 : LegPage := ⟨1, 64, 1, 0, 0, [0, 0, 0, 0], [[], [], [], []]⟩

/-- A state or value for the witnesses below. -/
def legTraceItem : Item := ⟨mkTag 0 0 0 6 0, 0, 0, 0, 1, 0, false, 0, 1, 0x13, [100, 0, 1], 0, 0⟩

/-- A state or value for the witnesses below. -/
def legSheet1 : Sheet :=
  {
    id := 1, state := .announced, inPath := false, stations := 1, modeB := false, lines := 64, lengthUm := 100,
    leadUm := 0,
    tray := 0, bin := 0, firstBand := 0, reprint := none, q := 0, e := 0, resident := [], lateFired := [], due := [],
    begun := [], lastLine := 0, met := [], closed := [], endedAt := 0 }

/-- A state or value for the witnesses below. -/
def lineVolume : Memory := memWrite [] (0x100 + 64 * 6 + 6) [64]

/-- A state or value for the witnesses below. -/
def legWarmed : State := { ((((((((((State.reset.wrN Reg.LEG_STATUS (3 + 0)).wrN (Reg.SCAN_STN_STATE 0) 2).wrN (Reg.SCAN_STN_STATE 1) 2).wrN (Reg.SCAN_STN_STATE 2) 2).wrN (Reg.SCAN_STN_STATE 3) 2).wrN (Reg.BEAM_STN_STATE 0) 8).wrN (Reg.BEAM_STN_STATE 1) 8).wrN (Reg.BEAM_STN_STATE 2) 8).wrN (Reg.BEAM_STN_STATE 3) 8).wrN (Reg.SCAN_STN_CFG 0) 0) with tick := 7 }


/-! ### States that meet the hypotheses of the statements -/

theorem test_meets_EmptyQueueIdles_1 :
    ∃ s : State, s.pending = [] := by
  exact ⟨State.reset, rfl⟩

theorem test_meets_StepKeepsCanonicalForm_1 :
    ∃ s t : State, s.wf = true ∧ step s = .next t := by
  exact ⟨State.reset.pushFront .wdtKick, _, by decide +kernel, rfl⟩

theorem test_meets_CommandsLeaveTheQueue_1 :
    ∃ (i : Instr) (s t : State), exec i s = .next t := by
  exact ⟨.wdtKick, State.reset, _, rfl⟩

theorem test_meets_CommandsLeaveTheQueue_2 :
    ∃ (c : Instr) (s t : State) (rest : List Instr), s.pending = c :: rest ∧ step s = .next t := by
  exact ⟨.wdtKick, State.reset.pushFront .wdtKick, _, [], rfl, rfl⟩

theorem test_meets_OnlyUndeliverableOperandsStop_2 :
    ∃ (w : Writer) (o : Nat) (bs : List Byte), (Instr.bar1Write w o bs).wf = true := by
  exact ⟨.host, 0, [0], by decide⟩

theorem test_meets_OnlyBurningChangesTheFuses_1 :
    ∃ (i : Instr) (s t : State), exec i s = .next t ∧ t.lcs.fused ≠ s.lcs.fused := by
  exact ⟨.fuseBurnDone, { State.reset with lcs := { State.reset.lcs with burning := some (1, 0) } }, _, rfl,
    by decide +kernel⟩

theorem test_meets_TickCounter_1 :
    ∃ (i : TickIn) (s : State),
      (s.clk.up = true) ∧ ((s.openDecide.closeDecide i).decideOpen = true) ∧
        ((s.openDecide.closeDecide i).tick = s.tick) := by
  refine ⟨⟨none, true, []⟩, State.reset, ?_, ?_, ?_⟩ <;> decide +kernel

theorem test_meets_TickCounter_2 :
    ∃ (i : TickIn) (s : State),
      (s.clk.up = false) := by
  refine ⟨⟨none, true, []⟩, { State.reset with clk := { State.reset.clk with up := false } }, ?_⟩
  decide

theorem test_meets_TickCounter_3 :
    ∃ (i : Instr) (s t : State), i.reachesAll = false ∧ exec i s = .next t := by
  exact ⟨.wdtKick, State.reset, _, rfl, rfl⟩

theorem test_meets_CommandFrame_1 :
    ∃ (i : Instr) (s t : State), exec i s = .next t := by
  exact ⟨.ringStart 0, State.reset, _, rfl⟩

theorem test_meets_CommandFrame_3 :
    ∃ s : State, s.decideOpen = true := by
  exact ⟨opened State.reset, by decide +kernel⟩

theorem test_meets_LedgerStepsTakeTheirOrder_1 :
    ∃ s : State, s.openDecide.step1Waits = true := by
  exact ⟨opened { State.reset with
    tick := 1, ledg := { State.reset.ledg with reports := [⟨.headShutdown, 0, 0, 0, 0, 0⟩] } }, by decide +kernel⟩

theorem test_meets_LedgerStepsTakeTheirOrder_2 :
    ∃ s : State, s.openDecide.step2Waits = true := by
  exact ⟨opened { State.reset with
    tick := 1, ledg := { State.reset.ledg with reports := [⟨.underrun, 1, 0, 0, 0, 0⟩] } }, by decide +kernel⟩

theorem test_meets_LedgerStepsTakeTheirOrder_3 :
    ∃ s : State, s.openDecide.step3Waits = true := by
  exact ⟨opened { State.reset with
    ledg := { State.reset.ledg with pos := 2 ^ 50, sheets := [(1, { mkSheet orderItem with inPath := true })] } },
    by decide +kernel⟩

theorem test_meets_LedgerStepsTakeTheirOrder_4 :
    ∃ s : State, (s.openDecide.frontOf 3 4 2).isSome = true := by
  exact ⟨opened { State.reset with host := { State.reset.host with inbox := [(3, [orderItem])] } }, by decide +kernel⟩

theorem test_meets_LedgerStepsTakeTheirOrder_5 :
    ∃ s : State, s.openDecide.pageHas 3 1 0 = false := by
  exact ⟨opened { State.reset.wrN Reg.ALM_STATUS 0 with alm := { State.reset.alm with active := some 0 } },
    by decide +kernel⟩

theorem test_meets_LedgerStepsTakeTheirOrder_6 :
    ∃ (i : Instr) (s : State), (i.turn = .decide ∨ ∃ k, i.turn = .ledg k) ∧ s.openDecide.decideOpen = true := by
  exact ⟨.check, State.reset, .inl rfl, by decide +kernel⟩

theorem test_meets_RegisterWritesAreCheckedAndApplied_1 :
    ∃ (w : Writer) (a : Nat) (v : DWord) (r : RegRow) (s0 s : State),
      (s0.begin (regTurn false a) = s) ∧ (s.windowsOpen w = true) ∧ (a % 4 = 0) ∧ (s.discardBit w a = none) ∧
        (s.reservedEncoding a (v.setWidth 32).toNat = false) ∧ (regRow a = some r) ∧ (r.access = .rw ∨
        r.access = .rws ∨ r.access = .rwl) ∧ (plainRegister a = true) ∧ (s.reactionsShut a = false) := by
  refine ⟨.host, Reg.ALM_SWITCH_WAIT, 5, ((regRow Reg.ALM_SWITCH_WAIT).get (by decide)), opened ({ State.reset with
    clk := { State.reset.clk with wiping := false }, host := { State.reset.host with linkUp := true } }), _, rfl, ?_⟩
  exact ⟨by decide, by decide, by decide, by decide, by decide, by decide, by decide, by decide⟩

theorem test_meets_RegisterWritesAreCheckedAndApplied_2 :
    ∃ (w : Writer) (a : Nat) (v : DWord) (r : RegRow) (s0 s : State),
      (s0.begin (regTurn false a) = s) ∧ (s.windowsOpen w = true) ∧ (a % 4 = 0) ∧ (s.discardBit w a = none) ∧
        (s.reservedEncoding a (v.setWidth 32).toNat = false) ∧ (regRow a = some r) ∧ (r.access = .w1c) := by
  refine ⟨.host, Reg.HOST_ERR, 5, ((regRow Reg.HOST_ERR).get (by decide)), opened ({ State.reset with
    clk := { State.reset.clk with wiping := false }, host := { State.reset.host with linkUp := true } }), _, rfl, ?_⟩
  exact ⟨by decide, by decide, by decide, by decide, by decide, by decide⟩

theorem test_meets_RegisterWritesAreCheckedAndApplied_3 :
    ∃ (w : Writer) (a : Nat) (v : DWord) (r : RegRow) (s0 s : State),
      (s0.begin (regTurn false a) = s) ∧ (s.windowsOpen w = true) ∧ (a % 4 = 0) ∧ (s.discardBit w a = none) ∧
        (s.reservedEncoding a (v.setWidth 32).toNat = false) ∧ (regRow a = none ∨ regRow a = some r ∧
        r.access = .ro) := by
  refine ⟨.host, Reg.ALM_PAGE, 5, ((regRow Reg.ALM_PAGE).get (by decide)), opened ({ State.reset with
    clk := { State.reset.clk with wiping := false }, host := { State.reset.host with linkUp := true } }), _, rfl, ?_⟩
  exact ⟨by decide, by decide, by decide, by decide, by decide⟩

theorem test_meets_RegisterWritesAreCheckedAndApplied_4 :
    ∃ (w : Writer) (a b : Nat) (v : DWord) (s0 s : State),
      (s0.begin (regTurn false a) = s) ∧ (s.windowsOpen w = true) ∧ (a % 4 = 0) ∧ (s.discardBit w a = some b) := by
  refine ⟨.host, Reg.CLK_WDT, 10, 5, opened ({ State.reset with
    clk := { State.reset.clk with wiping := false }, host := { State.reset.host with linkUp := true } }), _, rfl, ?_,
    ?_, ?_⟩ <;> decide

theorem test_meets_RegisterWritesAreCheckedAndApplied_5 :
    ∃ (w : Writer) (a n : Nat) (v : DWord) (s0 s : State),
      (s0.begin (regTurn false a) = s) ∧ (s.windowsOpen w = true) ∧ (n ≠ 4 ∨ a % 4 ≠ 0) ∧ (¬ (n = 8 ∧ a % 8 = 0 ∧
        inMsixTable a = true)) := by
  refine ⟨.host, 6, 4, 5, opened ({ State.reset with
    clk := { State.reset.clk with wiping := false }, host := { State.reset.host with linkUp := true } }), _, rfl, ?_,
    ?_, ?_⟩ <;> decide

theorem test_meets_RegisterWritesAreCheckedAndApplied_6 :
    ∃ (w : Writer) (k : Fin 16) (v : DWord) (s0 s : State),
      (s0.begin (regTurn true (4096 * k.val)) = s) ∧ (s.windowsOpen w = true) := by
  refine ⟨.host, 3, 5, opened ({ State.reset with
    clk := { State.reset.clk with wiping := false }, host := { State.reset.host with linkUp := true } }), _, rfl, ?_⟩
  decide

theorem test_meets_TableWindowsTakeExactlyTheirBytes_1 :
    ∃ (w : Writer) (o b : Nat) (bs : List Byte) (s : State),
      (bs.length ≤ 512) ∧ (bs ≠ []) ∧ (s.windowsOpen w = true) ∧ (s.bar1Refused o bs.length = false) ∧
        (windowOf o bs.length = some b) ∧ (b ≠ 2) ∧ (b ≠ 8) := by
  refine ⟨.host, 0x300000, 9, [1], { State.reset with
    clk := { State.reset.clk with wiping := false }, host := { State.reset.host with linkUp := true } }, ?_, ?_, ?_,
    ?_, ?_, ?_, ?_⟩ <;> decide

theorem test_meets_TableWindowsTakeExactlyTheirBytes_2 :
    ∃ (w : Writer) (o : Nat) (bs : List Byte) (s : State),
      (bs.length ≤ 512) ∧ (bs ≠ []) ∧ (s.windowsOpen w = true) ∧ (s.locked = false) ∧ (o + bs.length ≤ 528384) ∧
        (s.sbState ≠ 5) := by
  refine ⟨.host, 0, [1], { State.reset with
    clk := { State.reset.clk with wiping := false }, host := { State.reset.host with linkUp := true } }, ?_, ?_, ?_,
    ?_, ?_, ?_⟩ <;> decide

theorem test_meets_TableWindowsTakeExactlyTheirBytes_3 :
    ∃ (w : Writer) (o : Nat) (bs : List Byte) (s : State),
      (bs.length ≤ 512) ∧ (bs ≠ []) ∧ (s.windowsOpen w = true) ∧ (s.bar1Refused o bs.length = true) := by
  refine ⟨.host, 0x300000, [1], { (State.reset.wrN Reg.HOST_SETUP_LOCK 1) with
    clk := { State.reset.clk with wiping := false }, host := { State.reset.host with linkUp := true } }, ?_, ?_, ?_,
    ?_⟩ <;> decide

theorem test_meets_TableWindowsTakeExactlyTheirBytes_4 :
    ∃ (it : Item) (b : Nat) (s : State),
      (s.frontOf 64 (tableQueue it) 1 = some it) ∧ (tableOwner it.target it.data.length = some b) ∧ (b = 13 ∧
        readOnlyTouched it.target it.data.length = false ∨ b = 11 ∧ s.loopTableBusy it.target it.data.length = false ∨
        b = 9 ∧ s.stepTableBusy it.target it.data.length = false ∧
        s.axisTableBusy it.target it.data.length = false) := by
  refine ⟨⟨0, 9, 0, 0, 1, 0, false, 1, 0, 0, [1], 0x700000, 0⟩, 13, { State.reset with
    tick := 1, host := { State.reset.host with
    inbox := [(64, [⟨0, 9, 0, 0, 1, 0, false, 1, 0, 0, [1], 0x700000, 0⟩])] } }, ?_, ?_, ?_⟩ <;> decide +kernel

theorem test_meets_TableWindowsTakeExactlyTheirBytes_5 :
    ∃ (s : State),
      (s.inboxOf 64 = []) := by
  refine ⟨State.reset, ?_⟩
  decide +kernel

theorem test_meets_RingRequests_1 :
    ∃ (k : Fin 16) (s : State),
      (s.ringState k = 0) ∧ (s.locked = true) ∧ (s.ringAllowed k = true) := by
  refine ⟨14, (State.reset.wrN Reg.HOST_SETUP_LOCK 1), ?_, ?_, ?_⟩ <;> decide

theorem test_meets_RingRequests_2 :
    ∃ (k : Fin 16) (s : State),
      (s.ringState k = 0 ∨ s.ringState k = 3) ∧ (s.locked = true) ∧ (s.ringAllowed k = true) := by
  refine ⟨14, (State.reset.wrN Reg.HOST_SETUP_LOCK 1), ?_, ?_, ?_⟩ <;> decide

theorem test_meets_RingRequests_3 :
    ∃ (k : Fin 16) (s : State),
      (s.ringState k = 1 ∨ s.ringState k = 3) := by
  refine ⟨0, State.reset.wrN (Reg.HOST_RING_STATE 0) 1, ?_⟩
  decide

theorem test_meets_RingRequests_4 :
    ∃ (k : Fin 16) (s : State),
      (s.ringState k = 2) ∧ (tabGet false s.host.moved k = false) := by
  refine ⟨0, State.reset.wrN (Reg.HOST_RING_STATE 0) 2, ?_, ?_⟩ <;> decide

theorem test_meets_RingRequests_5 :
    ∃ (k : Fin 16) (s : State),
      (tabGet false s.host.moved k = true) := by
  refine ⟨14, { State.reset.wrN (Reg.HOST_RING_STATE 14) 2 with
    host := { State.reset.host with moved := [(14, true)] } }, ?_⟩
  decide

theorem test_meets_RingRequests_6 :
    ∃ (k : Fin 16) (s : State),
      (¬ (s.ringState k = 0 ∧ s.locked = true ∧ s.ringAllowed k = true)) := by
  refine ⟨14, State.reset, ?_⟩
  decide

theorem test_meets_DoorbellsAndItemsFromRings_1 :
    ∃ (k : Fin 16) (v : Word) (s : State),
      (s.gathersRing k = true) ∧ (s.host.doorbells = []) ∧ (s.ringState k ≠ 0) ∧ (k.val ≤ 9) ∧
        (0 ≤ signedOf 32 (sub32 v.toNat (s.producer k))) ∧ (sub32 v.toNat (s.consumer k) ≤ s.ringSize k) := by
  refine ⟨0, 1, (State.reset.wrN (Reg.HOST_RING_STATE 0) 1).wrN (Reg.HOST_RING_SIZE 0) 4, ?_, ?_, ?_, ?_, ?_,
    ?_⟩ <;> decide

theorem test_meets_DoorbellsAndItemsFromRings_2 :
    ∃ (k : Fin 16) (v : Word) (s : State),
      (s.gathersRing k = false) := by
  refine ⟨0, 1, (State.reset.wrN Reg.ALM_STATUS 0), ?_⟩
  decide

theorem test_meets_DoorbellsAndItemsFromRings_3 :
    ∃ (k : Fin 10) (descs : List (List Byte)) (data : List Byte) (it : Item) (s : State),
      (fetchFormed k descs data = true) ∧ (s.host.doorbells = []) ∧ (s.canTake k descs.length = true) ∧
        (s.itemStatus k descs = none) ∧ (k.val ≠ 0 ∨ takesCommands
        (mkItem k (s.consumer k) s.host.serials descs data) = true) ∧
        (mkItem k (s.consumer k) s.host.serials descs data = it) := by
  refine ⟨9, [leBytes 8 0xA000 ++ leBytes 8 0 ++ leBytes 4 4096 ++ leBytes 44 0], List.replicate 4096 0,
    mkItem 9 0 0 [leBytes 8 0xA000 ++ leBytes 8 0 ++ leBytes 4 4096 ++ leBytes 44 0] (List.replicate 4096 0),
    ((State.reset.wrN (Reg.HOST_RING_STATE 9) 1).wrN (Reg.HOST_RING_SIZE 9) 4).wrN (Reg.HOST_RING_HIDX 9) 1, ?_, ?_,
    ?_, ?_, ?_, ?_⟩ <;> decide +kernel

theorem test_meets_DoorbellsAndItemsFromRings_4 :
    ∃ (k : Fin 10) (descs : List (List Byte)) (data : List Byte) (s : State),
      (fetchFormed k descs data = true) ∧ (s.host.doorbells = []) ∧ (s.canTake k descs.length = false) := by
  refine ⟨0, [List.replicate 64 0], [], State.reset, ?_, ?_, ?_⟩ <;> decide +kernel

theorem test_meets_DoorbellsAndItemsFromRings_5 :
    ∃ (k : Fin 16) (descs : List (List Byte)) (status : Nat) (s : State),
      (s.canTake k 1 = true) := by
  refine ⟨0, [], 1, (State.reset.wrN (Reg.HOST_RING_STATE 0) 1).wrN (Reg.HOST_RING_HIDX 0) 1, ?_⟩
  decide +kernel

theorem test_meets_DoorbellsAndItemsFromRings_6 :
    ∃ (k : Fin 16) (descs : List (List Byte)) (status : Nat) (it : Item) (s : State),
      (chainFormed k descs = true) ∧ (s.canTake k descs.length = true) ∧ (k.val ≠ 0) ∧
        (mkItem k (s.consumer k) s.host.serials descs [] = it) := by
  refine ⟨9, [leBytes 8 0xA000 ++ leBytes 8 0 ++ leBytes 4 4096 ++ leBytes 44 0], 1,
    mkItem 9 0 0 [leBytes 8 0xA000 ++ leBytes 8 0 ++ leBytes 4 4096 ++ leBytes 44 0] [],
    ((State.reset.wrN (Reg.HOST_RING_STATE 9) 1).wrN (Reg.HOST_RING_SIZE 9) 4).wrN (Reg.HOST_RING_HIDX 9) 1, ?_, ?_,
    ?_, ?_⟩ <;> decide +kernel

theorem test_meets_DoorbellsAndItemsFromRings_7 :
    ∃ (s : State),
      (s.host.held = true) ∧ (s.host.completions.length < completionQuota) := by
  refine ⟨{ State.reset with host := { State.reset.host with held := true } }, ?_, ?_⟩ <;> decide

theorem test_meets_DoorbellsAndItemsFromRings_8 :
    ∃ (k : Fin 16) (s : State),
      (tabGet false s.host.ringVec k = true) ∧ (s.flag (Reg.HOST_RING_IMOD k) 8 = true) ∧
        (tabGet 0 s.host.ringVecAt k = 0 ∨ tabGet 0 s.host.ringVecAt
        k - 1 + max 1 (s.fld (Reg.HOST_RING_IMOD k) 7 0) ≤ s.tick) ∧ (s.pageHas 1 2 0 = true) ∧
        (s.masked (32 + k) = false) := by
  refine ⟨14, { (State.reset.wrN (Reg.HOST_RING_IMOD 14) 0x100).wrN (Reg.HOST_MSIX_TABLE 46 + 12) 0 with
    host := { State.reset.host with ringVec := [(14, true)], linkUp := true } }, ?_, ?_, ?_, ?_, ?_⟩ <;> decide

theorem test_meets_AttachDetachAndLock_2 :
    ∃ (r : LinkRate) (cfg : PciSetup) (s : State),
      (1 ≤ r.speed) ∧ (r.speed ≤ 5) ∧ (r.width = 1 ∨ r.width = 2 ∨ r.width = 4 ∨ r.width = 8) := by
  refine ⟨⟨5, 8⟩, ⟨1, 2, true⟩, State.reset, ?_, ?_, ?_⟩ <;> decide +kernel

theorem test_meets_AttachDetachAndLock_3 :
    ∃ (r : LinkRate) (cfg : PciSetup) (s : State),
      (r.width = 16) := by
  refine ⟨⟨5, 16⟩, ⟨1, 2, true⟩, State.reset, ?_⟩
  decide +kernel

theorem test_meets_AttachDetachAndLock_4 :
    ∃ (s : State),
      (s.locked = false) ∧ (s.flag Reg.LCS_STATUS 3 = true) := by
  refine ⟨State.reset.wrN Reg.LCS_STATUS 8, ?_, ?_⟩ <;> decide

theorem test_meets_AttachDetachAndLock_5 :
    ∃ (s : State),
      (s.locked = false) ∧ (s.flag Reg.LCS_STATUS 3 = false) := by
  refine ⟨State.reset, ?_, ?_⟩ <;> decide

theorem test_meets_AttachDetachAndLock_6 :
    ∃ (s : State),
      (s.locked = true) := by
  refine ⟨State.reset.wrN Reg.HOST_SETUP_LOCK 1, ?_⟩
  decide

theorem test_meets_LoadingAndCheckingTheStandbyBank_1 :
    ∃ (it : Item) (s : State),
      (s.frontOf 2 25 1 = some it) ∧ (tagFrag it.tag ≤ 128) ∧ (s.sbState ≠ 5) := by
  refine ⟨⟨0, 9, 0, 0, 1, 0, false, 1, 0, 0, [1], 0, 0⟩, { State.reset with
    host := { State.reset.host with inbox := [(2, [⟨0, 9, 0, 0, 1, 0, false, 1, 0, 0, [1], 0, 0⟩])] } }, ?_, ?_,
    ?_⟩ <;> decide +kernel

theorem test_meets_LoadingAndCheckingTheStandbyBank_2 :
    ∃ (s0 s : State),
      (s0.begin .decide = s) ∧ (s.sbState = 1) := by
  refine ⟨opened (State.reset.wrN Reg.ALM_SB_STATE 1), opened (State.reset.wrN Reg.ALM_SB_STATE 1),
    State.openDecide_open (decide_eq_true rfl), ?_⟩
  decide

theorem test_meets_LoadingAndCheckingTheStandbyBank_3 :
    ∃ (storage : Option (Fin 129)) (g : Nat) (s0 s : State),
      (s0.begin .decide = s) ∧ (s.alm.checkAt = some g) ∧ (s.sbState = 2) ∧ (g + 2 ≤ s.tick) ∧ (s.tick ≤ g + 8) := by
  refine ⟨none, 0, opened ({ State.reset.wrN Reg.ALM_SB_STATE 2 with
    tick := 2, alm := { State.reset.alm with checkAt := some 0 } }),
    opened ({ State.reset.wrN Reg.ALM_SB_STATE 2 with tick := 2, alm := { State.reset.alm with checkAt := some 0 } }),
    State.openDecide_open (decide_eq_true rfl), ?_, ?_, ?_, ?_⟩ <;> decide

theorem test_meets_LoadingAndCheckingTheStandbyBank_4 :
    ∃ (s0 s : State),
      (s0.begin .decide = s) ∧ (s.sbState = 5) ∧ ((List.range
        8).all (fun i => !bitOf s.alm.draining i || s.stationStopped i) = true) := by
  refine ⟨opened (State.reset.wrN Reg.ALM_SB_STATE 5), opened (State.reset.wrN Reg.ALM_SB_STATE 5),
    State.openDecide_open (decide_eq_true rfl), ?_, ?_⟩ <;> decide

theorem test_meets_SwitchesAndActivationOfTheAlmanac_1 :
    ∃ (s0 s : State),
      (s0.begin .decide = s) ∧ (s.safe = false) ∧ (s.alm.request = none) ∧ (s.alm.next ≠ .holding) ∧
        (s.holding = true) := by
  refine ⟨opened State.reset, opened State.reset, State.openDecide_open (decide_eq_true rfl), ?_, ?_, ?_,
    ?_⟩ <;> decide

theorem test_meets_SwitchesAndActivationOfTheAlmanac_2 :
    ∃ (s0 s : State),
      (s0.begin .decide = s) ∧ (s.safe = false) ∧ (s.alm.request = none) ∧ (s.alm.next ≠ .holding) ∧
        (s.holding = false) ∧ (s.sbState = 3) ∧ (imgStnMask s.standbyImage = imgStnMask s.active) ∧
        (bitOf (imgVolMask s.standbyImage) s.nextGrade = true) := by
  refine ⟨opened ({ ((State.reset.wrN Reg.ALM_STATUS 0).wrN Reg.ALM_SB_STATE 3) with
    alm := { State.reset.alm with active := some 1, bank0 := [(0x11, 1)] } }),
    opened ({ ((State.reset.wrN Reg.ALM_STATUS 0).wrN Reg.ALM_SB_STATE 3) with
    alm := { State.reset.alm with active := some 1, bank0 := [(0x11, 1)] } }),
    State.openDecide_open (decide_eq_true rfl), ?_, ?_, ?_, ?_, ?_, ?_, ?_⟩ <;> decide

theorem test_meets_SwitchesAndActivationOfTheAlmanac_3 :
    ∃ (r : SwitchRequest) (s0 s : State),
      (s0.begin .decide = s) ∧ (s.alm.request = some r) ∧ (r.activation = true) ∧ (r.inTime s.tick = true) ∧
        (s.holding = true) ∧ (s.sbState = 3) ∧ (s.allDisabled = true) ∧ (s.safe = false) ∧ (s.alm.next = .same) := by
  refine ⟨⟨0, none, true⟩, opened ({ (State.reset.wrN Reg.ALM_SB_STATE 3) with
    alm := { State.reset.alm with request := some ⟨0, none, true⟩ } }),
    opened ({ (State.reset.wrN Reg.ALM_SB_STATE 3) with
    alm := { State.reset.alm with request := some ⟨0, none, true⟩ } }), State.openDecide_open (decide_eq_true rfl),
    ?_, ?_, ?_, ?_, ?_, ?_, ?_, ?_⟩ <;> decide

theorem test_meets_SwitchesAndActivationOfTheAlmanac_4 :
    ∃ (r : SwitchRequest) (s0 s : State),
      (s0.begin .decide = s) ∧ (s.alm.request = some r) ∧ (r.activation = false) ∧ (r.inTime s.tick = true) ∧
        (s.holding = false) ∧ (s.switchFault = none) ∧ (s.lastOfSeason = true) ∧ (s.sheetGap = true) ∧
        (s.safe = false) ∧ (s.alm.next = .same) := by
  refine ⟨⟨0, none, false⟩, opened
    ({ (((State.reset.wrN Reg.ALM_STATUS 0).wrN Reg.ALM_SB_STATE 3).wrN Reg.LEDG_STATUS 2048) with
    alm := { State.reset.alm with
    active := some 1, request := some ⟨0, none, false⟩, bank0 := [(0x11, 1)], bank1 := [(0x102, 1)] } }),
    opened ({ (((State.reset.wrN Reg.ALM_STATUS 0).wrN Reg.ALM_SB_STATE 3).wrN Reg.LEDG_STATUS 2048) with
    alm := { State.reset.alm with
    active := some 1, request := some ⟨0, none, false⟩, bank0 := [(0x11, 1)], bank1 := [(0x102, 1)] } }),
    State.openDecide_open (decide_eq_true rfl), ?_, ?_, ?_, ?_, ?_, ?_, ?_, ?_, ?_⟩ <;> decide

theorem test_meets_SwitchesAndActivationOfTheAlmanac_5 :
    ∃ (s0 s : State),
      (s0.begin .decide = s) ∧ (s.alm.request.isSome = true) := by
  refine ⟨opened ({ State.reset with alm := { State.reset.alm with request := some ⟨0, none, true⟩ } }),
    opened ({ State.reset with alm := { State.reset.alm with request := some ⟨0, none, true⟩ } }),
    State.openDecide_open (decide_eq_true rfl), ?_⟩
  decide

theorem test_meets_SwitchesAndActivationOfTheAlmanac_6 :
    ∃ (r : SwitchRequest) (d : Nat) (s0 s : State),
      (s0.begin .decide = s) ∧ (s.alm.request = some r) ∧ (r.deadline = some d) ∧ (d ≤ s.tick) ∧
        (s.canActivate = false) ∧ (s.canSwitch = false) := by
  refine ⟨⟨0, some 0, true⟩, 0, opened ({ State.reset with
    alm := { State.reset.alm with request := some ⟨0, some 0, true⟩ } }), opened ({ State.reset with
    alm := { State.reset.alm with request := some ⟨0, some 0, true⟩ } }), State.openDecide_open (decide_eq_true rfl),
    ?_, ?_, ?_, ?_, ?_⟩ <;> decide

theorem test_meets_SwitchesAndActivationOfTheAlmanac_7 :
    ∃ (s0 s : State),
      (s0.begin .decide = s) ∧ (s.holding = false) ∧ (s.allDisabled = true) ∧ (s.sbState ≠ 5) := by
  refine ⟨opened ({ (State.reset.wrN Reg.ALM_STATUS 0) with alm := { State.reset.alm with active := some 1 } }),
    opened ({ (State.reset.wrN Reg.ALM_STATUS 0) with alm := { State.reset.alm with active := some 1 } }),
    State.openDecide_open (decide_eq_true rfl), ?_, ?_, ?_⟩ <;> decide

theorem test_meets_SwitchesAndActivationOfTheAlmanac_8 :
    ∃ (s0 s : State),
      (s0.begin .decide = s) ∧ (s.holding = false) ∧ (s.allDisabled = true) ∧ (s.sbState = 5) := by
  refine ⟨opened ({ ((State.reset.wrN Reg.ALM_STATUS 0).wrN Reg.ALM_SB_STATE 5) with
    alm := { State.reset.alm with active := some 1 } }), opened
    ({ ((State.reset.wrN Reg.ALM_STATUS 0).wrN Reg.ALM_SB_STATE 5) with
    alm := { State.reset.alm with active := some 1 } }), State.openDecide_open (decide_eq_true rfl), ?_, ?_,
    ?_⟩ <;> decide

theorem test_meets_SwitchesAndActivationOfTheAlmanac_9 :
    ∃ (s0 s : State),
      (s0.begin .decide = s) ∧ (s.alm.releaseWaits = true) ∧ (s.sbState ≠ 5) ∧ (s.allDisabled = true) := by
  refine ⟨opened ({ (State.reset.wrN Reg.ALM_STATUS 0) with
    alm := { State.reset.alm with active := some 1, releaseWaits := true } }),
    opened ({ (State.reset.wrN Reg.ALM_STATUS 0) with
    alm := { State.reset.alm with active := some 1, releaseWaits := true } }),
    State.openDecide_open (decide_eq_true rfl), ?_, ?_, ?_⟩ <;> decide

theorem test_meets_SpeedGradeRequestsAndChanges_1 :
    ∃ (g : Fin 8) (s0 s : State),
      (s0.begin .decide = s) ∧ (s.safe = false) ∧ (s.holding = true) := by
  refine ⟨3, opened State.reset, opened State.reset, State.openDecide_open (decide_eq_true rfl), ?_, ?_⟩ <;> decide

theorem test_meets_SpeedGradeRequestsAndChanges_2 :
    ∃ (g : Fin 8) (s0 s : State),
      (s0.begin .decide = s) ∧ (s.safe = false) ∧ (s.holding = false) ∧ (bitOf (imgVolMask s.active) g.val = true) ∧
        (s.flag Reg.ALM_STATUS 3 = true) := by
  refine ⟨1, opened ({ ((State.reset.wrN Reg.ALM_STATUS 0).wrN Reg.ALM_STATUS 8) with
    alm := { State.reset.alm with active := some 0, bank0 := [(0x11, 2)] } }),
    opened ({ ((State.reset.wrN Reg.ALM_STATUS 0).wrN Reg.ALM_STATUS 8) with
    alm := { State.reset.alm with active := some 0, bank0 := [(0x11, 2)] } }),
    State.openDecide_open (decide_eq_true rfl), ?_, ?_, ?_, ?_⟩ <;> decide

theorem test_meets_SpeedGradeRequestsAndChanges_3 :
    ∃ (g : Fin 8) (s0 s : State),
      (s0.begin .decide = s) ∧ (s.safe = false) ∧ (s.holding = false) ∧ (bitOf (imgVolMask s.active) g.val = true) ∧
        (s.flag Reg.ALM_STATUS 3 = false) ∧ (g.val ≠ s.grade) := by
  refine ⟨1, opened ({ (State.reset.wrN Reg.ALM_STATUS 0) with
    alm := { State.reset.alm with active := some 0, bank0 := [(0x11, 2)] } }),
    opened ({ (State.reset.wrN Reg.ALM_STATUS 0) with
    alm := { State.reset.alm with active := some 0, bank0 := [(0x11, 2)] } }),
    State.openDecide_open (decide_eq_true rfl), ?_, ?_, ?_, ?_, ?_⟩ <;> decide

theorem test_meets_SpeedGradeRequestsAndChanges_4 :
    ∃ (b : Nat) (s0 s : State),
      (s0.begin .decide = s) ∧ (s.alm.active = some b) ∧ (s.flag Reg.ALM_STATUS 3 = true) ∧ (s.holding = false) ∧
        (s.sheetGap = true) ∧ (s.safe = false) ∧ (s.canSwitch = false) ∧ (s.alm.next = .same) := by
  refine ⟨0, opened ({ (((State.reset.wrN Reg.ALM_STATUS 0).wrN Reg.ALM_STATUS 8).wrN Reg.LEDG_STATUS 2048) with
    alm := { State.reset.alm with active := some 0, bank0 := [(0x11, 2)] } }),
    opened ({ (((State.reset.wrN Reg.ALM_STATUS 0).wrN Reg.ALM_STATUS 8).wrN Reg.LEDG_STATUS 2048) with
    alm := { State.reset.alm with active := some 0, bank0 := [(0x11, 2)] } }),
    State.openDecide_open (decide_eq_true rfl), ?_, ?_, ?_, ?_, ?_, ?_, ?_⟩ <;> decide

theorem test_meets_LedgerItemsOfRingZero_1 :
    ∃ (it : Item) (s0 s : State),
      (s0.begin (.ledg 4) = s) ∧ (s.ready (.ledg 4) = true) ∧ (s.frontOf 3 4 2 = some it) ∧ (tagKind it.tag = 5) ∧
        (s.announceFault it = none) := by
  refine ⟨⟨mkTag 1 0 0 5 0, 0, 0, 0, 1, 0, false, 0, 1, 3, ([1, 0, 0, 0, 64, 0, 0, 0, 100] ++ List.replicate 39 0), 0,
    0⟩, opened ({ State.reset with
    host := { State.reset.host with
    inbox := [(3, [⟨mkTag 1 0 0 5 0, 0, 0, 0, 1, 0, false, 0, 1, 3, ([1, 0, 0, 0, 64, 0, 0, 0,
    100] ++ List.replicate 39 0), 0, 0⟩])] }, ledg := { State.reset.ledg with sheets := [] } }),
    opened ({ State.reset with
    host := { State.reset.host with
    inbox := [(3, [⟨mkTag 1 0 0 5 0, 0, 0, 0, 1, 0, false, 0, 1, 3, ([1, 0, 0, 0, 64, 0, 0, 0,
    100] ++ List.replicate 39 0), 0, 0⟩])] }, ledg := { State.reset.ledg with sheets := [] } }),
    State.openDecide_open (decide_eq_true rfl), ?_, ?_, ?_, ?_⟩ <;> decide +kernel

theorem test_meets_LedgerItemsOfRingZero_2 :
    ∃ (it : Item) (sh : Sheet) (s0 s : State),
      (s0.begin (.ledg 4) = s) ∧ (s.ready (.ledg 4) = true) ∧ (s.frontOf 3 4 2 = some it) ∧ (tagKind it.tag = 6) ∧
        (it.opcode = 0x10) ∧ (itemTagOk it = true) ∧ (zerosAt it.data 0 48 = true) ∧
        (s.sheet (tagSheet it.tag) = some sh) ∧ (sh.id = tagSheet it.tag) ∧ (sh.state = .announced ∨
        sh.state = .admitted ∨ (sh.state = .spoiled ∨ sh.state = .jammed) ∧ sh.inPath = false) := by
  refine ⟨⟨mkTag 1 0 0 6 0, 0, 0, 0, 1, 0, false, 0, 0x10, 3, List.replicate 48 0, 0, 0⟩, ({
    id := 1, state := .announced, inPath := false, stations := 1, modeB := false, lines := 64, lengthUm := 100,
    leadUm := 0, tray := 0, bin := 0, firstBand := 0, reprint := none, q := 0, e := 0, resident := [], lateFired :=
    [], due := [], begun := [], lastLine := 0, met := [], closed := [], endedAt := 0 } : Sheet),
    opened ({ State.reset with
    host := { State.reset.host with
    inbox := [(3, [⟨mkTag 1 0 0 6 0, 0, 0, 0, 1, 0, false, 0, 0x10, 3, List.replicate 48 0, 0, 0⟩])] }, ledg :=
    { State.reset.ledg with
    sheets := [(1, ({
    id := 1, state := .announced, inPath := false, stations := 1, modeB := false, lines := 64, lengthUm := 100,
    leadUm := 0, tray := 0, bin := 0, firstBand := 0, reprint := none, q := 0, e := 0, resident := [], lateFired :=
    [], due := [], begun := [], lastLine := 0, met := [], closed := [], endedAt := 0 } : Sheet))] } }),
    opened ({ State.reset with
    host := { State.reset.host with
    inbox := [(3, [⟨mkTag 1 0 0 6 0, 0, 0, 0, 1, 0, false, 0, 0x10, 3, List.replicate 48 0, 0, 0⟩])] }, ledg :=
    { State.reset.ledg with
    sheets := [(1, ({
    id := 1, state := .announced, inPath := false, stations := 1, modeB := false, lines := 64, lengthUm := 100,
    leadUm := 0, tray := 0, bin := 0, firstBand := 0, reprint := none, q := 0, e := 0, resident := [], lateFired :=
    [], due := [], begun := [], lastLine := 0, met := [], closed := [], endedAt := 0 } : Sheet))] } }),
    State.openDecide_open (decide_eq_true rfl), ?_, ?_, ?_, ?_, ?_, ?_, ?_, ?_, ?_⟩ <;> decide +kernel

theorem test_meets_LedgerItemsOfRingZero_3 :
    ∃ (it : Item) (sh : Sheet) (s0 s : State),
      (s0.begin (.ledg 4) = s) ∧ (s.ready (.ledg 4) = true) ∧ (s.frontOf 3 4 2 = some it) ∧ (tagKind it.tag = 6) ∧
        (it.opcode = 0x11) ∧ (itemTagOk it = true) ∧ (zerosAt it.data 2 46 = true) ∧
        (s.sheet (tagSheet it.tag) = some sh) ∧ (sh.id = tagSheet it.tag) ∧ (sh.state = .spoiled ∨
        sh.state = .jammed) ∧ (sh.inPath = false) ∧ (leAt it.data 0 2 < sh.bands) := by
  refine ⟨⟨mkTag 1 0 0 6 0, 0, 0, 0, 1, 0, false, 0, 0x11, 3, List.replicate 48 0, 0, 0⟩, ({
    id := 1, state := .spoiled, inPath := false, stations := 1, modeB := false, lines := 64, lengthUm := 100,
    leadUm := 0, tray := 0, bin := 0, firstBand := 0, reprint := none, q := 0, e := 0, resident := [], lateFired :=
    [], due := [], begun := [], lastLine := 0, met := [], closed := [], endedAt := 0 } : Sheet),
    opened ({ State.reset with
    host := { State.reset.host with
    inbox := [(3, [⟨mkTag 1 0 0 6 0, 0, 0, 0, 1, 0, false, 0, 0x11, 3, List.replicate 48 0, 0, 0⟩])] }, ledg :=
    { State.reset.ledg with
    sheets := [(1, ({
    id := 1, state := .spoiled, inPath := false, stations := 1, modeB := false, lines := 64, lengthUm := 100,
    leadUm := 0, tray := 0, bin := 0, firstBand := 0, reprint := none, q := 0, e := 0, resident := [], lateFired :=
    [], due := [], begun := [], lastLine := 0, met := [], closed := [], endedAt := 0 } : Sheet))] } }),
    opened ({ State.reset with
    host := { State.reset.host with
    inbox := [(3, [⟨mkTag 1 0 0 6 0, 0, 0, 0, 1, 0, false, 0, 0x11, 3, List.replicate 48 0, 0, 0⟩])] }, ledg :=
    { State.reset.ledg with
    sheets := [(1, ({
    id := 1, state := .spoiled, inPath := false, stations := 1, modeB := false, lines := 64, lengthUm := 100,
    leadUm := 0, tray := 0, bin := 0, firstBand := 0, reprint := none, q := 0, e := 0, resident := [], lateFired :=
    [], due := [], begun := [], lastLine := 0, met := [], closed := [], endedAt := 0 } : Sheet))] } }),
    State.openDecide_open (decide_eq_true rfl), ?_, ?_, ?_, ?_, ?_, ?_, ?_, ?_, ?_, ?_, ?_⟩ <;> decide +kernel

theorem test_meets_LedgerItemsOfRingZero_4 :
    ∃ (it : Item) (s0 s : State),
      (s0.begin (.ledg 4) = s) ∧ (s.ready (.ledg 4) = true) ∧ (s.frontOf 3 4 2 = some it) ∧ (tagKind it.tag = 6) ∧
        (it.opcode = 0x12) ∧ (itemTagOk it = true) ∧ (tagSheet it.tag = 0) ∧ (zerosAt it.data 4 44 = true) ∧
        (s.jammed = true) ∧ (leAt it.data 0 4 = s.rdN Reg.LEDG_COUNT_JAM) := by
  refine ⟨⟨mkTag 0 0 0 6 0, 0, 0, 0, 1, 0, false, 0, 0x12, 3, List.replicate 48 0, 0, 0⟩,
    opened ({ (State.reset.wrN Reg.LEDG_STATUS 1024) with
    host := { State.reset.host with
    inbox := [(3, [⟨mkTag 0 0 0 6 0, 0, 0, 0, 1, 0, false, 0, 0x12, 3, List.replicate 48 0, 0, 0⟩])] }, ledg :=
    { State.reset.ledg with sheets := [] } }), opened ({ (State.reset.wrN Reg.LEDG_STATUS 1024) with
    host := { State.reset.host with
    inbox := [(3, [⟨mkTag 0 0 0 6 0, 0, 0, 0, 1, 0, false, 0, 0x12, 3, List.replicate 48 0, 0, 0⟩])] }, ledg :=
    { State.reset.ledg with sheets := [] } }), State.openDecide_open (decide_eq_true rfl), ?_, ?_, ?_, ?_, ?_, ?_, ?_,
    ?_, ?_⟩ <;> decide +kernel

theorem test_meets_LedgerItemsOfRingZero_5 :
    ∃ (it : Item) (sh : Sheet) (s0 s : State),
      (s0.begin (.ledg 4) = s) ∧ (s.ready (.ledg 4) = true) ∧ (s.frontOf 3 4 2 = some it) ∧ (tagKind it.tag = 6) ∧
        (it.opcode = 0x13) ∧ (itemTagOk it = true) ∧ (zerosAt it.data 0 48 = true) ∧
        (s.sheet (tagSheet it.tag) = some sh) := by
  refine ⟨⟨mkTag 1 0 0 6 0, 0, 0, 0, 1, 0, false, 0, 0x13, 3, List.replicate 48 0, 0, 0⟩, ({
    id := 1, state := .spoiled, inPath := false, stations := 1, modeB := false, lines := 64, lengthUm := 100,
    leadUm := 0, tray := 0, bin := 0, firstBand := 0, reprint := none, q := 0, e := 0, resident := [], lateFired :=
    [], due := [], begun := [], lastLine := 0, met := [], closed := [], endedAt := 0 } : Sheet),
    opened ({ State.reset with
    host := { State.reset.host with
    inbox := [(3, [⟨mkTag 1 0 0 6 0, 0, 0, 0, 1, 0, false, 0, 0x13, 3, List.replicate 48 0, 0, 0⟩])] }, ledg :=
    { State.reset.ledg with
    sheets := [(1, ({
    id := 1, state := .spoiled, inPath := false, stations := 1, modeB := false, lines := 64, lengthUm := 100,
    leadUm := 0, tray := 0, bin := 0, firstBand := 0, reprint := none, q := 0, e := 0, resident := [], lateFired :=
    [], due := [], begun := [], lastLine := 0, met := [], closed := [], endedAt := 0 } : Sheet))] } }),
    opened ({ State.reset with
    host := { State.reset.host with
    inbox := [(3, [⟨mkTag 1 0 0 6 0, 0, 0, 0, 1, 0, false, 0, 0x13, 3, List.replicate 48 0, 0, 0⟩])] }, ledg :=
    { State.reset.ledg with
    sheets := [(1, ({
    id := 1, state := .spoiled, inPath := false, stations := 1, modeB := false, lines := 64, lengthUm := 100,
    leadUm := 0, tray := 0, bin := 0, firstBand := 0, reprint := none, q := 0, e := 0, resident := [], lateFired :=
    [], due := [], begun := [], lastLine := 0, met := [], closed := [], endedAt := 0 } : Sheet))] } }),
    State.openDecide_open (decide_eq_true rfl), ?_, ?_, ?_, ?_, ?_, ?_, ?_⟩ <;> decide +kernel

theorem test_meets_AdmissionCommitAndPick_1 :
    ∃ (u : State) (h : Sheet) (q : Int) (s0 s : State),
      (s0.begin (.ledg 6) = s) ∧ (s.ready (.ledg 6) = true) ∧ (s.showHead = u) ∧ (u.head = some h) ∧
        (u.waitReason h = none) ∧ (u.ledg.admitAt ≠ u.tick + 1) ∧ (u.bhWanted = false ∨
        u.flag Reg.LEDG_BH_STATUS 7 = true) ∧ (u.qPitch.elim
        (u.ledg.pos + um (u.admitMargin - u.eOf h)) (fun p
        => max p (u.ledg.pos + um (u.admitMargin - u.eOf h))) = q) := by
  refine ⟨(opened admitReady).showHead, ({
    id := 1, state := .announced, inPath := false, stations := 0, modeB := false, lines := 1, lengthUm := 100,
    leadUm := 0, tray := 0, bin := 0, firstBand := 0, reprint := none, q := 0, e := 0, resident := [], lateFired :=
    [], due := [], begun := [], lastLine := 0, met := [], closed := [], endedAt := 0 } : Sheet),
    (admitReady.ledg.pos + um (admitReady.admitMargin - admitReady.eOf ({
    id := 1, state := .announced, inPath := false, stations := 0, modeB := false, lines := 1, lengthUm := 100,
    leadUm := 0, tray := 0, bin := 0, firstBand := 0, reprint := none, q := 0, e := 0, resident := [], lateFired :=
    [], due := [], begun := [], lastLine := 0, met := [], closed := [], endedAt := 0 } : Sheet))), opened admitReady,
    opened admitReady, State.openDecide_open (decide_eq_true rfl), ?_⟩
  exact ⟨by decide +kernel, rfl, by decide +kernel, by decide +kernel, by decide +kernel, by decide +kernel,
    by decide +kernel⟩

theorem test_meets_AdmissionCommitAndPick_2 :
    ∃ (u : State) (s0 s : State),
      (s0.begin (.ledg 6) = s) ∧ (s.ready (.ledg 6) = true) ∧ (s.showHead = u) ∧ (u.head = none) := by
  refine ⟨(opened ledgerPage).showHead, opened ledgerPage, opened ledgerPage,
    State.openDecide_open (decide_eq_true rfl), ?_, ?_, ?_⟩ <;> decide +kernel

theorem test_meets_AdmissionCommitAndPick_3 :
    ∃ (id : Nat) (sh : Sheet) (s0 s : State),
      (s0.begin (.ledg 7) = s) ∧ (s.ready (.ledg 7) = true) ∧ (s.sheet id = some sh) ∧ (sh.id = id) ∧
        (sh.state = .admitted) ∧ (s.fallen (sh.q + um sh.e) = true) ∧ (s.commitLate sh = false) := by
  refine ⟨1, ({
    id := 1, state := .admitted, inPath := false, stations := 1, modeB := false, lines := 64, lengthUm := 100,
    leadUm := 0, tray := 0, bin := 0, firstBand := 0, reprint := none, q := 0, e := 0, resident := [(0, true)],
    lateFired := [], due := [], begun := [], lastLine := 0, met := [], closed := [], endedAt := 0 } : Sheet),
    opened ({ State.reset with
    host := { State.reset.host with inbox := [(3, [])] }, ledg := { State.reset.ledg with
    sheets := [(1, ({
    id := 1, state := .admitted, inPath := false, stations := 1, modeB := false, lines := 64, lengthUm := 100,
    leadUm := 0, tray := 0, bin := 0, firstBand := 0, reprint := none, q := 0, e := 0, resident := [(0, true)],
    lateFired := [], due := [], begun := [], lastLine := 0, met := [], closed := [], endedAt := 0 } : Sheet))] } }),
    opened ({ State.reset with
    host := { State.reset.host with inbox := [(3, [])] }, ledg := { State.reset.ledg with
    sheets := [(1, ({
    id := 1, state := .admitted, inPath := false, stations := 1, modeB := false, lines := 64, lengthUm := 100,
    leadUm := 0, tray := 0, bin := 0, firstBand := 0, reprint := none, q := 0, e := 0, resident := [(0, true)],
    lateFired := [], due := [], begun := [], lastLine := 0, met := [], closed := [], endedAt := 0 } : Sheet))] } }),
    State.openDecide_open (decide_eq_true rfl), ?_, ?_, ?_, ?_, ?_, ?_⟩ <;> decide +kernel

theorem test_meets_AdmissionCommitAndPick_4 :
    ∃ (id : Nat) (sh : Sheet) (s0 s : State),
      (s0.begin .decide = s) ∧ (s.sheet id = some sh) ∧ (s.web = false) ∧ (sh.inPath = true) ∧
        (s.fallen sh.q = true) ∧ (tabGet false s.ledg.picked id = false) ∧ (sh.state = .committed ∨
        sh.state = .imaged ∨ sh.state = .spoiled) := by
  refine ⟨1, ({
    id := 1, state := .committed, inPath := true, stations := 1, modeB := false, lines := 64, lengthUm := 100,
    leadUm := 0, tray := 0, bin := 0, firstBand := 0, reprint := none, q := 0, e := 0, resident := [], lateFired :=
    [], due := [], begun := [], lastLine := 0, met := [], closed := [], endedAt := 0 } : Sheet),
    opened ({ State.reset with
    host := { State.reset.host with inbox := [(3, [])] }, ledg := { State.reset.ledg with
    sheets := [(1, ({
    id := 1, state := .committed, inPath := true, stations := 1, modeB := false, lines := 64, lengthUm := 100,
    leadUm := 0, tray := 0, bin := 0, firstBand := 0, reprint := none, q := 0, e := 0, resident := [], lateFired :=
    [], due := [], begun := [], lastLine := 0, met := [], closed := [], endedAt := 0 } : Sheet))] } }),
    opened ({ State.reset with
    host := { State.reset.host with inbox := [(3, [])] }, ledg := { State.reset.ledg with
    sheets := [(1, ({
    id := 1, state := .committed, inPath := true, stations := 1, modeB := false, lines := 64, lengthUm := 100,
    leadUm := 0, tray := 0, bin := 0, firstBand := 0, reprint := none, q := 0, e := 0, resident := [], lateFired :=
    [], due := [], begun := [], lastLine := 0, met := [], closed := [], endedAt := 0 } : Sheet))] } }),
    State.openDecide_open (decide_eq_true rfl), ?_, ?_, ?_, ?_, ?_, ?_⟩ <;> decide +kernel

theorem test_meets_DeadlinesSpoilAndWithdraw_1 :
    ∃ (id : Nat) (stn : Fin 8) (band : Nat) (sh : Sheet) (s0 s : State),
      (s0.begin (.ledg 2) = s) ∧ (s.ready (.ledg 2) = true) ∧ (s.sheet id = some sh) ∧ (sh.id = id) ∧
        (sh.uses stn = true) ∧ (sh.has stn band = false) ∧ (s.deadlineDue sh stn band = true) ∧
        (sh.state = .committed) := by
  refine ⟨1, 0, 0, ({
    id := 1, state := .committed, inPath := false, stations := 1, modeB := false, lines := 64, lengthUm := 100,
    leadUm := 0, tray := 0, bin := 0, firstBand := 0, reprint := none, q := 0, e := 0, resident := [], lateFired :=
    [], due := [(0, 1)], begun := [], lastLine := 0, met := [], closed := [], endedAt := 0 } : Sheet),
    opened ({ State.reset with
    host := { State.reset.host with inbox := [(3, [])] }, ledg := { State.reset.ledg with
    sheets := [(1, ({
    id := 1, state := .committed, inPath := false, stations := 1, modeB := false, lines := 64, lengthUm := 100,
    leadUm := 0, tray := 0, bin := 0, firstBand := 0, reprint := none, q := 0, e := 0, resident := [], lateFired :=
    [], due := [(0, 1)], begun := [], lastLine := 0, met := [], closed := [], endedAt := 0 } : Sheet))] } }),
    opened ({ State.reset with
    host := { State.reset.host with inbox := [(3, [])] }, ledg := { State.reset.ledg with
    sheets := [(1, ({
    id := 1, state := .committed, inPath := false, stations := 1, modeB := false, lines := 64, lengthUm := 100,
    leadUm := 0, tray := 0, bin := 0, firstBand := 0, reprint := none, q := 0, e := 0, resident := [], lateFired :=
    [], due := [(0, 1)], begun := [], lastLine := 0, met := [], closed := [], endedAt := 0 } : Sheet))] } }),
    State.openDecide_open (decide_eq_true rfl), ?_, ?_, ?_, ?_, ?_, ?_, ?_⟩ <;> decide +kernel

theorem test_meets_DeadlinesSpoilAndWithdraw_2 :
    ∃ (id : Nat) (stn : Fin 8) (band : Nat) (sh : Sheet) (s0 s : State),
      (s0.begin (.ledg 2) = s) ∧ (s.ready (.ledg 2) = true) ∧ (s.sheet id = some sh) ∧ (sh.id = id) ∧
        (sh.uses stn = true) ∧ (sh.has stn band = false) ∧ (s.deadlineDue sh stn band = true) ∧
        (sh.state = .admitted) := by
  refine ⟨1, 0, 0, ({
    id := 1, state := .admitted, inPath := false, stations := 1, modeB := false, lines := 64, lengthUm := 100,
    leadUm := 0, tray := 0, bin := 0, firstBand := 0, reprint := none, q := 0, e := 0, resident := [], lateFired :=
    [], due := [], begun := [], lastLine := 0, met := [], closed := [], endedAt := 0 } : Sheet),
    opened ({ (State.reset.wrN Reg.LEDG_CFG 16) with
    host := { State.reset.host with inbox := [(3, [])] }, ledg := { State.reset.ledg with
    sheets := [(1, ({
    id := 1, state := .admitted, inPath := false, stations := 1, modeB := false, lines := 64, lengthUm := 100,
    leadUm := 0, tray := 0, bin := 0, firstBand := 0, reprint := none, q := 0, e := 0, resident := [], lateFired :=
    [], due := [], begun := [], lastLine := 0, met := [], closed := [], endedAt := 0 } : Sheet))] } }),
    opened ({ (State.reset.wrN Reg.LEDG_CFG 16) with
    host := { State.reset.host with inbox := [(3, [])] }, ledg := { State.reset.ledg with
    sheets := [(1, ({
    id := 1, state := .admitted, inPath := false, stations := 1, modeB := false, lines := 64, lengthUm := 100,
    leadUm := 0, tray := 0, bin := 0, firstBand := 0, reprint := none, q := 0, e := 0, resident := [], lateFired :=
    [], due := [], begun := [], lastLine := 0, met := [], closed := [], endedAt := 0 } : Sheet))] } }),
    State.openDecide_open (decide_eq_true rfl), ?_, ?_, ?_, ?_, ?_, ?_, ?_⟩ <;> decide +kernel

theorem test_meets_DeadlinesSpoilAndWithdraw_3 :
    ∃ (r : Report) (sh : Sheet) (s0 s : State),
      (s0.begin (.ledg 2) = s) ∧ (s.ready (.ledg 2) = true) ∧ (s.firstReport .underrun = some r) ∧
        (s.sheet r.sheet = some sh) ∧ (sh.id = r.sheet) ∧ (sh.state = .committed) := by
  refine ⟨⟨.underrun, 1, 0, 0, 0, 0⟩, ({
    id := 1, state := .committed, inPath := false, stations := 1, modeB := false, lines := 64, lengthUm := 100,
    leadUm := 0, tray := 0, bin := 0, firstBand := 0, reprint := none, q := 0, e := 0, resident := [], lateFired :=
    [], due := [], begun := [], lastLine := 0, met := [], closed := [], endedAt := 0 } : Sheet),
    opened ({  State.reset with
    host := { State.reset.host with inbox := [(3, [])] }, ledg := { State.reset.ledg with
    sheets := [(1, ({
    id := 1, state := .committed, inPath := false, stations := 1, modeB := false, lines := 64, lengthUm := 100,
    leadUm := 0, tray := 0, bin := 0, firstBand := 0, reprint := none, q := 0, e := 0, resident := [], lateFired :=
    [], due := [], begun := [], lastLine := 0, met := [], closed := [], endedAt := 0 } : Sheet))], reports :=
    [⟨.underrun, 1, 0, 0, 0, 0⟩] } , tick := 1 }), opened ({  State.reset with
    host := { State.reset.host with inbox := [(3, [])] }, ledg := { State.reset.ledg with
    sheets := [(1, ({
    id := 1, state := .committed, inPath := false, stations := 1, modeB := false, lines := 64, lengthUm := 100,
    leadUm := 0, tray := 0, bin := 0, firstBand := 0, reprint := none, q := 0, e := 0, resident := [], lateFired :=
    [], due := [], begun := [], lastLine := 0, met := [], closed := [], endedAt := 0 } : Sheet))], reports :=
    [⟨.underrun, 1, 0, 0, 0, 0⟩] } , tick := 1 }), State.openDecide_open (decide_eq_true rfl), ?_, ?_, ?_, ?_,
    ?_⟩ <;> decide +kernel

theorem test_meets_DeadlinesSpoilAndWithdraw_4 :
    ∃ (r : Report) (s0 s : State),
      (s0.begin (.ledg 2) = s) ∧ (s.ready (.ledg 2) = true) ∧ (s.firstReport .beamFailure = some r) := by
  refine ⟨⟨.beamFailure, 1, 0, 0, 0, 0⟩, opened ({  State.reset with
    host := { State.reset.host with inbox := [(3, [])] }, ledg := { State.reset.ledg with
    sheets := [(1, ({
    id := 1, state := .committed, inPath := false, stations := 1, modeB := false, lines := 64, lengthUm := 100,
    leadUm := 0, tray := 0, bin := 0, firstBand := 0, reprint := none, q := 0, e := 0, resident := [], lateFired :=
    [], due := [], begun := [], lastLine := 0, met := [], closed := [], endedAt := 0 } : Sheet))], reports :=
    [⟨.beamFailure, 1, 0, 0, 0, 0⟩] } , tick := 1 }), opened ({  State.reset with
    host := { State.reset.host with inbox := [(3, [])] }, ledg := { State.reset.ledg with
    sheets := [(1, ({
    id := 1, state := .committed, inPath := false, stations := 1, modeB := false, lines := 64, lengthUm := 100,
    leadUm := 0, tray := 0, bin := 0, firstBand := 0, reprint := none, q := 0, e := 0, resident := [], lateFired :=
    [], due := [], begun := [], lastLine := 0, met := [], closed := [], endedAt := 0 } : Sheet))], reports :=
    [⟨.beamFailure, 1, 0, 0, 0, 0⟩] } , tick := 1 }), State.openDecide_open (decide_eq_true rfl), ?_,
    ?_⟩ <;> decide +kernel

theorem test_meets_DeadlinesSpoilAndWithdraw_5 :
    ∃ (r : Report) (s0 s : State),
      (s0.begin (.ledg 1) = s) ∧ (s.ready (.ledg 1) = true) ∧ (s.firstReport .headShutdown = some r) := by
  refine ⟨⟨.headShutdown, 1, 0, 0, 0, 0⟩, opened ({  State.reset with
    host := { State.reset.host with inbox := [(3, [])] }, ledg := { State.reset.ledg with
    sheets := [(1, ({
    id := 1, state := .committed, inPath := false, stations := 1, modeB := false, lines := 64, lengthUm := 100,
    leadUm := 0, tray := 0, bin := 0, firstBand := 0, reprint := none, q := 0, e := 0, resident := [], lateFired :=
    [], due := [], begun := [], lastLine := 0, met := [], closed := [], endedAt := 0 } : Sheet))], reports :=
    [⟨.headShutdown, 1, 0, 0, 0, 0⟩] } , tick := 1 }), opened ({  State.reset with
    host := { State.reset.host with inbox := [(3, [])] }, ledg := { State.reset.ledg with
    sheets := [(1, ({
    id := 1, state := .committed, inPath := false, stations := 1, modeB := false, lines := 64, lengthUm := 100,
    leadUm := 0, tray := 0, bin := 0, firstBand := 0, reprint := none, q := 0, e := 0, resident := [], lateFired :=
    [], due := [], begun := [], lastLine := 0, met := [], closed := [], endedAt := 0 } : Sheet))], reports :=
    [⟨.headShutdown, 1, 0, 0, 0, 0⟩] } , tick := 1 }), State.openDecide_open (decide_eq_true rfl), ?_,
    ?_⟩ <;> decide +kernel

theorem test_meets_DeadlinesSpoilAndWithdraw_6 :
    ∃ (r : Report) (s0 s : State),
      (s0.begin (.ledg 2) = s) ∧ (s.ready (.ledg 2) = true) ∧ (s.firstReport .observerLoss = some r) := by
  refine ⟨⟨.observerLoss, 1, 0, 0, 0, 0⟩, opened ({  State.reset with
    host := { State.reset.host with inbox := [(3, [])] }, ledg := { State.reset.ledg with
    sheets := [(1, ({
    id := 1, state := .committed, inPath := false, stations := 1, modeB := false, lines := 64, lengthUm := 100,
    leadUm := 0, tray := 0, bin := 0, firstBand := 0, reprint := none, q := 0, e := 0, resident := [], lateFired :=
    [], due := [], begun := [], lastLine := 0, met := [], closed := [], endedAt := 0 } : Sheet))], reports :=
    [⟨.observerLoss, 1, 0, 0, 0, 0⟩] } , tick := 1 }), opened ({  State.reset with
    host := { State.reset.host with inbox := [(3, [])] }, ledg := { State.reset.ledg with
    sheets := [(1, ({
    id := 1, state := .committed, inPath := false, stations := 1, modeB := false, lines := 64, lengthUm := 100,
    leadUm := 0, tray := 0, bin := 0, firstBand := 0, reprint := none, q := 0, e := 0, resident := [], lateFired :=
    [], due := [], begun := [], lastLine := 0, met := [], closed := [], endedAt := 0 } : Sheet))], reports :=
    [⟨.observerLoss, 1, 0, 0, 0, 0⟩] } , tick := 1 }), State.openDecide_open (decide_eq_true rfl), ?_,
    ?_⟩ <;> decide +kernel

theorem test_meets_DeadlinesSpoilAndWithdraw_7 :
    ∃ (r : Report) (sh : Sheet) (s0 s : State),
      (s0.begin (.ledg 2) = s) ∧ (s.ready (.ledg 2) = true) ∧ (s.firstReport .decodeFailure = some r) ∧
        (s.sheet r.sheet = some sh) ∧ (sh.id = r.sheet) ∧ (sh.state = .committed) := by
  refine ⟨⟨.decodeFailure, 1, 0, 0, 0, 0⟩, ({
    id := 1, state := .committed, inPath := false, stations := 1, modeB := false, lines := 64, lengthUm := 100,
    leadUm := 0, tray := 0, bin := 0, firstBand := 0, reprint := none, q := 0, e := 0, resident := [], lateFired :=
    [], due := [], begun := [], lastLine := 0, met := [], closed := [], endedAt := 0 } : Sheet),
    opened ({  State.reset with
    host := { State.reset.host with inbox := [(3, [])] }, ledg := { State.reset.ledg with
    sheets := [(1, ({
    id := 1, state := .committed, inPath := false, stations := 1, modeB := false, lines := 64, lengthUm := 100,
    leadUm := 0, tray := 0, bin := 0, firstBand := 0, reprint := none, q := 0, e := 0, resident := [], lateFired :=
    [], due := [], begun := [], lastLine := 0, met := [], closed := [], endedAt := 0 } : Sheet))], reports :=
    [⟨.decodeFailure, 1, 0, 0, 0, 0⟩] } , tick := 1 }), opened ({  State.reset with
    host := { State.reset.host with inbox := [(3, [])] }, ledg := { State.reset.ledg with
    sheets := [(1, ({
    id := 1, state := .committed, inPath := false, stations := 1, modeB := false, lines := 64, lengthUm := 100,
    leadUm := 0, tray := 0, bin := 0, firstBand := 0, reprint := none, q := 0, e := 0, resident := [], lateFired :=
    [], due := [], begun := [], lastLine := 0, met := [], closed := [], endedAt := 0 } : Sheet))], reports :=
    [⟨.decodeFailure, 1, 0, 0, 0, 0⟩] } , tick := 1 }), State.openDecide_open (decide_eq_true rfl), ?_, ?_, ?_, ?_,
    ?_⟩ <;> decide +kernel

theorem test_meets_EdgesTargetsAndReportsOfTheSheet_1 :
    ∃ (k : Fin 4) (e : Edge) (u : State) (p0 : Int) (sh0 : Sheet) (tr : Bool) (p : Int) (sh : Sheet) (s0 s : State),
      (s0.begin (.ledg 3) = s) ∧ (s.ready (.ledg 3) = true) ∧ (s.pointActive k = true) ∧
        (s.gatherScap (s.pointInput k) k = some (e, u)) ∧ (u.nextTarget k = some (p0, sh0, tr)) ∧
        (u.edgeExpected k tr e = true) ∧ (leastTarget ((u.pendingTargets
        k).filter (fun x => x.2.2 == tr && u.inWindow x.1 (u.edgePos e))) = some (p, sh, tr)) := by
  refine ⟨0, edge0, edged, 0, ({
    id := 1, state := .committed, inPath := true, stations := 1, modeB := false, lines := 64, lengthUm := 100,
    leadUm := 0, tray := 0, bin := 0, firstBand := 0, reprint := none, q := 0, e := 0, resident := [], lateFired :=
    [], due := [], begun := [], lastLine := 0, met := [], closed := [], endedAt := 0 } : Sheet), false, 0, ({
    id := 1, state := .committed, inPath := true, stations := 1, modeB := false, lines := 64, lengthUm := 100,
    leadUm := 0, tray := 0, bin := 0, firstBand := 0, reprint := none, q := 0, e := 0, resident := [], lateFired :=
    [], due := [], begun := [], lastLine := 0, met := [], closed := [], endedAt := 0 } : Sheet), opened edgeReady,
    opened edgeReady, State.openDecide_open (decide_eq_true rfl), ?_, ?_, ?_, ?_, ?_, ?_⟩ <;> decide +kernel

theorem test_meets_EdgesTargetsAndReportsOfTheSheet_2 :
    ∃ (k : Fin 4) (s0 s : State),
      (s0.begin (.ledg 3) = s) ∧ (s.ready (.ledg 3) = true) ∧ (s.pointActive k = false) := by
  refine ⟨0, opened ledgerPage, opened ledgerPage, State.openDecide_open (decide_eq_true rfl), ?_,
    ?_⟩ <;> decide +kernel

theorem test_meets_EdgesTargetsAndReportsOfTheSheet_3 :
    ∃ (id : Nat) (k : Fin 4) (trail : Bool) (sh : Sheet) (s0 s : State),
      (s0.begin (.ledg 3) = s) ∧ (s.ready (.ledg 3) = true) ∧ (s.sheet id = some sh) ∧ (s.pointActive k = true) ∧
        (sh.awaits k trail = true) ∧ (s.fallen (s.target sh k trail + um s.edgeWin) = true) ∧
        (s.gatherScap (s.pointInput k) k = none) := by
  refine ⟨1, 0, false, ({
    id := 1, state := .committed, inPath := true, stations := 1, modeB := false, lines := 64, lengthUm := 100,
    leadUm := 0, tray := 0, bin := 0, firstBand := 0, reprint := none, q := 0, e := 0, resident := [], lateFired :=
    [], due := [], begun := [], lastLine := 0, met := [], closed := [], endedAt := 0 } : Sheet),
    opened ({ (State.reset.wrN (Reg.LEDG_SENSOR_CFG 0) 8) with
    host := { State.reset.host with inbox := [(3, [])] }, ledg := { State.reset.ledg with
    sheets := [(1, ({
    id := 1, state := .committed, inPath := true, stations := 1, modeB := false, lines := 64, lengthUm := 100,
    leadUm := 0, tray := 0, bin := 0, firstBand := 0, reprint := none, q := 0, e := 0, resident := [], lateFired :=
    [], due := [], begun := [], lastLine := 0, met := [], closed := [], endedAt := 0 } : Sheet))], pos := 2 ^ 50 } }),
    opened ({ (State.reset.wrN (Reg.LEDG_SENSOR_CFG 0) 8) with
    host := { State.reset.host with inbox := [(3, [])] }, ledg := { State.reset.ledg with
    sheets := [(1, ({
    id := 1, state := .committed, inPath := true, stations := 1, modeB := false, lines := 64, lengthUm := 100,
    leadUm := 0, tray := 0, bin := 0, firstBand := 0, reprint := none, q := 0, e := 0, resident := [], lateFired :=
    [], due := [], begun := [], lastLine := 0, met := [], closed := [], endedAt := 0 } : Sheet))], pos := 2 ^ 50 } }),
    State.openDecide_open (decide_eq_true rfl), ?_, ?_, ?_, ?_, ?_, ?_⟩ <;> decide +kernel

theorem test_meets_EdgesTargetsAndReportsOfTheSheet_4 :
    ∃ (id : Nat) (k : Fin 4) (trail : Bool) (sh : Sheet) (s0 s : State),
      (s0.begin (.ledg 3) = s) ∧ (s.ready (.ledg 3) = true) ∧ (s.sheet id = some sh) ∧ (sh.id = id) ∧
        (s.pointActive k = false) ∧ (sh.awaits k trail = true) ∧ (s.fallen (s.target sh k trail) = true) := by
  refine ⟨1, 0, false, ({
    id := 1, state := .committed, inPath := true, stations := 1, modeB := false, lines := 64, lengthUm := 100,
    leadUm := 0, tray := 0, bin := 0, firstBand := 0, reprint := none, q := 0, e := 0, resident := [], lateFired :=
    [], due := [], begun := [], lastLine := 0, met := [], closed := [], endedAt := 0 } : Sheet),
    opened ({ State.reset with
    host := { State.reset.host with inbox := [(3, [])] }, ledg := { State.reset.ledg with
    sheets := [(1, ({
    id := 1, state := .committed, inPath := true, stations := 1, modeB := false, lines := 64, lengthUm := 100,
    leadUm := 0, tray := 0, bin := 0, firstBand := 0, reprint := none, q := 0, e := 0, resident := [], lateFired :=
    [], due := [], begun := [], lastLine := 0, met := [], closed := [], endedAt := 0 } : Sheet))], pos := 2 ^ 50 } }),
    opened ({ State.reset with
    host := { State.reset.host with inbox := [(3, [])] }, ledg := { State.reset.ledg with
    sheets := [(1, ({
    id := 1, state := .committed, inPath := true, stations := 1, modeB := false, lines := 64, lengthUm := 100,
    leadUm := 0, tray := 0, bin := 0, firstBand := 0, reprint := none, q := 0, e := 0, resident := [], lateFired :=
    [], due := [], begun := [], lastLine := 0, met := [], closed := [], endedAt := 0 } : Sheet))], pos := 2 ^ 50 } }),
    State.openDecide_open (decide_eq_true rfl), ?_, ?_, ?_, ?_, ?_, ?_⟩ <;> decide +kernel

theorem test_meets_EdgesTargetsAndReportsOfTheSheet_5 :
    ∃ (r : Report) (sh : Sheet) (s : State),
      (s.firstReport .begun = some r) ∧ (s.sheet r.sheet = some sh) ∧ (sh.id = r.sheet) ∧ (sh.state = .committed ∨
        sh.state = .admitted) ∧ (r.band + s.leadBands < sh.bands) ∧
        (sh.has r.station (r.band + s.leadBands) = false) := by
  refine ⟨⟨.begun, 1, 0, 0, 0, 0⟩, ({
    id := 1, state := .committed, inPath := false, stations := 1, modeB := false, lines := 640, lengthUm := 100,
    leadUm := 0, tray := 0, bin := 0, firstBand := 0, reprint := none, q := 0, e := 0, resident := [], lateFired :=
    [], due := [], begun := [], lastLine := 0, met := [], closed := [], endedAt := 0 } : Sheet), {  State.reset with
    host := { State.reset.host with inbox := [(3, [])] }, ledg := { State.reset.ledg with
    sheets := [(1, ({
    id := 1, state := .committed, inPath := false, stations := 1, modeB := false, lines := 640, lengthUm := 100,
    leadUm := 0, tray := 0, bin := 0, firstBand := 0, reprint := none, q := 0, e := 0, resident := [], lateFired :=
    [], due := [], begun := [], lastLine := 0, met := [], closed := [], endedAt := 0 } : Sheet))], reports :=
    [⟨.begun, 1, 0, 0, 0, 0⟩] } , tick := 1 }, ?_, ?_, ?_, ?_, ?_, ?_⟩ <;> decide +kernel

theorem test_meets_EdgesTargetsAndReportsOfTheSheet_6 :
    ∃ (r : Report) (sh : Sheet) (s0 s : State),
      (s0.begin (.ledg 7) = s) ∧ (s.ready (.ledg 7) = true) ∧ (s.firstReport .lastLine = some r) ∧
        (s.sheet r.sheet = some sh) ∧ (sh.id = r.sheet) ∧ (sh.state = .committed) ∧
        ((sh.lastLine ||| 2 ^ r.station) &&& sh.stations = sh.stations) ∧ (sh.hasMet 2 true = false) := by
  refine ⟨⟨.lastLine, 1, 0, 0, 0, 0⟩, ({
    id := 1, state := .committed, inPath := false, stations := 1, modeB := false, lines := 640, lengthUm := 100,
    leadUm := 0, tray := 0, bin := 0, firstBand := 0, reprint := none, q := 0, e := 0, resident := [], lateFired :=
    [], due := [], begun := [], lastLine := 0, met := [], closed := [], endedAt := 0 } : Sheet),
    opened ({  State.reset with
    host := { State.reset.host with inbox := [(3, [])] }, ledg := { State.reset.ledg with
    sheets := [(1, ({
    id := 1, state := .committed, inPath := false, stations := 1, modeB := false, lines := 640, lengthUm := 100,
    leadUm := 0, tray := 0, bin := 0, firstBand := 0, reprint := none, q := 0, e := 0, resident := [], lateFired :=
    [], due := [], begun := [], lastLine := 0, met := [], closed := [], endedAt := 0 } : Sheet))], reports :=
    [⟨.lastLine, 1, 0, 0, 0, 0⟩] } , tick := 1 }), opened ({  State.reset with
    host := { State.reset.host with inbox := [(3, [])] }, ledg := { State.reset.ledg with
    sheets := [(1, ({
    id := 1, state := .committed, inPath := false, stations := 1, modeB := false, lines := 640, lengthUm := 100,
    leadUm := 0, tray := 0, bin := 0, firstBand := 0, reprint := none, q := 0, e := 0, resident := [], lateFired :=
    [], due := [], begun := [], lastLine := 0, met := [], closed := [], endedAt := 0 } : Sheet))], reports :=
    [⟨.lastLine, 1, 0, 0, 0, 0⟩] } , tick := 1 }), State.openDecide_open (decide_eq_true rfl), ?_, ?_, ?_, ?_, ?_, ?_,
    ?_⟩ <;> decide +kernel

theorem test_meets_EdgesTargetsAndReportsOfTheSheet_7 :
    ∃ (r : Report) (sh : Sheet) (s0 s : State),
      (s0.begin (.ledg 7) = s) ∧ (s.ready (.ledg 7) = true) ∧ (s.firstReport .lastLine = some r) ∧
        (s.sheet r.sheet = some sh) ∧ (sh.id = r.sheet) ∧ (sh.state = .committed) ∧
        ((sh.lastLine ||| 2 ^ r.station) &&& sh.stations = sh.stations) ∧ (sh.hasMet 2 true = true) ∧
        (sh.hasMet 3 true = true) := by
  refine ⟨⟨.lastLine, 1, 0, 0, 0, 0⟩, ({
    id := 1, state := .committed, inPath := false, stations := 1, modeB := false, lines := 64, lengthUm := 100,
    leadUm := 0, tray := 0, bin := 0, firstBand := 0, reprint := none, q := 0, e := 0, resident := [], lateFired :=
    [], due := [], begun := [], lastLine := 0, met := [(5, true), (7, true)], closed := [], endedAt := 0 } : Sheet),
    opened ({  State.reset with
    host := { State.reset.host with inbox := [(3, [])] }, ledg := { State.reset.ledg with
    sheets := [(1, ({
    id := 1, state := .committed, inPath := false, stations := 1, modeB := false, lines := 64, lengthUm := 100,
    leadUm := 0, tray := 0, bin := 0, firstBand := 0, reprint := none, q := 0, e := 0, resident := [], lateFired :=
    [], due := [], begun := [], lastLine := 0, met := [(5, true), (7, true)], closed := [], endedAt := 0 } : Sheet))],
    reports := [⟨.lastLine, 1, 0, 0, 0, 0⟩] } , tick := 1 }), opened ({  State.reset with
    host := { State.reset.host with inbox := [(3, [])] }, ledg := { State.reset.ledg with
    sheets := [(1, ({
    id := 1, state := .committed, inPath := false, stations := 1, modeB := false, lines := 64, lengthUm := 100,
    leadUm := 0, tray := 0, bin := 0, firstBand := 0, reprint := none, q := 0, e := 0, resident := [], lateFired :=
    [], due := [], begun := [], lastLine := 0, met := [(5, true), (7, true)], closed := [], endedAt := 0 } : Sheet))],
    reports := [⟨.lastLine, 1, 0, 0, 0, 0⟩] } , tick := 1 }), State.openDecide_open (decide_eq_true rfl), ?_, ?_, ?_,
    ?_, ?_, ?_, ?_, ?_⟩ <;> decide +kernel

theorem test_meets_EdgesTargetsAndReportsOfTheSheet_8 :
    ∃ (id : Nat) (sh : Sheet) (s : State), s.sheet id = some sh ∧ sh.id = id ∧ sh.state = .fused ∧
      sh.hasMet 3 true = true := by
  exact ⟨1, ({
    id := 1, state := .fused, inPath := false, stations := 1, modeB := false, lines := 64, lengthUm := 100, leadUm :=
    0, tray := 0, bin := 0, firstBand := 0, reprint := none, q := 0, e := 0, resident := [], lateFired := [], due :=
    [], begun := [], lastLine := 0, met := [(7, true)], closed := [], endedAt := 0 } : Sheet), { State.reset with
    host := { State.reset.host with inbox := [(3, [])] }, ledg := { State.reset.ledg with
    sheets := [(1, ({
    id := 1, state := .fused, inPath := false, stations := 1, modeB := false, lines := 64, lengthUm := 100, leadUm :=
    0, tray := 0, bin := 0, firstBand := 0, reprint := none, q := 0, e := 0, resident := [], lateFired := [], due :=
    [], begun := [], lastLine := 0, met := [(7, true)], closed := [], endedAt := 0 } : Sheet))] } },
    by decide +kernel, rfl, rfl, by decide +kernel⟩

theorem test_meets_EdgesTargetsAndReportsOfTheSheet_9 :
    ∃ (id : Nat) (sh : Sheet) (s0 s : State),
      (s0.begin .decide = s) ∧ (s.sheet id = some sh) ∧ (sh.state = .delivered ∨ sh.state = .purged) ∧
        (sh.endedAt < s.tick) := by
  refine ⟨1, ({
    id := 1, state := .purged, inPath := false, stations := 1, modeB := false, lines := 64, lengthUm := 100, leadUm :=
    0, tray := 0, bin := 0, firstBand := 0, reprint := none, q := 0, e := 0, resident := [], lateFired := [], due :=
    [], begun := [], lastLine := 0, met := [], closed := [], endedAt := 0 } : Sheet), opened ({  State.reset with
    host := { State.reset.host with inbox := [(3, [])] }, ledg := { State.reset.ledg with
    sheets := [(1, ({
    id := 1, state := .purged, inPath := false, stations := 1, modeB := false, lines := 64, lengthUm := 100, leadUm :=
    0, tray := 0, bin := 0, firstBand := 0, reprint := none, q := 0, e := 0, resident := [], lateFired := [], due :=
    [], begun := [], lastLine := 0, met := [], closed := [], endedAt := 0 } : Sheet))] } , tick := 1 }),
    opened ({  State.reset with
    host := { State.reset.host with inbox := [(3, [])] }, ledg := { State.reset.ledg with
    sheets := [(1, ({
    id := 1, state := .purged, inPath := false, stations := 1, modeB := false, lines := 64, lengthUm := 100, leadUm :=
    0, tray := 0, bin := 0, firstBand := 0, reprint := none, q := 0, e := 0, resident := [], lateFired := [], due :=
    [], begun := [], lastLine := 0, met := [], closed := [], endedAt := 0 } : Sheet))] } , tick := 1 }),
    State.openDecide_open (decide_eq_true rfl), ?_, ?_, ?_⟩ <;> decide +kernel

theorem test_meets_PacingGovernorAndBackhitchPhases_1 :
    ∃ (g : Nat) (s0 s : State),
      (s0.begin .decide = s) ∧ (s.stepsAllowed = true) ∧ (s.flag Reg.ALM_STATUS 3 = false) ∧
        (s.alm.joins.any (fun j => decide (j.2 = 1)) = false) ∧ (s.throttled = false) ∧
        (s.fld Reg.LEDG_PACE_HOLDOFF 23 0 ≤ s.pace.upTicks) ∧ (s.tUp ≤ s.margin) ∧ (s.fasterGrade = some g) ∧
        (s.safe = false) := by
  refine ⟨1, opened ({ ((((State.reset.wrN Reg.ALM_STATUS 32).wrN Reg.LEDG_PACE_CFG 1).wrN Reg.LEDG_PACE_STATUS 0).wrN Reg.LEDG_PACE_THR1 0) with pace := { State.reset.pace with upTicks := 2 ^ 24 }, alm := { State.reset.alm with active := some 0, bank0 := memWrite (pageWith 2 3 1 0) 0x11 [7] } }), opened ({ ((((State.reset.wrN Reg.ALM_STATUS 32).wrN Reg.LEDG_PACE_CFG 1).wrN Reg.LEDG_PACE_STATUS 0).wrN Reg.LEDG_PACE_THR1 0) with pace := { State.reset.pace with upTicks := 2 ^ 24 }, alm := { State.reset.alm with active := some 0, bank0 := memWrite (pageWith 2 3 1 0) 0x11 [7] } }), State.openDecide_open (decide_eq_true rfl), ?_, ?_, ?_, ?_, ?_, ?_, ?_, ?_⟩ <;> decide +kernel

theorem test_meets_PacingGovernorAndBackhitchPhases_2 :
    ∃ (s0 s : State),
      (s0.begin .decide = s) ∧ (s.margin < s.tUp) := by
  refine ⟨opened ((State.reset.wrN Reg.LEDG_PACE_THR1 1).wrN Reg.LEDG_PACE_STATUS 0),
    opened ((State.reset.wrN Reg.LEDG_PACE_THR1 1).wrN Reg.LEDG_PACE_STATUS 0),
    State.openDecide_open (decide_eq_true rfl), ?_⟩
  decide +kernel

theorem test_meets_PacingGovernorAndBackhitchPhases_3 :
    ∃ (s0 s : State),
      (s0.begin (.ledg 6) = s) ∧ (s.ready (.ledg 6) = true) ∧ (s.bhWanted = true) ∧
        (s.flag Reg.LEDG_BH_STATUS 7 = false) ∧ (s.predictedR ≤ (s.fld Reg.LEDG_BH_REV_MAX 23 0 : Int)) := by
  refine ⟨opened ({ ((((((State.reset.wrN Reg.ALM_STATUS 0).wrN Reg.LEDG_CFG 1).wrN Reg.LEDG_BH_CFG 3).wrN Reg.LEDG_GAP_UM 0).wrN Reg.LEDG_ADMIT_MARGIN 0).wrN Reg.LEDG_BH_REV_MAX 16777215) with pace := { State.reset.pace with upTicks := 0 }, alm := { State.reset.alm with active := some 0, bank0 := memWrite (pageWith 2 3 1 0) 0x11 [7] }, ledg := { State.reset.ledg with admitted := [(1, 0, 0)], pos := 0, posAt := [(0, -1)] }, tick := 1 }), opened ({ ((((((State.reset.wrN Reg.ALM_STATUS 0).wrN Reg.LEDG_CFG 1).wrN Reg.LEDG_BH_CFG 3).wrN Reg.LEDG_GAP_UM 0).wrN Reg.LEDG_ADMIT_MARGIN 0).wrN Reg.LEDG_BH_REV_MAX 16777215) with pace := { State.reset.pace with upTicks := 0 }, alm := { State.reset.alm with active := some 0, bank0 := memWrite (pageWith 2 3 1 0) 0x11 [7] }, ledg := { State.reset.ledg with admitted := [(1, 0, 0)], pos := 0, posAt := [(0, -1)] }, tick := 1 }), State.openDecide_open (decide_eq_true rfl), ?_, ?_, ?_, ?_⟩ <;> decide +kernel

theorem test_meets_PacingGovernorAndBackhitchPhases_4 :
    ∃ (s0 s : State),
      (s0.begin (.ledg 6) = s) ∧ (s.ready (.ledg 6) = true) ∧ (s.bhWanted = true) ∧
        (s.flag Reg.LEDG_BH_STATUS 7 = false) ∧ ((s.fld Reg.LEDG_BH_REV_MAX 23 0 : Int) < s.predictedR) := by
  refine ⟨opened ({ ((((((State.reset.wrN Reg.ALM_STATUS 0).wrN Reg.LEDG_CFG 1).wrN Reg.LEDG_BH_CFG 3).wrN Reg.LEDG_GAP_UM 0).wrN Reg.LEDG_ADMIT_MARGIN 0).wrN Reg.LEDG_BH_REV_MAX 0) with pace := { State.reset.pace with upTicks := 0 }, alm := { State.reset.alm with active := some 0, bank0 := memWrite (pageWith 2 3 1 0) 0x11 [7] }, ledg := { State.reset.ledg with admitted := [(1, 0, 0)], pos := 0, posAt := [(0, -(2 ^ 40))] }, tick := 1 }), opened ({ ((((((State.reset.wrN Reg.ALM_STATUS 0).wrN Reg.LEDG_CFG 1).wrN Reg.LEDG_BH_CFG 3).wrN Reg.LEDG_GAP_UM 0).wrN Reg.LEDG_ADMIT_MARGIN 0).wrN Reg.LEDG_BH_REV_MAX 0) with pace := { State.reset.pace with upTicks := 0 }, alm := { State.reset.alm with active := some 0, bank0 := memWrite (pageWith 2 3 1 0) 0x11 [7] }, ledg := { State.reset.ledg with admitted := [(1, 0, 0)], pos := 0, posAt := [(0, -(2 ^ 40))] }, tick := 1 }), State.openDecide_open (decide_eq_true rfl), ?_, ?_, ?_, ?_⟩ <;> decide +kernel

theorem test_meets_PacingGovernorAndBackhitchPhases_5 :
    ∃ (s0 s : State),
      (s0.begin (.ledg 7) = s) ∧ (s.ready (.ledg 7) = true) ∧ (s.phase = 1) ∧ (s.phaseStood = true) ∧
        (s.sheetGap = true) := by
  refine ⟨opened ({ (((State.reset.wrN Reg.ALM_STATUS 0).wrN Reg.LEDG_BH_STATUS 1).wrN Reg.LEDG_STATUS (2 ^ 11)) with
    pace := { State.reset.pace with v := 0 }, alm := { State.reset.alm with
    active := some 0, bank0 := memWrite (pageWith 2 3 1 0) 0x11 [7] }, tick := 3 }),
    opened ({ (((State.reset.wrN Reg.ALM_STATUS 0).wrN Reg.LEDG_BH_STATUS 1).wrN Reg.LEDG_STATUS (2 ^ 11)) with
    pace := { State.reset.pace with v := 0 }, alm := { State.reset.alm with
    active := some 0, bank0 := memWrite (pageWith 2 3 1 0) 0x11 [7] }, tick := 3 }),
    State.openDecide_open (decide_eq_true rfl), ?_, ?_, ?_, ?_⟩ <;> decide +kernel

theorem test_meets_PacingGovernorAndBackhitchPhases_6 :
    ∃ (s0 s : State),
      (s0.begin (.ledg 7) = s) ∧ (s.ready (.ledg 7) = true) ∧ (s.phase = 2) ∧ (s.phaseStood = true) ∧
        (s.pace.v = 0) := by
  refine ⟨opened ({ ((State.reset.wrN Reg.ALM_STATUS 0).wrN Reg.LEDG_BH_STATUS 2) with
    pace := { State.reset.pace with v := 0 }, alm := { State.reset.alm with
    active := some 0, bank0 := memWrite (pageWith 2 3 1 0) 0x11 [7] }, tick := 3 }),
    opened ({ ((State.reset.wrN Reg.ALM_STATUS 0).wrN Reg.LEDG_BH_STATUS 2) with
    pace := { State.reset.pace with v := 0 }, alm := { State.reset.alm with
    active := some 0, bank0 := memWrite (pageWith 2 3 1 0) 0x11 [7] }, tick := 3 }),
    State.openDecide_open (decide_eq_true rfl), ?_, ?_, ?_, ?_⟩ <;> decide +kernel

theorem test_meets_PacingGovernorAndBackhitchPhases_7 :
    ∃ (s0 s : State),
      (s0.begin (.ledg 7) = s) ∧ (s.ready (.ledg 7) = true) ∧ (s.phase = 3) ∧ (s.phaseStood = true) ∧
        (s.bhDwelt = true) := by
  refine ⟨opened ({ (((State.reset.wrN Reg.ALM_STATUS 0).wrN Reg.LEDG_BH_STATUS 3).wrN Reg.LEDG_BH_DWELL 0) with
    pace := { State.reset.pace with v := 0 }, alm := { State.reset.alm with
    active := some 0, bank0 := memWrite (pageWith 2 3 1 0) 0x11 [7] }, tick := 3 }),
    opened ({ (((State.reset.wrN Reg.ALM_STATUS 0).wrN Reg.LEDG_BH_STATUS 3).wrN Reg.LEDG_BH_DWELL 0) with
    pace := { State.reset.pace with v := 0 }, alm := { State.reset.alm with
    active := some 0, bank0 := memWrite (pageWith 2 3 1 0) 0x11 [7] }, tick := 3 }),
    State.openDecide_open (decide_eq_true rfl), ?_, ?_, ?_, ?_⟩ <;> decide +kernel

theorem test_meets_PacingGovernorAndBackhitchPhases_8 :
    ∃ (s0 s : State),
      (s0.begin (.ledg 7) = s) ∧ (s.ready (.ledg 7) = true) ∧ (s.phase = 4) ∧ (s.phaseStood = true) ∧
        (s.pace.v = 0) := by
  refine ⟨opened ({ ((State.reset.wrN Reg.ALM_STATUS 0).wrN Reg.LEDG_BH_STATUS 4) with
    pace := { State.reset.pace with v := 0 }, alm := { State.reset.alm with
    active := some 0, bank0 := memWrite (pageWith 2 3 1 0) 0x11 [7] }, tick := 3 }),
    opened ({ ((State.reset.wrN Reg.ALM_STATUS 0).wrN Reg.LEDG_BH_STATUS 4) with
    pace := { State.reset.pace with v := 0 }, alm := { State.reset.alm with
    active := some 0, bank0 := memWrite (pageWith 2 3 1 0) 0x11 [7] }, tick := 3 }),
    State.openDecide_open (decide_eq_true rfl), ?_, ?_, ?_, ?_⟩ <;> decide +kernel

theorem test_meets_PacingGovernorAndBackhitchPhases_9 :
    ∃ (s0 s : State),
      (s0.begin (.ledg 7) = s) ∧ (s.ready (.ledg 7) = true) ∧ (s.phase = 5) ∧ (s.phaseStood = true) ∧
        (s.bhLeave = true) ∧ (s.ledg.pos ≤ s.pLow) := by
  refine ⟨opened ({ ((((((State.reset.wrN Reg.ALM_STATUS 0).wrN Reg.LEDG_BH_STATUS 5).wrN Reg.LEDG_BH_DWELL 0).wrN Reg.HOST_SETUP_LOCK 1).wrN Reg.LEDG_REF_SCALE 1).wrN Reg.LEDG_CFG 1) with pace := { State.reset.pace with phaseAt := 1 }, alm := { State.reset.alm with active := some 0, bank0 := memWrite (pageWith 2 3 1 0) 0x11 [7] }, ledg := { State.reset.ledg with sheets := [(1, ({ id := 1, state := .announced, inPath := false, stations := 0, modeB := false, lines := 64, lengthUm := 100, leadUm := 0, tray := 0, bin := 0, firstBand := 0, reprint := none, q := 0, e := 0, resident := [], lateFired := [], due := [], begun := [], lastLine := 0, met := [], closed := [], endedAt := 0 } : Sheet))], pos := -(2 ^ 60) }, tick := 3 }), opened ({ ((((((State.reset.wrN Reg.ALM_STATUS 0).wrN Reg.LEDG_BH_STATUS 5).wrN Reg.LEDG_BH_DWELL 0).wrN Reg.HOST_SETUP_LOCK 1).wrN Reg.LEDG_REF_SCALE 1).wrN Reg.LEDG_CFG 1) with pace := { State.reset.pace with phaseAt := 1 }, alm := { State.reset.alm with active := some 0, bank0 := memWrite (pageWith 2 3 1 0) 0x11 [7] }, ledg := { State.reset.ledg with sheets := [(1, ({ id := 1, state := .announced, inPath := false, stations := 0, modeB := false, lines := 64, lengthUm := 100, leadUm := 0, tray := 0, bin := 0, firstBand := 0, reprint := none, q := 0, e := 0, resident := [], lateFired := [], due := [], begun := [], lastLine := 0, met := [], closed := [], endedAt := 0 } : Sheet))], pos := -(2 ^ 60) }, tick := 3 }), State.openDecide_open (decide_eq_true rfl), ?_, ?_, ?_, ?_, ?_⟩ <;> decide +kernel

theorem test_meets_PacingGovernorAndBackhitchPhases_10 :
    ∃ (s0 s : State),
      (s0.begin (.ledg 7) = s) ∧ (s.ready (.ledg 7) = true) ∧ (s.phase = 5) ∧ (s.phaseStood = true) ∧
        (s.bhLeave = true) ∧ (s.pLow < s.ledg.pos) := by
  refine ⟨opened ({ ((((((State.reset.wrN Reg.ALM_STATUS 0).wrN Reg.LEDG_BH_STATUS 5).wrN Reg.LEDG_BH_DWELL 0).wrN Reg.HOST_SETUP_LOCK 1).wrN Reg.LEDG_REF_SCALE 1).wrN Reg.LEDG_CFG 1) with pace := { State.reset.pace with phaseAt := 1 }, alm := { State.reset.alm with active := some 0, bank0 := memWrite (pageWith 2 3 1 0) 0x11 [7] }, ledg := { State.reset.ledg with sheets := [(1, ({ id := 1, state := .announced, inPath := false, stations := 0, modeB := false, lines := 64, lengthUm := 100, leadUm := 0, tray := 0, bin := 0, firstBand := 0, reprint := none, q := 0, e := 0, resident := [], lateFired := [], due := [], begun := [], lastLine := 0, met := [], closed := [], endedAt := 0 } : Sheet))], pos := (2 ^ 60) }, tick := 3 }), opened ({ ((((((State.reset.wrN Reg.ALM_STATUS 0).wrN Reg.LEDG_BH_STATUS 5).wrN Reg.LEDG_BH_DWELL 0).wrN Reg.HOST_SETUP_LOCK 1).wrN Reg.LEDG_REF_SCALE 1).wrN Reg.LEDG_CFG 1) with pace := { State.reset.pace with phaseAt := 1 }, alm := { State.reset.alm with active := some 0, bank0 := memWrite (pageWith 2 3 1 0) 0x11 [7] }, ledg := { State.reset.ledg with sheets := [(1, ({ id := 1, state := .announced, inPath := false, stations := 0, modeB := false, lines := 64, lengthUm := 100, leadUm := 0, tray := 0, bin := 0, firstBand := 0, reprint := none, q := 0, e := 0, resident := [], lateFired := [], due := [], begun := [], lastLine := 0, met := [], closed := [], endedAt := 0 } : Sheet))], pos := (2 ^ 60) }, tick := 3 }), State.openDecide_open (decide_eq_true rfl), ?_, ?_, ?_, ?_, ?_⟩ <;> decide +kernel

theorem test_meets_PacingGovernorAndBackhitchPhases_11 :
    ∃ (s0 s : State),
      (s0.begin (.ledg 7) = s) ∧ (s.ready (.ledg 7) = true) ∧ (s.phase = 6) ∧ (s.phaseStood = true) ∧
        (s.pace.v = s.pace.goal) := by
  refine ⟨opened ({ ((State.reset.wrN Reg.ALM_STATUS 0).wrN Reg.LEDG_BH_STATUS 6) with
    pace := { State.reset.pace with v := 40 * 2 ^ 24, goal := 40 * 2 ^ 24 }, alm := { State.reset.alm with
    active := some 0, bank0 := memWrite (pageWith 2 3 1 0) 0x11 [7] }, tick := 3 }),
    opened ({ ((State.reset.wrN Reg.ALM_STATUS 0).wrN Reg.LEDG_BH_STATUS 6) with
    pace := { State.reset.pace with v := 40 * 2 ^ 24, goal := 40 * 2 ^ 24 }, alm := { State.reset.alm with
    active := some 0, bank0 := memWrite (pageWith 2 3 1 0) 0x11 [7] }, tick := 3 }),
    State.openDecide_open (decide_eq_true rfl), ?_, ?_, ?_, ?_⟩ <;> decide +kernel

theorem test_meets_PacingGovernorAndBackhitchPhases_12 :
    ∃ (s0 s : State),
      (s0.begin .decide = s) ∧ (s.phase = 5) ∧ (s.phaseStood = true) := by
  refine ⟨opened ({ ((State.reset.wrN Reg.ALM_STATUS 0).wrN Reg.LEDG_BH_STATUS 5) with
    pace := { State.reset.pace with v := 0 }, alm := { State.reset.alm with
    active := some 0, bank0 := memWrite (pageWith 2 3 1 0) 0x11 [7] }, tick := 3 }),
    opened ({ ((State.reset.wrN Reg.ALM_STATUS 0).wrN Reg.LEDG_BH_STATUS 5) with
    pace := { State.reset.pace with v := 0 }, alm := { State.reset.alm with
    active := some 0, bank0 := memWrite (pageWith 2 3 1 0) 0x11 [7] }, tick := 3 }),
    State.openDecide_open (decide_eq_true rfl), ?_, ?_⟩ <;> decide +kernel

theorem test_meets_PacingGovernorAndBackhitchPhases_13 :
    ∃ (s0 s : State),
      (s0.begin (.ledg 7) = s) ∧ (s.ready (.ledg 7) = true) ∧ (s.phase = 5) ∧ (s.pace.parkLong = false) ∧
        (s.pace.phaseAt + s.fld Reg.LEDG_BH_PARK_WARN 23 0 ≤ s.tick) := by
  refine ⟨opened ({ ((State.reset.wrN Reg.ALM_STATUS 0).wrN Reg.LEDG_BH_STATUS 5) with
    pace := { State.reset.pace with v := 0 }, alm := { State.reset.alm with
    active := some 0, bank0 := memWrite (pageWith 2 3 1 0) 0x11 [7] }, tick := 2 ^ 25 }),
    opened ({ ((State.reset.wrN Reg.ALM_STATUS 0).wrN Reg.LEDG_BH_STATUS 5) with
    pace := { State.reset.pace with v := 0 }, alm := { State.reset.alm with
    active := some 0, bank0 := memWrite (pageWith 2 3 1 0) 0x11 [7] }, tick := 2 ^ 25 }),
    State.openDecide_open (decide_eq_true rfl), ?_, ?_, ?_, ?_⟩ <;> decide +kernel

theorem test_meets_PacingGovernorAndBackhitchPhases_14 :
    ∃ (s0 s : State),
      (s0.begin (.ledg 7) = s) ∧ (s.ready (.ledg 7) = true) ∧ (s.phase ≠ 5) := by
  refine ⟨opened ({ ((State.reset.wrN Reg.ALM_STATUS 0).wrN Reg.LEDG_BH_STATUS 4) with
    pace := { State.reset.pace with v := 0 }, alm := { State.reset.alm with
    active := some 0, bank0 := memWrite (pageWith 2 3 1 0) 0x11 [7] }, tick := 3 }),
    opened ({ ((State.reset.wrN Reg.ALM_STATUS 0).wrN Reg.LEDG_BH_STATUS 4) with
    pace := { State.reset.pace with v := 0 }, alm := { State.reset.alm with
    active := some 0, bank0 := memWrite (pageWith 2 3 1 0) 0x11 [7] }, tick := 3 }),
    State.openDecide_open (decide_eq_true rfl), ?_, ?_⟩ <;> decide +kernel

theorem test_meets_DataItemsCompressionAndDecompression_1 :
    ∃ (stn : Fin 8) (frames : List Nat) (it : Item) (rest : List Item) (sh : Sheet) (d : Nat) (s0 s : State),
      (s0.begin (.ledg 5) = s) ∧ (s.ready (.ledg 5) = true) ∧ (tabFind s.ledg.early stn = none) ∧
        (s.inboxOf (32 + stn) = it :: rest) ∧ (tabFind s.ledg.waitFrames stn = none) ∧ (s.rawStuck stn = false) ∧
        (s.headerFate it.tag = .pass sh) ∧ (s.ingressCode it sh = none) ∧ (tagStation it.tag = stn) ∧
        (s.dirOf sh.id stn = some d) ∧ (s.canReserve stn (itemFrames it) = true) ∧
        (s.freshFrames frames (itemFrames it) = true) := by
  refine ⟨0, [0], (⟨mkTag 1 0 0 1 0, 1, 0, 0, 1, 0, false, 64, 0, 0, List.replicate 64 0, 0, 0⟩ : Item), [], ({
    id := 1, state := .committed, inPath := false, stations := 1, modeB := false, lines := 64, lengthUm := 100,
    leadUm := 0, tray := 0, bin := 0, firstBand := 0, reprint := none, q := 0, e := 0, resident := [], lateFired :=
    [], due := [], begun := [], lastLine := 0, met := [], closed := [], endedAt := 0 } : Sheet), 5,
    opened ({ (((State.reset.wrN Reg.DRAM_FRAMES_FREE 10).wrN (Reg.DRAM_PS_QUOTA 0) 10).wrN (Reg.LEDG_STATUS) 512) with tick := 0, host := { State.reset.host with inbox := [(32, [(⟨mkTag 1 0 0 1 0, 1, 0, 0, 1, 0, false, 64, 0, 0, List.replicate 64 0, 0, 0⟩ : Item)])] }, ledg := { State.reset.ledg with sheets := [(1, ({ id := 1, state := .committed, inPath := false, stations := 1, modeB := false, lines := 64, lengthUm := 100, leadUm := 0, tray := 0, bin := 0, firstBand := 0, reprint := none, q := 0, e := 0, resident := [], lateFired := [], due := [], begun := [], lastLine := 0, met := [], closed := [], endedAt := 0 } : Sheet))] }, dram := { State.reset.dram with wiped := 10, dirs := [(8, 5)] }, burl := { State.reset.burl with jobs := [] } }), opened ({ (((State.reset.wrN Reg.DRAM_FRAMES_FREE 10).wrN (Reg.DRAM_PS_QUOTA 0) 10).wrN (Reg.LEDG_STATUS) 512) with tick := 0, host := { State.reset.host with inbox := [(32, [(⟨mkTag 1 0 0 1 0, 1, 0, 0, 1, 0, false, 64, 0, 0, List.replicate 64 0, 0, 0⟩ : Item)])] }, ledg := { State.reset.ledg with sheets := [(1, ({ id := 1, state := .committed, inPath := false, stations := 1, modeB := false, lines := 64, lengthUm := 100, leadUm := 0, tray := 0, bin := 0, firstBand := 0, reprint := none, q := 0, e := 0, resident := [], lateFired := [], due := [], begun := [], lastLine := 0, met := [], closed := [], endedAt := 0 } : Sheet))] }, dram := { State.reset.dram with wiped := 10, dirs := [(8, 5)] }, burl := { State.reset.burl with jobs := [] } }), State.openDecide_open (decide_eq_true rfl), ?_, ?_, ?_, ?_, ?_, ?_, ?_, ?_, ?_, ?_, ?_⟩ <;> decide +kernel

theorem test_meets_DataItemsCompressionAndDecompression_2 :
    ∃ (stn : Fin 8) (frames : List Nat) (it : Item) (rest : List Item) (s0 s : State),
      (s0.begin (.ledg 5) = s) ∧ (s.ready (.ledg 5) = true) ∧ (tabFind s.ledg.early stn = none) ∧
        (s.inboxOf (32 + stn) = it :: rest) ∧ (tabFind s.ledg.waitFrames stn = none) ∧ (s.rawStuck stn = false) ∧
        (s.headerFate it.tag = .early) ∧ (tagStation it.tag = stn) := by
  refine ⟨0, [], (⟨mkTag 1 0 0 1 0, 1, 0, 0, 1, 0, false, 64, 0, 0, List.replicate 64 0, 0, 0⟩ : Item), [],
    opened ({ State.reset with
    tick := 0, host := { State.reset.host with
    inbox := [(32, [(⟨mkTag 1 0 0 1 0, 1, 0, 0, 1, 0, false, 64, 0, 0, List.replicate 64 0, 0, 0⟩ : Item)])] },
    ledg := { State.reset.ledg with pos := 0 }, dram := { State.reset.dram with wiped := 10, dirs := [(8, 5)] },
    burl := { State.reset.burl with jobs := [] } }), opened ({ State.reset with
    tick := 0, host := { State.reset.host with
    inbox := [(32, [(⟨mkTag 1 0 0 1 0, 1, 0, 0, 1, 0, false, 64, 0, 0, List.replicate 64 0, 0, 0⟩ : Item)])] },
    ledg := { State.reset.ledg with pos := 0 }, dram := { State.reset.dram with wiped := 10, dirs := [(8, 5)] },
    burl := { State.reset.burl with jobs := [] } }), State.openDecide_open (decide_eq_true rfl), ?_, ?_, ?_, ?_, ?_,
    ?_, ?_⟩ <;> decide +kernel

theorem test_meets_DataItemsCompressionAndDecompression_3 :
    ∃ (stn : Fin 8) (frames : List Nat) (it : Item) (rest : List Item) (c : Nat) (s0 s : State),
      (s0.begin (.ledg 5) = s) ∧ (s.ready (.ledg 5) = true) ∧ (tabFind s.ledg.early stn = none) ∧
        (s.inboxOf (32 + stn) = it :: rest) ∧ (tabFind s.ledg.waitFrames stn = none) ∧ (s.rawStuck stn = false) ∧
        (s.headerFate it.tag = .refuse c) := by
  refine ⟨0, [], (⟨mkTag 1 1 0 1 0, 1, 0, 0, 1, 0, false, 64, 0, 0, List.replicate 64 0, 0, 0⟩ : Item), [], 6,
    opened ({ (((State.reset.wrN Reg.DRAM_FRAMES_FREE 10).wrN (Reg.DRAM_PS_QUOTA 0) 10).wrN (Reg.LEDG_STATUS) 512) with tick := 0, host := { State.reset.host with inbox := [(32, [(⟨mkTag 1 1 0 1 0, 1, 0, 0, 1, 0, false, 64, 0, 0, List.replicate 64 0, 0, 0⟩ : Item)])] }, ledg := { State.reset.ledg with sheets := [(1, ({ id := 1, state := .committed, inPath := false, stations := 1, modeB := false, lines := 64, lengthUm := 100, leadUm := 0, tray := 0, bin := 0, firstBand := 0, reprint := none, q := 0, e := 0, resident := [], lateFired := [], due := [], begun := [], lastLine := 0, met := [], closed := [], endedAt := 0 } : Sheet))] }, dram := { State.reset.dram with wiped := 10, dirs := [(8, 5)] }, burl := { State.reset.burl with jobs := [] } }), opened ({ (((State.reset.wrN Reg.DRAM_FRAMES_FREE 10).wrN (Reg.DRAM_PS_QUOTA 0) 10).wrN (Reg.LEDG_STATUS) 512) with tick := 0, host := { State.reset.host with inbox := [(32, [(⟨mkTag 1 1 0 1 0, 1, 0, 0, 1, 0, false, 64, 0, 0, List.replicate 64 0, 0, 0⟩ : Item)])] }, ledg := { State.reset.ledg with sheets := [(1, ({ id := 1, state := .committed, inPath := false, stations := 1, modeB := false, lines := 64, lengthUm := 100, leadUm := 0, tray := 0, bin := 0, firstBand := 0, reprint := none, q := 0, e := 0, resident := [], lateFired := [], due := [], begun := [], lastLine := 0, met := [], closed := [], endedAt := 0 } : Sheet))] }, dram := { State.reset.dram with wiped := 10, dirs := [(8, 5)] }, burl := { State.reset.burl with jobs := [] } }), State.openDecide_open (decide_eq_true rfl), ?_, ?_, ?_, ?_, ?_, ?_⟩ <;> decide +kernel

theorem test_meets_DataItemsCompressionAndDecompression_4 :
    ∃ (stn : Fin 8) (x : HeldItem) (s0 s : State),
      (s0.begin (.ledg 5) = s) ∧ (s.ready (.ledg 5) = true) ∧ (tabFind s.ledg.early stn = some x) ∧
        (x.deadline ≤ s.tick) ∧ (s.sheet (tagSheet x.item.tag) = none) := by
  refine ⟨0, ⟨(⟨mkTag 1 0 0 1 0, 1, 0, 0, 1, 0, false, 64, 0, 0, List.replicate 64 0, 0, 0⟩ : Item), 0⟩,
    opened ({ State.reset with
    ledg := { State.reset.ledg with
    early := [(0, ⟨(⟨mkTag 1 0 0 1 0, 1, 0, 0, 1, 0, false, 64, 0, 0, List.replicate 64 0, 0, 0⟩ : Item), 0⟩)] } }),
    opened ({ State.reset with
    ledg := { State.reset.ledg with
    early := [(0, ⟨(⟨mkTag 1 0 0 1 0, 1, 0, 0, 1, 0, false, 64, 0, 0, List.replicate 64 0, 0, 0⟩ : Item), 0⟩)] } }),
    State.openDecide_open (decide_eq_true rfl), ?_, ?_, ?_, ?_⟩ <;> decide +kernel

theorem test_meets_DataItemsCompressionAndDecompression_5 :
    ∃ (stn : Fin 8) (frames : List Nat) (w : HeldItem) (sh : Sheet) (d : Nat) (s0 s : State),
      (s0.begin .decide = s) ∧ (tabFind s.ledg.waitFrames stn = some w) ∧ (s.sheet (tagSheet w.item.tag) = some sh) ∧
        (s.ingressCode w.item sh = none) ∧ (tagStation w.item.tag = stn) ∧ (s.dirOf sh.id stn = some d) ∧
        (s.canReserve stn (itemFrames w.item) = true) ∧ (s.freshFrames frames (itemFrames w.item) = true) := by
  refine ⟨0, [0], ⟨(⟨mkTag 1 0 0 1 0, 1, 0, 0, 1, 0, false, 64, 0, 0, List.replicate 64 0, 0, 0⟩ : Item), 0⟩, ({
    id := 1, state := .committed, inPath := false, stations := 1, modeB := false, lines := 64, lengthUm := 100,
    leadUm := 0, tray := 0, bin := 0, firstBand := 0, reprint := none, q := 0, e := 0, resident := [], lateFired :=
    [], due := [], begun := [], lastLine := 0, met := [], closed := [], endedAt := 0 } : Sheet), 5,
    opened ({ (((State.reset.wrN Reg.DRAM_FRAMES_FREE 10).wrN (Reg.DRAM_PS_QUOTA 0) 10).wrN (Reg.LEDG_STATUS) 512) with tick := 0, host := { State.reset.host with inbox := [] }, ledg := { State.reset.ledg with sheets := [(1, ({ id := 1, state := .committed, inPath := false, stations := 1, modeB := false, lines := 64, lengthUm := 100, leadUm := 0, tray := 0, bin := 0, firstBand := 0, reprint := none, q := 0, e := 0, resident := [], lateFired := [], due := [], begun := [], lastLine := 0, met := [], closed := [], endedAt := 0 } : Sheet))], waitFrames := [(0, ⟨(⟨mkTag 1 0 0 1 0, 1, 0, 0, 1, 0, false, 64, 0, 0, List.replicate 64 0, 0, 0⟩ : Item), 0⟩)] }, dram := { State.reset.dram with wiped := 10, dirs := [(8, 5)] }, burl := { State.reset.burl with jobs := [] } }), opened ({ (((State.reset.wrN Reg.DRAM_FRAMES_FREE 10).wrN (Reg.DRAM_PS_QUOTA 0) 10).wrN (Reg.LEDG_STATUS) 512) with tick := 0, host := { State.reset.host with inbox := [] }, ledg := { State.reset.ledg with sheets := [(1, ({ id := 1, state := .committed, inPath := false, stations := 1, modeB := false, lines := 64, lengthUm := 100, leadUm := 0, tray := 0, bin := 0, firstBand := 0, reprint := none, q := 0, e := 0, resident := [], lateFired := [], due := [], begun := [], lastLine := 0, met := [], closed := [], endedAt := 0 } : Sheet))], waitFrames := [(0, ⟨(⟨mkTag 1 0 0 1 0, 1, 0, 0, 1, 0, false, 64, 0, 0, List.replicate 64 0, 0, 0⟩ : Item), 0⟩)] }, dram := { State.reset.dram with wiped := 10, dirs := [(8, 5)] }, burl := { State.reset.burl with jobs := [] } }), State.openDecide_open (decide_eq_true rfl), ?_, ?_, ?_, ?_, ?_, ?_, ?_⟩ <;> decide +kernel

theorem test_meets_DataItemsCompressionAndDecompression_6 :
    ∃ (sheet : Nat) (stn : Fin 8) (band : Nat) (w : Writing) (sh : Sheet) (s : State),
      (s.writingOf sheet stn band = some w) ∧ (w.stamp < s.tick) ∧ (s.flag Reg.DRAM_STATUS 2 = false) ∧
        (s.decideOpen = false) ∧ (s.reportsRead = true) ∧ (s.sheet sheet = some sh) ∧ (sh.id = sheet) ∧
        (w.frames ≠ []) ∧ (tabGet false sh.lateFired (stn.val * 4096 + band) = false) := by
  refine ⟨1, 0, 0, ⟨(⟨mkTag 1 0 0 1 0, 1, 0, 0, 1, 0, false, 64, 0, 0, List.replicate 64 0, 0, 0⟩ : Item), [0], [],
    0⟩, ({
    id := 1, state := .committed, inPath := false, stations := 1, modeB := false, lines := 64, lengthUm := 100,
    leadUm := 0, tray := 0, bin := 0, firstBand := 0, reprint := none, q := 0, e := 0, resident := [], lateFired :=
    [], due := [], begun := [], lastLine := 0, met := [], closed := [], endedAt := 0 } : Sheet),
    { (((State.reset.wrN Reg.DRAM_FRAMES_FREE 10).wrN (Reg.DRAM_PS_QUOTA 0) 10).wrN (Reg.LEDG_STATUS) 512) with
    tick := 1, host := { State.reset.host with inbox := [] }, ledg := { State.reset.ledg with
    sheets := [(1, ({
    id := 1, state := .committed, inPath := false, stations := 1, modeB := false, lines := 64, lengthUm := 100,
    leadUm := 0, tray := 0, bin := 0, firstBand := 0, reprint := none, q := 0, e := 0, resident := [], lateFired :=
    [], due := [], begun := [], lastLine := 0, met := [], closed := [], endedAt := 0 } : Sheet))] }, dram :=
    { State.reset.dram with wiped := 10, dirs := [(8, 5)] }, burl := { State.reset.burl with
    writing := [⟨(⟨mkTag 1 0 0 1 0, 1, 0, 0, 1, 0, false, 64, 0, 0, List.replicate 64 0, 0, 0⟩ : Item), [0], [],
    0⟩] } }, ?_, ?_, ?_, ?_, ?_, ?_, ?_, ?_, ?_⟩ <;> decide +kernel

theorem test_meets_DataItemsCompressionAndDecompression_7 :
    ∃ (lane : Fin 16) (js : List CompJob) (j : CompJob) (blk : List Byte) (full : Bool) (s : State),
      (s.compBusy lane = true) ∧ (endSegment lane s.burl.jobs = (js, some j)) ∧
        (compress (mkTag (tagSheet j.item.tag) (tagStation
        j.item.tag) (tagBand j.item.tag) 2 0).toNat j.item.data
        j.lines (s.fld Reg.BURL_CFG 19 16) (s.fld Reg.BURL_CFG 30 24) (s.fld Reg.BURL_CFG 12 0) = (blk, full)) := by
  refine ⟨0, [], packJob, (compress (mkTag (tagSheet packJob.item.tag)
    (tagStation packJob.item.tag) (tagBand packJob.item.tag)
    2 0).toNat packJob.item.data packJob.lines (packState.fld
    Reg.BURL_CFG 19 16) (packState.fld Reg.BURL_CFG 30 24) (packState.fld Reg.BURL_CFG 12 0)).1,
    (compress (mkTag (tagSheet packJob.item.tag) (tagStation
    packJob.item.tag) (tagBand packJob.item.tag) 2 0).toNat
    packJob.item.data packJob.lines (packState.fld Reg.BURL_CFG
    19 16) (packState.fld Reg.BURL_CFG 30 24) (packState.fld Reg.BURL_CFG 12 0)).2, packState, ?_⟩
  exact ⟨by decide +kernel, by decide +kernel, rfl⟩

theorem test_meets_DataItemsCompressionAndDecompression_8 :
    ∃ (s0 s : State),
      (s0.begin .decide = s) ∧ (s.flag Reg.BURL_STATUS 0 = true) ∧ (s.burl.bindNext = none) ∧ (s.sheetGap = true) ∧
        (s.holding = false) ∧ (unboundIn s.dbinds (imgStnMask s.active) = []) := by
  refine ⟨opened ({ ((State.reset.wrN Reg.ALM_STATUS 0).wrN Reg.BURL_STATUS 1).wrN Reg.LEDG_STATUS (2 ^ 11) with
    tick := 0 }), opened ({ ((State.reset.wrN Reg.ALM_STATUS 0).wrN Reg.BURL_STATUS 1).wrN Reg.LEDG_STATUS (2 ^ 11) with tick := 0 }), State.openDecide_open (decide_eq_true rfl), ?_, ?_, ?_, ?_, ?_⟩ <;> decide +kernel

theorem test_meets_DataItemsCompressionAndDecompression_9 :
    ∃ (lane : Fin 32) (stn : Nat) (sh : Sheet) (band : Nat)
      (r : BandRec) (blk : List Byte) (d : BandDecode) (g : Nat) (s : State),
      (s.laneStation lane = some stn) ∧ (tabFind s.burl.lanes lane = none) ∧ (s.flag Reg.DRAM_STATUS 2 = false) ∧
        (s.nextBand stn = some (sh, band, r)) ∧ (r.frames.all
        (fun f => decide (tabGet [] s.dram.badAt f = [])) = true) ∧ (s.readBlock r = blk) ∧
        (hdrLineBytes blk = volLineBytes s.active s.grade) ∧ (s.decodeOf sh.id stn band = d) ∧
        (d.redo.headD d.handed = g) := by
  refine ⟨0, 0, ({
    id := 1, state := .committed, inPath := false, stations := 1, modeB := false, lines := 64, lengthUm := 100,
    leadUm := 0, tray := 0, bin := 0, firstBand := 0, reprint := none, q := 0, e := 0, resident := [(0, true)],
    lateFired := [], due := [], begun := [], lastLine := 0, met := [], closed := [], endedAt := 0 } : Sheet), 0, ⟨[0],
    0⟩, { ((State.reset.wrN Reg.ALM_STATUS 0).wrN (Reg.BURL_DBIND_ACT 0) 128) with
    tick := 1, host := { State.reset.host with inbox := [] }, ledg := { State.reset.ledg with
    sheets := [(1, ({
    id := 1, state := .committed, inPath := false, stations := 1, modeB := false, lines := 64, lengthUm := 100,
    leadUm := 0, tray := 0, bin := 0, firstBand := 0, reprint := none, q := 0, e := 0, resident := [(0, true)],
    lateFired := [], due := [], begun := [], lastLine := 0, met := [], closed := [], endedAt := 0 } : Sheet))] },
    dram := { State.reset.dram with bands := [(32768, ⟨[0], 0⟩)] }, burl := { State.reset.burl with
    jobs := [] } }.readBlock ⟨[0], 0⟩, ⟨0, 0, [], 0, false⟩, 0,
    { ((State.reset.wrN Reg.ALM_STATUS 0).wrN (Reg.BURL_DBIND_ACT 0) 128) with
    tick := 1, host := { State.reset.host with inbox := [] }, ledg := { State.reset.ledg with
    sheets := [(1, ({
    id := 1, state := .committed, inPath := false, stations := 1, modeB := false, lines := 64, lengthUm := 100,
    leadUm := 0, tray := 0, bin := 0, firstBand := 0, reprint := none, q := 0, e := 0, resident := [(0, true)],
    lateFired := [], due := [], begun := [], lastLine := 0, met := [], closed := [], endedAt := 0 } : Sheet))] },
    dram := { State.reset.dram with bands := [(32768, ⟨[0], 0⟩)] }, burl := { State.reset.burl with jobs := [] } },
    ?_, ?_, ?_, ?_, ?_, ?_, ?_, ?_, ?_⟩ <;> decide +kernel

theorem test_meets_DataItemsCompressionAndDecompression_10 :
    ∃ (lane : Fin 32) (w : LaneWork) (x : Nat) (s : State),
      (tabFind s.burl.lanes lane = some w) ∧ (s.streamLine w = some x) ∧ (s.released w.station x = true) ∧
        (w.lineBytes ≤ w.out.length) ∧ (w.out ≠ []) ∧ (w.station < s.scan.length) := by
  refine ⟨0, ⟨1, 0, 0, 0, 0, 1, [5], 1, none⟩, 0,
    { (((State.reset.wrN Reg.DRAM_FRAMES_FREE 10).wrN (Reg.DRAM_PS_QUOTA 0) 10).wrN (Reg.LEDG_STATUS) 512) with
    tick := 0, host := { State.reset.host with inbox := [] }, ledg := { State.reset.ledg with pos := 0 }, dram :=
    { State.reset.dram with wiped := 10, dirs := [(8, 5)] }, burl := { State.reset.burl with
    lanes := [(0, ⟨1, 0, 0, 0, 0, 1, [5], 1, none⟩)] }, scan := [{ ScanStn.init with
    running := true, bound := [⟨1, 64, 0, 0, 0, false, false⟩], fired := 0 }] }, ?_, ?_, ?_, ?_, ?_,
    ?_⟩ <;> decide +kernel

theorem test_meets_DataItemsCompressionAndDecompression_11 :
    ∃ (lane : Fin 32) (w : LaneWork) (s : State),
      (tabFind s.burl.lanes lane = some w) ∧ (w.out.length < w.lineBytes ∨ w.out = []) ∧ (w.fail = none) ∧
        ((s.decodeOf w.sheet w.station w.band).ended + 1 < (s.decodeOf w.sheet w.station w.band).segs) := by
  refine ⟨0, ⟨1, 0, 0, 0, 0, 1, [], 1, none⟩,
    { (((State.reset.wrN Reg.DRAM_FRAMES_FREE 10).wrN (Reg.DRAM_PS_QUOTA 0) 10).wrN (Reg.LEDG_STATUS) 512) with
    tick := 0, host := { State.reset.host with inbox := [] }, ledg := { State.reset.ledg with pos := 0 }, dram :=
    { State.reset.dram with wiped := 10, dirs := [(8, 5)] }, burl := { State.reset.burl with
    lanes := [(0, ⟨1, 0, 0, 0, 0, 1, [], 1, none⟩)], decodes := [(32768, ⟨3, 2, [], 0, false⟩)] } }, ?_, ?_, ?_,
    ?_⟩ <;> decide +kernel

theorem test_meets_DramTrainingTemperatureAndScrub_2 :
    ∃ (o : Fin 16) (bands : List Word) (n : Nat) (s : State),
      (s.lcs.trainDue = some n) ∧ (n ≤ s.tick) ∧ (bands.length ≤ 32) ∧ (bitOf o 3 = true) ∧ (bitOf o 1 = false ∨
        bitOf o 2 = false ∨ bitOf o 0 = true) := by
  refine ⟨8, [], 0, { State.reset with lcs := { State.reset.lcs with trainDue := some 0 } }, ?_, ?_, ?_, ?_,
    ?_⟩ <;> decide +kernel

theorem test_meets_DramTrainingTemperatureAndScrub_3 :
    ∃ (s : State),
      (s.holding = true) ∧ (s.ledg.sheets = []) ∧ (s.flag Reg.DRAM_ORG 3 = true) ∧
        (s.flag Reg.DRAM_STATUS 2 = false) := by
  refine ⟨(State.reset.wrN Reg.DRAM_ORG 8), ?_, ?_, ?_, ?_⟩ <;> decide +kernel

theorem test_meets_DramTrainingTemperatureAndScrub_4 :
    ∃ (c0 c1 : ChannelTraining) (temp : Int) (s : State),
      (s.flag Reg.DRAM_STATUS 2 = true) ∧ (s.dram.retraining = false) ∧ (s.trainCode c0.stage c0.parts = 0) ∧
        (s.trainCode c1.stage c1.parts = 0) ∧ (s.dmaHalt = false) := by
  refine ⟨⟨0, []⟩, ⟨0, []⟩, 20, (State.reset.wrN Reg.DRAM_STATUS 4), ?_, ?_, ?_, ?_, ?_⟩ <;> decide +kernel

theorem test_meets_DramTrainingTemperatureAndScrub_5 :
    ∃ (c0 c1 : ChannelTraining) (temp : Int) (s : State),
      (s.flag Reg.DRAM_STATUS 2 = true) ∧ (s.dram.retraining = false) ∧ (s.trainCode c0.stage c0.parts ≠ 0 ∨
        s.trainCode c1.stage c1.parts ≠ 0) := by
  refine ⟨⟨0, [⟨true, false, false⟩]⟩, ⟨0, []⟩, 20, (State.reset.wrN Reg.DRAM_STATUS 4), ?_, ?_,
    ?_⟩ <;> decide +kernel

theorem test_meets_DramTrainingTemperatureAndScrub_6 :
    ∃ (phy warmest : Int) (hot : Bool) (s : State),
      (s.flag Reg.DRAM_STATUS 0 = true) ∧ (s.dram.tempAt + 1280 ≤ s.tick) := by
  refine ⟨20, 30, false, { (State.reset.wrN Reg.DRAM_STATUS 1) with tick := 1280 }, ?_, ?_⟩ <;> decide +kernel

theorem test_meets_DramTrainingTemperatureAndScrub_7 :
    ∃ (s : State),
      (s.flag Reg.DRAM_STATUS 0 = true) ∧ (s.dram.trackAt + s.fld Reg.DRAM_RETRAIN_CFG 23 16 ≤ s.tick) := by
  refine ⟨{ (State.reset.wrN Reg.DRAM_STATUS 1) with tick := 300 }, ?_, ?_⟩ <;> decide +kernel

theorem test_meets_DramTrainingTemperatureAndScrub_8 :
    ∃ (s0 s : State),
      (s0.begin .decide = s) ∧ (s.sheetGap = true) ∧ (s.retrainDue = true) ∧ (s.flag Reg.DRAM_STATUS 0 = true) ∧
        (s.flag Reg.DRAM_STATUS 2 = false) := by
  refine ⟨opened ({ ((State.reset.wrN Reg.DRAM_STATUS 1).wrN Reg.LEDG_STATUS (2 ^ 11)) with
    dram := { State.reset.dram with retrainAsked := true } }),
    opened ({ ((State.reset.wrN Reg.DRAM_STATUS 1).wrN Reg.LEDG_STATUS (2 ^ 11)) with
    dram := { State.reset.dram with retrainAsked := true } }), State.openDecide_open (decide_eq_true rfl), ?_, ?_, ?_,
    ?_⟩ <;> decide +kernel

theorem test_meets_DramTrainingTemperatureAndScrub_9 :
    ∃ (s : State),
      (s.dram.retraining = true) := by
  refine ⟨{ State.reset with dram := { State.reset.dram with retraining := true } }, ?_⟩
  decide +kernel

theorem test_meets_DramTrainingTemperatureAndScrub_10 :
    ∃ (ch : Fin 2) (now : Nat) (sampled decoding : Bool) (w : DramWait) (s : State),
      (s.dram.waits = [w]) ∧ (w.missed = true) ∧ (s.flag Reg.DRAM_STATUS 2 = false) ∧
        (s.flag Reg.DRAM_STATUS 0 = true) ∧ ((s.dramPlace w.addr).1 = ch.val) ∧ (s.rowHit w now = true) ∧
        (w.close = false) := by
  refine ⟨0, 0, false, false, ⟨0, 0, false, 0, false, [], true⟩, { (State.reset.wrN Reg.DRAM_STATUS 1) with
    dram := { State.reset.dram with waits := [⟨0, 0, false, 0, false, [], true⟩], openRows := [(0, ⟨0, 0⟩)] } }, ?_,
    ?_, ?_, ?_, ?_, ?_, ?_⟩ <;> decide +kernel

theorem test_meets_DramTrainingTemperatureAndScrub_12 :
    ∃ (now0 now1 : Nat) (s : State),
      (s.flag Reg.DRAM_STATUS 0 = true) ∧ (s.scrubTicks ≠ 0) ∧ (s.flag Reg.DRAM_STATUS 2 = false) ∧
        (s.dram.scrubAt < s.framesTotal) := by
  refine ⟨7, 9, (((State.reset.wrN Reg.DRAM_STATUS 1).wrN Reg.DRAM_SCRUB_PERIOD 1).wrN Reg.DRAM_FRAMES_TOTAL 5), ?_,
    ?_, ?_, ?_⟩ <;> decide +kernel

theorem test_meets_DramTrainingTemperatureAndScrub_13 :
    ∃ (now0 now1 : Nat) (s : State),
      (s.flag Reg.DRAM_STATUS 0 = true) ∧ (s.scrubTicks ≠ 0) ∧ (s.flag Reg.DRAM_STATUS 2 = false) ∧
        (s.framesTotal ≤ s.dram.scrubAt) ∧ (s.dram.scrubFrom + s.scrubTicks ≤ s.tick) := by
  refine ⟨7, 9, { (((State.reset.wrN Reg.DRAM_STATUS 1).wrN Reg.DRAM_SCRUB_PERIOD 1).wrN Reg.DRAM_FRAMES_TOTAL 5) with dram := { State.reset.dram with scrubAt := 5 }, tick := 144000000 }, ?_, ?_, ?_, ?_, ?_⟩ <;> decide +kernel

theorem test_meets_DramTrainingTemperatureAndScrub_14 :
    ∃ (now0 now1 : Nat) (s : State),
      (s.framesTotal ≤ s.dram.scrubAt) ∧ (s.tick < s.dram.scrubFrom + s.scrubTicks) := by
  refine ⟨7, 9, { (((State.reset.wrN Reg.DRAM_STATUS 1).wrN Reg.DRAM_SCRUB_PERIOD 1).wrN Reg.DRAM_FRAMES_TOTAL 5) with dram := { State.reset.dram with scrubAt := 5 }, tick := 143999999 }, ?_, ?_⟩ <;> decide +kernel

theorem test_meets_DramTrainingTemperatureAndScrub_15 :
    ∃ (s : State),
      (s.flag Reg.DRAM_STATUS 0 = true) ∧ (s.flag Reg.DRAM_STATUS 4 = false) ∧ (s.flag Reg.DRAM_STATUS 2 = false) ∧
        (s.wipeRuns = true) ∧ (s.dram.wiped + 256 ≤ s.framesTotal) ∧ (s.dram.bad = []) ∧
        (s.dram.waits.any (fun w => decide (w.port ≤ 2)) = false) := by
  refine ⟨(((State.reset.wrN Reg.DRAM_STATUS 1).wrN Reg.DRAM_FRAMES_TOTAL 512).wrN (Reg.DMA_CH_STATE 63) 2), ?_, ?_,
    ?_, ?_, ?_, ?_, ?_⟩ <;> decide +kernel

theorem test_meets_ScanEdgesAndFacets_1 :
    ∃ (i : Fin 8) (sub : Fin 2500) (fine : Fin 128) (ecc : Fin 3) (b : Nat) (s : State),
      (s.domainOn i = true) ∧ (s.gate i = 2) ∧ ((s.stn i).plan.isSome = true) ∧
        (s.duePlan i (s.edgeTime sub fine) = none) ∧ (s.windowClosed i (s.edgeTime sub fine) = false) ∧
        ((s.stn i).boundary = some b) ∧ (s.pastOpen i (s.edgeTime sub fine - b) = false) := by
  refine ⟨0, 1, 0, 0, 0, { ((State.reset.wrN (Reg.SCAN_STN_STATE 0) 2).wrN (Reg.SCAN_STN_BDWIN 0) 1) with
    scan := [boundStn] ++ List.replicate 7 ScanStn.init, tick := 2, alm := { State.reset.alm with
    active := some 0, bank0 := slowBank }, clk := { State.reset.clk with up := true } }, ?_, ?_, ?_, ?_, ?_, ?_,
    ?_⟩ <;> decide +kernel

theorem test_meets_ScanEdgesAndFacets_2 :
    ∃ (i : Fin 8) (sub : Fin 2500) (fine : Fin 128) (ecc : Fin 3) (s : State),
      (s.domainOn i = true) ∧ (s.gate i = 0) ∧ (s.scan.length = 8) ∧ (s.beam.stns.length = 8) ∧
        ((s.stn i).plan.isSome = true) ∧ (s.duePlan i (s.edgeTime sub fine) = none) ∧ ((s.stn i).facet = none) ∧
        (s.burl.bindNext = none) := by
  refine ⟨0, 1, 0, 0, { State.reset with
    scan := [boundStn] ++ List.replicate 7 ScanStn.init, tick := 2, alm := { State.reset.alm with
    active := some 0, bank0 := slowBank }, clk := { State.reset.clk with up := true } }, ?_, ?_, ?_, ?_, ?_, ?_, ?_,
    ?_⟩ <;> decide +kernel

theorem test_meets_ScanEdgesAndFacets_3 :
    ∃ (i : Fin 8) (sub : Fin 2500) (fine : Fin 128) (ecc : Fin 3) (r : Nat) (s : State),
      (s.domainOn i = true) ∧ (s.gate i = 2) ∧ (s.scan.length = 8) ∧ ((s.stn i).plan.isNone = false) ∧
        ((s.stn i).rise = some r) ∧ ((s.stn i).widths.length < 8) := by
  refine ⟨0, 9, 0, 0, 5, { (State.reset.wrN (Reg.SCAN_STN_STATE 0) 2) with
    scan := [{ boundStn with rise := some 5 }] ++ List.replicate 7 ScanStn.init, tick := 2, alm :=
    { State.reset.alm with active := some 0, bank0 := slowBank }, clk := { State.reset.clk with up := true } }, ?_,
    ?_, ?_, ?_, ?_, ?_⟩ <;> decide +kernel

theorem test_meets_ScanEdgesAndFacets_4 :
    ∃ (i : Fin 8) (ecc : Fin 3) (b : Nat) (s : State),
      (s.windowClosed i (s.tick * 320000) = true) ∧ ((s.stn i).boundary = some b) := by
  refine ⟨0, 0, 0, { ((State.reset.wrN (Reg.SCAN_STN_STATE 0) 2).wrN (Reg.SCAN_STN_CFG 0) 0x40) with
    scan := [boundStn] ++ List.replicate 7 ScanStn.init, tick := 5000, alm := { State.reset.alm with
    active := some 0, bank0 := slowBank }, clk := { State.reset.clk with up := true } }, ?_, ?_⟩ <;> decide +kernel

theorem test_meets_ScanEdgesAndFacets_5 :
    ∃ (i : Fin 8) (ecc : Fin 3) (b : Nat) (s : State),
      (s.windowClosed i (s.tick * 320000) = true) ∧ (s.scan.length = 8) ∧ ((s.stn i).boundary = some b) ∧
        ((s.stn i).plan.isSome = true) ∧ (s.duePlan i (b + s.stnPeriod i * 8 / 625) = none) ∧
        (s.burl.bindNext = none) ∧ ((s.stn i).facet = none) ∧
        (s.fld (Reg.SCAN_STN_CFG i) 7 4 ≤ (s.stn i).missed + 1) := by
  refine ⟨0, 0, 0, { ((State.reset.wrN (Reg.SCAN_STN_STATE 0) 2).wrN (Reg.SCAN_STN_CFG 0) 0x10) with
    scan := [boundStn] ++ List.replicate 7 ScanStn.init, tick := 5000, alm := { State.reset.alm with
    active := some 0, bank0 := slowBank }, clk := { State.reset.clk with up := true } }, ?_, ?_, ?_, ?_, ?_, ?_, ?_,
    ?_⟩ <;> decide +kernel

theorem test_meets_ScanEdgesAndFacets_6 :
    ∃ (i : Fin 8) (e : Nat) (f : FacetRun) (s : State),
      (s.facetEndAt i = some e) ∧ (e < s.tick * 320000) ∧ ((s.stn i).facet = some f) ∧ (s.scan.length = 8) := by
  refine ⟨0, (({ (State.reset.wrN (Reg.SCAN_STN_NDIV 0) (10 * 2 ^ 24)) with
    scan := [{ boundStn with facet := some ⟨3, 2, [], false⟩ }] ++ List.replicate 7 ScanStn.init, tick := 20, alm :=
    { State.reset.alm with active := some 0, bank0 := slowBank }, clk := { State.reset.clk with
    up := true } }).facetEndAt 0).getD 0, ⟨3, 2, [], false⟩,
    { (State.reset.wrN (Reg.SCAN_STN_NDIV 0) (10 * 2 ^ 24)) with
    scan := [{ boundStn with facet := some ⟨3, 2, [], false⟩ }] ++ List.replicate 7 ScanStn.init, tick := 20, alm :=
    { State.reset.alm with active := some 0, bank0 := slowBank }, clk := { State.reset.clk with up := true } }, ?_,
    ?_, ?_, ?_⟩ <;> decide +kernel

theorem test_meets_ScanEdgesAndFacets_7 :
    ∃ (mask : Fin 256) (s : State),
      (s.scan.length = 8) := by
  refine ⟨5, { (((State.reset.wrN (Reg.SCAN_STN_PYR 0 1) 3).wrN (Reg.SCAN_STN_PYR 1 1) 3).wrN (Reg.SCAN_STN_RESID 2 63) 3) with scan := [boundStn] ++ List.replicate 7 ScanStn.init, tick := 2, alm := { State.reset.alm with active := some 0, bank0 := slowBank }, clk := { State.reset.clk with up := true } }, ?_⟩
  decide +kernel

theorem test_meets_BeamReportsAndTables_1 :
    ∃ (i : Fin 8) (bs : List Byte) (s : State),
      ((readFacet bs).crcOk = false) := by
  refine ⟨0, [], State.reset, ?_⟩
  decide +kernel

theorem test_meets_BeamReportsAndTables_2 :
    ∃ (i : Fin 8) (bs : List Byte) (r : FacetReport) (s : State),
      (readFacet bs = r) ∧ (r.crcOk = true) ∧ (s.beamLink i = 2) ∧ (r.sweepValid = false) ∧ (r.frameBad = false) ∧
        (s.beam.stns.length = 8) := by
  refine ⟨0, plainReport, readFacet plainReport, { (State.reset.wrN (Reg.BEAM_STN_STATE 0) 2) with tick := 5 }, ?_,
    ?_, ?_, ?_, ?_, ?_⟩ <;> decide +kernel

theorem test_meets_BeamReportsAndTables_3 :
    ∃ (i : Fin 8) (head : List Byte) (crc : Word) (s : State),
      ((readStatus (endedBy head crc)).crcOk = true) ∧ ((readStatus (endedBy head crc)).ready = true) ∧
        (s.beamLink i = 1) ∧ ((s.bm i).ready = false) ∧ (s.beam.stns.length = 8) := by
  refine ⟨0, statusHead 1, crcWord (statusHead 1), { (State.reset.wrN (Reg.BEAM_STN_STATE 0) 1) with tick := 5 }, ?_,
    ?_, ?_, ?_, ?_⟩ <;> decide +kernel

theorem test_meets_BeamReportsAndTables_4 :
    ∃ (i : Fin 8) (head : List Byte) (crc : Word) (s : State),
      ((readStatus (endedBy head crc)).crcOk = true) ∧ ((readStatus (endedBy head crc)).ready = false) ∧
        (s.beamLink i = 2) ∧ (s.beam.stns.length = 8) := by
  refine ⟨0, statusHead 0, crcWord (statusHead 0), { (State.reset.wrN (Reg.BEAM_STN_STATE 0) 2) with tick := 5 }, ?_,
    ?_, ?_, ?_⟩ <;> decide +kernel

theorem test_meets_BeamReportsAndTables_5 :
    ∃ (i : Fin 8) (s : State),
      (s.beamLink i = 2) ∧ ((s.bm i).reportAt + s.fld (Reg.BEAM_STN_CFG i) 31 24 ≤ s.tick) ∧
        (s.beam.stns.length = 8) := by
  refine ⟨0, { (State.reset.wrN (Reg.BEAM_STN_STATE 0) 2) with tick := 500 }, ?_, ?_, ?_⟩ <;> decide +kernel

theorem test_meets_BeamReportsAndTables_6 :
    ∃ (i : Fin 8) (head : List Byte) (table crc : Word) (r : AckReport) (f : TableTx) (s : State),
      (readAck (endedBy (endedBy head table) crc) = r) ∧ (r.crcOk = true) ∧ (tabFind (s.bm i).flights r.id = some f) ∧
        (f.sent = true) ∧ (f.seq = r.seq) ∧ (r.crc = crc32 (s.beamBytes i r.id)) ∧ (s.beam.stns.length = 8) := by
  refine ⟨0, ackHead, ackTable, ackCrc, readAck (endedBy (endedBy ackHead ackTable) ackCrc), ⟨7, 0, 0, true⟩,
    { State.reset with
    beam := { State.reset.beam with
    stns := [{ BeamStn.init with flights := [(3, ⟨7, 0, 0, true⟩)], dirty := [(3, true)] }]
    ++ List.replicate 7 BeamStn.init } }, ?_, ?_, ?_, ?_, ?_, ?_, ?_⟩ <;> decide +kernel

theorem test_meets_BeamReportsAndTables_7 :
    ∃ (i : Fin 8) (head : List Byte) (table crc : Word) (s : State),
      ((readAck (endedBy (endedBy head table) crc)).crcOk = false) := by
  refine ⟨0, [], 0, 0, State.reset, ?_⟩
  decide +kernel

theorem test_meets_BeamReportsAndTables_8 :
    ∃ (i : Fin 8) (id : Fin 20) (f : TableTx) (s : State),
      (tabFind (s.bm i).flights id = some f) ∧ (f.sent = true) ∧ (f.stamp + 8 ≤ s.tick) ∧ (f.fails < 2) ∧
        (s.tableTime i = true) ∧ (s.beam.stns.length = 8) := by
  refine ⟨0, 3, ⟨7, 0, 0, true⟩, { State.reset with
    tick := 8, beam := { State.reset.beam with
    stns := [{ BeamStn.init with flights := [(3, ⟨7, 0, 0, true⟩)], dirty := [(3, true)] }]
    ++ List.replicate 7 BeamStn.init } }, ?_, ?_, ?_, ?_, ?_, ?_⟩ <;> decide +kernel

theorem test_meets_ArmingInterlockAndMaps_1 :
    ∃ (i : Fin 8) (s0 s : State),
      (s0.begin .decide = s) ∧ (s.ldenAllowed i = true) ∧ (s.mapUsable i 0 = true) ∧ (s.mapMode i 0 false = true) ∧
        (s.mapMode i 0 true = true) ∧ (s.armed i = false) ∧ (s.beam.stns.length = 8) := by
  refine ⟨0, opened ({ (((State.reset.wrN (Reg.BEAM_STN_STATE 0) 2).wrN (Reg.BEAM_STN_CFG 0) 1).wrN Reg.BEAM_STATUS 0x100) with sram := goodMap }), opened ({ (((State.reset.wrN (Reg.BEAM_STN_STATE 0) 2).wrN (Reg.BEAM_STN_CFG 0) 1).wrN Reg.BEAM_STATUS 0x100) with sram := goodMap }), State.openDecide_open (decide_eq_true rfl), ?_, ?_, ?_, ?_, ?_, ?_⟩ <;> decide +kernel

theorem test_meets_ArmingInterlockAndMaps_2 :
    ∃ (i : Fin 8) (s0 s : State),
      (s0.begin .decide = s) ∧ ((s.ldenAllowed i && s.mapUsable
        i 0 && s.mapMode i 0 false && s.mapMode i 0 true) = false) := by
  refine ⟨0, opened State.reset, opened State.reset, State.openDecide_open (decide_eq_true rfl), ?_⟩
  decide +kernel

theorem test_meets_ArmingInterlockAndMaps_3 :
    ∃ (i : Fin 8) (s0 s : State),
      (s0.begin .decide = s) ∧ (s.beam.stns.length = 8) := by
  refine ⟨0, opened ((State.reset.wrN (Reg.BEAM_STN_STATE 0) 0xE).wrN Reg.BEAM_STATUS 1),
    opened ((State.reset.wrN (Reg.BEAM_STN_STATE 0) 0xE).wrN Reg.BEAM_STATUS 1),
    State.openDecide_open (decide_eq_true rfl), ?_⟩
  decide +kernel

theorem test_meets_ArmingInterlockAndMaps_4 :
    ∃ (i : Fin 8) (s : State),
      ((s.bm i).rising = true) ∧ (s.armed i = true) ∧ (s.ldenAllowed i = true) ∧ ((s.bm i).dirty = []) ∧
        (s.clk.ioLow = false) ∧ (s.beam.stns.length = 8) := by
  refine ⟨0, { (((State.reset.wrN (Reg.BEAM_STN_STATE 0) 0xA).wrN (Reg.BEAM_STN_CFG 0) 1).wrN Reg.BEAM_STATUS 0x100) with beam := { State.reset.beam with stns := [{ BeamStn.init with rising := true }] ++ List.replicate 7 BeamStn.init } }, ?_, ?_, ?_, ?_, ?_, ?_⟩ <;> decide +kernel

theorem test_meets_ArmingInterlockAndMaps_5 :
    ∃ (s : State),
      (s.beam.interlock = none) := by
  refine ⟨((State.reset.wrN (Reg.BEAM_STN_STATE 0) 0xE).wrN Reg.BEAM_STATUS 0x101), ?_⟩
  decide +kernel

theorem test_meets_ArmingInterlockAndMaps_6 :
    ∃ (n mask : Nat) (s0 s : State),
      (s0.begin (.ledg 1) = s) ∧ (s.ready (.ledg 1) = true) ∧ (s.beam.interlock = some (n, mask)) ∧ (n < s.tick) := by
  refine ⟨3, 1, opened ({ State.reset with tick := 4, beam := { State.reset.beam with interlock := some (3, 1) } }),
    opened ({ State.reset with tick := 4, beam := { State.reset.beam with interlock := some (3, 1) } }),
    State.openDecide_open (decide_eq_true rfl), ?_, ?_, ?_⟩ <;> decide +kernel

theorem test_meets_ArmingInterlockAndMaps_7 :
    ∃ (s0 s : State),
      (s0.begin .decide = s) ∧ (s.flag Reg.BEAM_STATUS 8 = true) ∧ (s.fld Reg.BEAM_CFG 15 0 ≤ s.beam.lsiHigh) := by
  refine ⟨opened ({ (State.reset.wrN Reg.BEAM_STATUS 0x300) with
    beam := { State.reset.beam with lsiHigh := 100000 } }), opened ({ (State.reset.wrN Reg.BEAM_STATUS 0x300) with
    beam := { State.reset.beam with lsiHigh := 100000 } }), State.openDecide_open (decide_eq_true rfl), ?_,
    ?_⟩ <;> decide +kernel

theorem test_meets_ArmingInterlockAndMaps_8 :
    ∃ (i : Fin 8) (m : Nat) (s0 s : State),
      (s0.begin .decide = s) ∧ (s.covering i = some m) ∧ (m ≠ s.mapTarget i) ∧ (s.beam.stns.length = 8) := by
  refine ⟨0, 0, opened ({ (State.reset.wrN (Reg.BEAM_STN_STATE 0) 0x10) with sram := goodMap }),
    opened ({ (State.reset.wrN (Reg.BEAM_STN_STATE 0) 0x10) with sram := goodMap }),
    State.openDecide_open (decide_eq_true rfl), ?_, ?_, ?_⟩ <;> decide +kernel

theorem test_meets_ArmingInterlockAndMaps_9 :
    ∃ (i : Fin 8) (s0 s : State),
      (s0.begin .decide = s) ∧ (s.stationBusy i = false) ∧ (s.beam.stns.length = 8) := by
  refine ⟨0, opened ({ (State.reset.wrN (Reg.BEAM_STN_FAILED_LO 0) 5) with
    beam := { State.reset.beam with stns := [{ BeamStn.init with sweeps := [3] }] ++ List.replicate 7 BeamStn.init }
    }), opened ({ (State.reset.wrN (Reg.BEAM_STN_FAILED_LO 0) 5) with
    beam := { State.reset.beam with stns := [{ BeamStn.init with sweeps := [3] }] ++ List.replicate 7 BeamStn.init }
    }), State.openDecide_open (decide_eq_true rfl), ?_, ?_⟩ <;> decide +kernel

theorem test_meets_LinksTrainAndFail_1 :
    ∃ (l : LinkId) (s : State),
      (s.locked = false) ∧ (s.linkState l = 0) ∧ (∀ i, l = .beam i → s.domainOn i = true) := by
  refine ⟨.step 1, State.reset, ?_⟩
  exact ⟨by decide +kernel, by decide +kernel, nofun⟩

theorem test_meets_LinksTrainAndFail_2 :
    ∃ (l : LinkId) (s : State),
      (s.locked = false) := by
  refine ⟨.hv 1, ((State.reset.wrN (Reg.LOOP_LINK_STATE 1) 2).wrN (Reg.LOOP_LINK_CFG 1) 1), ?_⟩
  decide +kernel

theorem test_meets_LinksTrainAndFail_3 :
    ∃ (l : LinkId) (s : State),
      (s.locked = true) := by
  refine ⟨.step 1, (State.reset.wrN Reg.HOST_SETUP_LOCK 1), ?_⟩
  decide +kernel

theorem test_meets_LinksTrainAndFail_4 :
    ∃ (l : LinkId) (s : State),
      (s.locked = true) := by
  refine ⟨.step 1, (State.reset.wrN Reg.HOST_SETUP_LOCK 1), ?_⟩
  decide +kernel

theorem test_meets_LinksTrainAndFail_5 :
    ∃ (k : Fin 4) (n : Fin 32) (s : State),
      (s.axisLink k = 1) ∧ ((s.linkRec (.axis k)).since + 8 ≤ s.tick) ∧ ((s.linkRec (.axis k)).good ≠ 0) := by
  refine ⟨1, 0, { (State.reset.wrN (Reg.AXIS_LINK_STATE 1) 1) with
    tick := 8, axis := { State.reset.axis with links := [Link.init, ⟨0, 0, 7⟩] } }, ?_, ?_, ?_⟩ <;> decide +kernel

theorem test_meets_LinksTrainAndFail_6 :
    ∃ (k : Fin 2) (n : Fin 32) (s : State),
      (s.stepLink k = 1) ∧ ((s.linkRec (.step k)).since + 8 ≤ s.tick) ∧ (s.nodesNeeded k ≤ min 24 n.val) := by
  refine ⟨1, 5, { (State.reset.wrN (Reg.STEP_LINK_STATE 1) 1) with tick := 8 }, ?_, ?_, ?_⟩ <;> decide +kernel

theorem test_meets_LinksTrainAndFail_7 :
    ∃ (k : Fin 2) (n : Fin 32) (s : State),
      (s.hvLink k = 1) ∧ ((s.linkRec (.hv k)).since + 8 ≤ s.tick) ∧ (s.hvReady k (min 16 n.val) = true) := by
  refine ⟨1, 5, { (State.reset.wrN (Reg.LOOP_LINK_STATE 1) 1) with
    tick := 8, loop := { State.reset.loop with waiting := [(1, ⟨true, []⟩)] } }, ?_, ?_, ?_⟩ <;> decide +kernel

theorem test_meets_LinksTrainAndFail_8 :
    ∃ (i : Fin 8) (n : Fin 32) (s : State),
      (s.beamLink i = 1) ∧ ((s.bm i).ready = true) ∧ ((s.bm i).dirty = []) ∧ ((s.bm i).linkAt + 16 ≤ s.tick) ∧
        (s.beam.stns.length = 8) := by
  refine ⟨0, 0, { (State.reset.wrN (Reg.BEAM_STN_STATE 0) 1) with
    tick := 16, beam := { State.reset.beam with
    stns := [{ BeamStn.init with ready := true }] ++ List.replicate 7 BeamStn.init } }, ?_, ?_, ?_, ?_,
    ?_⟩ <;> decide +kernel

theorem test_meets_LinksTrainAndFail_9 :
    ∃ (l : LinkId) (s : State),
      (s.linkState l = 1) ∧ ((s.linkRec l).since + 80 ≤ s.tick) := by
  refine ⟨.axis 3, { (State.reset.wrN (Reg.AXIS_LINK_STATE 3) 1) with tick := 80 }, ?_, ?_⟩ <;> decide +kernel

theorem test_meets_LinksTrainAndFail_10 :
    ∃ (l : LinkId) (s0 s : State),
      (s0.begin .decide = s) ∧ (s.linkState l = 2) ∧ (s.hasLinkIn l = true) ∧ ((s.linkRec l).good ≠ s.tick + 1) ∧
        (s.fld (linkCfg l) 7 4 ≤ (s.linkRec l).miss) := by
  refine ⟨.axis 3, opened ({ (((State.reset.wrN (Reg.AXIS_LINK_STATE 3) 2).wrN Reg.ALM_STATUS 0).wrN (Reg.AXIS_LINK_CFG 3) 0x11) with axis := { State.reset.axis with links := [Link.init, Link.init, Link.init, ⟨0, 1, 0⟩] }, alm := { State.reset.alm with active := some 0, bank0 := pageWith 0 0x0A 1 3 } }), opened ({ (((State.reset.wrN (Reg.AXIS_LINK_STATE 3) 2).wrN Reg.ALM_STATUS 0).wrN (Reg.AXIS_LINK_CFG 3) 0x11) with axis := { State.reset.axis with links := [Link.init, Link.init, Link.init, ⟨0, 1, 0⟩] }, alm := { State.reset.alm with active := some 0, bank0 := pageWith 0 0x0A 1 3 } }), State.openDecide_open (decide_eq_true rfl), ?_, ?_, ?_, ?_⟩ <;> decide +kernel

theorem test_meets_LinksTrainAndFail_11 :
    ∃ (l : LinkId) (s : State),
      (s.linkState l = 1 ∨ s.linkState l = 2) := by
  refine ⟨.beam 7, (State.reset.wrN (Reg.BEAM_STN_STATE 7) 2), ?_⟩
  decide +kernel

theorem test_meets_LinksTrainAndFail_12 :
    ∃ (l : LinkId) (s : State),
      (s.linkState l = 3) ∧ (s.flag (linkCfg l) 0 = true) ∧ ((s.linkRec l).since + 4000 ≤ s.tick) ∧ (∀ i,
        l = .beam i → s.domainOn i = true) := by
  refine ⟨.step 0, { ((State.reset.wrN (Reg.STEP_LINK_STATE 0) 3).wrN (Reg.STEP_LINK_CFG 0) 1) with tick := 4000 },
    ?_⟩
  exact ⟨by decide +kernel, by decide +kernel, by decide +kernel, nofun⟩

theorem test_meets_StepperCommands_1 :
    ∃ (a : Fin 48) (s0 s : State),
      (s0.begin (.step a) = s) ∧ (s.safe = false) ∧ ((s.ax a).mode = .disabled) ∧ (s.stepLink (a / 24) = 2) ∧
        (s.holding = false) ∧ (a % 24 < s.stepNodes (a / 24)) ∧ (s.step.axes.length = 48) := by
  refine ⟨0, opened ({ ((State.reset.wrN (Reg.STEP_LINK_STATE 0) 0x102).wrN Reg.ALM_STATUS 0) with
    step := { State.reset.step with
    axes := [{ StepAxis.init with mode := .disabled }] ++ List.replicate 47 StepAxis.init } }), _, rfl, ?_, ?_, ?_,
    ?_, ?_, ?_⟩ <;> decide +kernel

theorem test_meets_StepperCommands_2 :
    ∃ (a : Fin 48) (s0 s : State),
      (s0.begin (.step a) = s) ∧ ((s.ax a).mode = .disabled ∨ (s.ax a).mode = .idle ∨ (s.ax a).mode = .waitSpin ∨
        ((s.ax a).mode = .fault ∧ (s.ax a).v = 0)) ∧ (s.step.axes.length = 48) := by
  refine ⟨0, opened ({ State.reset with
    step := { State.reset.step with
    axes := [{ StepAxis.init with mode := .idle, homed := true }] ++ List.replicate 47 StepAxis.init } }), _, rfl, ?_,
    ?_⟩ <;> decide +kernel

theorem test_meets_StepperCommands_3 :
    ∃ (a : Fin 48) (prof : Fin 8) (s0 s : State),
      (s0.begin (.step a) = s) ∧ (s.safe = false) ∧ ((s.ax a).mode = .idle ∨ (s.ax a).mode = .move ∨
        (s.ax a).mode = .velocity) ∧ (profileValid (s.stepProfile a prof) = true) ∧ (s.step.axes.length = 48) := by
  refine ⟨0, 0, opened ({ (State.reset.wrN (Reg.STEP_AX_TARGET_LO 0) 5) with
    step := { State.reset.step with
    axes := [{ StepAxis.init with mode := .idle }] ++ List.replicate 47 StepAxis.init }, sram := goodProfile }), _,
    rfl, ?_, ?_, ?_, ?_⟩ <;> decide +kernel

theorem test_meets_StepperCommands_4 :
    ∃ (a : Fin 48) (prof : Fin 8) (s0 s : State),
      (s0.begin (.step a) = s) ∧ (s.safe = false) ∧ ((s.ax a).mode = .idle ∨ (s.ax a).mode = .move ∨
        (s.ax a).mode = .velocity) ∧ (profileValid (s.stepProfile a prof) = true) ∧ (s.stepAsked a ≠ 0) ∧
        ((s.stepAsked a).natAbs ≤ pf (s.stepProfile a prof) 3) ∧ (s.step.axes.length = 48) := by
  refine ⟨0, 0, opened ({ (State.reset.wrN (Reg.STEP_AX_TARGET_LO 0) 1) with
    step := { State.reset.step with
    axes := [{ StepAxis.init with mode := .idle }] ++ List.replicate 47 StepAxis.init }, sram := goodProfile }), _,
    rfl, ?_, ?_, ?_, ?_, ?_, ?_⟩ <;> decide +kernel

theorem test_meets_StepperCommands_5 :
    ∃ (a : Fin 48) (s0 s : State),
      (s0.begin (.step a) = s) ∧ (s.safe = false) ∧ ((s.ax a).mode = .move ∨ (s.ax a).mode = .velocity ∨
        (s.ax a).mode = .homing ∨ (s.ax a).mode = .cam) ∧ (s.step.axes.length = 48) := by
  refine ⟨0, opened ({ State.reset with
    step := { State.reset.step with
    axes := [{ StepAxis.init with mode := .move }] ++ List.replicate 47 StepAxis.init } }), _, rfl, ?_, ?_,
    ?_⟩ <;> decide +kernel

theorem test_meets_StepperCommands_6 :
    ∃ (a : Fin 48) (s0 s : State),
      (s0.begin (.step a) = s) ∧ (s.safe = false) ∧ ((s.ax a).mode = .idle) ∧
        (profileValid (s.stepProfile a (s.fld (Reg.STEP_AX_HOME_CFG a) 22 20)) = true) ∧ (s.step.axes.length = 48) :=
        by
  refine ⟨0, opened ({ State.reset with
    step := { State.reset.step with
    axes := [{ StepAxis.init with mode := .idle, homed := true }] ++ List.replicate 47 StepAxis.init }, sram :=
    goodProfile }), _, rfl, ?_, ?_, ?_, ?_⟩ <;> decide +kernel

theorem test_meets_StepperCommands_7 :
    ∃ (a : Fin 48) (s0 s : State),
      (s0.begin (.step a) = s) ∧ (s.safe = false) ∧ ((s.ax a).mode = .idle ∨ (s.ax a).mode = .velocity) ∧
        (((s.camStart a).2 - (s.ax a).v).natAbs ≤ pf (s.stepProfile a 0) 0) ∧ (s.step.axes.length = 48) := by
  refine ⟨0, opened ({ State.reset with
    step := { State.reset.step with
    axes := [{ StepAxis.init with mode := .idle }] ++ List.replicate 47 StepAxis.init }, sram := goodProfile }), _,
    rfl, ?_, ?_, ?_, ?_⟩ <;> decide +kernel

theorem test_meets_StepperCommands_8 :
    ∃ (a : Fin 48) (s0 s : State),
      (s0.begin (.step a) = s) ∧ (s.safe = false) ∧ ((s.ax a).mode = .cam) ∧ (s.step.axes.length = 48) := by
  refine ⟨0, opened ({ State.reset with
    step := { State.reset.step with axes := [{ StepAxis.init with mode := .cam }] ++ List.replicate 47 StepAxis.init }
    }), _, rfl, ?_, ?_, ?_⟩ <;> decide +kernel

theorem test_meets_StepperCommands_9 :
    ∃ (a : Fin 48) (s0 s : State),
      (s0.begin (.step a) = s) ∧ (s.safe = false) ∧ ((s.ax a).mode = .idle) ∧ (s.step.axes.length = 48) := by
  refine ⟨0, opened ({ (State.reset.wrN (Reg.STEP_AX_TARGET_LO 0) 5) with
    step := { State.reset.step with
    axes := [{ StepAxis.init with mode := .idle, homed := true }] ++ List.replicate 47 StepAxis.init } }), _, rfl, ?_,
    ?_, ?_⟩ <;> decide +kernel

theorem test_meets_StepperCommands_10 :
    ∃ (a : Fin 48) (s0 s : State),
      (s0.begin (.step a) = s) ∧ (s.safe = false) ∧ ((s.ax a).mode = .fault) ∧ ((s.ax a).v = 0) ∧
        (s.step.axes.length = 48) := by
  refine ⟨0, opened ({ State.reset with
    step := { State.reset.step with
    axes := [{ StepAxis.init with mode := .fault, bridges := true }] ++ List.replicate 47 StepAxis.init } }), _, rfl,
    ?_, ?_, ?_, ?_⟩ <;> decide +kernel

theorem test_meets_StepperCommands_11 :
    ∃ (a : Fin 48) (s0 s : State),
      (s0.begin (.step a) = s) ∧ (s.safe = false) ∧ ((s.ax a).mode ≠ .idle) ∧ ((s.ax a).mode ≠ .ledger) := by
  refine ⟨0, opened ({ State.reset with
    step := { State.reset.step with
    axes := [{ StepAxis.init with mode := .move }] ++ List.replicate 47 StepAxis.init } }), _, rfl, ?_, ?_,
    ?_⟩ <;> decide +kernel

theorem test_meets_StepperReturnsHomingAndEdges_1 :
    ∃ (k : Fin 2) (bs : List Byte) (f : StepFrame) (s : State),
      (readStepFrame bs = f) ∧ (f.crcOk = true) ∧ (s.stepLink k = 2) ∧ (s.pageHas 9 1 k = true) ∧
        (s.decideOpen = false) ∧ (s.step.links.length = 2) := by
  refine ⟨1, stepBytes, readStepFrame stepBytes,
    { ((State.reset.wrN (Reg.STEP_LINK_STATE 1) 2).wrN Reg.ALM_STATUS 0) with
    alm := { State.reset.alm with active := some 0, bank0 := pageWith 0 9 1 1 }, tick := 4 }, ?_, ?_, ?_, ?_, ?_,
    ?_⟩ <;> decide +kernel

theorem test_meets_StepperReturnsHomingAndEdges_2 :
    ∃ (k : Fin 2) (bs : List Byte) (s : State),
      ((readStepFrame bs).crcOk = false) ∧ (s.stepLink k = 2) ∧ (s.pageHas 9 1 k = true) ∧ (s.decideOpen = false) :=
        by
  refine ⟨1, [], { ((State.reset.wrN (Reg.STEP_LINK_STATE 1) 2).wrN Reg.ALM_STATUS 0) with
    alm := { State.reset.alm with active := some 0, bank0 := pageWith 0 9 1 1 }, tick := 4 }, ?_, ?_, ?_,
    ?_⟩ <;> decide +kernel

theorem test_meets_StepperReturnsHomingAndEdges_3 :
    ∃ (k : Fin 2) (bs : List Byte) (s : State),
      (s.stepLink k = 2) ∧ (s.pageHas 9 1 k = false ∨ s.decideOpen = true) := by
  refine ⟨1, stepBytes, ((State.reset.wrN (Reg.STEP_LINK_STATE 1) 2).wrN Reg.ALM_STATUS 0), ?_, ?_⟩ <;> decide +kernel

theorem test_meets_StepperReturnsHomingAndEdges_4 :
    ∃ (a : Fin 48) (s0 s : State),
      (s0.begin .decide = s) ∧ ((s.ax a).mode = .waitSpin) ∧ ((s.ax a).deadline ≤ s.tick) ∧
        (s.step.axes.length = 48) := by
  refine ⟨0, opened ({ State.reset with
    step := { State.reset.step with
    axes := [{ StepAxis.init with mode := .waitSpin, deadline := 3 }] ++ List.replicate 47 StepAxis.init }, tick :=
    3 }), opened ({ State.reset with
    step := { State.reset.step with
    axes := [{ StepAxis.init with mode := .waitSpin, deadline := 3 }] ++ List.replicate 47 StepAxis.init }, tick :=
    3 }), State.openDecide_open (decide_eq_true rfl), ?_, ?_, ?_⟩ <;> decide +kernel

theorem test_meets_StepperReturnsHomingAndEdges_5 :
    ∃ (a : Fin 48) (s0 s : State),
      (s0.begin .decide = s) ∧ ((s.ax a).dwell ≠ 0) ∧ ((s.ax a).dwell ≤ s.tick) ∧ (s.step.axes.length = 48) := by
  refine ⟨0, opened ({ State.reset with
    step := { State.reset.step with
    axes := [{ StepAxis.init with mode := .move, dwell := 3 }] ++ List.replicate 47 StepAxis.init }, tick := 3 }),
    opened ({ State.reset with
    step := { State.reset.step with
    axes := [{ StepAxis.init with mode := .move, dwell := 3 }] ++ List.replicate 47 StepAxis.init }, tick := 3 }),
    State.openDecide_open (decide_eq_true rfl), ?_, ?_, ?_⟩ <;> decide +kernel

theorem test_meets_StepperReturnsHomingAndEdges_6 :
    ∃ (a : Fin 48) (h : Homing) (n : Nat) (s0 s : State),
      (s0.begin .decide = s) ∧ ((s.ax a).homing = some h) ∧ (h.last = [(n, true)]) ∧
        (n + s.fld (Reg.STEP_AX_HOME_CFG a) 15 12 ≤ s.tick + 1) ∧ ((s.ax a).halt = .no) ∧ ((s.ax a).hphase = 1) ∧
        (s.step.axes.length = 48) := by
  refine ⟨0, ⟨some 3, some (2, 0), none, 0, [(4, true)], 0, false, false, 0⟩, 4, opened ({ State.reset with
    tick := 20, step := { State.reset.step with axes := [homingNow 1] ++ List.replicate 47 StepAxis.init } }),
    opened ({ State.reset with
    tick := 20, step := { State.reset.step with axes := [homingNow 1] ++ List.replicate 47 StepAxis.init } }),
    State.openDecide_open (decide_eq_true rfl), ?_, ?_, ?_, ?_, ?_, ?_⟩ <;> decide +kernel

theorem test_meets_StepperReturnsHomingAndEdges_7 :
    ∃ (a : Fin 48) (h : Homing) (n : Nat) (l : Int) (s0 s : State),
      (s0.begin .decide = s) ∧ ((s.ax a).homing = some h) ∧ (h.last = [(n, true)]) ∧
        (n + s.fld (Reg.STEP_AX_HOME_CFG a) 15 12 ≤ s.tick + 1) ∧ ((s.ax a).halt = .no) ∧ ((s.ax a).hphase = 3) ∧
        (h.latch = some l) ∧ (s.step.axes.length = 48) := by
  refine ⟨0, ⟨some 3, none, some 7, 0, [(4, true)], 0, false, false, 0⟩, 4, 7, opened ({ State.reset with
    tick := 20, step := { State.reset.step with
    axes := [{ homingNow 3 with homing := some ⟨some 3, none, some 7, 0, [(4, true)], 0, false, false, 0⟩ }]
    ++ List.replicate 47 StepAxis.init } }), opened ({ State.reset with
    tick := 20, step := { State.reset.step with
    axes := [{ homingNow 3 with homing := some ⟨some 3, none, some 7, 0, [(4, true)], 0, false, false, 0⟩ }]
    ++ List.replicate 47 StepAxis.init } }), State.openDecide_open (decide_eq_true rfl), ?_, ?_, ?_, ?_, ?_, ?_,
    ?_⟩ <;> decide +kernel

theorem test_meets_StepperReturnsHomingAndEdges_8 :
    ∃ (a : Fin 48) (h : Homing) (g : Nat) (s0 s : State),
      (s0.begin .decide = s) ∧ ((s.ax a).homing = some h) ∧ (h.window = some g) ∧
        (g + s.fld (Reg.STEP_AX_HOME_WIN a) 15 0 ≤ s.tick) ∧ (h.last = []) ∧ (s.step.axes.length = 48) := by
  refine ⟨0, ⟨some 3, none, some 7, 0, [], 0, false, false, 0⟩, 3,
    opened ({ (State.reset.wrN (Reg.STEP_AX_HOME_WIN 0) 1) with
    tick := 4, step := { State.reset.step with
    axes := [{ homingNow 3 with homing := some ⟨some 3, none, some 7, 0, [], 0, false, false, 0⟩ }]
    ++ List.replicate 47 StepAxis.init } }), opened ({ (State.reset.wrN (Reg.STEP_AX_HOME_WIN 0) 1) with
    tick := 4, step := { State.reset.step with
    axes := [{ homingNow 3 with homing := some ⟨some 3, none, some 7, 0, [], 0, false, false, 0⟩ }]
    ++ List.replicate 47 StepAxis.init } }), State.openDecide_open (decide_eq_true rfl), ?_, ?_, ?_, ?_,
    ?_⟩ <;> decide +kernel

theorem test_meets_StepperReturnsHomingAndEdges_9 :
    ∃ (i : Fin 8) (level : Bool) (sub : Fin 2500) (x : ScapIn) (s : State),
      (s.sio.scap.getD i ScapIn.init = x) ∧ (x.raw = x.level) ∧ (x.raw ≠ level) ∧ (s.scapFilter i = 0) ∧
        (x.queue.length < 8) ∧ (s.sio.scap.length = 8) := by
  refine ⟨3, true, 9, ScapIn.init, { (State.reset.wrN Reg.SIO_SCAP_FILT 0) with tick := 2 }, ?_, ?_, ?_, ?_, ?_,
    ?_⟩ <;> decide +kernel

theorem test_meets_StepperReturnsHomingAndEdges_10 :
    ∃ (i : Fin 8) (level : Bool) (sub : Fin 2500) (x : ScapIn) (s : State),
      (s.sio.scap.getD i ScapIn.init = x) ∧ (x.raw = x.level) ∧ (x.raw ≠ level) ∧ (0 < s.scapFilter i) ∧
        (s.sio.scap.length = 8) := by
  refine ⟨3, true, 9, ScapIn.init, { (State.reset.wrN Reg.SIO_SCAP_FILT 0x1000) with tick := 2 }, ?_, ?_, ?_, ?_,
    ?_⟩ <;> decide +kernel

theorem test_meets_StepperReturnsHomingAndEdges_11 :
    ∃ (i : Fin 8) (level : Bool) (sub : Fin 2500) (x : ScapIn) (s : State),
      (s.sio.scap.getD i ScapIn.init = x) ∧ (x.raw = x.level) ∧ (x.raw ≠ level) ∧ (s.scapFilter i = 0) ∧
        (8 ≤ x.queue.length) ∧ (s.sio.scap.length = 8) := by
  refine ⟨0, true, 9, { ScapIn.init with queue := List.replicate 8 ⟨0, 0, true, 0, 0, 1⟩ },
    { (State.reset.wrN Reg.SIO_SCAP_FILT 0) with
    tick := 2, sio := { State.reset.sio with
    scap := [{ ScapIn.init with queue := List.replicate 8 ⟨0, 0, true, 0, 0, 1⟩ }]
    ++ List.replicate 7 ScapIn.init } }, ?_, ?_, ?_, ?_, ?_, ?_⟩ <;> decide +kernel

theorem test_meets_AxisCommands_1 :
    ∃ (a : Fin 24) (s0 s : State),
      (s0.begin (.axis a) = s) ∧ (s.safe = false) ∧ ((s.sx a).mode = .disabled) ∧ (s.axisLink (a / 6) = 2) ∧
        (s.holding = false) ∧ (s.axisComplete a = true) ∧ (s.axis.axes.length = 24) := by
  refine ⟨0, opened ({ ((((((((State.reset.wrN (Reg.AXIS_LINK_STATE 0) 2).wrN Reg.ALM_STATUS 0).wrN (Reg.AXIS_AX_CFG 0) 0x11).wrN (Reg.AXIS_AX_ILOOP 0) 0x10001).wrN (Reg.AXIS_AX_SLOOP 0) 0x10001).wrN (Reg.AXIS_AX_LIMITS 0) 1).wrN (Reg.AXIS_HUB_BUS 0) 0x20001).wrN (Reg.AXIS_HUB_TRIP 0) 3) with axis := { State.reset.axis with axes := [{ SyncAxis.init with mode := .disabled }] ++ List.replicate 23 SyncAxis.init }, tick := 3, sram := goodSync }), _, rfl, ?_, ?_, ?_, ?_, ?_, ?_⟩ <;> decide +kernel

theorem test_meets_AxisCommands_2 :
    ∃ (a : Fin 24) (s0 s : State),
      (s0.begin (.axis a) = s) ∧ ((s.sx a).mode = .disabled ∨ (s.sx a).mode = .idle ∨ (s.sx a).mode = .spindown ∨
        (s.sx a).mode = .fault) ∧ (s.axis.axes.length = 24) := by
  refine ⟨0, opened ({ State.reset with
    axis := { State.reset.axis with
    axes := [{ SyncAxis.init with mode := .idle, bridges := true }] ++ List.replicate 23 SyncAxis.init } }), _, rfl,
    ?_, ?_⟩ <;> decide +kernel

theorem test_meets_AxisCommands_3 :
    ∃ (a : Fin 24) (prof : Fin 8) (s0 s : State),
      (s0.begin (.axis a) = s) ∧ (s.safe = false) ∧ ((s.sx a).mode = .idle ∨ (s.sx a).mode = .velocity ∨
        (s.sx a).mode = .move) ∧ ((s.sx a).aligned = true) ∧ (axisProfileValid (s.syncProfile a prof) = true) ∧
        (s.axis.axes.length = 24) := by
  refine ⟨0, 0, opened ({ (State.reset.wrN (Reg.AXIS_AX_TARGET_LO 0) 7) with
    axis := { State.reset.axis with
    axes := [{ SyncAxis.init with mode := .idle, aligned := true }] ++ List.replicate 23 SyncAxis.init }, sram :=
    goodSync }), _, rfl, ?_, ?_, ?_, ?_, ?_⟩ <;> decide +kernel

theorem test_meets_AxisCommands_4 :
    ∃ (a : Fin 24) (prof : Fin 8) (s0 s : State),
      (s0.begin (.axis a) = s) ∧ (s.safe = false) ∧ ((s.sx a).mode = .idle ∨ (s.sx a).mode = .velocity ∨
        (s.sx a).mode = .move) ∧ ((s.sx a).aligned = false) := by
  refine ⟨0, 0, opened ({ State.reset with
    axis := { State.reset.axis with
    axes := [{ SyncAxis.init with mode := .idle }] ++ List.replicate 23 SyncAxis.init } }), _, rfl, ?_, ?_,
    ?_⟩ <;> decide +kernel

theorem test_meets_AxisCommands_5 :
    ∃ (a : Fin 24) (prof : Fin 8) (s0 s : State),
      (s0.begin (.axis a) = s) ∧ (s.safe = false) ∧ ((s.sx a).mode = .idle ∨ (s.sx a).mode = .velocity ∨
        (s.sx a).mode = .move) ∧ ((s.sx a).aligned = true) ∧ (axisProfileValid (s.syncProfile a prof) = true) ∧
        ((s.axisAsked a).natAbs ≤ pf (s.syncProfile a prof) 1) ∧ (s.axis.axes.length = 24) := by
  refine ⟨0, 0, opened ({ (State.reset.wrN (Reg.AXIS_AX_TARGET_LO 0) 1) with
    axis := { State.reset.axis with
    axes := [{ SyncAxis.init with mode := .idle, aligned := true }] ++ List.replicate 23 SyncAxis.init }, sram :=
    goodSync }), _, rfl, ?_, ?_, ?_, ?_, ?_, ?_⟩ <;> decide +kernel

theorem test_meets_AxisCommands_6 :
    ∃ (a : Fin 24) (s0 s : State),
      (s0.begin (.axis a) = s) ∧ (s.safe = false) ∧ ((s.sx a).mode = .velocity ∨ (s.sx a).mode = .move ∨
        (s.sx a).mode = .start) ∧ (s.axis.axes.length = 24) := by
  refine ⟨0, opened ({ State.reset with
    axis := { State.reset.axis with
    axes := [{ SyncAxis.init with mode := .move }] ++ List.replicate 23 SyncAxis.init } }), _, rfl, ?_, ?_,
    ?_⟩ <;> decide +kernel

theorem test_meets_AxisCommands_7 :
    ∃ (a : Fin 24) (s0 s : State),
      (s0.begin (.axis a) = s) ∧ (s.safe = false) ∧ ((s.sx a).mode = .idle) ∧ (s.axis.axes.length = 24) := by
  refine ⟨0, opened ({ ((State.reset.wrN (Reg.AXIS_AX_TARGET_LO 0) 7).wrN (Reg.AXIS_AX_CFG 0) 0x30) with
    axis := { State.reset.axis with
    axes := [{ SyncAxis.init with mode := .idle }] ++ List.replicate 23 SyncAxis.init } }), _, rfl, ?_, ?_,
    ?_⟩ <;> decide +kernel

theorem test_meets_AxisCommands_8 :
    ∃ (a : Fin 24) (s0 s : State),
      (s0.begin (.axis a) = s) ∧ (s.safe = false) ∧ ((s.sx a).mode = .fault) ∧ ((s.sx a).still = true) ∧
        (s.fld (Reg.AXIS_AX_FAULT a) 4 0 = 0x07) ∧ (s.axis.axes.length = 24) := by
  refine ⟨0, opened ({ (State.reset.wrN (Reg.AXIS_AX_FAULT 0) 7) with
    axis := { State.reset.axis with
    axes := [{ SyncAxis.init with mode := .fault }] ++ List.replicate 23 SyncAxis.init } }), _, rfl, ?_, ?_, ?_, ?_,
    ?_⟩ <;> decide +kernel

theorem test_meets_AxisCommands_9 :
    ∃ (a : Fin 24) (s0 s : State),
      (s0.begin (.axis a) = s) ∧ (s.safe = false) ∧ ((s.sx a).mode = .fault) ∧ ((s.sx a).still = true) ∧
        (s.fld (Reg.AXIS_AX_FAULT a) 4 0 ≠ 0x07) ∧ (s.axis.axes.length = 24) := by
  refine ⟨0, opened ({ (State.reset.wrN (Reg.AXIS_AX_FAULT 0) 13) with
    axis := { State.reset.axis with
    axes := [{ SyncAxis.init with mode := .fault }] ++ List.replicate 23 SyncAxis.init } }), _, rfl, ?_, ?_, ?_, ?_,
    ?_⟩ <;> decide +kernel

theorem test_meets_AxisCommands_10 :
    ∃ (a : Fin 24) (s0 s : State),
      (s0.begin (.axis a) = s) ∧ (s.safe = false) ∧ ((s.sx a).mode ≠ .idle) ∧ ((s.sx a).mode ≠ .ledger) := by
  refine ⟨0, opened ({ State.reset with
    axis := { State.reset.axis with
    axes := [{ SyncAxis.init with mode := .move }] ++ List.replicate 23 SyncAxis.init } }), _, rfl, ?_, ?_,
    ?_⟩ <;> decide +kernel

theorem test_meets_AxisReturnsAndTimeouts_1 :
    ∃ (k : Fin 4) (bs : List Byte) (f : AxisFrame) (s : State),
      (readAxisFrame bs = f) ∧ (f.crcOk = true) ∧ (s.axisLink k = 2) ∧ (s.axisTickOk f.tick = true) ∧
        (s.pageHas 0x0A 1 k = true) ∧ (s.decideOpen = false) ∧ (s.axis.links.length = 4) := by
  refine ⟨1, hubBytes 2 1, readAxisFrame (hubBytes 2 1),
    { ((State.reset.wrN (Reg.AXIS_LINK_STATE 1) 2).wrN Reg.ALM_STATUS 0) with
    alm := { State.reset.alm with active := some 0, bank0 := pageWith 0 0x0A 1 1 }, tick := 4 }, ?_, ?_, ?_, ?_, ?_,
    ?_, ?_⟩ <;> decide +kernel

theorem test_meets_AxisReturnsAndTimeouts_2 :
    ∃ (k : Fin 4) (bs : List Byte) (s : State),
      ((readAxisFrame bs).crcOk = false) ∧ (s.axisLink k = 2) ∧ (s.pageHas 0x0A 1 k = true) ∧
        (s.decideOpen = false) := by
  refine ⟨1, [], { ((State.reset.wrN (Reg.AXIS_LINK_STATE 1) 2).wrN Reg.ALM_STATUS 0) with
    alm := { State.reset.alm with active := some 0, bank0 := pageWith 0 0x0A 1 1 }, tick := 4 }, ?_, ?_, ?_,
    ?_⟩ <;> decide +kernel

theorem test_meets_AxisReturnsAndTimeouts_3 :
    ∃ (k : Fin 4) (bs : List Byte) (f : AxisFrame) (s : State),
      (readAxisFrame bs = f) ∧ (s.axisLink k = 2) ∧ (s.axisTickOk f.tick = true ∨ f.crcOk = false) ∧
        (s.pageHas 0x0A 1 k = false ∨ s.decideOpen = true) := by
  refine ⟨1, hubBytes 2 1, readAxisFrame (hubBytes 2 1),
    { ((State.reset.wrN (Reg.AXIS_LINK_STATE 1) 2).wrN Reg.ALM_STATUS 0) with tick := 4 }, ?_, ?_, ?_,
    ?_⟩ <;> decide +kernel

theorem test_meets_AxisReturnsAndTimeouts_4 :
    ∃ (k : Fin 4) (bs : List Byte) (f : AxisFrame) (s : State),
      (readAxisFrame bs = f) ∧ (f.crcOk = true) ∧ (s.axisLink k = 2) ∧ (s.axisTickOk f.tick = false) := by
  refine ⟨1, hubBytes 7 1, readAxisFrame (hubBytes 7 1), { (State.reset.wrN (Reg.AXIS_LINK_STATE 1) 2) with
    tick := 4 }, ?_, ?_, ?_, ?_⟩ <;> decide +kernel

theorem test_meets_AxisReturnsAndTimeouts_5 :
    ∃ (a : Fin 24) (s0 s : State),
      (s0.begin .decide = s) ∧ ((s.sx a).mode = .catching) ∧ ((s.sx a).aligned = false) ∧
        ((s.sx a).since + s.axCatchTmo a ≤ s.tick) ∧ (s.axis.axes.length = 24) := by
  refine ⟨0, opened ({ (State.reset.wrN (Reg.AXIS_AX_CATCH_CFG 0) 0x20000) with
    axis := { State.reset.axis with
    axes := [{ SyncAxis.init with mode := .catching, since := 1 }] ++ List.replicate 23 SyncAxis.init }, tick := 3 }),
    opened ({ (State.reset.wrN (Reg.AXIS_AX_CATCH_CFG 0) 0x20000) with
    axis := { State.reset.axis with
    axes := [{ SyncAxis.init with mode := .catching, since := 1 }] ++ List.replicate 23 SyncAxis.init }, tick := 3 }),
    State.openDecide_open (decide_eq_true rfl), ?_, ?_, ?_, ?_⟩ <;> decide +kernel

theorem test_meets_AxisReturnsAndTimeouts_6 :
    ∃ (a : Fin 24) (s0 s : State),
      (s0.begin .decide = s) ∧ ((s.sx a).mode = .spindown) ∧
        ((s.sx a).since + s.fld (Reg.AXIS_AX_START_WAIT a) 15 0 ≤ s.tick) ∧ (s.axis.axes.length = 24) := by
  refine ⟨0, opened ({ (State.reset.wrN (Reg.AXIS_AX_START_WAIT 0) 2) with
    axis := { State.reset.axis with
    axes := [{ SyncAxis.init with mode := .spindown, since := 1 }] ++ List.replicate 23 SyncAxis.init }, tick := 3 }),
    opened ({ (State.reset.wrN (Reg.AXIS_AX_START_WAIT 0) 2) with
    axis := { State.reset.axis with
    axes := [{ SyncAxis.init with mode := .spindown, since := 1 }] ++ List.replicate 23 SyncAxis.init }, tick := 3 }),
    State.openDecide_open (decide_eq_true rfl), ?_, ?_, ?_⟩ <;> decide +kernel

theorem test_meets_AxisReturnsAndTimeouts_7 :
    ∃ (a : Fin 24) (s0 s : State),
      (s0.begin .decide = s) ∧ ((s.sx a).observed = true) ∧ ((s.sx a).mode ≠ .start) ∧ ((s.sx a).mode ≠ .fault) ∧
        (s.axObsTicks a ≤ (s.sx a).lowRun) ∧ (s.axis.axes.length = 24) := by
  refine ⟨0, opened ({ (State.reset.wrN (Reg.AXIS_AX_OBS_CFG 0) 0x200) with
    axis := { State.reset.axis with
    axes := [{ SyncAxis.init with mode := .velocity, bridges := true, lowRun := 2 }]
    ++ List.replicate 23 SyncAxis.init } }), opened ({ (State.reset.wrN (Reg.AXIS_AX_OBS_CFG 0) 0x200) with
    axis := { State.reset.axis with
    axes := [{ SyncAxis.init with mode := .velocity, bridges := true, lowRun := 2 }]
    ++ List.replicate 23 SyncAxis.init } }), State.openDecide_open (decide_eq_true rfl), ?_, ?_, ?_, ?_,
    ?_⟩ <;> decide +kernel

theorem test_meets_AxisReturnsAndTimeouts_8 :
    ∃ (a : Fin 24) (f : FacetPeriod) (s : State),
      (s.axis.periods.find? (fun f => s.polyGives a f.station && s.gathers (f.time / 320000)) = some f) ∧
        ((s.sx a).mode ≠ .recover) ∧ (f.index0 = false) ∧ (s.axis.axes.length = 24) := by
  refine ⟨0, ⟨0, 20000000, false, 0⟩, { (State.reset.wrN (Reg.AXIS_AX_POLY_CFG 0) 0x48000) with
    axis := { State.reset.axis with
    axes := [{ SyncAxis.init with mode := .velocity }] ++ List.replicate 23 SyncAxis.init, periods := [⟨0, 20000000,
    false, 0⟩] }, tick := 3 }, ?_, ?_, ?_, ?_⟩ <;> decide +kernel

theorem test_meets_AxisReturnsAndTimeouts_9 :
    ∃ (a : Fin 24) (s0 s : State),
      (s0.begin .decide = s) ∧ ((s.sx a).mode = .recover) ∧ ((s.sx a).since + s.axCatchTmo a ≤ s.tick) ∧
        (s.axis.axes.length = 24) := by
  refine ⟨0, opened ({ (State.reset.wrN (Reg.AXIS_AX_CATCH_CFG 0) 0x20000) with
    axis := { State.reset.axis with
    axes := [{ SyncAxis.init with mode := .recover, since := 1 }] ++ List.replicate 23 SyncAxis.init }, tick := 3 }),
    opened ({ (State.reset.wrN (Reg.AXIS_AX_CATCH_CFG 0) 0x20000) with
    axis := { State.reset.axis with
    axes := [{ SyncAxis.init with mode := .recover, since := 1 }] ++ List.replicate 23 SyncAxis.init }, tick := 3 }),
    State.openDecide_open (decide_eq_true rfl), ?_, ?_, ?_⟩ <;> decide +kernel

theorem test_meets_LoopCommandsAndReturns_1 :
    ∃ (l : Fin 64) (s0 s : State),
      (s0.begin (.loop l) = s) ∧ (s.safe = false) ∧ (s.loopMode l = 0) ∧ (s.hvLink (s.loopLink l) = 2) ∧
        (s.holding = false) ∧ (s.loopIncomplete l = false) ∧ (s.loopConflict l = false) ∧
        (s.loop.loops.length = 64) := by
  refine ⟨0, opened ({ (((State.reset.wrN (Reg.LOOP_LINK_STATE 0) 0x202).wrN Reg.ALM_STATUS 0).wrN (Reg.LOOP_LP_BAND 0) 0x10001) with tick := 9 }), _, rfl, ?_, ?_, ?_, ?_, ?_, ?_, ?_⟩ <;> decide +kernel

theorem test_meets_LoopCommandsAndReturns_2 :
    ∃ (l : Fin 64) (s0 s : State),
      (s0.begin (.loop l) = s) ∧ (s.loop.loops.length = 64) := by
  refine ⟨0, opened ({ (State.reset.wrN (Reg.LOOP_LP_STATE 0) 5) with tick := 9 }), _, rfl, ?_⟩
  decide +kernel

theorem test_meets_LoopCommandsAndReturns_3 :
    ∃ (l : Fin 64) (s0 s : State),
      (s0.begin (.loop l) = s) ∧ (s.safe = false) ∧ (s.loopMode l = 2) := by
  refine ⟨0, opened (State.reset.wrN (Reg.LOOP_LP_STATE 0) 2), _, rfl, ?_, ?_⟩ <;> decide +kernel

theorem test_meets_LoopCommandsAndReturns_4 :
    ∃ (l : Fin 64) (s0 s : State),
      (s0.begin (.loop l) = s) ∧ (s.safe = false) ∧ (s.loopMode l ≠ 2) := by
  refine ⟨0, opened (State.reset.wrN (Reg.LOOP_LP_STATE 0) 1), _, rfl, ?_, ?_⟩ <;> decide +kernel

theorem test_meets_LoopCommandsAndReturns_5 :
    ∃ (l : Fin 64) (s0 s : State),
      (s0.begin (.loop l) = s) ∧ (s.safe = false) ∧ (s.loopRuns l = false) := by
  refine ⟨0, opened (State.reset.wrN (Reg.LOOP_LP_BINS 0) 4), _, rfl, ?_, ?_⟩ <;> decide +kernel

theorem test_meets_LoopCommandsAndReturns_6 :
    ∃ (l : Fin 64) (s0 s : State),
      (s0.begin (.loop l) = s) ∧ (s.safe = false) ∧ (s.loopRuns l = true) := by
  refine ⟨0, opened (State.reset.wrN (Reg.LOOP_LP_STATE 0) 1), _, rfl, ?_, ?_⟩ <;> decide +kernel

theorem test_meets_LoopCommandsAndReturns_7 :
    ∃ (k : Fin 2) (bs : List Byte) (f : HvFrame) (s : State),
      (readHvFrame bs = f) ∧ (f.crcOk = true) ∧ (s.hvLink k = 2) ∧ (s.pageHas 0x0B 1 k = true) ∧
        (s.decideOpen = false) ∧ (s.loop.links.length = 2) := by
  refine ⟨1, hvBytes, readHvFrame hvBytes, { ((State.reset.wrN (Reg.LOOP_LINK_STATE 1) 2).wrN Reg.ALM_STATUS 0) with
    alm := { State.reset.alm with active := some 0, bank0 := pageWith 0 0x0B 1 1 }, tick := 4 }, ?_, ?_, ?_, ?_, ?_,
    ?_⟩ <;> decide +kernel

theorem test_meets_LoopCommandsAndReturns_8 :
    ∃ (k : Fin 2) (bs : List Byte) (s : State),
      ((readHvFrame bs).crcOk = false) ∧ (s.hvLink k = 2) ∧ (s.pageHas 0x0B 1 k = true) ∧ (s.decideOpen = false) := by
  refine ⟨1, [], { ((State.reset.wrN (Reg.LOOP_LINK_STATE 1) 2).wrN Reg.ALM_STATUS 0) with
    alm := { State.reset.alm with active := some 0, bank0 := pageWith 0 0x0B 1 1 }, tick := 4 }, ?_, ?_, ?_,
    ?_⟩ <;> decide +kernel

theorem test_meets_LoopCommandsAndReturns_9 :
    ∃ (k : Fin 2) (bs : List Byte) (f : HvFrame) (s : State),
      (readHvFrame bs = f) ∧ ((s.hvLink k = 2 ∧ (s.pageHas 0x0B 1 k = false ∨ s.decideOpen = true)) ∨
        (s.hvLink k = 1 ∧ f.crcOk = true)) := by
  refine ⟨1, hvBytes, readHvFrame hvBytes, ((State.reset.wrN (Reg.LOOP_LINK_STATE 1) 2).wrN Reg.ALM_STATUS 0), ?_,
    ?_⟩ <;> decide +kernel

theorem test_meets_CanopyQueues_1 :
    ∃ (q : Fin 4096) (cs : List CellIn) (ptr : Fin 4) (s : State),
      ((s.cq q).enabled = false) := by
  refine ⟨5, [], 0, State.reset, ?_⟩
  decide +kernel

theorem test_meets_CanopyQueues_2 :
    ∃ (q : Fin 4096) (c : CellIn) (s : State),
      ((s.cq q).enabled = true) ∧ ((s.cq q).classT = false) ∧ (s.scrubbing q = false) ∧ (s.grants q 1 = true) ∧
        ((s.cq q).written = 0) ∧ (c.sop = true) ∧ (badKind c = false) ∧ (c.abort = false) := by
  refine ⟨5, cellOf 1 true false, { State.reset with
    cnpy := { State.reset.cnpy with
    queues := [(5, { CanopyQ.init with cfg0 := 1, cfg1 := 1, cfg2 := 64, cells := [] })] }, tick := 4 }, ?_, ?_, ?_,
    ?_, ?_, ?_, ?_, ?_⟩ <;> decide +kernel

theorem test_meets_CanopyQueues_3 :
    ∃ (q : Fin 4096) (cs : List CellIn) (s : State),
      ((s.cq q).enabled = true) ∧ ((s.cq q).classT = true) ∧ (packetsOf [] cs = [cs]) ∧
        ((cs.head?).any badKind = false) ∧ (s.scrubbing q = false) ∧ (s.held q + cs.length ≤ (s.cq q).quota) ∧
        (s.grants q cs.length = true) := by
  refine ⟨5, [cellOf 1 true false, cellOf 1 false true], { State.reset with
    cnpy := { State.reset.cnpy with
    queues := [(5, { CanopyQ.init with cfg0 := 3, cfg1 := 2, cfg2 := 64, cells := [] })] }, tick := 4 }, ?_, ?_, ?_,
    ?_, ?_, ?_, ?_⟩ <;> decide +kernel

theorem test_meets_CanopyQueues_4 :
    ∃ (q : Fin 4096) (cs : List CellIn) (s : State),
      ((s.cq q).enabled = true) ∧ ((s.cq q).classT = true) ∧ ((s.cq q).dropOld = false) ∧ (packetsOf [] cs = [cs]) ∧
        ((cs.head?).any badKind = false) ∧ ((s.cq q).quota < s.held q + cs.length) := by
  refine ⟨5, [cellOf 1 true false, cellOf 1 false true], { State.reset with
    cnpy := { State.reset.cnpy with
    queues := [(5, { CanopyQ.init with cfg0 := 3, cfg1 := 0, cfg2 := 1, cells := [] })] }, tick := 4 }, ?_, ?_, ?_,
    ?_, ?_, ?_⟩ <;> decide +kernel

theorem test_meets_CanopyQueues_5 :
    ∃ (q : Fin 4096) (cs : List CellIn) (ptr : Fin 4) (s : State),
      ((s.cq q).enabled = true) ∧ ((s.cq q).classT = false) ∧ (s.scrubbing q = false) ∧ (ptr ≠ 0) := by
  refine ⟨5, [], 2, { State.reset with
    cnpy := { State.reset.cnpy with
    queues := [(5, { CanopyQ.init with cfg0 := 1, cfg1 := 0, cfg2 := 64, cells := [] })] }, tick := 4 }, ?_, ?_, ?_,
    ?_⟩ <;> decide +kernel

theorem test_meets_CanopyQueues_6 :
    ∃ (q : Fin 4096) (s0 s : State),
      (s0.begin .decide = s) ∧ ((s.cq q).enabled = true) ∧ ((s.cq q).classT = true) ∧ (s.scrubbing q = false) ∧
        (s.linkedCells (s.cq q) ≠ []) ∧ ((s.cq q).t0 + (s.cq q).tmo ≤ s.tick) ∧ (s.pageHas 0x0C 2 0 = true) := by
  refine ⟨5, opened cnpyDue, opened cnpyDue, State.openDecide_open (decide_eq_true rfl), ?_, ?_, ?_, ?_, ?_,
    ?_⟩ <;> decide +kernel

theorem test_meets_CanopyQueues_7 :
    ∃ (q : Fin 4096) (s0 s : State),
      (s0.begin .decide = s) ∧ (s.pageHas 0x0C 2 0 = false) := by
  refine ⟨5, opened cnpyOff, opened cnpyOff, State.openDecide_open (decide_eq_true rfl), ?_⟩
  decide +kernel

theorem test_meets_CanopyQueues_8 :
    ∃ (x : Scrub) (xs : List Scrub) (s : State),
      (s.cnpy.scrubs = x :: xs) ∧ (x.ended = false) := by
  refine ⟨⟨5, 1, 3, false⟩, [], { State.reset with
    cnpy := { State.reset.cnpy with
    scrubs := [⟨5, 1, 3, false⟩], queues := [(5, { CanopyQ.init with
    cfg0 := 1, cfg1 := 0, cfg2 := 64, cells := [⟨cellOf 1 true true, 2⟩] })] }, tick := 4 }, ?_,
    ?_⟩ <;> decide +kernel

theorem test_meets_CanopyQueues_9 :
    ∃ (s : State),
      (s.cnpy.scrubs = []) := by
  refine ⟨State.reset, ?_⟩
  decide +kernel

theorem test_meets_CanopyQueues_10 :
    ∃ (w : Writer) (s0 s : State),
      (s0.begin .decide = s) ∧ (s.queueWriteResult w s.qsel (s.qcfg (s.cq s.qsel)) = 1) := by
  refine ⟨.mgmt, opened cnpyNew, opened cnpyNew, State.openDecide_open (decide_eq_true rfl), ?_⟩
  decide +kernel

theorem test_meets_CanopyQueues_11 :
    ∃ (s0 s : State),
      (s0.begin .decide = s) ∧ (s.locked = false) ∧ (s.qsel < 64) := by
  refine ⟨opened cnpyLow, opened cnpyLow, State.openDecide_open (decide_eq_true rfl), ?_, ?_⟩ <;> decide +kernel

theorem test_meets_CanopyQueues_12 :
    ∃ (w : Writer) (s0 s : State),
      (s0.begin .decide = s) ∧ (w = .mgmt) ∧ (s.scrubbing s.qsel = true) := by
  refine ⟨.mgmt, opened cnpyBad, opened cnpyBad, State.openDecide_open (decide_eq_true rfl), ?_,
    ?_⟩ <;> decide +kernel

theorem test_meets_CanopyQueues_13 :
    ∃ (s0 s : State),
      (s0.begin .decide = s) := by
  exact ⟨opened cnpyNew, opened cnpyNew, State.openDecide_open (decide_eq_true rfl)⟩

theorem test_meets_CanopyQueues_14 :
    ∃ (s0 s : State),
      (s0.begin .decide = s) ∧ ((s.cq s.qsel).enabled = true) ∧ (s.scrubbing s.qsel = false) := by
  refine ⟨opened cnpyFull, opened cnpyFull, State.openDecide_open (decide_eq_true rfl), ?_, ?_⟩ <;> decide +kernel

theorem test_meets_CanopyQueues_15 :
    ∃ (s0 s : State),
      (s0.begin .decide = s) ∧ ((s.cq s.qsel).enabled = false) := by
  refine ⟨opened State.reset, opened State.reset, State.openDecide_open (decide_eq_true rfl), ?_⟩
  decide +kernel

theorem test_meets_DmaChannelCommands_1 :
    ∃ (w : Writer) (c : Fin 64) (s0 s : State),
      (s0.begin .decide = s) ∧ (channelRefused w c = false) ∧ (s.dmaHalt = false) ∧ (s.chState c = 0 ∨
        s.chState c = 4 ∨ s.chState c = 5) ∧ (c ≠ 63) ∧ (s.dma.chans.length = 64) := by
  refine ⟨.host, 0, opened ((((State.reset.wrN (Reg.DMA_CH_STATE
    0) (5 + 9 * 65536)).wrN (Reg.DMA_CH_LOOP01 0) 3).wrN (Reg.DMA_CH_LOOP2 0) 3).wrN (Reg.DMA_CH_ADDR_LO 0) 64),
    opened ((((State.reset.wrN (Reg.DMA_CH_STATE 0) (5 + 9
    * 65536)).wrN (Reg.DMA_CH_LOOP01 0) 3).wrN (Reg.DMA_CH_LOOP2 0) 3).wrN (Reg.DMA_CH_ADDR_LO 0) 64),
    State.openDecide_open (decide_eq_true rfl), ?_, ?_, ?_, ?_, ?_⟩ <;> decide +kernel

theorem test_meets_DmaChannelCommands_2 :
    ∃ (w : Writer) (c : Fin 64) (s0 s : State),
      (s0.begin .decide = s) ∧ (channelRefused w c = false) ∧ (s.dmaHalt = true ∨ 1 ≤ s.chState c ∧ s.chState c ≤ 3 ∨
        s.chState c = 6) := by
  refine ⟨.host, 0, opened (State.reset.wrN (Reg.DMA_CH_STATE 0) (2 + 0 * 65536)),
    opened (State.reset.wrN (Reg.DMA_CH_STATE 0) (2 + 0 * 65536)), State.openDecide_open (decide_eq_true rfl), ?_,
    ?_⟩ <;> decide +kernel

theorem test_meets_DmaChannelCommands_3 :
    ∃ (w : Writer) (c : Fin 64) (s0 s : State),
      (s0.begin .decide = s) ∧ (channelRefused w c = true) := by
  refine ⟨.host, 56, opened (State.reset.wrN (Reg.DMA_CH_STATE 0) (2 + 0 * 65536)),
    opened (State.reset.wrN (Reg.DMA_CH_STATE 0) (2 + 0 * 65536)), State.openDecide_open (decide_eq_true rfl), ?_⟩
  decide +kernel

theorem test_meets_DmaChannelCommands_4 :
    ∃ (w : Writer) (c : Fin 64) (s0 s : State),
      (s0.begin .decide = s) ∧ (channelRefused w c = false) ∧ (1 ≤ s.chState c ∧ s.chState c ≤ 3 ∨ s.chState c = 6) ∧
        (s.dma.chans.length = 64) := by
  refine ⟨.host, 0, opened (State.reset.wrN (Reg.DMA_CH_STATE 0) (2 + 0 * 65536)),
    opened (State.reset.wrN (Reg.DMA_CH_STATE 0) (2 + 0 * 65536)), State.openDecide_open (decide_eq_true rfl), ?_, ?_,
    ?_⟩ <;> decide +kernel

theorem test_meets_DmaChannelCommands_5 :
    ∃ (w : Writer) (c : Fin 64) (s0 s : State),
      (s0.begin .decide = s) ∧ (channelRefused w c = false) ∧ (s.chState c = 0 ∨ s.chState c = 4 ∨ s.chState c = 5) :=
        by
  refine ⟨.mgmt, 63, opened (State.reset.wrN (Reg.DMA_CH_STATE 0) (2 + 0 * 65536)),
    opened (State.reset.wrN (Reg.DMA_CH_STATE 0) (2 + 0 * 65536)), State.openDecide_open (decide_eq_true rfl), ?_,
    ?_⟩ <;> decide +kernel

theorem test_meets_DmaChannelCommands_6 :
    ∃ (w : Writer) (c : Fin 64) (s0 s : State),
      (s0.begin .decide = s) ∧ (channelRefused w c = true) := by
  refine ⟨.host, 56, opened (State.reset.wrN (Reg.DMA_CH_STATE 0) (2 + 0 * 65536)),
    opened (State.reset.wrN (Reg.DMA_CH_STATE 0) (2 + 0 * 65536)), State.openDecide_open (decide_eq_true rfl), ?_⟩
  decide +kernel

theorem test_meets_DmaChannelCommands_7 :
    ∃ (c : Fin 64) (s : State),
      ((s.dch c).aborting = true) ∧ (s.dma.chans.length = 64) := by
  refine ⟨0, { (State.reset.wrN (Reg.DMA_CH_STATE 0) (2 + 0 * 65536)) with
    dma := { State.reset.dma with chans := { DmaChan.init with aborting := true } :: List.replicate 63 DmaChan.init }
    }, ?_, ?_⟩ <;> decide +kernel

theorem test_meets_DmaChannelCommands_8 :
    ∃ (c : Fin 64) (s : State),
      ((s.dch c).aborting = false) := by
  refine ⟨0, State.reset, ?_⟩
  decide +kernel

theorem test_meets_DmaChannelCommands_9 :
    ∃ (w : Writer) (c : Fin 64) (s0 s : State),
      (s0.begin .decide = s) ∧ (channelRefused w c = false) ∧ (s.chState c = 6) ∧ (s.dmaHalt = false) ∧
        ((s.dch c).aborting = false) ∧ ((s.dch c).was = 1) := by
  refine ⟨.host, 0, opened ({ (State.reset.wrN (Reg.DMA_CH_STATE 0) (6 + 0 * 65536)) with
    dma := { State.reset.dma with chans := { DmaChan.init with was := 1 } :: List.replicate 63 DmaChan.init } }),
    opened ({ (State.reset.wrN (Reg.DMA_CH_STATE 0) (6 + 0 * 65536)) with
    dma := { State.reset.dma with chans := { DmaChan.init with was := 1 } :: List.replicate 63 DmaChan.init } }),
    State.openDecide_open (decide_eq_true rfl), ?_, ?_, ?_, ?_, ?_⟩ <;> decide +kernel

theorem test_meets_DmaChannelCommands_10 :
    ∃ (w : Writer) (c : Fin 64) (s0 s : State),
      (s0.begin .decide = s) ∧ (channelRefused w c = false) ∧ (s.chState c = 6) ∧ (s.dmaHalt = false) ∧
        ((s.dch c).aborting = false) ∧ ((s.dch c).was ≠ 1) ∧ ((s.dch c).list = true) := by
  refine ⟨.host, 0, opened ({ (State.reset.wrN (Reg.DMA_CH_STATE 0) (6 + 0 * 65536)) with
    dma := { State.reset.dma with
    chans := { DmaChan.init with was := 2, list := true } :: List.replicate 63 DmaChan.init } }),
    opened ({ (State.reset.wrN (Reg.DMA_CH_STATE 0) (6 + 0 * 65536)) with
    dma := { State.reset.dma with
    chans := { DmaChan.init with was := 2, list := true } :: List.replicate 63 DmaChan.init } }),
    State.openDecide_open (decide_eq_true rfl), ?_, ?_, ?_, ?_, ?_, ?_⟩ <;> decide +kernel

theorem test_meets_DmaChannelCommands_11 :
    ∃ (w : Writer) (c : Fin 64) (s0 s : State),
      (s0.begin .decide = s) ∧ (channelRefused w c = false) ∧ (s.chState c ≠ 6 ∨ s.dmaHalt = true) := by
  refine ⟨.host, 0, opened ((State.reset.wrN (Reg.DMA_CH_STATE 0) (6 + 0 * 65536)).wrN Reg.DMA_STATUS 1),
    opened ((State.reset.wrN (Reg.DMA_CH_STATE 0) (6 + 0 * 65536)).wrN Reg.DMA_STATUS 1),
    State.openDecide_open (decide_eq_true rfl), ?_, ?_⟩ <;> decide +kernel

theorem test_meets_DmaChannelCommands_12 :
    ∃ (w : Writer) (c : Fin 64) (s0 s : State),
      (s0.begin .decide = s) ∧ (channelRefused w c = true) := by
  refine ⟨.host, 56, opened (State.reset.wrN (Reg.DMA_CH_STATE 0) (2 + 0 * 65536)),
    opened (State.reset.wrN (Reg.DMA_CH_STATE 0) (2 + 0 * 65536)), State.openDecide_open (decide_eq_true rfl), ?_⟩
  decide +kernel

theorem test_meets_DmaChannelCommands_13 :
    ∃ (cause : Fin 8) (addr : DWord) (write : Bool) (s : State),
      (s.dma.chans.length = 64) := by
  refine ⟨4, 0x100000005, true, (State.reset.wrN (Reg.DMA_CH_STATE 0) (2 + 7 * 65536)), ?_⟩
  decide +kernel

theorem test_meets_DmaChannelCommands_14 :
    ∃ (s : State),
      (s.dmaHalt = true) := by
  refine ⟨{ ((State.reset.wrN (Reg.DMA_CH_STATE 0) (6 + 0 * 65536)).wrN Reg.DMA_STATUS 1) with tick := 9 }, ?_⟩
  decide +kernel

theorem test_meets_DmaChannelCommands_15 :
    ∃ (s : State),
      (s.dmaHalt = false) := by
  refine ⟨State.reset, ?_⟩
  decide +kernel

theorem test_meets_DmaPrograms_1 :
    ∃ (c : Fin 64) (host b : List Byte) (s : State),
      (s.chState c = 1) ∧ ((s.dch c).aborting = false) ∧ (spaceOf (s.chAddr c) = 2) ∧
        (fetchProgram (s.programBytes c host) 256 = [b]) ∧ (programCode [b] = none) := by
  refine ⟨0, [], insn 7 0 0 0 0 0 0,
    { (((State.reset.wrN (Reg.DMA_CH_STATE 0) (1 + 5 * 65536)).wrN (Reg.DMA_CH_ADDR_HI 0) 0x2000000).wrN (Reg.DMA_CH_ADDR_LO 0) 0x700000) with sram := memWrite [] 0x700000 (insn 7 0 0 0 0 0 0) }, ?_, ?_, ?_, ?_, ?_⟩ <;> decide +kernel

theorem test_meets_DmaPrograms_2 :
    ∃ (c : Fin 64) (host : List Byte) (code : Nat) (s : State),
      (s.chState c = 1) ∧ ((s.dch c).aborting = false) ∧ (spaceOf (s.chAddr c) = 2) ∧
        (programCode (fetchProgram (s.programBytes c host) 256) = some code) := by
  refine ⟨0, [], 1, { (((State.reset.wrN (Reg.DMA_CH_STATE 0) (1 + 5 * 65536)).wrN (Reg.DMA_CH_ADDR_HI 0) 0x2000000).wrN (Reg.DMA_CH_ADDR_LO 0) 0x700000) with sram := memWrite [] 0x700000 (insn 8 0 0 0 0 0 0 ++ insn 7 0 0 0 0 0 0) }, ?_, ?_, ?_, ?_⟩ <;> decide +kernel

theorem test_meets_DmaPrograms_3 :
    ∃ (c : Fin 64) (host hsrc hdst b : List Byte) (s : State),
      (s.chState c = 2) ∧ ((s.dch c).aborting = false) ∧ ((s.dch c).list = true) ∧ (spaceOf (s.dch c).at_ = 2) ∧
        ((s.dch c).at_ % 32 = 0) ∧ (offOf (s.dch c).at_ + 32 ≤ 0xA00000) ∧ (s.spaceRead (s.dch c).at_ 32 host = b) ∧
        (descOk b = true) ∧ ((descOp b).op = 5) ∧ (s.dataCheck (descOp b) = none) ∧ (spaceOf (descOp b).dst = 2) ∧
        (bitOf (leAt b 0x14 4) 4 = false) ∧ (bitOf (leAt b 0x14 4) 5 = true) := by
  refine ⟨0, [], [], [], fillDesc, { (State.reset.wrN (Reg.DMA_CH_STATE 0) (2 + 0 * 65536)) with
    sram := memWrite [] 0x700000 fillDesc, dma := { State.reset.dma with
    chans := { DmaChan.init with list := true, at_ := 0x200000000700000 } :: List.replicate 63 DmaChan.init } }, ?_,
    ?_, ?_, ?_, ?_, ?_, ?_, ?_, ?_, ?_, ?_, ?_, ?_⟩ <;> decide +kernel

theorem test_meets_DmaPrograms_4 :
    ∃ (c : Fin 64) (host hsrc hdst : List Byte) (s : State),
      (s.chState c = 2) ∧ ((s.dch c).aborting = false) ∧ ((s.dch c).list = true) ∧ (spaceOf (s.dch c).at_ = 2) ∧
        ((s.dch c).at_ % 32 = 0) ∧ (offOf (s.dch c).at_ + 32 ≤ 0xA00000) ∧
        (descOk (s.spaceRead (s.dch c).at_ 32 host) = false) := by
  refine ⟨0, [], [], [], { (State.reset.wrN (Reg.DMA_CH_STATE 0) (2 + 0 * 65536)) with
    dma := { State.reset.dma with
    chans := { DmaChan.init with list := true, at_ := 0x200000000700000 } :: List.replicate 63 DmaChan.init } }, ?_,
    ?_, ?_, ?_, ?_, ?_, ?_⟩ <;> decide +kernel

theorem test_meets_DmaPrograms_5 :
    ∃ (c : Fin 64) (hsrc hdst : List Byte) (d : DataOp) (s : State),
      (s.chState c = 2) ∧ ((s.dch c).aborting = false) ∧ ((s.dch c).list = false) ∧ (s.dataOp c = some d) ∧
        (d.op = 1) ∧ (s.dataCheck d = none) ∧ (spaceOf d.src = 2) ∧ (spaceOf d.dst = 2) ∧ (s.chPc c < 255) ∧
        (opOf (s.instr c (s.chPc c + 1)) = 7) := by
  refine ⟨0, [], [], moveOp, dmaMove, ?_⟩
  refine ⟨by decide +kernel, by decide +kernel, by decide +kernel, rfl, rfl, ?_, ?_, ?_, ?_, ?_⟩ <;> decide +kernel

theorem test_meets_DmaPrograms_6 :
    ∃ (c : Fin 64) (hsrc hdst : List Byte) (d : DataOp) (i : Nat) (s : State),
      (s.chState c = 2) ∧ ((s.dch c).aborting = false) ∧ ((s.dch c).list = false) ∧ (s.dataOp c = some d) ∧
        (d.op = 6) ∧ (s.dataCheck d = none) ∧ (spaceOf d.src = 2) ∧ (spaceOf d.dst = 2) ∧
        (firstDiff (memBytes s.sram (offOf d.src) d.len) (memBytes s.sram (offOf d.dst) d.len) 0 = some i) := by
  refine ⟨0, [], [], cmpOp, 0, dmaCmp, ?_⟩
  refine ⟨by decide +kernel, by decide +kernel, by decide +kernel, rfl, rfl, ?_, ?_, ?_, ?_⟩ <;> decide +kernel

theorem test_meets_DmaPrograms_7 :
    ∃ (c : Fin 64) (b : List Byte) (s0 s : State),
      (s0.begin .decide = s) ∧ (s.chState c = 3) ∧ ((s.dch c).aborting = false) ∧ (s.instr c (s.chPc c) = b) ∧
        (s.waitMet c b = true) ∧ (s.chPc c < 255) ∧ (opOf (s.instr c (s.chPc c + 1)) = 7) := by
  refine ⟨0, insn 3 0 2 0 0 1 0, opened
    ({ ((State.reset.wrN (Reg.DMA_CH_STATE 0) (3 + 0 * 65536)).wrN Reg.DMA_EVT_LO 6) with
    sram := withProgram [insn 3 0 2 0 0 1 0, insn 7 0 0 0 0 0 0] }),
    opened ({ ((State.reset.wrN (Reg.DMA_CH_STATE 0) (3 + 0 * 65536)).wrN Reg.DMA_EVT_LO 6) with
    sram := withProgram [insn 3 0 2 0 0 1 0, insn 7 0 0 0 0 0 0] }), State.openDecide_open (decide_eq_true rfl), ?_,
    ?_, ?_, ?_, ?_, ?_⟩ <;> decide +kernel

theorem test_meets_DmaPrograms_8 :
    ∃ (c : Fin 64) (s0 s : State),
      (s0.begin .decide = s) ∧ (s.chState c = 3) ∧ (s.waitMet c (s.instr c (s.chPc c)) = false) := by
  refine ⟨0, opened ({ (State.reset.wrN (Reg.DMA_CH_STATE 0) (3 + 0 * 65536)) with
    sram := withProgram [insn 3 0 2 0 0 1 0, insn 7 0 0 0 0 0 0] }),
    opened ({ (State.reset.wrN (Reg.DMA_CH_STATE 0) (3 + 0 * 65536)) with
    sram := withProgram [insn 3 0 2 0 0 1 0, insn 7 0 0 0 0 0 0] }), State.openDecide_open (decide_eq_true rfl), ?_,
    ?_⟩ <;> decide +kernel

theorem test_meets_DmaPrograms_9 :
    ∃ (c : Fin 64) (b : List Byte) (s0 s : State),
      (s0.begin .decide = s) ∧ (s.chState c = 3) ∧ ((s.dch c).aborting = false) ∧ (s.instr c (s.chPc c) = b) ∧
        (s.waitMet c b = false) ∧ (leAt b 4 4 ≠ 0) ∧ ((s.dch c).entry + leAt b 4 4 ≤ s.tick) ∧
        (bitOf (leAt b 1 1) 0 = false) := by
  refine ⟨0, insn 3 0 2 0 5 1 0, opened ({ (State.reset.wrN (Reg.DMA_CH_STATE 0) (3 + 0 * 65536)) with
    sram := withProgram [insn 3 0 2 0 5 1 0, insn 7 0 0 0 0 0 0], tick := 5 }),
    opened ({ (State.reset.wrN (Reg.DMA_CH_STATE 0) (3 + 0 * 65536)) with
    sram := withProgram [insn 3 0 2 0 5 1 0, insn 7 0 0 0 0 0 0], tick := 5 }),
    State.openDecide_open (decide_eq_true rfl), ?_, ?_, ?_, ?_, ?_, ?_, ?_⟩ <;> decide +kernel

theorem test_meets_DmaPrograms_10 :
    ∃ (c : Fin 64) (b : List Byte) (s0 s : State),
      (s0.begin .decide = s) ∧ (s.chState c = 3) ∧ ((s.dch c).aborting = false) ∧ (s.instr c (s.chPc c) = b) ∧
        (s.waitMet c b = false) ∧ (leAt b 4 4 ≠ 0) ∧ ((s.dch c).entry + leAt b 4 4 ≤ s.tick) ∧
        (bitOf (leAt b 1 1) 0 = true) ∧ (s.chPc c < 255) ∧ (opOf (s.instr c (s.chPc c + 1)) = 7) := by
  refine ⟨0, insn 3 1 2 0 5 1 0, opened ({ (State.reset.wrN (Reg.DMA_CH_STATE 0) (3 + 0 * 65536)) with
    sram := withProgram [insn 3 1 2 0 5 1 0, insn 7 0 0 0 0 0 0], tick := 5 }),
    opened ({ (State.reset.wrN (Reg.DMA_CH_STATE 0) (3 + 0 * 65536)) with
    sram := withProgram [insn 3 1 2 0 5 1 0, insn 7 0 0 0 0 0 0], tick := 5 }),
    State.openDecide_open (decide_eq_true rfl), ?_, ?_, ?_, ?_, ?_, ?_, ?_, ?_, ?_⟩ <;> decide +kernel

theorem test_meets_DmaPrograms_11 :
    ∃ (c : Fin 64) (s : State),
      (s.chState c = 2) ∧ ((s.dch c).aborting = false) ∧ ((s.dch c).list = false) ∧
        (opOf (s.instr c (s.chPc c)) = 7) ∧ (bitOf (leAt (s.instr c (s.chPc c)) 1 1) 0 = false) := by
  refine ⟨0, { (State.reset.wrN (Reg.DMA_CH_STATE 0) (2 + 0 * 65536)) with sram := withProgram [insn 7 0 0 0 0 0 0] },
    ?_, ?_, ?_, ?_, ?_⟩ <;> decide +kernel

theorem test_meets_FaultMessagesAndLatches_1 :
    ∃ (src : Fin 2048) (kind : Fin 32) (addr : Word) (s : State),
      (s.decideOpen = false) ∧ ((src : Nat) / 64 < 0x18) ∧ (tabFind s.gatherFaults.flt.latches src = none) := by
  refine ⟨70, 3, 5, fltCalm, ?_, ?_, ?_⟩ <;> decide +kernel

theorem test_meets_FaultMessagesAndLatches_2 :
    ∃ (src : Fin 2048) (kind : Fin 32) (addr : Word) (l : Latch) (s : State),
      (s.decideOpen = false) ∧ ((src : Nat) / 64 < 0x18) ∧ (tabFind s.gatherFaults.flt.latches src = some l) := by
  refine ⟨70, 3, 5, ⟨⟨70, 3, 1, 2⟩, 255⟩, fltHeld, ?_, ?_, ?_⟩ <;> decide +kernel

theorem test_meets_FaultMessagesAndLatches_3 :
    ∃ (src : Fin 2048) (kind : Fin 32) (addr : Word) (s : State),
      (s.decideOpen = true) ∧ ((src : Nat) / 64 < 0x18) := by
  refine ⟨70, 3, 5, opened fltCalm, ?_, ?_⟩ <;> decide +kernel

theorem test_meets_FaultMessagesAndLatches_4 :
    ∃ (src : Fin 2048) (kind : Fin 32) (addr : Word) (s : State),
      (0x18 ≤ (src : Nat) / 64) := by
  refine ⟨2047, 0, 0, State.reset, ?_⟩
  decide +kernel

theorem test_meets_FaultMessagesAndLatches_5 :
    ∃ (v : Word) (s : State),
      (s.decideOpen = false) ∧ (bitsOf v.toNat 10 0 / 64 < 0x18) ∧
        (tabFind s.gatherFaults.flt.latches (bitsOf v.toNat 10 0) = none) := by
  refine ⟨70, fltAddr, ?_, ?_, ?_⟩ <;> decide +kernel

theorem test_meets_FaultMessagesAndLatches_6 :
    ∃ (v : Word) (s : State),
      (0x18 ≤ bitsOf v.toNat 10 0 / 64) := by
  refine ⟨2047, State.reset, ?_⟩
  decide +kernel

theorem test_meets_FaultMessagesAndLatches_7 :
    ∃ (s : State),
      (s.fld Reg.FLT_ESC_LEAK 15 0 ≠ 0) ∧ (s.tick % s.fld Reg.FLT_ESC_LEAK 15 0 = 0) ∧ (s.flt.leaked ≠ s.tick + 1) :=
        by
  refine ⟨{ (((State.reset.wrN Reg.FLT_ESC_LEAK 5).wrN (Reg.FLT_ESC 511) 0xFF000100).wrN (Reg.FLT_ESC 0) 7) with
    tick := 10 }, ?_, ?_, ?_⟩ <;> decide +kernel

theorem test_meets_FaultMessagesAndLatches_8 :
    ∃ (s : State),
      (s.fld Reg.FLT_ESC_LEAK 15 0 = 0 ∨ s.tick % s.fld Reg.FLT_ESC_LEAK 15 0 ≠ 0 ∨ s.flt.leaked = s.tick + 1) := by
  refine ⟨{ (State.reset.wrN Reg.FLT_ESC_LEAK 5) with tick := 9 }, ?_⟩
  decide +kernel

theorem test_meets_FaultMessagesAndLatches_9 :
    ∃ (v : Word) (s0 s : State),
      (s0.begin .decide = s) ∧ (bitOf v.toNat 31 = false) := by
  refine ⟨2, opened fltCount, opened fltCount, State.openDecide_open (decide_eq_true rfl), ?_⟩
  decide +kernel

theorem test_meets_FaultMessagesAndLatches_10 :
    ∃ (v : Word) (s0 s : State),
      (s0.begin .decide = s) ∧ (bitOf v.toNat 31 = true) := by
  refine ⟨0x80000000, opened fltCount, opened fltCount, State.openDecide_open (decide_eq_true rfl), ?_⟩
  decide +kernel

theorem test_meets_SafeStateAndErrN_1 :
    ∃ (w : Writer) (s0 s : State),
      (s0.begin .decide = s) ∧ (s.safeNow = false) ∧ (s.flt.left = none) := by
  refine ⟨.host, opened fltWork, opened fltWork, State.openDecide_open (decide_eq_true rfl), ?_,
    ?_⟩ <;> decide +kernel

theorem test_meets_SafeStateAndErrN_2 :
    ∃ (w : Writer) (s0 s : State),
      (s0.begin .decide = s) ∧ (s.safeNow = true) ∧ (s.flt.left = none) := by
  refine ⟨.mgmt, opened fltSafe, opened fltSafe, State.openDecide_open (decide_eq_true rfl), ?_,
    ?_⟩ <;> decide +kernel

theorem test_meets_SafeStateAndErrN_3 :
    ∃ (s0 s : State),
      (s0.begin .decide = s) ∧ (s.safeNow = true) ∧ (s.flt.enteredAt ≠ s.tick + 1) ∧
        (s.rdN Reg.FLT_SAFE_CAUSE &&& 0x38 = 0) ∧ (s.allStill = true) := by
  refine ⟨opened fltSafe, opened fltSafe, State.openDecide_open (decide_eq_true rfl), ?_, ?_, ?_,
    ?_⟩ <;> decide +kernel

theorem test_meets_SafeStateAndErrN_4 :
    ∃ (s0 s : State),
      (s0.begin .decide = s) ∧ (s.safeNow = false) := by
  refine ⟨opened fltCalm, opened fltCalm, State.openDecide_open (decide_eq_true rfl), ?_⟩
  decide +kernel

theorem test_meets_SafeStateAndErrN_5 :
    ∃ (s0 s : State),
      (s0.begin .decide = s) ∧ (s.safeNow = true) ∧ (s.flt.enteredAt ≠ s.tick + 1) ∧
        (s.rdN Reg.FLT_SAFE_CAUSE &&& 0x38 ≠ 0) := by
  refine ⟨opened fltLock, opened fltLock, State.openDecide_open (decide_eq_true rfl), ?_, ?_, ?_⟩ <;> decide +kernel

theorem test_meets_SafeStateAndErrN_6 :
    ∃ (s0 s : State),
      (s0.begin .decide = s) ∧ (s.safeNow = true) ∧ (s.flt.enteredAt ≠ s.tick + 1) ∧
        (s.rdN Reg.FLT_SAFE_CAUSE &&& 0x38 = 0) ∧ (s.allStill = false) := by
  refine ⟨opened fltMoves, opened fltMoves, State.openDecide_open (decide_eq_true rfl), ?_, ?_, ?_,
    ?_⟩ <;> decide +kernel

theorem test_meets_SafeStateAndErrN_7 :
    ∃ (s0 s : State),
      (s0.begin .decide = s) ∧ (s.flt.errnAt ≠ s.tick + 1) := by
  refine ⟨opened fltErrn, opened fltErrn, State.openDecide_open (decide_eq_true rfl), ?_⟩
  decide +kernel

theorem test_meets_SafeStateAndErrN_8 :
    ∃ (s0 s : State),
      (s0.begin .decide = s) ∧ (s.flt.errnAt = s.tick + 1) := by
  refine ⟨opened fltLate, opened fltLate, State.openDecide_open (decide_eq_true rfl), ?_⟩
  decide +kernel

theorem test_meets_SafeStateAndErrN_10 :
    ∃ (w : ResetWait) (s0 s : State),
      (s0.begin .decide = s) ∧ (s.flt.resetWait = some w) ∧ (w.start < s.tick) ∧ (s.allStill = true) ∧
        (w.msg = none) := by
  refine ⟨⟨3, 2, 6, none⟩, opened ({ State.reset with
    flt := { State.reset.flt with resetWait := some ⟨3, 2, 6, none⟩ }, tick := 7 }), opened ({ State.reset with
    flt := { State.reset.flt with resetWait := some ⟨3, 2, 6, none⟩ }, tick := 7 }),
    State.openDecide_open (decide_eq_true rfl), ?_, ?_, ?_, ?_⟩ <;> decide +kernel

theorem test_meets_SafeStateAndErrN_11 :
    ∃ (w : ResetWait) (s0 s : State),
      (s0.begin .decide = s) ∧ (s.flt.resetWait = some w) ∧ (s.tick ≤ w.start ∨ s.allStill = false ∧
        s.tick < w.start + s.fld Reg.FLT_RESET_WAIT 23 0) := by
  refine ⟨⟨7, 2, 6, none⟩, opened ({ State.reset with
    flt := { State.reset.flt with resetWait := some ⟨7, 2, 6, none⟩ }, tick := 7 }), opened ({ State.reset with
    flt := { State.reset.flt with resetWait := some ⟨7, 2, 6, none⟩ }, tick := 7 }),
    State.openDecide_open (decide_eq_true rfl), ?_, ?_⟩ <;> decide +kernel

theorem test_meets_HeartwoodRecords_1 :
    ∃ (e : HwEvent) (s : State),
      (s.hwd.refilled = s.tick + 1) ∧ (s.hwd.submits = []) ∧ (s.dueEvents = [e]) ∧ (s.exempt e.code = false) ∧
        (s.tokens (bucketOf e.code) = 0) ∧ (s.hwd.lost = 0) := by
  refine ⟨⟨0x0101, 8, 0, [1]⟩, { (State.reset.wrN (Reg.HWD_RATE_STATE 33) 0) with
    hwd := { State.reset.hwd with refilled := 10, sent := [⟨0x0101, 8, 0, [1]⟩] }, tick := 9 }, ?_, ?_, ?_, ?_, ?_,
    ?_⟩ <;> decide +kernel

theorem test_meets_HeartwoodRecords_2 :
    ∃ (e : HwEvent) (s : State),
      (s.hwd.refilled = s.tick + 1) ∧ (s.hwd.submits = []) ∧ (s.dueEvents = [e]) ∧ (s.exempt e.code = false) ∧
        (s.tokens (bucketOf e.code) ≠ 0) ∧ (s.hwd.lost = 0) := by
  refine ⟨⟨0x0101, 8, 0, [1]⟩, { (State.reset.wrN (Reg.HWD_RATE_STATE 33) 0xFFFF0002) with
    hwd := { State.reset.hwd with refilled := 10, sent := [⟨0x0101, 8, 0, [1]⟩] }, tick := 9 }, ?_, ?_, ?_, ?_, ?_,
    ?_⟩ <;> decide +kernel

theorem test_meets_HeartwoodRecords_3 :
    ∃ (e : HwEvent) (s : State),
      (s.hwd.refilled = s.tick + 1) ∧ (s.hwd.submits = []) ∧ (s.dueEvents = [e]) ∧ (s.exempt e.code = true) ∧
        (s.hwd.staging.length = 256) := by
  refine ⟨⟨1, 8, 0, [1]⟩, { State.reset with
    hwd := { State.reset.hwd with refilled := 10, sent := [⟨1, 8, 0, [1]⟩], staging := List.replicate 256 (rec 0 0) },
    tick := 9 }, ?_, ?_, ?_, ?_, ?_⟩ <;> decide +kernel

theorem test_meets_HeartwoodRecords_4 :
    ∃ (r : Record) (rest : List Record) (s : State),
      (s.hwdReady = true) ∧ (s.hwd.staging = r :: rest) ∧ (s.hwd.lost = 0) := by
  refine ⟨rec 12289 0, [], { (State.reset.wrN Reg.HWD_STATUS 1) with
    hwd := { State.reset.hwd with staging := [rec 12289 0] } }, ?_, ?_, ?_⟩ <;> decide +kernel

theorem test_meets_HeartwoodRecords_5 :
    ∃ (r : Record) (rest : List Record) (s : State),
      (s.hwdReady = true) ∧ (s.hwd.staging = r :: rest) ∧ (s.hwd.retried = false) := by
  refine ⟨rec 3 0, [], { (State.reset.wrN Reg.HWD_STATUS 1) with
    hwd := { State.reset.hwd with staging := [rec 3 0] } }, ?_, ?_, ?_⟩ <;> decide +kernel

theorem test_meets_HeartwoodRecords_6 :
    ∃ (r : Record) (rest : List Record) (s : State),
      (s.hwdReady = true) ∧ (s.hwd.staging = r :: rest) ∧ (s.hwd.retried = true) := by
  refine ⟨rec 3 0, [], { (State.reset.wrN Reg.HWD_STATUS 1) with
    hwd := { State.reset.hwd with staging := [rec 3 0], retried := true } }, ?_, ?_, ?_⟩ <;> decide +kernel

theorem test_meets_HeartwoodRecords_7 :
    ∃ (c : Fin 1024) (s : State),
      (c ≠ 453) ∧ (tabGet 0 s.hwd.pendingSince c ≠ 0) ∧ (s.suppressed c ≠ 0) ∧
        (tabGet 0 s.hwd.pendingSince c - 1 + s.fld Reg.HWD_CFG 23 0 ≤ s.tick) := by
  refine ⟨33, { ((State.reset.wrN (Reg.HWD_RATE_STATE 33) 0x20000).wrN Reg.HWD_CFG 4) with
    hwd := { State.reset.hwd with pendingSince := [(33, 6)] }, tick := 9 }, ?_, ?_, ?_, ?_⟩ <;> decide +kernel

theorem test_meets_HeartwoodRecords_8 :
    ∃ (c : Fin 1024) (s : State),
      (s.suppressed c = 0) := by
  refine ⟨33, State.reset, ?_⟩
  decide +kernel

theorem test_meets_HeartwoodRecords_9 :
    ∃ (s : State),
      (s.hwdReady = false) ∧ (s.clk.up = true) := by
  refine ⟨{ State.reset with
    clk := { State.reset.clk with up := true }, hwd := { State.reset.hwd with
    mram := [(3, .holds (rec 3 0)), (4, .torn)] } }, ?_, ?_⟩ <;> decide +kernel

theorem test_meets_HeartwoodRecords_10 :
    ∃ (s : State),
      (s.hwdReady = true) := by
  refine ⟨(State.reset.wrN Reg.HWD_STATUS 1), ?_⟩
  decide +kernel

theorem test_meets_HeartwoodReadingAndClearing_1 :
    ∃ (u : State) (s : State),
      (s.hwdDecide = u) := by
  refine ⟨hwdSeen.hwdDecide, hwdSeen, ?_⟩
  rfl

theorem test_meets_HeartwoodReadingAndClearing_3 :
    ∃ (h : Nat) (r : Record) (s : State),
      (s.flag Reg.HWD_READ_STATUS 31 = true) ∧ (s.hwd.head = some h) ∧
        (serialBefore h (s.rdN Reg.HWD_READ_SEQ) = false) ∧ (s.slotAt (s.rdN Reg.HWD_READ_SEQ) = .holds r) ∧
        (r.epoch = s.hwd.epoch) ∧ (r.seq = s.rdN Reg.HWD_READ_SEQ) := by
  refine ⟨5, rec 3 0, { ((State.reset.wrN Reg.HWD_READ_STATUS 0x80000000).wrN Reg.HWD_READ_SEQ 3) with
    hwd := { State.reset.hwd with head := some 5, mram := [(3, .holds (rec 3 0))] } }, ?_, ?_, ?_, ?_, ?_,
    ?_⟩ <;> decide +kernel

theorem test_meets_HeartwoodReadingAndClearing_4 :
    ∃ (s : State),
      (s.flag Reg.HWD_READ_STATUS 31 = true) ∧ (s.hwd.head = none) := by
  refine ⟨((State.reset.wrN Reg.HWD_READ_STATUS 0x80000000).wrN (Reg.HWD_READ_DATA 3) 3), ?_, ?_⟩ <;> decide +kernel

theorem test_meets_HeartwoodReadingAndClearing_5 :
    ∃ (s : State),
      (s.flag Reg.HWD_READ_STATUS 31 = false) := by
  refine ⟨State.reset, ?_⟩
  decide +kernel

theorem test_meets_HeartwoodReadingAndClearing_6 :
    ∃ (key : List Byte) (s : State),
      (s.challengeLive = false) ∧ (s.lockout = false) ∧ (s.lcs.key = some key) ∧ (s.hwd.epoch ≠ 0xFFFF) := by
  refine ⟨[1], { State.reset with lcs := { State.reset.lcs with key := some [1] } }, ?_, ?_, ?_,
    ?_⟩ <;> decide +kernel

theorem test_meets_HeartwoodReadingAndClearing_7 :
    ∃ (s : State),
      (s.challengeLive = true) := by
  refine ⟨{ State.reset with hwd := { State.reset.hwd with challenge := some ⟨50, 4, 0, [1]⟩ }, tick := 50 }, ?_⟩
  decide +kernel

theorem test_meets_HeartwoodReadingAndClearing_8 :
    ∃ (s : State),
      (s.challengeLive = false) ∧ (s.lockout = true) := by
  refine ⟨{ (State.reset.wrN Reg.HWD_STATUS 8) with hwd := { State.reset.hwd with lockoutEnd := 51 }, tick := 50 },
    ?_, ?_⟩ <;> decide +kernel

theorem test_meets_HeartwoodReadingAndClearing_9 :
    ∃ (s : State),
      (s.challengeLive = false) ∧ (s.lockout = false) ∧ (s.lcs.key = none) := by
  refine ⟨State.reset, ?_, ?_, ?_⟩ <;> decide +kernel

theorem test_meets_HeartwoodReadingAndClearing_10 :
    ∃ (w : Writer) (s : State),
      (s.hwd.decidedAt ≠ s.tick + 1) ∧ (s.challengeLive = false) := by
  refine ⟨.host, { (State.reset.wrN Reg.HWD_STATUS 4) with
    hwd := { State.reset.hwd with challenge := some ⟨50, 4, 0, [1]⟩ }, tick := 51 }, ?_, ?_⟩ <;> decide +kernel

theorem test_meets_HeartwoodReadingAndClearing_11 :
    ∃ (w : Writer) (c : Challenge) (key : List Byte) (s : State),
      (s.hwd.decidedAt ≠ s.tick + 1) ∧ (s.challengeLive = true) ∧ (s.hwd.challenge = some c) ∧
        (s.lcs.key = some key) ∧ (hmac256 key (c.bytes ++ leBytes
        2 c.epoch ++ leBytes 4 c.headSeq) ≠ s.clrResponse) := by
  refine ⟨.host, ⟨50, 4, 0, [1]⟩, [1], { State.reset with
    hwd := { State.reset.hwd with challenge := some ⟨50, 4, 0, [1]⟩ }, lcs := { State.reset.lcs with
    key := some [1] }, tick := 50 }, ?_, ?_, ?_, ?_, ?_⟩ <;> decide +kernel

theorem test_meets_HeartwoodReadingAndClearing_12 :
    ∃ (w : Writer) (c : Challenge) (key : List Byte) (s : State),
      (s.hwd.decidedAt ≠ s.tick + 1) ∧ (s.challengeLive = true) ∧ (s.hwd.challenge = some c) ∧
        (s.lcs.key = some key) ∧ (hmac256 key (c.bytes ++ leBytes
        2 c.epoch ++ leBytes 4 c.headSeq) = s.clrResponse) := by
  refine ⟨.host, ⟨50, 4, 0, [1]⟩, [1], hwdRight, ?_, ?_, ?_, ?_, ?_⟩ <;> decide +kernel

theorem test_meets_HeartwoodReadingAndClearing_13 :
    ∃ (w : Writer) (s : State),
      (s.hwd.decidedAt = s.tick + 1) := by
  refine ⟨.host, { State.reset with hwd := { State.reset.hwd with decidedAt := 6 }, tick := 5 }, ?_⟩
  decide +kernel

theorem test_meets_HeartwoodReadingAndClearing_14 :
    ∃ (s : State),
      (s.challengeLive = true) := by
  refine ⟨{ (State.reset.wrN Reg.HWD_STATUS 4) with
    hwd := { State.reset.hwd with challenge := some ⟨50, 4, 0, [1]⟩ }, tick := 50 }, ?_⟩
  decide +kernel

theorem test_meets_HeartwoodReadingAndClearing_15 :
    ∃ (s : State),
      (s.challengeLive = false) := by
  refine ⟨State.reset, ?_⟩
  decide +kernel

theorem test_meets_HeartwoodReadingAndClearing_16 :
    ∃ (c : Challenge) (s : State),
      (s.hwd.challenge = some c) ∧ (c.deadline < s.tick) := by
  refine ⟨⟨50, 4, 0, [1]⟩, { (State.reset.wrN Reg.HWD_STATUS 4) with
    hwd := { State.reset.hwd with challenge := some ⟨50, 4, 0, [1]⟩ }, tick := 51 }, ?_, ?_⟩ <;> decide +kernel

theorem test_meets_HeartwoodReadingAndClearing_17 :
    ∃ (c : Challenge) (s : State),
      (s.hwd.challenge = some c) ∧ (s.tick ≤ c.deadline) := by
  refine ⟨⟨50, 4, 0, [1]⟩, { State.reset with
    hwd := { State.reset.hwd with challenge := some ⟨50, 4, 0, [1]⟩ }, tick := 50 }, ?_, ?_⟩ <;> decide +kernel

theorem test_meets_HeartwoodReadingAndClearing_18 :
    ∃ (s : State),
      (s.flag Reg.HWD_STATUS 3 = true) ∧ (s.hwd.lockoutEnd ≤ s.tick) := by
  refine ⟨{ (State.reset.wrN Reg.HWD_STATUS 8) with hwd := { State.reset.hwd with lockoutEnd := 50 }, tick := 50 },
    ?_, ?_⟩ <;> decide +kernel

theorem test_meets_HeartwoodReadingAndClearing_19 :
    ∃ (s : State),
      (s.tick < s.hwd.lockoutEnd) := by
  refine ⟨{ State.reset with hwd := { State.reset.hwd with lockoutEnd := 51 }, tick := 50 }, ?_⟩
  decide +kernel

theorem test_meets_HeartwoodReadingAndClearing_20 :
    ∃ (s : State),
      (s.flag Reg.HWD_STATUS 1 = true) ∧ (tabWf .empty s.hwd.mram = true) := by
  refine ⟨{ (State.reset.wrN Reg.HWD_STATUS 2) with
    hwd := { State.reset.hwd with mram := [(3, .holds (rec 3 0)), (4, .torn), (5, .holds (rec 5 1))], epoch := 1 } },
    ?_, ?_⟩ <;> decide +kernel

theorem test_meets_HeartwoodReadingAndClearing_21 :
    ∃ (s : State),
      (s.flag Reg.HWD_STATUS 1 = false) := by
  refine ⟨State.reset, ?_⟩
  decide +kernel

theorem test_meets_RailSequencing_1 :
    ∃ (s0 s : State),
      (s0.begin .decide = s) ∧ (s.seqState = 1 ∨ s.seqState = 2) := by
  refine ⟨opened (State.reset.wrN Reg.PWR_SEQ_STATE (2 + 0x10000 + 0x100)),
    opened (State.reset.wrN Reg.PWR_SEQ_STATE (2 + 0x10000 + 0x100)), State.openDecide_open (decide_eq_true rfl), ?_⟩
  decide +kernel

theorem test_meets_RailSequencing_2 :
    ∃ (x : Fin 64) (s0 s : State),
      (s0.begin .decide = s) ∧ (s.seqState = 0) ∧ (s.vinGood = true) ∧ (s.taking x = true) := by
  refine ⟨5, opened ({ ((((State.reset.wrN Reg.PWR_SEQ_STATE (0 + 0x10000 + 0x100)).wrN (Reg.PWR_RAIL_CTL 5) 1).wrN (Reg.PWR_RAIL_STATE 5) 4).wrN (Reg.PWR_RAIL_STATE 6) 3) with tick := 9 }), opened ({ ((((State.reset.wrN Reg.PWR_SEQ_STATE (0 + 0x10000 + 0x100)).wrN (Reg.PWR_RAIL_CTL 5) 1).wrN (Reg.PWR_RAIL_STATE 5) 4).wrN (Reg.PWR_RAIL_STATE 6) 3) with tick := 9 }), State.openDecide_open (decide_eq_true rfl), ?_, ?_, ?_⟩ <;> decide +kernel

theorem test_meets_RailSequencing_3 :
    ∃ (s0 s : State),
      (s0.begin .decide = s) ∧ (s.seqState = 3 ∨ s.seqState = 4 ∨ s.seqState = 0 ∧ s.vinGood = false) := by
  refine ⟨opened (State.reset.wrN Reg.PWR_SEQ_STATE (4 + 0x10000 + 0x100)),
    opened (State.reset.wrN Reg.PWR_SEQ_STATE (4 + 0x10000 + 0x100)), State.openDecide_open (decide_eq_true rfl), ?_⟩
  decide +kernel

theorem test_meets_RailSequencing_4 :
    ∃ (w : Writer) (x : Fin 64) (s0 s : State),
      (s0.begin .decide = s) ∧ (s.seqState = 1 ∨ s.seqState = 2) ∧ (s.taking x = true) ∧ (s.railState x = 3) := by
  refine ⟨.mgmt, 5, opened ({ (((((State.reset.wrN Reg.PWR_SEQ_STATE (2 + 0x10000 + 0x100)).wrN (Reg.PWR_RAIL_CTL 5) 1).wrN (Reg.PWR_RAIL_STATE 5) 3).wrN (Reg.PWR_RAIL_CTL 6) 1).wrN (Reg.PWR_RAIL_STATE 6) 1) with tick := 9 }), opened ({ (((((State.reset.wrN Reg.PWR_SEQ_STATE (2 + 0x10000 + 0x100)).wrN (Reg.PWR_RAIL_CTL 5) 1).wrN (Reg.PWR_RAIL_STATE 5) 3).wrN (Reg.PWR_RAIL_CTL 6) 1).wrN (Reg.PWR_RAIL_STATE 6) 1) with tick := 9 }), State.openDecide_open (decide_eq_true rfl), ?_, ?_, ?_⟩ <;> decide +kernel

theorem test_meets_RailSequencing_5 :
    ∃ (w : Writer) (s0 s : State),
      (s0.begin .decide = s) ∧ (s.seqState = 0) := by
  refine ⟨.host, opened (State.reset.wrN Reg.PWR_SEQ_STATE (0 + 0x10000 + 0x100)),
    opened (State.reset.wrN Reg.PWR_SEQ_STATE (0 + 0x10000 + 0x100)), State.openDecide_open (decide_eq_true rfl), ?_⟩
  decide +kernel

theorem test_meets_RailSequencing_6 :
    ∃ (w : Writer) (s0 s : State),
      (s0.begin .decide = s) ∧ (s.seqState = 3 ∨ s.seqState = 4) := by
  refine ⟨.host, opened (State.reset.wrN Reg.PWR_SEQ_STATE (0xC + 0x10000 + 0x100)),
    opened (State.reset.wrN Reg.PWR_SEQ_STATE (0xC + 0x10000 + 0x100)), State.openDecide_open (decide_eq_true rfl),
    ?_⟩
  decide +kernel

theorem test_meets_RailSequencing_7 :
    ∃ (k : Fin 8) (r : Fin 64) (s0 s : State),
      (s0.begin .decide = s) ∧ (s.seqState = 1) ∧ ((r : Nat) / 8 = k) ∧ (s.taking r = true) ∧ (s.railState r = 1) ∧
        (s.pwr.seqAt + s.onDelay r ≤ s.tick) ∧ (s.seqPresent k = true) := by
  refine ⟨0, 5, opened ({ ((((State.reset.wrN Reg.PWR_SEQ_STATE (1 + 0x10000 + 0x100)).wrN (Reg.PWR_RAIL_CTL 5) 1).wrN (Reg.PWR_RAIL_STATE 5) 1).wrN Reg.PWR_PG_CFG 0x900004) with tick := 9 }), opened ({ ((((State.reset.wrN Reg.PWR_SEQ_STATE (1 + 0x10000 + 0x100)).wrN (Reg.PWR_RAIL_CTL 5) 1).wrN (Reg.PWR_RAIL_STATE 5) 1).wrN Reg.PWR_PG_CFG 0x900004) with tick := 9 }), State.openDecide_open (decide_eq_true rfl), ?_, ?_, ?_, ?_, ?_, ?_⟩ <;> decide +kernel

theorem test_meets_RailSequencing_8 :
    ∃ (k : Fin 8) (r : Fin 64) (s0 s : State),
      (s0.begin .decide = s) ∧ (s.seqState = 1) ∧ ((r : Nat) / 8 = k) ∧ (s.taking r = true) ∧ (s.railState r = 1) ∧
        (s.pwr.seqAt + s.onDelay r ≤ s.tick) ∧ (s.seqPresent k = false) := by
  refine ⟨1, 13, opened ({ (((State.reset.wrN Reg.PWR_SEQ_STATE (1 + 0x10000 + 0x100)).wrN (Reg.PWR_RAIL_CTL 13) 1).wrN (Reg.PWR_RAIL_STATE 13) 1) with tick := 9 }), opened ({ (((State.reset.wrN Reg.PWR_SEQ_STATE (1 + 0x10000 + 0x100)).wrN (Reg.PWR_RAIL_CTL 13) 1).wrN (Reg.PWR_RAIL_STATE 13) 1) with tick := 9 }), State.openDecide_open (decide_eq_true rfl), ?_, ?_, ?_, ?_, ?_, ?_⟩ <;> decide +kernel

theorem test_meets_RailSequencing_9 :
    ∃ (k : Fin 8) (s0 s : State),
      (s0.begin .decide = s) ∧ (s.seqState ≠ 1) ∧ (s.seqState ≠ 3) := by
  refine ⟨1, opened State.reset, opened State.reset, State.openDecide_open (decide_eq_true rfl), ?_,
    ?_⟩ <;> decide +kernel

theorem test_meets_RailSequencing_10 :
    ∃ (r : Fin 64) (s0 s : State),
      (s0.begin .decide = s) ∧ ((s.rail r).deadline ≤ s.tick) ∧ (s.seqReads = true) ∧ (s.railState r = 2) ∧
        ((s.rail r).off = false) := by
  refine ⟨5, opened ({ ((((State.reset.wrN Reg.PWR_SEQ_STATE (1 + 0x10000 + 0x100)).wrN (Reg.PWR_RAIL_CTL 5) 1).wrN (Reg.PWR_RAIL_STATE 5) 2).wrN Reg.ALM_STATUS 0) with alm := { State.reset.alm with active := some 0, bank0 := pageWith 0 0x0F 1 0 }, pwr := { State.reset.pwr with rails := [(5, { Rail.init with deadline := 9 })] }, tick := 9 }), opened ({ ((((State.reset.wrN Reg.PWR_SEQ_STATE (1 + 0x10000 + 0x100)).wrN (Reg.PWR_RAIL_CTL 5) 1).wrN (Reg.PWR_RAIL_STATE 5) 2).wrN Reg.ALM_STATUS 0) with alm := { State.reset.alm with active := some 0, bank0 := pageWith 0 0x0F 1 0 }, pwr := { State.reset.pwr with rails := [(5, { Rail.init with deadline := 9 })] }, tick := 9 }), State.openDecide_open (decide_eq_true rfl), ?_, ?_, ?_, ?_⟩ <;> decide +kernel

theorem test_meets_RailSequencing_11 :
    ∃ (r : Fin 64) (s0 s : State),
      (s0.begin .decide = s) ∧ ((s.rail r).deadline ≤ s.tick) ∧ (s.seqReads = true) ∧ (s.railState r = 3 ∨
        s.railState r = 5) ∧ ((s.rail r).off = true) := by
  refine ⟨5, opened ({ ((((State.reset.wrN Reg.PWR_SEQ_STATE (3 + 0x10000 + 0x100)).wrN (Reg.PWR_RAIL_CTL 5) 1).wrN (Reg.PWR_RAIL_STATE 5) 3).wrN Reg.ALM_STATUS 0) with alm := { State.reset.alm with active := some 0, bank0 := pageWith 0 0x0F 1 0 }, pwr := { State.reset.pwr with rails := [(5, { Rail.init with deadline := 9, off := true })] }, tick := 9 }), opened ({ ((((State.reset.wrN Reg.PWR_SEQ_STATE (3 + 0x10000 + 0x100)).wrN (Reg.PWR_RAIL_CTL 5) 1).wrN (Reg.PWR_RAIL_STATE 5) 3).wrN Reg.ALM_STATUS 0) with alm := { State.reset.alm with active := some 0, bank0 := pageWith 0 0x0F 1 0 }, pwr := { State.reset.pwr with rails := [(5, { Rail.init with deadline := 9, off := true })] }, tick := 9 }), State.openDecide_open (decide_eq_true rfl), ?_, ?_, ?_, ?_⟩ <;> decide +kernel

theorem test_meets_RailSequencing_12 :
    ∃ (r : Fin 64) (s0 s : State),
      (s0.begin .decide = s) ∧ (s.tick < (s.rail r).deadline) := by
  refine ⟨5, opened ({ State.reset with
    pwr := { State.reset.pwr with rails := [(5, { Rail.init with deadline := 9 })] }, tick := 8 }),
    opened ({ State.reset with
    pwr := { State.reset.pwr with rails := [(5, { Rail.init with deadline := 9 })] }, tick := 8 }),
    State.openDecide_open (decide_eq_true rfl), ?_⟩
  decide +kernel

theorem test_meets_RailSequencing_13 :
    ∃ (s0 s : State),
      (s0.begin .decide = s) ∧ (s.seqState = 4) ∧ (s.pwr.endAt + s.fld Reg.PWR_MIN_OFF 23 0 ≤ s.tick) ∧
        (s.flag Reg.PWR_SEQ_STATE 3 = false) ∧ (s.fld Reg.PWR_SEQ_STATE 7 4 ≠ 3) := by
  refine ⟨opened ({ ((State.reset.wrN Reg.PWR_SEQ_STATE (4 + 0x10000 + 0x100)).wrN Reg.PWR_MIN_OFF 4) with
    pwr := { State.reset.pwr with endAt := 5 }, tick := 9 }),
    opened ({ ((State.reset.wrN Reg.PWR_SEQ_STATE (4 + 0x10000 + 0x100)).wrN Reg.PWR_MIN_OFF 4) with
    pwr := { State.reset.pwr with endAt := 5 }, tick := 9 }), State.openDecide_open (decide_eq_true rfl), ?_, ?_, ?_,
    ?_⟩ <;> decide +kernel

theorem test_meets_RailSequencing_14 :
    ∃ (x : Fin 64) (s0 s : State),
      (s0.begin .decide = s) ∧ (s.seqState = 4) ∧ (s.pwr.endAt + s.fld Reg.PWR_MIN_OFF 23 0 ≤ s.tick) ∧
        (s.flag Reg.PWR_SEQ_STATE 3 = true) ∧ (s.vinGood = true) ∧ (s.taking x = true) := by
  refine ⟨5, opened ({ (((State.reset.wrN Reg.PWR_SEQ_STATE (0xC + 0x10000 + 0x100)).wrN (Reg.PWR_RAIL_CTL 5) 1).wrN Reg.PWR_MIN_OFF 4) with pwr := { State.reset.pwr with endAt := 5 }, tick := 9 }), opened ({ (((State.reset.wrN Reg.PWR_SEQ_STATE (0xC + 0x10000 + 0x100)).wrN (Reg.PWR_RAIL_CTL 5) 1).wrN Reg.PWR_MIN_OFF 4) with pwr := { State.reset.pwr with endAt := 5 }, tick := 9 }), State.openDecide_open (decide_eq_true rfl), ?_, ?_, ?_, ?_, ?_⟩ <;> decide +kernel

theorem test_meets_RailSequencing_15 :
    ∃ (s0 s : State),
      (s0.begin .decide = s) ∧ (s.tick < s.pwr.endAt + s.fld Reg.PWR_MIN_OFF 23 0) := by
  refine ⟨opened ({ (State.reset.wrN Reg.PWR_MIN_OFF 4) with pwr := { State.reset.pwr with endAt := 5 }, tick := 8 }),
    opened ({ (State.reset.wrN Reg.PWR_MIN_OFF 4) with pwr := { State.reset.pwr with endAt := 5 }, tick := 8 }),
    State.openDecide_open (decide_eq_true rfl), ?_⟩
  decide +kernel

theorem test_meets_RailReadsMarginsAndDomains_1 :
    ∃ (x : SeqRead) (r : Fin 64) (s : State),
      (s.gathersRead x = true) ∧ (s.seqPresent x.seq = true) ∧ (x.vin = false) ∧ ((r : Nat) / 8 = x.seq) ∧
        (s.railState r = 2) ∧ ((s.rail r).off = false) ∧ (bitOf x.level (r % 8) = true) ∧
        (bitOf x.changed (r % 8) = false) ∧ ((s.rail r).start + s.pgWindow ≤ x.stamp) ∧
        (s.tick ≤ (s.rail r).deadline) := by
  refine ⟨⟨0, false, 0x20, 0, 8⟩, 5,
    { (((((State.reset.wrN Reg.PWR_SEQ_STATE (1 + 0x10000 + 0x100)).wrN (Reg.PWR_RAIL_CTL 5) 1).wrN (Reg.PWR_RAIL_STATE 5) 2).wrN Reg.PWR_PG_CFG 0x90004).wrN Reg.ALM_STATUS 0) with alm := { State.reset.alm with active := some 0, bank0 := pageWith 0 0x0F 1 0 }, pwr := { State.reset.pwr with rails := [(5, { Rail.init with start := 4, deadline := 9 })] }, tick := 9 }, ?_, ?_, ?_, ?_, ?_, ?_, ?_, ?_, ?_, ?_⟩ <;> decide +kernel

theorem test_meets_RailReadsMarginsAndDomains_2 :
    ∃ (x : SeqRead) (r : Fin 64) (s : State),
      (s.gathersRead x = true) ∧ (s.seqPresent x.seq = true) ∧ (x.vin = false) ∧ ((r : Nat) / 8 = x.seq) ∧
        (s.railState r = 2) ∧ ((s.rail r).off = false) ∧ (bitOf x.level (r % 8) = false) := by
  refine ⟨⟨0, false, 0, 0, 8⟩, 5,
    { ((((State.reset.wrN Reg.PWR_SEQ_STATE (1 + 0x10000 + 0x100)).wrN (Reg.PWR_RAIL_CTL 5) 1).wrN (Reg.PWR_RAIL_STATE 5) 2).wrN Reg.ALM_STATUS 0) with alm := { State.reset.alm with active := some 0, bank0 := pageWith 0 0x0F 1 0 }, pwr := { State.reset.pwr with rails := [(5, { Rail.init with start := 4, deadline := 9 })] }, tick := 9 }, ?_, ?_, ?_, ?_, ?_, ?_, ?_⟩ <;> decide +kernel

theorem test_meets_RailReadsMarginsAndDomains_3 :
    ∃ (x : SeqRead) (s : State),
      (s.gathersRead x = true) ∧ (s.seqPresent x.seq = true) ∧ (x.vin = true) ∧ (x.seq = 0) ∧
        (bitOf x.level 0 = s.vinGood) := by
  refine ⟨⟨0, true, 1, 0, 8⟩, { ((State.reset.wrN Reg.PWR_SEQ_STATE (2 + 0x10000 + 0x100)).wrN Reg.ALM_STATUS 0) with
    alm := { State.reset.alm with active := some 0, bank0 := pageWith 0 0x0F 1 0 }, pwr := { State.reset.pwr with
    vinRun := 1 }, tick := 9 }, ?_, ?_, ?_, ?_, ?_⟩ <;> decide +kernel

theorem test_meets_RailReadsMarginsAndDomains_4 :
    ∃ (x : SeqRead) (s : State),
      (s.gathersRead x = false) := by
  refine ⟨⟨0, true, 1, 0, 8⟩, { (State.reset.wrN Reg.ALM_STATUS 0) with
    alm := { State.reset.alm with active := some 0, bank0 := pageWith 0 1 1 1 }, tick := 9 }, ?_⟩
  decide +kernel

theorem test_meets_RailReadsMarginsAndDomains_5 :
    ∃ (k : Fin 8) (cmd : Fin 256) (s : State),
      (s.seqPresent k = true) := by
  refine ⟨0, 2, { ((((State.reset.wrN Reg.PWR_SEQ_STATE (2 + 0x10000 + 0x100)).wrN (Reg.PWR_RAIL_CTL 5) 1).wrN (Reg.PWR_RAIL_STATE 5) 3).wrN (Reg.PWR_RAIL_STATE 9) 3) with tick := 9 }, ?_⟩
  decide +kernel

theorem test_meets_RailReadsMarginsAndDomains_6 :
    ∃ (k : Fin 8) (cmd : Fin 256) (s : State),
      (s.seqPresent k = false) := by
  refine ⟨7, 2, State.reset, ?_⟩
  decide +kernel

theorem test_meets_RailReadsMarginsAndDomains_7 :
    ∃ (ids : Fin 256) (found : List (Nat × Nat)) (s : State),
      (s.clk.up = true) ∧ (s.pwr.polledAt = 0) ∧ (s.pwr.probe = false) ∧ (s.pwr.adopt = false) ∧
        (s.seqPresent 0 = true) := by
  refine ⟨0, [], { (State.reset.wrN Reg.PWR_SEQ_STATE (2 + 0x10000 + 0x100)) with
    clk := { State.reset.clk with up := true }, pwr := { State.reset.pwr with probe := false, adopt := false },
    tick := 9 }, ?_, ?_, ?_, ?_, ?_⟩ <;> decide +kernel

theorem test_meets_RailReadsMarginsAndDomains_8 :
    ∃ (ids : Fin 256) (found : List (Nat × Nat)) (s : State),
      (s.clk.up = true) ∧ (s.pwr.polledAt = 0) ∧ (s.pwr.probe = true) ∧ (s.pwr.adopt = false) := by
  refine ⟨6, [], { (State.reset.wrN Reg.PWR_SEQ_STATE (2 + 0x10000 + 0x100)) with
    clk := { State.reset.clk with up := true }, pwr := { State.reset.pwr with probe := true, adopt := false }, tick :=
    9 }, ?_, ?_, ?_, ?_⟩ <;> decide +kernel

theorem test_meets_RailReadsMarginsAndDomains_9 :
    ∃ (ids : Fin 256) (found : List (Nat × Nat)) (s : State),
      (s.clk.up = false) := by
  refine ⟨0, [], { State.reset with clk := { State.reset.clk with up := false } }, ?_⟩
  decide +kernel

theorem test_meets_RailReadsMarginsAndDomains_10 :
    ∃ (r : Fin 64) (m : Int) (s0 s : State),
      (s0.begin .decide = s) ∧ (s.seqState = 2) ∧ (s.railState r = 3) ∧
        (signedOf 5 (s.fld (Reg.PWR_RAIL_STATE r) 12 8) = m) ∧ (m < signedOf 5 (s.fld (Reg.PWR_RAIL_CTL r) 12 8)) ∧
        ((s.rail r).marginAt = 0) := by
  refine ⟨5, -2, opened ({ (((State.reset.wrN Reg.PWR_SEQ_STATE (2 + 0x10000 + 0x100)).wrN (Reg.PWR_RAIL_CTL 5) 0x301).wrN (Reg.PWR_RAIL_STATE 5) 0x1E03) with tick := 9 }), opened ({ (((State.reset.wrN Reg.PWR_SEQ_STATE (2 + 0x10000 + 0x100)).wrN (Reg.PWR_RAIL_CTL 5) 0x301).wrN (Reg.PWR_RAIL_STATE 5) 0x1E03) with tick := 9 }), State.openDecide_open (decide_eq_true rfl), ?_, ?_, ?_, ?_, ?_⟩ <;> decide +kernel

theorem test_meets_RailReadsMarginsAndDomains_11 :
    ∃ (r : Fin 64) (s0 s : State),
      (s0.begin .decide = s) ∧ (signedOf 5 (s.fld (Reg.PWR_RAIL_STATE
        r) 12 8) = signedOf 5 (s.fld (Reg.PWR_RAIL_CTL r) 12 8)) := by
  refine ⟨5, opened State.reset, opened State.reset, State.openDecide_open (decide_eq_true rfl), ?_⟩
  decide +kernel

theorem test_meets_RailReadsMarginsAndDomains_12 :
    ∃ (readings : List Word) (code rail tick : Nat) (s : State),
      (s.pwr.snapNow = some (code, rail, tick)) := by
  refine ⟨[1, 2], 5, 6, 7, { (State.reset.wrN Reg.PWR_SEQ_STATE (2 + 0x10000 + 0x100)) with
    pwr := { State.reset.pwr with snapNow := some (5, 6, 7), snapNext := some (1, 2, 3) }, tick := 9 }, ?_⟩
  decide +kernel

theorem test_meets_RailReadsMarginsAndDomains_13 :
    ∃ (readings : List Word) (s : State),
      (s.pwr.snapNow = none) := by
  refine ⟨[], State.reset, ?_⟩
  decide +kernel

theorem test_meets_RailReadsMarginsAndDomains_14 :
    ∃ (v : Word) (s0 s : State),
      (s0.begin .decide = s) ∧ (bitOf v.toNat 3 = s.flag Reg.PWR_DOM_REQ 3) ∧
        (bitOf v.toNat 4 = s.flag Reg.PWR_DOM_REQ 4) := by
  refine ⟨0xFFFFFFFF, opened (State.reset.wrN Reg.PWR_DOM_REQ 0x18), opened (State.reset.wrN Reg.PWR_DOM_REQ 0x18),
    State.openDecide_open (decide_eq_true rfl), ?_, ?_⟩ <;> decide +kernel

theorem test_meets_RailReadsMarginsAndDomains_15 :
    ∃ (v : Word) (s0 s : State),
      (s0.begin .decide = s) ∧ (s.flag Reg.PWR_DOM_REQ 3 = false) ∧ (bitOf v.toNat 3 = true) ∧
        (bitOf v.toNat 4 = s.flag Reg.PWR_DOM_REQ 4) := by
  refine ⟨0xFFFFFFFF, opened (State.reset.wrN Reg.PWR_DOM_REQ 0x10), opened (State.reset.wrN Reg.PWR_DOM_REQ 0x10),
    State.openDecide_open (decide_eq_true rfl), ?_, ?_, ?_⟩ <;> decide +kernel

theorem test_meets_RailReadsMarginsAndDomains_16 :
    ∃ (v : Word) (s0 s : State),
      (s0.begin .decide = s) ∧ (s.flag Reg.PWR_DOM_REQ 3 = true) ∧ (bitOf v.toNat 3 = false) ∧
        (bitOf v.toNat 4 = s.flag Reg.PWR_DOM_REQ 4) ∧ (s.holding = true) ∧ (s.armed 0 = false) ∧
        (s.armed 1 = false) ∧ (s.armed 2 = false) ∧ (s.armed 3 = false) := by
  refine ⟨0x10, opened (((State.reset.wrN Reg.PWR_DOM_REQ 0x18).wrN
    Reg.PWR_DOM_STATE 0x18).wrN (Reg.BEAM_STN_STATE 2) 2),
    opened (((State.reset.wrN Reg.PWR_DOM_REQ 0x18).wrN Reg.PWR_DOM_STATE 0x18).wrN (Reg.BEAM_STN_STATE 2) 2),
    State.openDecide_open (decide_eq_true rfl), ?_, ?_, ?_, ?_, ?_, ?_, ?_, ?_⟩ <;> decide +kernel

theorem test_meets_RailReadsMarginsAndDomains_17 :
    ∃ (v : Word) (s0 s : State),
      (s0.begin .decide = s) ∧ (s.flag Reg.PWR_DOM_REQ 3 = true) ∧ (bitOf v.toNat 3 = false) ∧
        (bitOf v.toNat 4 = s.flag Reg.PWR_DOM_REQ 4) ∧ (s.holding = false) := by
  refine ⟨0x10, opened ({ ((State.reset.wrN Reg.PWR_DOM_REQ 0x18).wrN Reg.ALM_STATUS 0) with
    alm := { State.reset.alm with active := some 0, bank0 := pageWith 0 1 1 1 } }),
    opened ({ ((State.reset.wrN Reg.PWR_DOM_REQ 0x18).wrN Reg.ALM_STATUS 0) with
    alm := { State.reset.alm with active := some 0, bank0 := pageWith 0 1 1 1 } }),
    State.openDecide_open (decide_eq_true rfl), ?_, ?_, ?_, ?_⟩ <;> decide +kernel

theorem test_meets_RailReadsMarginsAndDomains_18 :
    ∃ (half : Fin 2) (s : State),
      (bitOf s.pwr.powering (3 + half) = true) := by
  refine ⟨1, { ((State.reset.wrN Reg.PWR_DOM_REQ 0x18).wrN Reg.PWR_DOM_STATE 0x8) with
    pwr := { State.reset.pwr with powering := 0x10 } }, ?_⟩
  decide +kernel

theorem test_meets_RailReadsMarginsAndDomains_19 :
    ∃ (half : Fin 2) (s : State),
      (bitOf s.pwr.powering (3 + half) = false) := by
  refine ⟨1, State.reset, ?_⟩
  decide +kernel

theorem test_meets_ThermalCommands_1 :
    ∃ (c : Fin 12) (v : Int) (valid : Bool) (s : State),
      (s.flag (Reg.THM_CH_CFG c) 0 = false) := by
  refine ⟨3, 5, true, (State.reset.wrN (Reg.THM_CH_CFG 3) 0), ?_⟩
  decide +kernel

theorem test_meets_ThermalCommands_2 :
    ∃ (c : Fin 12) (v : Int) (s : State),
      (s.flag (Reg.THM_CH_CFG c) 0 = true) ∧ (v < s.thmSd c) := by
  refine ⟨3, -1, ((State.reset.wrN (Reg.THM_CH_CFG 3) 0x31).wrN (Reg.THM_CH_LEVEL1 3) 0x600), ?_,
    ?_⟩ <;> decide +kernel

theorem test_meets_ThermalCommands_3 :
    ∃ (c : Fin 12) (v : Int) (s : State),
      (s.flag (Reg.THM_CH_CFG c) 0 = true) ∧ (s.thmSd c ≤ v) ∧
        (tabGet 0 s.thm.confirm c + 1 < s.fld (Reg.THM_CH_CFG c) 7 4) := by
  refine ⟨3, 0x600, ((State.reset.wrN (Reg.THM_CH_CFG 3) 0x31).wrN (Reg.THM_CH_LEVEL1 3) 0x600), ?_, ?_,
    ?_⟩ <;> decide +kernel

theorem test_meets_ThermalCommands_4 :
    ∃ (c : Fin 12) (v : Int) (s : State),
      (s.flag (Reg.THM_CH_CFG c) 0 = true) ∧ (s.thmSd c ≤ v) ∧
        (s.fld (Reg.THM_CH_CFG c) 7 4 ≤ tabGet 0 s.thm.confirm c + 1) ∧ (s.flag Reg.THM_LATCHED c = false) ∧
        (s.safeNow = false) := by
  refine ⟨3, 0x600, { ((State.reset.wrN (Reg.THM_CH_CFG 3) 0x31).wrN (Reg.THM_CH_LEVEL1 3) 0x600) with
    thm := { State.reset.thm with confirm := [(3, 2)] }, tick := 9 }, ?_, ?_, ?_, ?_, ?_⟩ <;> decide +kernel

theorem test_meets_ThermalCommands_5 :
    ∃ (c : Fin 12) (v : Int) (s : State),
      (s.flag (Reg.THM_CH_CFG c) 0 = true) ∧ ((c : Nat) < 8) ∧ (tabGet 0 s.thm.invalid c = 7) := by
  refine ⟨3, 0, { ((State.reset.wrN (Reg.THM_CH_CFG 3) 0x31).wrN (Reg.THM_CH_TEMP 3) 0x10005) with
    thm := { State.reset.thm with invalid := [(3, 7)] } }, ?_, ?_, ?_⟩ <;> decide +kernel

theorem test_meets_ThermalCommands_6 :
    ∃ (g : Nat) (s0 s : State),
      (s0.begin .decide = s) ∧ (s.throttled = true) ∧ (s.fld Reg.THM_THR_REPEAT 23 0 ≠ 0) ∧
        (s.thm.requestAt + s.fld Reg.THM_THR_REPEAT 23 0 ≤ s.tick) ∧ (s.holding = false) ∧ (s.safe = false) ∧
        ((gradesOf s.active).find? (fun g => decide (s.grade < g)) = some g) := by
  refine ⟨5, opened ({ ((((State.reset.wrN Reg.THM_STATUS 1).wrN (Reg.THM_CH_TEMP 9) 0x50050).wrN Reg.THM_THR_REPEAT 4).wrN Reg.ALM_STATUS 0x30) with alm := { State.reset.alm with active := some 0, bank0 := memWrite [] 0x11 [0x28] }, thm := { State.reset.thm with requestAt := 4 }, tick := 8 }), opened ({ ((((State.reset.wrN Reg.THM_STATUS 1).wrN (Reg.THM_CH_TEMP 9) 0x50050).wrN Reg.THM_THR_REPEAT 4).wrN Reg.ALM_STATUS 0x30) with alm := { State.reset.alm with active := some 0, bank0 := memWrite [] 0x11 [0x28] }, thm := { State.reset.thm with requestAt := 4 }, tick := 8 }), State.openDecide_open (decide_eq_true rfl), ?_, ?_, ?_, ?_, ?_, ?_⟩ <;> decide +kernel

theorem test_meets_ThermalCommands_7 :
    ∃ (s0 s : State),
      (s0.begin .decide = s) ∧ (s.throttled = true) ∧ (s.fld Reg.THM_THR_REPEAT 23 0 ≠ 0) ∧
        (s.thm.requestAt + s.fld Reg.THM_THR_REPEAT 23 0 ≤ s.tick) ∧ (s.holding = true) := by
  refine ⟨opened ({ (((State.reset.wrN Reg.THM_STATUS 1).wrN (Reg.THM_CH_TEMP 9) 0x50050).wrN Reg.THM_THR_REPEAT 4) with thm := { State.reset.thm with requestAt := 4 }, tick := 8 }), opened ({ (((State.reset.wrN Reg.THM_STATUS 1).wrN (Reg.THM_CH_TEMP 9) 0x50050).wrN Reg.THM_THR_REPEAT 4) with thm := { State.reset.thm with requestAt := 4 }, tick := 8 }), State.openDecide_open (decide_eq_true rfl), ?_, ?_, ?_, ?_⟩ <;> decide +kernel

theorem test_meets_ThermalCommands_8 :
    ∃ (s0 s : State),
      (s0.begin .decide = s) ∧ (s.throttled = false ∨ s.fld Reg.THM_THR_REPEAT 23 0 = 0 ∨
        s.tick < s.thm.requestAt + s.fld Reg.THM_THR_REPEAT 23 0) := by
  refine ⟨opened State.reset, opened State.reset, State.openDecide_open (decide_eq_true rfl), ?_⟩
  decide +kernel

theorem test_meets_ThermalCommands_9 :
    ∃ (i : Fin 8) (d : Nat) (s0 s : State),
      (s0.begin .decide = s) ∧ (s.headSd i = true) ∧ ((s.bm i).dwellAt = d + 1) ∧
        (d + s.fld Reg.THM_CFG 23 0 ≤ s.tick) ∧ (s.pageHas 0x10 1 0 = true) ∧ (s.beam.stns.length = 8) := by
  refine ⟨1, 4, opened ({ (((State.reset.wrN (Reg.BEAM_STN_STATE 1) 0x20C).wrN Reg.BEAM_STATUS 0x20000).wrN Reg.THM_CFG 3) with beam := { State.reset.beam with stns := BeamStn.init :: { BeamStn.init with dwellAt := 5 } :: List.replicate 6 BeamStn.init }, tick := 7 }), opened ({ (((State.reset.wrN (Reg.BEAM_STN_STATE 1) 0x20C).wrN Reg.BEAM_STATUS 0x20000).wrN Reg.THM_CFG 3) with beam := { State.reset.beam with stns := BeamStn.init :: { BeamStn.init with dwellAt := 5 } :: List.replicate 6 BeamStn.init }, tick := 7 }), State.openDecide_open (decide_eq_true rfl), ?_, ?_, ?_, ?_, ?_⟩ <;> decide +kernel

theorem test_meets_ThermalCommands_10 :
    ∃ (i : Fin 8) (s0 s : State),
      (s0.begin .decide = s) ∧ (s.headSd i = false) := by
  refine ⟨1, opened State.reset, opened State.reset, State.openDecide_open (decide_eq_true rfl), ?_⟩
  decide +kernel

theorem test_meets_ThermalCommands_11 :
    ∃ (u : State) (d : Nat) (s0 s : State),
      (s0.begin .decide = s) ∧ (s.compareThermal = u) ∧ (u.thm.dwellAt = d + 1) ∧
        (d + u.fld Reg.THM_CFG 23 0 ≤ u.tick) ∧ (u.allStill = true) := by
  refine ⟨(opened thmCool).compareThermal, 4, opened thmCool, opened thmCool,
    State.openDecide_open (decide_eq_true rfl), ?_⟩
  refine ⟨rfl, ?_, ?_, ?_⟩ <;> decide +kernel

theorem test_meets_ThermalCommands_12 :
    ∃ (u : State) (s0 s : State),
      (s0.begin .decide = s) ∧ (s.compareThermal = u) ∧ (u.thm.dwellAt = 0) := by
  refine ⟨(opened thmHot).compareThermal, opened thmHot, opened thmHot, State.openDecide_open (decide_eq_true rfl),
    ?_⟩
  refine ⟨rfl, ?_⟩; decide +kernel

theorem test_meets_LockLossReported_1 :
    ∃ (p : Fin 10) (s : State),
      (s.clk.up = true) ∧ (s.flag Reg.CLK_STATUS p = true) := by
  refine ⟨9, { (State.reset.wrN Reg.CLK_STATUS 0x203) with tick := 7, clk := { State.reset.clk with up := true } },
    ?_, ?_⟩ <;> decide +kernel

theorem test_meets_ClockFailureResets_1 :
    ∃ (s : State),
      (s.clk.up = true) := by
  refine ⟨{ ((State.reset.wrN (Reg.BEAM_STN_STATE 3) 0xE).wrN Reg.BEAM_STATUS 8) with
    tick := 7, flt := { State.reset.flt with resetWait := some ⟨7, 2, 6, none⟩ } }, ?_⟩
  decide +kernel

theorem test_meets_ClocksAndResets_1 :
    ∃ (s : State),
      (s.clk.up = false) := by
  refine ⟨{ State.reset with clk := { State.reset.clk with up := false } }, ?_⟩
  decide +kernel

theorem test_meets_ClocksAndResets_2 :
    ∃ (s : State),
      (s.clk.up = true) := by
  refine ⟨{ State.reset with clk := { State.reset.clk with up := true } }, ?_⟩
  decide +kernel

theorem test_meets_ClocksAndResets_3 :
    ∃ (s : State),
      (s.clk.up = false) := by
  refine ⟨{ State.reset with clk := { State.reset.clk with up := false } }, ?_⟩
  decide +kernel

theorem test_meets_ClocksAndResets_5 :
    ∃ (s : State),
      (s.clk.up = true) ∧ (s.clk.wiping = true) ∧ (38 ≤ s.tick) := by
  refine ⟨{ State.reset with clk := { State.reset.clk with up := true, wiping := true }, tick := 38 }, ?_, ?_,
    ?_⟩ <;> decide +kernel

theorem test_meets_ClocksAndResets_6 :
    ∃ (s : State),
      (s.tick < 38) := by
  refine ⟨State.reset, ?_⟩
  decide +kernel

theorem test_meets_ClocksAndResets_7 :
    ∃ (w : Writer) (now : Bool) (s0 s : State),
      (s0.begin .decide = s) ∧ (s.thermalLatched = false) ∧ (s.flt.resetWait = none) ∧ (now = true) := by
  refine ⟨.host, true, opened State.reset, opened State.reset, State.openDecide_open (decide_eq_true rfl), ?_, ?_,
    ?_⟩ <;> decide +kernel

theorem test_meets_ClocksAndResets_8 :
    ∃ (w : Writer) (now : Bool) (s0 s : State),
      (s0.begin .decide = s) ∧ (s.thermalLatched = false) ∧ (s.flt.resetWait = none) ∧ (s.flt.left = none) ∧
        (now = false) := by
  refine ⟨.mgmt, false, opened State.reset, opened State.reset, State.openDecide_open (decide_eq_true rfl), ?_, ?_,
    ?_, ?_⟩ <;> decide +kernel

theorem test_meets_ClocksAndResets_9 :
    ∃ (w : Writer) (now : Bool) (s0 s : State),
      (s0.begin .decide = s) ∧ (s.thermalLatched = false) ∧ (s.flt.resetWait = none) ∧ (now = true) := by
  refine ⟨.mgmt, true, opened State.reset, opened State.reset, State.openDecide_open (decide_eq_true rfl), ?_, ?_,
    ?_⟩ <;> decide +kernel

theorem test_meets_ClocksAndResets_10 :
    ∃ (w : Writer) (now : Bool) (s0 s : State),
      (s0.begin .decide = s) ∧ (s.thermalLatched = true) := by
  refine ⟨.mgmt, true, opened clkHot, opened clkHot, State.openDecide_open (decide_eq_true rfl), ?_⟩
  decide +kernel

theorem test_meets_ClocksAndResets_12 :
    ∃ (s0 s : State),
      (s0.begin .decide = s) ∧ (s.clk.up = true) ∧ (s.clk.kickAt + s.fld Reg.CLK_WDT 23 0 ≤ s.tick) ∧
        (s.flt.resetWait = none) ∧ (s.thermalLatched = false) ∧ (s.flt.left = none) := by
  refine ⟨opened clkDog, opened clkDog, State.openDecide_open (decide_eq_true rfl), ?_, ?_, ?_, ?_,
    ?_⟩ <;> decide +kernel

theorem test_meets_ClocksAndResets_13 :
    ∃ (s0 s : State),
      (s0.begin .decide = s) ∧ (s.tick < s.clk.kickAt + s.fld Reg.CLK_WDT 23 0) := by
  refine ⟨opened ({ (State.reset.wrN Reg.CLK_WDT 40) with clk := { State.reset.clk with kickAt := 2 }, tick := 41 }),
    opened ({ (State.reset.wrN Reg.CLK_WDT 40) with clk := { State.reset.clk with kickAt := 2 }, tick := 41 }),
    State.openDecide_open (decide_eq_true rfl), ?_⟩
  decide +kernel

theorem test_meets_BootAndLifeCycle_1 :
    ∃ (f : Flash) (s : State),
      (s.romReady = true) ∧ (s.flag Reg.LCS_STATUS 7 = false) ∧ (s.lcs.marker = some s.lcs.fused) ∧
        (s.lcs.fused ≠ 4) ∧ (s.flag Reg.CLK_STATUS 17 = false) := by
  refine ⟨noFlash, { (State.reset.wrN Reg.HWD_STATUS 1) with
    clk := { State.reset.clk with up := true, wiping := false }, lcs := { State.reset.lcs with
    fused := 2, marker := some 2, booted := false } }, ?_, ?_, ?_, ?_, ?_⟩ <;> decide +kernel

theorem test_meets_BootAndLifeCycle_2 :
    ∃ (f : Flash) (s : State),
      (s.romReady = true) ∧ (s.flag Reg.LCS_STATUS 7 = false) ∧ (s.lcs.marker = some s.lcs.fused) ∧
        (s.lcs.fused ≠ 4) ∧ ((f.fwA.length < 0x100)) ∧ ((f.fwB.length < 0x100)) := by
  refine ⟨noFlash, { (State.reset.wrN Reg.HWD_STATUS 1) with
    clk := { State.reset.clk with up := true, wiping := false }, lcs := { State.reset.lcs with
    fused := 2, marker := some 2, booted := false } }, ?_, ?_, ?_, ?_, ?_, ?_⟩ <;> decide +kernel

theorem test_meets_BootAndLifeCycle_3 :
    ∃ (f : Flash) (s : State),
      (s.romReady = false) := by
  refine ⟨noFlash, { State.reset with clk := { State.reset.clk with up := false } }, ?_⟩
  decide +kernel

theorem test_meets_BootAndLifeCycle_4 :
    ∃ (f : Flash) (code : Nat) (s : State),
      (s.romReady = true) ∧ (s.flag Reg.LCS_STATUS 7 = true) ∧ (s.flag Reg.CLK_STATUS 17 = false) ∧
        (imageCode 1 s.lcs.fused s.stagedImage = code) := by
  refine ⟨noFlash, 1, { ((State.reset.wrN Reg.HWD_STATUS 1).wrN Reg.LCS_STATUS 0x80) with
    clk := { State.reset.clk with up := true, wiping := false }, lcs := { State.reset.lcs with booted := false } },
    ?_, ?_, ?_, ?_⟩ <;> decide +kernel

theorem test_meets_BootAndLifeCycle_5 :
    ∃ (v : Word) (s : State),
      (s.flag Reg.LCS_STATUS 4 = true) ∧ (s.flag Reg.LCS_STATUS 5 = false) ∧ (v = s.rd Reg.LCS_FW_VERSION) ∧
        (s.lcs.fused = 1 ∨ s.lcs.fused = 2) ∧ (s.lcs.accepted.length < 8) := by
  refine ⟨5, { ((State.reset.wrN Reg.LCS_STATUS 0x12).wrN Reg.LCS_FW_VERSION 5) with
    lcs := { State.reset.lcs with fused := 2 } }, ?_, ?_, ?_, ?_, ?_⟩ <;> decide +kernel

theorem test_meets_BootAndLifeCycle_6 :
    ∃ (v : Word) (s : State),
      (s.flag Reg.LCS_STATUS 4 = false ∨ s.flag Reg.LCS_STATUS 5 = true) := by
  refine ⟨5, State.reset, ?_⟩
  decide +kernel

theorem test_meets_BootAndLifeCycle_7 :
    ∃ (v : Word) (s : State),
      (s.flag Reg.LCS_STATUS 4 = true) ∧ (s.flag Reg.LCS_STATUS 5 = false) ∧ (v ≠ s.rd Reg.LCS_FW_VERSION) := by
  refine ⟨6, ((State.reset.wrN Reg.LCS_STATUS 0x12).wrN Reg.LCS_FW_VERSION 5), ?_, ?_, ?_⟩ <;> decide +kernel

theorem test_meets_BootAndLifeCycle_8 :
    ∃ (target : Fin 8) (confirm : Fin 65536) (s : State),
      ((target : Nat) ≤ 4) ∧ (target ≠ 3) ∧ (confirm = 0x4C43) ∧ (s.lcs.burning = none) ∧ (s.lcs.fused < target) ∧
        (s.holding = true) ∧ (s.allDisabled = true) := by
  refine ⟨4, 0x4C43, { State.reset with lcs := { State.reset.lcs with fused := 2 }, tick := 7 }, ?_, ?_, ?_, ?_, ?_,
    ?_, ?_⟩ <;> decide +kernel

theorem test_meets_BootAndLifeCycle_9 :
    ∃ (target : Fin 8) (confirm : Fin 65536) (s : State),
      ((target : Nat) ≤ 4) ∧ (confirm ≠ 0x4C43) := by
  refine ⟨4, 0x4C44, State.reset, ?_, ?_⟩ <;> decide +kernel

theorem test_meets_BootAndLifeCycle_10 :
    ∃ (target : Fin 8) (confirm : Fin 65536) (s : State),
      (4 < (target : Nat)) := by
  refine ⟨5, 0, State.reset, ?_⟩
  decide +kernel

theorem test_meets_BootAndLifeCycle_11 :
    ∃ (target at_ : Nat) (s : State),
      (s.lcs.burning = some (target, at_)) ∧ (target < 8) := by
  refine ⟨3, 6, { State.reset with lcs := { State.reset.lcs with fused := 2, burning := some (3, 6) }, tick := 7 },
    ?_, ?_⟩ <;> decide +kernel

theorem test_meets_BootAndLifeCycle_12 :
    ∃ (s : State),
      (s.lcs.burning = none) := by
  refine ⟨State.reset, ?_⟩
  decide +kernel

theorem test_meets_BootAndLifeCycle_13 :
    ∃ (field : Fin 4) (verifyOk : Bool) (s : State),
      (field = 1) ∧ (verifyOk = true) ∧ (s.lcs.fused < 2) ∧ (s.lcs.subsystem = none) := by
  refine ⟨1, true, { (State.reset.wrN (Reg.LCS_OTP_DATA 0) 0x12345678) with
    lcs := { State.reset.lcs with fused := 0, subsystem := none } }, ?_, ?_, ?_, ?_⟩ <;> decide +kernel

theorem test_meets_BootAndLifeCycle_14 :
    ∃ (field : Fin 4) (verifyOk : Bool) (s : State),
      (field = 2) ∧ (verifyOk = true) ∧ (s.lcs.fused < 2) ∧ (s.lcs.key = none) := by
  refine ⟨2, true, { (State.reset.wrN (Reg.LCS_OTP_DATA 0) 0x12345678) with
    lcs := { State.reset.lcs with fused := 1, key := none } }, ?_, ?_, ?_, ?_⟩ <;> decide +kernel

theorem test_meets_BootAndLifeCycle_15 :
    ∃ (field : Fin 4) (verifyOk : Bool) (s : State),
      (field = 1 ∨ field = 2) ∧ (2 ≤ s.lcs.fused) := by
  refine ⟨1, true, { State.reset with lcs := { State.reset.lcs with fused := 2 } }, ?_, ?_⟩ <;> decide +kernel

theorem test_meets_BootAndLifeCycle_16 :
    ∃ (field : Fin 4) (verifyOk : Bool) (s : State),
      (field = 0 ∨ field = 3) := by
  refine ⟨3, true, State.reset, ?_⟩
  decide +kernel

theorem test_meets_BootAndLifeCycle_17 :
    ∃ (ir : Fin 256) (s : State),
      ((ir : Nat) < 0x80) := by
  refine ⟨4, { State.reset with lcs := { State.reset.lcs with fused := 3 } }, ?_⟩
  decide +kernel

theorem test_meets_BootAndLifeCycle_18 :
    ∃ (ir : Fin 256) (s : State),
      (0x80 ≤ (ir : Nat)) ∧ ((ir : Nat) ≤ 0x8F) ∧ (s.lcs.fused = 0 ∨ s.lcs.fused = 1 ∨ s.lcs.fused = 3) := by
  refine ⟨0x8F, { State.reset with lcs := { State.reset.lcs with fused := 3 } }, ?_, ?_, ?_⟩ <;> decide +kernel

theorem test_meets_BootAndLifeCycle_19 :
    ∃ (ir : Fin 256) (s : State),
      (2 ≤ (ir : Nat)) ∧ (s.lcs.fused = 2 ∨ s.lcs.fused = 4) := by
  refine ⟨0x8F, { State.reset with lcs := { State.reset.lcs with fused := 2 } }, ?_, ?_⟩ <;> decide +kernel

theorem test_meets_LegacyCommandFrames_1 :
    ∃ (f : LegFrame) (s0 s : State),
      (s0.begin .decide = s) ∧ (s.frontFrame = some f) ∧ (f.good = true) ∧ (f.cmd = 0x10) ∧ (f.payload = []) := by
  refine ⟨⟨0x10, [], true, 3⟩, opened ({ ((State.reset.wrN Reg.LEG_STATUS (2 + 0)).wrN Reg.LEG_CFG 0x200) with
    leg := { State.reset.leg with frames := [⟨0x10, [], true, 3⟩] }, tick := 9 }),
    opened ({ ((State.reset.wrN Reg.LEG_STATUS (2 + 0)).wrN Reg.LEG_CFG 0x200) with
    leg := { State.reset.leg with frames := [⟨0x10, [], true, 3⟩] }, tick := 9 }),
    State.openDecide_open (decide_eq_true rfl), ?_, ?_, ?_, ?_⟩ <;> decide +kernel

theorem test_meets_LegacyCommandFrames_2 :
    ∃ (f : LegFrame) (s : State),
      (s.frontFrame = some f) ∧ (f.good = true) ∧ (f.cmd = 0x11) ∧ (f.payload = []) := by
  refine ⟨⟨0x11, [], true, 3⟩, { ((State.reset.wrN Reg.LEG_STATUS (2 + 0x600000)).wrN Reg.LEG_CFG 0x200) with
    leg := { State.reset.leg with frames := [⟨0x11, [], true, 3⟩], lost := 3 }, tick := 9 }, ?_, ?_, ?_,
    ?_⟩ <;> decide +kernel

theorem test_meets_LegacyCommandFrames_3 :
    ∃ (f : LegFrame) (s0 s : State),
      (s0.begin .decide = s) ∧ (s.frontFrame = some f) ∧ (f.good = true) ∧ (f.cmd = 0x20) ∧ (f.payload = [0]) ∧
        (s.legState = 2) ∧ (s.holding = true) ∧ (s.safe = false) := by
  refine ⟨⟨0x20, [0], true, 3⟩, opened ({ ((State.reset.wrN Reg.LEG_STATUS (2 + 0)).wrN Reg.LEG_CFG 0x200) with
    leg := { State.reset.leg with frames := [⟨0x20, [0], true, 3⟩] }, tick := 9 }),
    opened ({ ((State.reset.wrN Reg.LEG_STATUS (2 + 0)).wrN Reg.LEG_CFG 0x200) with
    leg := { State.reset.leg with frames := [⟨0x20, [0], true, 3⟩] }, tick := 9 }),
    State.openDecide_open (decide_eq_true rfl), ?_, ?_, ?_, ?_, ?_, ?_, ?_⟩ <;> decide +kernel

theorem test_meets_LegacyCommandFrames_4 :
    ∃ (f : LegFrame) (s0 s : State),
      (s0.begin .decide = s) ∧ (s.frontFrame = some f) ∧ (f.good = true) ∧ (f.cmd = 0x20) ∧ (f.payload = [1]) ∧
        (s.legState = 2) ∧ (s.holding = true) ∧ (s.safe = false) := by
  refine ⟨⟨0x20, [1], true, 3⟩, opened ({ ((State.reset.wrN Reg.LEG_STATUS (2 + 0)).wrN Reg.LEG_CFG 0x200) with
    leg := { State.reset.leg with frames := [⟨0x20, [1], true, 3⟩] }, tick := 9 }),
    opened ({ ((State.reset.wrN Reg.LEG_STATUS (2 + 0)).wrN Reg.LEG_CFG 0x200) with
    leg := { State.reset.leg with frames := [⟨0x20, [1], true, 3⟩] }, tick := 9 }),
    State.openDecide_open (decide_eq_true rfl), ?_, ?_, ?_, ?_, ?_, ?_, ?_⟩ <;> decide +kernel

theorem test_meets_LegacyCommandFrames_5 :
    ∃ (f : LegFrame) (x : Nat) (s0 s : State),
      (s0.begin .decide = s) ∧ (s.frontFrame = some f) ∧ (f.good = true) ∧ (f.cmd = 0x20) ∧ (f.payload = [x]) ∧
        (s.legState = 2) ∧ (2 ≤ x) := by
  refine ⟨⟨0x20, [2], true, 3⟩, 2, opened ({ ((State.reset.wrN Reg.LEG_STATUS (2 + 0)).wrN Reg.LEG_CFG 0x200) with
    leg := { State.reset.leg with frames := [⟨0x20, [2], true, 3⟩] }, tick := 9 }),
    opened ({ ((State.reset.wrN Reg.LEG_STATUS (2 + 0)).wrN Reg.LEG_CFG 0x200) with
    leg := { State.reset.leg with frames := [⟨0x20, [2], true, 3⟩] }, tick := 9 }),
    State.openDecide_open (decide_eq_true rfl), ?_, ?_, ?_, ?_, ?_, ?_⟩ <;> decide +kernel

theorem test_meets_LegacyCommandFrames_6 :
    ∃ (f : LegFrame) (s0 s : State),
      (s0.begin .decide = s) ∧ (s.frontFrame = some f) ∧ (f.good = true) ∧ (f.cmd = 0x20) ∧ (s.legState = 3) := by
  refine ⟨⟨0x20, [], true, 3⟩, opened ({ ((State.reset.wrN Reg.LEG_STATUS (3 + 0)).wrN Reg.LEG_CFG 0x200) with
    leg := { State.reset.leg with frames := [⟨0x20, [], true, 3⟩] }, tick := 9 }),
    opened ({ ((State.reset.wrN Reg.LEG_STATUS (3 + 0)).wrN Reg.LEG_CFG 0x200) with
    leg := { State.reset.leg with frames := [⟨0x20, [], true, 3⟩] }, tick := 9 }),
    State.openDecide_open (decide_eq_true rfl), ?_, ?_, ?_, ?_⟩ <;> decide +kernel

theorem test_meets_LegacyCommandFrames_7 :
    ∃ (f : LegFrame) (l0 l1 n0 n1 tray bin : Nat) (s : State),
      (s.frontFrame = some f) ∧ (f.good = true) ∧ (f.cmd = 0x21) ∧ (f.payload = [l0, l1, n0, n1, tray, bin]) ∧
        (l0 < 256) ∧ (l1 < 256) ∧ (l0 + 256 * l1 ≠ 0) := by
  refine ⟨⟨0x21, [1, 2, 3, 4, 5, 6], true, 3⟩, 1, 2, 3, 4, 5, 6,
    { ((State.reset.wrN Reg.LEG_STATUS (2 + 0)).wrN Reg.LEG_CFG 0x200) with
    leg := { State.reset.leg with frames := [⟨0x21, [1, 2, 3, 4, 5, 6], true, 3⟩] }, tick := 9 }, ?_, ?_, ?_, ?_, ?_,
    ?_, ?_⟩ <;> decide +kernel

theorem test_meets_LegacyCommandFrames_8 :
    ∃ (f : LegFrame) (n0 n1 tray bin : Nat) (s : State),
      (s.frontFrame = some f) ∧ (f.good = true) ∧ (f.cmd = 0x21) ∧ (f.payload = [0, 0, n0, n1, tray, bin]) ∧
        (s.legState = 2) := by
  refine ⟨⟨0x21, [0, 0, 3, 4, 5, 6], true, 3⟩, 3, 4, 5, 6,
    { ((State.reset.wrN Reg.LEG_STATUS (2 + 0)).wrN Reg.LEG_CFG 0x200) with
    leg := { State.reset.leg with frames := [⟨0x21, [0, 0, 3, 4, 5, 6], true, 3⟩] }, tick := 9 }, ?_, ?_, ?_, ?_,
    ?_⟩ <;> decide +kernel

theorem test_meets_LegacyCommandFrames_9 :
    ∃ (f : LegFrame) (t0 t1 : Nat) (s : State),
      (s.frontFrame = some f) ∧ (f.good = true) ∧ (f.cmd = 0x22) ∧ (f.payload = [t0, t1]) ∧ (t0 + 256 * t1 ≤ 4095) :=
        by
  refine ⟨⟨0x22, [255, 15], true, 3⟩, 255, 15,
    { ((State.reset.wrN Reg.LEG_STATUS (2 + 0)).wrN Reg.LEG_CFG 0x200) with
    leg := { State.reset.leg with frames := [⟨0x22, [255, 15], true, 3⟩] }, tick := 9 }, ?_, ?_, ?_, ?_,
    ?_⟩ <;> decide +kernel

theorem test_meets_LegacyCommandFrames_10 :
    ∃ (f : LegFrame) (t0 t1 : Nat) (s : State),
      (s.frontFrame = some f) ∧ (f.good = true) ∧ (f.cmd = 0x22) ∧ (f.payload = [t0, t1]) ∧ (4095 < t0 + 256 * t1) ∧
        (s.legState = 2) := by
  refine ⟨⟨0x22, [0, 16], true, 3⟩, 0, 16, { ((State.reset.wrN Reg.LEG_STATUS (2 + 0)).wrN Reg.LEG_CFG 0x200) with
    leg := { State.reset.leg with frames := [⟨0x22, [0, 16], true, 3⟩] }, tick := 9 }, ?_, ?_, ?_, ?_, ?_,
    ?_⟩ <;> decide +kernel

theorem test_meets_LegacyCommandFrames_11 :
    ∃ (f : LegFrame) (w0 w1 : Nat) (s : State),
      (s.frontFrame = some f) ∧ (f.good = true) ∧ (f.cmd = 0x23) ∧ (f.payload = [w0, w1]) ∧ (w0 + 256 * w1 ≠ 0) ∧
        (w0 + 256 * w1 ≤ s.legLineBytes / 8) ∧ (w0 + 256 * w1 < 2048) := by
  refine ⟨⟨0x23, [2, 0], true, 3⟩, 2, 0, { ((State.reset.wrN Reg.LEG_STATUS (2 + 0)).wrN Reg.LEG_CFG 0x200) with
    leg := { State.reset.leg with frames := [⟨0x23, [2, 0], true, 3⟩] }, tick := 9, alm := { State.reset.alm with
    bank0 := lineVolume, bank1 := lineVolume } }, ?_, ?_, ?_, ?_, ?_, ?_, ?_⟩ <;> decide +kernel

theorem test_meets_LegacyCommandFrames_12 :
    ∃ (f : LegFrame) (s : State),
      (s.frontFrame = some f) ∧ (f.good = true) ∧ (f.cmd = 0x23) ∧ (f.payload = [0, 0]) ∧ (s.legState = 2) := by
  refine ⟨⟨0x23, [0, 0], true, 3⟩, { ((State.reset.wrN Reg.LEG_STATUS (2 + 0)).wrN Reg.LEG_CFG 0x200) with
    leg := { State.reset.leg with frames := [⟨0x23, [0, 0], true, 3⟩] }, tick := 9 }, ?_, ?_, ?_, ?_,
    ?_⟩ <;> decide +kernel

theorem test_meets_LegacyCommandFrames_13 :
    ∃ (f : LegFrame) (s0 s : State),
      (s0.begin .decide = s) ∧ (s.frontFrame = some f) ∧ (f.good = true) ∧ (f.cmd = 0x30) ∧ (f.payload = []) ∧
        (s.legState = 2) := by
  refine ⟨⟨0x30, [], true, 3⟩, opened ({ ((State.reset.wrN Reg.LEG_STATUS (2 + 0)).wrN Reg.LEG_CFG 0x200) with
    leg := { State.reset.leg with frames := [⟨0x30, [], true, 3⟩] }, tick := 9 }),
    opened ({ ((State.reset.wrN Reg.LEG_STATUS (2 + 0)).wrN Reg.LEG_CFG 0x200) with
    leg := { State.reset.leg with frames := [⟨0x30, [], true, 3⟩] }, tick := 9 }),
    State.openDecide_open (decide_eq_true rfl), ?_, ?_, ?_, ?_, ?_⟩ <;> decide +kernel

theorem test_meets_LegacyCommandFrames_14 :
    ∃ (f : LegFrame) (s0 s : State),
      (s0.begin .decide = s) ∧ (s.frontFrame = some f) ∧ (f.good = true) ∧ (f.cmd = 0x30) ∧ (f.payload = []) ∧
        (s.legState = 4) := by
  refine ⟨⟨0x30, [], true, 3⟩, opened ({ ((State.reset.wrN Reg.LEG_STATUS (4 + 0)).wrN Reg.LEG_CFG 0x200) with
    leg := { State.reset.leg with frames := [⟨0x30, [], true, 3⟩] }, tick := 9 }),
    opened ({ ((State.reset.wrN Reg.LEG_STATUS (4 + 0)).wrN Reg.LEG_CFG 0x200) with
    leg := { State.reset.leg with frames := [⟨0x30, [], true, 3⟩] }, tick := 9 }),
    State.openDecide_open (decide_eq_true rfl), ?_, ?_, ?_, ?_, ?_⟩ <;> decide +kernel

theorem test_meets_LegacyCommandFrames_15 :
    ∃ (f : LegFrame) (s0 s : State),
      (s0.begin .decide = s) ∧ (s.frontFrame = some f) ∧ (f.good = true) ∧ (f.cmd = 0x31) ∧ (f.payload = []) ∧
        (s.legState = 4) ∧ (s.ledg.sheets = []) ∧ (s.leg.sleep = []) := by
  refine ⟨⟨0x31, [], true, 3⟩, opened ({ ((State.reset.wrN Reg.LEG_STATUS (4 + 0)).wrN Reg.LEG_CFG 0x200) with
    leg := { State.reset.leg with frames := [⟨0x31, [], true, 3⟩], syncs := true }, tick := 9 }),
    opened ({ ((State.reset.wrN Reg.LEG_STATUS (4 + 0)).wrN Reg.LEG_CFG 0x200) with
    leg := { State.reset.leg with frames := [⟨0x31, [], true, 3⟩], syncs := true }, tick := 9 }),
    State.openDecide_open (decide_eq_true rfl), ?_, ?_, ?_, ?_, ?_, ?_, ?_⟩ <;> decide +kernel

theorem test_meets_LegacyCommandFrames_16 :
    ∃ (f : LegFrame) (s0 s : State),
      (s0.begin .decide = s) ∧ (s.frontFrame = some f) ∧ (f.good = true) ∧ (f.cmd = 0x31) ∧ (f.payload = []) ∧
        (s.legState = 2) := by
  refine ⟨⟨0x31, [], true, 3⟩, opened ({ ((State.reset.wrN Reg.LEG_STATUS (2 + 0)).wrN Reg.LEG_CFG 0x200) with
    leg := { State.reset.leg with frames := [⟨0x31, [], true, 3⟩] }, tick := 9 }),
    opened ({ ((State.reset.wrN Reg.LEG_STATUS (2 + 0)).wrN Reg.LEG_CFG 0x200) with
    leg := { State.reset.leg with frames := [⟨0x31, [], true, 3⟩] }, tick := 9 }),
    State.openDecide_open (decide_eq_true rfl), ?_, ?_, ?_, ?_, ?_⟩ <;> decide +kernel

theorem test_meets_LegacyCommandFrames_17 :
    ∃ (f : LegFrame) (s0 s : State),
      (s0.begin (.ledg 4) = s) ∧ (s.ready (.ledg 4) = true) ∧ (s.frontFrame = some f) ∧ (f.good = true) ∧
        (f.cmd = 0x40) ∧ (f.payload = []) ∧ (s.legState = 4) ∧ (s.legJammed = true) ∧ (s.jammed = true) ∧
        (s.leg.jamAt ≠ s.tick + 1) ∧ (s.ledg.sheets = []) := by
  refine ⟨⟨0x40, [], true, 3⟩, opened
    ({ ((((State.reset.wrN Reg.LEG_STATUS (4 + 8)).wrN Reg.LEG_CFG 0x200).wrN Reg.LEDG_STATUS 0x400).wrN Reg.LEDG_COUNT_JAM 3) with leg := { State.reset.leg with frames := [⟨0x40, [], true, 3⟩] }, tick := 9 }), opened ({ ((((State.reset.wrN Reg.LEG_STATUS (4 + 8)).wrN Reg.LEG_CFG 0x200).wrN Reg.LEDG_STATUS 0x400).wrN Reg.LEDG_COUNT_JAM 3) with leg := { State.reset.leg with frames := [⟨0x40, [], true, 3⟩] }, tick := 9 }), State.openDecide_open (decide_eq_true rfl), ?_, ?_, ?_, ?_, ?_, ?_, ?_, ?_, ?_, ?_⟩ <;> decide +kernel

theorem test_meets_LegacyCommandFrames_18 :
    ∃ (f : LegFrame) (s0 s : State),
      (s0.begin (.ledg 4) = s) ∧ (s.ready (.ledg 4) = true) ∧ (s.frontFrame = some f) ∧ (f.good = true) ∧
        (f.cmd = 0x40) ∧ (f.payload = []) ∧ (s.legState = 4) ∧ (s.legJammed = false) := by
  refine ⟨⟨0x40, [], true, 3⟩, opened ({ ((State.reset.wrN Reg.LEG_STATUS (4 + 0)).wrN Reg.LEG_CFG 0x200) with
    leg := { State.reset.leg with frames := [⟨0x40, [], true, 3⟩] }, tick := 9 }),
    opened ({ ((State.reset.wrN Reg.LEG_STATUS (4 + 0)).wrN Reg.LEG_CFG 0x200) with
    leg := { State.reset.leg with frames := [⟨0x40, [], true, 3⟩] }, tick := 9 }),
    State.openDecide_open (decide_eq_true rfl), ?_, ?_, ?_, ?_, ?_, ?_, ?_⟩ <;> decide +kernel

theorem test_meets_LegacyCommandFrames_19 :
    ∃ (f : LegFrame) (p : LegPage) (sh : Sheet) (s0 s : State),
      (s0.begin (.ledg 4) = s) ∧ (s.ready (.ledg 4) = true) ∧ (s.frontFrame = some f) ∧ (f.good = true) ∧
        (f.cmd = 0x41) ∧ (f.payload = []) ∧ (s.leg.pages = [p]) ∧ (s.sheet p.id = some sh) ∧ (sh.id = p.id) ∧
        (sh.state = .announced) ∧ (s.flag Reg.LEG_TRACE 15 = false) := by
  refine ⟨⟨0x41, [], true, 3⟩, legPage1, legSheet1, opened
    ({ ((State.reset.wrN Reg.LEG_STATUS (4 + 0)).wrN Reg.LEG_CFG 0x200) with
    leg := { State.reset.leg with frames := [⟨0x41, [], true, 3⟩], pages := [legPage1] }, tick := 9, ledg :=
    { State.reset.ledg with sheets := [(1, legSheet1)] } }),
    opened ({ ((State.reset.wrN Reg.LEG_STATUS (4 + 0)).wrN Reg.LEG_CFG 0x200) with
    leg := { State.reset.leg with frames := [⟨0x41, [], true, 3⟩], pages := [legPage1] }, tick := 9, ledg :=
    { State.reset.ledg with sheets := [(1, legSheet1)] } }), State.openDecide_open (decide_eq_true rfl), ?_, ?_, ?_,
    ?_, ?_, ?_, ?_, ?_, ?_, ?_⟩ <;> decide +kernel

theorem test_meets_LegacyCommandFrames_20 :
    ∃ (f : LegFrame) (s0 s : State),
      (s0.begin (.ledg 4) = s) ∧ (s.ready (.ledg 4) = true) ∧ (s.frontFrame = some f) ∧ (f.good = true) ∧
        (f.cmd = 0x41) ∧ (f.payload = []) ∧ (s.leg.pages = []) ∧ (s.legState = 4) := by
  refine ⟨⟨0x41, [], true, 3⟩, opened ({ ((State.reset.wrN Reg.LEG_STATUS (4 + 0)).wrN Reg.LEG_CFG 0x200) with
    leg := { State.reset.leg with frames := [⟨0x41, [], true, 3⟩] }, tick := 9 }),
    opened ({ ((State.reset.wrN Reg.LEG_STATUS (4 + 0)).wrN Reg.LEG_CFG 0x200) with
    leg := { State.reset.leg with frames := [⟨0x41, [], true, 3⟩] }, tick := 9 }),
    State.openDecide_open (decide_eq_true rfl), ?_, ?_, ?_, ?_, ?_, ?_, ?_⟩ <;> decide +kernel

theorem test_meets_LegacyCommandFrames_21 :
    ∃ (f : LegFrame) (s : State),
      (s.frontFrame = some f) ∧ (f.good = true) ∧ (f.cmd = 0x50) ∧ (f.payload = []) := by
  refine ⟨⟨0x50, [], true, 3⟩, { ((State.reset.wrN Reg.LEG_STATUS (2 + 0)).wrN Reg.LEG_CFG 0x200) with
    leg := { State.reset.leg with frames := [⟨0x50, [], true, 3⟩] }, tick := 9 }, ?_, ?_, ?_, ?_⟩ <;> decide +kernel

theorem test_meets_LegacyCommandFrames_22 :
    ∃ (f : LegFrame) (a : Nat) (s : State),
      (s.frontFrame = some f) ∧ (f.good = true) ∧ (f.cmd = 0x60) ∧ (f.payload = [a]) := by
  refine ⟨⟨0x60, [0x15], true, 3⟩, 0x15,
    { (((State.reset.wrN Reg.LEG_STATUS (2 + 0)).wrN Reg.LEG_CFG 0x200).wrN Reg.LEG_TOP 0x123) with
    leg := { State.reset.leg with frames := [⟨0x60, [0x15], true, 3⟩] }, tick := 9 }, ?_, ?_, ?_,
    ?_⟩ <;> decide +kernel

theorem test_meets_LegacyCommandFrames_23 :
    ∃ (f : LegFrame) (a v : Nat) (s : State),
      (s.frontFrame = some f) ∧ (f.good = true) ∧ (f.cmd = 0x61) ∧ (f.payload = [a, v]) := by
  refine ⟨⟨0x61, [0x15, 7], true, 3⟩, 0x15, 7,
    { ((State.reset.wrN Reg.LEG_STATUS (2 + 0)).wrN Reg.LEG_CFG 0x200) with
    leg := { State.reset.leg with frames := [⟨0x61, [0x15, 7], true, 3⟩] }, tick := 9 }, ?_, ?_, ?_,
    ?_⟩ <;> decide +kernel

theorem test_meets_LegacyCommandFrames_24 :
    ∃ (s0 s : State),
      (s0.begin .decide = s) ∧ (s.frontFrame = none) := by
  refine ⟨opened State.reset, opened State.reset, State.openDecide_open (decide_eq_true rfl), ?_⟩
  decide +kernel

theorem test_meets_LegacyCommandFrames_25 :
    ∃ (s : State),
      (s.frontFrame = none) := by
  refine ⟨State.reset, ?_⟩
  decide +kernel

theorem test_meets_LegacyCommandFrames_26 :
    ∃ (s0 s : State),
      (s0.begin .decide = s) ∧ (s.frontFrame = none) := by
  refine ⟨opened State.reset, opened State.reset, State.openDecide_open (decide_eq_true rfl), ?_⟩
  decide +kernel

theorem test_meets_LegacyCommandFrames_27 :
    ∃ (s : State),
      (s.frontFrame = none) := by
  refine ⟨State.reset, ?_⟩
  decide +kernel

theorem test_meets_LegacyCommandFrames_28 :
    ∃ (s : State),
      (s.frontFrame = none) := by
  refine ⟨State.reset, ?_⟩
  decide +kernel

theorem test_meets_LegacyCommandFrames_29 :
    ∃ (s : State),
      (s.frontFrame = none) := by
  refine ⟨State.reset, ?_⟩
  decide +kernel

theorem test_meets_LegacyCommandFrames_30 :
    ∃ (s0 s : State),
      (s0.begin .decide = s) ∧ (s.frontFrame = none) := by
  refine ⟨opened State.reset, opened State.reset, State.openDecide_open (decide_eq_true rfl), ?_⟩
  decide +kernel

theorem test_meets_LegacyCommandFrames_31 :
    ∃ (s0 s : State),
      (s0.begin .decide = s) ∧ (s.frontFrame = none) := by
  refine ⟨opened State.reset, opened State.reset, State.openDecide_open (decide_eq_true rfl), ?_⟩
  decide +kernel

theorem test_meets_LegacyCommandFrames_32 :
    ∃ (s0 s : State),
      (s0.begin (.ledg 4) = s) ∧ (s.ready (.ledg 4) = true) ∧ (s.frontFrame = none) := by
  refine ⟨opened State.reset, opened State.reset, State.openDecide_open (decide_eq_true rfl), ?_,
    ?_⟩ <;> decide +kernel

theorem test_meets_LegacyCommandFrames_33 :
    ∃ (s0 s : State),
      (s0.begin (.ledg 4) = s) ∧ (s.ready (.ledg 4) = true) ∧ (s.frontFrame = none) := by
  refine ⟨opened State.reset, opened State.reset, State.openDecide_open (decide_eq_true rfl), ?_,
    ?_⟩ <;> decide +kernel

theorem test_meets_LegacyCommandFrames_34 :
    ∃ (s : State),
      (s.frontFrame = none) := by
  refine ⟨State.reset, ?_⟩
  decide +kernel

theorem test_meets_LegacyCommandFrames_35 :
    ∃ (s : State),
      (s.frontFrame = none) := by
  refine ⟨State.reset, ?_⟩
  decide +kernel

theorem test_meets_LegacyCommandFrames_36 :
    ∃ (s : State),
      (s.frontFrame = none) := by
  refine ⟨State.reset, ?_⟩
  decide +kernel

theorem test_meets_LegacyPortEvents_1 :
    ∃ (b : Byte) (err : Bool) (s : State),
      (s.legState = 0) := by
  refine ⟨2, false, State.reset, ?_⟩
  decide +kernel

theorem test_meets_LegacyPortEvents_2 :
    ∃ (b : Byte) (s : State),
      (s.legState ≠ 0) ∧ (s.leg.bytes = []) ∧ (b = 2) := by
  refine ⟨2, { (State.reset.wrN Reg.LEG_STATUS (2 + 0)) with tick := 7 }, ?_, ?_, ?_⟩ <;> decide +kernel

theorem test_meets_LegacyPortEvents_3 :
    ∃ (b : Byte) (cmd : Nat) (s : State),
      (s.legState ≠ 0) ∧ (s.leg.bytes = [2, 0, cmd]) ∧ (s.tick ≤ s.leg.byteAt + 80) ∧ (s.leg.frames = []) ∧
        (s.flag Reg.LEG_TRACE 15 = false) ∧ (legChk cmd [] = b.toNat) := by
  refine ⟨0xF0, 0x10, { (State.reset.wrN Reg.LEG_STATUS (2 + 0)) with
    leg := { State.reset.leg with bytes := [2, 0, 0x10], byteAt := 7 }, tick := 87 }, ?_, ?_, ?_, ?_, ?_,
    ?_⟩ <;> decide +kernel

theorem test_meets_LegacyPortEvents_4 :
    ∃ (b : Byte) (s : State),
      (s.legState ≠ 0) ∧ (s.leg.bytes = []) := by
  refine ⟨2, { (State.reset.wrN Reg.LEG_STATUS (2 + 0)) with tick := 7 }, ?_, ?_⟩ <;> decide +kernel

theorem test_meets_LegacyPortEvents_5 :
    ∃ (s : State),
      (s.leg.bytes ≠ []) ∧ (s.leg.byteAt + 80 ≤ s.tick) ∧ (s.legState ≠ 0) := by
  refine ⟨{ (State.reset.wrN Reg.LEG_STATUS (2 + 0)) with
    leg := { State.reset.leg with bytes := [2, 0, 0x10], byteAt := 7 }, tick := 87 }, ?_, ?_, ?_⟩ <;> decide +kernel

theorem test_meets_LegacyPortEvents_6 :
    ∃ (s : State),
      (s.tick < s.leg.byteAt + 80) := by
  refine ⟨{ State.reset with leg := { State.reset.leg with byteAt := 7 }, tick := 86 }, ?_⟩
  decide +kernel

theorem test_meets_LegacyPortEvents_7 :
    ∃ (r : LegReply) (rs : List LegReply) (s : State),
      (s.leg.replies = r :: rs) ∧ (r.due ≤ s.tick) ∧ (s.flag Reg.LEG_TRACE 15 = false) ∧ (r.status = none) := by
  refine ⟨⟨[6], 7, none⟩, [], { State.reset with
    leg := { State.reset.leg with replies := [⟨[6], 7, none⟩] }, tick := 7 }, ?_, ?_, ?_, ?_⟩ <;> decide +kernel

theorem test_meets_LegacyPortEvents_8 :
    ∃ (r : LegReply) (rs : List LegReply) (x : Nat) (s : State),
      (s.leg.replies = r :: rs) ∧ (r.due ≤ s.tick) ∧ (s.flag Reg.LEG_TRACE 15 = false) ∧ (r.status = some x) ∧
        (s.leg.changedAt ≤ x) ∧ (s.flag Reg.LEG_STATUS 6 = true) := by
  refine ⟨⟨[6], 7, some 3⟩, [], 3, { (State.reset.wrN Reg.LEG_STATUS (2 + 64)) with
    leg := { State.reset.leg with replies := [⟨[6], 7, some 3⟩], changedAt := 3 }, tick := 7 }, ?_, ?_, ?_, ?_, ?_,
    ?_⟩ <;> decide +kernel

theorem test_meets_LegacyPortEvents_9 :
    ∃ (r : LegReply) (rs : List LegReply) (s : State),
      (s.leg.replies = r :: rs) ∧ (s.tick < r.due) := by
  refine ⟨⟨[6], 8, none⟩, [], { State.reset with
    leg := { State.reset.leg with replies := [⟨[6], 8, none⟩] }, tick := 7 }, ?_, ?_⟩ <;> decide +kernel

theorem test_meets_LegacyPortEvents_10 :
    ∃ (s0 s : State),
      (s0.begin .decide = s) ∧ (s.legState = 3) ∧ (s.legWarm = true) ∧ (s.legJammed = false) := by
  refine ⟨opened legWarmed, opened legWarmed, State.openDecide_open (decide_eq_true rfl), ?_, ?_,
    ?_⟩ <;> decide +kernel

theorem test_meets_LegacyPortEvents_11 :
    ∃ (s0 s : State),
      (s0.begin .decide = s) ∧ (s.legState = 3) ∧ (s.legWarm = false) := by
  refine ⟨opened (State.reset.wrN Reg.LEG_STATUS (3 + 0)), opened (State.reset.wrN Reg.LEG_STATUS (3 + 0)),
    State.openDecide_open (decide_eq_true rfl), ?_, ?_⟩ <;> decide +kernel

theorem test_meets_LegacyPortEvents_12 :
    ∃ (s0 s : State),
      (s0.begin .decide = s) ∧ (s.legState = 5) ∧ (s.holding = true) := by
  refine ⟨opened (State.reset.wrN Reg.LEG_STATUS (5 + 0)), opened (State.reset.wrN Reg.LEG_STATUS (5 + 0)),
    State.openDecide_open (decide_eq_true rfl), ?_, ?_⟩ <;> decide +kernel

theorem test_meets_LegacyPortEvents_13 :
    ∃ (s0 s : State),
      (s0.begin .decide = s) ∧ (s.holding = false) := by
  refine ⟨opened ((State.reset.wrN Reg.LEG_STATUS (5 + 0)).wrN Reg.ALM_STATUS 0),
    opened ((State.reset.wrN Reg.LEG_STATUS (5 + 0)).wrN Reg.ALM_STATUS 0),
    State.openDecide_open (decide_eq_true rfl), ?_⟩
  decide +kernel

theorem test_meets_LegacyPortEvents_14 :
    ∃ (go : Bool) (s : State),
      (s.leg.syncs = true) ∧ (s.legState = 4) ∧ (s.leg.edgeAt < (s.tick + 1) * 640000) ∧ (s.leg.goRun = 0) := by
  refine ⟨true, { (State.reset.wrN Reg.LEG_STATUS (4 + 0)) with
    leg := { State.reset.leg with syncs := true, edgeAt := 639999 } }, ?_, ?_, ?_, ?_⟩ <;> decide +kernel

theorem test_meets_LegacyPortEvents_15 :
    ∃ (s : State),
      (s.leg.syncs = true) ∧ (s.legState = 4) ∧ (s.leg.edgeAt < (s.tick + 1) * 640000) ∧ (s.leg.goRun = 1) ∧
        (s.leg.goSpent = false) ∧ (s.flag Reg.LEG_STATUS 4 = true) := by
  refine ⟨{ (State.reset.wrN Reg.LEG_STATUS (4 + 16)) with
    leg := { State.reset.leg with syncs := true, edgeAt := 639999, goRun := 1 } }, ?_, ?_, ?_, ?_, ?_,
    ?_⟩ <;> decide +kernel

theorem test_meets_LegacyPortEvents_16 :
    ∃ (go : Bool) (s : State),
      ((s.tick + 1) * 640000 ≤ s.leg.edgeAt) := by
  refine ⟨true, { State.reset with leg := { State.reset.leg with edgeAt := 640000 } }, ?_⟩
  decide +kernel

theorem test_meets_LegacyPortEvents_17 :
    ∃ (stn : Fin 4) (bytes : List Byte) (fault : Fin 3) (p
      : LegPage) (g : Nat) (rows : List (List Byte)) (n : LegPage) (s : State),
      (s.nextGroup stn = some (p, g)) ∧ (s.groupEdge p stn g ≤ s.leg.edge) ∧ (fault = 0) ∧
        (bytes.length = 4 * p.width) ∧ (g % 4 ≠ 3) ∧ (g + 1 ≠ legGroups p.lines) ∧
        ((p.rows.getD stn [] ++ groupRows p.width bytes).take (p.lines - 16 * (g / 4)) = rows) ∧ ({ p with
        groups := p.groups.set stn (g + 1), rows := p.rows.set stn rows } = n) := by
  refine ⟨2, [1, 2, 3, 4], 0, legPage1, 0, [[4], [3], [2], [1]], ⟨1, 64, 1, 0, 0, [0, 0, 1, 0], [[], [], [[4], [3],
    [2], [1]], []]⟩, { (State.reset.wrN Reg.LEG_STATUS (4 + 0)) with
    leg := { State.reset.leg with pages := [legPage1], edge := 9 } }, ?_, ?_, ?_, ?_, ?_, ?_, ?_,
    ?_⟩ <;> decide +kernel

theorem test_meets_LegacyPortEvents_18 :
    ∃ (stn : Fin 4) (bytes : List Byte) (fault : Fin 3) (p : LegPage) (g : Nat) (s : State),
      (s.nextGroup stn = some (p, g)) ∧ (s.groupEdge p stn g ≤ s.leg.edge) ∧ (bytes.length < 4 * p.width) ∧
        (g % 4 ≠ 3) ∧ (g + 1 ≠ legGroups p.lines) ∧ (fault ≠ 2) ∧ (s.flag Reg.LEG_TRACE 15 = false) := by
  refine ⟨2, [1, 2, 3], 1, legPage1, 0, { (State.reset.wrN Reg.LEG_STATUS (4 + 0)) with
    leg := { State.reset.leg with pages := [legPage1], edge := 9 } }, ?_, ?_, ?_, ?_, ?_, ?_, ?_⟩ <;> decide +kernel

theorem test_meets_LegacyPortEvents_19 :
    ∃ (stn : Fin 4) (bytes : List Byte) (fault : Fin 3) (s : State),
      (s.nextGroup stn = none) := by
  refine ⟨2, [], 0, State.reset, ?_⟩
  decide +kernel

theorem test_meets_LegacyPortEvents_20 :
    ∃ (it : Item) (s : State),
      (s.frontOf 0x13 20 2 = some it) ∧ (it.opcode = 1) ∧ (64 ≤ leAt it.data 0 2) ∧ (leAt it.data 0 2 ≤ 4095) ∧
        ((s.cq (leAt it.data 0 2)).classT = true) := by
  refine ⟨legTraceItem, { State.reset with
    host := { State.reset.host with inbox := [(0x13, [legTraceItem])] }, cnpy := { State.reset.cnpy with
    queues := [(100, { CanopyQ.init with cfg0 := 3 })] } }, ?_, ?_, ?_, ?_, ?_⟩ <;> decide +kernel

theorem test_meets_LegacyPortEvents_21 :
    ∃ (s : State),
      (s.frontOf 0x13 20 2 = none) := by
  refine ⟨State.reset, ?_⟩
  decide +kernel

theorem test_meets_LegacyPortEvents_22 :
    ∃ (lane : Fin 4) (st : Fin 3) (s : State),
      (s.legState ≠ 0) ∧ (s.fld (Reg.LEG_LANE_STATE lane) 1 0 ≠ st) := by
  refine ⟨3, 2, { ((State.reset.wrN Reg.LEG_STATUS (4 + 0)).wrN (Reg.LEG_LANE_STATE 3) 0x50001) with tick := 7 }, ?_,
    ?_⟩ <;> decide +kernel

theorem test_meets_LegacyPortEvents_23 :
    ∃ (lane : Fin 4) (st : Fin 3) (s : State),
      (s.legState = 0) := by
  refine ⟨3, 2, State.reset, ?_⟩
  decide +kernel

theorem test_meets_LegacyRegisterWindow_1 :
    ∃ (f : LegFrame) (a : Nat) (s : State),
      (s.frontFrame = some f) ∧ (f.good = true) ∧ (f.cmd = 0x60) ∧ (f.payload = [a]) ∧ (a < 256) := by
  refine ⟨⟨0x60, [0x15], true, 3⟩, 0x15,
    { (((State.reset.wrN Reg.LEG_STATUS (2 + 0)).wrN Reg.LEG_CFG 0x200).wrN Reg.LEG_TOP 0x123) with
    leg := { State.reset.leg with frames := [⟨0x60, [0x15], true, 3⟩] }, tick := 9 }, ?_, ?_, ?_, ?_,
    ?_⟩ <;> decide +kernel

theorem test_meets_LegacyRegisterWindow_2 :
    ∃ (f : LegFrame) (a v : Nat) (s : State),
      (s.frontFrame = some f) ∧ (f.good = true) ∧ (f.cmd = 0x61) ∧ (f.payload = [a, v]) := by
  refine ⟨⟨0x61, [255, 7], true, 3⟩, 255, 7, { ((State.reset.wrN Reg.LEG_STATUS (2 + 0)).wrN Reg.LEG_CFG 0x200) with
    leg := { State.reset.leg with frames := [⟨0x61, [255, 7], true, 3⟩] }, tick := 9 }, ?_, ?_, ?_,
    ?_⟩ <;> decide +kernel

end Sys2Proof.Tests
end

section
/-!
SUPPORT. Register writes into BAR0 (R7, R8, R73, R75, R78, R79): what a write of each form and access code does, one rule per
branch, and the proof of the statement about them.
-/

namespace Sys2Proof.Machine

/-! ### The turn of a register write -/

/-- A register write never waits for a step of the ledger. -/
@[simp] theorem State.ready_regTurn (s : State) (bar2 : Bool) (off : Nat) : s.ready (regTurn bar2 off) = true := by
  unfold regTurn
  split
  · rfl
  · split
    · rfl
    · rfl
    · rfl
    · split <;> rfl

/-- In its turn a register write is its effect on the state in which it is decided. -/
theorem exec_registerWrite_eq_eff {s0 s : State} {bar2 : Bool} {off : Nat} (w : Writer) (n : Nat) (v : DWord)
    (hb : s0.begin (regTurn bar2 off) = s) :
    exec (.registerWrite w bar2 off n v) s0 = effRegisterWrite w bar2 off n v s :=
  Turn.run_ready _ hb (s.ready_regTurn bar2 off)

/-- While the windows answer, a write into BAR0 is carried out as its width and offset say. -/
theorem exec_registerWrite_bar0 {s0 s : State} {a : Nat} {w : Writer} (n : Nat) (v : DWord)
    (hb : s0.begin (regTurn false a) = s) (ho : s.windowsOpen w = true) :
    exec (.registerWrite w false a n v) s0 = .next (s.bar0Write w a n v) := by
  rw [exec_registerWrite_eq_eff w n v hb]
  simp [effRegisterWrite, ho]

/-- A naturally aligned 32-bit write reaches its register (R75). -/
theorem State.bar0Write_aligned (s : State) (w : Writer) {a : Nat} (v : DWord) (ha : a % 4 = 0) :
    s.bar0Write w a 4 v = s.regWrite w a (v.setWidth 32) := by
  simp [State.bar0Write, ha]

/-- A write of another form is discarded under HOST_ERR bit 2; the MSI-X table alone takes aligned 64-bit writes (R73, R75). -/
theorem State.bar0Write_malformed (s : State) (w : Writer) {a n : Nat} (v : DWord) (h4 : n ≠ 4 ∨ a % 4 ≠ 0)
    (h8 : ¬ (n = 8 ∧ a % 8 = 0 ∧ inMsixTable a = true)) : s.bar0Write w a n v = s.discarded 2 0 a := by
  have h4' : ¬ (n = 4 ∧ a % 4 = 0) := by omega
  rw [State.bar0Write, if_neg h4', if_neg h8]

/-- An aligned write of 32 bits while the windows answer is the write of that register. -/
theorem exec_registerWrite_aligned {s0 s : State} {a : Nat} {w : Writer} (v : DWord)
    (hb : s0.begin (regTurn false a) = s) (ho : s.windowsOpen w = true) (ha : a % 4 = 0) :
    exec (.registerWrite w false a 4 v) s0 = .next (s.regWrite w a (v.setWidth 32)) := by
  rw [exec_registerWrite_bar0 4 v hb ho, s.bar0Write_aligned w v ha]

/-! ### Which way a write goes -/

theorem State.regWrite_discarded {s : State} {w : Writer} {a b : Nat} (v : Word) (hd : s.discardBit w a = some b) :
    s.regWrite w a v = s.discarded b 0 a := by
  simp [State.regWrite, hd]

theorem State.regWrite_accepted {s : State} {w : Writer} {a : Nat} {v : Word} (hd : s.discardBit w a = none)
    (hr : s.reservedEncoding a v.toNat = false) : s.regWrite w a v = s.applyWrite w a v := by
  simp [State.regWrite, hd, hr]

/-- The bits of HOST_ERR that report a discarded register write (R78). -/
theorem State.discardBit_mem {s : State} {w : Writer} {a b : Nat} (hd : s.discardBit w a = some b) :
    b = 10 ∨ b = 0 ∨ b = 3 := by
  unfold State.discardBit at hd
  split at hd
  · exact .inl (Option.some.inj hd).symm
  · split at hd
    · exact .inr (.inl (Option.some.inj hd).symm)
    · split at hd
      · exact .inr (.inr (Option.some.inj hd).symm)
      · split at hd
        · exact .inr (.inr (Option.some.inj hd).symm)
        · cases hd

/-! ### The report of a discarded write (R78) -/

@[simp] theorem State.flt_hostErr (s : State) (b : Nat) : (s.hostErr b).flt = s.flt := by
  rw [State.hostErr, State.raiseBit_flt]

@[simp] theorem State.tick_hostErr (s : State) (b : Nat) : (s.hostErr b).tick = s.tick := by
  rw [State.hostErr, State.raiseBit_tick]

@[simp] theorem State.rdN_fault (s : State) (x y z a : Nat) : (s.fault x y z).rdN a = s.rdN a := rfl

/-- A fault message joins those sent before it, with the present tick (R423). -/
@[simp] theorem State.sent_fault (s : State) (x y z : Nat) :
    (s.fault x y z).flt.sent = s.flt.sent ++ [⟨x, y, z, s.tick⟩] := rfl

theorem State.flag_discarded (s : State) {b : Nat} (bar off : Nat) (hb : b < 32) :
    (s.discarded b bar off).flag Reg.HOST_ERR b = true := by
  have hne : Reg.HOST_ERR ≠ Reg.HOST_ERR_ADDR := by decide
  rw [State.flag, State.discarded, State.rdN_fault, State.rdN_wrN_other _ _ hne, State.hostErr]
  exact s.flag_raiseBit_same Reg.HOST_ERR b hb

/-- HOST_ERR_ADDR names the BAR and the offset. -/
theorem State.rdN_discarded_addr (s : State) (b bar off : Nat) :
    (s.discarded b bar off).rdN Reg.HOST_ERR_ADDR = (bar * 2 ^ 26 + off % 2 ^ 26) % 2 ^ 32 := by
  rw [State.discarded, State.rdN_fault, State.rdN_wrN_same]

/-- ACCESS_REFUSED is sent last. -/
theorem State.sent_discarded (s : State) (b bar off : Nat) :
    (s.discarded b bar off).flt.sent = s.flt.sent ++ [⟨0x040, 0x03, off, s.tick⟩] := by
  rw [State.discarded, State.sent_fault, State.wrN_flt, State.wrN_tick, State.flt_hostErr, State.tick_hostErr]

theorem State.rd_discarded_other (s : State) (b bar off : Nat) {r : Nat} (h1 : r ≠ Reg.HOST_ERR)
    (h2 : r ≠ Reg.HOST_ERR_ADDR) : (s.discarded b bar off).rd r = s.rd r := by
  rw [State.discarded, State.rd_fault, State.rd_wrN_other _ _ h2, State.hostErr, State.rd_raiseBit_other _ _ h1]

/-- The whole report of a discarded BAR0 write. -/
theorem State.discarded_reported (s : State) {b : Nat} (a : Nat) (hb : b < 32) :
    (s.discarded b 0 a).flag Reg.HOST_ERR b = true ∧ (s.discarded b 0 a).rdN Reg.HOST_ERR_ADDR = a % 2 ^ 26 ∧
    (s.discarded b 0 a).flt.sent = s.flt.sent ++ [⟨0x040, 0x03, a, s.tick⟩] ∧
    (∀ r, r ≠ Reg.HOST_ERR → r ≠ Reg.HOST_ERR_ADDR → (s.discarded b 0 a).rd r = s.rd r) := by
  have haddr : (0 * 2 ^ 26 + a % 2 ^ 26) % 2 ^ 32 = a % 2 ^ 26 := by omega
  exact ⟨s.flag_discarded 0 a hb, (s.rdN_discarded_addr b 0 a).trans haddr, s.sent_discarded b 0 a,
    fun r h1 h2 => s.rd_discarded_other b 0 a h1 h2⟩

/-! ### What a write of each access code stores (R7, R8) -/

theorem State.wr_onlyChanges (s : State) (a : Nat) (v : Word) : s.onlyChanges (s.wr a v) (fun _ => False) (· = a) := by
  have h : Frame (fun _ => False) (· = a) s (s.wr a v) := State.wr_frame s a v (Frame.refl s) rfl
  exact h.onlyChanges

/-- Fixed fields stand in the thermal channels' registers alone (R487). -/
theorem fixThm_of_not_thm {a : Nat} (v : Nat) (h : regIn a (Reg.THM_CH_CFG 0) 32 20 = false) : fixThm a v = v := by
  have hn : regIndex a (Reg.THM_CH_CFG 0) 32 20 = none := by simpa [regIn] using h
  simp [fixThm, hn]

/-- What `plainRegister` excludes, by name. -/
theorem plainRegister_iff (a : Nat) : plainRegister a = true ↔
    enLink a = none ∧ regIndex a (Reg.LOOP_LP_SETPOINT 0) 128 64 = none ∧ a ≠ Reg.PWR_DOM_REQ ∧ a ≠ Reg.HWD_READ_SEQ ∧
    regIn a (Reg.BURL_DBIND 0) 4 32 = false ∧ regIn a (Reg.THM_CH_CFG 0) 32 20 = false ∧
    ¬ (Reg.CLK_BAND_b 0 0 ≤ a ∧ a < Reg.CLK_BAND_b 1 0) := by
  simp only [plainRegister, Bool.and_eq_true, Option.isNone_iff_eq_none, decide_eq_true_eq, Bool.not_eq_true',
    Bool.and_eq_false_iff, decide_eq_false_iff_not, and_assoc, not_and_or]

/-- A plain register takes the bits of its fields and keeps the others. -/
theorem State.storeWrite_plain (s : State) {a : Nat} (mask v : Word) (hp : plainRegister a = true) :
    s.storeWrite a mask v = s.wr a ((v &&& mask) ||| (s.rd a &&& ~~~mask)) := by
  obtain ⟨hlink, hset, hdom, hseq, hbind, hthm, -⟩ := (plainRegister_iff a).1 hp
  simp only [State.storeWrite, hlink, hset, hdom, hseq, hbind, if_false, Bool.false_eq_true]
  rw [fixThm_of_not_thm _ hthm, State.wrN, word, BitVec.ofNat_toNat, BitVec.setWidth_eq]

theorem State.applyWrite_valued {s : State} {a : Nat} {r : RegRow} (w : Writer) (v : Word) (hr : regRow a = some r)
    (hacc : r.access = .rw ∨ r.access = .rws ∨ r.access = .rwl) (hp : plainRegister a = true)
    (hs : s.reactionsShut a = false) :
    s.applyWrite w a v = s.wr a ((v &&& word r.mask) ||| (s.rd a &&& ~~~word r.mask)) := by
  obtain ⟨-, -, -, -, -, -, hband⟩ := (plainRegister_iff a).1 hp
  rw [← s.storeWrite_plain (word r.mask) v hp]
  rcases hacc with h | h | h <;> simp only [State.applyWrite, hr, h, hband, hs, or_self, Bool.false_eq_true, if_false]

theorem State.applyWrite_w1c {s : State} {a : Nat} {r : RegRow} (w : Writer) (v : Word) (hr : regRow a = some r)
    (hacc : r.access = .w1c) : s.applyWrite w a v = s.wr a (s.rd a &&& ~~~(v &&& word r.mask)) := by
  simp only [State.applyWrite, hr, hacc]

/-- A reserved offset and an RO register take no write. -/
theorem State.applyWrite_readOnly {s : State} {a : Nat} {r : RegRow} (w : Writer) (v : Word)
    (h : regRow a = none ∨ regRow a = some r ∧ r.access = .ro) : s.applyWrite w a v = s := by
  rcases h with hn | ⟨hr, hacc⟩
  · simp only [State.applyWrite, hn]
  · simp only [State.applyWrite, hr, hacc]

/-! ### BAR2 -/

/-- A doorbell write of the right form is checked now, or waits for its INGRESS slot; it goes on either way (R45, R90). -/
theorem execDoorbell_goesOn (k : Fin 16) (v : Word) (s : State) : ∃ t, execDoorbell k 0 4 v s = .next t := by
  have hform : ¬ (4 ≠ 4 ∨ 0 % 4 ≠ 0) := by decide
  rw [execDoorbell, if_neg hform, if_neg (not_not.2 rfl)]
  split
  · exact ⟨_, rfl⟩
  · exact ⟨_, rfl⟩

/-- A write at the start of a doorbell page of BAR2 is the doorbell of that ring (R89). -/
theorem exec_registerWrite_bar2 {s0 s : State} {w : Writer} {k : Fin 16} (n : Nat) (v : DWord)
    (hb : s0.begin (regTurn true (4096 * k.val)) = s) (ho : s.windowsOpen w = true) :
    exec (.registerWrite w true (4096 * k.val) n v) s0 = execDoorbell k 0 n (v.setWidth 32) s := by
  have hlt : 4096 * k.val < 65536 := by omega
  have hk : Fin.ofNat 16 (4096 * k.val / 4096) = k := by
    apply Fin.ext
    simp only [Fin.ofNat]
    omega
  have ho0 : 4096 * k.val % 4096 = 0 := by omega
  rw [exec_registerWrite_eq_eff w n v hb, effRegisterWrite, ho, hk, ho0]
  simp [hlt]

/-! ### The statement -/

/-- Settles O12, by the rule of the branch that each form of a write takes. -/
theorem registerWritesAreCheckedAndApplied : Obligations.RegisterWritesAreCheckedAndApplied := by
  unfold Obligations.RegisterWritesAreCheckedAndApplied
  refine ⟨?valued, ?w1c, ?readOnly, ?discarded, ?malformed, ?doorbell⟩
  case valued =>
    intro w a v r s0 s hb ho ha hd hres hr hacc hp hs
    refine ⟨_, exec_registerWrite_aligned v hb ho ha, ?_⟩
    rw [State.regWrite_accepted hd hres, State.applyWrite_valued w _ hr hacc hp hs]
    exact ⟨s.rd_wr_same a _, s.wr_onlyChanges a _⟩
  case w1c =>
    intro w a v r s0 s hb ho ha hd hres hr hacc
    refine ⟨_, exec_registerWrite_aligned v hb ho ha, ?_⟩
    rw [State.regWrite_accepted hd hres, State.applyWrite_w1c w _ hr hacc]
    exact ⟨s.rd_wr_same a _, s.wr_onlyChanges a _⟩
  case readOnly =>
    intro w a v r s0 s hb ho ha hd hres hro
    refine ⟨_, exec_registerWrite_aligned v hb ho ha, ?_⟩
    rw [State.regWrite_accepted hd hres, State.applyWrite_readOnly w _ hro]
  case discarded =>
    intro w a b v s0 s hb ho ha hd
    have hlt : b < 32 := by
      have := State.discardBit_mem hd
      omega
    refine ⟨_, exec_registerWrite_aligned v hb ho ha, ?_⟩
    rw [State.regWrite_discarded _ hd]
    exact s.discarded_reported a hlt
  case malformed =>
    intro w a n v s0 s hb ho h4 h8
    refine ⟨_, exec_registerWrite_bar0 n v hb ho, ?_⟩
    rw [s.bar0Write_malformed w v h4 h8]
    exact s.discarded_reported a (by decide)
  case doorbell =>
    intro w k v s0 s hb ho
    obtain ⟨t, ht⟩ := execDoorbell_goesOn k (v.setWidth 32) s
    exact ⟨t, (exec_registerWrite_bar2 4 v hb ho).trans ht, ht⟩

end Sys2Proof.Machine
end

section
/-!
SUPPORT. The tick (R23, R24, R27 to R29, R130, R144, R145): every command as an effect in its turn, what that says of
the tick counter and of the order of the ledger's steps, and the proofs of the two statements about them.
-/

namespace Sys2Proof
open Sys2Proof.Machine

/-- What a command does once its turn has come, on the state in which it is decided (`exec_eq_run`). -/
def Instr.effect : Instr → State → Host.Outcome State Fault Refusal
  | .tick k => execTick k
  | .governorStepUp => effGovernorStepUp
  | .almanacPiece => execAlmanacPiece
  | .check => effCheck
  | .checkDone storage => effCheckDone storage
  | .switch => effSwitch
  | .firstActivation => effFirstActivation
  | .bankSwitch => effBankSwitch
  | .gradeRequest g => effGradeRequest g
  | .gradeChange => effGradeChange
  | .almCancel => effAlmCancel
  | .release => effRelease
  | .releaseAfterDrain => effReleaseAfterDrain
  | .switchLapse => effSwitchLapse
  | .drainingEnd => effDrainingEnd
  | .registerWrite w bar2 off n v => effRegisterWrite w bar2 off n v
  | .bar1Write w o bs => execBar1Write w o bs
  | .setupLock => execSetupLock
  | .ringStart k => execRingStart k
  | .ringResume k => execRingResume k
  | .ringStop k => execRingStop k
  | .ringStopped k => execRingStopped k
  | .doorbell k off n v => execDoorbell k off n v
  | .descriptorFetch k descs data => execDescriptorFetch k descs data
  | .hostReadError k onBuffer descs st => execHostReadError k onBuffer descs st
  | .takingResumed => execTakingResumed
  | .ringVector k => execRingVector k
  | .detach cause => execDetach cause
  | .attach rate cfg => execAttach rate cfg
  | .tableItem => execTableItem
  | .announce => effAnnounce
  | .purge => effPurge
  | .reprint => effReprint
  | .jamClear => effJamClear
  | .query => effQuery
  | .dataHeader stn frames => effDataHeader stn frames
  | .earlyWaitExpiry stn => effEarlyWaitExpiry stn
  | .framesAvailable stn frames => effFramesAvailable stn frames
  | .bandResident sheet stn band => execBandResident sheet stn band
  | .admission => effAdmission
  | .commit id => effCommit id
  | .pick id => effPick id
  | .sheetEdge point => effSheetEdge point
  | .edgeWindowExpiry id point trail => effEdgeWindowExpiry id point trail
  | .targetWithoutEdge id point trail => effTargetWithoutEdge id point trail
  | .bandBegun => execBandBegun
  | .bandDeadline id stn band => effBandDeadline id stn band
  | .lastLine => effLastLine
  | .underrunReport => effUnderrunReport
  | .beamFailureReport => effBeamFailureReport
  | .headShutdownReport => effHeadShutdownReport
  | .observerLossReport => effObserverLossReport
  | .decodeFailureReport => effDecodeFailureReport
  | .entryFreed id => effEntryFreed id
  | .backhitchDecided => effBackhitchDecided
  | .bhDecel => effBhDecel
  | .bhStop => effBhStop
  | .bhReverse => effBhReverse
  | .bhPark => effBhPark
  | .bhAccel => effBhAccel
  | .bhReverseAgain => effBhReverseAgain
  | .bhEnd => effBhEnd
  | .abandon => effAbandon
  | .parkLong => effParkLong
  | .segmentCompressed lane => execSegmentCompressed lane
  | .decodeBinding => effDecodeBinding
  | .segmentHandout lane => execSegmentHandout lane
  | .segmentDecoded lane => execSegmentDecoded lane
  | .lineStoreWrite lane => execLineStoreWrite lane
  | .trainingStart org bands => execTrainingStart org bands
  | .train => execTrain
  | .retrain => execRetrain
  | .trainingDone c0 c1 temp => execTrainingDone c0 c1 temp
  | .dramTempRead phy warmest hot => execDramTempRead phy warmest hot
  | .tracking => execTracking
  | .gapRetrain => effGapRetrain
  | .dramRequest ch arrivals now sampled ecc decoding => execDramRequest ch arrivals now sampled ecc decoding
  | .rhWindowClear => execRhWindowClear
  | .patrolScrub now0 now1 => execPatrolScrub now0 now1
  | .wipeGroupDone => execWipeGroupDone
  | .bdEdge k rising sub fine ecc => execBdEdge k rising sub fine ecc
  | .facetMissed k ecc => execFacetMissed k ecc
  | .facetEnd k => execFacetEnd k
  | .scanMeasClr mask => execScanMeasClr mask
  | .facetReport k bs => execFacetReport k bs
  | .tableAck k head table crc => execTableAck k head table crc
  | .tableAckTimeout k id => execTableAckTimeout k id
  | .statusReport k head crc => execStatusReport k head crc
  | .reportTimeout k => execReportTimeout k
  | .arm k => effArm k
  | .disarm k => effDisarm k
  | .reselect k => effReselect k
  | .clearFailed k => effClearFailed k
  | .ilkClear => effIlkClear
  | .ldenRise k => execLdenRise k
  | .lsiNLow => execLsiNLow
  | .interlockGathered => effInterlockGathered
  | .linkEnable l => execLinkEnable l
  | .linkDisable l => execLinkDisable l
  | .linkTrainingDone l nodes => execLinkTrainingDone l nodes
  | .linkTrainingTimeout l => execLinkTrainingTimeout l
  | .linkTimeout l => effLinkTimeout l
  | .commaLost l => execCommaLost l
  | .linkRetrain l => execLinkRetrain l
  | .stepFrameReturn k bs => execStepFrameReturn k bs
  | .stepStartTimeout a => effStepStartTimeout a
  | .stepEnable a => effStepEnable a
  | .stepDisable a => effStepDisable a
  | .stepMove a prof => effStepMove a prof
  | .stepVelocity a prof => effStepVelocity a prof
  | .stepStop a => effStepStop a
  | .stepHome a => effStepHome a
  | .stepEngage a => effStepEngage a
  | .stepDisengage a => effStepDisengage a
  | .stepSetPos a => effStepSetPos a
  | .stepClear a => effStepClear a
  | .reverseDwellEnd a => effReverseDwellEnd a
  | .scapEdge k level sub => execScapEdge k level sub
  | .homeEdgeQualified a => effHomeEdgeQualified a
  | .homeWindowEnd a => effHomeWindowEnd a
  | .axisFrameReturn k bs => execAxisFrameReturn k bs
  | .axisEnable a => effAxisEnable a
  | .axisDisable a => effAxisDisable a
  | .axisMove a prof => effAxisMove a prof
  | .axisVelocity a prof => effAxisVelocity a prof
  | .axisStop a => effAxisStop a
  | .axisSetPos a => effAxisSetPos a
  | .axisClear a => effAxisClear a
  | .catchTimeout a => effCatchTimeout a
  | .spindownTimeout a => effSpindownTimeout a
  | .observerLoss a => effObserverLoss a
  | .facetPeriodGathered a => execFacetPeriodGathered a
  | .recoverTimeout a => effRecoverTimeout a
  | .hvFrameReturn k bs => execHvFrameReturn k bs
  | .loopEnable l => effLoopEnable l
  | .loopDisable l => effLoopDisable l
  | .loopClear l => effLoopClear l
  | .learnClear l => effLearnClear l
  | .cellWrite q cells ptr => execCellWrite q cells ptr
  | .classTTimeout q => effClassTTimeout q
  | .scrubEnd => execScrubEnd
  | .queueWrite w => effQueueWrite w
  | .queueLoad => effQueueLoad
  | .queueFlush => effQueueFlush
  | .dmaStart w c => effDmaStart w c
  | .dmaAbort w c => effDmaAbort w c
  | .dmaAbortDone c => execDmaAbortDone c
  | .dmaResume w c => effDmaResume w c
  | .programCheckDone c host => execProgramCheckDone c host
  | .dmaDescriptor c host hsrc hdst => execDmaDescriptor c host hsrc hdst
  | .dataInstructionDone c hsrc hdst => execDataInstructionDone c hsrc hdst
  | .waitMet c => effWaitMet c
  | .waitTimeout c => effWaitTimeout c
  | .dmaEnd c => execDmaEnd c
  | .dmaBusError cause addr write => execDmaBusError cause addr write
  | .clearHalt => execClearHalt
  | .dmaEvtSet v => execDmaEvtSet v
  | .dmaEvtClr v => execDmaEvtClr v
  | .faultMessage src kind addr => execFaultMessage src kind addr
  | .escLeak => execEscLeak
  | .safeEnter w => effSafeEnter w
  | .safeExit => effSafeExit
  | .errnClear => effErrnClear
  | .escClr v => effEscClr v
  | .inject v => execInject v
  | .collectorIntegrity addr parity => execCollectorIntegrity addr parity
  | .chipResetWaitEnd => effChipResetWaitEnd
  | .hwdEvent => execHwdEvent
  | .recordWritten ok => execRecordWritten ok
  | .suppressionSummary c => execSuppressionSummary c
  | .recorderScanDone => execRecorderScanDone
  | .snapTake => execSnapTake
  | .readSeq v => execReadSeq v
  | .readLoaded => execReadLoaded
  | .clrRequest => execClrRequest
  | .clrSubmit w => execClrSubmit w
  | .clrCancel => execClrCancel
  | .challengeLapse => execChallengeLapse
  | .lockoutEnd => execLockoutEnd
  | .eraseDone => execEraseDone
  | .domainSwitch v => effDomainSwitch v
  | .domainUp half => execDomainUp half
  | .seqUp => effSeqUp
  | .seqDown w => effSeqDown w
  | .railSlot k => effRailSlot k
  | .pollRound ids found => execPollRound ids found
  | .seqReadDone x => execSeqReadDone x
  | .seqTransactionFailed k cmd => execSeqTransactionFailed k cmd
  | .pgTimeout r => effPgTimeout r
  | .offWaitEnd => effOffWaitEnd
  | .marginStep r => effMarginStep r
  | .snapshotDone readings => execSnapshotDone readings
  | .thermalConversion c v valid => execThermalConversion c v valid
  | .throttleRepeat => effThrottleRepeat
  | .thawRestart => effThawRestart
  | .headThaw k => effHeadThaw k
  | .pllLockDeclared => execPllLockDeclared
  | .pllLockLost p => execPllLockLost p
  | .clockFailure => execClockFailure
  | .powerOnReset ref50 modesel torn => execPowerOnReset ref50 modesel torn
  | .sramWipeDone => execSramWipeDone
  | .rstChip w now => effRstChip w now
  | .rstCore w now => effRstCore w now
  | .wdtKick => execWdtKick
  | .watchdogExpiry => effWatchdogExpiry
  | .boot f => execBoot f
  | .bootStaged f => execBootStaged f
  | .accept v => execAccept v
  | .lifecycleTransition target confirm => execLifecycleTransition target confirm
  | .fuseBurnDone => execFuseBurnDone
  | .otpProgram field verifyOk => execOtpProgram field verifyOk
  | .vddio33Low => execVddio33Low
  | .uartByte b err => execUartByte b err
  | .uartByteTimeout => execUartByteTimeout
  | .uartReply => execUartReply
  | .status => effStatus
  | .readError => execReadError
  | .speed => effSpeed
  | .paper => execPaper
  | .top => execTop
  | .width => execWidth
  | .warmup => effWarmup
  | .sleep => effSleep
  | .clearJam => effClearJam
  | .cancel => effCancel
  | .engineInfo => execEngineInfo
  | .readReg => execReadReg
  | .writeReg => execWriteReg
  | .legReady => effLegReady
  | .legStandby => effLegStandby
  | .lsyncEdge goLow => execLsyncEdge goLow
  | .groupWindowClose stn bytes fault => execGroupWindowClose stn bytes fault
  | .trace => execTrace
  | .videoLaneStateChange lane st => execVideoLaneStateChange lane st
  | .gapRetrainDone => execGapRetrainDone
  | .clkTickLoRead => execClkTickLoRead
  | .tapInstruction ir => execTapInstruction ir

end Sys2Proof

namespace Sys2Proof.Machine

/-! ### A command is its effect in its turn -/

theorem exec_eq_run (i : Instr) (s : State) : exec i s = i.turn.run i.effect s := by
  cases i with
  | detach cause => exact (Turn.run_any _ s).symm -- its effect is too deep for `rfl` to unfold
  | _ => rfl

/-- Of the state in which a command comes, its turn uses only the one in which it is decided. -/
theorem Turn.run_congr {u : Turn} {s s' : State} (f : State → Host.Outcome State Fault Refusal)
    (h : s.begin u = s'.begin u) : u.run f s = u.run f s' := by
  simp only [Turn.run, h]

/-! ### The tick counter (R23, R24) -/

/-- The effect of a command that is no tick, reset, boot or write leaves the tick counter, and keeps what `Frame` says
beside it. -/
theorem effect_keeps_tick {i : Instr} (hi : i.reachesAll = false) (s : State) :
    FrameO (· ≠ .tick) (fun _ => True) s (i.effect s) := by
  cases i with
  | tick | registerWrite | chipResetWaitEnd | thawRestart | clockFailure | powerOnReset | rstChip | rstCore |
  boot | bootStaged | fuseBurnDone | sleep => cases hi
  | governorStepUp => apply effGovernorStepUp_frame (hB := .refl s) <;> simp
  | almanacPiece => apply execAlmanacPiece_frame (hB := .refl s) <;> simp
  | check => apply effCheck_frame (hB := .refl s) <;> simp
  | checkDone => apply effCheckDone_frame (hB := .refl s) <;> simp
  | switch => apply effSwitch_frame (hB := .refl s) <;> simp
  | firstActivation => apply effFirstActivation_frame (hB := .refl s) <;> simp
  | bankSwitch => apply effBankSwitch_frame (hB := .refl s) <;> simp
  | gradeRequest => apply effGradeRequest_frame (hB := .refl s) <;> simp
  | gradeChange => apply effGradeChange_frame (hB := .refl s) <;> simp
  | almCancel => apply effAlmCancel_frame (hB := .refl s) <;> simp
  | release => apply effRelease_frame (hB := .refl s) <;> simp
  | releaseAfterDrain => apply effReleaseAfterDrain_frame (hB := .refl s) <;> simp
  | switchLapse => apply effSwitchLapse_frame (hB := .refl s) <;> simp
  | drainingEnd => apply effDrainingEnd_frame (hB := .refl s) <;> simp
  | bar1Write => apply execBar1Write_frame (hB := .refl s) <;> simp
  | setupLock => apply execSetupLock_frame (hB := .refl s) <;> simp
  | ringStart => apply execRingStart_frame (hB := .refl s) <;> simp
  | ringResume => apply execRingResume_frame (hB := .refl s) <;> simp
  | ringStop => apply execRingStop_frame (hB := .refl s) <;> simp
  | ringStopped => apply execRingStopped_frame (hB := .refl s); simp
  | doorbell => apply execDoorbell_frame (hB := .refl s) <;> simp
  | descriptorFetch => apply execDescriptorFetch_frame (hB := .refl s) <;> simp
  | hostReadError => apply execHostReadError_frame (hB := .refl s) <;> simp
  | takingResumed => apply execTakingResumed_frame (hB := .refl s); simp
  | ringVector => apply execRingVector_frame (hB := .refl s) <;> simp
  | detach => apply execDetach_frame (hB := .refl s) <;> simp
  | attach => apply execAttach_frame (hB := .refl s) <;> simp
  | tableItem => apply execTableItem_frame (hB := .refl s) <;> simp
  | announce => apply effAnnounce_frame (hB := .refl s) <;> simp
  | purge => apply effPurge_frame (hB := .refl s) <;> simp
  | reprint => apply effReprint_frame (hB := .refl s) <;> simp
  | jamClear => apply effJamClear_frame (hB := .refl s) <;> simp
  | query => apply effQuery_frame (hB := .refl s) <;> simp
  | dataHeader => apply effDataHeader_frame (hB := .refl s) <;> simp
  | earlyWaitExpiry => apply effEarlyWaitExpiry_frame (hB := .refl s) <;> simp
  | framesAvailable => apply effFramesAvailable_frame (hB := .refl s) <;> simp
  | bandResident => apply execBandResident_frame (hB := .refl s) <;> simp
  | admission => apply effAdmission_frame (hB := .refl s) <;> simp
  | commit => apply effCommit_frame (hB := .refl s) <;> simp
  | pick => apply effPick_frame (hB := .refl s) <;> simp
  | sheetEdge => apply effSheetEdge_frame (hB := .refl s) <;> simp
  | edgeWindowExpiry => apply effEdgeWindowExpiry_frame (hB := .refl s) <;> simp
  | targetWithoutEdge => apply effTargetWithoutEdge_frame (hB := .refl s); simp
  | bandBegun => apply execBandBegun_frame (hB := .refl s) <;> simp
  | bandDeadline => apply effBandDeadline_frame (hB := .refl s) <;> simp
  | lastLine => apply effLastLine_frame (hB := .refl s) <;> simp
  | underrunReport => apply effUnderrunReport_frame (hB := .refl s) <;> simp
  | beamFailureReport => apply effBeamFailureReport_frame (hB := .refl s) <;> simp
  | headShutdownReport => apply effHeadShutdownReport_frame (hB := .refl s) <;> simp
  | observerLossReport => apply effObserverLossReport_frame (hB := .refl s) <;> simp
  | decodeFailureReport => apply effDecodeFailureReport_frame (hB := .refl s) <;> simp
  | entryFreed => apply effEntryFreed_frame (hB := .refl s) <;> simp
  | backhitchDecided => apply effBackhitchDecided_frame (hB := .refl s) <;> simp
  | bhDecel => apply effBhDecel_frame (hB := .refl s) <;> simp
  | bhStop => apply effBhStop_frame (hB := .refl s) <;> simp
  | bhReverse => apply effBhReverse_frame (hB := .refl s) <;> simp
  | bhPark => apply effBhPark_frame (hB := .refl s) <;> simp
  | bhAccel => apply effBhAccel_frame (hB := .refl s) <;> simp
  | bhReverseAgain => apply effBhReverseAgain_frame (hB := .refl s) <;> simp
  | bhEnd => apply effBhEnd_frame (hB := .refl s) <;> simp
  | abandon => apply effAbandon_frame (hB := .refl s) <;> simp
  | parkLong => apply effParkLong_frame (hB := .refl s) <;> simp
  | segmentCompressed => apply execSegmentCompressed_frame (hB := .refl s) <;> simp
  | decodeBinding => apply effDecodeBinding_frame (hB := .refl s) <;> simp
  | segmentHandout => apply execSegmentHandout_frame (hB := .refl s) <;> simp
  | segmentDecoded => apply execSegmentDecoded_frame (hB := .refl s) <;> simp
  | lineStoreWrite => apply execLineStoreWrite_frame (hB := .refl s) <;> simp
  | trainingStart => apply execTrainingStart_frame (hB := .refl s) <;> simp
  | train => apply execTrain_frame (hB := .refl s) <;> simp
  | retrain => apply execRetrain_frame (hB := .refl s) <;> simp
  | trainingDone => apply execTrainingDone_frame (hB := .refl s) <;> simp
  | dramTempRead => apply execDramTempRead_frame (hB := .refl s) <;> simp
  | tracking => apply execTracking_frame (hB := .refl s); simp
  | gapRetrain => apply effGapRetrain_frame (hB := .refl s) <;> simp
  | dramRequest => apply execDramRequest_frame (hB := .refl s) <;> simp
  | rhWindowClear => apply execRhWindowClear_frame (hB := .refl s); simp
  | patrolScrub => apply execPatrolScrub_frame (hB := .refl s); simp
  | wipeGroupDone => apply execWipeGroupDone_frame (hB := .refl s) <;> simp
  | bdEdge => apply execBdEdge_frame (hB := .refl s) <;> simp
  | facetMissed => apply execFacetMissed_frame (hB := .refl s) <;> simp
  | facetEnd => apply execFacetEnd_frame (hB := .refl s) <;> simp
  | scanMeasClr => apply execScanMeasClr_frame (hB := .refl s) <;> simp
  | facetReport => apply execFacetReport_frame (hB := .refl s) <;> simp
  | tableAck => apply execTableAck_frame (hB := .refl s) <;> simp
  | tableAckTimeout => apply execTableAckTimeout_frame (hB := .refl s) <;> simp
  | statusReport => apply execStatusReport_frame (hB := .refl s) <;> simp
  | reportTimeout => apply execReportTimeout_frame (hB := .refl s) <;> simp
  | arm => apply effArm_frame (hB := .refl s) <;> simp
  | disarm => apply effDisarm_frame (hB := .refl s) <;> simp
  | reselect => apply effReselect_frame (hB := .refl s) <;> simp
  | clearFailed => apply effClearFailed_frame (hB := .refl s) <;> simp
  | ilkClear => apply effIlkClear_frame (hB := .refl s) <;> simp
  | ldenRise => apply execLdenRise_frame (hB := .refl s) <;> simp
  | lsiNLow => apply execLsiNLow_frame (hB := .refl s) <;> simp
  | interlockGathered => apply effInterlockGathered_frame (hB := .refl s) <;> simp
  | linkEnable => apply execLinkEnable_frame (hB := .refl s) <;> simp
  | linkDisable => apply execLinkDisable_frame (hB := .refl s) <;> simp
  | linkTrainingDone => apply execLinkTrainingDone_frame (hB := .refl s) <;> simp
  | linkTrainingTimeout => apply execLinkTrainingTimeout_frame (hB := .refl s) <;> simp
  | linkTimeout => apply effLinkTimeout_frame (hB := .refl s) <;> simp
  | commaLost => apply execCommaLost_frame (hB := .refl s) <;> simp
  | linkRetrain => apply execLinkRetrain_frame (hB := .refl s) <;> simp
  | stepFrameReturn => apply execStepFrameReturn_frame (hB := .refl s) <;> simp
  | stepStartTimeout => apply effStepStartTimeout_frame (hB := .refl s) <;> simp
  | stepEnable => apply effStepEnable_frame (hB := .refl s) <;> simp
  | stepDisable => apply effStepDisable_frame (hB := .refl s) <;> simp
  | stepMove => apply effStepMove_frame (hB := .refl s) <;> simp
  | stepVelocity => apply effStepVelocity_frame (hB := .refl s) <;> simp
  | stepStop => apply effStepStop_frame (hB := .refl s) <;> simp
  | stepHome => apply effStepHome_frame (hB := .refl s) <;> simp
  | stepEngage => apply effStepEngage_frame (hB := .refl s) <;> simp
  | stepDisengage => apply effStepDisengage_frame (hB := .refl s) <;> simp
  | stepSetPos => apply effStepSetPos_frame (hB := .refl s) <;> simp
  | stepClear => apply effStepClear_frame (hB := .refl s) <;> simp
  | reverseDwellEnd => apply effReverseDwellEnd_frame (hB := .refl s); simp
  | scapEdge => apply execScapEdge_frame (hB := .refl s) <;> simp
  | homeEdgeQualified => apply effHomeEdgeQualified_frame (hB := .refl s) <;> simp
  | homeWindowEnd => apply effHomeWindowEnd_frame (hB := .refl s) <;> simp
  | axisFrameReturn => apply execAxisFrameReturn_frame (hB := .refl s) <;> simp
  | axisEnable => apply effAxisEnable_frame (hB := .refl s) <;> simp
  | axisDisable => apply effAxisDisable_frame (hB := .refl s) <;> simp
  | axisMove => apply effAxisMove_frame (hB := .refl s) <;> simp
  | axisVelocity => apply effAxisVelocity_frame (hB := .refl s) <;> simp
  | axisStop => apply effAxisStop_frame (hB := .refl s) <;> simp
  | axisSetPos => apply effAxisSetPos_frame (hB := .refl s) <;> simp
  | axisClear => apply effAxisClear_frame (hB := .refl s) <;> simp
  | catchTimeout => apply effCatchTimeout_frame (hB := .refl s); simp
  | spindownTimeout => apply effSpindownTimeout_frame (hB := .refl s) <;> simp
  | observerLoss => apply effObserverLoss_frame (hB := .refl s) <;> simp
  | facetPeriodGathered => apply execFacetPeriodGathered_frame (hB := .refl s) <;> simp
  | recoverTimeout => apply effRecoverTimeout_frame (hB := .refl s) <;> simp
  | hvFrameReturn => apply execHvFrameReturn_frame (hB := .refl s) <;> simp
  | loopEnable => apply effLoopEnable_frame (hB := .refl s) <;> simp
  | loopDisable => apply effLoopDisable_frame (hB := .refl s) <;> simp
  | loopClear => apply effLoopClear_frame (hB := .refl s) <;> simp
  | learnClear => apply effLearnClear_frame (hB := .refl s) <;> simp
  | cellWrite => apply execCellWrite_frame (hB := .refl s) <;> simp
  | classTTimeout => apply effClassTTimeout_frame (hB := .refl s); simp
  | scrubEnd => apply execScrubEnd_frame (hB := .refl s) <;> simp
  | queueWrite => apply effQueueWrite_frame (hB := .refl s) <;> simp
  | queueLoad => apply effQueueLoad_frame (hB := .refl s) <;> simp
  | queueFlush => apply effQueueFlush_frame (hB := .refl s) <;> simp
  | dmaStart => apply effDmaStart_frame (hB := .refl s) <;> simp
  | dmaAbort => apply effDmaAbort_frame (hB := .refl s) <;> simp
  | dmaAbortDone => apply execDmaAbortDone_frame (hB := .refl s) <;> simp
  | dmaResume => apply effDmaResume_frame (hB := .refl s) <;> simp
  | programCheckDone => apply execProgramCheckDone_frame (hB := .refl s) <;> simp
  | dmaDescriptor => apply execDmaDescriptor_frame (hB := .refl s) <;> simp
  | dataInstructionDone => apply execDataInstructionDone_frame (hB := .refl s) <;> simp
  | waitMet => apply effWaitMet_frame (hB := .refl s) <;> simp
  | waitTimeout => apply effWaitTimeout_frame (hB := .refl s) <;> simp
  | dmaEnd => apply execDmaEnd_frame (hB := .refl s) <;> simp
  | dmaBusError => apply execDmaBusError_frame (hB := .refl s) <;> simp
  | clearHalt => apply execClearHalt_frame (hB := .refl s) <;> simp
  | dmaEvtSet => apply execDmaEvtSet_frame (hB := .refl s) <;> simp
  | dmaEvtClr => apply execDmaEvtClr_frame (hB := .refl s) <;> simp
  | faultMessage => apply execFaultMessage_frame (hB := .refl s) <;> simp
  | escLeak => apply execEscLeak_frame (hB := .refl s) <;> simp
  | safeEnter => apply effSafeEnter_frame (hB := .refl s) <;> simp
  | safeExit => apply effSafeExit_frame (hB := .refl s) <;> simp
  | errnClear => apply effErrnClear_frame (hB := .refl s) <;> simp
  | escClr => apply effEscClr_frame (hB := .refl s); simp
  | inject => apply execInject_frame (hB := .refl s) <;> simp
  | collectorIntegrity => apply execCollectorIntegrity_frame (hB := .refl s) <;> simp
  | hwdEvent => apply execHwdEvent_frame (hB := .refl s) <;> simp
  | recordWritten => apply execRecordWritten_frame (hB := .refl s) <;> simp
  | suppressionSummary => apply execSuppressionSummary_frame (hB := .refl s) <;> simp
  | recorderScanDone => apply execRecorderScanDone_frame (hB := .refl s) <;> simp
  | snapTake => apply execSnapTake_frame (hB := .refl s) <;> simp
  | readSeq => apply execReadSeq_frame (hB := .refl s) <;> simp
  | readLoaded => apply execReadLoaded_frame (hB := .refl s) <;> simp
  | clrRequest => apply execClrRequest_frame (hB := .refl s) <;> simp
  | clrSubmit => apply execClrSubmit_frame (hB := .refl s) <;> simp
  | clrCancel => apply execClrCancel_frame (hB := .refl s) <;> simp
  | challengeLapse => apply execChallengeLapse_frame (hB := .refl s) <;> simp
  | lockoutEnd => apply execLockoutEnd_frame (hB := .refl s); simp
  | eraseDone => apply execEraseDone_frame (hB := .refl s) <;> simp
  | domainSwitch => apply effDomainSwitch_frame (hB := .refl s) <;> simp
  | domainUp => apply execDomainUp_frame (hB := .refl s) <;> simp
  | seqUp => apply effSeqUp_frame (hB := .refl s) <;> simp
  | seqDown => apply effSeqDown_frame (hB := .refl s) <;> simp
  | railSlot => apply effRailSlot_frame (hB := .refl s) <;> simp
  | pollRound => apply execPollRound_frame (hB := .refl s) <;> simp
  | seqReadDone => apply execSeqReadDone_frame (hB := .refl s) <;> simp
  | seqTransactionFailed => apply execSeqTransactionFailed_frame (hB := .refl s) <;> simp
  | pgTimeout => apply effPgTimeout_frame (hB := .refl s) <;> simp
  | offWaitEnd => apply effOffWaitEnd_frame (hB := .refl s) <;> simp
  | marginStep => apply effMarginStep_frame (hB := .refl s) <;> simp
  | snapshotDone => apply execSnapshotDone_frame (hB := .refl s) <;> simp
  | thermalConversion => apply execThermalConversion_frame (hB := .refl s) <;> simp
  | throttleRepeat => apply effThrottleRepeat_frame (hB := .refl s) <;> simp
  | headThaw => apply effHeadThaw_frame (hB := .refl s) <;> simp
  | pllLockDeclared => apply execPllLockDeclared_frame (hB := .refl s) <;> simp
  | pllLockLost => apply execPllLockLost_frame (hB := .refl s) <;> simp
  | sramWipeDone => apply execSramWipeDone_frame (hB := .refl s) <;> simp
  | wdtKick => apply execWdtKick_frame (hB := .refl s); simp
  | watchdogExpiry => apply effWatchdogExpiry_frame (hB := .refl s) <;> simp
  | accept => apply execAccept_frame (hB := .refl s) <;> simp
  | lifecycleTransition => apply execLifecycleTransition_frame (hB := .refl s) <;> simp
  | otpProgram => apply execOtpProgram_frame (hB := .refl s) <;> simp
  | vddio33Low => apply execVddio33Low_frame (hB := .refl s) <;> simp
  | uartByte => apply execUartByte_frame (hB := .refl s) <;> simp
  | uartByteTimeout => apply execUartByteTimeout_frame (hB := .refl s) <;> simp
  | uartReply => apply execUartReply_frame (hB := .refl s) <;> simp
  | status => apply effStatus_frame (hB := .refl s) <;> simp
  | readError => apply execReadError_frame (hB := .refl s) <;> simp
  | speed => apply effSpeed_frame (hB := .refl s) <;> simp
  | paper => apply execPaper_frame (hB := .refl s) <;> simp
  | top => apply execTop_frame (hB := .refl s) <;> simp
  | width => apply execWidth_frame (hB := .refl s) <;> simp
  | warmup => apply effWarmup_frame (hB := .refl s) <;> simp
  | clearJam => apply effClearJam_frame (hB := .refl s) <;> simp
  | cancel => apply effCancel_frame (hB := .refl s) <;> simp
  | engineInfo => apply execEngineInfo_frame (hB := .refl s) <;> simp
  | readReg => apply execReadReg_frame (hB := .refl s) <;> simp
  | writeReg => apply execWriteReg_frame (hB := .refl s) <;> simp
  | legReady => apply effLegReady_frame (hB := .refl s) <;> simp
  | legStandby => apply effLegStandby_frame (hB := .refl s); simp
  | lsyncEdge => apply execLsyncEdge_frame (hB := .refl s) <;> simp
  | groupWindowClose => apply execGroupWindowClose_frame (hB := .refl s) <;> simp
  | trace => apply execTrace_frame (hB := .refl s) <;> simp
  | videoLaneStateChange => apply execVideoLaneStateChange_frame (hB := .refl s) <;> simp
  | gapRetrainDone => apply execGapRetrainDone_frame (hB := .refl s) <;> simp
  | clkTickLoRead => apply execClkTickLoRead_frame (hB := .refl s); simp
  | tapInstruction => apply execTapInstruction_frame (hB := .refl s) <;> simp

/-- So does the command itself, since beginning a turn leaves the tick counter too. -/
theorem exec_keeps_tick {i : Instr} (hi : i.reachesAll = false) (s : State) :
    FrameO (· ≠ .tick) (fun _ => True) s (exec i s) := by
  rw [exec_eq_run]
  refine Turn.run_frame _ _ s (fun v hv => ?_) (Frame.refl s) (fun _ h => h) (fun _ => trivial)
  exact ⟨fun _ e => hv.trans ((effect_keeps_tick hi v).get e)⟩

theorem Frame.tick_eq {R : Nat → Prop} {s t : State} (h : Frame (· ≠ .tick) R s t) : t.tick = s.tick :=
  h.parts .tick fun hne => hne rfl

@[simp] theorem State.tick_tickCompute (s : State) : s.tickCompute.tick = s.tick :=
  (State.tickCompute_frame (R := fun _ => True) s (Frame.refl s) (fun _ h => h) fun _ => trivial).tick_eq

@[simp] theorem State.tick_tickEmit (s : State) : s.tickEmit.tick = s.tick :=
  (State.tickEmit_frame (R := fun _ => True) s (Frame.refl s) (fun _ h => h) fun _ => trivial).tick_eq

theorem execTick_down (i : TickIn) {s : State} (h : s.clk.up = false) : execTick i s = .next s := by
  simp [execTick, h]

/-- A tick that no reset ends in its decide phase goes on to compute, emit and end. -/
theorem execTick_whole {i : TickIn} {s : State} (h : s.clk.up = true)
    (ho : (s.openDecide.closeDecide i).decideOpen = true) :
    execTick i s = .next ((s.openDecide.closeDecide i).tickCompute.tickEmit.tickEnd i) := by
  simp [execTick, State.runTick, h, ho]

/-- Settles O9: a whole tick steps the counter where it ends, and the frame of every other command excludes it. -/
theorem tickCounter : Obligations.TickCounter := by
  unfold Obligations.TickCounter
  refine ⟨?whole, ?down, ?others⟩
  case whole =>
    intro i s hup hopen htick
    refine ⟨_, execTick_whole hup hopen, ?_⟩
    rw [State.tickEnd_tick, State.tick_tickEmit, State.tick_tickCompute, htick]
  case down =>
    intro i s hdown
    exact ⟨s, execTick_down i hdown, rfl⟩
  case others =>
    intro i s t hi he
    exact ((exec_keeps_tick hi s).get he).tick_eq

/-! ### The ledger's seven steps (R130, R144, R145) -/

/-- A command of a ledger step that cannot be decided only opens the decide phase. -/
theorem exec_ledg_not_ready {i : Instr} {k : Nat} {s : State} (ht : i.turn = .ledg k)
    (hr : s.openDecide.ready (.ledg k) = false) : exec i s = .next s.openDecide := by
  rw [exec_eq_run, ht]
  exact Turn.run_waits _ (s.begin_ledg k) hr

/-- It cannot while an earlier step has something to decide. -/
theorem exec_ledg_waits {i : Instr} {k : Nat} {s : State} (ht : i.turn = .ledg k) (hw : s.openDecide.waits k = true) :
    exec i s = .next s.openDecide :=
  exec_ledg_not_ready ht (by simp [State.ready, hw])

/-- Nor on a page without the DEADLINES slot. -/
theorem exec_ledg_without_slot {i : Instr} {k : Nat} {s : State} (ht : i.turn = .ledg k)
    (hp : s.openDecide.pageHas 3 1 0 = false) : exec i s = .next s.openDecide :=
  exec_ledg_not_ready ht (by simp [State.ready, hp])

theorem State.waits_of_step1Waits {s : State} {k : Nat} (h : s.step1Waits = true) (hk : 1 < k) : s.waits k = true := by
  simp [State.waits, h, hk]

theorem State.waits_of_step2Waits {s : State} {k : Nat} (h : s.step2Waits = true) (hk : 2 < k) : s.waits k = true := by
  simp [State.waits, h, hk]

theorem State.waits_of_step3Waits {s : State} {k : Nat} (h : s.step3Waits = true) (hk : 3 < k) : s.waits k = true := by
  simp [State.waits, h, hk]

theorem State.waits_of_item {s : State} {k : Nat} (h : (s.frontOf 3 4 2).isSome = true) (hk : 4 < k) :
    s.waits k = true := by
  simp [State.waits, h, hk]

/-- A decision acts on the state that the opening of the phase leaves, whichever command opens it. -/
theorem exec_openDecide {i : Instr} {s : State} (ht : i.turn = .decide ∨ ∃ k, i.turn = .ledg k)
    (ho : s.openDecide.decideOpen = true) : exec i s = exec i s.openDecide := by
  have hopen : s.openDecide = s.openDecide.openDecide := (State.openDecide_open ho).symm
  rw [exec_eq_run, exec_eq_run]
  refine Turn.run_congr _ ?_
  rcases ht with ht | ⟨k, ht⟩
  · rw [ht, State.begin_decide, State.begin_decide, ← hopen]
  · rw [ht, State.begin_ledg, State.begin_ledg, ← hopen]

/-- Settles O11, by the turn of each command named: its step of the ledger's order comes after the one that waits. -/
theorem ledgerStepsTakeTheirOrder : Obligations.LedgerStepsTakeTheirOrder := by
  unfold Obligations.LedgerStepsTakeTheirOrder
  refine ⟨?step1, ?step2, ?step3, ?item, ?slot, ?decision⟩
  case step1 =>
    intro id stn band point trail frames s h
    and_intros <;> exact exec_ledg_waits rfl (State.waits_of_step1Waits h (by decide))
  case step2 =>
    intro id stn point trail frames s h
    and_intros <;> exact exec_ledg_waits rfl (State.waits_of_step2Waits h (by decide))
  case step3 =>
    intro id stn frames s h
    and_intros <;> exact exec_ledg_waits rfl (State.waits_of_step3Waits h (by decide))
  case item =>
    intro id stn frames s h
    and_intros <;> exact exec_ledg_waits rfl (State.waits_of_item h (by decide))
  case slot =>
    intro id stn band point trail frames s h
    and_intros <;> exact exec_ledg_without_slot rfl h
  case decision =>
    intro i s ht ho
    exact exec_openDecide ht ho

end Sys2Proof.Machine
end

section
/-!
SUPPORT. Reset values (R9, R69, R106, R151, R175, R200, R441, R461, R485, R515, R541): what the registers of an array read
after reset, from their row of the register map, and the proof of the statement about them.
-/

namespace Sys2Proof.Machine

/-! ### Reset values of the register arrays -/

/-- A row holds no register that lies past its end. -/
theorem RegRow.holds_of_end_le {q : RegRow} {a : Nat} (hs : 0 < q.stride) (h : q.off + q.stride * q.count ≤ a) :
    q.holds a = false := by
  have hq : q.count ≤ (a - q.off) / q.stride := (Nat.le_div_iff_mul_le hs).2 (by rw [Nat.mul_comm]; omega)
  simp [RegRow.holds, hq]

/-- The `i`-th register of a row is held by it. -/
theorem RegRow.holds_index {r : RegRow} {i : Nat} (hs : 0 < r.stride) (hi : i < r.count) :
    r.holds (r.off + r.stride * i) = true := by
  simp [RegRow.holds, Nat.mul_div_cancel_left i hs, hi]

/-- The `i`-th register of a row starts at the row's reset value, where the rows listed before it end at its offset. -/
theorem regReset_index {pre post : List RegRow} {r : RegRow} {i : Nat}
    (hrows : rowsAt (r.off + r.stride * i) = pre ++ r :: post)
    (hpre : ∀ q ∈ pre, 0 < q.stride ∧ q.off + q.stride * q.count ≤ r.off) (hs : 0 < r.stride) (hi : i < r.count) :
    regReset (r.off + r.stride * i) = word r.reset := by
  have hnone : pre.find? (·.holds (r.off + r.stride * i)) = none := by
    rw [List.find?_eq_none]
    intro q hq
    obtain ⟨hstride, hend⟩ := hpre q hq
    simp [RegRow.holds_of_end_le hstride (hend.trans (Nat.le_add_right _ _))]
  have hrow : regRow (r.off + r.stride * i) = some r := by
    simp [regRow, hrows, hnone, RegRow.holds_index hs hi]
  rw [regReset, hrow]

/-- A register whose reset value the reset state does not override. -/
theorem State.rd_reset {a : Nat} (h : 0x10100 < a) : State.reset.rd a = regReset a := by
  have h1 : ¬ a = 0x10000 := by omega
  have h2 : ¬ a = 0x1001C := by omega
  have h3 : ¬ a = 0x10100 := by omega
  have h4 : ¬ a < 0x10000 := by omega
  have h5 : ¬ a < 0x1001C := by omega
  have h6 : ¬ a < 0x10100 := by omega
  simp [State.rd, State.reset, tabGet, tabFind, h1, h2, h3, h4, h5, h6]

/-- Every reaction byte of the fault collector is 1 (R441). -/
theorem State.rd_reset_react (i : Fin 512) : State.reset.rd (Reg.FLT_REACT i) = 0x01010101 := by
  have ha : Reg.FLT_REACT i = 0x41000 + 4 * i.val := by simp only [Reg.FLT_REACT]; omega
  have hblock : (0x41000 + 4 * i.val) / 0x10000 = 4 := by omega
  rw [ha, State.rd_reset (by omega)]
  exact regReset_index (pre := fltRows1) (post := fltRows2.tail) (r := ⟨0x41000, 4, 512, .rwl, 0x1010101, 0xFFFFFFFF⟩)
    (by simp [rowsAt, hblock, fltRows, fltRows2]) (by decide) (by decide) i.isLt

/-- Every bucket of Heartwood starts at the same rate (R461). -/
theorem State.rd_reset_rate (c : Fin 256) : State.reset.rd (Reg.HWD_RATE c) = 0x20040 := by
  have ha : Reg.HWD_RATE c = 0x52000 + 8 * c.val := by simp only [Reg.HWD_RATE]; omega
  have hblock : (0x52000 + 8 * c.val) / 0x10000 = 5 := by omega
  rw [ha, State.rd_reset (by omega)]
  exact regReset_index (pre := hwdRows1 ++ hwdRows2.take 2) (post := hwdRows2.drop 3)
    (r := ⟨0x52000, 8, 1024, .rw, 0x20040, 0x1FFFFFF⟩)
    (by simp [rowsAt, hblock, hwdRows, hwdRows2]) (by decide) (by decide) (c.isLt.trans (by decide))

/-- Settles O3: the single registers and the rings by evaluation, the two large arrays by their row of the register map. -/
theorem resetRegisterValues : Obligations.ResetRegisterValues := by
  unfold Obligations.ResetRegisterValues
  refine ⟨?single, ⟨?rings, ?moderation, State.rd_reset_react, State.rd_reset_rate⟩, rfl, rfl⟩
  case single => and_intros <;> decide
  case rings => decide
  case moderation => decide

end Sys2Proof.Machine
end

section
/-!
SUPPORT. The Almanac's operations (R52 to R66): what each reads and leaves, one rule per operation.
-/

namespace Sys2Proof.Machine

/-! ### Registers, fields and flags -/

theorem State.flag_congr {s t : State} {a : Nat} (h : t.rd a = s.rd a) (i : Nat) : t.flag a i = s.flag a i := by
  rw [State.flag, State.rdN, h, State.flag, State.rdN]

theorem State.fld_congr {s t : State} {a : Nat} (h : t.rd a = s.rd a) (hi lo : Nat) : t.fld a hi lo = s.fld a hi lo := by
  rw [State.fld, State.rdN, h, State.fld, State.rdN]

/-- Raising sets the flags of the mask and clears none (R104). -/
theorem State.flag_raise (s : State) (a i : Nat) {m : Nat} (hm : m < 2 ^ 32) :
    (s.raise a m).flag a i = (s.flag a i || m.testBit i) := by
  rw [State.flag, State.rdN, State.rd_raise, if_pos rfl, State.rdN_word,
    Nat.mod_eq_of_lt (Nat.or_lt_two_pow (s.rdN_lt a) hm), bitOf_eq, Nat.testBit_or, State.flag, bitOf_eq]

/-- A flag that was set stays set when another is raised. -/
theorem State.flag_raiseBit_keep (s : State) {a i j : Nat} (hj : j < 32) (h : s.flag a i = true) :
    (s.raiseBit a j).flag a i = true :=
  s.flag_raise_keep a _ i (Nat.pow_lt_pow_right (by decide) hj) h

/-- An event joins those handed over before it, with the present tick (R447). -/
@[simp] theorem State.sent_event (s : State) (code : Nat) (fields : List Nat) (sub : Nat) :
    (s.event code fields sub).hwd.sent = s.hwd.sent ++ [⟨code, s.tick, sub, fields⟩] := rfl

/-! ### Commands that are decisions -/

/-- A decision of the tick is its effect on the state in which it is decided. -/
theorem exec_decision {i : Instr} {s0 s : State} (ht : i.turn = .decide) (hb : s0.begin .decide = s) :
    exec i s0 = i.effect s := by
  rw [exec_eq_run, ht]
  exact Turn.run_ready _ hb rfl

/-! ### The banks (R36) -/

/-- An image depends on the banks alone. -/
theorem AlmBlk.bank_congr {a b : AlmBlk} (h0 : b.bank0 = a.bank0) (h1 : b.bank1 = a.bank1) (k : Nat) :
    b.bank k = a.bank k := by
  rw [AlmBlk.bank, h0, h1, AlmBlk.bank]

@[simp] theorem AlmBlk.bank_setBank_same (a : AlmBlk) (k : Nat) (m : Memory) : (a.setBank k m).bank k = m := by
  unfold AlmBlk.setBank AlmBlk.bank
  split <;> rfl

@[simp] theorem AlmBlk.standby_setBank (a : AlmBlk) (k : Nat) (m : Memory) : (a.setBank k m).standby = a.standby := by
  unfold AlmBlk.setBank
  split <;> rfl

theorem State.standbyImage_congr {s t : State} (hs : t.alm.standby = s.alm.standby) (h0 : t.alm.bank0 = s.alm.bank0)
    (h1 : t.alm.bank1 = s.alm.bank1) : t.standbyImage = s.standbyImage := by
  rw [State.standbyImage, hs, AlmBlk.bank_congr h0 h1, State.standbyImage]

/-! ### Results and cancellation (R58, R70) -/

@[simp] theorem State.almResult_alm (s : State) (v : Nat) : (s.almResult v).alm = s.alm := by
  unfold State.almResult; split <;> simp

@[simp] theorem State.almResult_tick (s : State) (v : Nat) : (s.almResult v).tick = s.tick := by
  unfold State.almResult; split <;> simp

@[simp] theorem State.almResult_sram (s : State) (v : Nat) : (s.almResult v).sram = s.sram := by
  unfold State.almResult; split <;> simp

@[simp] theorem State.almResult_hwd (s : State) (v : Nat) : (s.almResult v).hwd = s.hwd := by
  unfold State.almResult; split <;> simp

theorem State.fld_almResult (s : State) {v : Nat} (hv : v < 16) : (s.almResult v).fld Reg.ALM_REQ_RESULT 3 0 = v := by
  have hset : (s.setFld Reg.ALM_REQ_RESULT 3 0 v).fld Reg.ALM_REQ_RESULT 3 0 = v := by
    rw [State.fld_setFld_same _ _ _ _ _ (by decide) (by decide)]
    exact Nat.mod_eq_of_lt hv
  unfold State.almResult
  split
  · rw [State.fld_congr (State.rd_raiseBit_other _ _ (by decide)), hset]
  · exact hset

/-- A result of 2 or more is a failed request. -/
theorem State.flag_almResult_failed (s : State) {v : Nat} (hv : 2 ≤ v) :
    (s.almResult v).flag Reg.ALM_EVENTS 4 = true := by
  rw [State.almResult, if_pos hv]
  exact State.flag_raiseBit_same _ _ _ (by decide)

theorem State.rd_almResult_other (s : State) (v : Nat) {a : Nat} (h1 : a ≠ Reg.ALM_REQ_RESULT) (h2 : a ≠ Reg.ALM_EVENTS) :
    (s.almResult v).rd a = s.rd a := by
  unfold State.almResult
  split
  · rw [State.rd_raiseBit_other _ _ h2, State.rd_setFld_other _ _ _ _ h1]
  · rw [State.rd_setFld_other _ _ _ _ h1]

@[simp] theorem State.almCancelled_alm (s : State) (v : Nat) :
    (s.almCancelled v).alm = { s.alm with request := none } := by
  simp [State.almCancelled]

@[simp] theorem State.almCancelled_sram (s : State) (v : Nat) : (s.almCancelled v).sram = s.sram := by
  simp [State.almCancelled]

theorem State.sent_almCancelled (s : State) (v : Nat) :
    (s.almCancelled v).hwd.sent = s.hwd.sent ++ [⟨0x0205, s.tick, 0, [v]⟩] := by
  simp [State.almCancelled]

theorem State.fld_almCancelled (s : State) {v : Nat} (hv : v < 16) :
    (s.almCancelled v).fld Reg.ALM_REQ_RESULT 3 0 = v :=
  State.fld_almResult _ hv

theorem State.flag_almCancelled_failed (s : State) {v : Nat} (hv : 2 ≤ v) :
    (s.almCancelled v).flag Reg.ALM_EVENTS 4 = true :=
  State.flag_almResult_failed _ hv

/-- A cancelled request is no longer shown as pending. -/
theorem State.flag_almCancelled_pending (s : State) (v : Nat) : (s.almCancelled v).flag Reg.ALM_STATUS 2 = false := by
  rw [State.almCancelled, State.flag_congr (State.rd_event _ _ _ _ _),
    State.flag_congr (State.rd_almResult_other _ v (by decide) (by decide))]
  exact State.flag_setFlag_same _ _ _ _ (by decide)

theorem State.rd_almCancelled_sbState (s : State) (v : Nat) :
    (s.almCancelled v).rd Reg.ALM_SB_STATE = s.rd Reg.ALM_SB_STATE := by
  rw [State.almCancelled, State.rd_event, State.rd_almResult_other _ v (by decide) (by decide),
    State.rd_setFlag_other _ _ _ (by decide)]
  rfl

/-! ### The standby bank (R52 to R54) -/

theorem State.sbState_congr {s t : State} (h : t.rd Reg.ALM_SB_STATE = s.rd Reg.ALM_SB_STATE) : t.sbState = s.sbState :=
  State.fld_congr h 2 0

theorem State.sbState_setSb (s : State) {st : Nat} (h : st < 8) : (s.setSb st).sbState = st := by
  have h32 : st + 0 * 256 < 2 ^ 32 := by omega
  rw [State.sbState, State.fld, State.setSb, State.rdN_wrN_same, Nat.mod_eq_of_lt h32]
  simp only [bitsOf, Nat.shiftRight_zero]
  omega

/-- The standby bank as it enters or stays in LOADING, before a pending request is cancelled (R54): only its state, the
marks and the checker change. -/
theorem State.enterLoading_cases (s : State) :
    ∃ u : State, (s.enterLoading = u ∨ s.enterLoading = u.almCancelled 7) ∧ u.sbState = 1 ∧ u.sram = s.sram ∧
      u.alm.standby = s.alm.standby ∧ u.standbyImage = s.standbyImage := by
  have hone (u : State) : (u.setSb 1).sbState = 1 := u.sbState_setSb (by decide)
  by_cases h1 : s.sbState = 1
  · exact ⟨s, by simp [State.enterLoading, h1], h1, rfl, rfl, rfl⟩
  · by_cases h2 : s.sbState = 2
    · refine ⟨{ s.setSb 1 with alm := { s.alm with checkAt := none } }, ?_, hone s, rfl, rfl,
        State.standbyImage_congr rfl rfl rfl⟩
      by_cases hr : s.alm.request.isSome = true <;> simp [State.enterLoading, h2, hr]
    · refine ⟨{ s.setSb 1 with alm := { s.alm with written := [] } }, ?_, hone s, rfl, rfl,
        State.standbyImage_congr rfl rfl rfl⟩
      by_cases hr : s.alm.request.isSome = true <;> simp [State.enterLoading, h1, h2, hr]

theorem State.sbState_enterLoading (s : State) : s.enterLoading.sbState = 1 := by
  obtain ⟨u, hu | hu, hst, -⟩ := s.enterLoading_cases
  · rw [hu, hst]
  · rw [hu, State.sbState_congr (u.rd_almCancelled_sbState 7), hst]

/-- Entering LOADING leaves the table windows, the choice of the standby bank and its bytes. -/
theorem State.enterLoading_memories (s : State) : s.enterLoading.sram = s.sram ∧
    s.enterLoading.alm.standby = s.alm.standby ∧ s.enterLoading.standbyImage = s.standbyImage := by
  obtain ⟨u, hu | hu, -, hsram, hstandby, himage⟩ := s.enterLoading_cases
  · rw [hu]
    exact ⟨hsram, hstandby, himage⟩
  · have hbanks : (u.almCancelled 7).standbyImage = u.standbyImage := State.standbyImage_congr (by simp) (by simp) (by simp)
    rw [hu, hbanks, State.almCancelled_sram, State.almCancelled_alm]
    exact ⟨hsram, hstandby, himage⟩

@[simp] theorem State.rd_writeStandby (s : State) (o : Nat) (bs : List Byte) (a : Nat) :
    (s.writeStandby o bs).rd a = s.rd a := rfl

@[simp] theorem State.writeStandby_standby (s : State) (o : Nat) (bs : List Byte) :
    (s.writeStandby o bs).alm.standby = s.alm.standby := by
  simp [State.writeStandby]

/-- The standby image takes the bytes. -/
@[simp] theorem State.standbyImage_writeStandby (s : State) (o : Nat) (bs : List Byte) :
    (s.writeStandby o bs).standbyImage = memWrite s.standbyImage o bs := by
  simp [State.writeStandby, State.standbyImage]

@[simp] theorem State.rd_markPiece (s : State) (p a : Nat) : (s.markPiece p).rd a = s.rd a := rfl

@[simp] theorem State.standbyImage_markPiece (s : State) (p : Nat) : (s.markPiece p).standbyImage = s.standbyImage := rfl

theorem State.written_markPiece (s : State) (p : Nat) : tabGet false (s.markPiece p).alm.written p = true :=
  tabGet_tabSet_same false _ p true

@[simp] theorem State.showStandby_alm (s : State) : s.showStandby.alm = s.alm := by
  simp [State.showStandby]

@[simp] theorem State.showStandby_sram (s : State) : s.showStandby.sram = s.sram := by
  simp [State.showStandby]

@[simp] theorem State.standbyImage_showStandby (s : State) : s.showStandby.standbyImage = s.standbyImage := by
  simp [State.standbyImage]

/-- The header registers of the standby image are not its state. -/
@[simp] theorem State.sbState_showStandby (s : State) : s.showStandby.sbState = s.sbState :=
  State.sbState_congr (by
    rw [State.showStandby, State.rd_wrN_other _ _ (by decide), State.rd_wrN_other _ _ (by decide),
      State.rd_wrN_other _ _ (by decide)])

/-- The bytes of the standby image after a write in LOADING. -/
theorem State.memByte_loading (s : State) (o : Nat) (bs : List Byte) (x : Nat) :
    memByte (s.enterLoading.writeStandby o bs).standbyImage x =
      if o ≤ x ∧ x < o + bs.length then bs.getD (x - o) 0 else memByte s.standbyImage x := by
  obtain ⟨-, -, himage⟩ := s.enterLoading_memories
  rw [State.standbyImage_writeStandby, himage, memByte_memWrite]

end Sys2Proof.Machine
end

section
/-!
SUPPORT. The table windows (R52, R54, R76, R77, R97, R324, R344, R372, R402): items taken and completed, what a write into each
window stores, and the proof of the statement about them.
-/

namespace Sys2Proof.Machine

/-! ### Items taken and completed (R97, R98) -/

/-- The item at the front is the first of its owner's inbox. -/
theorem State.inboxOf_of_frontOf {s : State} {owner q cells : Nat} {it : Item} (h : s.frontOf owner q cells = some it) :
    ∃ rest, s.inboxOf owner = it :: rest := by
  unfold State.frontOf at h
  split at h
  · cases h
  · next first rest hbox =>
    split at h
    · cases h
      exact ⟨rest, hbox⟩
    · cases h

theorem State.frontOf_nil {s : State} {owner : Nat} (q cells : Nat) (h : s.inboxOf owner = []) :
    s.frontOf owner q cells = none := by
  simp [State.frontOf, h]

@[simp] theorem State.rd_takeItem (s : State) (owner q a : Nat) : (s.takeItem owner q).rd a = s.rd a := rfl

theorem State.inboxOf_takeItem (s : State) (owner q : Nat) :
    (s.takeItem owner q).inboxOf owner = (s.inboxOf owner).tail := by
  simp [State.takeItem, State.dropInbox, State.inboxOf, tabMod]

theorem State.vector_inbox (s : State) (v : Nat) : (s.vector v).host.inbox = s.host.inbox := by
  unfold State.vector
  split <;> rfl

theorem State.raiseBit_inbox (s : State) (a i : Nat) : (s.raiseBit a i).host.inbox = s.host.inbox := by
  unfold State.raiseBit State.raise
  dsimp only
  split
  · rfl
  · exact State.vector_inbox _ _

theorem State.queueRecord_inbox (s : State) (c : Completion) : (s.queueRecord c).host.inbox = s.host.inbox := by
  unfold State.queueRecord
  dsimp only
  split
  · rw [State.event_host, State.hostErr, State.raiseBit_inbox]
  · rfl

theorem State.showComplete_inbox (s : State) (k : Nat) (os : List OpenItem) :
    (s.showComplete k os).host.inbox = s.host.inbox := by
  induction os generalizing s with
  | nil => rfl
  | cons o os ih =>
    unfold State.showComplete
    split
    · rfl
    · rw [ih]
      split
      · exact State.queueRecord_inbox _ _
      · rfl

/-- A completion takes no item from an inbox. -/
theorem State.inboxOf_complete (s : State) (it : Item) (status detail owner : Nat) :
    (s.complete it status detail).inboxOf owner = s.inboxOf owner := by
  unfold State.complete State.inboxOf
  dsimp only
  split
  · rw [State.showComplete_inbox, State.drawn_host]
  · rfl

/-- What a completion leaves (R98 to R100). -/
theorem State.complete_keeps (s : State) (it : Item) (status detail : Nat) :
    Frame (fun b => b = .fresh ∨ b = .host ∨ b = .hwd) (· = Reg.HOST_ERR) s (s.complete it status detail) :=
  State.complete_frame s it status detail (Frame.refl s) (.inl rfl) (.inr (.inl rfl)) (.inr (.inr rfl)) rfl

@[simp] theorem State.complete_alm (s : State) (it : Item) (status detail : Nat) :
    (s.complete it status detail).alm = s.alm :=
  (s.complete_keeps it status detail).parts .alm (by simp)

@[simp] theorem State.complete_sram (s : State) (it : Item) (status detail : Nat) :
    (s.complete it status detail).sram = s.sram :=
  (s.complete_keeps it status detail).parts .sram (by simp)

theorem State.rd_complete_other (s : State) (it : Item) (status detail : Nat) {a : Nat} (h : a ≠ Reg.HOST_ERR) :
    (s.complete it status detail).rd a = s.rd a :=
  (s.complete_keeps it status detail).regs a h

/-! ### TABLE items -/

/-- The owner's refusals look at its own units, not at the inboxes. -/
theorem State.tableBusy_takeItem (s : State) (owner q o n : Nat) :
    (s.takeItem owner q).stepTableBusy o n = s.stepTableBusy o n ∧
    (s.takeItem owner q).axisTableBusy o n = s.axisTableBusy o n ∧
    (s.takeItem owner q).loopTableBusy o n = s.loopTableBusy o n :=
  ⟨rfl, rfl, rfl⟩

/-- Where its owner accepts it, a TABLE item is written. -/
theorem State.tableItem_accepted {s : State} {it : Item} {b : Nat} (hb : tableOwner it.target it.data.length = some b)
    (hok : b = 13 ∧ readOnlyTouched it.target it.data.length = false ∨
      b = 11 ∧ s.loopTableBusy it.target it.data.length = false ∨
      b = 9 ∧ s.stepTableBusy it.target it.data.length = false ∧ s.axisTableBusy it.target it.data.length = false) :
    s.tableItem it = s.writeTable it := by
  obtain ⟨rfl, hro⟩ | ⟨rfl, hloop⟩ | ⟨rfl, hstep, haxis⟩ := hok
  · simp [State.tableItem, hb, hro]
  · simp [State.tableItem, hb, hloop]
  · simp [State.tableItem, hb, hstep, haxis]

/-- An item that is written stores its bytes from its target up. -/
theorem State.memByte_writeTable (s : State) (it : Item) (x : Nat) : memByte (s.writeTable it).sram x =
    if it.target ≤ x ∧ x < it.target + it.data.length then it.data.getD (x - it.target) 0 else memByte s.sram x := by
  rw [State.writeTable, State.complete_sram, memByte_memWrite]

theorem State.inboxOf_writeTable (s : State) (it : Item) (owner : Nat) :
    (s.writeTable it).inboxOf owner = s.inboxOf owner := by
  rw [State.writeTable, State.inboxOf_complete]
  rfl

theorem execTableItem_front {s : State} {it : Item} (h : s.frontOf 64 (tableQueue it) 1 = some it) :
    execTableItem s = .next ((s.takeItem 64 (tableQueue it)).tableItem it) := by
  obtain ⟨rest, hbox⟩ := State.inboxOf_of_frontOf h
  simp [execTableItem, hbox, h]

theorem execTableItem_nil {s : State} (h : s.inboxOf 64 = []) : execTableItem s = .next s := by
  simp [execTableItem, h, State.frontOf_nil _ _ h]

/-! ### BAR1 writes -/

/-- A write of some bytes that fits the payload while the windows answer. -/
theorem exec_bar1Write {w : Writer} {o : Nat} {bs : List Byte} {s : State} (hlen : bs.length ≤ 512) (hbs : bs ≠ [])
    (ho : s.windowsOpen w = true) : exec (.bar1Write w o bs) s =
      .next (if s.bar1Refused o bs.length then s.discarded 1 1 o else s.bar1Store o bs) := by
  have h512 : ¬ 512 < bs.length := by omega
  show execBar1Write w o bs s = _
  simp [execBar1Write, State.bar1Write, h512, hbs, ho]

@[simp] theorem State.discarded_sram (s : State) (b bar off : Nat) : (s.discarded b bar off).sram = s.sram := by
  rw [State.discarded, State.fault_sram, State.wrN_sram, State.hostErr, State.raiseBit_sram]

@[simp] theorem State.discarded_alm (s : State) (b bar off : Nat) : (s.discarded b bar off).alm = s.alm := by
  rw [State.discarded, State.fault_alm, State.wrN_alm, State.hostErr, State.raiseBit_alm]

/-- Outside the Almanac and beam windows a write stores its bytes in the table memory. -/
theorem State.bar1Store_table {s : State} {o b : Nat} {bs : List Byte} (hw : windowOf o bs.length = some b) (h2 : b ≠ 2)
    (h8 : b ≠ 8) : s.bar1Store o bs = { s with sram := memWrite s.sram o bs } := by
  unfold State.bar1Store
  split
  · next h => exact absurd (Option.some.inj (hw.symm.trans h)) h2
  · next h => exact absurd (Option.some.inj (hw.symm.trans h)) h8
  · rfl

theorem State.bar1Store_almanac (s : State) {o : Nat} {bs : List Byte} (ho : o + bs.length ≤ 528384) :
    s.bar1Store o bs = s.bar1Almanac o bs := by
  simp [State.bar1Store, windowOf, ho]

/-- The Almanac window takes every write before lock (R77). -/
theorem State.bar1Refused_almanac {s : State} {o n : Nat} (hl : s.locked = false) (ho : o + n ≤ 528384) :
    s.bar1Refused o n = false := by
  simp [State.bar1Refused, windowOf, hl, ho]

/-- Marking pieces changes the marks alone. -/
theorem State.markPieces_eq (p : Nat → Prop) [DecidablePred p] (ps : List Nat) (s : State) :
    ∃ marks, ps.foldl (fun t k => if p k then t.markPiece k else t) s =
      { s with alm := { s.alm with written := marks } } := by
  induction ps generalizing s with
  | nil => exact ⟨_, rfl⟩
  | cons k ps ih =>
    obtain ⟨marks, hmarks⟩ := ih (if p k then s.markPiece k else s)
    refine ⟨marks, ?_⟩
    rw [List.foldl_cons, hmarks]
    split <;> rfl

/-- A BAR1 write into the Almanac window outside DRAINING (R52, R54). -/
theorem State.bar1Almanac_loads {s : State} (o : Nat) (bs : List Byte) (h5 : s.sbState ≠ 5) :
    (∀ x, memByte (s.bar1Almanac o bs).standbyImage x =
      if o ≤ x ∧ x < o + bs.length then bs.getD (x - o) 0 else memByte s.standbyImage x) ∧
    (s.bar1Almanac o bs).sbState = 1 ∧ (s.bar1Almanac o bs).sram = s.sram := by
  obtain ⟨hsram, -, -⟩ := s.enterLoading_memories
  obtain ⟨marks, hmarks⟩ := State.markPieces_eq
    (fun p => o ≤ p * 4096 + 4095 ∧ p * 4096 + 4095 < o + bs.length) (piecesTouched o bs.length)
    (s.enterLoading.writeStandby o bs)
  simp only [State.bar1Almanac, if_neg h5, State.standbyImage_showStandby, State.sbState_showStandby,
    State.showStandby_sram, hmarks]
  exact ⟨s.memByte_loading o bs, s.sbState_enterLoading, hsram⟩

/-- Settles O13, by the window that a write or an item names. -/
theorem tableWindowsTakeExactlyTheirBytes : Obligations.TableWindowsTakeExactlyTheirBytes := by
  unfold Obligations.TableWindowsTakeExactlyTheirBytes
  refine ⟨?table, ?almanac, ?refused, ?item, ?none⟩
  case table =>
    intro w o b bs s hlen hbs ho href hw h2 h8
    refine ⟨_, exec_bar1Write hlen hbs ho, ?_⟩
    rw [href, State.bar1Store_table hw h2 h8]
    refine ⟨memByte_memWrite s.sram o bs, rfl, fun b hb => ?_, fun a _ => rfl⟩
    cases b
    case sram => exact absurd rfl hb
    all_goals rfl
  case almanac =>
    intro w o bs s hlen hbs ho hl hin h5
    refine ⟨_, exec_bar1Write hlen hbs ho, ?_⟩
    rw [State.bar1Refused_almanac hl hin, if_neg Bool.false_ne_true, s.bar1Store_almanac hin]
    exact State.bar1Almanac_loads o bs h5
  case refused =>
    intro w o bs s hlen hbs ho href
    refine ⟨_, exec_bar1Write hlen hbs ho, ?_⟩
    have haddr : (1 * 2 ^ 26 + o % 2 ^ 26) % 2 ^ 32 = 2 ^ 26 + o % 2 ^ 26 := by omega
    rw [href, if_pos rfl]
    exact ⟨s.discarded_sram 1 1 o, s.discarded_alm 1 1 o, s.flag_discarded 1 o (by decide),
      (s.rdN_discarded_addr 1 1 o).trans haddr, s.sent_discarded 1 1 o⟩
  case item =>
    intro it b s hfront hb hok
    obtain ⟨hstep, haxis, hloop⟩ := s.tableBusy_takeItem 64 (tableQueue it) it.target it.data.length
    rw [← hstep, ← haxis, ← hloop] at hok
    refine ⟨_, (execTableItem_front hfront), ?_⟩
    rw [State.tableItem_accepted hb hok]
    exact ⟨State.memByte_writeTable _ it, (State.inboxOf_writeTable _ it 64).trans (s.inboxOf_takeItem 64 _)⟩
  case none =>
    intro s h
    exact ⟨s, execTableItem_nil h, rfl⟩

end Sys2Proof.Machine
end

section
/-!
SUPPORT. Loading and checking the standby bank (R52 to R58, R65): what a gathered piece, the checker and the end of DRAINING
leave, and the proof of the statement about them.
-/

namespace Sys2Proof.Machine

/-! ### A piece that is gathered whole -/

theorem State.sbState_loadPiece (s : State) (p : Nat) (bs : List Byte) : (s.loadPiece p bs).sbState = 1 := by
  rw [State.loadPiece, State.sbState_showStandby, State.sbState_congr (State.rd_markPiece _ _ _),
    State.sbState_congr (State.rd_writeStandby _ _ _ _), State.sbState_enterLoading]

theorem State.loadPiece_standby (s : State) (p : Nat) (bs : List Byte) :
    (s.loadPiece p bs).alm.standby = s.alm.standby := by
  obtain ⟨-, hstandby, -⟩ := s.enterLoading_memories
  rw [State.loadPiece, State.showStandby_alm]
  exact (State.writeStandby_standby _ _ _).trans hstandby

theorem State.written_loadPiece (s : State) (p : Nat) (bs : List Byte) :
    tabGet false (s.loadPiece p bs).alm.written p = true := by
  rw [State.loadPiece, State.showStandby_alm, State.written_markPiece]

theorem State.memByte_loadPiece (s : State) (p : Nat) (bs : List Byte) (x : Nat) :
    memByte (s.loadPiece p bs).standbyImage x =
      if p * 4096 ≤ x ∧ x < p * 4096 + bs.length then bs.getD (x - p * 4096) 0 else memByte s.standbyImage x := by
  rw [State.loadPiece, State.standbyImage_showStandby, State.standbyImage_markPiece, State.memByte_loading]

/-- An ALMANAC item with a piece number in range loads its piece outside DRAINING. -/
theorem execAlmanacPiece_loads {s : State} {it : Item} (hfront : s.frontOf 2 25 1 = some it) (hp : tagFrag it.tag ≤ 128)
    (h5 : s.sbState ≠ 5) : execAlmanacPiece s =
      .next (((s.takeItem 2 25).loadPiece (tagFrag it.tag) it.data).complete it 0 0) := by
  have hp' : ¬ 128 < tagFrag it.tag := by omega
  have h5' : ¬ (s.takeItem 2 25).sbState = 5 := by rwa [State.sbState_congr (State.rd_takeItem _ _ _ _)]
  simp [execAlmanacPiece, hfront, hp', h5']

/-! ### The checker -/

/-- CHECK in LOADING (R55). -/
theorem effCheck_loading {s : State} (h : s.sbState = 1) : effCheck s =
    .next { (((s.setSb 2).wrN Reg.ALM_SB_DETAIL 0).wrN Reg.ALM_SB_COST 0) with
      alm := { s.alm with checkAt := some s.tick } } := by
  simp [effCheck, h]

/-- The bank as the checker leaves it where it finds no fault (R55). -/
def State.acceptBank (s : State) : State :=
  ((s.setSb 3).raiseBit Reg.ALM_EVENTS 0).event 0x0201
    [imgBuildId s.standbyImage, imgEngineId s.standbyImage, imgMasks s.standbyImage]

/-- The bank as the checker leaves it where it finds fault `f`: a storage error raises its own flag, too (R55, R68). -/
def State.rejectBank (s : State) (f : CheckFail) : State :=
  if f.code = 0x0F then (s.refuseBank f).raiseBit Reg.ALM_EVENTS 5 else s.refuseBank f

/-- CHECK_DONE within its 2 to 8 ticks: the checker ends, and its finding decides (R55, R56). -/
theorem effCheckDone_ends {s : State} {g : Nat} (storage : Option (Fin 129)) (hg : s.alm.checkAt = some g)
    (h2 : s.sbState = 2) (hlo : g + 2 ≤ s.tick) (hhi : s.tick ≤ g + 8) : effCheckDone storage s =
      .next (match checkImage s.standbyImage s.alm.written (storage.map (·.val)) with
        | some f => State.rejectBank { s with alm := { s.alm with checkAt := none } } f
        | none => State.acceptBank { s with alm := { s.alm with checkAt := none } }) := by
  have himage : State.standbyImage { s with alm := { s.alm with checkAt := none } } = s.standbyImage :=
    State.standbyImage_congr rfl rfl rfl
  have hnow : ¬ (s.sbState ≠ 2 ∨ s.tick < g + 2 ∨ g + 8 < s.tick) := by omega
  simp only [effCheckDone, hg, if_neg hnow, himage]
  cases checkImage s.standbyImage s.alm.written (storage.map (·.val)) with
  | none => simp only [State.acceptBank, himage]
  | some f => simp only [State.rejectBank]

@[simp] theorem State.acceptBank_alm (s : State) : s.acceptBank.alm = s.alm := by
  rw [State.acceptBank, State.event_alm, State.raiseBit_alm, State.setSb, State.wrN_alm]

theorem State.sbState_acceptBank (s : State) : s.acceptBank.sbState = 3 := by
  have hrd : s.acceptBank.rd Reg.ALM_SB_STATE = (s.setSb 3).rd Reg.ALM_SB_STATE := by
    rw [State.acceptBank, State.rd_event, State.rd_raiseBit_other _ _ (by decide)]
  rw [State.sbState_congr hrd, s.sbState_setSb (by decide)]

theorem State.flag_acceptBank (s : State) : s.acceptBank.flag Reg.ALM_EVENTS 0 = true := by
  rw [State.acceptBank, State.flag_congr (State.rd_event _ _ _ _ _), State.flag_raiseBit_same _ _ _ (by decide)]

theorem State.sent_acceptBank (s : State) : s.acceptBank.hwd.sent = s.hwd.sent ++
    [⟨0x0201, s.tick, 0, [imgBuildId s.standbyImage, imgEngineId s.standbyImage, imgMasks s.standbyImage]⟩] := by
  rw [State.acceptBank, State.sent_event, State.raiseBit_hwd, State.raiseBit_tick, State.setSb, State.wrN_hwd,
    State.wrN_tick]

/-- What a refusal by the checker shows (R55, R58). -/
theorem State.refuseBank_shows (s : State) (f : CheckFail) : (s.refuseBank f).alm = s.alm ∧
    (s.refuseBank f).rd Reg.ALM_SB_STATE = word (4 + f.code * 256) ∧
    (s.refuseBank f).rd Reg.ALM_SB_DETAIL = word f.detail ∧ (s.refuseBank f).flag Reg.ALM_EVENTS 1 = true ∧
    (s.refuseBank f).hwd.sent =
      s.hwd.sent ++ [⟨0x0202, s.tick, 0, [imgBuildId s.standbyImage, f.code, f.detail, f.cost]⟩] := by
  refine ⟨?alm, ?state, ?detail, ?flag, ?sent⟩
  case alm => simp [State.refuseBank, State.setSb]
  case state =>
    rw [State.refuseBank, State.rd_event, State.rd_raise_other _ _ (by decide), State.rd_wrN_other _ _ (by decide),
      State.rd_wrN_other _ _ (by decide)]
    exact State.rd_wr_same _ _ _
  case detail =>
    rw [State.refuseBank, State.rd_event, State.rd_raise_other _ _ (by decide), State.rd_wrN_other _ _ (by decide)]
    exact State.rd_wr_same _ _ _
  case flag =>
    rw [State.refuseBank, State.flag_congr (State.rd_event _ _ _ _ _), State.flag_raise _ _ _ (by decide)]
    exact Bool.or_true _
  case sent => simp [State.refuseBank, State.setSb]

/-- The flag of a storage error adds nothing to what a refusal shows. -/
theorem State.rejectBank_shows (s : State) (f : CheckFail) : (s.rejectBank f).alm = s.alm ∧
    (s.rejectBank f).rd Reg.ALM_SB_STATE = word (4 + f.code * 256) ∧
    (s.rejectBank f).rd Reg.ALM_SB_DETAIL = word f.detail ∧ (s.rejectBank f).flag Reg.ALM_EVENTS 1 = true ∧
    (s.rejectBank f).hwd.sent =
      s.hwd.sent ++ [⟨0x0202, s.tick, 0, [imgBuildId s.standbyImage, f.code, f.detail, f.cost]⟩] := by
  obtain ⟨halm, hstate, hdetail, hflag, hsent⟩ := s.refuseBank_shows f
  unfold State.rejectBank
  split
  · rw [State.raiseBit_alm, State.raiseBit_hwd, State.rd_raiseBit_other _ _ (by decide),
      State.rd_raiseBit_other _ _ (by decide)]
    exact ⟨halm, hstate, hdetail, State.flag_raiseBit_keep _ (by decide) hflag, hsent⟩
  · exact s.refuseBank_shows f

/-! ### The end of DRAINING -/

theorem effDrainingEnd_ends {s : State} (h5 : s.sbState = 5)
    (hall : (List.range 8).all (fun i => !bitOf s.alm.draining i || s.stationStopped i) = true) :
    effDrainingEnd s = .next { s.setSb 3 with alm := { s.alm with draining := 0 } } := by
  rw [effDrainingEnd, if_pos ⟨h5, hall⟩]

/-- Settles O17, by the rule of each step: the piece, the start and the two ends of the checker, the end of DRAINING. -/
theorem loadingAndCheckingTheStandbyBank : Obligations.LoadingAndCheckingTheStandbyBank := by
  unfold Obligations.LoadingAndCheckingTheStandbyBank
  refine ⟨?piece, ?check, ?done, ?drained⟩
  case piece =>
    intro it s hfront hp h5
    refine ⟨_, execAlmanacPiece_loads hfront hp h5, ?_⟩
    have himage : ∀ u : State, (u.complete it 0 0).standbyImage = u.standbyImage := fun u => by
      simp [State.standbyImage]
    rw [State.sbState_congr (State.rd_complete_other _ it 0 0 (by decide)), State.complete_alm, himage]
    refine ⟨State.sbState_loadPiece _ _ _, State.loadPiece_standby _ _ _, State.written_loadPiece _ _ _, fun a => ?_⟩
    exact State.memByte_loadPiece _ _ _ a
  case check =>
    intro s0 s hb h1
    refine ⟨_, (exec_decision (i := .check) rfl hb).trans (effCheck_loading h1), ?_, ?_, ?_, rfl, rfl⟩
    · show (((s.setSb 2).wrN Reg.ALM_SB_DETAIL 0).wrN Reg.ALM_SB_COST 0).sbState = 2
      rw [State.sbState_congr (State.rd_wrN_other _ _ (by decide)), State.sbState_congr (State.rd_wrN_other _ _ (by decide)),
        s.sbState_setSb (by decide)]
    · show (((s.setSb 2).wrN Reg.ALM_SB_DETAIL 0).wrN Reg.ALM_SB_COST 0).rdN Reg.ALM_SB_DETAIL = 0
      rw [State.rdN_wrN_other _ _ (by decide), State.rdN_wrN_same, Nat.zero_mod]
    · exact ((s.setSb 2).wrN Reg.ALM_SB_DETAIL 0).rdN_wrN_same Reg.ALM_SB_COST 0
  case done =>
    intro storage g s0 s hb hg h2 hlo hhi
    refine ⟨_, (exec_decision (i := .checkDone storage) rfl hb).trans (effCheckDone_ends storage hg h2 hlo hhi), ?_⟩
    have himage : State.standbyImage { s with alm := { s.alm with checkAt := none } } = s.standbyImage :=
      State.standbyImage_congr rfl rfl rfl
    cases checkImage s.standbyImage s.alm.written (storage.map (·.val)) with
    | none =>
      have hsent := State.sent_acceptBank { s with alm := { s.alm with checkAt := none } }
      rw [himage] at hsent
      refine ⟨?_, ?_, State.sbState_acceptBank _, State.flag_acceptBank _, hsent⟩
      · rw [State.acceptBank_alm]
      · rw [State.standbyImage, State.acceptBank_alm]
        exact himage
    | some f =>
      obtain ⟨halm, hshown⟩ := State.rejectBank_shows { s with alm := { s.alm with checkAt := none } } f
      rw [himage] at hshown
      refine ⟨?_, ?_, hshown⟩
      · rw [halm]
      · rw [State.standbyImage, halm]
        exact himage
  case drained =>
    intro s0 s hb h5 hall
    refine ⟨_, (exec_decision (i := .drainingEnd) rfl hb).trans (effDrainingEnd_ends h5 hall), ?_, rfl, rfl⟩
    exact s.sbState_setSb (st := 3) (by decide)

end Sys2Proof.Machine
end

section
/-!
SUPPORT. Grades and facet plans (R31, R62, R127): what a grade request, a grade change and the new plans of the stations leave,
and the proof of the statement about grades.
-/

namespace Sys2Proof.Machine

/-! ### Facet plans (R31, R62) -/

theorem tabFind_foldl_tabPut {α : Type} (l : List Nat) (t : Tab α) (v : α) (j : Nat) :
    tabFind (l.foldl (fun u i => tabPut u i v) t) j = if j ∈ l then some v else tabFind t j := by
  induction l generalizing t with
  | nil => simp
  | cons i l ih =>
    rw [List.foldl_cons, ih, tabFind_tabPut]
    by_cases hl : j ∈ l <;> simp [hl]

/-- The plans of the stations of `mask`, each replaced by the same one. -/
def planEach (l : List Nat) (mask : Nat) (p : PlanNext) (t : Tab PlanNext) : Tab PlanNext :=
  (l.filter (bitOf mask)).foldl (fun u i => tabPut u i p) t

theorem tabFind_planEach {l : List Nat} {mask i : Nat} (p : PlanNext) (t : Tab PlanNext) (hl : i ∈ l)
    (hi : bitOf mask i = true) : tabFind (planEach l mask p t) i = some p := by
  rw [planEach, tabFind_foldl_tabPut, if_pos (List.mem_filter.2 ⟨hl, hi⟩)]

/-- A new plan for every used station changes the plans alone. -/
theorem State.planAll_eq (s : State) (bank grade mask : Nat) : s.planAll bank grade mask =
    { s with alm := { s.alm with
        plans := planEach (List.range 8) mask ⟨some (bank, grade), s.tick, false⟩ s.alm.plans } } := by
  have hfold : ∀ (l : List Nat) (u : State), l.foldl (fun t i => if bitOf mask i then
        { t with alm := { t.alm with plans := tabPut t.alm.plans i ⟨some (bank, grade), t.tick, false⟩ } } else t) u =
      { u with alm := { u.alm with plans := planEach l mask ⟨some (bank, grade), u.tick, false⟩ u.alm.plans } } := by
    intro l
    induction l with
    | nil => intro u; rfl
    | cons i l ih =>
      intro u
      rw [List.foldl_cons, ih]
      by_cases hi : bitOf mask i = true <;> simp [planEach, hi]
  exact hfold _ s

@[simp] theorem State.rd_planAll (s : State) (b g m a : Nat) : (s.planAll b g m).rd a = s.rd a := by
  rw [State.planAll_eq]
  rfl

@[simp] theorem State.planAll_hwd (s : State) (b g m : Nat) : (s.planAll b g m).hwd = s.hwd := by
  rw [State.planAll_eq]

@[simp] theorem State.planAll_ledg (s : State) (b g m : Nat) : (s.planAll b g m).ledg = s.ledg := by
  rw [State.planAll_eq]

@[simp] theorem State.planAll_next (s : State) (b g m : Nat) : (s.planAll b g m).alm.next = s.alm.next := by
  rw [State.planAll_eq]

@[simp] theorem State.planAll_request (s : State) (b g m : Nat) : (s.planAll b g m).alm.request = s.alm.request := by
  rw [State.planAll_eq]

/-- Every used station has its new plan, decided in this tick. -/
theorem State.plans_planAll (s : State) (b g : Nat) {m i : Nat} (hi : i < 8) (hm : bitOf m i = true) :
    tabFind (s.planAll b g m).alm.plans i = some ⟨some (b, g), s.tick, false⟩ := by
  rw [State.planAll_eq]
  exact tabFind_planEach _ _ (List.mem_range.2 hi) hm

/-! ### A grade change (R62, R127) -/

/-- The state that `gradeChanged` leaves, but for the registers and the governor's bookkeeping. -/
theorem State.gradeChanged_keeps (s : State) (old new : Nat) :
    Frame (fun b => b = .host ∨ b = .ledg ∨ b = .pace ∨ b = .hwd)
      (fun a => a = Reg.ALM_EVENTS ∨ a = Reg.ALM_STATUS ∨ a = Reg.LEDG_PACE_STATUS) s (s.gradeChanged old new) :=
  State.gradeChanged_frame s old new (Frame.refl s) (by simp) (by simp) (by simp) (by simp) (by simp) (by simp) (by simp)

@[simp] theorem State.gradeChanged_alm (s : State) (old new : Nat) : (s.gradeChanged old new).alm = s.alm :=
  (s.gradeChanged_keeps old new).parts .alm (by simp)

@[simp] theorem State.gradeChanged_tick (s : State) (old new : Nat) : (s.gradeChanged old new).tick = s.tick :=
  (s.gradeChanged_keeps old new).parts .tick (by simp)

theorem State.rd_gradeChanged_other (s : State) (old new : Nat) {a : Nat} (h1 : a ≠ Reg.ALM_EVENTS)
    (h2 : a ≠ Reg.ALM_STATUS) (h3 : a ≠ Reg.LEDG_PACE_STATUS) : (s.gradeChanged old new).rd a = s.rd a :=
  (s.gradeChanged_keeps old new).regs a (by simp [h1, h2, h3])

theorem State.sent_gradeChanged (s : State) (old new : Nat) : (s.gradeChanged old new).hwd.sent =
    s.hwd.sent ++ [⟨0x0204, s.tick, 0, [old, new, s.alm.gradeFrom]⟩] := by
  unfold State.gradeChanged
  dsimp only
  split <;> simp

/-- The settle time begins with the next tick (R127). -/
theorem State.gradeAt_gradeChanged (s : State) (old new : Nat) :
    (s.gradeChanged old new).ledg.gradeAt = s.tick + 1 := by
  unfold State.gradeChanged
  dsimp only
  split <;> simp

/-- The registers of ALM after a grade change: no grade is pending, and its flag is raised. -/
theorem State.rd_gradeChanged_alm (s : State) (old new : Nat) {a : Nat} (h : a ≠ Reg.LEDG_PACE_STATUS) :
    (s.gradeChanged old new).rd a = ((s.setFlag Reg.ALM_STATUS 3 false).raiseBit Reg.ALM_EVENTS 3).rd a := by
  unfold State.gradeChanged
  dsimp only
  split
  · exact State.rd_setFld_other _ _ _ _ h
  · rfl

theorem State.flag_gradeChanged_pending (s : State) (old new : Nat) :
    (s.gradeChanged old new).flag Reg.ALM_STATUS 3 = false := by
  rw [State.flag_congr (s.rd_gradeChanged_alm old new (by decide)),
    State.flag_congr (State.rd_raiseBit_other _ _ (by decide)), State.flag_setFlag_same _ _ _ _ (by decide)]

theorem State.flag_gradeChanged_status (s : State) (old new : Nat) {j : Nat} (hj : j ≠ 3) :
    (s.gradeChanged old new).flag Reg.ALM_STATUS j = s.flag Reg.ALM_STATUS j := by
  rw [State.flag_congr (s.rd_gradeChanged_alm old new (by decide)),
    State.flag_congr (State.rd_raiseBit_other _ _ (by decide)),
    State.flag_setFlag_other _ _ _ _ _ _ (by decide) (.inr hj)]

theorem State.flag_gradeChanged_event (s : State) (old new : Nat) :
    (s.gradeChanged old new).flag Reg.ALM_EVENTS 3 = true := by
  rw [State.flag_congr (s.rd_gradeChanged_alm old new (by decide)), State.flag_raiseBit_same _ _ _ (by decide)]

/-- A flag of ALM_EVENTS that was set stays set. -/
theorem State.flag_gradeChanged_keep {s : State} (old new : Nat) {i : Nat} (h : s.flag Reg.ALM_EVENTS i = true) :
    (s.gradeChanged old new).flag Reg.ALM_EVENTS i = true := by
  rw [State.flag_congr (s.rd_gradeChanged_alm old new (by decide))]
  refine State.flag_raiseBit_keep _ (by decide) ?_
  rw [State.flag_congr (State.rd_setFlag_other _ _ _ (by decide)), h]

/-- The change as it is decided at a sheet gap (R62). -/
theorem effGradeChange_decides {s : State} {b : Nat} (hb : s.alm.active = some b) (hp : s.flag Reg.ALM_STATUS 3 = true)
    (hh : s.holding = false) (hgap : s.sheetGap = true) (hsafe : s.safe = false) (hsw : s.canSwitch = false)
    (hn : s.alm.next = .same) : effGradeChange s =
      .next ((({ s with alm := { s.alm with next := .volume b s.nextGrade } } : State).gradeChanged s.grade
        s.nextGrade).planAll b s.nextGrade (imgStnMask s.active)) := by
  have hcan : s.canChangeGrade = true := by simp [State.canChangeGrade, hp, hh, hgap, hsafe, hsw, hn]
  simp only [effGradeChange, hb, hcan, if_true]

/-! ### Grade requests (R62) -/

/-- The grade `g` of source `src` becomes the pending one. -/
def State.setPending (s : State) (g src : Nat) : State :=
  { (s.setFlag Reg.ALM_STATUS 3 true).setFld Reg.ALM_STATUS 10 8 g with alm := { s.alm with gradeFrom := src } }

theorem State.flag_setPending (s : State) (g src : Nat) : (s.setPending g src).flag Reg.ALM_STATUS 3 = true := by
  show ((s.setFlag Reg.ALM_STATUS 3 true).setFld Reg.ALM_STATUS 10 8 g).flag Reg.ALM_STATUS 3 = true
  rw [State.flag_setFld_other _ _ _ _ _ _ _ (by decide) (by decide) (.inr (.inl (by decide))),
    State.flag_setFlag_same _ _ _ _ (by decide)]

theorem State.fld_setPending (s : State) {g : Nat} (src : Nat) (hg : g < 8) :
    (s.setPending g src).fld Reg.ALM_STATUS 10 8 = g := by
  show ((s.setFlag Reg.ALM_STATUS 3 true).setFld Reg.ALM_STATUS 10 8 g).fld Reg.ALM_STATUS 10 8 = g
  rw [State.fld_setFld_same _ _ _ _ _ (by decide) (by decide)]
  exact Nat.mod_eq_of_lt hg

/-- On the holding page a request becomes the pending grade. -/
theorem State.requestGrade_holding {s : State} (g : Nat) (hsafe : s.safe = false) (hh : s.holding = true) :
    s.requestGrade g = (s.setPending g 0).almResult 1 := by
  simp [State.requestGrade, State.setPending, hsafe, hh]

/-- With a bank active a request for a grade that is present joins the pending one. -/
theorem State.requestGrade_active {s : State} {g : Nat} (hsafe : s.safe = false) (hh : s.holding = false)
    (hg : bitOf (imgVolMask s.active) g = true) : s.requestGrade g = (s.joinGrade g 0).almResult 1 := by
  simp [State.requestGrade, hsafe, hh, hg]

theorem State.joinGrade_first {s : State} {g : Nat} (src : Nat) (hp : s.flag Reg.ALM_STATUS 3 = false)
    (hne : g ≠ s.grade) : s.joinGrade g src = s.setPending g src := by
  simp [State.joinGrade, State.setPending, hp, hne]

/-- Of two pending grades the slower stands. -/
theorem State.joinGrade_pending {s : State} {g : Nat} (src : Nat) (hp : s.flag Reg.ALM_STATUS 3 = true) (hg : g < 8) :
    (s.joinGrade g src).flag Reg.ALM_STATUS 3 = true ∧
    (s.joinGrade g src).fld Reg.ALM_STATUS 10 8 = max g (s.fld Reg.ALM_STATUS 10 8) := by
  by_cases hlt : s.fld Reg.ALM_STATUS 10 8 < g
  · have hj : s.joinGrade g src =
        { s.setFld Reg.ALM_STATUS 10 8 g with alm := { s.alm with gradeFrom := src } } := by
      simp [State.joinGrade, hp, hlt]
    rw [hj, max_eq_left hlt.le]
    constructor
    · exact (s.flag_setFld_other _ _ 10 8 g 3 (by decide) (by decide) (.inr (.inl (by decide)))).trans hp
    · exact (s.fld_setFld_same _ 10 8 g (by decide) (by decide)).trans (Nat.mod_eq_of_lt hg)
  · have hj : s.joinGrade g src = s := by simp [State.joinGrade, hp, hlt]
    rw [hj, max_eq_right (not_lt.1 hlt)]
    exact ⟨hp, rfl⟩

/-- The answer to a granted request leaves the pending grade as it is. -/
theorem State.rd_almStatus_almResult (s : State) (v : Nat) :
    (s.almResult v).rd Reg.ALM_STATUS = s.rd Reg.ALM_STATUS :=
  s.rd_almResult_other v (by decide) (by decide)

/-- A grade that has become the pending one, with its result. -/
theorem State.setPending_granted (s : State) {g : Nat} (hg : g < 8) :
    ((s.setPending g 0).almResult 1).flag Reg.ALM_STATUS 3 = true ∧
    ((s.setPending g 0).almResult 1).fld Reg.ALM_STATUS 10 8 = g ∧ ((s.setPending g 0).almResult 1).alm.gradeFrom = 0 ∧
    ((s.setPending g 0).almResult 1).fld Reg.ALM_REQ_RESULT 3 0 = 1 := by
  rw [State.flag_congr (State.rd_almStatus_almResult _ 1), State.fld_congr (State.rd_almStatus_almResult _ 1),
    State.almResult_alm]
  exact ⟨s.flag_setPending g 0, s.fld_setPending 0 hg, rfl, State.fld_almResult _ (by decide)⟩

/-- Settles O19, by the branch that each request takes and the rule of a grade change. -/
theorem speedGradeRequestsAndChanges : Obligations.SpeedGradeRequestsAndChanges := by
  unfold Obligations.SpeedGradeRequestsAndChanges
  refine ⟨?holding, ?joins, ?recorded, ?change⟩
  case holding =>
    intro g s0 s hb hsafe hh
    refine ⟨_, exec_decision (i := .gradeRequest g) rfl hb, ?_⟩
    rw [State.requestGrade_holding g.val hsafe hh]
    exact s.setPending_granted g.isLt
  case joins =>
    intro g s0 s hb hsafe hh hg hp
    refine ⟨_, exec_decision (i := .gradeRequest g) rfl hb, ?_⟩
    obtain ⟨hflag, hgrade⟩ := State.joinGrade_pending 0 hp g.isLt
    rw [State.requestGrade_active hsafe hh hg, State.flag_congr (State.rd_almStatus_almResult _ 1),
      State.fld_congr (State.rd_almStatus_almResult _ 1)]
    exact ⟨hflag, hgrade, State.fld_almResult _ (by decide)⟩
  case recorded =>
    intro g s0 s hb hsafe hh hg hp hne
    refine ⟨_, exec_decision (i := .gradeRequest g) rfl hb, ?_⟩
    rw [State.requestGrade_active hsafe hh hg, State.joinGrade_first 0 hp hne]
    exact s.setPending_granted g.isLt
  case change =>
    intro b s0 s hb hact hp hh hgap hsafe hsw hn
    refine ⟨_, (exec_decision (i := .gradeChange) rfl hb).trans (effGradeChange_decides hact hp hh hgap hsafe hsw hn), ?_⟩
    rw [State.planAll_next, State.gradeChanged_alm, State.flag_congr (State.rd_planAll _ _ _ _ _),
      State.flag_congr (State.rd_planAll _ _ _ _ _), State.planAll_ledg, State.planAll_hwd,
      State.gradeAt_gradeChanged, State.sent_gradeChanged]
    refine ⟨rfl, State.flag_gradeChanged_pending _ _ _, State.flag_gradeChanged_event _ _ _, rfl, ?_, rfl⟩
    intro i hi hm
    rw [State.plans_planAll _ _ _ hi hm, State.gradeChanged_tick]

end Sys2Proof.Machine
end

section
/-!
SUPPORT. Switches, first activation and release of the Almanac (R58 to R65): what each decision leaves, and the proof of the
statement about them.
-/

namespace Sys2Proof.Machine

/-! ### SWITCH (R60, R63) -/

/-- The request that a SWITCH of this tick records. -/
def State.newRequest (s : State) : SwitchRequest :=
  ⟨s.tick, if s.fld Reg.ALM_SWITCH_WAIT 15 0 = 0 then none else some (s.tick + s.fld Reg.ALM_SWITCH_WAIT 15 0), s.holding⟩

/-- A SWITCH that nothing refuses is recorded and shown as pending. -/
theorem State.requestSwitch_recorded {s : State} (hsafe : s.safe = false) (hr : s.alm.request = none)
    (hn : s.alm.next ≠ .holding) (hok : s.holding = true ∨ s.switchFault = none) : s.requestSwitch =
      ({ s with alm := { s.alm with request := some s.newRequest } } : State).setFlag Reg.ALM_STATUS 2 true := by
  have hfault : (if s.holding = true then none else s.switchFault) = none := by
    rcases hok with h | h <;> simp [h]
  simp [State.requestSwitch, State.newRequest, hsafe, hr, hn, hfault]

/-- Conditions 1 to 3 of R63 hold. -/
theorem State.switchFault_none {s : State} (h3 : s.sbState = 3) (hstn : imgStnMask s.standbyImage = imgStnMask s.active)
    (hvol : bitOf (imgVolMask s.standbyImage) s.nextGrade = true) : s.switchFault = none := by
  simp [State.switchFault, h3, hstn, hvol]

/-! ### First activation (R60) -/

/-- The Almanac's own parts with no plan listed: two blocks that agree here differ in the facet plans alone. -/
def AlmBlk.sansPlans (a : AlmBlk) : AlmBlk := { a with plans := [] }

theorem AlmBlk.next_of_sansPlans {a b : AlmBlk} (h : b.sansPlans = a.sansPlans) : b.next = a.next :=
  (congrArg AlmBlk.next h :)

theorem AlmBlk.request_of_sansPlans {a b : AlmBlk} (h : b.sansPlans = a.sansPlans) : b.request = a.request :=
  (congrArg AlmBlk.request h :)

theorem State.upTo_sansPlans {f : State → Nat → State} (h : ∀ u x, (f u x).alm.sansPlans = u.alm.sansPlans) (s : State)
    (n : Nat) : (s.upTo n f).alm.sansPlans = s.alm.sansPlans := by
  unfold State.upTo
  induction List.range n generalizing s with
  | nil => rfl
  | cons x l ih => rw [List.foldl_cons, ih, h]

theorem State.modStn_alm (s : State) (i : Nat) (f : ScanStn → ScanStn) : (s.modStn i f).alm = s.alm := rfl

theorem State.planChecked_sansPlans (s : State) (i : Nat) (p : PlanNext) :
    (s.planChecked i p).alm.sansPlans = s.alm.sansPlans := rfl

theorem State.volumeCheck_alm (s : State) (i : Nat) : (s.volumeCheck i).alm = s.alm :=
  (State.volumeCheck_frame (F := (· ≠ .alm)) (R := fun _ => True) s i (Frame.refl s) (by decide) (by decide) (by decide)
    trivial (fun _ => trivial) trivial trivial trivial (fun _ => trivial) (fun _ => trivial) (fun _ => trivial)).parts .alm
    (fun h => h rfl)

/-- Checking a station marks its plan and leaves the rest of the block. -/
theorem State.checkStation_sansPlans (s : State) (i : Nat) : (s.checkStation i).alm.sansPlans = s.alm.sansPlans := by
  unfold State.checkStation
  split
  · dsimp only
    rw [State.planChecked_sansPlans, State.modStn_alm, State.volumeCheck_alm, State.modStn_alm]
  · rfl

theorem State.paceConfigCheck_alm (s : State) : s.paceConfigCheck.alm = s.alm :=
  (State.paceConfigCheck_frame (F := (· = .host)) (R := fun _ => True) s (Frame.refl s) rfl trivial trivial).parts .alm
    (by decide)

theorem State.bhConfigCheck_alm (s : State) : s.bhConfigCheck.alm = s.alm :=
  (State.bhConfigCheck_frame (F := (· = .host)) (R := fun _ => True) s (Frame.refl s) rfl trivial trivial).parts .alm
    (by decide)

/-- The checks of a first activation leave all of the Almanac block but the facet plans. -/
theorem State.activationChecks_sansPlans (s : State) (m : Memory) (g : Nat) :
    (s.activationChecks m g).alm.sansPlans = s.alm.sansPlans := by
  unfold State.activationChecks
  dsimp only
  have hcleared := State.upTo_sansPlans (f := fun t i => (t.wr (Reg.LEDG_PACE_STN_ARR i) 0).wr (Reg.LEDG_PACE_STN_CON i) 0)
    (fun _ _ => rfl) s 8
  rw [State.upTo_sansPlans (fun u i => ?station), State.bhConfigCheck_alm, State.paceConfigCheck_alm, State.setFld_alm,
    hcleared]
  case station =>
    split
    · exact u.checkStation_sansPlans i
    · rfl

/-- They write no register of the Almanac's 64 KB of BAR0 (R74). -/
theorem State.rd_activationChecks (s : State) (m : Memory) (g : Nat) {a : Nat} (ha : a / 0x10000 = 6) :
    (s.activationChecks m g).rd a = s.rd a := by
  refine (State.activationChecks_frame (F := fun _ => True) (R := (· / 0x10000 ≠ 6)) s m g (Frame.refl s) trivial trivial
    trivial trivial trivial (by decide) (fun i => ?pll) (by decide) (by decide) (by decide) (by decide) (fun i => ?arrived)
    (fun i => ?consumed) (by decide) (by decide) (fun i => ?divider) (fun i => ?pixel) (fun i => ?station)).regs a
    (not_not.2 ha)
  case pll => simp only [Reg.CLK_PLL_STATE]; omega
  case arrived => simp only [Reg.LEDG_PACE_STN_ARR]; omega
  case consumed => simp only [Reg.LEDG_PACE_STN_CON]; omega
  case divider => simp only [Reg.SCAN_STN_NDIV]; omega
  case pixel => simp only [Reg.SCAN_STN_PIXNOW]; omega
  case station => simp only [Reg.SCAN_STN_STATE]; omega

/-- A first activation that is granted (R60). -/
theorem effFirstActivation_granted {s : State} (h : s.canActivate = true) : ∃ t, effFirstActivation s = .next t ∧
    t.alm.next = .volume s.alm.standby s.activationGrade ∧ t.alm.request = none ∧
    t.flag Reg.ALM_STATUS 2 = false ∧ t.flag Reg.ALM_EVENTS 2 = true := by
  have hcan : ¬ (!s.canActivate) = true := by simp [h]
  unfold effFirstActivation
  rw [if_neg hcan]
  refine ⟨_, rfl, ?next, ?request, ?pending, ?switched⟩
  case next =>
    rw [AlmBlk.next_of_sansPlans (State.activationChecks_sansPlans _ _ _), State.planAll_next, State.event_alm,
      State.raiseBit_alm, State.almResult_alm, State.setFlag_alm, State.setFlag_alm]
  case request =>
    rw [AlmBlk.request_of_sansPlans (State.activationChecks_sansPlans _ _ _), State.planAll_request, State.event_alm,
      State.raiseBit_alm, State.almResult_alm, State.setFlag_alm, State.setFlag_alm]
  case pending =>
    rw [State.flag_congr (State.rd_activationChecks _ _ _ (by decide)), State.flag_congr (State.rd_planAll _ _ _ _ _),
      State.flag_congr (State.rd_event _ _ _ _ _), State.flag_congr (State.rd_raiseBit_other _ _ (by decide))]
    refine (State.flag_congr (State.rd_almStatus_almResult _ _) 2).trans ?_
    rw [State.flag_setFlag_other _ _ _ _ _ _ (by decide) (.inr (by decide)), State.flag_setFlag_same _ _ _ _ (by decide)]
  case switched =>
    rw [State.flag_congr (State.rd_activationChecks _ _ _ (by decide)), State.flag_congr (State.rd_planAll _ _ _ _ _),
      State.flag_congr (State.rd_event _ _ _ _ _), State.flag_raiseBit_same _ _ _ (by decide)]

/-! ### Bank switch (R63) -/

/-- A bank switch as it is decided, before a grade change in the same step and the new plans. -/
def State.switchDecided (s : State) : State :=
  (((({ s with alm := { s.alm with request := none, next := .volume s.alm.standby s.nextGrade } } : State).setFlag
    Reg.ALM_STATUS 2 false).almResult 1).raiseBit Reg.ALM_EVENTS 2).event
    0x0203 [imgBuildId s.active, imgBuildId s.standbyImage, s.nextGrade, s.tick]

theorem State.switchDecided_alm (s : State) : s.switchDecided.alm =
    { s.alm with request := none, next := .volume s.alm.standby s.nextGrade } := by
  rw [State.switchDecided, State.event_alm, State.raiseBit_alm, State.almResult_alm, State.setFlag_alm]

theorem State.switchDecided_tick (s : State) : s.switchDecided.tick = s.tick := by
  rw [State.switchDecided, State.event_tick, State.raiseBit_tick, State.almResult_tick, State.setFlag_tick]

/-- What the registers and Heartwood show of it. -/
theorem State.switchDecided_shows (s : State) : s.switchDecided.fld Reg.ALM_REQ_RESULT 3 0 = 1 ∧
    s.switchDecided.flag Reg.ALM_STATUS 2 = false ∧ s.switchDecided.flag Reg.ALM_EVENTS 2 = true ∧
    ⟨0x0203, s.tick, 0, [imgBuildId s.active, imgBuildId s.standbyImage, s.nextGrade, s.tick]⟩
      ∈ s.switchDecided.hwd.sent := by
  refine ⟨?result, ?pending, ?switched, ?sent⟩
  case result =>
    rw [State.switchDecided, State.fld_congr (State.rd_event _ _ _ _ _),
      State.fld_congr (State.rd_raiseBit_other _ _ (by decide)), State.fld_almResult _ (by decide)]
  case pending =>
    rw [State.switchDecided, State.flag_congr (State.rd_event _ _ _ _ _),
      State.flag_congr (State.rd_raiseBit_other _ _ (by decide)), State.flag_congr (State.rd_almStatus_almResult _ _),
      State.flag_setFlag_same _ _ _ _ (by decide)]
  case switched =>
    rw [State.switchDecided, State.flag_congr (State.rd_event _ _ _ _ _), State.flag_raiseBit_same _ _ _ (by decide)]
  case sent =>
    rw [State.switchDecided, State.sent_event, State.raiseBit_tick, State.almResult_tick, State.setFlag_tick]
    exact List.mem_append_right _ (List.mem_singleton_self _)

/-- With a grade pending, the switch carries out the grade change too. -/
def State.switchRuns (s : State) : State :=
  if s.flag Reg.ALM_STATUS 3 then s.switchDecided.gradeChanged s.grade s.nextGrade else s.switchDecided

theorem effBankSwitch_decides {s : State} (h : s.canSwitch = true) : effBankSwitch s =
    .next (s.switchRuns.planAll s.alm.standby s.nextGrade (imgStnMask s.standbyImage)) := by
  have hcan : ¬ (!s.canSwitch) = true := by simp [h]
  rw [effBankSwitch, if_neg hcan]
  rfl

theorem State.switchRuns_alm (s : State) : s.switchRuns.alm = s.switchDecided.alm := by
  unfold State.switchRuns
  split
  · exact State.gradeChanged_alm _ _ _
  · rfl

theorem State.switchRuns_tick (s : State) : s.switchRuns.tick = s.tick := by
  unfold State.switchRuns
  split
  · rw [State.gradeChanged_tick, State.switchDecided_tick]
  · exact s.switchDecided_tick

/-- A grade change in the same step adds to what the switch shows and hides nothing of it. -/
theorem State.switchRuns_shows (s : State) : s.switchRuns.fld Reg.ALM_REQ_RESULT 3 0 = 1 ∧
    s.switchRuns.flag Reg.ALM_STATUS 2 = false ∧ s.switchRuns.flag Reg.ALM_EVENTS 2 = true ∧
    ⟨0x0203, s.tick, 0, [imgBuildId s.active, imgBuildId s.standbyImage, s.nextGrade, s.tick]⟩
      ∈ s.switchRuns.hwd.sent := by
  obtain ⟨hresult, hpending, hswitched, hsent⟩ := s.switchDecided_shows
  unfold State.switchRuns
  split
  · rw [State.fld_congr (State.rd_gradeChanged_other _ _ _ (by decide) (by decide) (by decide)),
      State.flag_gradeChanged_status _ _ _ (by decide), State.sent_gradeChanged]
    exact ⟨hresult, hpending, State.flag_gradeChanged_keep _ _ hswitched, List.mem_append_left _ hsent⟩
  · exact ⟨hresult, hpending, hswitched, hsent⟩

/-! ### Lapse and release (R61, R64) -/

theorem effAlmCancel_pending {s : State} (h : s.alm.request.isSome = true) :
    effAlmCancel s = .next (s.almCancelled 7) := by
  rw [effAlmCancel, if_pos h]

theorem effSwitchLapse_lapses {s : State} {r : SwitchRequest} {d : Nat} (hr : s.alm.request = some r)
    (hd : r.deadline = some d) (hdue : d ≤ s.tick) (ha : s.canActivate = false) (hs : s.canSwitch = false) :
    effSwitchLapse s = .next (s.almCancelled (if r.activation && !s.allDisabled then 5 else 6)) := by
  have hno : ¬ (s.tick < d ∨ s.canActivate = true ∨ s.canSwitch = true) := by
    simp [hdue, ha, hs]
  simp only [effSwitchLapse, hr, hd, if_neg hno]

/-- A RELEASE as it is decided (R61). -/
theorem State.decideRelease_shows (s : State) : s.decideRelease.alm.next = .holding ∧
    s.decideRelease.alm.request = none ∧ s.decideRelease.alm.releaseWaits = false ∧
    s.decideRelease.fld Reg.ALM_REQ_RESULT 3 0 = 1 ∧ s.decideRelease.flag Reg.ALM_EVENTS 2 = true := by
  unfold State.decideRelease
  dsimp only
  rw [State.raiseBit_alm, State.almResult_alm, State.fld_congr (State.rd_raiseBit_other _ _ (by decide)),
    State.fld_almResult _ (by decide), State.flag_raiseBit_same _ _ _ (by decide)]
  refine ⟨rfl, ?_, rfl, rfl, rfl⟩
  cases h : s.alm.request with
  | none => simp [h]
  | some r => simp

theorem State.requestRelease_decides {s : State} (hh : s.holding = false) (hall : s.allDisabled = true)
    (h5 : s.sbState ≠ 5) : s.requestRelease = s.decideRelease := by
  simp [State.requestRelease, hh, hall, h5]

theorem State.requestRelease_waits {s : State} (hh : s.holding = false) (hall : s.allDisabled = true)
    (h5 : s.sbState = 5) : s.requestRelease = { s with alm := { s.alm with releaseWaits := true } } := by
  simp [State.requestRelease, hh, hall, h5]

theorem effReleaseAfterDrain_decides {s : State} (hw : s.alm.releaseWaits = true) (h5 : s.sbState ≠ 5)
    (hall : s.allDisabled = true) : effReleaseAfterDrain s = .next s.decideRelease := by
  rw [effReleaseAfterDrain, if_pos ⟨hw, h5⟩, if_pos hall]

/-- Settles O18, by the rule of each request and of each decision that answers it. -/
theorem switchesAndActivationOfTheAlmanac : Obligations.SwitchesAndActivationOfTheAlmanac := by
  unfold Obligations.SwitchesAndActivationOfTheAlmanac
  refine ⟨?activation, ?switch, ?granted, ?switched, ?cancel, ?lapse, ?release, ?waits, ?drained⟩
  case activation =>
    intro s0 s hb hsafe hr hn hh
    refine ⟨_, exec_decision (i := .switch) rfl hb, ?_⟩
    rw [State.requestSwitch_recorded hsafe hr hn (.inl hh), State.newRequest, hh]
    exact ⟨rfl, State.flag_setFlag_same _ _ _ _ (by decide)⟩
  case switch =>
    intro s0 s hb hsafe hr hn hh h3 hstn hvol
    refine ⟨_, exec_decision (i := .switch) rfl hb, ?_⟩
    rw [State.requestSwitch_recorded hsafe hr hn (.inr (State.switchFault_none h3 hstn hvol)), State.newRequest, hh]
    exact ⟨rfl, State.flag_setFlag_same _ _ _ _ (by decide), rfl⟩
  case granted =>
    intro r s0 s hb hr hact htime hh h3 hall hsafe hn
    have hcan : s.canActivate = true := by simp [State.canActivate, hr, hact, htime, hh, h3, hall, hsafe, hn]
    rw [exec_decision (i := .firstActivation) rfl hb]
    exact effFirstActivation_granted hcan
  case switched =>
    intro r s0 s hb hr hact htime hh hfault hlast hgap hsafe hn
    have hcan : s.canSwitch = true := by
      simp [State.canSwitch, hr, hact, htime, hh, hfault, hlast, hgap, hsafe, hn]
    refine ⟨_, (exec_decision (i := .bankSwitch) rfl hb).trans (effBankSwitch_decides hcan), ?_⟩
    obtain ⟨hresult, hpending, hswitched, hsent⟩ := s.switchRuns_shows
    rw [State.planAll_next, State.planAll_request, State.switchRuns_alm, State.switchDecided_alm,
      State.fld_congr (State.rd_planAll _ _ _ _ _), State.flag_congr (State.rd_planAll _ _ _ _ _),
      State.flag_congr (State.rd_planAll _ _ _ _ _), State.planAll_hwd]
    refine ⟨rfl, rfl, hresult, hpending, hswitched, fun i hi hm => ?_, hsent⟩
    rw [State.plans_planAll _ _ _ hi hm, State.switchRuns_tick]
  case cancel =>
    intro s0 s hb hr
    refine ⟨_, (exec_decision (i := .almCancel) rfl hb).trans (effAlmCancel_pending hr), ?_⟩
    rw [State.almCancelled_alm]
    exact ⟨rfl, s.flag_almCancelled_pending 7, s.fld_almCancelled (by decide), s.flag_almCancelled_failed (by decide),
      s.sent_almCancelled 7⟩
  case lapse =>
    intro r d s0 s hb hr hd hdue ha hs
    refine ⟨_, (exec_decision (i := .switchLapse) rfl hb).trans (effSwitchLapse_lapses hr hd hdue ha hs), ?_⟩
    rw [State.almCancelled_alm]
    refine ⟨rfl, State.flag_almCancelled_pending _ _, State.fld_almCancelled _ ?_, rfl⟩
    split <;> decide
  case release =>
    intro s0 s hb hh hall h5
    refine ⟨_, exec_decision (i := .release) rfl hb, ?_⟩
    obtain ⟨hnext, hrequest, -, hresult, hevent⟩ := s.decideRelease_shows
    rw [State.requestRelease_decides hh hall h5]
    exact ⟨hnext, hrequest, hresult, hevent⟩
  case waits =>
    intro s0 s hb hh hall h5
    refine ⟨_, exec_decision (i := .release) rfl hb, ?_⟩
    rw [State.requestRelease_waits hh hall h5]
    exact ⟨rfl, rfl⟩
  case drained =>
    intro s0 s hb hw h5 hall
    refine ⟨_, (exec_decision (i := .releaseAfterDrain) rfl hb).trans (effReleaseAfterDrain_decides hw h5 hall), ?_⟩
    obtain ⟨hnext, -, hwaits, hresult, -⟩ := s.decideRelease_shows
    exact ⟨hnext, hwaits, hresult⟩

end Sys2Proof.Machine
end

section
/-!
SUPPORT. The host's rings (R84 to R87, R101): the registers of a ring, what each request leaves in them, and the proof of the
statement about the requests.
-/

namespace Sys2Proof.Machine

/-! ### Commands that need no turn -/

/-- A command that comes at any point of a tick is its effect on the state in which it comes. -/
theorem exec_any {i : Instr} (ht : i.turn = .any) (s : State) : exec i s = i.effect s := by
  rw [exec_eq_run, ht, Turn.run_any]

/-! ### The registers of a ring -/

/-- A ring's state register is none of the index registers, of whichever ring. -/
theorem ringState_ne_index (j k : Nat) :
    Reg.HOST_RING_STATE j ≠ Reg.HOST_RING_HIDX k ∧ Reg.HOST_RING_STATE j ≠ Reg.HOST_RING_DIDX k := by
  simp only [Reg.HOST_RING_STATE, Reg.HOST_RING_HIDX, Reg.HOST_RING_DIDX]
  omega

theorem hidx_ne_didx (j k : Nat) : Reg.HOST_RING_HIDX j ≠ Reg.HOST_RING_DIDX k := by
  simp only [Reg.HOST_RING_HIDX, Reg.HOST_RING_DIDX]
  omega

/-- Two rings share none of the three. -/
theorem ringRegisters_ne {j k : Fin 16} (h : j ≠ k) : Reg.HOST_RING_STATE j ≠ Reg.HOST_RING_STATE k ∧
    Reg.HOST_RING_HIDX j ≠ Reg.HOST_RING_HIDX k ∧ Reg.HOST_RING_DIDX j ≠ Reg.HOST_RING_DIDX k := by
  simp only [Reg.HOST_RING_STATE, Reg.HOST_RING_HIDX, Reg.HOST_RING_DIDX]
  omega

theorem ringRegisters_ne_exportSeq (k : Nat) : Reg.HOST_RING_STATE k ≠ Reg.HWD_EXPORT_SEQ ∧
    Reg.HOST_RING_HIDX k ≠ Reg.HWD_EXPORT_SEQ ∧ Reg.HOST_RING_DIDX k ≠ Reg.HWD_EXPORT_SEQ := by
  simp only [Reg.HOST_RING_STATE, Reg.HOST_RING_HIDX, Reg.HOST_RING_DIDX, Reg.HWD_EXPORT_SEQ]
  omega

/-- HOST's single registers lie below the registers of the rings. -/
theorem ringState_ne_of_lt (k : Nat) {a : Nat} (h : a < 0x100) : Reg.HOST_RING_STATE k ≠ a := by
  simp only [Reg.HOST_RING_STATE]
  omega

/-- The state of a ring is read from its state register alone. -/
theorem State.ringState_congr {s t : State} {k : Nat}
    (h : t.rd (Reg.HOST_RING_STATE k) = s.rd (Reg.HOST_RING_STATE k)) : t.ringState k = s.ringState k :=
  State.fld_congr h 1 0

/-- The two indices of a ring are read from its two index registers, whichever side writes them. -/
theorem State.indices_congr {s t : State} {k : Nat} (hh : t.rd (Reg.HOST_RING_HIDX k) = s.rd (Reg.HOST_RING_HIDX k))
    (hd : t.rd (Reg.HOST_RING_DIDX k) = s.rd (Reg.HOST_RING_DIDX k)) :
    t.producer k = s.producer k ∧ t.consumer k = s.consumer k := by
  simp only [State.producer, State.consumer, State.rdN, hh, hd, and_self]

theorem State.indices_zero {s : State} {k : Nat} (hh : s.rd (Reg.HOST_RING_HIDX k) = 0)
    (hd : s.rd (Reg.HOST_RING_DIDX k) = 0) : s.producer k = 0 ∧ s.consumer k = 0 := by
  simp [State.producer, State.consumer, State.rdN, hh, hd]

theorem State.ringState_setRing (s : State) (k : Nat) {st : Nat} (h : st < 4) : (s.setRing k st).ringState k = st :=
  (s.fld_setFld_same _ 1 0 st (by decide) (by decide)).trans (Nat.mod_eq_of_lt h)

theorem State.rd_setRing_other (s : State) {k a : Nat} (st : Nat) (h : a ≠ Reg.HOST_RING_STATE k) :
    (s.setRing k st).rd a = s.rd a :=
  s.rd_setFld_other 1 0 st h

/-! ### Requests (R87) -/

/-- START of a STOPPED ring after lock: it runs, from both indices 0. Of the other registers, HWD_EXPORT_SEQ
alone may change. -/
theorem execRingStart_starts {k : Fin 16} {s : State} (h0 : s.ringState k = 0) (hl : s.locked = true)
    (ha : s.ringAllowed k = true) : ∃ t, execRingStart k s = .next t ∧ t.ringState k = 1 ∧
      t.rd (Reg.HOST_RING_HIDX k) = 0 ∧ t.rd (Reg.HOST_RING_DIDX k) = 0 ∧
      (∀ a, a ≠ Reg.HOST_RING_STATE k → a ≠ Reg.HOST_RING_HIDX k → a ≠ Reg.HOST_RING_DIDX k → a ≠ Reg.HWD_EXPORT_SEQ →
        t.rd a = s.rd a) := by
  obtain ⟨hsh, hsd⟩ := ringState_ne_index k k
  obtain ⟨hse, hhe, hde⟩ := ringRegisters_ne_exportSeq k
  have hexport (u : State) {a : Nat} (hne : a ≠ Reg.HWD_EXPORT_SEQ) :
      (if k.val = 15 then u.wrN Reg.HWD_EXPORT_SEQ u.exportStart else u).rd a = u.rd a := by
    split
    · exact u.rd_wrN_other _ hne
    · rfl
  rw [execRingStart, if_pos ⟨h0, hl, ha⟩]
  refine ⟨_, rfl, ?state, ?host, ?device, fun a hs hh hd he => ?other⟩
  case state =>
    rw [State.ringState_congr (hexport _ hse), State.ringState_setRing _ _ (by decide)]
  case host =>
    rw [hexport _ hhe, State.rd_setRing_other _ _ hsh.symm, State.rd_wrN_other _ _ (hidx_ne_didx k k), State.wrN,
      State.rd_wr_same]
    rfl
  case device =>
    rw [hexport _ hde, State.rd_setRing_other _ _ hsd.symm, State.wrN, State.rd_wr_same]
    rfl
  case other =>
    rw [hexport _ he, State.rd_setRing_other _ _ hs, State.rd_wrN_other _ _ hd, State.rd_wrN_other _ _ hh]
    rfl

theorem execRingStart_refused {k : Fin 16} {s : State}
    (h : ¬ (s.ringState k = 0 ∧ s.locked = true ∧ s.ringAllowed k = true)) :
    execRingStart k s = .next (s.ringStateError k) :=
  if_neg h

/-- The report of a request in the wrong state names the ring, and changes no ring. -/
theorem State.ringStateError_shows (s : State) (k : Fin 16) : (s.ringStateError k).flag Reg.HOST_ERR 4 = true ∧
    (s.ringStateError k).fld Reg.HOST_ERR_RING 3 0 = k.val ∧
    (∀ j, (s.ringStateError k).ringState j = s.ringState j) := by
  have hk : k.val % 16 = k.val := Nat.mod_eq_of_lt k.isLt
  refine ⟨?flag, ?ring, fun j => ?states⟩
  case flag =>
    rw [State.ringStateError, State.flag_congr (State.rd_setFld_other _ _ _ _ (by decide)), State.hostErr,
      State.flag_raiseBit_same _ _ _ (by decide)]
  case ring =>
    rw [State.ringStateError, State.fld_setFld_same _ _ _ _ _ (by decide) (by decide)]
    exact hk
  case states =>
    apply State.ringState_congr
    rw [State.ringStateError, State.rd_setFld_other _ _ _ _ (ringState_ne_of_lt j (by decide)), State.hostErr,
      State.rd_raiseBit_other _ _ (ringState_ne_of_lt j (by decide))]

/-- Settles O14, by the branch that each request takes. -/
theorem ringRequests : Obligations.RingRequests := by
  unfold Obligations.RingRequests
  refine ⟨?start, ?resume, ?stop, ?stopped, ?outstanding, ?refused⟩
  case start =>
    intro k s h0 hl ha
    obtain ⟨t, ht, hstate, hhost, hdevice, hother⟩ := execRingStart_starts h0 hl ha
    obtain ⟨hp, hc⟩ := State.indices_zero hhost hdevice
    refine ⟨t, (exec_any rfl s).trans ht, hstate, hp, hc, fun j hj => ?_⟩
    obtain ⟨hss, hhh, hdd⟩ := ringRegisters_ne hj
    obtain ⟨hsh, hsd⟩ := ringState_ne_index j k
    obtain ⟨hhs, hds⟩ := ringState_ne_index k j
    obtain ⟨hse, hhe, hde⟩ := ringRegisters_ne_exportSeq j
    exact ⟨State.ringState_congr (hother _ hss hsh hsd hse),
      State.indices_congr (hother _ hhs.symm hhh (hidx_ne_didx j k) hhe)
        (hother _ hds.symm (hidx_ne_didx k j).symm hdd hde)⟩
  case resume =>
    intro k s h hl ha
    exact ⟨_, (exec_any rfl s).trans (if_pos ⟨h, hl, ha⟩), s.ringState_setRing k (by decide),
      fun a hne => s.rd_setRing_other 1 hne⟩
  case stop =>
    intro k s h
    exact ⟨_, (exec_any rfl s).trans (if_pos h), s.ringState_setRing k (by decide),
      fun a hne => s.rd_setRing_other 2 hne⟩
  case stopped =>
    intro k s h hm
    have hquiet : s.ringState k = 2 ∧ (!tabGet false s.host.moved k) = true := by simp [h, hm]
    exact ⟨_, (exec_any rfl s).trans (if_pos hquiet), s.ringState_setRing k (by decide),
      fun a hne => s.rd_setRing_other 0 hne⟩
  case outstanding =>
    intro k s hm
    have hbusy : ¬ (s.ringState k = 2 ∧ (!tabGet false s.host.moved k) = true) := by simp [hm]
    exact ⟨s, (exec_any rfl s).trans (if_neg hbusy), rfl⟩
  case refused =>
    intro k s h
    obtain ⟨hflag, hring, hstates⟩ := s.ringStateError_shows k
    exact ⟨_, (exec_any rfl s).trans (execRingStart_refused h), hflag, hring, fun j => hstates j⟩

end Sys2Proof.Machine
end

section
/-!
SUPPORT. Detach, attach and the set-up lock (R81, R102, R105, R508): what each leaves, and the proof of the statement about
them.
-/

namespace Sys2Proof.Machine

/-! ### DETACH (R102) -/

/-- A ring put in STOPPED, where it is not so yet. -/
def State.stopRing (s : State) (k : Nat) : State := if s.ringState k = 0 then s else s.setRing k 0

/-- Every ring put in STOPPED, as DETACH does it. -/
def State.stopRings (s : State) : State := (List.range 16).foldl State.stopRing s

theorem State.ringState_stopRing_same (s : State) (k : Nat) : (s.stopRing k).ringState k = 0 := by
  unfold State.stopRing
  split
  · assumption
  · exact s.ringState_setRing k (by decide)

/-- A STOPPED ring stays so when another is stopped. -/
theorem State.ringState_stopRing_keep {s : State} (k : Nat) {j : Nat} (h : s.ringState j = 0) :
    (s.stopRing k).ringState j = 0 := by
  by_cases hreg : Reg.HOST_RING_STATE j = Reg.HOST_RING_STATE k
  · rw [State.ringState, hreg]
    exact s.ringState_stopRing_same k
  · unfold State.stopRing
    split
    · exact h
    · rw [State.ringState_congr (s.rd_setRing_other 0 hreg), h]

theorem State.ringState_foldl_stopRing (l : List Nat) (s : State) {j : Nat} (h : j ∈ l ∨ s.ringState j = 0) :
    (l.foldl State.stopRing s).ringState j = 0 := by
  induction l generalizing s with
  | nil => exact h.resolve_left List.not_mem_nil
  | cons k l ih =>
    apply ih
    rcases h with hmem | h0
    · rcases List.mem_cons.1 hmem with rfl | hl
      · exact .inr (s.ringState_stopRing_same j)
      · exact .inl hl
    · exact .inr (State.ringState_stopRing_keep k h0)

theorem State.ringState_stopRings (s : State) (k : Fin 16) : s.stopRings.ringState k = 0 :=
  State.ringState_foldl_stopRing _ s (.inl (List.mem_range.2 k.isLt))

/-- Stopping the rings writes their state registers alone. -/
theorem State.stopRings_frame (s : State) :
    Frame (fun _ => False) (fun a => ∃ k, a = Reg.HOST_RING_STATE k) s s.stopRings :=
  Frame.foldl _ _ (Frame.refl s) fun u hu k =>
    Frame.ite hu (State.setRing_frame u k 0 hu fun i => ⟨i, rfl⟩)

/-- What DETACH leaves of the link beside the rings: it is down, the configuration space is reset, and no write-back waits. -/
def State.unplugged (s : State) (cause : Nat) : State :=
  { s with host := { s.host with linkUp := false, pci := PciSetup.init, power := (if cause = 3 then 3 else 0), moved := [] } }

theorem State.rd_unplugged (s : State) (cause a : Nat) : (s.unplugged cause).rd a = s.rd a := rfl

/-- DETACH in the model's order: the rings, the link and the configuration space, HOST_STATUS and HOST_LINK, the two reports. -/
theorem execDetach_eq (cause : Nat) (s : State) : ∃ states, execDetach cause s =
    .next (((((s.stopRings.unplugged cause).setFlag Reg.HOST_STATUS 2 true).wrN Reg.HOST_LINK 0).fault
      0x040 0x07 0).event 0x0103 [cause, states]) := by
  have hstop : (List.range 16).foldl (fun t k => if t.ringState k = 0 then t else t.setRing k 0) s = s.stopRings := rfl
  refine ⟨(List.range 16).foldl (fun n k => n + s.ringState k * 4 ^ k) 0, ?_⟩
  unfold execDetach
  rw [hstop]
  rfl

/-! ### ATTACH (R71, R102, R105) -/

theorem execAttach_listed {r : LinkRate} (cfg : PciSetup) (s : State) (h1 : 1 ≤ r.speed) (h5 : r.speed ≤ 5)
    (hw : r.width = 1 ∨ r.width = 2 ∨ r.width = 4 ∨ r.width = 8) : execAttach r cfg s =
    .next (({ s with host := { s.host with linkUp := true, power := 0, pci := cfg } }.wrN Reg.HOST_LINK
      (r.speed % 8 + r.width % 32 * 16)).event 0x0102 [r.speed, r.width]) := by
  have hlisted : ¬ (!(decide (1 ≤ r.speed) && decide (r.speed ≤ 5) && [1, 2, 4, 8].contains r.width)) = true := by
    simp [h1, h5, hw]
  rw [execAttach, if_neg hlisted]

theorem execAttach_wide {r : LinkRate} (cfg : PciSetup) (s : State) (hw : r.width = 16) :
    execAttach r cfg s = .next s := by
  simp [execAttach, hw]

/-- HOST_LINK shows the speed in [2:0] and the width in [8:4] (R105). -/
theorem State.fld_hostLink (s : State) {speed width : Nat} (hs : speed ≤ 5) (hw : width ≤ 8) :
    (s.wrN Reg.HOST_LINK (speed % 8 + width % 32 * 16)).fld Reg.HOST_LINK 2 0 = speed ∧
    (s.wrN Reg.HOST_LINK (speed % 8 + width % 32 * 16)).fld Reg.HOST_LINK 8 4 = width := by
  simp only [State.fld, State.rdN_wrN_same, bitsOf, Nat.shiftRight_eq_div_pow]
  omega

/-! ### The set-up lock (R81, R508) -/

theorem State.setLock_locked {s : State} (h : s.locked = true) : s.setLock = s := by
  simp [State.setLock, h]

/-- With the imaging gate open LOCK is set, HOST_STATUS shows it, and Heartwood records it. -/
theorem State.setLock_open {s : State} (hl : s.locked = false) (hg : s.flag Reg.LCS_STATUS 3 = true) :
    s.setLock.locked = true ∧ s.setLock.flag Reg.HOST_STATUS 1 = true ∧
    ⟨0x0101, s.tick, 0, [s.tick, s.fld Reg.HOST_LINK 2 0, s.fld Reg.HOST_LINK 8 4]⟩ ∈ s.setLock.hwd.sent := by
  have hnl : ¬ s.locked = true := by simp [hl]
  have hng : ¬ (!s.flag Reg.LCS_STATUS 3) = true := by simp [hg]
  rw [State.setLock, if_neg hnl, if_neg hng]
  refine ⟨?lock, ?status, ?sent⟩
  case lock =>
    rw [State.locked, State.flag_congr (State.rd_event _ _ _ _ _), State.flag_congr (State.rd_event _ _ _ _ _),
      State.flag_congr (State.rd_setFlag_other _ _ _ (by decide)), State.flag_setFlag_same _ _ _ _ (by decide)]
  case status =>
    rw [State.flag_congr (State.rd_event _ _ _ _ _), State.flag_congr (State.rd_event _ _ _ _ _),
      State.flag_setFlag_same _ _ _ _ (by decide)]
  case sent =>
    simp

/-- With the gate closed the write is discarded and reported; LOCK stays clear. -/
theorem State.setLock_shut {s : State} (hl : s.locked = false) (hg : s.flag Reg.LCS_STATUS 3 = false) :
    s.setLock.locked = false ∧ s.setLock.flag Reg.LCS_EVENTS 0 = true ∧
    s.setLock.flt.sent = s.flt.sent ++ [⟨0x480, 0x03, Reg.HOST_SETUP_LOCK, s.tick⟩] := by
  have hnl : ¬ s.locked = true := by simp [hl]
  have hng : (!s.flag Reg.LCS_STATUS 3) = true := by simp [hg]
  rw [State.setLock, if_neg hnl, if_pos hng]
  refine ⟨?lock, ?event, ?sent⟩
  case lock =>
    rw [State.locked, State.flag_congr (State.rd_fault _ _ _ _ _), State.flag_congr (State.rd_raiseBit_other _ _ (by decide))]
    exact hl
  case event =>
    rw [State.flag_congr (State.rd_fault _ _ _ _ _), State.flag_raiseBit_same _ _ _ (by decide)]
  case sent =>
    rw [State.sent_fault, State.raiseBit_flt, State.raiseBit_tick]

/-- Settles O16, by the rule of each command. -/
theorem attachDetachAndLock : Obligations.AttachDetachAndLock := by
  unfold Obligations.AttachDetachAndLock
  refine ⟨?detach, ?attach, ?wide, ?gateOpen, ?gateShut, ?locked⟩
  case detach =>
    intro cause s
    obtain ⟨states, he⟩ := execDetach_eq cause s
    refine ⟨_, (exec_any rfl s).trans he, rfl, fun k => ?rings, ?link, rfl, rfl, ?status, ?sent⟩
    case rings =>
      rw [← s.ringState_stopRings k]
      apply State.ringState_congr
      rw [State.rd_event, State.rd_fault, State.rd_wrN_other _ _ (ringState_ne_of_lt k (by decide)),
        State.rd_setFlag_other _ _ _ (ringState_ne_of_lt k (by decide)), State.rd_unplugged]
    case link =>
      rw [State.rdN, State.rd_event, State.rd_fault, ← State.rdN, State.rdN_wrN_same, Nat.zero_mod]
    case status =>
      rw [State.flag_congr (State.rd_event _ _ _ _ _), State.flag_congr (State.rd_fault _ _ _ _ _),
        State.flag_congr (State.rd_wrN_other _ _ (by decide)), State.flag_setFlag_same _ _ _ _ (by decide)]
    case sent =>
      have hflt : s.stopRings.flt = s.flt := s.stopRings_frame.parts .flt id
      have htick : s.stopRings.tick = s.tick := s.stopRings_frame.parts .tick id
      rw [State.event_flt, State.sent_fault, State.wrN_flt, State.wrN_tick, State.setFlag_flt, State.setFlag_tick,
        State.unplugged, hflt, htick]
  case attach =>
    intro r cfg s h1 h5 hw
    refine ⟨_, (exec_any rfl s).trans (execAttach_listed cfg s h1 h5 hw), rfl, ?speed, ?width, rfl, rfl, rfl,
      fun a ha => ?other⟩
    case speed =>
      rw [State.fld_congr (State.rd_event _ _ _ _ _)]
      exact (State.fld_hostLink _ h5 (by omega)).1
    case width =>
      rw [State.fld_congr (State.rd_event _ _ _ _ _)]
      exact (State.fld_hostLink _ h5 (by omega)).2
    case other =>
      rw [State.rd_event, State.rd_wrN_other _ _ ha]
      rfl
  case wide =>
    intro r cfg s hw
    exact ⟨s, (exec_any rfl s).trans (execAttach_wide cfg s hw), rfl⟩
  case gateOpen =>
    intro s hl hg
    exact ⟨_, exec_any rfl s, State.setLock_open hl hg⟩
  case gateShut =>
    intro s hl hg
    exact ⟨_, exec_any rfl s, State.setLock_shut hl hg⟩
  case locked =>
    intro s hl
    exact ⟨_, exec_any rfl s, State.setLock_locked hl⟩

end Sys2Proof.Machine
end

section
/-!
SUPPORT. A read error at the quota of the completion queue (R94, R99, R100): an item's completion can fill the queue, and then
the error reaches Heartwood together with the notice that taking of descriptors is held back. This refutes the statement about
doorbells and items from rings, which lets a failed read of a buffer hand over one event only.
-/

namespace Sys2Proof.Machine

/-! ### The record that fills the completion queue (R99, R100) -/

/-- The record that brings the completion queue to its quota is reported to Heartwood as event 0x0105. -/
theorem State.sent_queueRecord_quota {s : State} (c : Completion) (hheld : s.host.held = false)
    (hq : completionQuota ≤ s.host.completions.length + 1) : (s.queueRecord c).hwd.sent =
      s.hwd.sent ++ [⟨0x0105, s.tick, 0, [s.host.completions.length + 1]⟩] := by
  have hfull : completionQuota ≤ (s.host.completions ++ [c]).length ∧ s.host.held = false := by
    rw [List.length_append, List.length_singleton]
    exact ⟨hq, hheld⟩
  rw [State.queueRecord, if_pos hfull, State.sent_event, State.hostErr, State.raiseBit_hwd, State.raiseBit_tick,
    List.length_append, List.length_singleton]

/-- Where no earlier item of its ring is open, an item that ends in an error leaves its record in the step that completes it. -/
theorem State.sent_complete_alone {s : State} {it : Item} {status : Nat} (detail : Nat) (hring : it.ring ≤ 9)
    (hopen : tabGet [] s.host.opened it.ring = []) (hst : status ≠ 0) :
    ∃ c, ((s.openItem it).complete it status detail).hwd.sent = ((s.openItem it).drawn.queueRecord c).hwd.sent := by
  have halone : tabGet [] (s.openItem it).host.opened it.ring =
      [⟨it.index, it.serial, it.tag, it.cookie, it.cpl, it.count, it.len, none⟩] := by
    rw [State.openItem, tabGet_tabSet_same, hopen, List.nil_append]
  rw [State.complete, if_pos hring, halone]
  simp only [List.map_cons, List.map_nil, if_true, State.showComplete, hst, ne_eq, not_false_eq_true, decide_true,
    Bool.or_true]
  exact ⟨_, rfl⟩

/-- Such an item fills the queue where one record is missing to the quota. -/
theorem State.sent_complete_quota {s : State} {it : Item} {status : Nat} (detail : Nat) (hring : it.ring ≤ 9)
    (hopen : tabGet [] s.host.opened it.ring = []) (hst : status ≠ 0) (hheld : s.host.held = false)
    (hq : completionQuota ≤ s.host.completions.length + 1) :
    ((s.openItem it).complete it status detail).hwd.sent =
      s.hwd.sent ++ [⟨0x0105, s.tick, 0, [s.host.completions.length + 1]⟩] := by
  obtain ⟨c, hc⟩ := State.sent_complete_alone detail hring hopen hst
  exact hc.trans (State.sent_queueRecord_quota c hheld hq)

/-! ### A failed read of a buffer (R94) -/

/-- An item is taken of a ring 0 to 9 alone, and not while taking is held back (R96, R100). -/
theorem State.canTake_taking {s : State} {k n : Nat} (h : s.canTake k n = true) : k ≤ 9 ∧ s.host.held = false := by
  simp only [State.canTake, Bool.and_eq_true, decide_eq_true_eq, Bool.not_eq_true'] at h
  obtain ⟨⟨⟨⟨⟨hk, -⟩, hheld⟩, -⟩, -⟩, -⟩ := h
  exact ⟨hk, hheld⟩

/-- The report of a failed read of host memory (R94, R107). -/
def State.readFailed (s : State) (k status : Nat) : State :=
  ((((s.hostErr 8).setFld Reg.HOST_ERR_RING 3 0 k).wrN Reg.HOST_ERR_INDEX (s.consumer k)).fault 0x040 0x06 0).event
    0x0104 [k, s.consumer k, status]

theorem execHostReadError_buffer {k : Fin 16} {descs : List (List Byte)} {s : State} (status : Nat)
    (hf : chainFormed k descs = true) (ht : s.canTake k descs.length = true) (hk : k.val ≠ 0) :
    execHostReadError k true descs status s =
      .next (((((s.readFailed k status).advance k descs.length).openItem
        (mkItem k (s.consumer k) s.host.serials descs [])).complete
        (mkItem k (s.consumer k) s.host.serials descs []) 3 0).setRing k 3) := by
  simp [execHostReadError, hf, ht, hk, State.readFailed]

/-- Of HOST, raising a flag can change the queued vectors alone (R104). -/
theorem State.raiseBit_host (s : State) (a i : Nat) : ∃ vs, (s.raiseBit a i).host = { s.host with vectors := vs } := by
  unfold State.raiseBit State.raise State.vector
  dsimp only
  split
  · exact ⟨_, rfl⟩
  · split <;> exact ⟨_, rfl⟩

/-- Neither the report nor the advance of the consumer index touches the open items and the completion queue. -/
theorem State.advance_readFailed_host (s : State) (k status n : Nat) :
    ((s.readFailed k status).advance k n).host.opened = s.host.opened ∧
    ((s.readFailed k status).advance k n).host.held = s.host.held ∧
    ((s.readFailed k status).advance k n).host.completions = s.host.completions := by
  have hhost : (s.readFailed k status).host = (s.hostErr 8).host := by
    rw [State.readFailed, State.event_host, State.fault_host, State.wrN_host, State.setFld_host]
  obtain ⟨vs, hvs⟩ := s.raiseBit_host Reg.HOST_ERR 8
  rw [State.hostErr, hvs] at hhost
  simp only [State.advance, State.wrN_host, hhost, and_self]

/-- The report hands one event to Heartwood. -/
theorem State.sent_advance_readFailed (s : State) (k status n : Nat) :
    ((s.readFailed k status).advance k n).tick = s.tick ∧
    ((s.readFailed k status).advance k n).hwd.sent =
      s.hwd.sent ++ [⟨0x0104, s.tick, 0, [k, s.consumer k, status]⟩] := by
  simp only [State.advance, State.wrN_tick, State.wrN_hwd, State.readFailed, State.event_tick, State.sent_event,
    State.fault_tick, State.fault_hwd, State.setFld_tick, State.setFld_hwd, State.hostErr,
    State.raiseBit_tick, State.raiseBit_hwd, and_self]

/-- A failed read of a buffer whose item fills the completion queue hands two events to Heartwood. -/
theorem exec_hostReadError_quota {k : Fin 16} {descs : List (List Byte)} {status : Nat} {s t : State}
    (hf : chainFormed k descs = true) (ht : s.canTake k descs.length = true) (hk : k.val ≠ 0)
    (hopen : tabGet [] s.host.opened k = []) (hq : completionQuota ≤ s.host.completions.length + 1)
    (he : exec (.hostReadError k true descs status) s = .next t) : t.hwd.sent = s.hwd.sent ++
      [⟨0x0104, s.tick, 0, [k, s.consumer k, status]⟩] ++ [⟨0x0105, s.tick, 0, [s.host.completions.length + 1]⟩] := by
  obtain ⟨hring, hheld⟩ := State.canTake_taking ht
  obtain ⟨ho, hh, hc⟩ := s.advance_readFailed_host k status descs.length
  obtain ⟨htick, hsent⟩ := s.sent_advance_readFailed k status descs.length
  have hexec := (exec_any (i := .hostReadError k true descs status) rfl s).trans (execHostReadError_buffer status hf ht hk)
  obtain rfl : _ = t := Host.Outcome.next.inj (hexec.symm.trans he)
  rw [State.setRing, State.setFld_hwd, State.sent_complete_quota 0 hring (ho ▸ hopen) (by decide) (hh.trans hheld)
    (hc ▸ hq), hsent, htick, hc]

/-- Refutes O15: a failed read of a buffer is reported as stated, but its item completes with READ_ERROR, and where its
record brings the completion queue to the quota of R100, a second event (0x0105, taking held back) goes to Heartwood in the
same step. The state is a running ring 9 with one bulk item covered by its doorbell and 2,047 records queued. -/
theorem not_doorbellsAndItemsFromRings : ¬ Obligations.DoorbellsAndItemsFromRings := by
  unfold Obligations.DoorbellsAndItemsFromRings
  rintro ⟨-, -, -, -, -, hbuffer, -, -⟩
  have hformed : chainFormed (9 : Fin 16)
      [leBytes 8 0xA000 ++ leBytes 8 0 ++ leBytes 4 4096 ++ leBytes 44 0] = true := by decide +kernel
  have htake : State.canTake { ((State.reset.wrN (Reg.HOST_RING_STATE 9) 1).wrN (Reg.HOST_RING_SIZE 9) 4).wrN
      (Reg.HOST_RING_HIDX 9) 1 with host := { State.reset.host with
        completions := List.replicate 2047 ⟨0, 0, 0, 9, 0, 0, 0, 0, 0, []⟩ } } (9 : Fin 16) 1 = true := by decide +kernel
  obtain ⟨t, he, -, -, -, -, -, hone, -⟩ := hbuffer 9 _ 1 _ _ hformed htake (by decide) rfl
  have htwo := exec_hostReadError_quota hformed htake (by decide) rfl
    (by rw [List.length_replicate]; decide) he
  exact List.cons_ne_nil _ _ (List.self_eq_append_right.1 (hone.symm.trans htwo))

end Sys2Proof.Machine
end

section
/-!
SUPPORT. The sheet ledger's shared operations (R109 to R116, R130 to R139): what a record, a change of state, a withdrawal and
a spoiled sheet leave in the table of sheets, in the rest of the block and in the registers.
-/

namespace Sys2Proof.Machine

/-! ### The turn of a ledger step -/

/-- A command of a ledger step whose turn has come is its effect on the state in which it is decided. -/
theorem exec_ledg_ready {i : Instr} {k : Nat} {s0 s : State} (ht : i.turn = .ledg k) (hb : s0.begin (.ledg k) = s)
    (hr : s.ready (.ledg k) = true) : exec i s0 = i.effect s := by
  rw [exec_eq_run, ht]
  exact Turn.run_ready _ hb hr

/-! ### Counters -/

/-- A whole-register counter counts one up, modulo 2³². -/
theorem State.rdN_bump (s : State) (a : Nat) : (s.bump a).rdN a = (s.rdN a + 1) % 2 ^ 32 := by
  have hall : bitsOf (s.rdN a) 31 0 = s.rdN a := by
    rw [bitsOf, Nat.shiftRight_zero]
    exact Nat.mod_eq_of_lt (s.rdN_lt a)
  have hput : ∀ n, putBits n 31 0 (s.rdN a + 1) = n / 2 ^ 32 * 2 ^ 32 + (s.rdN a + 1) % 2 ^ 32 := by
    intro n
    simp [putBits, Nat.shiftRight_eq_div_pow, Nat.shiftLeft_eq, Nat.mod_one]
  rw [State.bump, State.rdN_setFld _ _ _ _ _ _ (by decide) (by decide), if_pos rfl, State.fld, hall, hput,
    Nat.div_eq_of_lt (s.rdN_lt a)]
  simp

theorem State.rd_bump_other (s : State) {a b : Nat} (h : b ≠ a) : (s.bump a).rd b = s.rd b :=
  State.rd_wr_other s _ h

theorem State.rdN_congr {s t : State} {a : Nat} (h : t.rd a = s.rd a) : t.rdN a = s.rdN a := by
  rw [State.rdN, h, State.rdN]

/-! ### The table of sheets -/

theorem State.sheet_congr {s t : State} (h : t.ledg.sheets = s.ledg.sheets) (j : Nat) : t.sheet j = s.sheet j := by
  rw [State.sheet, h, State.sheet]

theorem State.sheet_of_put {s t : State} {id : Nat} {x : Sheet} (h : t.ledg.sheets = tabPut s.ledg.sheets id x) (j : Nat) :
    t.sheet j = if j = id then some x else s.sheet j := by
  rw [State.sheet, h, tabFind_tabPut, State.sheet]

/-- From `s` to `t` the entry of sheet `id` becomes `x`, and no other changes. -/
theorem State.sheet_only {s t : State} {id k : Nat} {x : Sheet} (h : t.ledg.sheets = tabPut s.ledg.sheets k x)
    (hk : k = id) : t.sheet id = some x ∧ ∀ j, j ≠ id → t.sheet j = s.sheet j := by
  subst hk
  exact ⟨(State.sheet_of_put h k).trans (if_pos rfl), fun j hj => (State.sheet_of_put h j).trans (if_neg hj)⟩

@[simp] theorem State.putSheet_ledg (s : State) (sh : Sheet) :
    (s.putSheet sh).ledg = { s.ledg with sheets := tabPut s.ledg.sheets sh.id sh } := rfl

@[simp] theorem State.putSheet_tick (s : State) (sh : Sheet) : (s.putSheet sh).tick = s.tick := rfl

@[simp] theorem State.rd_putSheet (s : State) (sh : Sheet) (a : Nat) : (s.putSheet sh).rd a = s.rd a := rfl

/-! ### Records and completions (R98, R116) -/

@[simp] theorem State.complete_ledg (s : State) (it : Item) (status detail : Nat) :
    (s.complete it status detail).ledg = s.ledg :=
  (s.complete_keeps it status detail).parts .ledg (by simp)

@[simp] theorem State.complete_tick (s : State) (it : Item) (status detail : Nat) :
    (s.complete it status detail).tick = s.tick :=
  (s.complete_keeps it status detail).parts .tick (by simp)

/-- What a ledger record leaves. -/
theorem State.ledgerRecord_keeps (s : State) (ev id st frm cause stn band aux : Nat) :
    Frame (fun b => b = .fresh ∨ b = .host ∨ b = .hwd) (· = Reg.HOST_ERR) s
      (s.ledgerRecord ev id st frm cause stn band aux) :=
  State.ledgerRecord_frame s ev id st frm cause stn band aux (Frame.refl s) (.inl rfl) (.inr (.inl rfl)) (.inr (.inr rfl)) rfl

@[simp] theorem State.ledgerRecord_ledg (s : State) (ev id st frm cause stn band aux : Nat) :
    (s.ledgerRecord ev id st frm cause stn band aux).ledg = s.ledg :=
  (s.ledgerRecord_keeps ev id st frm cause stn band aux).parts .ledg (by simp)

@[simp] theorem State.ledgerRecord_tick (s : State) (ev id st frm cause stn band aux : Nat) :
    (s.ledgerRecord ev id st frm cause stn band aux).tick = s.tick :=
  (s.ledgerRecord_keeps ev id st frm cause stn band aux).parts .tick (by simp)

theorem State.rd_ledgerRecord_other (s : State) (ev id st frm cause stn band aux : Nat) {a : Nat} (h : a ≠ Reg.HOST_ERR) :
    (s.ledgerRecord ev id st frm cause stn band aux).rd a = s.rd a :=
  (s.ledgerRecord_keeps ev id st frm cause stn band aux).regs a h

/-- A refused item: the ledger block and the tick stay, the refusal is counted, flagged and recorded (R115, R150). -/
theorem State.refuseItem_shows (s : State) (it : Item) (detail : Nat) :
    (s.refuseItem it detail).ledg = s.ledg ∧
    (s.refuseItem it detail).rdN Reg.LEDG_COUNT_REFUSED = (s.rdN Reg.LEDG_COUNT_REFUSED + 1) % 2 ^ 32 ∧
    (s.refuseItem it detail).flag Reg.LEDG_EVENTS 4 = true ∧
    ⟨0x0306, s.tick, 0, [tagSheet it.tag, detail, it.ring]⟩ ∈ (s.refuseItem it detail).hwd.sent := by
  refine ⟨?ledg, ?count, ?flag, ?sent⟩
  case ledg => simp [State.refuseItem, State.bump]
  case count =>
    rw [State.refuseItem, State.rdN_congr (State.rd_event _ _ _ _ _),
      State.rdN_congr (State.rd_raiseBit_other _ _ (by decide)), State.rdN_bump,
      State.rdN_congr (State.rd_complete_other _ _ _ _ (by decide))]
  case flag =>
    rw [State.refuseItem, State.flag_congr (State.rd_event _ _ _ _ _), State.flag_raiseBit_same _ _ _ (by decide)]
  case sent => simp [State.refuseItem, State.bump]

/-! ### Changes of state, withdrawals, spoiled sheets (R111, R135 to R137) -/

@[simp] theorem State.moveSheet_ledg (s : State) (sh : Sheet) (st : SheetState) (ev cause stn band aux : Nat) :
    (s.moveSheet sh st ev cause stn band aux).ledg =
      { s.ledg with sheets := tabPut s.ledg.sheets sh.id { sh with state := st } } := by
  simp [State.moveSheet]

@[simp] theorem State.moveSheet_tick (s : State) (sh : Sheet) (st : SheetState) (ev cause stn band aux : Nat) :
    (s.moveSheet sh st ev cause stn band aux).tick = s.tick := by
  simp [State.moveSheet]

theorem State.rd_moveSheet_other (s : State) (sh : Sheet) (st : SheetState) (ev cause stn band aux : Nat) {a : Nat}
    (h : a ≠ Reg.HOST_ERR) : (s.moveSheet sh st ev cause stn band aux).rd a = s.rd a :=
  State.rd_ledgerRecord_other _ _ _ _ _ _ _ _ _ h

@[simp] theorem State.stopSheet_ledg (s : State) (id : Nat) : (s.stopSheet id).ledg = s.ledg := rfl
@[simp] theorem State.dropLanes_ledg (s : State) (id : Nat) : (s.dropLanes id).ledg = s.ledg := rfl
@[simp] theorem State.dropLines_ledg (s : State) (id : Nat) : (s.dropLines id).ledg = s.ledg := rfl

@[simp] theorem State.rd_stopSheet (s : State) (id a : Nat) : (s.stopSheet id).rd a = s.rd a := rfl
@[simp] theorem State.rd_dropLanes (s : State) (id a : Nat) : (s.dropLanes id).rd a = s.rd a := rfl

/-- A withdrawal leaves of the ledger block all but the sheet's entry. -/
theorem State.withdraw_ledg (s : State) (sh : Sheet) (cause stn band : Nat) : (s.withdraw sh cause stn band).ledg =
    { s.ledg with sheets := tabPut s.ledg.sheets sh.id { sh with due := [], begun := [], state := .announced } } := by
  simp [State.withdraw]

/-- So does the spoiling of a sheet. -/
theorem State.spoil_ledg (s : State) (sh : Sheet) (cause stn band : Nat) : (s.spoil sh cause stn band).ledg =
    { s.ledg with sheets := tabPut s.ledg.sheets sh.id { sh with state := .spoiled } } := by
  simp [State.spoil, State.bump]

/-- It counts (R136). -/
theorem State.rdN_spoil (s : State) (sh : Sheet) (cause stn band : Nat) :
    (s.spoil sh cause stn band).rdN Reg.LEDG_COUNT_SPOILED = (s.rdN Reg.LEDG_COUNT_SPOILED + 1) % 2 ^ 32 := by
  rw [State.spoil, State.rdN_congr (State.rd_event _ _ _ _ _), State.rdN_congr (State.rd_raiseBit_other _ _ (by decide)),
    State.rdN_bump, State.rdN_congr (State.rd_dropLanes _ _ _), State.rdN_congr (State.rd_stopSheet _ _ _),
    State.rdN_congr (State.rd_moveSheet_other _ _ _ _ _ _ _ _ (by decide))]

end Sys2Proof.Machine
end

section
/-!
SUPPORT. The ledger items of ring 0 (R114 to R119, R140, R141, R146): the item that a row takes, what each accepted item leaves,
and the proof of the statement about them.
-/

namespace Sys2Proof.Machine

/-! ### The item that a row takes (R115, R385) -/

/-- A row decides the front item where its KIND and OPCODE are the row's own. -/
theorem State.ledgerRow_takes {s : State} {it : Item} {kind op : Nat} (f : State → Item → State)
    (hfront : s.frontOf 3 4 2 = some it) (hkind : tagKind it.tag = kind)
    (hop : kind = 5 ∨ kind = 6 ∧ it.opcode = op ∧ ledgerOpcode op = true) :
    s.ledgerRow kind op f = f (s.takeItem 3 4) it := by
  have htake : s.frontItem kind op = .take it := by
    obtain rfl | ⟨rfl, rfl, hop⟩ := hop
    · simp [State.frontItem, hfront, hkind]
    · simp [State.frontItem, hfront, hkind, hop]
  rw [State.ledgerRow, htake]

@[simp] theorem State.takeItem_ledg (s : State) (owner q : Nat) : (s.takeItem owner q).ledg = s.ledg := rfl

/-- Taking an item leaves what an announcement is checked against (R119). -/
theorem State.announceFault_takeItem (s : State) (owner q : Nat) (it : Item) :
    (s.takeItem owner q).announceFault it = s.announceFault it := rfl

/-! ### ANNOUNCE (R119, R120) -/

/-- An accepted announcement before its gap, if it leaves one, is recorded. -/
def State.enterSheet (s : State) (it : Item) : State :=
  ((((s.putSheet (mkSheet it)).wrN Reg.LEDG_NEXT_ID (tagSheet it.tag + 1)).setFlag Reg.LEDG_STATUS 9
    true).countEntries).complete it 0 0

/-- The report of a gap leaves the sheets and every register but the errors and the events. -/
theorem State.acceptSheet_keeps (s : State) (it : Item) :
    Frame (fun b => b = .fresh ∨ b = .host ∨ b = .hwd) (fun a => a = Reg.HOST_ERR ∨ a = Reg.LEDG_EVENTS) (s.enterSheet it)
      (s.acceptSheet it) := by
  unfold State.acceptSheet
  refine Frame.ite (State.event_frame _ _ _ _ (State.raiseBit_frame _ _ _ ?_ (by simp) (by simp)) (by simp)) (Frame.refl _)
  exact State.ledgerRecord_frame _ _ _ _ _ _ _ _ _ (Frame.refl _) (by simp) (by simp) (by simp) (by simp)

/-- The entry of an accepted announcement, NEXT_ID and its mark (R109, R119). -/
theorem State.acceptSheet_shows (s : State) (it : Item) :
    (s.acceptSheet it).ledg.sheets = tabPut s.ledg.sheets (tagSheet it.tag) (mkSheet it) ∧
    (s.acceptSheet it).rdN Reg.LEDG_NEXT_ID = (tagSheet it.tag + 1) % 2 ^ 32 ∧
    (s.acceptSheet it).flag Reg.LEDG_STATUS 9 = true := by
  have hrd : ∀ {a}, a ≠ Reg.HOST_ERR → a ≠ Reg.LEDG_EVENTS → (s.acceptSheet it).rd a = (s.enterSheet it).rd a :=
    fun h1 h2 => (s.acceptSheet_keeps it).regs _ (by simp [h1, h2])
  refine ⟨?sheets, ?next, ?flag⟩
  case sheets =>
    have hledg : (s.acceptSheet it).ledg = (s.enterSheet it).ledg := (s.acceptSheet_keeps it).parts .ledg (by simp)
    rw [hledg, State.enterSheet, State.complete_ledg]
    rfl
  case next =>
    rw [State.rdN_congr (hrd (by decide) (by decide)), State.enterSheet,
      State.rdN_congr (State.rd_complete_other _ _ _ _ (by decide)), State.countEntries,
      State.rdN_congr (State.rd_setFld_other _ _ _ _ (by decide)),
      State.rdN_congr (State.rd_setFlag_other _ _ _ (by decide)), State.rdN_wrN_same]
  case flag =>
    rw [State.flag_congr (hrd (by decide) (by decide)), State.enterSheet,
      State.flag_congr (State.rd_complete_other _ _ _ _ (by decide)), State.countEntries,
      State.flag_setFld_other _ _ _ _ _ _ _ (by decide) (by decide) (.inr (.inr (by decide))),
      State.flag_setFlag_same _ _ _ _ (by decide)]

/-! ### PURGE (R111, R130, R146) -/

/-- A purge takes the sheet from the admitted ones and marks the tick in which it ends. -/
theorem State.purgeSheet_ledg (s : State) (sh : Sheet) : (s.purgeSheet sh).ledg =
    { s.ledg with
      admitted := s.ledg.admitted.filter (fun a => decide (a.1 ≠ sh.id))
      sheets := tabPut s.ledg.sheets sh.id { sh with state := .purged, endedAt := s.tick } } := by
  simp [State.purgeSheet]

/-- A sheet that stands in no path is purged, and its item is done. -/
theorem State.decidePurge_accepts {s : State} {it : Item} {sh : Sheet} (htag : itemTagOk it = true)
    (hzero : zerosAt it.data 0 48 = true) (hs : s.sheet (tagSheet it.tag) = some sh)
    (hst : sh.state = .announced ∨ sh.state = .admitted ∨
      (sh.state = .spoiled ∨ sh.state = .jammed) ∧ sh.inPath = false) :
    s.decidePurge it = (s.purgeSheet sh).complete it 0 0 := by
  obtain h | h | ⟨h | h, hout⟩ := hst
  · simp [State.decidePurge, htag, hzero, hs, h]
  · simp [State.decidePurge, htag, hzero, hs, h]
  · simp [State.decidePurge, htag, hzero, hs, h, hout]
  · simp [State.decidePurge, htag, hzero, hs, h, hout]

/-! ### REPRINT (R141) -/

/-- The entry of a sheet as REPRINT hands it back: from band `fb` on, at place `place` of the reprint order. -/
def Sheet.reprinted (sh : Sheet) (fb place : Nat) : Sheet :=
  { sh with
    state := .announced, firstBand := fb, reprint := some place, due := [], begun := [], lastLine := 0, met := [],
    closed := [] }

theorem State.decideReprint_ledg {s : State} {it : Item} {sh : Sheet} (htag : itemTagOk it = true)
    (hzero : zerosAt it.data 2 46 = true) (hs : s.sheet (tagSheet it.tag) = some sh)
    (hst : sh.state = .spoiled ∨ sh.state = .jammed) (hout : sh.inPath = false) (hfb : leAt it.data 0 2 < sh.bands) :
    (s.decideReprint it).ledg =
      { s.ledg with
        sheets := tabPut s.ledg.sheets sh.id (sh.reprinted (leAt it.data 0 2) s.ledg.reprints)
        reprints := s.ledg.reprints + 1
        picked := tabSet false s.ledg.picked sh.id false } := by
  have hstate : ¬ (sh.state ≠ .spoiled ∧ sh.state ≠ .jammed) := by
    rcases hst with h | h <;> simp [h]
  have hband : ¬ sh.bands ≤ leAt it.data 0 2 := by omega
  simp [State.decideReprint, htag, hzero, hs, hstate, hout, hband, Sheet.reprinted]

/-! ### JAM_CLEAR (R140) -/

/-- With the count of jams, the jam is cleared and no sheet counts as admitted. -/
theorem State.decideJamClear_clears {s : State} {it : Item} (htag : itemTagOk it = true) (hid : tagSheet it.tag = 0)
    (hzero : zerosAt it.data 4 44 = true) (hjam : s.jammed = true) (hcount : leAt it.data 0 4 = s.rdN Reg.LEDG_COUNT_JAM) :
    (s.decideJamClear it).jammed = false ∧ (s.decideJamClear it).ledg.admitted = [] := by
  have hform : ¬ (!itemTagOk it || decide (tagSheet it.tag ≠ 0) || !zerosAt it.data 4 44) = true := by
    simp [htag, hid, hzero]
  have hdue : ¬ (!s.jammed || decide (leAt it.data 0 4 ≠ s.rdN Reg.LEDG_COUNT_JAM)) = true := by
    simp [hjam, hcount]
  rw [State.decideJamClear, if_neg hform, if_neg hdue]
  constructor
  · rw [State.jammed, State.flag_congr (State.rd_complete_other _ _ _ _ (by decide)),
      State.flag_congr (State.rd_event _ _ _ _ _), State.flag_congr (State.rd_ledgerRecord_other _ _ _ _ _ _ _ _ _ (by decide)),
      State.flag_setFlag_same _ _ _ _ (by decide)]
  · simp

/-! ### QUERY (R116, R118) -/

/-- A record queued is the last one of the completion queue. -/
theorem State.queueRecord_completions (s : State) (c : Completion) :
    (s.queueRecord c).host.completions = s.host.completions ++ [c] := by
  unfold State.queueRecord
  dsimp only
  split
  · obtain ⟨vs, hvs⟩ := State.raiseBit_host
      { s with host := { s.host with completions := s.host.completions ++ [c], held := true } } Reg.HOST_ERR 9
    rw [State.event_host, State.hostErr, hvs]
  · rfl

/-- Records that are queued stay so when an item completes. -/
theorem State.mem_completions_showComplete {s : State} {c : Completion} (k : Nat) (os : List OpenItem)
    (h : c ∈ s.host.completions) : c ∈ (s.showComplete k os).host.completions := by
  induction os generalizing s with
  | nil => exact h
  | cons o os ih =>
    unfold State.showComplete
    split
    · exact h
    · apply ih
      split
      · rw [State.queueRecord_completions]
        exact List.mem_append_left _ h
      · exact h

theorem State.mem_completions_complete {s : State} {c : Completion} (it : Item) (status detail : Nat)
    (h : c ∈ s.host.completions) : c ∈ (s.complete it status detail).host.completions := by
  unfold State.complete
  dsimp only
  split
  · exact State.mem_completions_showComplete _ _ (s := s.drawn) h
  · exact h

/-- A ledger record takes no item from an inbox. -/
theorem State.inboxOf_ledgerRecord (s : State) (ev id st frm cause stn band aux owner : Nat) :
    (s.ledgerRecord ev id st frm cause stn band aux).inboxOf owner = s.inboxOf owner := by
  rw [State.inboxOf, State.ledgerRecord, State.queueRecord_inbox, State.drawn_host, State.inboxOf]

/-- A ledger record is queued as a record of TYPE 1 with the present tick: its event, the state and the tag (R116). -/
theorem State.ledgerRecord_queued (s : State) (ev id st frm cause stn band aux : Nat) :
    ∃ c ∈ (s.ledgerRecord ev id st frm cause stn band aux).host.completions, c.type = 1 ∧ c.tag = mkTag id 0 0 6 0 ∧
      c.tick = s.tick ∧ c.body.take 2 = [BitVec.ofNat 8 ev, BitVec.ofNat 8 st] := by
  rw [State.ledgerRecord, State.queueRecord_completions]
  exact ⟨_, List.mem_append_right _ (List.mem_singleton_self _), rfl, rfl, rfl, rfl⟩

theorem State.decideQuery_accepts {s : State} {it : Item} {sh : Sheet} (htag : itemTagOk it = true)
    (hzero : zerosAt it.data 0 48 = true) (hs : s.sheet (tagSheet it.tag) = some sh) : s.decideQuery it =
      (s.ledgerRecord 0x0E sh.id sh.state.code sh.state.code 0 0xFF 0 (s.queryState sh.id)).complete it 0 0 := by
  simp [State.decideQuery, htag, hzero, hs]

/-- Settles O20, by the rule of each item on the state in which its row has taken it. -/
theorem ledgerItemsOfRingZero : Obligations.LedgerItemsOfRingZero := by
  unfold Obligations.LedgerItemsOfRingZero
  refine ⟨?announce, ?purge, ?reprint, ?jamClear, ?query⟩
  case announce =>
    intro it s0 s hb hr hfront hkind hok
    refine ⟨_, exec_ledg_ready (i := .announce) rfl hb hr, ?_⟩
    rw [State.ledgerRow_takes _ hfront hkind (.inl rfl), State.announceFault_takeItem, hok]
    obtain ⟨hsheets, hnext, hflag⟩ := (s.takeItem 3 4).acceptSheet_shows it
    obtain ⟨hsheet, hothers⟩ := State.sheet_only (s := s) hsheets rfl
    exact ⟨hsheet, hnext, hflag, hothers⟩
  case purge =>
    intro it sh s0 s hb hr hfront hkind hop htag hzero hs hid hst
    refine ⟨_, exec_ledg_ready (i := .purge) rfl hb hr, ?_⟩
    rw [State.ledgerRow_takes _ hfront hkind (.inr ⟨rfl, hop, rfl⟩),
      State.decidePurge_accepts (s := s.takeItem 3 4) htag hzero hs hst]
    have hledg := (s.takeItem 3 4).purgeSheet_ledg sh
    rw [← State.complete_ledg _ it 0 0] at hledg
    obtain ⟨hsheet, hothers⟩ := State.sheet_only (s := s) (congrArg LedgBlk.sheets hledg) hid
    refine ⟨hsheet, hothers, fun a ha => ?_⟩
    rw [hledg, List.mem_filter, decide_eq_true_eq, hid] at ha
    exact ha.2
  case reprint =>
    intro it sh s0 s hb hr hfront hkind hop htag hzero hs hid hst hout hfb
    refine ⟨_, exec_ledg_ready (i := .reprint) rfl hb hr, ?_⟩
    rw [State.ledgerRow_takes _ hfront hkind (.inr ⟨rfl, hop, rfl⟩)]
    have hledg := State.decideReprint_ledg (s := s.takeItem 3 4) htag hzero hs hst hout hfb
    obtain ⟨hsheet, hothers⟩ := State.sheet_only (s := s) (congrArg LedgBlk.sheets hledg) hid
    exact ⟨hsheet, hothers, congrArg LedgBlk.reprints hledg⟩
  case jamClear =>
    intro it s0 s hb hr hfront hkind hop htag hid hzero hjam hcount
    refine ⟨_, exec_ledg_ready (i := .jamClear) rfl hb hr, ?_⟩
    rw [State.ledgerRow_takes _ hfront hkind (.inr ⟨rfl, hop, rfl⟩)]
    exact State.decideJamClear_clears (s := s.takeItem 3 4) htag hid hzero hjam hcount
  case query =>
    intro it sh s0 s hb hr hfront hkind hop htag hzero hs
    refine ⟨_, exec_ledg_ready (i := .query) rfl hb hr, ?_⟩
    rw [State.ledgerRow_takes _ hfront hkind (.inr ⟨rfl, hop, rfl⟩),
      State.decideQuery_accepts (s := s.takeItem 3 4) htag hzero hs]
    obtain ⟨c, hc, hshown⟩ := State.ledgerRecord_queued (s.takeItem 3 4) 0x0E sh.id sh.state.code sh.state.code 0 0xFF 0
      ((s.takeItem 3 4).queryState sh.id)
    refine ⟨?ledg, ?inbox, c, State.mem_completions_complete it 0 0 hc, hshown⟩
    case ledg => rw [State.complete_ledg, State.ledgerRecord_ledg, State.takeItem_ledg]
    case inbox => rw [State.inboxOf_complete, State.inboxOf_ledgerRecord, State.inboxOf_takeItem]

end Sys2Proof.Machine
end

section
/-!
SUPPORT. Admission, commit and pick (R126 to R130): what each decision leaves of the ledger, and the proof of the statement about
them. A pick pulse of length 0 lasts one tick (log entry 17).
-/

namespace Sys2Proof.Machine

/-! ### Admission (R126 to R128) -/

theorem State.giveSheet_ledg (s : State) (sh : Sheet) : (s.giveSheet sh).ledg = s.ledg :=
  (State.giveSheet_frame (F := (· = .scan)) (R := fun _ => False) s sh (Frame.refl s) rfl).parts .ledg (by decide)

@[simp] theorem State.pathNotice_ledg (s : State) (kind value : Nat) : (s.pathNotice kind value).ledg = s.ledg := rfl

@[simp] theorem State.showHead_tick (s : State) : s.showHead.tick = s.tick := by
  unfold State.showHead
  dsimp only
  split <;> simp

/-- Q of a sheet admitted now: the pitch position, or P plus the margin less E where that lies further on (R128). -/
def State.plannedQ (s : State) (h : Sheet) : Int :=
  s.qPitch.elim (s.ledg.pos + um (s.admitMargin - s.eOf h)) (fun p => max p (s.ledg.pos + um (s.admitMargin - s.eOf h)))

/-- The entry of the head as it is admitted. -/
def State.admittedEntry (s : State) (h : Sheet) : Sheet :=
  { h with
    state := .admitted, q := s.plannedQ h, e := s.eOf h, due := [], begun := [], lastLine := 0, met := [], closed := [] }

/-- The head is admitted at Q = `q` (R128). -/
def State.admitAtQ (s : State) (h : Sheet) (q : Int) : State :=
  let s1 := { s with ledg := { s.ledg with
    admitted := ((h.id, q, h.lengthUm) :: s.ledg.admitted).take 256, admitAt := s.tick + 1 } }
  let s2 := if s.extension = 0 then s1 else s1.bump Reg.LEDG_PACE_COUNT_EXT
  let h1 := { h with q := q, e := s.eOf h, due := [], begun := [], lastLine := 0, met := [], closed := [] }
  ((s2.moveSheet h1 .admitted 0x01 0 0xFF 0 (codeOf 32 (q / 2 ^ 24))).giveSheet h1).pathNotice 1 (h.tray + h.bin * 256)

theorem State.admitSheet_eq (s : State) (h : Sheet) : s.admitSheet h = s.admitAtQ h (s.plannedQ h) := by
  unfold State.admitSheet State.plannedQ
  cases s.qPitch <;> rfl

theorem State.admitSheet_ledg (s : State) (h : Sheet) : (s.admitSheet h).ledg =
    { s.ledg with
      sheets := tabPut s.ledg.sheets h.id (s.admittedEntry h)
      admitted := ((h.id, s.plannedQ h, h.lengthUm) :: s.ledg.admitted).take 256
      admitAt := s.tick + 1 } := by
  rw [State.admitSheet_eq, State.admitAtQ, State.pathNotice_ledg, State.giveSheet_ledg, State.moveSheet_ledg]
  split
  · rfl
  · rw [State.bump, State.setFld_ledg]
    rfl

/-- The head is admitted where nothing holds it back, no sheet has been admitted in this tick, and no backhitch is to be
decided (R126, R127, R164). -/
theorem effAdmission_admits {s : State} {h : Sheet} (hh : s.showHead.head = some h) (hw : s.showHead.waitReason h = none)
    (hone : s.showHead.ledg.admitAt ≠ s.showHead.tick + 1)
    (hbh : s.showHead.bhWanted = false ∨ s.showHead.flag Reg.LEDG_BH_STATUS 7 = true) :
    effAdmission s = .next (s.showHead.admitSheet h) := by
  have hgo : ¬ ((s.showHead.waitReason h).isSome || decide (s.showHead.ledg.admitAt = s.showHead.tick + 1) ||
      (s.showHead.bhWanted && !s.showHead.flag Reg.LEDG_BH_STATUS 7)) = true := by
    rw [hw, decide_eq_false hone]
    rcases hbh with hb | hb <;> simp [hb]
  simp only [effAdmission, hh, if_neg hgo]

theorem effAdmission_without_head {s : State} (hh : s.showHead.head = none) : effAdmission s = .next s.showHead := by
  simp only [effAdmission, hh]

/-! ### Commit and pick (R129, R130) -/

theorem effCommit_commits {s : State} {id : Nat} {sh : Sheet} (hs : s.sheet id = some sh) (hst : sh.state = .admitted)
    (hfall : s.fallen (sh.q + um sh.e) = true) (hlate : s.commitLate sh = false) :
    effCommit id s = .next (s.moveSheet { sh with inPath := true } .committed 0x02) := by
  simp [effCommit, hs, hst, hfall, hlate]

/-- The state in which sheet `id` has been marked as picked and the pulse has begun. -/
def State.startPick (s : State) (id : Nat) : State :=
  { s with ledg := { s.ledg with
    picked := tabSet false s.ledg.picked id true, pickUntil := s.tick + max 1 (s.fld Reg.SIO_PICK_CFG 15 8) } }

theorem effPick_picks {s : State} {id : Nat} {sh : Sheet} (hs : s.sheet id = some sh) (hweb : s.web = false)
    (hin : sh.inPath = true) (hfall : s.fallen sh.q = true) (hnew : tabGet false s.ledg.picked id = false)
    (hst : sh.state = .committed ∨ sh.state = .imaged ∨ sh.state = .spoiled) :
    effPick id s = .next ((s.startPick id).pathNotice 2 id) := by
  simp [effPick, hs, hweb, hin, hfall, hnew, hst, State.startPick]

/-- Settles O21, by the branch that each decision takes and the rule of an admission. -/
theorem admissionCommitAndPick : Obligations.AdmissionCommitAndPick := by
  unfold Obligations.AdmissionCommitAndPick
  refine ⟨?admitted, ?none, ?commit, ?pick⟩
  case admitted =>
    intro u h q s0 s hb hr hu hh hw hone hbh hq
    subst hu hq
    refine ⟨_, (exec_ledg_ready (i := .admission) rfl hb hr).trans (effAdmission_admits hh hw hone hbh), ?_⟩
    have hledg := s.showHead.admitSheet_ledg h
    obtain ⟨hsheet, hothers⟩ := State.sheet_only (s := s.showHead) (congrArg LedgBlk.sheets hledg) rfl
    refine ⟨hsheet, ?_, ?_, hothers⟩
    · rw [hledg]
      rfl
    · rw [hledg, State.showHead_tick]
  case none =>
    intro u s0 s hb hr hu hh
    subst hu
    exact ⟨_, (exec_ledg_ready (i := .admission) rfl hb hr).trans (effAdmission_without_head hh), rfl⟩
  case commit =>
    intro id sh s0 s hb hr hs hid hst hfall hlate
    refine ⟨_, (exec_ledg_ready (i := .commit id) rfl hb hr).trans (effCommit_commits hs hst hfall hlate), ?_⟩
    have hledg := s.moveSheet_ledg { sh with inPath := true } .committed 0x02 0 0xFF 0 0
    obtain ⟨hsheet, hothers⟩ := State.sheet_only (s := s) (congrArg LedgBlk.sheets hledg) hid
    exact ⟨hsheet, hothers, (congrArg LedgBlk.admitted hledg :)⟩
  case pick =>
    intro id sh s0 s hb hs hweb hin hfall hnew hst
    refine ⟨_, (exec_decision (i := .pick id) rfl hb).trans (effPick_picks hs hweb hin hfall hnew hst), ?_⟩
    exact ⟨tabGet_tabSet_same false _ id true, rfl, rfl, fun _ => rfl⟩

end Sys2Proof.Machine
end

section
/-!
SUPPORT. Deadlines and failures (R125, R134 to R137): the report that a row takes, the sheets that a failure of a station spoils,
and the proof of the statement about them.
-/

namespace Sys2Proof.Machine

/-! ### Reports (R25, R385) -/

/-- A row decides the first report of its kind, taken from the list. -/
theorem State.onReport_takes {s : State} {k : ReportKind} {r : Report} (f : State → Report → State)
    (h : s.firstReport k = some r) : s.onReport k f = f (s.dropReport r) r := by
  rw [State.onReport, h]

@[simp] theorem State.dropReport_ledg (s : State) (r : Report) :
    (s.dropReport r).ledg = { s.ledg with reports := s.ledg.reports.erase r } := rfl

/-! ### Deadlines (R134, R135) -/

theorem effBandDeadline_fires {s : State} {id : Nat} {stn : Fin 8} {band : Nat} {sh : Sheet} (hs : s.sheet id = some sh)
    (hdue : s.deadlineDue sh stn band = true) : effBandDeadline id stn band s = .next (s.fireDeadline sh stn band) := by
  simp [effBandDeadline, hs, hdue]

/-- The entry of a sheet whose deadline on a band has fired. -/
def Sheet.firedLate (sh : Sheet) (stn band : Nat) : Sheet :=
  { sh with
    lateFired := tabSet false sh.lateFired (stn * 4096 + band) true, due := tabSet 0 sh.due (stn * 4096 + band) 0 }

theorem State.fireDeadline_committed {s : State} {sh : Sheet} (stn band : Nat) (h : sh.state = .committed) :
    s.fireDeadline sh stn band = s.spoil (sh.firedLate stn band) 0x01 stn band := by
  simp [State.fireDeadline, h, Sheet.firedLate]

theorem State.fireDeadline_admitted {s : State} {sh : Sheet} (stn band : Nat) (h : sh.state = .admitted) :
    s.fireDeadline sh stn band = s.withdraw (sh.firedLate stn band) 0x01 stn band := by
  simp [State.fireDeadline, h, Sheet.firedLate]

/-! ### Failures that concern several sheets (R137) -/

theorem State.sheet_spoil (s : State) (sh : Sheet) (cause stn band j : Nat) :
    (s.spoil sh cause stn band).sheet j = if j = sh.id then some { sh with state := .spoiled } else s.sheet j :=
  State.sheet_of_put (congrArg LedgBlk.sheets (s.spoil_ledg sh cause stn band)) j

/-- The sheet is held and SPOILED. -/
def State.spoiledAt (s : State) (j : Nat) : Bool := (s.sheet j).any (fun y => decide (y.state = .spoiled))

/-- A SPOILED sheet stays so when another sheet, or the same one, is spoiled. -/
theorem State.spoiledAt_spoil {s : State} {j : Nat} (sh : Sheet) (cause stn band : Nat)
    (h : j = sh.id ∨ s.spoiledAt j = true) : (s.spoil sh cause stn band).spoiledAt j = true := by
  rw [State.spoiledAt, State.sheet_spoil]
  split
  · rfl
  · next hne => exact h.resolve_left hne

theorem State.spoiledAt_foldl_spoil (l : List Sheet) {s : State} {j : Nat} (cause stn : Nat)
    (h : (∃ x ∈ l, x.id = j) ∨ s.spoiledAt j = true) :
    (l.foldl (fun t x => t.spoil x cause stn) s).spoiledAt j = true := by
  induction l generalizing s with
  | nil => simpa using h
  | cons y l ih =>
    apply ih
    rcases h with ⟨x, hx, rfl⟩ | h
    · rcases List.mem_cons.1 hx with rfl | hx
      · exact .inr (State.spoiledAt_spoil _ _ _ _ (.inl rfl))
      · exact .inl ⟨x, hx, rfl⟩
    · exact .inr (State.spoiledAt_spoil _ _ _ _ (.inr h))

theorem State.sheet_foldl_spoil_other (l : List Sheet) (s : State) {j : Nat} (cause stn : Nat) (h : ∀ x ∈ l, x.id ≠ j) :
    (l.foldl (fun t x => t.spoil x cause stn) s).sheet j = s.sheet j := by
  induction l generalizing s with
  | nil => rfl
  | cons y l ih =>
    rw [List.foldl_cons, ih _ (fun x hx => h x (List.mem_cons_of_mem y hx)), State.sheet_spoil,
      if_neg (h y List.mem_cons_self).symm]

theorem State.reports_foldl_spoil (l : List Sheet) (s : State) (cause stn : Nat) :
    (l.foldl (fun t x => t.spoil x cause stn) s).ledg.reports = s.ledg.reports := by
  induction l generalizing s with
  | nil => rfl
  | cons y l ih => rw [List.foldl_cons, ih, State.spoil_ledg]

/-- The COMMITTED sheets that `p` names are SPOILED; no other entry changes, and the waiting reports stay. -/
theorem State.spoilAll_shows (s : State) (cause : Nat) (p : Sheet → Bool) (stn : Nat) :
    (∀ x ∈ s.sheets, x.state = .committed → p x = true → (s.spoilAll cause p stn).spoiledAt x.id = true) ∧
    (∀ j, (∀ x ∈ s.sheets, x.state = .committed → p x = true → x.id ≠ j) →
      (s.spoilAll cause p stn).sheet j = s.sheet j) ∧
    (s.spoilAll cause p stn).ledg.reports = s.ledg.reports := by
  have hmem : ∀ x, x ∈ s.sheets.filter (fun x => decide (x.state = .committed) && p x) ↔
      x ∈ s.sheets ∧ x.state = .committed ∧ p x = true := by
    intro x
    rw [List.mem_filter, Bool.and_eq_true, decide_eq_true_eq]
  refine ⟨fun x hx hst hp => ?_, fun j hj => ?_, State.reports_foldl_spoil _ _ _ _⟩
  · exact State.spoiledAt_foldl_spoil _ _ _ (.inl ⟨x, (hmem x).2 ⟨hx, hst, hp⟩, rfl⟩)
  · refine State.sheet_foldl_spoil_other _ _ _ _ fun x hx => ?_
    obtain ⟨hin, hst, hp⟩ := (hmem x).1 hx
    exact hj x hin hst hp

/-! ### Decode failures (R125) -/

@[simp] theorem State.freeBand_ledg (s : State) (sheet stn band : Nat) : (s.freeBand sheet stn band).ledg = s.ledg :=
  (State.freeBand_frame (F := (· ≠ .ledg)) (R := fun _ => False) s sheet stn band (Frame.refl s) (by decide)
    (by decide)).parts .ledg (not_not.2 rfl)

/-- Settles O22, by the rule of a deadline and of the sheets that each report names. -/
theorem deadlinesSpoilAndWithdraw : Obligations.DeadlinesSpoilAndWithdraw := by
  unfold Obligations.DeadlinesSpoilAndWithdraw
  refine ⟨?late, ?withdrawn, ?underrun, ?beam, ?head, ?observer, ?decode⟩
  case late =>
    intro id stn band sh s0 s hb hr hs hid huses habsent hdue hst
    refine ⟨_, (exec_ledg_ready (i := .bandDeadline id stn band) rfl hb hr).trans (effBandDeadline_fires hs hdue), ?_⟩
    rw [State.fireDeadline_committed _ _ hst]
    have hledg := s.spoil_ledg (sh.firedLate stn band) 0x01 stn band
    obtain ⟨hsheet, hothers⟩ := State.sheet_only (s := s) (congrArg LedgBlk.sheets hledg) hid
    exact ⟨hsheet, hothers, s.rdN_spoil _ _ _ _⟩
  case withdrawn =>
    intro id stn band sh s0 s hb hr hs hid huses habsent hdue hst
    refine ⟨_, (exec_ledg_ready (i := .bandDeadline id stn band) rfl hb hr).trans (effBandDeadline_fires hs hdue), ?_⟩
    rw [State.fireDeadline_admitted _ _ hst]
    have hledg := s.withdraw_ledg (sh.firedLate stn band) 0x01 stn band
    obtain ⟨hsheet, hothers⟩ := State.sheet_only (s := s) (congrArg LedgBlk.sheets hledg) hid
    exact ⟨hsheet, hothers, (congrArg LedgBlk.admitted hledg :)⟩
  case underrun =>
    intro r sh s0 s hb hr hrep hs hid hst
    refine ⟨_, exec_ledg_ready (i := .underrunReport) rfl hb hr, ?_⟩
    have hheld : (s.dropReport r).sheet r.sheet = some sh := hs
    rw [State.onReport_takes _ hrep]
    simp only [hheld, hst, if_true]
    have hledg := (s.dropReport r).spoil_ledg sh 0x03 r.station r.band
    obtain ⟨hsheet, hothers⟩ := State.sheet_only (s := s) (congrArg LedgBlk.sheets hledg) hid
    exact ⟨hsheet, hothers, (congrArg LedgBlk.reports hledg :)⟩
  case beam =>
    intro r s0 s hb hr hrep
    refine ⟨_, exec_ledg_ready (i := .beamFailureReport) rfl hb hr, ?_⟩
    rw [State.onReport_takes _ hrep]
    exact (s.dropReport r).spoilAll_shows 0x07 (·.uses r.station) r.station
  case head =>
    intro r s0 s hb hr hrep
    refine ⟨_, exec_ledg_ready (i := .headShutdownReport) rfl hb hr, ?_⟩
    rw [State.onReport_takes _ hrep]
    obtain ⟨hspoiled, hothers, hreports⟩ := (s.dropReport r).spoilAll_shows 0x04 (fun _ => true) r.station
    exact ⟨fun x hx hst => hspoiled x hx hst rfl, fun j hj => hothers j fun x hx hst _ => hj x hx hst, hreports⟩
  case observer =>
    intro r s0 s hb hr hrep
    refine ⟨_, exec_ledg_ready (i := .observerLossReport) rfl hb hr, ?_⟩
    rw [State.onReport_takes _ hrep]
    obtain ⟨hspoiled, hothers, hreports⟩ :=
      (s.dropReport r).spoilAll_shows 0x05 (fun x => decide (x.stations &&& r.sheet ≠ 0)) 0xFF
    exact ⟨fun x hx hst hp => hspoiled x hx hst (decide_eq_true hp),
      fun j hj => hothers j fun x hx hst hp => hj x hx hst (of_decide_eq_true hp), hreports⟩
  case decode =>
    intro r sh s0 s hb hr hrep hs hid hst
    refine ⟨_, exec_ledg_ready (i := .decodeFailureReport) rfl hb hr, ?_⟩
    have hheld : (s.dropReport r).sheet r.sheet = some sh := hs
    rw [State.onReport_takes _ hrep]
    simp only [hheld]
    rw [if_pos hst]
    have hledg := ((s.dropReport r).freeBand r.sheet r.station r.band).spoil_ledg
      { sh with resident := tabSet false sh.resident (r.station * 4096 + r.band) false } 0x02 r.station r.band
    rw [State.freeBand_ledg] at hledg
    exact State.sheet_only (s := s) (congrArg LedgBlk.sheets hledg) hid

end Sys2Proof.Machine
end

section
/-!
SUPPORT. A sheet on its way along the path (R109, R131 to R134, R138): edges and targets, the count and the flags of a jam, the
reports of stations, delivery and the freed entry, and the proof of the statement about them.
-/

namespace Sys2Proof.Machine

/-! ### Edges and targets (R131, R132) -/

theorem effSheetEdge_inactive {s : State} {k : Fin 4} (h : s.pointActive k = false) : effSheetEdge k s = .next s := by
  simp [effSheetEdge, h]

theorem effSheetEdge_judges {s u : State} {k : Fin 4} {e : Edge} (ha : s.pointActive k = true)
    (hg : s.gatherScap (s.pointInput k) k = some (e, u)) : effSheetEdge k s = .next (u.judgeEdge k e) := by
  simp [effSheetEdge, ha, hg]

/-- An edge of the expected polarity is taken by the first of the targets of its kind in whose window it lies. -/
theorem State.judgeEdge_takes {s : State} {k : Nat} {e : Edge} {p0 p : Int} {sh0 sh : Sheet} {tr : Bool}
    (hn : s.nextTarget k = some (p0, sh0, tr)) (he : s.edgeExpected k tr e = true)
    (ht : leastTarget ((s.pendingTargets k).filter (fun x => x.2.2 == tr && s.inWindow x.1 (s.edgePos e))) =
      some (p, sh, tr)) : s.judgeEdge k e = s.takeEdge sh k tr p := by
  simp only [State.judgeEdge, hn, he, Bool.not_true, Bool.false_eq_true, if_false, ht]

/-- The entry of a sheet whose target at a point has been met. -/
def Sheet.meets (sh : Sheet) (point : Nat) (trail : Bool) : Sheet :=
  { sh with met := tabSet false sh.met (point * 2 + trail.toNat) true }

theorem State.takeEdge_ledg (s : State) (sh : Sheet) (k : Nat) (trail : Bool) (p : Int) : (s.takeEdge sh k trail p).ledg =
    { s.ledg with sheets := tabPut s.ledg.sheets sh.id (sh.meets k trail), metAt := (k, p) :: s.ledg.metAt } := rfl

theorem State.meetTarget_ledg (s : State) (sh : Sheet) (point : Nat) (trail : Bool) : (s.meetTarget sh point trail).ledg =
    { s.ledg with sheets := tabPut s.ledg.sheets sh.id (sh.meets point trail) } := rfl

theorem effTargetWithoutEdge_meets {s : State} {id : Nat} {k : Fin 4} {trail : Bool} {sh : Sheet}
    (hs : s.sheet id = some sh) (ha : s.pointActive k = false) (haw : sh.awaits k trail = true)
    (hfall : s.fallen (s.target sh k trail) = true) :
    effTargetWithoutEdge id k trail s = .next (s.meetTarget sh k trail) := by
  simp [effTargetWithoutEdge, hs, ha, haw, hfall]

/-! ### Jams (R138) -/

/-- A jam as it is noted first: counted, and shown in LEDG_STATUS. -/
def State.noteJam (s : State) : State := (s.bump Reg.LEDG_COUNT_JAM).setFlag Reg.LEDG_STATUS 10 true

/-- What a jam does to the sheets, the axes and a backhitch leaves its count and LEDG_STATUS. -/
theorem State.jam_keeps (s : State) (concerned : Option Nat) (cause point : Nat) :
    Frame (fun _ => True) (fun a => a ≠ Reg.LEDG_COUNT_JAM ∧ a ≠ Reg.LEDG_STATUS) s.noteJam (s.jam concerned cause point) := by
  unfold State.jam
  refine State.legJam_frame _ (State.raiseBit_frame _ _ _ (State.abortBackhitch_frame _ _ (State.stopPath_frame _ ?_ ?_ ?_)
    ?_ ?_ ?_ ?_ ?_ ?_ ?_ ?_ ?_ ?_ ?_) ?_ ?_) ?_ ?_
  · refine Frame.foldl _ _ (Frame.foldl _ _ (Frame.refl _) fun u hu x => ?_) fun u hu x => ?_
    · exact State.jamSheet_frame u x _ point hu trivial trivial trivial trivial trivial trivial (by decide)
    · exact State.withdraw_frame u x cause _ _ hu trivial trivial trivial trivial trivial trivial (by decide) (by decide)
  all_goals trivial

theorem State.rd_legJam_other (s : State) {a : Nat} (h : a ≠ Reg.LEG_STATUS) : s.legJam.rd a = s.rd a :=
  (State.legJam_frame (F := (· = .leg)) (R := (· = Reg.LEG_STATUS)) s (Frame.refl s) rfl rfl).regs a h

/-- A jam is shown, counted and flagged. -/
theorem State.jam_shows (s : State) (concerned : Option Nat) (cause point : Nat) :
    (s.jam concerned cause point).jammed = true ∧
    (s.jam concerned cause point).rdN Reg.LEDG_COUNT_JAM = (s.rdN Reg.LEDG_COUNT_JAM + 1) % 2 ^ 32 ∧
    (s.jam concerned cause point).flag Reg.LEDG_EVENTS 1 = true := by
  refine ⟨?shown, ?counted, ?flagged⟩
  case shown =>
    rw [State.jammed, State.flag_congr ((s.jam_keeps concerned cause point).regs _ (by decide)), State.noteJam,
      State.flag_setFlag_same _ _ _ _ (by decide)]
  case counted =>
    rw [State.rdN_congr ((s.jam_keeps concerned cause point).regs _ (by decide)), State.noteJam,
      State.rdN_congr (State.rd_setFlag_other _ _ _ (by decide)), State.rdN_bump]
  case flagged =>
    rw [State.jam, State.flag_congr (State.rd_legJam_other _ (by decide)), State.flag_raiseBit_same _ _ _ (by decide)]

/-- The entry of a sheet whose target has passed without an edge. -/
def Sheet.closes (sh : Sheet) (point : Nat) (trail : Bool) : Sheet :=
  { sh with closed := tabSet false sh.closed (point * 2 + trail.toNat) true }

theorem effEdgeWindowExpiry_jams {s : State} {id : Nat} {k : Fin 4} {trail : Bool} {sh : Sheet}
    (hs : s.sheet id = some sh) (ha : s.pointActive k = true) (haw : sh.awaits k trail = true)
    (hfall : s.fallen (s.target sh k trail + um s.edgeWin) = true) (hg : s.gatherScap (s.pointInput k) k = none) :
    effEdgeWindowExpiry id k trail s = .next ((s.putSheet (sh.closes k trail)).jam (some id) 0x10 k) := by
  simp [effEdgeWindowExpiry, hs, State.windowPast, ha, haw, hfall, hg, Sheet.closes]

/-! ### Begun bands (R134, R153) -/

/-- A begun band makes the deadline of the band LEAD_BANDS further on due, where that band is absent. -/
theorem State.bandBegun_due {s : State} {r : Report} {sh : Sheet} (hs : s.sheet r.sheet = some sh)
    (hst : sh.state = .committed ∨ sh.state = .admitted) (hb : r.band + s.leadBands < sh.bands)
    (habsent : sh.has r.station (r.band + s.leadBands) = false) :
    (s.bandBegun r).ledg.sheets = tabPut s.ledg.sheets sh.id { sh with
        due := tabPut sh.due (r.station * 4096 + (r.band + s.leadBands)) (s.tick + 1)
        begun := tabPut sh.begun r.station (r.band + 1) } ∧
    (s.bandBegun r).pace.begun = tabMod 0 s.pace.begun r.station (· + 1) := by
  have hheld : State.sheet { s with pace := { s.pace with begun := tabMod 0 s.pace.begun r.station (· + 1) } } r.sheet =
      some sh := hs
  have hdue : ((decide (sh.state = .committed) || decide (sh.state = .admitted)) &&
      decide (r.band + s.leadBands < sh.bands) && !sh.has r.station (r.band + s.leadBands)) = true := by
    rcases hst with h | h <;> simp [h, hb, habsent]
  simp only [State.bandBegun, hheld, if_pos hdue]
  exact ⟨rfl, rfl⟩

/-! ### Progress (R133) -/

theorem State.sheet_moveSheet (s : State) (sh : Sheet) (st : SheetState) (ev cause stn band aux j : Nat) :
    (s.moveSheet sh st ev cause stn band aux).sheet j = if j = sh.id then some { sh with state := st } else s.sheet j :=
  State.sheet_of_put (congrArg LedgBlk.sheets (s.moveSheet_ledg sh st ev cause stn band aux)) j

theorem State.sheet_putSheet (s : State) (sh : Sheet) (j : Nat) :
    (s.putSheet sh).sheet j = if j = sh.id then some sh else s.sheet j :=
  State.sheet_of_put (congrArg LedgBlk.sheets (s.putSheet_ledg sh)) j

/-- A FUSED sheet is delivered, and leaves the path. -/
def State.deliverSheet (s : State) (x : Sheet) : State :=
  ((s.moveSheet { x with inPath := false, endedAt := s.tick } .delivered 0x05).bump Reg.LEDG_COUNT_DELIVERED).raiseBit
    Reg.LEDG_EVENTS 5

theorem State.deliverSheet_sheets (s : State) (x : Sheet) : (s.deliverSheet x).ledg.sheets =
    tabPut s.ledg.sheets x.id { x with state := .delivered, inPath := false, endedAt := s.tick } := by
  rw [State.deliverSheet, State.raiseBit_ledg, State.bump, State.setFld_ledg, State.moveSheet_ledg]

/-- A delivery is counted and flagged. -/
theorem State.deliverSheet_shows (s : State) (x : Sheet) :
    (s.deliverSheet x).rdN Reg.LEDG_COUNT_DELIVERED = (s.rdN Reg.LEDG_COUNT_DELIVERED + 1) % 2 ^ 32 ∧
    (s.deliverSheet x).flag Reg.LEDG_EVENTS 5 = true := by
  constructor
  · rw [State.deliverSheet, State.rdN_congr (State.rd_raiseBit_other _ _ (by decide)), State.rdN_bump,
      State.rdN_congr (State.rd_moveSheet_other _ _ _ _ _ _ _ _ (by decide))]
  · exact State.flag_raiseBit_same _ _ _ (by decide)

/-- A FUSED sheet that has met its last trail target is delivered. -/
theorem State.progress_fused {s : State} {id : Nat} {x : Sheet} (hs : s.sheet id = some x) (hst : x.state = .fused)
    (h3 : x.hasMet 3 true = true) : s.progress id = s.deliverSheet x := by
  have hc : ¬ (x.state = .committed ∧ x.lastLine &&& x.stations = x.stations) := by simp [hst]
  have hi : ¬ (x.state = .imaged ∧ x.hasMet 2 true = true) := by simp [hst]
  have hf : x.state = .fused ∧ x.hasMet 3 true = true := ⟨hst, h3⟩
  simp only [State.progress, hs, if_neg hc, if_neg hi, if_pos hf, State.deliverSheet]

/-- A COMMITTED sheet whose last station has ended its last line is IMAGED, and no more where no trail target is met. -/
theorem State.progress_imaged {s : State} {id : Nat} {x : Sheet} (hs : s.sheet id = some x) (hid : x.id = id)
    (hst : x.state = .committed) (hl : x.lastLine &&& x.stations = x.stations) (h2 : x.hasMet 2 true = false) :
    s.progress id = s.moveSheet x .imaged 0x03 := by
  have hc : x.state = .committed ∧ x.lastLine &&& x.stations = x.stations := ⟨hst, hl⟩
  have hmoved : (s.moveSheet x .imaged 0x03).sheet id = some { x with state := .imaged } :=
    (s.sheet_moveSheet x _ _ _ _ _ _ id).trans (if_pos hid.symm)
  have hi : ¬ Sheet.hasMet { x with state := .imaged } 2 true = true := by simpa [Sheet.hasMet] using h2
  simp only [State.progress, hs, if_pos hc, hmoved, hi, and_false, if_false, reduceCtorEq, false_and]

/-- Where both trail targets have been met by then, it goes through FUSED and is delivered. -/
theorem State.progress_delivered {s : State} {id : Nat} {x : Sheet} (hs : s.sheet id = some x) (hid : x.id = id)
    (hst : x.state = .committed) (hl : x.lastLine &&& x.stations = x.stations) (h2 : x.hasMet 2 true = true)
    (h3 : x.hasMet 3 true = true) : s.progress id =
      ((s.moveSheet x .imaged 0x03).moveSheet { x with state := .imaged } .fused 0x04).deliverSheet
        { x with state := .fused } := by
  have hc : x.state = .committed ∧ x.lastLine &&& x.stations = x.stations := ⟨hst, hl⟩
  have himaged : (s.moveSheet x .imaged 0x03).sheet id = some { x with state := .imaged } :=
    (s.sheet_moveSheet x _ _ _ _ _ _ id).trans (if_pos hid.symm)
  have hfused : ((s.moveSheet x .imaged 0x03).moveSheet { x with state := .imaged } .fused 0x04).sheet id =
      some { x with state := .fused } :=
    (State.sheet_moveSheet _ _ _ _ _ _ _ _ id).trans (if_pos hid.symm)
  have hi : Sheet.hasMet { x with state := .imaged } 2 true = true := h2
  have hf : Sheet.hasMet { x with state := .fused } 3 true = true := h3
  simp only [State.progress, hs, if_pos hc, himaged, hi, and_self, if_true, hfused, hf, State.deliverSheet]

/-- What that leaves: the entry, the count, the flag, and every other sheet as it was. -/
theorem State.progress_delivered_shows {s : State} {id : Nat} {x : Sheet} (hs : s.sheet id = some x) (hid : x.id = id)
    (hst : x.state = .committed) (hl : x.lastLine &&& x.stations = x.stations) (h2 : x.hasMet 2 true = true)
    (h3 : x.hasMet 3 true = true) :
    (s.progress id).sheet id = some { x with state := .delivered, inPath := false, endedAt := s.tick } ∧
    (s.progress id).rdN Reg.LEDG_COUNT_DELIVERED = (s.rdN Reg.LEDG_COUNT_DELIVERED + 1) % 2 ^ 32 ∧
    (s.progress id).flag Reg.LEDG_EVENTS 5 = true ∧ ∀ j, j ≠ id → (s.progress id).sheet j = s.sheet j := by
  rw [State.progress_delivered hs hid hst hl h2 h3]
  obtain ⟨hcount, hflag⟩ := State.deliverSheet_shows
    ((s.moveSheet x .imaged 0x03).moveSheet { x with state := .imaged } .fused 0x04) { x with state := .fused }
  obtain ⟨hsheet, hothers⟩ := State.sheet_only (State.deliverSheet_sheets
    ((s.moveSheet x .imaged 0x03).moveSheet { x with state := .imaged } .fused 0x04) { x with state := .fused }) hid
  refine ⟨?entry, ?count, hflag, fun j hj => ?other⟩
  case entry => rw [hsheet, State.moveSheet_tick, State.moveSheet_tick]
  case count =>
    rw [hcount, State.rdN_congr (State.rd_moveSheet_other _ _ _ _ _ _ _ _ (by decide)),
      State.rdN_congr (State.rd_moveSheet_other _ _ _ _ _ _ _ _ (by decide))]
  case other =>
    have hne : j ≠ x.id := hid.symm ▸ hj
    rw [hothers j hj, State.sheet_moveSheet, if_neg hne, State.sheet_moveSheet, if_neg hne]

/-! ### Entries freed (R109) -/

theorem effEntryFreed_frees {s : State} {id : Nat} {sh : Sheet} (hs : s.sheet id = some sh)
    (hst : sh.state = .delivered ∨ sh.state = .purged) (hend : sh.endedAt < s.tick) :
    ∃ t, effEntryFreed id s = .next t ∧ t.ledg.sheets = tabDel s.ledg.sheets id := by
  have hfree : (sh.state = .delivered ∨ sh.state = .purged) ∧ sh.endedAt < s.tick := ⟨hst, hend⟩
  have hledg : ∀ u : State, (u.freeSheet id).countEntries.ledg = u.ledg := fun u =>
    (State.freeSheet_frame (F := (· ≠ .ledg)) (R := fun _ => False) u id (Frame.refl u) (by decide) (by decide)
      (by decide)).parts .ledg (not_not.2 rfl)
  simp only [effEntryFreed, hs, if_pos hfree]
  exact ⟨_, rfl, congrArg LedgBlk.sheets (hledg _)⟩

/-- Settles O23, by the rule of each edge, target and report, and of the progress that follows the last line. -/
theorem edgesTargetsAndReportsOfTheSheet : Obligations.EdgesTargetsAndReportsOfTheSheet := by
  unfold Obligations.EdgesTargetsAndReportsOfTheSheet
  refine ⟨?edge, ?inactive, ?expiry, ?target, ?begun, ?imaged, ?delivered, ?fused, ?freed⟩
  case edge =>
    intro k e u p0 sh0 tr p sh s0 s hb hr ha hg hn he ht
    refine ⟨_, (exec_ledg_ready (i := .sheetEdge k) rfl hb hr).trans (effSheetEdge_judges ha hg), ?_⟩
    rw [State.judgeEdge_takes hn he ht]
    have hledg := u.takeEdge_ledg sh k tr p
    obtain ⟨hsheet, hothers⟩ := State.sheet_only (s := u) (congrArg LedgBlk.sheets hledg) rfl
    exact ⟨hsheet, (congrArg LedgBlk.metAt hledg :), hothers⟩
  case inactive =>
    intro k s0 s hb hr ha
    exact ⟨s, (exec_ledg_ready (i := .sheetEdge k) rfl hb hr).trans (effSheetEdge_inactive ha), rfl⟩
  case expiry =>
    intro id k trail sh s0 s hb hr hs ha haw hfall hg
    refine ⟨_, (exec_ledg_ready (i := .edgeWindowExpiry id k trail) rfl hb hr).trans
      (effEdgeWindowExpiry_jams hs ha haw hfall hg), ?_⟩
    exact (s.putSheet (sh.closes k trail)).jam_shows (some id) 0x10 k
  case target =>
    intro id k trail sh s0 s hb hr hs hid ha haw hfall
    refine ⟨_, (exec_ledg_ready (i := .targetWithoutEdge id k trail) rfl hb hr).trans
      (effTargetWithoutEdge_meets hs ha haw hfall), ?_⟩
    exact State.sheet_only (congrArg LedgBlk.sheets (s.meetTarget_ledg sh k trail)) hid
  case begun =>
    intro r sh s hrep hs hid hst hband habsent
    refine ⟨_, exec_any (i := .bandBegun) rfl s, ?_⟩
    obtain ⟨hsheets, hbegun⟩ := State.bandBegun_due (s := s.dropReport r) hs hst hband habsent
    obtain ⟨hsheet, hothers⟩ := State.sheet_only (s := s) hsheets hid
    rw [State.onReport_takes _ hrep]
    refine ⟨hsheet, hothers, ?_⟩
    rw [hbegun, tabMod, tabGet_tabSet_same]
    rfl
  case imaged =>
    intro r sh s0 s hb hr hrep hs hid hst hall h2
    refine ⟨_, exec_ledg_ready (i := .lastLine) rfl hb hr, ?_⟩
    have hheld : (s.dropReport r).sheet r.sheet = some sh := hs
    have hput := ((s.dropReport r).sheet_putSheet { sh with lastLine := sh.lastLine ||| 2 ^ r.station } r.sheet).trans
      (if_pos hid.symm)
    rw [State.onReport_takes _ hrep]
    simp only [hheld]
    rw [State.progress_imaged hput hid hst hall h2]
    refine ⟨(State.sheet_moveSheet _ _ _ _ _ _ _ _ _).trans (if_pos hid.symm), fun j hj => ?_⟩
    have hne : j ≠ sh.id := hid.symm ▸ hj
    rw [State.sheet_moveSheet, if_neg hne, State.sheet_putSheet, if_neg hne]
    rfl
  case delivered =>
    intro r sh s0 s hb hr hrep hs hid hst hall h2 h3
    refine ⟨_, exec_ledg_ready (i := .lastLine) rfl hb hr, ?_⟩
    have hheld : (s.dropReport r).sheet r.sheet = some sh := hs
    have hput := ((s.dropReport r).sheet_putSheet { sh with lastLine := sh.lastLine ||| 2 ^ r.station } r.sheet).trans
      (if_pos hid.symm)
    rw [State.onReport_takes _ hrep]
    simp only [hheld]
    obtain ⟨hsheet, hcount, hflag, hothers⟩ := State.progress_delivered_shows hput hid hst hall h2 h3
    refine ⟨hsheet, hcount, hflag, fun j hj => ?_⟩
    have hne : j ≠ sh.id := hid.symm ▸ hj
    rw [hothers j hj, State.sheet_putSheet, if_neg hne]
    rfl
  case fused =>
    intro id sh s hs hid hst h3
    rw [State.progress_fused hs hst h3]
    obtain ⟨hsheet, hothers⟩ := State.sheet_only (s := s) (s.deliverSheet_sheets sh) hid
    obtain ⟨hcount, hflag⟩ := s.deliverSheet_shows sh
    exact ⟨hsheet, hcount, hflag, hothers⟩
  case freed =>
    intro id sh s0 s hb hs hst hend
    obtain ⟨t, ht, hsheets⟩ := effEntryFreed_frees hs hst hend
    refine ⟨t, (exec_decision (i := .entryFreed id) rfl hb).trans ht, ?_, fun j hj => ?_⟩
    · rw [State.sheet, hsheets, tabFind_tabDel, if_pos rfl]
    · rw [State.sheet, hsheets, tabFind_tabDel, if_neg hj, State.sheet]

end Sys2Proof.Machine
end

section
/-!
SUPPORT. Data items on their way into the page store (R121 to R124, R187, R188, R209 to R211): the frames that an item takes, the
item that is held early, refused or accepted, and the band that becomes resident.
-/

namespace Sys2Proof.Machine

/-! ### Frames (R209 to R211) -/

/-- The count of frames that a station holds is none of the counters beside it. -/
theorem psHeld_ne (k : Nat) : Reg.DRAM_PS_HELD k ≠ Reg.DRAM_FRAMES_FREE ∧ Reg.DRAM_PS_HELD k ≠ Reg.BURL_COUNT_IN ∧
    Reg.DRAM_PS_HELD k ≠ Reg.DRAM_STATUS := by
  simp only [Reg.DRAM_PS_HELD, Reg.DRAM_FRAMES_FREE, Reg.BURL_COUNT_IN, Reg.DRAM_STATUS]
  omega

/-- An item's frames are taken from the free list, counted for its station, and the item is counted (R188, R210). -/
def State.chargeItem (s : State) (it : Item) (frames : List Nat) : State :=
  (s.takeFrames (tagStation it.tag) frames).bump Reg.BURL_COUNT_IN

theorem State.chargeItem_counts (s : State) (it : Item) (frames : List Nat) :
    (s.chargeItem it frames).rdN Reg.DRAM_FRAMES_FREE = s.rdN Reg.DRAM_FRAMES_FREE - frames.length ∧
    (s.chargeItem it frames).rdN (Reg.DRAM_PS_HELD (tagStation it.tag)) =
      (s.rdN (Reg.DRAM_PS_HELD (tagStation it.tag)) + frames.length) % 2 ^ 32 ∧
    (s.chargeItem it frames).rdN Reg.BURL_COUNT_IN = (s.rdN Reg.BURL_COUNT_IN + 1) % 2 ^ 32 := by
  obtain ⟨hfree, hin, -⟩ := psHeld_ne (tagStation it.tag)
  refine ⟨?free, ?held, ?count⟩
  case free =>
    have hlt : s.rdN Reg.DRAM_FRAMES_FREE - frames.length < 2 ^ 32 := (Nat.sub_le _ _).trans_lt (s.rdN_lt _)
    rw [State.chargeItem, State.rdN_congr (State.rd_bump_other _ (by decide)), State.takeFrames,
      State.rdN_wrN_other _ _ hfree.symm, State.rdN_wrN_same]
    exact Nat.mod_eq_of_lt hlt
  case held =>
    rw [State.chargeItem, State.rdN_congr (State.rd_bump_other _ hin), State.takeFrames, State.rdN_wrN_same]
    rfl
  case count =>
    rw [State.chargeItem, State.rdN_bump, State.takeFrames, State.rdN_wrN_other _ _ hin.symm,
      State.rdN_wrN_other _ _ (by decide)]
    rfl

/-- Handing segments to free lanes changes the jobs alone (R189). -/
theorem State.startLanes_eq (s : State) : ∃ jobs, s.startLanes = { s with burl := { s.burl with jobs := jobs } } := by
  unfold State.startLanes
  induction List.range 16 generalizing s with
  | nil => exact ⟨_, rfl⟩
  | cons l ls ih =>
    rw [List.foldl_cons]
    split
    · obtain ⟨jobs, hjobs⟩ := ih
        { s with burl := { s.burl with jobs := giveSegment l (s.fld (Reg.BURL_CBIND l) 2 0) s.burl.jobs } }
      exact ⟨jobs, hjobs⟩
    · exact ih s

/-- The accepted item goes to the lanes or to the page store; beside BURL's lists only the charge changes anything. -/
theorem State.acceptData_eq (s : State) (it : Item) (sh : Sheet) (frames : List Nat) :
    ∃ b : BurlBlk, s.acceptData it sh frames = { s.chargeItem it frames with burl := b } ∧
      (tagKind it.tag ≠ 1 → b.writing = s.burl.writing ++ [⟨it, frames, it.data, s.tick⟩]) := by
  unfold State.acceptData
  dsimp only
  split
  · next hraw =>
    obtain ⟨jobs, hjobs⟩ := State.startLanes_eq _
    exact ⟨_, hjobs, fun hne => absurd hraw hne⟩
  · exact ⟨_, rfl, fun _ => rfl⟩

theorem tabFind_filter_ne {α : Type} (t : Tab α) (k : Nat) : tabFind (t.filter (fun x => decide (x.1 ≠ k))) k = none := by
  induction t with
  | nil => rfl
  | cons p t ih =>
    obtain ⟨i, v⟩ := p
    by_cases hi : i = k
    · simpa [List.filter_cons, hi] using ih
    · have hk : k ≠ i := fun h => hi h.symm
      simpa [List.filter_cons, hi, tabFind, hk] using fun _ => ih

/-- The station's item no longer waits. -/
theorem State.waitFrames_endWait (s : State) (stn : Nat) : tabFind (s.endWait stn).ledg.waitFrames stn = none :=
  tabFind_filter_ne s.ledg.waitFrames stn

theorem State.rd_endWait_other (s : State) (stn : Nat) {a : Nat} (h : a ≠ Reg.DRAM_STATUS) :
    (s.endWait stn).rd a = s.rd a :=
  State.rd_wr_other _ _ h

/-! ### The page store's ingress (R187, R188, R210) -/

/-- An item whose sheet has its directory at the station, with its frames within the quota and at hand, is accepted. -/
theorem State.toPageStore_accepts {s : State} {it : Item} {sh : Sheet} {frames : List Nat} {d : Nat}
    (hcode : s.ingressCode it sh = none) (hdir : s.dirOf sh.id (tagStation it.tag) = some d)
    (hres : s.canReserve (tagStation it.tag) (itemFrames it) = true) (hfresh : s.freshFrames frames (itemFrames it) = true) :
    s.toPageStore it sh frames = (s.acceptData it sh frames).endWait (tagStation it.tag) := by
  simp [State.toPageStore, hcode, hdir, hres, hfresh]

/-- What an accepted item leaves: the counts, no item waiting at its station, and its block under way. -/
theorem State.toPageStore_shows {s : State} {it : Item} {sh : Sheet} {frames : List Nat} {d : Nat}
    (hcode : s.ingressCode it sh = none) (hdir : s.dirOf sh.id (tagStation it.tag) = some d)
    (hres : s.canReserve (tagStation it.tag) (itemFrames it) = true) (hfresh : s.freshFrames frames (itemFrames it) = true) :
    tabFind (s.toPageStore it sh frames).ledg.waitFrames (tagStation it.tag) = none ∧
    (s.toPageStore it sh frames).rdN Reg.DRAM_FRAMES_FREE = s.rdN Reg.DRAM_FRAMES_FREE - frames.length ∧
    (s.toPageStore it sh frames).rdN (Reg.DRAM_PS_HELD (tagStation it.tag)) =
      (s.rdN (Reg.DRAM_PS_HELD (tagStation it.tag)) + frames.length) % 2 ^ 32 ∧
    (s.toPageStore it sh frames).rdN Reg.BURL_COUNT_IN = (s.rdN Reg.BURL_COUNT_IN + 1) % 2 ^ 32 ∧
    (tagKind it.tag ≠ 1 →
      (s.toPageStore it sh frames).burl.writing = s.burl.writing ++ [⟨it, frames, it.data, s.tick⟩]) := by
  obtain ⟨b, haccept, hwriting⟩ := s.acceptData_eq it sh frames
  obtain ⟨hfree, hheld, hcount⟩ := s.chargeItem_counts it frames
  obtain ⟨-, -, hstatus⟩ := psHeld_ne (tagStation it.tag)
  rw [State.toPageStore_accepts hcode hdir hres hfresh, haccept]
  refine ⟨State.waitFrames_endWait _ _, ?_, ?_, ?_, hwriting⟩
  · exact (State.rdN_congr (State.rd_endWait_other _ _ (by decide))).trans hfree
  · exact (State.rdN_congr (State.rd_endWait_other _ _ hstatus)).trans hheld
  · exact (State.rdN_congr (State.rd_endWait_other _ _ (by decide))).trans hcount

/-! ### The check of a header (R121, R122) -/

section
variable {s : State} {stn : Fin 8} {it : Item} {rest : List Item} (hearly : tabFind s.ledg.early stn = none)
  (hbox : s.inboxOf (32 + stn) = it :: rest) (hwait : tabFind s.ledg.waitFrames stn = none) (hraw : s.rawStuck stn = false)
include hearly hbox hwait hraw

/-- The front item of a station whose sheet is not yet announced is held early. -/
theorem effDataHeader_early (frames : List Nat) (hfate : s.headerFate it.tag = .early) :
    effDataHeader stn frames s = .next ((s.dropInbox (32 + stn)).holdEarly it) := by
  simp only [effDataHeader, hearly, hbox, hwait, hraw, hfate]

theorem effDataHeader_refuses (frames : List Nat) {c : Nat} (hfate : s.headerFate it.tag = .refuse c) :
    effDataHeader stn frames s = .next ((s.dropInbox (32 + stn)).refuseItem it c) := by
  simp only [effDataHeader, hearly, hbox, hwait, hraw, hfate]

/-- One that passes goes to the page store, with the frames that it takes. -/
theorem effDataHeader_passes {frames : List Nat} {sh : Sheet} {d : Nat} (hfate : s.headerFate it.tag = .pass sh)
    (hdir : s.dirOf sh.id (tagStation it.tag) = some d) (hfresh : s.freshFrames frames (itemFrames it) = true) :
    effDataHeader stn frames s = .next ((s.dropInbox (32 + stn)).toPageStore it sh frames) := by
  have hfit : s.framesFit it sh frames = true := by simp [State.framesFit, hdir, hfresh]
  simp only [effDataHeader, hearly, hbox, hwait, hraw, hfate, hfit, if_true]

end

theorem effEarlyWaitExpiry_refuses {s : State} {stn : Fin 8} {x : HeldItem} (hearly : tabFind s.ledg.early stn = some x)
    (hdue : x.deadline ≤ s.tick) (hs : s.sheet (tagSheet x.item.tag) = none) :
    effEarlyWaitExpiry stn s = .next ((s.dropEarly stn).refuseItem x.item 0x01) := by
  simp [effEarlyWaitExpiry, hearly, hdue, hs]

theorem effFramesAvailable_held {s : State} {stn : Fin 8} (frames : List Nat) {w : HeldItem} {sh : Sheet}
    (hw : tabFind s.ledg.waitFrames stn = some w) (hs : s.sheet (tagSheet w.item.tag) = some sh) :
    effFramesAvailable stn frames s = .next (s.toPageStore w.item sh frames) := by
  simp only [effFramesAvailable, hw, hs]

/-! ### Residency (R124, R210) -/

/-- The block of a write has been stored, and the band is listed with its frames. -/
def State.landBlock (s : State) (w : Writing) (sheet stn band : Nat) : State :=
  let s1 := { s with burl := { s.burl with writing := s.burl.writing.erase w } }
  { s1.storeBlock w.block w.frames with dram := { (s1.storeBlock w.block w.frames).dram with
    bands := tabPut s1.dram.bands (bandKey sheet stn band) ⟨w.frames, s1.tick⟩ } }

theorem execBandResident_lands {s : State} {sheet : Nat} {stn : Fin 8} {band : Nat} {w : Writing} {sh : Sheet}
    (hw : s.writingOf sheet stn band = some w) (hstamp : w.stamp < s.tick) (htrain : s.flag Reg.DRAM_STATUS 2 = false)
    (hopen : s.decideOpen = false) (hread : s.reportsRead = true) (hs : s.sheet sheet = some sh) (hf : w.frames ≠ []) :
    execBandResident sheet stn band s = .next ((((s.landBlock w sheet stn band).setDirectory sheet stn band
      (w.frames.headD 0)).makeResident sh stn band).complete w.item 0 0) := by
  have hgo : ¬ (s.tick ≤ w.stamp ∨ s.flag Reg.DRAM_STATUS 2 = true ∨ s.decideOpen = true ∨ (!s.reportsRead) = true) := by
    simp [hstamp, htrain, hopen, hread]
  have hheld : State.sheet { s with burl := { s.burl with writing := s.burl.writing.erase w } } sheet = some sh := hs
  simp only [execBandResident, hw, if_neg hgo, hheld, if_neg hf, State.landBlock]

theorem State.landBlock_shows (s : State) (w : Writing) (sheet stn band : Nat) :
    (s.landBlock w sheet stn band).ledg = s.ledg ∧
    (s.landBlock w sheet stn band).burl.writing = s.burl.writing.erase w ∧
    (s.landBlock w sheet stn band).band sheet stn band = some ⟨w.frames, s.tick⟩ := by
  have hstore : ∀ u : State, Frame (· = .dram) (fun _ => False) u (u.storeBlock w.block w.frames) := fun u =>
    State.storeBlock_frame u _ _ (Frame.refl u) rfl
  refine ⟨?ledg, ?writing, ?band⟩
  case ledg => exact (hstore _).parts .ledg (by decide)
  case writing => exact congrArg BurlBlk.writing ((hstore _).parts .burl (by decide))
  case band => rw [State.band, State.landBlock, tabFind_tabPut, if_pos rfl]

/-- A directory entry is bytes of DRAM alone (R209). -/
theorem State.setDirectory_keeps (s : State) (sheet stn band lead : Nat) :
    (s.setDirectory sheet stn band lead).ledg = s.ledg ∧ (s.setDirectory sheet stn band lead).burl = s.burl ∧
    (s.setDirectory sheet stn band lead).dram.bands = s.dram.bands := by
  unfold State.setDirectory
  split <;> exact ⟨rfl, rfl, rfl⟩

/-- A band that comes in time becomes resident; no record is made of it (R124). -/
theorem State.makeResident_inTime (s : State) {sh : Sheet} {stn band : Nat}
    (h : tabGet false sh.lateFired (stn * 4096 + band) = false) :
    (s.makeResident sh stn band).ledg.sheets =
      tabPut s.ledg.sheets sh.id { sh with resident := tabSet false sh.resident (stn * 4096 + band) true } ∧
    (s.makeResident sh stn band).burl = s.burl ∧ (s.makeResident sh stn band).dram = s.dram := by
  simp only [State.makeResident, h, Bool.false_eq_true, if_false]
  exact ⟨rfl, rfl, rfl⟩

@[simp] theorem State.complete_burl (s : State) (it : Item) (status detail : Nat) :
    (s.complete it status detail).burl = s.burl :=
  (s.complete_keeps it status detail).parts .burl (by simp)

@[simp] theorem State.complete_dram (s : State) (it : Item) (status detail : Nat) :
    (s.complete it status detail).dram = s.dram :=
  (s.complete_keeps it status detail).parts .dram (by simp)

end Sys2Proof.Machine
end

section
/-!
SUPPORT. The lanes of the compressor and of the decompressor (R189 to R198): the end of a compressed item, a binding decided in a
common gap, a segment handed out, written line by line and ended, and the proof of the statement about data items.
-/

namespace Sys2Proof.Machine

/-! ### Compression (R189 to R191) -/

/-- The block and the choice of a stored body that the compressor makes of a job. -/
def State.compressedBlock (s : State) (j : CompJob) : List Byte × Bool :=
  compress (mkTag (tagSheet j.item.tag) (tagStation j.item.tag) (tagBand j.item.tag) 2 0).toNat j.item.data j.lines
    (s.fld Reg.BURL_CFG 19 16) (s.fld Reg.BURL_CFG 30 24) (s.fld Reg.BURL_CFG 12 0)

/-- The write of a compressed block begins, and the frames that it does not need go back. -/
def State.beginWrite (s : State) (j : CompJob) (blk : List Byte) : State :=
  let s1 := s.giveBack (tagStation j.item.tag) (j.frames.drop (blockFrames (hdrCompLen blk)))
  { s1 with burl := { s1.burl with
    writing := s1.burl.writing ++ [⟨j.item, j.frames.take (blockFrames (hdrCompLen blk)), blk, s1.tick⟩] } }

/-- A block that is stored is counted and flagged, too (R191). -/
theorem State.writeCompressed_eq {s : State} {j : CompJob} {blk : List Byte} {full : Bool}
    (h : s.compressedBlock j = (blk, full)) : s.writeCompressed j =
      if full then ((s.beginWrite j blk).bump Reg.BURL_COUNT_STORED).raiseBit Reg.BURL_EVENTS 1 else s.beginWrite j blk := by
  have hblk : blk = (s.compressedBlock j).1 := by rw [h]
  have hfull : full = (s.compressedBlock j).2 := by rw [h]
  rw [hblk, hfull]
  rfl

/-- What the end of an item's compression leaves: its block under way, the spare frames on their way back, and a stored block
counted. -/
theorem State.writeCompressed_shows {s : State} {j : CompJob} {blk : List Byte} {full : Bool}
    (h : s.compressedBlock j = (blk, full)) :
    (s.writeCompressed j).burl.writing =
      s.burl.writing ++ [⟨j.item, j.frames.take (blockFrames (hdrCompLen blk)), blk, s.tick⟩] ∧
    (s.writeCompressed j).dram.returning = s.dram.returning ++
      (j.frames.drop (blockFrames (hdrCompLen blk))).map (fun f => ⟨f, tagStation j.item.tag, s.tick⟩) ∧
    (full = true → (s.writeCompressed j).rdN Reg.BURL_COUNT_STORED = (s.rdN Reg.BURL_COUNT_STORED + 1) % 2 ^ 32) := by
  rw [State.writeCompressed_eq h]
  split
  · rw [State.raiseBit_burl, State.raiseBit_dram, State.bump, State.setFld_burl, State.setFld_dram]
    refine ⟨rfl, rfl, fun _ => ?_⟩
    rw [State.rdN_congr (State.rd_raiseBit_other _ _ (by decide))]
    exact (s.beginWrite j blk).rdN_bump Reg.BURL_COUNT_STORED
  · next hf => exact ⟨rfl, rfl, fun hfull => absurd hfull hf⟩

/-- Handing segments to free lanes touches neither the blocks under way, nor the frames, nor a register. -/
theorem State.startLanes_keeps (s : State) : s.startLanes.burl.writing = s.burl.writing ∧ s.startLanes.dram = s.dram ∧
    ∀ a, s.startLanes.rdN a = s.rdN a := by
  obtain ⟨jobs, hjobs⟩ := s.startLanes_eq
  rw [hjobs]
  exact ⟨rfl, rfl, fun _ => rfl⟩

/-- The lane that ends the last segment of an item begins the write of its block, and free lanes take new segments. -/
theorem execSegmentCompressed_last {s : State} {lane : Fin 16} {js : List CompJob} {j : CompJob}
    (hbusy : s.compBusy lane = true) (hend : endSegment lane s.burl.jobs = (js, some j)) : execSegmentCompressed lane s =
      .next (State.writeCompressed { s with burl := { s.burl with jobs := js } } j).startLanes := by
  simp only [execSegmentCompressed, hbusy, hend, Bool.not_true, Bool.false_eq_true, if_false]

/-! ### Bindings (R193) -/

theorem effDecodeBinding_decides {s : State} (hp : s.flag Reg.BURL_STATUS 0 = true) (hn : s.burl.bindNext = none)
    (hgap : s.sheetGap = true) (hh : s.holding = false) (hall : unboundIn s.dbinds (imgStnMask s.active) = []) :
    effDecodeBinding s = .next { s with burl := { s.burl with bindNext := some ⟨s.tick, s.dbinds⟩ } } := by
  simp [effDecodeBinding, hp, hn, hgap, hh, hall]

/-! ### Segments (R194, R197, R224) -/

/-- A lane meets no bad data in a block whose frames hold none. -/
theorem State.meetBad_clean {s : State} {r : BandRec} (hdr : List Byte) (g : Nat)
    (h : r.frames.all (fun f => decide (tabGet [] s.dram.badAt f = [])) = true) : s.meetBad r hdr g = s := by
  have hnone : r.frames.flatMap (fun f => (tabGet [] s.dram.badAt f).reverse) = [] := by
    rw [List.flatMap_eq_nil_iff]
    intro f hf
    have hclean := List.all_eq_true.1 h f hf
    rw [of_decide_eq_true hclean, List.reverse_nil]
  rw [State.meetBad, hnone, List.find?_nil]

/-- The work of a lane that takes up segment `g` of a block. -/
def laneWorkOf (sheet stn band : Nat) (blk : List Byte) (g : Nat) : LaneWork :=
  ⟨sheet, stn, band, g, hdrFirst blk g, hdrLineBytes blk, (decodeSegment blk g).out, (decodeSegment blk g).out.length,
    (decodeSegment blk g).fail.map (fun c => (c, (decodeSegment blk g).out.length))⟩

/-- How far a band's decoding has come once its next segment has been handed out. -/
def BandDecode.afterHandout (d : BandDecode) (blk : List Byte) : BandDecode :=
  ⟨hdrSegs blk, if d.redo = [] then d.handed + 1 else d.handed, d.redo.tail, d.ended, d.failed⟩

theorem execSegmentHandout_hands {s : State} {lane : Fin 32} {stn : Nat} {sh : Sheet} {band : Nat} {r : BandRec}
    (hl : s.laneStation lane = some stn) (hfree : tabFind s.burl.lanes lane = none)
    (htrain : s.flag Reg.DRAM_STATUS 2 = false) (hn : s.nextBand stn = some (sh, band, r))
    (hclean : r.frames.all (fun f => decide (tabGet [] s.dram.badAt f = [])) = true)
    (hlb : hdrLineBytes (s.readBlock r) = volLineBytes s.active s.grade) : execSegmentHandout lane s =
      .next { s with burl := { s.burl with
        lanes := tabPut s.burl.lanes lane (laneWorkOf sh.id stn band (s.readBlock r)
          ((s.decodeOf sh.id stn band).redo.headD (s.decodeOf sh.id stn band).handed))
        decodes := tabPut s.burl.decodes (bandKey sh.id stn band)
          ((s.decodeOf sh.id stn band).afterHandout (s.readBlock r)) } } := by
  have hok : ¬ ((s.decodeOf sh.id stn band).handed = 0 ∧
      hdrLineBytes (s.readBlock r) ≠ volLineBytes s.active s.grade) := fun hbad => hbad.2 hlb
  simp only [execSegmentHandout, hl, hfree, htrain, hn, if_neg hok]
  exact congrArg Host.Outcome.next (State.meetBad_clean _ _ hclean)

/-! ### Lines (R194, R255) -/

theorem State.stn_modStn_same {s : State} {i : Nat} (f : ScanStn → ScanStn) (h : i < s.scan.length) :
    (s.modStn i f).stn i = f (s.stn i) := by
  simp [State.stn, State.modStn, h]

theorem State.stn_modStn_other (s : State) {i j : Nat} (f : ScanStn → ScanStn) (h : j ≠ i) :
    (s.modStn i f).stn j = s.stn j := by
  simp [State.stn, State.modStn, List.getD_eq_getElem?_getD, h.symm]

/-- A lane's work with its next line written out. -/
def LaneWork.lineWritten (w : LaneWork) : LaneWork := { w with line := w.line + 1, out := w.out.drop w.lineBytes }

/-- What stands in line store of the next line of a lane. -/
def LaneWork.nextLine (w : LaneWork) : LineSlot := ⟨w.sheet, w.band, w.line, w.seg, w.out.take w.lineBytes⟩

theorem execLineStoreWrite_writes {s : State} {lane : Fin 32} {w : LaneWork} {x : Nat}
    (hw : tabFind s.burl.lanes lane = some w) (hx : s.streamLine w = some x) (hrel : s.released w.station x = true)
    (hlen : w.lineBytes ≤ w.out.length) (hne : w.out ≠ []) : execLineStoreWrite lane s =
      .next (State.modStn { s with burl := { s.burl with lanes := tabPut s.burl.lanes lane w.lineWritten } } w.station
        (fun t => { t with slots := tabPut t.slots (s.slotOf w.station x) w.nextLine })) := by
  have hgo : s.released w.station x = true ∧ w.lineBytes ≤ w.out.length ∧ w.out ≠ [] := ⟨hrel, hlen, hne⟩
  simp only [execLineStoreWrite, hw, hx, if_pos hgo, LaneWork.lineWritten, LaneWork.nextLine]

/-! ### The end of a segment (R185, R197) -/

/-- A segment that is not the last of its band ends, and its lane is free. -/
theorem execSegmentDecoded_ends {s : State} {lane : Fin 32} {w : LaneWork} (hw : tabFind s.burl.lanes lane = some w)
    (hout : w.out.length < w.lineBytes ∨ w.out = []) (hfail : w.fail = none)
    (hmore : (s.decodeOf w.sheet w.station w.band).ended + 1 < (s.decodeOf w.sheet w.station w.band).segs) :
    execSegmentDecoded lane s = .next { s with burl := { s.burl with
      lanes := tabDel s.burl.lanes lane
      decodes := tabPut s.burl.decodes (bandKey w.sheet w.station w.band)
        { s.decodeOf w.sheet w.station w.band with ended := (s.decodeOf w.sheet w.station w.band).ended + 1 } } } := by
  have hdone : ¬ (w.lineBytes ≤ w.out.length ∧ w.out ≠ []) := by
    rintro ⟨hlen, hne⟩
    exact hout.elim (fun h => by omega) hne
  have hlast : ¬ ((s.decodeOf w.sheet w.station w.band).ended + 1 = (s.decodeOf w.sheet w.station w.band).segs ∧
      (s.band w.sheet w.station w.band).any (fun r => !blockCrcOk (s.readBlock r)) = true) := by
    rintro ⟨heq, -⟩
    omega
  simp only [execSegmentDecoded, hw, if_neg hdone, hfail, if_neg hlast]

/-- Settles O25, by the rule of each command on the state in which it is decided. -/
theorem dataItemsCompressionAndDecompression : Obligations.DataItemsCompressionAndDecompression := by
  unfold Obligations.DataItemsCompressionAndDecompression
  refine ⟨?passed, ?early, ?refused, ?expired, ?frames, ?resident, ?compressed, ?bound, ?handed, ?line, ?ended⟩
  case passed =>
    intro stn frames it rest sh d s0 s hb hr hearly hbox hwait hraw hfate hcode hstn hdir hres hfresh
    rw [← hstn] at hdir hres
    refine ⟨_, (exec_ledg_ready (i := .dataHeader stn frames) rfl hb hr).trans
      (effDataHeader_passes hearly hbox hwait hraw hfate hdir hfresh), ?_⟩
    obtain ⟨-, hfree, hheld, hcount, hwriting⟩ :=
      State.toPageStore_shows (s := s.dropInbox (32 + stn)) hcode hdir hres hfresh
    rw [hstn] at hheld
    exact ⟨hfree, hheld, hcount, hwriting⟩
  case early =>
    intro stn frames it rest s0 s hb hr hearly hbox hwait hraw hfate hstn
    refine ⟨_, (exec_ledg_ready (i := .dataHeader stn frames) rfl hb hr).trans
      (effDataHeader_early hearly hbox hwait hraw frames hfate), ?_, rfl, fun _ => rfl⟩
    rw [State.holdEarly, hstn, tabFind_tabPut, if_pos rfl]
    rfl
  case refused =>
    intro stn frames it rest c s0 s hb hr hearly hbox hwait hraw hfate
    refine ⟨_, (exec_ledg_ready (i := .dataHeader stn frames) rfl hb hr).trans
      (effDataHeader_refuses hearly hbox hwait hraw frames hfate), ?_⟩
    obtain ⟨hledg, hcount, hflag, hsent⟩ := (s.dropInbox (32 + stn)).refuseItem_shows it c
    exact ⟨hcount, hflag, hsent, hledg⟩
  case expired =>
    intro stn x s0 s hb hr hearly hdue hs
    refine ⟨_, (exec_ledg_ready (i := .earlyWaitExpiry stn) rfl hb hr).trans
      (effEarlyWaitExpiry_refuses hearly hdue hs), ?_⟩
    obtain ⟨hledg, -, -, hsent⟩ := (s.dropEarly stn).refuseItem_shows x.item 0x01
    rw [hledg]
    exact ⟨by rw [State.dropEarly, tabFind_tabDel, if_pos rfl], hsent, rfl⟩
  case frames =>
    intro stn frames w sh d s0 s hb hw hs hcode hstn hdir hres hfresh
    rw [← hstn] at hdir hres
    refine ⟨_, (exec_decision (i := .framesAvailable stn frames) rfl hb).trans (effFramesAvailable_held frames hw hs), ?_⟩
    obtain ⟨hwait, hfree, hheld, hcount, -⟩ := State.toPageStore_shows hcode hdir hres hfresh
    rw [hstn] at hwait hheld
    exact ⟨hwait, hfree, hheld, hcount⟩
  case resident =>
    intro sheet stn band w sh s hw hstamp htrain hopen hread hs hid hf hlate
    refine ⟨_, (exec_any (i := .bandResident sheet stn band) rfl s).trans
      (execBandResident_lands hw hstamp htrain hopen hread hs hf), ?_⟩
    obtain ⟨hsheets, hburl, hdram⟩ :=
      State.makeResident_inTime ((s.landBlock w sheet stn band).setDirectory sheet stn band (w.frames.headD 0)) hlate
    obtain ⟨hdirLedg, hdirBurl, hdirBands⟩ :=
      (s.landBlock w sheet stn band).setDirectory_keeps sheet stn band (w.frames.headD 0)
    obtain ⟨hledg, hwriting, hband⟩ := s.landBlock_shows w sheet stn band
    rw [hdirLedg, hledg] at hsheets
    rw [← State.complete_ledg _ w.item 0 0] at hsheets
    obtain ⟨hsheet, hothers⟩ := State.sheet_only (s := s) hsheets hid
    refine ⟨hsheet, ?_, hothers, ?_⟩
    · rw [State.band, State.complete_dram, hdram, hdirBands]
      exact hband
    · rw [State.complete_burl, hburl, hdirBurl, hwriting]
  case compressed =>
    intro lane js j blk full s hbusy hend hblk
    refine ⟨_, (exec_any (i := .segmentCompressed lane) rfl s).trans (execSegmentCompressed_last hbusy hend), ?_⟩
    obtain ⟨hwriting, hreturning, hcount⟩ :=
      State.writeCompressed_shows (s := { s with burl := { s.burl with jobs := js } }) hblk
    obtain ⟨hkeptW, hkeptD, hkeptR⟩ :=
      (State.writeCompressed { s with burl := { s.burl with jobs := js } } j).startLanes_keeps
    rw [hkeptW, hkeptD, hkeptR]
    exact ⟨hwriting, hreturning, hcount⟩
  case bound =>
    intro s0 s hb hp hn hgap hh hall
    exact ⟨_, (exec_decision (i := .decodeBinding) rfl hb).trans (effDecodeBinding_decides hp hn hgap hh hall), rfl,
      fun _ => rfl⟩
  case handed =>
    intro lane stn sh band r blk d g s hl hfree htrain hn hclean hblk hlb hd hg
    rw [← hblk] at hlb
    refine ⟨_, (exec_any (i := .segmentHandout lane) rfl s).trans
      (execSegmentHandout_hands hl hfree htrain hn hclean hlb), ?_, ?_⟩
    · rw [tabFind_tabPut, if_pos rfl, hd, hg, hblk]
      rfl
    · rw [State.decodeOf, tabGet_tabPut, if_pos rfl, hd, hblk]
      rfl
  case line =>
    intro lane w x s hw hx hrel hlen hne hstn
    refine ⟨_, (exec_any (i := .lineStoreWrite lane) rfl s).trans (execLineStoreWrite_writes hw hx hrel hlen hne),
      ?_, ?_, fun i hi => ?_⟩
    · rw [State.modStn, tabFind_tabPut, if_pos rfl]
      rfl
    · rw [State.stn_modStn_same, tabFind_tabPut, if_pos rfl]
      · rfl
      · exact hstn
    · exact State.stn_modStn_other _ _ hi
  case ended =>
    intro lane w s hw hout hfail hmore
    refine ⟨_, (exec_any (i := .segmentDecoded lane) rfl s).trans (execSegmentDecoded_ends hw hout hfail hmore),
      ?_, ?_, fun l hl => ?_⟩
    · rw [tabFind_tabDel, if_pos rfl]
    · rw [State.decodeOf, tabGet_tabPut, if_pos rfl]
    · rw [tabFind_tabDel, if_neg hl]

end Sys2Proof.Machine
end

section
/-!
SUPPORT. The pacing governor and the backhitch (R159, R164 to R174): what a step up of the governor leaves, the change of phase
that every later rule of a backhitch makes, its decision, refusal, end and abort, and the proof of the statement about them.
-/

namespace Sys2Proof.Machine

/-! ### The pacing block beside records and registers -/

@[simp] theorem State.ledgerRecord_pace (s : State) (ev id st frm cause stn band aux : Nat) :
    (s.ledgerRecord ev id st frm cause stn band aux).pace = s.pace :=
  (s.ledgerRecord_keeps ev id st frm cause stn band aux).parts .pace (by simp)

theorem State.rd_withPace (s : State) (p : PaceBlk) (a : Nat) : ({ s with pace := p } : State).rd a = s.rd a := rfl

/-! ### The governor's step up (R159) -/

theorem State.grade_congr {s t : State} (h : t.rd Reg.ALM_STATUS = s.rd Reg.ALM_STATUS) : t.grade = s.grade :=
  State.fld_congr h 6 4

theorem State.margin_congr {s t : State} (h : t.rd Reg.LEDG_PACE_STATUS = s.rd Reg.LEDG_PACE_STATUS) :
    t.margin = s.margin := by
  rw [State.margin, State.fld_congr h, State.margin]

/-- A step up to grade `g` becomes the outstanding one, and joins the pending grade from the next tick on. -/
def State.askStepUp (s : State) (g : Nat) : State :=
  { s with pace := { s.pace with stepUp := some g } }.joinLater g 1

/-- The governor steps up to grade `g`, with its flag, record and event. -/
def State.stepUpTo (s : State) (g : Nat) : State :=
  ((s.askStepUp g).raiseBit Reg.LEDG_PACE_EVENTS 2).paceGrade g true

theorem effGovernorStepUp_steps {s : State} {g : Nat} (hallow : s.stepsAllowed = true)
    (hpend : s.flag Reg.ALM_STATUS 3 = false) (hjoin : s.alm.joins.any (fun j => decide (j.2 = 1)) = false)
    (hthr : s.throttled = false) (hhold : s.fld Reg.LEDG_PACE_HOLDOFF 23 0 ≤ s.pace.upTicks) (hup : s.tUp ≤ s.margin)
    (hg : s.fasterGrade = some g) : effGovernorStepUp s = .next (s.stepUpTo g) := by
  have hgo : (s.stepsAllowed && !s.flag Reg.ALM_STATUS 3 && !s.alm.joins.any (fun j => decide (j.2 = 1)) &&
      !s.throttled && decide (s.fld Reg.LEDG_PACE_HOLDOFF 23 0 ≤ s.pace.upTicks) && decide (s.tUp ≤ s.margin)) = true := by
    simp only [hallow, hpend, hjoin, hthr, hhold, hup, decide_true, Bool.not_false, Bool.and_self]
  rw [effGovernorStepUp, if_pos hgo, hg]
  rfl

/-- Below UP no step is asked for. -/
theorem effGovernorStepUp_below {s : State} (h : s.margin < s.tUp) : effGovernorStepUp s = .next s := by
  rw [effGovernorStepUp, decide_eq_false (not_le.2 h), Bool.and_false]
  rfl

/-- Outside the safe state a request is kept. -/
theorem State.askStepUp_eq {s : State} (g : Nat) (hsafe : s.safe = false) : s.askStepUp g =
    { s with pace := { s.pace with stepUp := some g }, alm := { s.alm with joins := s.alm.joins ++ [(g, 1)] } } := by
  have hsame : ({ s with pace := { s.pace with stepUp := some g } } : State).safe = false := hsafe
  simp [State.askStepUp, State.joinLater, hsame]

/-- A request writes no register and leaves the tick. -/
theorem State.askStepUp_keeps (s : State) (g : Nat) :
    Frame (fun b => b = .pace ∨ b = .alm) (fun _ => False) s (s.askStepUp g) :=
  State.joinLater_frame _ g 1 (Frame.mk' (Frame.refl s) rfl (p_pace := .inl (.inl rfl))) (.inr rfl)

/-- What the record and the event of a governor request leave. -/
theorem State.paceGrade_keeps (s : State) (g : Nat) (up : Bool) :
    Frame (fun b => b = .fresh ∨ b = .host ∨ b = .hwd) (· = Reg.HOST_ERR) s (s.paceGrade g up) :=
  State.paceGrade_frame s g up (Frame.refl s) (.inl rfl) (.inr (.inl rfl)) (.inr (.inr rfl)) rfl

@[simp] theorem State.paceGrade_pace (s : State) (g : Nat) (up : Bool) : (s.paceGrade g up).pace = s.pace :=
  (s.paceGrade_keeps g up).parts .pace (by simp)

@[simp] theorem State.paceGrade_alm (s : State) (g : Nat) (up : Bool) : (s.paceGrade g up).alm = s.alm :=
  (s.paceGrade_keeps g up).parts .alm (by simp)

theorem State.sent_paceGrade (s : State) (g : Nat) (up : Bool) :
    ⟨0x0309, s.tick, 0, [s.grade, g, codeOf 16 s.margin]⟩ ∈ (s.paceGrade g up).hwd.sent := by
  simp [State.paceGrade]

/-- A step up: the grade asked for, the join, the flag and the event with both grades and M (R159, R173, R174). -/
theorem State.stepUpTo_shows {s : State} (g : Nat) (hsafe : s.safe = false) :
    (s.stepUpTo g).pace.stepUp = some g ∧ (s.stepUpTo g).alm.joins = s.alm.joins ++ [(g, 1)] ∧
    (s.stepUpTo g).flag Reg.LEDG_PACE_EVENTS 2 = true ∧
    ⟨0x0309, s.tick, 0, [s.grade, g, codeOf 16 s.margin]⟩ ∈ (s.stepUpTo g).hwd.sent := by
  have htick : (s.askStepUp g).tick = s.tick := (s.askStepUp_keeps g).parts .tick (by simp)
  have hrd : ∀ a, a ≠ Reg.LEDG_PACE_EVENTS →
      ((s.askStepUp g).raiseBit Reg.LEDG_PACE_EVENTS 2).rd a = s.rd a :=
    fun a ha => (State.rd_raiseBit_other _ _ ha).trans ((s.askStepUp_keeps g).regs a not_false)
  have hsent := ((s.askStepUp g).raiseBit Reg.LEDG_PACE_EVENTS 2).sent_paceGrade g true
  rw [State.grade_congr (hrd _ (by decide)), State.margin_congr (hrd _ (by decide)), State.raiseBit_tick, htick] at hsent
  refine ⟨by simp [State.stepUpTo, State.askStepUp_eq g hsafe], by simp [State.stepUpTo, State.askStepUp_eq g hsafe],
    ?flag, hsent⟩
  rw [State.stepUpTo, State.flag_congr ((State.paceGrade_keeps _ g true).regs _ (by decide)),
    State.flag_raiseBit_same _ _ _ (by decide)]

/-! ### A change of phase (R167, R171) -/

theorem State.phase_congr {s t : State} (h : t.rd Reg.LEDG_BH_STATUS = s.rd Reg.LEDG_BH_STATUS) : t.phase = s.phase :=
  State.fld_congr h 2 0

@[simp] theorem State.bhPhase_tick (s : State) (p : Nat) : (s.bhPhase p).tick = s.tick := rfl

@[simp] theorem State.bhPhase_hwd (s : State) (p : Nat) : (s.bhPhase p).hwd = s.hwd := rfl

@[simp] theorem State.bhPhase_pace (s : State) (p : Nat) : (s.bhPhase p).pace = { s.pace with phaseAt := s.tick } := rfl

@[simp] theorem State.bhPhase_out (s : State) (p : Nat) : (s.bhPhase p).out = .pathNotice 3 p :: s.out := rfl

theorem State.rd_bhPhase (s : State) (p a : Nat) : (s.bhPhase p).rd a = (s.setFld Reg.LEDG_BH_STATUS 2 0 p).rd a := rfl

theorem State.rd_bhPhase_other (s : State) (p : Nat) {a : Nat} (h : a ≠ Reg.LEDG_BH_STATUS) :
    (s.bhPhase p).rd a = s.rd a :=
  State.rd_setFld_other s _ _ _ h

/-- The phase entered is the one shown. -/
theorem State.phase_bhPhase (s : State) {p : Nat} (hp : p < 8) : (s.bhPhase p).phase = p := by
  rw [State.phase, State.fld_congr (s.rd_bhPhase p _), State.fld_setFld_same _ _ _ _ _ (by decide) (by decide)]
  exact Nat.mod_eq_of_lt hp

/-- A field of LEDG_BH_STATUS above PHASE stays. -/
theorem State.fld_bhPhase_above (s : State) (p hi : Nat) {lo : Nat} (h : 2 < lo) :
    (s.bhPhase p).fld Reg.LEDG_BH_STATUS hi lo = s.fld Reg.LEDG_BH_STATUS hi lo := by
  rw [State.fld_congr (s.rd_bhPhase p _), State.fld_setFld_other _ _ _ _ _ _ _ _ (by decide) (by decide) (.inr (.inr h))]

/-! ### The decision (R164 to R167) -/

/-- The reverse distance planned for a backhitch decided now, with no reversal counted yet. -/
def State.planBackhitch (s : State) : State :=
  (s.setFld Reg.LEDG_BH_REV_PLAN 23 0 s.predictedR.toNat).setFld Reg.LEDG_BH_STATUS 19 16 0

/-- The plan and the entry to DRAIN. -/
def State.enterDrain (s : State) : State :=
  { s.planBackhitch.bhPhase 1 with
    pace := { (s.planBackhitch.bhPhase 1).pace with decidedAt := s.tick, parkLong := false } }

theorem State.rd_enterDrain (s : State) (a : Nat) : s.enterDrain.rd a = (s.planBackhitch.bhPhase 1).rd a :=
  State.rd_withPace _ _ _

@[simp] theorem State.enterDrain_tick (s : State) : s.enterDrain.tick = s.tick := by
  simp [State.enterDrain, State.planBackhitch]

@[simp] theorem State.enterDrain_decidedAt (s : State) : s.enterDrain.pace.decidedAt = s.tick := by
  simp [State.enterDrain]

/-- A backhitch is decided: the entry to DRAIN with its flag, record and event. -/
def State.startBackhitch (s : State) : State :=
  ((s.enterDrain.raiseBit Reg.LEDG_PACE_EVENTS 4).ledgerRecord 0x12 s.headOr0.1 s.headOr0.2 s.headOr0.2 0 0 0
    (codeOf 32 s.predictedR)).event 0x030A
      [s.headOr0.1, s.bhReason.getD 0, codeOf 32 s.predictedR, codeOf 48 s.posUm]

theorem effBackhitchDecided_starts {s : State} (hw : s.bhWanted = true) (hcfg : s.flag Reg.LEDG_BH_STATUS 7 = false)
    (hr : s.predictedR ≤ (s.fld Reg.LEDG_BH_REV_MAX 23 0 : Int)) :
    effBackhitchDecided s = .next s.startBackhitch := by
  simp only [effBackhitchDecided, hw, hcfg, if_neg (not_lt.2 hr), Bool.not_true, Bool.false_eq_true, if_false]
  rfl

theorem effBackhitchDecided_refuses {s : State} (hw : s.bhWanted = true) (hcfg : s.flag Reg.LEDG_BH_STATUS 7 = false)
    (hr : (s.fld Reg.LEDG_BH_REV_MAX 23 0 : Int) < s.predictedR) : effBackhitchDecided s =
      .next ((s.setFld Reg.LEDG_BH_REV_PLAN 23 0 s.predictedR.toNat).bhRefuse 0xFE (codeOf 32 s.predictedR)) := by
  simp only [effBackhitchDecided, hw, hcfg, if_pos hr, Bool.not_true, Bool.false_eq_true, if_false]

/-- The plan shown in DRAIN. -/
theorem State.fld_planBackhitch (s : State) :
    s.planBackhitch.fld Reg.LEDG_BH_REV_PLAN 23 0 = s.predictedR.toNat % 2 ^ 24 := by
  rw [State.planBackhitch, State.fld_congr (State.rd_setFld_other _ _ _ _ (by decide)),
    State.fld_setFld_same _ _ _ _ _ (by decide) (by decide)]

theorem State.startBackhitch_shows (s : State) :
    s.startBackhitch.phase = 1 ∧ s.startBackhitch.pace.decidedAt = s.tick ∧
    s.startBackhitch.fld Reg.LEDG_BH_REV_PLAN 23 0 = s.predictedR.toNat % 2 ^ 24 ∧
    s.startBackhitch.flag Reg.LEDG_PACE_EVENTS 4 = true ∧
    ⟨0x030A, s.tick, 0, [s.headOr0.1, s.bhReason.getD 0, codeOf 32 s.predictedR, codeOf 48 s.posUm]⟩ ∈
      s.startBackhitch.hwd.sent := by
  have hrd : ∀ a, a ≠ Reg.HOST_ERR → s.startBackhitch.rd a = (s.enterDrain.raiseBit Reg.LEDG_PACE_EVENTS 4).rd a :=
    fun a ha => State.rd_ledgerRecord_other _ _ _ _ _ _ _ _ _ ha
  refine ⟨?phase, ?decided, ?plan, ?flag, ?sent⟩
  case phase =>
    rw [State.phase_congr ((hrd _ (by decide)).trans (State.rd_raiseBit_other _ _ (by decide))),
      State.phase_congr (s.rd_enterDrain _), State.phase_bhPhase _ (by decide)]
  case decided => simp [State.startBackhitch]
  case plan =>
    rw [State.fld_congr ((hrd _ (by decide)).trans (State.rd_raiseBit_other _ _ (by decide))),
      State.fld_congr (s.rd_enterDrain _), State.fld_congr (State.rd_bhPhase_other _ _ (by decide)),
      State.fld_planBackhitch]
  case flag => rw [State.flag_congr (hrd _ (by decide)), State.flag_raiseBit_same _ _ _ (by decide)]
  case sent => simp [State.startBackhitch]

/-- A refusal shows its cause and keeps the phase; the tick is noted, the flag raised, the event sent (R166, R173, R174). -/
theorem State.bhRefuse_shows (s : State) {last : Nat} (aux : Nat) (hlast : last < 256) :
    (s.bhRefuse last aux).phase = s.phase ∧ (s.bhRefuse last aux).fld Reg.LEDG_BH_STATUS 15 8 = last ∧
    (s.bhRefuse last aux).flag Reg.LEDG_PACE_EVENTS 6 = true ∧ (s.bhRefuse last aux).pace.refusedAt = s.tick + 1 ∧
    ⟨0x030C, s.tick, 0, [last, 0, aux]⟩ ∈ (s.bhRefuse last aux).hwd.sent := by
  have hrd : ∀ a, a ≠ Reg.HOST_ERR → (s.bhRefuse last aux).rd a =
      ((s.setFld Reg.LEDG_BH_STATUS 15 8 last).raiseBit Reg.LEDG_PACE_EVENTS 6).rd a :=
    fun a ha => State.rd_ledgerRecord_other _ _ _ _ _ _ _ _ _ ha
  have hstatus : (s.bhRefuse last aux).rd Reg.LEDG_BH_STATUS =
      (s.setFld Reg.LEDG_BH_STATUS 15 8 last).rd Reg.LEDG_BH_STATUS :=
    (hrd _ (by decide)).trans (State.rd_raiseBit_other _ _ (by decide))
  refine ⟨?phase, ?cause, ?flag, ?refused, ?sent⟩
  case phase =>
    rw [State.phase_congr hstatus]
    exact State.fld_setFld_other _ _ _ _ _ _ _ _ (by decide) (by decide) (.inr (.inl (by decide)))
  case cause =>
    rw [State.fld_congr hstatus, State.fld_setFld_same _ _ _ _ _ (by decide) (by decide)]
    exact Nat.mod_eq_of_lt hlast
  case flag => rw [State.flag_congr (hrd _ (by decide)), State.flag_raiseBit_same _ _ _ (by decide)]
  case refused => simp [State.bhRefuse]
  case sent => simp [State.bhRefuse]

/-! ### The phases (R167 to R169) -/

/-- Taking the designated axes leaves the tick. -/
@[simp] theorem State.takeAxes_tick (s : State) : s.takeAxes.tick = s.tick :=
  (State.takeAxes_frame (F := (· ≠ .tick)) (R := fun _ => False) s (Frame.refl s) (by decide) (by decide) (by decide)
    (by decide)).parts .tick (by decide)

theorem effBhDecel_begins {s : State} (hp : s.phase = 1) (hst : s.phaseStood = true) (hgap : s.sheetGap = true) :
    effBhDecel s = .next (s.takeAxes.bhPhase 2) :=
  if_pos ⟨hp, hst, hgap⟩

theorem effBhStop_stops {s : State} (hp : s.phase = 2) (hst : s.phaseStood = true) (hv : s.pace.v = 0) :
    effBhStop s = .next (s.bhPhase 3) :=
  if_pos ⟨hp, hst, hv⟩

theorem effBhReverse_begins {s : State} (hp : s.phase = 3) (hst : s.phaseStood = true) (hdw : s.bhDwelt = true) :
    effBhReverse s = .next s.bhReverse :=
  if_pos ⟨hp, hst, hdw⟩

theorem effBhPark_parks {s : State} (hp : s.phase = 4) (hst : s.phaseStood = true) (hv : s.pace.v = 0) :
    effBhPark s = .next ({ s with pace := { s.pace with parkLong := false } }.bhPhase 5) :=
  if_pos ⟨hp, hst, hv⟩

theorem effBhAccel_begins {s : State} (hp : s.phase = 5) (hst : s.phaseStood = true) (hl : s.bhLeave = true)
    (hpos : s.ledg.pos ≤ s.pLow) :
    effBhAccel s = .next ({ s with pace := { s.pace with goal := gradeSpeed s.grade } }.bhPhase 6) :=
  if_pos ⟨hp, hst, hl, hpos⟩

theorem effBhReverseAgain_begins {s : State} (hp : s.phase = 5) (hst : s.phaseStood = true) (hl : s.bhLeave = true)
    (hpos : s.pLow < s.ledg.pos) : effBhReverseAgain s = .next s.bhReverse :=
  if_pos ⟨hp, hst, hl, hpos⟩

theorem effParkLong_reports {s : State} (hp : s.phase = 5) (hone : s.pace.parkLong = false)
    (hlong : s.pace.phaseAt + s.fld Reg.LEDG_BH_PARK_WARN 23 0 ≤ s.tick) : effParkLong s =
      .next ({ s with pace := { s.pace with parkLong := true } }.raiseBit Reg.LEDG_PACE_EVENTS 7) :=
  if_pos ⟨hp, by rw [hone, Bool.not_false], hlong⟩

theorem effParkLong_elsewhere {s : State} (hp : s.phase ≠ 5) : effParkLong s = .next s :=
  if_neg fun h => hp h.1

theorem codeOf_lt (w : Nat) (i : Int) : codeOf w i < 2 ^ w := by
  have hpos : (0 : Int) < 2 ^ w := by positivity
  have hlt : i % 2 ^ w < ((2 ^ w : Nat) : Int) := by
    push_cast
    exact Int.emod_lt_of_pos i hpos
  exact (Int.toNat_lt (Int.emod_nonneg i hpos.ne')).2 hlt

/-- The target of REVERSE, taken now, and one more reversal counted. -/
def State.aimReverse (s : State) : State :=
  (s.wrN Reg.LEDG_BH_TARGET (codeOf 32 (s.pLow / 2 ^ 24))).setFld Reg.LEDG_BH_STATUS 19 16
    (min 15 (s.fld Reg.LEDG_BH_STATUS 19 16 + 1))

theorem State.bhReverse_eq (s : State) : s.bhReverse =
    { s.aimReverse with pace := { s.aimReverse.pace with low := s.pLow } }.bhPhase 4 := rfl

theorem State.rdN_aimReverse (s : State) :
    s.aimReverse.rdN Reg.LEDG_BH_TARGET = codeOf 32 (s.pLow / 2 ^ 24) := by
  rw [State.aimReverse, State.rdN_congr (State.rd_setFld_other _ _ _ _ (by decide)), State.rdN_wrN_same,
    Nat.mod_eq_of_lt (codeOf_lt 32 _)]

theorem State.fld_aimReverse (s : State) :
    s.aimReverse.fld Reg.LEDG_BH_STATUS 19 16 = min 15 (s.fld Reg.LEDG_BH_STATUS 19 16 + 1) := by
  rw [State.aimReverse, State.fld_setFld_same _ _ _ _ _ (by decide) (by decide)]
  exact Nat.mod_eq_of_lt ((min_le_left 15 _).trans_lt (by decide))

/-- The entry to REVERSE takes its target from the state it is decided in, and counts (R167, R168). -/
theorem State.bhReverse_shows (s : State) :
    s.bhReverse.phase = 4 ∧ s.bhReverse.pace.low = s.pLow ∧
    s.bhReverse.rdN Reg.LEDG_BH_TARGET = codeOf 32 (s.pLow / 2 ^ 24) ∧
    s.bhReverse.fld Reg.LEDG_BH_STATUS 19 16 = min 15 (s.fld Reg.LEDG_BH_STATUS 19 16 + 1) := by
  rw [State.bhReverse_eq, State.phase_bhPhase _ (by decide), State.bhPhase_pace,
    State.rdN_congr (State.rd_bhPhase_other _ _ (by decide)), State.rdN_congr (State.rd_withPace _ _ _),
    State.rdN_aimReverse, State.fld_bhPhase_above _ _ _ (by decide), State.fld_congr (State.rd_withPace _ _ _),
    State.fld_aimReverse]
  exact ⟨rfl, rfl, rfl, rfl⟩

/-! ### The end (R167, R171, R310) -/

/-- The designated axes go back to their own profile. -/
def State.leaveAxes (s : State) : State := s.designated.foldl (fun t d => t.leaveLedger d.1 d.2.1) s

theorem State.leaveAxes_keeps (s : State) :
    Frame (fun b => b = .step ∨ b = .axis) (fun _ => False) s s.leaveAxes :=
  Frame.foldl _ _ (Frame.refl s) fun u hu d => State.leaveLedger_frame u d.1 d.2.1 hu (.inl rfl) (.inr rfl)

@[simp] theorem State.leaveAxes_tick (s : State) : s.leaveAxes.tick = s.tick := s.leaveAxes_keeps.parts .tick (by simp)

/-- The axes are released, and the tick is noted. -/
def State.noteEnd (s : State) : State :=
  { s.leaveAxes with pace := { s.leaveAxes.pace with endedAt := s.tick + 1 } }

@[simp] theorem State.noteEnd_tick (s : State) : s.noteEnd.tick = s.tick := s.leaveAxes_tick

@[simp] theorem State.noteEnd_endedAt (s : State) : s.noteEnd.pace.endedAt = s.tick + 1 := rfl

@[simp] theorem State.rd_noteEnd (s : State) (a : Nat) : s.noteEnd.rd a = s.rd a := s.leaveAxes_keeps.regs a not_false

/-- The phase returns to IDLE; the end is counted and flagged. -/
def State.enterIdle (s : State) : State :=
  ((s.noteEnd.bhPhase 0).bump Reg.LEDG_BH_COUNT).raiseBit Reg.LEDG_PACE_EVENTS 5

/-- A backhitch ends, with its record and event. -/
def State.endBackhitch (s : State) : State :=
  (s.enterIdle.ledgerRecord 0x13 s.headOr0.1 s.headOr0.2 s.headOr0.2 0 0 0 (s.tick - s.pace.decidedAt)).event 0x030B
    [s.tick - s.pace.decidedAt, s.fld Reg.LEDG_BH_STATUS 19 16, s.grade]

theorem effBhEnd_ends {s : State} (hp : s.phase = 6) (hst : s.phaseStood = true) (hv : s.pace.v = s.pace.goal) :
    effBhEnd s = .next s.endBackhitch :=
  if_pos ⟨hp, hst, hv⟩

theorem State.endBackhitch_shows (s : State) :
    s.endBackhitch.phase = 0 ∧ s.endBackhitch.pace.endedAt = s.tick + 1 ∧
    s.endBackhitch.rdN Reg.LEDG_BH_COUNT = (s.rdN Reg.LEDG_BH_COUNT + 1) % 2 ^ 32 ∧
    s.endBackhitch.flag Reg.LEDG_PACE_EVENTS 5 = true ∧
    ⟨0x030B, s.tick, 0, [s.tick - s.pace.decidedAt, s.fld Reg.LEDG_BH_STATUS 19 16, s.grade]⟩ ∈
      s.endBackhitch.hwd.sent := by
  have hrd : ∀ a, a ≠ Reg.HOST_ERR → s.endBackhitch.rd a = s.enterIdle.rd a :=
    fun a ha => State.rd_ledgerRecord_other _ _ _ _ _ _ _ _ _ ha
  refine ⟨?phase, ?ended, ?count, ?flag, ?sent⟩
  case phase =>
    rw [State.phase_congr (hrd _ (by decide)), State.enterIdle, State.phase_congr (State.rd_raiseBit_other _ _ (by decide)),
      State.phase_congr (State.rd_bump_other _ (by decide)), State.phase_bhPhase _ (by decide)]
  case ended => simp [State.endBackhitch, State.enterIdle]
  case count =>
    rw [State.rdN_congr (hrd _ (by decide)), State.enterIdle, State.rdN_congr (State.rd_raiseBit_other _ _ (by decide)),
      State.rdN_bump, State.rdN_congr (State.rd_bhPhase_other _ _ (by decide)), State.rdN_congr (s.rd_noteEnd _)]
  case flag =>
    rw [State.flag_congr (hrd _ (by decide)), State.enterIdle, State.flag_raiseBit_same _ _ _ (by decide)]
  case sent => simp [State.endBackhitch, State.enterIdle]

/-! ### ABANDON (R172) -/

/-- An abort leaves the ledger block. -/
theorem State.abortBackhitch_ledg (s : State) (cause : Nat) : (s.abortBackhitch cause).ledg = s.ledg :=
  (State.abortBackhitch_frame (F := (· ≠ .ledg)) (R := fun _ => True) s cause (Frame.refl s) (by decide) (by decide)
    (by decide) (by decide) (by decide) (by decide) (by decide) (by decide) trivial trivial trivial).parts .ledg
    (by decide)

/-- An abort takes hold of axes that DRAIN had left under their own profiles; the safe state gives their ramp itself. -/
def State.abortAxes (s : State) : State :=
  if s.safe then s.safePath else if s.fld Reg.LEDG_BH_STATUS 2 0 = 1 then s.takeAxes else s

/-- What an abort shows: PHASE, LAST_CAUSE and the flag. -/
def State.showAbort (s : State) (cause : Nat) : State :=
  ((s.abortAxes.setFld Reg.LEDG_BH_STATUS 2 0 0).setFld Reg.LEDG_BH_STATUS 15 8 cause).raiseBit Reg.LEDG_PACE_EVENTS 6

/-- An abort with its record and event. -/
def State.recordAbort (s : State) (cause : Nat) : State :=
  ((s.showAbort cause).ledgerRecord 0x14 s.headOr0.1 s.headOr0.2 s.headOr0.2 cause 0 0
    (s.fld Reg.LEDG_BH_STATUS 2 0)).event 0x030C
      [cause, s.fld Reg.LEDG_BH_STATUS 2 0, s.abortAxes.rdN Reg.LEDG_BH_REV_PLAN]

/-- The axes' way to rest. -/
def State.abortMotion (s : State) : State :=
  let s3 := { s with pace := { s.pace with aborting := decide (s.pace.v ≠ 0) } }.pathNotice 3 0
  if s.pace.v = 0 then s3.designated.foldl (fun t d => t.idleLedger d.1 d.2.1) s3 else s3

theorem State.abortBackhitch_eq {s : State} (cause : Nat) (h : s.backhitching = true) :
    s.abortBackhitch cause = (s.recordAbort cause).abortMotion :=
  if_pos h

/-- It writes no register. -/
theorem State.rd_abortMotion (s : State) (a : Nat) : s.abortMotion.rd a = s.rd a := by
  unfold State.abortMotion
  dsimp only
  split
  · exact (Frame.foldl (F := fun b => b = .step ∨ b = .axis) (R := fun _ => False) _ _ (Frame.refl _)
      fun u hu d => State.idleLedger_frame u d.1 d.2.1 hu (.inl rfl) (.inr rfl)).regs a not_false
  · rfl

/-- An abort ends in IDLE, with its flag (R172, R174). -/
theorem State.abortBackhitch_shows {s : State} (cause : Nat) (h : s.backhitching = true) :
    (s.abortBackhitch cause).phase = 0 ∧ (s.abortBackhitch cause).flag Reg.LEDG_PACE_EVENTS 6 = true := by
  have hrd : ∀ a, a ≠ Reg.HOST_ERR → (s.abortBackhitch cause).rd a = (s.showAbort cause).rd a := fun a ha => by
    rw [State.abortBackhitch_eq cause h, State.rd_abortMotion]
    exact State.rd_ledgerRecord_other _ _ _ _ _ _ _ _ _ ha
  constructor
  · rw [State.phase_congr ((hrd _ (by decide)).trans (State.rd_raiseBit_other _ _ (by decide))), State.phase,
      State.fld_setFld_other _ _ _ _ _ _ _ _ (by decide) (by decide) (.inr (.inl (by decide))),
      State.fld_setFld_same _ _ _ _ _ (by decide) (by decide)]
    rfl
  · rw [State.flag_congr (hrd _ (by decide)), State.showAbort, State.flag_raiseBit_same _ _ _ (by decide)]

theorem State.backhitching_of_phase {s : State} {p : Nat} (hp : s.phase = p) (h : p ≠ 0) : s.backhitching = true :=
  decide_eq_true (hp.trans_ne h)

/-- A parked backhitch is abandoned: the next admission finds no sheet before it and plans from q_now. -/
theorem effAbandon_ends {s : State} (hp : s.phase = 5) (hst : s.phaseStood = true) : effAbandon s =
    .next { s.abortBackhitch 0 with ledg := { (s.abortBackhitch 0).ledg with admitted := [] } } :=
  if_pos ⟨hp, hst⟩

/-- Settles O24, by the branch that each rule takes and what its change of phase shows. -/
theorem pacingGovernorAndBackhitchPhases : Obligations.PacingGovernorAndBackhitchPhases := by
  unfold Obligations.PacingGovernorAndBackhitchPhases
  refine ⟨?stepUp, ?below, ?decided, ?refused, ?decel, ?stop, ?reverse, ?park, ?accel, ?again, ?ended, ?abandoned,
    ?long, ?elsewhere⟩
  case stepUp =>
    intro g s0 s hb hallow hpend hjoin hthr hhold hup hg hsafe
    exact ⟨_, (exec_decision (i := .governorStepUp) rfl hb).trans
      (effGovernorStepUp_steps hallow hpend hjoin hthr hhold hup hg), State.stepUpTo_shows g hsafe⟩
  case below =>
    intro s0 s hb hlow
    exact ⟨_, (exec_decision (i := .governorStepUp) rfl hb).trans (effGovernorStepUp_below hlow), rfl⟩
  case decided =>
    intro s0 s hb hr hw hcfg hmax
    exact ⟨_, (exec_ledg_ready (i := .backhitchDecided) rfl hb hr).trans (effBackhitchDecided_starts hw hcfg hmax),
      s.startBackhitch_shows⟩
  case refused =>
    intro s0 s hb hr hw hcfg hmax
    refine ⟨_, (exec_ledg_ready (i := .backhitchDecided) rfl hb hr).trans (effBackhitchDecided_refuses hw hcfg hmax), ?_⟩
    obtain ⟨hphase, hshown⟩ := (s.setFld Reg.LEDG_BH_REV_PLAN 23 0 s.predictedR.toNat).bhRefuse_shows (last := 0xFE)
      (codeOf 32 s.predictedR) (by decide)
    exact ⟨hphase.trans (State.phase_congr (State.rd_setFld_other _ _ _ _ (by decide))), hshown⟩
  case decel =>
    intro s0 s hb hr hp hst hgap
    exact ⟨_, (exec_ledg_ready (i := .bhDecel) rfl hb hr).trans (effBhDecel_begins hp hst hgap),
      State.phase_bhPhase _ (by decide), rfl, s.takeAxes_tick⟩
  case stop =>
    intro s0 s hb hr hp hst hv
    exact ⟨_, (exec_ledg_ready (i := .bhStop) rfl hb hr).trans (effBhStop_stops hp hst hv),
      State.phase_bhPhase _ (by decide), rfl, s.bhPhase_out 3⟩
  case reverse =>
    intro s0 s hb hr hp hst hdw
    exact ⟨_, (exec_ledg_ready (i := .bhReverse) rfl hb hr).trans (effBhReverse_begins hp hst hdw), s.bhReverse_shows⟩
  case park =>
    intro s0 s hb hr hp hst hv
    exact ⟨_, (exec_ledg_ready (i := .bhPark) rfl hb hr).trans (effBhPark_parks hp hst hv),
      State.phase_bhPhase _ (by decide), rfl, rfl⟩
  case accel =>
    intro s0 s hb hr hp hst hl hpos
    exact ⟨_, (exec_ledg_ready (i := .bhAccel) rfl hb hr).trans (effBhAccel_begins hp hst hl hpos),
      State.phase_bhPhase _ (by decide), rfl, rfl⟩
  case again =>
    intro s0 s hb hr hp hst hl hpos
    obtain ⟨hphase, hlow, -⟩ := s.bhReverse_shows
    exact ⟨_, (exec_ledg_ready (i := .bhReverseAgain) rfl hb hr).trans (effBhReverseAgain_begins hp hst hl hpos),
      hphase, hlow⟩
  case ended =>
    intro s0 s hb hr hp hst hv
    exact ⟨_, (exec_ledg_ready (i := .bhEnd) rfl hb hr).trans (effBhEnd_ends hp hst hv), s.endBackhitch_shows⟩
  case abandoned =>
    intro s0 s hb hp hst
    obtain ⟨hphase, hflag⟩ := State.abortBackhitch_shows 0 (State.backhitching_of_phase hp (by decide))
    exact ⟨_, (exec_decision (i := .abandon) rfl hb).trans (effAbandon_ends hp hst), hphase, rfl, hflag,
      (congrArg LedgBlk.sheets (s.abortBackhitch_ledg 0) :)⟩
  case long =>
    intro s0 s hb hr hp hone hlong
    refine ⟨_, (exec_ledg_ready (i := .parkLong) rfl hb hr).trans (effParkLong_reports hp hone hlong), ?_,
      State.flag_raiseBit_same _ _ _ (by decide), ?_⟩
    · rw [State.raiseBit_pace]
    · exact (State.phase_congr (State.rd_raiseBit_other _ _ (by decide))).trans hp
  case elsewhere =>
    intro s0 s hb hr hp
    exact ⟨_, (exec_ledg_ready (i := .parkLong) rfl hb hr).trans (effParkLong_elsewhere hp), rfl⟩

end Sys2Proof.Machine
end

section
/-!
SUPPORT. Training of the DRAM (R202 to R204, R213, R214, R227): what its start empties and leaves, how it ends, and the start
of the wipe that follows a passed one.
-/

namespace Sys2Proof.Machine

/-! ### Bits of a field that was written -/

theorem State.flag_setFld_same (s : State) (a v : Nat) {hi lo i : Nat} (hh : hi < 32) (h1 : lo ≤ i) (h2 : i ≤ hi) :
    (s.setFld a hi lo v).flag a i = v.testBit (i - lo) := by
  rw [State.flag, State.rdN_setFld _ _ _ _ _ _ (h1.trans h2) hh, if_pos rfl,
    bitOf_putBits_same _ _ _ _ _ (h1.trans h2) h1 h2]

theorem State.flag_raiseBit_other (s : State) {a b : Nat} (i j : Nat) (h : b ≠ a) :
    (s.raiseBit a i).flag b j = s.flag b j :=
  State.flag_congr (s.rd_raiseBit_other i h) j

theorem State.rd_withDram (s : State) (d : DramBlk) (a : Nat) : ({ s with dram := d } : State).rd a = s.rd a := rfl

/-! ### The start of training (R202, R213, R231) -/

/-- The page store is out of use: training runs, and no frame is counted. -/
def State.outOfUse (s : State) : State :=
  ((((s.setFld Reg.DRAM_STATUS 4 0 4).setFlag Reg.DRAM_STATUS 6 false).wrN Reg.DRAM_FRAMES_TOTAL 0).wrN
    Reg.DRAM_FRAMES_FREE 0).wrN Reg.DRAM_WIPE_POS 0

/-- No station holds a frame. -/
def State.dropHeld (s : State) : State := (List.range 8).foldl (fun t i => t.wrN (Reg.DRAM_PS_HELD i) 0) s

/-- What training does before DDRPLL is started. -/
def State.emptyStore (s : State) : State :=
  { s.outOfUse.dropHeld with dram := { s.outOfUse.dropHeld.dram with
    wiped := 0, taken := [], returning := [], trainAt := s.outOfUse.dropHeld.tick, retrainAsked := false } }

/-- The PLL has no band for its frequency: training fails at once, at stages that come from outside (R493). -/
def State.missBand (s : State) : State :=
  (((s.drawn 2).setFlag Reg.DRAM_STATUS 2 false).wrN Reg.DRAM_TRAIN_RESULT
    (1 + s.freeNat % 8 + (1 + s.freeNat 1 % 8) * 16)).trainFailed (1 + s.freeNat % 8) (1 + s.freeNat 1 % 8)

theorem State.startTraining_eq (s : State) : s.startTraining =
    if (s.emptyStore.startPll 1 (Config.ddrPll * 1000000) 1).bandMiss 1 then
      (s.emptyStore.startPll 1 (Config.ddrPll * 1000000) 1).missBand
    else s.emptyStore.startPll 1 (Config.ddrPll * 1000000) 1 := by
  unfold State.startTraining State.missBand State.emptyStore State.outOfUse State.dropHeld
  rfl

theorem State.rd_dropHeld_other (s : State) {a : Nat} (h : a < Reg.DRAM_PS_HELD 0) : s.dropHeld.rd a = s.rd a := by
  have hframe : Frame (fun _ => False) (fun b => Reg.DRAM_PS_HELD 0 ≤ b) s s.dropHeld :=
    Frame.foldl _ _ (.refl s) fun u hu i => State.wrN_frame u _ _ hu (by simp only [Reg.DRAM_PS_HELD]; omega)
  exact hframe.regs a (by simpa using h)

/-- The PLLs' own registers are the only ones that their start writes. -/
theorem State.startPll_keeps (s : State) (p num den : Nat) :
    Frame (fun b => b = .host ∨ b = .flt ∨ b = .hwd) (fun a => a / 0x1000 = 0x10) s (s.startPll p num den) :=
  State.startPll_frame s p num den (.refl s) (by simp) (by simp) (by simp) (by decide)
    (fun i => by simp only [Reg.CLK_PLL_STATE]; omega) (by decide)

/-- A failed training sets FAILED with its event, and writes no other register. -/
theorem State.rd_trainFailed (s : State) (c0 c1 a : Nat) : (s.trainFailed c0 c1).rd a =
    ((s.setFlag Reg.DRAM_STATUS 1 true).raiseBit Reg.DRAM_EVENTS 1).rd a := by
  unfold State.trainFailed
  dsimp only
  split <;> split <;> rfl

@[simp] theorem State.trainFailed_dram (s : State) (c0 c1 : Nat) : (s.trainFailed c0 c1).dram = s.dram := by
  have hframe : Frame (· ≠ .dram) (fun _ => True) s (s.trainFailed c0 c1) :=
    State.trainFailed_frame s c0 c1 (.refl s) (by simp) (by simp) (by simp) trivial trivial
  exact hframe.parts .dram (by simp)

theorem State.rd_missBand_other (s : State) {a : Nat} (h1 : a ≠ Reg.DRAM_STATUS) (h2 : a ≠ Reg.DRAM_EVENTS)
    (h3 : a ≠ Reg.DRAM_TRAIN_RESULT) : s.missBand.rd a = s.rd a := by
  rw [State.missBand, State.rd_trainFailed, State.rd_raiseBit_other _ _ h2, State.rd_setFlag_other _ _ _ h1,
    State.rd_wrN_other _ _ h3, State.rd_setFlag_other _ _ _ h1, State.rd_drawn]

theorem State.flag_missBand_other (s : State) {j : Nat} (h1 : j ≠ 1) (h2 : j ≠ 2) :
    s.missBand.flag Reg.DRAM_STATUS j = s.flag Reg.DRAM_STATUS j := by
  rw [State.missBand, State.flag_congr (State.rd_trainFailed _ _ _ _), State.flag_raiseBit_other _ _ _ (by decide),
    State.flag_setFlag_other _ _ _ _ _ _ (by decide) (.inr h1), State.flag_congr (State.rd_wrN_other _ _ (by decide)),
    State.flag_setFlag_other _ _ _ _ _ _ (by decide) (.inr h2)]
  rfl

/-- Whether DDRPLL locks or not, the store stays as emptied. -/
theorem State.startTraining_dram (s : State) : s.startTraining.dram = s.emptyStore.dram := by
  have hpll := (s.emptyStore.startPll_keeps 1 (Config.ddrPll * 1000000) 1).parts .dram (by simp)
  rw [State.startTraining_eq]
  split
  · exact (State.trainFailed_dram _ _ _).trans hpll
  · exact hpll

theorem State.rd_startTraining_other (s : State) {a : Nat} (h0 : a / 0x1000 ≠ 0x10) (h1 : a ≠ Reg.DRAM_STATUS)
    (h2 : a ≠ Reg.DRAM_EVENTS) (h3 : a ≠ Reg.DRAM_TRAIN_RESULT) : s.startTraining.rd a = s.emptyStore.rd a := by
  have hpll := (s.emptyStore.startPll_keeps 1 (Config.ddrPll * 1000000) 1).regs a h0
  rw [State.startTraining_eq]
  split
  · exact (State.rd_missBand_other _ h1 h2 h3).trans hpll
  · exact hpll

theorem State.flag_startTraining_other (s : State) {j : Nat} (h1 : j ≠ 1) (h2 : j ≠ 2) :
    s.startTraining.flag Reg.DRAM_STATUS j = s.emptyStore.flag Reg.DRAM_STATUS j := by
  have hpll := State.flag_congr
    ((s.emptyStore.startPll_keeps 1 (Config.ddrPll * 1000000) 1).regs Reg.DRAM_STATUS (by decide)) j
  rw [State.startTraining_eq]
  split
  · exact (State.flag_missBand_other _ h1 h2).trans hpll
  · exact hpll

theorem State.rd_emptyStore (s : State) (a : Nat) : s.emptyStore.rd a = s.outOfUse.dropHeld.rd a := by
  rw [State.emptyStore, State.rd_withDram]

theorem State.emptyStore_shows (s : State) : s.emptyStore.rdN Reg.DRAM_FRAMES_TOTAL = 0 ∧
    s.emptyStore.rdN Reg.DRAM_FRAMES_FREE = 0 ∧ s.emptyStore.rdN Reg.DRAM_WIPE_POS = 0 ∧
    s.emptyStore.flag Reg.DRAM_STATUS 0 = false ∧ s.emptyStore.flag Reg.DRAM_STATUS 4 = false := by
  have hrd {a : Nat} (h : a < Reg.DRAM_PS_HELD 0) : s.emptyStore.rd a = s.outOfUse.rd a :=
    (s.rd_emptyStore a).trans (s.outOfUse.rd_dropHeld_other h)
  have hflag {j : Nat} (hj : j ≤ 4) : s.outOfUse.flag Reg.DRAM_STATUS j = (4 : Nat).testBit j := by
    rw [State.outOfUse, State.flag_congr (State.rd_wrN_other _ _ (by decide)),
      State.flag_congr (State.rd_wrN_other _ _ (by decide)), State.flag_congr (State.rd_wrN_other _ _ (by decide)),
      State.flag_setFlag_other _ _ _ _ _ _ (by decide) (.inr (by omega)),
      State.flag_setFld_same _ _ _ (by decide) (Nat.zero_le j) hj, Nat.sub_zero]
  rw [State.rdN_congr (hrd (by decide)), State.rdN_congr (hrd (by decide)), State.rdN_congr (hrd (by decide)),
    State.flag_congr (hrd (by decide)), State.flag_congr (hrd (by decide)), hflag (by decide), hflag (by decide)]
  refine ⟨?_, ?_, State.rdN_wrN_same _ _ _, rfl, rfl⟩
  · rw [State.outOfUse, State.rdN_wrN_other _ _ (by decide), State.rdN_wrN_other _ _ (by decide), State.rdN_wrN_same,
      Nat.zero_mod]
  · rw [State.outOfUse, State.rdN_wrN_other _ _ (by decide), State.rdN_wrN_same, Nat.zero_mod]

/-- Once training has started, no frame is counted, the store is neither READY nor wiped, and no retrain or return is
pending. -/
theorem State.startTraining_shows (s : State) : s.startTraining.rdN Reg.DRAM_FRAMES_TOTAL = 0 ∧
    s.startTraining.rdN Reg.DRAM_FRAMES_FREE = 0 ∧ s.startTraining.rdN Reg.DRAM_WIPE_POS = 0 ∧
    s.startTraining.flag Reg.DRAM_STATUS 0 = false ∧ s.startTraining.flag Reg.DRAM_STATUS 4 = false ∧
    s.startTraining.dram.wiped = 0 ∧ s.startTraining.dram.retrainAsked = false ∧
    s.startTraining.dram.returning = [] := by
  obtain ⟨htotal, hfree, hpos, hready, hwiped⟩ := s.emptyStore_shows
  have hrd {a : Nat} (h0 : a / 0x1000 ≠ 0x10) (h1 : a ≠ Reg.DRAM_STATUS) (h2 : a ≠ Reg.DRAM_EVENTS)
      (h3 : a ≠ Reg.DRAM_TRAIN_RESULT) : s.startTraining.rdN a = s.emptyStore.rdN a :=
    State.rdN_congr (s.rd_startTraining_other h0 h1 h2 h3)
  rw [State.startTraining_dram]
  exact ⟨(hrd (by decide) (by decide) (by decide) (by decide)).trans htotal,
    (hrd (by decide) (by decide) (by decide) (by decide)).trans hfree,
    (hrd (by decide) (by decide) (by decide) (by decide)).trans hpos,
    (s.flag_startTraining_other (by decide) (by decide)).trans hready,
    (s.flag_startTraining_other (by decide) (by decide)).trans hwiped, rfl, rfl, rfl⟩

/-- The start of training leaves the organisation and the band tables, and the block that asked for it. -/
theorem State.startTraining_keeps (s : State) :
    Frame (· ≠ .lcs) (fun a => a / 0x1000 = 0x10 ∨ Reg.DRAM_STATUS ≤ a) s s.startTraining :=
  State.startTraining_frame s (.refl s) (by simp) (by simp) (by simp) (by simp) (by simp) (by decide)
    (fun i => by simp only [Reg.CLK_PLL_STATE]; omega) (by decide) (by decide) (by decide) (by decide)
    (fun i => by simp only [Reg.DRAM_PS_HELD, Reg.DRAM_STATUS]; omega) (by decide) (by decide) (by decide)

/-! ### TRAINING_START and TRAIN (R202, R213, R214) -/

/-- The first `n` entries of DDRPLL's band table, filled from a list. -/
def State.fillBands (s : State) (bands : List Word) (n : Nat) : State :=
  (List.range n).foldl (fun t i => t.wr (Reg.CLK_BAND_b 1 i) (bands.getD i 0)) s

theorem State.fillBands_succ (s : State) (bands : List Word) (n : Nat) : s.fillBands bands (n + 1) =
    (s.fillBands bands n).wr (Reg.CLK_BAND_b 1 n) (bands.getD n 0) := by
  rw [State.fillBands, List.range_succ, List.foldl_append]
  rfl

theorem State.rd_fillBands (s : State) (bands : List Word) {n i : Nat} (hn : n ≤ 32) (hi : i < n) :
    (s.fillBands bands n).rd (Reg.CLK_BAND_b 1 i) = bands.getD i 0 := by
  induction n with
  | zero => exact absurd hi (Nat.not_lt_zero i)
  | succ n ih =>
    rw [State.fillBands_succ]
    by_cases heq : i = n
    · rw [heq, State.rd_wr_same]
    · have hne : Reg.CLK_BAND_b 1 i ≠ Reg.CLK_BAND_b 1 n := by
        simp only [Reg.CLK_BAND_b]
        omega
      rw [State.rd_wr_other _ _ hne, ih (by omega) (by omega)]

theorem State.fillBands_lcs (s : State) (bands : List Word) (n : Nat) : (s.fillBands bands n).lcs = s.lcs := by
  induction n with
  | zero => rfl
  | succ n ih => rw [State.fillBands_succ, State.wr_lcs, ih]

/-- Management firmware's load at the tick of TRAINING_START: the band table and the organisation. -/
def State.loadTraining (s : State) (o : Fin 16) (bands : List Word) : State :=
  (State.fillBands { s with lcs := { s.lcs with trainDue := none } } bands bands.length).wrN Reg.DRAM_ORG o

theorem execTrainingStart_trains {o : Fin 16} {bands : List Word} {n : Nat} {s : State} (hdue : s.lcs.trainDue = some n)
    (hn : n ≤ s.tick) (hlen : bands.length ≤ 32) (hset : bitOf o 3 = true)
    (hvalid : bitOf o 1 = false ∨ bitOf o 2 = false ∨ bitOf o 0 = true) :
    execTrainingStart (some o) bands s = .next (s.loadTraining o bands).startTraining := by
  have hgo : ¬ (s.lcs.trainDue.all (fun t => decide (s.tick < t)) = true ∨ 32 < bands.length) := by
    simp [hdue, hn, hlen]
  have horg : bitOf o 3 = true ∧ (!(bitOf o 1 && bitOf o 2 && !bitOf o 0)) = true := by
    rcases hvalid with h | h | h <;> simp [hset, h]
  simp only [execTrainingStart, if_neg hgo, if_pos horg]
  rfl

theorem State.trainingStarted_shows (s : State) (o : Fin 16) {bands : List Word} (hlen : bands.length ≤ 32) :
    (s.loadTraining o bands).startTraining.lcs.trainDue = none ∧
    (s.loadTraining o bands).startTraining.rdN Reg.DRAM_ORG = o.val ∧
    ∀ i, i < bands.length → (s.loadTraining o bands).startTraining.rd (Reg.CLK_BAND_b 1 i) = bands.getD i 0 := by
  have hkeeps := (s.loadTraining o bands).startTraining_keeps
  have hlcs : (s.loadTraining o bands).startTraining.lcs = (s.loadTraining o bands).lcs := hkeeps.parts .lcs (by simp)
  refine ⟨?_, ?_, fun i hi => ?_⟩
  · rw [hlcs, State.loadTraining, State.wrN_lcs, State.fillBands_lcs]
  · rw [State.rdN_congr (hkeeps.regs _ (by decide)), State.loadTraining, State.rdN_wrN_same]
    exact Nat.mod_eq_of_lt (by omega)
  · have hapart : ¬ (Reg.CLK_BAND_b 1 i / 0x1000 = 0x10 ∨ Reg.DRAM_STATUS ≤ Reg.CLK_BAND_b 1 i) ∧
        Reg.CLK_BAND_b 1 i ≠ Reg.DRAM_ORG := by
      simp only [Reg.CLK_BAND_b, Reg.DRAM_STATUS, Reg.DRAM_ORG]
      omega
    obtain ⟨htrain, horg⟩ := hapart
    rw [hkeeps.regs _ htrain, State.loadTraining, State.rd_wrN_other _ _ horg, State.rd_fillBands _ _ hlen hi]

theorem execTrain_trains {s : State} (hhold : s.holding = true) (hnone : s.ledg.sheets = [])
    (horg : s.flag Reg.DRAM_ORG 3 = true) (hfree : s.flag Reg.DRAM_STATUS 2 = false) :
    execTrain s = .next s.startTraining := by
  simp [execTrain, State.requestTraining, hhold, hnone, horg, hfree]

/-! ### The start of the wipe (R227, R403) -/

theorem State.startWipe_keeps (s : State) : Frame (· = .dma) (fun a => a / 0x1000 = 0x101) s s.startWipe :=
  State.startWipe_frame s (.refl s) rfl (fun i => by simp only [Reg.DMA_CH_CFG]; omega)
    (fun i => by simp only [Reg.DMA_CH_STATE]; omega)

/-- Channel 63 with the rate of the wipe, before it is started. -/
def State.armWipe (s : State) : State :=
  ((s.setFld (Reg.DMA_CH_CFG 63) 15 8 (s.fld Reg.DRAM_WIPE_RATE 7 0)).setFlag (Reg.DMA_CH_CFG 63) 16 true).modDch 63
    (fun _ => { DmaChan.init with was := 2 })

theorem State.rd_modDch (s : State) (c : Nat) (f : DmaChan → DmaChan) (a : Nat) : (s.modDch c f).rd a = s.rd a := rfl

theorem State.startWipe_eq (s : State) : s.startWipe = s.armWipe.wipeChannel (if s.armWipe.dmaHalt then 6 else 2) := rfl

theorem State.rd_armWipe_other (s : State) {a : Nat} (h : a ≠ Reg.DMA_CH_CFG 63) : s.armWipe.rd a = s.rd a := by
  rw [State.armWipe, State.rd_modDch, State.rd_setFlag_other _ _ _ h, State.rd_setFld_other _ _ _ _ h]

/-- The fill of channel 63 runs at once where HALT is not set. -/
theorem State.wipeRuns_startWipe {s : State} (h : s.dmaHalt = false) : s.startWipe.wipeRuns = true := by
  have hhalt : s.armWipe.dmaHalt = false := (State.flag_congr (s.rd_armWipe_other (by decide)) 0).trans h
  have hcode : (s.armWipe.wipeChannel 2).fld (Reg.DMA_CH_STATE 63) 2 0 = 2 :=
    s.armWipe.fld_setFld_same _ 2 0 2 (by decide) (by decide)
  rw [State.startWipe_eq, hhalt]
  exact decide_eq_true hcode

/-! ### The end of training (R204, R213, R214) -/

theorem State.trainCode_lt (s : State) (stage : Fin 7) (ps : List MemPart) : s.trainCode stage ps < 16 := by
  have hstage := stage.isLt
  unfold State.trainCode State.partsCode
  split
  · split
    · decide
    · split <;> decide
  · omega

/-- Training has ended, and DRAM_TRAIN_RESULT shows a code. -/
def State.endTraining (s : State) (code : Nat) : State :=
  (s.setFlag Reg.DRAM_STATUS 2 false).wrN Reg.DRAM_TRAIN_RESULT code

theorem State.rd_endTraining_other (s : State) (code : Nat) {a : Nat} (h1 : a ≠ Reg.DRAM_STATUS)
    (h2 : a ≠ Reg.DRAM_TRAIN_RESULT) : (s.endTraining code).rd a = s.rd a :=
  (State.rd_wrN_other _ _ h2).trans (State.rd_setFlag_other _ _ _ h1)

theorem State.flag_endTraining (s : State) (code : Nat) : (s.endTraining code).flag Reg.DRAM_STATUS 2 = false :=
  (State.flag_congr (State.rd_wrN_other _ _ (by decide)) 2).trans (s.flag_setFlag_same _ 2 false (by decide))

theorem execTrainingDone_passes {c0 c1 : ChannelTraining} {s : State} (temp : Int) (hrun : s.flag Reg.DRAM_STATUS 2 = true)
    (hgap : s.dram.retraining = false) (h0 : s.trainCode c0.stage c0.parts = 0) (h1 : s.trainCode c1.stage c1.parts = 0) :
    execTrainingDone c0 c1 temp s = .next ((s.endTraining 0).trainPassed temp) := by
  simp [execTrainingDone, hrun, hgap, h0, h1, State.endTraining]

theorem execTrainingDone_fails {c0 c1 : ChannelTraining} {s : State} (temp : Int) (hrun : s.flag Reg.DRAM_STATUS 2 = true)
    (hgap : s.dram.retraining = false)
    (hbad : s.trainCode c0.stage c0.parts ≠ 0 ∨ s.trainCode c1.stage c1.parts ≠ 0) :
    execTrainingDone c0 c1 temp s =
      .next ((s.endTraining (s.trainCode c0.stage c0.parts + s.trainCode c1.stage c1.parts * 16)).trainFailed
        (s.trainCode c0.stage c0.parts) (s.trainCode c1.stage c1.parts)) := by
  have hnot : ¬ (s.trainCode c0.stage c0.parts = 0 ∧ s.trainCode c1.stage c1.parts = 0) := by
    rintro ⟨h0, h1⟩
    exact hbad.elim (absurd h0) (absurd h1)
  simp only [execTrainingDone, hrun, hgap, if_neg hnot]
  rfl

/-- The registers that a passed training leaves, READY and the temperatures among them, but for those of DMA. -/
def State.storeReady (s : State) (temp : Int) : State :=
  (((s.setFlag Reg.DRAM_STATUS 0 true).setFld Reg.DRAM_TEMP 7 0 (codeOf 8 temp)).setFld Reg.DRAM_TEMP 15 8
    (codeOf 8 temp)).wrN Reg.DRAM_FRAMES_TOTAL (s.dramBytes / 16384 - 256)

theorem State.rd_storeReady_other (s : State) (temp : Int) {a : Nat} (h1 : a ≠ Reg.DRAM_STATUS) (h2 : a ≠ Reg.DRAM_TEMP)
    (h3 : a ≠ Reg.DRAM_FRAMES_TOTAL) : (s.storeReady temp).rd a = s.rd a := by
  rw [State.storeReady, State.rd_wrN_other _ _ h3, State.rd_setFld_other _ _ _ _ h2, State.rd_setFld_other _ _ _ _ h2,
    State.rd_setFlag_other _ _ _ h1]

theorem State.rd_storeReady_status (s : State) (temp : Int) :
    (s.storeReady temp).rd Reg.DRAM_STATUS = (s.setFlag Reg.DRAM_STATUS 0 true).rd Reg.DRAM_STATUS := by
  rw [State.storeReady, State.rd_wrN_other _ _ (by decide), State.rd_setFld_other _ _ _ _ (by decide),
    State.rd_setFld_other _ _ _ _ (by decide)]

theorem State.fld_storeReady_temp (s : State) (temp : Int) : (s.storeReady temp).fld Reg.DRAM_TEMP 7 0 = codeOf 8 temp ∧
    (s.storeReady temp).fld Reg.DRAM_TEMP 15 8 = codeOf 8 temp := by
  rw [State.storeReady, State.fld_congr (State.rd_wrN_other _ _ (by decide)),
    State.fld_congr (State.rd_wrN_other _ _ (by decide)), State.fld_setFld_same _ _ _ _ _ (by decide) (by decide),
    State.fld_setFld_other _ _ _ _ _ _ _ _ (by decide) (by decide) (.inr (.inl (by decide))),
    State.fld_setFld_same _ _ _ _ _ (by decide) (by decide)]
  exact ⟨Nat.mod_eq_of_lt (codeOf_lt 8 temp), Nat.mod_eq_of_lt (codeOf_lt 8 temp)⟩

theorem State.trainPassed_eq (s : State) (temp : Int) : ∃ fields d, s.trainPassed temp =
    State.startWipe { ((s.storeReady temp).raiseBit Reg.DRAM_EVENTS 0).event 0x0601 fields with dram := d } := by
  rw [State.trainPassed, State.storeReady]
  exact ⟨_, _, rfl⟩

/-- Beside the registers of the wipe's channel, a passed training shows READY and its event. -/
theorem State.rd_trainPassed (s : State) (temp : Int) {a : Nat} (h : a / 0x1000 ≠ 0x101) :
    (s.trainPassed temp).rd a = ((s.storeReady temp).raiseBit Reg.DRAM_EVENTS 0).rd a := by
  obtain ⟨fields, d, heq⟩ := s.trainPassed_eq temp
  rw [heq, (State.startWipe_keeps _).regs a h, State.rd_withDram, State.rd_event]

theorem State.wipeRuns_trainPassed {s : State} (temp : Int) (h : s.dmaHalt = false) :
    (s.trainPassed temp).wipeRuns = true := by
  obtain ⟨fields, d, heq⟩ := s.trainPassed_eq temp
  have hrd : (State.rd { ((s.storeReady temp).raiseBit Reg.DRAM_EVENTS 0).event 0x0601 fields with dram := d }
      Reg.DMA_STATUS) = s.rd Reg.DMA_STATUS := by
    rw [State.rd_withDram, State.rd_event, State.rd_raiseBit_other _ _ (by decide),
      State.rd_storeReady_other _ _ (by decide) (by decide) (by decide)]
  rw [heq]
  exact State.wipeRuns_startWipe ((State.flag_congr hrd 0).trans h)

/-- A passed training, once it has ended: READY, both temperatures, the frame count of the organisation, and no failure. -/
theorem State.trainPassed_shows (s : State) (temp : Int) :
    ((s.endTraining 0).trainPassed temp).flag Reg.DRAM_STATUS 0 = true ∧
    ((s.endTraining 0).trainPassed temp).flag Reg.DRAM_STATUS 2 = false ∧
    ((s.endTraining 0).trainPassed temp).fld Reg.DRAM_TEMP 7 0 = codeOf 8 temp ∧
    ((s.endTraining 0).trainPassed temp).fld Reg.DRAM_TEMP 15 8 = codeOf 8 temp ∧
    ((s.endTraining 0).trainPassed temp).rdN Reg.DRAM_FRAMES_TOTAL = (s.dramBytes / 16384 - 256) % 2 ^ 32 ∧
    ((s.endTraining 0).trainPassed temp).rdN Reg.DRAM_TRAIN_RESULT = 0 ∧
    ((s.endTraining 0).trainPassed temp).flag Reg.DRAM_EVENTS 0 = true := by
  have hrd {a : Nat} (h : a / 0x1000 ≠ 0x101) (he : a ≠ Reg.DRAM_EVENTS) :
      ((s.endTraining 0).trainPassed temp).rd a = ((s.endTraining 0).storeReady temp).rd a :=
    (State.rd_trainPassed _ temp h).trans (State.rd_raiseBit_other _ _ he)
  have hstatus (j : Nat) : ((s.endTraining 0).trainPassed temp).flag Reg.DRAM_STATUS j =
      ((s.endTraining 0).setFlag Reg.DRAM_STATUS 0 true).flag Reg.DRAM_STATUS j :=
    State.flag_congr ((hrd (by decide) (by decide)).trans (State.rd_storeReady_status _ temp)) j
  have hbytes : (s.endTraining 0).dramBytes = s.dramBytes :=
    congrArg orgBytes (State.fld_congr (s.rd_endTraining_other 0 (by decide) (by decide)) 2 0)
  obtain ⟨htrained, hnow⟩ := (s.endTraining 0).fld_storeReady_temp temp
  refine ⟨?ready, ?ended, (State.fld_congr (hrd (by decide) (by decide)) 7 0).trans htrained,
    (State.fld_congr (hrd (by decide) (by decide)) 15 8).trans hnow, ?frames, ?result, ?event⟩
  case ready => rw [hstatus, State.flag_setFlag_same _ _ _ _ (by decide)]
  case ended =>
    rw [hstatus, State.flag_setFlag_other _ _ _ _ _ _ (by decide) (.inr (by decide)), State.flag_endTraining]
  case frames => rw [State.rdN_congr (hrd (by decide) (by decide)), State.storeReady, State.rdN_wrN_same, hbytes]
  case result =>
    rw [State.rdN_congr (hrd (by decide) (by decide)),
      State.rdN_congr (State.rd_storeReady_other _ temp (by decide) (by decide) (by decide)), State.endTraining,
      State.rdN_wrN_same, Nat.zero_mod]
  case event =>
    rw [State.flag_congr (State.rd_trainPassed _ temp (by decide)), State.flag_raiseBit_same _ _ _ (by decide)]

theorem State.trainFailed_shows (s : State) {c0 c1 : Nat} (h0 : c0 < 16) (h1 : c1 < 16) :
    ((s.endTraining (c0 + c1 * 16)).trainFailed c0 c1).flag Reg.DRAM_STATUS 1 = true ∧
    ((s.endTraining (c0 + c1 * 16)).trainFailed c0 c1).flag Reg.DRAM_STATUS 2 = false ∧
    ((s.endTraining (c0 + c1 * 16)).trainFailed c0 c1).rdN Reg.DRAM_TRAIN_RESULT = c0 + c1 * 16 ∧
    ((s.endTraining (c0 + c1 * 16)).trainFailed c0 c1).flag Reg.DRAM_EVENTS 1 = true ∧
    ((s.endTraining (c0 + c1 * 16)).trainFailed c0 c1).rdN Reg.DRAM_FRAMES_TOTAL = s.rdN Reg.DRAM_FRAMES_TOTAL := by
  have hrd {a : Nat} (hs : a ≠ Reg.DRAM_STATUS) (he : a ≠ Reg.DRAM_EVENTS) :
      ((s.endTraining (c0 + c1 * 16)).trainFailed c0 c1).rd a = (s.endTraining (c0 + c1 * 16)).rd a :=
    (State.rd_trainFailed _ _ _ _).trans ((State.rd_raiseBit_other _ _ he).trans (State.rd_setFlag_other _ _ _ hs))
  have hstatus (j : Nat) : ((s.endTraining (c0 + c1 * 16)).trainFailed c0 c1).flag Reg.DRAM_STATUS j =
      ((s.endTraining (c0 + c1 * 16)).setFlag Reg.DRAM_STATUS 1 true).flag Reg.DRAM_STATUS j :=
    State.flag_congr ((State.rd_trainFailed _ _ _ _).trans (State.rd_raiseBit_other _ _ (by decide))) j
  refine ⟨?failed, ?ended, ?result, ?event, ?frames⟩
  case failed => rw [hstatus, State.flag_setFlag_same _ _ _ _ (by decide)]
  case ended =>
    rw [hstatus, State.flag_setFlag_other _ _ _ _ _ _ (by decide) (.inr (by decide)), State.flag_endTraining]
  case result =>
    rw [State.rdN_congr (hrd (by decide) (by decide)), State.endTraining, State.rdN_wrN_same]
    exact Nat.mod_eq_of_lt (by omega)
  case event =>
    rw [State.flag_congr (State.rd_trainFailed _ _ _ _), State.flag_raiseBit_same _ _ _ (by decide)]
  case frames =>
    rw [State.rdN_congr (hrd (by decide) (by decide)),
      State.rdN_congr (State.rd_endTraining_other _ _ (by decide) (by decide))]

end Sys2Proof.Machine
end

section
/-!
SUPPORT. The DRAM controller in service (R214 to R227): the temperature and the gap retrain that follows it, a request that
hits an open row, the patrol scrub, a group of the wipe, and the proof of the statement about the controller.
-/

namespace Sys2Proof.Machine

/-! ### Temperature (R215, R217) -/

theorem State.requestRetrain_shows (s : State) : s.requestRetrain.flag Reg.DRAM_STATUS 3 = true ∧
    ∀ a, a ≠ Reg.DRAM_STATUS → s.requestRetrain.rd a = s.rd a := by
  refine ⟨State.flag_setFlag_same _ _ _ _ (by decide), fun a ha => ?_⟩
  rw [State.requestRetrain, State.rd_setFlag_other _ _ _ ha, State.rd_withDram]

/-- A reading taken: the present temperature, its tick and the refresh rate. -/
def State.takeTemp (s : State) (temp : Int) (hot : Bool) : State :=
  { s.setFld Reg.DRAM_TEMP 15 8 (codeOf 8 temp) with dram := { s.dram with tempAt := s.tick, fastRefresh := hot } }

/-- Beside the reading only DRAM_STATUS, the event and its message can change. -/
theorem execDramTempRead_reads {s : State} (phy warmest : Int) (hot : Bool) (hready : s.flag Reg.DRAM_STATUS 0 = true)
    (hdue : s.dram.tempAt + 1280 ≤ s.tick) : ∃ t, execDramTempRead phy warmest hot s = .next t ∧
      t.rd Reg.DRAM_TEMP = (s.takeTemp (max phy warmest) hot).rd Reg.DRAM_TEMP ∧
      t.dram = (s.takeTemp (max phy warmest) hot).dram := by
  have hgo : ¬ (!s.flag Reg.DRAM_STATUS 0 || decide (s.tick < s.dram.tempAt + 1280)) = true := by
    simp [hready, hdue]
  simp only [execDramTempRead, if_neg hgo]
  refine ⟨_, rfl, ?_, ?_⟩
  · split
    · rw [State.rd_event, State.rd_raiseBit_other _ _ (by decide), State.rd_setFlag_other _ _ _ (by decide),
        State.rd_setFlag_other _ _ _ (by decide)]
      rfl
    · rw [State.rd_setFlag_other _ _ _ (by decide), State.rd_setFlag_other _ _ _ (by decide)]
      rfl
  · split
    · rw [State.event_dram, State.raiseBit_dram, State.setFlag_dram, State.setFlag_dram]
      rfl
    · rw [State.setFlag_dram, State.setFlag_dram]
      rfl

theorem State.fld_takeTemp (s : State) (temp : Int) (hot : Bool) :
    (s.takeTemp temp hot).fld Reg.DRAM_TEMP 15 8 = codeOf 8 temp ∧
    (s.takeTemp temp hot).fld Reg.DRAM_TEMP 7 0 = s.fld Reg.DRAM_TEMP 7 0 :=
  ⟨(s.fld_setFld_same _ 15 8 _ (by decide) (by decide)).trans (Nat.mod_eq_of_lt (codeOf_lt 8 temp)),
    s.fld_setFld_other _ _ 15 8 _ 7 0 (by decide) (by decide) (.inr (.inl (by decide)))⟩

theorem execTracking_runs {s : State} (hready : s.flag Reg.DRAM_STATUS 0 = true)
    (hdue : s.dram.trackAt + s.fld Reg.DRAM_RETRAIN_CFG 23 16 ≤ s.tick) :
    execTracking s = .next { s with dram := { s.dram with trackAt := s.tick } } := by
  simp only [execTracking, hready, hdue, and_self, if_true]

/-! ### The gap retrain (R217) -/

/-- A gap retrain has begun. -/
def State.beginGapRetrain (s : State) : State :=
  ((State.setFlag { s with dram := { s.dram with retraining := true } } Reg.DRAM_STATUS 2 true).setFlag Reg.DRAM_STATUS 3
    false).event 0x0603 [codeOf 16 (s.dramNow - s.dramTrained), s.tick]

theorem effGapRetrain_begins {s : State} (hgap : s.sheetGap = true) (hdue : s.retrainDue = true)
    (hready : s.flag Reg.DRAM_STATUS 0 = true) (hfree : s.flag Reg.DRAM_STATUS 2 = false) :
    effGapRetrain s = .next s.beginGapRetrain := by
  simp only [effGapRetrain, hgap, hdue, hready, hfree, Bool.not_false, and_self, if_true]
  rfl

theorem State.flag_beginGapRetrain (s : State) : s.beginGapRetrain.flag Reg.DRAM_STATUS 2 = true ∧
    s.beginGapRetrain.flag Reg.DRAM_STATUS 3 = false := by
  rw [State.beginGapRetrain, State.flag_congr (State.rd_event _ _ _ _ _), State.flag_congr (State.rd_event _ _ _ _ _)]
  refine ⟨?_, State.flag_setFlag_same _ _ _ _ (by decide)⟩
  rw [State.flag_setFlag_other _ _ _ _ _ _ (by decide) (.inr (by decide)), State.flag_setFlag_same _ _ _ _ (by decide)]

/-- A gap retrain has ended: TRAINED takes the present temperature (log entry 20). -/
def State.endGapRetrain (s : State) : State :=
  (((((State.setFlag { s with dram := { s.dram with retraining := false, retrainAsked := false } } Reg.DRAM_STATUS 2
    false).setFld Reg.DRAM_TEMP 7 0 (s.fld Reg.DRAM_TEMP 15 8)).setFlag Reg.DRAM_STATUS 6 false).setFlag Reg.DRAM_STATUS 3
      false).raiseBit Reg.DRAM_EVENTS 2)

theorem execGapRetrainDone_ends {s : State} (h : s.dram.retraining = true) :
    execGapRetrainDone s = .next s.endGapRetrain := by
  rw [execGapRetrainDone, if_pos h]
  rfl

theorem State.endGapRetrain_dram (s : State) :
    s.endGapRetrain.dram = { s.dram with retraining := false, retrainAsked := false } := by
  rw [State.endGapRetrain, State.raiseBit_dram]
  rfl

theorem State.endGapRetrain_shows (s : State) : s.endGapRetrain.flag Reg.DRAM_STATUS 2 = false ∧
    s.endGapRetrain.flag Reg.DRAM_STATUS 3 = false ∧
    s.endGapRetrain.fld Reg.DRAM_TEMP 7 0 = s.fld Reg.DRAM_TEMP 15 8 ∧ s.endGapRetrain.flag Reg.DRAM_EVENTS 2 = true := by
  refine ⟨?running, ?pending, ?trained, State.flag_raiseBit_same _ _ _ (by decide)⟩
  case running =>
    rw [State.endGapRetrain, State.flag_raiseBit_other _ _ _ (by decide),
      State.flag_setFlag_other _ _ _ _ _ _ (by decide) (.inr (by decide)),
      State.flag_setFlag_other _ _ _ _ _ _ (by decide) (.inr (by decide)),
      State.flag_setFld_other _ _ _ _ _ _ _ (by decide) (by decide) (.inl (by decide)),
      State.flag_setFlag_same _ _ _ _ (by decide)]
  case pending =>
    rw [State.endGapRetrain, State.flag_raiseBit_other _ _ _ (by decide), State.flag_setFlag_same _ _ _ _ (by decide)]
  case trained =>
    have hlt : s.fld Reg.DRAM_TEMP 15 8 < 2 ^ 8 := bitsOf_lt _ _ _
    rw [State.endGapRetrain, State.fld_congr (State.rd_raiseBit_other _ _ (by decide)),
      State.fld_congr (State.rd_setFlag_other _ _ _ (by decide)), State.fld_congr (State.rd_setFlag_other _ _ _ (by decide)),
      State.fld_setFld_same _ _ _ _ _ (by decide) (by decide)]
    exact Nat.mod_eq_of_lt hlt

/-! ### A request that hits an open row (R218 to R221) -/

theorem State.countMisses_counted {s : State} {w : DramWait} (now : Nat) (hw : s.dram.waits = [w])
    (hmissed : w.missed = true) : s.countMisses now = s := by
  have hmark : s.dram.waits.map (fun (w : DramWait) => { w with missed := w.missed || decide (s.urgencyOf w now = 4) }) =
      s.dram.waits := by
    rw [hw, List.map_cons, List.map_nil, hmissed, Bool.true_or, ← hmissed]
  rw [State.countMisses, hmark, hw, List.foldl_cons, List.foldl_nil, hmissed, ← hw]
  rfl

theorem State.chosen_alone {s : State} {w : DramWait} {ch now : Nat} (hw : s.dram.waits = [w])
    (hch : (s.dramPlace w.addr).1 = ch) (hhit : s.rowHit w now = true) : s.chosen ch now = some w := by
  simp [State.chosen, hw, hch, State.canIssue, hhit]

/-- A hit with an open hint leaves its row open, and activates none. -/
theorem State.serve_hit {s : State} {w : DramWait} {now : Nat} (sampled : Bool) (hhit : s.rowHit w now = true)
    (hopen : w.close = false) : s.serve w now sampled = { s with dram := { s.dram with
      waits := s.dram.waits.erase w
      openRows := tabPut s.dram.openRows (s.dramPlace w.addr).2.1 ⟨(s.dramPlace w.addr).2.2, now⟩ } } := by
  simp only [State.serve, hhit, hopen, Bool.false_eq_true, if_false, if_true]

theorem State.dramWrite_keeps (s : State) (a : Nat) (bs : List Byte) : (s.dramWrite a bs).dram.waits = s.dram.waits ∧
    (s.dramWrite a bs).dram.openRows = s.dram.openRows ∧ (s.dramWrite a bs).dram.rows = s.dram.rows := by
  induction bs generalizing s a with
  | nil => exact ⟨rfl, rfl, rfl⟩
  | cons b bs ih => exact ih (s.writeFrame (a / 16384) (a % 16384) [b]) (a + 1)

/-- Without an ECC error the answer queues no request and moves no row. -/
theorem State.dramAnswer_clean_keeps (s : State) (ch : Nat) (w : DramWait) (now : Nat) (decoding : Bool) :
    (s.dramAnswer ch w now 0 decoding).dram.waits = s.dram.waits ∧
    (s.dramAnswer ch w now 0 decoding).dram.openRows = s.dram.openRows ∧
    (s.dramAnswer ch w now 0 decoding).dram.rows = s.dram.rows := by
  rw [State.dramAnswer]
  split
  · split
    · exact s.dramWrite_keeps w.addr w.data
    · exact ⟨rfl, rfl, rfl⟩
  · dsimp only
    rw [if_neg (by decide), if_neg (by decide)]
    split <;> exact ⟨rfl, rfl, rfl⟩

theorem execDramRequest_hit {ch : Fin 2} {now : Nat} {w : DramWait} {s : State} (sampled decoding : Bool)
    (hw : s.dram.waits = [w]) (hmissed : w.missed = true) (hfree : s.flag Reg.DRAM_STATUS 2 = false)
    (hready : s.flag Reg.DRAM_STATUS 0 = true) (hch : (s.dramPlace w.addr).1 = ch.val) (hhit : s.rowHit w now = true) :
    execDramRequest ch [] now sampled 0 decoding s =
      .next ((s.serve w now sampled).dramAnswer ch w now 0 decoding) := by
  simp only [execDramRequest, List.foldl_nil, State.countMisses_counted now hw hmissed, hfree, hready,
    State.chosen_alone hw hch hhit]
  rfl

/-! ### The patrol scrub (R225) -/

/-- The two reads of a frame, one on each channel. -/
def scrubReads (f now0 now1 : Nat) : List DramWait :=
  [⟨5, f * 16384, true, now0, false, [], false⟩, ⟨5, f * 16384 + 256, true, now1, false, [], false⟩]

theorem execPatrolScrub_reads {s : State} (now0 now1 : Nat) (hready : s.flag Reg.DRAM_STATUS 0 = true)
    (hon : s.scrubTicks ≠ 0) (hfree : s.flag Reg.DRAM_STATUS 2 = false) (hmore : s.dram.scrubAt < s.framesTotal) :
    execPatrolScrub now0 now1 s = .next { s with dram := { s.dram with
      scrubAt := s.dram.scrubAt + 1, waits := s.dram.waits ++ scrubReads s.dram.scrubAt now0 now1 } } := by
  simp [execPatrolScrub, hready, hon, hfree, Nat.not_le.2 hmore, scrubReads]

theorem execPatrolScrub_begins {s : State} (now0 now1 : Nat) (hready : s.flag Reg.DRAM_STATUS 0 = true)
    (hon : s.scrubTicks ≠ 0) (hfree : s.flag Reg.DRAM_STATUS 2 = false) (hall : s.framesTotal ≤ s.dram.scrubAt)
    (hdue : s.dram.scrubFrom + s.scrubTicks ≤ s.tick) :
    execPatrolScrub now0 now1 s = .next { s with dram := { s.dram with
      scrubAt := 1, scrubFrom := s.tick, waits := s.dram.waits ++ scrubReads 0 now0 now1 } } := by
  simp [execPatrolScrub, hready, hon, hfree, hall, Nat.not_lt.2 hdue, scrubReads]

theorem execPatrolScrub_waits {s : State} (now0 now1 : Nat) (hall : s.framesTotal ≤ s.dram.scrubAt)
    (hearly : s.tick < s.dram.scrubFrom + s.scrubTicks) : execPatrolScrub now0 now1 s = .next s := by
  simp [execPatrolScrub, hall, hearly]

/-! ### A group of the wipe (R227) -/

/-- A whole group of frames without a bad one joins the free list, wiped up to frame `hi`. -/
def State.freeGroup (s : State) (hi : Nat) : State :=
  (State.wrN { s with dram := { s.dram with
    wiped := hi, bytes := s.dram.bytes.filter (fun b => decide (b.1 < s.dram.wiped ∨ hi ≤ b.1)) } }
      Reg.DRAM_WIPE_POS hi).wrN Reg.DRAM_FRAMES_FREE (s.rdN Reg.DRAM_FRAMES_FREE + 256)

/-- The last group ends the wipe. -/
def State.endWipe (s : State) (hi began : Nat) : State :=
  (((s.setFlag Reg.DRAM_STATUS 4 true).raiseBit Reg.DRAM_EVENTS 7).event 0x0607 [hi, s.tick - began]).wipeChannel 4

theorem State.rd_endWipe_other (s : State) (hi began : Nat) {a : Nat} (h1 : a ≠ Reg.DRAM_STATUS)
    (h2 : a ≠ Reg.DRAM_EVENTS) (h3 : a ≠ Reg.DMA_CH_STATE 63) : (s.endWipe hi began).rd a = s.rd a := by
  rw [State.endWipe, State.wipeChannel, State.rd_setFld_other _ _ _ _ h3, State.rd_event, State.rd_raiseBit_other _ _ h2,
    State.rd_setFlag_other _ _ _ h1]

theorem State.flag_endWipe (s : State) (hi began : Nat) : (s.endWipe hi began).flag Reg.DRAM_STATUS 4 = true := by
  rw [State.endWipe, State.wipeChannel, State.flag_congr (State.rd_setFld_other _ _ _ _ (by decide)),
    State.flag_congr (State.rd_event _ _ _ _ _), State.flag_raiseBit_other _ _ _ (by decide),
    State.flag_setFlag_same _ _ _ _ (by decide)]

theorem State.endWipe_dram (s : State) (hi began : Nat) : (s.endWipe hi began).dram = s.dram := by
  rw [State.endWipe, State.wipeChannel, State.setFld_dram, State.event_dram, State.raiseBit_dram, State.setFlag_dram]

theorem execWipeGroupDone_frees {s : State} (hready : s.flag Reg.DRAM_STATUS 0 = true)
    (hmore : s.flag Reg.DRAM_STATUS 4 = false) (hfree : s.flag Reg.DRAM_STATUS 2 = false) (hruns : s.wipeRuns = true)
    (hwhole : s.dram.wiped + 256 ≤ s.framesTotal) (hbad : s.dram.bad = [])
    (hports : s.dram.waits.any (fun w => decide (w.port ≤ 2)) = false) : execWipeGroupDone s =
      .next (if s.dram.wiped + 256 = s.framesTotal then
        (s.freeGroup (s.dram.wiped + 256)).endWipe (s.dram.wiped + 256) s.dram.wipeAt
      else s.freeGroup (s.dram.wiped + 256)) := by
  have hgo : ¬ (!s.flag Reg.DRAM_STATUS 0 || s.flag Reg.DRAM_STATUS 4 || s.flag Reg.DRAM_STATUS 2 || !s.wipeRuns ||
      s.dram.waits.any (fun w => decide (w.port ≤ 2))) = true := by
    simp [hready, hmore, hfree, hruns, hports]
  have hgood : (s.dram.bad.filter (fun b => decide (s.dram.wiped ≤ b.1 ∧ b.1 < s.dram.wiped + 256))).length = 0 := by
    rw [hbad, List.filter_nil, List.length_nil]
  simp only [execWipeGroupDone, if_neg hgo, Nat.min_eq_right hwhole, hgood, Nat.add_sub_cancel_left, Nat.sub_zero]
  rfl

theorem State.freeGroup_shows {s : State} {hi : Nat} (h : hi ≤ s.framesTotal) :
    (s.freeGroup hi).rdN Reg.DRAM_WIPE_POS = hi ∧
    (s.freeGroup hi).rdN Reg.DRAM_FRAMES_FREE = (s.rdN Reg.DRAM_FRAMES_FREE + 256) % 2 ^ 32 ∧
    (s.freeGroup hi).flag Reg.DRAM_STATUS 4 = s.flag Reg.DRAM_STATUS 4 := by
  have hlt : hi < 2 ^ 32 := h.trans_lt (s.rdN_lt _)
  refine ⟨?_, State.rdN_wrN_same _ _ _, ?_⟩
  · rw [State.freeGroup, State.rdN_wrN_other _ _ (by decide), State.rdN_wrN_same, Nat.mod_eq_of_lt hlt]
  · rw [State.freeGroup, State.flag_congr (State.rd_wrN_other _ _ (by decide)),
      State.flag_congr (State.rd_wrN_other _ _ (by decide)), State.flag_congr (State.rd_withDram _ _ _)]

/-- Settles O26, by the rule of each command, and by the branch that each hypothesis selects. -/
theorem dramTrainingTemperatureAndScrub : Obligations.DramTrainingTemperatureAndScrub := by
  unfold Obligations.DramTrainingTemperatureAndScrub
  refine ⟨?asked, ?started, ?again, ?passed, ?failed, ?temp, ?tracked, ?gap, ?gapEnd, ?request, ?window, ?scrub, ?pass,
    ?rest, ?wipe⟩
  case asked =>
    intro s
    exact ⟨_, exec_any (i := .retrain) rfl s, rfl, s.requestRetrain_shows⟩
  case started =>
    intro o bands n s hdue hn hlen hset hvalid
    refine ⟨_, (exec_any (i := .trainingStart (some o) bands) rfl s).trans
      (execTrainingStart_trains hdue hn hlen hset hvalid), ?_⟩
    obtain ⟨hnone, horg, hbands⟩ := s.trainingStarted_shows o hlen
    obtain ⟨htotal, hfree, -, hready, -, hwiped, -⟩ := (s.loadTraining o bands).startTraining_shows
    exact ⟨hnone, horg, hbands, htotal, hfree, hready, hwiped⟩
  case again =>
    intro s hhold hnone horg hfree
    exact ⟨_, (exec_any (i := .train) rfl s).trans (execTrain_trains hhold hnone horg hfree), s.startTraining_shows⟩
  case passed =>
    intro c0 c1 temp s hrun hgap h0 h1 hhalt
    refine ⟨_, (exec_any (i := .trainingDone c0 c1 temp) rfl s).trans (execTrainingDone_passes temp hrun hgap h0 h1), ?_⟩
    obtain ⟨hready, hended, htrained, hnow, hframes, hresult, hevent⟩ := s.trainPassed_shows temp
    have hruns : ((s.endTraining 0).trainPassed temp).wipeRuns = true :=
      State.wipeRuns_trainPassed temp ((State.flag_congr (s.rd_endTraining_other 0 (by decide) (by decide)) 0).trans hhalt)
    exact ⟨hready, hended, htrained, hnow, hframes, hresult, hevent, hruns⟩
  case failed =>
    intro c0 c1 temp s hrun hgap hbad
    exact ⟨_, (exec_any (i := .trainingDone c0 c1 temp) rfl s).trans (execTrainingDone_fails temp hrun hgap hbad),
      s.trainFailed_shows (s.trainCode_lt c0.stage c0.parts) (s.trainCode_lt c1.stage c1.parts)⟩
  case temp =>
    intro phy warmest hot s hready hdue
    obtain ⟨t, ht, hrd, hdram⟩ := execDramTempRead_reads phy warmest hot hready hdue
    obtain ⟨hnow, htrained⟩ := s.fld_takeTemp (max phy warmest) hot
    exact ⟨t, (exec_any (i := .dramTempRead phy warmest hot) rfl s).trans ht, (State.fld_congr hrd 15 8).trans hnow,
      congrArg DramBlk.tempAt hdram, congrArg DramBlk.fastRefresh hdram, (State.fld_congr hrd 7 0).trans htrained⟩
  case tracked =>
    intro s hready hdue
    exact ⟨_, (exec_any (i := .tracking) rfl s).trans (execTracking_runs hready hdue), rfl⟩
  case gap =>
    intro s0 s hb hgap hdue hready hfree
    obtain ⟨hrun, hpending⟩ := s.flag_beginGapRetrain
    exact ⟨_, (exec_decision (i := .gapRetrain) rfl hb).trans (effGapRetrain_begins hgap hdue hready hfree), rfl, hrun,
      hpending, rfl⟩
  case gapEnd =>
    intro s h
    exact ⟨_, (exec_any (i := .gapRetrainDone) rfl s).trans (execGapRetrainDone_ends h),
      congrArg DramBlk.retraining s.endGapRetrain_dram, congrArg DramBlk.retrainAsked s.endGapRetrain_dram,
      s.endGapRetrain_shows⟩
  case request =>
    intro ch now sampled decoding w s hw hmissed hfree hready hch hhit hopen
    refine ⟨_, (exec_any (i := .dramRequest ch [] now sampled 0 decoding) rfl s).trans
      (execDramRequest_hit sampled decoding hw hmissed hfree hready hch hhit), ?_⟩
    obtain ⟨hwaits, hrows, hcounts⟩ := (s.serve w now sampled).dramAnswer_clean_keeps ch w now decoding
    rw [hwaits, hrows, hcounts, State.serve_hit sampled hhit hopen]
    refine ⟨?_, ?_, rfl⟩
    · rw [hw, List.erase_cons_head]
    · rw [tabFind_tabPut, if_pos rfl]
  case window =>
    intro s
    exact ⟨_, exec_any (i := .rhWindowClear) rfl s, rfl⟩
  case scrub =>
    intro now0 now1 s hready hon hfree hmore
    exact ⟨_, (exec_any (i := .patrolScrub now0 now1) rfl s).trans
      (execPatrolScrub_reads now0 now1 hready hon hfree hmore), rfl, rfl, rfl, fun _ => rfl⟩
  case pass =>
    intro now0 now1 s hready hon hfree hall hdue
    exact ⟨_, (exec_any (i := .patrolScrub now0 now1) rfl s).trans
      (execPatrolScrub_begins now0 now1 hready hon hfree hall hdue), rfl, rfl, rfl, rfl, fun _ => rfl⟩
  case rest =>
    intro now0 now1 s hall hearly
    exact ⟨s, (exec_any (i := .patrolScrub now0 now1) rfl s).trans (execPatrolScrub_waits now0 now1 hall hearly), rfl⟩
  case wipe =>
    intro s hready hmore hfree hruns hwhole hbad hports
    refine ⟨_, (exec_any (i := .wipeGroupDone) rfl s).trans
      (execWipeGroupDone_frees hready hmore hfree hruns hwhole hbad hports), ?_⟩
    obtain ⟨hpos, hcount, hflag⟩ := State.freeGroup_shows hwhole
    split
    · next hlast =>
      rw [State.endWipe_dram, State.rdN_congr (State.rd_endWipe_other _ _ _ (by decide) (by decide) (by decide)),
        State.rdN_congr (State.rd_endWipe_other _ _ _ (by decide) (by decide) (by decide)), State.flag_endWipe]
      exact ⟨rfl, hpos, hcount, (decide_eq_true hlast).symm⟩
    · next hmid => exact ⟨rfl, hpos, hcount, (hflag.trans hmore).trans (decide_eq_false hmid).symm⟩

end Sys2Proof.Machine
end

section
/-!
SUPPORT. The boundaries of the scan engine (R247 to R259): what every step of a facet boundary keeps of its station, and
that no step of one clears an event flag.
-/

namespace Sys2Proof.Machine

/-! ### Event flags of the scan engine -/

/-- Every event flag of the scan engine that stood in `s` stands in `t`. -/
def ScanEventsKept (s t : State) : Prop :=
  ∀ j, s.flag Reg.SCAN_EVENTS j = true → t.flag Reg.SCAN_EVENTS j = true

theorem ScanEventsKept.trans {s t u : State} (h : ScanEventsKept s t) (k : ScanEventsKept t u) : ScanEventsKept s u :=
  fun j hj => k j (h j hj)

theorem ScanEventsKept.of_rd {s t : State} (h : t.rd Reg.SCAN_EVENTS = s.rd Reg.SCAN_EVENTS) : ScanEventsKept s t :=
  fun j hj => (State.flag_congr h j).trans hj

/-- An operation that does not write SCAN_EVENTS keeps its flags. -/
theorem Frame.scanEventsKept {F : Blk → Prop} {s t : State} (h : Frame F (· ≠ Reg.SCAN_EVENTS) s t) :
    ScanEventsKept s t :=
  .of_rd (h.regs _ (not_not.2 rfl))

theorem ScanEventsKept.raiseBit (s : State) (a : Nat) {k : Nat} (hk : k < 32) : ScanEventsKept s (s.raiseBit a k) := by
  intro j hj
  by_cases ha : a = Reg.SCAN_EVENTS
  · subst ha
    exact s.flag_raiseBit_keep hk hj
  · exact (s.flag_raiseBit_other k j (Ne.symm ha)).trans hj

theorem ScanEventsKept.ite {s t u : State} {c : Prop} [Decidable c] (ht : ScanEventsKept s t) (hu : ScanEventsKept s u) :
    ScanEventsKept s (if c then t else u) := by
  split
  · exact ht
  · exact hu

/-! ### What a facet boundary keeps of its station -/

/-- Two records of a station that agree on the volume in force, the boundary and the counts of the gate. -/
structure ScanStn.SameFacet (x y : ScanStn) : Prop where
  plan : y.plan = x.plan
  boundary : y.boundary = x.boundary
  real : y.real = x.real
  good : y.good = x.good
  missed : y.missed = x.missed

theorem ScanStn.SameFacet.refl (x : ScanStn) : x.SameFacet x := ⟨rfl, rfl, rfl, rfl, rfl⟩

theorem ScanStn.SameFacet.trans {x y z : ScanStn} (h : x.SameFacet y) (k : y.SameFacet z) : x.SameFacet z :=
  ⟨k.plan.trans h.plan, k.boundary.trans h.boundary, k.real.trans h.real, k.good.trans h.good, k.missed.trans h.missed⟩

/-- An update that keeps a relation to every record keeps it at its station, whether the station exists or not. -/
theorem State.stn_modStn_rel {P : ScanStn → ScanStn → Prop} (s : State) (i : Nat) {f : ScanStn → ScanStn}
    (hf : ∀ x, P x (f x)) (hrefl : ∀ x, P x x) : P (s.stn i) ((s.modStn i f).stn i) := by
  by_cases hi : i < s.scan.length
  · rw [State.stn_modStn_same f hi]
    exact hf _
  · have hsame : (s.modStn i f).stn i = s.stn i := by
      simp [State.stn, State.modStn, List.getD_eq_getElem?_getD, not_lt.1 hi]
    rw [hsame]
    exact hrefl _

theorem State.bm_modBm_same {s : State} {i : Nat} (f : BeamStn → BeamStn) (h : i < s.beam.stns.length) :
    (s.modBm i f).bm i = f (s.bm i) := by
  simp [State.bm, State.modBm, h]

theorem State.bm_modBm_rel {P : BeamStn → BeamStn → Prop} (s : State) (i : Nat) {f : BeamStn → BeamStn}
    (hf : ∀ x, P x (f x)) (hrefl : ∀ x, P x x) : P (s.bm i) ((s.modBm i f).bm i) := by
  by_cases hi : i < s.beam.stns.length
  · rw [State.bm_modBm_same f hi]
    exact hf _
  · have hsame : (s.modBm i f).bm i = s.bm i := by
      simp [State.bm, State.modBm, List.getD_eq_getElem?_getD, not_lt.1 hi]
    rw [hsame]
    exact hrefl _

/-- What the steps of a boundary at station `i` keep once the boundary has been noted: the event flags that stand, the
state of the gate, the station's facet and counts, and its facet count. -/
structure FacetKept (i : Nat) (s t : State) : Prop where
  events : ScanEventsKept s t
  gate : t.gate i = s.gate i
  station : (s.stn i).SameFacet (t.stn i)
  seq : (t.bm i).seq = (s.bm i).seq

namespace FacetKept

variable {i : Nat} {s t u : State}

theorem of_parts (hscan : t.scan = s.scan) (hbeam : t.beam = s.beam)
    (hstate : t.rd (Reg.SCAN_STN_STATE i) = s.rd (Reg.SCAN_STN_STATE i))
    (hevents : t.rd Reg.SCAN_EVENTS = s.rd Reg.SCAN_EVENTS) : FacetKept i s t := by
  refine ⟨.of_rd hevents, State.fld_congr hstate 1 0, ?_, ?_⟩
  · rw [State.stn, State.stn, hscan]
    exact .refl _
  · rw [State.bm, State.bm, hbeam]

theorem refl (s : State) : FacetKept i s s := of_parts rfl rfl rfl rfl

theorem trans (h : FacetKept i s t) (k : FacetKept i t u) : FacetKept i s u :=
  ⟨h.events.trans k.events, k.gate.trans h.gate, h.station.trans k.station, k.seq.trans h.seq⟩

/-- An operation outside the scan engine and the beams keeps all of it. -/
theorem of_frame (h : Frame (fun b => b ≠ .scan ∧ b ≠ .beam) (fun a => a / 0x10000 ≠ 0xA) s t) : FacetKept i s t :=
  of_parts (h.parts .scan (by simp)) (h.parts .beam (by simp)) (h.regs _ (by simp only [Reg.SCAN_STN_STATE]; omega))
    (h.regs _ (by decide))

theorem modStn (s : State) {f : ScanStn → ScanStn}
    (hf : ∀ x : ScanStn, x.SameFacet (f x) := by exact fun _ => ⟨rfl, rfl, rfl, rfl, rfl⟩) :
    FacetKept i s (s.modStn i f) :=
  ⟨.of_rd rfl, rfl, s.stn_modStn_rel i hf .refl, rfl⟩

theorem modBm (s : State) {f : BeamStn → BeamStn} (hf : ∀ x, (f x).seq = x.seq := by exact fun _ => rfl) :
    FacetKept i s (s.modBm i f) :=
  ⟨.of_rd rfl, rfl, .refl _, s.bm_modBm_rel (P := fun x y => y.seq = x.seq) i hf fun _ => rfl⟩

theorem wrN (s : State) {a : Nat} (n : Nat) (hstate : a ≠ Reg.SCAN_STN_STATE i) (hevents : a ≠ Reg.SCAN_EVENTS) :
    FacetKept i s (s.wrN a n) :=
  of_parts rfl rfl (s.rd_wrN_other n hstate.symm) (s.rd_wrN_other n hevents.symm)

theorem setFld (s : State) {a : Nat} (hi lo v : Nat) (hstate : a ≠ Reg.SCAN_STN_STATE i)
    (hevents : a ≠ Reg.SCAN_EVENTS) : FacetKept i s (s.setFld a hi lo v) :=
  wrN s _ hstate hevents

/-- The fields of a station's state register above the gate's. -/
theorem setState (s : State) {hi lo : Nat} (v : Nat) (hlo : 1 < lo) (hle : lo ≤ hi) (hhi : hi < 32) :
    FacetKept i s (s.setFld (Reg.SCAN_STN_STATE i) hi lo v) := by
  have hne : Reg.SCAN_EVENTS ≠ Reg.SCAN_STN_STATE i := by
    simp only [Reg.SCAN_STN_STATE, Reg.SCAN_EVENTS]
    omega
  exact ⟨.of_rd (s.rd_setFld_other hi lo v hne), s.fld_setFld_other _ _ hi lo v 1 0 hle hhi (.inr (.inl hlo)), .refl _,
    rfl⟩

theorem raiseScan (s : State) {k : Nat} (hk : k < 32) : FacetKept i s (s.raiseBit Reg.SCAN_EVENTS k) := by
  have hne : Reg.SCAN_STN_STATE i ≠ Reg.SCAN_EVENTS := by
    simp only [Reg.SCAN_STN_STATE, Reg.SCAN_EVENTS]
    omega
  refine ⟨.raiseBit s _ hk, State.fld_congr (s.rd_raiseBit_other k hne) 1 0, ?_, ?_⟩
  · rw [State.stn, State.stn, State.raiseBit_scan]
    exact .refl _
  · rw [State.bm, State.bm, State.raiseBit_beam]

/-- An event flag raised and its event handed over. -/
theorem raiseEvent (s : State) {k : Nat} (code : Nat) (fields : List Nat) (hk : k < 32) :
    FacetKept i s ((s.raiseBit Reg.SCAN_EVENTS k).event code fields) :=
  (raiseScan s hk).trans (of_parts rfl rfl rfl rfl)

theorem ite {c : Prop} [Decidable c] (ht : FacetKept i s t) (hu : FacetKept i s u) :
    FacetKept i s (if c then t else u) := by
  split
  · exact ht
  · exact hu

theorem foldl {α : Type} {f : State → α → State} (hf : ∀ u x, FacetKept i u (f u x)) (l : List α) (s : State) :
    FacetKept i s (l.foldl f s) := by
  induction l generalizing s with
  | nil => exact refl s
  | cons x l ih => exact (hf s x).trans (ih (f s x))

end FacetKept

/-! ### The steps of a boundary (R259) -/

theorem State.applyStops_kept (s : State) (i time : Nat) : FacetKept i s (s.applyStops i time) :=
  .modStn s

theorem State.crossed_kept (s : State) (i : Nat) : FacetKept i s (s.crossed i) :=
  .of_frame (State.crossed_frame s i (.refl s) (by simp))

theorem State.mapBoundary_kept (s : State) (i time : Nat) : FacetKept i s (s.mapBoundary i time) := by
  have hstate : Reg.BEAM_STN_STATE i ≠ Reg.SCAN_STN_STATE i := by
    simp only [Reg.BEAM_STN_STATE, Reg.SCAN_STN_STATE]
    omega
  have hevents : Reg.BEAM_STN_STATE i ≠ Reg.SCAN_EVENTS := by
    simp only [Reg.BEAM_STN_STATE, Reg.SCAN_EVENTS]
    omega
  unfold State.mapBoundary
  split
  · exact .refl s
  · exact .ite ((FacetKept.setFld s 7 4 _ hstate hevents).trans (.modBm _))
      (.ite (.modBm s) (.refl s))

theorem State.drumStep_kept (s : State) (i time : Nat) : FacetKept i s (s.drumStep i time) := by
  have hresid (e : Nat) : Reg.SCAN_STN_RESID i e ≠ Reg.SCAN_STN_STATE i ∧
      Reg.SCAN_STN_RESID i e ≠ Reg.SCAN_EVENTS := by
    simp only [Reg.SCAN_STN_RESID, Reg.SCAN_STN_STATE, Reg.SCAN_EVENTS]
    omega
  have herr : Reg.SCAN_STN_REG_ERR i ≠ Reg.SCAN_STN_STATE i ∧ Reg.SCAN_STN_REG_ERR i ≠ Reg.SCAN_EVENTS := by
    simp only [Reg.SCAN_STN_REG_ERR, Reg.SCAN_STN_STATE, Reg.SCAN_EVENTS]
    omega
  unfold State.drumStep
  extract_lets t e
  split
  · extract_lets s1 lines d r err s2
    have h1 : FacetKept i s s1 := .modStn s
    have h2 : FacetKept i s s2 := ((h1.trans (.modStn s1)).trans (.wrN _ _ (hresid e).1 (hresid e).2)).trans
      (.wrN _ _ herr.1 herr.2)
    exact .ite h1 (.ite ((h2.trans (.modStn s2)).trans (.foldl (fun u b => .raiseEvent u _ _ (by decide)) _ _)) h2)
  · exact .modStn s
  · exact .refl s

/-- A storage error is reported outside the scan engine. -/
theorem State.entryEcc_kept (s : State) (i ecc : Nat) : FacetKept i s (s.entryEcc i ecc) :=
  .of_frame (State.entryEcc_frame s i ecc (.refl s) (by simp) (by simp) (by simp) (by simp) (by decide))

theorem State.showLine_kept (s : State) (i n : Nat) : FacetKept i s (s.showLine i n) := by
  refine (FacetKept.wrN s n ?_ ?_).trans (.wrN _ _ ?_ ?_)
  all_goals
    simp only [Reg.SCAN_STN_LINE_LO, Reg.SCAN_STN_LINE_HI, Reg.SCAN_STN_STATE, Reg.SCAN_EVENTS]
    omega

theorem State.setEntry_kept (s : State) (i time ecc : Nat) : FacetKept i s (s.setEntry i time ecc) := by
  unfold State.setEntry
  extract_lets x0 s1 s2 t e
  have h1 : FacetKept i s s1 := .ite (.setState s _ (by decide) (by decide) (by decide)) (.refl s)
  have h2 : FacetKept i s s2 := h1.trans (s1.drumStep_kept i time)
  clear_value e
  cases e with
  | none => exact h2.trans (.modStn s2)
  | some e =>
    exact (((h2.trans (.setState s2 e (by decide) (by decide) (by decide))).trans (State.entryEcc_kept _ i ecc)).trans
      (.modStn _)).trans (State.showLine_kept _ i t.next)

theorem State.bindSheet_kept (s : State) (i time : Nat) (g : Given) : FacetKept i s (s.bindSheet i time g) := by
  have herr : Reg.SCAN_STN_REG_ERR i ≠ Reg.SCAN_STN_STATE i ∧ Reg.SCAN_STN_REG_ERR i ≠ Reg.SCAN_EVENTS := by
    simp only [Reg.SCAN_STN_REG_ERR, Reg.SCAN_STN_STATE, Reg.SCAN_EVENTS]
    omega
  unfold State.bindSheet
  extract_lets k n n0 b s1
  have h1 : FacetKept i s s1 :=
    (FacetKept.modStn s).trans (.wrN _ 0 herr.1 herr.2)
  exact .ite (h1.trans (.raiseEvent s1 _ _ (by decide))) h1

theorem State.bindSheets_kept (s : State) (i time : Nat) : FacetKept i s (s.bindSheets i time) :=
  (FacetKept.foldl (fun u g => u.bindSheet_kept i time g) _ s).trans (.setState _ _ (by decide) (by decide) (by decide))

/-- A report to the ledger touches neither the scan engine nor the beams. -/
theorem State.stampedReport_kept (s : State) (kind : ReportKind) (sheet stn band line time i : Nat) :
    FacetKept i s (s.stampedReport kind sheet stn band line time) :=
  .of_parts rfl rfl rfl rfl

theorem State.facetReports_kept (s : State) (i time : Nat) (fs : List LineFate) :
    FacetKept i s (s.facetReports i time fs) := by
  have hcount : Reg.SCAN_STN_COUNT_UNDER i ≠ Reg.SCAN_STN_STATE i ∧
      Reg.SCAN_STN_COUNT_UNDER i ≠ Reg.SCAN_EVENTS := by
    simp only [Reg.SCAN_STN_COUNT_UNDER, Reg.SCAN_STN_STATE, Reg.SCAN_EVENTS]
    omega
  unfold State.facetReports
  extract_lets under live begun last
  have hunder : FacetKept i s under := by
    refine .foldl (fun u b => ?_) _ s
    split
    · exact ((u.stampedReport_kept _ _ _ _ _ _ i).trans (.setFld _ _ _ _ hcount.1 hcount.2)).trans
        (.raiseEvent _ _ _ (by decide))
    · exact .refl u
  have hbegun : FacetKept i under begun := by
    refine .foldl (fun u f => ?_) _ under
    split
    · exact .ite (u.stampedReport_kept _ _ _ _ _ _ i) (.refl u)
    · exact .refl u
  exact (hunder.trans hbegun).trans (.modStn begun)

theorem State.sendFacet_kept (s : State) (i : Nat) (fs : List LineFate) : FacetKept i s (s.sendFacet i fs) :=
  .ite (.refl s) ((FacetKept.modBm s).trans (.of_parts rfl rfl rfl rfl))

/-! ### A boundary (R259) -/

/-- The boundary noted at its station, and the facet counted (R286). -/
def State.noteBoundary (s : State) (i time : Nat) (real : Bool) : State :=
  (s.modStn i fun t => { t with boundary := some time, real := real }).modBm i fun b => { b with
    seq := (b.seq + 1) % 2 ^ 32 }

/-- The state at a boundary once the facet in progress has ended and its changes are made. -/
def State.changedAt (s : State) (i time : Nat) : State :=
  (s.endFacet i (((s.facetEndAt i).map (min time)).getD time)).boundaryChanges i time

/-- A station that has no volume after the changes has no boundary. -/
theorem State.facetBoundary_without_plan {s : State} {i time : Nat} (real : Bool) (ecc : Nat)
    (h : ((s.changedAt i time).stn i).plan = none) : s.facetBoundary i time real ecc = s.changedAt i time :=
  if_pos (by rw [← State.changedAt, h]; rfl)

/-- What follows the noted boundary. -/
theorem State.facetBoundary_kept {s : State} {i time : Nat} (real : Bool) (ecc : Nat)
    (h : ((s.changedAt i time).stn i).plan.isSome = true) :
    FacetKept i ((s.changedAt i time).noteBoundary i time real) (s.facetBoundary i time real ecc) := by
  unfold State.facetBoundary
  extract_lets s0 s1 s2 s3 s4 f fs s5
  have hsome : (s1.stn i).plan.isSome = true := h
  rw [if_neg (by rw [← Option.not_isSome, hsome]; decide)]
  have hset : FacetKept i (s1.noteBoundary i time real) s4 :=
    (((State.crossed_kept _ i).trans (s2.mapBoundary_kept i time)).trans (s3.setEntry_kept i time ecc)).trans
      (State.bindSheets_kept _ i time)
  have hall : FacetKept i (s1.noteBoundary i time real) s5 := hset.trans (s4.facetReports_kept i time fs)
  exact .ite (hall.trans (s5.sendFacet_kept i fs)) hall

end Sys2Proof.Machine
end

section
/-!
SUPPORT. The edges of a beam detect and the facets that miss one (R235 to R241): the boundary at which nothing changes, and
one rule per branch.
-/

namespace Sys2Proof.Machine

/-! ### The changes at a boundary clear no event flag -/

theorem State.endFacet_keeps_events (s : State) (i time : Nat) : ScanEventsKept s (s.endFacet i time) :=
  (State.endFacet_frame (F := fun _ => True) s i time (.refl s) trivial trivial trivial trivial trivial (by decide)
    (fun k => by simp only [Reg.BEAM_STN_STATE, Reg.SCAN_EVENTS]; omega)
    (fun k => by simp only [Reg.HOST_RING_DIDX, Reg.SCAN_EVENTS]; omega)
    (fun k => by simp only [Reg.SCAN_STN_STATE, Reg.SCAN_EVENTS]; omega)).scanEventsKept

theorem State.setIdxValid_keeps_events (s : State) (i : Nat) (b : Bool) : ScanEventsKept s (s.setIdxValid i b) :=
  (State.setIdxValid_frame (F := fun _ => True) s i b (.refl s) (by decide)
    (fun k => by simp only [Reg.SCAN_STN_STATE, Reg.SCAN_EVENTS]; omega)).scanEventsKept

theorem State.setGate_keeps_events (s : State) (i g : Nat) : ScanEventsKept s (s.setGate i g) :=
  (State.setGate_frame (F := fun _ => True) s i g (.refl s) trivial (by decide)
    (fun k => by simp only [Reg.SCAN_STN_STATE, Reg.SCAN_EVENTS]; omega)).scanEventsKept

theorem State.setCfg_keeps_events (s : State) (i code : Nat) : ScanEventsKept s (s.setCfg i code) :=
  (State.setCfg_frame (F := fun _ => True) s i code (.refl s) (by decide)
    (fun k => by simp only [Reg.SCAN_STN_STATE, Reg.SCAN_EVENTS]; omega)).scanEventsKept

theorem State.stopPixel_keeps_events (s : State) (i : Nat) : ScanEventsKept s (s.stopPixel i) :=
  (State.stopPixel_frame (F := fun _ => True) s i (.refl s)
    (fun k => by simp only [Reg.CLK_PLL_STATE, Reg.SCAN_EVENTS]; omega) (by decide)
    (fun k => by simp only [Reg.SCAN_STN_NDIV, Reg.SCAN_EVENTS]; omega)
    (fun k => by simp only [Reg.SCAN_STN_PIXNOW, Reg.SCAN_EVENTS]; omega)).scanEventsKept

theorem State.chooseMap_keeps_events (s : State) (i : Nat) (decided : Option Nat) (facets : Nat) (now : Bool) :
    ScanEventsKept s (s.chooseMap i decided facets now) :=
  (State.chooseMap_frame (F := fun _ => True) s i decided facets now (.refl s) trivial trivial trivial trivial trivial
    (by decide) (fun k => by simp only [Reg.BEAM_STN_COUNT_FAILOVER, Reg.SCAN_EVENTS]; omega)
    (fun k => by simp only [Reg.BEAM_STN_STATE, Reg.SCAN_EVENTS]; omega) (by decide)).scanEventsKept

theorem State.applyBindings_keeps_events (s : State) (b : BindNext) : ScanEventsKept s (s.applyBindings b) :=
  (State.applyBindings_frame (F := fun _ => True) s b (.refl s) trivial trivial trivial
    (fun k => by simp only [Reg.BURL_DBIND_ACT, Reg.SCAN_EVENTS]; omega) (by decide) (by decide)).scanEventsKept

/-- A volume that passes the checks writes no event flag of the scan engine; one that fails raises one. -/
theorem State.volumeCheck_keeps_events (s : State) (i : Nat) : ScanEventsKept s (s.volumeCheck i) := by
  have hndiv : Reg.SCAN_EVENTS ≠ Reg.SCAN_STN_NDIV i := by
    simp only [Reg.SCAN_STN_NDIV, Reg.SCAN_EVENTS]
    omega
  have hpix : Reg.SCAN_EVENTS ≠ Reg.SCAN_STN_PIXNOW i := by
    simp only [Reg.SCAN_STN_PIXNOW, Reg.SCAN_EVENTS]
    omega
  unfold State.volumeCheck
  extract_lets c pd num den sel ndiv
  split
  · exact ((s.setCfg_keeps_events i c).trans (State.stopPixel_keeps_events _ i)).trans
      ((ScanEventsKept.raiseBit _ _ (by decide)).trans (.of_rd rfl))
  · exact (((s.setCfg_keeps_events i 0).trans (.of_rd (State.rd_wrN_other _ _ hndiv))).trans
      (.of_rd (State.rd_wrN_other _ _ hpix))).trans (.of_rd ((State.startPll_keeps _ _ _ _).regs _ (by decide)))

theorem State.takePlan_keeps_events (s : State) (i : Nat) (p : PlanNext) : ScanEventsKept s (s.takePlan i p) := by
  unfold State.takePlan
  extract_lets s0 vol was a s1 dropped g s2 s3
  have h1 : ScanEventsKept s s1 := (s.endFacet_keeps_events i _).trans (.of_rd rfl)
  clear_value vol
  cases vol with
  | none =>
    have hdropped : ScanEventsKept s dropped := (h1.trans (.of_rd rfl)).trans
      ((State.setGate_keeps_events (s1.modStn i _) i 0).trans (State.setCfg_keeps_events _ i 0))
    exact .ite (hdropped.trans ((State.stopPixel_keeps_events _ i).trans (State.chooseMap_keeps_events _ i none 0 true)))
      hdropped
  | some v =>
    have h2 : ScanEventsKept s s2 :=
      .ite (h1.trans (s1.setIdxValid_keeps_events i false)) (h1.trans (s1.setGate_keeps_events i 1))
    have h3 : ScanEventsKept s s3 := .ite (h2.trans (.of_rd rfl)) h2
    exact (ScanEventsKept.ite h3 (h3.trans (s3.volumeCheck_keeps_events i))).trans
      (State.chooseMap_keeps_events _ i none 0 true)

theorem State.boundaryChanges_keeps_events (s : State) (i time : Nat) : ScanEventsKept s (s.boundaryChanges i time) := by
  unfold State.boundaryChanges
  extract_lets s1 s2
  have h1 : ScanEventsKept s s1 := by
    unfold s1
    split
    · exact s.takePlan_keeps_events i _
    · exact .of_rd rfl
  have h2 : ScanEventsKept s s2 := h1.trans (s1.applyStops_kept i time).events
  split
  · exact .ite (h2.trans (s2.applyBindings_keeps_events _)) h2
  · exact h2

theorem State.facetBoundary_keeps_events (s : State) (i time : Nat) (real : Bool) (ecc : Nat) :
    ScanEventsKept s (s.facetBoundary i time real ecc) := by
  have hchanged : ScanEventsKept s (s.changedAt i time) :=
    (s.endFacet_keeps_events i _).trans (State.boundaryChanges_keeps_events _ i time)
  cases hplan : ((s.changedAt i time).stn i).plan with
  | none => rwa [State.facetBoundary_without_plan real ecc hplan]
  | some p =>
    exact (hchanged.trans (.of_rd rfl)).trans (State.facetBoundary_kept real ecc (by rw [hplan]; rfl)).events

/-! ### A boundary at which nothing changes -/

theorem State.endFacet_without_facet {s : State} {i : Nat} (time : Nat) (h : (s.stn i).facet = none) :
    s.endFacet i time = s := by
  simp only [State.endFacet, h]

theorem State.boundaryChanges_stops {s : State} {i time : Nat} (hdue : s.duePlan i time = none)
    (hbind : s.burl.bindNext = none) : s.boundaryChanges i time = s.applyStops i time := by
  have hbind' : (s.applyStops i time).burl.bindNext = none := hbind
  simp only [State.boundaryChanges, hdue, hbind']

/-- With no facet in progress, no plan due and no binding pending, only sheet stops come before the boundary. -/
theorem State.changedAt_stops {s : State} {i time : Nat} (hfacet : (s.stn i).facet = none)
    (hdue : s.duePlan i time = none) (hbind : s.burl.bindNext = none) : s.changedAt i time = s.applyStops i time := by
  rw [State.changedAt, State.endFacet_without_facet _ hfacet, State.boundaryChanges_stops hdue hbind]

/-- A boundary at which nothing changes notes its time at its station, and leaves the gate and its counts. -/
theorem State.facetBoundary_shows {s : State} {i time : Nat} (real : Bool) (ecc : Nat) (hi : i < s.scan.length)
    (hplan : (s.stn i).plan.isSome = true) (hfacet : (s.stn i).facet = none) (hdue : s.duePlan i time = none)
    (hbind : s.burl.bindNext = none) : (s.facetBoundary i time real ecc).gate i = s.gate i ∧
      ((s.facetBoundary i time real ecc).stn i).boundary = some time ∧
      ((s.facetBoundary i time real ecc).stn i).real = real ∧
      ((s.facetBoundary i time real ecc).stn i).good = (s.stn i).good ∧
      ((s.facetBoundary i time real ecc).stn i).missed = (s.stn i).missed ∧
      (i < s.beam.stns.length → ((s.facetBoundary i time real ecc).bm i).seq = ((s.bm i).seq + 1) % 2 ^ 32) := by
  have hstops := s.applyStops_kept i time
  have hchanged := State.changedAt_stops hfacet hdue hbind
  have hlen : i < (s.applyStops i time).scan.length := by
    rw [State.applyStops, State.modStn, List.length_modify]
    exact hi
  have hkept := State.facetBoundary_kept (s := s) (i := i) (time := time) real ecc
    (by rw [hchanged, hstops.station.plan]; exact hplan)
  rw [hchanged] at hkept
  have hnoted : ((s.applyStops i time).noteBoundary i time real).stn i =
      { (s.applyStops i time).stn i with boundary := some time, real := real } := State.stn_modStn_same _ hlen
  refine ⟨hkept.gate.trans hstops.gate, ?_, ?_, ?_, ?_, fun hb => ?_⟩
  · rw [hkept.station.boundary, hnoted]
  · rw [hkept.station.real, hnoted]
  · rw [hkept.station.good, hnoted, hstops.station.good]
  · rw [hkept.station.missed, hnoted, hstops.station.missed]
  · exact hkept.seq.trans (congrArg BeamStn.seq (State.bm_modBm_same (s := (s.applyStops i time).modStn i _) _ hb))

/-! ### Rising edges (R236, R237) -/

theorem State.windowClosed_of_gate {s : State} {i : Nat} (time : Nat) (h : s.gate i ≠ 2) :
    s.windowClosed i time = false := by
  rw [State.windowClosed, decide_eq_false h, Bool.false_and]

theorem State.closeWindows_open {s : State} {i time : Nat} (n : Nat) (h : s.windowClosed i time = false) :
    s.closeWindows i time n = s := by
  cases n with
  | zero => rfl
  | succ n => exact if_neg (by rw [h]; decide)

theorem execBdEdge_rising {i : Fin 8} {s : State} (sub : Fin 2500) (fine : Fin 128) (ecc : Fin 3)
    (hon : s.domainOn i = true) (hopen : s.windowClosed i (s.edgeTime sub fine) = false) :
    execBdEdge i true sub fine ecc s = .next (s.riseEdge i (s.edgeTime sub fine) ecc) := by
  simp only [execBdEdge, hon, State.closeWindows_open 16 hopen, Bool.not_true, Bool.false_eq_true, if_false, if_true]

theorem execBdEdge_falling {i : Fin 8} {s : State} (sub : Fin 2500) (fine : Fin 128) (ecc : Fin 3)
    (hon : s.domainOn i = true) : execBdEdge i false sub fine ecc s = .next (s.fallEdge i (s.edgeTime sub fine)) := by
  simp only [execBdEdge, hon, Bool.not_true, Bool.false_eq_true, if_false]

/-- The time of the last rising edge, as the period of the next one needs it (R263). -/
def State.noteRise (s : State) (i time : Nat) : State := s.modStn i fun t => { t with lastRise := some time }

theorem State.noteRise_kept (s : State) (i time : Nat) : FacetKept i s (s.noteRise i time) := .modStn s

theorem State.pastOpen_noteRise (s : State) (i time u : Nat) : (s.noteRise i time).pastOpen i u = s.pastOpen i u := by
  have hperiod : (s.noteRise i time).stnPeriod i = s.stnPeriod i := by
    rw [State.stnPeriod, State.stnVolume, (s.noteRise_kept i time).station.plan]
    rfl
  rw [State.pastOpen, hperiod]
  rfl

/-- An edge before the window of a LOCKED station opens is stray. -/
theorem State.riseEdge_stray {s : State} {i time b : Nat} (ecc : Nat) (hdue : s.duePlan i time = none)
    (hplan : (s.stn i).plan.isSome = true) (hgate : s.gate i = 2) (hb : (s.stn i).boundary = some b)
    (hearly : s.pastOpen i (time - b) = false) : s.riseEdge i time ecc = (s.noteRise i time).strayEdge i := by
  have hkept := s.noteRise_kept i time
  have hplan' : ((s.noteRise i time).stn i).plan.isNone = false := by
    rw [hkept.station.plan, ← Option.not_isSome, hplan]
    rfl
  have hgate' : (s.noteRise i time).gate i = 2 := hgate
  have hb' : ((s.noteRise i time).stn i).boundary = some b := hkept.station.boundary.trans hb
  have hearly' : (s.noteRise i time).pastOpen i (time - b) = false := (s.pastOpen_noteRise i time _).trans hearly
  unfold State.riseEdge
  simp only [hdue]
  rw [← State.noteRise]
  simp only [hplan', hgate', hb', hearly', Option.map_some, Option.getD_some, Bool.false_and, Bool.false_eq_true, if_false,
    if_true]

/-- A stray edge counts and raises its flag; beside them only a vector can change. -/
theorem State.strayEdge_shows (s : State) (i : Nat) :
    (s.strayEdge i).rdN (Reg.SCAN_STN_COUNT_STRAY i) = (s.rdN (Reg.SCAN_STN_COUNT_STRAY i) + 1) % 2 ^ 32 ∧
    (s.strayEdge i).flag Reg.SCAN_EVENTS 8 = true ∧ (s.strayEdge i).stn i = s.stn i ∧
    (s.strayEdge i).gate i = s.gate i ∧ (s.strayEdge i).out = s.out := by
  have hevents : Reg.SCAN_STN_COUNT_STRAY i ≠ Reg.SCAN_EVENTS ∧ Reg.SCAN_STN_STATE i ≠ Reg.SCAN_EVENTS := by
    simp only [Reg.SCAN_STN_COUNT_STRAY, Reg.SCAN_STN_STATE, Reg.SCAN_EVENTS]
    omega
  have hstate : Reg.SCAN_STN_STATE i ≠ Reg.SCAN_STN_COUNT_STRAY i := by
    simp only [Reg.SCAN_STN_COUNT_STRAY, Reg.SCAN_STN_STATE]
    omega
  refine ⟨?_, State.flag_raiseBit_same _ _ _ (by decide), ?_, ?_, ?_⟩
  · rw [State.strayEdge, State.rdN_congr (State.rd_raiseBit_other _ _ hevents.1), State.rdN_bump]
  · rw [State.strayEdge, State.stn, State.raiseBit_scan]
    rfl
  · exact State.fld_congr ((State.rd_raiseBit_other _ 8 hevents.2).trans (s.rd_bump_other hstate)) 1 0
  · rw [State.strayEdge, State.raiseBit_out]
    rfl

/-! ### The gate (R236, R240) -/

theorem State.rd_modStn (s : State) (i : Nat) (f : ScanStn → ScanStn) (a : Nat) : (s.modStn i f).rd a = s.rd a := rfl

theorem State.gate_modStn (s : State) (i j : Nat) (f : ScanStn → ScanStn) : (s.modStn i f).gate j = s.gate j := rfl

/-- The gate's state as its two registers show it. -/
def State.showGate (s : State) (i g : Nat) : State :=
  (s.setFld (Reg.SCAN_STN_STATE i) 1 0 g).setFlag Reg.SCAN_STATUS i (decide (g = 2))

/-- A gate that is not LOCKED has no index. -/
theorem State.setGate_unlocked (s : State) (i : Nat) {g : Nat} (hg : g ≠ 2) : s.setGate i g =
    ((s.showGate i g).setIdxValid i false).modStn i fun t => { t with offsets := [], periods := [] } :=
  if_neg hg

theorem scanState_ne_status (i : Nat) : Reg.SCAN_STN_STATE i ≠ Reg.SCAN_STATUS := by
  simp only [Reg.SCAN_STN_STATE, Reg.SCAN_STATUS]
  omega

theorem State.gate_setGate_unlocked (s : State) (i : Nat) {g : Nat} (hg : g ≠ 2) (hlt : g < 4) :
    (s.setGate i g).gate i = g := by
  have hne := scanState_ne_status i
  rw [s.setGate_unlocked i hg, State.gate, State.fld_congr (State.rd_modStn _ _ _ _), State.setIdxValid,
    State.fld_congr (State.rd_setFlag_other _ _ _ hne),
    State.fld_setFlag_other _ _ _ _ _ _ _ (by decide) (.inr (.inl (by decide))), State.showGate,
    State.fld_congr (State.rd_setFlag_other _ _ _ hne), State.fld_setFld_same _ _ _ _ _ (by decide) (by decide)]
  exact Nat.mod_eq_of_lt hlt

theorem State.idxValid_setGate_unlocked (s : State) (i : Nat) {g : Nat} (hg : g ≠ 2) :
    (s.setGate i g).idxValid i = false := by
  rw [s.setGate_unlocked i hg, State.idxValid, State.flag_congr (State.rd_modStn _ _ _ _), State.setIdxValid,
    State.flag_congr (State.rd_setFlag_other _ _ _ (scanState_ne_status i)), State.flag_setFlag_same _ _ _ _ (by decide)]

theorem State.length_modStn (s : State) (i : Nat) (f : ScanStn → ScanStn) : (s.modStn i f).scan.length = s.scan.length :=
  List.length_modify ..

theorem State.scan_showGate (s : State) (i g : Nat) : ((s.showGate i g).setIdxValid i false).scan = s.scan := by
  simp only [State.setIdxValid, State.showGate, State.setFlag_scan, State.setFld_scan]

theorem State.stn_setGate_unlocked {s : State} {i g : Nat} (hg : g ≠ 2) (hi : i < s.scan.length) :
    (s.setGate i g).stn i = { s.stn i with offsets := [], periods := [] } := by
  have hscan := s.scan_showGate i g
  rw [s.setGate_unlocked i hg, State.stn_modStn_same _ (by rw [hscan]; exact hi), State.stn, hscan, State.stn]

theorem State.length_setGate_unlocked (s : State) (i : Nat) {g : Nat} (hg : g ≠ 2) :
    (s.setGate i g).scan.length = s.scan.length := by
  rw [s.setGate_unlocked i hg, State.length_modStn, State.scan_showGate]

/-- A change of the gate reaches no other part of the state than the scan engine. -/
theorem State.setGate_keeps (s : State) (i g : Nat) : Frame (· = .scan) (fun a => a / 0x10000 = 0xA) s (s.setGate i g) :=
  State.setGate_frame s i g (.refl s) rfl (by decide) (fun k => by simp only [Reg.SCAN_STN_STATE]; omega)

/-- A station in ACQUIRE that has seen no edge. -/
def State.startAcquire (s : State) (i time : Nat) : State :=
  ((s.noteRise i time).setGate i 1).modStn i fun t => { t with good := 0, boundary := none }

/-- The first rising edge in NO_SIGNAL is a boundary of ACQUIRE. -/
theorem State.riseEdge_acquires {s : State} {i time : Nat} (ecc : Nat) (hdue : s.duePlan i time = none)
    (hplan : (s.stn i).plan.isSome = true) (hgate : s.gate i = 0) :
    s.riseEdge i time ecc = (s.startAcquire i time).realBoundary i time ecc := by
  have hplan' : ((s.noteRise i time).stn i).plan.isNone = false := by
    rw [(s.noteRise_kept i time).station.plan, ← Option.not_isSome, hplan]
    rfl
  have hgate' : (s.noteRise i time).gate i = 0 := hgate
  unfold State.riseEdge
  simp only [hdue]
  rw [← State.noteRise]
  simp only [hplan', hgate', Bool.false_eq_true, if_false]
  rfl


theorem State.duePlan_congr {s t : State} (h : t.alm = s.alm) (i time : Nat) : t.duePlan i time = s.duePlan i time := by
  rw [State.duePlan, h, State.duePlan]

theorem State.startAcquire_keeps (s : State) (i time : Nat) :
    Frame (· = .scan) (fun a => a / 0x10000 = 0xA) s (s.startAcquire i time) :=
  State.modStn_frame _ _ _ (State.setGate_frame _ i 1 (State.modStn_frame s _ _ (.refl s) rfl) rfl (by decide)
    (fun k => by simp only [Reg.SCAN_STN_STATE]; omega)) rfl

theorem State.stn_startAcquire {s : State} {i : Nat} (time : Nat) (hi : i < s.scan.length) :
    (s.startAcquire i time).stn i =
    { s.stn i with lastRise := some time, offsets := [], periods := [], good := 0, boundary := none } := by
  have hlen : i < (s.noteRise i time).scan.length := by rwa [State.noteRise, State.length_modStn]
  rw [State.startAcquire, State.stn_modStn_same _ (by rwa [State.length_setGate_unlocked _ _ (by decide)]),
    State.stn_setGate_unlocked (by decide) hlen, State.noteRise, State.stn_modStn_same _ hi]

/-- A rising edge at a station: no facet is missed, and its width is to be measured. -/
def State.takeRise (s : State) (i time : Nat) : State := s.modStn i fun t => { t with missed := 0, rise := some time }

/-- The first boundary has no period before it. -/
theorem State.realBoundary_first {s : State} {i : Nat} (time ecc : Nat) (h : (s.stn i).boundary = none) :
    s.realBoundary i time ecc = (s.takeRise i time).facetBoundary i time true ecc := by
  have hperiod : s.notePeriod i time = s := by simp only [State.notePeriod, h]
  rw [State.realBoundary, hperiod, State.takeRise]

theorem State.startAcquire_shows {s : State} {i time : Nat} (ecc : Nat) (hi : i < s.scan.length)
    (hb : i < s.beam.stns.length) (hplan : (s.stn i).plan.isSome = true) (hfacet : (s.stn i).facet = none)
    (hdue : s.duePlan i time = none) (hbind : s.burl.bindNext = none) :
    ((s.startAcquire i time).realBoundary i time ecc).gate i = 1 ∧
    (((s.startAcquire i time).realBoundary i time ecc).stn i).boundary = some time ∧
    (((s.startAcquire i time).realBoundary i time ecc).stn i).real = true ∧
    (((s.startAcquire i time).realBoundary i time ecc).stn i).good = 0 ∧
    (((s.startAcquire i time).realBoundary i time ecc).bm i).seq = ((s.bm i).seq + 1) % 2 ^ 32 := by
  have hstn := State.stn_startAcquire time hi
  have hkeeps : Frame (· = .scan) (fun a => a / 0x10000 = 0xA) s ((s.startAcquire i time).takeRise i time) :=
    State.modStn_frame _ _ _ (s.startAcquire_keeps i time) rfl
  have halm : ((s.startAcquire i time).takeRise i time).alm = s.alm := hkeeps.parts .alm (by decide)
  have hburl : ((s.startAcquire i time).takeRise i time).burl = s.burl := hkeeps.parts .burl (by decide)
  have hbeam : ((s.startAcquire i time).takeRise i time).beam = s.beam := hkeeps.parts .beam (by decide)
  have hlen : i < (s.startAcquire i time).scan.length := by
    rwa [State.startAcquire, State.length_modStn, State.length_setGate_unlocked _ _ (by decide), State.noteRise,
      State.length_modStn]
  have htaken : ((s.startAcquire i time).takeRise i time).stn i =
      { (s.startAcquire i time).stn i with missed := 0, rise := some time } := State.stn_modStn_same _ hlen
  rw [State.realBoundary_first time ecc (by rw [hstn])]
  obtain ⟨hgate, hboundary, hreal, hgood, -, hseq⟩ := State.facetBoundary_shows
    (s := (s.startAcquire i time).takeRise i time) (i := i) (time := time) true ecc (by rwa [State.takeRise, State.length_modStn]) (by rw [htaken, hstn]; exact hplan)
    (by rw [htaken, hstn]; exact hfacet) ((State.duePlan_congr halm i time).trans hdue) (by rw [hburl]; exact hbind)
  refine ⟨hgate.trans ?_, hboundary, hreal, ?_, ?_⟩
  · rw [State.takeRise, State.gate_modStn, State.startAcquire, State.gate_modStn,
      State.gate_setGate_unlocked _ _ (by decide) (by decide)]
  · rw [hgood, htaken, hstn]
  · rw [hseq (by rw [hbeam]; exact hb), State.bm, hbeam, State.bm]

/-! ### Falling edges (R239) -/

/-- A falling edge in LOCKED takes the gate's width; with fewer than eight before it there is nothing to compare it with. -/
theorem State.fallEdge_width {s : State} {i time r : Nat} (hplan : (s.stn i).plan.isNone = false)
    (hrise : (s.stn i).rise = some r) (hgate : s.gate i = 2) (hfew : (s.stn i).widths.length < 8) :
    s.fallEdge i time = s.modStn i fun t => { t with rise := none, widths := ((time - r) :: t.widths).take 8 } := by
  simp only [State.fallEdge, hplan, hrise, hgate, hfew, Bool.false_eq_true, if_false, if_true, ne_eq, not_true_eq_false]

/-! ### Missed facets (R237) -/

theorem State.gate_of_windowClosed {s : State} {i time : Nat} (h : s.windowClosed i time = true) : s.gate i = 2 := by
  by_contra hne
  rw [State.windowClosed_of_gate time hne] at h
  exact Bool.false_ne_true h

/-- A missed facet counted and flagged. -/
def State.countMiss (s : State) (i : Nat) : State :=
  ((s.bump (Reg.SCAN_STN_COUNT_MISS i)).raiseBit Reg.SCAN_EVENTS 2).modStn i fun t => { t with
    missed := t.missed + 1, rise := none }

/-- The boundary synthesised for a missed facet. -/
def State.synthBoundary (s : State) (i b ecc : Nat) : State :=
  (s.countMiss i).facetBoundary i (b + s.stnPeriod i * 8 / 625) false ecc

theorem State.missFacet_eq {s : State} {i b : Nat} (ecc : Nat) (hb : (s.stn i).boundary = some b) : s.missFacet i ecc =
    if (s.synthBoundary i b ecc).gate i = 2 ∧
        (s.synthBoundary i b ecc).fld (Reg.SCAN_STN_CFG i) 7 4 ≤ ((s.synthBoundary i b ecc).stn i).missed then
      (s.synthBoundary i b ecc).loseGate i
    else s.synthBoundary i b ecc := by
  simp only [State.missFacet, hb]
  rfl

theorem State.countMiss_keeps (s : State) (i : Nat) : Frame (fun b => b = .host ∨ b = .scan)
    (fun a => a = Reg.SCAN_STN_COUNT_MISS i ∨ a = Reg.SCAN_EVENTS) s (s.countMiss i) :=
  State.modStn_frame _ _ _
    (State.raiseBit_frame _ _ _ (State.bump_frame _ _ _ _ (.refl s) (.inl rfl)) (.inl rfl) (.inr rfl)) (.inr rfl)

theorem State.countMiss_shows (s : State) (i : Nat) :
    (s.countMiss i).rdN (Reg.SCAN_STN_COUNT_MISS i) = (s.rdN (Reg.SCAN_STN_COUNT_MISS i) + 1) % 2 ^ 32 ∧
    (s.countMiss i).flag Reg.SCAN_EVENTS 2 = true := by
  have hne : Reg.SCAN_STN_COUNT_MISS i ≠ Reg.SCAN_EVENTS := by
    simp only [Reg.SCAN_STN_COUNT_MISS, Reg.SCAN_EVENTS]
    omega
  refine ⟨?_, (State.flag_congr (State.rd_modStn _ _ _ _) 2).trans (State.flag_raiseBit_same _ _ _ (by decide))⟩
  rw [State.countMiss, State.rdN_congr (State.rd_modStn _ _ _ _), State.rdN_congr (State.rd_raiseBit_other _ _ hne),
    State.rdN_bump]

theorem State.stn_countMiss {s : State} {i : Nat} (hi : i < s.scan.length) :
    (s.countMiss i).stn i = { s.stn i with missed := (s.stn i).missed + 1, rise := none } := by
  have hscan : ((s.bump (Reg.SCAN_STN_COUNT_MISS i)).raiseBit Reg.SCAN_EVENTS 2).scan = s.scan := by
    rw [State.raiseBit_scan, State.bump, State.setFld_scan]
  rw [State.countMiss, State.stn_modStn_same _ (by rwa [hscan]), State.stn, hscan, State.stn]

/-- A boundary writes neither a station's configuration nor its count of missed facets, and takes no time. -/
theorem State.facetBoundary_keeps (s : State) (i time : Nat) (real : Bool) (ecc : Nat) : Frame (· ≠ .tick)
    (fun a => a ≠ Reg.SCAN_STN_CFG i ∧ a ≠ Reg.SCAN_STN_COUNT_MISS i) s (s.facetBoundary i time real ecc) := by
  refine State.facetBoundary_frame s i time real ecc (.refl s) (by decide) (by decide) (by decide) (by decide) (by decide)
    (by decide) (by decide) (by decide) (by decide) (by decide) ?_ ?_ ?_ ?_ ?_ ?_ ?_ ?_ ?_ ?_ ?_ ?_ ?_ ?_ ?_ ?_ ?_ ?_ ?_ ?_
    ?_ ?_ ?_
  all_goals
    intros
    simp only [Reg.ALM_EVENTS, Reg.BEAM_EVENTS, Reg.BEAM_STATUS, Reg.BEAM_STN_COUNT_FAILOVER, Reg.BEAM_STN_STATE,
      Reg.BURL_DBIND_ACT, Reg.BURL_EVENTS, Reg.BURL_STATUS, Reg.CLK_EVENTS, Reg.CLK_PLL_STATE, Reg.CLK_STATUS,
      Reg.HOST_RING_DIDX, Reg.LEG_STATUS, Reg.SCAN_EVENTS, Reg.SCAN_STATUS, Reg.SCAN_STN_COUNT_UNDER, Reg.SCAN_STN_LINE_HI,
      Reg.SCAN_STN_LINE_LO, Reg.SCAN_STN_NDIV, Reg.SCAN_STN_PIXNOW, Reg.SCAN_STN_REG_ERR, Reg.SCAN_STN_RESID,
      Reg.SCAN_STN_STATE, Reg.SCAN_STN_CFG, Reg.SCAN_STN_COUNT_MISS]
    omega

/-- The flags and the count of a missed facet outlive its boundary. -/
theorem State.synthBoundary_shows (s : State) (i b ecc : Nat) :
    (s.synthBoundary i b ecc).rdN (Reg.SCAN_STN_COUNT_MISS i) = (s.rdN (Reg.SCAN_STN_COUNT_MISS i) + 1) % 2 ^ 32 ∧
    (s.synthBoundary i b ecc).flag Reg.SCAN_EVENTS 2 = true := by
  obtain ⟨hcount, hflag⟩ := s.countMiss_shows i
  have hkeeps := (s.countMiss i).facetBoundary_keeps i (b + s.stnPeriod i * 8 / 625) false ecc
  exact ⟨(State.rdN_congr (hkeeps.regs _ fun h => h.2 rfl)).trans hcount,
    State.facetBoundary_keeps_events _ _ _ _ _ 2 hflag⟩

theorem State.loseGate_keeps_events (s : State) (i : Nat) : ScanEventsKept s (s.loseGate i) := by
  intro j hj
  rw [State.loseGate, State.flag_congr (State.rd_modStn _ _ _ _), State.flag_congr (State.rd_event _ _ _ _ _)]
  exact State.flag_raiseBit_keep _ (by decide)
    ((State.flag_congr (State.rd_fault _ _ _ _ _) j).trans (s.setGate_keeps_events i 3 j hj))

theorem State.rd_loseGate_other (s : State) (i : Nat) {a : Nat} (h1 : a ≠ Reg.SCAN_STN_STATE i)
    (h2 : a ≠ Reg.SCAN_STATUS) (h3 : a ≠ Reg.SCAN_EVENTS) : (s.loseGate i).rd a = s.rd a := by
  rw [State.loseGate, State.rd_modStn, State.rd_event, State.rd_raiseBit_other _ _ h3, State.rd_fault,
    s.setGate_unlocked i (by decide), State.rd_modStn, State.setIdxValid, State.rd_setFlag_other _ _ _ h2,
    State.rd_setFlag_other _ _ _ h1, State.showGate, State.rd_setFlag_other _ _ _ h2, State.rd_setFld_other _ _ _ _ h1]

theorem State.missFacet_counts {s : State} {i b : Nat} (ecc : Nat) (hb : (s.stn i).boundary = some b) :
    (s.missFacet i ecc).rdN (Reg.SCAN_STN_COUNT_MISS i) = (s.rdN (Reg.SCAN_STN_COUNT_MISS i) + 1) % 2 ^ 32 ∧
    (s.missFacet i ecc).flag Reg.SCAN_EVENTS 2 = true := by
  obtain ⟨hcount, hflag⟩ := s.synthBoundary_shows i b ecc
  have hne : Reg.SCAN_STN_COUNT_MISS i ≠ Reg.SCAN_STN_STATE i ∧ Reg.SCAN_STN_COUNT_MISS i ≠ Reg.SCAN_STATUS ∧
      Reg.SCAN_STN_COUNT_MISS i ≠ Reg.SCAN_EVENTS := by
    simp only [Reg.SCAN_STN_COUNT_MISS, Reg.SCAN_STN_STATE, Reg.SCAN_STATUS, Reg.SCAN_EVENTS]
    omega
  obtain ⟨hstate, hstatus, hevents⟩ := hne
  rw [State.missFacet_eq ecc hb]
  split
  · exact ⟨(State.rdN_congr (State.rd_loseGate_other _ i hstate hstatus hevents)).trans hcount,
      State.loseGate_keeps_events _ i 2 hflag⟩
  · exact ⟨hcount, hflag⟩

theorem State.loseGate_shows {s : State} {i : Nat} (hi : i < s.scan.length) : (s.loseGate i).gate i = 3 ∧
    (s.loseGate i).idxValid i = false ∧ (s.loseGate i).flag Reg.SCAN_EVENTS 1 = true ∧
    ((s.loseGate i).stn i).widths = [] ∧ ((s.loseGate i).stn i).boundary = (s.stn i).boundary ∧
    ⟨0x1C0 + i, 0x10, 0, s.tick⟩ ∈ (s.loseGate i).flt.sent := by
  have hne : Reg.SCAN_STN_STATE i ≠ Reg.SCAN_EVENTS := by
    simp only [Reg.SCAN_STN_STATE, Reg.SCAN_EVENTS]
    omega
  have hstate : (s.loseGate i).rd (Reg.SCAN_STN_STATE i) = (s.setGate i 3).rd (Reg.SCAN_STN_STATE i) := by
    rw [State.loseGate, State.rd_modStn, State.rd_event, State.rd_raiseBit_other _ _ hne, State.rd_fault]
  have hstn : (s.loseGate i).stn i = { s.stn i with offsets := [], periods := [], widths := [] } := by
    have hscan (code : Nat) (fields : List Nat) : ((((s.setGate i 3).fault (0x1C0 + i) 0x10 0).raiseBit Reg.SCAN_EVENTS
        1).event code fields).scan = (s.setGate i 3).scan := by
      rw [State.event_scan, State.raiseBit_scan, State.fault_scan]
    rw [State.loseGate, State.stn_modStn_same _ (by rwa [hscan, State.length_setGate_unlocked _ _ (by decide)]), State.stn,
      hscan, ← State.stn, State.stn_setGate_unlocked (by decide) hi]
  refine ⟨?_, ?_, ?_, ?_, ?_, ?_⟩
  · exact (State.fld_congr hstate 1 0).trans (State.gate_setGate_unlocked s i (by decide) (by decide))
  · exact (State.flag_congr hstate 2).trans (State.idxValid_setGate_unlocked s i (by decide))
  · rw [State.loseGate, State.flag_congr (State.rd_modStn _ _ _ _), State.flag_congr (State.rd_event _ _ _ _ _),
      State.flag_raiseBit_same _ _ _ (by decide)]
  · rw [hstn]
  · rw [hstn]
  · have hsent : (s.loseGate i).flt.sent =
        (s.setGate i 3).flt.sent ++ [⟨0x1C0 + i, 0x10, 0, (s.setGate i 3).tick⟩] := by
      rw [State.loseGate, ← State.sent_fault]
      simp only [State.modStn, State.event_flt, State.raiseBit_flt]
    have htick : (s.setGate i 3).tick = s.tick := (s.setGate_keeps i 3).parts .tick (by decide)
    rw [hsent, htick]
    exact List.mem_append_right _ (List.mem_singleton_self _)

/-- A station that has had a boundary is one of the scan engine's. -/
theorem State.lt_length_of_boundary {s : State} {i b : Nat} (h : (s.stn i).boundary = some b) : i < s.scan.length := by
  by_contra hi
  have hnone : s.stn i = ScanStn.init := by simp [State.stn, List.getD_eq_getElem?_getD, not_lt.1 hi]
  rw [hnone] at h
  exact Option.some_ne_none b h.symm

/-- The missed facet that reaches the limit loses the gate, after its boundary. -/
theorem State.missFacet_loses {s : State} {i b : Nat} (ecc : Nat) (hgate : s.gate i = 2)
    (hb : (s.stn i).boundary = some b) (hplan : (s.stn i).plan.isSome = true)
    (hdue : s.duePlan i (b + s.stnPeriod i * 8 / 625) = none) (hbind : s.burl.bindNext = none)
    (hfacet : (s.stn i).facet = none) (hlimit : s.fld (Reg.SCAN_STN_CFG i) 7 4 ≤ (s.stn i).missed + 1) :
    s.missFacet i ecc = (s.synthBoundary i b ecc).loseGate i ∧ (s.synthBoundary i b ecc).tick = s.tick ∧
    ((s.synthBoundary i b ecc).stn i).boundary = some (b + s.stnPeriod i * 8 / 625) := by
  have hi := State.lt_length_of_boundary hb
  have hstn := State.stn_countMiss hi
  have hcount := s.countMiss_keeps i
  have hkeeps := (s.countMiss i).facetBoundary_keeps i (b + s.stnPeriod i * 8 / 625) false ecc
  have hlen : i < (s.countMiss i).scan.length :=
    State.lt_length_of_boundary (by rw [hstn]; exact hb)
  have hregs : Reg.SCAN_STN_CFG i ≠ Reg.SCAN_STN_COUNT_MISS i ∧ Reg.SCAN_STN_CFG i ≠ Reg.SCAN_EVENTS ∧
      Reg.SCAN_STN_STATE i ≠ Reg.SCAN_STN_COUNT_MISS i ∧ Reg.SCAN_STN_STATE i ≠ Reg.SCAN_EVENTS := by
    simp only [Reg.SCAN_STN_CFG, Reg.SCAN_STN_COUNT_MISS, Reg.SCAN_STN_STATE, Reg.SCAN_EVENTS]
    omega
  obtain ⟨hcfgCount, hcfgEvents, hstateCount, hstateEvents⟩ := hregs
  have hgate' : (s.countMiss i).gate i = 2 :=
    (State.fld_congr (hcount.regs _ (not_or.2 ⟨hstateCount, hstateEvents⟩)) 1 0).trans hgate
  have hcfg : (s.synthBoundary i b ecc).fld (Reg.SCAN_STN_CFG i) 7 4 = s.fld (Reg.SCAN_STN_CFG i) 7 4 :=
    State.fld_congr ((hkeeps.regs _ fun h => h.1 rfl).trans (hcount.regs _ (not_or.2 ⟨hcfgCount, hcfgEvents⟩))) 7 4
  obtain ⟨hgateAt, hboundary, -, -, hmissed, -⟩ := State.facetBoundary_shows (s := s.countMiss i) (i := i)
    (time := b + s.stnPeriod i * 8 / 625) false ecc hlen (by rw [hstn]; exact hplan) (by rw [hstn]; exact hfacet)
    ((State.duePlan_congr (hcount.parts .alm (by simp)) i _).trans hdue)
    (by rw [hcount.parts .burl (by simp)]; exact hbind)
  refine ⟨?_, hkeeps.tick_eq.trans (hcount.parts .tick (by simp)), hboundary⟩
  rw [State.missFacet_eq ecc hb, if_pos]
  refine ⟨hgateAt.trans hgate', ?_⟩
  rw [hcfg, State.synthBoundary, hmissed, hstn]
  exact hlimit

end Sys2Proof.Machine
end

section
/-!
SUPPORT. Facet ends and the clearing of the measured averages (R241, R247, R252, R255), and the proof of the statement about
the scan engine's edges and facets.
-/

namespace Sys2Proof.Machine

/-! ### Facet ends (R247, R255) -/

theorem State.facetEndAt_running {s : State} {i e : Nat} {f : FacetRun} (he : s.facetEndAt i = some e)
    (hf : (s.stn i).facet = some f) : f.ended = false := by
  unfold State.facetEndAt at he
  rw [hf] at he
  split at he
  · next g b d hg _ _ =>
    obtain rfl := Option.some.inj hg
    by_contra hended
    rw [if_pos (Bool.eq_true_of_not_eq_false hended)] at he
    exact Option.some_ne_none e he.symm
  · exact absurd he.symm (Option.some_ne_none e)

/-- A station whose facet in progress has ended: its lines are fired, its slots are released, and the sheets past their last
line are bound no more (R255, log entry 52). -/
def ScanStn.pastFacet (x : ScanStn) (f : FacetRun) (gone : List Nat) : ScanStn :=
  { x with
    facet := some { f with ended := true }, fired := f.n + f.advance, slots := gone.foldl tabDel x.slots,
    bound := x.bound.filter (fun b => decide (f.n + f.advance < b.n0 + b.lines)) }

/-- The ledger hears of the last lines of a facet that has ended (R258). -/
def State.reportLast (s : State) (i time : Nat) (f : FacetRun) : State :=
  f.last.foldl (fun t id => t.stampedReport .lastLine id i 0 0 time) s

/-- A head that was shut down goes dark at the end of the facet, and the table frames that wait go out (R281, R287). -/
def State.afterFacet (s : State) (i : Nat) : State :=
  (if (s.bm i).darkAtEnd then (s.disarm i).emit (.dark i) else s).sendWaiting i

/-- The line slots that a facet releases. -/
def State.goneSlots (s : State) (i : Nat) (f : FacetRun) : List Nat :=
  (List.range f.advance).map fun j => (f.n + j - (s.stn i).base) % s.lsLines i

theorem State.endFacet_running {s : State} {i : Nat} {f : FacetRun} (time : Nat) (hf : (s.stn i).facet = some f)
    (hrun : f.ended = false) : s.endFacet i time =
      ((((s.modStn i fun t => t.pastFacet f (s.goneSlots i f)).reportLast i time f).showBound i).afterFacet i) := by
  simp only [State.endFacet, hf, hrun, Bool.false_eq_true, if_false]
  rfl

theorem State.reportLast_keeps (s : State) (i time : Nat) (f : FacetRun) :
    Frame (· = .ledg) (fun _ => False) s (s.reportLast i time f) :=
  Frame.foldl _ _ (.refl s) fun u hu id => State.stampedReport_frame u .lastLine id i 0 0 time hu rfl

theorem State.afterFacet_keeps (s : State) (i : Nat) :
    Frame (fun b => b = .out ∨ b = .beam) (fun a => a / 0x10000 ≠ 0xA) s (s.afterFacet i) := by
  refine State.sendWaiting_frame _ i (Frame.ite ?_ (.refl s)) (.inl rfl) (.inr rfl)
  exact State.emit_frame _ _ (State.disarm_frame s i (.refl s) (.inl rfl) (.inr rfl) (by decide)
    fun k => by simp only [Reg.BEAM_STN_STATE]; omega) (.inl rfl)

theorem State.endFacet_shows {s : State} {i : Nat} {f : FacetRun} (time : Nat) (hi : i < s.scan.length)
    (hf : (s.stn i).facet = some f) (hrun : f.ended = false) :
    (s.endFacet i time).stn i = (s.stn i).pastFacet f (s.goneSlots i f) ∧
    (s.endFacet i time).flag (Reg.SCAN_STN_STATE i) 16 = decide (((s.endFacet i time).stn i).bound ≠ []) := by
  rw [State.endFacet_running time hf hrun]
  generalize hu : (s.modStn i fun t => t.pastFacet f (s.goneSlots i f)).reportLast i time f = u
  have hreported := (s.modStn i fun t => t.pastFacet f (s.goneSlots i f)).reportLast_keeps i time f
  rw [hu] at hreported
  have hafter := (u.showBound i).afterFacet_keeps i
  have hscan : ((u.showBound i).afterFacet i).scan = u.scan := by
    rw [hafter.parts .scan (by simp), State.showBound, State.setFlag_scan]
  have hstn : u.stn i = (s.stn i).pastFacet f (s.goneSlots i f) := by
    rw [State.stn, hreported.parts .scan (by simp), ← State.stn, State.stn_modStn_same _ hi]
  have hstn' : ((u.showBound i).afterFacet i).stn i = u.stn i := by rw [State.stn, hscan, State.stn]
  refine ⟨hstn'.trans hstn, ?_⟩
  have hflag := State.flag_congr (hafter.regs (Reg.SCAN_STN_STATE i) (by simp only [Reg.SCAN_STN_STATE]; omega)) 16
  rw [hflag, hstn', State.showBound, State.flag_setFlag_same _ _ _ _ (by decide)]

theorem execFacetEnd_ends {i : Fin 8} {e : Nat} {s : State} (he : s.facetEndAt i = some e) (hpast : e < s.tick * 320000) :
    execFacetEnd i s = .next (s.endFacet i e) := by
  simp only [execFacetEnd, he, hpast, if_true]

/-! ### The averages (R241, R252) -/

/-- A station without averages. -/
def ScanStn.clearAverages (x : ScanStn) : ScanStn := { x with pyr := [], fper := [], periods := [], resid := [] }

/-- The registers that show a station's averages, cleared. -/
def State.zeroAverages (s : State) (i : Nat) : State :=
  (s.upTo 8 fun u p => (u.wrN (Reg.SCAN_STN_PYR i p) 0).wrN (Reg.SCAN_STN_FPER i p) 0).upTo 64 fun u e =>
    u.wrN (Reg.SCAN_STN_RESID i e) 0

/-- One station's part of SCAN_MEAS_CLR. -/
def State.clearStation (s : State) (i : Nat) : State := (s.modStn i ScanStn.clearAverages).zeroAverages i

/-- A register that shows an average of station `i`. -/
def showsAverage (i a : Nat) : Prop :=
  ∃ e, a = Reg.SCAN_STN_PYR i e ∨ a = Reg.SCAN_STN_FPER i e ∨ a = Reg.SCAN_STN_RESID i e

theorem State.clearStation_keeps (s : State) (i : Nat) : Frame (· = .scan) (showsAverage i) s (s.clearStation i) := by
  refine State.upTo_frame _ _ _ (State.upTo_frame _ _ _ (State.modStn_frame s i _ (.refl s) rfl) fun u hu p => ?_)
    fun u hu e => State.wrN_frame u _ 0 hu ⟨e, .inr (.inr rfl)⟩
  exact State.wrN_frame _ _ 0 (State.wrN_frame u _ 0 hu ⟨p, .inl rfl⟩) ⟨p, .inr (.inl rfl)⟩

theorem State.zeroAverages_scan (s : State) (i : Nat) : (s.zeroAverages i).scan = s.scan := by
  have hkeeps : Frame (fun _ => False) (fun _ => True) s (s.zeroAverages i) :=
    State.upTo_frame _ _ _ (State.upTo_frame _ _ _ (.refl s) fun u hu p =>
      State.wrN_frame _ _ 0 (State.wrN_frame u _ 0 hu trivial) trivial) fun u hu e => State.wrN_frame u _ 0 hu trivial
  exact hkeeps.parts .scan not_false

theorem State.upTo_succ (s : State) (n : Nat) (f : State → Nat → State) : s.upTo (n + 1) f = f (s.upTo n f) n := by
  rw [State.upTo, List.range_succ, List.foldl_append]
  rfl

/-- A register that reads 0 goes on reading 0 when zeros are written. -/
theorem State.rdN_wrN_zero (s : State) (a : Nat) {b : Nat} (h : s.rdN b = 0) : (s.wrN a 0).rdN b = 0 := by
  rw [State.rdN_wrN]
  split
  · rfl
  · exact h

/-- A register that every pass of a loop keeps at 0, and one pass clears, reads 0 at its end. -/
theorem State.rdN_upTo_zero {f : State → Nat → State} {a n : Nat} (s : State)
    (hkeep : ∀ (u : State) x, u.rdN a = 0 → (f u x).rdN a = 0)
    (hzero : s.rdN a = 0 ∨ ∃ p < n, ∀ u : State, (f u p).rdN a = 0) : (s.upTo n f).rdN a = 0 := by
  induction n with
  | zero => exact hzero.resolve_right fun ⟨p, hp, _⟩ => Nat.not_lt_zero p hp
  | succ n ih =>
    rw [State.upTo_succ]
    rcases hzero with h | ⟨p, hp, hset⟩
    · exact hkeep _ _ (ih (.inl h))
    · rcases Nat.lt_succ_iff_lt_or_eq.1 hp with hlt | rfl
      · exact hkeep _ _ (ih (.inr ⟨p, hlt, hset⟩))
      · exact hset _

/-- The averages of station `i` are cleared. -/
structure AveragesCleared (i : Nat) (t : State) : Prop where
  pyr : (t.stn i).pyr = []
  fper : (t.stn i).fper = []
  periods : (t.stn i).periods = []
  resid : (t.stn i).resid = []
  showPyr : ∀ p : Fin 8, t.rdN (Reg.SCAN_STN_PYR i p) = 0
  showFper : ∀ p : Fin 8, t.rdN (Reg.SCAN_STN_FPER i p) = 0
  showResid : ∀ e : Fin 64, t.rdN (Reg.SCAN_STN_RESID i e) = 0

/-- Station `i` and the registers of its averages stay. -/
structure AveragesKept (i : Nat) (s t : State) : Prop where
  station : t.stn i = s.stn i
  regs : ∀ a, showsAverage i a → t.rd a = s.rd a

theorem State.clearStation_clears {s : State} {i : Nat} (hi : i < s.scan.length) :
    AveragesCleared i (s.clearStation i) := by
  have hstn : (s.clearStation i).stn i = (s.stn i).clearAverages := by
    rw [State.stn, State.clearStation, State.zeroAverages_scan, ← State.stn, State.stn_modStn_same _ hi]
  have houter {a : Nat} (u : State) (h : u.rdN a = 0) :
      (u.upTo 64 fun u e => u.wrN (Reg.SCAN_STN_RESID i e) 0).rdN a = 0 :=
    u.rdN_upTo_zero (fun u e => u.rdN_wrN_zero _) (.inl h)
  have hinner {a : Nat} (p : Fin 8) (h : a = Reg.SCAN_STN_PYR i p ∨ a = Reg.SCAN_STN_FPER i p) (u : State) :
      (u.upTo 8 fun u p => (u.wrN (Reg.SCAN_STN_PYR i p) 0).wrN (Reg.SCAN_STN_FPER i p) 0).rdN a = 0 := by
    refine u.rdN_upTo_zero (fun u x h => State.rdN_wrN_zero _ _ (u.rdN_wrN_zero _ h)) (.inr ⟨p, p.isLt, fun u => ?_⟩)
    rcases h with rfl | rfl
    · exact State.rdN_wrN_zero _ _ (State.rdN_wrN_same _ _ _)
    · exact State.rdN_wrN_same _ _ _
  have hresid (e : Fin 64) (u : State) :
      (u.upTo 64 fun u e => u.wrN (Reg.SCAN_STN_RESID i e) 0).rdN (Reg.SCAN_STN_RESID i e) = 0 :=
    u.rdN_upTo_zero (fun u e => u.rdN_wrN_zero _) (.inr ⟨e, e.isLt, fun u => u.rdN_wrN_same _ 0⟩)
  refine ⟨?_, ?_, ?_, ?_, fun p => ?_, fun p => ?_, fun e => ?_⟩
  · rw [hstn, ScanStn.clearAverages]
  · rw [hstn, ScanStn.clearAverages]
  · rw [hstn, ScanStn.clearAverages]
  · rw [hstn, ScanStn.clearAverages]
  · rw [State.clearStation, State.zeroAverages]
    exact houter _ (hinner p (.inl rfl) _)
  · rw [State.clearStation, State.zeroAverages]
    exact houter _ (hinner p (.inr rfl) _)
  · rw [State.clearStation, State.zeroAverages]
    exact hresid e _

theorem AveragesKept.refl (i : Nat) (s : State) : AveragesKept i s s := ⟨rfl, fun _ _ => rfl⟩

theorem AveragesKept.trans {i : Nat} {s t u : State} (h : AveragesKept i s t) (k : AveragesKept i t u) :
    AveragesKept i s u :=
  ⟨k.station.trans h.station, fun a ha => (k.regs a ha).trans (h.regs a ha)⟩

theorem AveragesKept.cleared {i : Nat} {s t : State} (h : AveragesKept i s t) (c : AveragesCleared i s) :
    AveragesCleared i t := by
  obtain ⟨hpyr, hfper, hperiods, hresid, showPyr, showFper, showResid⟩ := c
  refine ⟨?_, ?_, ?_, ?_, fun p => ?_, fun p => ?_, fun e => ?_⟩
  · rwa [h.station]
  · rwa [h.station]
  · rwa [h.station]
  · rwa [h.station]
  · exact (State.rdN_congr (h.regs _ ⟨p, .inl rfl⟩)).trans (showPyr p)
  · exact (State.rdN_congr (h.regs _ ⟨p, .inr (.inl rfl)⟩)).trans (showFper p)
  · exact (State.rdN_congr (h.regs _ ⟨e, .inr (.inr rfl)⟩)).trans (showResid e)

/-- No register shows averages of two stations. -/
theorem showsAverage_station {i j a : Nat} (hi : i < 8) (hj : j < 8) (h : showsAverage i a)
    (k : showsAverage j a) : i = j := by
  obtain ⟨e, h⟩ := h
  obtain ⟨e', k⟩ := k
  simp only [Reg.SCAN_STN_PYR, Reg.SCAN_STN_FPER, Reg.SCAN_STN_RESID] at h k
  omega

theorem State.clearStation_keeps_other (s : State) {i j : Nat} (hi : i < 8) (hj : j < 8) (hne : i ≠ j) :
    AveragesKept i s (s.clearStation j) := by
  refine ⟨?_, fun a ha => (s.clearStation_keeps j).regs a fun k => hne (showsAverage_station hi hj ha k)⟩
  rw [State.stn, State.clearStation, State.zeroAverages_scan, ← State.stn, s.stn_modStn_other _ hne]

/-- SCAN_MEAS_CLR for the stations below `n`. -/
def State.clearBelow (s : State) (mask n : Nat) : State :=
  s.upTo n fun t i => if bitOf mask i then t.clearStation i else t

theorem State.clearMeasured_eq (s : State) (mask : Nat) : s.clearMeasured mask = s.clearBelow mask 8 := rfl

theorem State.clearBelow_succ (s : State) (mask n : Nat) : s.clearBelow mask (n + 1) =
    if bitOf mask n then (s.clearBelow mask n).clearStation n else s.clearBelow mask n :=
  s.upTo_succ n _

theorem State.length_clearBelow (s : State) (mask n : Nat) : (s.clearBelow mask n).scan.length = s.scan.length := by
  induction n with
  | zero => rfl
  | succ n ih =>
    rw [State.clearBelow_succ]
    split
    · rwa [State.clearStation, State.zeroAverages_scan, State.length_modStn]
    · exact ih

/-- A station that is not named, or not yet reached, stays. -/
theorem State.clearBelow_keeps (s : State) (mask : Nat) {i n : Nat} (hi : i < 8) (hn : n ≤ 8)
    (hnot : bitOf mask i = false ∨ n ≤ i) : AveragesKept i s (s.clearBelow mask n) := by
  induction n with
  | zero => exact .refl i s
  | succ n ih =>
    have hbefore := ih (by omega) (hnot.imp_right fun h => by omega)
    rw [State.clearBelow_succ]
    split
    · next hbit =>
      have hne : i ≠ n := by
        rintro rfl
        rcases hnot with h | h
        · exact Bool.false_ne_true (h.symm.trans hbit)
        · omega
      exact hbefore.trans (State.clearStation_keeps_other _ hi (by omega) hne)
    · exact hbefore

theorem State.clearBelow_clears {s : State} {mask i n : Nat} (hlen : s.scan.length = 8) (hn : n ≤ 8) (hi : i < n)
    (hbit : bitOf mask i = true) : AveragesCleared i (s.clearBelow mask n) := by
  induction n with
  | zero => exact absurd hi (Nat.not_lt_zero i)
  | succ n ih =>
    rw [State.clearBelow_succ]
    rcases Nat.lt_succ_iff_lt_or_eq.1 hi with hlt | rfl
    · have hbefore := ih (by omega) hlt
      split
      · exact (State.clearStation_keeps_other _ (by omega) (by omega) (Nat.ne_of_lt hlt)).cleared hbefore
      · exact hbefore
    · rw [if_pos hbit]
      exact State.clearStation_clears (by rw [State.length_clearBelow, hlen]; exact hn)

/-! ### The statement -/

/-- Settles O27, by the branch that each edge takes, by what a boundary keeps of its station, and by the stations that a
clearing names. -/
theorem scanEdgesAndFacets : Obligations.ScanEdgesAndFacets := by
  unfold Obligations.ScanEdgesAndFacets
  refine ⟨?stray, ?first, ?falling, ?missed, ?lost, ?ended, ?cleared⟩
  case stray =>
    intro i sub fine ecc b s hon hgate hplan hdue hopen hb hearly
    refine ⟨_, (exec_any (i := .bdEdge i true sub fine ecc) rfl s).trans (execBdEdge_rising sub fine ecc hon hopen), ?_⟩
    rw [State.riseEdge_stray ecc hdue hplan hgate hb hearly]
    have hkept := s.noteRise_kept i (s.edgeTime sub fine)
    obtain ⟨hcount, hflag, hstn, hgate', hout⟩ := (s.noteRise i (s.edgeTime sub fine)).strayEdge_shows i
    exact ⟨hcount, hflag, by rw [hstn, hkept.station.boundary]; exact hb, hgate'.trans (hkept.gate.trans hgate), hout⟩
  case first =>
    intro i sub fine ecc s hon hgate hlen hbeam hplan hdue hfacet hbind
    have hopen : s.windowClosed i (s.edgeTime sub fine) = false := State.windowClosed_of_gate _ (by rw [hgate]; decide)
    refine ⟨_, (exec_any (i := .bdEdge i true sub fine ecc) rfl s).trans (execBdEdge_rising sub fine ecc hon hopen), ?_⟩
    rw [State.riseEdge_acquires ecc hdue hplan hgate]
    exact State.startAcquire_shows ecc (by rw [hlen]; exact i.isLt) (by rw [hbeam]; exact i.isLt) hplan hfacet hdue hbind
  case falling =>
    intro i sub fine ecc r s hon hgate hlen hplan hrise hfew
    refine ⟨_, (exec_any (i := .bdEdge i false sub fine ecc) rfl s).trans (execBdEdge_falling sub fine ecc hon), ?_⟩
    rw [State.fallEdge_width hplan hrise hgate hfew]
    refine ⟨?_, fun a => State.rd_modStn _ _ _ a⟩
    rw [State.stn_modStn_same _ (by rw [hlen]; exact i.isLt),
      List.take_of_length_le (by rw [List.length_cons]; exact hfew)]
  case missed =>
    intro i ecc b s hclosed hb
    exact ⟨_, (exec_any (i := .facetMissed i ecc) rfl s).trans (if_pos hclosed), State.missFacet_counts ecc hb⟩
  case lost =>
    intro i ecc b s hclosed hlen hb hplan hdue hbind hfacet hlimit
    refine ⟨_, (exec_any (i := .facetMissed i ecc) rfl s).trans (if_pos hclosed), ?_⟩
    obtain ⟨hloses, htick, hboundary⟩ :=
      State.missFacet_loses ecc (State.gate_of_windowClosed hclosed) hb hplan hdue hbind hfacet hlimit
    obtain ⟨hgate, hidx, hflag, hwidths, hsame, hsent⟩ := State.loseGate_shows (State.lt_length_of_boundary hboundary)
    rw [htick] at hsent
    rw [hloses]
    exact ⟨hgate, hidx, hflag, hwidths, hsame.trans hboundary, hsent⟩
  case ended =>
    intro i e f s he hpast hf hlen
    refine ⟨_, (exec_any (i := .facetEnd i) rfl s).trans (execFacetEnd_ends he hpast), ?_⟩
    obtain ⟨hstn, hflag⟩ := State.endFacet_shows e (by rw [hlen]; exact i.isLt) hf (State.facetEndAt_running he hf)
    refine ⟨?_, ?_, ?_, hflag⟩
    all_goals rw [hstn, ScanStn.pastFacet]
  case cleared =>
    intro mask s hlen
    refine ⟨s.clearBelow mask 8, (exec_any (i := .scanMeasClr mask) rfl s).trans
      (congrArg Host.Outcome.next (s.clearMeasured_eq mask)), fun i hbit => ?_, fun i hbit => ?_⟩
    · obtain ⟨hpyr, hfper, hperiods, hresid, showPyr, showFper, showResid⟩ :=
        State.clearBelow_clears hlen (Nat.le_refl 8) i.isLt hbit
      exact ⟨hpyr, hfper, hperiods, hresid, fun p => ⟨showPyr p, showFper p⟩, showResid⟩
    · obtain ⟨hstn, hregs⟩ := s.clearBelow_keeps mask i.isLt (Nat.le_refl 8) (.inl hbit)
      exact ⟨hstn, fun p => hregs _ ⟨p, .inl rfl⟩, fun e => hregs _ ⟨e, .inr (.inr rfl)⟩⟩

end Sys2Proof.Machine
end

section
/-!
SUPPORT. A station of beam firing (R269 to R292): its laser enable, its link, its tables and its map, one rule per
operation.
-/

namespace Sys2Proof.Machine

/-! ### The registers of a station -/

/-- The block's single registers lie below the registers of the stations. -/
theorem beamState_ne_of_lt (i : Nat) {a : Nat} (h : a < 0xB0100) : Reg.BEAM_STN_STATE i ≠ a := by
  simp only [Reg.BEAM_STN_STATE]
  omega

theorem beamState_ne_station {i j : Fin 8} (h : i ≠ j) : Reg.BEAM_STN_STATE i ≠ Reg.BEAM_STN_STATE j := by
  simp only [Reg.BEAM_STN_STATE]
  omega

theorem beamState_ne_linkLog (i j : Nat) : Reg.BEAM_STN_STATE i ≠ Reg.BEAM_STN_LINK_LOG j := by
  simp only [Reg.BEAM_STN_STATE, Reg.BEAM_STN_LINK_LOG]
  omega

theorem beamState_ne_failover (i j : Nat) : Reg.BEAM_STN_STATE i ≠ Reg.BEAM_STN_COUNT_FAILOVER j := by
  simp only [Reg.BEAM_STN_STATE, Reg.BEAM_STN_COUNT_FAILOVER]
  omega

/-! ### Updates beside the stations -/

theorem State.legPost_keeps (s : State) (code : Nat) :
    Frame (· = .leg) (· = Reg.LEG_STATUS) s (s.legPost code) :=
  State.legPost_frame s code (.refl s) rfl rfl

theorem State.rd_legPost_other (s : State) (code : Nat) {a : Nat} (h : a ≠ Reg.LEG_STATUS) :
    (s.legPost code).rd a = s.rd a :=
  (s.legPost_keeps code).regs a h

@[simp] theorem State.legPost_beam (s : State) (code : Nat) : (s.legPost code).beam = s.beam :=
  (s.legPost_keeps code).parts .beam (by simp)

@[simp] theorem State.legPost_flt (s : State) (code : Nat) : (s.legPost code).flt = s.flt :=
  (s.legPost_keeps code).parts .flt (by simp)

@[simp] theorem State.legPost_hwd (s : State) (code : Nat) : (s.legPost code).hwd = s.hwd :=
  (s.legPost_keeps code).parts .hwd (by simp)

@[simp] theorem State.rd_modBm (s : State) (i : Nat) (f : BeamStn → BeamStn) (a : Nat) :
    (s.modBm i f).rd a = s.rd a := rfl

@[simp] theorem State.length_modBm (s : State) (i : Nat) (f : BeamStn → BeamStn) :
    (s.modBm i f).beam.stns.length = s.beam.stns.length :=
  List.length_modify ..

/-- The record of a station is read from the block's list of stations alone. -/
theorem State.bm_congr {s t : State} (h : t.beam.stns = s.beam.stns) (i : Nat) : t.bm i = s.bm i := by
  rw [State.bm, h, State.bm]

@[simp] theorem State.bm_wrN (s : State) (a n i : Nat) : (s.wrN a n).bm i = s.bm i := rfl
@[simp] theorem State.bm_setFlag (s : State) (a j : Nat) (b : Bool) (i : Nat) : (s.setFlag a j b).bm i = s.bm i := rfl
@[simp] theorem State.bm_bump (s : State) (a hi lo i : Nat) : (s.bump a hi lo).bm i = s.bm i := rfl
@[simp] theorem State.bm_fault (s : State) (x y z i : Nat) : (s.fault x y z).bm i = s.bm i := rfl
@[simp] theorem State.bm_event (s : State) (c : Nat) (f : List Nat) (u i : Nat) : (s.event c f u).bm i = s.bm i := rfl

@[simp] theorem State.bm_raiseBit (s : State) (a j i : Nat) : (s.raiseBit a j).bm i = s.bm i := by
  rw [State.bm, State.raiseBit_beam, State.bm]

@[simp] theorem State.bm_legPost (s : State) (code i : Nat) : (s.legPost code).bm i = s.bm i := by
  rw [State.bm, State.legPost_beam, State.bm]

/-! ### The laser enable (R282) -/

theorem State.rd_setLden_other (s : State) (i : Nat) (high : Bool) {a : Nat} (h : a ≠ Reg.BEAM_STN_STATE i)
    (h' : a ≠ Reg.BEAM_STATUS) : (s.setLden i high).rd a = s.rd a := by
  unfold State.setLden
  split
  · rfl
  · rw [State.rd_emit, State.rd_setFlag_other _ _ _ h', State.rd_setFlag_other _ _ _ h]

theorem State.ldenHigh_setLden (s : State) (i : Nat) (high : Bool) : (s.setLden i high).ldenHigh i = high := by
  have hne := beamState_ne_of_lt i (show Reg.BEAM_STATUS < 0xB0100 by decide)
  unfold State.setLden
  split
  · assumption
  · rw [State.ldenHigh, State.flag_congr (State.rd_emit _ _ _), State.flag_congr (State.rd_setFlag_other _ _ _ hne)]
    exact State.flag_setFlag_same _ _ _ _ (by decide)

/-- The level of LDENn takes one bit of the station's state. -/
theorem State.flag_setLden_state (s : State) (i : Nat) (high : Bool) {j : Nat} (hj : j ≠ 2) :
    (s.setLden i high).flag (Reg.BEAM_STN_STATE i) j = s.flag (Reg.BEAM_STN_STATE i) j := by
  have hne := beamState_ne_of_lt i (show Reg.BEAM_STATUS < 0xB0100 by decide)
  unfold State.setLden
  split
  · rfl
  · rw [State.flag_congr (State.rd_emit _ _ _), State.flag_congr (State.rd_setFlag_other _ _ _ hne)]
    exact State.flag_setFlag_other _ _ _ _ _ _ (by decide) (.inr hj)

theorem State.beamLink_setLden (s : State) (i : Nat) (high : Bool) : (s.setLden i high).beamLink i = s.beamLink i := by
  have hne := beamState_ne_of_lt i (show Reg.BEAM_STATUS < 0xB0100 by decide)
  unfold State.setLden
  split
  · rfl
  · rw [State.beamLink, State.fld_congr (State.rd_emit _ _ _), State.fld_congr (State.rd_setFlag_other _ _ _ hne)]
    exact State.fld_setFlag_other _ _ _ _ _ _ _ (by decide) (.inr (.inl (by decide)))

/-- Of the block's status it takes the bit of its station. -/
theorem State.flag_setLden_status (s : State) {i : Nat} (high : Bool) {j : Nat} (hi : i < 8) (hj : 8 ≤ j) :
    (s.setLden i high).flag Reg.BEAM_STATUS j = s.flag Reg.BEAM_STATUS j := by
  have hne := beamState_ne_of_lt i (show Reg.BEAM_STATUS < 0xB0100 by decide)
  unfold State.setLden
  split
  · rfl
  · rw [State.flag_congr (State.rd_emit _ _ _), State.flag_setFlag_other _ _ _ _ _ _ (by omega) (.inr (by omega)),
      State.flag_congr (State.rd_setFlag_other _ _ _ hne.symm)]

@[simp] theorem State.setLden_beam (s : State) (i : Nat) (high : Bool) : (s.setLden i high).beam = s.beam := by
  unfold State.setLden
  split <;> rfl

/-! ### Disarming (R282) -/

/-- A station's record once it is disarmed. -/
def BeamStn.disarmed (b : BeamStn) : BeamStn := { b with rising := false, darkAtEnd := false }

theorem State.disarm_eq (s : State) (i : Nat) : s.disarm i =
    ((s.setLden i false).setFlag (Reg.BEAM_STN_STATE i) 3 false).modBm i BeamStn.disarmed := rfl

theorem State.rd_disarm_other (s : State) (i : Nat) {a : Nat} (h : a ≠ Reg.BEAM_STN_STATE i)
    (h' : a ≠ Reg.BEAM_STATUS) : (s.disarm i).rd a = s.rd a := by
  rw [State.disarm_eq, State.rd_modBm, State.rd_setFlag_other _ _ _ h, State.rd_setLden_other _ _ _ h h']

theorem State.armed_disarm (s : State) (i : Nat) : (s.disarm i).armed i = false := by
  rw [State.armed, State.disarm_eq, State.flag_congr (State.rd_modBm _ _ _ _)]
  exact State.flag_setFlag_same _ _ _ _ (by decide)

theorem State.ldenHigh_disarm (s : State) (i : Nat) : (s.disarm i).ldenHigh i = false := by
  rw [State.ldenHigh, State.disarm_eq, State.flag_congr (State.rd_modBm _ _ _ _),
    State.flag_setFlag_other _ _ _ _ _ _ (by decide) (.inr (by decide))]
  exact s.ldenHigh_setLden i false

theorem State.beamLink_disarm (s : State) (i : Nat) : (s.disarm i).beamLink i = s.beamLink i := by
  rw [State.beamLink, State.disarm_eq, State.fld_congr (State.rd_modBm _ _ _ _),
    State.fld_setFlag_other _ _ _ _ _ _ _ (by decide) (.inr (.inl (by decide)))]
  exact s.beamLink_setLden i false

theorem State.flag_disarm_status (s : State) {i j : Nat} (hi : i < 8) (hj : 8 ≤ j) :
    (s.disarm i).flag Reg.BEAM_STATUS j = s.flag Reg.BEAM_STATUS j := by
  have hne := beamState_ne_of_lt i (show Reg.BEAM_STATUS < 0xB0100 by decide)
  rw [State.disarm_eq, State.flag_congr (State.rd_modBm _ _ _ _), State.flag_congr (State.rd_setFlag_other _ _ _ hne.symm),
    State.flag_setLden_status _ _ hi hj]

theorem State.disarm_beam (s : State) (i : Nat) : (s.disarm i).beam = (s.modBm i BeamStn.disarmed).beam := by
  rw [State.disarm_eq, State.modBm, State.setFlag_beam, State.setLden_beam, State.modBm]

theorem State.bm_disarm (s : State) {i : Nat} (h : i < s.beam.stns.length) :
    (s.disarm i).bm i = (s.bm i).disarmed := by
  rw [State.bm_congr (congrArg BeamBlk.stns (s.disarm_beam i)), State.bm_modBm_same _ h]

/-- Disarming reaches its own station alone. -/
theorem State.disarm_keeps_other (s : State) {i j : Fin 8} (h : j ≠ i) :
    (s.disarm i).armed j = s.armed j ∧ (s.disarm i).ldenHigh j = s.ldenHigh j := by
  have hrd := s.rd_disarm_other i (beamState_ne_station h)
    (beamState_ne_of_lt j (show Reg.BEAM_STATUS < 0xB0100 by decide))
  exact ⟨State.flag_congr hrd 3, State.flag_congr hrd 2⟩

/-! ### The state of the link (R290, R292) -/

theorem State.setBeamLink_changes {s : State} {i new : Nat} (cause : Nat) (h : s.beamLink i ≠ new) :
    s.setBeamLink i new cause = (((s.setFld (Reg.BEAM_STN_STATE i) 1 0 new).modBm i fun b => { b with
      linkAt := s.tick }).raiseBit Reg.BEAM_EVENTS 5).event 0x0807 [i, s.beamLink i, new, cause] := if_neg h

theorem State.setBeamLink_same {s : State} {i new : Nat} (cause : Nat) (h : s.beamLink i = new) :
    s.setBeamLink i new cause = s := if_pos h

theorem State.beamLink_setBeamLink (s : State) (i : Nat) {new : Nat} (cause : Nat) (hnew : new < 4) :
    (s.setBeamLink i new cause).beamLink i = new := by
  have hne := beamState_ne_of_lt i (show Reg.BEAM_EVENTS < 0xB0100 by decide)
  by_cases h : s.beamLink i = new
  · rw [State.setBeamLink_same cause h, h]
  · rw [State.beamLink, State.setBeamLink_changes cause h, State.fld_congr (State.rd_event _ _ _ _ _),
      State.fld_congr (State.rd_raiseBit_other _ _ hne), State.fld_congr (State.rd_modBm _ _ _ _),
      State.fld_setFld_same _ _ _ _ _ (by decide) (by decide)]
    exact Nat.mod_eq_of_lt hnew

/-- A change of the link's state is handed to Heartwood. -/
theorem State.sent_setBeamLink {s : State} {i new : Nat} (cause : Nat) (h : s.beamLink i ≠ new) :
    (s.setBeamLink i new cause).hwd.sent = s.hwd.sent ++ [⟨0x0807, s.tick, 0, [i, s.beamLink i, new, cause]⟩] := by
  rw [State.setBeamLink_changes cause h]
  simp [State.modBm]

theorem State.rd_setBeamLink_other (s : State) (i new cause : Nat) {a : Nat} (h : a ≠ Reg.BEAM_STN_STATE i)
    (h' : a ≠ Reg.BEAM_EVENTS) : (s.setBeamLink i new cause).rd a = s.rd a := by
  rcases eq_or_ne (s.beamLink i) new with hsame | hnew
  · rw [State.setBeamLink_same cause hsame]
  · rw [State.setBeamLink_changes cause hnew, State.rd_event, State.rd_raiseBit_other _ _ h', State.rd_modBm,
      State.rd_setFld_other _ _ _ _ h]

theorem State.length_setBeamLink (s : State) (i new cause : Nat) :
    (s.setBeamLink i new cause).beam.stns.length = s.beam.stns.length := by
  rcases eq_or_ne (s.beamLink i) new with hsame | hnew
  · rw [State.setBeamLink_same cause hsame]
  · rw [State.setBeamLink_changes cause hnew, State.event_beam, State.raiseBit_beam, State.length_modBm, State.setFld_beam]

@[simp] theorem State.setBeamLink_tick (s : State) (i new cause : Nat) : (s.setBeamLink i new cause).tick = s.tick := by
  rcases eq_or_ne (s.beamLink i) new with hsame | hnew
  · rw [State.setBeamLink_same cause hsame]
  · rw [State.setBeamLink_changes cause hnew, State.event_tick, State.raiseBit_tick, State.modBm, State.setFld_tick]

/-! ### A link that is lost (R291) -/

/-- The loss noted in LINK_LOG. -/
def State.logLoss (s : State) (i cause : Nat) : State :=
  (s.setFld (Reg.BEAM_STN_LINK_LOG i) 3 0 cause).bump (Reg.BEAM_STN_LINK_LOG i) 31 16

/-- The link in FAULT, with its fault message and the code at the legacy port. -/
def State.failBeam (s : State) (i cause : Nat) : State :=
  ((s.setBeamLink i 3 cause).fault (0x5C0 + i) 0x07 0).legPost 0x31

/-- The record of a station whose link is lost. -/
def BeamStn.linkLost (b : BeamStn) : BeamStn := { b with flights := [], ready := false, lost := true }

theorem State.loseBeam_eq {s : State} {i : Nat} (cause : Nat) (h : s.beamLink i = 1 ∨ s.beamLink i = 2) :
    s.loseBeam i cause = (((s.logLoss i cause).failBeam i cause).disarm i).modBm i BeamStn.linkLost :=
  if_neg (by omega)

theorem State.beamLink_logLoss (s : State) (i cause : Nat) : (s.logLoss i cause).beamLink i = s.beamLink i := by
  have hne := beamState_ne_linkLog i i
  rw [State.beamLink, State.logLoss, State.bump, State.fld_congr (State.rd_setFld_other _ _ _ _ hne),
    State.fld_congr (State.rd_setFld_other _ _ _ _ hne), State.beamLink]

theorem State.cause_logLoss (s : State) (i cause : Nat) :
    (s.logLoss i cause).fld (Reg.BEAM_STN_LINK_LOG i) 3 0 = cause % 16 := by
  rw [State.logLoss, State.bump, State.fld_setFld_other _ _ _ _ _ _ _ _ (by decide) (by decide) (.inr (.inl (by decide)))]
  exact State.fld_setFld_same _ _ _ _ _ (by decide) (by decide)

theorem State.rd_failBeam_linkLog (s : State) (i cause : Nat) :
    (s.failBeam i cause).rd (Reg.BEAM_STN_LINK_LOG i) = s.rd (Reg.BEAM_STN_LINK_LOG i) := by
  have hleg : Reg.BEAM_STN_LINK_LOG i ≠ Reg.LEG_STATUS ∧ Reg.BEAM_STN_LINK_LOG i ≠ Reg.BEAM_EVENTS := by
    simp only [Reg.BEAM_STN_LINK_LOG, Reg.LEG_STATUS, Reg.BEAM_EVENTS]
    omega
  rw [State.failBeam, State.rd_legPost_other _ _ hleg.1, State.rd_fault,
    State.rd_setBeamLink_other _ _ _ _ (beamState_ne_linkLog i i).symm hleg.2]

theorem State.beamLink_failBeam (s : State) (i cause : Nat) : (s.failBeam i cause).beamLink i = 3 := by
  have hleg : Reg.BEAM_STN_STATE i ≠ Reg.LEG_STATUS := by
    simp only [Reg.BEAM_STN_STATE, Reg.LEG_STATUS]
    omega
  rw [State.beamLink, State.failBeam, State.fld_congr (State.rd_legPost_other _ _ hleg),
    State.fld_congr (State.rd_fault _ _ _ _ _)]
  exact s.beamLink_setBeamLink i cause (by decide)

theorem State.beamLink_loseBeam {s : State} {i : Nat} (cause : Nat) (h : s.beamLink i = 1 ∨ s.beamLink i = 2) :
    (s.loseBeam i cause).beamLink i = 3 := by
  rw [State.loseBeam_eq cause h]
  exact (State.beamLink_disarm _ i).trans (State.beamLink_failBeam _ i cause)

/-- What a lost link shows. -/
structure BeamLost (i cause : Nat) (s t : State) : Prop where
  link : t.beamLink i = 3
  log : t.fld (Reg.BEAM_STN_LINK_LOG i) 3 0 = cause % 16
  armed : t.armed i = false
  lden : t.ldenHigh i = false
  lost : (t.bm i).lost = true
  fault : ⟨0x5C0 + i, 0x07, 0, s.tick⟩ ∈ t.flt.sent
  event : ⟨0x0807, s.tick, 0, [i, s.beamLink i, 3, cause]⟩ ∈ t.hwd.sent

/-- Disarming sends neither fault messages nor events. -/
theorem State.disarm_sends (s : State) (i : Nat) : (s.disarm i).flt = s.flt ∧ (s.disarm i).hwd = s.hwd := by
  have hkeeps : Frame (fun b => b = .out ∨ b = .beam) (fun _ => True) s (s.disarm i) :=
    State.disarm_frame s i (.refl s) (.inl rfl) (.inr rfl) trivial fun _ => trivial
  exact ⟨hkeeps.parts .flt (by simp), hkeeps.parts .hwd (by simp)⟩

theorem State.loseBeam_shows {s : State} {i : Nat} (cause : Nat) (hlink : s.beamLink i = 1 ∨ s.beamLink i = 2)
    (hi : i < s.beam.stns.length) : BeamLost i cause s (s.loseBeam i cause) := by
  have hlen : i < (((s.logLoss i cause).failBeam i cause).disarm i).beam.stns.length := by
    rw [State.disarm_beam, State.length_modBm, State.failBeam, State.legPost_beam, State.fault_beam,
      State.length_setBeamLink]
    exact hi
  have hlog : Reg.BEAM_STN_LINK_LOG i ≠ Reg.BEAM_STATUS := by
    simp only [Reg.BEAM_STN_LINK_LOG, Reg.BEAM_STATUS]
    omega
  have hold := s.beamLink_logLoss i cause
  obtain ⟨hflt, hhwd⟩ := ((s.logLoss i cause).failBeam i cause).disarm_sends i
  have hdown := State.beamLink_loseBeam cause hlink
  rw [State.loseBeam_eq cause hlink] at hdown ⊢
  refine ⟨hdown, ?log, State.armed_disarm _ i, State.ldenHigh_disarm _ i, ?lost, ?fault, ?event⟩
  case log =>
    rw [State.fld_congr (State.rd_modBm _ _ _ _),
      State.fld_congr (State.rd_disarm_other _ i (beamState_ne_linkLog i i).symm hlog),
      State.fld_congr (State.rd_failBeam_linkLog _ i cause), State.cause_logLoss]
  case lost => rw [State.bm_modBm_same _ hlen, BeamStn.linkLost]
  case fault =>
    show _ ∈ (((s.logLoss i cause).failBeam i cause).disarm i).flt.sent
    rw [hflt, State.failBeam, State.legPost_flt, State.sent_fault, State.setBeamLink_tick]
    exact List.mem_append_right _ (List.mem_singleton_self _)
  case event =>
    show _ ∈ (((s.logLoss i cause).failBeam i cause).disarm i).hwd.sent
    rw [hhwd, State.failBeam, State.legPost_hwd, State.fault_hwd,
      State.sent_setBeamLink cause (by rw [hold]; omega), hold]
    exact List.mem_append_right _ (List.mem_singleton_self _)

end Sys2Proof.Machine
end

section
/-!
SUPPORT. Table frames and reports of a beam link (R272, R281, R287 to R291): what the sending of frames leaves of a station,
one rule per branch of each report, and the proof of the statement about them.
-/

namespace Sys2Proof.Machine

/-! ### Frames in flight (R287) -/

/-- A table frame once the frames that wait are sent. -/
def TableTx.sentAt (f : TableTx) (tick : Nat) : TableTx := if f.sent then f else { f with sent := true, stamp := tick }

/-- A station's record once its frames that wait are sent. -/
def BeamStn.framesSent (b : BeamStn) (tick : Nat) : BeamStn :=
  { b with flights := b.flights.map fun f => (f.1, f.2.sentAt tick) }

theorem tabFind_map {α β : Type} (g : α → β) (t : Tab α) (k : Nat) :
    tabFind (t.map fun e => (e.1, g e.2)) k = (tabFind t k).map g := by
  induction t with
  | nil => rfl
  | cons e t ih =>
    simp only [List.map_cons, tabFind, ih]
    split
    · rfl
    · split <;> rfl

theorem BeamStn.tabFind_framesSent (b : BeamStn) (tick id : Nat) :
    tabFind (b.framesSent tick).flights id = (tabFind b.flights id).map (·.sentAt tick) :=
  tabFind_map (fun f : TableTx => f.sentAt tick) b.flights id

/-- The frames go out, and the record of the station says so. -/
theorem State.sendWaiting_beam {s : State} {i : Nat} (h : s.tableTime i = true) :
    (s.sendWaiting i).beam = (s.modBm i fun b => b.framesSent s.tick).beam := by
  have hsent (b : BeamStn) : b.flights.map (fun f => if f.2.sent then f else
      (f.1, { f.2 with sent := true, stamp := s.tick })) = (b.framesSent s.tick).flights := by
    refine List.map_congr_left fun f _ => ?_
    by_cases hf : f.2.sent = true
    · rw [if_pos hf, TableTx.sentAt, if_pos hf]
    · rw [if_neg hf, TableTx.sentAt, if_neg hf]
  have hframes (l : List (Nat × TableTx)) :
      (l.foldl (fun (t : State) f => t.emit (t.tableFrame i f.1 f.2.seq)) s).beam = s.beam := by
    have hkeeps : Frame (· = .out) (fun _ => False) s
        (l.foldl (fun (t : State) f => t.emit (t.tableFrame i f.1 f.2.seq)) s) :=
      Frame.foldl _ _ (.refl s) fun u hu f => State.emit_frame u _ hu rfl
    exact hkeeps.parts .beam (by simp)
  rw [State.sendWaiting, if_pos h]
  simp only [State.modBm, hframes, hsent]
  rfl

theorem State.bm_sendWaiting {s : State} {i : Nat} (h : s.tableTime i = true) (hi : i < s.beam.stns.length) :
    (s.sendWaiting i).bm i = (s.bm i).framesSent s.tick := by
  rw [State.bm_congr (congrArg BeamBlk.stns (State.sendWaiting_beam h)), State.bm_modBm_same _ hi]

theorem State.rd_sendWaiting (s : State) (i a : Nat) : (s.sendWaiting i).rd a = s.rd a := by
  have hkeeps : Frame (fun b => b = .out ∨ b = .beam) (fun _ => False) s (s.sendWaiting i) :=
    State.sendWaiting_frame s i (.refl s) (.inl rfl) (.inr rfl)
  exact hkeeps.regs a not_false

theorem State.sendTable_keeps (s : State) (i id : Nat) :
    Frame (fun b => b = .out ∨ b = .beam) (fun _ => False) s (s.sendTable i id) :=
  State.sendTable_frame s i id (.refl s) (.inl rfl) (.inr rfl)

/-! ### What the upload of tables keeps of its station -/

/-- From `x` to `y` a station's record differs by tables that have been taken for sending: what the rest of the block reads
stays, and no frame in flight and no pending mark is lost. -/
structure BeamStn.Uploads (x y : BeamStn) : Prop where
  drive : y.drive = x.drive
  sat : y.sat = x.sat
  rising : y.rising = x.rising
  lost : y.lost = x.lost
  ready : y.ready = x.ready
  reportAt : y.reportAt = x.reportAt
  flights : ∀ id, (tabFind x.flights id).isSome = true → (tabFind y.flights id).isSome = true
  dirty : ∀ id, tabGet false x.dirty id = true → tabGet false y.dirty id = true

theorem BeamStn.Uploads.refl (x : BeamStn) : x.Uploads x := ⟨rfl, rfl, rfl, rfl, rfl, rfl, fun _ => id, fun _ => id⟩

theorem BeamStn.Uploads.trans {x y z : BeamStn} (h : x.Uploads y) (k : y.Uploads z) : x.Uploads z :=
  ⟨k.drive.trans h.drive, k.sat.trans h.sat, k.rising.trans h.rising, k.lost.trans h.lost, k.ready.trans h.ready,
    k.reportAt.trans h.reportAt, fun id hid => k.flights id (h.flights id hid), fun id hid => k.dirty id (h.dirty id hid)⟩

theorem BeamStn.uploads_framesSent (x : BeamStn) (tick : Nat) : x.Uploads (x.framesSent tick) := by
  refine ⟨rfl, rfl, rfl, rfl, rfl, rfl, fun id hid => ?_, fun _ => id⟩
  rw [BeamStn.tabFind_framesSent, Option.isSome_map]
  exact hid

theorem State.uploads_sendWaiting (s : State) (i : Nat) : (s.bm i).Uploads ((s.sendWaiting i).bm i) := by
  by_cases h : s.tableTime i = true
  · rw [State.bm_congr (congrArg BeamBlk.stns (State.sendWaiting_beam h))]
    exact s.bm_modBm_rel i (fun x => x.uploads_framesSent s.tick) .refl
  · rw [State.sendWaiting, if_neg h]
    exact .refl _

theorem State.length_sendWaiting (s : State) (i : Nat) :
    (s.sendWaiting i).beam.stns.length = s.beam.stns.length := by
  by_cases h : s.tableTime i = true
  · rw [State.sendWaiting_beam h, State.length_modBm]
  · rw [State.sendWaiting, if_neg h]

/-- A station's record when a table is taken for sending. -/
def BeamStn.takeTable (b : BeamStn) (id n tick : Nat) : BeamStn :=
  { b with
    tableSeq := (n + 1) % 2 ^ 32, dirty := tabSet false b.dirty id true, flights := tabPut b.flights id ⟨n, 0, tick, false⟩ }

theorem State.sendTable_eq (s : State) (i id : Nat) : s.sendTable i id =
    (s.modBm i fun b => b.takeTable id (s.bm i).tableSeq s.tick).sendWaiting i := rfl

theorem BeamStn.uploads_takeTable (b : BeamStn) (id n tick : Nat) : b.Uploads (b.takeTable id n tick) := by
  refine ⟨rfl, rfl, rfl, rfl, rfl, rfl, fun j hj => ?_, fun j hj => ?_⟩
  · rw [BeamStn.takeTable, tabFind_tabPut]
    split
    · rfl
    · exact hj
  · rw [BeamStn.takeTable, tabGet_tabSet]
    split
    · rfl
    · exact hj

theorem State.uploads_sendTable (s : State) (i id : Nat) : (s.bm i).Uploads ((s.sendTable i id).bm i) :=
  (s.bm_modBm_rel i (fun b => b.uploads_takeTable id (s.bm i).tableSeq s.tick) .refl).trans
    (State.uploads_sendWaiting _ i)

theorem State.length_sendTable (s : State) (i id : Nat) :
    (s.sendTable i id).beam.stns.length = s.beam.stns.length := by
  rw [State.sendTable_eq, State.length_sendWaiting, State.length_modBm]

/-- A table is in flight at a station, and pending. -/
def State.tableFlies (s : State) (i id : Nat) : Prop :=
  (tabFind (s.bm i).flights id).isSome = true ∧ tabGet false (s.bm i).dirty id = true

theorem State.tableFlies_sendTable (s : State) {i : Nat} (id : Nat) (hi : i < s.beam.stns.length) :
    (s.sendTable i id).tableFlies i id := by
  have hup := State.uploads_sendWaiting (s.modBm i fun b => b.takeTable id (s.bm i).tableSeq s.tick) i
  rw [State.bm_modBm_same _ hi] at hup
  refine ⟨hup.flights id ?_, hup.dirty id ?_⟩
  · rw [BeamStn.takeTable, tabFind_tabPut, if_pos rfl]
    rfl
  · rw [BeamStn.takeTable, tabGet_tabSet_same]

theorem State.tableFlies_keep {s t : State} {i id : Nat} (hup : (s.bm i).Uploads (t.bm i)) (h : s.tableFlies i id) :
    t.tableFlies i id :=
  ⟨hup.flights id h.1, hup.dirty id h.2⟩

/-- An upload of the tables below `n` puts each of them in flight. -/
theorem State.upload_shows {s : State} {i : Nat} (hi : i < s.beam.stns.length) (n : Nat) :
    (s.bm i).Uploads ((s.upTo n fun t id => t.sendTable i id).bm i) ∧
    (s.upTo n fun t id => t.sendTable i id).beam.stns.length = s.beam.stns.length ∧
    ∀ id < n, (s.upTo n fun t id => t.sendTable i id).tableFlies i id := by
  induction n with
  | zero => exact ⟨.refl _, rfl, fun id hid => absurd hid (Nat.not_lt_zero id)⟩
  | succ n ih =>
    obtain ⟨hup, hlen, hflies⟩ := ih
    rw [State.upTo_succ]
    have hnext := State.uploads_sendTable (s.upTo n fun t id => t.sendTable i id) i n
    refine ⟨hup.trans hnext, (State.length_sendTable _ i n).trans hlen, fun id hid => ?_⟩
    rcases Nat.lt_succ_iff_lt_or_eq.1 hid with hlt | rfl
    · exact State.tableFlies_keep hnext (hflies id hlt)
    · exact State.tableFlies_sendTable _ id (hlen ▸ hi)

/-! ### TABLE_PENDING (R272) -/

theorem State.flag_showPending (s : State) (i : Nat) :
    (s.showPending i).flag (Reg.BEAM_STN_STATE i) 10 = decide ((s.bm i).dirty ≠ []) :=
  State.flag_setFlag_same _ _ _ _ (by decide)

theorem State.bm_showPending (s : State) (i j : Nat) : (s.showPending i).bm j = s.bm j := rfl

theorem ne_nil_of_tabGet {t : Tab Bool} {id : Nat} (h : tabGet false t id = true) : t ≠ [] := by
  rintro rfl
  exact Bool.false_ne_true h

/-! ### Facet reports (R274, R276, R281, R288) -/

/-- The record of a station at which a report was gathered. -/
def State.reported (s : State) (i : Nat) : State := s.modBm i fun b => { b with reportAt := s.tick }

theorem State.bm_reported {s : State} {i : Nat} (hi : i < s.beam.stns.length) :
    (s.reported i).bm i = { s.bm i with reportAt := s.tick } :=
  State.bm_modBm_same _ hi

theorem execFacetReport_bad {i : Fin 8} {bs : List Byte} (s : State) (h : (readFacet bs).crcOk = false) :
    execFacetReport i bs s = .next (s.bump (Reg.BEAM_STN_COUNT_BADREP i)) := by
  rw [execFacetReport, h]
  rfl

/-- A report of the link that shows no sweep and no bad frame is taken for its SEQ and its head's temperature. -/
theorem execFacetReport_plain {i : Fin 8} {bs : List Byte} {s : State} (hcrc : (readFacet bs).crcOk = true)
    (hlink : s.beamLink i = 2) (hsweep : (readFacet bs).sweepValid = false) (hframe : (readFacet bs).frameBad = false) :
    execFacetReport i bs s = .next ((((s.reported i).wrN (Reg.BEAM_STN_FACET_SEQ i) (readFacet bs).seq).headTemp i
      (readFacet bs)).writeLive i (readFacet bs)) := by
  simp only [execFacetReport, hcrc, hlink, hsweep, hframe, Bool.not_true, Bool.false_eq_true, if_false]
  rfl

theorem State.reportAt_modBm (s : State) (i : Nat) {f : BeamStn → BeamStn}
    (hf : ∀ b, (f b).reportAt = b.reportAt := by exact fun _ => rfl) : ((s.modBm i f).bm i).reportAt = (s.bm i).reportAt :=
  s.bm_modBm_rel (P := fun x y => y.reportAt = x.reportAt) i hf fun _ => rfl

theorem State.reportAt_disarm (s : State) (i : Nat) : ((s.disarm i).bm i).reportAt = (s.bm i).reportAt := by
  rw [State.bm_congr (congrArg BeamBlk.stns (s.disarm_beam i))]
  exact s.reportAt_modBm i

/-- The station's record of its last report outlasts a shut-down of the head. -/
theorem State.reportAt_shutHead (s : State) (i : Nat) (r : FacetReport) :
    ((s.shutHead i r).bm i).reportAt = (s.bm i).reportAt := by
  unfold State.shutHead
  extract_lets s1 s2 s3
  have h1 : Frame (· ≠ .beam) (fun _ => True) s s1 :=
    State.facetReport_frame _ _ _ _ _ _ (State.setFlag_frame _ _ _ _ (State.setFlag_frame _ _ _ _ (.refl s) trivial)
      trivial) (by simp)
  have h2 : Frame (· ≠ .beam) (fun _ => True) s s2 :=
    State.legPost_frame _ _ (State.raiseBit_frame _ _ _ (State.event_frame _ _ _ _ (State.fault_frame _ _ _ _ h1
      (by simp)) (by simp)) (by simp) trivial) (by simp) trivial
  clear_value s2
  have h3 : (s3.bm i).reportAt = (s.bm i).reportAt := by
    refine (State.reportAt_modBm _ i).trans ?_
    rw [State.bm_setFlag, State.bm_congr (congrArg BeamBlk.stns (h2.parts .beam (not_not.2 rfl)))]
  split
  · exact h3
  · exact (State.reportAt_disarm s3 i).trans h3

/-- So it does whatever else the head's temperature brings. -/
theorem State.reportAt_headTemp (s : State) (i : Nat) (r : FacetReport) :
    ((s.headTemp i r).bm i).reportAt = (s.bm i).reportAt := by
  unfold State.headTemp
  extract_lets s1
  have hkeeps : Frame (· = .thm) (fun _ => True) s s1 :=
    State.thmReading_frame _ _ _ _ _ (State.setFld_frame _ _ _ _ _ (State.setFld_frame _ _ _ _ _ (.refl s) trivial)
      trivial) rfl fun _ => trivial
  have hbm := State.bm_congr (congrArg BeamBlk.stns (hkeeps.parts .beam (by simp))) i
  clear_value s1
  split
  · rw [State.reportAt_shutHead, hbm]
  · split
    · split <;> rw [State.reportAt_modBm, hbm]
    · rw [hbm]

/-- The head's temperature and the live areas leave FACET_SEQ. -/
theorem State.rd_facetSeq_headTemp (s : State) (i : Nat) (r : FacetReport) :
    ((s.headTemp i r).writeLive i r).rd (Reg.BEAM_STN_FACET_SEQ i) = s.rd (Reg.BEAM_STN_FACET_SEQ i) := by
  have hkeeps : Frame (fun _ => True) (· ≠ Reg.BEAM_STN_FACET_SEQ i) s ((s.headTemp i r).writeLive i r) := by
    refine State.writeLive_frame _ i r ?_ trivial
    apply State.headTemp_frame (hB := .refl s) <;> simp only [ne_eq, Reg.BEAM_STN_FACET_SEQ, Reg.BEAM_EVENTS,
      Reg.BEAM_STATUS, Reg.BEAM_STN_HEAD_TEMP, Reg.BEAM_STN_STATE, Reg.LEG_STATUS, Reg.THM_CH_TEMP]
    all_goals omega
  exact hkeeps.regs _ (not_not.2 rfl)

theorem State.bm_writeLive (s : State) (i : Nat) (r : FacetReport) (j : Nat) : (s.writeLive i r).bm j = s.bm j := by
  have hkeeps : Frame (· = .sram) (fun _ => False) s (s.writeLive i r) := State.writeLive_frame s i r (.refl s) rfl
  exact State.bm_congr (congrArg BeamBlk.stns (hkeeps.parts .beam (by simp))) j

/-! ### STATUS reports (R288, R290, R291) -/

theorem execStatusReport_uploads {i : Fin 8} {head : List Byte} {crc : Word} {s : State}
    (hcrc : (readStatus (endedBy head crc)).crcOk = true) (hready : (readStatus (endedBy head crc)).ready = true)
    (hlink : s.beamLink i = 1) (hfirst : (s.bm i).ready = false) : execStatusReport i head crc s =
      .next ((((s.reported i).modBm i fun b => { b with ready := true }).upTo beamTables fun t id =>
        t.sendTable i id).showPending i) := by
  simp only [execStatusReport, hcrc, hready, hlink, hfirst, Bool.not_true, Bool.false_eq_true, if_false, Bool.not_false,
    and_false, and_self, if_true]
  rfl

theorem execStatusReport_loses {i : Fin 8} {head : List Byte} {crc : Word} {s : State}
    (hcrc : (readStatus (endedBy head crc)).crcOk = true) (hready : (readStatus (endedBy head crc)).ready = false)
    (hlink : s.beamLink i = 2) : execStatusReport i head crc s = .next ((s.reported i).loseBeam i 3) := by
  simp only [execStatusReport, hcrc, hready, hlink, Bool.not_true, Bool.false_eq_true, if_false, Bool.not_false,
    and_self, if_true]
  rfl

/-! ### Acknowledgements (R272, R287) -/

theorem execTableAck_bad {i : Fin 8} {head : List Byte} {table crc : Word} (s : State)
    (h : (readAck (endedBy (endedBy head table) crc)).crcOk = false) :
    execTableAck i head table crc s = .next (s.bump (Reg.BEAM_STN_COUNT_BADREP i)) := by
  rw [execTableAck, h]
  rfl

theorem execTableAck_matches {i : Fin 8} {head : List Byte} {table crc : Word} {f : TableTx} {s : State}
    (hcrc : (readAck (endedBy (endedBy head table) crc)).crcOk = true)
    (hf : tabFind (s.bm i).flights (readAck (endedBy (endedBy head table) crc)).id = some f) (hsent : f.sent = true)
    (hseq : f.seq = (readAck (endedBy (endedBy head table) crc)).seq)
    (htable : (readAck (endedBy (endedBy head table) crc)).crc =
      crc32 (s.beamBytes i (readAck (endedBy (endedBy head table) crc)).id)) :
    execTableAck i head table crc s =
      .next ((s.reported i).tableAcked i (readAck (endedBy (endedBy head table) crc)).id) := by
  simp only [execTableAck, hcrc, hf, hsent, hseq, htable, Bool.not_true, Bool.false_eq_true, if_false, and_self, if_true]
  rfl

/-- A station's record once a table is acknowledged. -/
def BeamStn.acked (b : BeamStn) (id : Nat) : BeamStn :=
  { b with flights := tabDel b.flights id, dirty := tabSet false b.dirty id false }

/-- The items that wait for tables complete beside the stations. -/
theorem State.completeTables_stns (s : State) : s.completeTables.beam.stns = s.beam.stns := by
  unfold State.completeTables
  extract_lets settled blk s1
  have hkeeps : Frame (fun b => b ≠ .beam) (fun _ => True) s1
      ((s.beam.items.filter settled).foldl (fun t x => t.complete x.item 0 0) s1) :=
    Frame.foldl _ _ (.refl s1) fun u hu x => State.complete_frame u x.item 0 0 hu (by simp) (by simp) (by simp) trivial
  rw [hkeeps.parts .beam (not_not.2 rfl)]

theorem State.rd_completeTables (s : State) {a : Nat} (h : a ≠ Reg.HOST_ERR) : s.completeTables.rd a = s.rd a := by
  have hkeeps : Frame (fun _ => True) (· = Reg.HOST_ERR) s s.completeTables :=
    State.completeTables_frame s (.refl s) trivial trivial trivial trivial rfl
  exact hkeeps.regs a h

theorem State.tableAcked_shows {s : State} {i : Nat} (id : Nat) (hi : i < s.beam.stns.length) :
    (s.tableAcked i id).bm i = (s.bm i).acked id ∧
    (s.tableAcked i id).flag (Reg.BEAM_STN_STATE i) 10 = decide (((s.tableAcked i id).bm i).dirty ≠ []) := by
  have hne : Reg.BEAM_STN_STATE i ≠ Reg.HOST_ERR := by
    simp only [Reg.BEAM_STN_STATE, Reg.HOST_ERR]
    omega
  unfold State.tableAcked
  extract_lets s1 items
  have hacked : (({ s1 with beam := { s1.beam with items := items } } : State).completeTables).bm i =
      (s.bm i).acked id := by
    rw [State.bm_congr (State.completeTables_stns _), ← State.bm_modBm_same (BeamStn.acked · id) hi]
    rfl
  refine ⟨hacked, ?_⟩
  rw [hacked, State.flag_congr (State.rd_completeTables _ hne), ← State.bm_modBm_same (BeamStn.acked · id) hi]
  exact State.flag_showPending _ i

theorem execTableAckTimeout_fails {i : Fin 8} {id : Fin 20} {f : TableTx} {s : State}
    (hf : tabFind (s.bm i).flights id = some f) (hsent : f.sent = true) (hlate : f.stamp + 8 ≤ s.tick) :
    execTableAckTimeout i id s = .next (s.tableFailed i id f) := by
  simp only [execTableAckTimeout, hf, hsent, hlate, and_self, if_true]

/-- A station's record with a frame to be sent again. -/
def BeamStn.resend (b : BeamStn) (id : Nat) (f : TableTx) (tick : Nat) : BeamStn :=
  { b with flights := tabPut b.flights id ⟨f.seq, f.fails + 1, tick, false⟩ }

/-- The first and the second failure send the frame again (R287). -/
theorem State.tableFailed_resends {s : State} {i : Nat} (id : Nat) {f : TableTx} (h : f.fails < 2) :
    s.tableFailed i id f = (s.modBm i fun b => b.resend id f s.tick).sendWaiting i :=
  if_neg (by omega)

theorem execReportTimeout_loses {i : Fin 8} {s : State} (hlink : s.beamLink i = 2)
    (hlate : (s.bm i).reportAt + s.fld (Reg.BEAM_STN_CFG i) 31 24 ≤ s.tick) :
    execReportTimeout i s = .next (s.loseBeam i 1) :=
  if_pos ⟨hlink, hlate⟩

/-! ### The statement -/

/-- Settles O28, by the rule of the branch that each report takes and what a lost link, an upload and an acknowledgement
leave of the station. -/
theorem beamReportsAndTables : Obligations.BeamReportsAndTables := by
  unfold Obligations.BeamReportsAndTables
  refine ⟨?badReport, ?report, ?ready, ?notReady, ?late, ?acked, ?badAck, ?again⟩
  case badReport =>
    intro i bs s hcrc
    exact ⟨_, (exec_any (i := .facetReport i bs) rfl s).trans (execFacetReport_bad s hcrc), s.rdN_bump _,
      fun a ha => s.rd_bump_other ha, rfl⟩
  case report =>
    rintro i bs r s rfl hcrc hlink hsweep hframe hlen
    refine ⟨_, (exec_any (i := .facetReport i bs) rfl s).trans (execFacetReport_plain hcrc hlink hsweep hframe), ?_, ?_⟩
    · rw [State.rdN_congr (State.rd_facetSeq_headTemp _ i _), State.rdN_wrN_same]
    · rw [State.bm_writeLive, State.reportAt_headTemp, State.bm_wrN,
        State.bm_reported (by rw [hlen]; exact i.isLt)]
  case ready =>
    intro i head crc s hcrc hready hlink hfirst hlen
    refine ⟨_, (exec_any (i := .statusReport i head crc) rfl s).trans (execStatusReport_uploads hcrc hready hlink hfirst), ?_⟩
    have hi : i < s.beam.stns.length := by rw [hlen]; exact i.isLt
    have hi' : i < (s.reported i).beam.stns.length := by rw [State.reported, State.length_modBm]; exact hi
    have hbm := State.bm_modBm_same (fun b => { b with ready := true }) hi'
    rw [State.bm_reported hi] at hbm
    obtain ⟨hup, -, hflies⟩ := State.upload_shows (s := (s.reported i).modBm i fun b => { b with ready := true })
      (by rw [State.length_modBm]; exact hi') beamTables
    rw [hbm] at hup
    rw [State.flag_showPending, State.bm_showPending]
    refine ⟨hup.ready, hup.reportAt, fun id => hflies id id.isLt, ?_⟩
    exact decide_eq_true (ne_nil_of_tabGet (hflies 0 (by decide)).2)
  case notReady =>
    intro i head crc s hcrc hready hlink hlen
    refine ⟨_, (exec_any (i := .statusReport i head crc) rfl s).trans (execStatusReport_loses hcrc hready hlink), ?_⟩
    have hi : i < (s.reported i).beam.stns.length := by rw [State.reported, State.length_modBm, hlen]; exact i.isLt
    obtain ⟨hdown, hlog, harmed, hlden, hlost, hfault, -⟩ := State.loseBeam_shows 3 (s := s.reported i) (.inr hlink) hi
    exact ⟨hdown, hlog, harmed, hlden, hlost, hfault⟩
  case late =>
    intro i s hlink hlate hlen
    refine ⟨_, (exec_any (i := .reportTimeout i) rfl s).trans (execReportTimeout_loses hlink hlate), ?_⟩
    obtain ⟨hdown, hlog, harmed, hlden, hlost, hfault, hevent⟩ :=
      State.loseBeam_shows 1 (.inr hlink) (by rw [hlen]; exact i.isLt)
    rw [hlink] at hevent
    exact ⟨hdown, hlog, harmed, hlden, hlost, hfault, hevent⟩
  case acked =>
    rintro i head table crc r f s rfl hcrc hf hsent hseq htable hlen
    refine ⟨_, (exec_any (i := .tableAck i head table crc) rfl s).trans
      (execTableAck_matches hcrc hf hsent hseq htable), ?_⟩
    have hi : i < s.beam.stns.length := by rw [hlen]; exact i.isLt
    obtain ⟨hbm, hpending⟩ := State.tableAcked_shows (s := s.reported i) (i := i)
      (readAck (endedBy (endedBy head table) crc)).id (by rw [State.reported, State.length_modBm]; exact hi)
    refine ⟨?_, ?_, ?_, hpending⟩
    · rw [hbm, BeamStn.acked, tabFind_tabDel, if_pos rfl]
    · rw [hbm, BeamStn.acked, tabGet_tabSet_same]
    · rw [hbm, BeamStn.acked, State.bm_reported hi]
  case badAck =>
    intro i head table crc s hcrc
    exact ⟨_, (exec_any (i := .tableAck i head table crc) rfl s).trans (execTableAck_bad s hcrc), s.rdN_bump _, rfl⟩
  case again =>
    intro i id f s hf hsent hlate hfails htime hlen
    refine ⟨_, (exec_any (i := .tableAckTimeout i id) rfl s).trans (execTableAckTimeout_fails hf hsent hlate), ?_⟩
    have hi : i < s.beam.stns.length := by rw [hlen]; exact i.isLt
    have hbm := State.bm_sendWaiting (s := s.modBm i fun b => b.resend id f s.tick) htime
      (by rw [State.length_modBm]; exact hi)
    rw [State.bm_modBm_same _ hi] at hbm
    rw [State.tableFailed_resends id hfails]
    refine ⟨?_, fun a => (State.rd_sendWaiting _ i a).trans (State.rd_modBm _ _ _ a), ?_⟩
    · rw [hbm, BeamStn.tabFind_framesSent, BeamStn.resend, tabFind_tabPut, if_pos rfl]
      rfl
    · rw [hbm, BeamStn.framesSent, BeamStn.resend]

end Sys2Proof.Machine
end

section
/-!
SUPPORT. Arming, the interlock and the failover maps (R273 to R283): what each request leaves of its station, and the proof
of the statement about them.
-/

namespace Sys2Proof.Machine

/-! ### Arming (R273, R282) -/

/-- The drive of each emitter at its nominal power (R274). -/
def State.nominalDrive (s : State) (i : Nat) : Tab Nat :=
  (List.range 64).foldl (fun t p => tabSet 0 t p (s.powerField i p 23 12)) []

theorem tabGet_foldl_tabSet {α : Type} [DecidableEq α] (d : α) (l : List Nat) (t : Tab α) (g : Nat → α) (j : Nat) :
    tabGet d (l.foldl (fun t p => tabSet d t p (g p)) t) j = if j ∈ l then g j else tabGet d t j := by
  induction l generalizing t with
  | nil => rfl
  | cons p l ih =>
    rw [List.foldl_cons, ih, tabGet_tabSet]
    by_cases hl : j ∈ l
    · rw [if_pos hl, if_pos (List.mem_cons_of_mem p hl)]
    · by_cases hp : j = p
      · subst hp
        rw [if_neg hl, if_pos rfl, if_pos List.mem_cons_self]
      · rw [if_neg hl, if_neg hp, if_neg (List.not_mem_cons_of_ne_of_not_mem hp hl)]

theorem State.tabGet_nominalDrive (s : State) (i : Nat) {p : Nat} (hp : p < 64) :
    tabGet 0 (s.nominalDrive i) p = s.powerField i p 23 12 := by
  rw [State.nominalDrive, tabGet_foldl_tabSet, if_pos (List.mem_range.2 hp)]

/-- A station's record when it is armed. -/
def BeamStn.armedWith (b : BeamStn) (drive : Tab Nat) : BeamStn :=
  { b with rising := true, lost := false, drive := drive, sat := [] }

/-- The station armed, before its pending tables go out. -/
def State.armsStation (s : State) (i : Nat) : State :=
  ((s.setFlag (Reg.BEAM_STN_STATE i) 3 true).modBm i fun b => b.armedWith (s.nominalDrive i)).setFlag
    (Reg.BEAM_STN_STATE i) 11 false

theorem State.armStation_eq (s : State) (i : Nat) : s.armStation i =
    (((s.bm i).dirty.map (·.1)).filter fun id => (tabFind (s.bm i).flights id).isNone).foldl
      (fun t id => t.sendTable i id) (s.armsStation i) := rfl

/-- The pending tables go out beside the registers, and an upload keeps what arming set. -/
theorem State.sendTables_shows (l : List Nat) (s : State) (i : Nat) :
    (s.bm i).Uploads ((l.foldl (fun t id => t.sendTable i id) s).bm i) ∧
    ∀ a, (l.foldl (fun t id => t.sendTable i id) s).rd a = s.rd a := by
  induction l generalizing s with
  | nil => exact ⟨.refl _, fun _ => rfl⟩
  | cons id l ih =>
    obtain ⟨hup, hrd⟩ := ih (s.sendTable i id)
    exact ⟨(s.uploads_sendTable i id).trans hup, fun a => (hrd a).trans ((s.sendTable_keeps i id).regs a not_false)⟩

theorem State.armed_armsStation (s : State) (i : Nat) : (s.armsStation i).armed i = true := by
  rw [State.armed, State.armsStation, State.flag_setFlag_other _ _ _ _ _ _ (by decide) (.inr (by decide)),
    State.flag_congr (State.rd_modBm _ _ _ _)]
  exact State.flag_setFlag_same _ _ _ _ (by decide)

theorem State.ldenHigh_armsStation (s : State) (i : Nat) : (s.armsStation i).ldenHigh i = s.ldenHigh i := by
  rw [State.ldenHigh, State.armsStation, State.flag_setFlag_other _ _ _ _ _ _ (by decide) (.inr (by decide)),
    State.flag_congr (State.rd_modBm _ _ _ _), State.flag_setFlag_other _ _ _ _ _ _ (by decide) (.inr (by decide)),
    State.ldenHigh]

theorem State.rd_armsStation_other (s : State) (i : Nat) {a : Nat} (h : a ≠ Reg.BEAM_STN_STATE i) :
    (s.armsStation i).rd a = s.rd a := by
  rw [State.armsStation, State.rd_setFlag_other _ _ _ h, State.rd_modBm, State.rd_setFlag_other _ _ _ h]

theorem State.bm_armsStation {s : State} {i : Nat} (hi : i < s.beam.stns.length) :
    (s.armsStation i).bm i = (s.bm i).armedWith (s.nominalDrive i) := by
  rw [State.armsStation, State.bm_setFlag, State.bm_modBm_same _ (by rw [State.setFlag_beam]; exact hi), State.bm_setFlag]

theorem State.armStation_shows {s : State} {i : Nat} (hi : i < s.beam.stns.length) :
    ((s.bm i).armedWith (s.nominalDrive i)).Uploads ((s.armStation i).bm i) ∧
    ∀ a, (s.armStation i).rd a = (s.armsStation i).rd a := by
  rw [State.armStation_eq, ← State.bm_armsStation hi]
  exact State.sendTables_shows _ _ i

theorem State.requestArm_accepted {s : State} {i : Nat} (hallowed : s.ldenAllowed i = true)
    (husable : s.mapUsable i 0 = true) (hA : s.mapMode i 0 false = true) (hB : s.mapMode i 0 true = true)
    (harmed : s.armed i = false) : s.requestArm i = s.armStation i := by
  simp only [State.requestArm, hallowed, husable, hA, hB, harmed, Bool.and_self, if_true, Bool.false_eq_true, if_false]

theorem State.requestArm_refused {s : State} {i : Nat}
    (h : (s.ldenAllowed i && s.mapUsable i 0 && s.mapMode i 0 false && s.mapMode i 0 true) = false) :
    s.requestArm i = s.raiseBit Reg.BEAM_EVENTS 9 := by
  rw [State.requestArm, h]
  rfl

theorem execLdenRise_rises {i : Fin 8} {s : State} (hrising : (s.bm i).rising = true) (harmed : s.armed i = true)
    (hallowed : s.ldenAllowed i = true) (hdirty : (s.bm i).dirty = []) (hio : s.clk.ioLow = false) :
    execLdenRise i s = .next ((s.setLden i true).modBm i fun b => { b with rising := false }) := by
  simp only [execLdenRise, hrising, harmed, hallowed, hdirty, hio, decide_true, Bool.not_false, Bool.and_self, if_true]

/-! ### The interlock (R283) -/

/-- Of every station below `n` the laser is off, and of the interlock's flags nothing has changed. -/
structure DarkBelow (n : Nat) (s t : State) : Prop where
  dark : ∀ i : Fin 8, i < n → t.armed i = false ∧ t.ldenHigh i = false
  status : ∀ j, 8 ≤ j → t.flag Reg.BEAM_STATUS j = s.flag Reg.BEAM_STATUS j

/-- DARK goes to the first `n` stations. -/
def State.darkFirst (s : State) (n : Nat) : State := s.upTo n fun t i => (t.disarm i).emit (.dark i)

theorem State.darkFirst_succ (s : State) (n : Nat) :
    s.darkFirst (n + 1) = ((s.darkFirst n).disarm n).emit (.dark n) :=
  s.upTo_succ n _

theorem State.darkFirst_shows (s : State) {n : Nat} (hn : n ≤ 8) : DarkBelow n s (s.darkFirst n) := by
  induction n with
  | zero => exact ⟨fun i hi => absurd hi (Nat.not_lt_zero i), fun _ _ => rfl⟩
  | succ n ih =>
    obtain ⟨hdark, hstatus⟩ := ih (by omega)
    rw [State.darkFirst_succ]
    refine ⟨fun i hi => ?_, fun j hj => (State.flag_disarm_status _ (by omega) hj).trans (hstatus j hj)⟩
    show ((s.darkFirst n).disarm n).armed i = false ∧ ((s.darkFirst n).disarm n).ldenHigh i = false
    rcases Nat.lt_succ_iff_lt_or_eq.1 hi with hlt | rfl
    · obtain ⟨harmed, hlden⟩ := State.disarm_keeps_other (s.darkFirst n) (i := ⟨n, by omega⟩) (j := i)
        (Fin.ne_of_val_ne (Nat.ne_of_lt hlt))
      exact ⟨harmed.trans (hdark i hlt).1, hlden.trans (hdark i hlt).2⟩
    · exact ⟨State.armed_disarm _ _, State.ldenHigh_disarm _ _⟩

/-- The flags of the latched interlock, before the stations go dark. -/
def State.latchInterlock (s : State) : State :=
  (s.setFlag Reg.BEAM_STATUS 8 false).setFlag Reg.BEAM_STATUS 9 true

theorem State.flag_latchInterlock (s : State) :
    s.latchInterlock.flag Reg.BEAM_STATUS 8 = false ∧ s.latchInterlock.flag Reg.BEAM_STATUS 9 = true := by
  refine ⟨?_, State.flag_setFlag_same _ _ _ _ (by decide)⟩
  rw [State.latchInterlock, State.flag_setFlag_other _ _ _ _ _ _ (by decide) (.inr (by decide))]
  exact State.flag_setFlag_same _ _ _ _ (by decide)

theorem State.rd_lsiLow (s : State) (a : Nat) : s.lsiLow.rd a = (s.latchInterlock.darkFirst 8).rd a := rfl

/-- The record of a low that finds none waiting. -/
theorem State.interlock_lsiLow {s : State} (h : s.beam.interlock = none) :
    s.lsiLow.beam.interlock = some (s.tick, s.fld Reg.BEAM_STATUS 7 0) := by
  rw [State.lsiLow, h]

/-- What is left once a low is gathered: every COMMITTED sheet is spoiled, and the low is reported. -/
def State.gatherInterlock (s : State) (mask : Nat) : State :=
  (((((({ s with beam := { s.beam with interlock := none } } : State).spoilAll 0x06 fun _ => true).fault 0x208 0x13 0).event
    0x0805 [mask]).bump Reg.BEAM_ILK_COUNT).raiseBit Reg.BEAM_EVENTS 4).legPost 0x11

theorem effInterlockGathered_gathers {s : State} {n mask : Nat} (h : s.beam.interlock = some (n, mask))
    (hn : n < s.tick) : effInterlockGathered s = .next (s.gatherInterlock mask) := by
  rw [effInterlockGathered, h]
  exact if_pos hn

/-- The spoiling of sheets reaches the ledger and what it cancels, not the beams. -/
theorem State.spoilAll_keeps (s : State) (cause : Nat) (p : Sheet → Bool) (stn : Nat) :
    Frame (fun b => b ≠ .beam ∧ b ≠ .tick) (fun a => a < 0xB0000) s (s.spoilAll cause p stn) := by
  apply State.spoilAll_frame (hB := .refl s) <;> decide

theorem State.gatherInterlock_shows (s : State) (mask : Nat) :
    (s.gatherInterlock mask).beam.interlock = none ∧
    (s.gatherInterlock mask).rdN Reg.BEAM_ILK_COUNT = (s.rdN Reg.BEAM_ILK_COUNT + 1) % 2 ^ 32 ∧
    (s.gatherInterlock mask).flag Reg.BEAM_EVENTS 4 = true ∧
    ⟨0x208, 0x13, 0, s.tick⟩ ∈ (s.gatherInterlock mask).flt.sent ∧
    ⟨0x0805, s.tick, 0, [mask]⟩ ∈ (s.gatherInterlock mask).hwd.sent := by
  unfold State.gatherInterlock
  generalize hu : ({ s with beam := { s.beam with interlock := none } } : State).spoilAll 0x06 (fun _ => true) = u
  have hkeeps := State.spoilAll_keeps { s with beam := { s.beam with interlock := none } } 0x06 (fun _ => true) 0xFF
  rw [hu] at hkeeps
  have htick : u.tick = s.tick := hkeeps.parts .tick (by simp)
  refine ⟨?interlock, ?count, ?flag, ?fault, ?event⟩
  case interlock =>
    rw [State.legPost_beam, State.raiseBit_beam]
    exact congrArg BeamBlk.interlock (hkeeps.parts .beam (by simp))
  case count =>
    rw [State.rdN_congr (State.rd_legPost_other _ _ (by decide)), State.rdN_congr (State.rd_raiseBit_other _ _ (by decide)),
      State.rdN_bump]
    exact congrArg (fun n => (n + 1) % 2 ^ 32) (State.rdN_congr (hkeeps.regs Reg.BEAM_ILK_COUNT (by decide)))
  case flag =>
    rw [State.flag_congr (State.rd_legPost_other _ _ (by decide))]
    exact State.flag_raiseBit_same _ _ _ (by decide)
  case fault =>
    rw [State.legPost_flt, State.raiseBit_flt, ← htick]
    exact List.mem_append_right _ (List.mem_singleton_self _)
  case event =>
    rw [State.legPost_hwd, State.raiseBit_hwd, ← htick]
    exact List.mem_append_right _ (List.mem_singleton_self _)

theorem State.ilkClear_clears {s : State} (hhigh : s.flag Reg.BEAM_STATUS 8 = true)
    (hqual : s.fld Reg.BEAM_CFG 15 0 ≤ s.beam.lsiHigh) :
    s.ilkClear = (s.setFlag Reg.BEAM_STATUS 9 false).event 0x0806 [s.beam.lsiHigh] :=
  if_pos ⟨hhigh, hqual⟩

/-! ### Failover maps (R276 to R279) -/

/-- A station with its choice of map made. -/
def State.selectMap (s : State) (i m : Nat) (decided : Option Nat) (facets : Nat) : State :=
  ((((s.setFlag (Reg.BEAM_STN_STATE i) 8 false).modBm i fun b => { b with
    mapNext := some ⟨m, decided, facets⟩ }).bump (Reg.BEAM_STN_COUNT_FAILOVER i)).raiseBit Reg.BEAM_EVENTS 1).event 0x0802
    [i, s.mapTarget i, m, s.failedSet i]

/-- NO_MAP is no part of the map's number. -/
theorem State.mapTarget_setNoMap (s : State) (i : Nat) (b : Bool) :
    (s.setFlag (Reg.BEAM_STN_STATE i) 8 b).mapTarget i = s.mapTarget i := by
  rw [State.mapTarget, State.mapNow, State.fld_setFlag_other _ _ _ _ _ _ _ (by decide) (.inr (.inl (by decide))),
    State.bm_setFlag, State.mapTarget, State.mapNow]

theorem State.chooseMap_selects {s : State} {i m : Nat} (decided : Option Nat) (facets : Nat)
    (hm : s.covering i = some m) (hnew : m ≠ s.mapTarget i) :
    s.chooseMap i decided facets = s.selectMap i m decided facets := by
  simp only [State.chooseMap, hm, State.mapTarget_setNoMap, hnew, if_false, Bool.false_eq_true]
  rfl

theorem State.selectMap_shows {s : State} {i : Nat} (m : Nat) (decided : Option Nat) (facets : Nat)
    (hi : i < s.beam.stns.length) :
    ((s.selectMap i m decided facets).bm i).mapNext = some ⟨m, decided, facets⟩ ∧
    (s.selectMap i m decided facets).noMap i = false ∧
    (s.selectMap i m decided facets).rdN (Reg.BEAM_STN_COUNT_FAILOVER i) =
      (s.rdN (Reg.BEAM_STN_COUNT_FAILOVER i) + 1) % 2 ^ 32 ∧
    (s.selectMap i m decided facets).flag Reg.BEAM_EVENTS 1 = true ∧
    (s.selectMap i m decided facets).hwd.sent =
      s.hwd.sent ++ [⟨0x0802, s.tick, 0, [i, s.mapTarget i, m, s.failedSet i]⟩] := by
  have hevents := beamState_ne_of_lt i (show Reg.BEAM_EVENTS < 0xB0100 by decide)
  have hcount := beamState_ne_failover i i
  have hcount' : Reg.BEAM_STN_COUNT_FAILOVER i ≠ Reg.BEAM_EVENTS := by
    simp only [Reg.BEAM_STN_COUNT_FAILOVER, Reg.BEAM_EVENTS]
    omega
  refine ⟨?next, ?noMap, ?count, ?flag, ?sent⟩
  case next =>
    rw [State.selectMap, State.bm_event, State.bm_raiseBit, State.bm_bump,
      State.bm_modBm_same _ (by rw [State.setFlag_beam]; exact hi)]
  case noMap =>
    rw [State.noMap, State.selectMap, State.flag_congr (State.rd_event _ _ _ _ _),
      State.flag_congr (State.rd_raiseBit_other _ _ hevents), State.flag_congr (State.rd_bump_other _ hcount),
      State.flag_congr (State.rd_modBm _ _ _ _)]
    exact State.flag_setFlag_same _ _ _ _ (by decide)
  case count =>
    rw [State.selectMap, State.rdN_congr (State.rd_event _ _ _ _ _), State.rdN_congr (State.rd_raiseBit_other _ _ hcount'),
      State.rdN_bump, State.rdN_congr (State.rd_modBm _ _ _ _), State.rdN_congr (State.rd_setFlag_other _ _ _ hcount.symm)]
  case flag =>
    rw [State.selectMap, State.flag_congr (State.rd_event _ _ _ _ _)]
    exact State.flag_raiseBit_same _ _ _ (by decide)
  case sent =>
    rw [State.selectMap, State.sent_event, State.raiseBit_hwd, State.raiseBit_tick]
    rfl

/-- A station for which no map covers the failed set: NO_MAP, and its report (R279). -/
def State.loseMap (s : State) (i : Nat) : State :=
  ((((s.setFlag (Reg.BEAM_STN_STATE i) 8 true).fault (0x200 + i) 0x12 0).raiseBit Reg.BEAM_EVENTS 2).event 0x0803
    [i, s.failedSet i]).legPost 0x31

/-- What a choice of map can do: nothing, report that none covers, clear NO_MAP, or select another. -/
theorem State.chooseMap_cases (s : State) (i : Nat) (decided : Option Nat) (facets : Nat) :
    s.chooseMap i decided facets = s ∨ s.chooseMap i decided facets = s.loseMap i ∨
    s.chooseMap i decided facets = s.setFlag (Reg.BEAM_STN_STATE i) 8 false ∨
    ∃ m, s.chooseMap i decided facets = s.selectMap i m decided facets := by
  cases hm : s.covering i with
  | none =>
    have hnone : s.chooseMap i decided facets = if s.noMap i then s else s.loseMap i := by
      simp only [State.chooseMap, hm]
      rfl
    rw [hnone]
    split
    · exact .inl rfl
    · exact .inr (.inl rfl)
  | some m =>
    by_cases hsame : m = s.mapTarget i
    · refine .inr (.inr (.inl ?_))
      simp only [State.chooseMap, hm, State.mapTarget_setNoMap, hsame, if_true]
    · exact .inr (.inr (.inr ⟨m, State.chooseMap_selects decided facets hm hsame⟩))

/-- What a choice of map leaves of its station and of the events handed over. -/
structure MapChosen (i : Nat) (s t : State) : Prop where
  link : t.beamLink i = s.beamLink i
  sweeps : (t.bm i).sweeps = (s.bm i).sweeps
  reportAt : (t.bm i).reportAt = (s.bm i).reportAt
  sent : ∀ e ∈ s.hwd.sent, e ∈ t.hwd.sent

/-- NO_MAP is no part of the link's state. -/
theorem State.beamLink_setNoMap (s : State) (i : Nat) (b : Bool) :
    (s.setFlag (Reg.BEAM_STN_STATE i) 8 b).beamLink i = s.beamLink i :=
  State.fld_setFlag_other _ _ _ _ _ _ _ (by decide) (.inr (.inl (by decide)))

theorem State.setNoMap_chosen (s : State) (i : Nat) (b : Bool) :
    MapChosen i s (s.setFlag (Reg.BEAM_STN_STATE i) 8 b) :=
  ⟨s.beamLink_setNoMap i b, rfl, rfl, fun _ => id⟩

theorem State.loseMap_chosen (s : State) (i : Nat) : MapChosen i s (s.loseMap i) := by
  have hleg : Reg.BEAM_STN_STATE i ≠ Reg.LEG_STATUS := by
    simp only [Reg.BEAM_STN_STATE, Reg.LEG_STATUS]
    omega
  have hevents := beamState_ne_of_lt i (show Reg.BEAM_EVENTS < 0xB0100 by decide)
  have hbm : (s.loseMap i).bm i = s.bm i := by
    rw [State.loseMap, State.bm_legPost, State.bm_event, State.bm_raiseBit, State.bm_fault, State.bm_setFlag]
  refine ⟨?_, by rw [hbm], by rw [hbm], fun e he => ?_⟩
  · rw [State.beamLink, State.loseMap, State.fld_congr (State.rd_legPost_other _ _ hleg),
      State.fld_congr (State.rd_event _ _ _ _ _), State.fld_congr (State.rd_raiseBit_other _ _ hevents),
      State.fld_congr (State.rd_fault _ _ _ _ _)]
    exact s.beamLink_setNoMap i true
  · rw [State.loseMap, State.legPost_hwd, State.sent_event, State.raiseBit_hwd]
    exact List.mem_append_left _ he

theorem State.selectMap_chosen (s : State) (i m : Nat) (decided : Option Nat) (facets : Nat) :
    MapChosen i s (s.selectMap i m decided facets) := by
  have hevents := beamState_ne_of_lt i (show Reg.BEAM_EVENTS < 0xB0100 by decide)
  have hbm : (s.selectMap i m decided facets).bm i = (s.modBm i fun b => { b with
      mapNext := some ⟨m, decided, facets⟩ }).bm i := by
    rw [State.selectMap, State.bm_event, State.bm_raiseBit, State.bm_bump]
    rfl
  refine ⟨?_, ?_, ?_, fun e he => ?_⟩
  · rw [State.beamLink, State.selectMap, State.fld_congr (State.rd_event _ _ _ _ _),
      State.fld_congr (State.rd_raiseBit_other _ _ hevents),
      State.fld_congr (State.rd_bump_other _ (beamState_ne_failover i i)), State.fld_congr (State.rd_modBm _ _ _ _)]
    exact s.beamLink_setNoMap i false
  · rw [hbm]
    exact s.bm_modBm_rel (P := fun x y => y.sweeps = x.sweeps) i (fun _ => rfl) fun _ => rfl
  · rw [hbm]
    exact s.reportAt_modBm i
  · rw [State.selectMap, State.sent_event, State.raiseBit_hwd]
    exact List.mem_append_left _ he

theorem State.chooseMap_chosen (s : State) (i : Nat) (decided : Option Nat) (facets : Nat) :
    MapChosen i s (s.chooseMap i decided facets) := by
  rcases s.chooseMap_cases i decided facets with h | h | h | ⟨m, h⟩
  · rw [h]
    exact ⟨rfl, rfl, rfl, fun _ => id⟩
  · rw [h]
    exact s.loseMap_chosen i
  · rw [h]
    exact s.setNoMap_chosen i false
  · rw [h]
    exact s.selectMap_chosen i m decided facets

theorem State.chooseMap_keeps (s : State) (i : Nat) (decided : Option Nat) (facets : Nat) (now : Bool) :
    Frame (fun _ => True) (fun a => a ≠ Reg.BEAM_STN_FAILED_LO i ∧ a ≠ Reg.BEAM_STN_FAILED_HI i) s
      (s.chooseMap i decided facets now) := by
  apply State.chooseMap_frame (hB := .refl s) <;> simp only [Reg.BEAM_EVENTS, Reg.BEAM_STN_COUNT_FAILOVER,
    Reg.BEAM_STN_STATE, Reg.LEG_STATUS, Reg.BEAM_STN_FAILED_LO, Reg.BEAM_STN_FAILED_HI]
  all_goals omega

theorem State.failedSet_congr {s t : State} {i : Nat}
    (hlo : t.rd (Reg.BEAM_STN_FAILED_LO i) = s.rd (Reg.BEAM_STN_FAILED_LO i))
    (hhi : t.rd (Reg.BEAM_STN_FAILED_HI i) = s.rd (Reg.BEAM_STN_FAILED_HI i)) : t.failedSet i = s.failedSet i := by
  rw [State.failedSet, State.rdN_congr hlo, State.rdN_congr hhi, State.failedSet]

theorem State.failedSet_setFailedSet_zero (s : State) (i : Nat) : (s.setFailedSet i 0).failedSet i = 0 := by
  have hne : Reg.BEAM_STN_FAILED_LO i ≠ Reg.BEAM_STN_FAILED_HI i := by
    simp only [Reg.BEAM_STN_FAILED_LO, Reg.BEAM_STN_FAILED_HI]
    omega
  rw [State.failedSet, State.setFailedSet, State.rdN_wrN_other _ _ hne, State.rdN_wrN_same, State.rdN_wrN_same]
  rfl

/-- The failed set emptied with the results of earlier sweeps, before the map is chosen again. -/
def State.emptyFailed (s : State) (i : Nat) : State :=
  (s.setFailedSet i 0).modBm i fun b => { b with sweeps := [] }

theorem State.clearFailed_idle {s : State} {i : Nat} (h : s.stationBusy i = false) :
    s.clearFailed i = (s.emptyFailed i).chooseMap i (some s.tick) 0 := by
  simp only [State.clearFailed, h, Bool.false_eq_true, if_false]
  rfl

theorem State.clearFailed_shows {s : State} {i : Nat} (h : s.stationBusy i = false) (hi : i < s.beam.stns.length) :
    (s.clearFailed i).failedSet i = 0 ∧ ((s.clearFailed i).bm i).sweeps = [] := by
  have hregs := ((s.emptyFailed i).chooseMap_keeps i (some s.tick) 0 false).regs
  rw [State.clearFailed_idle h]
  constructor
  · rw [State.failedSet_congr (hregs _ fun k => k.1 rfl) (hregs _ fun k => k.2 rfl)]
    exact s.failedSet_setFailedSet_zero i
  · have hlen : i < (s.setFailedSet i 0).beam.stns.length := by
      rw [State.setFailedSet, State.wrN_beam, State.wrN_beam]
      exact hi
    rw [((s.emptyFailed i).chooseMap_chosen i (some s.tick) 0).sweeps, State.emptyFailed, State.bm_modBm_same _ hlen]

/-! ### The statement -/

/-- Settles O29, by the branch that each request takes on the state in which it is decided, and what arming, disarming and a
choice of map leave of the station. -/
theorem armingInterlockAndMaps : Obligations.ArmingInterlockAndMaps := by
  unfold Obligations.ArmingInterlockAndMaps
  refine ⟨?arms, ?refused, ?disarms, ?rises, ?low, ?gathered, ?cleared, ?reselected, ?emptied⟩
  case arms =>
    intro i s0 s hb hallowed husable hA hB harmed hlen
    refine ⟨s.armStation i, (exec_decision (i := .arm i) rfl hb).trans
      (congrArg Host.Outcome.next (State.requestArm_accepted hallowed husable hA hB harmed)), ?_⟩
    obtain ⟨hup, hrd⟩ := State.armStation_shows (s := s) (i := i) (by rw [hlen]; exact i.isLt)
    have hevents := beamState_ne_of_lt i (show Reg.BEAM_EVENTS < 0xB0100 by decide)
    refine ⟨?_, hup.rising, hup.lost, hup.sat, fun p => ?_, ?_, ?_⟩
    · exact (State.flag_congr (hrd _) 3).trans (s.armed_armsStation i)
    · rw [hup.drive]
      exact s.tabGet_nominalDrive i p.isLt
    · exact (State.flag_congr (hrd _) 2).trans (s.ldenHigh_armsStation i)
    · rw [hrd, State.rd_armsStation_other _ _ hevents.symm]
  case refused =>
    intro i s0 s hb hnot
    exact ⟨_, exec_decision (i := .arm i) rfl hb, State.requestArm_refused hnot⟩
  case disarms =>
    intro i s0 s hb hlen
    refine ⟨_, exec_decision (i := .disarm i) rfl hb, s.armed_disarm i, s.ldenHigh_disarm i, ?_,
      fun j hj => s.disarm_keeps_other hj⟩
    rw [State.bm_disarm _ (by rw [hlen]; exact i.isLt), BeamStn.disarmed]
  case rises =>
    intro i s hrising harmed hallowed hdirty hio hlen
    refine ⟨_, (exec_any (i := .ldenRise i) rfl s).trans (execLdenRise_rises hrising harmed hallowed hdirty hio),
      s.ldenHigh_setLden i true, ?_, ?_⟩
    · rw [State.bm_modBm_same _ (by rw [State.setLden_beam, hlen]; exact i.isLt)]
    · exact (s.flag_setLden_state i true (by decide)).trans harmed
  case low =>
    intro s hnone
    obtain ⟨hdark, hstatus⟩ := s.latchInterlock.darkFirst_shows (Nat.le_refl 8)
    obtain ⟨hlow, hlatch⟩ := s.flag_latchInterlock
    refine ⟨_, exec_any (i := .lsiNLow) rfl s, ?_, ?_, fun i => ?_, State.interlock_lsiLow hnone⟩
    · exact (State.flag_congr (s.rd_lsiLow _) 8).trans ((hstatus 8 (by decide)).trans hlow)
    · exact (State.flag_congr (s.rd_lsiLow _) 9).trans ((hstatus 9 (by decide)).trans hlatch)
    · obtain ⟨harmed, hlden⟩ := hdark i i.isLt
      exact ⟨(State.flag_congr (s.rd_lsiLow _) 3).trans harmed, (State.flag_congr (s.rd_lsiLow _) 2).trans hlden⟩
  case gathered =>
    intro n mask s0 s hb hready hlow hn
    exact ⟨_, (exec_ledg_ready (i := .interlockGathered) rfl hb hready).trans (effInterlockGathered_gathers hlow hn),
      s.gatherInterlock_shows mask⟩
  case cleared =>
    intro s0 s hb hhigh hqual
    refine ⟨_, (exec_decision (i := .ilkClear) rfl hb).trans
      (congrArg Host.Outcome.next (State.ilkClear_clears hhigh hqual)), ?_, ?_, fun a ha => ?_⟩
    · rw [State.flag_congr (State.rd_event _ _ _ _ _)]
      exact State.flag_setFlag_same _ _ _ _ (by decide)
    · rw [State.sent_event, State.setFlag_hwd, State.setFlag_tick]
    · rw [State.rd_event, State.rd_setFlag_other _ _ _ ha]
  case reselected =>
    intro i m s0 s hb hm hnew hlen
    exact ⟨_, (exec_decision (i := .reselect i) rfl hb).trans
      (congrArg Host.Outcome.next (State.chooseMap_selects (some s.tick) 0 hm hnew)),
      State.selectMap_shows m (some s.tick) 0 (by rw [hlen]; exact i.isLt)⟩
  case emptied =>
    intro i s0 s hb hidle hlen
    exact ⟨_, exec_decision (i := .clearFailed i) rfl hb,
      State.clearFailed_shows hidle (by rw [hlen]; exact i.isLt)⟩

end Sys2Proof.Machine
end

section
/-!
SUPPORT. The serial links (R290, R291, R297, R334, R364): a change of state of each kind of link, what the training and the
loss of any link leave, and the proof of the statement about them.
-/

namespace Sys2Proof.Machine

/-! ### The state register of a step, axis or HV link -/

/-- A new state in the register of a link; CAUSE keeps what the last FAULT recorded. -/
def State.markLink (s : State) (a new cause : Nat) : State :=
  if new = 3 then (s.setFld a 1 0 new).setFld a 19 16 cause else s.setFld a 1 0 new

theorem State.fld_markLink (s : State) (a : Nat) {new : Nat} (cause : Nat) (hnew : new < 4) :
    (s.markLink a new cause).fld a 1 0 = new := by
  have hset : (s.setFld a 1 0 new).fld a 1 0 = new :=
    (s.fld_setFld_same a 1 0 new (by decide) (by decide)).trans (Nat.mod_eq_of_lt hnew)
  unfold State.markLink
  split
  · rw [State.fld_setFld_other _ _ _ _ _ _ _ _ (by decide) (by decide) (.inr (.inl (by decide))), hset]
  · exact hset

/-- NODES stays. -/
theorem State.nodes_markLink (s : State) (a new cause : Nat) :
    (s.markLink a new cause).fld a 12 8 = s.fld a 12 8 := by
  have hset : (s.setFld a 1 0 new).fld a 12 8 = s.fld a 12 8 :=
    State.fld_setFld_other _ _ _ _ _ _ _ _ (by decide) (by decide) (.inr (.inr (by decide)))
  unfold State.markLink
  split
  · rw [State.fld_setFld_other _ _ _ _ _ _ _ _ (by decide) (by decide) (.inr (.inl (by decide))), hset]
  · exact hset

theorem State.rd_markLink_other (s : State) {a b : Nat} (new cause : Nat) (h : b ≠ a) :
    (s.markLink a new cause).rd b = s.rd b := by
  unfold State.markLink
  split
  · rw [State.rd_setFld_other _ _ _ _ h, State.rd_setFld_other _ _ _ _ h]
  · exact State.rd_setFld_other _ _ _ _ h

theorem State.markLink_keeps (s : State) (a new cause : Nat) :
    (s.markLink a new cause).tick = s.tick ∧ (s.markLink a new cause).hwd = s.hwd := by
  unfold State.markLink
  split <;> exact ⟨rfl, rfl⟩

/-- From `s` to `t` the link whose state register is at `a` goes into the state `new`, flag `bit` of the event register `ev` is
raised, and the event is handed over with `code`. -/
structure LinkChanged (a ev bit code k new cause : Nat) (s t : State) : Prop where
  link : t.fld a 1 0 = new
  nodes : t.fld a 12 8 = s.fld a 12 8
  sent : t.hwd.sent = s.hwd.sent ++ [⟨code, s.tick, 0, [k, s.fld a 1 0, new, cause]⟩]
  flag : t.flag ev bit = true
  other : ∀ b, b ≠ a → b ≠ ev → t.rd b = s.rd b

/-- A state that is marked, with the link's record made new in `u`, and reported. -/
theorem LinkChanged.of_marked {a ev bit code new cause : Nat} {s u : State} (k : Nat) (hnew : new < 4) (hbit : bit < 32)
    (hne : a ≠ ev) (hrd : ∀ b, u.rd b = (s.markLink a new cause).rd b) (htick : u.tick = (s.markLink a new cause).tick)
    (hhwd : u.hwd = (s.markLink a new cause).hwd) :
    LinkChanged a ev bit code k new cause s ((u.raiseBit ev bit).event code [k, s.fld a 1 0, new, cause]) := by
  obtain ⟨hmtick, hmhwd⟩ := s.markLink_keeps a new cause
  have hreg : ((u.raiseBit ev bit).event code [k, s.fld a 1 0, new, cause]).rd a = (s.markLink a new cause).rd a := by
    rw [State.rd_event, State.rd_raiseBit_other _ _ hne, hrd]
  refine ⟨?link, ?nodes, ?sent, ?flag, fun b ha hev => ?other⟩
  case link => rw [State.fld_congr hreg, State.fld_markLink _ _ _ hnew]
  case nodes => rw [State.fld_congr hreg, State.nodes_markLink]
  case sent => rw [State.sent_event, State.raiseBit_hwd, State.raiseBit_tick, hhwd, htick, hmtick, hmhwd]
  case flag =>
    rw [State.flag_congr (State.rd_event _ _ _ _ _)]
    exact State.flag_raiseBit_same _ _ _ hbit
  case other => rw [State.rd_event, State.rd_raiseBit_other _ _ hev, hrd, State.rd_markLink_other _ _ _ ha]

theorem State.setAxisLink_changes (s : State) (k : Nat) {new : Nat} (cause : Nat) (hnew : new < 4) :
    LinkChanged (Reg.AXIS_LINK_STATE k) Reg.AXIS_EVENTS 8 0x0A09 k new cause s (s.setAxisLink k new cause) := by
  have hne : Reg.AXIS_LINK_STATE k ≠ Reg.AXIS_EVENTS := by
    simp only [Reg.AXIS_LINK_STATE, Reg.AXIS_EVENTS]
    omega
  exact .of_marked k hnew (by decide) hne (fun _ => rfl) rfl rfl

theorem State.setStepLink_changes (s : State) (k : Nat) {new : Nat} (cause : Nat) (hnew : new < 4) :
    LinkChanged (Reg.STEP_LINK_STATE k) Reg.STEP_EVENTS 6 0x0907 k new cause s (s.setStepLink k new cause) := by
  have hne : Reg.STEP_LINK_STATE k ≠ Reg.STEP_EVENTS := by
    simp only [Reg.STEP_LINK_STATE, Reg.STEP_EVENTS]
    omega
  exact .of_marked k hnew (by decide) hne (fun _ => rfl) rfl rfl

theorem State.setHvLink_changes (s : State) (k : Nat) {new : Nat} (cause : Nat) (hnew : new < 4) :
    LinkChanged (Reg.LOOP_LINK_STATE k) Reg.LOOP_EVENTS 2 0x0B03 k new cause s (s.setHvLink k new cause) := by
  have hne : Reg.LOOP_LINK_STATE k ≠ Reg.LOOP_EVENTS := by
    simp only [Reg.LOOP_LINK_STATE, Reg.LOOP_EVENTS]
    omega
  exact .of_marked k hnew (by decide) hne (fun _ => rfl) rfl rfl

/-! ### What a loss does to the units of a link (R297, R334, R364) -/

/-- The offsets of the state and configuration registers of the step, axis and HV links. -/
def isLinkReg (a : Nat) : Prop :=
  (a / 0x10000 = 0xC ∨ a / 0x10000 = 0xD ∨ a / 0x10000 = 0xE) ∧ 0x10 ≤ a % 0x10000 ∧ a % 0x10000 < 0x30

/-- The faults of stepper axes write no register of a link. -/
theorem State.rd_stepLinkFaults (s : State) (k : Nat) {a : Nat} (h : isLinkReg a) : (s.stepLinkFaults k).rd a = s.rd a := by
  have hkeeps : Frame (fun _ => True) (fun a => ¬ isLinkReg a) s (s.stepLinkFaults k) := by
    apply State.stepLinkFaults_frame (hB := .refl s) <;> simp only [isLinkReg, Reg.STEP_AX_FAULT, Reg.HOST_ERR,
      Reg.LEDG_BH_STATUS, Reg.LEDG_COUNT_JAM, Reg.LEDG_EVENTS, Reg.LEDG_PACE_EVENTS, Reg.LEDG_STATUS, Reg.LEG_STATUS]
    all_goals omega
  exact hkeeps.regs a (not_not.2 h)

/-- Nor do those of synchronous axes. -/
theorem State.rd_axisLinkFaults (s : State) (k : Nat) {a : Nat} (h : isLinkReg a) : (s.axisLinkFaults k).rd a = s.rd a := by
  have hkeeps : Frame (fun _ => True) (fun a => ¬ isLinkReg a) s (s.axisLinkFaults k) := by
    apply State.axisLinkFaults_frame (hB := .refl s) <;> simp only [isLinkReg, Reg.AXIS_AX_FAULT, Reg.HOST_ERR,
      Reg.LEDG_BH_STATUS, Reg.LEDG_COUNT_JAM, Reg.LEDG_EVENTS, Reg.LEDG_PACE_EVENTS, Reg.LEDG_STATUS, Reg.LEG_STATUS]
    all_goals omega
  exact hkeeps.regs a (not_not.2 h)

/-- Nor do those of loops. -/
theorem State.rd_hvLinkFaults (s : State) (k : Nat) {a : Nat} (h : isLinkReg a) : (s.hvLinkFaults k).rd a = s.rd a := by
  have hkeeps : Frame (fun _ => True) (fun a => ¬ isLinkReg a) s (s.hvLinkFaults k) := by
    apply State.hvLinkFaults_frame (hB := .refl s) <;> simp only [isLinkReg, Reg.LOOP_EVENTS, Reg.LOOP_LP_DUTY,
      Reg.LOOP_LP_FAULT, Reg.LOOP_LP_STATE, Reg.LEG_STATUS]
    all_goals omega
  exact hkeeps.regs a (not_not.2 h)

/-! ### Any link -/

/-- The register that shows the state of a link. -/
def linkStateReg : LinkId → Nat
  | .beam i => Reg.BEAM_STN_STATE i
  | .axis k => Reg.AXIS_LINK_STATE k
  | .step k => Reg.STEP_LINK_STATE k
  | .hv k => Reg.LOOP_LINK_STATE k

theorem State.linkState_eq (s : State) (l : LinkId) : s.linkState l = s.fld (linkStateReg l) 1 0 := by
  cases l <;> rfl

theorem State.linkState_congr {s t : State} {l : LinkId} (h : t.rd (linkStateReg l) = s.rd (linkStateReg l)) :
    t.linkState l = s.linkState l := by
  rw [State.linkState_eq, State.linkState_eq, State.fld_congr h]

theorem linkCfg_ne_linkStateReg (l : LinkId) : linkCfg l ≠ linkStateReg l := by
  cases l with
  | beam i => simp only [linkCfg, linkStateReg, Reg.BEAM_STN_CFG, Reg.BEAM_STN_STATE]; omega
  | axis k => simp only [linkCfg, linkStateReg, Reg.AXIS_LINK_CFG, Reg.AXIS_LINK_STATE]; omega
  | step k => simp only [linkCfg, linkStateReg, Reg.STEP_LINK_CFG, Reg.STEP_LINK_STATE]; omega
  | hv k => simp only [linkCfg, linkStateReg, Reg.LOOP_LINK_CFG, Reg.LOOP_LINK_STATE]; omega

/-- The single registers of the beam block lie below the configurations of its stations. -/
theorem beamCfg_ne_of_lt (i : Nat) {a : Nat} (h : a < 0xB0100) : Reg.BEAM_STN_CFG i ≠ a := by
  simp only [Reg.BEAM_STN_CFG]
  omega

/-- The configuration and the state of a link are link registers, and no event register is one. -/
theorem isLinkReg_ne_events {a : Nat} (h : isLinkReg a) :
    a ≠ Reg.AXIS_EVENTS ∧ a ≠ Reg.STEP_EVENTS ∧ a ≠ Reg.LOOP_EVENTS := by
  simp only [isLinkReg] at h
  refine ⟨?_, ?_, ?_⟩ <;> rintro rfl <;> exact absurd h (by decide)

theorem isLinkReg_axis (k : Fin 4) : isLinkReg (Reg.AXIS_LINK_CFG k) ∧ isLinkReg (Reg.AXIS_LINK_STATE k) := by
  simp only [isLinkReg, Reg.AXIS_LINK_CFG, Reg.AXIS_LINK_STATE]
  omega

theorem isLinkReg_step (k : Fin 2) : isLinkReg (Reg.STEP_LINK_CFG k) ∧ isLinkReg (Reg.STEP_LINK_STATE k) := by
  simp only [isLinkReg, Reg.STEP_LINK_CFG, Reg.STEP_LINK_STATE]
  omega

theorem isLinkReg_hv (k : Fin 2) : isLinkReg (Reg.LOOP_LINK_CFG k) ∧ isLinkReg (Reg.LOOP_LINK_STATE k) := by
  simp only [isLinkReg, Reg.LOOP_LINK_CFG, Reg.LOOP_LINK_STATE]
  omega

/-- From `s` to `t` link `l` goes into the state `new`, and its configuration stays. -/
structure LinkMoved (l : LinkId) (new : Nat) (s t : State) : Prop where
  state : t.linkState l = new
  cfg : t.rd (linkCfg l) = s.rd (linkCfg l)

/-- A link in its new state moves on to whatever keeps both its registers. -/
theorem LinkMoved.keep {l : LinkId} {new : Nat} {s t u : State} (h : LinkMoved l new s t)
    (hstate : u.rd (linkStateReg l) = t.rd (linkStateReg l)) (hcfg : u.rd (linkCfg l) = t.rd (linkCfg l)) :
    LinkMoved l new s u :=
  ⟨(State.linkState_congr hstate).trans h.state, hcfg.trans h.cfg⟩

theorem State.setAxisLink_moves (s : State) (k : Fin 4) {new : Nat} (cause : Nat) (hnew : new < 4) :
    LinkMoved (.axis k) new s (s.setAxisLink k new cause) := by
  have h := s.setAxisLink_changes k cause hnew
  exact ⟨h.link, h.other _ (linkCfg_ne_linkStateReg (.axis k)) (isLinkReg_ne_events (isLinkReg_axis k).1).1⟩

theorem State.setStepLink_moves (s : State) (k : Fin 2) {new : Nat} (cause : Nat) (hnew : new < 4) :
    LinkMoved (.step k) new s (s.setStepLink k new cause) := by
  have h := s.setStepLink_changes k cause hnew
  exact ⟨h.link, h.other _ (linkCfg_ne_linkStateReg (.step k)) (isLinkReg_ne_events (isLinkReg_step k).1).2.1⟩

theorem State.setHvLink_moves (s : State) (k : Fin 2) {new : Nat} (cause : Nat) (hnew : new < 4) :
    LinkMoved (.hv k) new s (s.setHvLink k new cause) := by
  have h := s.setHvLink_changes k cause hnew
  exact ⟨h.link, h.other _ (linkCfg_ne_linkStateReg (.hv k)) (isLinkReg_ne_events (isLinkReg_hv k).1).2.2⟩

theorem State.setBeamLink_moves (s : State) (i : Fin 8) {new : Nat} (cause : Nat) (hnew : new < 4) :
    LinkMoved (.beam i) new s (s.setBeamLink i new cause) :=
  ⟨s.beamLink_setBeamLink i cause hnew, s.rd_setBeamLink_other i new cause (linkCfg_ne_linkStateReg (.beam i))
    (beamCfg_ne_of_lt i (by decide))⟩

theorem State.trainLink_moves (s : State) (l : LinkId) : LinkMoved l 1 s (s.trainLink l) := by
  cases l with
  | beam i =>
    have h := State.setBeamLink_moves (s.modBm i fun b => { b with ready := false, flights := [] }) i 0
      (show 1 < 4 by decide)
    exact ⟨h.state, h.cfg⟩
  | axis k => exact s.setAxisLink_moves k 0 (by decide)
  | step k => exact s.setStepLink_moves k 0 (by decide)
  | hv k => exact s.setHvLink_moves k 0 (by decide)

/-- A change of state stands through the faults of the axes or loops of its link. -/
theorem State.axisLinkFaults_moves (s : State) (k : Fin 4) {new : Nat} (cause : Nat) (hnew : new < 4) :
    LinkMoved (.axis k) new s ((s.setAxisLink k new cause).axisLinkFaults k) :=
  (s.setAxisLink_moves k cause hnew).keep (State.rd_axisLinkFaults _ k (isLinkReg_axis k).2)
    (State.rd_axisLinkFaults _ k (isLinkReg_axis k).1)

theorem State.stepLinkFaults_moves (s : State) (k : Fin 2) {new : Nat} (cause : Nat) (hnew : new < 4) :
    LinkMoved (.step k) new s ((s.setStepLink k new cause).stepLinkFaults k) :=
  (s.setStepLink_moves k cause hnew).keep (State.rd_stepLinkFaults _ k (isLinkReg_step k).2)
    (State.rd_stepLinkFaults _ k (isLinkReg_step k).1)

theorem State.hvLinkFaults_moves (s : State) (k : Fin 2) {new : Nat} (cause : Nat) (hnew : new < 4) :
    LinkMoved (.hv k) new s ((s.setHvLink k new cause).hvLinkFaults k) :=
  (s.setHvLink_moves k cause hnew).keep (State.rd_hvLinkFaults _ k (isLinkReg_hv k).2)
    (State.rd_hvLinkFaults _ k (isLinkReg_hv k).1)

/-- A link that is neither DOWN nor in FAULT moves as a loss has it. -/
theorem LinkMoved.of_loss {l : LinkId} {new : Nat} {s t : State} (h : LinkMoved l new s t)
    (hlink : s.linkState l = 1 ∨ s.linkState l = 2) :
    (if s.linkState l = 0 ∨ s.linkState l = 3 then s else t).linkState l = new := by
  rw [if_neg (by omega), h.state]

/-- One that is DOWN already stays so. -/
theorem LinkMoved.unless_down {l : LinkId} {s t : State} (h : LinkMoved l 0 s t) :
    LinkMoved l 0 s (if s.linkState l = 0 then s else t) := by
  split
  · next hdown => exact ⟨hdown, rfl⟩
  · exact h

/-- A link that trains or is UP goes into FAULT when it is lost. -/
theorem State.linkState_loseLink {s : State} {l : LinkId} (cause : Nat) (h : s.linkState l = 1 ∨ s.linkState l = 2) :
    (s.loseLink l cause).linkState l = 3 := by
  cases l with
  | beam i => exact State.beamLink_loseBeam cause h
  | axis k => exact (s.axisLinkFaults_moves k cause (by decide)).of_loss h
  | step k => exact (s.stepLinkFaults_moves k cause (by decide)).of_loss h
  | hv k => exact (s.hvLinkFaults_moves k cause (by decide)).of_loss h

/-! ### EN (R290, R297) -/

/-- A link goes DOWN when its EN is cleared. -/
def State.downLink (s : State) : LinkId → State
  | .beam i => s.downBeam i
  | .axis k => s.downAxisLink k
  | .step k => s.downStepLink k
  | .hv k => s.downHvLink k

theorem State.linkOff_eq (s : State) (l : LinkId) : s.linkOff l = (s.setFlag (linkCfg l) 0 false).downLink l := by
  cases l <;> rfl

theorem State.downBeam_moves (s : State) (i : Fin 8) : LinkMoved (.beam i) 0 s (s.downBeam i) := by
  have hcfg : Reg.BEAM_STN_CFG i ≠ Reg.BEAM_STN_STATE i := linkCfg_ne_linkStateReg (.beam i)
  have hset := s.setBeamLink_moves i 0 (show 0 < 4 by decide)
  refine ⟨?_, ?_⟩
  · show (s.downBeam i).beamLink i = 0
    rw [State.beamLink, State.downBeam, State.showPending,
      State.fld_setFlag_other _ _ _ _ _ _ _ (by decide) (.inr (.inl (by decide))), State.fld_congr (State.rd_modBm _ _ _ _)]
    exact (State.beamLink_disarm _ i).trans hset.state
  · show (s.downBeam i).rd (Reg.BEAM_STN_CFG i) = s.rd (Reg.BEAM_STN_CFG i)
    rw [State.downBeam, State.showPending, State.rd_setFlag_other _ _ _ hcfg, State.rd_modBm,
      State.rd_disarm_other _ _ hcfg (beamCfg_ne_of_lt i (by decide))]
    exact hset.cfg

theorem State.downLink_moves (s : State) (l : LinkId) : LinkMoved l 0 s (s.downLink l) := by
  cases l with
  | beam i => exact s.downBeam_moves i
  | axis k => exact (s.axisLinkFaults_moves k 0 (by decide)).unless_down
  | step k => exact (s.stepLinkFaults_moves k 0 (by decide)).unless_down
  | hv k => exact (s.hvLinkFaults_moves k 0 (by decide)).unless_down

/-- A write of EN leaves the state of the link. -/
theorem State.linkState_setEn (s : State) (l : LinkId) (b : Bool) :
    (s.setFlag (linkCfg l) 0 b).linkState l = s.linkState l :=
  State.linkState_congr (s.rd_setFlag_other 0 b (linkCfg_ne_linkStateReg l).symm)

/-- A link that is DOWN trains when its EN is set; that of a station whose domain is on (R464). -/
theorem State.linkOn_trains {s : State} {l : LinkId} (h : s.linkState l = 0)
    (hon : ∀ i, l = .beam i → s.domainOn i = true) : s.linkOn l = (s.setFlag (linkCfg l) 0 true).trainLink l := by
  have hdown : (s.setFlag (linkCfg l) 0 true).linkState l = 0 := (s.linkState_setEn l true).trans h
  cases l with
  | beam i =>
    have hdom : (s.setFlag (linkCfg (.beam i)) 0 true).domainOn i = true :=
      (State.flag_congr (s.rd_setFlag_other 0 true (beamCfg_ne_of_lt i (by decide)).symm) _).trans (hon i rfl)
    have hen : (s.setFlag (linkCfg (.beam i)) 0 true).flag (Reg.BEAM_STN_CFG i) 0 = true :=
      State.flag_setFlag_same _ _ _ _ (by decide)
    exact if_pos ⟨hdown, by rw [State.beamEnabled, hdom, hen]; rfl⟩
  | axis k => exact if_pos hdown
  | step k => exact if_pos hdown
  | hv k => exact if_pos hdown

theorem execLinkEnable_open {l : LinkId} {s : State} (h : s.locked = false) : execLinkEnable l s = .next (s.linkOn l) := by
  simp only [execLinkEnable, h, Bool.false_eq_true, if_false]

theorem execLinkDisable_open {l : LinkId} {s : State} (h : s.locked = false) :
    execLinkDisable l s = .next (s.linkOff l) := by
  simp only [execLinkDisable, h, Bool.false_eq_true, if_false]

/-! ### Training (R290, R297, R334, R364) -/

theorem execLinkTrainingDone_trains {l : LinkId} (n : Fin 32) {s : State} (h : s.linkState l = 1)
    (hleast : (s.linkRec l).since + 8 ≤ s.tick) : execLinkTrainingDone l n s = .next (s.linkTrained l n) :=
  if_pos ⟨h, hleast⟩

theorem State.linkTrained_axis {s : State} {k : Fin 4} (n : Nat) (h : (s.linkRec (.axis k)).good ≠ 0) :
    s.linkTrained (.axis k) n = s.setAxisLink k 2 0 :=
  if_neg h

theorem State.linkTrained_step {s : State} {k : Fin 2} {n : Nat} (h : s.nodesNeeded k ≤ min 24 n) :
    s.linkTrained (.step k) n = (s.setFld (Reg.STEP_LINK_STATE k) 12 8 (min 24 n)).setStepLink k 2 0 :=
  if_neg (not_lt.2 h)

theorem State.linkTrained_hv {s : State} {k : Fin 2} {n : Nat} (h : s.hvReady k (min 16 n) = true) :
    s.linkTrained (.hv k) n = (s.setFld (Reg.LOOP_LINK_STATE k) 12 8 (min 16 n)).setHvLink k 2 0 :=
  if_pos h

/-- NODES beside the state of its link. -/
theorem State.setNodes_shows (s : State) (a : Nat) {n : Nat} (hn : n < 32) :
    (s.setFld a 12 8 n).fld a 12 8 = n ∧ (s.setFld a 12 8 n).fld a 1 0 = s.fld a 1 0 :=
  ⟨(s.fld_setFld_same a 12 8 n (by decide) (by decide)).trans (Nat.mod_eq_of_lt hn),
    s.fld_setFld_other _ _ _ _ _ _ _ (by decide) (by decide) (.inr (.inl (by decide)))⟩

/-- A station's link comes UP, and its map is chosen again. -/
theorem State.beamTrained_up {s : State} {i : Nat} (h : s.beamLink i = 1) (hready : (s.bm i).ready = true)
    (hdirty : (s.bm i).dirty = []) (hleast : (s.bm i).linkAt + 16 ≤ s.tick) :
    s.beamTrained i = ((s.setBeamLink i 2 0).reported i).chooseMap i (some s.tick) 0 := by
  rw [State.beamTrained, if_pos ⟨h, hready, hdirty, hleast⟩, State.reported, State.setBeamLink_tick]

theorem State.beamTrained_shows {s : State} {i : Nat} (h : s.beamLink i = 1) (hready : (s.bm i).ready = true)
    (hdirty : (s.bm i).dirty = []) (hleast : (s.bm i).linkAt + 16 ≤ s.tick) (hi : i < s.beam.stns.length) :
    (s.beamTrained i).beamLink i = 2 ∧ ((s.beamTrained i).bm i).reportAt = s.tick ∧
    ⟨0x0807, s.tick, 0, [i, 1, 2, 0]⟩ ∈ (s.beamTrained i).hwd.sent := by
  obtain ⟨hlink, -, hreport, hsent⟩ := State.chooseMap_chosen ((s.setBeamLink i 2 0).reported i) i (some s.tick) 0
  rw [State.beamTrained_up h hready hdirty hleast]
  refine ⟨hlink.trans (s.beamLink_setBeamLink i 0 (by decide)), ?_, hsent _ ?_⟩
  · rw [hreport, State.bm_reported (by rw [State.length_setBeamLink]; exact hi), State.setBeamLink_tick]
  · show _ ∈ (s.setBeamLink i 2 0).hwd.sent
    rw [State.sent_setBeamLink 0 (by rw [h]; decide), h]
    exact List.mem_append_right _ (List.mem_singleton_self _)

/-- Training that lasts loses the link, whichever it is (R290, R297). -/
theorem execLinkTrainingTimeout_loses {l : LinkId} {s : State} (h : s.linkState l = 1)
    (hlate : (s.linkRec l).since + 80 ≤ s.tick) : ∃ cause, execLinkTrainingTimeout l s = .next (s.loseLink l cause) := by
  cases l with
  | beam i => exact ⟨5, congrArg Host.Outcome.next (if_pos ⟨h, hlate⟩)⟩
  | axis k => exact ⟨4, if_pos ⟨h, hlate⟩⟩
  | step k => exact ⟨4, if_pos ⟨h, hlate⟩⟩
  | hv k => exact ⟨4, if_pos ⟨h, hlate⟩⟩

theorem State.linkDue_loses {s : State} {l : LinkId} (h : s.linkState l = 2) (hslot : s.hasLinkIn l = true)
    (hgood : (s.linkRec l).good ≠ s.tick + 1) (hmiss : s.fld (linkCfg l) 7 4 ≤ (s.linkRec l).miss) :
    s.linkDue l = s.loseLink l 1 :=
  if_pos ⟨h, hslot, hgood, hmiss⟩

/-- A link in FAULT trains again while its EN is 1, that of a station while its domain is on (R290, R464). -/
theorem execLinkRetrain_trains {l : LinkId} {s : State} (h : s.linkState l = 3) (hen : s.flag (linkCfg l) 0 = true)
    (hlate : (s.linkRec l).since + 4000 ≤ s.tick) (hon : ∀ i, l = .beam i → s.domainOn i = true) :
    execLinkRetrain l s = .next (s.trainLink l) := by
  cases l with
  | beam i =>
    have henabled : s.beamEnabled i = true := by
      rw [State.beamEnabled, hon i rfl, Bool.and_true]
      exact hen
    exact congrArg Host.Outcome.next (if_pos ⟨h, henabled, hlate⟩)
  | axis k => exact if_pos ⟨h, hen, hlate⟩
  | step k => exact if_pos ⟨h, hen, hlate⟩
  | hv k => exact if_pos ⟨h, hen, hlate⟩

/-! ### The statement -/

/-- Settles O30, by the branch that each command takes and what a change of state leaves of a link of each kind. -/
theorem linksTrainAndFail : Obligations.LinksTrainAndFail := by
  unfold Obligations.LinksTrainAndFail
  refine ⟨?enabled, ?disabled, ?lockedOn, ?lockedOff, ?axis, ?step, ?hv, ?beam, ?late, ?missed, ?comma, ?again⟩
  case enabled =>
    intro l s hopen hdown hon
    refine ⟨_, (exec_any (i := .linkEnable l) rfl s).trans (execLinkEnable_open hopen), ?_⟩
    obtain ⟨hstate, hcfg⟩ := (s.setFlag (linkCfg l) 0 true).trainLink_moves l
    rw [State.linkOn_trains hdown hon, State.flag_congr hcfg]
    exact ⟨State.flag_setFlag_same _ _ _ _ (by decide), hstate⟩
  case disabled =>
    intro l s hopen
    refine ⟨_, (exec_any (i := .linkDisable l) rfl s).trans (execLinkDisable_open hopen), ?_⟩
    obtain ⟨hstate, hcfg⟩ := (s.setFlag (linkCfg l) 0 false).downLink_moves l
    rw [State.linkOff_eq, State.flag_congr hcfg]
    exact ⟨State.flag_setFlag_same _ _ _ _ (by decide), hstate⟩
  case lockedOn =>
    intro l s hlocked
    exact ⟨_, (exec_any (i := .linkEnable l) rfl s).trans (if_pos hlocked), rfl⟩
  case lockedOff =>
    intro l s hlocked
    exact ⟨_, (exec_any (i := .linkDisable l) rfl s).trans (if_pos hlocked), rfl⟩
  case axis =>
    intro k n s hlink hleast hgood
    refine ⟨_, (exec_any (i := .linkTrainingDone (.axis k) n) rfl s).trans
      (execLinkTrainingDone_trains (l := .axis k) n hlink hleast), ?_⟩
    have hup := s.setAxisLink_changes k 0 (show 2 < 4 by decide)
    have hold : s.fld (Reg.AXIS_LINK_STATE k) 1 0 = 1 := hlink
    rw [State.linkTrained_axis n hgood]
    exact ⟨hup.link, hold ▸ hup.sent, hup.flag⟩
  case step =>
    intro k n s hlink hleast hnodes
    refine ⟨_, (exec_any (i := .linkTrainingDone (.step k) n) rfl s).trans
      (execLinkTrainingDone_trains (l := .step k) n hlink hleast), ?_⟩
    obtain ⟨hcount, hstate⟩ := s.setNodes_shows (Reg.STEP_LINK_STATE k) (show min 24 n.val < 32 by omega)
    have hup := (s.setFld (Reg.STEP_LINK_STATE k) 12 8 (min 24 n.val)).setStepLink_changes k 0 (show 2 < 4 by decide)
    have hold := hstate.trans hlink
    rw [State.linkTrained_step hnodes]
    exact ⟨hup.link, hup.nodes.trans hcount, hold ▸ hup.sent⟩
  case hv =>
    intro k n s hlink hleast hready
    refine ⟨_, (exec_any (i := .linkTrainingDone (.hv k) n) rfl s).trans
      (execLinkTrainingDone_trains (l := .hv k) n hlink hleast), ?_⟩
    obtain ⟨hcount, hstate⟩ := s.setNodes_shows (Reg.LOOP_LINK_STATE k) (show min 16 n.val < 32 by omega)
    have hup := (s.setFld (Reg.LOOP_LINK_STATE k) 12 8 (min 16 n.val)).setHvLink_changes k 0 (show 2 < 4 by decide)
    have hold := hstate.trans hlink
    rw [State.linkTrained_hv hready]
    exact ⟨hup.link, hup.nodes.trans hcount, hold ▸ hup.sent⟩
  case beam =>
    intro i n s hlink hready hdirty hleast hlen
    exact ⟨_, (exec_any (i := .linkTrainingDone (.beam i) n) rfl s).trans
      (execLinkTrainingDone_trains (l := .beam i) n hlink (show (s.bm i).linkAt + 8 ≤ s.tick by omega)),
      State.beamTrained_shows hlink hready hdirty hleast (by rw [hlen]; exact i.isLt)⟩
  case late =>
    intro l s hlink hlate
    obtain ⟨cause, hloses⟩ := execLinkTrainingTimeout_loses hlink hlate
    exact ⟨_, (exec_any (i := .linkTrainingTimeout l) rfl s).trans hloses, State.linkState_loseLink cause (.inl hlink)⟩
  case missed =>
    intro l s0 s hb hlink hslot hgood hmiss
    exact ⟨_, (exec_decision (i := .linkTimeout l) rfl hb).trans
      (congrArg Host.Outcome.next (State.linkDue_loses hlink hslot hgood hmiss)),
      State.linkState_loseLink 1 (.inr hlink)⟩
  case comma =>
    intro l s hlink
    exact ⟨_, exec_any (i := .commaLost l) rfl s, State.linkState_loseLink 2 hlink⟩
  case again =>
    intro l s hlink hen hlate hon
    exact ⟨_, (exec_any (i := .linkRetrain l) rfl s).trans (execLinkRetrain_trains hlink hen hlate hon),
      (s.trainLink_moves l).state⟩

end Sys2Proof.Machine
end

section
/-!
SUPPORT. The commands of the stepper axes (R300 to R307, R312 to R315, R322): an axis's record, what a command that passes its
checks or is refused leaves, and the proof of the statement about them.
-/

namespace Sys2Proof.Machine

/-- A command of a stepper axis is its effect after what is due for the axis (R305). -/
theorem exec_stepTurn {i : Instr} {a : Nat} {s0 s : State} (ht : i.turn = .step a) (hb : s0.begin (.step a) = s) :
    exec i s0 = i.effect s := by
  rw [exec_eq_run, ht]
  exact Turn.run_ready _ hb rfl

/-! ### The record of an axis -/

theorem State.ax_modAx_same {s : State} {a : Nat} (f : StepAxis → StepAxis) (h : a < s.step.axes.length) :
    (s.modAx a f).ax a = f (s.ax a) := by
  simp [State.ax, State.modAx, h]

theorem State.ax_modAx_other (s : State) {a b : Nat} (f : StepAxis → StepAxis) (h : b ≠ a) :
    (s.modAx a f).ax b = s.ax b := by
  simp [State.ax, State.modAx, List.getD_eq_getElem?_getD, h.symm]

theorem State.axis_lt {s : State} (h : s.step.axes.length = 48) (a : Fin 48) : a < s.step.axes.length := by
  rw [h]
  exact a.isLt

@[simp] theorem State.length_modAx (s : State) (a : Nat) (f : StepAxis → StepAxis) :
    (s.modAx a f).step.axes.length = s.step.axes.length :=
  List.length_modify ..

@[simp] theorem State.rd_modAx (s : State) (a : Nat) (f : StepAxis → StepAxis) (r : Nat) : (s.modAx a f).rd r = s.rd r := rfl

/-- An axis that is brought to rest (R307). -/
theorem State.ax_brakeStep {s : State} {a : Nat} (mode : StepMode) (halt : Halt) (h : a < s.step.axes.length) :
    (s.brakeStep a mode halt).ax a = { s.ax a with
      mode := mode, goal := .none, halt := halt, dwell := 0, homing := none, hphase := 0, cam := none, camLock := false,
      braking := false,
      profile := if (s.ax a).mode = .cam ∨ (s.ax a).mode = .ledger then s.stepProfile a 0 else (s.ax a).profile } :=
  State.ax_modAx_same _ h

/-! ### The checks of a command (R304) -/

/-- A command that passes has its result written before it takes effect. -/
def State.stepTaken (s : State) (a : Nat) : State := s.wrN (Reg.STEP_AX_RESULT a) 1

theorem State.stepCommand_passes {s : State} {a : Nat} {checks : List (Bool × Nat)} (f : State → State)
    (h : ∀ c ∈ checks, c.1 = false) : s.stepCommand a checks f = f (s.stepTaken a) := by
  have hnone : checks.find? (·.1) = none := List.find?_eq_none.2 fun c hc => by simp [h c hc]
  rw [State.stepCommand, hnone]
  rfl

/-- The same of a command with checks of its own after the shared ones. -/
theorem State.stepCommand_passes_both {s : State} {a : Nat} {shared own : List (Bool × Nat)} (f : State → State)
    (hshared : ∀ c ∈ shared, c.1 = false) (hown : ∀ c ∈ own, c.1 = false) :
    s.stepCommand a (shared ++ own) f = f (s.stepTaken a) :=
  State.stepCommand_passes f (List.forall_mem_append.2 ⟨hshared, hown⟩)

theorem State.stepCommand_refused {s : State} {a : Nat} {checks : List (Bool × Nat)} {c : Bool × Nat} (f : State → State)
    (h : checks.find? (·.1) = some c) :
    s.stepCommand a checks f = (s.wrN (Reg.STEP_AX_RESULT a) c.2).raiseBit Reg.STEP_EVENTS 8 := by
  rw [State.stepCommand, h]

theorem State.stepChecks_pass {s : State} {a : Nat} {accepted : Bool} (hsafe : s.safe = false)
    (hledger : (s.ax a).mode ≠ .ledger) (h : accepted = true) : ∀ c ∈ s.stepChecks a accepted, c.1 = false := by
  simp [State.stepChecks, hsafe, hledger, h]

theorem State.stepIn_iff {s : State} {a : Nat} {ms : List StepMode} : s.stepIn a ms = true ↔ (s.ax a).mode ∈ ms :=
  List.contains_iff_mem

/-- The shared checks of a command that the axis's mode accepts. -/
theorem State.modeChecks_pass {s : State} {a : Nat} {ms : List StepMode} (hsafe : s.safe = false)
    (hmode : (s.ax a).mode ∈ ms) (hms : .ledger ∉ ms) : ∀ c ∈ s.stepChecks a (s.stepIn a ms), c.1 = false :=
  State.stepChecks_pass hsafe (fun h => hms (h ▸ hmode)) (State.stepIn_iff.2 hmode)

/-! ### What a command finds once its result is written -/

theorem State.result_stepTaken (s : State) (a : Nat) : (s.stepTaken a).rdN (Reg.STEP_AX_RESULT a) = 1 :=
  s.rdN_wrN_same _ 1

theorem State.rd_stepTaken_other (s : State) (a : Nat) {r : Nat} (h : r ≠ Reg.STEP_AX_RESULT a) :
    (s.stepTaken a).rd r = s.rd r :=
  s.rd_wrN_other 1 h

theorem State.stepTarget_stepTaken (s : State) (a : Nat) : (s.stepTaken a).stepTarget a = s.stepTarget a := by
  have hlo : Reg.STEP_AX_TARGET_LO a ≠ Reg.STEP_AX_RESULT a := by simp only [Reg.STEP_AX_TARGET_LO, Reg.STEP_AX_RESULT]; omega
  have hhi : Reg.STEP_AX_TARGET_HI a ≠ Reg.STEP_AX_RESULT a := by simp only [Reg.STEP_AX_TARGET_HI, Reg.STEP_AX_RESULT]; omega
  rw [State.stepTarget, State.rdN_congr (s.rd_stepTaken_other a hlo), State.fld_congr (s.rd_stepTaken_other a hhi),
    State.stepTarget]

/-! ### The start of homing (R322) -/

/-- From `s` to `t` axis `a` begins phase `phase` of homing; its mode and HOMED stay. -/
structure PhaseBegun (a phase : Nat) (s t : State) : Prop where
  mode : (t.ax a).mode = (s.ax a).mode
  homed : (t.ax a).homed = (s.ax a).homed
  phase : (t.ax a).hphase = phase
  homing : (t.ax a).homing.isSome = true
  regs : ∀ r, t.rd r = s.rd r

theorem State.homePhase_begins {s : State} {a : Nat} (phase : Nat) (h : a < s.step.axes.length) :
    PhaseBegun a phase s (s.homePhase a phase) := by
  unfold State.homePhase
  constructor
  case regs => exact fun _ => rfl
  case homing => rw [State.ax_modAx_same _ h]; rfl
  all_goals rw [State.ax_modAx_same _ h]

/-- The speed or the place that a phase then moves towards is no part of it. -/
theorem PhaseBegun.heads {a phase : Nat} {s t : State} (h : PhaseBegun a phase s t) {f : StepAxis → StepAxis}
    (hlen : a < t.step.axes.length)
    (hf : ∀ x, (f x).mode = x.mode ∧ (f x).homed = x.homed ∧ (f x).hphase = x.hphase ∧ (f x).homing = x.homing) :
    PhaseBegun a phase s (t.modAx a f) := by
  obtain ⟨hmode, hhomed, hphase, hhoming⟩ := hf (t.ax a)
  have hax := State.ax_modAx_same f hlen
  exact ⟨(congrArg _ hax).trans (hmode.trans h.mode), (congrArg _ hax).trans (hhomed.trans h.homed),
    (congrArg _ hax).trans (hphase.trans h.phase), by rw [hax, hhoming]; exact h.homing, h.regs⟩

theorem State.homeSeek_begins {s : State} {a : Nat} (h : a < s.step.axes.length) : PhaseBegun a 1 s (s.homeSeek a) :=
  (State.homePhase_begins 1 h).heads (by rw [State.homePhase, State.length_modAx]; exact h) fun _ => ⟨rfl, rfl, rfl, rfl⟩

theorem State.homeAway_begins {s : State} {a : Nat} (h : a < s.step.axes.length) : PhaseBegun a 2 s (s.homeAway a) :=
  (State.homePhase_begins 2 h).heads (by rw [State.homePhase, State.length_modAx]; exact h) fun _ => ⟨rfl, rfl, rfl, rfl⟩

/-- The record of an axis that HOME takes, before its first phase. -/
def StepAxis.homes (x : StepAxis) (profile : List Nat) : StepAxis :=
  { x with mode := .homing, profile := profile, homed := false, sent := [], homing := none }

/-- HOME begins at SEEK, or at BACKOFF where the input is active already. -/
theorem State.stepHome_begins {s : State} {a : Fin 48} (hsafe : s.safe = false) (hmode : (s.ax a).mode = .idle)
    (hvalid : profileValid (s.stepProfile a (s.fld (Reg.STEP_AX_HOME_CFG a) 22 20)) = true)
    (haxes : s.step.axes.length = 48) : ∃ phase, (phase = 1 ∨ phase = 2) ∧ PhaseBegun a phase
      ((s.stepTaken a).modAx a fun x => x.homes (s.stepProfile a (s.fld (Reg.STEP_AX_HOME_CFG a) 22 20)))
      (s.stepHome a) := by
  have hlen : a < ((s.stepTaken a).modAx a fun x =>
      x.homes (s.stepProfile a (s.fld (Reg.STEP_AX_HOME_CFG a) 22 20))).step.axes.length := by
    rw [State.length_modAx]
    exact State.axis_lt haxes a
  have hpass := State.modeChecks_pass (ms := [.idle]) hsafe (List.mem_singleton.2 hmode) (by decide)
  dsimp only [State.stepHome]
  rw [State.stepCommand_passes_both _ hpass (by simp [hvalid])]
  split
  · exact ⟨2, .inr rfl, State.homeAway_begins hlen⟩
  · exact ⟨1, .inl rfl, State.homeSeek_begins hlen⟩

/-! ### The statement -/

/-- Settles O31, by the checks that each command passes and the change of its axis that follows the result; the refusal, by the
check that it fails. -/
theorem stepperCommands : Obligations.StepperCommands := by
  unfold Obligations.StepperCommands
  refine ⟨?enable, ?disable, ?move, ?velocity, ?stop, ?home, ?engage, ?disengage, ?setPos, ?clear, ?refused⟩
  case enable =>
    intro a s0 s hb hsafe hmode hlink hholding hnodes haxes
    have hlen : a < (s.stepTaken a).step.axes.length := State.axis_lt haxes a
    have hpass := State.stepChecks_pass (a := a)
      (accepted := s.stepIn a [.disabled] && decide (s.stepLink (a / 24) = 2)) hsafe (by rw [hmode]; decide)
      (by simp [State.stepIn, hmode, hlink])
    have hemf := State.fld_congr (s.rd_stepTaken_other a (r := Reg.STEP_AX_EMF_CFG a)
      (by simp only [Reg.STEP_AX_EMF_CFG, Reg.STEP_AX_RESULT]; omega)) 31 16
    have hwait := State.fld_congr (s.rd_stepTaken_other a (r := Reg.STEP_AX_START_WAIT a)
      (by simp only [Reg.STEP_AX_START_WAIT, Reg.STEP_AX_RESULT]; omega)) 15 0
    refine ⟨s.stepEnable a, exec_stepTurn (i := .stepEnable a) rfl hb, ?_⟩
    rw [State.stepEnable, State.stepCommand_passes_both _ hpass (by simp [hholding, hnodes])]
    dsimp only
    rw [State.ax_modAx_same _ hlen, hemf, hwait]
    exact ⟨rfl, rfl, s.result_stepTaken a⟩
  case disable =>
    intro a s0 s hb hmode haxes
    have hlen : a < (s.stepTaken a).step.axes.length := State.axis_lt haxes a
    have hpass : ∀ c ∈ [(decide ((s.ax a).mode = .ledger), 8), (!(s.stepIn a [.disabled, .idle, .waitSpin] ||
        (decide ((s.ax a).mode = .fault) && (s.ax a).still)), 2)], c.1 = false := by
      rcases hmode with h | h | h | ⟨h, hv⟩ <;> simp [State.stepIn, StepAxis.still, *]
    refine ⟨s.stepDisable a, exec_stepTurn (i := .stepDisable a) rfl hb, ?_⟩
    dsimp only [State.stepDisable]
    rw [State.stepCommand_passes _ hpass, State.ax_modAx_same _ hlen]
    exact ⟨rfl, rfl, rfl, s.result_stepTaken a⟩
  case move =>
    intro a prof s0 s hb hsafe hmode hvalid haxes
    have hlen : a < (s.stepTaken a).step.axes.length := State.axis_lt haxes a
    have hpass := State.modeChecks_pass (ms := [.idle, .move, .velocity]) hsafe (by simpa using hmode) (by decide)
    refine ⟨s.stepMove a prof, exec_stepTurn (i := .stepMove a prof) rfl hb, ?_⟩
    dsimp only [State.stepMove]
    rw [State.stepCommand_passes_both _ hpass (by simp [hvalid]), State.ax_modAx_same _ hlen, s.stepTarget_stepTaken a]
    refine ⟨?_, rfl, rfl, rfl, s.result_stepTaken a⟩
    exact if_congr (and_congr_left' sub_eq_zero) rfl rfl
  case velocity =>
    intro a prof s0 s hb hsafe hmode hvalid hzero hmax haxes
    have hlen : a < (s.stepTaken a).step.axes.length := State.axis_lt haxes a
    have hpass := State.modeChecks_pass (ms := [.idle, .move, .velocity]) hsafe (by simpa using hmode) (by decide)
    refine ⟨s.stepVelocity a prof, exec_stepTurn (i := .stepVelocity a prof) rfl hb, ?_⟩
    dsimp only [State.stepVelocity]
    rw [State.stepCommand_passes_both _ hpass (by simp [hvalid, hmax]), if_neg hzero, State.ax_modAx_same _ hlen]
    exact ⟨rfl, rfl, rfl, s.result_stepTaken a⟩
  case stop =>
    intro a s0 s hb hsafe hmode haxes
    have hlen : a < (s.stepTaken a).step.axes.length := State.axis_lt haxes a
    have hpass := State.modeChecks_pass (ms := [.move, .velocity, .homing, .cam]) hsafe (by simpa using hmode) (by decide)
    refine ⟨s.stepStop a, exec_stepTurn (i := .stepStop a) rfl hb, ?_⟩
    rw [State.stepStop, State.stepCommand_passes _ hpass, State.ax_brakeStep _ _ hlen]
    exact ⟨rfl, rfl, rfl, rfl, rfl, s.result_stepTaken a⟩
  case home =>
    intro a s0 s hb hsafe hmode hvalid haxes
    have hlen : a < (s.stepTaken a).step.axes.length := State.axis_lt haxes a
    have hax := State.ax_modAx_same (fun x => x.homes (s.stepProfile a (s.fld (Reg.STEP_AX_HOME_CFG a) 22 20))) hlen
    obtain ⟨phase, hphase, hbegun⟩ := State.stepHome_begins hsafe hmode hvalid haxes
    refine ⟨s.stepHome a, exec_stepTurn (i := .stepHome a) rfl hb, ?_⟩
    rw [hbegun.mode, hbegun.homed, hbegun.phase, State.rdN_congr (hbegun.regs _), hax]
    exact ⟨rfl, rfl, hphase, hbegun.homing, s.result_stepTaken a⟩
  case engage =>
    intro a s0 s hb hsafe hmode hspeed haxes
    have hlen : a < (s.stepTaken a).step.axes.length := State.axis_lt haxes a
    have hpass := State.modeChecks_pass (ms := [.idle, .velocity]) hsafe (by simpa using hmode) (by decide)
    refine ⟨s.stepEngage a, exec_stepTurn (i := .stepEngage a) rfl hb, ?_⟩
    dsimp only [State.stepEngage]
    rw [State.stepCommand_passes_both _ hpass (by simp [hspeed]), State.ax_modAx_same _ hlen]
    exact ⟨rfl, rfl, rfl, rfl, rfl, s.result_stepTaken a⟩
  case disengage =>
    intro a s0 s hb hsafe hmode haxes
    have hlen : a < (s.stepTaken a).step.axes.length := State.axis_lt haxes a
    have hpass := State.modeChecks_pass (ms := [.cam]) hsafe (List.mem_singleton.2 hmode) (by decide)
    refine ⟨s.stepDisengage a, exec_stepTurn (i := .stepDisengage a) rfl hb, ?_⟩
    dsimp only [State.stepDisengage]
    rw [State.stepCommand_passes _ hpass, State.ax_modAx_same _ hlen]
    exact ⟨rfl, rfl, rfl, rfl, s.result_stepTaken a⟩
  case setPos =>
    intro a s0 s hb hsafe hmode haxes
    have hlen : a < (s.stepTaken a).step.axes.length := State.axis_lt haxes a
    have hpass := State.modeChecks_pass (ms := [.idle]) hsafe (List.mem_singleton.2 hmode) (by decide)
    refine ⟨s.stepSetPos a, exec_stepTurn (i := .stepSetPos a) rfl hb, ?_⟩
    rw [State.stepSetPos, State.stepCommand_passes _ hpass, State.ax_modAx_same _ hlen]
    exact ⟨s.stepTarget_stepTaken a, rfl, hmode, s.result_stepTaken a⟩
  case clear =>
    intro a s0 s hb hsafe hmode hstill haxes
    have hlen : a < (s.stepTaken a).step.axes.length := State.axis_lt haxes a
    have hpass := State.stepChecks_pass (a := a) (accepted := decide ((s.ax a).mode = .fault) && (s.ax a).still) hsafe
      (by rw [hmode]; decide) (by simp [hmode, StepAxis.still, hstill])
    refine ⟨s.stepClear a, exec_stepTurn (i := .stepClear a) rfl hb, ?_⟩
    dsimp only [State.stepClear]
    rw [State.stepCommand_passes _ hpass, State.ax_modAx_same _ hlen]
    exact ⟨rfl, rfl, s.result_stepTaken a⟩
  case refused =>
    intro a s0 s hb hsafe hmode hledger
    have hfails : (s.stepChecks a (s.stepIn a [.idle])).find? (·.1) = some (true, 2) := by
      simp [State.stepChecks, State.stepIn, hsafe, hmode, hledger]
    have hne : Reg.STEP_AX_RESULT a ≠ Reg.STEP_EVENTS := by simp only [Reg.STEP_AX_RESULT, Reg.STEP_EVENTS]; omega
    refine ⟨_, (exec_stepTurn (i := .stepSetPos a) rfl hb).trans
      (congrArg Host.Outcome.next (State.stepCommand_refused _ hfails)), ?_, State.flag_raiseBit_same _ _ _ (by decide),
      (State.raiseBit_step _ _ _).trans (s.wrN_step _ _)⟩
    rw [State.rdN_congr (State.rd_raiseBit_other _ _ hne)]
    exact s.rdN_wrN_same _ 2

end Sys2Proof.Machine
end

section
/-!
SUPPORT. A fault of a stepper axis (R300, R307, R138): the axis stays in FAULT, and the message stays sent, through the jam that
the fault may be; and what the faults of WAIT_SPIN and of homing show.
-/

namespace Sys2Proof.Machine

/-! ### What a jam leaves of an axis in FAULT (R139, R172, R310) -/

/-- From `s` to `t` no fault message comes or goes, and axis `a`, where it is in FAULT, stays there with its bridges as they
are. -/
structure FaultStands (a : Nat) (s t : State) : Prop where
  flt : t.flt = s.flt
  axis : (s.ax a).mode = .fault → (t.ax a).mode = .fault ∧ (t.ax a).bridges = (s.ax a).bridges

theorem FaultStands.refl (a : Nat) (s : State) : FaultStands a s s := ⟨rfl, fun h => ⟨h, rfl⟩⟩

theorem FaultStands.trans {a : Nat} {s t u : State} (h : FaultStands a s t) (k : FaultStands a t u) : FaultStands a s u := by
  refine ⟨k.flt.trans h.flt, fun hs => ?_⟩
  obtain ⟨hmode, hbridges⟩ := h.axis hs
  obtain ⟨hmode', hbridges'⟩ := k.axis hmode
  exact ⟨hmode', hbridges'.trans hbridges⟩

theorem FaultStands.ite {a : Nat} {s t u : State} {c : Prop} [Decidable c] (h : FaultStands a s t)
    (k : FaultStands a s u) : FaultStands a s (if c then t else u) := by
  split
  · exact h
  · exact k

theorem FaultStands.foldl {α : Type} {a : Nat} (f : State → α → State) (hf : ∀ u x, FaultStands a u (f u x)) (l : List α)
    (s : State) : FaultStands a s (l.foldl f s) := by
  induction l generalizing s with
  | nil => exact .refl a s
  | cons x l ih => exact (hf s x).trans (ih (f s x))

/-- What changes neither the fault collector nor the stepper block. -/
theorem FaultStands.of_frame {F : Blk → Prop} {R : Nat → Prop} {s t : State} (a : Nat) (h : Frame F R s t)
    (hflt : ¬ F .flt) (hstep : ¬ F .step) : FaultStands a s t := by
  have hax : t.ax a = s.ax a := by rw [State.ax, h.parts .step hstep, State.ax]
  exact ⟨h.parts .flt hflt, fun hs => by rw [hax]; exact ⟨hs, rfl⟩⟩

theorem State.modAx_faultStands {s : State} {b : Nat} (a : Nat) {f : StepAxis → StepAxis}
    (hf : (s.ax b).mode = .fault → (f (s.ax b)).mode = .fault ∧ (f (s.ax b)).bridges = (s.ax b).bridges) :
    FaultStands a s (s.modAx b f) := by
  refine ⟨rfl, fun hs => ?_⟩
  rcases eq_or_ne a b with rfl | hne
  · rcases lt_or_ge a s.step.axes.length with hlen | hlen
    · rw [State.ax_modAx_same f hlen]
      exact hf hs
    · have hout : (s.modAx a f).ax a = s.ax a := by simp [State.ax, State.modAx, List.getD_eq_getElem?_getD, hlen]
      rw [hout]
      exact ⟨hs, rfl⟩
  · rw [State.ax_modAx_other s f hne]
    exact ⟨hs, rfl⟩

theorem State.askStop_faultStands (s : State) (stepper : Bool) (b a : Nat) : FaultStands a s (s.askStop stepper b) := by
  cases stepper with
  | true =>
    simp only [State.askStop, if_true]
    split
    case h_5 => exact .refl a s
    all_goals next hmode => exact State.modAx_faultStands a fun h => absurd (hmode.symm.trans h) (by decide)
  | false =>
    refine .of_frame (F := (· = .axis)) (R := fun _ => False) a ?_ (by decide) (by decide)
    simp only [State.askStop, Bool.false_eq_true, if_false]
    split
    case h_5 => exact .refl s
    all_goals exact State.brakeSync_frame s b _ _ (.refl s) rfl

theorem State.enterLedger_faultStands (s : State) (stepper : Bool) (b a : Nat) :
    FaultStands a s (s.enterLedger stepper b) := by
  cases stepper with
  | true =>
    simp only [State.enterLedger, if_true]
    split
    case h_4 hfault => exact State.modAx_faultStands a fun h => absurd h hfault
    all_goals exact .refl a s
  | false =>
    refine .of_frame (F := (· = .axis)) (R := fun _ => False) a ?_ (by decide) (by decide)
    simp only [State.enterLedger, Bool.false_eq_true, if_false]
    split
    case h_4 => exact State.modSx_frame s b _ (.refl s) rfl
    all_goals exact .refl s

theorem State.idleLedger_faultStands (s : State) (stepper : Bool) (b a : Nat) :
    FaultStands a s (s.idleLedger stepper b) := by
  cases stepper with
  | true =>
    simp only [State.idleLedger, if_true]
    exact .ite (State.modAx_faultStands a fun h => by simp [h]) (.refl a s)
  | false =>
    refine .of_frame (F := (· = .axis)) (R := fun _ => False) a ?_ (by decide) (by decide)
    simp only [State.idleLedger, Bool.false_eq_true, if_false]
    exact .ite (State.modSx_frame s b _ (.refl s) rfl) (.refl s)

theorem State.stopPath_faultStands (s : State) (a : Nat) : FaultStands a s s.stopPath := by
  refine .trans (.foldl _ (fun u b => ?_) _ s) (.foldl _ (fun u b => ?_) _ _)
  all_goals exact .ite (u.askStop_faultStands _ b a) (.refl a u)

theorem State.abortAxes_faultStands (s : State) (a : Nat) : FaultStands a s s.abortAxes := by
  have hpace : ∀ u : State, ∀ p, FaultStands a u { u with pace := p } := fun u p => ⟨rfl, fun h => ⟨h, rfl⟩⟩
  have htake : FaultStands a s s.takeAxes :=
    (FaultStands.foldl _ (fun u (d : Bool × Nat × Nat) => u.enterLedger_faultStands d.1 d.2.1 a) _ s).trans (hpace _ _)
  unfold State.abortAxes
  exact .ite (hpace s _) (.ite htake (.refl a s))

theorem State.abortMotion_faultStands (s : State) (a : Nat) : FaultStands a s s.abortMotion := by
  have hnotice : FaultStands a s
      (State.pathNotice { s with pace := { s.pace with aborting := decide (s.pace.v ≠ 0) } } 3 0) :=
    ⟨rfl, fun h => ⟨h, rfl⟩⟩
  exact .ite (hnotice.trans (.foldl _ (fun u (d : Bool × Nat × Nat) => u.idleLedger_faultStands d.1 d.2.1 a) _ _)) hnotice

theorem State.abortBackhitch_faultStands (s : State) (cause a : Nat) : FaultStands a s (s.abortBackhitch cause) := by
  rcases hb : s.backhitching with _ | _
  · rw [State.abortBackhitch, hb]
    exact .refl a s
  · rw [State.abortBackhitch_eq cause hb]
    refine (s.abortAxes_faultStands a).trans (.trans (t := s.recordAbort cause) ?_ (State.abortMotion_faultStands _ a))
    refine .of_frame (F := fun b => b ≠ .flt ∧ b ≠ .step) (R := fun _ => True) a ?_ (by decide) (by decide)
    refine State.event_frame _ _ _ _ (State.ledgerRecord_frame _ _ _ _ _ _ _ _ _ (State.raiseBit_frame _ _ _
      (State.setFld_frame _ _ _ _ _ (State.setFld_frame _ _ _ _ _ (.refl _) trivial) trivial) ?_ trivial) ?_ ?_ ?_ trivial) ?_
    all_goals decide

theorem State.jam_faultStands (s : State) (concerned : Option Nat) (cause point a : Nat) :
    FaultStands a s (s.jam concerned cause point) := by
  have hnote : FaultStands a s s.noteJam := ⟨rfl, fun h => ⟨h, rfl⟩⟩
  have hsheet : ∀ u t : State, Frame (fun b => b ≠ .flt ∧ b ≠ .step) (fun _ => True) u t → FaultStands a u t :=
    fun u t h => .of_frame a h (by decide) (by decide)
  unfold State.jam
  refine (FaultStands.trans ?sheets (State.stopPath_faultStands _ a)).trans (.trans
    (State.abortBackhitch_faultStands _ cause a) (hsheet _ _
      (State.legJam_frame _ (State.raiseBit_frame _ _ _ (.refl _) (by decide) trivial) (by decide) trivial)))
  refine hnote.trans (.trans (.foldl _ (fun u x => hsheet _ _ ?_) _ _) (.foldl _ (fun u x => hsheet _ _ ?_) _ _))
  · exact State.jamSheet_frame u x _ point (.refl u) (by decide) (by decide) (by decide) (by decide) (by decide)
      (by decide) trivial
  · exact State.withdraw_frame u x cause _ _ (.refl u) (by decide) (by decide) (by decide) (by decide) (by decide)
      (by decide) trivial trivial

theorem State.axisFaultJam_faultStands (s : State) (stepper : Bool) (b a : Nat) :
    FaultStands a s (s.axisFaultJam stepper b) := by
  unfold State.axisFaultJam
  exact .ite (s.jam_faultStands _ _ _ a) (.refl a s)

/-- It writes no register of the stepper block. -/
theorem State.rd_axisFaultJam_step (s : State) (stepper : Bool) (a : Nat) {r : Nat} (h : r / 0x10000 = 0xC) :
    (s.axisFaultJam stepper a).rd r = s.rd r := by
  have hkeeps : Frame (fun _ => True) (fun r => r / 0x10000 ≠ 0xC) s (s.axisFaultJam stepper a) := by
    apply State.axisFaultJam_frame (hB := .refl s)
    all_goals trivial
  exact hkeeps.regs r (not_not.2 h)

/-! ### A fault (R300, R307) -/

/-- The record and the message of a fault. -/
def State.noteStepFault (s : State) (a kind detail status : Nat) : State :=
  (s.wrN (Reg.STEP_AX_FAULT a) (kind + detail * 256 + status * 65536)).fault (0x240 + a) kind 0

/-- How the axis goes on in FAULT. -/
def State.faultMotion (s : State) (a kind : Nat) : State :=
  if kind = 0x07 ∨ kind = 0x0E then
    s.modAx a (fun x => { x with
      mode := .fault, v := 0, guard := 0, braking := false, goal := .none, halt := .no, dwell := 0, bridges := false,
      homing := none, hphase := 0, cam := none, camLock := false, amplitude := none, offAt := s.tick })
  else if (s.ax a).mode = .ledger ∧ s.backhitching then
    s.modAx a (fun x => { x with mode := .fault, goal := .speed x.v, halt := .hold, bridges := true })
  else (s.brakeStep a .fault .fault).modAx a (fun x => { x with bridges := true })

theorem State.stepFault_eq (s : State) (a kind detail status : Nat) : s.stepFault a kind detail status =
    ((s.noteStepFault a kind detail status).faultMotion a kind).axisFaultJam true a := by
  have hne : Reg.LEDG_BH_STATUS ≠ Reg.STEP_AX_FAULT a := by simp only [Reg.LEDG_BH_STATUS, Reg.STEP_AX_FAULT]; omega
  have hback : (s.noteStepFault a kind detail status).backhitching = s.backhitching := by
    rw [State.backhitching, State.noteStepFault, State.fld_congr (State.rd_fault _ _ _ _ _),
      State.fld_congr (State.rd_wrN_other _ _ hne), State.backhitching]
  rw [State.faultMotion, hback]
  rfl

/-- The axis is in FAULT, with its bridges off after LINK_LOSS and START_TIMEOUT alone; nothing else changes. -/
theorem State.faultMotion_shows {s : State} {a : Nat} (kind : Nat) (h : a < s.step.axes.length) :
    ((s.faultMotion a kind).ax a).mode = .fault ∧
    ((s.faultMotion a kind).ax a).bridges = !decide (kind = 0x07 ∨ kind = 0x0E) ∧
    (s.faultMotion a kind).flt = s.flt ∧ ∀ r, (s.faultMotion a kind).rd r = s.rd r := by
  unfold State.faultMotion
  split
  · next hkind =>
    rw [State.ax_modAx_same _ h, decide_eq_true hkind]
    exact ⟨rfl, rfl, rfl, fun _ => rfl⟩
  · next hkind =>
    rw [decide_eq_false hkind]
    split
    · rw [State.ax_modAx_same _ h]
      exact ⟨rfl, rfl, rfl, fun _ => rfl⟩
    · rw [State.ax_modAx_same _ (by rw [State.brakeStep, State.length_modAx]; exact h), State.ax_brakeStep _ _ h]
      exact ⟨rfl, rfl, rfl, fun _ => rfl⟩

/-- What a fault of axis `a` in tick `tick` shows: its mode, its bridges, its record and its message. -/
structure StepFaulted (a kind detail status tick : Nat) (t : State) : Prop where
  mode : (t.ax a).mode = .fault
  bridges : (t.ax a).bridges = !decide (kind = 0x07 ∨ kind = 0x0E)
  record : t.rdN (Reg.STEP_AX_FAULT a) = (kind + detail * 256 + status * 65536) % 2 ^ 32
  message : ⟨0x240 + a, kind, 0, tick⟩ ∈ t.flt.sent

theorem State.stepFault_shows {s : State} {a : Nat} (kind detail status : Nat) (h : a < s.step.axes.length) :
    StepFaulted a kind detail status s.tick (s.stepFault a kind detail status) := by
  have hreg : Reg.STEP_AX_FAULT a / 0x10000 = 0xC := by simp only [Reg.STEP_AX_FAULT]; omega
  have hlen : a < (s.noteStepFault a kind detail status).step.axes.length := h
  obtain ⟨hmode, hbridges, hflt, hrd⟩ := State.faultMotion_shows kind hlen
  rw [State.stepFault_eq]
  obtain ⟨hsame, hstands⟩ := State.axisFaultJam_faultStands
    ((s.noteStepFault a kind detail status).faultMotion a kind) true a a
  obtain ⟨hmode', hbridges'⟩ := hstands hmode
  refine ⟨hmode', hbridges'.trans hbridges, ?record, ?message⟩
  case record =>
    rw [State.rdN_congr (State.rd_axisFaultJam_step _ _ _ hreg), State.rdN_congr (hrd _), State.noteStepFault,
      State.rdN_fault, State.rdN_wrN_same]
  case message =>
    rw [hsame, hflt, State.noteStepFault, State.sent_fault]
    exact List.mem_append_right _ (List.mem_singleton_self _)

/-- It leaves the event flags of the block. -/
theorem State.rd_stepFault_events {s : State} {a : Nat} (kind detail status : Nat) (h : a < s.step.axes.length) :
    (s.stepFault a kind detail status).rd Reg.STEP_EVENTS = s.rd Reg.STEP_EVENTS := by
  have hne : Reg.STEP_EVENTS ≠ Reg.STEP_AX_FAULT a := by simp only [Reg.STEP_EVENTS, Reg.STEP_AX_FAULT]; omega
  have hlen : a < (s.noteStepFault a kind detail status).step.axes.length := h
  obtain ⟨-, -, -, hrd⟩ := State.faultMotion_shows kind hlen
  rw [State.stepFault_eq, State.rd_axisFaultJam_step _ _ _ (by decide), hrd, State.noteStepFault, State.rd_fault,
    State.rd_wrN_other _ _ hne]

/-- A fault that comes with its flag and its event. -/
theorem State.flaggedFault_shows {s : State} {a bit : Nat} (code : Nat) (fields : List Nat) (kind detail : Nat)
    (h : a < s.step.axes.length) (hbit : bit < 32) :
    StepFaulted a kind detail 0 s.tick (((s.raiseBit Reg.STEP_EVENTS bit).event code fields).stepFault a kind detail 0) ∧
    (((s.raiseBit Reg.STEP_EVENTS bit).event code fields).stepFault a kind detail 0).flag Reg.STEP_EVENTS bit = true := by
  have hlen : a < ((s.raiseBit Reg.STEP_EVENTS bit).event code fields).step.axes.length := by
    rw [State.event_step, State.raiseBit_step]
    exact h
  have hfault := State.stepFault_shows kind detail 0 hlen
  rw [State.event_tick, State.raiseBit_tick] at hfault
  refine ⟨hfault, ?_⟩
  rw [State.flag_congr (State.rd_stepFault_events _ _ _ hlen), State.flag_congr (State.rd_event _ _ _ _ _)]
  exact State.flag_raiseBit_same _ _ _ hbit

end Sys2Proof.Machine
end

section
/-!
SUPPORT. Returns of the step links, the waits of an axis, the edges of homing and of the SCAP inputs (R296, R297, R306, R315,
R319 to R322, R559), and the proof of the statement about them.
-/

namespace Sys2Proof.Machine

/-- An element that a change reaches. -/
theorem getD_modify_same {α : Type} (l : List α) (i : Nat) (f : α → α) (d : α) (h : i < l.length) :
    (l.modify i f).getD i d = f (l.getD i d) := by
  simp [h]

/-! ### Returns of a step link (R296, R297, R559) -/

theorem execStepFrameReturn_gathers {k : Fin 2} {bs : List Byte} {s : State} (hlink : s.stepLink k = 2)
    (hslot : s.pageHas 9 1 k = true) (hopen : s.decideOpen = false) :
    execStepFrameReturn k bs s = .next (s.gatherStepFrame k (readStepFrame bs)) := by
  simp [execStepFrameReturn, hlink, hslot, hopen]

theorem execStepFrameReturn_waits {k : Fin 2} {bs : List Byte} {s : State} (hlink : s.stepLink k = 2)
    (hwait : s.pageHas 9 1 k = false ∨ s.decideOpen = true) : execStepFrameReturn k bs s =
      .next { s with step := { s.step with waiting := tabPut s.step.waiting k (readStepFrame bs) } } := by
  rcases hwait with h | h <;> simp [execStepFrameReturn, hlink, h]

/-- A good frame restarts the count of misses of its link, and none waits any more. -/
theorem State.gatherStepFrame_good {s : State} {k : Nat} {f : StepFrame} (hcrc : f.crcOk = true)
    (hk : k < s.step.links.length) :
    ((s.gatherStepFrame k f).step.links.getD k Link.init).good = s.tick + 1 ∧
    ((s.gatherStepFrame k f).step.links.getD k Link.init).miss = 0 ∧
    tabFind (s.gatherStepFrame k f).step.waiting k = none ∧ (s.gatherStepFrame k f).step.axes = s.step.axes ∧
    ∀ r, (s.gatherStepFrame k f).rd r = s.rd r := by
  have hnone : tabFind (tabDel s.step.waiting k) k = none := (tabFind_tabDel _ k k).trans (if_pos rfl)
  dsimp only [State.gatherStepFrame]
  rw [if_neg (by simp [hcrc]), getD_modify_same _ _ _ _ hk]
  exact ⟨rfl, rfl, hnone, rfl, fun _ => rfl⟩

/-- One with a bad CRC is counted, to 255 at most. -/
theorem State.gatherStepFrame_bad {s : State} {k : Nat} {f : StepFrame} (hcrc : f.crcOk = false) :
    (s.gatherStepFrame k f).fld (Reg.STEP_LINK_STATE k) 31 24 = min 255 (s.fld (Reg.STEP_LINK_STATE k) 31 24 + 1) ∧
    (s.gatherStepFrame k f).step = { s.step with waiting := tabDel s.step.waiting k } := by
  dsimp only [State.gatherStepFrame]
  rw [if_pos (by simp [hcrc]), State.fld_setFld_same _ _ _ _ _ (by decide) (by decide)]
  exact ⟨Nat.mod_eq_of_lt (by omega), rfl⟩

/-! ### Waits (R306, R315) -/

theorem State.startTimeout_faults {s : State} {a : Nat} (hmode : (s.ax a).mode = .waitSpin)
    (hlate : (s.ax a).deadline ≤ s.tick) : s.startTimeout a =
      ((s.raiseBit Reg.STEP_EVENTS 4).event 0x0905 [a, ((s.ax a).amplitude).getD 0]).stepFault a 0x0E 0 0 :=
  if_pos ⟨hmode, hlate⟩

theorem effReverseDwellEnd_ends {s : State} {a : Fin 48} (hdwell : (s.ax a).dwell ≠ 0) (hlate : (s.ax a).dwell ≤ s.tick) :
    effReverseDwellEnd a s = .next (s.modAx a fun x => { x with dwell := 0, halt := .no }) :=
  if_pos ⟨hdwell, hlate⟩

/-! ### Homing (R320 to R322) -/

@[simp] theorem State.ax_wrN (s : State) (r n a : Nat) : (s.wrN r n).ax a = s.ax a := rfl

@[simp] theorem State.ax_event (s : State) (code : Nat) (fields : List Nat) (sub a : Nat) :
    (s.event code fields sub).ax a = s.ax a := rfl

@[simp] theorem State.ax_raiseBit (s : State) (r i a : Nat) : (s.raiseBit r i).ax a = s.ax a := by
  rw [State.ax, State.raiseBit_step, State.ax]

/-- The record of a homing axis with its pending edges decided. -/
def StepAxis.decided (x : StepAxis) (h : Homing) : StepAxis := { x with homing := some { h with last := [] } }

/-- An active edge that has stood for N ticks moves SEEK or CREEP on. -/
theorem State.qualifyDue_active {s : State} {a n : Nat} {h : Homing} (hh : (s.ax a).homing = some h)
    (hlast : h.last = [(n, true)]) (hstood : n + s.fld (Reg.STEP_AX_HOME_CFG a) 15 12 ≤ s.tick + 1)
    (hhalt : (s.ax a).halt = .no) (hphase : (s.ax a).hphase ≠ 2) :
    s.qualifyDue a = (s.modAx a fun x => x.decided h).homeQualified a { h with last := [] } := by
  have hqualifies : s.edgeQualifies a = true := by simp [State.edgeQualifies, hh, hlast, hstood]
  have hsought : h.last.any (fun e => e.2 == (s.ax a).seeks) = true ∧ (s.ax a).halt = .no := by
    simp [StepAxis.seeks, hlast, hhalt, hphase]
  rw [State.qualifyDue, if_pos hqualifies]
  simp only [State.qualifyEdge, hh]
  exact if_pos hsought

theorem State.homeQualified_seek {s : State} {a : Nat} (h : Homing) (hphase : (s.ax a).hphase = 1) :
    s.homeQualified a h = s.modAx a fun x => { x with
      goal := .none, halt := .backoff, homing := some { h with window := none } } := by
  simp only [State.homeQualified, hphase]

theorem State.homeQualified_creep {s : State} {a : Nat} (h : Homing) (hphase : (s.ax a).hphase = 3) :
    s.homeQualified a h = s.homeDone a h := by
  simp only [State.homeQualified, hphase]

/-- Homing ends at a place known from its latch (R322). -/
theorem State.homeDone_shows {s : State} {a : Nat} {h : Homing} {l : Int} (hlatch : h.latch = some l)
    (hlen : a < s.step.axes.length) :
    ((s.homeDone a h).ax a).mode = .idle ∧ ((s.homeDone a h).ax a).homed = true ∧ ((s.homeDone a h).ax a).v = 0 ∧
    ((s.homeDone a h).ax a).pos = (s.ax a).pos + (if s.pageHas 9 2 a then directed (s.homeDir a) (s.homeCreep a) else 0) -
      l + signedOf 32 (s.rdN (Reg.STEP_AX_HOME_OFFSET a)) * 2 ^ 24 ∧
    (s.homeDone a h).rdN (Reg.STEP_AX_HOME_LATCH a) = codeOf 32 (l / 2 ^ 24) ∧
    (s.homeDone a h).flag Reg.STEP_EVENTS 0 = true := by
  have hne : Reg.STEP_AX_HOME_LATCH a ≠ Reg.STEP_EVENTS := by simp only [Reg.STEP_AX_HOME_LATCH, Reg.STEP_EVENTS]; omega
  have hcode : codeOf 32 (l / 2 ^ 24) < 2 ^ 32 := by unfold codeOf; omega
  simp only [State.homeDone, hlatch]
  rw [State.ax_event, State.ax_raiseBit, State.ax_wrN, State.ax_modAx_same _ hlen, State.rdN_congr (State.rd_event _ _ _ _ _),
    State.rdN_congr (State.rd_raiseBit_other _ _ hne), State.rdN_wrN_same, Nat.mod_eq_of_lt hcode,
    State.flag_congr (State.rd_event _ _ _ _ _)]
  refine ⟨rfl, rfl, rfl, ?pos, rfl, State.flag_raiseBit_same _ _ _ (by decide)⟩
  dsimp only
  split <;> ring

/-- A window that has ended with no edge pending is a failure (R321). -/
theorem State.windowDue_fails {s : State} {a g : Nat} {h : Homing} (hh : (s.ax a).homing = some h)
    (hwindow : h.window = some g) (hlate : g + s.fld (Reg.STEP_AX_HOME_WIN a) 15 0 ≤ s.tick) (hlast : h.last = []) :
    s.windowDue a = s.homeFail a 2 := by
  have hnow : s.edgeQualifies a = false := by simp [State.edgeQualifies, hh, hlast]
  simp [State.windowDue, hh, hwindow, hlate, hnow]

/-! ### The SCAP inputs (R319) -/

/-- SCAP input `i`. -/
def State.scapIn (s : State) (i : Nat) : ScapIn := s.sio.scap.getD i ScapIn.init

theorem State.scap_lt {s : State} (h : s.sio.scap.length = 8) (i : Fin 8) : i < s.sio.scap.length := by
  rw [h]
  exact i.isLt

/-- The first sample of an input at another level. -/
def State.sampleScap (s : State) (i : Nat) (level : Bool) (now : Nat) : State :=
  { s with sio := { s.sio with scap := s.sio.scap.modify i fun x => { x with raw := level, first := now } } }

theorem State.length_sampleScap (s : State) (i : Nat) (level : Bool) (now : Nat) :
    (s.sampleScap i level now).sio.scap.length = s.sio.scap.length :=
  List.length_modify ..

theorem State.scapIn_sampleScap {s : State} {i : Nat} (level : Bool) (now : Nat) (h : i < s.sio.scap.length) :
    (s.sampleScap i level now).scapIn i = { s.scapIn i with raw := level, first := now } :=
  getD_modify_same _ i _ _ h

theorem State.settleScap_settled {s : State} {i : Nat} (now : Nat) (h : (s.scapIn i).raw = (s.scapIn i).level) :
    s.settleScap i now = s :=
  if_neg fun hnew => hnew.1 h

theorem State.settleScap_early {s : State} {i now : Nat} (h : now < (s.scapIn i).first + s.scapFilter i) :
    s.settleScap i now = s :=
  if_neg fun hnew => absurd hnew.2 (not_le.2 h)

theorem State.settleScap_counts {s : State} {i now : Nat} (hnew : (s.scapIn i).raw ≠ (s.scapIn i).level)
    (hstood : (s.scapIn i).first + s.scapFilter i ≤ now) : s.settleScap i now =
      s.queueEdge i (s.scapIn i).first ((s.scapIn i).first + s.scapFilter i) (s.scapIn i).raw :=
  if_pos ⟨hnew, hstood⟩

/-- A change at an input whose level has settled is sampled first. -/
theorem execScapEdge_samples {i : Fin 8} {level : Bool} {sub : Fin 2500} {s : State}
    (hsettled : (s.scapIn i).raw = (s.scapIn i).level) (hnew : (s.scapIn i).raw ≠ level) : execScapEdge i level sub s =
      .next ((s.sampleScap i level (s.tick * 2500 + sub)).settleScap i (s.tick * 2500 + sub)) := by
  dsimp only [execScapEdge]
  rw [State.settleScap_settled _ hsettled]
  exact if_neg hnew

/-- With a filter time of 0 it counts at once. -/
theorem State.settleScap_sampled {s : State} {i now : Nat} {level : Bool}
    (hsettled : (s.scapIn i).raw = (s.scapIn i).level) (hnew : (s.scapIn i).raw ≠ level) (hfilter : s.scapFilter i = 0)
    (h : i < s.sio.scap.length) : (s.sampleScap i level now).settleScap i now =
      (s.sampleScap i level now).queueEdge i now now level := by
  have hin := State.scapIn_sampleScap level now h
  have hzero : (s.sampleScap i level now).scapFilter i = 0 := hfilter
  rw [State.settleScap_counts (by rw [hin]; exact fun e => hnew (hsettled.trans e.symm)) (by rw [hin, hzero]; rfl), hin, hzero]
  rfl

/-- An edge with room in the queue is queued (R319). -/
theorem State.queueEdge_queues {s : State} {i : Nat} (first at_ : Nat) (rising : Bool)
    (hroom : (s.scapIn i).queue.length < 8) (h : i < s.sio.scap.length) :
    (s.queueEdge i first at_ rising).scapIn i = { s.scapIn i with
      level := rising, serial := (s.scapIn i).serial + 1
      queue := (s.scapIn i).queue ++ [⟨first / 2500, first % 2500, rising, at_ / 2500, (s.scapIn i).serial, 0⟩] } ∧
    ∀ r, (s.queueEdge i first at_ rising).rd r = s.rd r := by
  have hroom' : ¬ 8 ≤ (s.sio.scap.getD i ScapIn.init).queue.length := not_le.2 hroom
  dsimp only [State.queueEdge]
  rw [if_neg hroom']
  exact ⟨getD_modify_same _ i _ _ h, fun _ => rfl⟩

/-- One at a full queue is dropped with SCAP_OVF. -/
theorem State.queueEdge_drops {s : State} {i : Nat} (first at_ : Nat) (rising : Bool)
    (hfull : 8 ≤ (s.scapIn i).queue.length) (h : i < s.sio.scap.length) (hi : i < 32) :
    (s.queueEdge i first at_ rising).scapIn i = { s.scapIn i with level := rising } ∧
    (s.queueEdge i first at_ rising).flag Reg.SIO_EVENTS i = true := by
  have hfull' : 8 ≤ (s.sio.scap.getD i ScapIn.init).queue.length := hfull
  dsimp only [State.queueEdge]
  rw [if_pos hfull', State.scapIn, State.raiseBit_sio]
  exact ⟨getD_modify_same _ i _ _ h, State.flag_raiseBit_same _ _ _ hi⟩

/-! ### The statement -/

/-- Settles O32, by the branch that each command takes, by what a fault leaves through its jam, and by what an edge leaves of its
input. -/
theorem stepperReturnsHomingAndEdges : Obligations.StepperReturnsHomingAndEdges := by
  unfold Obligations.StepperReturnsHomingAndEdges
  refine ⟨?good, ?bad, ?waits, ?timeout, ?dwell, ?seek, ?creep, ?window, ?queued, ?filtered, ?dropped⟩
  case good =>
    intro k bs f s hf hcrc hlink hslot hopen hlinks
    refine ⟨_, (exec_any (i := .stepFrameReturn k bs) rfl s).trans (execStepFrameReturn_gathers hlink hslot hopen), ?_⟩
    rw [hf]
    exact State.gatherStepFrame_good hcrc (by rw [hlinks]; exact k.isLt)
  case bad =>
    intro k bs s hcrc hlink hslot hopen
    obtain ⟨hcount, hstep⟩ := State.gatherStepFrame_bad (s := s) (k := k) hcrc
    refine ⟨_, (exec_any (i := .stepFrameReturn k bs) rfl s).trans (execStepFrameReturn_gathers hlink hslot hopen),
      hcount, ?_⟩
    rw [hstep]
    exact ⟨rfl, rfl, rfl⟩
  case waits =>
    intro k bs s hlink hwait
    exact ⟨_, (exec_any (i := .stepFrameReturn k bs) rfl s).trans (execStepFrameReturn_waits hlink hwait), rfl, fun _ => rfl⟩
  case timeout =>
    intro a s0 s hb hmode hlate haxes
    obtain ⟨hfault, hflag⟩ := State.flaggedFault_shows (a := a) (bit := 4) 0x0905 [a, ((s.ax a).amplitude).getD 0] 0x0E 0
      (State.axis_lt haxes a) (by decide)
    exact ⟨_, (exec_decision (i := .stepStartTimeout a) rfl hb).trans
      (congrArg Host.Outcome.next (State.startTimeout_faults hmode hlate)),
      hfault.mode, hfault.bridges, hfault.record, hflag, hfault.message⟩
  case dwell =>
    intro a s0 s hb hdwell hlate haxes
    exact ⟨_, (exec_decision (i := .reverseDwellEnd a) rfl hb).trans (effReverseDwellEnd_ends hdwell hlate),
      State.ax_modAx_same _ (State.axis_lt haxes a), fun _ => rfl⟩
  case seek =>
    intro a h n s0 s hb hh hlast hstood hhalt hphase haxes
    have hlen : a < s.step.axes.length := State.axis_lt haxes a
    have hdecided := State.ax_modAx_same (fun x => x.decided h) hlen
    refine ⟨_, (exec_decision (i := .homeEdgeQualified a) rfl hb).trans (congrArg Host.Outcome.next
      ((State.qualifyDue_active hh hlast hstood hhalt (by omega)).trans
        (State.homeQualified_seek _ (by rw [hdecided]; exact hphase)))), ?_⟩
    rw [State.ax_modAx_same _ (by rw [State.length_modAx]; exact hlen)]
    exact ⟨rfl, rfl, rfl, fun _ => rfl⟩
  case creep =>
    intro a h n l s0 s hb hh hlast hstood hhalt hphase hlatch haxes
    have hlen : a < s.step.axes.length := State.axis_lt haxes a
    have hdecided := State.ax_modAx_same (fun x => x.decided h) hlen
    refine ⟨_, (exec_decision (i := .homeEdgeQualified a) rfl hb).trans (congrArg Host.Outcome.next
      ((State.qualifyDue_active hh hlast hstood hhalt (by omega)).trans
        (State.homeQualified_creep _ (by rw [hdecided]; exact hphase)))), ?_⟩
    obtain ⟨hmode, hhomed, hv, hpos, hreg, hflag⟩ := State.homeDone_shows (s := s.modAx a fun x => x.decided h)
      (h := { h with last := [] }) hlatch (by rw [State.length_modAx]; exact hlen)
    rw [hdecided] at hpos
    exact ⟨hmode, hhomed, hv, hpos, hreg, hflag⟩
  case window =>
    intro a h g s0 s hb hh hwindow hlate hlast haxes
    obtain ⟨hfault, hflag⟩ := State.flaggedFault_shows (a := a) (bit := 1) 0x0902
      [a, 2, (s.ax a).hphase, codeOf 48 ((s.ax a).pos / 2 ^ 24)] 0x0B 2 (State.axis_lt haxes a) (by decide)
    exact ⟨_, (exec_decision (i := .homeWindowEnd a) rfl hb).trans
      (congrArg Host.Outcome.next (State.windowDue_fails hh hwindow hlate hlast)),
      hfault.mode, hfault.record, hflag, hfault.message⟩
  case queued =>
    intro i level sub x s hx hsettled hnew hfilter hroom hlen
    subst hx
    have hi := State.scap_lt hlen i
    have hin := State.scapIn_sampleScap level (s.tick * 2500 + sub) hi
    obtain ⟨hqueued, hrd⟩ := State.queueEdge_queues (s := s.sampleScap i level (s.tick * 2500 + sub)) (i := i)
      (s.tick * 2500 + sub) (s.tick * 2500 + sub) level (by rw [hin]; exact hroom)
      (by rw [State.length_sampleScap]; exact hi)
    have htick : (s.tick * 2500 + sub) / 2500 = s.tick := by omega
    have hsub : (s.tick * 2500 + sub) % 2500 = sub := by omega
    refine ⟨_, (exec_any (i := .scapEdge i level sub) rfl s).trans ((execScapEdge_samples hsettled hnew).trans
      (congrArg Host.Outcome.next (State.settleScap_sampled hsettled hnew hfilter hi))), ?_, hrd⟩
    rw [hin, htick, hsub] at hqueued
    exact hqueued
  case filtered =>
    intro i level sub x s hx hsettled hnew hfilter hlen
    subst hx
    have hin := State.scapIn_sampleScap level (s.tick * 2500 + sub) (State.scap_lt hlen i)
    have hfilter' : 0 < (s.sampleScap i level (s.tick * 2500 + sub)).scapFilter i := hfilter
    exact ⟨_, (exec_any (i := .scapEdge i level sub) rfl s).trans ((execScapEdge_samples hsettled hnew).trans
      (congrArg Host.Outcome.next (State.settleScap_early (by rw [hin]; exact Nat.lt_add_of_pos_right hfilter')))), hin, rfl⟩
  case dropped =>
    intro i level sub x s hx hsettled hnew hfilter hfull hlen
    subst hx
    have hi := State.scap_lt hlen i
    have hin := State.scapIn_sampleScap level (s.tick * 2500 + sub) hi
    obtain ⟨hdropped, hflag⟩ := State.queueEdge_drops (s := s.sampleScap i level (s.tick * 2500 + sub)) (i := i)
      (s.tick * 2500 + sub) (s.tick * 2500 + sub) level (by rw [hin]; exact hfull)
      (by rw [State.length_sampleScap]; exact hi) (by omega)
    rw [hin] at hdropped
    exact ⟨_, (exec_any (i := .scapEdge i level sub) rfl s).trans ((execScapEdge_samples hsettled hnew).trans
      (congrArg Host.Outcome.next (State.settleScap_sampled hsettled hnew hfilter hi))),
      (congrArg ScapIn.queue hdropped :), (congrArg ScapIn.level hdropped :), hflag⟩

end Sys2Proof.Machine
end

section
/-!
SUPPORT. The commands of the synchronous axes (R336, R337, R344 to R347, R353): an axis's record, what a command that passes its
checks or is refused leaves, and the proof of the statement about them.
-/

namespace Sys2Proof.Machine

/-- A command of a synchronous axis is its effect after what is due for the axis (R346). -/
theorem exec_axisTurn {i : Instr} {a : Nat} {s0 s : State} (ht : i.turn = .axis a) (hb : s0.begin (.axis a) = s) :
    exec i s0 = i.effect s := by
  rw [exec_eq_run, ht]
  exact Turn.run_ready _ hb rfl

/-! ### The record of an axis -/

theorem State.sx_modSx_same {s : State} {a : Nat} (f : SyncAxis → SyncAxis) (h : a < s.axis.axes.length) :
    (s.modSx a f).sx a = f (s.sx a) := by
  simp [State.sx, State.modSx, h]

theorem State.sync_lt {s : State} (h : s.axis.axes.length = 24) (a : Fin 24) : a < s.axis.axes.length := by
  rw [h]
  exact a.isLt

@[simp] theorem State.length_modSx (s : State) (a : Nat) (f : SyncAxis → SyncAxis) :
    (s.modSx a f).axis.axes.length = s.axis.axes.length :=
  List.length_modify ..

/-- An axis that begins to decelerate (R353). -/
theorem State.sx_brakeSync {s : State} {a : Nat} (mode : AxisMode) (halt : Halt) (h : a < s.axis.axes.length) :
    (s.brakeSync a mode halt).sx a = { s.sx a with
      mode := mode, goal := .speed 0, halt := halt
      profile := if (s.sx a).mode = .ledger then s.syncProfile a 0 else (s.sx a).profile } :=
  State.sx_modSx_same _ h

/-! ### The checks of a command (R304, R346) -/

/-- A command that passes has its result written before it takes effect. -/
def State.axisTaken (s : State) (a : Nat) : State := s.wrN (Reg.AXIS_AX_RESULT a) 1

theorem State.axisCommand_passes {s : State} {a : Nat} {checks : List (Bool × Nat)} (f : State → State)
    (h : ∀ c ∈ checks, c.1 = false) : s.axisCommand a checks f = f (s.axisTaken a) := by
  have hnone : checks.find? (·.1) = none := List.find?_eq_none.2 fun c hc => by simp [h c hc]
  rw [State.axisCommand, hnone]
  rfl

/-- The same of a command with checks of its own after the shared ones. -/
theorem State.axisCommand_passes_both {s : State} {a : Nat} {shared own : List (Bool × Nat)} (f : State → State)
    (hshared : ∀ c ∈ shared, c.1 = false) (hown : ∀ c ∈ own, c.1 = false) :
    s.axisCommand a (shared ++ own) f = f (s.axisTaken a) :=
  State.axisCommand_passes f (List.forall_mem_append.2 ⟨hshared, hown⟩)

/-- A command that fails a check writes the result of the first that fails, sets CMD_REFUSED and changes no axis. -/
theorem State.axisCommand_refused {s : State} {a : Nat} {checks : List (Bool × Nat)} {result : Nat} (f : State → State)
    (h : checks.find? (·.1) = some (true, result)) :
    (s.axisCommand a checks f).rdN (Reg.AXIS_AX_RESULT a) = result % 2 ^ 32 ∧
    (s.axisCommand a checks f).flag Reg.AXIS_EVENTS 10 = true ∧ (s.axisCommand a checks f).axis = s.axis := by
  have hne : Reg.AXIS_AX_RESULT a ≠ Reg.AXIS_EVENTS := by simp only [Reg.AXIS_AX_RESULT, Reg.AXIS_EVENTS]; omega
  rw [State.axisCommand, h]
  refine ⟨?_, State.flag_raiseBit_same _ _ _ (by decide), State.raiseBit_axis ..⟩
  rw [State.rdN_congr (State.rd_raiseBit_other _ _ hne), State.rdN_wrN_same]

theorem State.axisIn_iff {s : State} {a : Nat} {ms : List AxisMode} : s.axisIn a ms = true ↔ (s.sx a).mode ∈ ms :=
  List.contains_iff_mem

theorem State.axisChecks_pass {s : State} {a : Nat} {accepted : Bool} (hsafe : s.safe = false)
    (hledger : (s.sx a).mode ≠ .ledger) (h : accepted = true) : ∀ c ∈ s.axisChecks a accepted, c.1 = false := by
  simp [State.axisChecks, hsafe, hledger, h]

/-- The shared checks of a command that the axis's mode accepts. -/
theorem State.syncModeChecks_pass {s : State} {a : Nat} {ms : List AxisMode} (hsafe : s.safe = false)
    (hmode : (s.sx a).mode ∈ ms) (hms : .ledger ∉ ms) : ∀ c ∈ s.axisChecks a (s.axisIn a ms), c.1 = false :=
  State.axisChecks_pass hsafe (fun h => hms (h ▸ hmode)) (State.axisIn_iff.2 hmode)

/-! ### What a command finds once its result is written -/

theorem State.result_axisTaken (s : State) (a : Nat) : (s.axisTaken a).rdN (Reg.AXIS_AX_RESULT a) = 1 :=
  s.rdN_wrN_same _ 1

theorem State.rd_axisTaken_other (s : State) (a : Nat) {r : Nat} (h : r ≠ Reg.AXIS_AX_RESULT a) :
    (s.axisTaken a).rd r = s.rd r :=
  s.rd_wrN_other 1 h

theorem State.axisTaken_lt {s : State} (h : s.axis.axes.length = 24) (a : Fin 24) :
    a < (s.axisTaken a).axis.axes.length :=
  State.sync_lt h a

theorem State.axisTarget_axisTaken (s : State) (a : Nat) : (s.axisTaken a).axisTarget a = s.axisTarget a := by
  have hlo : Reg.AXIS_AX_TARGET_LO a ≠ Reg.AXIS_AX_RESULT a := by simp only [Reg.AXIS_AX_TARGET_LO, Reg.AXIS_AX_RESULT]; omega
  have hhi : Reg.AXIS_AX_TARGET_HI a ≠ Reg.AXIS_AX_RESULT a := by simp only [Reg.AXIS_AX_TARGET_HI, Reg.AXIS_AX_RESULT]; omega
  rw [State.axisTarget, State.rdN_congr (s.rd_axisTaken_other a hlo), State.fld_congr (s.rd_axisTaken_other a hhi),
    State.axisTarget]

theorem State.axPoles_axisTaken (s : State) (a : Nat) : (s.axisTaken a).axPoles a = s.axPoles a := by
  have hne : Reg.AXIS_AX_CFG a ≠ Reg.AXIS_AX_RESULT a := by simp only [Reg.AXIS_AX_CFG, Reg.AXIS_AX_RESULT]; omega
  rw [State.axPoles, State.fld_congr (s.rd_axisTaken_other a hne), State.axPoles]

/-! ### Commands that pass their checks -/

/-- VELOCITY of an aligned axis that is at rest or moves (R346). -/
theorem State.axisVelocity_aligned {s : State} {a prof : Nat} (hsafe : s.safe = false)
    (hmode : (s.sx a).mode = .idle ∨ (s.sx a).mode = .velocity ∨ (s.sx a).mode = .move) (haligned : (s.sx a).aligned = true)
    (hvalid : axisProfileValid (s.syncProfile a prof) = true)
    (hmax : (s.axisAsked a).natAbs ≤ pf (s.syncProfile a prof) 1) : s.axisVelocity a prof =
      ((s.axisTaken a).modSx a fun x => { x with profile := s.syncProfile a prof, clamped := 0 }).modSx a
        fun y => { y with mode := .velocity, goal := .speed (s.axisAsked a), halt := .no } := by
  have hin : (s.sx a).mode ∈ [.idle, .velocity, .move, .start, .recover] := by
    rcases hmode with h | h | h <;> simp [h]
  have hpass := State.syncModeChecks_pass hsafe hin (by decide)
  have hsx : (s.axisTaken a).sx a = s.sx a := rfl
  dsimp only [State.axisVelocity]
  rw [State.axisCommand_passes_both _ hpass (by simp [hvalid, hmax]), hsx]
  rcases hmode with h | h | h <;> simp only [h, haligned, true_or, if_true]

/-- STOP of an axis whose stage is on (R353). -/
theorem State.axisStop_brakes {s : State} {a : Nat} (hsafe : s.safe = false)
    (hmode : (s.sx a).mode = .velocity ∨ (s.sx a).mode = .move ∨ (s.sx a).mode = .start) :
    s.axisStop a = (s.axisTaken a).brakeSync a .stopping .stop := by
  have hin : (s.sx a).mode ∈ [.velocity, .move, .start, .recover] := by
    rcases hmode with h | h | h <;> simp [h]
  have hpass := State.syncModeChecks_pass hsafe hin (by decide)
  have hnot : ((s.axisTaken a).sx a).mode ≠ .recover := fun (h : (s.sx a).mode = .recover) => by simp [h] at hmode
  rw [State.axisStop, State.axisCommand_passes _ hpass, if_neg hnot]

/-- CLEAR of an axis that has come to rest: DISABLED after LINK_LOSS, and else IDLE (R346). -/
theorem State.axisClear_still {s : State} {a : Nat} (hsafe : s.safe = false) (hmode : (s.sx a).mode = .fault)
    (hstill : (s.sx a).still = true) : s.axisClear a =
      if s.fld (Reg.AXIS_AX_FAULT a) 4 0 = 0x07 then
        (s.axisTaken a).modSx a fun x => { x with mode := .disabled, goal := .none, halt := .no, bridges := false }
      else (s.axisTaken a).axisIdle a none := by
  have hpass := State.axisChecks_pass (a := a) (accepted := s.axisIn a [.fault] && (s.sx a).still) hsafe
    (by rw [hmode]; decide) (by simp [State.axisIn, hmode, hstill])
  have hne : Reg.AXIS_AX_FAULT a ≠ Reg.AXIS_AX_RESULT a := by simp only [Reg.AXIS_AX_FAULT, Reg.AXIS_AX_RESULT]; omega
  rw [State.axisClear, State.axisCommand_passes _ hpass, State.fld_congr (s.rd_axisTaken_other a hne)]

/-! ### The statement -/

/-- Settles O33, by the checks that each command passes and the change of its axis that follows the result; the refusals, by the
check that fails first. -/
theorem axisCommands : Obligations.AxisCommands := by
  unfold Obligations.AxisCommands
  refine ⟨?enable, ?disable, ?move, ?unaligned, ?velocity, ?stop, ?setPos, ?clearLink, ?clear, ?refused⟩
  case enable =>
    intro a s0 s hb hsafe hmode hlink hholding hcomplete haxes
    have hpass := State.axisChecks_pass (a := a)
      (accepted := s.axisIn a [.disabled] && decide (s.axisLink (a / 6) = 2)) hsafe (by rw [hmode]; decide)
      (by simp [State.axisIn, hmode, hlink])
    refine ⟨s.axisEnable a, exec_axisTurn (i := .axisEnable a) rfl hb, ?_⟩
    rw [State.axisEnable, State.axisCommand_passes_both _ hpass (by simp [hholding, hcomplete]),
      State.sx_modSx_same _ (State.axisTaken_lt haxes a)]
    exact ⟨rfl, rfl, rfl, rfl, s.result_axisTaken a⟩
  case disable =>
    intro a s0 s hb hmode haxes
    have hpass : ∀ c ∈ [(decide ((s.sx a).mode = .ledger), 8), (!s.axisIn a [.disabled, .idle, .spindown, .fault], 2)],
        c.1 = false := by
      rcases hmode with h | h | h | h <;> simp [State.axisIn, h]
    refine ⟨s.axisDisable a, exec_axisTurn (i := .axisDisable a) rfl hb, ?_⟩
    rw [State.axisDisable, State.axisCommand_passes _ hpass, State.sx_modSx_same _ (State.axisTaken_lt haxes a)]
    exact ⟨rfl, rfl, rfl, rfl, s.result_axisTaken a⟩
  case move =>
    intro a prof s0 s hb hsafe hmode haligned hvalid haxes
    have hpass := State.syncModeChecks_pass (ms := [.idle, .velocity, .move]) hsafe (by simpa using hmode) (by decide)
    refine ⟨s.axisMove a prof, exec_axisTurn (i := .axisMove a prof) rfl hb, ?_⟩
    dsimp only [State.axisMove]
    rw [State.axisCommand_passes_both _ hpass (by simp [haligned, hvalid]), State.sx_modSx_same _ (State.axisTaken_lt haxes a),
      s.axisTarget_axisTaken a]
    exact ⟨rfl, rfl, rfl, rfl, s.result_axisTaken a⟩
  case unaligned =>
    intro a prof s0 s hb hsafe hmode haligned
    have hpass := State.syncModeChecks_pass (ms := [.idle, .velocity, .move]) hsafe (by simpa using hmode) (by decide)
    refine ⟨_, exec_axisTurn (i := .axisMove a prof) rfl hb, State.axisCommand_refused (result := 9) _ ?_⟩
    rw [List.find?_append, List.find?_eq_none.2 fun c hc => by simp [hpass c hc]]
    simp [haligned]
  case velocity =>
    intro a prof s0 s hb hsafe hmode haligned hvalid hmax haxes
    refine ⟨_, (exec_axisTurn (i := .axisVelocity a prof) rfl hb).trans
      (congrArg Host.Outcome.next (State.axisVelocity_aligned hsafe hmode haligned hvalid hmax)), ?_⟩
    rw [State.sx_modSx_same _ (by rw [State.length_modSx]; exact State.axisTaken_lt haxes a),
      State.sx_modSx_same _ (State.axisTaken_lt haxes a)]
    exact ⟨rfl, rfl, rfl, s.result_axisTaken a⟩
  case stop =>
    intro a s0 s hb hsafe hmode haxes
    refine ⟨_, (exec_axisTurn (i := .axisStop a) rfl hb).trans
      (congrArg Host.Outcome.next (State.axisStop_brakes hsafe hmode)), ?_⟩
    rw [State.sx_brakeSync _ _ (State.axisTaken_lt haxes a)]
    exact ⟨rfl, rfl, rfl, s.result_axisTaken a⟩
  case setPos =>
    intro a s0 s hb hsafe hmode haxes
    have hpass := State.syncModeChecks_pass (ms := [.idle]) hsafe (List.mem_singleton.2 hmode) (by decide)
    refine ⟨s.axisSetPos a, exec_axisTurn (i := .axisSetPos a) rfl hb, ?_⟩
    dsimp only [State.axisSetPos]
    rw [State.axisCommand_passes _ hpass, State.sx_modSx_same _ (State.axisTaken_lt haxes a),
      s.axisTarget_axisTaken a, s.axPoles_axisTaken a]
    exact ⟨rfl, rfl, rfl, hmode, s.result_axisTaken a⟩
  case clearLink =>
    intro a s0 s hb hsafe hmode hstill hkind haxes
    refine ⟨_, (exec_axisTurn (i := .axisClear a) rfl hb).trans
      (congrArg Host.Outcome.next ((State.axisClear_still hsafe hmode hstill).trans (if_pos hkind))), ?_⟩
    rw [State.sx_modSx_same _ (State.axisTaken_lt haxes a)]
    exact ⟨rfl, rfl, rfl, s.result_axisTaken a⟩
  case clear =>
    intro a s0 s hb hsafe hmode hstill hkind haxes
    refine ⟨_, (exec_axisTurn (i := .axisClear a) rfl hb).trans
      (congrArg Host.Outcome.next ((State.axisClear_still hsafe hmode hstill).trans (if_neg hkind))), ?_⟩
    dsimp only [State.axisIdle]
    rw [State.sx_modSx_same _ (State.axisTaken_lt haxes a)]
    exact ⟨rfl, s.result_axisTaken a⟩
  case refused =>
    intro a s0 s hb hsafe hmode hledger
    refine ⟨_, exec_axisTurn (i := .axisSetPos a) rfl hb, State.axisCommand_refused (result := 2) _ ?_⟩
    simp [State.axisChecks, State.axisIn, hsafe, hmode, hledger]

end Sys2Proof.Machine
end

section
/-!
SUPPORT. A fault of a synchronous axis (R138, R354): what a jam is made of, that it leaves an axis in FAULT as it is, and what a
fault that coasts shows.
-/

namespace Sys2Proof.Machine

/-! ### What a jam is made of (R139, R172) -/

/-- A relation of a state to a later one that holds across each part of a jam: what changes neither an axis nor the fault
collector, and what asks an axis to stop, gives it to the ledger or takes it back. -/
structure JamRelation (P : State → State → Prop) : Prop where
  refl : ∀ s, P s s
  trans : ∀ {s t u}, P s t → P t u → P s u
  frame : ∀ {s t}, Frame (fun b => b ≠ .flt ∧ b ≠ .step ∧ b ≠ .axis) (fun _ => True) s t → P s t
  ask : ∀ s stepper b, P s (s.askStop stepper b)
  enter : ∀ s stepper b, P s (s.enterLedger stepper b)
  idle : ∀ s stepper b, P s (s.idleLedger stepper b)

section
variable {P : State → State → Prop}

theorem JamRelation.ite (h : JamRelation P) {s t : State} {c : Prop} [Decidable c] (ht : P s t) :
    P s (if c then t else s) := by
  split
  · exact ht
  · exact h.refl s

theorem JamRelation.foldl {α : Type} (h : JamRelation P) {f : State → α → State} (hf : ∀ u x, P u (f u x)) (l : List α)
    (s : State) : P s (l.foldl f s) := by
  induction l generalizing s with
  | nil => exact h.refl s
  | cons x l ih => exact h.trans (hf s x) (ih (f s x))

theorem JamRelation.stopPath (h : JamRelation P) (s : State) : P s s.stopPath :=
  h.trans (h.foldl (fun u b => h.ite (h.ask u _ b)) _ s) (h.foldl (fun u b => h.ite (h.ask u _ b)) _ _)

theorem JamRelation.setPace (h : JamRelation P) (s : State) (p : PaceBlk) : P s { s with pace := p } :=
  h.frame (Frame.mk' (.refl s) rfl (p_pace := .inl (by decide)))

theorem JamRelation.abortAxes (h : JamRelation P) (s : State) : P s s.abortAxes := by
  unfold State.abortAxes
  split
  · exact h.setPace s _
  · exact h.ite (h.trans (h.foldl (fun u (d : Bool × Nat × Nat) => h.enter u d.1 d.2.1) _ s) (h.setPace _ _))

theorem JamRelation.recordAbort (h : JamRelation P) (s : State) (cause : Nat) : P s (s.recordAbort cause) := by
  refine h.trans (h.abortAxes s) (h.frame ?_)
  refine State.event_frame _ _ _ _ (State.ledgerRecord_frame _ _ _ _ _ _ _ _ _ (State.raiseBit_frame _ _ _
    (State.setFld_frame _ _ _ _ _ (State.setFld_frame _ _ _ _ _ (.refl _) trivial) trivial) ?_ trivial) ?_ ?_ ?_ trivial) ?_
  all_goals decide

theorem JamRelation.abortMotion (h : JamRelation P) (s : State) : P s s.abortMotion := by
  have hnotice : P s (State.pathNotice { s with pace := { s.pace with aborting := decide (s.pace.v ≠ 0) } } 3 0) :=
    h.trans (h.setPace s _) (h.frame (State.emit_frame _ _ (.refl _) (by decide)))
  refine h.trans hnotice ?_
  exact h.ite (h.foldl (fun u (d : Bool × Nat × Nat) => h.idle u d.1 d.2.1) _ _)

theorem JamRelation.abortBackhitch (h : JamRelation P) (s : State) (cause : Nat) : P s (s.abortBackhitch cause) := by
  rcases hb : s.backhitching with _ | _
  · rw [State.abortBackhitch, hb]
    exact h.refl s
  · rw [State.abortBackhitch_eq cause hb]
    exact h.trans (h.recordAbort s cause) (h.abortMotion _)

theorem JamRelation.jam (h : JamRelation P) (s : State) (concerned : Option Nat) (cause point : Nat) :
    P s (s.jam concerned cause point) := by
  have hnote : P s s.noteJam :=
    h.frame (State.setFlag_frame _ _ _ _ (State.bump_frame _ _ _ _ (.refl s) trivial) trivial)
  have hend : ∀ u : State, P u (u.raiseBit Reg.LEDG_EVENTS 1).legJam := fun u =>
    h.frame (State.legJam_frame _ (State.raiseBit_frame _ _ _ (.refl u) (by decide) trivial) (by decide) trivial)
  refine h.trans (h.trans hnote (h.trans (h.foldl (fun u x => h.frame ?_) _ _) (h.foldl (fun u x => h.frame ?_) _ _)))
    (h.trans (h.stopPath _) (h.trans (h.abortBackhitch _ cause) (hend _)))
  · exact State.jamSheet_frame u x _ point (.refl u) (by decide) (by decide) (by decide) (by decide) (by decide)
      (by decide) trivial
  · exact State.withdraw_frame u x cause _ _ (.refl u) (by decide) (by decide) (by decide) (by decide) (by decide)
      (by decide) trivial trivial

theorem JamRelation.axisFaultJam (h : JamRelation P) (s : State) (stepper : Bool) (a : Nat) :
    P s (s.axisFaultJam stepper a) :=
  h.ite (h.jam s _ _ _)

end

/-! ### A jam leaves a synchronous axis in FAULT as it is -/

/-- From `s` to `t` synchronous axis `a`, where it is in FAULT, stays as it is. -/
def FaultKept (a : Nat) (s t : State) : Prop := (s.sx a).mode = .fault → t.sx a = s.sx a

theorem FaultKept.of_axis {a : Nat} {s t : State} (h : t.axis = s.axis) : FaultKept a s t := fun _ => by
  rw [State.sx, h, State.sx]

/-- A change of an axis that is not in FAULT. -/
theorem State.modSx_faultKept {s : State} {b : Nat} (a : Nat) (f : SyncAxis → SyncAxis) (h : (s.sx b).mode ≠ .fault) :
    FaultKept a s (s.modSx b f) := by
  intro hfault
  have hne : b ≠ a := fun e => h (e ▸ hfault)
  simp [State.sx, State.modSx, List.getD_eq_getElem?_getD, hne]

theorem faultKept_jamRelation (a : Nat) : JamRelation (FaultKept a) where
  refl _ := fun _ => rfl
  trans h k hs := (k ((congrArg SyncAxis.mode (h hs)).trans hs)).trans (h hs)
  frame h := .of_axis (h.parts .axis (by decide))
  ask s stepper b := by
    cases stepper with
    | true =>
      simp only [State.askStop, if_true]
      split <;> exact .of_axis rfl
    | false =>
      simp only [State.askStop, Bool.false_eq_true, if_false]
      split
      case h_5 => exact fun _ => rfl
      all_goals next hmode => exact State.modSx_faultKept a _ (by rw [hmode]; decide)
  enter s stepper b := by
    cases stepper with
    | true =>
      simp only [State.enterLedger, if_true]
      split <;> exact .of_axis rfl
    | false =>
      simp only [State.enterLedger, Bool.false_eq_true, if_false]
      split
      case h_4 hfault => exact State.modSx_faultKept a _ hfault
      all_goals exact fun _ => rfl
  idle s stepper b := by
    cases stepper with
    | true =>
      simp only [State.idleLedger, if_true]
      split <;> exact .of_axis rfl
    | false =>
      simp only [State.idleLedger, Bool.false_eq_true, if_false]
      split
      · next hmode => exact State.modSx_faultKept a _ (by rw [hmode]; decide)
      · exact fun _ => rfl

/-! ### A fault that coasts (R353, R354) -/

/-- It writes no register of the block of the synchronous axes. -/
theorem State.rd_axisFaultJam_sync (s : State) (stepper : Bool) (a : Nat) {r : Nat} (h : r / 0x10000 = 0xD) :
    (s.axisFaultJam stepper a).rd r = s.rd r := by
  have hkeeps : Frame (fun _ => True) (fun r => r / 0x10000 ≠ 0xD) s (s.axisFaultJam stepper a) := by
    apply State.axisFaultJam_frame (hB := .refl s)
    all_goals trivial
  exact hkeeps.regs r (not_not.2 h)

/-- The record and the message of a fault. -/
def State.noteAxisFault (s : State) (a kind detail flags : Nat) : State :=
  (s.wrN (Reg.AXIS_AX_FAULT a) (kind + detail * 256 + flags * 65536)).fault (0x280 + a) kind 0

/-- The axis coasts in FAULT, and moves towards nothing. -/
def State.coastFault (s : State) (a : Nat) : State :=
  (s.coastSync a .fault).modSx a fun x => { x with goal := .none, halt := .no }

/-- Every fault but POSITION_SENSOR coasts. -/
theorem State.axisFault_coasts (s : State) (a detail flags : Nat) {kind : Nat} (h : kind ≠ 0x17) :
    s.axisFault a kind detail flags = ((s.noteAxisFault a kind detail flags).coastFault a).axisFaultJam false a := by
  simp only [State.axisFault, h, false_and, if_false]
  rfl

theorem State.sx_coastFault {s : State} {a : Nat} (h : a < s.axis.axes.length) : (s.coastFault a).sx a =
    { s.sx a with
      mode := .fault, bridges := false, coasting := true, vcmd := 0, guard := 0, lowRun := 0, goodRun := 0
      ramping := false, goal := .none, halt := .no } := by
  rw [State.coastFault, State.sx_modSx_same _ (by rw [State.coastSync, State.length_modSx]; exact h), State.coastSync,
    State.sx_modSx_same _ h]

/-- What a coasting fault of synchronous axis `a` in tick `tick` shows: its mode, its bridges, its record and its message. -/
structure AxisFaulted (a kind detail tick : Nat) (t : State) : Prop where
  mode : (t.sx a).mode = .fault
  bridges : (t.sx a).bridges = false
  record : t.rdN (Reg.AXIS_AX_FAULT a) = (kind + detail * 256) % 2 ^ 32
  message : ⟨0x280 + a, kind, 0, tick⟩ ∈ t.flt.sent

theorem State.axisFault_shows {s : State} {a kind : Nat} (detail : Nat) (hkind : kind ≠ 0x17) (h : a < s.axis.axes.length) :
    AxisFaulted a kind detail s.tick (s.axisFault a kind detail 0) := by
  have hreg : Reg.AXIS_AX_FAULT a / 0x10000 = 0xD := by simp only [Reg.AXIS_AX_FAULT]; omega
  have hcoasts := State.sx_coastFault (s := s.noteAxisFault a kind detail 0) h
  have hkept : (s.axisFault a kind detail 0).sx a = ((s.noteAxisFault a kind detail 0).coastFault a).sx a := by
    rw [State.axisFault_coasts s a detail 0 hkind]
    exact (faultKept_jamRelation a).axisFaultJam _ false a (congrArg SyncAxis.mode hcoasts)
  rw [hcoasts] at hkept
  refine ⟨congrArg SyncAxis.mode hkept, congrArg SyncAxis.bridges hkept, ?record, ?message⟩
  case record =>
    rw [State.axisFault_coasts s a detail 0 hkind, State.rdN_congr (State.rd_axisFaultJam_sync _ _ _ hreg)]
    exact (s.rdN_wrN_same _ _).trans (by rw [Nat.zero_mul, Nat.add_zero])
  case message =>
    rw [State.axisFault_coasts s a detail 0 hkind, (State.axisFaultJam_faultStands _ false a a).flt]
    exact List.mem_append_right _ (List.mem_singleton_self _)

/-- It leaves the event flags of the block. -/
theorem State.rd_axisFault_events (s : State) (a kind detail flags : Nat) :
    (s.axisFault a kind detail flags).rd Reg.AXIS_EVENTS = s.rd Reg.AXIS_EVENTS := by
  have hkeeps : Frame (fun _ => True) (· ≠ Reg.AXIS_EVENTS) s (s.axisFault a kind detail flags) := by
    apply State.axisFault_frame (hB := .refl s)
    case r_AXIS_AX_FAULT => intro i; simp only [Reg.AXIS_AX_FAULT, Reg.AXIS_EVENTS]; omega
    all_goals trivial
  exact hkeeps.regs _ (not_not.2 rfl)

/-- A fault that comes with its flag and its event. -/
theorem State.flaggedAxisFault_shows {s : State} {a bit kind : Nat} (code : Nat) (fields : List Nat) (detail : Nat)
    (hkind : kind ≠ 0x17) (h : a < s.axis.axes.length) (hbit : bit < 32) :
    AxisFaulted a kind detail s.tick (((s.raiseBit Reg.AXIS_EVENTS bit).event code fields).axisFault a kind detail 0) ∧
    (((s.raiseBit Reg.AXIS_EVENTS bit).event code fields).axisFault a kind detail 0).flag Reg.AXIS_EVENTS bit = true := by
  have hlen : a < ((s.raiseBit Reg.AXIS_EVENTS bit).event code fields).axis.axes.length := by
    rw [State.event_axis, State.raiseBit_axis]
    exact h
  have hfault := State.axisFault_shows detail hkind hlen
  rw [State.event_tick, State.raiseBit_tick] at hfault
  refine ⟨hfault, ?_⟩
  rw [State.flag_congr (State.rd_axisFault_events _ _ _ _ _), State.flag_congr (State.rd_event _ _ _ _ _)]
  exact State.flag_raiseBit_same _ _ _ hbit

end Sys2Proof.Machine
end

section
/-!
SUPPORT. Returns of the axis links, the time-outs of catching and recovery, the observer's loss and the facet periods of a
polygon (R333, R334, R348, R351, R352, R357, R559), and the proof of the statement about them. Which TICK a frame must carry is
log entry 55, the rounding of POLY_GAIN log entry 21.
-/

namespace Sys2Proof.Machine

/-! ### Returns of an axis link (R333, R334, R559) -/

/-- On a link that is UP a frame that has a bad CRC or the right TICK is gathered, or waits. -/
theorem execAxisFrameReturn_kept {k : Fin 4} {bs : List Byte} {s : State} (hlink : s.axisLink k = 2)
    (htick : (readAxisFrame bs).crcOk = false ∨ s.axisTickOk (readAxisFrame bs).tick = true) :
    execAxisFrameReturn k bs s =
      if s.pageHas 0x0A 1 k ∧ !s.decideOpen then .next (s.gatherAxisFrame k (readAxisFrame bs))
      else .next { s with axis := { s.axis with waiting := tabPut s.axis.waiting k (readAxisFrame bs) } } := by
  rcases htick with h | h <;> simp [execAxisFrameReturn, hlink, h]

theorem execAxisFrameReturn_gathers {k : Fin 4} {bs : List Byte} {s : State} (hlink : s.axisLink k = 2)
    (htick : (readAxisFrame bs).crcOk = false ∨ s.axisTickOk (readAxisFrame bs).tick = true)
    (hslot : s.pageHas 0x0A 1 k = true) (hopen : s.decideOpen = false) :
    execAxisFrameReturn k bs s = .next (s.gatherAxisFrame k (readAxisFrame bs)) :=
  (execAxisFrameReturn_kept hlink htick).trans (if_pos ⟨hslot, by rw [hopen]; rfl⟩)

theorem execAxisFrameReturn_waits {k : Fin 4} {bs : List Byte} {s : State} (hlink : s.axisLink k = 2)
    (htick : (readAxisFrame bs).crcOk = false ∨ s.axisTickOk (readAxisFrame bs).tick = true)
    (hwait : s.pageHas 0x0A 1 k = false ∨ s.decideOpen = true) : execAxisFrameReturn k bs s =
      .next { s with axis := { s.axis with waiting := tabPut s.axis.waiting k (readAxisFrame bs) } } :=
  (execAxisFrameReturn_kept hlink htick).trans (if_neg (by rcases hwait with h | h <;> simp [h]))

theorem execAxisFrameReturn_discards {k : Fin 4} {bs : List Byte} {s : State} (hlink : s.axisLink k = 2)
    (hcrc : (readAxisFrame bs).crcOk = true) (htick : s.axisTickOk (readAxisFrame bs).tick = false) :
    execAxisFrameReturn k bs s = .next s := by
  simp [execAxisFrameReturn, hlink, hcrc, htick]

/-- A good frame restarts the count of misses of its link and is kept for the decide phase; none waits any more. -/
theorem State.gatherAxisFrame_good {s : State} {k : Nat} {f : AxisFrame} (hcrc : f.crcOk = true)
    (hk : k < s.axis.links.length) :
    ((s.gatherAxisFrame k f).axis.links.getD k Link.init).good = s.tick + 1 ∧
    ((s.gatherAxisFrame k f).axis.links.getD k Link.init).miss = 0 ∧
    tabFind (s.gatherAxisFrame k f).axis.waiting k = none ∧ tabFind (s.gatherAxisFrame k f).axis.returned k = some f ∧
    (s.gatherAxisFrame k f).axis.axes = s.axis.axes ∧ ∀ r, (s.gatherAxisFrame k f).rd r = s.rd r := by
  have hnone : tabFind (tabDel s.axis.waiting k) k = none := (tabFind_tabDel _ k k).trans (if_pos rfl)
  have hsome : tabFind (tabPut s.axis.returned k f) k = some f := (tabFind_tabPut _ k k f).trans (if_pos rfl)
  dsimp only [State.gatherAxisFrame]
  rw [if_neg (by simp [hcrc]), getD_modify_same _ _ _ _ hk]
  exact ⟨rfl, rfl, hnone, hsome, rfl, fun _ => rfl⟩

/-- One with a bad CRC is counted, to 255 at most. -/
theorem State.gatherAxisFrame_bad {s : State} {k : Nat} {f : AxisFrame} (hcrc : f.crcOk = false) :
    (s.gatherAxisFrame k f).fld (Reg.AXIS_LINK_STATE k) 31 24 = min 255 (s.fld (Reg.AXIS_LINK_STATE k) 31 24 + 1) ∧
    (s.gatherAxisFrame k f).axis = { s.axis with waiting := tabDel s.axis.waiting k } := by
  dsimp only [State.gatherAxisFrame]
  rw [if_pos (by simp [hcrc]), State.fld_setFld_same _ _ _ _ _ (by decide) (by decide)]
  exact ⟨Nat.mod_eq_of_lt (by omega), rfl⟩

/-! ### Time-outs (R348, R352) -/

/-- CATCH that has lasted too long ends in SPINDOWN, whatever speed is then commanded. -/
theorem State.catchTimeout_spins {s : State} {a : Nat} (hmode : (s.sx a).mode = .catching)
    (haligned : (s.sx a).aligned = false) (hlate : (s.sx a).since + s.axCatchTmo a ≤ s.tick) :
    ∃ g, s.catchTimeout a = s.enterSpindown a g :=
  ⟨_, if_pos ⟨hmode, by simp [haligned], hlate⟩⟩

theorem State.spindownTimeout_faults {s : State} {a : Nat} (hmode : (s.sx a).mode = .spindown)
    (hlate : (s.sx a).since + s.fld (Reg.AXIS_AX_START_WAIT a) 15 0 ≤ s.tick) : s.spindownTimeout a =
      ((s.raiseBit Reg.AXIS_EVENTS 3).event 0x0A04 [a, 0x0E, 0]).axisFault a 0x0E 0 0 :=
  if_pos ⟨hmode, hlate⟩

theorem State.recoverTimeout_faults {s : State} {a : Nat} (hmode : (s.sx a).mode = .recover)
    (hlate : (s.sx a).since + s.axCatchTmo a ≤ s.tick) : s.recoverTimeout a =
      ((s.raiseBit Reg.AXIS_EVENTS 2).event 0x0A03 [a, 1, s.tick - (s.sx a).since]).axisFault a 0x15 2 0 :=
  if_pos ⟨hmode, hlate⟩

/-! ### The observer's loss (R351) -/

/-- The message, the count and the flag of an observer's loss, and its event. -/
def State.noteLoss (s : State) (a : Nat) : State :=
  (((s.fault (0x280 + a) 0x15 0).bump (Reg.AXIS_AX_COUNTS a) 15 0).raiseBit Reg.AXIS_EVENTS 0).event 0x0A01
    [a, (s.sx a).conf, codeOf 32 (s.sx a).vEst, codeOf 16 (s.sx a).iq, s.polyStations a]

/-- The same with the report to the ledger, where the axis drives a polygon. -/
def State.reportLoss (s : State) (a : Nat) : State :=
  if s.polyStations a = 0 then s.noteLoss a else (s.noteLoss a).report .observerLoss (s.polyStations a) 0 0

/-- A running axis that loses its observer goes into RECOVER. -/
theorem State.loseObserver_recovers {s : State} {a : Nat} (hobserved : (s.sx a).observed = true)
    (hstart : (s.sx a).mode ≠ .start) (hfault : (s.sx a).mode ≠ .fault) (hlow : s.axObsTicks a ≤ (s.sx a).lowRun) :
    s.loseObserver a = (s.reportLoss a).modSx a fun x => { x with
      mode := .recover, bridges := false, vcmd := 0, guard := 0, since := s.tick, crossings := 0, signs := none, lowRun := 0
      goodRun := 0 } :=
  (if_pos ⟨hobserved, hstart, hlow⟩).trans (if_neg hfault)

/-- The report is in the ledger's block alone. -/
theorem State.reportLoss_keeps (s : State) (a : Nat) : (s.reportLoss a).axis = (s.noteLoss a).axis ∧
    (s.reportLoss a).flt = (s.noteLoss a).flt ∧ ∀ r, (s.reportLoss a).rd r = (s.noteLoss a).rd r := by
  unfold State.reportLoss
  split <;> exact ⟨rfl, rfl, fun _ => rfl⟩

theorem State.reportLoss_shows (s : State) (a : Nat) : (s.reportLoss a).axis = s.axis ∧
    (s.reportLoss a).fld (Reg.AXIS_AX_COUNTS a) 15 0 = (s.fld (Reg.AXIS_AX_COUNTS a) 15 0 + 1) % 2 ^ 16 ∧
    (s.reportLoss a).flag Reg.AXIS_EVENTS 0 = true ∧ ⟨0x280 + a, 0x15, 0, s.tick⟩ ∈ (s.reportLoss a).flt.sent := by
  have hne : Reg.AXIS_AX_COUNTS a ≠ Reg.AXIS_EVENTS := by simp only [Reg.AXIS_AX_COUNTS, Reg.AXIS_EVENTS]; omega
  obtain ⟨haxis, hflt, hrd⟩ := s.reportLoss_keeps a
  rw [haxis, hflt, State.fld_congr (hrd _), State.flag_congr (hrd _), State.noteLoss, State.event_axis, State.raiseBit_axis,
    State.fld_congr (State.rd_event _ _ _ _ _), State.flag_congr (State.rd_event _ _ _ _ _), State.event_flt,
    State.raiseBit_flt]
  refine ⟨rfl, ?count, State.flag_raiseBit_same _ _ _ (by decide), ?message⟩
  case count =>
    rw [State.fld_congr (State.rd_raiseBit_other _ _ hne)]
    exact State.fld_setFld_same _ _ _ _ _ (by decide) (by decide)
  case message => exact List.mem_append_right _ (List.mem_singleton_self _)

/-! ### Facet periods (R357) -/

/-- The speed estimate moves towards a facet period's speed by POLY_GAIN. -/
def SyncAxis.refined (x : SyncAxis) (gain : Nat) (f : FacetPeriod) : SyncAxis :=
  { x with vEst := x.vEst + gain * (facetSpeed f.period - x.vEst) / 65536, polyRefine := true }

theorem State.takeFacetPeriod_refines {s : State} {a : Nat} {f : FacetPeriod} (hmode : (s.sx a).mode ≠ .recover)
    (hindex : f.index0 = false) : s.takeFacetPeriod a f =
      s.modSx a fun x => x.refined (s.fld (Reg.AXIS_AX_POLY_CFG a) 15 0) f :=
  (if_neg hmode).trans (if_neg (by simp [hindex]))

/-- A facet period that has been taken is gone. -/
def State.dropPeriod (s : State) (f : FacetPeriod) : State :=
  { s with axis := { s.axis with periods := s.axis.periods.erase f } }

/-- The oldest facet period that the polygon gives is taken once. -/
theorem execFacetPeriodGathered_takes {a : Fin 24} {f : FacetPeriod} {s : State}
    (h : s.axis.periods.find? (fun f => s.polyGives a f.station && s.gathers (f.time / 320000)) = some f) :
    execFacetPeriodGathered a s = .next ((s.dropPeriod f).takeFacetPeriod a f) := by
  rw [execFacetPeriodGathered, h]
  rfl

/-! ### The statement -/

/-- Settles O34, by the branch that each command takes, by what a coasting fault leaves through its jam, and by what the loss of
the observer reports. -/
theorem axisReturnsAndTimeouts : Obligations.AxisReturnsAndTimeouts := by
  unfold Obligations.AxisReturnsAndTimeouts
  refine ⟨?good, ?bad, ?waits, ?discarded, ?catching, ?spindown, ?loss, ?facet, ?recover⟩
  case good =>
    intro k bs f s hf hcrc hlink htick hslot hopen hlinks
    subst hf
    exact ⟨_, (exec_any (i := .axisFrameReturn k bs) rfl s).trans
      (execAxisFrameReturn_gathers hlink (.inr htick) hslot hopen),
      State.gatherAxisFrame_good hcrc (by rw [hlinks]; exact k.isLt)⟩
  case bad =>
    intro k bs s hcrc hlink hslot hopen
    obtain ⟨hcount, haxis⟩ := State.gatherAxisFrame_bad (s := s) (k := k) hcrc
    refine ⟨_, (exec_any (i := .axisFrameReturn k bs) rfl s).trans
      (execAxisFrameReturn_gathers hlink (.inl hcrc) hslot hopen), hcount, ?_⟩
    rw [haxis]
    exact ⟨rfl, rfl, rfl⟩
  case waits =>
    intro k bs f s hf hlink htick hwait
    subst hf
    exact ⟨_, (exec_any (i := .axisFrameReturn k bs) rfl s).trans (execAxisFrameReturn_waits hlink htick.symm hwait), rfl,
      fun _ => rfl⟩
  case discarded =>
    intro k bs f s hf hcrc hlink htick
    subst hf
    exact ⟨s, (exec_any (i := .axisFrameReturn k bs) rfl s).trans (execAxisFrameReturn_discards hlink hcrc htick), rfl⟩
  case catching =>
    intro a s0 s hb hmode haligned hlate haxes
    obtain ⟨g, hspins⟩ := State.catchTimeout_spins hmode haligned hlate
    refine ⟨_, (exec_decision (i := .catchTimeout a) rfl hb).trans (congrArg Host.Outcome.next hspins), ?_⟩
    rw [State.enterSpindown, State.sx_modSx_same _ (State.sync_lt haxes a)]
    exact ⟨rfl, rfl, rfl⟩
  case spindown =>
    intro a s0 s hb hmode hlate haxes
    obtain ⟨hfault, hflag⟩ := State.flaggedAxisFault_shows (a := a) (bit := 3) (kind := 0x0E) 0x0A04 [a, 0x0E, 0] 0
      (by decide) (State.sync_lt haxes a) (by decide)
    refine ⟨_, (exec_decision (i := .spindownTimeout a) rfl hb).trans
      (congrArg Host.Outcome.next (State.spindownTimeout_faults hmode hlate)), hfault.mode, ?_, hflag, hfault.message,
      hfault.bridges⟩
    rw [State.fld, hfault.record]
    decide
  case loss =>
    intro a s0 s hb hobserved hstart hfault hlow haxes
    obtain ⟨haxis, hcount, hflag, hmessage⟩ := s.reportLoss_shows a
    refine ⟨_, (exec_decision (i := .observerLoss a) rfl hb).trans
      (congrArg Host.Outcome.next (State.loseObserver_recovers hobserved hstart hfault hlow)), ?_⟩
    rw [State.sx_modSx_same _ (by rw [haxis]; exact State.sync_lt haxes a)]
    exact ⟨rfl, rfl, rfl, rfl, hcount, hflag, hmessage⟩
  case facet =>
    intro a f s hfind hmode hindex haxes
    have hlen : a < (s.dropPeriod f).axis.axes.length := State.sync_lt haxes a
    refine ⟨_, (exec_any (i := .facetPeriodGathered a) rfl s).trans ((execFacetPeriodGathered_takes hfind).trans
      (congrArg Host.Outcome.next (State.takeFacetPeriod_refines (s := s.dropPeriod f) hmode hindex))), rfl, ?_⟩
    rw [State.sx_modSx_same _ hlen]
    exact ⟨rfl, rfl, fun _ => rfl⟩
  case recover =>
    intro a s0 s hb hmode hlate haxes
    obtain ⟨hfault, hflag⟩ := State.flaggedAxisFault_shows (a := a) (bit := 2) (kind := 0x15) 0x0A03
      [a, 1, s.tick - (s.sx a).since] 2 (by decide) (State.sync_lt haxes a) (by decide)
    exact ⟨_, (exec_decision (i := .recoverTimeout a) rfl hb).trans
      (congrArg Host.Outcome.next (State.recoverTimeout_faults hmode hlate)), hfault.mode, hflag, hfault.record,
      hfault.message, hfault.bridges⟩

end Sys2Proof.Machine
end
